-- ==== Sys2Proof/Word.lean ====
section
/-! DEFINITION. Words, bytes, addresses, and the initiators that may access the device (R60, R120). -/

namespace Sys2Proof

/-- A register word (R15): register pages hold aligned 32-bit registers. -/
abbrev Word := BitVec 32

/-- A byte of memory, the smallest addressable unit of the address map (R60). -/
abbrev Byte := BitVec 8

/-- Who makes an access: the initiators of the BUF initiator table (R120), and the boot ROM (R27). -/
inductive Init where
  | apu | safe | beam (b : Fin 8) | nete (e : Fin 2) | dmv (c : Fin 4) | vin (i : Fin 2) | scl (s : Fin 4)
  | wb | look | crc | host | boot
  deriving DecidableEq, Repr

/-- The initiator codes of R120. The boot ROM runs on SAFE, and its accesses carry SAFE's code (DEDUCED, log entry 3). -/
def Init.code : Init → Nat
  | .apu => 0x00 | .safe => 0x01 | .beam b => 0x02 + b.val | .nete e => 0x0A + e.val | .dmv c => 0x0C + c.val
  | .vin i => 0x10 + i.val | .scl s => 0x12 + s.val | .wb => 0x16 | .look => 0x17 | .crc => 0x18 | .host => 0x19 | .boot => 0x01

/-- SAFE and the boot ROM, whose code runs on SAFE. -/
def Init.isSafe : Init → Bool
  | .safe => true | .boot => true | _ => false

end Sys2Proof
end

