-- ==== Sys2Proof/Packet.lean ====
section
/-! DEFINITION. What commands carry from outside: short headers, training sets, frames of the network ports, Waord messages and their commands. -/

namespace Sys2Proof

/-- What a network frame carries, as its EtherType and first fields tell the port (R401, R404, R411 to R417): a Sync, a Pdelay_Req, a Pdelay_Resp, an
Announce with the grandmaster's dataset in the order in which the best master clock algorithm compares it, stepsRemoved and the sender's identity, any
other PTP message, or an MRP frame with its domain identifier of 128 bits, the link state of a link change, and the interval in ms of a topology change. -/
inductive FrameKind where
  | other
  | ptpSync
  | ptpPdelay
  | ptpResp
  | ptpAnnounce (rank steps sender : Nat)
  | ptpOther
  | mrpTest (dom : Nat)
  | mrpLink (dom : Nat) (up : Bool)
  | mrpTopology (dom : Nat) (ms : Nat)
  deriving DecidableEq, Repr

/-- The header of a CSI-2 short packet as the receiver takes it (R276): its VCX field is not zero, and a bit of it was corrected; and whether the clock
lane returns to the stop state after the packet. -/
structure ShortHead where
  vcx : Bool
  fixed : Bool
  stop : Bool
  deriving DecidableEq, Repr

/-- The scale factor bytes of the active-energy and active-power fields of a poll's memory bank (R360). -/
structure D4iScale where
  energy : Byte
  power : Byte
  deriving DecidableEq, Repr

/-- A training set of a tile's return lane (R235): the tile, and the characters of the set. -/
structure TileSet where
  tile : Fin 4
  chars : List Byte
  deriving DecidableEq, Repr

/-- A network frame: addresses, length in bytes with its VLAN tag, whether its FCS holds, PCP of its tag, what it carries, the domainNumber and
correctionField of a PTP message, in 2^-16 ns, and its originTimestamp in ns, and the UDP checksum where it goes over UDP/IPv4. -/
structure NetFrame where
  dst : Nat
  src : Nat
  len : Nat
  good : Bool
  pcp : Option (Fin 8)
  kind : FrameKind
  domain : Nat
  corr : Int
  origin : Nat
  udp : Option Nat
  deriving DecidableEq, Repr

/-- The head of a wake beacon (R435): destination address, EtherType, MAGIC and GROUP. -/
structure BeaconHead where
  dst : Nat
  ether : Nat
  magic : Nat
  group : Nat
  deriving DecidableEq, Repr

/-- What a ClientHello offers (R426, R480): the UDP port it was sent to, DTLS 1.3 among its versions, TLS_AES_256_GCM_SHA384 among its cipher suites, and a
group that the device accepts. -/
structure HelloOffer where
  dport : Nat
  dtls13 : Bool
  suite : Bool
  group : Bool
  deriving DecidableEq, Repr

/-- An ECC error in a processor's own memory (R525): APU L2 corrected or uncorrectable, SAFE TCM, a BEAM or NETE local memory. -/
inductive LocalEcc where
  | apuL2Ce | apuL2Ue | safeTcm | beam (b : Fin 8) | nete (e : Fin 2)
  deriving DecidableEq, Repr

/-- Sections of a Byster bundle (R474). -/
inductive Section where
  | geometry | masks | landmarks | mesh | photometry | aging | repairSeed | loop | camera | fallback
  deriving DecidableEq, Repr

/-- The command of a Waord request, where the spec gives its effect on the device (R463 to R465, R473, R480, R488, R491, R571, R579); `other` is carried out
by the luminaire service; `timeApply` is TIME_STEP_CMD.APPLY under 0x0600 (R431). `sectionInstall` carries a section's COSE_Sign object (R462), `bind` the
number of segment heads and the operator's trust anchor (R578, R579). `payloadPut` and `payloadGet` store a schedule entry's or programme's CBOR payload
under a key and return it (R431, R475), `certInstall` installs device certificate `k` (R452: 0 over the ES384 key, 1 over the ML-DSA-65 key),
`rootInstall` a role root's key-block hash (R473, R474), `dirInstall` the eMRAM region directory (R544), and `archiveActivate` makes the staged Byster
archive the active one (R559). The codes that the spec does not give are operands, kept within their groups (log entry 158). -/
inductive WaordOp where
  | other (code : Nat)
  | presentToken (token : List Nat) (raise : Option (Fin 3))
  | dropToken
  | attest
  | modeRequest (mode : Nat) (lamp : Nat)
  | commissionDone
  | commissionReset
  | timeApply (code : Nat)
  | updBegin (type len : Nat)
  | updData (ofs : Nat) (bytes : List Nat)
  | updVerify
  | updActivate (tick : Option Nat) (force : Bool)
  | updConfirm
  | updAbort
  | auditRead (from_ to_ : Nat)
  | auditAck (seq : Nat)
  | rcvChallenge
  | rcvExit (token : List Nat)
  | sectionInstall (code : Nat) (sec : Section) (object : List Nat)
  | bind (code : Nat) (heads : Nat) (anchor : List Nat)
  | payloadPut (code key : Nat) (payload : List Nat)
  | payloadGet (code key : Nat)
  | certInstall (code : Nat) (k : Fin 2) (der : List Nat)
  | rootInstall (code : Nat) (role : Fin 3) (hash : List Nat)
  | dirInstall (code : Nat) (entries : List Nat)
  | archiveActivate (code : Nat)
  deriving DecidableEq, Repr

/-- The command code of R431. -/
def WaordOp.code : WaordOp → Nat
  | .other c => c
  | .sectionInstall c _ _ => 0x0700 + c % 256
  | .bind c _ _ => 0x0680 + c % 128
  | .payloadPut c _ _ => if c / 256 = 3 then c else 0x0240 + c % 0xC0
  | .payloadGet c _ => if c / 256 = 3 then c else 0x0200 + c % 64
  | .certInstall c _ _ => 0x0640 + c % 32
  | .rootInstall c _ _ => 0x0660 + c % 32
  | .dirInstall c _ => 0x0620 + c % 32
  | .timeApply c => 0x0610 + c % 16
  | .archiveActivate c => 0x0700 + c % 256
  | .presentToken _ _ => 0x0002 | .dropToken => 0x0003 | .attest => 0x0004 | .rcvChallenge => 0x00F0 | .rcvExit _ => 0x00F1
  | .modeRequest _ _ => 0x0601 | .commissionDone => 0x0602 | .commissionReset => 0x0604
  | .updBegin _ _ => 0x0801 | .updData _ _ => 0x0802 | .updVerify => 0x0803 | .updActivate _ _ => 0x0804 | .updConfirm => 0x0805 | .updAbort => 0x0806
  | .auditRead _ _ => 0x0901 | .auditAck _ => 0x0902

end Sys2Proof
end

