-- ==== Sys2Proof/Syntax.lean ====
section
/-! DEFINITION. The commands of the block: one constructor for each row of spec/opcode_table.json, in the table's order. Every command but the tick and
the commit deadline, whose instants the device itself fixes, names the instant `t` at which it arrives, in ns of the device's clock; a register command
names its initiator `i` and the value `w` written. -/

namespace Sys2Proof

/-- The commands and events of the device. -/
inductive Instr where
  /-- FRAME_TICK (R34). -/
  | frameTick
  /-- COMMIT_DEADLINE (R36). -/
  | commitDeadline
  /-- ARM (R39). -/
  | arm (t : Nat) (i : Init) (g : Fin 16) (w : Word)
  /-- CANCEL (R44). -/
  | cancel (t : Nat) (i : Init) (g : Fin 16) (w : Word)
  /-- COMMIT_VALIDATE (R40). -/
  | commitValidate (t : Nat) (g : Fin 16) (rejects : List (Fin 256))
  /-- BLOCK_RESET (R19). -/
  | blockReset (t : Nat) (page : Fin 256)
  /-- CHIP_RESET (R562). -/
  | chipReset (t : Nat) (cause : Fin 16) (src : Fin 512)
  /-- REGISTER_WRITE (R14). -/
  | registerWrite (t : Nat) (i : Init) (a : Nat) (size : Nat) (v : Word)
  /-- BUS_WRITE (R60). -/
  | busWrite (t : Nat) (i : Init) (a : Nat) (l : List Byte)
  /-- LOCK_SET (R14). -/
  | lockSet (t : Nat) (i : Init) (page : Fin 256)
  /-- SRAM_READ (R535). -/
  | sramRead (t : Nat) (i : Init) (a : Nat) (n : Nat)
  /-- SCRUB_PASS (R539). -/
  | scrubPass (t : Nat)
  /-- DMV_POST (R59). -/
  | dmvPost (t : Nat) (i : Init) (c : Fin 4) (w : Word)
  /-- DMV_DESCRIPTOR_COMPLETE (R54). -/
  | dmvDescriptorComplete (t : Nat) (c : Fin 4)
  /-- DMV_ABORT (R57). -/
  | dmvAbort (t : Nat) (i : Init) (c : Fin 4) (moved : Nat) (verified : Nat)
  /-- DMV_RESUME (R59). -/
  | dmvResume (t : Nat) (i : Init) (c : Fin 4) (w : Word)
  /-- COMPOSITION_DONE (R116). -/
  | compositionDone (t : Nat)
  /-- WB_FRAME_DONE (R113). -/
  | wbFrameDone (t : Nat) (k : Fin 4)
  /-- LYR_FLIP_REQUEST (R105). -/
  | lyrFlipRequest (t : Nat) (i : Init) (n : Fin 8) (w : Word)
  /-- LYR_FLIP_CANCEL (R110). -/
  | lyrFlipCancel (t : Nat) (i : Init) (n : Fin 8) (w : Word)
  /-- CMP_FLIP_ARM (R107). -/
  | cmpFlipArm (t : Nat) (i : Init) (w : Word)
  /-- BUF_REGISTER (R99). -/
  | bufRegister (t : Nat) (i : Init) (idx : Fin 256)
  /-- BUF_UNREGISTER (R100). -/
  | bufUnregister (t : Nat) (i : Init) (idx : Fin 256)
  /-- BUF_READ (R120). -/
  | bufRead (t : Nat) (i : Init) (idx : Fin 256)
  /-- FENCE_SET (R104). -/
  | fenceSet (t : Nat) (i : Init) (high : Bool) (w : Word)
  /-- FENCE_CLEAR (R119). -/
  | fenceClear (t : Nat) (i : Init) (high : Bool) (w : Word)
  /-- SCL_KICK (R92). -/
  | sclKick (t : Nat) (i : Init) (k : Fin 4)
  /-- SCL_PASS_END (R97). -/
  | sclPassEnd (t : Nat) (k : Fin 4)
  /-- DOSE_SNAP_HOURLY (R144). -/
  | doseSnapHourly (t : Nat)
  /-- SNAP (R144). -/
  | snap (t : Nat) (i : Init)
  /-- SNAP_SLICE_DONE (R144). -/
  | snapSliceDone (t : Nat)
  /-- SNAP_RETRY (R145). -/
  | snapRetry (t : Nat)
  /-- RESTORE (R146). -/
  | restore (t : Nat) (i : Init)
  /-- RESTORE_DONE (R146). -/
  | restoreDone (t : Nat)
  /-- INSERT (R150). -/
  | rmapInsert (t : Nat) (i : Init) (w : Word)
  /-- DELETE (R150). -/
  | rmapDelete (t : Nat) (i : Init) (w : Word)
  /-- READ (R150). -/
  | rmapRead (t : Nat) (i : Init) (w : Word)
  /-- LOOKUP (R150). -/
  | rmapLookup (t : Nat) (i : Init) (w : Word)
  /-- RMAP_EDIT_APPLY (R151). -/
  | rmapEditApply (t : Nat)
  /-- DTH_DATA_ACCESS (R159). -/
  | dthDataAccess (t : Nat) (i : Init) (v : Option Word)
  /-- GLM_POST (R164). -/
  | glmPost (t : Nat) (i : Init) (w : Word)
  /-- BAND_DONE (R181). -/
  | bandDone (t : Nat) (b : Fin 16)
  /-- BAND_DEADLINE (R182). -/
  | bandDeadline (t : Nat) (k : Fin 4) (b : Fin 16)
  /-- POOL_RENDER_DONE (R188). -/
  | poolRenderDone (t : Nat)
  /-- GLM_ENABLE (R189). -/
  | glmEnable (t : Nat) (i : Init) (w : Word)
  /-- LINE_SEND (R193). -/
  | lineSend (t : Nat) (k : Fin 4)
  /-- LINE_UNDERRUN (R194). -/
  | lineUnderrun (t : Nat) (k : Fin 4) (mask : Nat)
  /-- SCN_RECT_DIV_TAG (R207). -/
  | scnRectDivTag (t : Nat) (i : Init) (k : Fin 4) (r : Fin 16) (w : Word)
  /-- MARK_SEND (R228). -/
  | markSend (t : Nat)
  /-- CTRL_SEND (R226). -/
  | ctrlSend (t : Nat) (k : Fin 4)
  /-- SPL_CTRL_CMD (R226). -/
  | splCtrlCmd (t : Nat) (i : Init) (k : Fin 4) (w : Word)
  /-- ACK_TIMEOUT (R226). -/
  | ackTimeout (t : Nat) (k : Fin 4)
  /-- ACK (R225): whether a character error lies between SOP and EOP, and the bytes there in the parts of R218 and R220: bytes 0 to 3, bytes 4 to 7, what
  stands for a payload, and the CRC. -/
  | ack (t : Nat) (k : Fin 4) (err : Bool) (head arg pay crc : List Byte)
  /-- DIAG (R232): the character error and the bytes as for ACK. -/
  | diag (t : Nat) (k : Fin 4) (err : Bool) (head arg pay crc : List Byte)
  /-- ENUM (R234): the character error, header with record, and CRC. -/
  | enum (t : Nat) (k : Fin 4) (err : Bool) (body crc : List Byte)
  /-- FSTAT (R229): the character error and the bytes as for ACK, its payload in parts (R221): DISP_CRC, the three counts of codes, and CV. -/
  | fstat (t : Nat) (k : Fin 4) (err : Bool) (head arg disp codes cv crc : List Byte)
  /-- LINK_ENABLE (R236). -/
  | linkEnable (t : Nat) (i : Init) (k : Fin 4) (w : Word)
  /-- TS1_LOCK (R236): the set that came 8 times. -/
  | ts1Lock (t : Nat) (x : TileSet)
  /-- TRAIN_STEP_DONE (R236): the set the tile answers, its characters 0 to 4 and its characters 5 to 15 (R235), and the tile's LANES mask. -/
  | trainStepDone (t : Nat) (k : Fin 4) (head fill : List Byte) (lanes : Nat)
  /-- TRAIN_TIMEOUT (R236). -/
  | trainTimeout (t : Nat) (k : Fin 4)
  /-- LINK_RESTART (R236). -/
  | linkRestart (t : Nat) (k : Fin 4)
  /-- RETRAIN (R237). -/
  | retrain (t : Nat) (i : Init) (k : Fin 4) (w : Word)
  /-- RETRAIN_TIMEOUT (R237). -/
  | retrainTimeout (t : Nat) (k : Fin 4)
  /-- SYMBOL_LOCK_LOSS (R237). -/
  | symbolLockLoss (t : Nat) (k : Fin 4)
  /-- RETURN_CHAR_ERRORS (R237). -/
  | returnCharErrors (t : Nat) (k : Fin 4) (n : Nat)
  /-- FSTAT_MISSING (R237). -/
  | fstatMissing (t : Nat) (k : Fin 4)
  /-- SYNC_IN_EDGE (R200). -/
  | syncInEdge (t : Nat)
  /-- SYNC_LOST (R200). -/
  | syncLost (t : Nat)
  /-- SYNC_OUT_PULSE (R201). -/
  | syncOutPulse (t : Nat) (rise : Bool)
  /-- FALLBACK_LOAD_DONE (R213). -/
  | fallbackLoadDone (t : Nat) (k : Fin 4)
  /-- FALLBACK_REFRESH (R213). -/
  | fallbackRefresh (t : Nat) (k : Fin 4)
  /-- DRV_COVERAGE (R254). -/
  | drvCoverage (t : Nat) (k : Fin 4)
  /-- DRV_FN_KILL (R263). -/
  | drvFnKill (t : Nat) (i : Init) (w : Word)
  /-- DRV_FN_CLEAR (R266). -/
  | drvFnClear (t : Nat) (i : Init) (w : Word)
  /-- DRV_DEF_DELETE (R274). -/
  | drvDefDelete (t : Nat) (i : Init) (w : Word)
  /-- END (R268). -/
  | patEnd (t : Nat) (q : Fin 16)
  /-- SET (R268). -/
  | patSet (t : Nat) (q : Fin 16) (r : Fin 4) (k : Fin 32)
  /-- ADD (R268). -/
  | patAdd (t : Nat) (q : Fin 16) (r : Fin 4) (k : Fin 32)
  /-- RAMP (R270). -/
  | patRamp (t : Nat) (q : Fin 16) (r : Fin 4) (k : Fin 32) (n : Fin 4096)
  /-- HOLD (R268). -/
  | patHold (t : Nat) (q : Fin 16) (n : Fin 65536)
  /-- LOOP (R268). -/
  | patLoop (t : Nat) (q : Fin 16) (ci : Bool) (addr : Fin 256) (count : Fin 65536)
  /-- WAIT_TICK (R268). -/
  | patWaitTick (t : Nat) (q : Fin 16) (k : Fin 32)
  /-- SYNC (R271). -/
  | patSync (t : Nat) (q : Fin 16) (k : Fin 32)
  /-- BRANCH_FLAG (R268). -/
  | patBranchFlag (t : Nat) (q : Fin 16) (pol : Bool) (addr : Fin 256) (flag : Fin 16)
  /-- PAT_PROG_DATA (R273). -/
  | patProgData (t : Nat) (i : Init) (v : Option Word)
  /-- PAT_K_DATA (R275). -/
  | patKData (t : Nat) (i : Init) (v : Option Word)
  /-- FRAME_START (R280). -/
  | vinFrameStart (t : Nat) (i : Fin 2) (vc : Fin 4) (num : Fin 65536) (h : ShortHead)
  /-- LONG_PACKET (R279). -/
  | vinLongPacket (t : Nat) (i : Fin 2) (vc : Fin 4) (dt : Fin 64) (vcx : Bool) (fixed : Bool) (crcOk : Bool) (overflow : Bool) (l : List Byte)
  /-- FRAME_END (R282). -/
  | vinFrameEnd (t : Nat) (i : Fin 2) (vc : Fin 4) (h : ShortHead)
  /-- SHORT_PACKET_IGNORED (R276). -/
  | shortPacketIgnored (t : Nat) (i : Fin 2) (h : ShortHead)
  /-- HEADER_ECC_ERROR (R281). -/
  | headerEccError (t : Nat) (i : Fin 2)
  /-- DESKEW (R276). -/
  | deskew (t : Nat) (i : Fin 2)
  /-- ULPS (R276). -/
  | ulps (t : Nat) (i : Fin 2) (enter : Bool)
  /-- LOOK_CAPTURE_TIME (R287). -/
  | lookCaptureTime (t : Nat)
  /-- CAPTURE (R287). -/
  | capture (t : Nat) (i : Init) (w : Word)
  /-- LOOK_EVAL_DONE (R295). -/
  | lookEvalDone (t : Nat)
  /-- LOOK_ENABLE (R296). -/
  | lookEnable (t : Nat) (i : Init) (w : Word)
  /-- LOOP_SAMPLE (R310). -/
  | loopSample (t : Nat) (k : Fin 16) (late : Bool)
  /-- LOOP_HOLD (R325). -/
  | loopHold (t : Nat) (i : Init) (k : Fin 16) (w : Word)
  /-- RESUME (R325). -/
  | loopResume (t : Nat) (i : Init) (k : Fin 16) (w : Word)
  /-- INJ_START (R326). -/
  | injStart (t : Nat) (i : Init) (k : Fin 16) (w : Word)
  /-- INJ_STOP (R327). -/
  | injStop (t : Nat) (i : Init) (k : Fin 16) (w : Word)
  /-- CAP_ARM (R329). -/
  | capArm (t : Nat) (i : Init) (k : Fin 16) (w : Word)
  /-- CAP_TRIG (R329). -/
  | capTrig (t : Nat) (i : Init) (k : Fin 16) (w : Word)
  /-- CARRIER_START (R331). -/
  | carrierStart (t : Nat) (o : Fin 16)
  /-- ADC_CONVERSION (R334). -/
  | adcConversion (t : Nat) (c : Fin 16) (code : Fin 4096)
  /-- NRG_ALLOW_WRITE (R356). -/
  | nrgAllowWrite (t : Nat) (i : Init) (w : Word)
  /-- ENERGY_PLAN_STALE (R356). -/
  | energyPlanStale (t : Nat)
  /-- HOUR_ROLLOVER (R358). -/
  | hourRollover (t : Nat)
  /-- NIGHT_ROLLOVER (R358). -/
  | nightRollover (t : Nat)
  /-- NIGHT_RESTART (R358). -/
  | nightRestart (t : Nat) (i : Init)
  /-- DALI_TX (R359). -/
  | daliTx (t : Nat) (i : Init) (w : Word)
  /-- DALI_POLL (R360). -/
  | daliPoll (t : Nat)
  /-- DALI_TRANSACTION_DONE (R359). -/
  | daliTransactionDone (t : Nat) (result : Fin 4) (data : Fin 256) (energy : Nat) (power : Nat) (res : D4iScale)
  /-- DALI_BUS_FAIL (R359). -/
  | daliBusFail (t : Nat)
  /-- XCHECK_WINDOW (R361). -/
  | xcheckWindow (t : Nat)
  /-- PWR_CMD (R371). -/
  | pwrCmd (t : Nat) (i : Init) (w : Word)
  /-- LOWPOWER_ENTRY (R373). -/
  | lowpowerEntry (t : Nat) (wfi : Fin 16)
  /-- LOWPOWER_COMMIT (R374). -/
  | lowpowerCommit (t : Nat)
  /-- IDLE_ENTRY (R372). -/
  | idleEntry (t : Nat) (wfi : Fin 16)
  /-- WAKE (R376). -/
  | wake (t : Nat) (src : Fin 9)
  /-- PWR_LEVEL_REQ (R368). -/
  | pwrLevelReq (t : Nat) (i : Init) (w : Word)
  /-- PMIC_PG_RISE (R368). -/
  | pmicPgRise (t : Nat)
  /-- PMIC_TIMEOUT (R370). -/
  | pmicTimeout (t : Nat)
  /-- SENSOR_CONVERSION (R380); `v` in units of 1/256 °C. -/
  | sensorConversion (t : Nat) (i : Fin 12) (v : Int)
  /-- THROTTLE_STEP (R386). -/
  | throttleStep (t : Nat)
  /-- CRITICAL_CLEAR (R388). -/
  | criticalClear (t : Nat)
  /-- SHUTDOWN_RESTART (R389). -/
  | shutdownRestart (t : Nat)
  /-- TILE_SENSOR_TIMEOUT (R382). -/
  | tileSensorTimeout (t : Nat) (k : Fin 4) (n : Fin 8)
  /-- SENSOR_FAIL_CLEAR (R383). -/
  | sensorFailClear (t : Nat) (i : Init) (tiles : Bool) (w : Word)
  /-- THM_TILE_OVER (R390). -/
  | thmTileOver (t : Nat) (k : Fin 4)
  /-- CLK_REF_LOSS (R393). -/
  | clkRefLoss (t : Nat)
  /-- PORT_LINK_CHANGE (R397). -/
  | portLinkChange (t : Nat) (p : Fin 3) (up : Bool) (speed : Fin 4) (amp : Bool) (master : Bool) (sqi : Fin 8)
  /-- PORT_FRAME_RX (R400). -/
  | portFrameRx (t : Nat) (p : Fin 3) (f : NetFrame)
  /-- PORT_FRAME_TX (R412). -/
  | portFrameTx (t : Nat) (p : Fin 3) (post : Option (NetFrame × Option Nat))
  /-- MRP_FLUSH (R404). -/
  | mrpFlush (t : Nat)
  /-- MRP_BLOCK_TIMEOUT (R404). -/
  | mrpBlockTimeout (t : Nat) (p : Fin 3)
  /-- FDB_AGE (R400). -/
  | fdbAge (t : Nat) (mac : Nat)
  /-- SW_FLUSH (R447). -/
  | swFlush (t : Nat) (i : Init) (w : Word)
  /-- PDELAY_REQ (R414). -/
  | pdelayReq (t : Nat) (p : Fin 3) (delta : Option Nat)
  /-- SUBMIT (R409). -/
  | submit (t : Nat) (i : Init) (w : Word)
  /-- REACQ (R410). -/
  | reacq (t : Nat) (i : Init) (w : Word)
  /-- SERVO_HOLDOVER (R410). -/
  | servoHoldover (t : Nat)
  /-- APPLY (R421). -/
  | apply (t : Nat) (i : Init) (w : Word)
  /-- TIME_EPOCH_WRITE (R422). -/
  | timeEpochWrite (t : Nat) (i : Init) (high : Bool) (w : Word)
  /-- TIME_TSQ_HDR (R413). -/
  | timeTsqHdr (t : Nat) (i : Init)
  /-- DTLS_RECORD_RX (R427). -/
  | dtlsRecordRx (t : Nat) (cid : Nat) (body : List Byte)
  /-- CLIENT_HELLO (R428). -/
  | clientHello (t : Nat) (port : Fin 65536) (addr : Nat) (v6 : Bool) (groups : HelloOffer)
  /-- HANDSHAKE_DONE (R480). -/
  | handshakeDone (t : Nat) (e : Fin 1024) (ok : Bool) (client : List Byte)
  /-- HANDSHAKE_START (R429). -/
  | handshakeStart (t : Nat) (h : Fin 8) (port : Fin 65536) (addr : Nat) (v6 : Bool)
  /-- SESSION_IDLE (R428). -/
  | sessionIdle (t : Nat) (e : Fin 1024)
  /-- WAORD_REQUEST (R432). -/
  | waordRequest (t : Nat) (e : Fin 1024) (txn : Word) (op : WaordOp)
  /-- WAORD_SAFETY (R433). -/
  | waordSafety (t : Nat) (e : Fin 1024) (alive : Fin 256) (txn : Word) (op : WaordOp)
  /-- WAORD_OBJECTS (R434). -/
  | waordObjects (t : Nat) (e : Fin 1024) (part : Fin 256) (parts : Fin 256) (id : Word) (l : List Byte)
  /-- PRESENT_TOKEN (R473). -/
  | presentToken (t : Nat) (e : Fin 1024) (txn : Word) (tok : List Byte) (raise : Option (Fin 3))
  /-- DROP_TOKEN (R473). -/
  | dropToken (t : Nat) (e : Fin 1024) (txn : Word)
  /-- ATTEST (R480). -/
  | attest (t : Nat) (e : Fin 1024) (txn : Word)
  /-- MODE_REQUEST (R571). -/
  | modeRequest (t : Nat) (e : Fin 1024) (txn : Word) (mode : Fin 16) (lamp : Fin 4)
  /-- COMMISSION_DONE (R579). -/
  | commissionDone (t : Nat) (e : Fin 1024) (txn : Word)
  /-- COMMISSION_RESET (R579). -/
  | commissionReset (t : Nat) (e : Fin 1024) (txn : Word)
  /-- UPD_BEGIN (R463). -/
  | updBegin (t : Nat) (e : Fin 1024) (txn : Word) (type : Fin 256) (len : Word)
  /-- UPD_DATA (R463). -/
  | updData (t : Nat) (e : Fin 1024) (txn : Word) (ofs : Word) (l : List Byte)
  /-- UPD_VERIFY (R463). -/
  | updVerify (t : Nat) (e : Fin 1024) (txn : Word)
  /-- UPD_ACTIVATE (R464). -/
  | updActivate (t : Nat) (e : Fin 1024) (txn : Word) (tick : Option Nat) (force : Bool)
  /-- UPDATE_ACTIVATION_RESET (R464). -/
  | updateActivationReset (t : Nat)
  /-- UPD_CONFIRM (R465). -/
  | updConfirm (t : Nat) (e : Fin 1024) (txn : Word)
  /-- UPD_ABORT (R463). -/
  | updAbort (t : Nat) (e : Fin 1024) (txn : Word)
  /-- CONFIRM_EXPIRY (R465). -/
  | confirmExpiry (t : Nat)
  /-- AUDIT_READ (R488). -/
  | auditRead (t : Nat) (e : Fin 1024) (txn : Word) (first : Word) (last : Word)
  /-- AUDIT_ACK (R488). -/
  | auditAck (t : Nat) (e : Fin 1024) (txn : Word) (seq : Word)
  /-- RCV_CHALLENGE (R491). -/
  | rcvChallenge (t : Nat) (e : Fin 1024) (txn : Word)
  /-- RCV_EXIT (R491). -/
  | rcvExit (t : Nat) (e : Fin 1024) (txn : Word) (tok : List Byte)
  /-- WAKE_BEACON (R435). -/
  | wakeBeacon (t : Nat) (group : BeaconHead) (time : Nat) (auth : List Byte)
  /-- SCHED_WRITE (R438). -/
  | schedWrite (t : Nat) (i : Init) (idx : Fin 512)
  /-- SCHED_DELETE (R438). -/
  | schedDelete (t : Nat) (i : Init) (idx : Fin 512)
  /-- SCHED_READ (R438). -/
  | schedRead (t : Nat) (i : Init) (idx : Fin 512)
  /-- SCHED_DUE (R441). -/
  | schedDue (t : Nat) (i : Init)
  /-- VERIFY (R477). -/
  | hostVerify (t : Nat)
  /-- DROP (R477). -/
  | hostDrop (t : Nat)
  /-- UNLOCK (R493). -/
  | unlock (t : Nat)
  /-- TAP_UNLOCK_WRITE (R494). -/
  | tapUnlockWrite (t : Nat) (index : Fin 65536) (v : Word)
  /-- TAP_UNLOCK_READ (R494). -/
  | tapUnlockRead (t : Nat) (index : Fin 65536)
  /-- VERIFY_TOKEN (R481). -/
  | verifyToken (t : Nat) (e : Fin 64)
  /-- HS_KEYSHARE (R481). -/
  | hsKeyshare (t : Nat) (e : Fin 64) (n : Nat)
  /-- HS_SIGN (R481). -/
  | hsSign (t : Nat) (e : Fin 64)
  /-- HS_INSTALL (R481). -/
  | hsInstall (t : Nat) (e : Fin 64)
  /-- VERDICT (R476). -/
  | verdict (t : Nat) (e : Fin 64)
  /-- UPDATE (R481). -/
  | update (t : Nat) (e : Fin 64) (op : WaordOp)
  /-- GENERATE (R496). -/
  | keyGenerate (t : Nat) (i : Init) (slot : Fin 64)
  /-- INSTALL (R496). -/
  | keyInstall (t : Nat) (i : Init) (slot : Fin 64) (good : Bool) (mac : Bool)
  /-- ERASE (R496). -/
  | keyErase (t : Nat) (i : Init) (slot : Fin 64)
  /-- KEY_LOCK (R496). -/
  | keyLock (t : Nat) (i : Init) (slot : Fin 64)
  /-- REC_INSTALL (R500). -/
  | recInstall (t : Nat) (i : Init) (e : Fin 1024)
  /-- KEY_UPDATE (R500). -/
  | keyUpdate (t : Nat) (i : Init) (e : Fin 1024)
  /-- REC_ERASE (R500). -/
  | recErase (t : Nat) (i : Init) (e : Fin 1024)
  /-- OTP_PROGRAM (R502). -/
  | otpProgram (t : Nat) (i : Init) (w : Word) (good : Bool)
  /-- OTP_RETRY (R466). -/
  | otpRetry (t : Nat)
  /-- DRBG_RESEED (R458). -/
  | drbgReseed (t : Nat) (good : Bool)
  /-- TAMPER_SAMPLE (R492). -/
  | tamperSample (t : Nat) (level : Bool)
  /-- TIME_FLOOR_SAVE (R471). -/
  | timeFloorSave (t : Nat)
  /-- QUARANTINE_ENTRY (R489). -/
  | quarantineEntry (t : Nat) (cause : Fin 16)
  /-- FAULT_EVENT (R508). -/
  | faultEvent (t : Nat) (n : Fin 352)
  /-- FORCE (R507). -/
  | force (t : Nat) (i : Init) (page : Fin 256) (w : Word)
  /-- FLT_FORCE_SRC (R507). -/
  | fltForceSrc (t : Nat) (i : Init) (w : Word)
  /-- RELEASE (R517). -/
  | errRelease (t : Nat) (i : Init) (w : Word)
  /-- CONSQ_TMO (R519). -/
  | consqTmo (t : Nat)
  /-- FLT_CFG_CRC (R532). -/
  | fltCfgCrc (t : Nat)
  /-- FLT_LOG_RD_WRITE (R620). -/
  | fltLogRdWrite (t : Nat) (i : Init) (w : Word)
  /-- FLT_STAT_CLEAR (R515). -/
  | fltStatClear (t : Nat) (i : Init) (n : Fin 352) (w : Word)
  /-- CRC_SNOOP_PACKET (R528). -/
  | crcSnoopPacket (t : Nat) (src : Fin 8) (inst : Fin 4) (l : List Byte)
  /-- CRC_CTX_RUN_WRITE (R527). -/
  | crcCtxRunWrite (t : Nat) (i : Init) (u : Fin 8) (c : Fin 32) (w : Word)
  /-- NVM_TX_SUBMIT (R546). -/
  | nvmTxSubmit (t : Nat) (i : Init) (w : Word)
  /-- JOURNAL_TX_OPEN (R549). -/
  | journalTxOpen (t : Nat) (direct : Bool)
  /-- JOURNAL_TX_COMMIT (R549). -/
  | journalTxCommit (t : Nat) (direct : Bool) (good : Bool)
  /-- JOURNAL_TX_SEAL (R549). -/
  | journalTxSeal (t : Nat) (direct : Bool)
  /-- WINDOW_CLOSE (R552). -/
  | windowClose (t : Nat)
  /-- WINDOW_OPEN (R551). -/
  | windowOpen (t : Nat)
  /-- ERASE_4K (R558). -/
  | erase4k (t : Nat) (i : Init)
  /-- ERASE_64K (R558). -/
  | erase64k (t : Nat) (i : Init)
  /-- PROGRAM (R558). -/
  | program (t : Nat) (i : Init)
  /-- XSPI_OP_DONE (R561). -/
  | xspiOpDone (t : Nat) (outcome : Fin 5)
  /-- XSPI_WAIT_TIMEOUT (R557). -/
  | xspiWaitTimeout (t : Nat)
  /-- POWER_GOOD (R594). -/
  | powerGood (t : Nat)
  /-- RESET_N (R562). -/
  | resetN (t : Nat)
  /-- SYS_RST_CMD (R562). -/
  | sysRstCmd (t : Nat) (i : Init) (w : Word)
  /-- SAFE_RUNNING (R567). -/
  | safeRunning (t : Nat) (puf : Bool) (keys : Bool) (rng : Bool) (flash : Fin 64)
  /-- START_RECORD_APPLY (R565). -/
  | startRecordApply (t : Nat) (phase : Fin 2) (selfTest : Bool)
  /-- STAGGER_END (R566). -/
  | staggerEnd (t : Nat)
  /-- MAIN_IMAGE_VERIFIED (R461). -/
  | mainImageVerified (t : Nat)
  /-- START_STEP_TIMEOUT (R568). -/
  | startStepTimeout (t : Nat)
  /-- SYS_MODE_REQ (R571). -/
  | sysModeReq (t : Nat) (i : Init) (w : Word) (role : Fin 4) (rights : Word)
  /-- NET_LOSS (R573). -/
  | netLoss (t : Nat)
  /-- AUTO_MODE_REQUEST (R573). -/
  | autoModeRequest (t : Nat)
  /-- CPU_HART_RST (R581). -/
  | cpuHartRst (t : Nat) (i : Init) (c : Fin 4) (w : Word)
  /-- CPU_WDOG (R581). -/
  | cpuWdog (t : Nat) (c : Fin 4) (h : Fin 8)
  /-- LOCKSTEP_MISMATCH (R25). -/
  | lockstepMismatch (t : Nat)
  /-- WRITE32 (R602). -/
  | hostWrite32 (t : Nat) (a : Word) (v : Word)
  /-- READ32 (R602). -/
  | hostRead32 (t : Nat) (a : Word)
  /-- STATUS (R602). -/
  | hostStatus (t : Nat)
  /-- HOST_FRAME_ABORT (R602). -/
  | hostFrameAbort (t : Nat)
  /-- HOST_H2D_SET (R617). -/
  | hostH2dSet (t : Nat) (w : Word)
  /-- HOST_D2H_SET (R617). -/
  | hostD2hSet (t : Nat) (i : Init) (w : Word)
  /-- GPIO_SET (R618). -/
  | gpioSet (t : Nat) (i : Init) (w : Word)
  /-- GPIO_CLR (R618). -/
  | gpioClr (t : Nat) (i : Init) (w : Word)
  /-- GPIO_EDGE (R618). -/
  | gpioEdge (t : Nat) (g : Fin 16) (level : Bool)
  /-- BUS_READ (R60). -/
  | busRead (t : Nat) (i : Init) (a : Nat) (n : Nat)
  /-- TILE_RESET_RELEASE (R236). -/
  | tileResetRelease (t : Nat) (k : Fin 4)
  /-- START_OF_TRANSMISSION_ERROR (R297). -/
  | sotError (t : Nat) (i : Fin 2)
  /-- VMON_UV (R592). -/
  | vmonUv (t : Nat) (d : Fin 8)
  /-- VMON_OV (R592). -/
  | vmonOv (t : Nat) (d : Fin 8)
  /-- PLL_UNLOCK (R525). -/
  | pllUnlock (t : Nat) (p : Fin 6)
  /-- POWER_LOSS (R595). -/
  | powerLoss (t : Nat)
  /-- DALI_BUS_RECOVERY (R359). -/
  | daliBusRecovery (t : Nat)
  /-- HOST_GRANT_EXPIRY (R477). -/
  | hostGrantExpiry (t : Nat)
  /-- LOCAL_MEMORY_ECC_ERROR (R525). -/
  | localMemoryEccError (t : Nat) (kind : LocalEcc)
  deriving DecidableEq, Repr

end Sys2Proof
end

