-- ==== Sys2Proof/Config.lean ====
section
/-! DEFINITION. What an implementation fixes and the values the spec leaves open: opaque constants that no proof can evaluate. -/

namespace Sys2Proof

/-- A fresh free value, taken at the state's counter: what the spec leaves open and does not tie to operands (log entry 2). -/
opaque Config.free : Nat → Nat

/-- How much of a measured phase error the frame from tick `k` takes up, before the limit of 1 µs per second (R199; log entry 147). -/
opaque Config.syncPace : Nat → Nat

/-- How many MRP_LinkChange frames a change of a ring port's link sends, and their distance in ms, by SW_MRP_CFG.PROFILE: the profiles of IEC 62439-2 are not
the spec's to give (R403, R404, log entry 188). -/
opaque Config.mrpRepeat : Nat → Nat × Nat


/-- The count of the 32.768 kHz RTC at an instant: the crystal's own frequency is not the spec's to give (R377, R392, log entry 183). -/
opaque Config.rtcAt : Nat → Nat

/-- The clock in MHz of what CLK_FREQ(`d`) shows, for the fabric (5) and the SERDES reference (7), which the spec does not state (R395, log entry 77). -/
opaque Config.clockMhz : Nat → Nat

/-- The value that the register at address `a` loads from the 1,024 CONFIG bits of OTP, whose layout the spec does not give (R453, log entry 184). -/
opaque Config.fromOtp : Nat → Nat → Nat

/-- How long LOOK takes to copy the thumbnails of a reference frame, in ns (R289; log entry 152). -/
opaque Config.lookCopyTime : Nat

/-- How long page `p` stays in reset after a block reset, in ns: the spec names no time (R522; log entry 13). -/
opaque Config.resetTime : Nat → Nat

/-- The order of the 4,096 places of Temuli's blue-noise tile by rising value, as a sort key for each place (R155; log entry 5). -/
opaque Config.noiseKey : Nat → Nat

/-- Entry `i` of Temuli's blue-noise tile, of which the spec gives only that each value 0 to 255 occurs exactly 16 times (R155): a sixteenth of the
number of places that come before place `i` in the order. -/
def Config.blueNoise (i : Nat) : Nat :=
  ((List.range 4096).filter fun j =>
    decide (Config.noiseKey j < Config.noiseKey i) || (Config.noiseKey j == Config.noiseKey i && decide (j < i))).length / 16

/-- The mask program and the look-back program, as the boot ROM loads them into the local memory of an engine (R189, R296; log entry 145). -/
opaque Config.beamProgram (look : Bool) : List Nat

/-- How far, 0 or 1 unit, the mask program rounds an angle further outward than the nearest unit outside it (R172: computed to within
1 unit and rounded outward; log entry 6). Arguments: the two sides of the angle. -/
opaque Config.angleErr : Int → Int → Nat


/-- Whether an ML-DSA-65 signature verifies under a key (R457; FIPS 204; log entry 43). -/
opaque Config.sigMl (key msg sig : List Nat) : Bool

/-- The key block of the role root with this hash: how the device comes by a block of which it keeps the hash is the spec's to leave open (R453, R470 check 2, R497;
log entry 43). -/
opaque Config.keyBlock (rootHash : List Nat) : List Nat

/-- The device root key, which exists only inside the silicon (R450; log entry 191). -/
opaque Config.drk : Nat

/-- The salt of the identity keys' derivation (R451; log entry 191). -/
opaque Config.hkdfSalt : List Nat

/-- How many derived bytes make the ES384 key pair (R451; log entry 191). -/
opaque Config.esBytes : Nat

/-- The storage key that the DRK gives (R455: derived, by what info string is left open; log entry 191). -/
opaque Config.storageKey (drk : List Nat) : List Nat

/-- The ECDSA P-384 signature that the key pair derived from `seed` makes over bytes (R451, R480, R488; log entry 43). -/
opaque Config.signEc (seed msg : List Nat) : List Nat

/-- The ML-DSA-65 signature that the key pair generated from `seed` makes over bytes (R451, R480, R488; FIPS 204; log entry 43). -/
opaque Config.signMl (seed msg : List Nat) : List Nat

/-- The ML-KEM-768 key pair generated from random bytes: encapsulation and decapsulation key (R457, R480; FIPS 203; log entry 43). -/
opaque Config.kemKeys (rnd : List Nat) : List Nat × List Nat

/-- ML-KEM-768 encapsulation under a key with random bytes: ciphertext and shared secret (R457, R480; FIPS 203; log entry 43). -/
opaque Config.kemEncap (key rnd : List Nat) : List Nat × List Nat

/-- ML-KEM-768 decapsulation: the shared secret (R457, R480; FIPS 203; log entry 43). -/
opaque Config.kemDecap (key ct : List Nat) : List Nat

/-- The TLS exporter value of a session by its traffic keys, for a label (R480; RFC 9147; log entry 43). -/
opaque Config.exporter (keys : Nat) (label : List Nat) : List Nat

/-- Whether the certificate of a peer's key chains to the network anchor (R480; X.509; log entry 43). -/
opaque Config.chains (anchor peer : List Nat) : Bool

/-- The rollback level that the content of a Byster section carries (R462; the section's form is not the spec's; log entry 192). -/
opaque Config.sectionRoll (content : List Nat) : Option Nat

/-- The landmarks that the content of section LANDMARKS holds (R579; log entry 192). -/
opaque Config.sectionMarks (content : List Nat) : Nat

/-- What the record engine makes of a protected record under traffic keys: its record number and plaintext, or none where authentication fails
(R427; RFC 9147; log entry 43). -/
opaque Config.openRecord (keys : Nat) (record : List Nat) : Option (Nat × List Nat)


end Sys2Proof
end

