-- ==== Sys2Proof/Machine/RegNames.lean ====
section
/-! DEFINITION. The register pages of R61 by index (address bits [19:12]) and the block registers by the manual's own names:
each name is the address of that register, and its docstring gives the rule, the fields and their access codes. -/

namespace Sys2Proof.Machine.P

/-- Page index of SYS (R61). -/
def SYS : Nat := 0x00
/-- Page index of PWR (R61). -/
def PWR : Nat := 0x01
/-- Page index of CLK (R61). -/
def CLK : Nat := 0x02
/-- Page index of THM (R61). -/
def THM : Nat := 0x03
/-- Page index of FLT0 (R61). -/
def FLT0 : Nat := 0x04
/-- Page index of an instance of the 4 FLTS pages (R61). -/
def FLTS (k : Nat) : Nat := 0x05 + k
/-- Page index of FLT5 (R61). -/
def FLT5 : Nat := 0x09
/-- Page index of FLT6 (R61). -/
def FLT6 : Nat := 0x0A
/-- Page index of FLT7 (R61). -/
def FLT7 : Nat := 0x0B
/-- Page index of NVM (R61). -/
def NVM : Nat := 0x0C
/-- Page index of XSPI (R61). -/
def XSPI : Nat := 0x0D
/-- Page index of SEC0 (R61). -/
def SEC0 : Nat := 0x10
/-- Page index of SEC1 (R61). -/
def SEC1 : Nat := 0x11
/-- Page index of SEC2 (R61). -/
def SEC2 : Nat := 0x12
/-- Page index of SEC3 (R61). -/
def SEC3 : Nat := 0x13
/-- Page index of SEC4 (R61). -/
def SEC4 : Nat := 0x14
/-- Page index of SEC5 (R61). -/
def SEC5 : Nat := 0x15
/-- Page index of SEC6 (R61). -/
def SEC6 : Nat := 0x16
/-- Page index of SEC7 (R61). -/
def SEC7 : Nat := 0x17
/-- Page index of TIME (R61). -/
def TIME : Nat := 0x20
/-- Page index of NET (R61). -/
def NET : Nat := 0x21
/-- Page index of an instance of the 3 PORT pages (R61). -/
def PORT (k : Nat) : Nat := 0x22 + k
/-- Page index of SWITCH (R61). -/
def SWITCH : Nat := 0x25
/-- Page index of SCHED (R61). -/
def SCHED : Nat := 0x28
/-- Page index of an instance of the 8 CRC pages (R61). -/
def CRC (k : Nat) : Nat := 0x30 + k
/-- Page index of an instance of the 2 VIN pages (R61). -/
def VIN (k : Nat) : Nat := 0x40 + k
/-- Page index of LOOK (R61). -/
def LOOK : Nat := 0x42
/-- Page index of CMP (R61). -/
def CMP : Nat := 0x50
/-- Page index of an instance of the 8 LYR pages (R61). -/
def LYR (k : Nat) : Nat := 0x51 + k
/-- Page index of an instance of the 4 SCL pages (R61). -/
def SCL (k : Nat) : Nat := 0x59 + k
/-- Page index of FENCE (R61). -/
def FENCE : Nat := 0x5E
/-- Page index of BUF (R61). -/
def BUF : Nat := 0x5F
/-- Page index of WRP (R61). -/
def WRP : Nat := 0x60
/-- Page index of an instance of the 4 WRPT pages (R61). -/
def WRPT (k : Nat) : Nat := 0x61 + k
/-- Page index of PHO (R61). -/
def PHO : Nat := 0x68
/-- Page index of an instance of the 4 PHOT pages (R61). -/
def PHOT (k : Nat) : Nat := 0x69 + k
/-- Page index of GLM (R61). -/
def GLM : Nat := 0x70
/-- Page index of SCN (R61). -/
def SCN : Nat := 0x80
/-- Page index of an instance of the 4 SCNT pages (R61). -/
def SCNT (k : Nat) : Nat := 0x81 + k
/-- Page index of SPL (R61). -/
def SPL : Nat := 0x88
/-- Page index of an instance of the 4 SPLT pages (R61). -/
def SPLT (k : Nat) : Nat := 0x89 + k
/-- Page index of DRV (R61). -/
def DRV : Nat := 0x90
/-- Page index of PAT (R61). -/
def PAT : Nat := 0x98
/-- Page index of CTL (R61). -/
def CTL : Nat := 0xA0
/-- Page index of an instance of the 16 CTLK pages (R61). -/
def CTLK (k : Nat) : Nat := 0xA1 + k
/-- Page index of PWM (R61). -/
def PWM : Nat := 0xB1
/-- Page index of ADC (R61). -/
def ADC : Nat := 0xB2
/-- Page index of NRG (R61). -/
def NRG : Nat := 0xC0
/-- Page index of DALI (R61). -/
def DALI : Nat := 0xC8
/-- Page index of HOST (R61). -/
def HOST : Nat := 0xD0
/-- Page index of GPIO (R61). -/
def GPIO : Nat := 0xD1
/-- Page index of an instance of the 4 CPU pages (R61). -/
def CPU (k : Nat) : Nat := 0xE0 + k
/-- Page index of DMV (R61). -/
def DMV : Nat := 0xE4
/-- Page index of an instance of the 4 DMVC pages (R61). -/
def DMVC (k : Nat) : Nat := 0xE5 + k

end Sys2Proof.Machine.P

namespace Sys2Proof.Machine.R

/-- Base address of page `p` (R60, R61). -/
def base (p : Nat) : Nat := 0x40000000 + 0x1000 * p
/-- The common register ID of page `p` (R20). -/
def ID (p : Nat) : Nat := base p + 0x0
/-- The common register VERSION of page `p` (R20). -/
def VERSION (p : Nat) : Nat := base p + 0x4
/-- The common register CAP of page `p` (R20). -/
def CAP (p : Nat) : Nat := base p + 0x8
/-- The common register CTRL of page `p` (R20). -/
def CTRL (p : Nat) : Nat := base p + 0x10
/-- The common register STATUS of page `p` (R20). -/
def STATUS (p : Nat) : Nat := base p + 0x14
/-- The common register IRQ_RAW of page `p` (R20). -/
def IRQ_RAW (p : Nat) : Nat := base p + 0x18
/-- The common register IRQ_EN of page `p` (R20). -/
def IRQ_EN (p : Nat) : Nat := base p + 0x1c
/-- The common register IRQ_STAT of page `p` (R20). -/
def IRQ_STAT (p : Nat) : Nat := base p + 0x20
/-- The common register FORCE of page `p` (R20, R507). -/
def FORCE (p : Nat) : Nat := base p + 0x24
/-- The common register COMMIT of page `p` (R46). -/
def COMMIT (p : Nat) : Nat := base p + 0x28
/-- The common register COMMIT_STAT of page `p` (R47). -/
def COMMIT_STAT (p : Nat) : Nat := base p + 0x2c
/-- The common register SEQ_DONE of page `p` (R20). -/
def SEQ_DONE (p : Nat) : Nat := base p + 0x30
/-- The common register LATCH_TICK of page `p` (R20, R22). -/
def LATCH_TICK (p : Nat) : Nat := base p + 0x34
/-- STAT word `k` of page `p` (R20, R22). -/
def STAT (p k : Nat) : Nat := base p + 0x40 + 4 * k
/-- `SYS_TICK_NUM_LO` (R48): [31:0] TICK_NUM RO. -/
def SYS_TICK_NUM_LO : Nat := 0x40000400
/-- `SYS_TICK_NUM_HI` (R48): [31:0] TICK_NUM RO. -/
def SYS_TICK_NUM_HI : Nat := 0x40000404
/-- `SYS_COMMIT_GUARD` (R48): [10:0] G_US RW. -/
def SYS_COMMIT_GUARD : Nat := 0x40000408
/-- `SYS_CG_ARMED` (R48): [15:0] ARMED RO. -/
def SYS_CG_ARMED : Nat := 0x4000040C
/-- `SYS_CG_CTRL(g)` (R48): [3] LATE_POLICY RW, [2] MODE RW, [1] CANCEL W1S, [0] ARM W1S. -/
def SYS_CG_CTRL (g : Nat) : Nat := 0x40000410 + 16 * g
/-- `SYS_CG_TARGET_LO(g)` (R48): [31:0] TARGET RW. -/
def SYS_CG_TARGET_LO (g : Nat) : Nat := 0x40000414 + 16 * g
/-- `SYS_CG_TARGET_HI(g)` (R48): [31:0] TARGET RW. -/
def SYS_CG_TARGET_HI (g : Nat) : Nat := 0x40000418 + 16 * g
/-- `SYS_CG_STAT(g)` (R48): [31:16] TICK_LO16 RO, [15:8] REJECTOR RO, [6] REFUSED RO, [5] LATE RO, [4] ARMED RO, [3:0] RESULT RO. -/
def SYS_CG_STAT (g : Nat) : Nat := 0x4000041C + 16 * g
/-- `SYS_CHIP_ID` (R580): [31:16] PART RO, [7:4] REV_LETTER RO, [3:0] REV_DIGIT RO. -/
def SYS_CHIP_ID : Nat := 0x40000100
/-- `SYS_RST_CAUSE` (R580): [24:16] SRC RO, [3:0] CAUSE RO. -/
def SYS_RST_CAUSE : Nat := 0x40000104
/-- `SYS_RST_TICK` (R580): [31:0] TICK RO. -/
def SYS_RST_TICK : Nat := 0x40000108
/-- `SYS_RST_CMD` (R580): [31:16] KEY WO, [0] CHIP WO. -/
def SYS_RST_CMD : Nat := 0x4000010C
/-- `SYS_MODE` (R580): [31:16] TICK_LO16 RO, [9] COMMISSIONED RO, [8] FORCED RO, [5:4] LAMP RO, [3:0] MODE RO. -/
def SYS_MODE : Nat := 0x40000110
/-- `SYS_MODE_REQ` (R580): [31] GO W1S, [9] SCHED RW, [8] FORCE RW, [5:4] LAMP RW, [3:0] MODE RW. -/
def SYS_MODE_REQ : Nat := 0x40000114
/-- `SYS_MODE_STAT` (R580): [31:16] TICK_LO16 RO, [12] PENDING RO, [11:8] PEND_MODE RO, [3:0] RESULT RO. -/
def SYS_MODE_STAT : Nat := 0x40000118
/-- `SYS_START_CFG` (R580): [31:16] NET_LOSS_S RW, [15:8] NET_WAIT_S RW, [0] AUTO RW. -/
def SYS_START_CFG : Nat := 0x4000011C
/-- `SYS_START_STAT` (R580): [31:24] REASON RO, [4:0] STEP RO. -/
def SYS_START_STAT : Nat := 0x40000120
/-- `SYS_STAGGER` (R580): [10:0] DELAY_MS RO. -/
def SYS_STAGGER : Nat := 0x40000124
/-- `SYS_START_MS(s)` (R580): [15:0] MS RO. -/
def SYS_START_MS (s : Nat) : Nat := 0x40000144 + 4 * (s - 1)
/-- `PWR_CMD` (R394): [2:0] TARGET WO. -/
def PWR_CMD : Nat := 0x40001100
/-- `PWR_STAT` (R394): [31:16] TICK_LO16 RO, [10:8] STATE RO, [4] BUSY RO, [3:0] RESULT RO. -/
def PWR_STAT : Nat := 0x40001104
/-- `PWR_WAKE_EN` (R394): [7:0] EN RW. -/
def PWR_WAKE_EN : Nat := 0x40001108
/-- `PWR_WAKE_PEND` (R394): [7:0] PEND W1C. -/
def PWR_WAKE_PEND : Nat := 0x4000110C
/-- `PWR_WAKE_CAUSE` (R394): [10:8] FROM RO, [7:0] SRC RO. -/
def PWR_WAKE_CAUSE : Nat := 0x40001110
/-- `PWR_LEVEL_REQ` (R394): [1:0] LEVEL RW. -/
def PWR_LEVEL_REQ : Nat := 0x40001114
/-- `PWR_LEVEL_STAT` (R394): [17:16] CAP RO, [13:12] ACTIVE RO, [9:8] REQ RO, [4] PMIC_ERR W1C, [0] BUSY RO. -/
def PWR_LEVEL_STAT : Nat := 0x40001118
/-- `PWR_PMIC_CFG` (R394): [30:24] ADDR RWL, [23:16] REG RWL, [15:8] SETTLE_US RWL, [7:0] TIMEOUT RWL. -/
def PWR_PMIC_CFG : Nat := 0x4000111C
/-- `PWR_VCODE(l)` (R394): [7:0] CODE RWL. -/
def PWR_VCODE (l : Nat) : Nat := 0x40001120 + 4 * l
/-- `PWR_DOMAIN_STAT` (R394): [7:0] ON RO, [15:8] HELD RO. -/
def PWR_DOMAIN_STAT : Nat := 0x40001130
/-- `PWR_LOCK` (R394): [0] LOCK W1S. -/
def PWR_LOCK : Nat := 0x400011FC
/-- `CLK_FREQ(d)` (R395): [15:0] MHZ RO. -/
def CLK_FREQ (d : Nat) : Nat := 0x40002100 + 4 * d
/-- `CLK_XO_CFG` (R395): [5:4] SENSOR RWS, [0] EN RWS. -/
def CLK_XO_CFG : Nat := 0x40002120
/-- `CLK_XO_IN_USE` (R395): [31:16] RTC_PPB RO, [15:0] XO_PPB RO. -/
def CLK_XO_IN_USE : Nat := 0x40002124
/-- `CLK_XO_CURVE(k)` (R395): [15:0] PPB RWL. -/
def CLK_XO_CURVE (k : Nat) : Nat := 0x40002200 + 4 * k
/-- `CLK_RTC_CURVE(k)` (R395): [15:0] PPB RWL. -/
def CLK_RTC_CURVE (k : Nat) : Nat := 0x40002280 + 4 * k
/-- `CLK_LOCK` (R395): [0] LOCK W1S. -/
def CLK_LOCK : Nat := 0x400021FC
/-- `THM_TJ` (R396): [23:16] SENSOR RO, [15:0] TEMP RO. -/
def THM_TJ : Nat := 0x40003100
/-- `THM_THR` (R396): [23:16] WARN RWL, [15:8] THROT RWL, [7:0] CRIT RWL. -/
def THM_THR : Nat := 0x40003104
/-- `THM_HYST` (R396): [7:0] HYST RWS. -/
def THM_HYST : Nat := 0x40003108
/-- `THM_THROT_CFG` (R396): [31:16] RELEASE_MS RWS, [15:8] STEP_MS RWS, [4] CTL_THROT RWS, [3:0] MAX_STEP RWS. -/
def THM_THROT_CFG : Nat := 0x4000310C
/-- `THM_SENS(s)` (R396): [31] FAILED RO, [15:0] TEMP RO. -/
def THM_SENS (s : Nat) : Nat := 0x40003110 + 4 * s
/-- `THM_SENSOR_FAIL` (R396): [13:12] NTC W1C, [11:0] DIE W1C. -/
def THM_SENSOR_FAIL : Nat := 0x40003140
/-- `THM_TILE_FAIL` (R396): [31:0] W1C. -/
def THM_TILE_FAIL : Nat := 0x40003144
/-- `THM_NTC(i)` (R396): [31] FAILED RO, [15:0] TEMP RO. -/
def THM_NTC (i : Nat) : Nat := 0x40003148 + 4 * i
/-- `THM_TILE_TJ(t)` (R396): [16] SRC RO, [15:0] TEMP RO. -/
def THM_TILE_TJ (t : Nat) : Nat := 0x40003150 + 4 * t
/-- `THM_TILE_LIM` (R396): [7:0] LIM RWL. -/
def THM_TILE_LIM : Nat := 0x40003160
/-- `THM_SD_RESTART` (R396): [7:0] TEMP RWL. -/
def THM_SD_RESTART : Nat := 0x40003164
/-- `THM_SD_REC` (R396): [31:16] TEMP RO, [11:8] SENSOR RO, [0] VALID RO. -/
def THM_SD_REC : Nat := 0x40003168
/-- `THM_SD_TICK` (R396): [31:0] TICK RO. -/
def THM_SD_TICK : Nat := 0x4000316C
/-- `THM_NTC_LUT(i, k)` (R396): [15:0] TEMP RWL. -/
def THM_NTC_LUT (i k : Nat) : Nat := 0x40003200 + 132 * i + 4 * k
/-- `THM_LOCK` (R396): [0] LOCK W1S. -/
def THM_LOCK : Nat := 0x400031FC
/-- `FLT_CFG` (R532): [31:16] CONSQ_TMO_MS RWL, [2:0] FORCE_CAP RWL. -/
def FLT_CFG : Nat := 0x40004100
/-- `FLT_NMI_TARGET` (R532): [14:13] NETE RWL, [12:5] BEAM RWL, [4] SAFE RWL, [3:0] APU RWL. -/
def FLT_NMI_TARGET : Nat := 0x40004104
/-- `FLT_CLASS_PEND` (R532): [14:0] PEND RO. -/
def FLT_CLASS_PEND : Nat := 0x40004108
/-- `FLT_ERR` (R532): [1] RELEASE W1S, [0] ACTIVE RO. -/
def FLT_ERR : Nat := 0x4000410C
/-- `FLT_LAST` (R532): [31:16] TICK_LO16 RO, [15] SEVERE RO, [14] ESCALATED RO, [13] CONSQ RO, [12] FORCED RO, [11:9] LEVEL RO, [8:0] SRC RO. -/
def FLT_LAST : Nat := 0x40004110
/-- `FLT_FORCE_SRC` (R532): [31] GO WO, [8:0] SRC WO. -/
def FLT_FORCE_SRC : Nat := 0x40004114
/-- `FLT_FORCE_STAT` (R532): [0] REFUSED W1C. -/
def FLT_FORCE_STAT : Nat := 0x40004118
/-- `FLT_CFG_CRC_REF` (R532): [31:0] RO. -/
def FLT_CFG_CRC_REF : Nat := 0x4000411C
/-- `FLT_BUS_ADDR` (R532): [31:0] ADDR RO. -/
def FLT_BUS_ADDR : Nat := 0x40004120
/-- `FLT_BUS_INFO` (R532): [10] WRITE RO, [9:8] SOURCE RO, [7:0] INIT RO. -/
def FLT_BUS_INFO : Nat := 0x40004124
/-- `FLT_LOCK` (R532): [0] LOCK W1S. -/
def FLT_LOCK : Nat := 0x400041FC
/-- `FLT_SRC_CFG(s)` (R619). -/
def FLT_SRC_CFG (s : Nat) : Nat := 0x40005100 + 0x1000 * (s / 128) + 4 * (s % 128)
/-- `FLT_SRC_WIN(s)` (R619). -/
def FLT_SRC_WIN (s : Nat) : Nat := 0x40005300 + 0x1000 * (s / 128) + 4 * (s % 128)
/-- `FLT_SRC_STAT(s)` (R619). -/
def FLT_SRC_STAT (s : Nat) : Nat := 0x40005500 + 0x1000 * (s / 128) + 4 * (s % 128)
/-- `FLT_LOG_WR` (R620): [16:8] UNREAD RO, [7:0] IDX RO. -/
def FLT_LOG_WR : Nat := 0x40009100
/-- `FLT_LOG_RD` (R620): [7:0] IDX RW. -/
def FLT_LOG_RD : Nat := 0x40009104
/-- `FLT_LOG_A(e)` (R620): [23:16] CNT RO, [15:9] RO, [15:9] RO, [8:0] SRC RO. -/
def FLT_LOG_A (e : Nat) : Nat := 0x40009800 + 8 * e
/-- `FLT_LOG_B(e)` (R620): [31:0] TICK RO. -/
def FLT_LOG_B (e : Nat) : Nat := 0x40009804 + 8 * e
/-- `FLT_CQ_PAGE(l)` (R620): [7:0] PAGE RWL. -/
def FLT_CQ_PAGE (l : Nat) : Nat := 0x4000A120 + 4 * (l - 8)
/-- `FLT_CQ_SRC(l, w)` (R620): [31:0] RWL. -/
def FLT_CQ_SRC (l w : Nat) : Nat := 0x4000A200 + 44 * (l - 8) + 4 * w
/-- `NVM_SCRUB_CFG` (R560): [23:8] PASS_S RW, [1] RET_EN RW, [0] EN RW. -/
def NVM_SCRUB_CFG : Nat := 0x4000C100
/-- `NVM_SCRUB_STAT` (R560): [31:16] PASSES RO, [0] LATE RO. -/
def NVM_SCRUB_STAT : Nat := 0x4000C104
/-- `NVM_UE_ADDR` (R560): [31:0] ADDR RO. -/
def NVM_UE_ADDR : Nat := 0x4000C108
/-- `NVM_UE_INFO` (R560): [25:24] MEM RO, [23:16] INIT RO, [7:0] SYNDROME RO. -/
def NVM_UE_INFO : Nat := 0x4000C10C
/-- `NVM_CE_ADDR` (R560): [31:0] ADDR RO. -/
def NVM_CE_ADDR : Nat := 0x4000C110
/-- `NVM_CE_INFO` (R560): [25:24] MEM RO, [23:16] INIT RO, [7:0] SYNDROME RO. -/
def NVM_CE_INFO : Nat := 0x4000C114
/-- `NVM_WIN_STAT` (R560): [2] SUPPLY_OK RO, [1] TEMP_OK RO, [0] OPEN RO. -/
def NVM_WIN_STAT : Nat := 0x4000C118
/-- `NVM_TX_SRC` (R560): [31:0] ADDR RW. -/
def NVM_TX_SRC : Nat := 0x4000C120
/-- `NVM_TX_DST` (R560): [23:0] OFS RW. -/
def NVM_TX_DST : Nat := 0x4000C124
/-- `NVM_TX_LEN` (R560): [23:0] BYTES RW. -/
def NVM_TX_LEN : Nat := 0x4000C128
/-- `NVM_TX_ACT_ADDR` (R560): [23:0] OFS RW. -/
def NVM_TX_ACT_ADDR : Nat := 0x4000C12C
/-- `NVM_TX_ACT_LO` (R560): [31:0] RW. -/
def NVM_TX_ACT_LO : Nat := 0x4000C130
/-- `NVM_TX_ACT_HI` (R560): [31:0] RW. -/
def NVM_TX_ACT_HI : Nat := 0x4000C134
/-- `NVM_TX_CMD` (R560): [31] GO W1S, [2] ACT_EN RW, [0] KIND RW. -/
def NVM_TX_CMD : Nat := 0x4000C138
/-- `NVM_TX_STAT` (R560): [31:16] TXN_LO16 RO, [12:8] QUEUED RO, [7:4] STATE RO, [3:0] RESULT RO. -/
def NVM_TX_STAT : Nat := 0x4000C13C
/-- `NVM_JRN_HEAD` (R560): [17:0] OFS RO. -/
def NVM_JRN_HEAD : Nat := 0x4000C140
/-- `NVM_JRN_TAIL` (R560): [17:0] OFS RO. -/
def NVM_JRN_TAIL : Nat := 0x4000C144
/-- `NVM_JRN_RECOV` (R560): [31:16] TXN_LO16 RO, [11:8] OWNER RO, [1:0] RESULT RO. -/
def NVM_JRN_RECOV : Nat := 0x4000C148
/-- `NVM_JRN_OPEN` (R560): [9] DIRECT RO, [8] REDO RO, [4:0] QUEUED RO. -/
def NVM_JRN_OPEN : Nat := 0x4000C14C
/-- `NVM_REGION_BASE(r)` (R560): [23:0] OFS RO. -/
def NVM_REGION_BASE (r : Nat) : Nat := 0x4000C180 + 16 * r
/-- `NVM_REGION_SIZE(r)` (R560): [24:0] BYTES RO. -/
def NVM_REGION_SIZE (r : Nat) : Nat := 0x4000C184 + 16 * r
/-- `NVM_REGION_WR(r)` (R560): [8:0] OWNERS RO. -/
def NVM_REGION_WR (r : Nat) : Nat := 0x4000C188 + 16 * r
/-- `NVM_REGION_WEAR(r)` (R560): [31:0] RO. -/
def NVM_REGION_WEAR (r : Nat) : Nat := 0x4000C18C + 16 * r
/-- `XSPI_CFG` (R561): [23:16] DUMMY RW, [15:8] FREQ_MHZ RW, [0] PROTO RW. -/
def XSPI_CFG : Nat := 0x4000D100
/-- `XSPI_SIZE` (R561): [4:0] LOG2 RO. -/
def XSPI_SIZE : Nat := 0x4000D104
/-- `XSPI_CMD` (R561): [31] GO W1S, [2:0] OP RW. -/
def XSPI_CMD : Nat := 0x4000D108
/-- `XSPI_ADDR` (R561): [28:0] OFS RW. -/
def XSPI_ADDR : Nat := 0x4000D10C
/-- `XSPI_SRC` (R561): [31:0] ADDR RW. -/
def XSPI_SRC : Nat := 0x4000D110
/-- `XSPI_LEN` (R561): [8:0] BYTES RW. -/
def XSPI_LEN : Nat := 0x4000D114
/-- `XSPI_STAT` (R561): [8] BUSY RO, [3:0] RESULT RO. -/
def XSPI_STAT : Nat := 0x4000D118
/-- `XSPI_TMO_MS` (R561): [15:0] MS RW. -/
def XSPI_TMO_MS : Nat := 0x4000D11C
/-- `XSPI_PROT_BASE(k)` (R561): [28:0] OFS RWL. -/
def XSPI_PROT_BASE (k : Nat) : Nat := 0x4000D140 + 16 * k
/-- `XSPI_PROT_SIZE(k)` (R561): [28:0] BYTES RWL. -/
def XSPI_PROT_SIZE (k : Nat) : Nat := 0x4000D144 + 16 * k
/-- `XSPI_PROT_WR(k)` (R561): [2:0] WR RWL. -/
def XSPI_PROT_WR (k : Nat) : Nat := 0x4000D148 + 16 * k
/-- `XSPI_LOCK` (R561): [0] LOCK W1S. -/
def XSPI_LOCK : Nat := 0x4000D1FC
/-- `SEC_UID(w)` (R495): [31:0] RO. -/
def SEC_UID (w : Nat) : Nat := 0x40010100 + 4 * w
/-- `SEC_LIFECYCLE` (R495): [1:0] STATE RO. -/
def SEC_LIFECYCLE : Nat := 0x40010110
/-- `SEC_STATUS` (R495): [11:8] Q_CAUSE RO, [4] QUARANTINE RO, [2] RNG_OK RO, [1] KEYS_OK RO, [0] PUF_OK RO. -/
def SEC_STATUS : Nat := 0x40010114
/-- `SEC_SVC_BASE` (R495): [31:6] BASE RW. -/
def SEC_SVC_BASE : Nat := 0x40010118
/-- `SEC_SVC_STAT` (R495): [31:16] DONE RO, [6:0] PENDING RO. -/
def SEC_SVC_STAT : Nat := 0x4001011C
/-- `SEC_RCV_CHAL(w)` (R495): [31:0] RO. -/
def SEC_RCV_CHAL (w : Nat) : Nat := 0x40010120 + 4 * w
/-- `SEC_KEY_META(s)` (R496): [31] VALID RO, [30] LOCKED RO, [27:24] TYPE RO, [23:16] USAGE RO, [9:8] ORIGIN RO. -/
def SEC_KEY_META (s : Nat) : Nat := 0x40011100 + 4 * s
/-- `SEC_KEY_CMD` (R496): [31:28] OP WO, [5:0] SLOT WO. -/
def SEC_KEY_CMD : Nat := 0x40011200
/-- `SEC_KEY_STAT` (R496): [31:16] TICK_LO16 RO, [3:0] RESULT RO. -/
def SEC_KEY_STAT : Nat := 0x40011204
/-- `SEC_FLOOR(r)_LO` (R497): [31:0] LO RO. -/
def SEC_FLOOR_LO (r : Nat) : Nat := 0x40012100 + 8 * r
/-- `SEC_FLOOR(r)_HI` (R497): [31:0] LO RO. -/
def SEC_FLOOR_HI (r : Nat) : Nat := 0x40012104 + 8 * r
/-- `SEC_ROOT_HASH(r, w)` (R497): [31:0] RO. -/
def SEC_ROOT_HASH (r w : Nat) : Nat := 0x40012120 + 32 * r + 4 * w
/-- `SEC_GROUPS(g)` (R497): [31:0] GROUP RW. -/
def SEC_GROUPS (g : Nat) : Nat := 0x40012180 + 4 * g
/-- `SEC_TOK_STAT` (R497): [31:16] ACCEPTED RO, [15:4] REJECTED RO, [3:0] REASON RO. -/
def SEC_TOK_STAT : Nat := 0x400121A0
/-- `SEC_TIME_FLOOR_LO` (R497): [31:0] LO RO. -/
def SEC_TIME_FLOOR_LO : Nat := 0x400121A4
/-- `SEC_TIME_FLOOR_HI` (R497): [31:0] LO RO. -/
def SEC_TIME_FLOOR_HI : Nat := 0x400121A8
/-- `SEC_HOST_GRANT` (R497): [31:8] RIGHTS RO, [2:0] ROLE RO. -/
def SEC_HOST_GRANT : Nat := 0x400121AC
/-- `SEC_HOST_CHAL(w)` (R497): [31:0] RO. -/
def SEC_HOST_CHAL (w : Nat) : Nat := 0x400121B0 + 4 * w
/-- `SEC_PAGE_RIGHT(w)` (R497): [31:0] RW. -/
def SEC_PAGE_RIGHT (w : Nat) : Nat := 0x40012200 + 4 * w
/-- `SEC_BOOT_STAT` (R498): [8] SAFE_COPY RO, [5] TRIAL RO, [4] RECOVERY RO, [0] MAIN_SLOT RO. -/
def SEC_BOOT_STAT : Nat := 0x40013100
/-- `SEC_UPD_STAT` (R498): [31:16] TICK_LO16 RO, [9] OTP_PENDING RO, [7:4] RESULT RO, [2:0] STATE RO. -/
def SEC_UPD_STAT : Nat := 0x40013104
/-- `SEC_UPD_CFG` (R498): [15:0] CONFIRM_S RW. -/
def SEC_UPD_CFG : Nat := 0x40013108
/-- `SEC_ROLLBACK` (R498): [31:24] BYSTER RO, [22:16] SAFE RO, [8:0] MAIN RO. -/
def SEC_ROLLBACK : Nat := 0x4001310C
/-- `SEC_IMG_VER(i)` (R498): [31:0] VERSION RO. -/
def SEC_IMG_VER (i : Nat) : Nat := 0x40013110 + 4 * i
/-- `SEC_AUDIT_SEQ` (R499): [31:0] NEXT RO. -/
def SEC_AUDIT_SEQ : Nat := 0x40014100
/-- `SEC_AUDIT_ACKED` (R499): [31:0] SEQ RO. -/
def SEC_AUDIT_ACKED : Nat := 0x40014104
/-- `SEC_AUDIT_HEAD(w)` (R499): [31:0] RO. -/
def SEC_AUDIT_HEAD (w : Nat) : Nat := 0x40014108 + 4 * w
/-- `SEC_AUDIT_CFG` (R499): [0] STRICT RWL. -/
def SEC_AUDIT_CFG : Nat := 0x40014128
/-- `SEC_AUDIT_STAT` (R499): [24:16] QUEUED RO, [15:0] LOST RO. -/
def SEC_AUDIT_STAT : Nat := 0x4001412C
/-- `SEC_REC_CMD` (R500): [31:28] OP WO, [9:0] IDX WO. -/
def SEC_REC_CMD : Nat := 0x40015100
/-- `SEC_REC_STAT` (R500): [31:16] AUTH_FAIL RO, [3:0] RESULT RO. -/
def SEC_REC_STAT : Nat := 0x40015104
/-- `SEC_DBG_STAT` (R501): [11:8] FAILS RO, [4] LOCKOUT RO, [1:0] SCOPE RO. -/
def SEC_DBG_STAT : Nat := 0x40016100
/-- `SEC_DBG_CHAL(w)` (R501): [31:0] RO. -/
def SEC_DBG_CHAL (w : Nat) : Nat := 0x40016104 + 4 * w
/-- `SEC_OTP(w)` (R502): [31:0] RO. -/
def SEC_OTP (w : Nat) : Nat := 0x40017100 + 4 * w
/-- `SEC_OTP_CMD` (R502): [31] GO W1S, [24:16] WORD RW. -/
def SEC_OTP_CMD : Nat := 0x40017900
/-- `SEC_OTP_DATA` (R502): [31:0] RW. -/
def SEC_OTP_DATA : Nat := 0x40017904
/-- `SEC_OTP_STAT` (R502): [3:0] RESULT RO. -/
def SEC_OTP_STAT : Nat := 0x40017908
/-- `TIME_CNT_LO` (R444): [31:0] RO. -/
def TIME_CNT_LO : Nat := 0x40020100
/-- `TIME_CNT_HI` (R444): [31:0] RO. -/
def TIME_CNT_HI : Nat := 0x40020104
/-- `TIME_NOW_LO` (R444): [31:0] RO. -/
def TIME_NOW_LO : Nat := 0x40020108
/-- `TIME_NOW_HI` (R444): [31:0] RO. -/
def TIME_NOW_HI : Nat := 0x4002010C
/-- `TIME_NT_FRAC` (R444): [15:0] FRAC RO. -/
def TIME_NT_FRAC : Nat := 0x40020110
/-- `TIME_NT_LO` (R444): [31:0] RO. -/
def TIME_NT_LO : Nat := 0x40020114
/-- `TIME_NT_HI` (R444): [31:0] RO. -/
def TIME_NT_HI : Nat := 0x40020118
/-- `TIME_RATE` (R444): [31:0] RATE RO. -/
def TIME_RATE : Nat := 0x4002011C
/-- `TIME_MEAS_LO` (R444): [31:0] RW. -/
def TIME_MEAS_LO : Nat := 0x40020120
/-- `TIME_MEAS_HI` (R444): [31:0] RW. -/
def TIME_MEAS_HI : Nat := 0x40020124
/-- `TIME_MEAS_CTRL` (R444): [1] REACQ W1S, [0] SUBMIT W1S. -/
def TIME_MEAS_CTRL : Nat := 0x40020128
/-- `TIME_SERVO_STAT` (R444): [31:16] TICK_LO16 RO, [15:8] LOCK_CNT RO, [2:0] STATE RO. -/
def TIME_SERVO_STAT : Nat := 0x4002012C
/-- `TIME_KP` (R444): [31:0] KP RW. -/
def TIME_KP : Nat := 0x40020130
/-- `TIME_KI` (R444): [31:0] KI RW. -/
def TIME_KI : Nat := 0x40020134
/-- `TIME_SERVO_THR` (R444): [31:16] LOCK_THR RW, [15:0] STEP_THR RW. -/
def TIME_SERVO_THR : Nat := 0x40020138
/-- `TIME_SERVO_THR2` (R444): [31:16] JUMP_THR RW, [15:8] LOCK_N RW, [7:0] HOLD_TO RW. -/
def TIME_SERVO_THR2 : Nat := 0x4002013C
/-- `TIME_RATE_MAX` (R444): [31:0] MAX RW. -/
def TIME_RATE_MAX : Nat := 0x40020140
/-- `TIME_EPOCH_LO` (R444): [31:0] RW. -/
def TIME_EPOCH_LO : Nat := 0x40020144
/-- `TIME_EPOCH_HI` (R444): [31:0] RW. -/
def TIME_EPOCH_HI : Nat := 0x40020148
/-- `TIME_LOCAL_OFS` (R444): [31:0] S RW. -/
def TIME_LOCAL_OFS : Nat := 0x4002014C
/-- `TIME_TGEN_STAT` (R444): [6] ON_GRID RO, [5] LIT RO, [4] VALID RO, [3] PENDING RO, [1:0] STATE RO. -/
def TIME_TGEN_STAT : Nat := 0x40020150
/-- `TIME_D` (R444): [31:0] D RO. -/
def TIME_D : Nat := 0x40020154
/-- `TIME_STEP_CMD` (R444): [0] APPLY W1S. -/
def TIME_STEP_CMD : Nat := 0x40020158
/-- `TIME_GRID_IDX_LO` (R444): [31:0] RO. -/
def TIME_GRID_IDX_LO : Nat := 0x4002015C
/-- `TIME_GRID_IDX_HI` (R444): [31:0] RO. -/
def TIME_GRID_IDX_HI : Nat := 0x40020160
/-- `TIME_TSQ_STAT` (R444): [8] OVF W1C, [5:0] COUNT RO. -/
def TIME_TSQ_STAT : Nat := 0x40020164
/-- `TIME_TSQ_HDR` (R444): [31:16] TAG RO, [9:8] PORT RO, [0] VALID RO. -/
def TIME_TSQ_HDR : Nat := 0x40020168
/-- `TIME_TSQ_TS_LO` (R444): [31:0] RO. -/
def TIME_TSQ_TS_LO : Nat := 0x4002016C
/-- `TIME_TSQ_TS_HI` (R444): [31:0] RO. -/
def TIME_TSQ_TS_HI : Nat := 0x40020170
/-- `NET_MAC_LO` (R445): [31:0] RWL. -/
def NET_MAC_LO : Nat := 0x40021100
/-- `NET_MAC_HI` (R445): [15:0] RWL. -/
def NET_MAC_HI : Nat := 0x40021104
/-- `NET_WAORD_PORT` (R445): [15:0] PORT RW. -/
def NET_WAORD_PORT : Nat := 0x40021108
/-- `NET_SESS_BASE` (R445): [31:6] BASE RW. -/
def NET_SESS_BASE : Nat := 0x4002110C
/-- `NET_SESS_STAT` (R445): [26:16] OPEN RO, [4:0] HANDSHAKING RO. -/
def NET_SESS_STAT : Nat := 0x40021110
/-- `NET_SESS_CFG` (R445): [31:16] IDLE_S RW, [15:0] HS_SPREAD_MS RW. -/
def NET_SESS_CFG : Nat := 0x40021114
/-- `NET_WAKE_CFG` (R445): [31:16] GROUP RW, [0] EN RW. -/
def NET_WAKE_CFG : Nat := 0x40021118
/-- `NET_WAKE_MAC_LO` (R445): [31:0] RW. -/
def NET_WAKE_MAC_LO : Nat := 0x4002111C
/-- `NET_WAKE_MAC_HI` (R445): [15:0] RW. -/
def NET_WAKE_MAC_HI : Nat := 0x40021120
/-- `PORT_CFG` (R446): [12] TS_EN RW, [8] RING RW, [4:3] ROLE RW, [2:1] MODE RW. -/
def PORT_CFG (p : Nat) : Nat := 0x40022100 + 0x1000 * p
/-- `PORT_LINK` (R446): [15:8] SQI RO, [4] MASTER RO, [3] AMP_2V4 RO, [2:1] SPEED RO, [0] UP RO. -/
def PORT_LINK (p : Nat) : Nat := 0x40022104 + 0x1000 * p
/-- `PORT_ASYM` (R446): [31:0] ASYM RW. -/
def PORT_ASYM (p : Nat) : Nat := 0x40022108 + 0x1000 * p
/-- `PORT_LAT` (R446): [31:16] TX_NS RWL, [15:0] RX_NS RWL. -/
def PORT_LAT (p : Nat) : Nat := 0x4002210C + 0x1000 * p
/-- `PORT_MLD` (R446): [31:0] MLD RO. -/
def PORT_MLD (p : Nat) : Nat := 0x40022110 + 0x1000 * p
/-- `PORT_PD_CFG` (R446): [11:8] FILT RW, [7:0] LOG_INT RW. -/
def PORT_PD_CFG (p : Nat) : Nat := 0x40022114 + 0x1000 * p
/-- `PORT_PD_STAT` (R446): [31:16] LOST RO, [1:0] STATE RO. -/
def PORT_PD_STAT (p : Nat) : Nat := 0x40022118 + 0x1000 * p
/-- `PORT_MRP_STAT` (R446): [1:0] STATE RO. -/
def PORT_MRP_STAT (p : Nat) : Nat := 0x4002211C + 0x1000 * p
/-- `PORT_STORM` (R446): [15:0] BCAST_PPS RW. -/
def PORT_STORM (p : Nat) : Nat := 0x40022120 + 0x1000 * p
/-- `SW_CFG` (R447): [16] LEARN_EN RW, [15:0] AGE_S RW. -/
def SW_CFG : Nat := 0x40025100
/-- `SW_FLUSH` (R447): [3:0] PORTS W1S. -/
def SW_FLUSH : Nat := 0x40025104
/-- `SW_MRP_CFG` (R447): [1] PROFILE RW, [0] EN RW. -/
def SW_MRP_CFG : Nat := 0x40025108
/-- `SW_MRP_STAT` (R447): [31:16] TC_COUNT RO, [15:0] TICK_LO16 RO. -/
def SW_MRP_STAT : Nat := 0x4002510C
/-- `SW_MRP_DOMAIN(w)` (R447): [31:0] RW. -/
def SW_MRP_DOMAIN (w : Nat) : Nat := 0x40025110 + 4 * w
/-- `SW_FDB_CNT` (R447): [10:0] COUNT RO. -/
def SW_FDB_CNT : Nat := 0x40025120
/-- `SCHED_TABLE_BASE` (R448): [31:6] BASE RW. -/
def SCHED_TABLE_BASE : Nat := 0x40028100
/-- `SCHED_CMD` (R448): [24:16] IDX WO, [2:0] OP WO. -/
def SCHED_CMD : Nat := 0x40028104
/-- `SCHED_CMD_STAT` (R448): [4] BUSY RO, [3:0] RESULT RO. -/
def SCHED_CMD_STAT : Nat := 0x40028108
/-- `SCHED_E(w)` (R448): [31:0] RW. -/
def SCHED_E (w : Nat) : Nat := 0x40028110 + 4 * w
/-- `SCHED_DUE` (R448): [31] VALID RO, [30:29] RESULT RO, [28:26] ACTION RO, [24:16] IDX RO, [15:0] TICK_LO16 RO. -/
def SCHED_DUE : Nat := 0x40028130
/-- `SCHED_DUE_ARG_LO` (R448): [31:0] RO. -/
def SCHED_DUE_ARG_LO : Nat := 0x40028134
/-- `SCHED_DUE_ARG_HI` (R448): [31:0] RO. -/
def SCHED_DUE_ARG_HI : Nat := 0x40028138
/-- `SCHED_DUE_STAT` (R448): [8] OVF W1C, [5:0] COUNT RO. -/
def SCHED_DUE_STAT : Nat := 0x4002813C
/-- `SCHED_NEXT_WAKE_LO` (R448): [31:0] RO. -/
def SCHED_NEXT_WAKE_LO : Nat := 0x40028140
/-- `SCHED_NEXT_WAKE_HI` (R448): [31:0] RO. -/
def SCHED_NEXT_WAKE_HI : Nat := 0x40028144
/-- `SCHED_COUNT` (R448): [9:0] COUNT RO. -/
def SCHED_COUNT : Nat := 0x40028148
/-- `CRC_SNOOP` (R533): [16] PER_PKT RWS, [12:8] CTX RWS, [5:4] INST RWS, [2:0] SRC RWS. -/
def CRC_SNOOP (u : Nat) : Nat := 0x40030100 + 0x1000 * u
/-- `CRC_CTX_CFG(c)` (R533): [15:8] ALIVE_OFS RW, [5] ALIVE_EN RW, [4] CMP_EN RW, [3:2] MODE RW, [1:0] POLY RW. -/
def CRC_CTX_CFG (u c : Nat) : Nat := 0x40030200 + 0x1000 * u + 32 * c
/-- `CRC_CTX_RUN(c)` (R533): [31:0] RW. -/
def CRC_CTX_RUN (u c : Nat) : Nat := 0x40030204 + 0x1000 * u + 32 * c
/-- `CRC_CTX_RESULT(c)` (R533): [31:0] RO. -/
def CRC_CTX_RESULT (u c : Nat) : Nat := 0x40030208 + 0x1000 * u + 32 * c
/-- `CRC_CTX_EXP(c)` (R533): [31:0] RW. -/
def CRC_CTX_EXP (u c : Nat) : Nat := 0x4003020C + 0x1000 * u + 32 * c
/-- `CRC_CTX_LEN(c)` (R533): [31:0] RW. -/
def CRC_CTX_LEN (u c : Nat) : Nat := 0x40030210 + 0x1000 * u + 32 * c
/-- `CRC_CTX_COUNT(c)` (R533): [31:0] RO. -/
def CRC_CTX_COUNT (u c : Nat) : Nat := 0x40030214 + 0x1000 * u + 32 * c
/-- `CRC_CTX_STAT(c)` (R533): [31:24] REPEATS RO, [23:16] GAPS RO, [15:8] ALIVE_LAST RO, [3] ACTIVE RO, [1:0] RESULT RO. -/
def CRC_CTX_STAT (u c : Nat) : Nat := 0x40030218 + 0x1000 * u + 32 * c
/-- `VIN_STAT_FRAMES` (R297): [15:0] DONE RO, [31:16] ERR RO. -/
def VIN_STAT_FRAMES (i : Nat) : Nat := 0x40040040 + 0x1000 * i
/-- `VIN_STAT_PKT` (R297): [15:0] ECC_FIX RO, [23:16] CRC_ERR RO, [31:24] UNSUP RO. -/
def VIN_STAT_PKT (i : Nat) : Nat := 0x40040044 + 0x1000 * i
/-- `VIN_STAT_LIST` (R297): [15:0] POSTED RO, [31:16] DROPPED RO. -/
def VIN_STAT_LIST (i : Nat) : Nat := 0x40040048 + 0x1000 * i
/-- `VIN_STAT_SKIP` (R297): [15:0] RO. -/
def VIN_STAT_SKIP (i : Nat) : Nat := 0x4004004C + 0x1000 * i
/-- `VIN_PHY_CFG` (R297): [31:24] HS_SETTLE RW, [19:16] INV RW, [15:8] MAP RW, [4] DESKEW_EN RW, [1:0] LANES RW. -/
def VIN_PHY_CFG (i : Nat) : Nat := 0x40040100 + 0x1000 * i
/-- `VIN_S_CFG(k)` (R297): [29:24] FENCE RWS, [23] FENCE_EN RWS, [22:20] AUTOFLIP_LAYER RWS, [18] AUTOFLIP RWS, [17:16] KIND RWS, [13:8] DT RWS, [2:1] VC RWS, [0] EN RWS. -/
def VIN_S_CFG (i k : Nat) : Nat := 0x40040110 + 0x1000 * i + 32 * k
/-- `VIN_S_BUF(k)` (R297): [25:24] NBUF RWS, [23:0] E2, E1, E0 RWS. -/
def VIN_S_BUF (i k : Nat) : Nat := 0x40040114 + 0x1000 * i + 32 * k
/-- `VIN_S_ROUTE(k)` (R297): [3] LOOK_EN RWS, [2:1] SCL_SEL RWS, [0] SCL_EN RWS. -/
def VIN_S_ROUTE (i k : Nat) : Nat := 0x40040118 + 0x1000 * i + 32 * k
/-- `VIN_S_FS_TIME_LO(k)` (R297): [31:0] TIME RO. -/
def VIN_S_FS_TIME_LO (i k : Nat) : Nat := 0x4004011C + 0x1000 * i + 32 * k
/-- `VIN_S_FS_TIME_HI(k)` (R297): [31:0] TIME RO. -/
def VIN_S_FS_TIME_HI (i k : Nat) : Nat := 0x40040120 + 0x1000 * i + 32 * k
/-- `VIN_S_STAT(k)` (R297): [31:16] FRAME_NUM RO, [15:12] ERR RO, [7:0] LAST_ENTRY RO. -/
def VIN_S_STAT (i k : Nat) : Nat := 0x40040124 + 0x1000 * i + 32 * k
/-- `VIN_LREQ_DT` (R297): [5:0] DT RWS. -/
def VIN_LREQ_DT (i : Nat) : Nat := 0x40040190 + 0x1000 * i
/-- `LOOK_CFG` (R298): [15:8] PERSIST RWS, [6:4] RATE_HZ RWS, [2:1] STREAM RWS, [0] VIN RWS. -/
def LOOK_CFG : Nat := 0x40042100
/-- `LOOK_MODEL_BASE` (R298): [31:6] BASE RWS. -/
def LOOK_MODEL_BASE : Nat := 0x40042104
/-- `LOOK_MODEL_CRC` (R298): [31:0] CRC RWS. -/
def LOOK_MODEL_CRC : Nat := 0x40042108
/-- `LOOK_MODEL_LEN` (R298): [23:0] BYTES RWS. -/
def LOOK_MODEL_LEN : Nat := 0x4004210C
/-- `LOOK_WORK_BASE` (R298): [31:6] BASE RWS. -/
def LOOK_WORK_BASE : Nat := 0x40042110
/-- `LOOK_EXP_OFS` (R298): [31:0] US RWS. -/
def LOOK_EXP_OFS : Nat := 0x40042114
/-- `LOOK_THR_A` (R298): [31:16] CRACK_DEV RWS, [15:0] OBSC RWS. -/
def LOOK_THR_A : Nat := 0x40042118
/-- `LOOK_THR_B` (R298): [31:24] CRACK_MIN RWS, [23:16] NCC_MIN RWS, [15:0] MISAIM RWS. -/
def LOOK_THR_B : Nat := 0x4004211C
/-- `LOOK_THR_C` (R298): [23:16] STRAY_MIN RWS, [15:0] STRAY RWS. -/
def LOOK_THR_C : Nat := 0x40042120
/-- `LOOK_BEAM_SEL` (R298): [2:0] ENGINE RW. -/
def LOOK_BEAM_SEL : Nat := 0x40042124
/-- `LOOK_CMD` (R298): [0] CAPTURE WO. -/
def LOOK_CMD : Nat := 0x40042128
/-- `LOOK_RES` (R298): [31:16] TICK_LO16 RO, [15:8] DET RO, [3:0] RESULT RO. -/
def LOOK_RES : Nat := 0x4004212C
/-- `LOOK_MEAS_A` (R298): [31:24] STRAY_CNT RO, [23:16] CRACK_CNT RO, [15:0] LOSS RO. -/
def LOOK_MEAS_A : Nat := 0x40042130
/-- `LOOK_MEAS_B` (R298): [23:16] LM_VALID RO, [15:0] SHIFT RO. -/
def LOOK_MEAS_B : Nat := 0x40042134
/-- `LOOK_REF_TICK` (R298): [31:0] TICK RO. -/
def LOOK_REF_TICK : Nat := 0x40042138
/-- `LOOK_ACTIVE` (R298): [3:0] FAULT RO. -/
def LOOK_ACTIVE : Nat := 0x4004213C
/-- `CMP_STAT_FLIPS` (R116): [15:0] RO, [31:16] RO. -/
def CMP_STAT_FLIPS : Nat := 0x40050040
/-- `CMP_STAT_SAT` (R116): [31:0] RO. -/
def CMP_STAT_SAT : Nat := 0x40050044
/-- `CMP_STAT_OFFERED_LO(c)` (R116): [31:0] RO. -/
def CMP_STAT_OFFERED_LO (c : Nat) : Nat := 0x40050048 + 8 * c
/-- `CMP_STAT_OFFERED_HI(c)` (R116): [31:0] RO. -/
def CMP_STAT_OFFERED_HI (c : Nat) : Nat := 0x4005004C + 8 * c
/-- `CMP_BASE_LUX` (R116): [15:0] BASE RWS. -/
def CMP_BASE_LUX : Nat := 0x40050100
/-- `CMP_FLIP_ARM` (R116): [7:1] GROUP W1S. -/
def CMP_FLIP_ARM : Nat := 0x40050104
/-- `CMP_FLIPGRP_STAT` (R116): [7:1] GROUP RO. -/
def CMP_FLIPGRP_STAT : Nat := 0x40050108
/-- `CMP_WB_CTRL` (R116): [19:16] TILE_EN RWS, [15:8] EVERY RWS, [5:4] DEPTH RWS, [3:2] DECIM RWS, [1:0] MODE RWS. -/
def CMP_WB_CTRL : Nat := 0x40050110
/-- `CMP_WB_BASE(t)` (R116): [31:6] BASE RWS. -/
def CMP_WB_BASE (t : Nat) : Nat := 0x40050120 + 4 * t
/-- `CMP_WB_SLOT(t)` (R116): [1:0] SLOT RO. -/
def CMP_WB_SLOT (t : Nat) : Nat := 0x40050130 + 4 * t
/-- `CMP_WB_TICK(t)` (R116): [31:0] TICK RO. -/
def CMP_WB_TICK (t : Nat) : Nat := 0x40050140 + 4 * t
/-- `CMP_FETCH_UE_ADDR` (R116): [31:0] ADDR RO. -/
def CMP_FETCH_UE_ADDR : Nat := 0x40050150
/-- `CMP_CLASS_SCALE(c)` (R116): [15:0] K RO. -/
def CMP_CLASS_SCALE (c : Nat) : Nat := 0x40050160 + 4 * c
/-- `LYR_CFG` (R117): [19:16] TILE_MASK RWS, [12:10] FLIPGRP RWS, [9:8] CLASS RWS, [6:5] ALPHA_SRC RWS, [4:2] OP RWS, [1] SPACE RWS, [0] ACTIVE RWS. -/
def LYR_CFG (n : Nat) : Nat := 0x40051100 + 0x1000 * n
/-- `LYR_ORG_X` (R117): [31:0] POS RWS. -/
def LYR_ORG_X (n : Nat) : Nat := 0x40051104 + 0x1000 * n
/-- `LYR_ORG_Y` (R117): [31:0] POS RWS. -/
def LYR_ORG_Y (n : Nat) : Nat := 0x40051108 + 0x1000 * n
/-- `LYR_OFS_X` (R117): [31:0] POS RWS. -/
def LYR_OFS_X (n : Nat) : Nat := 0x40051114 + 0x1000 * n
/-- `LYR_OFS_Y` (R117): [31:0] POS RWS. -/
def LYR_OFS_Y (n : Nat) : Nat := 0x40051118 + 0x1000 * n
/-- `LYR_INV_PITCH_X` (R117): [31:0] INV RWS. -/
def LYR_INV_PITCH_X (n : Nat) : Nat := 0x4005110C + 0x1000 * n
/-- `LYR_INV_PITCH_Y` (R117): [31:0] INV RWS. -/
def LYR_INV_PITCH_Y (n : Nat) : Nat := 0x40051110 + 0x1000 * n
/-- `LYR_CONST_ALPHA` (R117): [15:0] VAL RWS. -/
def LYR_CONST_ALPHA (n : Nat) : Nat := 0x4005111C + 0x1000 * n
/-- `LYR_CONST_VALUE` (R117): [15:0] VAL RWS. -/
def LYR_CONST_VALUE (n : Nat) : Nat := 0x40051120 + 0x1000 * n
/-- `LYR_LSCALE` (R117): [15:0] VAL RWS. -/
def LYR_LSCALE (n : Nat) : Nat := 0x40051124 + 0x1000 * n
/-- `LYR_FLIP` (R117): [31] REQ W1S, [30] CANCEL W1S, [15] RELEASE RW, [14] FENCE_EN RW, [13:8] FENCE RW, [7:0] BUF_IDX RW. -/
def LYR_FLIP (n : Nat) : Nat := 0x40051130 + 0x1000 * n
/-- `LYR_FLIP_STAT` (R117): [31:28] RESULT RO, [27:20] DEFER_CNT RO, [17] HAS_CUR RO, [16] PENDING RO, [15:8] PEND_BUF RO, [7:0] CUR_BUF RO. -/
def LYR_FLIP_STAT (n : Nat) : Nat := 0x40051134 + 0x1000 * n
/-- `LYR_PAL(i)` (R117): [31:16] A16 RWS, [15:0] L16 RWS. -/
def LYR_PAL (n i : Nat) : Nat := 0x40051400 + 0x1000 * n + 4 * i
/-- `SCL_CFG` (R118): [29:27] AUTOFLIP_LAYER RWS, [26] AUTOFLIP RWS, [25:20] DONE_FENCE RWS, [19] DONE_FENCE_EN RWS, [18] DST_FMT RWS, [17:16] FILT RWS, [14:11] HTAPS RWS, [10:8] VTAPS RWS, [7:2] TRIG_FENCE RWS, [1:0] TRIG RWS. -/
def SCL_CFG (s : Nat) : Nat := 0x40059100 + 0x1000 * s
/-- `SCL_SRC` (R118): [7:0] ENTRY RWS. -/
def SCL_SRC (s : Nat) : Nat := 0x40059104 + 0x1000 * s
/-- `SCL_DST` (R118): [15:8] DST_B RWS, [7:0] DST_A RWS. -/
def SCL_DST (s : Nat) : Nat := 0x40059108 + 0x1000 * s
/-- `SCL_CROP_XY` (R118): [30:16] Y or H RWS, [14:0] X or W RWS. -/
def SCL_CROP_XY (s : Nat) : Nat := 0x4005910C + 0x1000 * s
/-- `SCL_CROP_WH` (R118): [30:16] Y or H RWS, [14:0] X or W RWS. -/
def SCL_CROP_WH (s : Nat) : Nat := 0x40059110 + 0x1000 * s
/-- `SCL_STEP_H` (R118): [23:0] STEP RWS. -/
def SCL_STEP_H (s : Nat) : Nat := 0x40059114 + 0x1000 * s
/-- `SCL_STEP_V` (R118): [23:0] STEP RWS. -/
def SCL_STEP_V (s : Nat) : Nat := 0x40059118 + 0x1000 * s
/-- `SCL_LSCALE` (R118): [15:0] LSCALE RWS. -/
def SCL_LSCALE (s : Nat) : Nat := 0x4005911C + 0x1000 * s
/-- `SCL_KICK` (R118): [0] KICK WO. -/
def SCL_KICK (s : Nat) : Nat := 0x40059120 + 0x1000 * s
/-- `SCL_PASS` (R118): [31:16] COUNT RO, [7:0] LAST_DST RO. -/
def SCL_PASS (s : Nat) : Nat := 0x40059124 + 0x1000 * s
/-- `SCL_HCOEF(w)` (R118): [27:16] C_ODD RW, [11:0] C_EVEN RW. -/
def SCL_HCOEF (s w : Nat) : Nat := 0x40059400 + 0x1000 * s + 4 * w
/-- `SCL_VCOEF(w)` (R118): [27:16] C_ODD RW, [11:0] C_EVEN RW. -/
def SCL_VCOEF (s w : Nat) : Nat := 0x40059600 + 0x1000 * s + 4 * w
/-- `FENCE_STATE_LO` (R119): [31:0] W1C. -/
def FENCE_STATE_LO : Nat := 0x4005E100
/-- `FENCE_STATE_HI` (R119): [31:0] W1C. -/
def FENCE_STATE_HI : Nat := 0x4005E104
/-- `FENCE_SET_LO` (R119): [31:0] W1S. -/
def FENCE_SET_LO : Nat := 0x4005E108
/-- `FENCE_SET_HI` (R119): [31:0] W1S. -/
def FENCE_SET_HI : Nat := 0x4005E10C
/-- `BUF_CMD` (R120): [10:8] OP WO, [7:0] IDX WO. -/
def BUF_CMD : Nat := 0x4005F100
/-- `BUF_CMD_STAT` (R120): [3:0] RESULT RO. -/
def BUF_CMD_STAT : Nat := 0x4005F104
/-- `BUF_E_BASE` (R120): [31:0] BASE RW. -/
def BUF_E_BASE : Nat := 0x4005F108
/-- `BUF_E_STRIDE` (R120): [19:0] STRIDE RW. -/
def BUF_E_STRIDE : Nat := 0x4005F10C
/-- `BUF_E_SIZE` (R120): [29:16] H_M1 RW, [13:0] W_M1 RW. -/
def BUF_E_SIZE : Nat := 0x4005F110
/-- `BUF_E_FMT` (R120): [15:8] OWNER RW, [3:0] FMT RW. -/
def BUF_E_FMT : Nat := 0x4005F114
/-- `BUF_E_STATE` (R120): [31:16] TICK_LO16 RO, [2:0] STATE RO. -/
def BUF_E_STATE : Nat := 0x4005F118
/-- `BUF_FW_ADDR` (R120): [31:0] ADDR RO. -/
def BUF_FW_ADDR : Nat := 0x4005F120
/-- `BUF_FW_INFO` (R120): [15:8] INIT RO, [7:0] IDX RO. -/
def BUF_FW_INFO : Nat := 0x4005F124
/-- `BUF_STATES(w)` (R120): . -/
def BUF_STATES (w : Nat) : Nat := 0x4005F200 + 4 * w
/-- `BUF_RETIRED(w)` (R120): [31:0] RETIRED W1C. -/
def BUF_RETIRED (w : Nat) : Nat := 0x4005F300 + 4 * w
/-- `WRP_MESH_BASE` (R158): [31:6] BASE RWS. -/
def WRP_MESH_BASE (t : Nat) : Nat := 0x40061100 + 0x1000 * t
/-- `WRP_MESH_CRC` (R158): [31:0] CRC RWS. -/
def WRP_MESH_CRC (t : Nat) : Nat := 0x40061104 + 0x1000 * t
/-- `WRP_MESH_CFG` (R158): [0] CRC_EN RWS. -/
def WRP_MESH_CFG (t : Nat) : Nat := 0x40061108 + 0x1000 * t
/-- `WRP_GEOM` (R158): [30:28] CELL_SHIFT RO, [25:16] H_M1 RO, [9:0] W_M1 RO. -/
def WRP_GEOM (t : Nat) : Nat := 0x4006110C + 0x1000 * t
/-- `PHO_DTH_CTRL` (R159): [13:8] OY_STEP RWS, [7:2] OX_STEP RWS, [0] EN RWS. -/
def PHO_DTH_CTRL : Nat := 0x40068100
/-- `PHO_DTH_ADDR` (R159): [11:0] ADDR RW. -/
def PHO_DTH_ADDR : Nat := 0x40068104
/-- `PHO_DTH_DATA` (R159): [31:0] DATA RW. -/
def PHO_DTH_DATA : Nat := 0x40068108
/-- `PHO_RMAP_BASE` (R159): [31:6] BASE RW. -/
def PHO_RMAP_BASE : Nat := 0x40068110
/-- `PHO_RMAP_STAT` (R159): [24] FULL RO, [22:16] QUEUED RO, [14:0] COUNT RO. -/
def PHO_RMAP_STAT : Nat := 0x40068114
/-- `PHO_RMAP_CMD` (R159): [29:16] IDX WO, [15] MAKER WO, [2:0] OP WO. -/
def PHO_RMAP_CMD : Nat := 0x40068118
/-- `PHO_RMAP_CMD_STAT` (R159): [29:16] IDX RO, [3:0] RESULT RO. -/
def PHO_RMAP_CMD_STAT : Nat := 0x4006811C
/-- `PHO_RMAP_E0` (R159): [31:0] WORD RW. -/
def PHO_RMAP_E0 : Nat := 0x40068120
/-- `PHO_RMAP_E1` (R159): [31:0] WORD RW. -/
def PHO_RMAP_E1 : Nat := 0x40068124
/-- `PHO_RMAP_E2` (R159): [31:0] WORD RW. -/
def PHO_RMAP_E2 : Nat := 0x40068128
/-- `PHO_RMAP_E3` (R159): [31:0] WORD RW. -/
def PHO_RMAP_E3 : Nat := 0x4006812C
/-- `PHO_RMAP_DEFW` (R159): [15:8] DIRS RW, [7:0] WEIGHT RW. -/
def PHO_RMAP_DEFW : Nat := 0x40068130
/-- `PHO_DOSE_CTRL` (R159): [1] SNAP_HOURLY RWS, [0] EN RWS. -/
def PHO_DOSE_CTRL : Nat := 0x40068140
/-- `PHO_DOSE_UNIT` (R159): [15:0] UNIT RWL. -/
def PHO_DOSE_UNIT : Nat := 0x40068144
/-- `PHO_DOSE_K` (R159): [31:0] K RO. -/
def PHO_DOSE_K : Nat := 0x40068148
/-- `PHO_FB_FRAMES` (R159): [31:0] FRAMES RO. -/
def PHO_FB_FRAMES : Nat := 0x4006814C
/-- `PHO_SNAP_BASE` (R159): [31:6] BASE RWL. -/
def PHO_SNAP_BASE : Nat := 0x40068150
/-- `PHO_SNAP_CMD` (R159): [1] RESTORE WO, [0] SNAP WO. -/
def PHO_SNAP_CMD : Nat := 0x40068154
/-- `PHO_SNAP_STAT` (R159): [15:8] MISSING RO, [7:4] RESULT RO, [1] DEFERRED RO, [0] BUSY RO. -/
def PHO_SNAP_STAT : Nat := 0x40068158
/-- `PHO_SNAP_SEQ` (R159): [31:0] SEQ RO. -/
def PHO_SNAP_SEQ : Nat := 0x4006815C
/-- `PHO_LOCK` (R159): [0] LOCK W1S. -/
def PHO_LOCK : Nat := 0x400681FC
/-- `PHO_STAT_CLAMP_HW` (R160): [31:0] RO. -/
def PHO_STAT_CLAMP_HW (t : Nat) : Nat := 0x40069040 + 0x1000 * t
/-- `PHO_STAT_CLAMP_TH` (R160): [31:0] RO. -/
def PHO_STAT_CLAMP_TH (t : Nat) : Nat := 0x40069044 + 0x1000 * t
/-- `PHO_STAT_OFF` (R160): [31:0] RO. -/
def PHO_STAT_OFF (t : Nat) : Nat := 0x40069048 + 0x1000 * t
/-- `PHO_STAT_BOOSTED` (R160): [31:0] RO. -/
def PHO_STAT_BOOSTED (t : Nat) : Nat := 0x4006904C + 0x1000 * t
/-- `PHO_STAT_SAT` (R160): [31:0] RO. -/
def PHO_STAT_SAT (t : Nat) : Nat := 0x40069050 + 0x1000 * t
/-- `PHO_STAT_DOSE_SAT` (R160): [31:0] RO. -/
def PHO_STAT_DOSE_SAT (t : Nat) : Nat := 0x40069054 + 0x1000 * t
/-- `PHO_GAIN_BASE` (R160): [31:6] BASE RWS. -/
def PHO_GAIN_BASE (t : Nat) : Nat := 0x40069100 + 0x1000 * t
/-- `PHO_DOSE_BASE` (R160): [31:6] BASE RW. -/
def PHO_DOSE_BASE (t : Nat) : Nat := 0x40069104 + 0x1000 * t
/-- `PHO_HWLIMIT` (R160): [11:0] LIMIT RWL. -/
def PHO_HWLIMIT (t : Nat) : Nat := 0x40069108 + 0x1000 * t
/-- `PHO_LOOP_SEL` (R160): [12] PH_EN RWS, [11:8] PH_LOOP RWS, [4] TH_EN RWS, [3:0] TH_LOOP RWS. -/
def PHO_LOOP_SEL (t : Nat) : Nat := 0x4006910C + 0x1000 * t
/-- `PHO_GAIN_FIXED` (R160): [15:0] GAIN RWS. -/
def PHO_GAIN_FIXED (t : Nat) : Nat := 0x40069110 + 0x1000 * t
/-- `PHO_GAIN_LIM` (R160): [31:16] MAX RWL, [15:0] MIN RWL. -/
def PHO_GAIN_LIM (t : Nat) : Nat := 0x40069114 + 0x1000 * t
/-- `PHO_TH_FAILSAFE` (R160): [11:0] CEIL RWL. -/
def PHO_TH_FAILSAFE (t : Nat) : Nat := 0x40069118 + 0x1000 * t
/-- `PHO_IN_USE` (R160): [31:16] GAIN RO, [11:0] CEIL RO. -/
def PHO_IN_USE (t : Nat) : Nat := 0x4006911C + 0x1000 * t
/-- `PHO_AGE(k)` (R160): [15:0] GAIN RWS. -/
def PHO_AGE (t k : Nat) : Nat := 0x40069200 + 0x1000 * t + 4 * k
/-- `GLM_STAT_OBJ` (R190): [8:0] USED RO, [24:16] DROPPED RO. -/
def GLM_STAT_OBJ : Nat := 0x40070040
/-- `GLM_STAT_LATE` (R190): [7:0] LATE RO, [15:8] DARK RO, [23:16] SUPERSEDED RO. -/
def GLM_STAT_LATE : Nat := 0x40070044
/-- `GLM_STAT_CUT` (R190): [31:0] RO. -/
def GLM_STAT_CUT : Nat := 0x40070048
/-- `GLM_STAT_BANDSRC(t)` (R190): [31:0] RO. -/
def GLM_STAT_BANDSRC (t : Nat) : Nat := 0x40070050 + 4 * t
/-- `GLM_CFG` (R190): [10:8] POOL_LAYER RWS, [6] CH0_VIN RWS, [5:4] CH_EN RWS, [2] POOL_EN RWS, [1] PRIV_EN RWS, [0] GLARE_EN RWS. -/
def GLM_CFG : Nat := 0x40070100
/-- `GLM_LAMP_X` (R190): [31:0] POS RWS. -/
def GLM_LAMP_X : Nat := 0x40070104
/-- `GLM_LAMP_Y` (R190): [31:0] POS RWS. -/
def GLM_LAMP_Y : Nat := 0x40070108
/-- `GLM_LAMP_Z` (R190): [31:0] POS RWS. -/
def GLM_LAMP_Z : Nat := 0x4007010C
/-- `GLM_KIND(k)` (R190): [31:16] MARGIN RWS, [7:0] FLOOR RWS. -/
def GLM_KIND (k : Nat) : Nat := 0x40070110 + 4 * k
/-- `GLM_SOFT` (R190): [23:16] GROW RWS, [15:0] SOFT RWS. -/
def GLM_SOFT : Nat := 0x4007011C
/-- `GLM_TIMING` (R190): [25:16] STEP_US RWS, [9:0] WAIT_US RWS. -/
def GLM_TIMING : Nat := 0x40070120
/-- `GLM_LATE_LEVEL` (R190): [7:0] LEVEL RWS. -/
def GLM_LATE_LEVEL : Nat := 0x40070124
/-- `GLM_LIST_BASE` (R190): [31:6] BASE RW. -/
def GLM_LIST_BASE : Nat := 0x40070128
/-- `GLM_POST` (R190): [2:0] SLOT WO. -/
def GLM_POST : Nat := 0x4007012C
/-- `GLM_SLOT_STATE` (R190): . -/
def GLM_SLOT_STATE : Nat := 0x40070130
/-- `GLM_LIST_REJ` (R190): [31:16] TICK_LO16 RO, [10:8] SLOT RO, [3:0] REASON RO. -/
def GLM_LIST_REJ : Nat := 0x40070134
/-- `GLM_STATIC_BASE` (R190): [31:5] BASE RWS. -/
def GLM_STATIC_BASE : Nat := 0x40070138
/-- `GLM_CONS_BASE` (R190): [31:5] BASE RWS. -/
def GLM_CONS_BASE : Nat := 0x4007013C
/-- `GLM_TABLE_CNT` (R190): [23:16] CONS_CNT RWS, [6:0] STATIC_CNT RWS. -/
def GLM_TABLE_CNT : Nat := 0x40070140
/-- `GLM_CH_LANES` (R190): [15:8] CH1 RWS, [7:0] CH0 RWS. -/
def GLM_CH_LANES : Nat := 0x40070144
/-- `GLM_CONS_FORCE` (R190): [7:0] LANES RW. -/
def GLM_CONS_FORCE : Nat := 0x40070148
/-- `GLM_CH_STAT` (R190): [23:16] IN_FORCE RO, [6:4] CH1 RO, [2:0] CH0 RO. -/
def GLM_CH_STAT : Nat := 0x4007014C
/-- `GLM_PLANE_BASE(t)` (R190): [31:6] BASE RWS. -/
def GLM_PLANE_BASE (t : Nat) : Nat := 0x40070150 + 4 * t
/-- `GLM_PRIV_BASE(t)` (R190): [31:6] BASE RWS. -/
def GLM_PRIV_BASE (t : Nat) : Nat := 0x40070160 + 4 * t
/-- `GLM_POOL_BUF` (R190): [29:24] FENCE RWS, [23:0] E2, E1, E0 RWS. -/
def GLM_POOL_BUF : Nat := 0x40070170
/-- `GLM_BEAM_SEL` (R190): [7:0] ENGINES RW. -/
def GLM_BEAM_SEL : Nat := 0x40070174
/-- `SCN_TIMING` (R238): [28:16] RATE_DHZ RWS, [2:0] MODE RWS. -/
def SCN_TIMING : Nat := 0x40080100
/-- `SCN_SYNC` (R238): [25:16] WIN_US RWS, [15:8] DIV_M1 RWS, [1:0] SRC RWS. -/
def SCN_SYNC : Nat := 0x40080104
/-- `SCN_SYNC_OUT` (R238): [31:16] OFFSET RWS, [15:8] WIDTH_US RWS, [0] EN RWS. -/
def SCN_SYNC_OUT : Nat := 0x40080108
/-- `SCN_SWAP_GUARD` (R238): [9:0] S_US RWS. -/
def SCN_SWAP_GUARD : Nat := 0x4008010C
/-- `SCN_ARR` (R238): [11:8] TILE_EN RW, [2:0] ARR RW. -/
def SCN_ARR : Nat := 0x40080110
/-- `SCN_TRANS_TICK` (R238): [31:0] VALUE RO. -/
def SCN_TRANS_TICK : Nat := 0x40080114
/-- `SCN_TRANS_LEN` (R238): [31:0] VALUE RO. -/
def SCN_TRANS_LEN : Nat := 0x40080118
/-- `SCN_FB_BASE` (R238): [31:5] BASE RWL. -/
def SCN_FB_BASE : Nat := 0x40080120
/-- `SCN_FB_CTRL` (R238): [7:0] REFRESH RWS. -/
def SCN_FB_CTRL : Nat := 0x40080124
/-- `SCN_FB_UNIFORM` (R238): [11:0] CODE RWL. -/
def SCN_FB_UNIFORM : Nat := 0x40080128
/-- `SCN_FB_STAT` (R238): . -/
def SCN_FB_STAT : Nat := 0x4008012C
/-- `SCN_LOCK` (R238): [0] LOCK W1S. -/
def SCN_LOCK : Nat := 0x400801FC
/-- `SCN_STAT_LINES` (R239): [15:0] SENT RO, [31:16] UNDERRUN RO. -/
def SCN_STAT_LINES (t : Nat) : Nat := 0x40081040 + 0x1000 * t
/-- `SCN_STAT_FRAME_CRC` (R239): [31:0] RO. -/
def SCN_STAT_FRAME_CRC (t : Nat) : Nat := 0x40081044 + 0x1000 * t
/-- `SCN_STAT_STATIC` (R239): [15:0] PASS RO, [31:16] FAIL RO. -/
def SCN_STAT_STATIC (t : Nat) : Nat := 0x40081048 + 0x1000 * t
/-- `SCN_STAT_STATIC_SKIP` (R239): [15:0] RO. -/
def SCN_STAT_STATIC_SKIP (t : Nat) : Nat := 0x4008104C + 0x1000 * t
/-- `SCN_STAT_DIVERSE` (R239): [15:0] PASS RO, [31:16] FAIL RO. -/
def SCN_STAT_DIVERSE (t : Nat) : Nat := 0x40081050 + 0x1000 * t
/-- `SCN_STAT_DIV_SKIP` (R239): [15:0] RO. -/
def SCN_STAT_DIV_SKIP (t : Nat) : Nat := 0x40081054 + 0x1000 * t
/-- `SCN_TILE_BGCODE` (R239): [11:0] CODE RWS. -/
def SCN_TILE_BGCODE (t : Nat) : Nat := 0x40081100 + 0x1000 * t
/-- `SCN_RECT_EN` (R239): [15:0] EN RWS. -/
def SCN_RECT_EN (t : Nat) : Nat := 0x40081104 + 0x1000 * t
/-- `SCN_RECT_SKIP_MAX` (R239): [15:0] FRAMES RWS. -/
def SCN_RECT_SKIP_MAX (t : Nat) : Nat := 0x40081108 + 0x1000 * t
/-- `SCN_RECT_POS(r)` (R239): [25:16] V0 or H_M1 RWS, [9:0] U0 or W_M1 RWS. -/
def SCN_RECT_POS (t r : Nat) : Nat := 0x40081110 + 0x1000 * t + 16 * r
/-- `SCN_RECT_SIZE(r)` (R239): [25:16] V0 or H_M1 RWS, [9:0] U0 or W_M1 RWS. -/
def SCN_RECT_SIZE (t r : Nat) : Nat := 0x40081114 + 0x1000 * t + 16 * r
/-- `SCN_RECT_CFG(r)` (R239): [27:16] THR RWS, [15:8] FUNC RWS, [1] FORM RWS, [0] MODE RWS. -/
def SCN_RECT_CFG (t r : Nat) : Nat := 0x40081118 + 0x1000 * t + 16 * r
/-- `SCN_RECT_CALC(r)` (R239): [31:0] CRC RO. -/
def SCN_RECT_CALC (t r : Nat) : Nat := 0x4008111C + 0x1000 * t + 16 * r
/-- `SCN_RECT_EXP_A(r)` (R239): [31:0] CRC RWS. -/
def SCN_RECT_EXP_A (t r : Nat) : Nat := 0x40081300 + 0x1000 * t + 16 * r
/-- `SCN_RECT_EXP_B(r)` (R239): [31:0] CRC RWS. -/
def SCN_RECT_EXP_B (t r : Nat) : Nat := 0x40081304 + 0x1000 * t + 16 * r
/-- `SCN_RECT_BIND(r)` (R239): [31] BIND RWS, [26:24] LAYER RWS, [15:8] BUF_B RWS, [7:0] BUF_A RWS. -/
def SCN_RECT_BIND (t r : Nat) : Nat := 0x40081308 + 0x1000 * t + 16 * r
/-- `SCN_RECT_RES(r)` (R239): [31:16] TICK_LO16 RO, [2:0] RESULT RO. -/
def SCN_RECT_RES (t r : Nat) : Nat := 0x4008130C + 0x1000 * t + 16 * r
/-- `SCN_RECT_DIV(r)` (R239): [31:0] CRC RW. -/
def SCN_RECT_DIV (t r : Nat) : Nat := 0x40081400 + 0x1000 * t + 16 * r
/-- `SCN_RECT_DIV_TAG(r)` (R239): [15:0] TAG RW. -/
def SCN_RECT_DIV_TAG (t r : Nat) : Nat := 0x40081404 + 0x1000 * t + 16 * r
/-- `SPL_ACK_TIMEOUT` (R240): [9:0] US RW. -/
def SPL_ACK_TIMEOUT : Nat := 0x40088100
/-- `SPL_RING_BASE` (R240): [31:6] BASE RW. -/
def SPL_RING_BASE : Nat := 0x40088104
/-- `SPL_RING_SIZE` (R240): [10:0] KIB RW. -/
def SPL_RING_SIZE : Nat := 0x40088108
/-- `SPL_RING_WR` (R240): [19:0] OFS RO. -/
def SPL_RING_WR : Nat := 0x4008810C
/-- `SPL_RING_RD` (R240): [19:0] OFS RW. -/
def SPL_RING_RD : Nat := 0x40088110
/-- `SPL_STAT_CV` (R241): [31:0] RO. -/
def SPL_STAT_CV (t : Nat) : Nat := 0x40089040 + 0x1000 * t
/-- `SPL_STAT_RX` (R241): [15:0] GOOD RO, [31:16] BAD RO. -/
def SPL_STAT_RX (t : Nat) : Nat := 0x40089044 + 0x1000 * t
/-- `SPL_STAT_TILE` (R241): [15:0] CODE_BAD RO, [31:16] HELD RO. -/
def SPL_STAT_TILE (t : Nat) : Nat := 0x40089048 + 0x1000 * t
/-- `SPL_STAT_CTRL` (R241): [7:0] SENT RO, [15:8] RETRIES RO, [23:16] FAILS RO. -/
def SPL_STAT_CTRL (t : Nat) : Nat := 0x4008904C + 0x1000 * t
/-- `SPL_STAT_ALIVE` (R241): [15:0] REPEAT RO, [31:16] GAP RO. -/
def SPL_STAT_ALIVE (t : Nat) : Nat := 0x40089050 + 0x1000 * t
/-- `SPL_STAT_DIAG` (R241): [23:0] BYTES RO, [31:24] LATE RO. -/
def SPL_STAT_DIAG (t : Nat) : Nat := 0x40089054 + 0x1000 * t
/-- `SPL_LANE_CFG` (R241): [19:16] INV RW, [9:8] RATE_MAX RW, [3:0] LANE_MAX RW. -/
def SPL_LANE_CFG (t : Nat) : Nat := 0x40089100 + 0x1000 * t
/-- `SPL_CTRL_ADDR` (R241): [31:0] VALUE RW. -/
def SPL_CTRL_ADDR (t : Nat) : Nat := 0x40089104 + 0x1000 * t
/-- `SPL_CTRL_WDATA` (R241): [31:0] VALUE RW. -/
def SPL_CTRL_WDATA (t : Nat) : Nat := 0x40089108 + 0x1000 * t
/-- `SPL_CTRL_RDATA` (R241): [31:0] VALUE RO. -/
def SPL_CTRL_RDATA (t : Nat) : Nat := 0x40089114 + 0x1000 * t
/-- `SPL_CTRL_CMD` (R241): [31] GO W1S, [7:0] CMD RW. -/
def SPL_CTRL_CMD (t : Nat) : Nat := 0x4008910C + 0x1000 * t
/-- `SPL_CTRL_STAT` (R241): [15:8] STATUS RO, [7:4] TRIES RO, [1:0] STATE RO. -/
def SPL_CTRL_STAT (t : Nat) : Nat := 0x40089110 + 0x1000 * t
/-- `SPL_ALIVE` (R241): [15:8] RX RO, [7:0] TX RO. -/
def SPL_ALIVE (t : Nat) : Nat := 0x40089118 + 0x1000 * t
/-- `SPL_RETRAINS` (R241): [31:16] RESETS RO, [15:0] RETRAINS RO. -/
def SPL_RETRAINS (t : Nat) : Nat := 0x4008911C + 0x1000 * t
/-- `SPL_CV_TOTAL(l)` (R241): [15:0] COUNT RW. -/
def SPL_CV_TOTAL (t l : Nat) : Nat := 0x40089120 + 0x1000 * t + 4 * l
/-- `SPL_EXP_HASH(w)` (R241): [31:0] HASH RWL. -/
def SPL_EXP_HASH (t w : Nat) : Nat := 0x40089140 + 0x1000 * t + 4 * w
/-- `SPL_LOCK` (R241): [0] LOCK W1S. -/
def SPL_LOCK (t : Nat) : Nat := 0x400891FC + 0x1000 * t
/-- `SPL_ENUM(w)` (R241): [31:0] WORD RO. -/
def SPL_ENUM (t w : Nat) : Nat := 0x40089200 + 0x1000 * t + 4 * w
/-- `DRV_STAT_VERIFIED(t)` (R274): [31:0] RO. -/
def DRV_STAT_VERIFIED (t : Nat) : Nat := 0x40090040 + 4 * t
/-- `DRV_STAT_PROBE(t)` (R274): [31:0] RO. -/
def DRV_STAT_PROBE (t : Nat) : Nat := 0x40090050 + 4 * t
/-- `DRV_STAT_DEF` (R274): [15:0] REPORTS RO, [31:16] NEW RO. -/
def DRV_STAT_DEF : Nat := 0x40090060
/-- `DRV_SEQ_ORDER(w)` (R274): [31:0] ORDER RWS. -/
def DRV_SEQ_ORDER (w : Nat) : Nat := 0x40090100 + 4 * w
/-- `DRV_SEQ_CFG` (R274): [31:24] SEQ_ID RO, [21:16] MERGE_MIN RWS, [11:0] MERGE_THR RWS. -/
def DRV_SEQ_CFG : Nat := 0x40090140
/-- `DRV_PROBE_CFG` (R274): [15:8] SKEW RWS, [3:0] GN_LOG2 RWS. -/
def DRV_PROBE_CFG : Nat := 0x40090144
/-- `DRV_PROBE_STAT` (R274): [8:0] GN_EFF RO. -/
def DRV_PROBE_STAT : Nat := 0x40090148
/-- `DRV_PROBE_UNITS(t)` (R274): [31:16] MIN_PULSE RO, [7:0] UNITS RO. -/
def DRV_PROBE_UNITS (t : Nat) : Nat := 0x40090150 + 4 * t
/-- `DRV_COVER_AGE(t)` (R274): [31:0] AGE_US RO. -/
def DRV_COVER_AGE (t : Nat) : Nat := 0x40090160 + 4 * t
/-- `DRV_FP_BASE(t)` (R274): [31:6] BASE RWS. -/
def DRV_FP_BASE (t : Nat) : Nat := 0x40090170 + 4 * t
/-- `DRV_TILE_VF(t)` (R274): [31:16] SAMPLES RO, [15:0] MV RO. -/
def DRV_TILE_VF (t : Nat) : Nat := 0x40090180 + 4 * t
/-- `DRV_DEF_COUNT` (R274): [9:0] COUNT RO. -/
def DRV_DEF_COUNT : Nat := 0x40090190
/-- `DRV_DEF_CMD` (R274): [31] DELETE WO, [8:0] IDX WO. -/
def DRV_DEF_CMD : Nat := 0x40090194
/-- `DRV_LOCK` (R274): [0] LOCK W1S. -/
def DRV_LOCK : Nat := 0x400901FC
/-- `DRV_TILE_TEMP(t, s)` (R274): [31:16] TICK_LO16 RO, [15:0] TEMP RO. -/
def DRV_TILE_TEMP (t s : Nat) : Nat := 0x40090200 + 32 * t + 4 * s
/-- `DRV_FN_CFG(f)` (R274): [23:16] TOL RWL, [15:8] ALPHA_MIN RWS, [3:1] LAYER RWS, [0] EN RWS. -/
def DRV_FN_CFG (f : Nat) : Nat := 0x40090400 + 16 * f
/-- `DRV_FN_WIN_I(f)` (R274): [31:16] I1 or J1 RWS, [15:0] I0 or J0 RWS. -/
def DRV_FN_WIN_I (f : Nat) : Nat := 0x40090404 + 16 * f
/-- `DRV_FN_WIN_J(f)` (R274): [31:16] I1 or J1 RWS, [15:0] I0 or J0 RWS. -/
def DRV_FN_WIN_J (f : Nat) : Nat := 0x40090408 + 16 * f
/-- `DRV_FN_STAT(f)` (R274): [31:16] TICK_LO16 RO, [15:8] DEFECTS RO, [3:1] CAUSE RO, [0] OFF RO. -/
def DRV_FN_STAT (f : Nat) : Nat := 0x4009040C + 16 * f
/-- `DRV_FN_OFF` (R274): [31:0] FN RO. -/
def DRV_FN_OFF : Nat := 0x40090600
/-- `DRV_FN_KILL` (R274): [31:0] FN W1S. -/
def DRV_FN_KILL : Nat := 0x40090604
/-- `DRV_FN_CLEAR` (R274): [31:0] FN W1S. -/
def DRV_FN_CLEAR : Nat := 0x40090608
/-- `DRV_DEF(e)` (R274): [31:24] FUNC RO, [23] COUNTED RO, [22] TYPE RO, [21:20] TILE RO, [19:10] V RO, [9:0] U RO. -/
def DRV_DEF (e : Nat) : Nat := 0x40090800 + 4 * e
/-- `PAT_RUN` (R275): [15:0] RUN RWS. -/
def PAT_RUN : Nat := 0x40098100
/-- `PAT_FLAGS` (R275): [15] ALWAYS RO, [14:0] FLAGS RW. -/
def PAT_FLAGS : Nat := 0x40098104
/-- `PAT_PROG_ADDR` (R275): [11:0] ADDR RW. -/
def PAT_PROG_ADDR : Nat := 0x40098108
/-- `PAT_PROG_DATA` (R275): [31:0] DATA RW. -/
def PAT_PROG_DATA : Nat := 0x4009810C
/-- `PAT_K_ADDR` (R275): [8:0] ADDR RW. -/
def PAT_K_ADDR : Nat := 0x40098110
/-- `PAT_K_DATA` (R275): [31:0] DATA RWS. -/
def PAT_K_DATA : Nat := 0x40098114
/-- `PAT_PHASE(s)` (R275): [31:0] PHASE_US RWS. -/
def PAT_PHASE (s : Nat) : Nat := 0x40098140 + 4 * s
/-- `PAT_OUT(s, o)` (R275): [15:8] PAL RWS, [6:4] LAYER RWS, [3:1] KIND RWS, [0] EN RWS. -/
def PAT_OUT (s o : Nat) : Nat := 0x40098180 + 16 * s + 4 * o
/-- `PAT_STATE(s)` (R275): [31:16] REMAIN RO, [15:12] ERR RO, [10:8] STATE RO, [7:0] PC RO. -/
def PAT_STATE (s : Nat) : Nat := 0x40098280 + 4 * s
/-- `PAT_V(s, r)` (R275): [31:0] V RO. -/
def PAT_V (s r : Nat) : Nat := 0x40098300 + 16 * s + 4 * r
/-- `CTL_LOOP_STAT_ENERGY` (R336): [31:0] RO. -/
def CTL_LOOP_STAT_ENERGY (k : Nat) : Nat := 0x400A1040 + 0x1000 * k
/-- `CTL_LOOP_STAT_SAMPLES` (R336): [15:0] SAMPLES RO, [31:16] OVERRUNS RO. -/
def CTL_LOOP_STAT_SAMPLES (k : Nat) : Nat := 0x400A1044 + 0x1000 * k
/-- `CTL_LOOP_STAT_SAT` (R336): [15:0] CMD RO, [31:16] ACC RO. -/
def CTL_LOOP_STAT_SAT (k : Nat) : Nat := 0x400A1048 + 0x1000 * k
/-- `CTL_LOOP_STAT_RES` (R336): [31:0] RO. -/
def CTL_LOOP_STAT_RES (k : Nat) : Nat := 0x400A104C + 0x1000 * k
/-- `CTL_LOOP_CFG` (R336): [25:24] COMP RWS, [21:20] NR_M1 RWS, [17:16] NU_M1 RWS, [13:12] NY_M1 RWS, [10:8] NX_M1 RWS, [5:4] TILE RWS, [3:1] KIND RWS, [0] RUN RWS. -/
def CTL_LOOP_CFG (k : Nat) : Nat := 0x400A1100 + 0x1000 * k
/-- `CTL_LOOP_SPF` (R336): [24:16] OFS RWS, [14:0] SPF RWS. -/
def CTL_LOOP_SPF (k : Nat) : Nat := 0x400A1104 + 0x1000 * k
/-- `CTL_LOOP_PLAUS` (R336): [15:0] M_RES RWS. -/
def CTL_LOOP_PLAUS (k : Nat) : Nat := 0x400A1108 + 0x1000 * k
/-- `CTL_LOOP_CMD` (R336): [5] CAP_TRIG W1S, [4] CAP_ARM W1S, [3] INJ_STOP W1S, [2] INJ_START W1S, [1] RESUME W1S, [0] HOLD W1S. -/
def CTL_LOOP_CMD (k : Nat) : Nat := 0x400A110C + 0x1000 * k
/-- `CTL_LOOP_FLAGS` (R336): [7:4] U_SAT W1C, [3:0] SP_CLAMP W1C. -/
def CTL_LOOP_FLAGS (k : Nat) : Nat := 0x400A1110 + 0x1000 * k
/-- `CTL_LOOP_EST_CFG` (R336): [2:0] EST_STATE RWS. -/
def CTL_LOOP_EST_CFG (k : Nat) : Nat := 0x400A1114 + 0x1000 * k
/-- `CTL_LOOP_EST_GAIN` (R336): [31:0] GAIN RWS. -/
def CTL_LOOP_EST_GAIN (k : Nat) : Nat := 0x400A1118 + 0x1000 * k
/-- `CTL_LOOP_EST` (R336): [16] VALID RO, [15:0] EST RO. -/
def CTL_LOOP_EST (k : Nat) : Nat := 0x400A111C + 0x1000 * k
/-- `CTL_LOOP_E_CFG` (R336): [5:4] I_MEAS RWS, [1:0] V_MEAS RWS. -/
def CTL_LOOP_E_CFG (k : Nat) : Nat := 0x400A1120 + 0x1000 * k
/-- `CTL_LOOP_E_SCALE` (R336): [31:0] SCALE RWS. -/
def CTL_LOOP_E_SCALE (k : Nat) : Nat := 0x400A1124 + 0x1000 * k
/-- `CTL_LOOP_COMP_CFG` (R336): [13:12] RC_CMD RWS, [9:8] RC_MEAS RWS, [5:4] RC_REF RWS, [2:1] NOTCH_IDX RWS, [0] NOTCH_PT RWS. -/
def CTL_LOOP_COMP_CFG (k : Nat) : Nat := 0x400A1128 + 0x1000 * k
/-- `CTL_LOOP_RC_LEAD` (R336): [13:0] D RWS. -/
def CTL_LOOP_RC_LEAD (k : Nat) : Nat := 0x400A112C + 0x1000 * k
/-- `CTL_LOOP_RC_STAT` (R336): [29:16] LEN RO, [6:0] FADE RO. -/
def CTL_LOOP_RC_STAT (k : Nat) : Nat := 0x400A1130 + 0x1000 * k
/-- `CTL_LOOP_RC_ADDR` (R336): [13:0] ADDR RW. -/
def CTL_LOOP_RC_ADDR (k : Nat) : Nat := 0x400A1134 + 0x1000 * k
/-- `CTL_LOOP_RC_DATA` (R336): [31:0] DATA RW. -/
def CTL_LOOP_RC_DATA (k : Nat) : Nat := 0x400A1138 + 0x1000 * k
/-- `CTL_LOOP_SP(j)` (R336): [31:0] SP RW. -/
def CTL_LOOP_SP (k j : Nat) : Nat := 0x400A1140 + 0x1000 * k + 32 * j
/-- `CTL_LOOP_SP_MIN(j)` (R336): [31:0] RWS. -/
def CTL_LOOP_SP_MIN (k j : Nat) : Nat := 0x400A1144 + 0x1000 * k + 32 * j
/-- `CTL_LOOP_SP_MAX(j)` (R336): [31:0] RWS. -/
def CTL_LOOP_SP_MAX (k j : Nat) : Nat := 0x400A1148 + 0x1000 * k + 32 * j
/-- `CTL_LOOP_RISE(j)` (R336): [31:0] RWS. -/
def CTL_LOOP_RISE (k j : Nat) : Nat := 0x400A114C + 0x1000 * k + 32 * j
/-- `CTL_LOOP_FALL(j)` (R336): [31:0] RWS. -/
def CTL_LOOP_FALL (k j : Nat) : Nat := 0x400A1150 + 0x1000 * k + 32 * j
/-- `CTL_LOOP_R_START(j)` (R336): [31:0] RWS. -/
def CTL_LOOP_R_START (k j : Nat) : Nat := 0x400A1154 + 0x1000 * k + 32 * j
/-- `CTL_LOOP_HOLD_SP(j)` (R336): [31:0] RWS. -/
def CTL_LOOP_HOLD_SP (k j : Nat) : Nat := 0x400A1158 + 0x1000 * k + 32 * j
/-- `CTL_LOOP_RSRC(j)` (R336): [9:8] CMD RWS, [7:4] LOOP RWS, [0] SRC RWS. -/
def CTL_LOOP_RSRC (k j : Nat) : Nat := 0x400A115C + 0x1000 * k + 32 * j
/-- `CTL_LOOP_MSRC(i)` (R336): [20:16] SHL RWS, [14:12] SENSOR RWS, [11:8] IDX RWS, [2:0] SRC RWS. -/
def CTL_LOOP_MSRC (k i : Nat) : Nat := 0x400A11C0 + 0x1000 * k + 16 * i
/-- `CTL_LOOP_MOFS(i)` (R336): [31:0] RWS. -/
def CTL_LOOP_MOFS (k i : Nat) : Nat := 0x400A11C4 + 0x1000 * k + 16 * i
/-- `CTL_LOOP_RESB(i)` (R336): [31:0] RWS. -/
def CTL_LOOP_RESB (k i : Nat) : Nat := 0x400A11C8 + 0x1000 * k + 16 * i
/-- `CTL_LOOP_FRZ(i)` (R336): [17:16] WATCH_CMD RWS, [15:0] S_FRZ RWS. -/
def CTL_LOOP_FRZ (k i : Nat) : Nat := 0x400A11CC + 0x1000 * k + 16 * i
/-- `CTL_LOOP_U_MIN(j)` (R336): [31:0] RWS. -/
def CTL_LOOP_U_MIN (k j : Nat) : Nat := 0x400A1200 + 0x1000 * k + 32 * j
/-- `CTL_LOOP_U_MAX(j)` (R336): [31:0] RWS. -/
def CTL_LOOP_U_MAX (k j : Nat) : Nat := 0x400A1204 + 0x1000 * k + 32 * j
/-- `CTL_LOOP_HOLD_UMAX(j)` (R336): [31:0] RWS. -/
def CTL_LOOP_HOLD_UMAX (k j : Nat) : Nat := 0x400A1208 + 0x1000 * k + 32 * j
/-- `CTL_LOOP_FF_CFG(j)` (R336): [9:8] CMD RWS, [7:4] LOOP RWS, [1:0] SRC RWS. -/
def CTL_LOOP_FF_CFG (k j : Nat) : Nat := 0x400A120C + 0x1000 * k + 32 * j
/-- `CTL_LOOP_FF_CONST(j)` (R336): [31:0] RWS. -/
def CTL_LOOP_FF_CONST (k j : Nat) : Nat := 0x400A1210 + 0x1000 * k + 32 * j
/-- `CTL_LOOP_MOVE_MIN(j)` (R336): [31:0] RWS. -/
def CTL_LOOP_MOVE_MIN (k j : Nat) : Nat := 0x400A1214 + 0x1000 * k + 32 * j
/-- `CTL_LOOP_X_HAT(i)` (R336): [31:0] RO. -/
def CTL_LOOP_X_HAT (k i : Nat) : Nat := 0x400A1280 + 0x1000 * k + 4 * i
/-- `CTL_LOOP_X_INIT(i)` (R336): [31:0] RWS. -/
def CTL_LOOP_X_INIT (k i : Nat) : Nat := 0x400A12A0 + 0x1000 * k + 4 * i
/-- `CTL_LOOP_Y(i)` (R336): [31:0] RO. -/
def CTL_LOOP_Y (k i : Nat) : Nat := 0x400A12C0 + 0x1000 * k + 4 * i
/-- `CTL_LOOP_U(j)` (R336): [31:0] RO. -/
def CTL_LOOP_U (k j : Nat) : Nat := 0x400A12D0 + 0x1000 * k + 4 * j
/-- `CTL_LOOP_R(j)` (R336): [31:0] RO. -/
def CTL_LOOP_R (k j : Nat) : Nat := 0x400A12E0 + 0x1000 * k + 4 * j
/-- `CTL_LOOP_E(i)` (R336): [31:0] RO. -/
def CTL_LOOP_E (k i : Nat) : Nat := 0x400A12F0 + 0x1000 * k + 4 * i
/-- `CTL_LOOP_INJ_CFG` (R336): [31:16] HOLD_N RWS, [12:8] ORDER RWS, [5:4] IDX RWS, [2] POINT RWS, [1:0] WAVE RWS. -/
def CTL_LOOP_INJ_CFG (k : Nat) : Nat := 0x400A1300 + 0x1000 * k
/-- `CTL_LOOP_INJ_AMP` (R336): [31:0] AMP RWS. -/
def CTL_LOOP_INJ_AMP (k : Nat) : Nat := 0x400A1304 + 0x1000 * k
/-- `CTL_LOOP_INJ_INC0` (R336): [31:0] RWS. -/
def CTL_LOOP_INJ_INC0 (k : Nat) : Nat := 0x400A1308 + 0x1000 * k
/-- `CTL_LOOP_INJ_INC1` (R336): [31:0] RWS. -/
def CTL_LOOP_INJ_INC1 (k : Nat) : Nat := 0x400A130C + 0x1000 * k
/-- `CTL_LOOP_INJ_DINC` (R336): [31:0] RWS. -/
def CTL_LOOP_INJ_DINC (k : Nat) : Nat := 0x400A1310 + 0x1000 * k
/-- `CTL_LOOP_INJ_RUN` (R336): [27:24] STEPS_M1 RWS, [23:16] DWELL RWS, [15:0] CYCLES RWS. -/
def CTL_LOOP_INJ_RUN (k : Nat) : Nat := 0x400A1314 + 0x1000 * k
/-- `CTL_LOOP_INJ_STAT` (R336): [3:1] RESULT RO, [0] ACTIVE RO. -/
def CTL_LOOP_INJ_STAT (k : Nat) : Nat := 0x400A1318 + 0x1000 * k
/-- `CTL_LOOP_INJ_STEP(s)` (R336): [31:0] INC RWS. -/
def CTL_LOOP_INJ_STEP (k s : Nat) : Nat := 0x400A1340 + 0x1000 * k + 4 * s
/-- `CTL_LOOP_CAP_CFG` (R336): [27:25] TRIG RWS, [24] MODE RWS, [23:16] DEC_M1 RWS, [12:8] SIG_B RWS, [4:0] SIG_A RWS. -/
def CTL_LOOP_CAP_CFG (k : Nat) : Nat := 0x400A1380 + 0x1000 * k
/-- `CTL_LOOP_CAP_BASE` (R336): [31:3] BASE RWS. -/
def CTL_LOOP_CAP_BASE (k : Nat) : Nat := 0x400A1384 + 0x1000 * k
/-- `CTL_LOOP_CAP_LEN` (R336): [16:0] LEN RWS. -/
def CTL_LOOP_CAP_LEN (k : Nat) : Nat := 0x400A1388 + 0x1000 * k
/-- `CTL_LOOP_CAP_POST` (R336): [16:0] POST RWS. -/
def CTL_LOOP_CAP_POST (k : Nat) : Nat := 0x400A138C + 0x1000 * k
/-- `CTL_LOOP_CAP_TICK` (R336): [31:0] TICK RWS. -/
def CTL_LOOP_CAP_TICK (k : Nat) : Nat := 0x400A1390 + 0x1000 * k
/-- `CTL_LOOP_CAP_WR` (R336): [25] DONE RO, [24] WRAPPED RO, [16:0] IDX RO. -/
def CTL_LOOP_CAP_WR (k : Nat) : Nat := 0x400A1394 + 0x1000 * k
/-- `CTL_LOOP_COEF_VAL(e)` (R336): [31:0] VALUE RWS. -/
def CTL_LOOP_COEF_VAL (k e : Nat) : Nat := 0x400A1800 + 0x1000 * k + 8 * e
/-- `CTL_LOOP_COEF_SHIFT(e)` (R336): [4:0] SHIFT RWS. -/
def CTL_LOOP_COEF_SHIFT (k e : Nat) : Nat := 0x400A1804 + 0x1000 * k + 8 * e
/-- `PWM_CFG(o)` (R337): [23:16] PHASE RWS, [10] SRC RWS, [9:8] CMD RWS, [7:4] LOOP RWS, [3] IDLE RWS, [2] POL RWS, [1] MODE RWS, [0] EN RWS. -/
def PWM_CFG (o : Nat) : Nat := 0x400B1100 + 16 * o
/-- `PWM_PERIOD(o)` (R337): [19:0] COUNTS RWS. -/
def PWM_PERIOD (o : Nat) : Nat := 0x400B1104 + 16 * o
/-- `PWM_DUTY(o)` (R337): [15:0] DUTY RW. -/
def PWM_DUTY (o : Nat) : Nat := 0x400B1108 + 16 * o
/-- `PWM_MINON(o)` (R337): [11:0] STEPS RWS. -/
def PWM_MINON (o : Nat) : Nat := 0x400B110C + 16 * o
/-- `ADC_CH_CFG(c)` (R338): [2] INPUT RWS, [1:0] MODE RWS. -/
def ADC_CH_CFG (c : Nat) : Nat := 0x400B2100 + 16 * c
/-- `ADC_CH_LAST(c)` (R338): [31:16] TICK_LO16 RO, [11:0] CODE RO. -/
def ADC_CH_LAST (c : Nat) : Nat := 0x400B2104 + 16 * c
/-- `NRG_STAT_MODEL(t)` (R362): [31:0] RO. -/
def NRG_STAT_MODEL (t : Nat) : Nat := 0x400C0040 + 8 * t
/-- `NRG_STAT_MEAS(t)` (R362): [31:0] RO. -/
def NRG_STAT_MEAS (t : Nat) : Nat := 0x400C0044 + 8 * t
/-- `NRG_STAT_EVAL` (R362): [3:0] EVAL RO, [7:4] MISFRAME RO, [11:8] NO_TEMP RO, [16] LIMIT_SHORT RO. -/
def NRG_STAT_EVAL : Nat := 0x400C0060
/-- `NRG_STAT_U(c)` (R362): [31:0] RO. -/
def NRG_STAT_U (c : Nat) : Nat := 0x400C0064 + 4 * c
/-- `NRG_CFG` (R362): [5] MIS_EN RWS, [4] SCALE_EN RWS, [3:0] TILE_EN RWS. -/
def NRG_CFG : Nat := 0x400C0100
/-- `NRG_MIS_CFG` (R362): [31:16] DUR_MS RWS, [15:0] THR RWS. -/
def NRG_MIS_CFG : Nat := 0x400C0104
/-- `NRG_MIS_ABS` (R362): [15:0] ABS_MW RWS. -/
def NRG_MIS_ABS : Nat := 0x400C0108
/-- `NRG_PLIM` (R362): [31:0] MW RWS. -/
def NRG_PLIM : Nat := 0x400C010C
/-- `NRG_ECEIL` (R362): [31:0] UJ RWS. -/
def NRG_ECEIL : Nat := 0x400C0110
/-- `NRG_FLOOR1` (R362): [15:0] K RWS. -/
def NRG_FLOOR1 : Nat := 0x400C0114
/-- `NRG_ALLOW` (R362): [31:16] ALLOW3 RW, [15:0] ALLOW2 RW. -/
def NRG_ALLOW : Nat := 0x400C0118
/-- `NRG_ALLOW_SAFE` (R362): [31:16] ALLOW3 RWS, [15:0] ALLOW2 RWS. -/
def NRG_ALLOW_SAFE : Nat := 0x400C011C
/-- `NRG_RATE` (R362): [31:16] K_RISE RWS, [15:0] K_RAMP RWS. -/
def NRG_RATE : Nat := 0x400C0120
/-- `NRG_PLAN_CFG` (R362): [23:16] TIMEOUT_MIN RWS, [10:0] NIGHT_START RWS. -/
def NRG_PLAN_CFG : Nat := 0x400C0124
/-- `NRG_NIGHT_BUDGET` (R362): [31:0] WH RWS. -/
def NRG_NIGHT_BUDGET : Nat := 0x400C0128
/-- `NRG_ALLOW_EFF` (R362): [31:16] ALLOW3 RO, [15:0] ALLOW2 RO. -/
def NRG_ALLOW_EFF : Nat := 0x400C012C
/-- `NRG_PLAN_STAT` (R362): [15:8] MINUTES RO, [0] STALE RO. -/
def NRG_PLAN_STAT : Nat := 0x400C0130
/-- `NRG_LOCK` (R362): [0] LOCK W1S. -/
def NRG_LOCK : Nat := 0x400C013C
/-- `NRG_PLAN(k)` (R362): [15:0] SHARE RWS. -/
def NRG_PLAN (k : Nat) : Nat := 0x400C0140 + 4 * k
/-- `NRG_ACC_HOUR_LO` (R362): [31:0] LO RO. -/
def NRG_ACC_HOUR_LO : Nat := 0x400C0200
/-- `NRG_ACC_HOUR_HI` (R362): [31:0] LO RO. -/
def NRG_ACC_HOUR_HI : Nat := 0x400C0204
/-- `NRG_LAST_HOUR_LO` (R362): [31:0] RO. -/
def NRG_LAST_HOUR_LO : Nat := 0x400C0208
/-- `NRG_LAST_HOUR_HI` (R362): [31:0] RO. -/
def NRG_LAST_HOUR_HI : Nat := 0x400C020C
/-- `NRG_ACC_NIGHT_LO` (R362): [31:0] RO. -/
def NRG_ACC_NIGHT_LO : Nat := 0x400C0210
/-- `NRG_ACC_NIGHT_HI` (R362): [31:0] RO. -/
def NRG_ACC_NIGHT_HI : Nat := 0x400C0214
/-- `NRG_LAST_NIGHT_LO` (R362): [31:0] RO. -/
def NRG_LAST_NIGHT_LO : Nat := 0x400C0218
/-- `NRG_LAST_NIGHT_HI` (R362): [31:0] RO. -/
def NRG_LAST_NIGHT_HI : Nat := 0x400C021C
/-- `NRG_ACC_TOTAL_LO` (R362): [31:0] RO. -/
def NRG_ACC_TOTAL_LO : Nat := 0x400C0220
/-- `NRG_ACC_TOTAL_HI` (R362): [31:0] RO. -/
def NRG_ACC_TOTAL_HI : Nat := 0x400C0224
/-- `NRG_ACC_CTRL` (R362): [0] NIGHT_RESTART W1S. -/
def NRG_ACC_CTRL : Nat := 0x400C0230
/-- `NRG_MIS_STAT(t)` (R362): [31] SIGN RO, [30] ACTIVE RO, [15:0] RUN_MS RO. -/
def NRG_MIS_STAT (t : Nat) : Nat := 0x400C0240 + 4 * t
/-- `NRG_TILE_CFG(t)` (R362): [31:16] PQ_MW RWL, [11:8] PROBE_CLASS RWL, [4] T_SRC RWS. -/
def NRG_TILE_CFG (t : Nat) : Nat := 0x400C0300 + 4 * t
/-- `NRG_CC_GRID(t, w)` (R362): [31:0] RWL. -/
def NRG_CC_GRID (t w : Nat) : Nat := 0x400C0400 + 128 * t + 4 * w
/-- `NRG_CC_IV(t, c)` (R362): [31:16] V0_MV RWL, [15:0] I_UA RWL. -/
def NRG_CC_IV (t c : Nat) : Nat := 0x400C0600 + 128 * t + 8 * c
/-- `NRG_CC_TC(t, c)` (R362): [15:0] TC RWL. -/
def NRG_CC_TC (t c : Nat) : Nat := 0x400C0604 + 128 * t + 8 * c
/-- `DALI_TX` (R363): [31] GO W1S, [29] TWICE RW, [28] REPLY RW, [24] LEN RW, [23:0] FRAME RW. -/
def DALI_TX : Nat := 0x400C8100
/-- `DALI_RX` (R363): [17:16] STATE RO, [11:8] RESULT RO, [7:0] DATA RO. -/
def DALI_RX : Nat := 0x400C8104
/-- `DALI_POLL_CFG` (R363): [31:16] POLL_S RWS, [6:1] ADDR RWS, [0] EN RWS. -/
def DALI_POLL_CFG : Nat := 0x400C8108
/-- `DALI_D4I_POWER` (R363): [31:0] MW RO. -/
def DALI_D4I_POWER : Nat := 0x400C810C
/-- `DALI_D4I_ENERGY_LO` (R363): [31:0] LO RO. -/
def DALI_D4I_ENERGY_LO : Nat := 0x400C8110
/-- `DALI_D4I_ENERGY_HI` (R363): [31:0] LO RO. -/
def DALI_D4I_ENERGY_HI : Nat := 0x400C8114
/-- `DALI_D4I_RES` (R363): [31:0] MWH RO. -/
def DALI_D4I_RES : Nat := 0x400C8118
/-- `DALI_POLL_STAT` (R363): [31:16] TICK_LO16 RO, [3:0] RESULT RO. -/
def DALI_POLL_STAT : Nat := 0x400C811C
/-- `DALI_XCHK_CFG` (R363): [31:16] RATIO_MAX RWS, [15:0] RATIO_MIN RWS. -/
def DALI_XCHK_CFG : Nat := 0x400C8120
/-- `DALI_XCHK_WIN` (R363): [31:16] WINDOW_S RWS, [7:0] N RWS. -/
def DALI_XCHK_WIN : Nat := 0x400C8124
/-- `DALI_XCHK_AUX` (R363): [31:0] P_AUX_MW RWS. -/
def DALI_XCHK_AUX : Nat := 0x400C8128
/-- `DALI_XCHK_STAT` (R363): [31:16] RATIO RO, [9:8] LAST RO, [7:0] RUN RO. -/
def DALI_XCHK_STAT : Nat := 0x400C812C
/-- `HOST_H2D_SET` (R617): [15:0] BELL W1S. -/
def HOST_H2D_SET : Nat := 0x400D0100
/-- `HOST_H2D_STAT` (R617): [15:0] BELL W1C. -/
def HOST_H2D_STAT : Nat := 0x400D0104
/-- `HOST_D2H_SET` (R617): [15:0] BELL W1S. -/
def HOST_D2H_SET : Nat := 0x400D0108
/-- `HOST_D2H_STAT` (R617): [15:0] BELL W1C. -/
def HOST_D2H_STAT : Nat := 0x400D010C
/-- `HOST_D2H_EN` (R617): [15:0] EN RW. -/
def HOST_D2H_EN : Nat := 0x400D0110
/-- `HOST_LAST` (R617): [31:16] TICK_LO16 RO, [10:8] STATUS RO, [7:0] OP RO. -/
def HOST_LAST : Nat := 0x400D0114
/-- `HOST_DENY_ADDR` (R617): [31:0] ADDR RO. -/
def HOST_DENY_ADDR : Nat := 0x400D0118
/-- `HOST_MBOX(w)` (R617): [31:0] RW. -/
def HOST_MBOX (w : Nat) : Nat := 0x400D0140 + 4 * w
/-- `GPIO_DIR` (R618): [15:0] OUT RW. -/
def GPIO_DIR : Nat := 0x400D1100
/-- `GPIO_OUT` (R618): [15:0] LEVEL RW. -/
def GPIO_OUT : Nat := 0x400D1104
/-- `GPIO_SET` (R618): [15:0] SET W1S. -/
def GPIO_SET : Nat := 0x400D1108
/-- `GPIO_CLR` (R618): [15:0] CLR W1S. -/
def GPIO_CLR : Nat := 0x400D110C
/-- `GPIO_IN` (R618): [15:0] LEVEL RO. -/
def GPIO_IN : Nat := 0x400D1110
/-- `GPIO_OD` (R618): [15:0] OD RW. -/
def GPIO_OD : Nat := 0x400D1114
/-- `GPIO_EDGE` (R618): [31:16] FALL RW, [15:0] RISE RW. -/
def GPIO_EDGE : Nat := 0x400D1118
/-- `GPIO_FILT` (R618): [7:0] US RW. -/
def GPIO_FILT : Nat := 0x400D111C
/-- `GPIO_OUT_S` (R618): [15:0] LEVEL RWS. -/
def GPIO_OUT_S : Nat := 0x400D1120
/-- `GPIO_OUT_SM` (R618): [15:0] MASK RWS. -/
def GPIO_OUT_SM : Nat := 0x400D1124
/-- `CPU_HART_EN` (R581): [7:0] EN RW. -/
def CPU_HART_EN (c : Nat) : Nat := 0x400E0100 + 0x1000 * c
/-- `CPU_HART_RST` (R581): [7:0] RST W1S. -/
def CPU_HART_RST (c : Nat) : Nat := 0x400E0104 + 0x1000 * c
/-- `CPU_HART_STAT` (R581): [23:16] WFI RO, [7:0] RUNNING RO. -/
def CPU_HART_STAT (c : Nat) : Nat := 0x400E0108 + 0x1000 * c
/-- `CPU_RESET_VEC(h)` (R581): [31:1] ADDR RW. -/
def CPU_RESET_VEC (c h : Nat) : Nat := 0x400E0140 + 0x1000 * c + 4 * h
/-- `CPU_NMI_VEC(h)` (R581): [31:1] ADDR RW. -/
def CPU_NMI_VEC (c h : Nat) : Nat := 0x400E0180 + 0x1000 * c + 4 * h
/-- `CPU_WDOG(h)` (R581): [31] EN RW, [23:0] TIMEOUT_US RW. -/
def CPU_WDOG (c h : Nat) : Nat := 0x400E01C0 + 0x1000 * c + 4 * h
/-- `DMV_RING_BASE` (R59): [31:5] BASE RW. -/
def DMV_RING_BASE (c : Nat) : Nat := 0x400E5100 + 0x1000 * c
/-- `DMV_POST` (R59): [6:0] COUNT WO. -/
def DMV_POST (c : Nat) : Nat := 0x400E5104 + 0x1000 * c
/-- `DMV_RING_STATE` (R59): [22:16] INFLIGHT RO, [13:8] TAIL RO, [5:0] HEAD RO. -/
def DMV_RING_STATE (c : Nat) : Nat := 0x400E5108 + 0x1000 * c
/-- `DMV_ABORT` (R59): [0] ABORT WO. -/
def DMV_ABORT (c : Nat) : Nat := 0x400E510C + 0x1000 * c

end Sys2Proof.Machine.R
end

