-- ==== Sys2Proof/Machine/Bits.lean ====
section
/-! DEFINITION. Bit fields, rounding, saturation, byte order and sequences: the arithmetic conventions of R7, R8 and R9. -/

namespace Sys2Proof.Machine

/-- Field `[hi:lo]` of a word as a number (the notation of chapter 00, Numbers and formats). -/
def bitsOf (w : Word) (hi lo : Nat) : Nat := w.toNat / 2 ^ lo % 2 ^ (hi + 1 - lo)

/-- Bit `b` of a word. -/
def bitOf (w : Word) (b : Nat) : Bool := w.toNat.testBit b

/-- A word with field `[hi:lo]` replaced by the low bits of `v`; the other bits stay. -/
def putBits (w : Word) (hi lo v : Nat) : Word :=
  BitVec.ofNat 32 (w.toNat - bitsOf w hi lo * 2 ^ lo + v % 2 ^ (hi + 1 - lo) * 2 ^ lo)

/-- A word with bit `b` set to `v`. -/
def putBit (w : Word) (b : Nat) (v : Bool) : Word := putBits w b b v.toNat

/-- Set bit `b` of a mask. -/
def putMaskBit (m b : Nat) (v : Bool) : Nat := if v then m ||| 2 ^ b else m - (m &&& 2 ^ b)

/-- A truth value as the bit a register shows. -/
def bit (b : Bool) : Nat := if b then 1 else 0

/-- The largest unsigned value of `n` bits (R8). -/
def maxU (n : Nat) : Nat := 2 ^ n - 1

/-- Saturation to `n` unsigned bits (R8: a result outside the range saturates). -/
def satU (n : Nat) (x : Int) : Nat := if x < 0 then 0 else min x.toNat (maxU n)

/-- Saturation to an `n`-bit two's-complement value (R8). -/
def satS (n : Nat) (x : Int) : Int := max (-(2 ^ (n - 1) : Int)) (min x (2 ^ (n - 1) - 1))

/-- Saturating sum of a counter of `n` bits. -/
def satAdd (n a b : Nat) : Nat := min (a + b) (maxU n)

/-- R8's rounding: nearest, ties toward positive infinity, of a shift right by `k`. -/
def rnd (k : Nat) (x : Int) : Int := if k = 0 then x else (x + 2 ^ (k - 1)) / 2 ^ k

/-- R8's rounding of a quotient by a positive number: nearest, ties toward positive infinity. -/
def rndDiv (x : Int) (d : Nat) : Int := if d = 0 then 0 else (2 * x + d) / (2 * d)

/-- The two's-complement value of the low `n` bits of a number (R7). -/
def sx (n x : Nat) : Int :=
  let y := x % 2 ^ n
  if y < 2 ^ (n - 1) then (y : Int) else (y : Int) - 2 ^ n

/-- The `n`-bit two's-complement encoding of a value (R7). -/
def enc (n : Nat) (x : Int) : Nat := (x % 2 ^ n).toNat

/-- The signed value of a register word. -/
def sw (w : Word) : Int := sx 32 w.toNat

/-- A register word from a number, modulo 2^32. -/
def word (n : Nat) : Word := BitVec.ofNat 32 n

/-- A register word from a signed value, in two's complement. -/
def wordS (x : Int) : Word := BitVec.ofNat 32 (enc 32 x)

/-- Little-endian bytes of a number (R9). -/
def bytesLE : Nat → Nat → List Nat
  | 0, _ => []
  | n + 1, x => x % 256 :: bytesLE n (x / 256)

/-- The number little-endian bytes stand for (R9). -/
def ofLE : List Nat → Nat
  | [] => 0
  | b :: t => b % 256 + 256 * ofLE t

/-- Big-endian bytes of a number, as network protocols order them (R9). -/
def bytesBE (n x : Nat) : List Nat := (bytesLE n x).reverse

/-- The number big-endian bytes stand for (R9). -/
def ofBE (l : List Nat) : Nat := ofLE l.reverse

/-- A circular step forward of an 8-bit or wider counter: `b` is `a + 1` modulo `2^n`. -/
def isNext (n a b : Nat) : Bool := b % 2 ^ n == (a + 1) % 2 ^ n

/-- The integer square root rounded down, by bisection on the bits of the root (used where the spec squares distances). -/
def isqrt (bits x : Nat) : Nat :=
  (List.range bits).foldl (fun r i =>
    let b := bits - 1 - i
    let r' := r + 2 ^ b
    if r' * r' ≤ x then r' else r) 0

/-- Ceiling of a quotient of naturals. -/
def cdiv (a b : Nat) : Nat := if b = 0 then 0 else (a + b - 1) / b

/-- The list with position `i` replaced. -/
def setAt {α : Type} (l : List α) (i : Nat) (x : α) : List α := l.set i x

/-- Position `i` of a list, or a default. -/
def nth {α : Type} (d : α) (l : List α) (i : Nat) : α := l.getD i d

end Sys2Proof.Machine
end

