-- ==== Sys2Proof/Machine/RegTable.lean ====
section
/-! DEFINITION. The register tables of the spec as data: one row per register, with its reset value and one mask per access code of R14. -/

namespace Sys2Proof.Machine

/-- One register (or a family of registers with up to two indices): offset in its page, the two strides and counts, the reset value,
and the masks of its fields by access code: RW, W1C, W1S that stays set (LOCK bits), command bits (WO, and W1S that acts and reads 0), RWS, RWL,
and the live-only fields (R17). A bit in no mask is RO or reserved. -/
structure RegDef where
  off : Nat
  s1 : Nat
  n1 : Nat
  s2 : Nat
  n2 : Nat
  reset : Nat
  rw : Nat
  w1c : Nat
  w1s : Nat
  cmd : Nat
  rws : Nat
  rwl : Nat
  live : Nat
  deriving DecidableEq, Repr

/-- Block registers of the SYS page class. -/
def regsSYS : List RegDef := [
  ⟨0x400, 0, 1, 0, 1, 0, 0, 0, 0, 0, 0, 0, 0⟩, -- SYS_TICK_NUM_LO
  ⟨0x404, 0, 1, 0, 1, 0, 0, 0, 0, 0, 0, 0, 0⟩, -- SYS_TICK_NUM_HI
  ⟨0x408, 0, 1, 0, 1, 0x64, 0x7ff, 0, 0, 0, 0, 0, 0⟩, -- SYS_COMMIT_GUARD
  ⟨0x40c, 0, 1, 0, 1, 0, 0, 0, 0, 0, 0, 0, 0⟩, -- SYS_CG_ARMED
  ⟨0x410, 16, 16, 0, 1, 0, 0xc, 0, 0, 3, 0, 0, 0⟩, -- SYS_CG_CTRL
  ⟨0x414, 16, 16, 0, 1, 0, 0xffffffff, 0, 0, 0, 0, 0, 0⟩, -- SYS_CG_TARGET_LO
  ⟨0x418, 16, 16, 0, 1, 0, 0xffffffff, 0, 0, 0, 0, 0, 0⟩, -- SYS_CG_TARGET_HI
  ⟨0x41c, 16, 16, 0, 1, 0, 0, 0, 0, 0, 0, 0, 0⟩, -- SYS_CG_STAT
  ⟨0x100, 0, 1, 0, 1, 0x42000011, 0, 0, 0, 0, 0, 0, 0⟩, -- SYS_CHIP_ID
  ⟨0x104, 0, 1, 0, 1, 0, 0, 0, 0, 0, 0, 0, 0⟩, -- SYS_RST_CAUSE
  ⟨0x108, 0, 1, 0, 1, 0, 0, 0, 0, 0, 0, 0, 0⟩, -- SYS_RST_TICK
  ⟨0x10c, 0, 1, 0, 1, 0, 0, 0, 0, 0xffff0001, 0, 0, 0⟩, -- SYS_RST_CMD
  ⟨0x110, 0, 1, 0, 1, 5, 0, 0, 0, 0, 0, 0, 0⟩, -- SYS_MODE
  ⟨0x114, 0, 1, 0, 1, 0, 0x33f, 0, 0, 0x80000000, 0, 0, 0⟩, -- SYS_MODE_REQ
  ⟨0x118, 0, 1, 0, 1, 0, 0, 0, 0, 0, 0, 0, 0⟩, -- SYS_MODE_STAT
  ⟨0x11c, 0, 1, 0, 1, 0x12c7801, 0xffffff01, 0, 0, 0, 0, 0, 0⟩, -- SYS_START_CFG
  ⟨0x120, 0, 1, 0, 1, 0, 0, 0, 0, 0, 0, 0, 0⟩, -- SYS_START_STAT
  ⟨0x124, 0, 1, 0, 1, 0, 0, 0, 0, 0, 0, 0, 0⟩, -- SYS_STAGGER
  ⟨0x144, 4, 12, 0, 1, 0, 0, 0, 0, 0, 0, 0, 0⟩ -- SYS_START_MS
  ]

/-- Block registers of the PWR page class. -/
def regsPWR : List RegDef := [
  ⟨0x100, 0, 1, 0, 1, 0, 0, 0, 0, 7, 0, 0, 0⟩, -- PWR_CMD
  ⟨0x104, 0, 1, 0, 1, 0, 0, 0, 0, 0, 0, 0, 0⟩, -- PWR_STAT
  ⟨0x108, 0, 1, 0, 1, 0x10, 0xff, 0, 0, 0, 0, 0, 0⟩, -- PWR_WAKE_EN
  ⟨0x10c, 0, 1, 0, 1, 0, 0, 0xff, 0, 0, 0, 0, 0⟩, -- PWR_WAKE_PEND
  ⟨0x110, 0, 1, 0, 1, 0, 0, 0, 0, 0, 0, 0, 0⟩, -- PWR_WAKE_CAUSE
  ⟨0x114, 0, 1, 0, 1, 2, 3, 0, 0, 0, 0, 0, 0⟩, -- PWR_LEVEL_REQ
  ⟨0x118, 0, 1, 0, 1, 0x2200, 0, 0x10, 0, 0, 0, 0, 0⟩, -- PWR_LEVEL_STAT
  ⟨0x11c, 0, 1, 0, 1, 0x6010140a, 0, 0, 0, 0, 0, 0x7fffffff, 0⟩, -- PWR_PMIC_CFG
  ⟨0x120, 4, 4, 0, 1, 0, 0, 0, 0, 0, 0, 0xff, 0⟩, -- PWR_VCODE
  ⟨0x130, 0, 1, 0, 1, 0xff, 0, 0, 0, 0, 0, 0, 0⟩, -- PWR_DOMAIN_STAT
  ⟨0x1fc, 0, 1, 0, 1, 0, 0, 0, 1, 0, 0, 0, 0⟩ -- PWR_LOCK
  ]

/-- Block registers of the CLK page class. -/
def regsCLK : List RegDef := [
  ⟨0x100, 4, 8, 0, 1, 0, 0, 0, 0, 0, 0, 0, 0⟩, -- CLK_FREQ
  ⟨0x120, 0, 1, 0, 1, 1, 0, 0, 0, 0, 0x31, 0, 0⟩, -- CLK_XO_CFG
  ⟨0x124, 0, 1, 0, 1, 0, 0, 0, 0, 0, 0, 0, 0⟩, -- CLK_XO_IN_USE
  ⟨0x200, 4, 32, 0, 1, 0, 0, 0, 0, 0, 0, 0xffff, 0⟩, -- CLK_XO_CURVE
  ⟨0x280, 4, 32, 0, 1, 0, 0, 0, 0, 0, 0, 0xffff, 0⟩, -- CLK_RTC_CURVE
  ⟨0x1fc, 0, 1, 0, 1, 0, 0, 0, 1, 0, 0, 0, 0⟩ -- CLK_LOCK
  ]

/-- Block registers of the THM page class. -/
def regsTHM : List RegDef := [
  ⟨0x100, 0, 1, 0, 1, 0, 0, 0, 0, 0, 0, 0, 0⟩, -- THM_TJ
  ⟨0x104, 0, 1, 0, 1, 0x697382, 0, 0, 0, 0, 0, 0xffffff, 0⟩, -- THM_THR
  ⟨0x108, 0, 1, 0, 1, 5, 0, 0, 0, 0, 0xff, 0, 0⟩, -- THM_HYST
  ⟨0x10c, 0, 1, 0, 1, 0x640a0d, 0, 0, 0, 0, 0xffffff1f, 0, 0⟩, -- THM_THROT_CFG
  ⟨0x110, 4, 12, 0, 1, 0, 0, 0, 0, 0, 0, 0, 0⟩, -- THM_SENS
  ⟨0x140, 0, 1, 0, 1, 0, 0, 0x3fff, 0, 0, 0, 0, 0⟩, -- THM_SENSOR_FAIL
  ⟨0x144, 0, 1, 0, 1, 0, 0, 0xffffffff, 0, 0, 0, 0, 0⟩, -- THM_TILE_FAIL
  ⟨0x148, 4, 2, 0, 1, 0, 0, 0, 0, 0, 0, 0, 0⟩, -- THM_NTC
  ⟨0x150, 4, 4, 0, 1, 0, 0, 0, 0, 0, 0, 0, 0⟩, -- THM_TILE_TJ
  ⟨0x160, 0, 1, 0, 1, 0x7d, 0, 0, 0, 0, 0, 0xff, 0⟩, -- THM_TILE_LIM
  ⟨0x164, 0, 1, 0, 1, 0x64, 0, 0, 0, 0, 0, 0xff, 0⟩, -- THM_SD_RESTART
  ⟨0x168, 0, 1, 0, 1, 0, 0, 0, 0, 0, 0, 0, 0⟩, -- THM_SD_REC
  ⟨0x16c, 0, 1, 0, 1, 0, 0, 0, 0, 0, 0, 0, 0⟩, -- THM_SD_TICK
  ⟨0x200, 132, 2, 4, 33, 0, 0, 0, 0, 0, 0, 0xffff, 0⟩, -- THM_NTC_LUT
  ⟨0x1fc, 0, 1, 0, 1, 0, 0, 0, 1, 0, 0, 0, 0⟩ -- THM_LOCK
  ]

/-- Block registers of the FLT0 page class. -/
def regsFLT0 : List RegDef := [
  ⟨0x100, 0, 1, 0, 1, 0xfa0001, 0, 0, 0, 0, 0, 0xffff0007, 0⟩, -- FLT_CFG
  ⟨0x104, 0, 1, 0, 1, 0x10, 0, 0, 0, 0, 0, 0x7fff, 0⟩, -- FLT_NMI_TARGET
  ⟨0x108, 0, 1, 0, 1, 0, 0, 0, 0, 0, 0, 0, 0⟩, -- FLT_CLASS_PEND
  ⟨0x10c, 0, 1, 0, 1, 0, 0, 0, 0, 2, 0, 0, 0⟩, -- FLT_ERR
  ⟨0x110, 0, 1, 0, 1, 0, 0, 0, 0, 0, 0, 0, 0⟩, -- FLT_LAST
  ⟨0x114, 0, 1, 0, 1, 0, 0, 0, 0, 0x800001ff, 0, 0, 0⟩, -- FLT_FORCE_SRC
  ⟨0x118, 0, 1, 0, 1, 0, 0, 1, 0, 0, 0, 0, 0⟩, -- FLT_FORCE_STAT
  ⟨0x11c, 0, 1, 0, 1, 0, 0, 0, 0, 0, 0, 0, 0⟩, -- FLT_CFG_CRC_REF
  ⟨0x120, 0, 1, 0, 1, 0, 0, 0, 0, 0, 0, 0, 0⟩, -- FLT_BUS_ADDR
  ⟨0x124, 0, 1, 0, 1, 0, 0, 0, 0, 0, 0, 0, 0⟩, -- FLT_BUS_INFO
  ⟨0x1fc, 0, 1, 0, 1, 0, 0, 0, 1, 0, 0, 0, 0⟩ -- FLT_LOCK
  ]

/-- Block registers of the FLTS page class. -/
def regsFLTS : List RegDef := [
  ⟨0x100, 4, 128, 0, 1, 0, 0, 0, 0, 0, 0, 0xff0f3f, 0⟩, -- FLT_SRC_CFG
  ⟨0x300, 4, 128, 0, 1, 0, 0, 0, 0, 0, 0, 0xffff, 0⟩, -- FLT_SRC_WIN
  ⟨0x500, 4, 128, 0, 1, 0, 0, 0x1e, 0, 0, 0, 0, 0⟩ -- FLT_SRC_STAT
  ]

/-- Block registers of the FLT5 page class. -/
def regsFLT5 : List RegDef := [
  ⟨0x100, 0, 1, 0, 1, 0, 0, 0, 0, 0, 0, 0, 0⟩, -- FLT_LOG_WR
  ⟨0x104, 0, 1, 0, 1, 0, 0xff, 0, 0, 0, 0, 0, 0⟩, -- FLT_LOG_RD
  ⟨0x800, 8, 256, 0, 1, 0, 0, 0, 0, 0, 0, 0, 0⟩, -- FLT_LOG_A
  ⟨0x804, 8, 256, 0, 1, 0, 0, 0, 0, 0, 0, 0, 0⟩ -- FLT_LOG_B
  ]

/-- Block registers of the FLT6 page class. -/
def regsFLT6 : List RegDef := [
  ⟨0x120, 4, 24, 0, 1, 0xff, 0, 0, 0, 0, 0, 0xff, 0⟩, -- FLT_CQ_PAGE
  ⟨0x200, 44, 24, 4, 11, 0, 0, 0, 0, 0, 0, 0xffffffff, 0⟩ -- FLT_CQ_SRC
  ]

/-- Block registers of the FLT7 page class. -/
def regsFLT7 : List RegDef := [
  ]

/-- Block registers of the NVM page class. -/
def regsNVM : List RegDef := [
  ⟨0x100, 0, 1, 0, 1, 0x25803, 0xffff03, 0, 0, 0, 0, 0, 0⟩, -- NVM_SCRUB_CFG
  ⟨0x104, 0, 1, 0, 1, 0, 0, 0, 0, 0, 0, 0, 0⟩, -- NVM_SCRUB_STAT
  ⟨0x108, 0, 1, 0, 1, 0, 0, 0, 0, 0, 0, 0, 0⟩, -- NVM_UE_ADDR
  ⟨0x10c, 0, 1, 0, 1, 0, 0, 0, 0, 0, 0, 0, 0⟩, -- NVM_UE_INFO
  ⟨0x110, 0, 1, 0, 1, 0, 0, 0, 0, 0, 0, 0, 0⟩, -- NVM_CE_ADDR
  ⟨0x114, 0, 1, 0, 1, 0, 0, 0, 0, 0, 0, 0, 0⟩, -- NVM_CE_INFO
  ⟨0x118, 0, 1, 0, 1, 0, 0, 0, 0, 0, 0, 0, 0⟩, -- NVM_WIN_STAT
  ⟨0x120, 0, 1, 0, 1, 0, 0xffffffff, 0, 0, 0, 0, 0, 0⟩, -- NVM_TX_SRC
  ⟨0x124, 0, 1, 0, 1, 0, 0xffffff, 0, 0, 0, 0, 0, 0⟩, -- NVM_TX_DST
  ⟨0x128, 0, 1, 0, 1, 0, 0xffffff, 0, 0, 0, 0, 0, 0⟩, -- NVM_TX_LEN
  ⟨0x12c, 0, 1, 0, 1, 0, 0xffffff, 0, 0, 0, 0, 0, 0⟩, -- NVM_TX_ACT_ADDR
  ⟨0x130, 0, 1, 0, 1, 0, 0xffffffff, 0, 0, 0, 0, 0, 0⟩, -- NVM_TX_ACT_LO
  ⟨0x134, 0, 1, 0, 1, 0, 0xffffffff, 0, 0, 0, 0, 0, 0⟩, -- NVM_TX_ACT_HI
  ⟨0x138, 0, 1, 0, 1, 0, 5, 0, 0, 0x80000000, 0, 0, 0⟩, -- NVM_TX_CMD
  ⟨0x13c, 0, 1, 0, 1, 0, 0, 0, 0, 0, 0, 0, 0⟩, -- NVM_TX_STAT
  ⟨0x140, 0, 1, 0, 1, 0, 0, 0, 0, 0, 0, 0, 0⟩, -- NVM_JRN_HEAD
  ⟨0x144, 0, 1, 0, 1, 0, 0, 0, 0, 0, 0, 0, 0⟩, -- NVM_JRN_TAIL
  ⟨0x148, 0, 1, 0, 1, 0, 0, 0, 0, 0, 0, 0, 0⟩, -- NVM_JRN_RECOV
  ⟨0x14c, 0, 1, 0, 1, 0, 0, 0, 0, 0, 0, 0, 0⟩, -- NVM_JRN_OPEN
  ⟨0x180, 16, 16, 0, 1, 0, 0, 0, 0, 0, 0, 0, 0⟩, -- NVM_REGION_BASE
  ⟨0x184, 16, 16, 0, 1, 0, 0, 0, 0, 0, 0, 0, 0⟩, -- NVM_REGION_SIZE
  ⟨0x188, 16, 16, 0, 1, 0, 0, 0, 0, 0, 0, 0, 0⟩, -- NVM_REGION_WR
  ⟨0x18c, 16, 16, 0, 1, 0, 0, 0, 0, 0, 0, 0, 0⟩ -- NVM_REGION_WEAR
  ]

/-- Block registers of the XSPI page class. -/
def regsXSPI : List RegDef := [
  ⟨0x100, 0, 1, 0, 1, 0x1900, 0xffff01, 0, 0, 0, 0, 0, 0xffff01⟩, -- XSPI_CFG
  ⟨0x104, 0, 1, 0, 1, 0, 0, 0, 0, 0, 0, 0, 0⟩, -- XSPI_SIZE
  ⟨0x108, 0, 1, 0, 1, 0, 7, 0, 0, 0x80000000, 0, 0, 0⟩, -- XSPI_CMD
  ⟨0x10c, 0, 1, 0, 1, 0, 0x1fffffff, 0, 0, 0, 0, 0, 0⟩, -- XSPI_ADDR
  ⟨0x110, 0, 1, 0, 1, 0, 0xffffffff, 0, 0, 0, 0, 0, 0⟩, -- XSPI_SRC
  ⟨0x114, 0, 1, 0, 1, 0, 0x1ff, 0, 0, 0, 0, 0, 0⟩, -- XSPI_LEN
  ⟨0x118, 0, 1, 0, 1, 0, 0, 0, 0, 0, 0, 0, 0⟩, -- XSPI_STAT
  ⟨0x11c, 0, 1, 0, 1, 0x1f4, 0xffff, 0, 0, 0, 0, 0, 0⟩, -- XSPI_TMO_MS
  ⟨0x140, 16, 8, 0, 1, 0, 0, 0, 0, 0, 0, 0x1fffffff, 0⟩, -- XSPI_PROT_BASE
  ⟨0x144, 16, 8, 0, 1, 0, 0, 0, 0, 0, 0, 0x1fffffff, 0⟩, -- XSPI_PROT_SIZE
  ⟨0x148, 16, 8, 0, 1, 0, 0, 0, 0, 0, 0, 7, 0⟩, -- XSPI_PROT_WR
  ⟨0x1fc, 0, 1, 0, 1, 0, 0, 0, 1, 0, 0, 0, 0⟩ -- XSPI_LOCK
  ]

/-- Block registers of the SEC0 page class. -/
def regsSEC0 : List RegDef := [
  ⟨0x100, 4, 4, 0, 1, 0, 0, 0, 0, 0, 0, 0, 0⟩, -- SEC_UID
  ⟨0x110, 0, 1, 0, 1, 0, 0, 0, 0, 0, 0, 0, 0⟩, -- SEC_LIFECYCLE
  ⟨0x114, 0, 1, 0, 1, 0, 0, 0, 0, 0, 0, 0, 0⟩, -- SEC_STATUS
  ⟨0x118, 0, 1, 0, 1, 0, 0xffffffc0, 0, 0, 0, 0, 0, 0⟩, -- SEC_SVC_BASE
  ⟨0x11c, 0, 1, 0, 1, 0, 0, 0, 0, 0, 0, 0, 0⟩, -- SEC_SVC_STAT
  ⟨0x120, 4, 8, 0, 1, 0, 0, 0, 0, 0, 0, 0, 0⟩ -- SEC_RCV_CHAL
  ]

/-- Block registers of the SEC1 page class. -/
def regsSEC1 : List RegDef := [
  ⟨0x100, 4, 64, 0, 1, 0, 0, 0, 0, 0, 0, 0, 0⟩, -- SEC_KEY_META
  ⟨0x200, 0, 1, 0, 1, 0, 0, 0, 0, 0xf000003f, 0, 0, 0⟩, -- SEC_KEY_CMD
  ⟨0x204, 0, 1, 0, 1, 0, 0, 0, 0, 0, 0, 0, 0⟩ -- SEC_KEY_STAT
  ]

/-- Block registers of the SEC2 page class. -/
def regsSEC2 : List RegDef := [
  ⟨0x100, 8, 3, 0, 1, 0, 0, 0, 0, 0, 0, 0, 0⟩, -- SEC_FLOOR_LO
  ⟨0x104, 8, 3, 0, 1, 0, 0, 0, 0, 0, 0, 0, 0⟩, -- SEC_FLOOR_HI
  ⟨0x120, 32, 3, 4, 8, 0, 0, 0, 0, 0, 0, 0, 0⟩, -- SEC_ROOT_HASH
  ⟨0x180, 4, 8, 0, 1, 0, 0xffffffff, 0, 0, 0, 0, 0, 0⟩, -- SEC_GROUPS
  ⟨0x1a0, 0, 1, 0, 1, 0, 0, 0, 0, 0, 0, 0, 0⟩, -- SEC_TOK_STAT
  ⟨0x1a4, 0, 1, 0, 1, 0, 0, 0, 0, 0, 0, 0, 0⟩, -- SEC_TIME_FLOOR_LO
  ⟨0x1a8, 0, 1, 0, 1, 0, 0, 0, 0, 0, 0, 0, 0⟩, -- SEC_TIME_FLOOR_HI
  ⟨0x1ac, 0, 1, 0, 1, 7, 0, 0, 0, 0, 0, 0, 0⟩, -- SEC_HOST_GRANT
  ⟨0x1b0, 4, 8, 0, 1, 0, 0, 0, 0, 0, 0, 0, 0⟩, -- SEC_HOST_CHAL
  ⟨0x200, 4, 64, 0, 1, 0, 0xffffffff, 0, 0, 0, 0, 0, 0⟩ -- SEC_PAGE_RIGHT
  ]

/-- Block registers of the SEC3 page class. -/
def regsSEC3 : List RegDef := [
  ⟨0x100, 0, 1, 0, 1, 0, 0, 0, 0, 0, 0, 0, 0⟩, -- SEC_BOOT_STAT
  ⟨0x104, 0, 1, 0, 1, 0, 0, 0, 0, 0, 0, 0, 0⟩, -- SEC_UPD_STAT
  ⟨0x108, 0, 1, 0, 1, 0x258, 0xffff, 0, 0, 0, 0, 0, 0⟩, -- SEC_UPD_CFG
  ⟨0x10c, 0, 1, 0, 1, 0, 0, 0, 0, 0, 0, 0, 0⟩, -- SEC_ROLLBACK
  ⟨0x110, 4, 5, 0, 1, 0, 0, 0, 0, 0, 0, 0, 0⟩ -- SEC_IMG_VER
  ]

/-- Block registers of the SEC4 page class. -/
def regsSEC4 : List RegDef := [
  ⟨0x100, 0, 1, 0, 1, 0, 0, 0, 0, 0, 0, 0, 0⟩, -- SEC_AUDIT_SEQ
  ⟨0x104, 0, 1, 0, 1, 0, 0, 0, 0, 0, 0, 0, 0⟩, -- SEC_AUDIT_ACKED
  ⟨0x108, 4, 8, 0, 1, 0, 0, 0, 0, 0, 0, 0, 0⟩, -- SEC_AUDIT_HEAD
  ⟨0x128, 0, 1, 0, 1, 0, 0, 0, 0, 0, 0, 1, 0⟩, -- SEC_AUDIT_CFG
  ⟨0x12c, 0, 1, 0, 1, 0, 0, 0, 0, 0, 0, 0, 0⟩ -- SEC_AUDIT_STAT
  ]

/-- Block registers of the SEC5 page class. -/
def regsSEC5 : List RegDef := [
  ⟨0x100, 0, 1, 0, 1, 0, 0, 0, 0, 0xf00003ff, 0, 0, 0⟩, -- SEC_REC_CMD
  ⟨0x104, 0, 1, 0, 1, 0, 0, 0, 0, 0, 0, 0, 0⟩ -- SEC_REC_STAT
  ]

/-- Block registers of the SEC6 page class. -/
def regsSEC6 : List RegDef := [
  ⟨0x100, 0, 1, 0, 1, 0, 0, 0, 0, 0, 0, 0, 0⟩, -- SEC_DBG_STAT
  ⟨0x104, 4, 8, 0, 1, 0, 0, 0, 0, 0, 0, 0, 0⟩ -- SEC_DBG_CHAL
  ]

/-- Block registers of the SEC7 page class. -/
def regsSEC7 : List RegDef := [
  ⟨0x100, 4, 512, 0, 1, 0, 0, 0, 0, 0, 0, 0, 0⟩, -- SEC_OTP
  ⟨0x900, 0, 1, 0, 1, 0, 0x1ff0000, 0, 0, 0x80000000, 0, 0, 0⟩, -- SEC_OTP_CMD
  ⟨0x904, 0, 1, 0, 1, 0, 0xffffffff, 0, 0, 0, 0, 0, 0⟩, -- SEC_OTP_DATA
  ⟨0x908, 0, 1, 0, 1, 0, 0, 0, 0, 0, 0, 0, 0⟩ -- SEC_OTP_STAT
  ]

/-- Block registers of the TIME page class. -/
def regsTIME : List RegDef := [
  ⟨0x100, 0, 1, 0, 1, 0, 0, 0, 0, 0, 0, 0, 0⟩, -- TIME_CNT_LO
  ⟨0x104, 0, 1, 0, 1, 0, 0, 0, 0, 0, 0, 0, 0⟩, -- TIME_CNT_HI
  ⟨0x108, 0, 1, 0, 1, 0, 0, 0, 0, 0, 0, 0, 0⟩, -- TIME_NOW_LO
  ⟨0x10c, 0, 1, 0, 1, 0, 0, 0, 0, 0, 0, 0, 0⟩, -- TIME_NOW_HI
  ⟨0x110, 0, 1, 0, 1, 0, 0, 0, 0, 0, 0, 0, 0⟩, -- TIME_NT_FRAC
  ⟨0x114, 0, 1, 0, 1, 0, 0, 0, 0, 0, 0, 0, 0⟩, -- TIME_NT_LO
  ⟨0x118, 0, 1, 0, 1, 0, 0, 0, 0, 0, 0, 0, 0⟩, -- TIME_NT_HI
  ⟨0x11c, 0, 1, 0, 1, 0, 0, 0, 0, 0, 0, 0, 0⟩, -- TIME_RATE
  ⟨0x120, 0, 1, 0, 1, 0, 0xffffffff, 0, 0, 0, 0, 0, 0⟩, -- TIME_MEAS_LO
  ⟨0x124, 0, 1, 0, 1, 0, 0xffffffff, 0, 0, 0, 0, 0, 0⟩, -- TIME_MEAS_HI
  ⟨0x128, 0, 1, 0, 1, 0, 0, 0, 0, 3, 0, 0, 0⟩, -- TIME_MEAS_CTRL
  ⟨0x12c, 0, 1, 0, 1, 0, 0, 0, 0, 0, 0, 0, 0⟩, -- TIME_SERVO_STAT
  ⟨0x130, 0, 1, 0, 1, 0x112e0be8, 0xffffffff, 0, 0, 0, 0, 0, 0⟩, -- TIME_KP
  ⟨0x134, 0, 1, 0, 1, 0x1b7cdfe, 0xffffffff, 0, 0, 0, 0, 0, 0⟩, -- TIME_KI
  ⟨0x138, 0, 1, 0, 1, 0x1f4000a, 0xffffffff, 0, 0, 0, 0, 0, 0⟩, -- TIME_SERVO_THR
  ⟨0x13c, 0, 1, 0, 1, 0x3e81014, 0xffffffff, 0, 0, 0, 0, 0, 0⟩, -- TIME_SERVO_THR2
  ⟨0x140, 0, 1, 0, 1, 0xd1b7176, 0xffffffff, 0, 0, 0, 0, 0, 0⟩, -- TIME_RATE_MAX
  ⟨0x144, 0, 1, 0, 1, 0, 0xffffffff, 0, 0, 0, 0, 0, 0⟩, -- TIME_EPOCH_LO
  ⟨0x148, 0, 1, 0, 1, 0, 0xffffffff, 0, 0, 0, 0, 0, 0⟩, -- TIME_EPOCH_HI
  ⟨0x14c, 0, 1, 0, 1, 0, 0xffffffff, 0, 0, 0, 0, 0, 0⟩, -- TIME_LOCAL_OFS
  ⟨0x150, 0, 1, 0, 1, 0, 0, 0, 0, 0, 0, 0, 0⟩, -- TIME_TGEN_STAT
  ⟨0x154, 0, 1, 0, 1, 0, 0, 0, 0, 0, 0, 0, 0⟩, -- TIME_D
  ⟨0x158, 0, 1, 0, 1, 0, 0, 0, 0, 1, 0, 0, 0⟩, -- TIME_STEP_CMD
  ⟨0x15c, 0, 1, 0, 1, 0, 0, 0, 0, 0, 0, 0, 0⟩, -- TIME_GRID_IDX_LO
  ⟨0x160, 0, 1, 0, 1, 0, 0, 0, 0, 0, 0, 0, 0⟩, -- TIME_GRID_IDX_HI
  ⟨0x164, 0, 1, 0, 1, 0, 0, 0x100, 0, 0, 0, 0, 0⟩, -- TIME_TSQ_STAT
  ⟨0x168, 0, 1, 0, 1, 0, 0, 0, 0, 0, 0, 0, 0⟩, -- TIME_TSQ_HDR
  ⟨0x16c, 0, 1, 0, 1, 0, 0, 0, 0, 0, 0, 0, 0⟩, -- TIME_TSQ_TS_LO
  ⟨0x170, 0, 1, 0, 1, 0, 0, 0, 0, 0, 0, 0, 0⟩ -- TIME_TSQ_TS_HI
  ]

/-- Block registers of the NET page class. -/
def regsNET : List RegDef := [
  ⟨0x100, 0, 1, 0, 1, 0, 0, 0, 0, 0, 0, 0xffffffff, 0⟩, -- NET_MAC_LO
  ⟨0x104, 0, 1, 0, 1, 0, 0, 0, 0, 0, 0, 0xffff, 0⟩, -- NET_MAC_HI
  ⟨0x108, 0, 1, 0, 1, 0xbacc, 0xffff, 0, 0, 0, 0, 0, 0⟩, -- NET_WAORD_PORT
  ⟨0x10c, 0, 1, 0, 1, 0, 0xffffffc0, 0, 0, 0, 0, 0, 0xffffffc0⟩, -- NET_SESS_BASE
  ⟨0x110, 0, 1, 0, 1, 0, 0, 0, 0, 0, 0, 0, 0⟩, -- NET_SESS_STAT
  ⟨0x114, 0, 1, 0, 1, 0x2582710, 0xffffffff, 0, 0, 0, 0, 0, 0⟩, -- NET_SESS_CFG
  ⟨0x118, 0, 1, 0, 1, 0, 0xffff0001, 0, 0, 0, 0, 0, 0⟩, -- NET_WAKE_CFG
  ⟨0x11c, 0, 1, 0, 1, 0, 0xffffffff, 0, 0, 0, 0, 0, 0⟩, -- NET_WAKE_MAC_LO
  ⟨0x120, 0, 1, 0, 1, 0, 0xffff, 0, 0, 0, 0, 0, 0⟩ -- NET_WAKE_MAC_HI
  ]

/-- Block registers of the SGMII page: PORT_CFG.RING reads 0 (R446). -/
def portCfgSgmii : RegDef := ⟨0x100, 0, 1, 0, 1, 0x1000, 0x101e, 0, 0, 0, 0, 0, 0x101e⟩

/-- Block registers of the PORT page class. -/
def regsPORT : List RegDef := [
  ⟨0x100, 0, 1, 0, 1, 0x1000, 0x111e, 0, 0, 0, 0, 0, 0x111e⟩, -- PORT_CFG
  ⟨0x104, 0, 1, 0, 1, 0, 0, 0, 0, 0, 0, 0, 0⟩, -- PORT_LINK
  ⟨0x108, 0, 1, 0, 1, 0, 0xffffffff, 0, 0, 0, 0, 0, 0⟩, -- PORT_ASYM
  ⟨0x10c, 0, 1, 0, 1, 0, 0, 0, 0, 0, 0, 0xffffffff, 0⟩, -- PORT_LAT
  ⟨0x110, 0, 1, 0, 1, 0, 0, 0, 0, 0, 0, 0, 0⟩, -- PORT_MLD
  ⟨0x114, 0, 1, 0, 1, 0x300, 0xfff, 0, 0, 0, 0, 0, 0⟩, -- PORT_PD_CFG
  ⟨0x118, 0, 1, 0, 1, 0, 0, 0, 0, 0, 0, 0, 0⟩, -- PORT_PD_STAT
  ⟨0x11c, 0, 1, 0, 1, 0, 0, 0, 0, 0, 0, 0, 0⟩, -- PORT_MRP_STAT
  ⟨0x120, 0, 1, 0, 1, 0xc8, 0xffff, 0, 0, 0, 0, 0, 0⟩ -- PORT_STORM
  ]

/-- Block registers of the SWITCH page class. -/
def regsSWITCH : List RegDef := [
  ⟨0x100, 0, 1, 0, 1, 0x1012c, 0x1ffff, 0, 0, 0, 0, 0, 0⟩, -- SW_CFG
  ⟨0x104, 0, 1, 0, 1, 0, 0, 0, 0, 0xf, 0, 0, 0⟩, -- SW_FLUSH
  ⟨0x108, 0, 1, 0, 1, 0, 3, 0, 0, 0, 0, 0, 0⟩, -- SW_MRP_CFG
  ⟨0x10c, 0, 1, 0, 1, 0, 0, 0, 0, 0, 0, 0, 0⟩, -- SW_MRP_STAT
  ⟨0x110, 4, 4, 0, 1, 0xffffffff, 0xffffffff, 0, 0, 0, 0, 0, 0⟩, -- SW_MRP_DOMAIN
  ⟨0x120, 0, 1, 0, 1, 0, 0, 0, 0, 0, 0, 0, 0⟩ -- SW_FDB_CNT
  ]

/-- Block registers of the SCHED page class. -/
def regsSCHED : List RegDef := [
  ⟨0x100, 0, 1, 0, 1, 0, 0xffffffc0, 0, 0, 0, 0, 0, 0xffffffc0⟩, -- SCHED_TABLE_BASE
  ⟨0x104, 0, 1, 0, 1, 0, 0, 0, 0, 0x1ff0007, 0, 0, 0⟩, -- SCHED_CMD
  ⟨0x108, 0, 1, 0, 1, 0, 0, 0, 0, 0, 0, 0, 0⟩, -- SCHED_CMD_STAT
  ⟨0x110, 4, 8, 0, 1, 0, 0xffffffff, 0, 0, 0, 0, 0, 0⟩, -- SCHED_E
  ⟨0x130, 0, 1, 0, 1, 0, 0, 0, 0, 0, 0, 0, 0⟩, -- SCHED_DUE
  ⟨0x134, 0, 1, 0, 1, 0, 0, 0, 0, 0, 0, 0, 0⟩, -- SCHED_DUE_ARG_LO
  ⟨0x138, 0, 1, 0, 1, 0, 0, 0, 0, 0, 0, 0, 0⟩, -- SCHED_DUE_ARG_HI
  ⟨0x13c, 0, 1, 0, 1, 0, 0, 0x100, 0, 0, 0, 0, 0⟩, -- SCHED_DUE_STAT
  ⟨0x140, 0, 1, 0, 1, 0xffffffff, 0, 0, 0, 0, 0, 0, 0⟩, -- SCHED_NEXT_WAKE_LO
  ⟨0x144, 0, 1, 0, 1, 0xffffffff, 0, 0, 0, 0, 0, 0, 0⟩, -- SCHED_NEXT_WAKE_HI
  ⟨0x148, 0, 1, 0, 1, 0, 0, 0, 0, 0, 0, 0, 0⟩ -- SCHED_COUNT
  ]

/-- Block registers of the CRC page class. -/
def regsCRC : List RegDef := [
  ⟨0x100, 0, 1, 0, 1, 0, 0, 0, 0, 0, 0x11f37, 0, 0⟩, -- CRC_SNOOP
  ⟨0x200, 32, 32, 0, 1, 0, 0xff3f, 0, 0, 0, 0, 0, 0⟩, -- CRC_CTX_CFG
  ⟨0x204, 32, 32, 0, 1, 0, 0xffffffff, 0, 0, 0, 0, 0, 0⟩, -- CRC_CTX_RUN
  ⟨0x208, 32, 32, 0, 1, 0, 0, 0, 0, 0, 0, 0, 0⟩, -- CRC_CTX_RESULT
  ⟨0x20c, 32, 32, 0, 1, 0, 0xffffffff, 0, 0, 0, 0, 0, 0⟩, -- CRC_CTX_EXP
  ⟨0x210, 32, 32, 0, 1, 0, 0xffffffff, 0, 0, 0, 0, 0, 0⟩, -- CRC_CTX_LEN
  ⟨0x214, 32, 32, 0, 1, 0, 0, 0, 0, 0, 0, 0, 0⟩, -- CRC_CTX_COUNT
  ⟨0x218, 32, 32, 0, 1, 0, 0, 0, 0, 0, 0, 0, 0⟩ -- CRC_CTX_STAT
  ]

/-- Block registers of the VIN page class. -/
def regsVIN : List RegDef := [
  ⟨0x100, 0, 1, 0, 1, 0x1400e412, 0xff0fff13, 0, 0, 0, 0, 0, 0xff0fff13⟩, -- VIN_PHY_CFG
  ⟨0x110, 32, 4, 0, 1, 0, 0, 0, 0, 0, 0x3ff73f07, 0, 0⟩, -- VIN_S_CFG
  ⟨0x114, 32, 4, 0, 1, 0, 0, 0, 0, 0, 0x3ffffff, 0, 0⟩, -- VIN_S_BUF
  ⟨0x118, 32, 4, 0, 1, 0, 0, 0, 0, 0, 0xf, 0, 0⟩, -- VIN_S_ROUTE
  ⟨0x11c, 32, 4, 0, 1, 0, 0, 0, 0, 0, 0, 0, 0⟩, -- VIN_S_FS_TIME_LO
  ⟨0x120, 32, 4, 0, 1, 0, 0, 0, 0, 0, 0, 0, 0⟩, -- VIN_S_FS_TIME_HI
  ⟨0x124, 32, 4, 0, 1, 0, 0, 0, 0, 0, 0, 0, 0⟩, -- VIN_S_STAT
  ⟨0x190, 0, 1, 0, 1, 0x30, 0, 0, 0, 0, 0x3f, 0, 0⟩ -- VIN_LREQ_DT
  ]

/-- Block registers of the LOOK page class. -/
def regsLOOK : List RegDef := [
  ⟨0x100, 0, 1, 0, 1, 0x810, 0, 0, 0, 0, 0xff77, 0, 0⟩, -- LOOK_CFG
  ⟨0x104, 0, 1, 0, 1, 0, 0, 0, 0, 0, 0xffffffc0, 0, 0⟩, -- LOOK_MODEL_BASE
  ⟨0x108, 0, 1, 0, 1, 0, 0, 0, 0, 0, 0xffffffff, 0, 0⟩, -- LOOK_MODEL_CRC
  ⟨0x10c, 0, 1, 0, 1, 0, 0, 0, 0, 0, 0xffffff, 0, 0⟩, -- LOOK_MODEL_LEN
  ⟨0x110, 0, 1, 0, 1, 0, 0, 0, 0, 0, 0xffffffc0, 0, 0⟩, -- LOOK_WORK_BASE
  ⟨0x114, 0, 1, 0, 1, 0, 0, 0, 0, 0, 0xffffffff, 0, 0⟩, -- LOOK_EXP_OFS
  ⟨0x118, 0, 1, 0, 1, 0x599a3333, 0, 0, 0, 0, 0xffffffff, 0, 0⟩, -- LOOK_THR_A
  ⟨0x11c, 0, 1, 0, 1, 0x39a0080, 0, 0, 0, 0, 0xffffffff, 0, 0⟩, -- LOOK_THR_B
  ⟨0x120, 0, 1, 0, 1, 0x10100, 0, 0, 0, 0, 0xffffff, 0, 0⟩, -- LOOK_THR_C
  ⟨0x124, 0, 1, 0, 1, 7, 7, 0, 0, 0, 0, 0, 7⟩, -- LOOK_BEAM_SEL
  ⟨0x128, 0, 1, 0, 1, 0, 0, 0, 0, 1, 0, 0, 0⟩, -- LOOK_CMD
  ⟨0x12c, 0, 1, 0, 1, 0, 0, 0, 0, 0, 0, 0, 0⟩, -- LOOK_RES
  ⟨0x130, 0, 1, 0, 1, 0, 0, 0, 0, 0, 0, 0, 0⟩, -- LOOK_MEAS_A
  ⟨0x134, 0, 1, 0, 1, 0, 0, 0, 0, 0, 0, 0, 0⟩, -- LOOK_MEAS_B
  ⟨0x138, 0, 1, 0, 1, 0, 0, 0, 0, 0, 0, 0, 0⟩, -- LOOK_REF_TICK
  ⟨0x13c, 0, 1, 0, 1, 0, 0, 0, 0, 0, 0, 0, 0⟩ -- LOOK_ACTIVE
  ]

/-- Block registers of the CMP page class. -/
def regsCMP : List RegDef := [
  ⟨0x100, 0, 1, 0, 1, 0, 0, 0, 0, 0, 0xffff, 0, 0⟩, -- CMP_BASE_LUX
  ⟨0x104, 0, 1, 0, 1, 0, 0, 0, 0, 0xfe, 0, 0, 0⟩, -- CMP_FLIP_ARM
  ⟨0x108, 0, 1, 0, 1, 0, 0, 0, 0, 0, 0, 0, 0⟩, -- CMP_FLIPGRP_STAT
  ⟨0x110, 0, 1, 0, 1, 0x110, 0, 0, 0, 0, 0xfff3f, 0, 0⟩, -- CMP_WB_CTRL
  ⟨0x120, 4, 4, 0, 1, 0, 0, 0, 0, 0, 0xffffffc0, 0, 0⟩, -- CMP_WB_BASE
  ⟨0x130, 4, 4, 0, 1, 0, 0, 0, 0, 0, 0, 0, 0⟩, -- CMP_WB_SLOT
  ⟨0x140, 4, 4, 0, 1, 0, 0, 0, 0, 0, 0, 0, 0⟩, -- CMP_WB_TICK
  ⟨0x150, 0, 1, 0, 1, 0, 0, 0, 0, 0, 0, 0, 0⟩, -- CMP_FETCH_UE_ADDR
  ⟨0x160, 4, 4, 0, 1, 0x8000, 0, 0, 0, 0, 0, 0, 0⟩ -- CMP_CLASS_SCALE
  ]

/-- Block registers of the LYR page class. -/
def regsLYR : List RegDef := [
  ⟨0x100, 0, 1, 0, 1, 0xf0300, 0, 0, 0, 0, 0xf1f7f, 0, 0⟩, -- LYR_CFG
  ⟨0x104, 0, 1, 0, 1, 0, 0, 0, 0, 0, 0xffffffff, 0, 0⟩, -- LYR_ORG_X
  ⟨0x108, 0, 1, 0, 1, 0, 0, 0, 0, 0, 0xffffffff, 0, 0⟩, -- LYR_ORG_Y
  ⟨0x114, 0, 1, 0, 1, 0, 0, 0, 0, 0, 0xffffffff, 0, 0⟩, -- LYR_OFS_X
  ⟨0x118, 0, 1, 0, 1, 0, 0, 0, 0, 0, 0xffffffff, 0, 0⟩, -- LYR_OFS_Y
  ⟨0x10c, 0, 1, 0, 1, 0x10000, 0, 0, 0, 0, 0xffffffff, 0, 0⟩, -- LYR_INV_PITCH_X
  ⟨0x110, 0, 1, 0, 1, 0x10000, 0, 0, 0, 0, 0xffffffff, 0, 0⟩, -- LYR_INV_PITCH_Y
  ⟨0x11c, 0, 1, 0, 1, 0xffff, 0, 0, 0, 0, 0xffff, 0, 0⟩, -- LYR_CONST_ALPHA
  ⟨0x120, 0, 1, 0, 1, 0, 0, 0, 0, 0, 0xffff, 0, 0⟩, -- LYR_CONST_VALUE
  ⟨0x124, 0, 1, 0, 1, 0x1000, 0, 0, 0, 0, 0xffff, 0, 0⟩, -- LYR_LSCALE
  ⟨0x130, 0, 1, 0, 1, 0, 0xffff, 0, 0, 0xc0000000, 0, 0, 0⟩, -- LYR_FLIP
  ⟨0x134, 0, 1, 0, 1, 0, 0, 0, 0, 0, 0, 0, 0⟩, -- LYR_FLIP_STAT
  ⟨0x400, 4, 256, 0, 1, 0, 0, 0, 0, 0, 0xffffffff, 0, 0⟩ -- LYR_PAL
  ]

/-- Block registers of the SCL page class. -/
def regsSCL : List RegDef := [
  ⟨0x100, 0, 1, 0, 1, 0x1200, 0, 0, 0, 0, 0x3fff7fff, 0, 0⟩, -- SCL_CFG
  ⟨0x104, 0, 1, 0, 1, 0, 0, 0, 0, 0, 0xff, 0, 0⟩, -- SCL_SRC
  ⟨0x108, 0, 1, 0, 1, 0, 0, 0, 0, 0, 0xffff, 0, 0⟩, -- SCL_DST
  ⟨0x10c, 0, 1, 0, 1, 0, 0, 0, 0, 0, 0x7fff7fff, 0, 0⟩, -- SCL_CROP_XY
  ⟨0x110, 0, 1, 0, 1, 0, 0, 0, 0, 0, 0x7fff7fff, 0, 0⟩, -- SCL_CROP_WH
  ⟨0x114, 0, 1, 0, 1, 0x10000, 0, 0, 0, 0, 0xffffff, 0, 0⟩, -- SCL_STEP_H
  ⟨0x118, 0, 1, 0, 1, 0x10000, 0, 0, 0, 0, 0xffffff, 0, 0⟩, -- SCL_STEP_V
  ⟨0x11c, 0, 1, 0, 1, 0x1000, 0, 0, 0, 0, 0xffff, 0, 0⟩, -- SCL_LSCALE
  ⟨0x120, 0, 1, 0, 1, 0, 0, 0, 0, 1, 0, 0, 0⟩, -- SCL_KICK
  ⟨0x124, 0, 1, 0, 1, 0, 0, 0, 0, 0, 0, 0, 0⟩, -- SCL_PASS
  ⟨0x400, 4, 128, 0, 1, 0, 0xfff0fff, 0, 0, 0, 0, 0, 0xfff0fff⟩, -- SCL_HCOEF
  ⟨0x600, 4, 96, 0, 1, 0, 0xfff0fff, 0, 0, 0, 0, 0, 0xfff0fff⟩ -- SCL_VCOEF
  ]

/-- Block registers of the FENCE page class. -/
def regsFENCE : List RegDef := [
  ⟨0x100, 0, 1, 0, 1, 0, 0, 0xffffffff, 0, 0, 0, 0, 0⟩, -- FENCE_STATE_LO
  ⟨0x104, 0, 1, 0, 1, 0, 0, 0xffffffff, 0, 0, 0, 0, 0⟩, -- FENCE_STATE_HI
  ⟨0x108, 0, 1, 0, 1, 0, 0, 0, 0, 0xffffffff, 0, 0, 0⟩, -- FENCE_SET_LO
  ⟨0x10c, 0, 1, 0, 1, 0, 0, 0, 0, 0xffffffff, 0, 0, 0⟩ -- FENCE_SET_HI
  ]

/-- Block registers of the BUF page class. -/
def regsBUF : List RegDef := [
  ⟨0x100, 0, 1, 0, 1, 0, 0, 0, 0, 0x7ff, 0, 0, 0⟩, -- BUF_CMD
  ⟨0x104, 0, 1, 0, 1, 0, 0, 0, 0, 0, 0, 0, 0⟩, -- BUF_CMD_STAT
  ⟨0x108, 0, 1, 0, 1, 0, 0xffffffff, 0, 0, 0, 0, 0, 0⟩, -- BUF_E_BASE
  ⟨0x10c, 0, 1, 0, 1, 0, 0xfffff, 0, 0, 0, 0, 0, 0⟩, -- BUF_E_STRIDE
  ⟨0x110, 0, 1, 0, 1, 0, 0x3fff3fff, 0, 0, 0, 0, 0, 0⟩, -- BUF_E_SIZE
  ⟨0x114, 0, 1, 0, 1, 0, 0xff0f, 0, 0, 0, 0, 0, 0⟩, -- BUF_E_FMT
  ⟨0x118, 0, 1, 0, 1, 0, 0, 0, 0, 0, 0, 0, 0⟩, -- BUF_E_STATE
  ⟨0x120, 0, 1, 0, 1, 0, 0, 0, 0, 0, 0, 0, 0⟩, -- BUF_FW_ADDR
  ⟨0x124, 0, 1, 0, 1, 0, 0, 0, 0, 0, 0, 0, 0⟩, -- BUF_FW_INFO
  ⟨0x200, 4, 32, 0, 1, 0, 0, 0, 0, 0, 0, 0, 0⟩, -- BUF_STATES
  ⟨0x300, 4, 8, 0, 1, 0, 0, 0xffffffff, 0, 0, 0, 0, 0⟩ -- BUF_RETIRED
  ]

/-- Block registers of the WRP page class. -/
def regsWRP : List RegDef := [
  ]

/-- Block registers of the WRPT page class. -/
def regsWRPT : List RegDef := [
  ⟨0x100, 0, 1, 0, 1, 0, 0, 0, 0, 0, 0xffffffc0, 0, 0⟩, -- WRP_MESH_BASE
  ⟨0x104, 0, 1, 0, 1, 0, 0, 0, 0, 0, 0xffffffff, 0, 0⟩, -- WRP_MESH_CRC
  ⟨0x108, 0, 1, 0, 1, 0, 0, 0, 0, 0, 1, 0, 0⟩, -- WRP_MESH_CFG
  ⟨0x10c, 0, 1, 0, 1, 0, 0, 0, 0, 0, 0, 0, 0⟩ -- WRP_GEOM
  ]

/-- Block registers of the PHO page class. -/
def regsPHO : List RegDef := [
  ⟨0x100, 0, 1, 0, 1, 0x1795, 0, 0, 0, 0, 0x3ffd, 0, 0⟩, -- PHO_DTH_CTRL
  ⟨0x104, 0, 1, 0, 1, 0, 0xfff, 0, 0, 0, 0, 0, 0⟩, -- PHO_DTH_ADDR
  ⟨0x108, 0, 1, 0, 1, 0, 0xffffffff, 0, 0, 0, 0, 0, 0xffffffff⟩, -- PHO_DTH_DATA
  ⟨0x110, 0, 1, 0, 1, 0, 0xffffffc0, 0, 0, 0, 0, 0, 0xffffffc0⟩, -- PHO_RMAP_BASE
  ⟨0x114, 0, 1, 0, 1, 0, 0, 0, 0, 0, 0, 0, 0⟩, -- PHO_RMAP_STAT
  ⟨0x118, 0, 1, 0, 1, 0, 0, 0, 0, 0x3fff8007, 0, 0, 0⟩, -- PHO_RMAP_CMD
  ⟨0x11c, 0, 1, 0, 1, 0, 0, 0, 0, 0, 0, 0, 0⟩, -- PHO_RMAP_CMD_STAT
  ⟨0x120, 0, 1, 0, 1, 0, 0xffffffff, 0, 0, 0, 0, 0, 0⟩, -- PHO_RMAP_E0
  ⟨0x124, 0, 1, 0, 1, 0, 0xffffffff, 0, 0, 0, 0, 0, 0⟩, -- PHO_RMAP_E1
  ⟨0x128, 0, 1, 0, 1, 0, 0xffffffff, 0, 0, 0, 0, 0, 0⟩, -- PHO_RMAP_E2
  ⟨0x12c, 0, 1, 0, 1, 0, 0xffffffff, 0, 0, 0, 0, 0, 0⟩, -- PHO_RMAP_E3
  ⟨0x130, 0, 1, 0, 1, 0x5540, 0xffff, 0, 0, 0, 0, 0, 0⟩, -- PHO_RMAP_DEFW
  ⟨0x140, 0, 1, 0, 1, 3, 0, 0, 0, 0, 3, 0, 0⟩, -- PHO_DOSE_CTRL
  ⟨0x144, 0, 1, 0, 1, 0x1c20, 0, 0, 0, 0, 0, 0xffff, 0⟩, -- PHO_DOSE_UNIT
  ⟨0x148, 0, 1, 0, 1, 0, 0, 0, 0, 0, 0, 0, 0⟩, -- PHO_DOSE_K
  ⟨0x14c, 0, 1, 0, 1, 0, 0, 0, 0, 0, 0, 0, 0⟩, -- PHO_FB_FRAMES
  ⟨0x150, 0, 1, 0, 1, 0, 0, 0, 0, 0, 0, 0xffffffc0, 0⟩, -- PHO_SNAP_BASE
  ⟨0x154, 0, 1, 0, 1, 0, 0, 0, 0, 3, 0, 0, 0⟩, -- PHO_SNAP_CMD
  ⟨0x158, 0, 1, 0, 1, 0, 0, 0, 0, 0, 0, 0, 0⟩, -- PHO_SNAP_STAT
  ⟨0x15c, 0, 1, 0, 1, 0, 0, 0, 0, 0, 0, 0, 0⟩, -- PHO_SNAP_SEQ
  ⟨0x1fc, 0, 1, 0, 1, 0, 0, 0, 1, 0, 0, 0, 0⟩ -- PHO_LOCK
  ]

/-- Block registers of the PHOT page class. -/
def regsPHOT : List RegDef := [
  ⟨0x100, 0, 1, 0, 1, 0, 0, 0, 0, 0, 0xffffffc0, 0, 0⟩, -- PHO_GAIN_BASE
  ⟨0x104, 0, 1, 0, 1, 0, 0xffffffc0, 0, 0, 0, 0, 0, 0xffffffc0⟩, -- PHO_DOSE_BASE
  ⟨0x108, 0, 1, 0, 1, 0xfff, 0, 0, 0, 0, 0, 0xfff, 0⟩, -- PHO_HWLIMIT
  ⟨0x10c, 0, 1, 0, 1, 0, 0, 0, 0, 0, 0x1f1f, 0, 0⟩, -- PHO_LOOP_SEL
  ⟨0x110, 0, 1, 0, 1, 0x1000, 0, 0, 0, 0, 0xffff, 0, 0⟩, -- PHO_GAIN_FIXED
  ⟨0x114, 0, 1, 0, 1, 0x14000c00, 0, 0, 0, 0, 0, 0xffffffff, 0⟩, -- PHO_GAIN_LIM
  ⟨0x118, 0, 1, 0, 1, 0x800, 0, 0, 0, 0, 0, 0xfff, 0⟩, -- PHO_TH_FAILSAFE
  ⟨0x11c, 0, 1, 0, 1, 0x10000fff, 0, 0, 0, 0, 0, 0, 0⟩, -- PHO_IN_USE
  ⟨0x200, 4, 64, 0, 1, 0x1000, 0, 0, 0, 0, 0xffff, 0, 0⟩ -- PHO_AGE
  ]

/-- Block registers of the GLM page class. -/
def regsGLM : List RegDef := [
  ⟨0x100, 0, 1, 0, 1, 0x400, 0, 0, 0, 0, 0x777, 0, 0⟩, -- GLM_CFG
  ⟨0x104, 0, 1, 0, 1, 0, 0, 0, 0, 0, 0xffffffff, 0, 0⟩, -- GLM_LAMP_X
  ⟨0x108, 0, 1, 0, 1, 0, 0, 0, 0, 0, 0xffffffff, 0, 0⟩, -- GLM_LAMP_Y
  ⟨0x10c, 0, 1, 0, 1, 0, 0, 0, 0, 0, 0xffffffff, 0, 0⟩, -- GLM_LAMP_Z
  ⟨0x110, 4, 3, 0, 1, 0x400000, 0, 0, 0, 0, 0xffff00ff, 0, 0⟩, -- GLM_KIND
  ⟨0x11c, 0, 1, 0, 1, 0x200080, 0, 0, 0, 0, 0xffffff, 0, 0⟩, -- GLM_SOFT
  ⟨0x120, 0, 1, 0, 1, 0x14012c, 0, 0, 0, 0, 0x3ff03ff, 0, 0⟩, -- GLM_TIMING
  ⟨0x124, 0, 1, 0, 1, 0, 0, 0, 0, 0, 0xff, 0, 0⟩, -- GLM_LATE_LEVEL
  ⟨0x128, 0, 1, 0, 1, 0, 0xffffffc0, 0, 0, 0, 0, 0, 0xffffffc0⟩, -- GLM_LIST_BASE
  ⟨0x12c, 0, 1, 0, 1, 0, 0, 0, 0, 7, 0, 0, 0⟩, -- GLM_POST
  ⟨0x130, 0, 1, 0, 1, 0, 0, 0, 0, 0, 0, 0, 0⟩, -- GLM_SLOT_STATE
  ⟨0x134, 0, 1, 0, 1, 0, 0, 0, 0, 0, 0, 0, 0⟩, -- GLM_LIST_REJ
  ⟨0x138, 0, 1, 0, 1, 0, 0, 0, 0, 0, 0xffffffe0, 0, 0⟩, -- GLM_STATIC_BASE
  ⟨0x13c, 0, 1, 0, 1, 0, 0, 0, 0, 0, 0xffffffe0, 0, 0⟩, -- GLM_CONS_BASE
  ⟨0x140, 0, 1, 0, 1, 0, 0, 0, 0, 0, 0xff007f, 0, 0⟩, -- GLM_TABLE_CNT
  ⟨0x144, 0, 1, 0, 1, 0xffff, 0, 0, 0, 0, 0xffff, 0, 0⟩, -- GLM_CH_LANES
  ⟨0x148, 0, 1, 0, 1, 0, 0xff, 0, 0, 0, 0, 0, 0⟩, -- GLM_CONS_FORCE
  ⟨0x14c, 0, 1, 0, 1, 0xff0033, 0, 0, 0, 0, 0, 0, 0⟩, -- GLM_CH_STAT
  ⟨0x150, 4, 4, 0, 1, 0, 0, 0, 0, 0, 0xffffffc0, 0, 0⟩, -- GLM_PLANE_BASE
  ⟨0x160, 4, 4, 0, 1, 0, 0, 0, 0, 0, 0xffffffc0, 0, 0⟩, -- GLM_PRIV_BASE
  ⟨0x170, 0, 1, 0, 1, 0, 0, 0, 0, 0, 0x3fffffff, 0, 0⟩, -- GLM_POOL_BUF
  ⟨0x174, 0, 1, 0, 1, 0xf, 0xff, 0, 0, 0, 0, 0, 0xff⟩ -- GLM_BEAM_SEL
  ]

/-- Block registers of the SCN page class. -/
def regsSCN : List RegDef := [
  ⟨0x100, 0, 1, 0, 1, 0x9600001, 0, 0, 0, 0, 0x1fff0007, 0, 0⟩, -- SCN_TIMING
  ⟨0x104, 0, 1, 0, 1, 0x140000, 0, 0, 0, 0, 0x3ffff03, 0, 0⟩, -- SCN_SYNC
  ⟨0x108, 0, 1, 0, 1, 0xa00, 0, 0, 0, 0, 0xffffff01, 0, 0⟩, -- SCN_SYNC_OUT
  ⟨0x10c, 0, 1, 0, 1, 0x32, 0, 0, 0, 0, 0x3ff, 0, 0⟩, -- SCN_SWAP_GUARD
  ⟨0x110, 0, 1, 0, 1, 0, 0xf07, 0, 0, 0, 0, 0, 0xf07⟩, -- SCN_ARR
  ⟨0x114, 0, 1, 0, 1, 0, 0, 0, 0, 0, 0, 0, 0⟩, -- SCN_TRANS_TICK
  ⟨0x118, 0, 1, 0, 1, 0, 0, 0, 0, 0, 0, 0, 0⟩, -- SCN_TRANS_LEN
  ⟨0x120, 0, 1, 0, 1, 0, 0, 0, 0, 0, 0, 0xffffffe0, 0⟩, -- SCN_FB_BASE
  ⟨0x124, 0, 1, 0, 1, 0x40, 0, 0, 0, 0, 0xff, 0, 0⟩, -- SCN_FB_CTRL
  ⟨0x128, 0, 1, 0, 1, 0, 0, 0, 0, 0, 0, 0xfff, 0⟩, -- SCN_FB_UNIFORM
  ⟨0x12c, 0, 1, 0, 1, 0, 0, 0, 0, 0, 0, 0, 0⟩, -- SCN_FB_STAT
  ⟨0x1fc, 0, 1, 0, 1, 0, 0, 0, 1, 0, 0, 0, 0⟩ -- SCN_LOCK
  ]

/-- Block registers of the SCNT page class. -/
def regsSCNT : List RegDef := [
  ⟨0x100, 0, 1, 0, 1, 0, 0, 0, 0, 0, 0xfff, 0, 0⟩, -- SCN_TILE_BGCODE
  ⟨0x104, 0, 1, 0, 1, 0, 0, 0, 0, 0, 0xffff, 0, 0⟩, -- SCN_RECT_EN
  ⟨0x108, 0, 1, 0, 1, 0xf0, 0, 0, 0, 0, 0xffff, 0, 0⟩, -- SCN_RECT_SKIP_MAX
  ⟨0x110, 16, 16, 0, 1, 0, 0, 0, 0, 0, 0x3ff03ff, 0, 0⟩, -- SCN_RECT_POS
  ⟨0x114, 16, 16, 0, 1, 0, 0, 0, 0, 0, 0x3ff03ff, 0, 0⟩, -- SCN_RECT_SIZE
  ⟨0x118, 16, 16, 0, 1, 0x1ff00, 0, 0, 0, 0, 0xfffff03, 0, 0⟩, -- SCN_RECT_CFG
  ⟨0x11c, 16, 16, 0, 1, 0, 0, 0, 0, 0, 0, 0, 0⟩, -- SCN_RECT_CALC
  ⟨0x300, 16, 16, 0, 1, 0, 0, 0, 0, 0, 0xffffffff, 0, 0⟩, -- SCN_RECT_EXP_A
  ⟨0x304, 16, 16, 0, 1, 0, 0, 0, 0, 0, 0xffffffff, 0, 0⟩, -- SCN_RECT_EXP_B
  ⟨0x308, 16, 16, 0, 1, 0, 0, 0, 0, 0, 0x8700ffff, 0, 0⟩, -- SCN_RECT_BIND
  ⟨0x30c, 16, 16, 0, 1, 0, 0, 0, 0, 0, 0, 0, 0⟩, -- SCN_RECT_RES
  ⟨0x400, 16, 16, 0, 1, 0, 0xffffffff, 0, 0, 0, 0, 0, 0⟩, -- SCN_RECT_DIV
  ⟨0x404, 16, 16, 0, 1, 0, 0xffff, 0, 0, 0, 0, 0, 0⟩ -- SCN_RECT_DIV_TAG
  ]

/-- Block registers of the SPL page class. -/
def regsSPL : List RegDef := [
  ⟨0x100, 0, 1, 0, 1, 0x14, 0x3ff, 0, 0, 0, 0, 0, 0⟩, -- SPL_ACK_TIMEOUT
  ⟨0x104, 0, 1, 0, 1, 0, 0xffffffc0, 0, 0, 0, 0, 0, 0xffffffc0⟩, -- SPL_RING_BASE
  ⟨0x108, 0, 1, 0, 1, 0, 0x7ff, 0, 0, 0, 0, 0, 0x7ff⟩, -- SPL_RING_SIZE
  ⟨0x10c, 0, 1, 0, 1, 0, 0, 0, 0, 0, 0, 0, 0⟩, -- SPL_RING_WR
  ⟨0x110, 0, 1, 0, 1, 0, 0xfffff, 0, 0, 0, 0, 0, 0⟩ -- SPL_RING_RD
  ]

/-- Block registers of the SPLT page class. -/
def regsSPLT : List RegDef := [
  ⟨0x100, 0, 1, 0, 1, 0x20f, 0xf030f, 0, 0, 0, 0, 0, 0xf030f⟩, -- SPL_LANE_CFG
  ⟨0x104, 0, 1, 0, 1, 0, 0xffffffff, 0, 0, 0, 0, 0, 0⟩, -- SPL_CTRL_ADDR
  ⟨0x108, 0, 1, 0, 1, 0, 0xffffffff, 0, 0, 0, 0, 0, 0⟩, -- SPL_CTRL_WDATA
  ⟨0x114, 0, 1, 0, 1, 0, 0, 0, 0, 0, 0, 0, 0⟩, -- SPL_CTRL_RDATA
  ⟨0x10c, 0, 1, 0, 1, 0, 0xff, 0, 0, 0x80000000, 0, 0, 0⟩, -- SPL_CTRL_CMD
  ⟨0x110, 0, 1, 0, 1, 0, 0, 0, 0, 0, 0, 0, 0⟩, -- SPL_CTRL_STAT
  ⟨0x118, 0, 1, 0, 1, 0, 0, 0, 0, 0, 0, 0, 0⟩, -- SPL_ALIVE
  ⟨0x11c, 0, 1, 0, 1, 0, 0, 0, 0, 0, 0, 0, 0⟩, -- SPL_RETRAINS
  ⟨0x120, 4, 5, 0, 1, 0, 0xffff, 0, 0, 0, 0, 0, 0⟩, -- SPL_CV_TOTAL
  ⟨0x140, 4, 8, 0, 1, 0, 0, 0, 0, 0, 0, 0xffffffff, 0⟩, -- SPL_EXP_HASH
  ⟨0x1fc, 0, 1, 0, 1, 0, 0, 0, 1, 0, 0, 0, 0⟩, -- SPL_LOCK
  ⟨0x200, 4, 24, 0, 1, 0, 0, 0, 0, 0, 0, 0, 0⟩ -- SPL_ENUM
  ]

/-- Block registers of the DRV page class. -/
def regsDRV : List RegDef := [
  ⟨0x100, 4, 16, 0, 1, 0, 0, 0, 0, 0, 0xffffffff, 0, 0⟩, -- DRV_SEQ_ORDER
  ⟨0x140, 0, 1, 0, 1, 0x40100, 0, 0, 0, 0, 0x3f0fff, 0, 0⟩, -- DRV_SEQ_CFG
  ⟨0x144, 0, 1, 0, 1, 0x1706, 0, 0, 0, 0, 0xff0f, 0, 0⟩, -- DRV_PROBE_CFG
  ⟨0x148, 0, 1, 0, 1, 0x40, 0, 0, 0, 0, 0, 0, 0⟩, -- DRV_PROBE_STAT
  ⟨0x150, 4, 4, 0, 1, 0, 0, 0, 0, 0, 0, 0, 0⟩, -- DRV_PROBE_UNITS
  ⟨0x160, 4, 4, 0, 1, 0, 0, 0, 0, 0, 0, 0, 0⟩, -- DRV_COVER_AGE
  ⟨0x170, 4, 4, 0, 1, 0, 0, 0, 0, 0, 0xffffffc0, 0, 0⟩, -- DRV_FP_BASE
  ⟨0x180, 4, 4, 0, 1, 0, 0, 0, 0, 0, 0, 0, 0⟩, -- DRV_TILE_VF
  ⟨0x190, 0, 1, 0, 1, 0, 0, 0, 0, 0, 0, 0, 0⟩, -- DRV_DEF_COUNT
  ⟨0x194, 0, 1, 0, 1, 0, 0, 0, 0, 0x800001ff, 0, 0, 0⟩, -- DRV_DEF_CMD
  ⟨0x1fc, 0, 1, 0, 1, 0, 0, 0, 1, 0, 0, 0, 0⟩, -- DRV_LOCK
  ⟨0x200, 32, 4, 4, 8, 0, 0, 0, 0, 0, 0, 0, 0⟩, -- DRV_TILE_TEMP
  ⟨0x400, 16, 32, 0, 1, 0x8000, 0, 0, 0, 0, 0xff0f, 0xff0000, 0⟩, -- DRV_FN_CFG
  ⟨0x404, 16, 32, 0, 1, 0, 0, 0, 0, 0, 0xffffffff, 0, 0⟩, -- DRV_FN_WIN_I
  ⟨0x408, 16, 32, 0, 1, 0, 0, 0, 0, 0, 0xffffffff, 0, 0⟩, -- DRV_FN_WIN_J
  ⟨0x40c, 16, 32, 0, 1, 0, 0, 0, 0, 0, 0, 0, 0⟩, -- DRV_FN_STAT
  ⟨0x600, 0, 1, 0, 1, 0, 0, 0, 0, 0, 0, 0, 0⟩, -- DRV_FN_OFF
  ⟨0x604, 0, 1, 0, 1, 0, 0, 0, 0, 0xffffffff, 0, 0, 0⟩, -- DRV_FN_KILL
  ⟨0x608, 0, 1, 0, 1, 0, 0, 0, 0, 0xffffffff, 0, 0, 0⟩, -- DRV_FN_CLEAR
  ⟨0x800, 4, 512, 0, 1, 0, 0, 0, 0, 0, 0, 0, 0⟩ -- DRV_DEF
  ]

/-- Block registers of the PAT page class. -/
def regsPAT : List RegDef := [
  ⟨0x100, 0, 1, 0, 1, 0, 0, 0, 0, 0, 0xffff, 0, 0⟩, -- PAT_RUN
  ⟨0x104, 0, 1, 0, 1, 0x8000, 0x7fff, 0, 0, 0, 0, 0, 0⟩, -- PAT_FLAGS
  ⟨0x108, 0, 1, 0, 1, 0, 0xfff, 0, 0, 0, 0, 0, 0⟩, -- PAT_PROG_ADDR
  ⟨0x10c, 0, 1, 0, 1, 0, 0xffffffff, 0, 0, 0, 0, 0, 0⟩, -- PAT_PROG_DATA
  ⟨0x110, 0, 1, 0, 1, 0, 0x1ff, 0, 0, 0, 0, 0, 0⟩, -- PAT_K_ADDR
  ⟨0x114, 0, 1, 0, 1, 0, 0, 0, 0, 0, 0xffffffff, 0, 0⟩, -- PAT_K_DATA
  ⟨0x140, 4, 16, 0, 1, 0, 0, 0, 0, 0, 0xffffffff, 0, 0⟩, -- PAT_PHASE
  ⟨0x180, 16, 16, 4, 4, 0, 0, 0, 0, 0, 0xff7f, 0, 0⟩, -- PAT_OUT
  ⟨0x280, 4, 16, 0, 1, 0, 0, 0, 0, 0, 0, 0, 0⟩, -- PAT_STATE
  ⟨0x300, 16, 16, 4, 4, 0, 0, 0, 0, 0, 0, 0, 0⟩ -- PAT_V
  ]

/-- Block registers of the CTL page class. -/
def regsCTL : List RegDef := [
  ]

/-- Block registers of the CTLK page class. -/
def regsCTLK : List RegDef := [
  ⟨0x100, 0, 1, 0, 1, 0, 0, 0, 0, 0, 0x333373f, 0, 0⟩, -- CTL_LOOP_CFG
  ⟨0x104, 0, 1, 0, 1, 1, 0, 0, 0, 0, 0x1ff7fff, 0, 0⟩, -- CTL_LOOP_SPF
  ⟨0x108, 0, 1, 0, 1, 0x10, 0, 0, 0, 0, 0xffff, 0, 0⟩, -- CTL_LOOP_PLAUS
  ⟨0x10c, 0, 1, 0, 1, 0, 0, 0, 0, 0x3f, 0, 0, 0⟩, -- CTL_LOOP_CMD
  ⟨0x110, 0, 1, 0, 1, 0, 0, 0xff, 0, 0, 0, 0, 0⟩, -- CTL_LOOP_FLAGS
  ⟨0x114, 0, 1, 0, 1, 0, 0, 0, 0, 0, 7, 0, 0⟩, -- CTL_LOOP_EST_CFG
  ⟨0x118, 0, 1, 0, 1, 0, 0, 0, 0, 0, 0xffffffff, 0, 0⟩, -- CTL_LOOP_EST_GAIN
  ⟨0x11c, 0, 1, 0, 1, 0, 0, 0, 0, 0, 0, 0, 0⟩, -- CTL_LOOP_EST
  ⟨0x120, 0, 1, 0, 1, 0, 0, 0, 0, 0, 0x33, 0, 0⟩, -- CTL_LOOP_E_CFG
  ⟨0x124, 0, 1, 0, 1, 0, 0, 0, 0, 0, 0xffffffff, 0, 0⟩, -- CTL_LOOP_E_SCALE
  ⟨0x128, 0, 1, 0, 1, 0, 0, 0, 0, 0, 0x3337, 0, 0⟩, -- CTL_LOOP_COMP_CFG
  ⟨0x12c, 0, 1, 0, 1, 0, 0, 0, 0, 0, 0x3fff, 0, 0⟩, -- CTL_LOOP_RC_LEAD
  ⟨0x130, 0, 1, 0, 1, 0, 0, 0, 0, 0, 0, 0, 0⟩, -- CTL_LOOP_RC_STAT
  ⟨0x134, 0, 1, 0, 1, 0, 0x3fff, 0, 0, 0, 0, 0, 0⟩, -- CTL_LOOP_RC_ADDR
  ⟨0x138, 0, 1, 0, 1, 0, 0xffffffff, 0, 0, 0, 0, 0, 0xffffffff⟩, -- CTL_LOOP_RC_DATA
  ⟨0x140, 32, 4, 0, 1, 0, 0xffffffff, 0, 0, 0, 0, 0, 0⟩, -- CTL_LOOP_SP
  ⟨0x144, 32, 4, 0, 1, 0x80000000, 0, 0, 0, 0, 0xffffffff, 0, 0⟩, -- CTL_LOOP_SP_MIN
  ⟨0x148, 32, 4, 0, 1, 0x7fffffff, 0, 0, 0, 0, 0xffffffff, 0, 0⟩, -- CTL_LOOP_SP_MAX
  ⟨0x14c, 32, 4, 0, 1, 0, 0, 0, 0, 0, 0xffffffff, 0, 0⟩, -- CTL_LOOP_RISE
  ⟨0x150, 32, 4, 0, 1, 0, 0, 0, 0, 0, 0xffffffff, 0, 0⟩, -- CTL_LOOP_FALL
  ⟨0x154, 32, 4, 0, 1, 0, 0, 0, 0, 0, 0xffffffff, 0, 0⟩, -- CTL_LOOP_R_START
  ⟨0x158, 32, 4, 0, 1, 0, 0, 0, 0, 0, 0xffffffff, 0, 0⟩, -- CTL_LOOP_HOLD_SP
  ⟨0x15c, 32, 4, 0, 1, 0, 0, 0, 0, 0, 0x3f1, 0, 0⟩, -- CTL_LOOP_RSRC
  ⟨0x1c0, 16, 4, 0, 1, 0, 0, 0, 0, 0, 0x1f7f07, 0, 0⟩, -- CTL_LOOP_MSRC
  ⟨0x1c4, 16, 4, 0, 1, 0, 0, 0, 0, 0, 0xffffffff, 0, 0⟩, -- CTL_LOOP_MOFS
  ⟨0x1c8, 16, 4, 0, 1, 0, 0, 0, 0, 0, 0xffffffff, 0, 0⟩, -- CTL_LOOP_RESB
  ⟨0x1cc, 16, 4, 0, 1, 0, 0, 0, 0, 0, 0x3ffff, 0, 0⟩, -- CTL_LOOP_FRZ
  ⟨0x200, 32, 4, 0, 1, 0, 0, 0, 0, 0, 0xffffffff, 0, 0⟩, -- CTL_LOOP_U_MIN
  ⟨0x204, 32, 4, 0, 1, 0, 0, 0, 0, 0, 0xffffffff, 0, 0⟩, -- CTL_LOOP_U_MAX
  ⟨0x208, 32, 4, 0, 1, 0, 0, 0, 0, 0, 0xffffffff, 0, 0⟩, -- CTL_LOOP_HOLD_UMAX
  ⟨0x20c, 32, 4, 0, 1, 0, 0, 0, 0, 0, 0x3f3, 0, 0⟩, -- CTL_LOOP_FF_CFG
  ⟨0x210, 32, 4, 0, 1, 0, 0, 0, 0, 0, 0xffffffff, 0, 0⟩, -- CTL_LOOP_FF_CONST
  ⟨0x214, 32, 4, 0, 1, 0, 0, 0, 0, 0, 0xffffffff, 0, 0⟩, -- CTL_LOOP_MOVE_MIN
  ⟨0x280, 4, 8, 0, 1, 0, 0, 0, 0, 0, 0, 0, 0⟩, -- CTL_LOOP_X_HAT
  ⟨0x2a0, 4, 8, 0, 1, 0, 0, 0, 0, 0, 0xffffffff, 0, 0⟩, -- CTL_LOOP_X_INIT
  ⟨0x2c0, 4, 4, 0, 1, 0, 0, 0, 0, 0, 0, 0, 0⟩, -- CTL_LOOP_Y
  ⟨0x2d0, 4, 4, 0, 1, 0, 0, 0, 0, 0, 0, 0, 0⟩, -- CTL_LOOP_U
  ⟨0x2e0, 4, 4, 0, 1, 0, 0, 0, 0, 0, 0, 0, 0⟩, -- CTL_LOOP_R
  ⟨0x2f0, 4, 4, 0, 1, 0, 0, 0, 0, 0, 0, 0, 0⟩, -- CTL_LOOP_E
  ⟨0x300, 0, 1, 0, 1, 0x700, 0, 0, 0, 0, 0xffff1f37, 0, 0⟩, -- CTL_LOOP_INJ_CFG
  ⟨0x304, 0, 1, 0, 1, 0, 0, 0, 0, 0, 0xffffffff, 0, 0⟩, -- CTL_LOOP_INJ_AMP
  ⟨0x308, 0, 1, 0, 1, 0, 0, 0, 0, 0, 0xffffffff, 0, 0⟩, -- CTL_LOOP_INJ_INC0
  ⟨0x30c, 0, 1, 0, 1, 0, 0, 0, 0, 0, 0xffffffff, 0, 0⟩, -- CTL_LOOP_INJ_INC1
  ⟨0x310, 0, 1, 0, 1, 0, 0, 0, 0, 0, 0xffffffff, 0, 0⟩, -- CTL_LOOP_INJ_DINC
  ⟨0x314, 0, 1, 0, 1, 0, 0, 0, 0, 0, 0xfffffff, 0, 0⟩, -- CTL_LOOP_INJ_RUN
  ⟨0x318, 0, 1, 0, 1, 0, 0, 0, 0, 0, 0, 0, 0⟩, -- CTL_LOOP_INJ_STAT
  ⟨0x340, 4, 16, 0, 1, 0, 0, 0, 0, 0, 0xffffffff, 0, 0⟩, -- CTL_LOOP_INJ_STEP
  ⟨0x380, 0, 1, 0, 1, 0, 0, 0, 0, 0, 0xfff1f1f, 0, 0⟩, -- CTL_LOOP_CAP_CFG
  ⟨0x384, 0, 1, 0, 1, 0, 0, 0, 0, 0, 0xfffffff8, 0, 0⟩, -- CTL_LOOP_CAP_BASE
  ⟨0x388, 0, 1, 0, 1, 1, 0, 0, 0, 0, 0x1ffff, 0, 0⟩, -- CTL_LOOP_CAP_LEN
  ⟨0x38c, 0, 1, 0, 1, 0, 0, 0, 0, 0, 0x1ffff, 0, 0⟩, -- CTL_LOOP_CAP_POST
  ⟨0x390, 0, 1, 0, 1, 0, 0, 0, 0, 0, 0xffffffff, 0, 0⟩, -- CTL_LOOP_CAP_TICK
  ⟨0x394, 0, 1, 0, 1, 0, 0, 0, 0, 0, 0, 0, 0⟩, -- CTL_LOOP_CAP_WR
  ⟨0x800, 8, 229, 0, 1, 0, 0, 0, 0, 0, 0xffffffff, 0, 0⟩, -- CTL_LOOP_COEF_VAL
  ⟨0x804, 8, 229, 0, 1, 0, 0, 0, 0, 0, 0x1f, 0, 0⟩ -- CTL_LOOP_COEF_SHIFT
  ]

/-- Block registers of the PWM page class. -/
def regsPWM : List RegDef := [
  ⟨0x100, 16, 16, 0, 1, 0, 0, 0, 0, 0, 0xff07ff, 0, 0⟩, -- PWM_CFG
  ⟨0x104, 16, 16, 0, 1, 0x1a1, 0, 0, 0, 0, 0xfffff, 0, 0⟩, -- PWM_PERIOD
  ⟨0x108, 16, 16, 0, 1, 0, 0xffff, 0, 0, 0, 0, 0, 0⟩, -- PWM_DUTY
  ⟨0x10c, 16, 16, 0, 1, 0, 0, 0, 0, 0, 0xfff, 0, 0⟩ -- PWM_MINON
  ]

/-- Block registers of the ADC page class. -/
def regsADC : List RegDef := [
  ⟨0x100, 16, 16, 0, 1, 0, 0, 0, 0, 0, 7, 0, 0⟩, -- ADC_CH_CFG
  ⟨0x104, 16, 16, 0, 1, 0, 0, 0, 0, 0, 0, 0, 0⟩ -- ADC_CH_LAST
  ]

/-- Block registers of the NRG page class. -/
def regsNRG : List RegDef := [
  ⟨0x100, 0, 1, 0, 1, 0x30, 0, 0, 0, 0, 0x3f, 0, 0⟩, -- NRG_CFG
  ⟨0x104, 0, 1, 0, 1, 0x3e8147b, 0, 0, 0, 0, 0xffffffff, 0, 0⟩, -- NRG_MIS_CFG
  ⟨0x108, 0, 1, 0, 1, 0xfa, 0, 0, 0, 0, 0xffff, 0, 0⟩, -- NRG_MIS_ABS
  ⟨0x10c, 0, 1, 0, 1, 0, 0, 0, 0, 0, 0xffffffff, 0, 0⟩, -- NRG_PLIM
  ⟨0x110, 0, 1, 0, 1, 0, 0, 0, 0, 0, 0xffffffff, 0, 0⟩, -- NRG_ECEIL
  ⟨0x114, 0, 1, 0, 1, 0x8000, 0, 0, 0, 0, 0xffff, 0, 0⟩, -- NRG_FLOOR1
  ⟨0x118, 0, 1, 0, 1, 0x80008000, 0xffffffff, 0, 0, 0, 0, 0, 0⟩, -- NRG_ALLOW
  ⟨0x11c, 0, 1, 0, 1, 0x6000, 0, 0, 0, 0, 0xffffffff, 0, 0⟩, -- NRG_ALLOW_SAFE
  ⟨0x120, 0, 1, 0, 1, 0x400010, 0, 0, 0, 0, 0xffffffff, 0, 0⟩, -- NRG_RATE
  ⟨0x124, 0, 1, 0, 1, 0x304ec, 0, 0, 0, 0, 0xff07ff, 0, 0⟩, -- NRG_PLAN_CFG
  ⟨0x128, 0, 1, 0, 1, 0, 0, 0, 0, 0, 0xffffffff, 0, 0⟩, -- NRG_NIGHT_BUDGET
  ⟨0x12c, 0, 1, 0, 1, 0x80008000, 0, 0, 0, 0, 0, 0, 0⟩, -- NRG_ALLOW_EFF
  ⟨0x130, 0, 1, 0, 1, 0, 0, 0, 0, 0, 0, 0, 0⟩, -- NRG_PLAN_STAT
  ⟨0x13c, 0, 1, 0, 1, 0, 0, 0, 1, 0, 0, 0, 0⟩, -- NRG_LOCK
  ⟨0x140, 4, 48, 0, 1, 0, 0, 0, 0, 0, 0xffff, 0, 0⟩, -- NRG_PLAN
  ⟨0x200, 0, 1, 0, 1, 0, 0, 0, 0, 0, 0, 0, 0⟩, -- NRG_ACC_HOUR_LO
  ⟨0x204, 0, 1, 0, 1, 0, 0, 0, 0, 0, 0, 0, 0⟩, -- NRG_ACC_HOUR_HI
  ⟨0x208, 0, 1, 0, 1, 0, 0, 0, 0, 0, 0, 0, 0⟩, -- NRG_LAST_HOUR_LO
  ⟨0x20c, 0, 1, 0, 1, 0, 0, 0, 0, 0, 0, 0, 0⟩, -- NRG_LAST_HOUR_HI
  ⟨0x210, 0, 1, 0, 1, 0, 0, 0, 0, 0, 0, 0, 0⟩, -- NRG_ACC_NIGHT_LO
  ⟨0x214, 0, 1, 0, 1, 0, 0, 0, 0, 0, 0, 0, 0⟩, -- NRG_ACC_NIGHT_HI
  ⟨0x218, 0, 1, 0, 1, 0, 0, 0, 0, 0, 0, 0, 0⟩, -- NRG_LAST_NIGHT_LO
  ⟨0x21c, 0, 1, 0, 1, 0, 0, 0, 0, 0, 0, 0, 0⟩, -- NRG_LAST_NIGHT_HI
  ⟨0x220, 0, 1, 0, 1, 0, 0, 0, 0, 0, 0, 0, 0⟩, -- NRG_ACC_TOTAL_LO
  ⟨0x224, 0, 1, 0, 1, 0, 0, 0, 0, 0, 0, 0, 0⟩, -- NRG_ACC_TOTAL_HI
  ⟨0x230, 0, 1, 0, 1, 0, 0, 0, 0, 1, 0, 0, 0⟩, -- NRG_ACC_CTRL
  ⟨0x240, 4, 4, 0, 1, 0, 0, 0, 0, 0, 0, 0, 0⟩, -- NRG_MIS_STAT
  ⟨0x300, 4, 4, 0, 1, 0, 0, 0, 0, 0, 0x10, 0xffff0f00, 0⟩, -- NRG_TILE_CFG
  ⟨0x400, 128, 4, 4, 32, 0, 0, 0, 0, 0, 0, 0xffffffff, 0⟩, -- NRG_CC_GRID
  ⟨0x600, 128, 4, 8, 16, 0, 0, 0, 0, 0, 0, 0xffffffff, 0⟩, -- NRG_CC_IV
  ⟨0x604, 128, 4, 8, 16, 0, 0, 0, 0, 0, 0, 0xffff, 0⟩ -- NRG_CC_TC
  ]

/-- Block registers of the DALI page class. -/
def regsDALI : List RegDef := [
  ⟨0x100, 0, 1, 0, 1, 0, 0x31ffffff, 0, 0, 0x80000000, 0, 0, 0⟩, -- DALI_TX
  ⟨0x104, 0, 1, 0, 1, 0, 0, 0, 0, 0, 0, 0, 0⟩, -- DALI_RX
  ⟨0x108, 0, 1, 0, 1, 0x3c0000, 0, 0, 0, 0, 0xffff007f, 0, 0⟩, -- DALI_POLL_CFG
  ⟨0x10c, 0, 1, 0, 1, 0, 0, 0, 0, 0, 0, 0, 0⟩, -- DALI_D4I_POWER
  ⟨0x110, 0, 1, 0, 1, 0, 0, 0, 0, 0, 0, 0, 0⟩, -- DALI_D4I_ENERGY_LO
  ⟨0x114, 0, 1, 0, 1, 0, 0, 0, 0, 0, 0, 0, 0⟩, -- DALI_D4I_ENERGY_HI
  ⟨0x118, 0, 1, 0, 1, 0, 0, 0, 0, 0, 0, 0, 0⟩, -- DALI_D4I_RES
  ⟨0x11c, 0, 1, 0, 1, 0, 0, 0, 0, 0, 0, 0, 0⟩, -- DALI_POLL_STAT
  ⟨0x120, 0, 1, 0, 1, 0x599a4000, 0, 0, 0, 0, 0xffffffff, 0, 0⟩, -- DALI_XCHK_CFG
  ⟨0x124, 0, 1, 0, 1, 0xe100002, 0, 0, 0, 0, 0xffff00ff, 0, 0⟩, -- DALI_XCHK_WIN
  ⟨0x128, 0, 1, 0, 1, 0x2ee0, 0, 0, 0, 0, 0xffffffff, 0, 0⟩, -- DALI_XCHK_AUX
  ⟨0x12c, 0, 1, 0, 1, 0, 0, 0, 0, 0, 0, 0, 0⟩ -- DALI_XCHK_STAT
  ]

/-- Block registers of the HOST page class. -/
def regsHOST : List RegDef := [
  ⟨0x100, 0, 1, 0, 1, 0, 0, 0, 0, 0xffff, 0, 0, 0⟩, -- HOST_H2D_SET
  ⟨0x104, 0, 1, 0, 1, 0, 0, 0xffff, 0, 0, 0, 0, 0⟩, -- HOST_H2D_STAT
  ⟨0x108, 0, 1, 0, 1, 0, 0, 0, 0, 0xffff, 0, 0, 0⟩, -- HOST_D2H_SET
  ⟨0x10c, 0, 1, 0, 1, 0, 0, 0xffff, 0, 0, 0, 0, 0⟩, -- HOST_D2H_STAT
  ⟨0x110, 0, 1, 0, 1, 0, 0xffff, 0, 0, 0, 0, 0, 0⟩, -- HOST_D2H_EN
  ⟨0x114, 0, 1, 0, 1, 0, 0, 0, 0, 0, 0, 0, 0⟩, -- HOST_LAST
  ⟨0x118, 0, 1, 0, 1, 0, 0, 0, 0, 0, 0, 0, 0⟩, -- HOST_DENY_ADDR
  ⟨0x140, 4, 16, 0, 1, 0, 0xffffffff, 0, 0, 0, 0, 0, 0⟩ -- HOST_MBOX
  ]

/-- Block registers of the GPIO page class. -/
def regsGPIO : List RegDef := [
  ⟨0x100, 0, 1, 0, 1, 0, 0xffff, 0, 0, 0, 0, 0, 0⟩, -- GPIO_DIR
  ⟨0x104, 0, 1, 0, 1, 0, 0xffff, 0, 0, 0, 0, 0, 0⟩, -- GPIO_OUT
  ⟨0x108, 0, 1, 0, 1, 0, 0, 0, 0, 0xffff, 0, 0, 0⟩, -- GPIO_SET
  ⟨0x10c, 0, 1, 0, 1, 0, 0, 0, 0, 0xffff, 0, 0, 0⟩, -- GPIO_CLR
  ⟨0x110, 0, 1, 0, 1, 0, 0, 0, 0, 0, 0, 0, 0⟩, -- GPIO_IN
  ⟨0x114, 0, 1, 0, 1, 0, 0xffff, 0, 0, 0, 0, 0, 0⟩, -- GPIO_OD
  ⟨0x118, 0, 1, 0, 1, 0, 0xffffffff, 0, 0, 0, 0, 0, 0⟩, -- GPIO_EDGE
  ⟨0x11c, 0, 1, 0, 1, 1, 0xff, 0, 0, 0, 0, 0, 0⟩, -- GPIO_FILT
  ⟨0x120, 0, 1, 0, 1, 0, 0, 0, 0, 0, 0xffff, 0, 0⟩, -- GPIO_OUT_S
  ⟨0x124, 0, 1, 0, 1, 0, 0, 0, 0, 0, 0xffff, 0, 0⟩ -- GPIO_OUT_SM
  ]

/-- Block registers of the CPU page class. -/
def regsCPU : List RegDef := [
  ⟨0x100, 0, 1, 0, 1, 0, 0xff, 0, 0, 0, 0, 0, 0⟩, -- CPU_HART_EN
  ⟨0x104, 0, 1, 0, 1, 0, 0, 0, 0, 0xff, 0, 0, 0⟩, -- CPU_HART_RST
  ⟨0x108, 0, 1, 0, 1, 0, 0, 0, 0, 0, 0, 0, 0⟩, -- CPU_HART_STAT
  ⟨0x140, 4, 8, 0, 1, 0, 0xfffffffe, 0, 0, 0, 0, 0, 0⟩, -- CPU_RESET_VEC
  ⟨0x180, 4, 8, 0, 1, 0, 0xfffffffe, 0, 0, 0, 0, 0, 0⟩, -- CPU_NMI_VEC
  ⟨0x1c0, 4, 8, 0, 1, 0, 0x80ffffff, 0, 0, 0, 0, 0, 0⟩ -- CPU_WDOG
  ]

/-- Block registers of the DMV page class. -/
def regsDMV : List RegDef := [
  ]

/-- Block registers of the DMVC page class. -/
def regsDMVC : List RegDef := [
  ⟨0x100, 0, 1, 0, 1, 0, 0xffffffe0, 0, 0, 0, 0, 0, 0xffffffe0⟩, -- DMV_RING_BASE
  ⟨0x104, 0, 1, 0, 1, 0, 0, 0, 0, 0x7f, 0, 0, 0⟩, -- DMV_POST
  ⟨0x108, 0, 1, 0, 1, 0, 0, 0, 0, 0, 0, 0, 0⟩, -- DMV_RING_STATE
  ⟨0x10c, 0, 1, 0, 1, 0, 0, 0, 0, 1, 0, 0, 0⟩ -- DMV_ABORT
  ]

/-- What the common layout of R20 holds in one page: the identifier, the CTRL fields and reset value, the interrupt bits, and the block registers. -/
structure PageDef where
  first : Nat
  count : Nat
  id : Nat
  idStep : Nat
  ctrlRw : Nat
  ctrlReset : Nat
  ctrlCmd : Nat
  irq : Nat
  regs : List RegDef
  deriving DecidableEq, Repr

/-- The pages of R61. -/
def pages1 : List PageDef := [
  ⟨0x00, 1, 0x00535953, 0, 0, 0, 0, 0x3f, regsSYS⟩,
  ⟨0x01, 1, 0x00505752, 0, 0, 0, 0, 0xf, regsPWR⟩,
  ⟨0x02, 1, 0x00434c4b, 0, 0, 0, 0, 0x3, regsCLK⟩,
  ⟨0x03, 1, 0x0054484d, 0, 1, 0, 0, 0x1f, regsTHM⟩,
  ⟨0x04, 1, 0x464c5430, 0, 0, 0, 0, 0x37fff, regsFLT0⟩,
  ⟨0x05, 4, 0x464c5431, 1, 0, 0, 0, 0x0, regsFLTS⟩,
  ⟨0x09, 1, 0x464c5435, 0, 0, 0, 0, 0x0, regsFLT5⟩,
  ⟨0x0a, 1, 0x464c5436, 0, 0, 0, 0, 0x0, regsFLT6⟩,
  ⟨0x0b, 1, 0x464c5437, 0, 0, 0, 0, 0x0, regsFLT7⟩,
  ⟨0x0c, 1, 0x004e564d, 0, 0, 0, 0, 0x1f, regsNVM⟩,
  ⟨0x0d, 1, 0x58535049, 0, 1, 0, 0, 0x3, regsXSPI⟩,
  ⟨0x10, 1, 0x53454330, 0, 0, 0, 0, 0xf, regsSEC0⟩,
  ⟨0x11, 1, 0x53454331, 0, 0, 0, 0, 0x0, regsSEC1⟩,
  ⟨0x12, 1, 0x53454332, 0, 0, 0, 0, 0x0, regsSEC2⟩,
  ⟨0x13, 1, 0x53454333, 0, 0, 0, 0, 0x1, regsSEC3⟩,
  ⟨0x14, 1, 0x53454334, 0, 0, 0, 0, 0x7, regsSEC4⟩,
  ⟨0x15, 1, 0x53454335, 0, 0, 0, 0, 0x0, regsSEC5⟩,
  ⟨0x16, 1, 0x53454336, 0, 0, 0, 0, 0x0, regsSEC6⟩,
  ⟨0x17, 1, 0x53454337, 0, 0, 0, 0, 0x0, regsSEC7⟩,
  ⟨0x20, 1, 0x54494d45, 0, 0, 0, 0, 0x1f, regsTIME⟩,
  ⟨0x21, 1, 0x004e4554, 0, 0, 0, 0, 0xf, regsNET⟩,
  ⟨0x22, 2, 0x54314c41, 1, 1, 0, 0, 0xf, regsPORT⟩,
  ⟨0x24, 1, 0x53474d49, 0, 1, 0, 0, 0xf, portCfgSgmii :: regsPORT.tail⟩,
  ⟨0x25, 1, 0x53574954, 0, 0, 0, 0, 0x7, regsSWITCH⟩,
  ⟨0x28, 1, 0x53434844, 0, 1, 0, 0, 0x1f, regsSCHED⟩,
  ⟨0x30, 8, 0x43524330, 1, 1, 0, 0, 0x7, regsCRC⟩,
  ⟨0x40, 2, 0x56494e30, 1, 1, 0, 0, 0x3f, regsVIN⟩,
  ⟨0x42, 1, 0x4c4f4f4b, 0, 1, 0, 0, 0x7, regsLOOK⟩]

@[inherit_doc pages1] def pages2 : List PageDef := [
  ⟨0x50, 1, 0x00434d50, 0, 1, 0, 0, 0xf, regsCMP⟩,
  ⟨0x51, 8, 0x004c5952, 0, 1, 0, 0, 0xf, regsLYR⟩,
  ⟨0x59, 4, 0x0053434c, 0, 1, 0, 0, 0xf, regsSCL⟩,
  ⟨0x5e, 1, 0x46454e43, 0, 0, 0, 0, 0x1, regsFENCE⟩,
  ⟨0x5f, 1, 0x00425546, 0, 0, 0, 0, 0x7, regsBUF⟩,
  ⟨0x60, 1, 0x00575250, 0, 1, 0, 0, 0x3, regsWRP⟩,
  ⟨0x61, 4, 0x57525430, 1, 0, 0, 0, 0x3, regsWRPT⟩,
  ⟨0x68, 1, 0x0050484f, 0, 1, 0, 0, 0x1f, regsPHO⟩,
  ⟨0x69, 4, 0x50485430, 1, 0, 0, 0, 0x3, regsPHOT⟩,
  ⟨0x70, 1, 0x00474c4d, 0, 1, 0, 0, 0x3f, regsGLM⟩,
  ⟨0x80, 1, 0x0053434e, 0, 1, 0, 0, 0xf, regsSCN⟩,
  ⟨0x81, 4, 0x53434e30, 1, 1, 0, 0, 0x1f, regsSCNT⟩,
  ⟨0x88, 1, 0x0053504c, 0, 0, 0, 0, 0x3, regsSPL⟩,
  ⟨0x89, 4, 0x53504c30, 1, 29, 4, 2, 0xff, regsSPLT⟩,
  ⟨0x90, 1, 0x00445256, 0, 3, 0, 0, 0x1f, regsDRV⟩,
  ⟨0x98, 1, 0x00504154, 0, 1, 0, 0, 0x3, regsPAT⟩,
  ⟨0xa0, 1, 0x0043544c, 0, 1, 0, 0, 0x1, regsCTL⟩,
  ⟨0xa1, 16, 0x434c5000, 1, 1, 0, 0, 0x3f, regsCTLK⟩,
  ⟨0xb1, 1, 0x0050574d, 0, 1, 0, 0, 0x0, regsPWM⟩,
  ⟨0xb2, 1, 0x00414443, 0, 1, 0, 0, 0x0, regsADC⟩,
  ⟨0xc0, 1, 0x004e5247, 0, 1, 0, 0, 0x1f, regsNRG⟩,
  ⟨0xc8, 1, 0x44414c49, 0, 1, 0, 0, 0xf, regsDALI⟩,
  ⟨0xd0, 1, 0x484f5354, 0, 1, 0, 0, 0x7, regsHOST⟩,
  ⟨0xd1, 1, 0x4750494f, 0, 1, 0, 0, 0xffff, regsGPIO⟩,
  ⟨0xe0, 4, 0x43505530, 1, 0, 0, 0, 0x0, regsCPU⟩,
  ⟨0xe4, 1, 0x00000000, 0, 0, 0, 0, 0x0, regsDMV⟩,
  ⟨0xe5, 4, 0x00000000, 0, 1, 0, 2, 0x1, regsDMVC⟩]

/-- All register pages (R61). -/
def pages : List PageDef := pages1 ++ pages2

end Sys2Proof.Machine
end

