-- ==== Sys2Proof/Machine/SrcTable.lean ====
section
/-! DEFINITION. The fault sources of R525: identifiers by name, and the table of pages and defaults. -/

namespace Sys2Proof.Machine.Src

/-- Source LOCKSTEP_MISMATCH (R525). -/
def LOCKSTEP_MISMATCH : Nat := 0
/-- Source SAFE_TCM_UE (R525). -/
def SAFE_TCM_UE : Nat := 1
/-- Source SAFE_WDOG (R525). -/
def SAFE_WDOG : Nat := 2
/-- Source LBIST_FAIL (R525). -/
def LBIST_FAIL : Nat := 3
/-- Source MBIST_FAIL (R525). -/
def MBIST_FAIL : Nat := 4
/-- Source FLT_CFG_CRC (R525). -/
def FLT_CFG_CRC : Nat := 5
/-- Source ACCESS_VIOLATION (R525). -/
def ACCESS_VIOLATION : Nat := 6
/-- Source BUS_DECODE_ERR (R525). -/
def BUS_DECODE_ERR : Nat := 7
/-- Source BUS_OFF_ACCESS (R525). -/
def BUS_OFF_ACCESS : Nat := 8
/-- Source CFG_LIVE_WRITE (R525). -/
def CFG_LIVE_WRITE : Nat := 9
/-- Source APU_WDOG, by instance (R525). -/
def APU_WDOG (i : Nat) : Nat := 10 + i
/-- Source APU_L2_UE (R525). -/
def APU_L2_UE : Nat := 14
/-- Source APU_L2_CE (R525). -/
def APU_L2_CE : Nat := 15
/-- Source BEAM_WDOG, by instance (R525). -/
def BEAM_WDOG (i : Nat) : Nat := 16 + i
/-- Source BEAM_MEM_UE, by instance (R525). -/
def BEAM_MEM_UE (i : Nat) : Nat := 24 + i
/-- Source NETE_WDOG, by instance (R525). -/
def NETE_WDOG (i : Nat) : Nat := 32 + i
/-- Source NETE_MEM_UE, by instance (R525). -/
def NETE_MEM_UE (i : Nat) : Nat := 34 + i
/-- Source VMON_UV, by instance (R525). -/
def VMON_UV (i : Nat) : Nat := 36 + i
/-- Source VMON_OV, by instance (R525). -/
def VMON_OV (i : Nat) : Nat := 44 + i
/-- Source PMIC_TIMEOUT (R525). -/
def PMIC_TIMEOUT : Nat := 52
/-- Source CLK_REF_LOSS (R525). -/
def CLK_REF_LOSS : Nat := 53
/-- Source PLL_UNLOCK, by instance (R525). -/
def PLL_UNLOCK (i : Nat) : Nat := 54 + i
/-- Source THM_WARN (R525). -/
def THM_WARN : Nat := 60
/-- Source THM_CRITICAL (R525). -/
def THM_CRITICAL : Nat := 61
/-- Source SENSOR_FAIL (R525). -/
def SENSOR_FAIL : Nat := 62
/-- Source THM_TILE_OVER, by instance (R525). -/
def THM_TILE_OVER (i : Nat) : Nat := 63 + i
/-- Source SRAM_UE, by instance (R525). -/
def SRAM_UE (i : Nat) : Nat := 67 + i
/-- Source SRAM_CE, by instance (R525). -/
def SRAM_CE (i : Nat) : Nat := 115 + i
/-- Source RET_UE (R525). -/
def RET_UE : Nat := 163
/-- Source RET_CE (R525). -/
def RET_CE : Nat := 164
/-- Source NVM_UE (R525). -/
def NVM_UE : Nat := 165
/-- Source NVM_CE (R525). -/
def NVM_CE : Nat := 166
/-- Source NVM_WRITE_REFUSED (R525). -/
def NVM_WRITE_REFUSED : Nat := 167
/-- Source XSPI_ERR (R525). -/
def XSPI_ERR : Nat := 168
/-- Source DMV_ERR (R525). -/
def DMV_ERR : Nat := 169
/-- Source BUF_EARLY_WRITE (R525). -/
def BUF_EARLY_WRITE : Nat := 170
/-- Source CMP_FETCH_UE (R525). -/
def CMP_FETCH_UE : Nat := 171
/-- Source CMP_WB_ERR (R525). -/
def CMP_WB_ERR : Nat := 172
/-- Source FLIP_STALL, by instance (R525). -/
def FLIP_STALL (i : Nat) : Nat := 173 + i
/-- Source WRP_MESH_CRC, by instance (R525). -/
def WRP_MESH_CRC (i : Nat) : Nat := 181 + i
/-- Source WRP_MESH_UE, by instance (R525). -/
def WRP_MESH_UE (i : Nat) : Nat := 185 + i
/-- Source PHO_TH_LOST, by instance (R525). -/
def PHO_TH_LOST (i : Nat) : Nat := 189 + i
/-- Source PHO_FETCH_UE, by instance (R525). -/
def PHO_FETCH_UE (i : Nat) : Nat := 193 + i
/-- Source DOSE_RESTORE_FAIL (R525). -/
def DOSE_RESTORE_FAIL : Nat := 197
/-- Source RMAP_WRITE (R525). -/
def RMAP_WRITE : Nat := 198
/-- Source RMAP_FULL (R525). -/
def RMAP_FULL : Nat := 199
/-- Source GLM_LIST_WRITE (R525). -/
def GLM_LIST_WRITE : Nat := 200
/-- Source GLM_LIST_LOST (R525). -/
def GLM_LIST_LOST : Nat := 201
/-- Source GLM_BAND_LATE (R525). -/
def GLM_BAND_LATE : Nat := 202
/-- Source GLM_FETCH_UE (R525). -/
def GLM_FETCH_UE : Nat := 203
/-- Source SCN_UNDERRUN, by instance (R525). -/
def SCN_UNDERRUN (i : Nat) : Nat := 204 + i
/-- Source SCN_RECT_FAIL, by instance (R525). -/
def SCN_RECT_FAIL (i : Nat) : Nat := 208 + i
/-- Source SCN_RECT_NOREF, by instance (R525). -/
def SCN_RECT_NOREF (i : Nat) : Nat := 212 + i
/-- Source SCN_RECT_UNCHECKED, by instance (R525). -/
def SCN_RECT_UNCHECKED (i : Nat) : Nat := 216 + i
/-- Source SCN_SYNC_LOST (R525). -/
def SCN_SYNC_LOST : Nat := 220
/-- Source SCN_FB_CORRUPT (R525). -/
def SCN_FB_CORRUPT : Nat := 221
/-- Source SPL_LINK_DOWN, by instance (R525). -/
def SPL_LINK_DOWN (i : Nat) : Nat := 222 + 10 * i
/-- Source SPL_LANE_DEGRADED, by instance (R525). -/
def SPL_LANE_DEGRADED (i : Nat) : Nat := 223 + 10 * i
/-- Source SPL_LINK_SHORT, by instance (R525). -/
def SPL_LINK_SHORT (i : Nat) : Nat := 224 + 10 * i
/-- Source SPL_CTRL_FAIL, by instance (R525). -/
def SPL_CTRL_FAIL (i : Nat) : Nat := 225 + 10 * i
/-- Source SPL_ALIVE_GAP, by instance (R525). -/
def SPL_ALIVE_GAP (i : Nat) : Nat := 226 + 10 * i
/-- Source SPL_ECHO_MISMATCH, by instance (R525). -/
def SPL_ECHO_MISMATCH (i : Nat) : Nat := 227 + 10 * i
/-- Source SPL_CODE_BAD, by instance (R525). -/
def SPL_CODE_BAD (i : Nat) : Nat := 228 + 10 * i
/-- Source SPL_DIAG_LATE, by instance (R525). -/
def SPL_DIAG_LATE (i : Nat) : Nat := 229 + 10 * i
/-- Source SPL_TILE_EVENT, by instance (R525). -/
def SPL_TILE_EVENT (i : Nat) : Nat := 230 + 10 * i
/-- Source SPL_TILE_MISMATCH, by instance (R525). -/
def SPL_TILE_MISMATCH (i : Nat) : Nat := 231 + 10 * i
/-- Source DRV_SEQ_MISMATCH, by instance (R525). -/
def DRV_SEQ_MISMATCH (i : Nat) : Nat := 262 + i
/-- Source DRV_COVERAGE, by instance (R525). -/
def DRV_COVERAGE (i : Nat) : Nat := 266 + i
/-- Source DRV_PIXEL_DEFECT (R525). -/
def DRV_PIXEL_DEFECT : Nat := 270
/-- Source DRV_DEF_FULL (R525). -/
def DRV_DEF_FULL : Nat := 271
/-- Source DRV_FUNC_OFF (R525). -/
def DRV_FUNC_OFF : Nat := 272
/-- Source PAT_FAULT (R525). -/
def PAT_FAULT : Nat := 273
/-- Source VIN_FRAME_ERR, by instance (R525). -/
def VIN_FRAME_ERR (i : Nat) : Nat := 274 + i
/-- Source VIN_OVERFLOW, by instance (R525). -/
def VIN_OVERFLOW (i : Nat) : Nat := 276 + i
/-- Source VIN_PHY_ERR, by instance (R525). -/
def VIN_PHY_ERR (i : Nat) : Nat := 278 + i
/-- Source LOOK_MODEL_CRC (R525). -/
def LOOK_MODEL_CRC : Nat := 280
/-- Source LOOK_OBSCURED (R525). -/
def LOOK_OBSCURED : Nat := 281
/-- Source LOOK_CRACK (R525). -/
def LOOK_CRACK : Nat := 282
/-- Source LOOK_STRAY (R525). -/
def LOOK_STRAY : Nat := 283
/-- Source LOOK_MISAIM (R525). -/
def LOOK_MISAIM : Nat := 284
/-- Source CTL_OVERRUN (R525). -/
def CTL_OVERRUN : Nat := 285
/-- Source FEEDBACK_IMPLAUSIBLE, by instance (R525). -/
def FEEDBACK_IMPLAUSIBLE (i : Nat) : Nat := 286 + i
/-- Source FEEDBACK_FROZEN, by instance (R525). -/
def FEEDBACK_FROZEN (i : Nat) : Nat := 302 + i
/-- Source ENERGY_MISMATCH, by instance (R525). -/
def ENERGY_MISMATCH (i : Nat) : Nat := 318 + i
/-- Source ENERGY_PLAN_STALE (R525). -/
def ENERGY_PLAN_STALE : Nat := 322
/-- Source ENERGY_XCHECK (R525). -/
def ENERGY_XCHECK : Nat := 323
/-- Source DALI_BUS_FAIL (R525). -/
def DALI_BUS_FAIL : Nat := 324
/-- Source DALI_NO_REPLY (R525). -/
def DALI_NO_REPLY : Nat := 325
/-- Source PORT_LINK_DOWN, by instance (R525). -/
def PORT_LINK_DOWN (i : Nat) : Nat := 326 + i
/-- Source PD_FAIL, by instance (R525). -/
def PD_FAIL (i : Nat) : Nat := 329 + i
/-- Source TIME_STEP_PENDING (R525). -/
def TIME_STEP_PENDING : Nat := 332
/-- Source TS_QUEUE_OVF (R525). -/
def TS_QUEUE_OVF : Nat := 333
/-- Source WAORD_ALIVE_GAP (R525). -/
def WAORD_ALIVE_GAP : Nat := 334
/-- Source SCHED_TABLE_WRITE (R525). -/
def SCHED_TABLE_WRITE : Nat := 335
/-- Source PUF_FAIL (R525). -/
def PUF_FAIL : Nat := 336
/-- Source KEYSTORE_FAIL (R525). -/
def KEYSTORE_FAIL : Nat := 337
/-- Source RNG_FAIL (R525). -/
def RNG_FAIL : Nat := 338
/-- Source IMAGE_VERIFY_FAIL (R525). -/
def IMAGE_VERIFY_FAIL : Nat := 339
/-- Source AUDIT_WRAP (R525). -/
def AUDIT_WRAP : Nat := 340
/-- Source AUDIT_BROKEN (R525). -/
def AUDIT_BROKEN : Nat := 341
/-- Source DEBUG_LOCKOUT (R525). -/
def DEBUG_LOCKOUT : Nat := 342
/-- Source TAMPER (R525). -/
def TAMPER : Nat := 343
/-- Source CRC_MISMATCH, by instance (R525). -/
def CRC_MISMATCH (i : Nat) : Nat := 344 + i

end Sys2Proof.Machine.Src

namespace Sys2Proof.Machine

/-- A row of the source table R525: sources `first + stride * i` for `i < count`, their page index (`none` for "—") rising by `pstep`, the class code, the two levels, N, and W in ms. -/
structure SrcRow where
  first : Nat
  count : Nat
  stride : Nat
  page : Option Nat
  pstep : Nat
  cls : Nat
  nrm : Nat
  sev : Nat
  n : Nat
  w : Nat
  deriving DecidableEq, Repr

/-- The source table of R525, first half. -/
def srcRows1 : List SrcRow := [
  ⟨0, 1, 1, some 0xe1, 0, 0, 5, 5, 1, 1000⟩,
  ⟨1, 1, 1, some 0xe1, 0, 0, 5, 5, 1, 1000⟩,
  ⟨2, 1, 1, some 0xe1, 0, 0, 5, 5, 1, 1000⟩,
  ⟨3, 1, 1, some 0x00, 0, 0, 4, 4, 1, 1000⟩,
  ⟨4, 1, 1, some 0x00, 0, 0, 4, 4, 1, 1000⟩,
  ⟨5, 1, 1, none, 0, 0, 4, 4, 1, 1000⟩,
  ⟨6, 1, 1, some 0x00, 0, 2, 1, 2, 16, 1000⟩,
  ⟨7, 1, 1, some 0x00, 0, 2, 1, 2, 16, 1000⟩,
  ⟨8, 1, 1, some 0x00, 0, 2, 1, 1, 1, 1000⟩,
  ⟨9, 1, 1, some 0x00, 0, 2, 1, 1, 1, 1000⟩,
  ⟨10, 4, 1, some 0xe0, 0, 1, 3, 5, 3, 60000⟩,
  ⟨14, 1, 1, some 0xe0, 0, 1, 3, 5, 3, 60000⟩,
  ⟨15, 1, 1, some 0xe0, 0, 5, 0, 1, 100, 60000⟩,
  ⟨16, 8, 1, some 0xe2, 0, 1, 3, 4, 3, 10000⟩,
  ⟨24, 8, 1, some 0xe2, 0, 1, 3, 4, 3, 10000⟩,
  ⟨32, 2, 1, some 0xe3, 0, 1, 3, 5, 3, 60000⟩,
  ⟨34, 2, 1, some 0xe3, 0, 1, 3, 5, 3, 60000⟩,
  ⟨36, 8, 1, some 0x01, 0, 3, 4, 5, 3, 60000⟩,
  ⟨44, 8, 1, some 0x01, 0, 3, 4, 5, 3, 60000⟩,
  ⟨52, 1, 1, some 0x01, 0, 3, 1, 4, 3, 60000⟩,
  ⟨53, 1, 1, some 0x02, 0, 3, 4, 4, 1, 1000⟩,
  ⟨54, 6, 1, some 0x02, 0, 3, 4, 5, 3, 60000⟩,
  ⟨60, 1, 1, some 0x03, 0, 4, 1, 1, 1, 1000⟩,
  ⟨61, 1, 1, some 0x03, 0, 4, 1, 1, 1, 1000⟩,
  ⟨62, 1, 1, some 0x03, 0, 4, 1, 1, 1, 1000⟩,
  ⟨63, 4, 1, some 0x03, 0, 4, 1, 1, 1, 1000⟩,
  ⟨67, 48, 1, none, 0, 5, 1, 4, 4, 1000⟩,
  ⟨115, 48, 1, none, 0, 5, 0, 1, 64, 60000⟩,
  ⟨163, 1, 1, none, 0, 5, 1, 4, 4, 1000⟩,
  ⟨164, 1, 1, none, 0, 5, 0, 1, 64, 60000⟩,
  ⟨165, 1, 1, some 0x0c, 0, 5, 1, 4, 4, 60000⟩,
  ⟨166, 1, 1, some 0x0c, 0, 5, 0, 1, 64, 60000⟩,
  ⟨167, 1, 1, some 0x0c, 0, 5, 0, 1, 255, 65000⟩,
  ⟨168, 1, 1, some 0x0d, 0, 5, 1, 1, 1, 1000⟩,
  ⟨169, 1, 1, some 0xe4, 0, 1, 1, 1, 1, 1000⟩,
  ⟨170, 1, 1, some 0x5f, 0, 2, 1, 1, 1, 1000⟩,
  ⟨171, 1, 1, some 0x50, 0, 6, 1, 4, 8, 1000⟩,
  ⟨172, 1, 1, some 0x50, 0, 6, 1, 1, 1, 1000⟩,
  ⟨173, 8, 1, some 0x51, 1, 6, 1, 1, 1, 1000⟩,
  ⟨181, 4, 1, some 0x61, 1, 6, 4, 4, 1, 1000⟩,
  ⟨185, 4, 1, some 0x61, 1, 6, 1, 4, 3, 1000⟩,
  ⟨189, 4, 1, some 0x69, 1, 4, 1, 1, 1, 1000⟩,
  ⟨193, 4, 1, some 0x69, 1, 6, 1, 4, 16, 1000⟩,
  ⟨197, 1, 1, some 0x68, 0, 6, 1, 1, 1, 1000⟩,
  ⟨198, 1, 1, some 0x68, 0, 2, 1, 1, 1, 1000⟩,
  ⟨199, 1, 1, some 0x68, 0, 9, 1, 1, 1, 1000⟩,
  ⟨200, 1, 1, some 0x70, 0, 2, 1, 1, 1, 1000⟩,
  ⟨201, 1, 1, some 0x70, 0, 6, 1, 1, 1, 1000⟩,
  ⟨202, 1, 1, some 0x70, 0, 6, 0, 1, 24, 1000⟩,
  ⟨203, 1, 1, some 0x70, 0, 6, 1, 4, 8, 1000⟩,
  ⟨204, 4, 1, some 0x81, 1, 7, 1, 4, 120, 1000⟩]

/-- The source table of R525, second half. -/
def srcRows2 : List SrcRow := [
  ⟨208, 4, 1, some 0x81, 1, 8, 1, 4, 8, 10000⟩,
  ⟨212, 4, 1, some 0x81, 1, 8, 1, 1, 1, 1000⟩,
  ⟨216, 4, 1, some 0x81, 1, 8, 1, 4, 4, 60000⟩,
  ⟨220, 1, 1, some 0x80, 0, 13, 1, 1, 1, 1000⟩,
  ⟨221, 1, 1, some 0x80, 0, 5, 1, 1, 1, 1000⟩,
  ⟨222, 4, 10, some 0x89, 1, 7, 1, 1, 1, 1000⟩,
  ⟨223, 4, 10, some 0x89, 1, 7, 1, 1, 1, 1000⟩,
  ⟨224, 4, 10, some 0x89, 1, 7, 1, 1, 1, 1000⟩,
  ⟨225, 4, 10, some 0x89, 1, 7, 1, 1, 1, 1000⟩,
  ⟨226, 4, 10, some 0x89, 1, 7, 1, 1, 1, 1000⟩,
  ⟨227, 4, 10, some 0x89, 1, 8, 1, 4, 4, 1000⟩,
  ⟨228, 4, 10, some 0x89, 1, 7, 0, 1, 64, 1000⟩,
  ⟨229, 4, 10, some 0x89, 1, 9, 0, 1, 16, 1000⟩,
  ⟨230, 4, 10, some 0x89, 1, 7, 1, 1, 1, 1000⟩,
  ⟨231, 4, 10, some 0x89, 1, 2, 1, 1, 1, 1000⟩,
  ⟨262, 4, 1, some 0x90, 0, 7, 1, 1, 1, 1000⟩,
  ⟨266, 4, 1, some 0x90, 0, 9, 1, 1, 1, 1000⟩,
  ⟨270, 1, 1, some 0x90, 0, 9, 0, 1, 64, 60000⟩,
  ⟨271, 1, 1, some 0x90, 0, 9, 1, 1, 1, 1000⟩,
  ⟨272, 1, 1, some 0x90, 0, 9, 1, 1, 1, 1000⟩,
  ⟨273, 1, 1, some 0x98, 0, 6, 1, 1, 1, 1000⟩,
  ⟨274, 2, 1, some 0x40, 1, 12, 0, 1, 30, 1000⟩,
  ⟨276, 2, 1, some 0x40, 1, 12, 1, 1, 1, 1000⟩,
  ⟨278, 2, 1, some 0x40, 1, 12, 0, 1, 30, 1000⟩,
  ⟨280, 1, 1, some 0x42, 0, 12, 1, 1, 1, 1000⟩,
  ⟨281, 1, 1, some 0x42, 0, 12, 1, 1, 1, 1000⟩,
  ⟨282, 1, 1, some 0x42, 0, 12, 1, 1, 1, 1000⟩,
  ⟨283, 1, 1, some 0x42, 0, 12, 1, 1, 1, 1000⟩,
  ⟨284, 1, 1, some 0x42, 0, 12, 1, 1, 1, 1000⟩,
  ⟨285, 1, 1, some 0xa0, 0, 10, 1, 1, 1, 1000⟩,
  ⟨286, 16, 1, some 0xa1, 1, 10, 1, 4, 3, 65000⟩,
  ⟨302, 16, 1, some 0xa1, 1, 10, 1, 4, 3, 65000⟩,
  ⟨318, 4, 1, some 0xc0, 0, 11, 1, 4, 3, 65000⟩,
  ⟨322, 1, 1, some 0xc0, 0, 11, 1, 1, 1, 1000⟩,
  ⟨323, 1, 1, some 0xc8, 0, 11, 1, 1, 1, 1000⟩,
  ⟨324, 1, 1, some 0xc8, 0, 11, 1, 1, 1, 1000⟩,
  ⟨325, 1, 1, some 0xc8, 0, 11, 1, 1, 1, 1000⟩,
  ⟨326, 3, 1, some 0x22, 1, 13, 1, 1, 1, 1000⟩,
  ⟨329, 3, 1, some 0x22, 1, 13, 1, 1, 1, 1000⟩,
  ⟨332, 1, 1, some 0x20, 0, 13, 1, 1, 1, 1000⟩,
  ⟨333, 1, 1, some 0x20, 0, 13, 1, 1, 1, 1000⟩,
  ⟨334, 1, 1, some 0x21, 0, 13, 1, 1, 1, 1000⟩,
  ⟨335, 1, 1, some 0x28, 0, 2, 1, 1, 1, 1000⟩,
  ⟨336, 1, 1, some 0x10, 0, 14, 1, 1, 1, 1000⟩,
  ⟨337, 1, 1, some 0x11, 0, 14, 1, 1, 1, 1000⟩,
  ⟨338, 1, 1, some 0x10, 0, 14, 1, 1, 1, 1000⟩,
  ⟨339, 1, 1, some 0x13, 0, 14, 1, 1, 1, 1000⟩,
  ⟨340, 1, 1, some 0x14, 0, 14, 1, 1, 1, 1000⟩,
  ⟨341, 1, 1, some 0x14, 0, 14, 1, 1, 1, 1000⟩,
  ⟨342, 1, 1, some 0x16, 0, 14, 1, 1, 1, 1000⟩,
  ⟨343, 1, 1, some 0x10, 0, 14, 1, 1, 1, 1000⟩,
  ⟨344, 8, 1, some 0x30, 1, 8, 1, 1, 1, 1000⟩]

/-- The source table of R525. -/
def srcRows : List SrcRow := srcRows1 ++ srcRows2

end Sys2Proof.Machine
end

