-- ==== Sys2Proof/Machine/Layout.lean ====
section
/-! DEFINITION. From an address to the register it names (R20, R60, R61), the reset value of every register, the power domain of every
page (R23, R364), and the defaults of the fault source registers (R525). -/

namespace Sys2Proof.Machine

/-- Page index of a register address: address bits [19:12] (R47). -/
def pageOf (a : Nat) : Nat := a / 0x1000 % 0x100

/-- Offset of a register in its page. -/
def offOf (a : Nat) : Nat := a % 0x1000

/-- The register window of R60. -/
def isReg (a : Nat) : Bool := decide (0x40000000 ≤ a) && decide (a ≤ 0x400FFFFF)

/-- The interrupt controller window of R60. -/
def isPlic (a : Nat) : Bool := decide (0x48000000 ≤ a) && decide (a ≤ 0x4BFFFFFF)

/-- The page definition of page index `p`, where R61 lists one. -/
def pageDef (p : Nat) : Option PageDef := pages.find? (fun d => decide (d.first ≤ p) && decide (p < d.first + d.count))

/-- Does register row `d` hold the register at offset `o`? -/
def RegDef.covers (d : RegDef) (o : Nat) : Bool :=
  (List.range d.n2).any fun j =>
    let b := d.off + d.s2 * j
    decide (b ≤ o) && (if d.n1 ≤ 1 then o == b else (o - b) % d.s1 == 0 && decide ((o - b) / d.s1 < d.n1))

/-- Mask of the FORCE bits of a page: one bit per source of the page, in ascending order (R507). -/
def pageSrcs (p : Nat) : List Nat :=
  srcRows.foldl (fun l r =>
    match r.page with
    | none => l
    | some q => l ++ ((List.range r.count).filter (fun i => q + r.pstep * i == p)).map (fun i => r.first + r.stride * i)) []

/-- The sources of page `p` in ascending source number (R507). -/
def pageSrcsAsc (p : Nat) : List Nat := (List.range 352).filter (fun n => (pageSrcs p).contains n)

/-- The register row of the common layout (R20) at offset `o < 0x100` of page `d`. -/
def commonDef (d : PageDef) (p o : Nat) : Option RegDef :=
  let z : RegDef := ⟨o, 0, 1, 0, 1, 0, 0, 0, 0, 0, 0, 0, 0⟩
  if o = 0x00 then some { z with reset := d.id + d.idStep * (p - d.first) }
  else if o = 0x04 then some { z with reset := 1 }
  else if o = 0x08 then some z
  else if o = 0x10 then some { z with reset := d.ctrlReset, rw := d.ctrlRw, cmd := d.ctrlCmd }
  else if o = 0x1c then some { z with rw := d.irq }
  else if o = 0x20 then some { z with w1c := d.irq }
  else if o = 0x24 then some { z with cmd := 2 ^ (pageSrcs p).length - 1 }
  else if o = 0x28 then some { z with rw := 0xF }
  else if o = 0x14 || o = 0x18 || o = 0x2c || o = 0x30 || o = 0x34 then some z
  else if 0x40 ≤ o ∧ o < 0x100 then some z
  else none

/-- The source number that a FLT_SRC register address belongs to (R532). -/
def srcOfAddr (a : Nat) : Nat := (pageOf a - 5) * 128 + (offOf a - 0x100) / 4 % 128

/-- A register of a source slot that the revision does not use, which reads 0 and drops writes (R503). -/
def noSlot (a : Nat) : Bool := decide (5 ≤ pageOf a) && decide (pageOf a ≤ 8) && decide (0x100 ≤ offOf a) && decide (offOf a < 0x700) && decide (352 ≤ srcOfAddr a)

/-- The register row at address `a`, `none` where the offset names no register (R16). -/
def regDef (a : Nat) : Option RegDef :=
  match pageDef (pageOf a) with
  | none => none
  | some d =>
    if offOf a % 4 ≠ 0 ∨ noSlot a then none
    else if offOf a < 0x100 then commonDef d (pageOf a) (offOf a)
    else d.regs.find? (fun r => r.covers (offOf a))

/-- A 6-bit value with its bits reversed (R242, R274: ORDER[k] after reset). -/
def rev6 (k : Nat) : Nat :=
  (List.range 6).foldl (fun x i => x + (if k.testBit i then 2 ^ (5 - i) else 0)) 0

/-- The source row and index of source `n`. -/
def srcRow (n : Nat) : Option SrcRow :=
  srcRows.find? fun r => decide (r.first ≤ n) && (n - r.first) % r.stride == 0 && decide ((n - r.first) / r.stride < r.count)

/-- Page index of source `n`, `none` where R525 lists "—". -/
def srcPage (n : Nat) : Option Nat :=
  match srcRow n with
  | none => none
  | some r => r.page.map fun q => q + r.pstep * ((n - r.first) / r.stride)

/-- Reset value of FLT_SRC_CFG(n) from R525. -/
def srcCfgReset (n : Nat) : Nat :=
  match srcRow n with
  | none => 0
  | some r => r.nrm + r.sev * 8 + r.cls * 256 + r.n * 65536

/-- Reset value of FLT_SRC_WIN(n) from R525. -/
def srcWinReset (n : Nat) : Nat :=
  match srcRow n with
  | none => 0
  | some r => r.w

/-- Reset value of the register at address `a` (the Reset columns of the spec). -/
def regReset (a : Nat) : Nat :=
  let p := pageOf a; let o := offOf a
  if 5 ≤ p ∧ p ≤ 8 ∧ 0x100 ≤ o ∧ o < 0x500 then
    (if o % 4 ≠ 0 then 0 else if o < 0x300 then srcCfgReset (srcOfAddr a) else srcWinReset (srcOfAddr a))
  else if p = P.DRV ∧ 0x100 ≤ o ∧ o < 0x140 then
    (if o % 4 ≠ 0 then 0 else
      let k := o - 0x100
      rev6 k + 256 * rev6 (k + 1) + 65536 * rev6 (k + 2) + 16777216 * rev6 (k + 3))
  else match regDef a with
    | some d => d.reset
    | none => 0

/-- What an unlisted register address reads as: its reset value. -/
def regDefault (a : Nat) : Word := if isReg a then word (regReset a) else 0#32

/-- The power domain of page `p` by its bit in PWR_DOMAIN_STAT (R364): 0 AON, 1 NVM, 2 SAFETY, 3 CORE, 4 SRAM, 5 PIX, 6 T1L, 7 SERDES. -/
def pageDomain (p : Nat) : Nat :=
  if p ≤ 2 ∨ p = P.TIME then 0
  else if p = P.NVM then 1
  else if (4 ≤ p ∧ p ≤ 11) ∨ (0x10 ≤ p ∧ p ≤ 0x17) ∨ p = 0xe1 then 2
  else if p = 0x22 ∨ p = 0x23 then 6
  else if p = 0x24 then 7
  else if 0x50 ≤ p ∧ p ≤ 0x9f then 5
  else 3

/-- Pages of CORE that stay on in SLEEP while CORE is held: NETE, switch, NET, SCHED and THM (R364). -/
def sleepOn (p : Nat) : Bool := p == 0xe3 || p == P.SWITCH || p == P.NET || p == P.SCHED || p == P.THM

/-- Pages that accept writes only from SAFE and the boot ROM (R27, R581). -/
def safeOnlyPage (p : Nat) : Bool := (decide (4 ≤ p) && decide (p ≤ 11)) || (decide (0x10 ≤ p) && decide (p ≤ 0x17)) || (decide (0xe0 ≤ p) && decide (p ≤ 0xe3))

/-- Registers outside those pages that accept writes only from SAFE: the rectangle references and diverse values (R211) and the mode and reset commands (R571). -/
def safeOnlyReg (a : Nat) : Bool :=
  let p := pageOf a; let o := offOf a
  if 0x81 ≤ p ∧ p ≤ 0x84 then
    (decide (0x300 ≤ o) && decide (o < 0x400) && o % 0x10 != 0xc) || (decide (0x400 ≤ o) && decide (o < 0x500))
  else p == P.SYS && (o == 0x10c || o == 0x114)

end Sys2Proof.Machine
end

