-- ==== Sys2Proof/Machine/Sparse.lean ====
section
/-! DEFINITION. Sparse maps in one canonical form: keys strictly rising, and no entry equal to what an unlisted key reads as.
Registers, shadows, statistics and memory are all held so. -/

namespace Sys2Proof.Machine

/-- The value at key `k` of a sparse map whose unlisted entry is `d`. -/
def sget {α : Type} (d : α) (k : Nat) : List (Nat × α) → α
  | [] => d
  | p :: t => if p.1 = k then p.2 else sget d k t

/-- Insertion before the first larger key. -/
def sins {α : Type} (k : Nat) (v : α) : List (Nat × α) → List (Nat × α)
  | [] => [(k, v)]
  | p :: t => if k < p.1 then (k, v) :: p :: t else p :: sins k v t

/-- The map with every entry of key `k` removed. -/
def sdel {α : Type} (k : Nat) (m : List (Nat × α)) : List (Nat × α) := m.filter (fun p => p.1 != k)

/-- The map with key `k` set to `v`, where `d` is what key `k` reads as unlisted: a default value leaves no entry. -/
def sset {α : Type} [DecidableEq α] (d : α) (k : Nat) (v : α) (m : List (Nat × α)) : List (Nat × α) :=
  if v = d then sdel k m else sins k v (sdel k m)

/-- The canonical form: keys strictly rising, and no entry equal to its default. -/
def swf {α : Type} [DecidableEq α] (dflt : Nat → α) : List (Nat × α) → Bool
  | [] => true
  | [p] => p.2 != dflt p.1
  | p :: q :: t => decide (p.1 < q.1) && (p.2 != dflt p.1) && swf dflt (q :: t)

/-- The entries of a map whose key satisfies `f`. -/
def skeep {α : Type} (f : Nat → Bool) (m : List (Nat × α)) : List (Nat × α) := m.filter (fun p => f p.1)

/-- Apply `f` to every listed entry and restore the canonical form for the defaults `dflt`. -/
def smap {α : Type} [DecidableEq α] (dflt : Nat → α) (f : Nat → α → α) (m : List (Nat × α)) : List (Nat × α) :=
  (m.map (fun p => (p.1, f p.1 p.2))).filter (fun p => p.2 != dflt p.1)

end Sys2Proof.Machine
end

