-- ==== Sys2Proof/Machine/State.lean ====
section
/-! DEFINITION. The state of the device as plain data: every register, memory, table, queue, mode and pin the spec gives it. -/

namespace Sys2Proof.Machine

/-- Why a step stops. The spec gives every command of the table an effect or an answer (a bus error, a refusal code, a dropped access), so no
meaning stops; the one reason is raised by no command and stands for a state the host itself cannot step (safe: nothing is concluded from it). -/
inductive Fault where
  /-- Raised by no command. -/
  | unreachable
  deriving DecidableEq, Repr

/-- Why a command has no meaning. -/
inductive Refusal where
  /-- Raised by the dispatch for a row whose meaning is not written (safe). -/
  | notModelled (mnemonic : String)
  deriving DecidableEq, Repr

/-- What the bus answers to the last access (R15, R18): the data of a read and whether the response is a bus error. -/
structure BusResp where
  data : Word
  err : Bool
  deriving DecidableEq, Repr

/-- A commit group (R38 to R45): whether it is staged, whether its validation has passed (R40), the tick at which R41 applies or ends it, by its number
where that is its target and by the ticks left to it (`wait`, 0 for a target) where it is A,
whether it ends EXPIRED or applies LATE there, its members' pages, those of them without clock or power at staging (R47), and the staged copies of
their shadows. -/
structure Group where
  staged : Bool
  passed : Bool
  applyAt : Nat
  wait : Nat
  expires : Bool
  late : Bool
  members : List Nat
  off : List Nat
  copy : List (Nat × Word)
  kCopy : List (Nat × Word)
  deriving DecidableEq, Repr

/-- A mode request (R571, R575): mode, LAMP field, whether it is made for the scheduler (R574), on whose behalf (role 0 to 2, 3 for SAFE itself or
the scheduler) and with which rights, how many ticks are left until it applies, the last of them being the tick at which it does, and the channel and tid
that its audit record names (R482). -/
structure ModeReq where
  mode : Nat
  lamp : Nat
  sched : Bool
  role : Nat
  rights : Nat
  wait : Nat
  chan : Nat
  tid : List Nat
  deriving DecidableEq, Repr

/-- State of the SYS page, start-up and modes that no register holds: the commit groups; a forced entry waits for the next tick; the pending
request; the mode before the forced entry; when FLT_ERR.ACTIVE and CRITICAL were both last 1 to 0 (R573); since when no segment-head session has
been OPEN (R573); sections installed since COMMISSION was entered (R579), and whether the start-up record enables LOOK; the time of power-good; the start-up record
has been accepted; a self-test waits for the first mode change (R563); the level of ERR_N (R516); the groups that start-up armed and that are
not decided yet (R565); and when the SUPPLY soft start ends (R567). -/
structure SysSt where
  groups : Vector Group 16
  forceFb : Bool
  pend : Option ModeReq
  prevMode : Nat
  quietSince : Option Nat
  netSince : Nat
  geometryIn : Bool
  masksIn : Bool
  lookInRecord : Bool
  pgTime : Nat
  recordGood : Bool
  selfTestDue : Bool
  errLow : Bool
  startArmed : List Nat
  softEnd : Option Nat
  deriving DecidableEq, Repr

/-- How the block of a reset window becomes READY (R520): the link of a tile UP; a loop in RUN, with its tile's link; the first composed frame lit;
a band done; a frame of a receiver completed; an image evaluated; harts running; by the timeout alone. -/
inductive Ready where
  | link (t : Nat)
  | loop (k : Nat) (tile : Option Nat)
  | lit
  | band
  | frame (i : Nat)
  | image
  | harts (p m : Nat)
  | none
  deriving DecidableEq, Repr

/-- A reset window (R519): the page reset, when it times out in ns, the sources of the built-in lists (R520), and how it becomes READY. -/
structure ResetWin where
  page : Nat
  ends : Nat
  srcs : List Nat
  ready : Ready
  deriving DecidableEq, Repr

/-- State of the fault collector that no register holds: the window starts T0 in µs (R508), the open reset windows (R519), the pages in reset with
the instant at which each leaves it (R522), the targets a non-maskable interrupt has reached (R510; the set only grows until the next chip reset or loss
of power, log entry 130), whether FLT_CFG_CRC_REF has been computed since reset (R532), the sources to be raised when the present operation ends
(empty between commands), and the instant of the last W1C clears of status bits with the bits they cleared, by address (R515). -/
structure FltSt where
  t0 : List (Nat × Nat)
  wins : List ResetWin
  inRst : List (Nat × Nat)
  nmi : Word
  crcSet : Bool
  due : List Nat
  ackAt : Nat
  ack : List (Nat × Word)
  deriving DecidableEq, Repr

/-- The events of the present instant (R20, R21): the instant, and by address of a W1C register the bits that events set at it; under the addresses of
GPIO_OUT, GPIO_CLR and GPIO_SET the bits of GPIO_OUT that a write of each has reached at it (R618). -/
structure EvtSt where
  at_ : Nat
  bits : List (Nat × Word)
  deriving DecidableEq, Repr

/-- The states of a buffer-table entry (R100). -/
inductive BufState where
  | free | swOwned | queued | scanning | retiring
  deriving DecidableEq, Repr

/-- An entry of the buffer ownership table (R99): its place and form, its owner tag, its state and the tick of its last state change. -/
structure BufEntry where
  base : Nat
  fmt : Nat
  w : Nat
  h : Nat
  stride : Nat
  owner : Nat
  state : BufState
  tick : Nat
  deriving DecidableEq, Repr

/-- A flip request (R105): entry, fence, whether it waits for the fence, whether it releases the layer, and the instant at which it was made (R106). -/
structure FlipReq where
  buf : Nat
  fence : Nat
  fenceEn : Bool
  release : Bool
  made : Nat
  deriving DecidableEq, Repr

/-- State of a layer slot outside its registers: the pending request; a request made together with a CANCEL in the cycle in which the pending one
is accepted (R110); the flip accepted at a deadline and not yet in force (`some none`
releases the layer), the buffers that a block reset moves to RETIRING at the next tick (R103), and whether it deferred at the last deadline. -/
structure LyrSt where
  pend : Option FlipReq
  after : Option FlipReq
  acc : Option (Option Nat)
  drop : List Nat
  deferred : Bool
  deriving DecidableEq, Repr

/-- A running pre-scaler pass: destination, source, and whether the pass moved the source to SCANNING (R95, R96). -/
structure SclPass where
  dst : Nat
  src : Nat
  moved : Bool
  deriving DecidableEq, Repr

/-- State of the compositor: buffer table, retire events due (entry, tick), layers, the armed flip groups' members, the running passes,
and whether the present frame's composition has ended. -/
structure CmpSt where
  bufs : List (Nat × BufEntry)
  retire : List (Nat × Nat)
  lyr : Vector LyrSt 8
  arms : Vector (List Nat) 8
  scl : Vector (Option SclPass) 4
  done : Bool
  deriving DecidableEq, Repr

/-- What the pipes and the mask engine hold of the frame being composed: the layer configuration live at the tick (R67), as the non-default values of
its registers; the layer enables, hardware limits and functions switched off as
sampled at the tick (R117, R123, R264), the lamp of the frame (R577: 0 dark, 1 composed, 2 fallback), each tile's final codes once its pipe
has finished, and the bands done in this and the previous frame (R181, R183). -/
structure FrameSt where
  cfg : List (Nat × Word)
  lyrEn : Nat
  hw : Vector Nat 4
  fnOff : Nat
  kind : Nat
  codes : Vector (List Nat) 4
  band : Vector Nat 4
  bandPrev : Vector Nat 4
  deriving DecidableEq, Repr

/-- The frame is composed. -/
def FrameSt.live (f : FrameSt) : Bool := f.kind == 1

/-- A queued edit of the repair map (R150): INSERT or DELETE, the staged words, and the MAKER bit of a DELETE. -/
structure RmapEdit where
  insert : Bool
  e0 : Word
  e1 : Word
  e2 : Word
  maker : Bool
  diag : Bool
  deriving DecidableEq, Repr

/-- Photometry outside its registers: the edit queue, diagnosis inserts that found it full, edits applied in the interval, tiles whose PHO_TH_LOST interval runs (R135), thresholds
written over Temuli's tile (256 for none), the snapshot in progress (tile and slice) and its transaction (0 none, 1 submitted, 2 sealed,
3 ended otherwise), the sequence number of each tile, the current slot of
each slice, the hour of the last hourly snapshot, and when a deferred snapshot retries (R145). -/
structure PhoSt where
  edits : List RmapEdit
  retry : List RmapEdit
  applied : Nat
  thLost : Vector Bool 4
  dth : List (Nat × Nat)
  snap : Option (Nat × Nat)
  tx : Nat
  seq : Vector Nat 4
  slots : List (Nat × Nat)
  hour : Option Nat
  retryAt : Nat
  deriving DecidableEq, Repr

/-- The mask engine outside its registers: slots posted since the last cutoff in order, each channel's current slot and the network time of
the cutoff that accepted it, whether the program runs from the next cutoff on, the pool entry being rendered with the time its objects
are predicted to, the pool renderings skipped (R188), and whether masks stay applied after a block reset of GLM under GLARE_EN = 1 (R185). A post has
its slot and the instant at which it was made (R166). -/
structure GlmSt where
  posts : List (Nat × Nat)
  cur : Vector (Option Nat) 2
  cut : Vector Nat 2
  armed : Bool
  pool : Option (Nat × Nat)
  skips : Nat
  held : Bool
  deriving DecidableEq, Repr

/-- A CTRL command waiting or outstanding (R226): CMD, ADDR, DATA, its origin (0 SPL_CTRL_CMD, 1 a pixel-drive write, 2 the SEQ_ACTIVE
check of R246), its ALIVE count, sendings used, and the ACK deadline in ns. -/
structure CtrlCmd where
  cmd : Nat
  addr : Nat
  data : Nat
  org : Nat
  alive : Nat
  tries : Nat
  due : Nat
  deriving DecidableEq, Repr

/-- Fallback replay of a tile (R213): loading, the copy being read (1 A, 2 B, 3 uniform, 0 before the first load), the frames lit since the last swap, the
ceiling applied to the frame on the tile, whether the last line of the load has been sent; the next line of the load, whether its lines go as FILL
packets, and the codes of the lines not sent yet. -/
structure FbTile where
  loading : Bool
  copy : Nat
  frames : Nat
  cth : Nat
  ready : Bool
  next : Nat
  fill : Bool
  data : List Nat
  deriving DecidableEq, Repr

/-- The scan-out and link of a tile outside their registers. -/
structure TileSt where
  /-- Packets sent since the last tick (R218), the training sets sent in the last step of training (R235), when the link is free again in units of
  1/24 ns, the columns since its last IDLE column (R217), and the CTRL packets since the last CODE packet (R196). -/
  out : List (List Nat)
  ts : List (List Nat)
  free : Nat
  cols : Nat
  gap : Nat
  /-- Width and height by the last accepted enumeration record (R203). -/
  size : Option (Nat × Nat)
  /-- Lines sent of the frame, its codes as sent, whether a line underran in it, and whether its MARK has gone out. -/
  line : Nat
  sent : List Nat
  under : Bool
  marked : Bool
  /-- Sends frames: its first tick since UP has come (R196). -/
  sending : Bool
  /-- A SEQ packet is due first after the next tick; the next MARK carries SEQ_SWITCH; SEQ_ACTIVE is to be read in the next frame; failed
  checks in a row, and whether DRV_SEQ_MISMATCH has been raised for them (R245, R246). -/
  seqDue : Bool
  seqSwitch : Bool
  seqRead : Bool
  seqFails : Nat
  seqBad : Bool
  /-- The last MARK: frame number, FLAGS of R220, DELAY and FRAME_LEN; and the MARKs since the last FSTAT. -/
  markNum : Nat
  markFlags : Nat
  markDelay : Nat
  markLen : Nat
  noFstat : Nat
  /-- CTRL traffic: commands waiting, the outstanding one, whether a return packet has come since training, CTRLs sent in the frame. -/
  queue : List CtrlCmd
  outst : Option CtrlCmd
  rxAny : Bool
  ctrls : Nat
  /-- Training: TILE_RESET_N high, lanes allowed to this attempt, the tile's RATES mask, when a retrain times out and when a FAILED link
  restarts (0 for never). -/
  resetN : Bool
  cap : Nat
  rates : Nat
  due : Nat
  restart : Nat
  /-- Fallback. -/
  fb : FbTile
  /-- Rectangles: CALC of the frame before, which CALCs stand, frames without a decision and the runs of them that have been reported, tags kept with
  their values, DIVERSE results of the frame being sent and of the one before (8 waiting), STATIC results. -/
  calcPrev : Vector Word 16
  calcDone : Nat
  calcDonePrev : Nat
  run : Vector Nat 16
  told : Nat
  tag : Vector (Option (Nat × Word)) 16
  divRes : Vector Nat 16
  divPrev : Vector Nat 16
  statRes : Vector Nat 16
  /-- Probes: on at the tile, when probing began, probe frames lit and not yet verified with their times, the time of each group's last
  verified frame, groups in fault, pixels reported per frame, the VF sums of a frame, the settings in force at the tile (with its TEMP_PERIOD, R241, and
  the tick from which its TEMP records are due, R382), and settings that take force at the next swap (R249). -/
  probing : Bool
  since : Nat
  probes : List (Nat × Nat)
  verified : List (Nat × Nat)
  fault : List Nat
  counts : List (Nat × Nat)
  vfSum : Nat
  vfCnt : Nat
  vfFrame : Nat
  gnEff : Nat
  skew : Nat
  tempPeriod : Nat
  tempFrom : Nat
  gnNew : Option (Nat × Nat)
  probeNew : Option Bool
  units : Nat
  unitsNew : Option Nat
  /-- Footprint planes: written whole, and the frame each holds (R261, R262). -/
  fpOk : Vector Bool 3
  fpFrame : Vector Nat 3
  deriving DecidableEq, Repr

/-- External synchronisation (R199, R200): expected edges missed in a row, valid edges in a row, lost, the last expected tick whose edge has come, and
the measured phase error that the ticks have still to take up, in ns; the SYNC_OUT pin and when its pulse ends; the time of the last tick; whether DRV_DEF_FULL has been raised since the
table last had room; the probe settings the pixel drive last acted on (R251); and the runs of fallback frames that have lit, each with its first and
last frame number (R259). -/
structure SyncSt where
  missed : Nat
  valid : Nat
  lost : Bool
  nextEdge : Nat
  corr : Int
  pinOut : Bool
  outUntil : Nat
  lastTick : Nat
  defFull : Bool
  gnSkew : Nat × Nat
  fbRuns : List (Nat × Nat)
  deriving DecidableEq, Repr

/-- A ramp in progress (R270): register, start, target, length and the ticks done. -/
structure Ramp where
  reg : Nat
  start : Int
  target : Int
  len : Nat
  done : Nat
  deriving DecidableEq, Repr

/-- A pattern sequencer outside its registers (R267): loop counters, the ramp or hold in progress, the last live RUN bit. -/
structure PatSeq where
  c0 : Nat
  c1 : Nat
  ramp : Option Ramp
  hold : Nat
  ran : Bool
  deriving DecidableEq, Repr

/-- The pattern sequencers: program words and constants (live and shadow) by index, and the sequencers. -/
structure PatSt where
  prog : List (Nat × Word)
  k : List (Nat × Word)
  kSh : List (Nat × Word)
  seq : Vector PatSeq 16
  flags : Option Word
  enSet : Bool
  deriving DecidableEq, Repr

/-- The time unit outside its registers (R405 to R421): the time of the last chip reset; offset, rate and reference count of NT and of TT;
the servo's integrator, rejected measurements in a row and the time of the last measurement; whether the servo has been LOCKED and an
alignment made since chip reset, whether one is decided for the next tick or wanted; the grid index of the next tick and the TICK_NUM it
takes at a first alignment; whether the whole of D is being slewed out (R421); the held rate and temperature of
holdover for TT and for NT; the transmit timestamps waiting (TAG, port, NT in ns). `base` is the count of the local counter at `c0`, or, while the RTC
keeps it, at `deepAt` (R377); `xoT` the temperature of R391, S7.8, and when it was taken; `theta` the last measurement in ns (R444). -/
structure TimeSt where
  c0 : Nat
  base : Nat
  deepAt : Option Nat
  xoT : Int
  xoAt : Option Nat
  theta : Int
  ntOfs : Int
  ntRate : Int
  ntRef : Nat
  ttOfs : Int
  ttRate : Int
  ttRef : Nat
  integ : Int
  jumps : Nat
  lastMeas : Nat
  everLocked : Bool
  aligned : Bool
  align : Bool
  want : Bool
  idx : Option Nat
  jump : Option Nat
  slewAll : Bool
  rateH : Int
  tempH : Int
  ntRateH : Int
  ntTempH : Int
  tsq : List (Nat × Nat × Nat)
  deriving DecidableEq, Repr

/-- An open frame of a stream (R278 to R284): the configuration words it began with, its buffer entry, lines received, the cause of its
error (0 none), frame number, Frame Start time, list slot, list bytes, and whether LOOK takes it. -/
structure VinFrame where
  cfg : Word
  route : Word
  lreq : Nat
  entry : Option Nat
  lines : Nat
  err : Nat
  num : Nat
  fs : Nat
  slot : Option Nat
  bytes : Nat
  look : Bool
  skip : Bool
  deriving DecidableEq, Repr

/-- The receivers outside their registers, stream `k` of receiver `i` at place 4i + k: the open frame, the entry of the last completed
frame, and the high word of its Frame Start time, which a read of the low word latches. -/
structure VinSt where
  frames : Vector (Option VinFrame) 8
  last : Vector (Option Nat) 8
  hi : Vector Word 8
  deriving DecidableEq, Repr

/-- The look-back engine outside its registers (R287 to R294): a capture waits for the next Frame Start, the raw lines of the image, its
line width, the reference frame, the result known before evaluation, when the copy of the reference ends, each detector's runs of holding and not holding, the written-back
frames of each tile, and the network times of the last ticks. -/
structure LookSt where
  want : Bool
  img : List (List Nat)
  ref : Option Nat
  res : Nat
  copyEnd : Nat
  runs : Vector (Nat × Nat) 4
  wb : Vector (List Nat) 4
  ticks : List (Nat × Nat)
  deriving DecidableEq, Repr

/-- An injection in progress (R326): the phase and increment of a sine, the register, held samples and bits left of a sequence, and the
samples of the present step; the term it adds. -/
structure InjSt where
  phase : Nat
  inc : Nat
  lfsr : Nat
  held : Nat
  bits : Nat
  step : Nat
  count : Nat
  term : Int
  deriving DecidableEq, Repr

/-- A loop slot outside its registers (R301 to R329): samples taken in the frame and samples it holds; the references before injection; the
notch states (x1, x2, y1, y2 of each biquad); the repetitive memory; the counts of R321; the reference raw value, reference command and
count of R322 and the delivery last seen; whether RESUME waits and whether it is barred until the next sample; the injection and whether one
waits; capture armed, triggered, pairs left after the trigger, and samples skipped; the energy sum; samples ever taken; whether
the loop has been in RUN for the whole interval; and the instant of the last sample, that of its computation (R307), and the commands that stood before
it (R311). -/
structure LoopSt where
  m : Nat
  n : Nat
  r : Vector Int 4
  notch : Vector Int 8
  mem : List (Nat × Word)
  res : Vector Nat 4
  frz : Vector (Option (Int × Int) × Nat × Nat) 4
  resume : Bool
  bar : Bool
  inj : InjSt
  injWait : Bool
  armed : Bool
  trig : Bool
  left : Nat
  skip : Nat
  acc : Int
  taken : Nat
  whole : Bool
  last : Nat
  done : Nat
  uOld : Vector Word 4
  deriving DecidableEq, Repr

/-- A PWM output (R331): not idle; start and length of its pulse and length of its carrier, in 150 ps steps from the carrier start; how much of the
pulse before runs past its carrier's end; when the carrier started, in units of 1/5 ns; and the pin is driven: a commit has applied PWM_CFG since the last
chip reset (R587). -/
structure PwmSt where
  active : Bool
  start : Nat
  on : Nat
  lc : Nat
  tail : Nat
  at_ : Nat
  driven : Bool
  deriving DecidableEq, Repr

/-- The control engine, PWM and ADC outside their registers: the loops, the outputs, sums and counts of the channels' conversions in the
interval, the channels in LOOP that have converted for the coming sample of their loop (R307), and how many deliveries the tiles' forward voltages and
temperatures have made (R306). -/
structure CtlSt where
  loop : Vector LoopSt 16
  pwm : Vector PwmSt 16
  adcSum : Vector Nat 16
  adcCnt : Vector Nat 16
  conv : Vector Bool 16
  vfSeq : Vector Nat 4
  tempSeq : List (Nat × Nat)
  deriving DecidableEq, Repr

/-- The energy ledger outside its registers (R341 to R358): the class sums and probe units of the frame that each tile shows; E_mod of the lit
frame, its length, the tiles without a temperature and those whose link has been UP since its tick; U; the mismatch runs in ns and the runs
reported; the accumulators and their last values (hour, night, total); the time of the last NRG_ALLOW write; the hour rolled over last, as its
number, and the night, as the second of city time at which NIGHT_START came; and when they began (R357). -/
structure NrgSt where
  sums : Vector (List Nat) 4
  probe : Vector Nat 4
  model : Vector Nat 4
  len : Nat
  noTemp : Nat
  up : Nat
  u : Vector Nat 4
  run : Vector Nat 4
  hour : Nat
  night : Nat
  total : Nat
  lastHour : Nat
  lastNight : Nat
  allowAt : Nat
  hourIdx : Int
  nightIdx : Int
  hourAt : Nat
  nightAt : Nat
  deriving DecidableEq, Repr

/-- A DALI transaction (R359): a raw command (true) or a poll; of a raw command its frame of 16 or (LEN) 24 bits, whether it goes twice within 100 ms
and whether a backward frame is expected. -/
structure DaliTx where
  raw : Bool
  frame : Nat
  len : Bool
  twice : Bool
  reply : Bool
  deriving DecidableEq, Repr

/-- A good poll: its time, the driver's energy in mWh, and NRG_ACC_TOTAL. -/
structure PollMark where
  time : Nat
  energy : Nat
  total : Nat
  deriving DecidableEq, Repr

/-- The DALI port outside its registers (R359 to R361): waiting transactions, the forward frames of the transaction that ended last, each with its
bits, bus held low, failed polls in a row, the time of the last poll, the polls that bound the window, whether a poll failed or the node slept since
the first of them, and whether since the last of them; and the 64-bit DALI_D4I_ENERGY. -/
structure DaliSt where
  queue : List DaliTx
  carried : List (Nat × Nat)
  fail : Bool
  misses : Nat
  polled : Option Nat
  start : Option PollMark
  last : Option PollMark
  spoilt : Bool
  late : Bool
  shown : Nat
  deriving DecidableEq, Repr

/-- A temperature sensor (R382, R383): the value of its last conversion, the value it holds while failed, conversions in a row that met a failure condition, when one was last met,
when the last value came, and the valid values of the last 10 s that no later value exceeds. -/
structure SensorSt where
  raw : Option Int
  held : Int
  cnt : Nat
  badAt : Nat
  got : Nat
  hist : List (Nat × Int)
  deriving DecidableEq, Repr

/-- The thermal manager outside its registers: sensors 0 to 13 (TS0 to TS11, NTC0, NTC1) and 16 + 8t + k, the TEMP records of each tile in the last
second, when the step last changed, when CRITICAL's clearing condition began to hold, when each tile limit was reached and whether it was
reported, and thermal shutdown with the start of its cool spell (R389); and the junction temperature, which THM_TJ shows saturated (R384). -/
structure ThmSt where
  tj : Int
  sens : List (Nat × SensorSt)
  temps : Vector (List (Nat × Int)) 4
  stepAt : Nat
  coolAt : Option Nat
  overAt : Vector (Option Nat) 4
  overTold : Vector Bool 4
  shut : Bool
  shutCool : Option Nat
  deriving DecidableEq, Repr

/-- Power states outside the PWR registers (R368 to R376): the target of the command in progress, whether its entry has begun, the tick number at
the command, when entry began and since when harts and channels have been quiet in it; the level a transition moves to, and the RTC alarm; the I2C
address, register and voltage code written last to the PMIC, when, and when the settle time after PMIC_PG ends (R368); whether the WAKE cell of a
device in OFF takes the WAKE pin (R364, R375); and the mode that a wake from DEEP_SLEEP keeps (R378). -/
structure PwrSt where
  cmd : Option Nat
  entering : Bool
  began : Nat
  entryAt : Nat
  quietAt : Option Nat
  trans : Option Nat
  alarm : Option Nat
  vcode : Option (Nat × Nat × Nat)
  asked : Nat
  settle : Option Nat
  wakePin : Bool
  kept : Nat
  deriving DecidableEq, Repr

/-- A frame waiting at a port (R401): the frame, its port of ingress with the NT of its arrival in ns (none for one of NETE's), and the TAG of a
timestamp request. -/
structure Egress where
  frame : NetFrame
  from_ : Option (Nat × Nat)
  tag : Option Nat
  deriving DecidableEq, Repr

/-- A port outside its registers (R397 to R414): queues 3 to 0 as one list each, the storm window and its count, when its link came up, peer-delay
requests lost in a row, whether a sample has come, when the last request went, and the last frame that departed; MRP_LinkChange frames still to be
repeated here, by when they are due and the link state they tell (R404); and the Announce heard last, with when it came (R417). -/
structure PortSt where
  q : Vector (List Egress) 4
  window : Nat
  count : Nat
  upAt : Nat
  lost : Nat
  sample : Bool
  reqAt : Option Nat
  sent : Option NetFrame
  again : List (Nat × Bool)
  announce : Option ((Nat × Nat × Nat) × Nat)
  deriving DecidableEq, Repr

/-- The switch and NETE's side outside the registers: ports, learned addresses (address, port, when in ns), when a flush is due (R404), the frame
last delivered to NETE with its port and receive timestamp, the TIME of the last accepted beacon (R435), since when a link has been up; the PTP domain of
NETE's configuration, its own dataset where the installer makes it grandmaster-capable, and the parent chosen last: port and dataset (R417). -/
structure NetSt where
  port : Vector PortSt 3
  fdb : List (Nat × Nat × Nat)
  flushAt : Option Nat
  rx : Option (NetFrame × Nat × Nat)
  beacon : Nat
  upAt : Option Nat
  domain : Nat
  own : Option (Nat × Nat × Nat)
  parent : Option (Nat × Nat)
  deriving DecidableEq, Repr

/-- An occurrence in the due queue (R441): index, action, result, tick, ARG. -/
structure DueEntry where
  idx : Nat
  action : Nat
  result : Nat
  tick : Nat
  arg : Nat
  deriving DecidableEq, Repr

/-- The scheduler outside its registers and table: the due queue, and t_(k-1) in ns. -/
structure SchedSt where
  due : List DueEntry
  last : Nat
  deriving DecidableEq, Repr

/-- A response that the device sends (R432): TXN, STATUS, the bytes of its payload, and whether they are a stored payload that may hold personal data
(R475). -/
structure Resp where
  txn : Nat
  status : Nat
  data : List Nat
  stored : Bool
  deriving DecidableEq, Repr

/-- A session outside its 64-byte entry (R427 to R434, R473, R485): the traffic keys (none before they are installed) and the handshake's slots
pair; the highest record number and the numbers accepted in the replay window; the kept responses, newest first; the last ALIVE count; when the
last valid record came; the client's key hash; the modes claim; the object list being received (LIST_ID, PARTS, parts so far, CH1 slot); the
actions to be summarised (right, city minute, count); the segment head that the device opened it to; and the header of the last message delivered: CLASS,
CMD, TXN and ALIVE (R430). -/
structure SessSt where
  keys : Option Nat
  hs : Option Nat
  top : Option Nat
  seen : List Nat
  kept : List Resp
  alive : Option Nat
  rxAt : Nat
  client : List Nat
  modes : Nat
  list : Option (Nat × Nat × Nat × Nat)
  sums : List (Nat × Nat × Nat)
  head : Option Nat
  hdr : Option (Nat × Nat × Nat × Nat)
  deriving DecidableEq, Repr

/-- The device's own session to a segment head (R429): when its next handshake may start, and the backoff of the next retry in s. -/
structure HeadSt where
  due : Option Nat
  back : Nat
  deriving DecidableEq, Repr

/-- The record engine and session service outside their registers: sessions in use by index, segment heads, and the last answer given to the
network: session index and response. -/
structure SesSt where
  sess : List (Nat × SessSt)
  heads : List (Nat × HeadSt)
  resp : Option (Nat × Resp)
  deriving DecidableEq, Repr

/-- An audit record waiting for eMRAM (R486): SEQ, its 48 bytes, and H of it. -/
structure AuditRec where
  seq : Nat
  bytes : List Nat
  hash : List Nat
  deriving DecidableEq, Repr

/-- SEC outside its registers: the audit queue (R486) and the highest TO exported (R488); DRBG requests since the last seeding (R458); the host
grant's exp, ctr, tid and modes (R477) and its actions to be summarised (R485); the TAP's holding register (R494); asserted tamper samples in a row
(R492); when a counter raise was last tried (R466); the high words of the floors as reads of their low words latch them (R497); and the type and slot of the
last image rejected (R460). -/
structure SecSt where
  audit : List AuditRec
  exported : Nat
  draws : Nat
  hostExp : Nat
  hostCtr : Nat
  hostTid : List Nat
  hostModes : Nat
  hostSums : List (Nat × Nat × Nat)
  tap : Word
  tamper : Nat
  otpAt : Nat
  floorHi : Vector Word 3
  reject : Option (Nat × Nat)
  drbg : List Nat × Nat
  keys : List (Nat × List Nat)
  deriving DecidableEq, Repr

/-- An update (R463 to R465): image type, the copy being written, LENGTH of UPD_BEGIN, ROLLBACK and VERSION of the staged image, the activation asked for
(its tick, and FORCE), when the boot into TRIAL was, whether the rollback reset waits for dark, and whether ADAPTIVE or STANDALONE has been reached since
the boot. -/
structure UpdSt where
  type : Nat
  copy : Nat
  len : Nat
  roll : Nat
  ver : Nat
  act : Option (Nat × Bool)
  trialAt : Nat
  failed : Bool
  reached : Bool
  deriving DecidableEq, Repr

/-- What a journal transaction makes current beside its data when it applies (R549 step 5), where the spec names the effect and not a layout. -/
inductive NvUpd where
  | none
  | commissioned (b : Bool)
  | quarantine (cause : Nat)
  | floor (role v : Nat)
  | timeFloor (v : Nat)
  | audit (next : Nat) (head : List Nat)
  | acked (v : Nat)
  | mainSlot (active trial : Nat)
  | raises (l : List (Nat × Nat))
  | snap (tile : Nat)
  | slot (n : Nat) (content : Option (Nat × Word))
  | cert (k : Nat) (der : List Nat)
  | root (role : Nat) (hash : List Nat)
  | imageByte
  deriving DecidableEq, Repr

/-- A journal transaction (R546 to R549): owner, kind (DIRECT when true), target offset, data, the activation word, the update it makes
current, its number and how far it is (0 queued, 1 open with INTENT written, 2 committed, 3 committed before a reset and to be rolled forward, 4 to be sealed
ROLLED_BACK when the window opens, R553). -/
structure Tx where
  owner : Nat
  direct : Bool
  target : Nat
  data : List Nat
  act : Option (Nat × Nat)
  upd : NvUpd
  txn : Nat
  phase : Nat
  deriving DecidableEq, Repr

/-- State of the memory controller outside its registers: the queue, the open REDO and DIRECT transactions (R547), abandoned transactions
whose SEAL waits for the window (R552), the journal offset of the first record of every unsealed transaction in the order of opening, the
start of the scrub pass, and when retention SRAM was last scrubbed (R540). -/
structure NvmSt where
  queue : List Tx
  redo : Option Tx
  direct : Option Tx
  unsealed : List Tx
  starts : List (Nat × Nat)
  scrubStart : Nat
  retAt : Nat
  deriving DecidableEq, Repr

/-- A flash operation in progress (R557, R558): true for an erase, its offset, its length and the bytes to program. -/
structure FlashOp where
  erase : Bool
  ofs : Nat
  len : Nat
  data : List Nat
  deriving DecidableEq, Repr

/-- What survives every reset beside the bytes of eMRAM and flash: the one-time-programmable words (R449), what the KEYS and COUNTERS regions
hold where the spec names the content and no layout (R543: role roots, key slots with their metadata, the device certificates, stored payloads by group and key, segment heads and network anchor, landmarks, the
contents of the installed Byster sections, H of the newest audit record and of the one before it, the active slots in bits 0 MAIN, 1 SAFE, 2 RECOVERY and 3 Byster archive, and the trial: 0 none, else 4 x type + 1 armed, 2 booted, 3 failed), words written to each region (R560), the life-long transaction number (R548), and
the journal head and the transactions that a reset or a loss of power left without a SEAL (R553). -/
structure NvSt where
  otp : List (Nat × Word)
  roots : List (Nat × List Nat)
  slots : List (Nat × Nat × Word)
  certs : List (Nat × List Nat)
  payloads : List ((Nat × Nat) × List Nat)
  sections : List (Section × List Nat)
  heads : Nat
  anchor : List Nat
  landmarks : Nat
  commissioned : Bool
  quarantine : Nat
  floors : List (Nat × Nat)
  timeFloor : Nat
  auditNext : Nat
  auditHead : List Nat
  auditPrev : List Nat
  acked : Nat
  active : Nat
  trial : Nat
  raises : List (Nat × Nat)
  wear : List (Nat × Nat)
  txn : Nat
  head : Nat
  left : List Tx
  deriving DecidableEq, Repr

/-- State of the block: the device's clock and the time of the next tick in ns, TICK_NUM, the registers with their shadows and live statistics, the
events of the present instant, the bytes of memory and the 64-bit words marked uncorrectable or holding a single-bit error, the last bus answer, the counter of free values, the blocks'
own state, the interrupt sources claimed and not completed, each data-mover channel's last record, when each hart's watchdog was started (8 x cluster +
hart, ns), and the commands waiting, first in, first out. -/
structure State where
  now : Nat
  nextTick : Nat
  tickNum : Nat
  regs : List (Nat × Word)
  shadow : List (Nat × Word)
  stat : List (Nat × Word)
  evt : EvtSt
  mem : List Host.Cell
  ue : List Nat
  ce : List Nat
  bus : BusResp
  free : Nat
  sys : SysSt
  flt : FltSt
  nv : NvSt
  plicClaimed : List Nat
  wdog : List (Nat × Nat)
  dmvLast : Vector (Option Nat) 4
  cmp : CmpSt
  frm : FrameSt
  pho : PhoSt
  glm : GlmSt
  tile : Vector TileSt 4
  sync : SyncSt
  pat : PatSt
  vin : VinSt
  look : LookSt
  ctl : CtlSt
  nrg : NrgSt
  dali : DaliSt
  thm : ThmSt
  pwr : PwrSt
  tim : TimeSt
  net : NetSt
  sched : SchedSt
  ses : SesSt
  sec : SecSt
  upd : UpdSt
  nvm : NvmSt
  flash : Option FlashOp
  pending : List Instr
  deriving DecidableEq, Repr

/-- An idle commit group. -/
def Group.idle : Group := ⟨false, false, 0, 0, false, false, [], [], [], []⟩

/-- The SYS state at reset. -/
def SysSt.reset : SysSt :=
  { groups := Vector.replicate 16 Group.idle, forceFb := false, pend := none, prevMode := 5, quietSince := none, netSince := 0,
    geometryIn := false, masksIn := false, lookInRecord := false, pgTime := 0, recordGood := false, selfTestDue := false, errLow := true,
    startArmed := [], softEnd := none }

/-- The collector at reset. -/
def FltSt.reset : FltSt := ⟨[], [], [], 0#32, false, [], 0, []⟩

/-- The non-volatile contents of a part that nothing has been programmed into. -/
def NvSt.blank : NvSt := ⟨[], [], [], [], [], [], 0, [], 0, false, 0, [], 0, 0, [], [], 0, 0, 0, [], [], 0, 0, []⟩

/-- A FREE entry whose fields read 0 (R120). -/
def BufEntry.empty : BufEntry := ⟨0, 0, 0, 0, 0, 0, .free, 0⟩

/-- A layer slot without a buffer or request. -/
def LyrSt.reset : LyrSt := ⟨none, none, none, [], false⟩

/-- The compositor at reset: every entry FREE. -/
def CmpSt.reset : CmpSt := ⟨[], [], Vector.replicate 8 LyrSt.reset, Vector.replicate 8 [], Vector.replicate 4 none, false⟩

/-- No frame composed. -/
def FrameSt.reset : FrameSt := ⟨[], 0, Vector.replicate 4 0xFFF, 0, 0, Vector.replicate 4 [], Vector.replicate 4 0, Vector.replicate 4 0⟩

/-- Photometry at reset. -/
def PhoSt.reset : PhoSt := ⟨[], [], 0, Vector.replicate 4 false, [], none, 0, Vector.replicate 4 0, [], none, 0⟩

/-- The mask engine at reset. -/
def GlmSt.reset : GlmSt := ⟨[], Vector.replicate 2 none, Vector.replicate 2 0, false, none, 0, false⟩

/-- A tile's scan-out, link and probes at reset. -/
def TileSt.reset : TileSt :=
  { out := [], ts := [], free := 0, cols := 0, gap := 0, size := none, line := 0, sent := [], under := false, marked := false, sending := false, seqDue := false, seqSwitch := false, seqRead := false,
    seqFails := 0, seqBad := false, markNum := 0, markFlags := 0, markDelay := 0, markLen := 0, noFstat := 0, queue := [], outst := none,
    rxAny := false, ctrls := 0, resetN := false, cap := 4, rates := 7, due := 0, restart := 0, fb := ⟨false, 0, 0, 0xFFF, false, 0, false, []⟩,
    calcPrev := Vector.replicate 16 0#32, calcDone := 0, calcDonePrev := 0, run := Vector.replicate 16 0, told := 0, tag := Vector.replicate 16 none,
    divRes := Vector.replicate 16 0, divPrev := Vector.replicate 16 0, statRes := Vector.replicate 16 0, probing := false,
    since := 0, probes := [], verified := [], fault := [], counts := [], vfSum := 0, vfCnt := 0, vfFrame := 0, gnEff := 64, skew := 0x17, tempPeriod := 240, tempFrom := 0,
    gnNew := none, probeNew := none, units := 4, unitsNew := none, fpOk := Vector.replicate 3 false, fpFrame := Vector.replicate 3 0 }

/-- External synchronisation at reset. -/
def SyncSt.reset : SyncSt := ⟨0, 0, false, 0, 0, false, 0, 0, false, (64, 0x17), []⟩

/-- The pattern sequencers at reset. -/
def PatSt.reset : PatSt := ⟨[], [], [], Vector.replicate 16 ⟨0, 0, none, 0, false⟩, none, false⟩

/-- The receivers at reset. -/
def VinSt.reset : VinSt := ⟨Vector.replicate 8 none, Vector.replicate 8 none, Vector.replicate 8 0#32⟩

/-- The look-back engine at reset. -/
def LookSt.reset : LookSt := ⟨false, [], none, 0, 0, Vector.replicate 4 (0, 0), Vector.replicate 4 [], []⟩

/-- No injection. -/
def InjSt.reset : InjSt := ⟨0, 0, 0, 0, 0, 0, 0, 0⟩

/-- A loop slot at reset. -/
def LoopSt.reset : LoopSt :=
  { m := 0, n := 0, r := Vector.replicate 4 0, notch := Vector.replicate 8 0, mem := [], res := Vector.replicate 4 0,
    frz := Vector.replicate 4 (none, 0, 0), resume := false, bar := false, inj := InjSt.reset, injWait := false, armed := false, trig := false,
    left := 0, skip := 0, acc := 0, taken := 0, whole := false, last := 0, done := 0, uOld := Vector.replicate 4 0#32 }

/-- The control engine at reset. -/
def CtlSt.reset : CtlSt :=
  ⟨Vector.replicate 16 LoopSt.reset, Vector.replicate 16 ⟨false, 0, 0, 0, 0, 0, false⟩, Vector.replicate 16 0, Vector.replicate 16 0,
   Vector.replicate 16 false, Vector.replicate 4 0, []⟩

/-- The energy ledger at reset. -/
def NrgSt.reset : NrgSt :=
  { sums := Vector.replicate 4 [], probe := Vector.replicate 4 0, model := Vector.replicate 4 0, len := 0, noTemp := 0, up := 0,
    u := Vector.replicate 4 0, run := Vector.replicate 4 0, hour := 0, night := 0, total := 0, lastHour := 0, lastNight := 0, allowAt := 0,
    hourIdx := 0, nightIdx := -1, hourAt := 0, nightAt := 0 }

/-- The DALI port at reset. -/
def DaliSt.reset : DaliSt := ⟨[], [], false, 0, none, none, none, false, false, 0⟩

/-- A sensor that has not converted. -/
def SensorSt.reset : SensorSt := ⟨none, 0, 0, 0, 0, []⟩

/-- The thermal manager at reset. -/
def ThmSt.reset : ThmSt :=
  ⟨0, [], Vector.replicate 4 [], 0, none, Vector.replicate 4 none, Vector.replicate 4 false, false, none⟩

/-- The power states at reset. -/
def PwrSt.reset : PwrSt :=
  { cmd := none, entering := false, began := 0, entryAt := 0, quietAt := none, trans := none, alarm := none, vcode := some (0x60, 0x10, 0), asked := 0, settle := none,
    wakePin := false, kept := 5 }

/-- The network at reset. -/
def NetSt.reset : NetSt := ⟨Vector.replicate 3 ⟨Vector.replicate 4 [], 0, 0, 0, 0, false, none, none, [], none⟩, [], none, none, 0, none, 0, none, none⟩

/-- The scheduler at reset. -/
def SchedSt.reset : SchedSt := ⟨[], 0⟩

/-- No session. -/
def SesSt.reset : SesSt := ⟨[], [], none⟩

/-- SEC at reset. -/
def SecSt.reset : SecSt := ⟨[], 0, 0, 0, 0, [], 0, [], 0#32, 0, 0, Vector.replicate 3 0#32, none, (List.replicate 32 0, 0), []⟩

/-- No update. -/
def UpdSt.reset : UpdSt := ⟨0, 0, 0, 0, 0, none, 0, false, false⟩

/-- The time unit at chip reset: both clocks at the PTP epoch (R405, R406). -/
def TimeSt.reset : TimeSt :=
  { c0 := 0, base := 0, deepAt := none, xoT := 0, xoAt := none, theta := 0, ntOfs := 0, ntRate := 0, ntRef := 0, ttOfs := 0, ttRate := 0, ttRef := 0, integ := 0, jumps := 0, lastMeas := 0,
    everLocked := false, aligned := false, align := false, want := false, idx := none, jump := none, slewAll := false, rateH := 0, tempH := 0, ntRateH := 0, ntTempH := 0,
    tsq := [] }

/-- The memory controller at reset. -/
def NvmSt.reset : NvmSt := ⟨[], none, none, [], [], 0, 0⟩

/-- The machine right after reset: every register at its reset value, memory with nothing listed, no command waiting. -/
def State.reset : State :=
  { now := 0, nextTick := 4166667, tickNum := 0, regs := [], shadow := [], stat := [], evt := ⟨0, []⟩, mem := [], ue := [], ce := [], bus := ⟨0#32, false⟩,
    free := 0, sys := SysSt.reset, flt := FltSt.reset, nv := NvSt.blank, plicClaimed := [], wdog := [], dmvLast := Vector.replicate 4 none,
    cmp := CmpSt.reset, frm := FrameSt.reset, pho := PhoSt.reset, glm := GlmSt.reset, tile := Vector.replicate 4 TileSt.reset,
    sync := SyncSt.reset, pat := PatSt.reset, vin := VinSt.reset, look := LookSt.reset, ctl := CtlSt.reset, nrg := NrgSt.reset, dali := DaliSt.reset, thm := ThmSt.reset, pwr := PwrSt.reset,
    tim := TimeSt.reset, net := NetSt.reset, sched := SchedSt.reset, ses := SesSt.reset, sec := SecSt.reset,
    upd := UpdSt.reset, nvm := NvmSt.reset, flash := none, pending := [] }

end Sys2Proof.Machine
end

