-- ==== Sys2Proof/Machine/Ops.lean ====
section
/-! DEFINITION. The named operations over registers, statistics, interrupts, memory, free values and the bus answer. -/

namespace Sys2Proof.Machine

/-! ### Registers -/

/-- The live value of the register at `a`. -/
def State.rd (s : State) (a : Nat) : Word := sget (regDefault a) a s.regs

/-- Set the live value of the register at `a`. -/
def State.wr (s : State) (a : Nat) (v : Word) : State := { s with regs := sset (regDefault a) a v s.regs }

/-- Field `[hi:lo]` of the live register at `a`. -/
def State.rf (s : State) (a : Nat) (hi lo : Nat) : Nat := bitsOf (s.rd a) hi lo

/-- Bit `b` of the live register at `a`. -/
def State.rb (s : State) (a : Nat) (b : Nat) : Bool := bitOf (s.rd a) b

/-- Set field `[hi:lo]` of the live register at `a`. -/
def State.wf (s : State) (a : Nat) (hi lo v : Nat) : State := s.wr a (putBits (s.rd a) hi lo v)

/-- Set bit `b` of the live register at `a`. -/
def State.wb (s : State) (a : Nat) (b : Nat) (v : Bool) : State := s.wr a (putBit (s.rd a) b v)

/-- Set bits of the live register at `a` by a mask. -/
def State.orMask (s : State) (a : Nat) (m : Nat) : State := s.wr a (s.rd a ||| word m)

/-- The shadow value of the register at `a` (R14, RWS). -/
def State.sh (s : State) (a : Nat) : Word := sget (regDefault a) a s.shadow

/-- Set the shadow value of the register at `a`. -/
def State.shw (s : State) (a : Nat) (v : Word) : State := { s with shadow := sset (regDefault a) a v s.shadow }

/-- Masks of the register at `a`; a place that names no register has none (R16). -/
def maskOf (f : RegDef → Nat) (a : Nat) : Word :=
  match regDef a with
  | none => 0#32
  | some d => word (f d)

/-- The bits of the W1C register at `a` that events set at the present instant (R21). -/
def State.evtBits (s : State) (a : Nat) : Word := if s.evt.at_ = s.now then sget 0#32 a s.evt.bits else 0#32

/-- CTRL.EN of page `p`. -/
def State.en (s : State) (p : Nat) : Bool := s.rb (R.CTRL p) 0

/-- TICK_NUM[15:0], as TICK_LO16 fields show it. -/
def State.tick16 (s : State) : Nat := s.tickNum % 65536

/-- A register with TICK_NUM[15:0] put into [31:16]. -/
def State.stampHi (s : State) (a : Nat) : State := s.wf a 31 16 s.tick16

/-- TICK_NUM of the coming tick (R13, R420). -/
def State.nextNum (s : State) : Nat := s.tim.jump.getD (s.tickNum + 1)

/-- A staged group applies or ends at the coming tick. -/
def Group.dueNext (g : Group) (s : State) : Bool := if g.wait ≠ 0 then g.wait == 1 else decide (g.applyAt ≤ s.nextNum)

/-- A staged group applies or ends at the present tick. -/
def Group.dueNow (g : Group) (s : State) : Bool := if g.wait ≠ 0 then g.wait == 1 else decide (g.applyAt ≤ s.tickNum)

/-! ### Interrupts and statistics -/

/-- Note an event that sets bit `b` of the W1C register at `a` at the present instant (R21). -/
def State.note (s : State) (a b : Nat) : State :=
  let l := if s.evt.at_ = s.now then s.evt.bits else []
  { s with evt := ⟨s.now, sset 0#32 a (putBit (sget 0#32 a l) b true) l⟩ }

/-- Note the bits `m` under address `a` at the present instant (R21, R618). -/
def State.noteMask (s : State) (a : Nat) (m : Word) : State :=
  let l := if s.evt.at_ = s.now then s.evt.bits else []
  { s with evt := ⟨s.now, sset 0#32 a (sget 0#32 a l ||| m) l⟩ }

/-- An event sets bit `b` of the W1C register at `a`. -/
def State.event (s : State) (a b : Nat) : State := (s.note a b).wb a b true

/-- An event of interrupt condition `b` of page `p`: its IRQ_STAT bit is set whatever IRQ_EN holds (R21), and IRQ_RAW shows it (R20). -/
def State.irq (s : State) (p b : Nat) : State := s.event (R.IRQ_STAT p) b

/-- An interrupt event when `c` holds. -/
def State.irqIf (s : State) (c : Bool) (p b : Nat) : State := if c then s.irq p b else s

/-- The block's interrupt request (R21): a bit is 1 in both IRQ_STAT and IRQ_EN. FLT pages 1 to 7 never assert theirs (R532). -/
def State.irqLine (s : State) (p : Nat) : Bool :=
  (s.rd (R.IRQ_STAT p) &&& s.rd (R.IRQ_EN p)) != 0#32 && !(decide (5 ≤ p) && decide (p ≤ 11))

/-- The live statistic kept for STAT address `a` (R22). -/
def State.st (s : State) (a : Nat) : Word := sget 0#32 a s.stat

/-- Set the live statistic kept for STAT address `a`. -/
def State.stw (s : State) (a : Nat) (v : Word) : State := { s with stat := sset 0#32 a v s.stat }

/-- Add to field `[hi:lo]` of a live statistic, saturating (R8). -/
def State.stAdd (s : State) (a : Nat) (hi lo n : Nat) : State :=
  s.stw a (putBits (s.st a) hi lo (satAdd (hi + 1 - lo) (bitsOf (s.st a) hi lo) n))

/-- Set field `[hi:lo]` of a live statistic. -/
def State.stSet (s : State) (a : Nat) (hi lo n : Nat) : State := s.stw a (putBits (s.st a) hi lo n)

/-- Raise field `[hi:lo]` of a live statistic to at least `n`. -/
def State.stMax (s : State) (a : Nat) (hi lo n : Nat) : State :=
  s.stSet a hi lo (max (bitsOf (s.st a) hi lo) n)

/-- Is `a` a STAT word (R20)? -/
def isStat (a : Nat) : Bool := isReg a && decide (0x40 ≤ offOf a) && decide (offOf a < 0x100)

/-- The interrupt conditions of page `p` that last, as they stand (R20): those whose state the spec names beside the event (R119, R135, R167, R199,
R246, R252, R254, R301, R317, R348, R353, R359, R368, R382, R385, R388, R390, R393, R414, R421, R444, R458, R486, R489); which they are is log entry 131. -/
def State.standing (s : State) (p : Nat) : Word :=
  let b := fun (i : Nat) (c : Bool) => if c then 2 ^ i else 0
  word (
    if p = P.FENCE then b 0 (s.rd R.FENCE_STATE_LO != 0#32 || s.rd R.FENCE_STATE_HI != 0#32)
    else if p = P.TIME then b 2 (s.rb R.TIME_TGEN_STAT 3) + b 3 (!s.tim.tsq.isEmpty)
    else if p = P.SCN then b 1 s.sync.lost
    else if p = P.DRV then b 2 (s.tile.toList.any fun x => !x.fault.isEmpty) + b 3 (s.tile.toList.any (·.seqBad)) + b 4 s.sync.defFull
    else if p = P.GLM then b 1 (s.rf R.GLM_CH_STAT 2 0 == 3 || s.rf R.GLM_CH_STAT 6 4 == 3)
    else if p = P.NRG then b 1 (bitOf (s.st R.NRG_STAT_EVAL) 16) + b 2 (s.rb R.NRG_PLAN_STAT 0)
    else if p = P.DALI then b 2 s.dali.fail
    else if p = P.PWR then b 3 (s.rb R.PWR_LEVEL_STAT 4)
    else if p = P.CLK then b 0 (!s.rb (R.STATUS P.CLK) 0) +
      b 1 (s.rb R.THM_SENSOR_FAIL (let k := s.rf R.CLK_XO_CFG 5 4; if k = 1 then 12 else if k = 2 then 13 else 11))
    else if p = P.THM then b 0 (s.rb (R.STATUS P.THM) 8) + b 2 (s.rb (R.STATUS P.THM) 11) +
      b 3 (s.rd R.THM_SENSOR_FAIL != 0#32 || s.rd R.THM_TILE_FAIL != 0#32) + b 4 (s.thm.overTold.toList.any id)
    else if p = P.SEC0 then b 0 (s.rb R.SEC_STATUS 4) + b 1 (decide (3 ≤ s.sec.tamper)) +
      (if s.rf (R.SYS_START_MS 1) 15 0 = 0 then 0 else b 2 (!s.rb R.SEC_STATUS 0) + b 3 (!s.rb R.SEC_STATUS 2))
    else if p = P.SEC4 then b 2 (decide (256 ≤ s.sec.audit.length))
    else if 0x51 ≤ p ∧ p ≤ 0x58 then b 1 (s.cmp.lyr.toList.getD (p - 0x51) ⟨none, none, none, [], false⟩).deferred
    else if 0x69 ≤ p ∧ p ≤ 0x6c then b 0 (s.pho.thLost.toList.getD (p - 0x69) false)
    else if 0xa1 ≤ p ∧ p ≤ 0xb0 then b 0 (s.rf (R.STATUS p) 1 0 == 2) + b 5 (s.rf (R.CTL_LOOP_RC_STAT (p - 0xa1)) 6 0 == 64)
    else 0)

/-- What a read of the register at `a` gives by its access codes (R14): the shadow for RWS fields, the current value for the others. IRQ_RAW shows
the present state of each condition (R20): an event's condition holds at the instant of the event, a lasting one as long as it stands
(log entry 131). -/
def State.readReg (s : State) (a : Nat) : Word :=
  let m := maskOf RegDef.rws a
  if isReg a && offOf a == 0x18 then s.evtBits (a + 8) ||| s.standing (pageOf a) else (s.rd a &&& ~~~m) ||| (s.sh a &&& m)

/-! ### Power -/

/-- Domain `d` of R364 is on: powered and clocked. -/
def State.domainOn (s : State) (d : Nat) : Bool := s.rb R.PWR_DOMAIN_STAT d

/-- Domain `d` of R364 is powered: on, or held with its clocks stopped. -/
def State.domainPowered (s : State) (d : Nat) : Bool := s.domainOn d || s.rb R.PWR_DOMAIN_STAT (8 + d)

/-- The block of page `p` has clock and power (R18, R364): its domain is on, or it is one of the blocks of CORE that stay on in SLEEP. -/
def State.pageOn (s : State) (p : Nat) : Bool :=
  s.domainOn (pageDomain p) || (s.domainPowered 3 && sleepOn p)

/-- CRITICAL is set: the BEAM engines are clock-gated (R388). -/
def State.beamGated (s : State) : Bool := s.rb (R.STATUS P.THM) 11

/-- Page `p` is in reset (R522). -/
def State.inReset (s : State) (p : Nat) : Bool := s.flt.inRst.any fun x => x.1 == p && decide (s.now < x.2)

/-- Page `p` answers accesses: its clock and power are on, and it is not in reset (R18, R522). -/
def State.answers (s : State) (p : Nat) : Bool := s.pageOn p && !s.inReset p

/-! ### Free values -/

/-- A fresh free value: the opaque `Config.free` at the state's counter, which then advances. -/
def State.fresh (s : State) : Nat × State := (Config.free s.free, { s with free := s.free + 1 })

/-! ### Bus answers -/

/-- The bus answers a write or a dropped write with a normal response. -/
def State.busOk (s : State) : State := { s with bus := ⟨0#32, false⟩ }

/-- The bus answers with an error response and 0. -/
def State.busErr (s : State) : State := { s with bus := ⟨0#32, true⟩ }

/-- The bus answers a read with data. -/
def State.busData (s : State) (d : Word) : State := { s with bus := ⟨d, false⟩ }

/-! ### Memory -/

/-- What an unlisted byte of memory reads as: 0, which R538 and R540 give for main and retention SRAM after reset and which the model
chooses for memories whose contents the spec leaves open (log entry 4). -/
def memDefault (_ : Nat) : Byte := 0#8

/-- One byte of memory. -/
def State.ld (s : State) (a : Nat) : Byte := sget (memDefault a) a s.mem

/-- One byte as a number. -/
def State.ldN (s : State) (a : Nat) : Nat := (s.ld a).toNat

/-- Write one byte of memory. -/
def State.stB (s : State) (a : Nat) (b : Byte) : State := { s with mem := sset (memDefault a) a b s.mem }

/-- `n` bytes of memory from `a`. -/
def State.ldBytes (s : State) (a : Nat) : Nat → List Nat
  | 0 => []
  | n + 1 => s.ldN a :: s.ldBytes (a + 1) n

/-- Write bytes of memory from `a`. -/
def State.stBytes (s : State) (a : Nat) : List Nat → State
  | [] => s
  | b :: t => (s.stB a (BitVec.ofNat 8 b)).stBytes (a + 1) t

/-- A little-endian number of `n` bytes at `a` (R9). -/
def State.ldLE (s : State) (a : Nat) (n : Nat) : Nat := ofLE (s.ldBytes a n)

/-- Write a little-endian number of `n` bytes at `a`. -/
def State.stLE (s : State) (a : Nat) (n x : Nat) : State := s.stBytes a (bytesLE n x)

/-- The canonical form of the byte memory. -/
def Memory.wf (m : List Host.Cell) : Bool := swf memDefault m

/-- The canonical form of a register map. -/
def regsWf (m : List (Nat × Word)) : Bool := swf regDefault m

/-- The memories of R60 by kind. -/
inductive Region where
  | rom | ret | beamLocal (b : Nat) | main | emram | regs | plic | xspi | none
  deriving DecidableEq, Repr

/-- The address map of R60. -/
def regionOf (a : Nat) : Region :=
  if a ≤ 0x0003FFFF then .rom
  else if 0x00200000 ≤ a ∧ a ≤ 0x003FFFFF then .ret
  else if 0x08000000 ≤ a ∧ a ≤ 0x081FFFFF then .beamLocal (a % 0x200000 / 0x40000)
  else if 0x10000000 ≤ a ∧ a ≤ 0x12FFFFFF then .main
  else if 0x20000000 ≤ a ∧ a ≤ 0x20FFFFFF then .emram
  else if isReg a then .regs
  else if isPlic a then .plic
  else if 0x60000000 ≤ a ∧ a ≤ 0x7FFFFFFF then .xspi
  else .none

/-- The bank of a main-SRAM address (R29). -/
def bankOf (a : Nat) : Nat := a % 0x10000000 / 256 % 96

/-- The 64-bit word that holds byte `a` is marked uncorrectable (R536). -/
def State.isUe (s : State) (a : Nat) : Bool := s.ue.contains (a / 8)

/-- Any byte of `n` from `a` lies in an uncorrectable word. -/
def State.anyUe (s : State) (a n : Nat) : Bool := s.ue.any (fun w => decide (a / 8 ≤ w) && decide (w < (a + n + 7) / 8))

/-- A whole-word write clears any error in the words it covers whole (R537). -/
def State.clearErr (s : State) (a n : Nat) : State :=
  let whole := fun w => decide (a ≤ 8 * w) && decide (8 * w + 8 ≤ a + n)
  { s with ue := s.ue.filter (fun w => !whole w), ce := s.ce.filter (fun w => !whole w) }

/-- Store bytes from an agent whose access is not refused: data and check bits are written (R537). -/
def State.put (s : State) (a : Nat) (l : List Nat) : State := (s.stBytes a l).clearErr a l.length

/-- The content of key slot `n` (R455, R456): what derivation or a handshake put there, or the key installed in it. -/
def State.slotKey (s : State) (n : Nat) : List Nat :=
  match s.sec.keys.find? fun p => p.1 == n with
  | some p => p.2
  | none => match s.nv.slots.find? fun p => p.1 == n with
    | some p => bytesBE 32 (p.2.1 % 2 ^ 256)
    | none => []

/-! ### Time -/

/-- Bring the device's clock up to the instant a command names; time never runs backwards. -/
def State.at (s : State) (t : Nat) : State := { s with now := max s.now t }

/-- The present time in µs, as the collector counts it (R508). -/
def State.us (s : State) : Nat := s.now / 1000

/-- The commit guard G in ns (R48). -/
def State.guardNs (s : State) : Nat := s.rf R.SYS_COMMIT_GUARD 10 0 * 1000

/-- Apply `f` when `c` holds. -/
def State.when (s : State) (c : Bool) (f : State → State) : State := if c then f s else s

/-- Update the scan-out, link and probe state of tile `t`. -/
def State.setTile (s : State) (t : Fin 4) (f : TileSt → TileSt) : State := { s with tile := s.tile.set t (f s.tile[t]) }

/-- Fold an update over a list. -/
def State.over {α : Type} (s : State) (l : List α) (f : State → α → State) : State := l.foldl f s

end Sys2Proof.Machine
end

