-- ==== Sys2Proof/Machine/Cmd.lean ====
section
/-! DEFINITION. What the meanings of all commands share: the outcome of a step, and the numbers of bytes. -/

namespace Sys2Proof.Machine

/-- The outcome of a command. -/
abbrev Answer := Host.Outcome State Fault Refusal

/-- The numbers of bytes. -/
def nums (l : List Byte) : List Nat := l.map BitVec.toNat

end Sys2Proof.Machine
end

