-- ==== Sys2Proof/Machine/Guard.lean ====
section
/-! DEFINITION. What guards memory, before any fault is raised: the buffer firewall, reserved engines, protected ranges and ECC decide whether an access
goes through, and give what is recorded and the source to raise (R60, R99 to R102, R148, R165, R189, R479, R535 to R542); and the check-value units'
arithmetic (R526 to R529). -/

namespace Sys2Proof.Machine

/-- Note a source to be raised when the present operation ends: for events that come about inside a block reset. -/
def State.defer (s : State) (n : Nat) : State := { s with flt := { s.flt with due := s.flt.due ++ [n] } }

/-- Record the address and initiator of a bus fault (R523): kind 0 ACCESS_VIOLATION, 1 BUS_DECODE_ERR, 2 BUS_OFF_ACCESS. -/
def recordBus (kind : Nat) (i : Init) (a : Nat) (write : Bool) (s : State) : State :=
  (s.wr R.FLT_BUS_ADDR (word a)).wr R.FLT_BUS_INFO (word (bit write * 1024 + kind * 256 + i.code))

/-- The source of a bus fault of kind `k`. -/
def busSrc (k : Nat) : Nat := if k = 0 then Src.ACCESS_VIOLATION else if k = 1 then Src.BUS_DECODE_ERR else Src.BUS_OFF_ACCESS

/-- The boot ROM still runs (R27, R461): step 1 of the start-up sequence is open. -/
def State.booting (s : State) : Bool := s.rf (R.SYS_START_MS 1) 15 0 == 0

/-- SAFE, and the boot ROM during boot, which alone may write the pages of R27. -/
def trusted (i : Init) (s : State) : Bool := i == .safe || (i == .boot && s.booting)

/-! ### The buffer firewall (R99, R102) -/

/-- Bits per texel of a format (R71, R99). -/
def fmtBits (f : Nat) : Nat := if f = 2 ∨ f = 3 then 8 else if f = 4 then 1 else 16

/-- Bytes of one row of an entry (R99). -/
def rowBytes (e : BufEntry) : Nat := (e.w * fmtBits e.fmt + 7) / 8

/-- One past the last byte of an entry's extent (R99). -/
def extentEnd (e : BufEntry) : Nat := e.base + (e.h - 1) * e.stride + rowBytes e

/-- Do the bytes `[a, a + n)` touch the extent of `e`? -/
def touches (e : BufEntry) (a n : Nat) : Bool := decide (a < extentEnd e) && decide (e.base < a + n)

/-- Is the entry protected by the firewall (R102)? -/
def BufState.locked : BufState → Bool
  | .scanning => true | .retiring => true | _ => false

/-- The entry whose firewall blocks a write of `[a, a + n)` (R102): of several, the first in the table (DESIGN CHOICE, log entry 178). -/
def firewall (s : State) (a n : Nat) : Option Nat := (s.cmp.bufs.find? (fun p => p.2.state.locked && touches p.2 a n)).map (·.1)

/-! ### Engines that belong to a program (R189, R296) -/

/-- BEAM engine `b` belongs to the mask program or to the look-back program (R189, R296). -/
def beamReserved (s : State) (b : Nat) : Bool :=
  (s.en P.GLM && s.rb R.GLM_BEAM_SEL b) || (s.en P.LOOK && s.rf R.LOOK_BEAM_SEL 2 0 == b)

/-! ### ECC (R535, R536, R541) -/

/-- The MEM code of NVM_UE_INFO for an address (R560). -/
def memCode (a : Nat) : Nat := match regionOf a with | .ret => 1 | .emram => 2 | _ => 0

/-- Record an uncorrectable error at `a` for the initiator code `ic`, and the source that it raises (R536, R540, R541). -/
def ueNote (ic : Nat) (a : Nat) (s : State) : Nat × State :=
  let (syn, s) := s.fresh
  let s := (s.wr R.NVM_UE_ADDR (word a)).wr R.NVM_UE_INFO (word (memCode a * 2 ^ 24 + ic * 65536 + syn % 256))
  (match regionOf a with | .ret => Src.RET_UE | .emram => Src.NVM_UE | _ => Src.SRAM_UE (bankOf a / 2), s.irq P.NVM 1)

/-- Is eMRAM offset `o` in region `r` (R543)? -/
def inRegion (s : State) (r o : Nat) : Bool :=
  decide ((s.rd (R.NVM_REGION_BASE r)).toNat ≤ o) && decide (o < (s.rd (R.NVM_REGION_BASE r)).toNat + (s.rd (R.NVM_REGION_SIZE r)).toNat)

/-- The controller's own rewrite of eMRAM word `t` may be submitted (R541, R546, R547): its region admits the owner DEVICE, the queue has room, the word is
not part of the open DIRECT transaction, and its rewrite does not wait already. -/
def mayRewrite (s : State) (t : Nat) : Bool :=
  ((List.range 16).any fun r => inRegion s r t && s.rb (R.NVM_REGION_WR r) 8) && decide (s.nvm.queue.length < 16) &&
  !(match s.nvm.direct with
    | some d => decide (d.target < t + 8) && decide (t < d.target + d.data.length)
    | none => false) &&
  !((s.nvm.queue ++ s.nvm.redo.toList).any fun x => x.owner == 8 && x.target == t)

/-- Correct and record a single-bit error in the 64-bit word of `a`, and the source that it raises (R535): the word is written back, except in eMRAM,
whose correction is a one-word REDO transaction of owner DEVICE (R541) and which keeps its error until that applies. -/
def ceNote (ic : Nat) (a : Nat) (s : State) : Nat × State :=
  let (syn, s) := s.fresh
  let s := if regionOf a = .emram then s else { s with ce := s.ce.filter (fun w => w != a / 8) }
  let s := (s.wr R.NVM_CE_ADDR (word a)).wr R.NVM_CE_INFO (word (memCode a * 2 ^ 24 + ic * 65536 + syn % 256))
  let s := s.irq P.NVM 2
  match regionOf a with
  | .ret => (Src.RET_CE, s)
  | .emram =>
    let t := a / 8 * 8 % 0x20000000
    let tx : Tx := ⟨8, false, t, s.ldBytes (a / 8 * 8) 8, none, .none, s.nv.txn, 0⟩
    let s := if mayRewrite s t then { s with nvm := { s.nvm with queue := s.nvm.queue ++ [tx] }, nv := { s.nv with txn := s.nv.txn + 1 } } else s
    (Src.NVM_CE, s.stAdd (R.STAT P.NVM 0) 31 16 1)
  | _ => (Src.SRAM_CE (bankOf a / 2), s.stAdd (R.STAT P.NVM 0) 15 0 1)

/-! ### Writes -/

/-- GLM list slot `k` (R164): its first byte, and whether it is POSTED or IN_USE. -/
def glmSlotBusy (s : State) (k : Nat) : Bool := s.rf R.GLM_SLOT_STATE (2 * k + 1) (2 * k) != 0

/-- The GLM list slot that a write of `[a, a + n)` touches and may not (R165). -/
def glmBlocked (s : State) (a n : Nat) : Option Nat :=
  let b := (s.rd R.GLM_LIST_BASE).toNat
  (List.range 8).find? fun k => glmSlotBusy s k && decide (a < b + 8256 * (k + 1)) && decide (b + 8256 * k < a + n)

/-- Do `[a, a + n)` and `[b, b + m)` meet? -/
def meets (a n b m : Nat) : Bool := decide (a < b + m) && decide (b < a + n)

/-- A partial write over an uncorrectable word is dropped (R537): some byte of a word is written but not all of them. -/
def partialUe (s : State) (a n : Nat) : Option Nat :=
  (s.ue.find? fun w => decide (a < 8 * w + 8) && decide (8 * w < a + n) && !(decide (a ≤ 8 * w) && decide (8 * w + 8 ≤ a + n))).map (8 * ·)

/-- Why a write into memory is dropped. -/
inductive WriteStop where
  | decode        -- no such address (R60)
  | denied        -- boot ROM, eMRAM, flash, the session table, a SAFE-only page (R27, R60, R479, R542, R557)
  | bus           -- a register page or the interrupt controller, which take aligned 32-bit accesses only (R15)
  | off           -- a register page without clock or power, or in reset (R18, R522)
  | engine        -- an engine that belongs to a program (R189, R296)
  | firewall (e : Nat) | list (k : Nat) | rmap | sched | word (w : Nat)
  deriving DecidableEq, Repr

/-- What stops a write of `n` bytes at `a` by initiator `i`, `none` where it goes through (R60, R102, R148, R165, R189, R436, R479, R537, R542, R557).
`part` finds an uncorrectable word of which the write replaces a part only. -/
def writeStop (i : Init) (a n : Nat) (part : Option Nat) (s : State) : Option WriteStop :=
  match regionOf a with
  | .none => some .decode
  | .rom => some .denied
  | .emram => some .denied
  | .xspi => some .denied
  | .plic => some .bus
  | .regs =>
    let p := pageOf a
    if !s.answers p then some .off
    else if (safeOnlyPage p || safeOnlyReg a) && !trusted i s then some .denied else some .bus
  | .beamLocal _ =>
    if 0x08200000 < a + n then some .decode
    else if (List.finRange 8).any fun b => beamReserved s b && i != .beam b && meets a n (0x08000000 + 0x40000 * b.val) 0x40000 then some .engine
    else part.map .word
  | _ =>
    if regionOf (a + (n - 1)) ≠ regionOf a then some .decode else
    match firewall s a n, glmBlocked s a n with
    | some e, _ => some (.firewall e)
    | none, some k => some (.list k)
    | none, none =>
      if s.en P.PHO && meets a n (s.rd R.PHO_RMAP_BASE).toNat 262144 then some .rmap
      else if s.en P.SCHED && meets a n (s.rd R.SCHED_TABLE_BASE).toNat 16384 then some .sched
      else if !i.isSafe && regionOf (s.rd R.NET_SESS_BASE).toNat == .main && meets a n (s.rd R.NET_SESS_BASE).toNat 65536 then some .denied
      else part.map .word

/-- A dropped write at `a`: the bus answer and what is recorded, and the source to raise. R189 names no bus error. -/
def stopNote (i : Init) (a : Nat) (st : WriteStop) (s : State) : Option Nat × State :=
  match st with
  | .decode => (some Src.BUS_DECODE_ERR, recordBus 1 i a true s.busErr)
  | .denied => (some Src.ACCESS_VIOLATION, recordBus 0 i a true s.busErr)
  | .bus => (none, s.busErr)
  | .off => (some Src.BUS_OFF_ACCESS, recordBus 2 i a true s.busOk)
  | .engine => (some Src.ACCESS_VIOLATION, recordBus 0 i a true s.busOk)
  | .firewall e => (some Src.BUF_EARLY_WRITE, (((s.wr R.BUF_FW_ADDR (word a)).wr R.BUF_FW_INFO (word (i.code * 256 + e))).irq P.BUF 1).busErr)
  | .list k => (some Src.GLM_LIST_WRITE, (s.wr R.GLM_LIST_REJ (word (s.tick16 * 65536 + k * 256 + 5))).busErr)
  | .rmap => (some Src.RMAP_WRITE, s.busErr)
  | .sched => (some Src.SCHED_TABLE_WRITE, (s.irq P.SCHED 4).busErr)
  | .word w => let x := ueNote i.code w s; (some x.1, x.2.busErr)

/-- A write of an engine inside an operation: whether it went through, and the state, with what it raises deferred and the last bus answer kept. -/
def guardedPut (i : Init) (a : Nat) (l : List Nat) (part : Option Nat) (s : State) : Option WriteStop × State :=
  match writeStop i a l.length part s with
  | none => (none, s.put a l)
  | some st =>
    let x := stopNote i a st s
    (some st, { (match x.1 with | some n => x.2.defer n | none => x.2) with bus := s.bus })

/-! ### Reads -/

/-- A byte of eMRAM as readers see it (R550): from COMMIT to SEAL a REDO transaction's target reads from its data. -/
def emramByte (s : State) (ofs : Nat) : Nat :=
  match s.nvm.redo with
  | some t => if 2 ≤ t.phase ∧ t.target ≤ ofs ∧ ofs < t.target + t.data.length then nth 0 t.data (ofs - t.target) else s.ldN (0x20000000 + ofs)
  | none => s.ldN (0x20000000 + ofs)

/-- A byte of memory as readers see it. -/
def State.see (s : State) (a : Nat) : Nat :=
  match regionOf a with
  | .emram => emramByte s (a % 0x20000000)
  | _ => s.ldN a

/-- `n` bytes as readers see them. -/
def State.seeBytes (s : State) (a n : Nat) : List Nat := (List.range n).map (fun k => s.see (a + k))

/-- Flash bytes present: 2^XSPI_SIZE.LOG2, or none before the boot ROM has read SFDP (R556, R557). -/
def flashSize (s : State) : Nat := let l := s.rf R.XSPI_SIZE 4 0; if l = 0 then 0 else 2 ^ l

/-- Why a read of memory is answered with an error. -/
inductive ReadStop where
  | decode | denied | bus | word (w : Nat)
  deriving DecidableEq, Repr

/-- The first byte of the first uncorrectable word met by `[a, a + n)`. -/
def firstUe (s : State) (a n : Nat) : Option Nat :=
  (s.ue.filter (fun w => decide (a / 8 ≤ w) && decide (w < (a + n + 7) / 8))).foldl
    (fun m w => match m with | none => some (8 * w) | some x => some (min x (8 * w))) none

/-- What stops a read of `n` bytes at `a` by initiator `i` (R60, R535, R536, R542, R557). -/
def readStop (i : Init) (a n : Nat) (s : State) : Option ReadStop :=
  match regionOf a with
  | .none => some .decode
  | .regs => some .bus
  | .plic => some .bus
  | .xspi => if a % 0x20000000 + n ≤ flashSize s then none else some .bus
  | r =>
    let last := regionOf (a + (n - 1))
    let same := match r, last with | .beamLocal _, .beamLocal _ => true | _, _ => r == last
    if !same then some .decode
    else if r = .emram ∧ (inRegion s 1 (a % 0x20000000) ∨ inRegion s 1 ((a + (n - 1)) % 0x20000000)) ∧ i ≠ .boot then some .denied
    else (firstUe s a n).map .word

/-- The words of `[a, a + n)` that hold a single-bit error. -/
def ceWords (s : State) (a n : Nat) : List Nat := s.ce.filter (fun w => decide (a / 8 ≤ w) && decide (w < (a + n + 7) / 8))

/-- A read of an engine inside an operation: what stopped it, and the state, with single-bit errors corrected and what it raises deferred. -/
def guardedRead (i : Init) (a n : Nat) (s : State) : Option ReadStop × State :=
  match readStop i a n s with
  | none => (none, s.over (ceWords s a n) fun s w => let x := ceNote i.code (8 * w) s; x.2.defer x.1)
  | some .decode => (some .decode, (recordBus 1 i a false s).defer Src.BUS_DECODE_ERR)
  | some .denied => (some .denied, (recordBus 0 i a false s).defer Src.ACCESS_VIOLATION)
  | some .bus => (some .bus, s)
  | some (.word w) => let x := ueNote i.code w s; (some (.word w), x.2.defer x.1)

/-! ### Check values (R526 to R529) -/

/-- The parameters of a CRC (R526): width, polynomial, reflection, initial value, final XOR. -/
structure CrcKind where
  width : Nat
  poly : Nat
  refl : Bool
  init : Nat
  xor : Nat
  deriving DecidableEq, Repr

/-- The CRCs by POLY code (R526). -/
def crcKind : Nat → CrcKind
  | 0 => ⟨32, 0x04C11DB7, true, 0xFFFFFFFF, 0xFFFFFFFF⟩
  | 1 => ⟨32, 0x1EDC6F41, true, 0xFFFFFFFF, 0xFFFFFFFF⟩
  | 2 => ⟨16, 0x1021, false, 0xFFFF, 0⟩
  | _ => ⟨8, 0x2F, false, 0xFF, 0xFF⟩

/-- Shift one bit into the register, most significant bit first. -/
def crcBit (k : CrcKind) (r : Nat) (b : Bool) : Nat :=
  let r' := 2 * r % 2 ^ k.width
  if (r.testBit (k.width - 1)) != b then r' ^^^ k.poly else r'

/-- Shift one byte in: its bits in reflected order where the CRC reflects its input. -/
def crcByte (k : CrcKind) (r x : Nat) : Nat :=
  [0, 1, 2, 3, 4, 5, 6, 7].foldl (fun r i => crcBit k r (x.testBit (if k.refl then i else 7 - i))) r

/-- The low `n` bits of a number in reverse order. -/
def reflect (n x : Nat) : Nat := (List.range n).foldl (fun y i => 2 * y + (if x.testBit i then 1 else 0)) 0

/-- The finished value of a register as it stands (R527): reflected where the CRC reflects its output, then XORed. -/
def crcDone (k : CrcKind) (r : Nat) : Nat := (if k.refl then reflect k.width r else r) ^^^ k.xor

/-- The register after bytes. -/
def crcRun (k : CrcKind) (r : Nat) (l : List Nat) : Nat := l.foldl (crcByte k) r

/-- The CRC of a list of bytes. -/
def crc (poly : Nat) (l : List Nat) : Nat := let k := crcKind poly; crcDone k (crcRun k k.init l)

/-- CRC-32C of bytes. -/
def crc32c (l : List Nat) : Nat := crc 1 l

/-- POLY of context `c` of unit `u`. -/
def ctxKind (u c : Nat) (s : State) : CrcKind := crcKind (s.rf (R.CRC_CTX_CFG u c) 1 0)

/-- Set the shift register of a context, with RESULT showing its finished value (R527). -/
def setRun (u c r : Nat) (s : State) : State :=
  (s.wr (R.CRC_CTX_RUN u c) (word r)).wr (R.CRC_CTX_RESULT u c) (word (crcDone (ctxKind u c s) (r % 2 ^ (ctxKind u c s).width)))

/-- The comparison result of a context (R529, R530): FAIL sets IRQ bit 0 and raises CRC_MISMATCH(u). -/
def crcVerdict (u c : Nat) (pass : Bool) (s : State) : State :=
  let s := s.wf (R.CRC_CTX_STAT u c) 1 0 (if pass then 1 else 2)
  if pass then s else (s.irq (P.CRC u) 0).defer (Src.CRC_MISMATCH u)

/-- The end of a context whose LEN is reached (R529, R533). -/
def ctxEnd (u c : Nat) (s : State) : State :=
  let s := (s.wr (R.CRC_CTX_COUNT u c) 0#32).irq (P.CRC u) 2
  if s.rb (R.CRC_CTX_CFG u c) 4 then crcVerdict u c (s.rd (R.CRC_CTX_RESULT u c) == s.rd (R.CRC_CTX_EXP u c)) s else s

/-- One byte taken by a context (R527, R529). -/
def crcTake (u c : Nat) (s : State) (x : Nat) : State :=
  let s := setRun u c (crcByte (ctxKind u c s) ((s.rd (R.CRC_CTX_RUN u c)).toNat % 2 ^ (ctxKind u c s).width) x) s
  let n := (s.rd (R.CRC_CTX_COUNT u c)).toNat + 1
  let s := s.wr (R.CRC_CTX_COUNT u c) (word n)
  if (s.rd (R.CRC_CTX_LEN u c)).toNat ≠ 0 ∧ n ≥ (s.rd (R.CRC_CTX_LEN u c)).toNat then ctxEnd u c s else s

/-- Bytes taken by a context of an enabled unit (R533), with a mismatch deferred. -/
def crcBytesIn (u c : Nat) (l : List Nat) (s : State) : State :=
  if s.en (P.CRC u) then (s.stAdd (R.STAT (P.CRC u) 0) 31 0 l.length).over l (crcTake u c) else s

end Sys2Proof.Machine
end

