-- ==== Sys2Proof/Machine/Clock.lean ====
section
/-! DEFINITION. Time and geometry as every block reads them: the local counter, network time (R405 to R407), the frame rate and period
(R197, R418), tile sizes and array places (R12, R126), link rates and link times (R191). -/

namespace Sys2Proof.Machine

/-! ### Clocks -/

/-- A crystal's error in ppb at a temperature in S7.8 °C (R391), from its curve of 32 points from -40 °C in steps of 5. -/
def curveAt (p : Nat → Int) (temp : Int) : Int :=
  let x := temp + 40 * 256
  if x ≤ 0 then p 0 else
  let k := (x / 1280).toNat
  if 31 ≤ k then p 31 else p k + rndDiv ((p (k + 1) - p k) * (x % 1280)) 1280

/-- c(T) of the 32.768 kHz crystal. -/
def rtcPpb (s : State) (temp : Int) : Int := curveAt (fun k => sx 16 (s.rf (R.CLK_RTC_CURVE k) 15 0)) temp

/-- The counts of 2 ns that the corrected RTC gives between two instants (R377, R392). -/
def rtcCounts (s : State) (a b : Nat) : Nat := (rndDiv ((Config.rtcAt b - Config.rtcAt a : Nat) * (10 ^ 9 - rtcPpb s s.tim.xoT)) 65536).toNat

/-- The local counter C at time `t` (R405): 2 ns a count since chip reset; in DEEP_SLEEP the RTC extends it (R377). -/
def State.cntAt (s : State) (t : Nat) : Nat :=
  match s.tim.deepAt with
  | some d => s.tim.base + rtcCounts s d t
  | none => s.tim.base + (t - s.tim.c0) / 2

/-- A clock of R406 in units of 2^-16 ns. -/
def clockAt (ofs rate : Int) (ref c : Nat) : Int := (c : Int) * 2 ^ 17 + ofs + (rate * ((c : Int) - ref)) / 2 ^ 23

/-- NT at time `t` (R406). -/
def State.ntAt (s : State) (t : Nat) : Int := clockAt s.tim.ntOfs s.tim.ntRate s.tim.ntRef (s.cntAt t)

/-- TT at time `t` (R406): the network time of every chapter but the PTP path (R407). -/
def State.ttAt (s : State) (t : Nat) : Int := clockAt s.tim.ttOfs s.tim.ttRate s.tim.ttRef (s.cntAt t)

/-- TT in ns at time `t`, 64 bits. -/
def State.ttNs (s : State) (t : Nat) : Nat := (s.ttAt t / 2 ^ 16).toNat % 2 ^ 64

/-- NT in ns at time `t`, 64 bits. -/
def State.ntNs (s : State) (t : Nat) : Nat := (s.ntAt t / 2 ^ 16).toNat % 2 ^ 64

/-- D = NT - TT in ns (R419). -/
def State.dNs (s : State) : Int := (s.ntAt s.now - s.ttAt s.now) / 2 ^ 16

/-! ### Frame rate -/

/-- F of R418 in 0.1 Hz for a value of SCN_TIMING. -/
def rateOf (w : Word) : Nat :=
  let m := bitsOf w 2 0
  if m = 0 then 1200 else if m = 1 then 2400 else if m = 2 then 3600 else if m = 3 then 4800 else max 1 (bitsOf w 28 16)

/-- F of the timing mode in force. -/
def State.rate10 (s : State) : Nat := rateOf (s.rd R.SCN_TIMING)

/-- The frame period P in ns, rounded up. -/
def periodOf (f : Nat) : Nat := cdiv (10 ^ 10) f

/-- The frame period in force. -/
def State.period (s : State) : Nat := periodOf s.rate10

/-! ### Tiles -/

/-- The tile has been enumerated: CELL_SHIFT is not 0 (R126, R158). -/
def State.tileKnown (s : State) (t : Fin 4) : Bool := s.rf (R.WRP_GEOM t) 30 28 != 0

/-- Width of tile `t`. -/
def State.tw (s : State) (t : Fin 4) : Nat := s.rf (R.WRP_GEOM t) 9 0 + 1

/-- Height of tile `t`. -/
def State.th (s : State) (t : Fin 4) : Nat := s.rf (R.WRP_GEOM t) 25 16 + 1

/-- Width and height of tile `t` by its last accepted enumeration record, or 1,024 each while it has not been enumerated since chip reset (R203). -/
def State.tileSize (s : State) (t : Fin 4) : Nat × Nat := s.tile[t].size.getD (1024, 1024)

/-- Width of tile `t` by its enumeration record (R191, R193). -/
def State.lw (s : State) (t : Fin 4) : Nat := (s.tileSize t).1

/-- Height of tile `t` by its enumeration record. -/
def State.lh (s : State) (t : Fin 4) : Nat := (s.tileSize t).2

/-- Tile `t` is driven (SCN_ARR.TILE_EN) and has been enumerated, whatever its pipe knows of it. -/
def State.linkTile (s : State) (t : Fin 4) : Bool := s.rb R.SCN_ARR (8 + t) && s.tile[t].size.isSome

/-- Tile `t` is driven (SCN_ARR.TILE_EN) and its size is known. -/
def State.tileOn (s : State) (t : Fin 4) : Bool := s.rb R.SCN_ARR (8 + t) && s.tileKnown t

/-- Array column of pixel column `u` of tile `t`, where the arrangement joins tiles (R12); its own column otherwise. -/
def State.arrX (s : State) (t u : Nat) : Nat :=
  let a := s.rf R.SCN_ARR 2 0
  if a = 1 ∨ a = 4 then u + 1024 * t else if a = 3 then u + 1024 * (t % 2) else u

/-- Array line of line `v` of tile `t`. -/
def State.arrY (s : State) (t v : Nat) : Nat := if s.rf R.SCN_ARR 2 0 = 3 then v + 1024 * (t / 2) else v

/-! ### Links -/

/-- LSTATE of tile `t` (R241). -/
def State.lstate (s : State) (t : Fin 4) : Nat := s.rf (R.STATUS (P.SPLT t)) 3 0

/-- The link of tile `t` is UP. -/
def State.linkUp (s : State) (t : Fin 4) : Bool := s.lstate t == 6

/-- Lanes of a lane mask. -/
def lanesOf (m : Nat) : Nat := (List.range 4).foldl (fun n i => n + bit (m.testBit i)) 0

/-- Payload rate of a link in units of 10 Mbit/s (R191): lanes × 128, 192 or 256. -/
def payRate (lanes rate : Nat) : Nat := lanes * (if rate = 1 then 192 else if rate = 2 then 256 else 128)

/-- R_pay of tile `t`'s link as trained. STATUS.LANES holds the lanes in use as a mask. -/
def State.rPay (s : State) (t : Fin 4) : Nat := payRate (lanesOf (s.rf (R.STATUS (P.SPLT t)) 7 4)) (s.rf (R.STATUS (P.SPLT t)) 9 8)

/-- T_link + `us` µs exceeds the period of rate `f` (R191, R192): W × H × 12 × 1.08 / R_pay compared exactly. -/
def linkOver (px rpay us f : Nat) : Bool := decide (10 ^ 10 * rpay < (px * 1296 + us * 1000 * rpay) * f)

/-- T_link of tile `t` in ns, rounded up. -/
def State.tLink (s : State) (t : Fin 4) : Nat := cdiv (s.lw t * s.lh t * 1296) (s.rPay t)

/-- The lamp (SYS_MODE.LAMP, R569, R576): 0 dark, 1 composed, 2 fallback replay. -/
def State.lampKind (s : State) : Nat := s.rf R.SYS_MODE 5 4

end Sys2Proof.Machine
end

