-- ==== Sys2Proof/Machine/Plic.lean ====
section
/-! DEFINITION. The interrupt controller (R62 to R64): sources, gateways, priorities, enables, thresholds, claim and completion, in the layout and by
the rules of the RISC-V PLIC specification, which R62 names (log entry 45). Its registers are kept in the register map at their addresses. -/

namespace Sys2Proof.Machine

/-- The page whose interrupt request source `id` carries (R63). -/
def plicPage (id : Nat) : Option Nat :=
  if id = 0 then none
  else if id = 1 then some P.SYS
  else if id ≤ 4 then some (P.PWR + (id - 2))
  else if id ≤ 12 then some (P.FLT0 + (id - 5))
  else if id ≤ 14 then some (P.NVM + (id - 13))
  else if id ≤ 22 then some (0x10 + (id - 15))
  else if id ≤ 24 then some (P.TIME + (id - 23))
  else if id ≤ 27 then some (0x22 + (id - 25))
  else if id = 28 then some P.SWITCH
  else if id = 29 then some P.SCHED
  else if id ≤ 37 then some (0x30 + (id - 30))
  else if id ≤ 39 then some (0x40 + (id - 38))
  else if id = 40 then some P.LOOK
  else if id = 41 then some P.CMP
  else if id ≤ 49 then some (P.LYR (id - 42))
  else if id ≤ 53 then some (P.SCL (id - 50))
  else if id = 54 then some P.FENCE
  else if id = 55 then some P.BUF
  else if id = 56 then some P.WRP
  else if id ≤ 60 then some (P.WRP + 1 + (id - 57))
  else if id = 61 then some P.PHO
  else if id ≤ 65 then some (P.PHO + 1 + (id - 62))
  else if id = 66 then some P.GLM
  else if id = 67 then some P.SCN
  else if id ≤ 71 then some (P.SCNT (id - 68))
  else if id = 72 then some 0x88
  else if id ≤ 76 then some (0x89 + (id - 73))
  else if id = 77 then some P.DRV
  else if id = 78 then some P.PAT
  else if id = 79 then some P.CTL
  else if id ≤ 95 then some (P.CTLK (id - 80))
  else if id = 96 then some P.PWM
  else if id = 97 then some P.ADC
  else if id = 98 then some P.NRG
  else if id = 99 then some P.DALI
  else if id = 100 then some P.HOST
  else if id = 101 then some P.GPIO
  else if id = 102 then some 0xe4
  else if id ≤ 106 then some (0xe5 + (id - 103))
  else if id ≤ 110 then some (0xe0 + (id - 107))
  else none

/-- Source `id` is asserted: its page's request (R21), which is clamped to inactive where the page is off or held (R366). -/
def plicLevel (id : Nat) (s : State) : Bool :=
  match plicPage id with
  | some p => s.irqLine p && s.pageOn p
  | none => false

/-- The pending word of source `id`, the priority of a source, and a context's enables and threshold, by address. -/
def plicPendAddr (w : Nat) : Nat := 0x48001000 + 4 * w
/-- Priority of source `id`. -/
def plicPrioAddr (id : Nat) : Nat := 0x48000000 + 4 * id
/-- Enable word `w` of context `c`. -/
def plicEnAddr (c w : Nat) : Nat := 0x48002000 + 0x80 * c + 4 * w
/-- Threshold of context `c`. -/
def plicThrAddr (c : Nat) : Nat := 0x48200000 + 0x1000 * c
/-- Claim and completion of context `c`. -/
def plicClaimAddr (c : Nat) : Nat := 0x48200004 + 0x1000 * c

/-- Gateways forward the asserted sources that are not claimed: they become pending and stay so until claimed. -/
def plicSample (s : State) : State :=
  s.over ((List.range 128).filter fun id => !s.plicClaimed.contains id && plicLevel id s) fun s id => s.wb (plicPendAddr (id / 32)) (id % 32) true

/-- Source `id` is pending, enabled for context `c`, and has a priority that interrupts. -/
def plicReady (c id : Nat) (s : State) : Bool :=
  s.rb (plicPendAddr (id / 32)) (id % 32) && s.rb (plicEnAddr c (id / 32)) (id % 32) && s.rd (plicPrioAddr id) != 0#32

/-- The source that a claim by context `c` takes: highest priority, lowest ID among equals; 0 for none. -/
def plicBest (c : Nat) (s : State) : Nat :=
  (List.range 128).foldl (fun b id => if plicReady c id s && (b == 0 || decide (s.rd (plicPrioAddr b) < s.rd (plicPrioAddr id))) then id else b) 0

/-- Context `c` is notified: a ready source has a priority above the threshold. -/
def plicNotify (c : Nat) (s : State) : Bool :=
  let s := plicSample s
  (List.range 128).any fun id => plicReady c id s && decide (s.rd (plicThrAddr c) < s.rd (plicPrioAddr id))

/-- What an address of the controller names. -/
inductive PlicReg where
  | prio (id : Nat) | pend (w : Nat) | enable (c w : Nat) | threshold (c : Nat) | claim (c : Nat) | none
  deriving DecidableEq, Repr

/-- The PLIC layout, for 127 sources and 19 contexts (R62). -/
def plicReg (a : Nat) : PlicReg :=
  let o := a % 0x4000000
  if o < 0x1000 then (if o / 4 = 0 ∨ 127 < o / 4 then .none else .prio (o / 4))
  else if o < 0x1010 then .pend ((o - 0x1000) / 4)
  else if o < 0x2000 then .none
  else if o < 0x200000 then
    let c := (o - 0x2000) / 0x80; let w := (o - 0x2000) % 0x80 / 4
    if c < 19 ∧ w < 4 then .enable c w else .none
  else
    let c := o / 0x1000 - 0x200; let r := o % 0x1000
    if 19 ≤ c then .none else if r = 0 then .threshold c else if r = 4 then .claim c else .none

/-- A 32-bit write to the controller. A completion of a source that the context has not enabled is ignored. -/
def plicWrite (a : Nat) (w : Word) (s : State) : State :=
  let s := (plicSample s).busOk
  match plicReg a with
  | .prio _ => s.wr a (w &&& 7#32)
  | .enable _ k => s.wr a (if k = 0 then w &&& ~~~1#32 else w)
  | .threshold _ => s.wr a (w &&& 7#32)
  | .claim c =>
    let id := w.toNat
    if decide (id < 128) && s.rb (plicEnAddr c (id / 32)) (id % 32) then plicSample { s with plicClaimed := s.plicClaimed.filter (· != id) } else s
  | .pend _ => s
  | .none => s

/-- A 32-bit read of the controller. A claim takes the best ready source: it is no longer pending, and claimed until completed. -/
def plicRead (a : Nat) (s : State) : State :=
  let s := plicSample s
  match plicReg a with
  | .claim c =>
    let id := plicBest c s
    let s := if id = 0 then s else { s.wb (plicPendAddr (id / 32)) (id % 32) false with plicClaimed := s.plicClaimed ++ [id] }
    s.busData (word id)
  | .none => s.busData 0#32
  | _ => s.busData (s.rd a)

end Sys2Proof.Machine
end

