-- ==== Sys2Proof/Machine/Reset.lean ====
section
/-! DEFINITION. Ending a commit group, the block reset of R19, R518 and R524, the reset window of R519, and the chip reset of R562. -/

namespace Sys2Proof.Machine

/-! ### Commit results (R40, R46, R47) -/

/-- Write a commit result into COMMIT_STAT of page `p` (R47). -/
def setCommitStat (p result : Nat) (late : Bool) (s : State) : State :=
  s.wr (R.COMMIT_STAT p) (word (s.tick16 * 65536 + bit late * 16 + result))

/-- End the staging of member `p`: STAGED clears, DIRTY is set again where the staged copy was discarded (R40), and its result shows. -/
def endMember (p result : Nat) (late redirty : Bool) (s : State) : State :=
  let s := s.wb (R.COMMIT p) 9 false
  setCommitStat p result late (if redirty then s.wb (R.COMMIT p) 8 true else s)

/-- End group `g` with `result`, member `p` reporting `own p`; REJECTOR takes `rej` (R40, R43, R44, R47, R49). -/
def endGroup (g : Fin 16) (result : Nat) (late : Bool) (rej : Nat) (own : Nat → Nat) (s : State) : State :=
  let ok := result == 1
  let s := s.over s.sys.groups[g].members (fun s p => endMember p (own p) late (!ok) s)
  let v := s.tick16 * 65536 + rej * 256 + bit (s.rb (R.SYS_CG_STAT g) 6) * 64 + bit late * 32 + result
  let s := (s.wr (R.SYS_CG_STAT g) (word v)).wb R.SYS_CG_ARMED g false
  let s := { s with sys := { s.sys with groups := s.sys.groups.set g Group.idle } }
  s.irqIf (!ok || late) P.SYS 2

/-- Cancel group `g` (R43, R44). -/
def cancelGroup (g : Fin 16) (rej : Nat) (s : State) : State := endGroup g 7 false rej (fun _ => 7) s

/-- The commit group of page `p`: COMMIT.GROUP (R38). -/
def groupOf (p : Nat) (s : State) : Fin 16 := ⟨s.rf (R.COMMIT p) 3 0 % 16, Nat.mod_lt _ (by decide)⟩

/-- A block reset of a staged member cancels its group (R43). -/
def cancelByReset (p : Nat) (s : State) : State :=
  if s.rb (R.COMMIT p) 9 then cancelGroup (groupOf p s) p s else s

/-! ### Registers at a block reset (R19) -/

/-- The bits of the register at `a` that keep their value through a block reset: RWL fields, LOCK bits, SEQ_DONE, the timing mode and
rate of SCN_TIMING (R19), SPL_RETRAINS, and the buffer states that
BUF_STATES shows (R524). -/
def resetKeep (a : Nat) : Word :=
  if offOf a = 0x30 then 0xFFFFFFFF#32
  else if pageOf a = P.BUF ∧ 0x200 ≤ offOf a ∧ offOf a < 0x280 then 0xFFFFFFFF#32
  else if a = R.SCN_TIMING then 0x1FFF0007#32
  else if 0x89 ≤ pageOf a ∧ pageOf a ≤ 0x8C ∧ offOf a = 0x11c then 0xFFFFFFFF#32
  else maskOf (fun d => d.rwl ||| d.w1s) a

/-- A register of page `p` after a block reset. -/
def resetReg (p a : Nat) (v : Word) : Word :=
  if isReg a && pageOf a == p then (v &&& resetKeep a) ||| (regDefault a &&& ~~~(resetKeep a)) else v

/-- The registers, shadows and live statistics of page `p` return to their reset values (R19). -/
def resetRegs (p : Nat) (s : State) : State :=
  { s with
    regs := smap regDefault (resetReg p) s.regs
    shadow := smap regDefault (resetReg p) s.shadow
    stat := skeep (fun a => pageOf a != p) s.stat }

/-! ### Consequence lists (R519, R520) -/

/-- The sources of tile `t` that a reset of SCN or SPL tile `t` makes consequential (R520). -/
def conseqTile (t n : Nat) : Bool :=
  (decide (222 + 10 * t ≤ n) && decide (n < 232 + 10 * t)) || n == Src.SCN_RECT_FAIL t || n == Src.SCN_RECT_NOREF t ||
  n == Src.SCN_RECT_UNCHECKED t || n == Src.DRV_SEQ_MISMATCH t || n == Src.DRV_COVERAGE t || n == Src.ENERGY_MISMATCH t

/-- The sources that a reset of a composing page makes consequential for tiles `ts` and layers `ls` (R520). -/
def conseqComp (ts ls : Nat → Bool) (n : Nat) : Bool :=
  (List.range 4).any (fun t => ts t && (n == Src.SCN_UNDERRUN t || n == Src.SCN_RECT_FAIL t || n == Src.SCN_RECT_NOREF t || n == Src.ENERGY_MISMATCH t)) ||
  (List.range 8).any (fun l => ls l && n == Src.FLIP_STALL l)

/-- Loop `j` takes the output of loop `k` (R306, R312, R313): as a measurement source, a reference source or a feed-forward source. -/
def takesLoop (j k : Nat) (s : State) : Bool :=
  (List.range 4).any fun i =>
    (s.rf (R.CTL_LOOP_MSRC j i) 2 0 == 1 && s.rf (R.CTL_LOOP_MSRC j i) 11 8 == k) ||
    (s.rf (R.CTL_LOOP_RSRC j i) 0 0 == 1 && s.rf (R.CTL_LOOP_RSRC j i) 7 4 == k) ||
    (s.rf (R.CTL_LOOP_FF_CFG j i) 1 0 == 2 && s.rf (R.CTL_LOOP_FF_CFG j i) 7 4 == k)

/-- The mask engine runs on an engine of `m` (R189). -/
def glmEngine (m : Nat) (s : State) : Bool := s.en P.GLM && (s.rf R.GLM_BEAM_SEL 7 0 &&& m) != 0

/-- The look-back engine runs on an engine of `m` (R296). -/
def lookEngine (m : Nat) (s : State) : Bool := s.en P.LOOK && m.testBit (s.rf R.LOOK_BEAM_SEL 2 0)

/-- The sources of LOOK. -/
def isLookSrc (n : Nat) : Bool := n == Src.LOOK_OBSCURED || n == Src.LOOK_CRACK || n == Src.LOOK_STRAY || n == Src.LOOK_MISAIM

/-- The built-in consequence lists of R520: is source `n` consequential to a reset of page `p` (a source of the page itself included, R519)? On a
control page `m` names the harts or engines reset. -/
def conseqBuiltin (p m n : Nat) (s : State) : Bool :=
  srcPage n == some p ||
  (if 0x81 ≤ p ∧ p ≤ 0x84 then conseqTile (p - 0x81) n
   else if 0x89 ≤ p ∧ p ≤ 0x8c then conseqTile (p - 0x89) n
   else if 0xa1 ≤ p ∧ p ≤ 0xb0 then
     let k := p - 0xa1
     let kind := s.rf (R.CTL_LOOP_CFG k) 3 1; let tile := s.rf (R.CTL_LOOP_CFG k) 5 4
     (List.range 16).any (fun j => takesLoop j k s && (n == Src.FEEDBACK_IMPLAUSIBLE j || n == Src.FEEDBACK_FROZEN j)) ||
     (kind == 1 && conseqTile tile n) || (kind == 2 && n == Src.PHO_TH_LOST tile)
   else if p = P.CMP then conseqComp (fun _ => true) (fun _ => true) n
   else if 0x51 ≤ p ∧ p ≤ 0x58 then
     conseqComp (fun t => bitOf (s.rd (R.LYR_CFG (p - 0x51))) (16 + t)) (fun l => l == p - 0x51) n
   else if 0x59 ≤ p ∧ p ≤ 0x5c then
     let l := s.rf (R.SCL_CFG (p - 0x59)) 29 27; let af := s.rb (R.SCL_CFG (p - 0x59)) 26
     conseqComp (fun t => af && bitOf (s.rd (R.LYR_CFG l)) (16 + t)) (fun x => af && x == l) n
   else if 0x61 ≤ p ∧ p ≤ 0x64 then
     conseqComp (fun t => t == p - 0x61) (fun l => bitOf (s.rd (R.LYR_CFG l)) (16 + (p - 0x61))) n
   else if 0x69 ≤ p ∧ p ≤ 0x6c then
     conseqComp (fun t => t == p - 0x69) (fun l => bitOf (s.rd (R.LYR_CFG l)) (16 + (p - 0x69))) n
   else if p = P.GLM then n == Src.GLM_BAND_LATE || n == Src.GLM_LIST_LOST
   else if 0x40 ≤ p ∧ p ≤ 0x41 then
     n == Src.VIN_FRAME_ERR (p - 0x40) || n == Src.VIN_OVERFLOW (p - 0x40) || n == Src.VIN_PHY_ERR (p - 0x40) || isLookSrc n
   else if p = 0xe2 then
     ((n == Src.GLM_BAND_LATE || n == Src.GLM_LIST_LOST) && glmEngine m s) || (isLookSrc n && lookEngine m s)
   else if p = 0xe3 then (List.range 3).any (fun i => n == Src.PD_FAIL i) || n == Src.TS_QUEUE_OVF || n == Src.WAORD_ALIVE_GAP
   else if p = 0xe0 then n == Src.ENERGY_PLAN_STALE || n == Src.WAORD_ALIVE_GAP || (List.range 8).any (fun l => n == Src.FLIP_STALL l)
   else false)

/-- How the window of page `p` becomes READY beside its timeout (R520). -/
def readyKind (p m : Nat) (s : State) : Ready :=
  if 0x81 ≤ p ∧ p ≤ 0x84 then .link (p - 0x81)
  else if 0x89 ≤ p ∧ p ≤ 0x8c then .link (p - 0x89)
  else if 0xa1 ≤ p ∧ p ≤ 0xb0 then
    .loop (p - 0xa1) (if s.rf (R.CTL_LOOP_CFG (p - 0xa1)) 3 1 = 1 then some (s.rf (R.CTL_LOOP_CFG (p - 0xa1)) 5 4) else none)
  else if p = P.CMP ∨ (0x51 ≤ p ∧ p ≤ 0x5c) ∨ (0x61 ≤ p ∧ p ≤ 0x64) ∨ (0x69 ≤ p ∧ p ≤ 0x6c) then .lit
  else if p = P.GLM then .band
  else if 0x40 ≤ p ∧ p ≤ 0x41 then .frame (p - 0x40)
  else if p = 0xe2 then (if glmEngine m s then .band else if lookEngine m s then .image else .none)
  else if p = 0xe0 ∨ p = 0xe3 then .harts p m
  else .none

/-! ### Reset windows (R519) -/

/-- Open the reset window of page `p` (R519), for harts or engines `m` on a control page: `s0` is the state at the reset, whose configuration the
consequence lists follow (R520); it times out FLT_CFG.CONSQ_TMO_MS later. -/
def openWin (p m : Nat) (s0 s : State) : State :=
  let w : ResetWin := ⟨p, s.now + max 10 (s.rf R.FLT_CFG 31 16) * 1000000, (List.range 352).filter (fun n => conseqBuiltin p m n s0), readyKind p m s0⟩
  { s with flt := { s.flt with wins := s.flt.wins.filter (fun x => x.page != p) ++ [w] } }

/-- The windows whose way to become READY satisfies `f` end (R519, R520). -/
def closeWins (f : Ready → Bool) (s : State) : State :=
  { s with flt := { s.flt with wins := s.flt.wins.filter (fun x => !f x.ready) } }

/-- A link is UP. -/
def upNow (s : State) (t : Nat) : Bool := s.rf (R.STATUS (P.SPLT t)) 3 0 == 6

/-- A window whose READY is a state of the device is READY now (R520). -/
def readyNow (s : State) : Ready → Bool
  | .link t => upNow s t
  | .loop k tile => s.rf (R.STATUS (P.CTLK k)) 1 0 == 1 && (match tile with | some t => upNow s t | none => true)
  | .harts p m => s.rf (R.base p + 0x108) 7 0 &&& m == m
  | _ => false

/-- Windows whose blocks have become READY end. -/
def readyWins (s : State) : State := closeWins (readyNow s) s

end Sys2Proof.Machine
end

