-- ==== Sys2Proof/Machine/Ring.lean ====
section
/-! DEFINITION. The data mover's rings (R52 to R58, R530): descriptors, the transfer of their bytes, completion records, and an abort. What a transfer
raises is deferred, so that a block reset can abort a channel. -/

namespace Sys2Proof.Machine

/-- The data-mover channel of a DMV channel page. -/
def dmvChan (p : Nat) : Option (Fin 4) := if h : 0xe5 ≤ p ∧ p ≤ 0xe8 then some ⟨p - 0xe5, by omega⟩ else none

/-- Descriptors posted and not completed. -/
def inflight (c : Nat) (s : State) : Nat := s.rf (R.DMV_RING_STATE c) 22 16

/-- A descriptor as read from the ring (R53). -/
structure Desc where
  seq : Nat
  op : Nat
  irq : Bool
  fenceSig : Bool
  fence : Nat
  len : Nat
  src : Nat
  dst : Nat
  lines : Nat
  sStride : Nat
  dStride : Nat
  unit : Nat
  ctx : Nat
  crcEn : Bool
  recAddr : Nat
  deriving DecidableEq, Repr

/-- A descriptor of which nothing is known. -/
def Desc.none : Desc := ⟨0, 0, false, false, 0, 0, 0, 0, 1, 0, 0, 0, 0, false, 0⟩

/-- The descriptor at address `d` (R53). -/
def readDesc (s : State) (d : Nat) : Desc :=
  let w0 := s.ldLE d 4; let w5 := s.ldLE (d + 20) 4; let w6 := s.ldLE (d + 24) 4
  ⟨w0 % 65536, w0 / 65536 % 16, w0.testBit 20, w0.testBit 21, w0 / 2 ^ 22 % 64, s.ldLE (d + 4) 4, s.ldLE (d + 8) 4, s.ldLE (d + 12) 4,
    (if w0 / 65536 % 16 = 2 then max 1 (s.ldLE (d + 16) 2) else 1), w5 % 65536, w5 / 65536, w6 % 8, w6 / 8 % 32, w6.testBit 8, s.ldLE (d + 28) 4⟩

/-- Address of the next descriptor of channel `c`. -/
def descAddr (c : Fin 4) (s : State) : Nat := (s.rd (R.DMV_RING_BASE c)).toNat + 32 * s.rf (R.DMV_RING_STATE c) 5 0

/-- The ring entry lies in main or retention SRAM, where descriptors are (R53). -/
def descPlaced (d : Nat) : Bool := (regionOf d == .main && regionOf (d + 31) == .main) || (regionOf d == .ret && regionOf (d + 31) == .ret)

/-- The transfer of a descriptor by offset (R55): source and destination of byte `k`, line by line for COPY2D. -/
def dmvAddr (base stride len k : Nat) : Nat := base + k / len * stride + k % len

/-- CRC bytes of a POLY: 4, 4, 2 or 1 (R530). -/
def crcBytes (poly : Nat) : Nat := if poly ≤ 1 then 4 else if poly = 2 then 2 else 1

/-- MODE of the descriptor's context: 0 COMPUTE, 1 APPEND, 2 CHECK_STRIP (R530, R533). -/
def descMode (d : Desc) (s : State) : Nat := if d.crcEn then (let m := s.rf (R.CRC_CTX_CFG d.unit d.ctx) 3 2; if m = 3 then 0 else m) else 0

/-- A descriptor that completes with INVALID: an unknown OP, no length, no record, or a CRC use that R530 and R533 do not allow. -/
def descInvalid (d : Desc) (s : State) : Bool :=
  decide (2 < d.op) || d.len == 0 || d.recAddr == 0 || d.recAddr % 16 != 0 ||
  (d.crcEn && (!s.en (P.CRC d.unit) || s.rf (R.CRC_SNOOP d.unit) 2 0 != 7 || (descMode d s != 0 && d.op != 0)))

/-- The descriptor's SEQ does not follow the channel's last one (R56). -/
def seqBad (c : Fin 4) (d : Desc) (s : State) : Bool :=
  match s.dmvLast[c] with
  | none => false
  | some x => !isNext 16 x d.seq

/-- Bytes of the source that the transfer of a descriptor moves: CHECK_STRIP leaves the check value at its end (R530). -/
def moveLen (d : Desc) (s : State) : Nat :=
  if descMode d s = 2 then d.len * d.lines - crcBytes (s.rf (R.CRC_CTX_CFG d.unit d.ctx) 1 0) else d.len * d.lines

/-- Source and destination address of byte `k`. -/
def Desc.srcAt (d : Desc) (k : Nat) : Nat := dmvAddr d.src d.sStride d.len k

/-- Destination address of byte `k`. -/
def Desc.dstAt (d : Desc) (k : Nat) : Nat := dmvAddr d.dst d.dStride d.len k

/-- The byte that offset `k` carries: the FILL pattern, which is word 3 (R53), little-endian from the destination's first byte on (DESIGN CHOICE, log
entry 132), or the source byte. -/
def descByte (d : Desc) (k : Nat) (s : State) : Nat := if d.op = 1 then d.dst / 256 ^ (k % 4) % 256 else s.see (d.srcAt k)

/-- An uncorrectable word at the destination of byte `k` of which the line's bytes replace a part only (R537). -/
def linePart (d : Desc) (k : Nat) (s : State) : Option Nat :=
  let da := d.dstAt k; let w := da / 8 * 8; let first := da - k % d.len
  if s.isUe da && !(decide (first ≤ w) && decide (w + 8 ≤ first + d.len)) then some w else none

/-- One byte of a transfer: the status that stops it (R54: 1 SRC_ERR, 2 DST_ERR, 3 FIREWALL; 0 for none), and the state. The last byte of a whole word
of a line clears the word's errors (R537). -/
def moveByte (c : Fin 4) (d : Desc) (k : Nat) (s : State) : Nat × State :=
  let r := if d.op = 1 then (none, s) else guardedRead (.dmv c) (d.srcAt k) 1 s
  if r.1.isSome then (1, r.2) else
  let s := r.2
  let s := if d.op ≠ 1 ∧ regionOf (d.srcAt k) = .xspi then s.stAdd (R.STAT P.XSPI 0) 31 0 1 else s
  let da := d.dstAt k
  match guardedPut (.dmv c) da [descByte d k s] (linePart d k s) s with
  | (some (.firewall _), s) => (3, s)
  | (some _, s) => (2, s)
  | (none, s) => (0, if da % 8 = 7 ∧ 7 ≤ k % d.len then s.clearErr (da - 7) 8 else s)

/-- Transfer bytes from offset `k` on while nothing stops them; `n` bytes remain. Answers the offset reached and the status. -/
def transfer (c : Fin 4) (d : Desc) : Nat → Nat → State → Nat × Nat × State
  | 0, k, s => (k, 0, s)
  | n + 1, k, s =>
    let m := moveByte c d k s
    if m.1 ≠ 0 then (k, m.1, m.2)
    else transfer c d n (k + 1) (if d.crcEn then crcBytesIn d.unit d.ctx [descByte d k s] m.2 else m.2)

/-- Bytes issued and not acknowledged, `n` of them from offset `k`: each may or may not have reached the destination (R55), as a free value says. -/
def looseBytes (c : Fin 4) (d : Desc) : Nat → Nat → State → State
  | 0, _, s => s
  | n + 1, k, s =>
    let (v, s) := s.fresh
    looseBytes c d n (k + 1) (if v % 2 = 1 then (moveByte c d k s).2 else s)

/-- The completion record of R54 at `rec`, written as every write of the channel is: what stops it. -/
def putRecord (c : Fin 4) (rec seq status moved verified : Nat) (s : State) : Option WriteStop × State :=
  guardedPut (.dmv c) rec (bytesLE 4 (seq + status * 65536) ++ bytesLE 4 moved ++ bytesLE 4 verified ++ bytesLE 4 (s.tickNum % 2 ^ 32)) none s

/-- A descriptor names a place for its record. -/
def Desc.hasRec (d : Desc) : Bool := d.recAddr != 0 && d.recAddr % 16 == 0

/-- Channel `c` executes a descriptor: it is enabled, not halted, and something is posted. -/
def dmvActive (c : Fin 4) (s : State) : Bool := s.en (P.DMVC c) && !s.rb (R.STATUS (P.DMVC c)) 1 && inflight c s != 0

/-- The active descriptor of channel `c` ends ABORTED (R57), with `moved` bytes issued and `verified` acknowledged as the environment gives them, within
what R55 and the descriptor allow. A descriptor that could not start has moved nothing. -/
def abortDesc (c : Fin 4) (moved verified : Nat) (s : State) : State :=
  let da := descAddr c s
  if !descPlaced da || s.anyUe da 32 then s else
  let d := readDesc s da
  let n := if seqBad c d s || descInvalid d s then 0 else moveLen d s
  let o := transfer c d (min verified (min moved n)) 0 s
  let m := max o.1 (min moved n)
  let s := looseBytes c d (if o.2.1 = 0 then m - o.1 else 0) o.1 o.2.2
  if d.hasRec then (putRecord c d.recAddr d.seq 4 (if o.2.1 = 0 then m else o.1) o.1 s).2 else s

/-- A block reset or an abort of channel `c` (R57): the active descriptor's record is written, posted descriptors are discarded, and the channel's
registers return to their reset values but for SEQ_DONE (R19, R58). -/
def dmvAbort (c : Fin 4) (moved verified : Nat) (s : State) : State :=
  let s := if dmvActive c s then abortDesc c moved verified s else s
  resetRegs (P.DMVC c) { s with dmvLast := s.dmvLast.set c none }

/-- How far the active descriptor of a channel had got when a block reset reaches it: the spec fixes only the bounds (R55, R57), so both
numbers are free values. -/
def dmvReset (c : Fin 4) (s : State) : State :=
  let (m, s) := s.fresh
  let (v, s) := s.fresh
  dmvAbort c m v s

end Sys2Proof.Machine
end

