-- ==== Sys2Proof/Machine/BlockReset.lean ====
section
/-! DEFINITION. What each block loses of the state outside its registers at a block reset (R524), the block reset itself (R19, R43, R518),
resets of harts and of control loops (R518), and the chip reset (R562). -/

namespace Sys2Proof.Machine

/-- Copy `n` bytes of memory, byte by byte in rising order. -/
def copyBytes (src dst : Nat) (n : Nat) (s : State) : State := s.put dst (s.ldBytes src n)

/-! ### Buffers and layers (R99, R100, R107, R110) -/

/-- Entry `i` of the buffer table. -/
def State.buf (s : State) (i : Nat) : BufEntry := sget BufEntry.empty i s.cmp.bufs

/-- Set entry `i` of the buffer table. -/
def State.setBuf (s : State) (i : Nat) (e : BufEntry) : State :=
  { s with cmp := { s.cmp with bufs := sset BufEntry.empty i e s.cmp.bufs } }

/-- STATE code of R120. -/
def BufState.code : BufState → Nat
  | .free => 0 | .swOwned => 1 | .queued => 2 | .scanning => 3 | .retiring => 4

/-- Entry `i` takes state `st`; the tick of the change is kept, and BUF_STATES shows it (R99, R120). -/
def setBufState (i : Nat) (st : BufState) (s : State) : State :=
  let s := s.setBuf i { s.buf i with state := st, tick := s.tick16 }
  s.wf (R.BUF_STATES (i / 8)) (4 * (i % 8) + 2) (4 * (i % 8)) st.code

/-- Set layer `n`. -/
def setLyr (n : Fin 8) (f : LyrSt → LyrSt) (s : State) : State :=
  { s with cmp := { s.cmp with lyr := s.cmp.lyr.set n (f s.cmp.lyr[n]) } }

/-- Layer `n` leaves every armed flip group; an arm whose last member leaves ends (R107). -/
def leaveArms (n : Nat) (s : State) : State :=
  s.over (List.finRange 8) fun s g =>
    if (s.cmp.arms[g]).contains n then
      let l := (s.cmp.arms[g]).filter (· != n)
      let s := { s with cmp := { s.cmp with arms := s.cmp.arms.set g l } }
      if l.isEmpty then s.wb R.CMP_FLIPGRP_STAT g false else s
    else s

/-- The pending request of layer `n` ends without acceptance: its entry returns to SW_OWNED (R100, R110). -/
def dropPending (n : Fin 8) (s : State) : State :=
  match s.cmp.lyr[n].pend with
  | none => s
  | some r =>
    let s := if r.release then s else setBufState r.buf .swOwned s
    let s := setLyr n (fun l => { l with pend := none }) s
    let a := R.LYR_FLIP_STAT n
    leaveArms n (((s.wb a 16 false).wf a 15 8 0).wf a 27 20 0)

/-- The retire event of entry `i` (R101). -/
def retireEvent (i : Nat) (s : State) : State :=
  ((setBufState i .swOwned s).event (R.BUF_RETIRED (i / 32)) (i % 32)).irq P.BUF 0

/-- Does a running pass read entry `i` (R96)? -/
def passReads (s : State) (i : Nat) : Bool :=
  s.cmp.scl.toList.any fun o => match o with
    | some p => p.src == i
    | none => false

/-- Entry `i` enters RETIRING, with its retire event due at tick `due` (R101). -/
def startRetire (i due : Nat) (s : State) : State :=
  let s := setBufState i .retiring s
  { s with cmp := { s.cmp with retire := s.cmp.retire ++ [(i, due)] } }

/-- Every retire event that is due and whose entry no pass reads takes place (R96, R101). -/
def settleRetires (s : State) : State :=
  let ready := fun (p : Nat × Nat) => decide (p.2 ≤ s.tickNum) && !passReads s p.1
  let ev := s.cmp.retire.filter ready
  let s := { s with cmp := { s.cmp with retire := s.cmp.retire.filter (fun p => !ready p) } }
  s.over ev (fun s p => retireEvent p.1 s)

/-- A pass releases its source (R95, R96): where it moved it, the entry passes through RETIRING; its retire event waits for the last pass that reads it. -/
def sclRelease (p : SclPass) (s : State) : State :=
  settleRetires (if p.moved then startRetire p.src s.tickNum s else s)

/-- A block reset of pre-scaler `k` ends its pass (R524); the source that the pass moved is released as at the end of a pass (log entry 141). -/
def sclLost (k : Fin 4) (s : State) : State :=
  match s.cmp.scl[k] with
  | none => s
  | some p => sclRelease p { s with cmp := { s.cmp with scl := s.cmp.scl.set k none } }

/-- Update loop slot `k`. -/
def State.setSlot (s : State) (k : Fin 16) (f : LoopSt → LoopSt) : State := { s with ctl := { s.ctl with loop := s.ctl.loop.set k (f s.ctl.loop[k]) } }

/-- The outputs that take command of loop `k` go to their idle level at once (R332). -/
def pwmIdle (k : Fin 16) (s : State) : State :=
  s.over (List.finRange 16) fun s o =>
    if s.rb (R.PWM_CFG o) 10 && s.rf (R.PWM_CFG o) 7 4 == k.val then
      ({ s with ctl := { s.ctl with pwm := s.ctl.pwm.set o ⟨false, 0, 0, 0, 0, s.ctl.pwm[o].at_, s.ctl.pwm[o].driven⟩ } }).wb (R.STATUS P.PWM) o false
    else s

/-- Set the state and hold cause of loop `k` in its STATUS and in the common page's STATUS (R335, R336). -/
def setLoop (k : Fin 16) (st cause : Nat) (s : State) : State :=
  let s := (s.wf (R.STATUS (P.CTLK k)) 1 0 st).wf (R.STATUS (P.CTLK k)) 4 2 cause
  let s := (s.wb (R.STATUS P.CTL) k (st == 1)).wb (R.STATUS P.CTL) (16 + k) (st == 2)
  let s := if st = 1 then s else s.setSlot k fun x => { x with whole := false }
  if st = 0 then pwmIdle k (s.wb (R.CTL_LOOP_EST k) 16 false) else s.wb (R.CTL_LOOP_EST k) 16 (st == 1)

/-- An injection ends with RESULT `r` (R327): 1 DONE, 2 STOPPED, 3 MODE, 4 HOLD. -/
def injEnd (k : Fin 16) (r : Nat) (s : State) : State :=
  if s.rb (R.CTL_LOOP_INJ_STAT k) 0 || s.ctl.loop[k].injWait then
    let s := (s.wr (R.CTL_LOOP_INJ_STAT k) (word (2 * r))).wb (R.STATUS (P.CTLK k)) 5 false
    (s.setSlot k fun x => { x with inj := InjSt.reset, injWait := false }).irq (P.CTLK k) 3
  else s

/-- The capture of loop `k` stops (R329). -/
def capStop (k : Fin 16) (s : State) : State :=
  let s := (s.wb (R.CTL_LOOP_CAP_WR k) 25 true).wb (R.STATUS (P.CTLK k)) 6 false
  (s.setSlot k fun x => { x with armed := false, trig := false }).irq (P.CTLK k) 4

/-- A trigger of the kind `trig` reaches the capture (R329): 0 SW, 1 INJ_START, 2 HOLD, 3 TICK. -/
def capTrigger (k : Fin 16) (trig : Nat) (s : State) : State :=
  let x := s.ctl.loop[k]; let a := R.CTL_LOOP_CAP_CFG k
  if !x.armed || x.trig || s.rf a 27 25 != trig then s
  else if s.rb a 24 then
    let n := min (s.rf (R.CTL_LOOP_CAP_POST k) 16 0) (s.rf (R.CTL_LOOP_CAP_LEN k) 16 0)
    let s := s.setSlot k fun x => { x with trig := true, left := n }
    if n = 0 then capStop k s else s
  else s.setSlot k fun x => { x with trig := true, left := max 1 (s.rf (R.CTL_LOOP_CAP_LEN k) 16 0), skip := 0 }

/-- A loop in RUN enters HOLD (R314, R321, R322, R325, R327, R329): IRQ bit 0. -/
def loopHold (k : Fin 16) (cause : Nat) (s : State) : State :=
  if s.rf (R.STATUS (P.CTLK k)) 1 0 = 1 then
    let s := (setLoop k 2 cause s).irq (P.CTLK k) 0
    capTrigger k 2 (injEnd k 4 (s.setSlot k fun x => { x with notch := Vector.replicate 8 0, resume := false }))
  else s

/-- The loop of a CTL loop page. -/
def loopOf (p : Nat) : Option (Fin 16) := if h : 0xa1 ≤ p ∧ p ≤ 0xb0 then some ⟨p - 0xa1, by omega⟩ else none

/-! ### One-time-programmable memory and what eMRAM gives registers (R449, R453, R543) -/

/-- Word `w` of OTP. -/
def NvSt.otpWord (v : NvSt) (w : Nat) : Word := sget 0#32 w v.otp

/-- Bits `lo` to `lo + n - 1` of OTP (R453). -/
def NvSt.otpBits (v : NvSt) (lo n : Nat) : Nat :=
  (List.range n).foldl (fun x k => x + 2 ^ k * bit (bitOf (v.otpWord ((lo + k) / 32)) ((lo + k) % 32))) 0

/-- Bytes of OTP from bit `lo`. -/
def NvSt.otpBytes (v : NvSt) (lo n : Nat) : List Nat := (List.range n).map fun k => v.otpBits (lo + 8 * k) 8

/-- How many of the bits are 1: the level of a thermometer code (R453). -/
def NvSt.otpCount (v : NvSt) (lo n : Nat) : Nat := (List.range n).foldl (fun x k => x + v.otpBits (lo + k) 1) 0

/-- The lifecycle (R453): the last of FACTORY, DEPLOYED and RETIRED whose group has at least 5 bits, or BLANK. -/
def NvSt.lifecycle (v : NvSt) : Nat :=
  if 5 ≤ v.otpCount 912 8 then 3 else if 5 ≤ v.otpCount 904 8 then 2 else if 5 ≤ v.otpCount 896 8 then 1 else 0

/-- The UID: 16 bytes (R449). -/
def NvSt.uid (v : NvSt) : List Nat := v.otpBytes 0 16

/-- Write 32-bit words to consecutive registers from `a`. -/
def State.wrWords (s : State) (a : Nat) : List Nat → State
  | [] => s
  | w :: t => (s.wr a (word w)).wrWords (a + 4) t

/-- The little-endian 32-bit words of bytes. -/
def wordsOf (l : List Nat) : List Nat := (List.range (cdiv l.length 4)).map fun k => ofLE ((l.drop (4 * k)).take 4)

/-- Registers that load from OTP (R495, R498, R502). -/
def otpShow (s : State) : State :=
  let v := s.nv
  let s := s.over v.otp fun s p => s.wr (R.SEC_OTP p.1) p.2
  let s := (s.wrWords (R.SEC_UID 0) (wordsOf v.uid)).wr R.SEC_LIFECYCLE (word v.lifecycle)
  s.wr R.SEC_ROLLBACK (word (v.otpCount 1248 128 * 2 ^ 24 + v.otpCount 928 64 * 65536 + v.otpCount 992 256))

/-- First 32 bytes of the hash of role `r`'s key block (R497): the maker's from OTP. -/
def NvSt.root (v : NvSt) (r : Nat) : List Nat :=
  if r = 0 then v.otpBytes 512 32 else match v.roots.find? fun p => p.1 == r with
    | some p => p.2.take 32
    | none => []

/-- Registers that load from the CONFIG bits of OTP (R394, R445, R446, R453): the MAC address, the ports' latencies and the PMIC's voltage codes, by a layout that
the spec leaves open; a blank CONFIG leaves their reset values (log entry 184). -/
def otpLoad (s : State) : State :=
  let c := s.nv.otpBits 1472 1024
  if c = 0 then s
  else s.over ([R.NET_MAC_LO, R.NET_MAC_HI, R.PORT_LAT 0, R.PORT_LAT 1, R.PORT_LAT 2] ++ (List.range 4).map R.PWR_VCODE) fun s a =>
    s.wr a (word (Config.fromOtp a c) &&& maskOf RegDef.rwl a)

/-- Registers that load from eMRAM (R497, R499); the audit log goes on behind the records that wait in retention SRAM (R486). -/
def nvShow (s : State) : State :=
  let v := s.nv
  let s := { s with sec := { s.sec with floorHi := Vector.ofFn fun r => word (sget 0 r.val v.floors / 2 ^ 32) } }
  let s := s.over [0, 1, 2] fun s r =>
    ((s.wr (R.SEC_FLOOR_LO r) (word (sget 0 r v.floors))).wr (R.SEC_FLOOR_HI r) (word (sget 0 r v.floors / 2 ^ 32))).wrWords (R.SEC_ROOT_HASH r 0) (wordsOf (v.root r))
  let s := (s.wr R.SEC_TIME_FLOOR_LO (word v.timeFloor)).wr R.SEC_TIME_FLOOR_HI (word (v.timeFloor / 2 ^ 32))
  let last := match s.sec.audit.getLast? with
    | some r => (r.seq + 1, r.hash)
    | none => (v.auditNext, v.auditHead)
  let s := s.wf R.SEC_AUDIT_STAT 24 16 s.sec.audit.length
  ((s.wr R.SEC_AUDIT_SEQ (word last.1)).wr R.SEC_AUDIT_ACKED (word v.acked)).wrWords (R.SEC_AUDIT_HEAD 0) (wordsOf last.2)

/-- An index into `n` from a page offset. -/
def pageIdx (p first n : Nat) : Option (Fin n) := if h : first ≤ p ∧ p - first < n then some ⟨p - first, h.2⟩ else none

/-! ### Links (R226, R237, R246) -/

/-- Page of tile `t`'s link. -/
abbrev spl (t : Fin 4) : Nat := P.SPLT t

/-- Set LSTATE: 0 OFF, 1 RESET, 2 WAIT_TILE, 3 TRAIN_BASE, 4 TRAIN_RATE, 5 ENUM, 6 UP, 7 RETRAIN, 8 FAILED (R241). -/
def setLstate (t : Fin 4) (l : Nat) (s : State) : State := s.wf (R.STATUS (spl t)) 3 0 l

/-- CTRL traffic is discarded when the link leaves UP or EN is cleared (R226): a software command reads FAIL. -/
def dropCtrl (t : Fin 4) (s : State) : State :=
  let a := R.SPL_CTRL_STAT t
  let s := if s.rf a 1 0 = 1 then s.wf a 1 0 3 else s
  s.setTile t fun x => { x with queue := [], outst := none }

/-- The link is no longer UP (R226, R246, R251). -/
def leaveUp (t : Fin 4) (s : State) : State :=
  let s := dropCtrl t { s with nrg := { s.nrg with up := s.nrg.up - (if s.nrg.up.testBit t then 2 ^ t.val else 0) } }
  let s := (s.wb (R.STATUS P.DRV) t false).wb (R.STATUS P.DRV) (4 + t) false
  (s.wf (R.STATUS (P.SCNT t)) 2 0 0).setTile t fun x =>
    { x with sending := false, seqDue := false, seqSwitch := false, seqRead := false, seqFails := 0, seqBad := false, noFstat := 0, rxAny := false, ts := [] }

/-- Tile `t` after a block reset of either of its pages (R19, R226, R246, R524): the link leaves UP, with its CTRL commands, and is OFF, and the ring
offsets are lost; TILE_RESET_N stays as it is. -/
def tileLost (t : Fin 4) (s : State) : State :=
  let s := (setLstate t 0 (leaveUp t s)).setTile t fun x => { x with ctrls := 0, cap := 4, rates := 7, due := 0, restart := 0 }
  (s.wr R.SPL_RING_WR 0#32).wr R.SPL_RING_RD 0#32

/-- Layer `n` after a block reset of its page (R103, R524): its request is dropped, its buffers are released at the next tick. -/
def layerLost (n : Fin 8) (s : State) : State :=
  let s := dropPending n s
  let a := R.LYR_FLIP_STAT n
  let cur := if s.rb a 17 then [s.rf a 7 0] else []
  let acc := match s.cmp.lyr[n].acc with
    | some (some e) => [e]
    | _ => []
  setLyr n (fun l => { l with after := none, acc := none, drop := l.drop ++ cur ++ acc }) s

/-- The mask engine after a block reset (R185, R524): its program stops, and masks stay applied where GLARE_EN was 1. -/
def glmLost (s : State) : State :=
  { s with glm := { s.glm with posts := [], armed := false, pool := none, held := s.glm.held || s.rb R.GLM_CFG 0 } }

/-! ### Look-back (R288, R295) -/

/-- Update the look-back state. -/
def State.setLook (s : State) (f : LookSt → LookSt) : State := { s with look := f s.look }

/-- An image that is not evaluated, or a result (R288, R295): 1 NO_REF, 2 FORMAT, 3 VIN_ERR, 4 MODEL_BAD. -/
def lookResult (det res : Nat) (s : State) : State :=
  let s := (s.wr R.LOOK_RES (word (s.tick16 * 65536 + det * 256 + res))).wb (R.STATUS P.LOOK) 1 false
  let s := (s.setLook fun l => { l with img := [] }).irq P.LOOK 0
  s.irqIf (res != 0) P.LOOK 2

/-- A block reset of receiver `i` (R288, R524): its open frames are errored, LOOK's image with them. -/
def vinLost (i : Fin 2) (s : State) : State :=
  let open_ := [0, 1, 2, 3].filterMap fun k => s.vin.frames.toList.getD (4 * i.val + k) none
  let fs := (s.vin.frames.set (4 * i.val) none).set (4 * i.val + 1) none
  let s := { s with vin := { s.vin with frames := (fs.set (4 * i.val + 2) none).set (4 * i.val + 3) none } }
  if s.en P.LOOK && open_.any (·.look) then lookResult 0 3 s else s

/-- What block `p` loses of its internal state (R524); what R524 does not name is kept (R19), but what a register shows returns to its reset value with
it: the ledger's accumulators and runs, and DALI_D4I_ENERGY. -/
def resetInner (p : Nat) (s : State) : State :=
  match dmvChan p with
  | some c => dmvReset c s
  | none =>
  if p = 0xe4 then s.over (List.finRange 4) fun s c => dmvReset c s else
  match pageIdx p 0x81 4, pageIdx p 0x89 4 with
  | some t, _ => tileLost t s
  | _, some t => tileLost t s
  | none, none =>
  match pageIdx p 0x51 8, pageIdx p 0x59 4, pageIdx p 0x40 2, loopOf p with
  | some n, _, _, _ => layerLost n s
  | _, some k, _, _ => sclLost k s
  | _, _, some i, _ => vinLost i s
  | _, _, _, some k => (setLoop k 0 0 s).setSlot k fun _ => LoopSt.reset
  | _, _, _, none =>
    if p = P.NRG then { s with nrg := { s.nrg with hour := 0, night := 0, total := 0, lastHour := 0, lastNight := 0, run := Vector.replicate 4 0, len := 0 } }
    else if p = 0x22 ∨ p = 0x23 then s.irqIf (s.rf (R.PORT_MRP_STAT (p - 0x22)) 1 0 != 0) P.SWITCH 2
    else if p = P.DALI then { s with dali := { s.dali with shown := 0 } }
    else if p = P.CMP then { s with cmp := { s.cmp with arms := Vector.replicate 8 [] } }
    else if p = P.PHO then { s with pho := { s.pho with edits := [], retry := [] } }
    else if p = P.GLM then glmLost s
    else if p = P.PAT then { s with pat := PatSt.reset }
    else if p = P.CTL then s.over (List.finRange 16) fun s k => if s.rf (R.STATUS (P.CTLK k)) 1 0 = 0 then s else setLoop k 0 0 (injEnd k 2 s)
    else if p = P.DRV then { s with sync := { s.sync with defFull := false } }
    else if p = P.SCN then s.over (List.finRange 4) fun s t => (s.setTile t fun x => { x with sending := false }).wb (R.STATUS (P.SCNT t)) 0 false
    else s

/-- A block reset of page `p` (R19, R43, R57, R518, R519, R524). -/
def blockReset (p : Nat) (s : State) : State :=
  let s := plicSample s
  let t := resetRegs p (resetInner p (cancelByReset p s))
  let t := if 0x10 ≤ p ∧ p ≤ 0x17 then otpShow (nvShow t) else t
  let l := t.flt.inRst.filter (fun x => x.1 != p && decide (s.now < x.2)) ++ [(p, s.now + Config.resetTime p)]
  openWin p 0xFF s { t with flt := { t.flt with inRst := l } }

/-- Reset harts `m` of the cluster at control page `p`: a hart restarts at its reset vector if its EN is 1 (R518, R581). -/
def hartReset (p m : Nat) (s : State) : State :=
  let en := (s.rd (R.base p + 0x100)).toNat
  let st := (s.rd (R.base p + 0x108)).toNat
  let run := (List.range 8).foldl (fun r h => r + (if m.testBit h then (if en.testBit h then 2 ^ h else 0) else (if st.testBit h then 2 ^ h else 0))) 0
  let wfi := (List.range 8).foldl (fun r h => r + (if m.testBit h then 0 else (if st.testBit (16 + h) then 2 ^ h else 0))) 0
  readyWins (openWin p m s (s.wr (R.base p + 0x108) (word (wfi * 65536 + run))))

/-- Main-SRAM words are zero with valid check bits after every chip reset (R538). -/
def clearMain (s : State) : State :=
  let main := fun a => decide (0x10000000 ≤ a) && decide (a ≤ 0x12FFFFFF)
  { s with mem := skeep (fun a => !main a) s.mem, ue := s.ue.filter (fun w => !main (8 * w)), ce := s.ce.filter (fun w => !main (8 * w)) }

/-- Registers of the AON domain kept through a chip reset: the reset record and the thermal shutdown record (R364, R562). -/
def aonKeep (a : Nat) : Bool := a == R.SYS_RST_CAUSE || a == R.SYS_RST_TICK || a == R.THM_SD_REC || a == R.THM_SD_TICK

/-- What the journal holds of transactions that a reset interrupts (R553). -/
def leaveJournal (s : State) : NvSt :=
  { s.nv with left := s.nv.left ++ s.nvm.unsealed ++ s.nvm.redo.toList ++ s.nvm.direct.toList
              head := if s.rf R.SYS_START_STAT 4 0 = 0 then s.nv.head else s.rf R.NVM_JRN_HEAD 17 0 }

/-- A chip reset with cause `cause` and source `src` (R562), which ends at power-good (R594): the AON record is written, every block returns to reset, main SRAM is zeroed
(R538), and what is non-volatile or in AON stays. -/
def chipReset (cause src : Nat) (s : State) : State :=
  let s := (s.wr R.SYS_RST_CAUSE (word (src * 65536 + cause))).wr R.SYS_RST_TICK (word (s.tickNum % 2 ^ 32))
  let s := clearMain s
  let s := otpShow (nvShow { State.reset with
    now := s.now, nextTick := s.now + 4166667, regs := skeep aonKeep s.regs, mem := s.mem, ue := s.ue, ce := s.ce, free := s.free,
    nv := leaveJournal s, sys := { SysSt.reset with pgTime := s.now }, tim := { TimeSt.reset with c0 := s.now },
    sync := { SyncSt.reset with lastTick := s.now }, nrg := { NrgSt.reset with allowAt := s.now }, sec := { SecSt.reset with audit := s.sec.audit },
    pending := s.pending })
  let s := otpLoad s
  { s with pwr := { s.pwr with vcode := some (s.rf R.PWR_PMIC_CFG 30 24, s.rf R.PWR_PMIC_CFG 23 16, s.rf (R.PWR_VCODE 2) 7 0) } }

end Sys2Proof.Machine
end

