-- ==== Sys2Proof/Machine/Flags.lean ====
section
/-! DEFINITION. The fault collector (chapter 13): counting, levels, classes, escalation, consequential events, the log, and the reactions. -/

namespace Sys2Proof.Machine

/-! ### Fields of a source (R505) -/

/-- The level a field value acts as: 6 and 7 act as 5 (R532). -/
def level (x : Nat) : Nat := min x 5

/-- Class of source `n`. -/
def srcClass (n : Nat) (s : State) : Nat := s.rf (R.FLT_SRC_CFG n) 11 8

/-- Threshold N, where 0 acts as 1. -/
def srcN (n : Nat) (s : State) : Nat := max 1 (s.rf (R.FLT_SRC_CFG n) 23 16)

/-- Window W in ms: 0 acts as 1, values above 65,000 act as 65,000. -/
def srcW (n : Nat) (s : State) : Nat := min 65000 (max 1 (s.rf (R.FLT_SRC_WIN n) 15 0))

/-- Is `a` a FLT_SRC_STAT register? -/
def isSrcStat (a : Nat) : Bool := isReg a && decide (5 ≤ pageOf a) && decide (pageOf a ≤ 8) && decide (0x500 ≤ offOf a) && decide (offOf a < 0x700)

/-- Class `c` is pending (R512): a source of the class has REAL = 1 and a REAL_LVL of 1 or more. -/
def classPending (c : Nat) (s : State) : Bool :=
  s.regs.any fun p => isSrcStat p.1 && bitOf p.2 1 && decide (1 ≤ bitsOf p.2 10 8) && srcClass (srcOfAddr p.1) s == c

/-- Show the pending classes in FLT_CLASS_PEND (R512). -/
def showPend (s : State) : State :=
  s.wr R.FLT_CLASS_PEND (word ((List.range 15).foldl (fun m c => m + (if classPending c s then 2 ^ c else 0)) 0))

/-! ### Consequential events (R519 to R521) -/

/-- The lists of R521: a list names page `p` and its bitmap has source `n`. -/
def conseqUser (p n : Nat) (s : State) : Bool :=
  (List.range 24).any fun i =>
    s.rf (R.FLT_CQ_PAGE (8 + i)) 7 0 == p && p != 0xFF && s.rb (R.FLT_CQ_SRC (8 + i) (n / 32)) (n % 32)

/-- A REAL event of source `n` falls in an open window (R519): on the built-in list as it stood at the reset, or on a list of R521; or it is the
BUS_OFF_ACCESS of an access to a page in reset (R522), whose address has just been recorded. -/
def isConseq (n : Nat) (s : State) : Bool :=
  (s.flt.wins.any fun w => decide (s.now < w.ends) && (w.srcs.contains n || conseqUser w.page n s)) ||
  (n == Src.BUS_OFF_ACCESS && isReg (s.rd R.FLT_BUS_ADDR).toNat && s.inReset (pageOf (s.rd R.FLT_BUS_ADDR).toNat))

/-! ### The log (R620) and the last event -/

/-- FLT_LAST for an event; SEVERE is the event's own: it reached its threshold (R508, R509). -/
def lastWord (n lvl : Nat) (severe esc conseq forced : Bool) (s : State) : Nat :=
  s.tick16 * 65536 + bit severe * 32768 + bit esc * 16384 + bit conseq * 8192 + bit forced * 4096 + lvl * 512 + n

/-- Write an event to the log (R620): a full ring overwrites its oldest unread entry and sets LOG_OVF. -/
def logEvent (last n : Nat) (s : State) : State :=
  let wr := s.rf R.FLT_LOG_WR 7 0; let unread := s.rf R.FLT_LOG_WR 16 8
  let cnt := s.rf (R.FLT_SRC_WIN n) 23 16
  let s := (s.wr (R.FLT_LOG_A wr) (word (cnt * 65536 + last % 65536))).wr (R.FLT_LOG_B wr) (word (s.tickNum % 2 ^ 32))
  let s := s.wr R.FLT_LOG_WR (word (min 256 (unread + 1) * 256 + (wr + 1) % 256))
  let s := s.wr R.FLT_LAST (word last)
  if unread = 256 then (s.wf R.FLT_LOG_RD 7 0 ((s.rf R.FLT_LOG_RD 7 0 + 1) % 256)).irq P.FLT0 16 else s

/-- A consequential event (R519): CONSQ is set, it is logged, and nothing else happens. -/
def conseqEvent (n : Nat) (s : State) : State :=
  let a := R.FLT_SRC_STAT n
  let s := (s.event a 4).stampHi a
  let s := s.stAdd (R.STAT P.FLT0 0) 31 16 1
  logEvent (lastWord n 0 false false true false s) n s

/-- A block reset with the events that it makes by itself, consequential to it (R237, R281, R519): an UP link goes down, an open video frame is
errored. -/
def resetBlock (p : Nat) (s : State) : State :=
  let t := blockReset p s
  if !s.pageOn p then s else
  let down := fun (o : Nat) => decide (o ≤ p) && decide (p < o + 4) && upNow s (p - o)
  let t := if down 0x81 then conseqEvent (Src.SPL_LINK_DOWN (p - 0x81)) t else if down 0x89 then conseqEvent (Src.SPL_LINK_DOWN (p - 0x89)) t else t
  match pageIdx p 0x40 2 with
  | some i => if [0, 1, 2, 3].any fun k => (s.vin.frames.toList.getD (4 * i.val + k) none).isSome then conseqEvent (Src.VIN_FRAME_ERR i) t else t
  | none => t

/-! ### Reactions (R510, R511, R518) -/

/-- Sources whose block reset is left out, so that a level of 3 acts as 4 (R511). -/
def noReset (n : Nat) : Bool :=
  match srcPage n with
  | none => true
  | some p => p == 0 || p == 1 || p == 2 || p == 3 || p == P.NVM || p == P.TIME || (decide (0x10 ≤ p) && decide (p ≤ 0x17)) || p == 0xe1 || p == P.DRV

/-- The level at which a level of the source is carried out: 3 acts as 4 where the block reset is left out (R511). -/
def effLevel (n lvl : Nat) : Nat := if lvl = 3 && noReset n then 4 else lvl

/-- The level-3 action for source `n` (R518): a block reset of its page; only the hart or engine for a control page (the whole APU cluster
for APU_L2_UE); HOLD with cause COMMAND for a CTL loop page. -/
def resetFor (n : Nat) (s : State) : State :=
  if noReset n then s else
  match srcPage n with
  | none => s
  | some p =>
    if p = 0xe0 then hartReset p (if n = Src.APU_L2_UE ∨ n = Src.APU_L2_CE then 15 else 2 ^ (n - 10)) s
    else if p = 0xe2 then hartReset p (2 ^ ((n - 16) % 8)) s
    else if p = 0xe3 then hartReset p (2 ^ ((n - 32) % 2)) s
    else match loopOf p with
      | some k => loopHold k 3 s
      | none => resetBlock p s

/-- The lamp is dark: SYS_MODE.LAMP is DARK (R580). -/
def State.dark (s : State) : Bool := s.rf R.SYS_MODE 5 4 == 0

/-- Level 4 (R511): ERR_N is asserted, and SAFE forces FALLBACK at the next tick, except in DARK, in QUARANTINE with the lamp dark, and in
STANDALONE dark (R572). -/
def reactErr (s : State) : State :=
  let s := s.wb R.FLT_ERR 0 true
  let s := { s with sys := { s.sys with errLow := true } }
  if s.rf R.SYS_MODE 3 0 = 5 ∨ ((s.rf R.SYS_MODE 3 0 = 7 ∨ s.rf R.SYS_MODE 3 0 = 3) ∧ s.dark) then s
  else { s with sys := { s.sys with forceFb := true } }

/-- The actions of levels 1 to 4 for source `n` carried out at `lvl` (R510, R511): class interrupt, NMI, reset, ERR_N. -/
def react (n lvl : Nat) (s : State) : State :=
  let s := s.irqIf (decide (1 ≤ lvl)) P.FLT0 (srcClass n s)
  let s := if 2 ≤ lvl then { s with flt := { s.flt with nmi := s.flt.nmi ||| s.rd R.FLT_NMI_TARGET } } else s
  let s := if 3 ≤ lvl then resetFor n s else s
  if 4 ≤ lvl then reactErr s else s

/-! ### Handling one event -/

/-- Count a REAL event of source `n` (R508): CNT and the window start T0. -/
def countEvent (n : Nat) (s : State) : State :=
  let cnt := s.rf (R.FLT_SRC_WIN n) 23 16
  let t0 := sget 0 n s.flt.t0
  if cnt = 0 ∨ s.us - t0 ≥ srcW n s * 1000 then
    { s.wf (R.FLT_SRC_WIN n) 23 16 1 with flt := { s.flt with t0 := sset 0 n s.us s.flt.t0 } }
  else s.wf (R.FLT_SRC_WIN n) 23 16 (min 255 (cnt + 1))

/-- The level of a counted REAL event before escalation (R508). -/
def realLevel (n : Nat) (s : State) : Nat :=
  if srcN n s ≤ s.rf (R.FLT_SRC_WIN n) 23 16 then level (s.rf (R.FLT_SRC_CFG n) 5 3) else level (s.rf (R.FLT_SRC_CFG n) 2 0)

/-- A clear of REAL at the event's own instant does not count (R515): the class is pending when the event is handled. -/
def unack (n : Nat) (s : State) : State :=
  let a := R.FLT_SRC_STAT n
  if s.flt.ackAt = s.now ∧ bitOf (sget 0#32 a s.flt.ack) 1 then s.wb a 1 true else s

/-- A REAL event that is not consequential (R508 to R512): counted, levelled, escalated while its class is pending, latched, logged and
carried out. Answers the level carried out, so that a chip reset can be made once per cycle (R514). -/
def realEvent (n : Nat) (s : State) : Nat × State :=
  let s := countEvent n (unack n s)
  let severe := decide (srcN n s ≤ s.rf (R.FLT_SRC_WIN n) 23 16)
  let base := realLevel n s
  let esc := decide (1 ≤ base) && classPending (srcClass n s) s
  let lvl := effLevel n (if esc then min 5 (base + 1) else base)
  let a := R.FLT_SRC_STAT n
  let w := s.rd a
  let w := putBits (putBits (putBit (putBit w 1 true) 3 (bitOf w 3 || severe)) 7 5 lvl) 10 8 lvl
  let s := (((if severe then s.note a 3 else s).note a 1).wr a w).stampHi a
  let s := s.stAdd (R.STAT P.FLT0 0) 15 0 1
  let s := logEvent (lastWord n lvl severe esc false false s) n s
  (lvl, react n lvl (showPend s))

/-- A FORCED event (R506, R513): latched apart, carried out at the lower of NRM and FORCE_CAP, never counted or escalated. -/
def forcedEvent (n : Nat) (s : State) : Nat × State :=
  let lvl := effLevel n (min (level (s.rf (R.FLT_SRC_CFG n) 2 0)) (level (s.rf R.FLT_CFG 2 0)))
  let a := R.FLT_SRC_STAT n
  let w := s.rd a
  let s := ((s.note a 2).wr a (putBits (putBits (putBit w 2 true) 7 5 lvl) 13 11 lvl)).stampHi a
  let s := logEvent (lastWord n lvl false false false true s) n s
  (lvl, react n lvl s)

/-- One raising of a source: real, forced, or both in one cycle, which is handled as one REAL event with both bits set (R506). -/
structure Raising where
  src : Nat
  real : Bool
  forced : Bool
  deriving DecidableEq, Repr

/-- Insert a raising by ascending source number (R514). -/
def insRaising (r : Raising) : List Raising → List Raising
  | [] => [r]
  | x :: t => if r.src ≤ x.src then r :: x :: t else x :: insRaising r t

/-- The line of source `n` reaches the collector (R366): the collector is on, and so is the block that raises it. -/
def lineOpen (n : Nat) (s : State) : Bool := s.pageOn P.FLT0 && ((srcPage n).map s.pageOn).getD true

/-- A REAL event of source `n` has been handled at the present instant (R504): another raising of it in this cycle is the same event. -/
def realNow (n : Nat) (s : State) : Bool := let e := s.evtBits (R.FLT_SRC_STAT n); bitOf e 1 || bitOf e 4

/-- An event of source `n`, REAL or FORCED, has been handled at the present instant (R504). -/
def heldNow (n : Nat) (s : State) : Bool := realNow n s || bitOf (s.evtBits (R.FLT_SRC_STAT n)) 2

/-- Handle one raising; sources 352 to 511 do not exist (R503), lines from domains that are off or held are clamped (R366), and two raisings in
one cycle are one event (R504), which a force in that cycle only marks FORCED (R506). -/
def handle (r : Raising) (s : State) : Nat × State :=
  if 352 ≤ r.src || (r.real && !lineOpen r.src s) then (0, s)
  else if r.real then
    let s := if r.forced then s.event (R.FLT_SRC_STAT r.src) 2 else s
    if realNow r.src s then (0, s) else if isConseq r.src s then (0, conseqEvent r.src s) else realEvent r.src s
  else if r.forced then (if heldNow r.src s then (0, s.event (R.FLT_SRC_STAT r.src) 2) else forcedEvent r.src s)
  else (0, s)

/-- The raisings of one cycle (R514): ascending source number, and one chip reset with the lowest source that calls for it. -/
def raiseCycle (l : List Raising) (s : State) : State :=
  let o := (l.foldr insRaising []).foldl
    (fun (acc : Option Nat × State) r =>
      let (lvl, s) := handle r acc.2
      (if acc.1.isNone && lvl == 5 then some r.src else acc.1, s)) (none, s)
  match o.1 with
  | some n => chipReset 2 n o.2
  | none => o.2

/-- What an operation has deferred is raised, in one cycle. -/
def settle (s : State) : State :=
  match s.flt.due with
  | [] => s
  | n :: t => raiseCycle ((n :: t).map fun n => ⟨n, true, false⟩) { s with flt := { s.flt with due := [] } }

/-- SAFE's own write of `l` at `a` inside a service: stopped as any other write of SAFE's (R102, R148, R165, R436), with what that raises. -/
def safePut (a : Nat) (l : List Nat) (s : State) : State :=
  if l.isEmpty then s else settle (guardedPut .safe a l (partialUe s a l.length) s).2

/-- The raisings of one cycle, and then of what the block resets among their reactions bring about. -/
def raiseAll (l : List Raising) (s : State) : State := settle (raiseCycle l s)

/-- One source raised by its detector. -/
def raise (n : Nat) (s : State) : State := raiseAll [⟨n, true, false⟩] s

/-- Raise a source when `c` holds. -/
def raiseIf (c : Bool) (n : Nat) (s : State) : State := if c then raise n s else s

/-- Record a bus fault (R523) and raise it: kind 0 ACCESS_VIOLATION, 1 BUS_DECODE_ERR, 2 BUS_OFF_ACCESS. -/
def raiseBus (kind : Nat) (i : Init) (a : Nat) (write : Bool) (s : State) : State := raise (busSrc kind) (recordBus kind i a write s)

end Sys2Proof.Machine
end

