-- ==== Sys2Proof/Machine/TickGen.lean ====
section
/-! DEFINITION. The tick generator (R198, R202, R418 to R423): grid points, rates of the two clocks, alignment, and the time of the next tick. -/

namespace Sys2Proof.Machine

/-- Set the time unit. -/
def State.setTim (s : State) (f : TimeSt → TimeSt) : State := { s with tim := f s.tim }

/-- The lamp counts as lit (R420): a mode other than DARK and STANDALONE dark, and at least one tile link UP. -/
def lampLit (s : State) : Bool :=
  let m := s.rf R.SYS_MODE 3 0
  !(m == 5 || (m == 3 && s.dark)) && (List.finRange 4).any s.linkUp

/-- TGEN state: 0 FREE, 1 FOLLOW, 2 HOLDOVER. -/
def tgen (s : State) : Nat := s.rf R.TIME_TGEN_STAT 1 0

/-- Change NT's rate, folding the accumulated term into its offset (R406). -/
def setNtRate (r : Int) (s : State) : State :=
  let c := s.cntAt s.now
  (s.setTim fun t => { t with ntOfs := s.ntAt s.now - (c : Int) * 2 ^ 17, ntRef := c, ntRate := r }).wr R.TIME_RATE (wordS r)


/-- TT = NT (R420 step 1). -/
def ttFromNt (s : State) : State :=
  let c := s.cntAt s.now
  s.setTim fun t => { t with ttOfs := s.ntAt s.now - (c : Int) * 2 ^ 17, ttRef := c }

/-! ### Temperature compensation (R391, R392) -/

/-- The temperature of CLK_XO_CFG.SENSOR in use, S7.8 °C, taken every 100 ms (R391). -/
def xoTemp (s : State) : Int := s.tim.xoT

/-- c(T) of the 25 MHz crystal. -/
def xoPpb (s : State) (temp : Int) : Int := curveAt (fun k => sx 16 (s.rf (R.CLK_XO_CURVE k) 15 0)) temp


/-- A rate correction in units of 2^-40 for an error in ppb (R392). -/
def ppbRate (ppb : Int) : Int := rndDiv (ppb * 2 ^ 40) (10 ^ 9)

/-- The frame period by the temperature-compensated internal oscillator (R198, R391): the period lengthened or shortened by the crystal's error where
CLK_XO_CFG.EN has it compensated. -/
def oscPeriod (s : State) (f : Nat) : Nat :=
  if s.rb R.CLK_XO_CFG 0 then (rndDiv ((periodOf f : Int) * 2 ^ 40) (2 ^ 40 - ppbRate (xoPpb s (xoTemp s))).toNat).toNat else periodOf f

/-- A clock in holdover: the crystal's error that is corrected (R392), its change since entry, or before any lock the error itself. -/
def heldError (s : State) (tempH : Int) : Int :=
  if !s.rb R.CLK_XO_CFG 0 then 0 else if s.tim.everLocked then xoPpb s (xoTemp s) - xoPpb s tempH else xoPpb s (xoTemp s)

/-- The rate of a clock in holdover (R392): its held rate, which it has once it has been locked, less the error corrected. -/
def heldRate (s : State) (rateH tempH : Int) : Int := (if s.tim.everLocked || !s.rb R.CLK_XO_CFG 0 then rateH else 0) - ppbRate (heldError s tempH)

/-- The error that TT's rate corrects: in FREE the crystal's own (R419), in HOLDOVER that of R392. -/
def ttError (s : State) : Int :=
  if tgen s = 0 then (if s.rb R.CLK_XO_CFG 0 then xoPpb s (xoTemp s) else 0) else heldError s s.tim.tempH

/-- TT's rate in FREE and in HOLDOVER (R392, R419). -/
def holdRate (s : State) : Int := if tgen s = 0 then -(ppbRate (ttError s)) else heldRate s s.tim.rateH s.tim.tempH

/-- TT's rate in FOLLOW (R419): NT_RATE and D × 1,100, limited to 1 µs per second. -/
def followRate (s : State) : Int := s.tim.ntRate + max (-1099511) (min 1099511 (s.dNs * 1100))

/-! ### The grid (R418) -/

/-- Grid point `m` of rate `f` in 2^-16 ns of TT. -/
def gridPoint (s : State) (f m : Nat) : Int :=
  ((s.rd R.TIME_EPOCH_LO).toNat + 2 ^ 32 * (s.rd R.TIME_EPOCH_HI).toNat : Nat) * 2 ^ 16 + ((m * (10 ^ 10 * 2 ^ 16) / f : Nat) : Int)

/-- The first grid point of rate `f` that lies at TT `x` or later. -/
def gridFrom (s : State) (f : Nat) (x : Int) : Nat :=
  let y := (x - gridPoint s f 0).toNat
  let m := y * f / (10 ^ 10 * 2 ^ 16)
  if x ≤ gridPoint s f m then m else if x ≤ gridPoint s f (m + 1) then m + 1 else m + 2

/-- The time, in ns of the device, of the first counter edge at which TT is at or after `x` (R406, R418). -/
def whenTt (s : State) (x : Int) : Nat :=
  let n := 2 ^ 23 * (x - s.tim.ttOfs) + s.tim.ttRate * s.tim.ttRef
  let d := 2 ^ 40 + s.tim.ttRate
  s.tim.c0 + 2 * (-((-n) / max 1 d) - s.tim.base).toNat

/-- Ticks follow the grid: SCN_SYNC.SRC is NET and TT is past FREE (R418, R419, R423). -/
def onNet (s : State) : Bool := s.rf R.SCN_SYNC 1 0 == 0 && tgen s != 0

/-- Change TT's rate the same way; a next tick on the grid moves to where the new rate puts its grid point (R418). -/
def setTtRate (r : Int) (s : State) : State :=
  let c := s.cntAt s.now
  let s := s.setTim fun t => { t with ttOfs := s.ttAt s.now - (c : Int) * 2 ^ 17, ttRef := c, ttRate := r }
  match s.tim.idx with
  | some k => if onNet s then { s with nextTick := max (s.now + 1) (whenTt s (gridPoint s s.rate10 k)) } else s
  | none => s

/-- The grid point nearest to device time `x` for rate `f`, with its device time. -/
def gridNear (s : State) (f x : Nat) : Nat × Nat :=
  let k := gridFrom s f (s.ttAt x)
  let b := whenTt s (gridPoint s f k)
  if k = 0 then (k, b) else
  let a := whenTt s (gridPoint s f (k - 1))
  if x - a ≤ b - x then (k - 1, a) else (k, b)

/-- The tick after one at time `t` (grid index `m`) in rate `f`; a transition takes the first grid point at least P later (R202, R418, R420).
Ticks that left the grid return to it at no more than 1 µs per second (R199, R423). Off the grid the ticks run on the oscillator (R198, R200),
with `pace` of a phase error taken up. -/
def tickAfter (s : State) (t : Nat) (m : Option Nat) (f : Nat) (trans : Bool) (pace : Int) : Nat × Option Nat :=
  let p := periodOf f
  if !onNet s then ((max (t + 1) ((t + oscPeriod s f : Nat) + pace).toNat), none) else
  match m, trans with
  | some k, false => (max (t + 1) (whenTt s (gridPoint s f (k + 1))), some (k + 1))
  | none, false =>
    let g := gridNear s f (t + p); let lim := p / 1000000
    if g.2 ≤ t + p + lim ∧ t + p ≤ g.2 + lim then (max (t + 1) g.2, some g.1)
    else if t + p < g.2 then (t + p + lim, none) else (t + p - lim, none)
  | _, true =>
    let k := gridFrom s f (s.ttAt t + (10 ^ 10 * 2 ^ 16 / f : Nat))
    (max (t + 1) (whenTt s (gridPoint s f k)), some k)

/-- The ticks lie within 1 µs of the grid (R423). -/
def onGrid (s : State) : Bool :=
  let g := (gridNear s s.rate10 s.nextTick).2
  onNet s && (s.tim.idx.isSome || (decide (g ≤ s.nextTick + 1000) && decide (s.nextTick ≤ g + 1000)))

/-- LIT, ON_GRID, PENDING and D as registers (R420 to R423). -/
def showTime (s : State) : State :=
  let d := satS 32 s.dNs
  let s := (s.wr R.TIME_D (wordS d)).wb R.TIME_TGEN_STAT 5 (lampLit s)
  s.wb R.TIME_TGEN_STAT 6 (onGrid s)

/-- TT enters HOLDOVER (R393, R419): the rate and temperature at entry are kept. -/
def enterHoldover (s : State) : State :=
  if tgen s = 2 then s else
  let s := s.setTim fun t => { t with rateH := t.ntRate, tempH := xoTemp s }
  let s := ((s.wf R.TIME_TGEN_STAT 1 0 2).wb (R.STATUS P.SCN) 2 true).irq P.TIME 1
  setTtRate (holdRate s) s

/-- TT enters FOLLOW (R421). -/
def enterFollow (s : State) : State :=
  let s := (((s.irqIf (tgen s != 1) P.TIME 1).wf R.TIME_TGEN_STAT 1 0 1).wb R.TIME_TGEN_STAT 3 false).wb (R.STATUS P.SCN) 2 false
  setTtRate (followRate s) s

/-- An alignment is carried out (R420): TT = NT, FOLLOW with D = 0, VALID. -/
def alignTick (s : State) : State :=
  let s := enterFollow (ttFromNt s)
  let s := s.wb R.TIME_TGEN_STAT 4 true
  s.setTim fun t => { t with align := false, idx := none }

/-- The part of the measured phase error that the frame from tick `k` takes up (R199): at most 1 µs per second; how much, the spec leaves open (log
entry 147). -/
def syncPace (s : State) (k : Nat) : Int :=
  if s.rf R.SCN_SYNC 1 0 = 1 ∧ !s.sync.lost then
    let n := Config.syncPace k % (min s.sync.corr.natAbs (s.period / 1000000) + 1)
    if 0 ≤ s.sync.corr then n else -(n : Int)
  else 0

/-- The timing mode and its rate, as a value of SCN_TIMING gives them (R197). -/
def timingMode (w : Word) : Nat × Nat := (bitsOf w 2 0, rateOf w)

/-- A timing-mode change staged to apply at the coming tick, as SCN_TIMING will read (R202). -/
def comingTiming (s : State) : Option Word :=
  (List.finRange 16).findSome? fun g =>
    let gr := s.sys.groups[g]
    if gr.staged && gr.dueNext s && !gr.expires && gr.members.contains P.SCN then
      let w := sget (regDefault R.SCN_TIMING) R.SCN_TIMING gr.copy
      if timingMode w = timingMode (s.rd R.SCN_TIMING) then none else some w
    else none

/-- The tick after the next one, and whether the frame in between is a transition interval (R202, R228, R420). -/
def comingLen (s : State) : Nat × Bool :=
  let f := match comingTiming s with
    | some w => rateOf w
    | none => s.rate10
  let tr := (comingTiming s).isSome || s.tim.align
  ((tickAfter s s.nextTick s.tim.idx f tr (syncPace s s.nextNum)).1 - s.nextTick, tr)

/-- The time unit at a tick (R202, R418 to R422), after commits applied: `mode` says that they changed the timing mode. -/
def timeTick (mode : Bool) (s : State) : State :=
  let s := match s.tim.idx with
    | some m => (s.wr R.TIME_GRID_IDX_LO (word m)).wr R.TIME_GRID_IDX_HI (word (m / 2 ^ 32))
    | none => s
  let tr := mode || s.tim.align
  let first := s.tim.align && !s.tim.aligned
  let s := if s.tim.align then alignTick s else if tgen s = 1 then setTtRate (followRate s) s else setTtRate (holdRate s) s
  let pace := syncPace s s.tickNum
  let n := tickAfter s s.now s.tim.idx s.rate10 tr pace
  let s := { s with nextTick := n.1, sync := { s.sync with corr := s.sync.corr - pace } }
  let s := s.setTim fun t => { t with idx := n.2, aligned := t.aligned || first,
                                      jump := if first then n.2.map (fun m => max m (s.tickNum + 1)) else none,
                                      align := t.want || (s.rb R.TIME_TGEN_STAT 3 && !lampLit s), want := false }
  let s := { s with sync := { s.sync with lastTick := s.now } }
  let s := if s.rb R.TIME_TGEN_STAT 3 && s.rf R.TIME_SERVO_STAT 2 0 == 2 && decide (s.dNs.natAbs ≤ 100000) && !s.tim.align then enterFollow s else s
  let s := s.wb (R.STATUS P.SCN) 3 tr
  let s := if tr then ((s.wr R.SCN_TRANS_TICK (word s.tickNum)).wr R.SCN_TRANS_LEN (word (n.1 - s.now))).irq P.SCN 0 else s
  showTime s

end Sys2Proof.Machine
end

