-- ==== Sys2Proof/Machine/Bus.lean ====
section
/-! DEFINITION. Accesses: the checks and effects of a register write by access code (R14 to R18, R27, R45), register reads, memory
writes and reads over the address map (R60) with every protection, and ECC (R535 to R542). -/

namespace Sys2Proof.Machine

/-! ### ECC (R535, R536, R541) -/

/-- Record and raise an uncorrectable error at `a` for the initiator code `ic` (R536, R540, R541). -/
def ueEvent (ic : Nat) (a : Nat) (s : State) : State := let x := ueNote ic a s; raise x.1 x.2

/-- Correct, record and raise a single-bit error in the 64-bit word of `a` (R535, R541). -/
def ceEvent (ic : Nat) (a : Nat) (s : State) : State := let x := ceNote ic a s; raise x.1 x.2

/-- Reading `n` bytes at `a` corrects every single-bit error met (R535). -/
def correct (ic : Nat) (a n : Nat) (s : State) : State := s.over (ceWords s a n) fun s w => ceEvent ic (8 * w) s

/-! ### Engines that belong to a program (R189, R296) -/

/-- A write of `w` to `a` touches an engine that belongs to a program (R189): its vectors or watchdog, its enable bit, or its reset bit. -/
def beamTouched (s : State) (a : Nat) (w : Word) : Bool :=
  pageOf a == 0xe2 &&
  (List.range 8).any fun b => beamReserved s b &&
    ((decide (0x140 ≤ offOf a) && decide (offOf a < 0x1e0) && offOf a / 4 % 8 == b) ||
     (offOf a == 0x100 && (bitOf w b != s.rb a b)) || (offOf a == 0x104 && bitOf w b))

/-! ### Register writes -/

/-- The LOCK register that freezes the RWL fields of page `p` (R14; the pages' own rules). -/
def lockReg (p : Nat) : Option Nat :=
  if 4 ≤ p ∧ p ≤ 11 then some R.FLT_LOCK
  else if p = P.PWR then some R.PWR_LOCK
  else if p = P.CLK then some R.CLK_LOCK
  else if p = P.THM then some R.THM_LOCK
  else if p = P.XSPI then some R.XSPI_LOCK
  else if 0x68 ≤ p ∧ p ≤ 0x6c then some R.PHO_LOCK
  else if 0x80 ≤ p ∧ p ≤ 0x84 then some R.SCN_LOCK
  else if 0x89 ≤ p ∧ p ≤ 0x8c then some (R.SPL_LOCK (p - 0x89))
  else if p = P.DRV then some R.DRV_LOCK
  else if p = P.NRG then some R.NRG_LOCK
  else none

/-- The RWL fields of page `p` are locked. -/
def State.locked (s : State) (p : Nat) : Bool :=
  match lockReg p with
  | some a => s.rb a 0
  | none => false

/-- The block of page `p` is enabled, for R17: the common page's EN for WRP and PHO tile pages, any link's EN for the SPL common page. -/
def State.enabledFor (s : State) (p : Nat) : Bool :=
  if 0x61 ≤ p ∧ p ≤ 0x64 then s.en P.WRP
  else if 0x69 ≤ p ∧ p ≤ 0x6c then s.en P.PHO
  else if p = P.SPL then (List.range 4).any (fun t => s.en (P.SPLT t))
  else s.en p

/-- Fields of harts beyond the cluster read 0 (R581). -/
def cpuLegal (a : Nat) (w : Word) : Word :=
  let p := pageOf a; let o := offOf a
  let n := if p = 0xe0 then 4 else if p = 0xe1 then 1 else if p = 0xe2 then 8 else 2
  if p < 0xe0 ∨ 0xe3 < p then w
  else if o = 0x100 then word (w.toNat % 2 ^ n)
  else if 0x140 ≤ o ∧ o < 0x1e0 then (if n ≤ o / 4 % 8 then 0#32 else w)
  else w

/-- Registers whose written value saturates into a range (R48, R241, R580). -/
def legalize (a : Nat) (w : Word) : Word :=
  if a = R.SYS_COMMIT_GUARD then word (max 50 (min 2000 (bitsOf w 10 0)))
  else if a = R.SPL_ACK_TIMEOUT then word (max 5 (min 1000 (bitsOf w 9 0)))
  else if a = R.SYS_START_CFG then putBits (putBits w 31 16 (max 10 (bitsOf w 31 16))) 15 8 (max 10 (bitsOf w 15 8))
  else cpuLegal a w

/-- The live register after a write by its access codes (R14). A W1C bit that an event sets in the same cycle stays 1 (R21): `ev` has these bits. -/
def storeLive (a : Nat) (w live ev : Word) (locked : Bool) : Word :=
  let rw := maskOf (fun d => if locked then d.rw else d.rw ||| d.rwl) a
  let live := (live &&& ~~~rw) ||| (w &&& rw)
  let live := live &&& ~~~(w &&& maskOf RegDef.w1c a &&& ~~~ev)
  live ||| (w &&& maskOf RegDef.w1s a)

/-- The store of a register write (R14): live fields, shadow fields with DIRTY (R46). -/
def storeReg (a : Nat) (w : Word) (s : State) : State :=
  let w := legalize a w
  let s := s.wr a (storeLive a w (s.rd a) (s.evtBits a) (s.locked (pageOf a)))
  let m := maskOf RegDef.rws a
  if m = 0#32 then s else (s.shw a ((s.sh a &&& ~~~m) ||| (w &&& m))).wb (R.COMMIT (pageOf a)) 8 true

/-- What becomes of a register write before any effect of its own. -/
inductive WriteVerdict where
  | off          -- clock or power off (R18)
  | denied       -- a page or register that accepts writes from SAFE only (R27, R211, R571, R581)
  | engine       -- an engine that belongs to a program (R189, R296)
  | live         -- a live-only field of an enabled block (R17), R45, or the epoch of a lit lamp (R422)
  | store
  deriving DecidableEq, Repr

/-- The checks of a register write, in the order power, writer, engine, live-only (R17, R18, R27, R45, R422). -/
def writeVerdict (i : Init) (a : Nat) (w : Word) (s : State) : WriteVerdict :=
  let p := pageOf a
  if !s.answers p then .off
  else if (safeOnlyPage p || safeOnlyReg a) && !trusted i s then .denied
  else if beamTouched s a w then .engine
  else if s.enabledFor p && (maskOf RegDef.live a != 0#32) then .live
  else if offOf a = 0x28 ∧ s.rb a 9 then .live
  else if a = R.SYS_COMMIT_GUARD ∧ s.rd R.SYS_CG_ARMED ≠ 0#32 then .live
  else if (a == R.TIME_EPOCH_LO || a == R.TIME_EPOCH_HI) && lampLit s then .live
  else .store

/-- A register write by initiator `i`: the checks, the store by access code, then the register's own effect `hook old written`. -/
def gateWrite (i : Init) (a : Nat) (w : Word) (hook : Word → Word → State → State) (s : State) : State :=
  match writeVerdict i a w s with
  | .off => raiseBus 2 i a true s.busOk
  | .denied => raiseBus 0 i a true s.busErr
  | .engine => raiseBus 0 i a true s.busOk
  | .live => raise Src.CFG_LIVE_WRITE s.busOk
  | .store =>
    let s := if offOf a = 0x1c ∨ offOf a = 0x20 then plicSample s else s
    hook (s.rd a) w (storeReg a w s.busOk)

/-- A register without an effect of its own. -/
def noHook (_ _ : Word) (s : State) : State := s

/-- A register read (R14, R16, R18): the value, with a bus error and BUS_OFF_ACCESS where clock or power is off. -/
def gateRead (i : Init) (a : Nat) (hook : State → State) (s : State) : State :=
  if !s.answers (pageOf a) then raiseBus 2 i a false s.busErr
  else hook (s.busData (s.readReg a))

/-! ### Memory writes -/

/-- A dropped write at `a`: the bus answer, what is recorded and what is raised. -/
def stopWrite (i : Init) (a : Nat) (st : WriteStop) (s : State) : State :=
  let x := stopNote i a st s
  match x.1 with
  | some n => raise n x.2
  | none => x.2

/-- A memory write of bytes `l` at `a` by initiator `i`: stopped, or done. -/
def memWrite (i : Init) (a : Nat) (l : List Nat) (s : State) : State :=
  match writeStop i a l.length (partialUe s a l.length) s with
  | some st => stopWrite i a st s
  | none => (s.put a l).busOk

/-! ### Memory reads -/

/-- A memory read of `n` bytes at `a` by initiator `i`: the bytes, and the state with the bus answer (R60, R535, R536, R542, R557). -/
def memRead (i : Init) (a n : Nat) (s : State) : List Nat × State :=
  let zero := List.replicate n 0
  match readStop i a n s with
  | some .decode => (zero, raiseBus 1 i a false s.busErr)
  | some .denied => (zero, raiseBus 0 i a false s.busErr)
  | some .bus => (zero, s.busErr)
  | some (.word w) => (zero, (ueEvent i.code w s).busErr)
  | none =>
    let l := s.seeBytes a n
    let s := if regionOf a = .xspi then s.stAdd (R.STAT P.XSPI 0) 31 0 n else correct i.code a n s
    (l, s.busData (word (ofLE (l.take 4))))

end Sys2Proof.Machine
end

