-- ==== Sys2Proof/Machine/Cpu.lean ====
section
/-! DEFINITION. The processors' control pages (R581), their watchdogs, and errors of their own memories (R525). -/

namespace Sys2Proof.Machine

/-- Harts or engines of cluster `c` (R581): APU, SAFE, BEAM, NETE. -/
def harts (c : Nat) : Nat := if c = 0 then 4 else if c = 1 then 1 else if c = 2 then 8 else if c = 3 then 2 else 0

/-- The effect of a write to CPU_HART_EN (R581): a hart starts at its reset vector when its bit rises, and is held in reset while it is 0. -/
def hartEn (c : Fin 4) (old _ : Word) (s : State) : State :=
  let new := s.rf (R.CPU_HART_EN c) 7 0; let run := s.rf (R.CPU_HART_STAT c) 7 0
  let s := s.wf (R.CPU_HART_STAT c) 7 0 (new &&& (run ||| (255 - old.toNat % 256)))
  readyWins (s.wf (R.CPU_HART_STAT c) 23 16 (s.rf (R.CPU_HART_STAT c) 23 16 &&& s.rf (R.CPU_HART_STAT c) 7 0))

/-- The effect of a write to CPU_HART_RST (R581). -/
def hartRst (c : Fin 4) (_ w : Word) (s : State) : State :=
  let m := w.toNat % 2 ^ harts c
  if m = 0 then s else hartReset (0xe0 + c.val) m s

/-- The watchdog of hart `h` of cluster `c` starts anew with any write that sets EN (R581). -/
def wdogWrite (c : Fin 4) (h : Fin 8) (_ w : Word) (s : State) : State :=
  let k := 8 * c.val + h.val
  { s with wdog := s.wdog.filter (fun p => p.1 != k) ++ (if bitOf w 31 then [(k, s.now)] else []) }

/-- The WDOG source of a hart (R525). -/
def wdogSrc (c : Fin 4) (h : Fin 8) : Nat :=
  if c.val = 0 then Src.APU_WDOG h else if c.val = 1 then Src.SAFE_WDOG else if c.val = 2 then Src.BEAM_WDOG h else Src.NETE_WDOG h

/-- The watchdog of hart `h` of cluster `c` has run for TIMEOUT_US (R581): its source is raised, once until it is restarted. -/
def cpuWdog (c : Fin 4) (h : Fin 8) (s : State) : State :=
  let k := 8 * c.val + h.val
  match s.wdog.find? fun p => p.1 == k with
  | none => s
  | some p =>
    if harts c ≤ h.val ∨ !s.rb (R.CPU_WDOG c h) 31 ∨ !s.pageOn (0xe0 + c.val) ∨ s.now < p.2 + s.rf (R.CPU_WDOG c h) 23 0 * 1000 then s
    else raise (wdogSrc c h) { s with wdog := s.wdog.filter fun q => q.1 != k }

/-- The two SAFE cores disagree (R25). -/
def lockstepMismatch (s : State) : State := if s.pageOn 0xe1 then raise Src.LOCKSTEP_MISMATCH s else s

/-- Its source and control page. -/
def eccSrc : LocalEcc → Nat × Nat
  | .apuL2Ce => (Src.APU_L2_CE, 0xe0) | .apuL2Ue => (Src.APU_L2_UE, 0xe0) | .safeTcm => (Src.SAFE_TCM_UE, 0xe1)
  | .beam b => (Src.BEAM_MEM_UE b, 0xe2) | .nete e => (Src.NETE_MEM_UE e, 0xe3)

/-- A read of a local memory finds an ECC error (R525). -/
def localEcc (k : LocalEcc) (s : State) : State := if s.pageOn (eccSrc k).2 then raise (eccSrc k).1 s else s

end Sys2Proof.Machine
end

