-- ==== Sys2Proof/Machine/Crc.lean ====
section
/-! DEFINITION. The check-value units (R526 to R531): the four CRCs, a context's shift register, the bytes it takes, and packets snooped. -/

namespace Sys2Proof.Machine

/-- Bytes taken by a context of an enabled unit, with the fault that a mismatch raises (R529, R533). -/
def crcFeed (u c : Nat) (l : List Nat) (s : State) : State := settle (crcBytesIn u c l s)

/-- The alive byte of a packet (R531): equal is a repeat, one more is the next, any other value is a gap. -/
def crcAlive (u c : Nat) (l : List Nat) (s : State) : State :=
  let cfg := R.CRC_CTX_CFG u c; let st := R.CRC_CTX_STAT u c
  let ofs := s.rf cfg 15 8
  if s.rb cfg 5 && decide (ofs < l.length) then
    let b := nth 0 l ofs % 256; let last := s.rf st 15 8
    let s' := s.wf st 15 8 b
    if b = last then s'.wf st 31 24 (satAdd 8 (s.rf st 31 24) 1)
    else if isNext 8 last b then s'
    else (s'.wf st 23 16 (satAdd 8 (s.rf st 23 16) 1)).irq (P.CRC u) 1
  else s

/-- A packet or frame of the stream that unit `u` snoops (R528): with PER_PKT the context restarts from the initial value and judges the alive byte. -/
def crcPacket (u src inst : Nat) (l : List Nat) (s : State) : State :=
  let r := R.CRC_SNOOP u
  if s.en (P.CRC u) && s.rf r 2 0 == src && src != 0 && src != 7 && (s.rf r 5 4 == inst || src == 6) then
    let c := s.rf r 12 8
    if s.rb r 16 then crcAlive u c l (crcFeed u c l ((setRun u c (ctxKind u c s).init s).wr (R.CRC_CTX_COUNT u c) 0#32))
    else crcFeed u c l s
  else s

/-- A packet offered to every unit that snoops its stream (R528). -/
def snoop (src inst : Nat) (l : List Nat) (s : State) : State := s.over (List.range 8) (fun s u => crcPacket u src inst l s)

/-- The configuration words of R619 in order. -/
def cfgWords (s : State) : List Word :=
  [s.rd R.FLT_CFG, s.rd R.FLT_NMI_TARGET] ++ (List.range 512).map (fun n => s.rd (R.FLT_SRC_CFG n)) ++
  (List.range 512).map (fun n => putBits (s.rd (R.FLT_SRC_WIN n)) 23 16 0) ++ (List.range 24).map (fun i => s.rd (R.FLT_CQ_PAGE (8 + i))) ++
  (List.range 24).flatMap (fun i => (List.range 11).map (fun w => s.rd (R.FLT_CQ_SRC (8 + i) w)))

/-- CRC-32C of the fault configuration (R619). -/
def cfgCrc (s : State) : Nat := crc32c ((cfgWords s).flatMap (fun w => bytesLE 4 w.toNat))

end Sys2Proof.Machine
end

