-- ==== Sys2Proof/Machine/Layers.lean ====
section
/-! DEFINITION. Buffers and their owners (R99 to R103), fences (R104), flips (R105 to R111), and the start and end of pre-scaler passes
in the buffer table (R92 to R97). -/

namespace Sys2Proof.Machine

/-! ### BUF commands (R99, R120) -/

/-- The entry that the staging registers describe. -/
def stagedEntry (s : State) : BufEntry :=
  ⟨(s.rd R.BUF_E_BASE).toNat, s.rf R.BUF_E_FMT 3 0, s.rf R.BUF_E_SIZE 13 0 + 1, s.rf R.BUF_E_SIZE 29 16 + 1,
    s.rf R.BUF_E_STRIDE 19 0, s.rf R.BUF_E_FMT 15 8, .swOwned, s.tick16⟩

/-- The first failure of a REGISTER in the order of R99: 0 OK, 1 BAD_STATE, 5 FORMAT, 4 ALIGN, 3 RANGE, 2 OVERLAP. -/
def registerCheck (i : Nat) (e : BufEntry) (s : State) : Nat :=
  if (s.buf i).state ≠ .free then 1
  else if 8 ≤ e.fmt ∨ (e.fmt = 5 ∧ e.w % 2 = 1) then 5
  else if e.base % 64 ≠ 0 ∨ e.stride % 16 ≠ 0 then 4
  else if e.stride < rowBytes e ∨ e.base < 0x10000000 ∨ 0x13000000 < extentEnd e then 3
  else if s.cmp.bufs.any (fun p => p.1 != i && p.2.state != .free && decide (e.base < extentEnd p.2) && decide (p.2.base < extentEnd e)) then 2
  else 0

/-- A BUF command's result (R120): anything but OK sets CMD_ERR. -/
def bufResult (r : Nat) (s : State) : State := (s.wf R.BUF_CMD_STAT 3 0 r).irqIf (r != 0) P.BUF 2

/-- REGISTER (R99, R100). -/
def bufRegister (i : Nat) (s : State) : State :=
  let e := stagedEntry s
  let r := registerCheck i e s
  if r = 0 then bufResult 0 (setBufState i .swOwned (s.setBuf i e)) else bufResult r s

/-- UNREGISTER (R100, R120): every field but the tick of the last state change is cleared. -/
def bufUnregister (i : Nat) (s : State) : State :=
  if (s.buf i).state = .swOwned then bufResult 0 (setBufState i .free (s.setBuf i BufEntry.empty)) else bufResult 1 s

/-- READ (R120): the entry into the staging registers. -/
def bufRead (i : Nat) (s : State) : State :=
  let e := s.buf i
  let s := ((s.wr R.BUF_E_BASE (word e.base)).wr R.BUF_E_STRIDE (word e.stride)).wr R.BUF_E_SIZE (word ((e.h - 1) * 65536 + (e.w - 1)))
  bufResult 0 ((s.wr R.BUF_E_FMT (word (e.owner * 256 + e.fmt))).wr R.BUF_E_STATE (word (e.tick * 65536 + e.state.code)))

/-- The effect of a write to BUF_CMD (R120). -/
def bufCmd (_ w : Word) (s : State) : State :=
  let i := bitsOf w 7 0; let op := bitsOf w 10 8
  if op = 1 then bufRegister i s else if op = 2 then bufUnregister i s else if op = 3 then bufRead i s else bufResult 3 s

/-! ### Flip requests (R105, R110) -/

/-- The device is in FACTORY, COMMISSION or SERVICE (R73, R576). -/
def specialMode (s : State) : Bool := let m := s.rf R.SYS_MODE 3 0; m == 0 || m == 1 || m == 6

/-- Is the format RAW10 or RAW12 (R73)? -/
def isRaw (f : Nat) : Bool := f == 6 || f == 7

/-- Why a flip request is refused (R105): 0 for none, 4 BUSY, 3 BAD_STATE, 6 MODE. -/
def flipRefusal (n : Fin 8) (r : FlipReq) (s : State) : Nat :=
  if s.cmp.lyr[n].pend.isSome then 4
  else if r.release then 0
  else if (s.buf r.buf).state ≠ .swOwned then 3
  else if isRaw (s.buf r.buf).fmt && !specialMode s then 6
  else 0

/-- Post a flip request to layer `n` (R105): refused with its reason, or pending with its entry QUEUED. -/
def postFlip (n : Fin 8) (r : FlipReq) (s : State) : State :=
  let c := flipRefusal n r s; let a := R.LYR_FLIP_STAT n
  if c ≠ 0 then (s.wf a 31 28 c).irq (P.LYR n) 3 else
  let s := if r.release then s else setBufState r.buf .queued s
  let s := setLyr n (fun l => { l with pend := some r }) s
  ((s.wf a 31 28 7).wb a 16 true).wf a 15 8 (if r.release then 0 else r.buf)


/-- The layers of flip group `g` with a pending request (R107), but for those that an arm of another group has recorded (log entry 136). -/
def groupMembers (g : Nat) (s : State) : List Nat :=
  ((List.finRange 8).filter fun (n : Fin 8) => s.rf (R.LYR_CFG n) 12 10 == g && s.cmp.lyr[n].pend.isSome &&
    !s.cmp.arms.toList.any (·.contains n.val)).map fun (n : Fin 8) => n.val

/-- Arm flip group `g` (R107): ignored while it is armed; a group without pending members completes at once. -/
def armFlips (g : Fin 8) (s : State) : State :=
  if s.rb R.CMP_FLIPGRP_STAT g then s else
  let ms := groupMembers g s
  if ms.isEmpty then s else
  ({ s with cmp := { s.cmp with arms := s.cmp.arms.set g ms } }).wb R.CMP_FLIPGRP_STAT g true

/-- The effect of a write to CMP_FLIP_ARM (R107). -/
def cmpFlipArm (_ w : Word) (s : State) : State :=
  s.over (List.finRange 8) fun s g => if g.val ≠ 0 ∧ bitOf w g then armFlips g s else s

/-! ### Pre-scaler passes (R92 to R97) -/

/-- Count a skipped pass (R118). -/
def sclSkip (k : Fin 4) (b : Nat) (s : State) : State := (s.stAdd (R.STAT (P.SCL k) 0) 31 16 1).irq (P.SCL k) b

/-- The destination of a pass (R93): DST_A, then DST_B, whichever is SW_OWNED and not the entry that becomes the source. -/
def sclDest (k : Fin 4) (src : Nat) (s : State) : Option Nat :=
  let ok := fun e => (s.buf e).state == BufState.swOwned && e != src
  let a := s.rf (R.SCL_DST k) 7 0; let b := s.rf (R.SCL_DST k) 15 8
  if ok a then some a else if ok b then some b else none

/-- A trigger of pre-scaler `k` (R93, R94, R96). A pass skipped for want of a destination leaves its source as it was, SW_OWNED without a retire
event (log entry 137). -/
def sclTrigger (k : Fin 4) (s : State) : State :=
  if !s.en (P.SCL k) then s
  else if (s.cmp.scl[k]).isSome then s.irq (P.SCL k) 2
  else
    let src := s.rf (R.SCL_SRC k) 7 0
    let st := (s.buf src).state
    if st != BufState.swOwned && st != BufState.scanning then sclSkip k 3 s
    else match sclDest k src s with
      | none => sclSkip k 1 s
      | some d =>
        let s := if st = BufState.swOwned then setBufState src .scanning s else s
        ({ s with cmp := { s.cmp with scl := s.cmp.scl.set k (some ⟨d, src, st == BufState.swOwned⟩) } }).wb (R.STATUS (P.SCL k)) 0 true

/-! ### Fences (R104, R119) -/

/-- FENCE_STATE of fence `f`, and FENCE_SET, at whose address the rise of a fence at the present instant is noted. -/
def fenceReg (f : Nat) : Nat × Nat := if f < 32 then (R.FENCE_STATE_LO, R.FENCE_SET_LO) else (R.FENCE_STATE_HI, R.FENCE_SET_HI)

/-- Is fence `f` signalled? -/
def fenceSet (s : State) (f : Nat) : Bool := s.rb (fenceReg f).1 (f % 32)

/-- A fence signal (R104, R119); it triggers the pre-scalers that wait for it (R92). -/
def signalFence (f : Nat) (s : State) : State :=
  let s := if fenceSet s f then s else s.note (fenceReg f).2 (f % 32)
  let s := (s.event (fenceReg f).1 (f % 32)).irq P.FENCE 0
  s.over (List.finRange 4) fun s k => if s.rf (R.SCL_CFG k) 1 0 = 3 ∧ s.rf (R.SCL_CFG k) 7 2 = f then sclTrigger k s else s

/-- Consume fence `f` (R109): a signal of the same instant wins. -/
def consumeFence (f : Nat) (s : State) : State :=
  if bitOf (s.evtBits (fenceReg f).1) (f % 32) then s else s.wb (fenceReg f).1 (f % 32) false

/-- The effect of a write to FENCE_SET_LO (`base` 0) or FENCE_SET_HI (`base` 32): every 1 signals its fence. -/
def fenceSetHook (base : Nat) (_ w : Word) (s : State) : State :=
  s.over (List.range 32) fun s b => if bitOf w b then signalFence (base + b) s else s

/-! ### The deadline (R106 to R109) -/

/-- The fence of a request is signalled or not enabled. A fence that rises in the deadline's own cycle is signalled for a later flip (R109, log entry 135). -/
def reqReady (s : State) (r : FlipReq) : Bool :=
  !r.fenceEn || (fenceSet s r.fence && !bitOf (s.evtBits (fenceReg r.fence).2) (r.fence % 32))

/-- Accept the pending request of layer `n` (R100, R108, R111). -/
def acceptFlip (n : Fin 8) (r : FlipReq) (s : State) : State :=
  let a := R.LYR_FLIP_STAT n
  let s := if r.release then s else setBufState r.buf .scanning s
  let s := setLyr n (fun l => { l with pend := none, acc := some (if r.release then none else some r.buf) }) s
  let s := (((s.wf a 31 28 1).wb a 16 false).wf a 15 8 0).wf a 27 20 0
  (s.stAdd (R.STAT P.CMP 0) 15 0 1).stSet (R.STAT (P.LYR n) 0) 0 0 1

/-- Defer the pending request of layer `n` (R108): the eighth consecutive deferral raises FLIP_STALL once. -/
def deferFlip (n : Fin 8) (s : State) : State :=
  let a := R.LYR_FLIP_STAT n
  let c := satAdd 8 (s.rf a 27 20) 1
  let s := ((s.wf a 31 28 2).wf a 27 20 c).irq (P.LYR n) 1
  let s := (s.stAdd (R.STAT P.CMP 0) 31 16 1).stSet (R.STAT (P.LYR n) 0) 1 1 1
  if c = 8 ∧ s.rf a 27 20 = 8 then raise (Src.FLIP_STALL n) (s.irq (P.LYR n) 2) else s

/-- The layers whose requests a deadline at the present instant evaluates, each with whether it flips (R106, R107). An armed member whose FLIPGRP is
committed to 0 is evaluated alone, one committed to another group with the set it was armed in (log entry 136). A set armed in the deadline's own cycle
takes part where its arm stands before COMMIT_DEADLINE in the queue (DESIGN CHOICE, log entry 173). -/
def evaluated (s : State) : List (Fin 8 × FlipReq × Bool) :=
  (List.finRange 8).filterMap fun n =>
    match s.cmp.lyr[n].pend with
    | none => none
    | some r =>
      if s.rf (R.LYR_CFG n) 12 10 = 0 then (if r.made < s.now then some (n, r, reqReady s r) else none)
      else match (List.finRange 8).find? (fun g => (s.cmp.arms[g]).contains n.val) with
        | none => none
        | some g => some (n, r, (List.finRange 8).all fun m => !((s.cmp.arms[g]).contains m.val) ||
            (match s.cmp.lyr[m].pend with | some q => reqReady s q | none => true))

/-- A CANCEL (R110): without a pending request it has no effect, and at the instant of a deadline that accepts the request it is ignored. Answers
whether it is ignored for that reason. -/
def cancelFlip (n : Fin 8) (s : State) : Bool × State :=
  if s.cmp.lyr[n].pend.isNone then (false, s)
  else if s.now + s.guardNs == s.nextTick && (evaluated s).any (fun x => x.1 == n && x.2.2) then (true, s)
  else (false, (dropPending n s).wf (R.LYR_FLIP_STAT n) 31 28 5)

/-- The effect of a write to LYR_FLIP (R105, R110): CANCEL first, then REQ; beside an ignored CANCEL the request waits for the acceptance. -/
def lyrFlip (n : Fin 8) (_ w : Word) (s : State) : State :=
  let r : FlipReq := ⟨bitsOf w 7 0, bitsOf w 13 8, bitOf w 14, bitOf w 15, s.now⟩
  let c := if bitOf w 30 then cancelFlip n s else (false, s)
  if !bitOf w 31 then c.2 else if c.1 then setLyr n (fun l => { l with after := some r }) c.2 else postFlip n r c.2

/-- The request that waited for an acceptance is judged after it (R110). -/
def postAfter (s : State) (n : Fin 8) : State :=
  match s.cmp.lyr[n].after with
  | none => s
  | some r => postFlip n r (setLyr n (fun l => { l with after := none }) s)

/-- Evaluate every flip at the commit deadline (R106 to R110): accepted flips consume their fences, each fence once. -/
def flipDeadline (s : State) : State :=
  let ev := evaluated s
  let s := s.over ev fun s x => if x.2.2 then acceptFlip x.1 x.2.1 s else deferFlip x.1 s
  let s := s.over ev fun s x => if x.2.2 && x.2.1.fenceEn then consumeFence x.2.1.fence s else s
  let s := (s.over ev fun s x => if x.2.2 then leaveArms x.1 s else s).over (List.finRange 8) postAfter
  s.over (List.finRange 8) fun s n => s.stSet (R.STAT (P.LYR n) 0) 15 8 (s.rf (R.LYR_FLIP_STAT n) 27 20)

/-- An accepted flip takes force at the tick (R103, R111): the old buffer enters RETIRING with its retire event one tick later. -/
def applyFlip (s : State) (n : Fin 8) : State :=
  let l := s.cmp.lyr[n]; let a := R.LYR_FLIP_STAT n
  let s := s.over l.drop fun s e => startRetire e (s.tickNum + 1) s
  let s := setLyr n (fun l => { l with drop := [] }) s
  match l.acc with
  | none => s
  | some b =>
    let s := if s.rb a 17 then startRetire (s.rf a 7 0) (s.tickNum + 1) s else s
    let s := match b with
      | some e => (s.wb a 17 true).wf a 7 0 e
      | none => (s.wb a 17 false).wf a 7 0 0
    (setLyr n (fun l => { l with acc := none }) s).irq (P.LYR n) 0

/-- Every accepted flip at the tick (R111). -/
def applyFlips (s : State) : State := s.over (List.finRange 8) applyFlip

end Sys2Proof.Machine
end

