-- ==== Sys2Proof/Machine/Dmv.lean ====
section
/-! DEFINITION. The data mover (R52 to R59, R530): posting, execution, abort and resume. -/

namespace Sys2Proof.Machine

/-- The effect of a write to DMV_POST (R59): COUNT descriptors after TAIL; a count that would raise INFLIGHT above 64 is dropped with DMV_ERR. R59 says
no more of BUSY than its name: the model sets it while descriptors are in flight, also on a channel that is halted or not enabled (DESIGN CHOICE, log
entry 172). -/
def dmvPost (c : Fin 4) (_ w : Word) (s : State) : State :=
  let n := bitsOf w 6 0; let r := R.DMV_RING_STATE c
  if inflight c s + n > 64 then raise Src.DMV_ERR s else
  let s := (s.wf r 22 16 (inflight c s + n)).wf r 13 8 (s.rf r 13 8 + n)
  if inflight c s = 0 then s else s.wb (R.STATUS (P.DMVC c)) 0 true

/-- The effect of a write to a channel's CTRL (R59): RESUME restarts a halted channel at its next posted descriptor. -/
def dmvCtrl (c : Fin 4) (_ w : Word) (s : State) : State :=
  if bitOf w 1 then (s.wb (R.STATUS (P.DMVC c)) 1 false).wb (R.STATUS (P.DMVC c)) 0 (inflight c s != 0) else s

/-- The end of a descriptor (R54, R56, R58): record, fence, interrupt; any status but OK halts the channel and raises DMV_ERR. A record that cannot be
written ends the descriptor as a write of its bytes would (log entry 132). -/
def endDesc (c : Fin 4) (d : Desc) (st moved verified : Nat) (s : State) : State :=
  let r := R.DMV_RING_STATE c; let p := P.DMVC c
  let w := if d.hasRec then putRecord c d.recAddr d.seq st moved verified s else (none, s)
  let st := if st ≠ 0 then st else match w.1 with
    | none => 0
    | some (.firewall _) => 3
    | some _ => 2
  let s := w.2
  let s := (s.wf r 22 16 (inflight c s - 1)).wf r 5 0 (s.rf r 5 0 + 1)
  let s := { s.irqIf d.irq p 0 with dmvLast := s.dmvLast.set c (some d.seq) }
  if st = 0 then
    let s := (s.wr (R.SEQ_DONE p) (word (65536 + d.seq))).wb (R.STATUS p) 0 (inflight c s != 0)
    settle (if d.fenceSig then signalFence d.fence s else s)
  else settle (((s.wb (R.STATUS p) 0 false).wb (R.STATUS p) 1 true).defer Src.DMV_ERR)

/-- How many bytes had been issued when byte `k` of `n` was refused at the destination: it and perhaps further ones, as a free value says; those of the
further ones that the destination takes may or may not have reached it (R54, R55). -/
def issuedPast (c : Fin 4) (d : Desc) (k n : Nat) (s : State) : Nat × State :=
  let (v, s) := s.fresh
  let m := v % (n - k)
  (k + 1 + m, looseBytes c d m (k + 1) s)

/-- A ring entry that cannot be read ends with `st`, without a record; its SEQ is not known, so the SEQ of the entry after it is not judged (log entry
132). -/
def unreadDesc (c : Fin 4) (st : Nat) (s : State) : State :=
  let s := endDesc c .none st 0 0 s
  { s with dmvLast := s.dmvLast.set c none }

/-- The next descriptor of channel `c` executes and completes (R52 to R58, R530). A channel that is off, halted or has nothing posted does nothing. A
ring entry outside main and retention SRAM or with an uncorrectable word completes without a record, as INVALID or SRC_ERR (log entry 132). -/
def dmvRun (c : Fin 4) (s : State) : State :=
  if !dmvActive c s then s else
  let da := descAddr c s
  if !descPlaced da then unreadDesc c 6 s else
  let r := guardedRead (.dmv c) da 32 s
  let s := r.2
  if r.1.isSome then unreadDesc c 1 s else
  let d := readDesc s da
  if seqBad c d s then endDesc c d 5 0 0 s
  else if descInvalid d s then endDesc c d 6 0 0 s
  else
    let m := descMode d s
    let cb := crcBytes (s.rf (R.CRC_CTX_CFG d.unit d.ctx) 1 0)
    let n := moveLen d s
    let o := transfer c d n 0 s
    let s := o.2.2
    if o.2.1 = 1 then endDesc c d 1 o.1 o.1 s
    else if o.2.1 ≠ 0 then let x := issuedPast c d o.1 n s; endDesc c d o.2.1 x.1 o.1 x.2
    else
      let v := (s.rd (R.CRC_CTX_RESULT d.unit d.ctx)).toNat
      let a := if m = 1 then guardedPut (.dmv c) (d.dst + d.len) (bytesLE cb v) none s else (none, s)
      let s := a.2
      match a.1 with
      | some (.firewall _) => endDesc c d 3 n n s
      | some _ => endDesc c d 2 n n s
      | none =>
        if m = 2 then
          let k := min cb (d.len * d.lines)
          let g := guardedRead (.dmv c) (d.src + n) k s
          if g.1.isSome then endDesc c d 1 n n g.2
          else endDesc c d 0 n n (crcVerdict d.unit d.ctx (ofLE (g.2.seeBytes (d.src + n) k) == v) g.2)
        else endDesc c d 0 n n s

/-- The effect of a write to DMV_ABORT (R57, R59), with how far the active descriptor had got. The interrupt controller has taken the channel's source
as it stood before (R63). -/
def dmvAbortHook (c : Fin 4) (moved verified : Nat) (_ w : Word) (s : State) : State :=
  if bitOf w 0 then settle (dmvAbort c moved verified (plicSample s)) else s

end Sys2Proof.Machine
end

