-- ==== Sys2Proof/Machine/LinkPacket.lean ====
section
/-! DEFINITION. Packets and training sets of the Sprindo link as they travel (R216 to R222, R233 to R235): their bytes, and the time they take. -/

namespace Sys2Proof.Machine

/-! ### Packets (R218 to R222) -/

/-- A packet (R218): header, payload, and the CRC-32C over both, least significant byte first. -/
def mkPacket (h p : List Nat) : List Nat := h ++ p ++ bytesLE 4 (crc32c (h ++ p))

/-- Codes packed in pairs into three bytes (R222). -/
def packCodes : List Nat → List Nat
  | a :: b :: t => bytesLE 3 (a % 4096 + b % 4096 * 4096) ++ packCodes t
  | [a] => bytesLE 3 (a % 4096)
  | [] => []

/-- A CODE packet of the codes of line `v` from column `u0` (R220, R221). -/
def codePacket (parity v u0 : Nat) (codes : List Nat) : List Nat :=
  mkPacket ([0x01, 2 * (parity % 2)] ++ bytesLE 2 v ++ bytesLE 2 u0 ++ bytesLE 2 codes.length) (packCodes codes)

/-- A CODE packet with FILL: `count` pixels take one code (R220, R221). -/
def fillPacket (parity v u0 count code : Nat) : List Nat :=
  mkPacket ([0x01, 1 + 2 * (parity % 2)] ++ bytesLE 2 v ++ bytesLE 2 u0 ++ bytesLE 2 count) (bytesLE 2 (code % 4096) ++ [0, 0])

/-- The packets of line `v` (R193, R194): a segment of 512 codes each, with FILL for the segments of `mask`, whose codes are all the same. -/
def linePackets (parity v mask : Nat) (codes : List Nat) : List (List Nat) :=
  (List.range (cdiv codes.length 512)).map fun k =>
    let c := (codes.drop (512 * k)).take 512
    if mask.testBit k then fillPacket parity v (512 * k) c.length (c.headD 0) else codePacket parity v (512 * k) c

/-- A SEQ packet (R220, R221): ORDER, MERGE_THR, MERGE_MIN and SEQ_ID. -/
def seqPacket (parity : Nat) (order : List Nat) (thr min id : Nat) : List Nat :=
  mkPacket [0x02, 2 * (parity % 2), 0, 0, 0, 0, 0, 0] (order ++ bytesLE 2 (thr % 4096) ++ [min, id] ++ List.replicate 12 0)

/-- A CTRL packet (R220, R221). -/
def ctrlPacket (c : CtrlCmd) : List Nat := mkPacket ([0x03, c.cmd % 256, c.alive % 256, 0] ++ bytesLE 4 c.addr) (bytesLE 4 c.data)

/-- A MARK packet (R220, R221). -/
def markPacket (flags delay num len : Nat) : List Nat := mkPacket ([0x04, flags] ++ bytesLE 2 delay ++ bytesLE 4 num) (bytesLE 4 len ++ [0, 0, 0, 0])

/-! ### Sending (R215 to R217) -/

/-- The character clock of tile `t`'s link in MHz (R215). -/
def charClock (s : State) (t : Fin 4) : Nat := let r := s.rf (R.STATUS (P.SPLT t)) 9 8; if r = 1 then 240 else if r = 2 then 320 else 160

/-- A column in units of 1/24 ns, of which every rate's column is a whole number. -/
def columnTime (s : State) (t : Fin 4) : Nat := 24000 / charClock s t

/-- Columns of a packet of `n` bytes (R216): SOP, the bytes over the lanes in use, EOP. -/
def columnsOf (s : State) (t : Fin 4) (n : Nat) : Nat := cdiv n (max 1 (lanesOf (s.rf (R.STATUS (P.SPLT t)) 7 4))) + 2

/-- A packet goes out on tile `t`'s link as soon as the link is free after `at_`, in units of 1/24 ns (R216): after an IDLE column where the packets
before it have ended 1,024 columns or more after the last one (R217). -/
def sendPacket (t : Fin 4) (at_ : Nat) (s : State) (pkt : List Nat) : State :=
  let x := s.tile[t]; let c := columnTime s t; let n := columnsOf s t pkt.length
  let idle := decide (x.free < at_)
  let gap := !idle && decide (1024 ≤ x.cols)
  s.setTile t fun x => { x with
    out := x.out ++ [pkt], free := max at_ (x.free + bit gap * c) + n * c, cols := (if idle || gap then 0 else x.cols) + n }

/-- The device's time in units of 1/24 ns. -/
def State.now24 (s : State) : Nat := 24 * s.now

/-- A packet begun now ends by the time `lim` in ns. -/
def endsBy (s : State) (t : Fin 4) (lim : Nat) (pkt : List Nat) : Bool := decide ((sendPacket t s.now24 s pkt).tile[t].free ≤ 24 * lim)

/-! ### Diagnosis records (R233) -/

/-- Bytes `[o, o + n)` of a packet or a payload, little-endian. -/
def field (l : List Nat) (o n : Nat) : Nat := ofLE ((l.drop o).take n)

/-- A record: TYPE, argument, words. -/
structure DiagRec where
  type : Nat
  arg : Nat
  words : List Word
  deriving DecidableEq, Repr

/-- Split a payload into whole records; `none` where one spans its end or has a reserved type. -/
def diagRecords : Nat → List Word → Option (List DiagRec)
  | 0, l => if l.isEmpty then some [] else none
  | n + 1, l => match l with
    | [] => some []
    | h :: t =>
      let ty := bitsOf h 7 0; let len := bitsOf h 15 8
      if t.length < len || ty == 0 || (decide (5 < ty) && decide (ty < 0x80)) then none else
      (diagRecords n (t.drop len)).map fun r => ⟨ty, bitsOf h 31 16, t.take len⟩ :: r

/-- Word `i` of a record. -/
def DiagRec.w (r : DiagRec) (i : Nat) : Word := r.words.getD i 0#32

/-- The 32-bit words of a payload. -/
def payWords (l : List Nat) : List Word := (List.range (l.length / 4)).map fun k => word (field l (4 * k) 4)

/-- The records of a DIAG payload. -/
def recordsOf (pay : List Nat) : Option (List DiagRec) := diagRecords (pay.length / 4) (payWords pay)

/-! ### Return packets (R218 to R221) -/

/-- A return packet that stood the checks of R219: byte 1, RX_ALIVE, byte 3, bytes 4 to 7, and its payload. -/
structure Rx where
  b1 : Nat
  alive : Nat
  b3 : Nat
  arg : Nat
  pay : List Nat
  deriving DecidableEq, Repr

/-- The length and the reserved fields that a return packet's TYPE asks for (R218 to R221): 0x81 ACK, 0x82 DIAG of whole records, 0x83 ENUM, 0x84 FSTAT. -/
def rxShape (type : Nat) (r : Rx) : Bool :=
  let n := r.pay.length
  if type = 0x81 then n == 0
  else if type = 0x82 then decide (4 ≤ n) && decide (n ≤ 1024) && n % 4 == 0 && (recordsOf r.pay).isSome && decide (r.b1 < 2) && r.b3 == 0
  else if type = 0x83 then n == 96 && r.b1 == 0 && r.b3 == 0 && r.arg == 0
  else type == 0x84 && n == 16 && r.b1 == 0 && r.b3 == 0

/-- The return packet of TYPE `type` that the bytes between SOP and EOP are, `none` where R219 has it discarded. -/
def parseRx (type : Nat) (l : List Nat) : Option Rx :=
  let n := l.length - 4
  let r : Rx := ⟨field l 1 1, field l 2 1, field l 3 1, field l 4 4, (l.take n).drop 8⟩
  if 12 ≤ l.length ∧ field l 0 1 = type ∧ rxShape type r ∧ crc32c (l.take n) = field l n 4 then some r else none

/-! ### Training sets (R235) -/

/-- A TS1 or, with `two`, a TS2 of 16 characters: K28.5, lane number, RATES, LANES, RATE, and D10.2 or D5.2. -/
def tsSet (two : Bool) (lane rates lanes rate : Nat) : List Nat :=
  [0xBC, lane, rates, lanes, if two then rate else 0] ++ List.replicate 11 (if two then 0x45 else 0x4A)

/-- The sets that the scan-out sends on the lanes of mask `m` (R235): all three rates, and the lanes and the rate chosen. -/
def tsSets (two : Bool) (m lanes rate : Nat) : List (List Nat) := ((List.range 4).filter m.testBit).map fun l => tsSet two l 7 lanes rate

/-- A set received on the return lane is a TS1 or a TS2 (R235): the return lane uses lane number 0. -/
def isTs (two : Bool) (l : List Nat) : Bool := l == tsSet two 0 (field l 2 1) (field l 3 1) (field l 4 1)

end Sys2Proof.Machine
end

