-- ==== Sys2Proof/Machine/Scaler.lean ====
section
/-! DEFINITION. The pre-scalers' arithmetic (R84 to R91) and the end of a pass (R97). -/

namespace Sys2Proof.Machine

/-- Coefficients of the BILINEAR filter at phase `p` (R89). -/
def bilinear (p : Nat) : List Int := [1024 - 32 * p, 32 * p]

/-- Coefficients of the CUBIC filter at phase `p` (R89): the convolution kernel with a = -0.5 in S1.10, the second tap making the sum 1,024. -/
def cubic (p : Nat) : List Int :=
  let t : Int := p
  let c0 := rnd 6 (-(t ^ 3) + 64 * t ^ 2 - 1024 * t)
  let c2 := rnd 6 (-(3 * t ^ 3) + 128 * t ^ 2 + 1024 * t)
  let c3 := rnd 6 (t ^ 3 - 32 * t ^ 2)
  [c0, 1024 - c0 - c2 - c3, c2, c3]

/-- Coefficient `k` of a coefficient memory of two S1.10 values a word (R118). -/
def coef (s : State) (a : Nat → Nat) (k : Nat) : Int :=
  if k % 2 = 0 then sx 12 (s.rf (a (k / 2)) 11 0) else sx 12 (s.rf (a (k / 2)) 27 16)

/-- The coefficients of one direction at phase `p` (R89): tap (k mod T) of phase k / T, with T the memory's own tap count. -/
def sclCoefs (s : State) (a : Nat → Nat) (memTaps filt taps p : Nat) : List Int :=
  if filt = 0 then bilinear p
  else if filt = 1 then cubic p
  else (List.range taps).map fun k => coef s a (memTaps * p + k)

/-- A source texel's working value and alpha (R86). What a texel with an uncorrectable error gives the spec leaves open: a free value for each. -/
def sclTexel (s : State) (e : BufEntry) (x y : Nat) : Int × Int :=
  let b := e.base + y * e.stride + 2 * x
  let free := Config.free (s.free + (b - e.base))
  let b0 := if s.isUe b then free % 256 else s.ldN b
  let w := b0 + 256 * (if s.isUe b then free / 256 % 256 else s.ldN (b + 1))
  if e.fmt = 0 then (w, 0xFFFF)
  else if e.fmt = 1 then (b0 * 257, (w / 256 * 257 : Nat))
  else if e.fmt = 5 then (b0 * 257, 0xFFFF)
  else if e.fmt = 6 then ((w % 1024 * 64 + w % 1024 / 16 : Nat), 0xFFFF)
  else ((w % 4096 * 16 + w % 4096 / 256 : Nat), 0xFFFF)

/-- The source position of output position `o` in U16.16 (R87): half a step rounded to nearest, ties up, and saturated (R8). -/
def sclPos (step c o : Nat) : Nat := satU 32 ((c * 65536 + ((2 * o + 1) * step + 1) / 2 : Nat) - 0x8000 : Int)

/-- Source taps of output position `o` (R87): indices clamped to the crop window `[c, c + n)`, with their coefficients. -/
def sclTaps (coefs : Nat → List Int) (taps step c n o : Nat) : List (Nat × Int) :=
  let p : Int := sclPos step c o
  let clamp := fun (i : Int) => (max (c : Int) (min i (c + n - 1))).toNat
  if taps = 1 then [(clamp ((p + 0x8000) / 65536), 1024)]
  else
    let i := p / 65536
    let ph := ((p % 65536) / 2048).toNat
    ((coefs ph).zipIdx).map fun (k, j) => (clamp (i - (taps / 2 : Nat) + 1 + j), k)

/-- A filtered output value pair (R88): vertical sums, then the horizontal sum, exact, then (Σ + 2^19) >> 20 saturated to 16 bits. -/
def sclPixel (s : State) (e : BufEntry) (hs vs : List (Nat × Int)) : Nat × Nat :=
  let col := fun x => vs.foldl (fun (a : Int × Int) t => let v := sclTexel s e x t.1; (a.1 + t.2 * v.1, a.2 + t.2 * v.2)) (0, 0)
  let r := hs.foldl (fun (a : Int × Int) t => let v := col t.1; (a.1 + t.2 * v.1, a.2 + t.2 * v.2)) (0, 0)
  (satU 16 (rnd 20 r.1), satU 16 (rnd 20 r.2))

/-- The output bytes of a pixel (R88). -/
def sclOut (s : State) (k : Fin 4) (e : BufEntry) (r : Nat × Nat) : List Nat :=
  if s.rb (R.SCL_CFG k) 18 then [min 255 ((r.1 + 0x80) / 256), min 255 ((r.2 + 0x80) / 256)]
  else bytesLE 2 (if e.fmt = 0 then r.1 else satU 16 (rnd 16 (r.1 * s.rf (R.SCL_LSCALE k) 15 0)))

/-- Row `y` of the image that a pass writes. -/
def sclRow (s : State) (k : Fin 4) (e d : BufEntry) (y : Nat) : List Nat :=
  let cfg := R.SCL_CFG k; let filt := s.rf cfg 17 16
  let ht := s.rf cfg 14 11; let vt := s.rf cfg 10 8
  let hs := sclCoefs s (R.SCL_HCOEF k) 8 filt ht
  let vs := sclCoefs s (R.SCL_VCOEF k) 6 filt vt
  let v := sclTaps vs vt (s.rf (R.SCL_STEP_V k) 23 0) (s.rf (R.SCL_CROP_XY k) 30 16) (s.rf (R.SCL_CROP_WH k) 30 16) y
  (List.range d.w).flatMap fun x =>
    sclOut s k e (sclPixel s e (sclTaps hs ht (s.rf (R.SCL_STEP_H k) 23 0) (s.rf (R.SCL_CROP_XY k) 14 0) (s.rf (R.SCL_CROP_WH k) 14 0) x) v)

/-- Read the crop window row by row (R84, R535, R536). -/
def sclRead (k : Fin 4) (e : BufEntry) (s : State) : State :=
  let x := s.rf (R.SCL_CROP_XY k) 14 0; let y := s.rf (R.SCL_CROP_XY k) 30 16
  s.over (List.range (s.rf (R.SCL_CROP_WH k) 30 16)) fun s j =>
    (guardedRead (.scl k) (e.base + (y + j) * e.stride + 2 * x) (2 * s.rf (R.SCL_CROP_WH k) 14 0) s).2

/-- Write the pass's image into its destination row by row (R84): a row is dropped where memory is guarded, by the firewall among others if the
destination has been flipped meanwhile (R102). -/
def sclWrite (k : Fin 4) (p : SclPass) (s : State) : State :=
  let e := s.buf p.src; let d := s.buf p.dst
  let src := s
  let s := (sclRead k e s).over (List.range d.h) fun s y =>
    let a := d.base + y * d.stride; let l := sclRow src k e d y
    (guardedPut (.scl k) a l (partialUe s a l.length) s).2
  settle { s with free := s.free + (extentEnd e - e.base) }

/-- A completed pass is shown and counted (R97). -/
def sclShow (k : Fin 4) (p : SclPass) (s : State) : State :=
  let s := (s.wr (R.SCL_PASS k) (word (((s.rf (R.SCL_PASS k) 31 16 + 1) % 65536) * 65536 + p.dst))).irq (P.SCL k) 0
  s.stAdd (R.STAT (P.SCL k) 0) 15 0 1

/-- DONE_FENCE of a completed pass is signalled (R97). -/
def sclFence (k : Fin 4) (s : State) : State := if s.rb (R.SCL_CFG k) 19 then signalFence (s.rf (R.SCL_CFG k) 25 20) s else s

/-- The auto-flip of a completed pass (R97): a request that it replaces is counted. -/
def sclFlip (k : Fin 4) (p : SclPass) (s : State) : State :=
  let cfg := R.SCL_CFG k
  if !s.rb cfg 26 then s else
  let n : Fin 8 := Fin.ofNat 8 (s.rf cfg 29 27)
  let s := if s.cmp.lyr[n].pend.isSome then s.stAdd (R.STAT (P.SCL k) 0) 31 16 1 else s
  postFlip n ⟨p.dst, s.rf cfg 25 20, s.rb cfg 19, false, s.now⟩ s

/-- Pre-scaler `k` has no pass running. -/
def sclIdle (k : Fin 4) (s : State) : State := ({ s with cmp := { s.cmp with scl := s.cmp.scl.set k none } }).wb (R.STATUS (P.SCL k)) 0 false

/-- The end of a pass (R95, R97): the image is complete, SCL_PASS, DONE_FENCE, the auto-flip, and the release of the source. The pass uses the
registers live at its end, also where a commit has applied during it (log entry 140). -/
def sclEnd (k : Fin 4) (s : State) : State :=
  match s.cmp.scl[k] with
  | none => s
  | some p => sclFlip k p (sclFence k (sclShow k p (sclRelease p (sclIdle k (sclWrite k p s)))))

/-- The effect of a write to SCL_KICK (R92): a trigger. -/
def sclKick (k : Fin 4) (_ w : Word) (s : State) : State := if bitOf w 0 ∧ s.rf (R.SCL_CFG k) 1 0 = 0 then sclTrigger k s else s

end Sys2Proof.Machine
end

