-- ==== Sys2Proof/Machine/Compose.lean ====
section
/-! DEFINITION. What the pipes compute for one pixel (R66 to R83, R121 to R141, R147 to R156, R177, R261, R264): the road point, the layers,
the masks, the drive, the repair and the code. -/

namespace Sys2Proof.Machine

/-! ### The mesh (R124 to R130) -/

/-- A mesh record (R125). -/
structure MeshPt where
  x : Int
  y : Int
  pf : Nat
  az : Nat
  el : Int
  valid : Bool
  deriving DecidableEq, Repr

/-- Address of mesh point (i, j) of tile `t` (R124). -/
def meshAddr (s : State) (t : Fin 4) (i j : Nat) : Nat := (s.rd (R.WRP_MESH_BASE t)).toNat + (65 * j + i) * 16

/-- Mesh point (i, j): a record read with an uncorrectable error counts as not VALID (R130). -/
def meshPt (s : State) (t : Fin 4) (i j : Nat) : MeshPt :=
  let a := meshAddr s t i j
  ⟨sx 32 (s.ldLE a 4), sx 32 (s.ldLE (a + 4) 4), s.ldLE (a + 8) 2, s.ldLE (a + 10) 2, sx 16 (s.ldLE (a + 12) 2),
    (s.ldN (a + 14)).testBit 0 && !s.anyUe a 16⟩

/-- The bilinear arithmetic of R75 and R127. -/
def lerp4 (p00 p10 p01 p11 : Int) (fx fy : Nat) : Int :=
  ((p00 * (256 - fx) + p10 * fx) * (256 - fy) + (p01 * (256 - fx) + p11 * fx) * fy + 0x8000) / 65536

/-- log2 of the cell size of tile `t` (R126). -/
def cellShift (s : State) (t : Fin 4) : Nat := s.rf (R.WRP_GEOM t) 30 28

/-- The four mesh points around pixel (u, v), and its fractions (R127). -/
structure Cell where
  p00 : MeshPt
  p10 : MeshPt
  p01 : MeshPt
  p11 : MeshPt
  fx : Nat
  fy : Nat
  deriving DecidableEq, Repr

/-- The cell of pixel (u, v). -/
def cellOf (s : State) (t : Fin 4) (u v : Nat) : Cell :=
  let sh := cellShift s t; let c := 2 ^ sh
  let i := u / c; let j := v / c
  ⟨meshPt s t i j, meshPt s t (i + 1) j, meshPt s t i (j + 1), meshPt s t (i + 1) (j + 1), u % c * 2 ^ (8 - sh), v % c * 2 ^ (8 - sh)⟩

/-- The pixel has a road point (R128). -/
def Cell.onRoad (c : Cell) : Bool := c.p00.valid && c.p10.valid && c.p01.valid && c.p11.valid

/-- Interpolate a field over the cell (R127). -/
def Cell.at (c : Cell) (f : MeshPt → Int) : Int := lerp4 (f c.p00) (f c.p10) (f c.p01) (f c.p11) c.fx c.fy

/-- Is pixel (u, v) on the road (R128)? -/
def onRoad (s : State) (t : Fin 4) (u v : Nat) : Bool := s.en P.WRP && (cellOf s t u v).onRoad

/-! ### Layers (R66 to R83) -/

/-- The entry layer `n` shows, if it holds a buffer. -/
def curBuf (s : State) (n : Fin 8) : Option BufEntry :=
  if s.rb (R.LYR_FLIP_STAT n) 17 then some (s.buf (s.rf (R.LYR_FLIP_STAT n) 7 0)) else none

/-- Layer `n` is active, holds a buffer and covers tile `t` (R66, R117); a RAW layer only in FACTORY, COMMISSION and SERVICE (R73). -/
def layerFor (s : State) (t : Fin 4) (n : Fin 8) : Option BufEntry :=
  if s.rb (R.LYR_CFG n) 0 && s.frm.lyrEn.testBit n && s.rb (R.LYR_CFG n) (16 + t) then
    match curBuf s n with
    | some e => if isRaw e.fmt && !specialMode s then none else some e
    | none => none
  else none

/-- scale(n) of R71. -/
def lscale (s : State) (n : Fin 8) (x : Nat) : Nat := (x * s.rf (R.LYR_LSCALE n) 15 0 + 0x8000) / 65536

/-- Address of the first byte of texel (i, j) (R71). -/
def texelAddr (e : BufEntry) (i j : Nat) : Nat := e.base + j * e.stride + i * fmtBits e.fmt / 8

/-- Value and alpha of the texel (i, j) inside the buffer (R71). -/
def texelIn (s : State) (n : Fin 8) (e : BufEntry) (i j : Nat) : Nat × Nat :=
  let a := texelAddr e i j
  let b := s.ldN a; let w := s.ldLE a 2
  if e.fmt = 0 then (w, 0xFFFF)
  else if e.fmt = 1 then (lscale s n (b * 257), s.ldN (a + 1) * 257)
  else if e.fmt = 2 then (s.rf (R.LYR_PAL n b) 15 0, s.rf (R.LYR_PAL n b) 31 16)
  else if e.fmt = 3 then (s.rf (R.LYR_CONST_VALUE n) 15 0, b * 257)
  else if e.fmt = 4 then (s.rf (R.LYR_CONST_VALUE n) 15 0, if b.testBit (i % 8) then 0xFFFF else 0)
  else if e.fmt = 5 then (lscale s n (b * 257), 0xFFFF)
  else if e.fmt = 6 then (lscale s n (w % 1024 * 64 + w % 1024 / 16), 0xFFFF)
  else (lscale s n (w % 4096 * 16 + w % 4096 / 256), 0xFFFF)

/-- Column or row clamped into the buffer. -/
def clampIdx (i : Int) (n : Nat) : Nat := min i.toNat (n - 1)

/-- The texel at any (i, j): outside the buffer the nearest texel's value with alpha 0 (R76). -/
def texel (s : State) (n : Fin 8) (e : BufEntry) (i j : Int) : Nat × Nat :=
  let t := texelIn s n e (clampIdx i e.w) (clampIdx j e.h)
  if 0 ≤ i ∧ i < e.w ∧ 0 ≤ j ∧ j < e.h then t else (t.1, 0)

/-- Where a sample lies (R74): the texel (i, j) and the fractions. -/
structure Place where
  i : Int
  j : Int
  fx : Nat
  fy : Nat
  deriving DecidableEq, Repr

/-- One coordinate of R74: sat32 of the offset position by INV_PITCH, less half a texel. -/
def texPos (x org ofs : Int) (inv : Nat) : Int := satS 32 (satS 32 (x - satS 32 (org + ofs)) * inv / 65536) - 0x8000

/-- The sample place of layer `n` for road point (x, y) or array pixel (R74). -/
def placeOf (s : State) (t : Fin 4) (n : Fin 8) (x y : Int) (u v : Nat) : Place :=
  let array := s.rb (R.LYR_CFG n) 1
  let px : Int := if array then (s.arrX t u : Int) * 65536 else x
  let py : Int := if array then (s.arrY t v : Int) * 65536 else y
  let uf := texPos px (sw (s.rd (R.LYR_ORG_X n))) (sw (s.rd (R.LYR_OFS_X n))) (s.rd (R.LYR_INV_PITCH_X n)).toNat
  let vf := texPos py (sw (s.rd (R.LYR_ORG_Y n))) (sw (s.rd (R.LYR_OFS_Y n))) (s.rd (R.LYR_INV_PITCH_Y n)).toNat
  ⟨uf / 65536, vf / 65536, (uf / 256 % 256).toNat, (vf / 256 % 256).toNat⟩

/-- The four texels a sample reads, as places inside the buffer. -/
def sampleTexels (e : BufEntry) (p : Place) : List (Nat × Nat) :=
  let i0 := clampIdx p.i e.w; let i1 := clampIdx (p.i + 1) e.w; let j0 := clampIdx p.j e.h; let j1 := clampIdx (p.j + 1) e.h
  [(i0, j0), (i1, j0), (i0, j1), (i1, j1)]

/-- Bytes of a texel. -/
def texelLen (e : BufEntry) : Nat := if fmtBits e.fmt = 16 then 2 else 1

/-- The last texel of a sample that is read with an uncorrectable error (R78, R116), in the order in which R75 names the texels. -/
def sampleUe (s : State) (e : BufEntry) (p : Place) : Option Nat :=
  (((sampleTexels e p).map fun q => texelAddr e q.1 q.2).filter fun a => s.anyUe a (texelLen e)).getLast?

/-- round16 of R79. -/
def round16 (a x : Nat) : Nat := let t := a * x + 0x8000; (t + t / 65536) / 65536

/-- Interpolated value and alpha of a sample (R75). -/
def sampleAt (s : State) (n : Fin 8) (e : BufEntry) (p : Place) : Nat × Nat :=
  let a := texel s n e p.i p.j; let b := texel s n e (p.i + 1) p.j
  let c := texel s n e p.i (p.j + 1); let d := texel s n e (p.i + 1) (p.j + 1)
  ((lerp4 a.1 b.1 c.1 d.1 p.fx p.fy).toNat, (lerp4 a.2 b.2 c.2 d.2 p.fx p.fy).toNat)

/-- Does texel (i, j) lie in the window of function `f` (R260)? -/
def inWindow (s : State) (f : Fin 32) (i j : Int) : Bool :=
  decide ((s.rf (R.DRV_FN_WIN_I f) 15 0 : Int) ≤ i) && decide (i ≤ (s.rf (R.DRV_FN_WIN_I f) 31 16 : Int)) &&
  decide ((s.rf (R.DRV_FN_WIN_J f) 15 0 : Int) ≤ j) && decide (j ≤ (s.rf (R.DRV_FN_WIN_J f) 31 16 : Int))

/-- A function switched off empties the sample (R264). -/
def switchedOff (s : State) (n : Fin 8) (p : Place) : Bool :=
  (List.finRange 32).any fun f => s.frm.fnOff.testBit f && s.rf (R.DRV_FN_CFG f) 3 1 == n.val && inWindow s f p.i p.j

/-- Effective alpha of a sample with texel alpha `a` (R77). -/
def effAlpha (s : State) (n : Fin 8) (a : Nat) : Nat :=
  let src := s.rf (R.LYR_CFG n) 6 5; let c := s.rf (R.LYR_CONST_ALPHA n) 15 0
  if src = 0 then 0xFFFF else if src = 1 then c else if src = 2 then a else round16 a c

/-- Energy class layer `n` composes as: the pool layer as class 1 while the mask engine uses it (R70). -/
def classOf (s : State) (n : Fin 8) : Nat :=
  if s.en P.GLM && s.rb R.GLM_CFG 2 && s.rf R.GLM_CFG 10 8 == n.val then 1 else s.rf (R.LYR_CFG n) 9 8

/-- Scaled value (R80): OVER, ADD and MAX by K_c; MUL and CEIL not. -/
def classScale (s : State) (n : Fin 8) (x : Nat) : Nat :=
  if s.rf (R.LYR_CFG n) 4 2 ≤ 2 then (x * s.rf (R.CMP_CLASS_SCALE (classOf s n)) 15 0 + 0x4000) / 32768 else x

/-- The operators (R81). -/
def blend (op d x a : Nat) : Nat :=
  if op = 0 then (let t := a * x + (65535 - a) * d + 0x8000; (t + t / 65536) / 65536)
  else if op = 1 then min 0xFFFF (d + round16 a x)
  else if op = 2 then (if a = 0 then d else max d x)
  else if op = 3 then round16 a d
  else if a = 0 then d else min d x

/-- What the composition of a pixel gives: result, saturating ADDs (R82), light offered by class (R83), layers that covered it (R117), texels
read with an uncorrectable error (R78). -/
structure Comp where
  d : Nat
  sat : Nat
  offered : List Nat
  cover : List Nat
  ue : List Nat
  deriving DecidableEq, Repr

/-- One layer of R66. -/
def compLayer (s : State) (t : Fin 4) (x y : Int) (u v : Nat) (acc : Comp) (n : Fin 8) : Comp :=
  match layerFor s t n with
  | none => acc
  | some e =>
    let p := placeOf s t n x y u v
    match sampleUe s e p with
    | some a => { acc with ue := acc.ue ++ [a] }
    | none =>
      if switchedOff s n p then acc else
      let va := sampleAt s n e p
      let a := effAlpha s n va.2
      let op := s.rf (R.LYR_CFG n) 4 2
      let x' := classScale s n va.1
      let o := if op ≤ 2 then round16 a x' else 0
      ⟨blend op acc.d x' a, acc.sat + (if op = 1 ∧ 0xFFFF < acc.d + round16 a x' then 1 else 0),
        acc.offered.set (classOf s n) (acc.offered.getD (classOf s n) 0 + o),
        if a = 0 then acc.cover else acc.cover ++ [n.val], acc.ue⟩

/-- The composition of pixel (u, v) at road point (x, y) (R66); 0 lux while CMP EN is 0 (R116). -/
def compose (s : State) (t : Fin 4) (x y : Int) (u v : Nat) : Comp :=
  let z : Comp := ⟨s.rf R.CMP_BASE_LUX 15 0, 0, [0, 0, 0, 0], [], []⟩
  if s.en P.CMP then (List.finRange 8).foldl (compLayer s t x y u v) z else { z with d := 0 }

/-! ### Footprints (R261) -/

/-- The pixel belongs to the footprint of function `f` (R261), whatever its switch-off and constant alpha. -/
def inFootprint (s : State) (t : Fin 4) (x y : Int) (u v : Nat) (f : Fin 32) : Bool :=
  let n : Fin 8 := Fin.ofNat 8 (s.rf (R.DRV_FN_CFG f) 3 1)
  match layerFor s t n with
  | none => false
  | some e =>
    let p := placeOf s t n x y u v
    let src := s.rf (R.LYR_CFG n) 6 5
    s.rb (R.DRV_FN_CFG f) 0 && inWindow s f p.i p.j &&
      decide (s.rf (R.DRV_FN_CFG f) 15 8 * 257 ≤ (if src = 0 ∨ src = 1 then 0xFFFF else (sampleAt s n e p).2))

/-- The lowest enabled function whose footprint holds the pixel, 0xFF for none (R261). -/
def footprint (s : State) (t : Fin 4) (x y : Int) (u v : Nat) : Nat :=
  (((List.finRange 32).find? (inFootprint s t x y u v)).map fun f => f.val).getD 0xFF

/-! ### Masks (R177, R183) -/

/-- The frame being composed is `TICK_NUM + 1`, also before the first alignment's jump of TICK_NUM (DESIGN CHOICE, log entry 179). -/
def State.frame (s : State) : Nat := s.tickNum + 1

/-- How band `b` of tile `t` is masked (R180): 0 current plane, 1 previous plane, 2 DARK, 3 not masked. -/
def bandSrc (s : State) (t : Fin 4) (b : Nat) : Nat := bitsOf (s.st (R.GLM_STAT_BANDSRC t)) (2 * b + 1) (2 * b)

/-- Address of the glare byte of a pixel in the plane of frame `n` (R176). -/
def glareAddr (s : State) (t : Fin 4) (n u v : Nat) : Nat :=
  (s.rd (R.GLM_PLANE_BASE t)).toNat + n % 2 * (s.tw t * s.th t) + v * s.tw t + u

/-- Address of the privacy byte of a pixel (R186). -/
def privAddr (s : State) (t : Fin 4) (u v : Nat) : Nat := (s.rd (R.GLM_PRIV_BASE t)).toNat + v * s.tw t + u

/-- A mask byte: 0 where it is read with an uncorrectable error (R178). -/
def maskByte (s : State) (a : Nat) : Nat := if s.isUe a then 0 else s.ldN a

/-- The glare byte applied to a pixel (R177, R183). -/
def glareByte (s : State) (t : Fin 4) (u v : Nat) : Nat :=
  let src := bandSrc s t (v / 64)
  if !s.rb R.GLM_CFG 0 || src == 3 then 255
  else if src = 2 then s.rf R.GLM_LATE_LEVEL 7 0
  else maskByte s (glareAddr s t (if src = 1 then s.frame + 1 else s.frame) u v)

/-- The privacy byte applied to a pixel. -/
def privByte (s : State) (t : Fin 4) (u v : Nat) : Nat := if s.rb R.GLM_CFG 1 then maskByte s (privAddr s t u v) else 255

/-- A mask byte of the pixel is read with an uncorrectable error (R178). -/
def maskUe (s : State) (t : Fin 4) (u v : Nat) : Bool :=
  (s.rb R.GLM_CFG 0 && decide (bandSrc s t (v / 64) < 2) &&
    s.isUe (glareAddr s t (if bandSrc s t (v / 64) = 1 then s.frame + 1 else s.frame) u v)) ||
  (s.rb R.GLM_CFG 1 && s.isUe (privAddr s t u v))

/-- The masked lux (R177). -/
def masked (s : State) (t : Fin 4) (u v d : Nat) : Nat := round16 (privByte s t u v * 257) (round16 (glareByte s t u v * 257) d)

/-- g or p of the pixel is below 255 (R180). -/
def pixelCut (s : State) (t : Fin 4) (u v : Nat) : Bool := decide (glareByte s t u v < 255) || decide (privByte s t u v < 255)

/-! ### Photometry (R132 to R141) -/

/-- sat24 of R132, with the count of saturations. -/
def sat24 (x : Nat) : Nat × Nat := if 0xFFFFFF < x then (0xFFFFFF, 1) else (x, 0)

/-- Address of the gain word of a pixel (R137). -/
def gainAddr (s : State) (t : Fin 4) (u v : Nat) : Nat := (s.rd (R.PHO_GAIN_BASE t)).toNat + 2 * (v * s.tw t + u)

/-- Address of the dose word of a pixel (R138). -/
def doseAddr (s : State) (t : Fin 4) (u v : Nat) : Nat := (s.rd (R.PHO_DOSE_BASE t)).toNat + 2 * (v * s.tw t + u)

/-- Aging gain at dose `e` (R141). -/
def ageGain (s : State) (t : Fin 4) (e : Nat) : Nat :=
  let k := e / 1024
  let p := fun i => s.rf (R.PHO_AGE t i) 15 0
  if k = 63 then p 63 else ((p k : Int) + (((p (k + 1) : Int) - p k) * (e % 1024 : Nat) + 512) / 1024).toNat

/-- GA of a pixel: 1.0 where the dose word is read with an uncorrectable error (R139). -/
def pixelGa (s : State) (t : Fin 4) (u v : Nat) : Nat :=
  if s.isUe (doseAddr s t u v) then 0x1000 else ageGain s t (s.ldLE (doseAddr s t u v) 2)

/-- GP of a pixel: 0 where the gain word is read with an uncorrectable error (R137). -/
def pixelGp (s : State) (t : Fin 4) (u v : Nat) : Nat := if s.isUe (gainAddr s t u v) then 0 else s.ldLE (gainAddr s t u v) 2

/-- The two clamps of stage 6 in U16.8: the thermal ceiling of the frame and the hardware limit (R133). -/
def clampOf (s : State) (t : Fin 4) : Nat := min (s.rf (R.PHO_IN_USE t) 11 0 * 256) (s.frm.hw[t] * 256)

/-- Stages 4 to 6 of a pixel: D4, the saturations of R132, and whether a clamp limited it. -/
structure Drive where
  d4 : Nat
  sat : Nat
  clamped : Bool
  deriving DecidableEq, Repr

/-- Stages 4 to 6 (R132, R133). -/
def driveOf (s : State) (t : Fin 4) (u v l pf : Nat) : Drive :=
  let a := sat24 ((l * pf + 8) / 16)
  let b := sat24 ((a.1 * pixelGp s t u v + 0x800) / 4096)
  let c := sat24 ((b.1 * pixelGa s t u v + 0x800) / 4096)
  let d := sat24 ((c.1 * s.rf (R.PHO_IN_USE t) 31 16 + 0x800) / 4096)
  ⟨min d.1 (clampOf s t), a.2 + b.2 + c.2 + d.2, decide (clampOf s t < d.1)⟩

/-- What stages 1 to 6 give for a pixel on the road. -/
structure Stage6 where
  comp : Comp
  drive : Drive
  fp : Nat
  deriving DecidableEq, Repr

/-- Stages 1 to 6 of pixel (u, v), `none` off the road (R128). -/
def stage6 (s : State) (t : Fin 4) (u v : Nat) : Option Stage6 :=
  if !onRoad s t u v then none else
  let c := cellOf s t u v
  let x := c.at MeshPt.x; let y := c.at MeshPt.y; let pf := (c.at fun p => p.pf).toNat
  let k := compose s t x y u v
  some ⟨k, driveOf s t u v (masked s t u v k.d) pf, footprint s t x y u v⟩

/-! ### Repair (R147 to R149) -/

/-- A repair-map entry as its words 0 to 3 (R147). -/
structure RmapEntry where
  w0 : Word
  w1 : Word
  w2 : Word
  w3 : Word
  deriving DecidableEq, Repr

/-- PHO_RMAP_BASE is valid: the 262,144 bytes lie in main SRAM (R147). -/
def rmapValid (s : State) : Bool :=
  decide (0x10000000 ≤ (s.rd R.PHO_RMAP_BASE).toNat) && decide ((s.rd R.PHO_RMAP_BASE).toNat + 262144 ≤ 0x13000000)

/-- Address of entry `i`. -/
def rmapAddr (s : State) (i : Nat) : Nat := (s.rd R.PHO_RMAP_BASE).toNat + 16 * i

/-- Entry `i` of the map. -/
def rmapEntry (s : State) (i : Nat) : RmapEntry :=
  let a := rmapAddr s i
  ⟨word (s.ldLE a 4), word (s.ldLE (a + 4) 4), word (s.ldLE (a + 8) 4), word (s.ldLE (a + 12) 4)⟩

/-- The valid entries at the start of the map, from entry `i` with `n` places left (R147). -/
def rmapFrom (s : State) : Nat → Nat → List RmapEntry
  | 0, _ => []
  | n + 1, i => let e := rmapEntry s i; if bitOf e.w0 31 then e :: rmapFrom s n (i + 1) else []

/-- The valid entries of the map, none while its base is not valid. -/
def rmapEntries (s : State) : List RmapEntry := if rmapValid s then rmapFrom s 16384 0 else []

/-- TILE, V, U of an entry as one sort key (R147). -/
def RmapEntry.key (e : RmapEntry) : Nat := bitsOf e.w0 21 20 * 2 ^ 20 + bitsOf e.w0 19 10 * 2 ^ 10 + bitsOf e.w0 9 0

/-- ACTION of an entry. -/
def RmapEntry.action (e : RmapEntry) : Nat := bitsOf e.w0 26 25

/-- The neighbour in direction `d` (R147). -/
def neighbour (u v : Int) (d : Nat) : Int × Int :=
  if d = 0 then (u, v - 1) else if d = 1 then (u + 1, v - 1) else if d = 2 then (u + 1, v) else if d = 3 then (u + 1, v + 1)
  else if d = 4 then (u, v + 1) else if d = 5 then (u - 1, v + 1) else if d = 6 then (u - 1, v) else (u - 1, v - 1)

/-- The entries that act on tile `t` in the frame: those not read with an uncorrectable error (R149, R154). -/
def tileRepairs (s : State) (t : Fin 4) : List RmapEntry :=
  (((rmapEntries s).zipIdx).filter fun p => bitsOf p.1.w0 21 20 == t.val && !s.anyUe (rmapAddr s p.2) 16).map (·.1)

/-- Pixel (u, v) is forced off. -/
def forcedOff (es : List RmapEntry) (u v : Nat) : Bool :=
  es.any fun e => (e.action == 1 || e.action == 2) && bitsOf e.w0 9 0 == u && bitsOf e.w0 19 10 == v

/-- The boosts that pixel (u, v) receives (R149). A failed pixel that is off-road has no D4: its boosts are 0, and still count as received (DESIGN CHOICE,
log entry 176). -/
def boosts (s : State) (t : Fin 4) (es : List RmapEntry) (u v : Nat) : List Nat :=
  es.flatMap fun e =>
    if e.action ≠ 2 then [] else
    let fu := bitsOf e.w0 9 0; let fv := bitsOf e.w0 19 10
    (List.range 4).filterMap fun k =>
      let w := bitsOf e.w1 (8 * k + 7) (8 * k)
      if w ≠ 0 ∧ neighbour fu fv (bitsOf e.w2 (4 * k + 2) (4 * k)) = ((u : Int), (v : Int)) then
        some ((w * ((stage6 s t fu fv).map fun x => x.drive.d4).getD 0 + 0x80) / 256) else none

/-- What stage 7 gives for a pixel: the drive, whether the pixel was boosted, and the saturations of R132. -/
structure Repaired where
  drive : Nat
  boosted : Bool
  sat : Nat
  deriving DecidableEq, Repr

/-- Stage 7: the drive after repair (R149). Each boost is a step that saturates and counts (R132). -/
def repaired (s : State) (t : Fin 4) (es : List RmapEntry) (u v d4 : Nat) : Repaired :=
  if forcedOff es u v then ⟨0, false, 0⟩ else
  let b := boosts s t es u v
  let sum := b.foldl (fun (a : Nat × Nat) x => let y := sat24 (a.1 + x); (y.1, a.2 + y.2)) (d4, 0)
  ⟨min sum.1 (clampOf s t), !b.isEmpty, sum.2⟩

/-! ### Quantisation (R155, R156) -/

/-- Threshold `i` of the tile: what software wrote, else Temuli's blue-noise tile, whose values the spec does not list (a free value). -/
def threshold (s : State) (i : Nat) : Nat := let x := sget 256 i s.pho.dth; if x < 256 then x else Config.blueNoise i % 256

/-- The threshold of a pixel of frame `n` (R155). -/
def pixelThr (s : State) (t : Fin 4) (u v : Nat) : Nat :=
  let ox := s.frame * s.rf R.PHO_DTH_CTRL 7 2 % 64; let oy := s.frame * s.rf R.PHO_DTH_CTRL 13 8 % 64
  threshold s (64 * ((s.arrY t v + oy) % 64) + (s.arrX t u + ox) % 64)

/-- Stage 8 (R156). -/
def quantise (s : State) (t : Fin 4) (u v d : Nat) : Nat :=
  if d = 0 then 0 else if s.rb R.PHO_DTH_CTRL 0 then min 4095 ((d + pixelThr s t u v) / 256) else min 4095 ((d + 0x80) / 256)

/-- The final code of a pixel: 0 off the road and while PHO EN is 0 (R128, R159). -/
def pixelCode (s : State) (t : Fin 4) (es : List RmapEntry) (u v : Nat) : Nat :=
  match stage6 s t u v with
  | none => 0
  | some x => if s.en P.PHO then quantise s t u v (repaired s t es u v x.drive.d4).drive else 0

/-! ### The configuration of the frame (R67) -/

/-- Registers that a frame uses as they were at the tick that began its composition: the layers', and those of CMP and GLM that the pipes read. -/
def latchedReg (a : Nat) : Bool :=
  isReg a && ((decide (0x51 ≤ pageOf a) && decide (pageOf a ≤ 0x58)) || a == R.CMP_BASE_LUX || (List.range 4).any (fun c => a == R.CMP_CLASS_SCALE c) ||
    [R.GLM_CFG, R.GLM_TIMING, R.GLM_LATE_LEVEL].contains a || (List.range 4).any fun t => a == R.GLM_PLANE_BASE t || a == R.GLM_PRIV_BASE t)

/-- The latched registers at the tick. After a block reset of GLM under GLARE_EN = 1 the masks stay applied, from the planes of before (R185). -/
def frameCfg (s : State) : List (Nat × Word) :=
  let l := skeep latchedReg s.regs
  if !s.glm.held then l else
  let l := sset (regDefault R.GLM_CFG) R.GLM_CFG (putBit (s.rd R.GLM_CFG) 0 true) l
  (List.range 4).foldl (fun l t => sset (regDefault (R.GLM_PLANE_BASE t)) (R.GLM_PLANE_BASE t) (sget (regDefault (R.GLM_PLANE_BASE t)) (R.GLM_PLANE_BASE t) s.frm.cfg) l) l

/-- The state as the pipes see it while they compose the frame (R67). -/
def State.view (s : State) : State :=
  { s with regs := s.frm.cfg.foldl (fun l p => sset (regDefault p.1) p.1 p.2 l) (skeep (fun a => !latchedReg a) s.regs) }

/-- The codes of line `v` of tile `t`. -/
def lineCodes (s : State) (t : Fin 4) (v : Nat) : List Nat :=
  let s := s.view
  let es := tileRepairs s t
  (List.range (s.tw t)).map fun u => pixelCode s t es u v

end Sys2Proof.Machine
end

