-- ==== Sys2Proof/Machine/Nvm.lean ====
section
/-! DEFINITION. The eMRAM journal (R543 to R554), the write window (R551, R552), the scrubber (R539), and the external flash (R555 to R561). -/

namespace Sys2Proof.Machine

/-! ### Regions and words -/

/-- The region that holds `[o, o + n)` whole (R543). -/
def regionFor (s : State) (o n : Nat) : Option (Fin 16) :=
  (List.finRange 16).find? fun r => (s.rd (R.NVM_REGION_SIZE r)).toNat != 0 && inRegion s r o && decide (o + n ≤ (s.rd (R.NVM_REGION_BASE r)).toNat + (s.rd (R.NVM_REGION_SIZE r)).toNat)

/-- Count words written to the region of offset `o` (R560). -/
def wear (o words : Nat) (s : State) : State :=
  let s := s.stAdd (R.STAT P.NVM 1) 31 0 words
  match regionFor s o 1 with
  | none => s
  | some r =>
    let n := sget 0 r.val s.nv.wear + words
    let s := { s with nv := { s.nv with wear := sset 0 r.val n s.nv.wear } }
    s.wr (R.NVM_REGION_WEAR r) (word (min (n / 65536) (maxU 32)))

/-- Write bytes at eMRAM offset `o`: the controller's own write. -/
def nvPut (o : Nat) (l : List Nat) (s : State) : State := wear o (cdiv l.length 8) (s.put (0x20000000 + o) l)

/-- The window is open (R551). -/
def winOpen (s : State) : Bool := s.rb R.NVM_WIN_STAT 0

/-! ### The journal ring (R548) -/

/-- Base and size of the JOURNAL region. -/
def jrnBase (s : State) : Nat := (s.rd (R.NVM_REGION_BASE 3)).toNat

/-- Size of the JOURNAL region. -/
def jrnSize (s : State) : Nat := (s.rd (R.NVM_REGION_SIZE 3)).toNat

/-- A journal record (R548): header with MAGIC, TYPE, OWNER, TXN, LEN and CRC, then the payload, padded to 16 bytes. -/
def jrnRecord (type owner txn : Nat) (pay : List Nat) : List Nat :=
  let h := [0x4E, 0x4A, type, owner] ++ bytesLE 4 txn ++ bytesLE 4 pay.length
  h ++ bytesLE 4 (crc32c (h ++ pay)) ++ pay ++ List.replicate ((16 - pay.length % 16) % 16) 0

/-- Append a record at the ring's head, with a WRAP record where it does not fit before the region's end (R548). -/
def jrnAppend (rec : List Nat) (s : State) : State :=
  let h := s.rf R.NVM_JRN_HEAD 17 0
  let wrap := decide (jrnSize s < h + rec.length)
  let s := if wrap && decide (h + 16 ≤ jrnSize s) then nvPut (jrnBase s + h) (jrnRecord 5 8 s.nv.txn []) s else s
  let h := if wrap then 0 else h
  (nvPut (jrnBase s + h) rec s).wr R.NVM_JRN_HEAD (word (h + rec.length))

/-- Show the oldest unsealed record in NVM_JRN_TAIL, and the open transactions in NVM_JRN_OPEN and NVM_TX_STAT (R547, R560). -/
def jrnShow (s : State) : State :=
  let tail := match s.nvm.starts with
    | [] => s.rf R.NVM_JRN_HEAD 17 0
    | p :: _ => p.2
  let q := s.nvm.queue.length
  let s := (s.wr R.NVM_JRN_TAIL (word tail)).wr R.NVM_JRN_OPEN (word (bit s.nvm.direct.isSome * 512 + bit s.nvm.redo.isSome * 256 + q))
  s.wf R.NVM_TX_STAT 12 8 q

/-- Bytes a transaction's records take at most, a WRAP and the room it wastes included (R548, R549). -/
def jrnNeed (t : Tx) : Nat := 32 * 4 + (if t.direct then 0 else t.data.length + 48 * (t.data.length / 4096 + 1)) + 4160

/-- The ring has room: space behind the oldest unsealed record is never reused (R548). -/
def jrnRoom (s : State) (t : Tx) : Bool :=
  match s.nvm.starts with
  | [] => decide (jrnNeed t ≤ jrnSize s)
  | p :: _ =>
    let used := (s.rf R.NVM_JRN_HEAD 17 0 + jrnSize s - p.2) % max 1 (jrnSize s)
    decide (used + jrnNeed t ≤ jrnSize s)

/-! ### Transactions (R546, R547, R549) -/

/-- Do two ranges meet? -/
def rangesMeet (a n b m : Nat) : Bool := decide (a < b + m) && decide (b < a + n)

/-- The transaction would write the region directory, which is never written from DEPLOYED onward (R544): by its target or its activation word (log entry 202). -/
def writesDir (t : Tx) (s : State) : Bool :=
  decide (2 ≤ s.nv.lifecycle) && (inRegion s 0 t.target || match t.act with
    | some a => inRegion s 0 a.1
    | none => false)

/-- Why a submission is refused (R544, R546, R547): 0 for none, 4 REGION, 5 FULL, 6 OVERLAP, 7 BAD. -/
def txRefusal (t : Tx) (s : State) : Nat :=
  if !t.direct && decide (65536 < t.data.length) then 7
  else match regionFor s t.target (max 1 t.data.length) with
    | none => 4
    | some r =>
      if !s.rb (R.NVM_REGION_WR r) t.owner || writesDir t s then 4
      else if 16 ≤ s.nvm.queue.length then 5
      else match s.nvm.direct with
        | some d => if rangesMeet t.target t.data.length d.target d.data.length then 6 else 0
        | none => 0

/-- Submit a transaction (R546, R547): refused with its reason, or queued under the next transaction number. -/
def txSubmit (owner : Nat) (direct : Bool) (target : Nat) (data : List Nat) (act : Option (Nat × Nat)) (upd : NvUpd) (s : State) : Nat × State :=
  let t : Tx := ⟨owner, direct, target, data, act, upd, s.nv.txn, 0⟩
  let r := txRefusal t s
  if r ≠ 0 then (r, s) else
  (0, jrnShow { s with nvm := { s.nvm with queue := s.nvm.queue ++ [t] }, nv := { s.nv with txn := s.nv.txn + 1 } })

/-- A REDO transaction of SAFE on the COUNTERS region, whose layout the spec does not give (R543): it carries the update alone. -/
def countersTx (upd : NvUpd) (s : State) : State := (txSubmit 2 false (s.rd (R.NVM_REGION_BASE 2)).toNat [] none upd s).2

/-- The effect of a write to NVM_TX_CMD (R546, R560): a SOFTWARE transaction. -/
def nvmTxCmd (_ w : Word) (s : State) : State :=
  if !bitOf w 31 then s else
  let src := (s.rd R.NVM_TX_SRC).toNat; let n := s.rf R.NVM_TX_LEN 23 0; let dst := s.rf R.NVM_TX_DST 23 0
  let aa := s.rf R.NVM_TX_ACT_ADDR 23 0
  let inRam := (regionOf src == .main || regionOf src == .ret) && regionOf (src + n - 1) == regionOf src
  let bad := n % 8 != 0 || n == 0 || src % 8 != 0 || dst % 8 != 0 || (bitOf w 2 && aa % 8 != 0) || !inRam
  let act := if bitOf w 2 then some (aa, (s.rd R.NVM_TX_ACT_LO).toNat + 2 ^ 32 * (s.rd R.NVM_TX_ACT_HI).toNat) else none
  let txn := s.nv.txn
  let r := if bad then (7, s) else txSubmit 7 (bitOf w 0) dst (s.ldBytes src n) act .none s
  let s := r.2
  if r.1 ≠ 0 then (s.wf R.NVM_TX_STAT 7 4 0).wf R.NVM_TX_STAT 3 0 r.1
  else ((s.wf R.NVM_TX_STAT 31 16 txn).wf R.NVM_TX_STAT 7 4 1).wf R.NVM_TX_STAT 3 0 0

/-- Show the progress of the last software transaction (R560). -/
def txTell (t : Tx) (st result : Nat) (s : State) : State :=
  if t.owner = 7 ∧ s.rf R.NVM_TX_STAT 31 16 = t.txn % 65536 then (s.wf R.NVM_TX_STAT 7 4 st).wf R.NVM_TX_STAT 3 0 result else s

/-- What an applied transaction makes current (R549 step 5) where the spec names it. -/
def applyUpd (u : NvUpd) (s : State) : State :=
  match u with
  | .none => s
  | .imageByte => s
  | .snap _ => { s with pho := { s.pho with tx := 2 } }
  | .commissioned b => { s with nv := { s.nv with commissioned := b } }.wb R.SYS_MODE 9 b
  | .quarantine c => { s with nv := { s.nv with quarantine := c } }
  | .floor r v => { s with nv := { s.nv with floors := sset 0 r (max v (sget 0 r s.nv.floors)) s.nv.floors } }
  | .timeFloor v => { s with nv := { s.nv with timeFloor := max v s.nv.timeFloor } }
  | .slot n c => { s with nv := { s.nv with slots := (s.nv.slots.filter fun p => p.1 != n) ++ (c.map fun x => (n, x.1, x.2)).toList } }
  | .cert k l => { s with nv := { s.nv with certs := sset [] k l s.nv.certs } }
  | .root r l => { s with nv := { s.nv with roots := sset [] r l s.nv.roots } }
  | .audit n h => { s with nv := { s.nv with auditNext := n, auditHead := h, auditPrev := s.nv.auditHead }, sec := { s.sec with audit := s.sec.audit.filter fun r => decide (n ≤ r.seq) } }
  | .acked v => { s with nv := { s.nv with acked := v } }
  | .mainSlot a t => { s with nv := { s.nv with active := a, trial := t } }
  | .raises l => { s with nv := { s.nv with raises := l } }

/-- Set the open transaction of a kind. -/
def setOpen (direct : Bool) (t : Option Tx) (s : State) : State :=
  if direct then { s with nvm := { s.nvm with direct := t } } else { s with nvm := { s.nvm with redo := t } }

/-- The open transaction of a kind. -/
def openTx (direct : Bool) (s : State) : Option Tx := if direct then s.nvm.direct else s.nvm.redo

/-- The DATA records of a REDO transaction, 4,096 bytes each (R548). -/
def dataRecords (t : Tx) : List (List Nat) :=
  (List.range (cdiv t.data.length 4096)).map fun k => jrnRecord 2 t.owner t.txn (bytesLE 4 (4096 * k) ++ (t.data.drop (4096 * k)).take 4096)

/-- The first waiting transaction of a kind opens (R547, R549 steps 1 and 2), where its slot is free, the window open and the ring has room. -/
def txOpen (direct : Bool) (s : State) : State :=
  match openTx direct s with
  | some _ => s
  | none =>
    match s.nvm.queue.find? fun t => t.direct == direct with
    | none => s
    | some t =>
      if !winOpen s || !jrnRoom s t then s else
      let s := { s with nvm := { s.nvm with queue := s.nvm.queue.erase t, starts := s.nvm.starts ++ [(t.txn, s.rf R.NVM_JRN_HEAD 17 0)] } }
      let s := jrnAppend (jrnRecord 1 t.owner t.txn ([bit t.direct, 0, 0, 0] ++ bytesLE 4 t.target ++ bytesLE 4 t.data.length ++ bytesLE 4 (crc32c t.data))) s
      let s := if t.direct then nvPut t.target t.data s else s.over (dataRecords t) fun s r => jrnAppend r s
      jrnShow (txTell t 2 0 (setOpen direct (some { t with phase := 1 }) s))

/-- Write a SEAL (R548) and end the transaction in the ring. -/
def txSeal (t : Tx) (result : Nat) (s : State) : State :=
  let s := jrnAppend (jrnRecord 4 t.owner t.txn (result :: List.replicate 15 0)) s
  jrnShow { s with nvm := { s.nvm with starts := s.nvm.starts.filter fun p => p.1 != t.txn } }

/-- The data reads back (R549 step 3) and COMMIT is written (step 4); a mismatch ends the transaction ROLLED_BACK. `good` is what the medium gave. -/
def txCommit (direct good : Bool) (s : State) : State :=
  match openTx direct s with
  | none => s
  | some t =>
    if t.phase ≠ 1 ∨ !winOpen s then s else
    if good && !(direct && s.anyUe (0x20000000 + t.target) t.data.length) then
      let act := t.act.getD (0, 0)
      let s := jrnAppend (jrnRecord 3 t.owner t.txn (bytesLE 4 act.1 ++ [bit t.act.isSome, 0, 0, 0] ++ bytesLE 8 act.2)) s
      txTell t 3 0 (setOpen direct (some { t with phase := 2 }) s)
    else
      let s := txTell t 4 3 (txSeal t 3 (setOpen direct none s))
      let s := if t.upd matches .snap _ then { s with pho := { s.pho with tx := 3 } } else s
      raise Src.NVM_UE ((s.irq P.NVM 1).irqIf (t.owner == 7) P.NVM 0)

/-- Steps 5 and 6 of R549: the copy, the activation word, what becomes current, and the SEAL: APPLIED, or ROLLED_FORWARD for one that a reset interrupted
(R553). -/
def txApply (direct : Bool) (s : State) : State :=
  match openTx direct s with
  | none => s
  | some t =>
    if t.phase < 2 ∨ !winOpen s then s else
    let s := if direct then s else nvPut t.target t.data s
    let s := match t.act with
      | some a => nvPut a.1 (bytesLE 8 a.2) s
      | none => s
    (txTell t 4 1 (txSeal t (if t.phase = 3 then 2 else 1) (applyUpd t.upd (setOpen direct none s)))).irqIf (t.owner == 7) P.NVM 0

/-- A waiting transaction carried through at once, where the rules leave no room for another event in between (R549). -/
def txRun (direct : Bool) (s : State) : State := txApply direct (txCommit direct true (txOpen direct s))

/-! ### The write window (R551, R552) -/

/-- The open transaction of a kind has no COMMIT yet. -/
def uncommitted (direct : Bool) (s : State) : Bool :=
  match openTx direct s with
  | some t => decide (t.phase < 2)
  | none => false

/-- The window closes: an open transaction without COMMIT ends ABANDONED (R552). -/
def abandon (direct : Bool) (s : State) : State :=
  match openTx direct s with
  | none => s
  | some t =>
    if 2 ≤ t.phase then s else
    let s := setOpen direct none { s with nvm := { s.nvm with unsealed := s.nvm.unsealed ++ [t] } }
    let s := if t.upd matches .snap _ then { s with pho := { s.pho with tx := 0, retryAt := s.now + 10 ^ 10 } }.wb R.PHO_SNAP_STAT 1 true else s
    (txTell t 4 2 s).irqIf (t.owner == 7) P.NVM 0

/-- One condition of the window changes: bit 1 TEMP_OK or bit 2 SUPPLY_OK (R551, R552). A dose snapshot whose transaction waits is DEFERRED while the
window is closed (R145). -/
def setWindow (leg : Nat) (ok : Bool) (s : State) : State :=
  let was := winOpen s
  let s := s.wb R.NVM_WIN_STAT leg ok
  let now := s.rb R.NVM_WIN_STAT 1 && s.rb R.NVM_WIN_STAT 2
  let s := s.wb R.NVM_WIN_STAT 0 now
  if was && !now then
    let cut := uncommitted false s || uncommitted true s
    let s := jrnShow (abandon true (abandon false (s.irq P.NVM 3)))
    let s := if s.pho.tx = 1 then s.wb R.PHO_SNAP_STAT 1 true else s
    raiseIf cut Src.NVM_WRITE_REFUSED s
  else if !was && now then
    let s := if s.pho.tx = 1 then s.wb R.PHO_SNAP_STAT 1 false else s
    let l := s.nvm.unsealed
    ({ s with nvm := { s.nvm with unsealed := [] } }).over l fun s t => txSeal t (if t.phase = 4 then 3 else 4) s
  else s

/-- Decide a transaction that a reset left without a SEAL (R553): with COMMIT rolled forward, without it rolled back. Either waits for the window where it is
closed (R551). -/
def recover (s : State) (t : Tx) : State :=
  let fwd := t.phase == 2 || t.phase == 3
  let s := { s with nvm := { s.nvm with starts := s.nvm.starts ++ [(t.txn, s.rf R.NVM_JRN_HEAD 17 0)] } }
  let s :=
    if fwd then txApply t.direct (setOpen t.direct (some { t with phase := 3 }) s)
    else if winOpen s then txSeal t 3 s
    else { s with nvm := { s.nvm with unsealed := s.nvm.unsealed ++ [{ t with phase := 4 }] } }
  (s.wr R.NVM_JRN_RECOV (word (t.txn % 65536 * 65536 + t.owner % 16 * 256 + (if fwd then 2 else 1)))).irq P.NVM 4

/-- The journal scan at boot (R553). -/
def journalScan (s : State) : State :=
  let l := s.nv.left
  let s := jrnShow (s.wr R.NVM_JRN_HEAD (word s.nv.head))
  ({ s with nv := { s.nv with left := [] } }).over l recover

/-! ### The region directory (R543, R544) -/

/-- The directory's CRC holds and no two present regions overlap (R544). -/
def directoryGood (s : State) : Bool :=
  let d := s.ldBytes 0x20000000 256
  let ent := (List.range 16).map fun r => (s.ldLE (0x20000000 + 16 * r) 4, s.ldLE (0x20000004 + 16 * r) 4)
  crc32c d == s.ldLE 0x20000100 4 &&
  ent.zipIdx.all fun p => ent.zipIdx.all fun q => p.2 == q.2 || p.1.2 == 0 || q.1.2 == 0 || !rangesMeet p.1.1 p.1.2 q.1.1 q.1.2

/-- The boot ROM loads the directory (R544). -/
def loadDirectory (s : State) : State :=
  s.over (List.finRange 16) fun s r =>
    let a := 0x20000000 + 16 * r.val
    ((s.wr (R.NVM_REGION_BASE r) (word (s.ldLE a 4 % 2 ^ 24))).wr (R.NVM_REGION_SIZE r) (word (s.ldLE (a + 4) 4 % 2 ^ 25))).wr
      (R.NVM_REGION_WR r) (word (s.ldLE (a + 8) 2 % 512))

/-! ### The scrubber (R539) -/

/-- A patrol pass over main SRAM ends (R539): every marked word read, PASSES counted, LATE by its length. -/
def scrubPass (s : State) : State :=
  if !s.rb R.NVM_SCRUB_CFG 0 then s else
  let late := decide ((max 60 (s.rf R.NVM_SCRUB_CFG 23 8)) * 10 ^ 9 < s.now - s.nvm.scrubStart)
  let main := fun w => decide (0x10000000 ≤ 8 * w) && decide (8 * w < 0x13000000)
  let s := s.over (s.ce.filter main) fun s w => ceEvent 0xFF (8 * w) s
  let s := s.over (s.ue.filter main) fun s w => ueEvent 0xFF (8 * w) s
  let s := { s with nvm := { s.nvm with scrubStart := s.now } }
  (s.wf R.NVM_SCRUB_STAT 31 16 (s.rf R.NVM_SCRUB_STAT 31 16 + 1)).wb R.NVM_SCRUB_STAT 0 late

/-- The patrol scrubber's pass over retention SRAM, once every 60 s with RET_EN = 1 (R540). -/
def retScrub (s : State) : State :=
  if !s.rb R.NVM_SCRUB_CFG 1 || decide (s.now < s.nvm.retAt + 60 * 10 ^ 9) then s else
  let ret := fun w => regionOf (8 * w) == .ret
  let s := s.over (s.ce.filter ret) fun s w => ceEvent 0xFF (8 * w) s
  let s := s.over (s.ue.filter ret) fun s w => ueEvent 0xFF (8 * w) s
  { s with nvm := { s.nvm with retAt := s.now } }

/-! ### External flash (R557 to R561) -/

/-- The bit of XSPI_PROT_WR for an initiator (R558). -/
def xspiBit (i : Init) : Option Nat := match i with
  | .apu => some 0 | .safe => some 1 | .boot => some 1 | .host => some 2 | _ => none

/-- A protection range denies initiator `i` the range (R558). -/
def xspiDenied (s : State) (i : Init) (o n : Nat) : Bool :=
  (List.range 8).any fun k =>
    let z := s.rf (R.XSPI_PROT_SIZE k) 28 0
    z != 0 && rangesMeet o n (s.rf (R.XSPI_PROT_BASE k) 28 0) z &&
      !(match xspiBit i with | some b => s.rb (R.XSPI_PROT_WR k) b | none => false)

/-- The first copy of the flash directory whose CRC holds (R559). -/
def flashDir (s : State) : Option Nat := [0x60000000, 0x60010000].find? fun d => crc32c (s.ldBytes d 256) == s.ldLE (d + 256) 4

/-- Offset and size of entry `k` of the flash directory: 0 MAIN_A, 1 MAIN_B, 2 GLYPH, 3 BYSTER_A, 4 BYSTER_B, 5 USER (R559); absent without a directory. -/
def flashEntry (s : State) (k : Nat) : Nat × Nat := match flashDir s with
  | some d => (s.ldLE (d + 16 * k) 4, s.ldLE (d + 16 * k + 4) 4)
  | none => (0, 0)

/-- Offset and size of MAIN slot `k` (R558, R559). -/
def mainSlot (s : State) (k : Nat) : Nat × Nat := flashEntry s k

/-- What the boot ROM finds of the flash (R556): `flash` is log2 of its size (0 without a valid SFDP table), plus 32 where it does not support 8D-8D-8D.
The dummy cycles that SFDP gives are a free value. -/
def flashProbe (flash : Nat) (s : State) : State :=
  let n := flash % 32
  let (d, s) := s.fresh
  let s := if n = 0 then s else s.wf R.XSPI_SIZE 4 0 (min 29 n)
  if n = 0 ∨ 32 ≤ flash then raise Src.XSPI_ERR (s.wr R.XSPI_CFG (word (50 * 256)))
  else s.wr R.XSPI_CFG (word (d % 256 * 65536 + 200 * 256 + 1))

/-- Protection range `k` takes entry `k` of the flash directory (R561): MAIN, GLYPH and BYSTER slots writable by SAFE only, USER by the APU and SAFE. -/
def xspiRange (s : State) (k : Nat) : State :=
  let e := flashEntry s k
  let s := (s.wf (R.XSPI_PROT_BASE k) 28 0 e.1).wf (R.XSPI_PROT_SIZE k) 28 0 e.2
  s.wf (R.XSPI_PROT_WR k) 2 0 (if k = 5 then 3 else 2)

/-- SAFE's protection ranges at boot (R561); then XSPI_LOCK is set. -/
def xspiProtect (s : State) : State := if (flashDir s).isNone then s else (s.over (List.range 6) xspiRange).wb R.XSPI_LOCK 0 true

/-- End a flash command at once with a result. -/
def xspiResult (r : Nat) (s : State) : State := (s.wf R.XSPI_STAT 3 0 r).irqIf (r != 0) P.XSPI 1

/-- The effect of a write to XSPI_CMD by initiator `i` (R558, R561). -/
def xspiCmd (i : Init) (_ w : Word) (s : State) : State :=
  if !bitOf w 31 || !s.en P.XSPI then s else
  if s.flash.isSome then xspiResult 1 s else
  let op := bitsOf w 2 0; let o := s.rf R.XSPI_ADDR 28 0; let len := s.rf R.XSPI_LEN 8 0; let src := (s.rd R.XSPI_SRC).toNat
  let n := if op = 1 then 4096 else if op = 2 then 65536 else len
  let bad := op == 0 || decide (3 < op) || decide (flashSize s < o + n) ||
    (if op = 3 then o % 8 != 0 || decide (len < 8) || decide (256 < len) || decide (256 < o % 256 + len) || !(regionOf src == .main || regionOf src == .ret)
      else o % n != 0)
  if bad then xspiResult 5 s
  else
    let m := mainSlot s (s.rf R.SEC_BOOT_STAT 0 0)
    if xspiDenied s i o n || (i != .safe && i != .boot && m.2 != 0 && rangesMeet o n m.1 m.2) then xspiResult 2 s
    else (({ s with flash := some ⟨op != 3, o, n, if op = 3 then s.ldBytes src len else []⟩ }).wb R.XSPI_STAT 8 true).wb (R.STATUS P.XSPI) 0 true

/-- The flash operation ends (R561): `outcome` is 0 OK, 3 TIMEOUT, 4 VERIFY. What a failed operation leaves in its range is free. -/
def xspiDone (outcome : Nat) (s : State) : State :=
  match s.flash with
  | none => s
  | some f =>
    let a := 0x60000000 + f.ofs
    let r := if outcome = 0 then 0 else if outcome = 4 ∧ !f.erase then 4 else 3
    let s := if r = 0 then
        s.put a (if f.erase then List.replicate f.len 0xFF else (f.data.zipIdx).map fun p => p.1 &&& s.ldN (a + p.2))
      else s.over (List.range f.len) fun s k => let (v, s) := s.fresh; s.put (a + k) [v % 256]
    let s := (({ s with flash := none }).wb R.XSPI_STAT 8 false).wb (R.STATUS P.XSPI) 0 false
    let s := (s.wf R.XSPI_STAT 3 0 r).irq P.XSPI 0
    if r = 0 then s else raiseIf (r == 3) Src.XSPI_ERR (s.irq P.XSPI 1)

/-- A window read by `i` has waited longer than XSPI_TMO_MS (R557). -/
def xspiWaitTimeout (s : State) : State :=
  if s.flash.isSome then raise Src.XSPI_ERR ((s.busErr).irq P.XSPI 1) else s

end Sys2Proof.Machine
end

