-- ==== Sys2Proof/Machine/Pipes.lean ====
section
/-! DEFINITION. A frame of the pipes: what is sampled at the tick (R67, R117, R123, R134, R135), the end of composition with its per-frame
checks and statistics (R116, R129, R130, R137 to R139, R154, R160, R178, R190), the late bands (R183), and write-back (R112 to R115). -/

namespace Sys2Proof.Machine

/-- An engine's write into main SRAM: whether it went through, and the state with what a refused write raises. -/
def engineWrite (i : Init) (a : Nat) (l : List Nat) (s : State) : Bool × State :=
  let r := guardedPut i a l (partialUe s a l.length) s
  (r.1.isNone && regionOf a == .main, settle r.2)

/-- The sum of `f` over a list. -/
def sumOf {α : Type} (l : List α) (f : α → Nat) : Nat := l.foldl (fun n x => n + f x) 0

/-! ### The tick (R67, R123) -/

/-- Is loop `k` in RUN with its block on (R134, R135)? -/
def loopRuns (s : State) (k : Nat) : Bool := s.en P.CTL && s.pageOn P.CTL && s.rf (R.STATUS (P.CTLK k)) 1 0 == 1

/-- Loop `k` is enabled (RUN or HOLD) and its block is on. -/
def loopOn (s : State) (k : Nat) : Bool := s.en P.CTL && s.pageOn P.CTL && s.rf (R.STATUS (P.CTLK k)) 1 0 != 0

/-- Command 0 of loop `k`. -/
def loopU (s : State) (k : Nat) : Int := sw (s.rd (R.CTL_LOOP_U k 0))

/-- A value clamped to `[lo, hi]`. -/
def clampN (lo hi : Nat) (x : Int) : Nat := (max (lo : Int) (min x hi)).toNat

/-- The tile loop gain GL (R134). -/
def loopGain (s : State) (t : Fin 4) : Nat :=
  let a := R.PHO_LOOP_SEL t
  if s.rb a 12 && loopOn s (s.rf a 11 8) then clampN (s.rf (R.PHO_GAIN_LIM t) 15 0) (s.rf (R.PHO_GAIN_LIM t) 31 16) (loopU s (s.rf a 11 8))
  else s.rf (R.PHO_GAIN_FIXED t) 15 0

/-- The thermal ceiling CTH (R135). -/
def loopCeil (s : State) (t : Fin 4) : Nat :=
  let a := R.PHO_LOOP_SEL t
  if !s.rb a 4 then 4095
  else if loopRuns s (s.rf a 3 0) then clampN 0 4095 (loopU s (s.rf a 3 0))
  else s.rf (R.PHO_TH_FAILSAFE t) 11 0

/-- PHO_TH_LOST once for each interval without the loop (R135). -/
def thLost (s : State) (t : Fin 4) : State :=
  let a := R.PHO_LOOP_SEL t
  let lost := s.rb a 4 && !loopRuns s (s.rf a 3 0)
  let was := s.pho.thLost[t]
  let s := { s with pho := { s.pho with thLost := s.pho.thLost.set t lost } }
  if lost && !was then raise (Src.PHO_TH_LOST t) (s.irq (P.PHOT t) 0) else s

/-- K_P of R138 for a frame that lights at rate `f`, saturated to its register (R8). For a PHO_DOSE_UNIT of 0, outside its range, the value is free. -/
def doseK (f : Nat) (s : State) : Nat :=
  let u := s.rf R.PHO_DOSE_UNIT 15 0
  if u = 0 then Config.free s.free % 2 ^ 32 else satU 32 (rndDiv (2 ^ 48 * 160) (f * u * 4095))

/-- GLARE_EN as the frame uses it. -/
def glareOn (s : State) : Bool := bitOf (sget (regDefault R.GLM_CFG) R.GLM_CFG s.frm.cfg) 0

/-- What the pipes sample at the tick that begins the composition of frame `TICK_NUM + 1` (R67, R117, R123, R138, R190, R264). -/
def latchFrame (s : State) : State :=
  let kind := s.lampKind
  let s := s.over (List.finRange 4) thLost
  let s := s.over (List.finRange 4) fun s t => s.wr (R.PHO_IN_USE t) (word (loopGain s t * 65536 + loopCeil s t))
  let s := s.wr R.PHO_DOSE_K (word (doseK s.rate10 s))
  let cfg := frameCfg s
  let en := (List.finRange 8).foldl (fun (m : Nat) (n : Fin 8) => m + bit (s.en (P.LYR n)) * 2 ^ n.val) 0
  let hw := Vector.ofFn fun t : Fin 4 => s.rf (R.PHO_HWLIMIT t) 11 0
  let s := { s with frm := { cfg := cfg, lyrEn := en, hw := hw, fnOff := (s.rd R.DRV_FN_OFF).toNat, kind := kind, codes := Vector.replicate 4 [],
                             band := Vector.replicate 4 0, bandPrev := s.frm.band } }
  let src := if glareOn s then 0 else 0xFFFFFFFF
  let s := s.over (List.finRange 4) fun s t => s.stw (R.GLM_STAT_BANDSRC t) (word src)
  let on := (List.finRange 4).foldl (fun (m : Nat) (t : Fin 4) => m + bit (kind == 1 && s.tileOn t) * 2 ^ t.val) 0
  s.wf (R.STATUS P.CMP) 3 0 on

/-! ### Bands (R181 to R183) -/

/-- Bands of tile `t`. -/
def bandsOf (s : State) (t : Fin 4) : Nat := cdiv (s.th t) 64

/-- Set the source of band `b` in GLM_STAT_BANDSRC (R180). -/
def setBandSrc (t : Fin 4) (b src : Nat) (s : State) : State := s.stSet (R.GLM_STAT_BANDSRC t) (2 * b + 1) (2 * b) src

/-- Band `b` of tile `t` of the frame being composed is neither done nor late, and the pipe waits for it (R182). -/
def bandOpen (s : State) (t : Fin 4) (b : Nat) : Bool :=
  glareOn s && s.tileOn t && s.frm.live && decide (b < bandsOf s t) && !(s.frm.band[t].testBit b) && bandSrc s t b == 0

/-- The deadline of band `b` (R182): tick n - 1 + WAIT_US + b × STEP_US. -/
def bandDue (s : State) (b : Nat) : Nat :=
  let w := sget (regDefault R.GLM_TIMING) R.GLM_TIMING s.frm.cfg
  s.sync.lastTick + (bitsOf w 9 0 + b * bitsOf w 25 16) * 1000

/-- The deadline of band `b` of tile `t` (R182, R183): a band not done then is late and composes from the previous plane, or DARK. -/
def bandLate (t : Fin 4) (b : Nat) (s : State) : State :=
  if !bandOpen s t b || decide (s.now < bandDue s b) then s else
  let prev := s.frm.bandPrev[t].testBit b
  let s := setBandSrc t b (if prev then 1 else 2) s
  let s := (s.stAdd (R.STAT P.GLM 1) 7 0 1).irq P.GLM 2
  raise Src.GLM_BAND_LATE (if prev then s else s.stAdd (R.STAT P.GLM 1) 15 8 1)

/-- Every band whose deadline has passed is late. -/
def bandsLate (s : State) : State :=
  s.over (List.finRange 4) fun s t => s.over (List.range (bandsOf s t)) fun s b => bandLate t b s

/-- The pipe of some tile still waits for a band (R182). -/
def bandsOpen (s : State) : Bool := (List.finRange 4).any fun t => (List.range (bandsOf s t)).any (bandOpen s t)

/-! ### The end of composition -/

/-- The pixels of tile `t` in line order. -/
def pixels (s : State) (t : Fin 4) : List (Nat × Nat) := (List.range (s.th t)).flatMap fun v => (List.range (s.tw t)).map fun u => (u, v)

/-- What a pipe hands on for one pixel (R121). -/
structure Out where
  st : Option Stage6
  off : Bool
  boosted : Bool
  sat : Nat
  code : Nat
  deriving DecidableEq, Repr

/-- One pixel through every stage. -/
def outOf (s : State) (t : Fin 4) (es : List RmapEntry) (p : Nat × Nat) : Out :=
  let st := stage6 s t p.1 p.2
  let r : Repaired := match st with
    | none => ⟨0, false, 0⟩
    | some x => repaired s t es p.1 p.2 x.drive.d4
  ⟨st, forcedOff es p.1 p.2, r.boosted, r.sat, pixelCode s t es p.1 p.2⟩

/-- A sum over the pixels that have a road point. -/
def sumSt (l : List Out) (f : Stage6 → Nat) : Nat := sumOf l fun o => (o.st.map f).getD 0

/-- Add to the 64-bit offered sum of class `c` (R83). -/
def addOffered (c n : Nat) (s : State) : State :=
  let v := (s.st (R.CMP_STAT_OFFERED_LO c)).toNat + 2 ^ 32 * (s.st (R.CMP_STAT_OFFERED_HI c)).toNat + n
  (s.stw (R.CMP_STAT_OFFERED_LO c) (word v)).stw (R.CMP_STAT_OFFERED_HI c) (word (v / 2 ^ 32))

/-- The statistics of tile `t`'s pipe for the frame (R82, R83, R117, R128, R133, R149, R160, R190). -/
def pipeStats (t : Fin 4) (l : List Out) (cut : Nat) (s : State) : State :=
  let s := s.stAdd R.CMP_STAT_SAT 31 0 (sumSt l fun x => x.comp.sat)
  let s := s.over (List.range 4) fun s c => addOffered c (sumSt l fun x => x.comp.offered.getD c 0) s
  let s := s.over (List.finRange 8) fun s n => s.stAdd (R.STAT (P.LYR n) 1) 31 0 (sumSt l fun x => bit (x.comp.cover.contains n.val))
  let s := s.stAdd (R.STAT (P.WRPT t) 0) 31 0 (sumOf l fun o => bit o.st.isNone)
  let lim := sumSt l fun x => bit x.drive.clamped
  let s := s.stAdd (if s.frm.hw[t] ≤ s.rf (R.PHO_IN_USE t) 11 0 then R.PHO_STAT_CLAMP_HW t else R.PHO_STAT_CLAMP_TH t) 31 0 lim
  let s := s.stAdd (R.PHO_STAT_OFF t) 31 0 (sumOf l fun o => bit o.off)
  let s := s.stAdd (R.PHO_STAT_BOOSTED t) 31 0 (sumOf l fun o => bit o.boosted)
  let s := s.stAdd (R.PHO_STAT_SAT t) 31 0 (sumSt l (fun x => x.drive.sat) + sumOf l fun o => o.sat)
  s.stAdd (R.STAT P.GLM 2) 31 0 cut

/-- The mesh check of the frame (R129, R130). -/
def meshCheck (t : Fin 4) (s : State) : State :=
  let base := (s.rd (R.WRP_MESH_BASE t)).toNat
  let s := if s.anyUe base 67600 then raise (Src.WRP_MESH_UE t) ((s.irq (P.WRPT t) 1).irq P.WRP 1) else s
  if s.rb (R.WRP_MESH_CFG t) 0 then
    let v := crc32c (s.ldBytes base 67600)
    let s := s.stw (R.STAT (P.WRPT t) 1) (word v)
    if word v = s.rd (R.WRP_MESH_CRC t) then s else raise (Src.WRP_MESH_CRC t) ((s.irq (P.WRPT t) 0).irq P.WRP 0)
  else s

/-- The dose map is updated in this frame (R138): every 16th. -/
def doseFrame (s : State) : Bool := s.frame % 16 == 0 && s.en P.PHO && s.rb R.PHO_DOSE_CTRL 0

/-- The memory a pipe reads for pixel (u, v), as address and length: texels, masks, gain and dose; off the road the dose word in an update frame. -/
def pixelReads (s : State) (t : Fin 4) (u v : Nat) : List (Nat × Nat) :=
  if !onRoad s t u v then (if doseFrame s then [(doseAddr s t u v, 2)] else []) else
  let c := cellOf s t u v
  let x := c.at MeshPt.x; let y := c.at MeshPt.y
  ((List.finRange 8).flatMap fun n => match layerFor s t n with
    | none => []
    | some e => (sampleTexels e (placeOf s t n x y u v)).map fun q => (texelAddr e q.1 q.2, texelLen e)) ++
  (if s.rb R.GLM_CFG 0 && decide (bandSrc s t (v / 64) < 2) then [(glareAddr s t (if bandSrc s t (v / 64) = 1 then s.frame + 1 else s.frame) u v, 1)] else []) ++
  (if s.rb R.GLM_CFG 1 then [(privAddr s t u v, 1)] else []) ++ [(gainAddr s t u v, 2), (doseAddr s t u v, 2)]

/-- What tile `t`'s pipe reads in the frame beside its pixels: the mesh, and the repair map while its base is valid. -/
def tileReads (s : State) (t : Fin 4) : List (Nat × Nat) :=
  ((s.rd (R.WRP_MESH_BASE t)).toNat, 67600) :: (if rmapValid s then [((s.rd R.PHO_RMAP_BASE).toNat, 16 * (rmapEntries s).length)] else [])

/-- Does a set of reads touch 64-bit word `w`? -/
def readsWord (l : List (Nat × Nat)) (w : Nat) : Bool := l.any fun p => decide (p.1 < 8 * w + 8) && decide (8 * w < p.1 + p.2)

/-- Every marked word the pipe of tile `t` reads is corrected or reported once in the frame (R535, R536). The spec gives the pipes no
initiator code, so the code is a free value. -/
def pipeEcc (t : Fin 4) (s : State) : State :=
  let v := s.view
  let l := tileReads s t ++ (pixels s t).flatMap fun p => pixelReads v t p.1 p.2
  let ce := s.ce.filter (readsWord l); let ue := s.ue.filter (readsWord l)
  let s := s.over ce fun s w => let (i, s) := s.fresh; ceEvent (i % 256) (8 * w) s
  s.over ue fun s w => let (i, s) := s.fresh; ueEvent (i % 256) (8 * w) s

/-- The pipes' own reactions to uncorrectable reads of tile `t` (R78, R137, R139, R154, R178). -/
def pipeUe (t : Fin 4) (l : List Out) (s : State) : State :=
  let tex := l.flatMap fun o => (o.st.map fun x => x.comp.ue).getD []
  let ps := (pixels s t).filter fun p => onRoad s t p.1 p.2
  let pho := ps.any (fun p => s.isUe (gainAddr s t p.1 p.2) || s.isUe (doseAddr s t p.1 p.2)) ||
    (doseFrame s && (pixels s t).any fun p => s.isUe (doseAddr s t p.1 p.2)) ||
    (rmapValid s && s.anyUe (s.rd R.PHO_RMAP_BASE).toNat (16 * (rmapEntries s).length))
  let glm := ps.any fun p => maskUe s.view t p.1 p.2
  let s := match tex.getLast? with
    | some a => raise Src.CMP_FETCH_UE ((s.wr R.CMP_FETCH_UE_ADDR (word a)).irq P.CMP 3)
    | none => s
  let s := if pho then raise (Src.PHO_FETCH_UE t) ((s.irq (P.PHOT t) 1).irq P.PHO 4) else s
  if glm then raise Src.GLM_FETCH_UE (s.irq P.GLM 4) else s

/-- The dose of one pixel in an update frame (R138, R139): r is a free 48-bit number. -/
def doseStep (t : Fin 4) (s : State) (x : (Nat × Nat) × Nat) : State :=
  let a := doseAddr s t x.1.1 x.1.2
  let (r, s) := s.fresh
  if s.isUe a then s else
  let e := s.ldLE a 2
  if e = 0xFFFF then s.stAdd (R.PHO_STAT_DOSE_SAT t) 31 0 1
  else if r % 2 ^ 48 < x.2 * (s.rd R.PHO_DOSE_K).toNat then (engineWrite .wb a (bytesLE 2 (e + 1)) s).2 else s

/-- The dose map of tile `t` in every 16th frame (R138), with K_P of the timing mode under which the frame lights: a staged change that applies at the
coming tick counts (log entry 142). -/
def doseUpdate (t : Fin 4) (codes : List Nat) (s : State) : State :=
  if doseFrame s then
    let f := match comingTiming s with
      | some w => rateOf w
      | none => s.rate10
    (s.wr R.PHO_DOSE_K (word (doseK f s))).over ((pixels s t).zip codes) (doseStep t)
  else s

/-- The footprint plane of the frame (R261): a plane that cannot be written whole is not intact (R262). -/
def writeFootprint (t : Fin 4) (l : List Out) (s : State) : State :=
  let b : Fin 3 := Fin.ofNat 3 s.frame
  let a := (s.rd (R.DRV_FP_BASE t)).toNat + b.val * (s.tw t * s.th t)
  let ok := regionOf a == .main && regionOf (a + s.tw t * s.th t - 1) == .main
  let r := if ok then engineWrite .wb a (l.map fun o => (o.st.map fun x => x.fp).getD 0xFF) s else (false, s)
  let s := r.2
  let ts := s.tile[t]
  { s with tile := s.tile.set t { ts with fpOk := ts.fpOk.set b r.1, fpFrame := ts.fpFrame.set b s.frame } }

/-- The pipe of tile `t` has produced the last pixel of the frame (R151). -/
def pipeDone (s : State) (t : Fin 4) : State :=
  if !s.tileOn t then s else
  let v := s.view
  let l := (pixels s t).map (outOf v t (tileRepairs v t))
  let codes := l.map Out.code
  let cut := sumOf (pixels s t) fun p => bit (pixelCut v t p.1 p.2)
  let s0 := s
  let s := pipeStats t l cut s
  let s := { s with frm := { s.frm with codes := s.frm.codes.set t codes } }
  let s := meshCheck t (pipeUe t l s)
  let s := writeFootprint t l (doseUpdate t codes s)
  if s0.ue.isEmpty && s0.ce.isEmpty then s else pipeEcc t s

/-- Every pipe finishes composing the frame (R116); none does while it waits for a band (R182). They finish in the order of the tiles, so that of
several uncorrectable texels read the last is that of the highest tile (DESIGN CHOICE, log entry 177). -/
def compositionDone (s : State) : State :=
  let s := bandsLate s
  if !s.frm.live || s.rf (R.STATUS P.CMP) 3 0 == 0 || bandsOpen s then s else
  let s := s.over (List.finRange 4) pipeDone
  (s.wf (R.STATUS P.CMP) 3 0 0).irq P.CMP 0

/-! ### Write-back (R112 to R115) -/

/-- The bytes of a slot (R112). -/
def wbBytes (s : State) (t : Fin 4) (codes : List Nat) : List Nat :=
  if s.rf R.CMP_WB_CTRL 1 0 = 1 then codes.flatMap (bytesLE 2)
  else
    let d := 4 * 2 ^ s.rf R.CMP_WB_CTRL 3 2
    (List.range (s.th t / d)).flatMap fun j => (List.range (s.tw t / d)).flatMap fun i =>
      let sum := sumOf (List.range (d * d)) fun k => codes.getD ((j * d + k / d) * s.tw t + i * d + k % d) 0
      bytesLE 2 ((16 * sum + d * d / 2) / (d * d))

/-- Write-back of tile `t` for the frame completes, or ends with an error (R113, R115): a write that fails leaves the slot as it was before (log
entry 146). -/
def wbDone (t : Fin 4) (s : State) : State :=
  let c := R.CMP_WB_CTRL; let n := s.frame; let every := max 1 (s.rf c 15 8)
  let mode := s.rf c 1 0
  if !s.frm.live || s.frm.codes[t].isEmpty || !(mode == 1 || mode == 2) || !s.rb c (16 + t) || n % every != 0 then s else
  let bytes := wbBytes s t s.frm.codes[t]
  let slot := n / every % (s.rf c 5 4 + 1)
  let r := engineWrite .wb ((s.rd (R.CMP_WB_BASE t)).toNat + slot * bytes.length) bytes s
  if r.1 then
    let s := { r.2 with look := { r.2.look with wb := r.2.look.wb.set t ((n :: r.2.look.wb[t]).take 8) } }
    ((s.wr (R.CMP_WB_SLOT t) (word slot)).wr (R.CMP_WB_TICK t) (word n)).irq P.CMP 1
  else raise Src.CMP_WB_ERR (r.2.irq P.CMP 2)

end Sys2Proof.Machine
end

