-- ==== Sys2Proof/Machine/Photometry.lean ====
section
/-! DEFINITION. Photometry commands: the repair map's commands and edits (R147 to R153), the threshold tile (R155, R159), and dose snapshots
and their restore (R142 to R146). -/

namespace Sys2Proof.Machine

/-! ### The repair map -/

/-- Set the photometry state. -/
def State.setPho (s : State) (f : PhoSt → PhoSt) : State := { s with pho := f s.pho }

/-- Show COUNT, QUEUED and FULL (R159). -/
def rmapShow (s : State) : State :=
  let n := (rmapEntries s).length
  s.wr R.PHO_RMAP_STAT (word (bit (n == 16384) * 2 ^ 24 + s.pho.edits.length * 65536 + n))

/-- Set RESULT of PHO_RMAP_CMD_STAT. -/
def rmapResult (r : Nat) (s : State) : State := s.wf R.PHO_RMAP_CMD_STAT 3 0 r

/-- A field value that R147 marks invalid: TYPE 5 to 7, ACTION 3, SRC 3. -/
def rmapInvalid (w : Word) : Bool := decide (4 < bitsOf w 24 22) || bitsOf w 26 25 == 3 || bitsOf w 28 27 == 3

/-- The staged pixel lies outside its tile, or the tile's size is not yet known (R150). -/
def rmapRange (s : State) (w : Word) : Bool :=
  let t : Fin 4 := Fin.ofNat 4 (bitsOf w 21 20)
  !s.tileKnown t || decide (s.tw t ≤ bitsOf w 9 0) || decide (s.th t ≤ bitsOf w 19 10)

/-- Queue an edit (R150). -/
def rmapQueue (e : RmapEdit) (s : State) : State := rmapShow (s.setPho fun p => { p with edits := p.edits ++ [e] })

/-- INSERT (R150): INVALID, RANGE, QFULL in that order, or queued. -/
def rmapInsert (s : State) : State :=
  let w := s.rd R.PHO_RMAP_E0
  if rmapInvalid w then rmapResult 7 s
  else if rmapRange s w then rmapResult 3 s
  else if 47 < s.pho.edits.length then rmapResult 2 s
  else rmapResult 1 (rmapQueue ⟨true, w, s.rd R.PHO_RMAP_E1, s.rd R.PHO_RMAP_E2, false, false⟩ s)

/-- DELETE (R150, R152): refused only with QFULL; MAKER is honoured from SAFE only. -/
def rmapDelete (i : Init) (w : Word) (s : State) : State :=
  if 47 < s.pho.edits.length then rmapResult 2 s
  else rmapResult 1 (rmapQueue ⟨false, s.rd R.PHO_RMAP_E0, 0#32, 0#32, bitOf w 15 && i.isSafe, false⟩ s)

/-- Copy entry `k` into the staging registers. -/
def rmapStage (k : Nat) (s : State) : State :=
  let e := rmapEntry s k
  (((s.wr R.PHO_RMAP_E0 e.w0).wr R.PHO_RMAP_E1 e.w1).wr R.PHO_RMAP_E2 e.w2).wr R.PHO_RMAP_E3 e.w3

/-- READ (R150). -/
def rmapRead (k : Nat) (s : State) : State := if k < (rmapEntries s).length then rmapResult 0 (rmapStage k s) else rmapResult 3 s

/-- Index of the entry for the pixel of `w`. -/
def rmapFind (s : State) (w : Word) : Option Nat :=
  let k := (RmapEntry.mk w 0#32 0#32 0#32).key
  (rmapEntries s).findIdx? fun e => e.key == k

/-- LOOKUP (R150). -/
def rmapLookup (s : State) : State :=
  match rmapFind s (s.rd R.PHO_RMAP_E0) with
  | none => rmapResult 4 s
  | some k => rmapResult 0 ((rmapStage k s).wf R.PHO_RMAP_CMD_STAT 29 16 k)

/-- The effect of a write to PHO_RMAP_CMD (R150, R159). -/
def rmapCmd (i : Init) (_ w : Word) (s : State) : State :=
  let op := bitsOf w 2 0
  if op = 1 then rmapInsert s else if op = 2 then rmapDelete i w s else if op = 3 then rmapRead (bitsOf w 29 16) s
  else if op = 4 then rmapLookup s else rmapResult 7 s

/-- The bytes of an entry. -/
def RmapEntry.bytes (e : RmapEntry) : List Nat := bytesLE 4 e.w0.toNat ++ bytesLE 4 e.w1.toNat ++ bytesLE 4 e.w2.toNat ++ bytesLE 4 e.w3.toNat

/-- Write the map `es` over the map of `n` entries. -/
def rmapStore (es : List RmapEntry) (n : Nat) (s : State) : State :=
  let pad := if es.length < n then List.replicate 16 0 else []
  let a := (s.rd R.PHO_RMAP_BASE).toNat; let l := es.flatMap RmapEntry.bytes ++ pad
  match writeStop .wb a l.length none (s.wb (R.CTRL P.PHO) 0 false) with
  | none => s.put a l
  | some st =>
    let x := stopNote .wb a st s
    { (match x.1 with | some n => raise n x.2 | none => x.2) with bus := s.bus }

/-- Insert by TILE, V, U (R147). -/
def rmapSorted (e : RmapEntry) : List RmapEntry → List RmapEntry
  | [] => [e]
  | x :: l => if e.key ≤ x.key then e :: x :: l else x :: rmapSorted e l

/-- What an INSERT leaves for a pixel that has the entry `old` (R152). -/
def rmapOver (old new : RmapEntry) : RmapEntry :=
  if bitsOf new.w0 28 27 = 0 ∧ (bitsOf old.w0 28 27 = 1 ∨ bitOf old.w0 29) then
    { old with w0 := putBits old.w0 24 22 (bitsOf new.w0 24 22), w3 := new.w3 }
  else new

/-- Apply one edit to the map (R151 to R153). -/
def rmapApply (e : RmapEdit) (s : State) : State :=
  let es := rmapEntries s
  if e.insert then
    let new : RmapEntry := ⟨putBit (putBit e.e0 30 false) 31 true, e.e1, e.e2, word s.tickNum⟩
    match rmapFind s e.e0 with
    | some k => rmapStore (es.set k (rmapOver (es.getD k new) new)) es.length s
    | none =>
      if 16384 ≤ es.length then rmapResult 6 (s.irq P.PHO 1) else rmapStore (rmapSorted new es) es.length s
  else
    match rmapFind s e.e0 with
    | none => rmapResult 4 s
    | some k =>
      let m := s.rf R.SYS_MODE 3 0
      if bitOf (rmapEntry s k).w0 29 && !((m == 0 || m == 6) && e.maker) then rmapResult 5 s
      else rmapStore (es.eraseIdx k) es.length s

/-- An insert of a new pixel finds the map full (R153). -/
def rmapFull (e : RmapEdit) (s : State) : Bool := e.insert && (rmapFind s e.e0).isNone && decide (16384 ≤ (rmapEntries s).length)

/-- The edit engine applies the oldest queued edit (R151): after every pipe has finished a composed frame (R259, R577), while PHO EN is 1 and the base
is valid, and not within 20 µs of the next tick. -/
def rmapEditApply (s : State) : State :=
  match s.pho.edits with
  | [] => s
  | e :: l =>
    if !s.frm.live || !s.en P.PHO || !rmapValid s || s.rf (R.STATUS P.CMP) 3 0 != 0 || decide (s.nextTick < s.now + 20000) then s else
    let full := rmapFull e s
    let s := rmapApply e (s.setPho fun p => { p with edits := l, applied := p.applied + 1 })
    raiseIf full Src.RMAP_FULL (rmapShow (s.stAdd (R.STAT P.PHO 0) 15 0 1))

/-- Diagnosis inserts that found the queue full are tried again at the next frame (R150), in order, as far as there is room. -/
def rmapRetry (s : State) : State :=
  let n := 64 - s.pho.edits.length
  s.setPho fun p => { p with edits := p.edits ++ p.retry.take n, retry := p.retry.drop n }

/-- The tick ends an interval of edits (R151, R159). -/
def rmapTick (s : State) : State :=
  let s := s.irqIf (decide (0 < s.pho.applied) && s.pho.edits.isEmpty) P.PHO 0
  rmapShow (rmapRetry ((s.setPho fun p => { p with applied := 0 }).stSet (R.STAT P.PHO 0) 31 16 s.pho.edits.length))

/-- A diagnosis insert (R150): weights of PHO_RMAP_DEFW in up to four directions, lowest code first. -/
def diagInsert (t u v type func : Nat) (s : State) : RmapEdit :=
  let dirs := ((List.range 8).filter fun d => s.rb R.PHO_RMAP_DEFW (8 + d)).take 4
  let w := s.rf R.PHO_RMAP_DEFW 7 0
  let w1 := sumOf dirs.zipIdx fun p => w * 256 ^ p.2
  let w2 := sumOf dirs.zipIdx fun p => p.1 * 16 ^ p.2
  ⟨true, word (u + v * 2 ^ 10 + t * 2 ^ 20 + type * 2 ^ 22 + 2 * 2 ^ 25), word w1, word (w2 + func * 65536), false, true⟩

/-! ### The threshold tile (R155, R159) -/

/-- Advance PHO_DTH_ADDR by 4, wrapping at 4,096. -/
def dthAdvance (s : State) : State := s.wf R.PHO_DTH_ADDR 11 0 (s.rf R.PHO_DTH_ADDR 11 0 + 4)

/-- The effect of a write to PHO_DTH_DATA: four thresholds. -/
def dthWrite (_ w : Word) (s : State) : State :=
  let a := s.rf R.PHO_DTH_ADDR 11 0
  let s := s.over (List.range 4) fun s k => s.setPho fun p => { p with dth := sset 256 ((a + k) % 4096) (bitsOf w (8 * k + 7) (8 * k)) p.dth }
  dthAdvance (s.wr R.PHO_DTH_DATA 0#32)

/-- A read of PHO_DTH_DATA. -/
def dthRead (s : State) : State :=
  let a := s.rf R.PHO_DTH_ADDR 11 0
  dthAdvance (s.busData (word (ofLE ((List.range 4).map fun k => threshold s ((a + k) % 4096)))))

/-! ### Dose snapshots (R142 to R146) -/

/-- Lines of a slice but the last: ⌈H / 16⌉. -/
def sliceLines (s : State) (t : Fin 4) : Nat := cdiv (s.th t) 16

/-- Lines of slice `k`. -/
def sliceLen (s : State) (t : Fin 4) (k : Nat) : Nat := min (sliceLines s t) (s.th t - k * sliceLines s t)

/-- Z, the bytes of a slot (R142). -/
def slotSize (s : State) (t : Fin 4) : Nat := cdiv (64 + sliceLines s t * s.tw t * 2) 64 * 64

/-- eMRAM offset of slot `j` of tile `t`. -/
def slotOfs (s : State) (t : Fin 4) (j : Nat) : Nat := (s.rd R.PHO_SNAP_BASE).toNat + (t.val * 17 + j) * slotSize s t

/-- The current slot of slice `k` of tile `t`: slot k until one has been written or found. -/
def curSlot (s : State) (t : Fin 4) (k : Nat) : Nat := let j := sget 99 (16 * t.val + k) s.pho.slots; if j = 99 then k else j

/-- The free slot of tile `t` (R142). -/
def freeSlot (s : State) (t : Fin 4) : Nat := ((List.range 17).find? fun j => !((List.range 16).any fun k => curSlot s t k == j)).getD 16

/-- Dose map address of slice `k`. -/
def sliceAddr (s : State) (t : Fin 4) (k : Nat) : Nat := doseAddr s t 0 (k * sliceLines s t)

/-- A slot's bytes (R143). -/
def slotBytes (s : State) (t : Fin 4) (k : Nat) : List Nat :=
  let d := s.ldBytes (sliceAddr s t k) (sliceLen s t k * s.tw t * 2)
  let h := bytesLE 4 0x45534F44 ++ [t.val, k] ++ bytesLE 2 (sliceLen s t k) ++ bytesLE 4 (s.pho.seq[t] + 1) ++ bytesLE 8 s.tickNum ++
    bytesLE 2 (s.rf R.PHO_DOSE_UNIT 15 0) ++ List.replicate 38 0
  h ++ bytesLE 4 (crc32c (h ++ d)) ++ d

/-- The slice in progress waits and retries 10 s later (R145). -/
def snapDefer (s : State) : State := (s.setPho fun p => { p with tx := 0, retryAt := s.now + 10 ^ 10 }).wb R.PHO_SNAP_STAT 1 true

/-- Submit the slice in progress as one journal transaction (R144), or defer it (R145). -/
def snapSlice (s : State) : State :=
  match s.pho.snap with
  | none => s
  | some (tt, k) =>
    let t : Fin 4 := Fin.ofNat 4 tt
    if !winOpen s then snapDefer s else
    let r := txSubmit 3 true (slotOfs s t (freeSlot s t)) (slotBytes s t k) none (.snap tt) s
    if r.1 ≠ 0 then snapDefer r.2 else (r.2.setPho fun p => { p with tx := 1 }).wb R.PHO_SNAP_STAT 1 false

/-- The snapshot ends with RESULT `r` (R144, R145). -/
def snapEnd (r : Nat) (s : State) : State :=
  let s := (((s.setPho fun p => { p with snap := none, tx := 0 }).wf R.PHO_SNAP_STAT 7 4 r).wb R.PHO_SNAP_STAT 0 false).wb R.PHO_SNAP_STAT 1 false
  if r = 1 then s.irq P.PHO 2 else s.irq P.PHO 3

/-- The next driven tile from `t` on. -/
def tileFrom (s : State) (t : Nat) : Option Nat := (List.range 4).find? fun x => decide (t ≤ x) && s.tileOn (Fin.ofNat 4 x)

/-- Start a snapshot from tile 0 slice 0 (R144). -/
def snapStart (s : State) : State :=
  match tileFrom s 0 with
  | none => snapEnd 1 s
  | some t => snapSlice ((s.setPho fun p => { p with snap := some (t, 0), tx := 0 }).wb R.PHO_SNAP_STAT 0 true)

/-- A request while a snapshot or restore runs is ignored (R144). -/
def snapRequest (s : State) : State := if s.rb R.PHO_SNAP_STAT 0 then s else snapStart s

/-- The waiting transactions of a snapshot that ended are withdrawn, and the open one no longer reports to it. -/
def snapForget (s : State) : State :=
  let f : Tx → Tx := fun t => if t.upd matches .snap _ then { t with upd := .none } else t
  jrnShow { s with nvm := { s.nvm with queue := s.nvm.queue.filter (fun t => !(t.upd matches .snap _)), direct := s.nvm.direct.map f } }

/-- The hour of network time, or of RTC time in STANDALONE (R144). -/
def hourOf (s : State) : Nat := s.ttNs s.now / (3600 * 10 ^ 9)

/-- The first tick at or after a whole hour (R144, R145): an unfinished snapshot ends PARTIAL and a new one starts. -/
def snapHourly (s : State) : State :=
  let h := hourOf s
  if s.pho.hour = some h ∨ !s.rb R.PHO_DOSE_CTRL 1 then s.setPho fun p => { p with hour := some h } else
  let s := s.setPho fun p => { p with hour := some h }
  if s.pho.snap.isSome then snapStart (snapEnd 2 (snapForget s)) else snapRequest s

/-- A slice's transaction is sealed: its slot becomes current and the next slice starts, or the snapshot ends DONE (R144); a transaction that
ended otherwise defers the snapshot (R145). -/
def snapSliceDone (s : State) : State :=
  match s.pho.snap with
  | none => s
  | some (tt, k) =>
    let t : Fin 4 := Fin.ofNat 4 tt
    if s.pho.tx = 3 then snapDefer s
    else if s.pho.tx ≠ 2 then s
    else
      let j := freeSlot s t
      let s := s.setPho fun p => { p with slots := sset 99 (16 * t.val + k) j p.slots, seq := p.seq.set t (p.seq[t] + 1), tx := 0 }
      let s := s.wr R.PHO_SNAP_SEQ (word s.pho.seq[t])
      if k < 15 then snapSlice (s.setPho fun p => { p with snap := some (tt, k + 1) })
      else match tileFrom s (tt + 1) with
        | some t' => snapSlice (s.setPho fun p => { p with snap := some (t', 0) })
        | none => snapEnd 1 s

/-- A deferred snapshot retries every 10 s (R145); a slice whose transaction still waits in the journal needs no retry. -/
def snapRetry (s : State) : State :=
  if s.pho.snap.isSome && s.pho.tx == 0 && s.rb R.PHO_SNAP_STAT 1 && decide (s.pho.retryAt ≤ s.now) then snapSlice s else s

/-- Slot `j` is a valid slot of slice `k` (R146), with its SEQ. -/
def slotValid (s : State) (t : Fin 4) (k j : Nat) : Option Nat :=
  let a := 0x20000000 + slotOfs s t j
  let rd := fun o n => ofLE (s.seeBytes (a + o) n)
  if rd 0 4 = 0x45534F44 ∧ rd 4 1 = t.val ∧ rd 5 1 = k ∧
      crc32c (s.seeBytes a 60 ++ s.seeBytes (a + 64) (rd 6 2 * s.tw t * 2)) = rd 60 4 then some (rd 8 4) else none

/-- The valid slot of slice `k` with the highest SEQ. -/
def bestSlot (s : State) (t : Fin 4) (k : Nat) : Option (Nat × Nat) :=
  (List.range 17).foldl (fun best j =>
    match slotValid s t k j with
    | none => best
    | some q => match best with
      | none => some (j, q)
      | some b => if b.2 < q then some (j, q) else best) none

/-- Restore slice `k` of tile `t` (R146): from its newest valid slot, or to 0 with MISSING counted. -/
def restoreSlice (t : Fin 4) (s : State) (k : Nat) : State :=
  let n := sliceLen s t k * s.tw t * 2
  match bestSlot s t k with
  | some (j, q) =>
    let s := (engineWrite .wb (sliceAddr s t k) (s.seeBytes (0x20000000 + slotOfs s t j + 64) n) s).2
    s.setPho fun p => { p with slots := sset 99 (16 * t.val + k) j p.slots, seq := p.seq.set t (max p.seq[t] q) }
  | none => ((engineWrite .wb (sliceAddr s t k) (List.replicate n 0) s).2).wf R.PHO_SNAP_STAT 15 8 (satAdd 8 (s.rf R.PHO_SNAP_STAT 15 8) 1)

/-- RESTORE (R146): only while EN is 0. -/
def restoreStart (s : State) : State :=
  if s.en P.PHO then raise Src.CFG_LIVE_WRITE s
  else if s.rb R.PHO_SNAP_STAT 0 then s
  else
    let s := (s.wf R.PHO_SNAP_STAT 15 8 0).wb R.PHO_SNAP_STAT 0 true
    s.over (List.finRange 4) fun s t => if s.tileOn t then s.over (List.range 16) (restoreSlice t) else s

/-- The restore completes (R146). -/
def restoreDone (s : State) : State :=
  if s.rb R.PHO_SNAP_STAT 0 && s.pho.snap.isNone then
    let s := (s.wb R.PHO_SNAP_STAT 0 false).wf R.PHO_SNAP_STAT 7 4 3
    if s.rf R.PHO_SNAP_STAT 15 8 = 0 then s else raise Src.DOSE_RESTORE_FAIL (s.irq P.PHO 3)
  else s

/-- The effect of a write to PHO_SNAP_CMD (R144, R146). A write of both bits snaps first, and a RESTORE while a snapshot runs is ignored (log entry 143). -/
def snapCmd (_ w : Word) (s : State) : State :=
  let s := if bitOf w 0 then snapRequest s else s
  if bitOf w 1 then restoreStart s else s

end Sys2Proof.Machine
end

