-- ==== Sys2Proof/Machine/Sensors.lean ====
section
/-! DEFINITION. Temperature sensors (R380, R382, R383): values as they come, failure, the value a failed sensor holds, and its return. -/

namespace Sys2Proof.Machine

/-- Sensor `i`: 0 to 11 on-die, 12 and 13 NTC, 16 + 8t + k sensor `k` of tile `t`. -/
def State.sensor (s : State) (i : Nat) : SensorSt := sget SensorSt.reset i s.thm.sens

/-- Update sensor `i`. -/
def State.setSensor (s : State) (i : Nat) (f : SensorSt → SensorSt) : State :=
  { s with thm := { s.thm with sens := sset SensorSt.reset i (f (s.sensor i)) s.thm.sens } }

/-- The fail bit of a sensor (R382). -/
def failAddr (i : Nat) : Nat × Nat := if i < 16 then (R.THM_SENSOR_FAIL, i) else (R.THM_TILE_FAIL, i - 16)

/-- Sensor `i` is failed. -/
def sensorFailed (s : State) (i : Nat) : Bool := s.rb (failAddr i).1 (failAddr i).2

/-- The value of a sensor, live or held; none before it has given one (R383). -/
def sensorValue (s : State) (i : Nat) : Option Int := if sensorFailed s i then some (s.sensor i).held else (s.sensor i).raw

/-- A temperature in 1/256 °C as an S7.8 field shows it (R7, R8). -/
def tempField (v : Int) : Nat := enc 16 (satS 16 v)

/-- Show an on-die sensor or NTC (R396). -/
def showSensor (i : Nat) (s : State) : State :=
  let a := if i < 12 then R.THM_SENS i else R.THM_NTC (i - 12)
  if 14 ≤ i then s else
  match sensorValue s i with
  | some v => s.wr a (word (bit (sensorFailed s i) * 2 ^ 31 + tempField v))
  | none => s

/-- Insert a valid value: of the last 10 s, values that no later one exceeds. -/
def keepValue (now : Nat) (v : Int) (l : List (Nat × Int)) : List (Nat × Int) :=
  (l.filter fun p => decide (now ≤ p.1 + 10000000000) && decide (v < p.2)) ++ [(now, v)]

/-- The highest valid value of the 10 s before (R383). -/
def highest (now : Nat) (l : List (Nat × Int)) : Option Int :=
  (l.filter fun p => decide (now ≤ p.1 + 10000000000)).foldl (fun m p => some (match m with | none => p.2 | some x => max x p.2)) none

/-- The sensor that compensates the crystal (R391): TS11, NTC0 or NTC1. -/
def xoSensor (s : State) : Nat := let k := s.rf R.CLK_XO_CFG 5 4; if k = 1 then 12 else if k = 2 then 13 else 11

/-- A failure condition of R382 holds: SENSOR_FAIL where the sensor had not failed before. -/
def sensorFail (i : Nat) (s : State) : State :=
  let s := s.setSensor i fun x => { x with badAt := s.now }
  if sensorFailed s i then s else
  let s := s.setSensor i fun x => { x with held := (highest s.now x.hist).getD (x.raw.getD 0) }
  let s := s.wb (failAddr i).1 (failAddr i).2 true
  raise Src.SENSOR_FAIL ((s.irq P.THM 3).irqIf (i == xoSensor s) P.CLK 1)

/-- No TEMP record for 4 × TEMP_PERIOD frames while the link is UP (R382), in ticks; a tile that sends none has no limit. -/
def tempLate (s : State) (t : Fin 4) (k : Nat) : Bool :=
  let p := s.tile[t].tempPeriod
  s.linkUp t && p != 0 && decide (max (s.sensor (16 + 8 * t.val + k)).got s.tile[t].tempFrom + 4 * p ≤ s.tickNum)

/-- Sensor `i` is a tile's whose records are late. -/
def lateNow (s : State) (i : Nat) : Bool := decide (16 ≤ i) && tempLate s (Fin.ofNat 4 ((i - 16) / 8)) ((i - 16) % 8)

/-- The temperature of the compensation takes a value of its sensor, live or held, every 100 ms (R391); what the RTC has counted by then is counted at the
temperature before. -/
def xoNote (i : Nat) (s : State) : State :=
  let due := match s.tim.xoAt with
    | some t => decide (t + 100000000 ≤ s.now)
    | none => true
  match sensorValue s i with
  | some v =>
    if i == xoSensor s && due then
      { s with tim := { s.tim with xoT := v, xoAt := some s.now, base := if s.tim.deepAt.isSome then s.cntAt s.now else s.tim.base,
                                   deepAt := s.tim.deepAt.map fun _ => s.now } }
    else s
  | none => s

/-- A value of sensor `i` comes (R382): `bad` says that it meets the sensor's condition, three times in a row for an on-die sensor. Records that were
late end their condition with it (R383). -/
def noteValue (i : Nat) (bad : Bool) (v : Int) (s : State) : State :=
  let s := if lateNow s i then s.setSensor i fun x => { x with badAt := s.now } else s
  let s := s.setSensor i fun x => { x with
    raw := some v, got := if i < 16 then s.now else s.tickNum, cnt := if bad then x.cnt + 1 else 0,
    hist := if bad then x.hist else keepValue s.now v x.hist }
  let s := if (if i < 12 then 3 else 1) ≤ (s.sensor i).cnt then sensorFail i s else s
  xoNote i (showSensor i s)

/-- A conversion outside -60 to +170 °C, or more than 5 °C from the one before (R382). -/
def dieBad (s : State) (i : Nat) (v : Int) : Bool :=
  decide (v < -15360) || decide (43520 < v) || (match (s.sensor i).raw with | some r => decide (1280 < (v - r).natAbs) | none => false)


/-- The effect of a W1C write of `w` to a fail register (R383): a bit clears only where the sensor has met no failure condition for 1 s; `old` is the
register before the write. -/
def sensorClear (a : Nat) (old w : Word) (s : State) : State :=
  let base := if a = R.THM_SENSOR_FAIL then 0 else 16
  s.over (List.range 32) fun s b =>
    if bitOf old b && bitOf w b then
      if s.now < (s.sensor (base + b)).badAt + 1000000000 ∨ (base == 16 && lateNow s (16 + b)) then s.wb a b true else showSensor (base + b) s
    else s

end Sys2Proof.Machine
end

