-- ==== Sys2Proof/Machine/Drive.lean ====
section
/-! DEFINITION. The pixel drive (chapter 06): the layout of codes in slots, the SEQ table and its check, probes and their verification,
defects, and the safety functions. -/

namespace Sys2Proof.Machine


/-! ### Layout of a code (R242 to R250) -/

/-- A SEQ table (R221): ORDER, MERGE_THR, MERGE_MIN. -/
structure SeqTable where
  order : List Nat
  thr : Nat
  min : Nat
  deriving DecidableEq, Repr

/-- The table of the committed registers (R244, R245). -/
def seqTable (s : State) : SeqTable :=
  ⟨(List.range 64).map fun k => s.rf (R.DRV_SEQ_ORDER (k / 4)) (8 * (k % 4) + 7) (8 * (k % 4)), s.rf R.DRV_SEQ_CFG 11 0, s.rf R.DRV_SEQ_CFG 21 16⟩

/-- A valid table (R244). -/
def SeqTable.valid (q : SeqTable) : Bool :=
  (List.range 64).all (fun k => q.order.contains k) && q.order.length == 64 && decide (q.thr < 4096) && decide (1 ≤ q.min) && decide (q.min ≤ 32)

/-- Place of slot `s` in ORDER. -/
def SeqTable.place (q : SeqTable) (s : Nat) : Nat := q.order.idxOf s

/-- Pulses of a merged code (R242). -/
def mergedPulses (q : SeqTable) (c : Nat) : Nat := min 64 (max 1 (c / q.min))

/-- Units of slot `s` for code `c` (R242). -/
def slotUnits (q : SeqTable) (c s : Nat) : Nat :=
  if c = 0 then 0
  else if q.thr ≤ c then c / 64 + bit (decide (q.place s < c % 64))
  else
    let np := mergedPulses q c
    if q.place s < np then c / np + bit (decide (q.place s < c % np)) else 0

/-- Units of every slot. -/
def codeUnits (q : SeqTable) (c : Nat) : List Nat := (List.range 64).map (slotUnits q c)

/-- The longest pulse of a code: a slot filled to its end and a lit next slot are one pulse (R243, R244). -/
def longestPulse (q : SeqTable) (c : Nat) : Nat :=
  ((codeUnits q c).foldl (fun (a : Nat × Nat × Bool) x =>
    let run := if a.2.2 then a.2.1 + x else x
    (max a.1 run, run, x == 64)) (0, 0, false)).1

/-- M of the stretch sequence (R247) for the frame lengths before and now; no MARK before is 0. -/
def stretch (prev len : Nat) : Nat :=
  if prev = 0 ∨ len ≤ prev then 1 else if len ≤ 2 * prev then 2 else if len ≤ 4 * prev then 4 else 8

/-- Units of sub-slot `j` of a slot of `u` units, of `m` sub-slots (R247). -/
def subSlot (u m j : Nat) : Nat := (u + j) / m

/-- The first unit of the probe (R250): it ends with the last unit of slot ORDER[63], or begins the frame. -/
def probeStart (q : SeqTable) (units : Nat) : Nat := 64 * q.order.getD 63 0 + 64 - units

/-- Group of a pixel (R250). -/
def groupOfPixel (gn skew u v : Nat) : Nat := (u + skew * v) % gn

/-! ### Probe settings (R251, R252) -/

/-- w_p of a tile that reports MIN_PULSE `mp`, at the rate in force (R251), within the 8 bits of PROBE_UNITS (R249). -/
def probeWidth (s : State) (mp : Nat) : Nat := min 255 (max 1 (cdiv (mp * 4096 * s.rate10) (10 ^ 10)))

/-- MIN_PULSE of the tile's enumeration record (R234). -/
def minPulse (s : State) (t : Fin 4) : Nat := s.rf (R.SPL_ENUM t 5) 15 0

/-- GN_EFF (R251). -/
def gnEffOf (s : State) : Nat :=
  let need := (List.finRange 4).foldl (fun m t => if s.linkUp t then max m (cdiv (probeWidth s (minPulse s t)) 2) else m) 1
  let base := min 8 (s.rf R.DRV_PROBE_CFG 3 0)
  2 ^ (((List.range 9).find? fun k => decide (base ≤ k) && decide (need ≤ 2 ^ k)).getD 8)

/-- Queue a write of a tile register: behind the pixel drive's other commands and before software's (R226), or first of all (R251). -/
def drvWrite (t : Fin 4) (addr data : Nat) (first : Bool) (s : State) : State :=
  let c : CtrlCmd := ⟨2, addr, data, 1, 0, 0, 0⟩
  s.setTile t fun x => { x with queue := if first then c :: x.queue else x.queue.filter (fun y => y.org != 0) ++ c :: x.queue.filter (fun y => y.org == 0) }

/-- The probes run at the tiles (R251, R577): PROBE_EN while the lamp is not dark. -/
def probeWanted (s : State) : Bool := s.rb (R.CTRL P.DRV) 1 && s.lampKind != 0

/-- PROBE_GROUPS for a tile. -/
def groupsWord (gn skew : Nat) : Nat := skew * 256 + Nat.log2 gn

/-- Show w_p and MIN_PULSE of every tile with a record, and GN_EFF (R251). -/
def showProbe (s : State) : State :=
  let s := s.over (List.finRange 4) fun s t =>
    if s.linkUp t then s.wr (R.DRV_PROBE_UNITS t) (word (minPulse s t * 65536 + probeWidth s (minPulse s t))) else s
  s.wr R.DRV_PROBE_STAT (word (gnEffOf s))

/-- After any change of GN_EFF or SKEW, PROBE_GROUPS is written again to the tiles that are UP (R251). -/
def groupsChanged (skip : Option (Fin 4)) (s : State) : State :=
  let s := showProbe s
  let g := (s.rf R.DRV_PROBE_STAT 8 0, s.rf R.DRV_PROBE_CFG 15 8)
  if g = s.sync.gnSkew then s else
  let s := { s with sync := { s.sync with gnSkew := g } }
  s.over (List.finRange 4) fun s t => if s.linkUp t && some t != skip then drvWrite t 0x10C (groupsWord g.1 g.2) false s else s

/-- After a link UP the tile's settings are written (R251). -/
def probeSetup (t : Fin 4) (s : State) : State :=
  let s := groupsChanged (some t) s
  let g := s.sync.gnSkew
  let s := drvWrite t 0x108 (s.rf (R.DRV_PROBE_UNITS t) 7 0) false s
  let s := drvWrite t 0x10C (groupsWord g.1 g.2) false s
  let s := drvWrite t 0x004 0xF false s
  drvWrite t 0x104 (bit (probeWanted s)) false s

/-- After a timing-mode change PROBE_UNITS is the pixel drive's first command (R251). -/
def unitsAgain (s : State) : State :=
  let s := showProbe s
  s.over (List.finRange 4) fun s t => if s.linkUp t then drvWrite t 0x108 (s.rf (R.DRV_PROBE_UNITS t) 7 0) true s else s

/-- PROBE_CTRL is written when the wanted value changes: a write of CTRL.PROBE_EN (R274), or the lamp going dark or lit (R577). -/
def pushProbe (was : Bool) (s : State) : State :=
  if probeWanted s = was then s else
  s.over (List.finRange 4) fun s t => if s.linkUp t then drvWrite t 0x104 (bit (probeWanted s)) false s else s

/-- The ACK of a pixel-drive command (R251, R274): that of PROBE_CTRL completes the set-up. -/
def drvAcked (t : Fin 4) (c : CtrlCmd) (s : State) : State :=
  if c.org = 1 ∧ c.addr = 0x104 then s.wb (R.STATUS P.DRV) (4 + t) true else s

/-- What an OK ACK says that the tile now holds (R227, R249): TEMP_PERIOD at once, PROBE_CTRL, PROBE_UNITS and PROBE_GROUPS from its next swap, whoever
wrote them. -/
def tileTakes (t : Fin 4) (c : CtrlCmd) (s : State) : State :=
  if c.cmd ≠ 2 then s
  else if c.addr = 0x008 then s.setTile t fun x => { x with tempPeriod := c.data % 65536, tempFrom := s.tickNum }
  else if c.addr = 0x104 then s.setTile t fun x => { x with probeNew := some (c.data % 2 == 1) }
  else if c.addr = 0x108 then s.setTile t fun x => { x with unitsNew := some (c.data % 256) }
  else if c.addr = 0x10C then s.setTile t fun x => { x with gnNew := some (2 ^ (c.data % 16), c.data / 256 % 256) }
  else s

/-- The tile swaps: settings acknowledged before take force, and every group counts as though probing had just begun where they changed
(R249, R254). -/
def swapSettings (s : State) (t : Fin 4) : State :=
  let x := s.tile[t]
  let (gn, skew) := x.gnNew.getD (x.gnEff, x.skew)
  let on := x.probeNew.getD x.probing
  let fresh := decide (gn ≠ x.gnEff ∨ skew ≠ x.skew) || (on && !x.probing)
  s.setTile t fun x =>
    let x := { x with gnEff := gn, skew := skew, probing := on, units := x.unitsNew.getD x.units, gnNew := none, probeNew := none, unitsNew := none }
    if fresh then { x with since := s.now, probes := [], verified := [], fault := [], counts := [] } else x

/-- The lit frame is a probe frame (R250). -/
def isProbeFrame (s : State) (t : Fin 4) : Bool := s.linkUp t && s.tile[t].probing && !(s.tile[t].markFlags.testBit 0)

/-- Pixels of the frame's probe group that receive a probe (R257): `codes` in line order, with the settings in force at the tile (R249). -/
def probedPixels (s : State) (t : Fin 4) (n : Nat) (codes : List Nat) : Nat :=
  let x := s.tile[t]; let q := seqTable s; let w := max 1 (s.lw t)
  (codes.zipIdx.filter fun p => groupOfPixel x.gnEff x.skew (p.2 % w) (p.2 / w) == n % x.gnEff && decide (longestPulse q p.1 < x.units)).length

/-- A frame lights (R253, R257): the probe frame is noted with its time, and its probes are counted. -/
def lightProbe (s : State) (t : Fin 4) : State :=
  let n := s.tile[t].markNum
  if isProbeFrame s t && n == s.tickNum then
    (s.setTile t fun x => { x with probes := x.probes ++ [(n, s.now)] }).stSet (R.DRV_STAT_PROBE t) 31 0 (probedPixels s t n s.tile[t].sent)
  else s

/-! ### The check of the table (R245, R246) -/

/-- A committed change of the table (R245): SEQ_ID rises and every tile that is UP receives the table first after the tick. -/
def seqChanged (s : State) : State :=
  let s := s.wf R.DRV_SEQ_CFG 31 24 (s.rf R.DRV_SEQ_CFG 31 24 + 1)
  s.over (List.finRange 4) fun s t => if s.linkUp t then s.setTile t fun x => { x with seqDue := true } else s

/-- The SEQ packet of the table in force, with the parity of the first frame that may use it (R220, R221, R245). -/
def seqSend (t : Fin 4) (frame : Nat) (s : State) : State :=
  let q := seqTable s
  sendPacket t s.now24 s (seqPacket frame q.order q.thr q.min (s.rf R.DRV_SEQ_CFG 31 24))

/-- At a tick (R196, R245, R246): a new table or one due again is sent first, with SEQ_SWITCH in the next MARK, and after a MARK with SEQ_SWITCH the pixel
drive reads SEQ_ACTIVE. -/
def seqTick (s : State) (t : Fin 4) : State :=
  if !s.linkUp t then s else
  let x := s.tile[t]
  let c : CtrlCmd := ⟨1, 0x100, 0, 2, 0, 0, 0⟩
  let q := if x.seqRead then x.queue.filter (fun y => y.org != 0) ++ c :: x.queue.filter (fun y => y.org == 0) else x.queue
  let s := if x.seqDue then seqSend t s.frame s else s
  s.setTile t fun y => { y with seqDue := false, seqSwitch := x.seqSwitch || x.seqDue, seqRead := false, queue := q }

/-- The check ends (R246): `ok` is an ACK with VALID and the committed SEQ_ID. -/
def seqChecked (t : Fin 4) (ok : Bool) (s : State) : State :=
  if ok then (s.setTile t fun x => { x with seqFails := 0, seqBad := false }).wb (R.STATUS P.DRV) t true
  else
    let n := s.tile[t].seqFails + 1
    let s := s.setTile t fun x => { x with seqFails := n, seqDue := true }
    if 3 ≤ n && !s.tile[t].seqBad then
      let s := (s.setTile t fun x => { x with seqBad := true }).wb (R.STATUS P.DRV) t false
      raise (Src.DRV_SEQ_MISMATCH t) (s.irq P.DRV 3)
    else s

/-! ### Safety functions (R260 to R266) -/

/-- DRV_FN_STAT and DRV_FN_OFF of a function that is switched off with a cause (R263). -/
def fnMark (cause : Nat) (s : State) (f : Nat) : State :=
  let a := R.DRV_FN_STAT f
  (s.wr a (putBits (putBits (putBit (s.rd a) 0 true) 3 1 cause) 31 16 s.tick16)).wb R.DRV_FN_OFF f true

/-- Switch the functions of `l` that are on off with a cause (R263): a function that is off stays as it is. -/
def fnsOff (l : List Nat) (cause : Nat) (s : State) : State :=
  let l := l.filter fun f => !s.rb R.DRV_FN_OFF f
  if l = [] then s else raiseAll (l.map fun _ => ⟨Src.DRV_FUNC_OFF, true, false⟩) ((s.over l (fnMark cause)).irq P.DRV 1)

/-- Switch function `f` off with a cause. -/
def fnOff (f cause : Nat) (s : State) : State := fnsOff [f] cause s

/-- A rectangle's FAIL (R209, R259, R263): FUNC 0 to 31 names a function; the logic runs while EN is 1, and not in FALLBACK. -/
def fnRect (func : Nat) (s : State) : State := if s.en P.DRV && s.lampKind != 2 && decide (func < 32) then fnOff func 2 s else s

/-- The effect of a write to DRV_FN_KILL (R263). -/
def fnKill (_ w : Word) (s : State) : State := fnsOff ((List.range 32).filter (bitOf w)) 3 s

/-- The entries of the defect table in order. -/
def defects (s : State) : List Word := (List.range (s.rf R.DRV_DEF_COUNT 9 0)).map fun e => s.rd (R.DRV_DEF e)

/-- Write the defect table back; entries from COUNT upward read 0 (R274). -/
def setDefects (l : List Word) (s : State) : State :=
  let s := s.over (List.range 512) fun s e => s.wr (R.DRV_DEF e) (l.getD e 0#32)
  let s := s.wr R.DRV_DEF_COUNT (word l.length)
  if l.length < 512 then { s with sync := { s.sync with defFull := false } } else s

/-- Clear function `f` (R266): its entries go, DEFECTS is 0, and it is on from the next tick. -/
def fnClear1 (s : State) (f : Nat) : State :=
  let s := setDefects ((defects s).filter fun w => bitsOf w 31 24 != f) s
  (s.wf (R.DRV_FN_STAT f) 15 0 0).wb R.DRV_FN_OFF f false

/-- The effect of a write to DRV_FN_CLEAR. -/
def fnClear (_ w : Word) (s : State) : State := s.over ((List.range 32).filter (bitOf w)) fnClear1

/-- The effect of a write to DRV_DEF_CMD (R274): the last entry moves into the place of entry IDX. -/
def defDelete (_ w : Word) (s : State) : State :=
  let l := defects s; let k := bitsOf w 8 0
  if bitOf w 31 && decide (k < l.length) then setDefects ((l.set k (l.getD (l.length - 1) 0#32)).take (l.length - 1)) s else s

/-- Address of a pixel's footprint byte in plane `b` (R261). -/
def fpAddr (s : State) (t : Fin 4) (b u v : Nat) : Nat := (s.rd (R.DRV_FP_BASE t)).toNat + b * (s.tw t * s.th t) + v * s.tw t + u

/-- The plane by which a report of frame `n` is attributed (R261): plane n mod 3, or for a late record the most recent intact one. -/
def fpPlane (s : State) (t : Fin 4) (n : Nat) : Option Nat :=
  let x := s.tile[t]
  let b : Fin 3 := Fin.ofNat 3 n
  if s.tickNum < n + 2 then (if x.fpOk[b] && x.fpFrame[b] == n then some b.val else none)
  else ((List.finRange 3).filter (fun b => x.fpOk[b] && decide (x.fpFrame[b] ≤ s.tickNum))).foldl
    (fun m (b : Fin 3) => match m with
      | none => some b.val
      | some k => if x.fpFrame[Fin.ofNat 3 k] < x.fpFrame[b] then some b.val else some k) none

/-- Function `f` is defined and its layer is active on tile `t`. -/
def fnActive (s : State) (t : Fin 4) (f : Nat) : Bool :=
  s.rb (R.DRV_FN_CFG f) 0 && (layerFor s t (Fin.ofNat 8 (s.rf (R.DRV_FN_CFG f) 3 1))).isSome

/-- The functions whose footprint holds a reported pixel (R261), or every active one where the byte cannot be read (R262). -/
def fnsAt (s : State) (t : Fin 4) (n u v : Nat) : List Nat :=
  match fpPlane s t n with
  | some b => let a := fpAddr s t b u v
    if s.isUe a then (List.range 32).filter (fnActive s t) else (let f := s.ldN a; if f < 32 then [f] else [])
  | none => (List.range 32).filter (fnActive s t)

/-- The pixel has a repair-map entry with LOCK = 1 (R263). -/
def pixelLocked (s : State) (t : Fin 4) (u v : Nat) : Bool :=
  (tileRepairs s t).any fun e => bitOf e.w0 29 && bitsOf e.w0 9 0 == u && bitsOf e.w0 19 10 == v

/-- The defect counts toward function `f` (R263): once, until its entry is found in another function's footprint. -/
def fnCount (k : Option Nat) (s : State) (f : Nat) : State :=
  let done := match k with
    | some e => s.rb (R.DRV_DEF e) 23 && s.rf (R.DRV_DEF e) 31 24 == f
    | none => false
  if done then s else
  let s := match k with
    | some e => (s.wf (R.DRV_DEF e) 31 24 f).wb (R.DRV_DEF e) 23 true
    | none => s
  let n := satAdd 8 (s.rf (R.DRV_FN_STAT f) 15 8) 1
  let s := s.wf (R.DRV_FN_STAT f) 15 8 n
  if s.rf (R.DRV_FN_CFG f) 23 16 < n then fnOff f 1 s else s

/-- DRV_DEF_FULL once for each time that the table is full (R256). -/
def defFullRaise (s : State) : State :=
  if s.rf R.DRV_DEF_COUNT 9 0 = 512 ∧ !s.sync.defFull then
    raise Src.DRV_DEF_FULL ({ s with sync := { s.sync with defFull := true } }.irq P.DRV 4)
  else s

/-- Frame `n` was a fallback frame (R259). -/
def fbFrame (s : State) (n : Nat) : Bool := s.sync.fbRuns.any fun r => decide (r.1 ≤ n) && decide (n ≤ r.2)

/-- Frame `n` lights as a fallback frame: the run of such frames grows, or a new one begins. -/
def noteFbFrame (n : Nat) (s : State) : State :=
  { s with sync := { s.sync with fbRuns := match s.sync.fbRuns with
    | r :: l => if r.2 + 1 = n then (r.1, n) :: l else (n, n) :: r :: l
    | [] => [(n, n)] } }

/-- A report of a pixel OPEN or SHORT for frame `n` (R255, R256, R259, R263). The function logic does not act in FALLBACK, nor on a late report of a
fallback frame. FUNC of the diagnosis insert is that of the footprint byte, or the lowest of the functions to which the defect is attributed where the
byte cannot be read (DESIGN CHOICE, log entry 180). -/
def defReport (t : Fin 4) (n u v : Nat) (short : Bool) (s : State) : State :=
  let s := s.stAdd R.DRV_STAT_DEF 15 0 1
  let l := defects s
  let key := u + v * 2 ^ 10 + t.val * 2 ^ 20
  let found := l.findIdx? fun w => bitsOf w 21 0 == key
  let fns := fnsAt s t n u v
  let r : Option Nat × State := match found with
    | some e => (some e, s)
    | none =>
      let s := s.stAdd R.DRV_STAT_DEF 31 16 1
      let s := if s.pho.edits.length < 64 then rmapQueue (diagInsert t u v (bit short) (fns.headD 0xFF) s) s
               else s.setPho fun p => { p with retry := p.retry ++ [diagInsert t u v (bit short) (fns.headD 0xFF) s] }
      if l.length < 512 then
        let s := (s.wr (R.DRV_DEF l.length) (word (0xFF * 2 ^ 24 + bit short * 2 ^ 22 + key))).wr R.DRV_DEF_COUNT (word (l.length + 1))
        (some l.length, defFullRaise (raise Src.DRV_PIXEL_DEFECT (s.irq P.DRV 0)))
      else (none, defFullRaise (raise Src.DRV_PIXEL_DEFECT (s.irq P.DRV 0)))
  if r.2.lampKind = 2 ∨ fbFrame r.2 n ∨ pixelLocked r.2 t u v then r.2 else r.2.over fns (fnCount r.1)

/-! ### Verification and coverage (R253, R254) -/

/-- The pixels of the probe group of frame `n` on tile `t`. -/
def groupSize (s : State) (t : Fin 4) (n : Nat) : Nat :=
  let x := s.tile[t]
  sumOf (List.range (s.lh t)) fun v => ((List.range (s.lw t)).filter fun u => groupOfPixel x.gnEff x.skew u v == n % x.gnEff).length

/-- A tested pixel of frame `n` counts toward its group once (R253). -/
def notePixel (t : Fin 4) (n u v : Nat) (s : State) : State :=
  let x := s.tile[t]
  let p := (n, v * s.lw t + u)
  if x.probes.any (fun q => q.1 == n) && decide (u < s.lw t) && decide (v < s.lh t) && groupOfPixel x.gnEff x.skew u v == n % x.gnEff && !x.counts.contains p then
    s.setTile t fun x => { x with counts := x.counts ++ [p] }
  else s

/-- The group of frame `n` is verified when every pixel of it has been reported (R253). -/
def verifyFrame (t : Fin 4) (n : Nat) (s : State) : State :=
  let x := s.tile[t]
  let c := (x.counts.filter fun p => p.1 == n).length
  match x.probes.find? (fun q => q.1 == n) with
  | none => s
  | some q =>
    if c = groupSize s t n ∧ c ≠ 0 then
      let g := n % x.gnEff
      let s := s.stAdd (R.DRV_STAT_VERIFIED t) 31 0 c
      s.setTile t fun x => { x with counts := x.counts.filter (fun p => p.1 != n), probes := x.probes.filter (fun p => p.1 != n),
                                    fault := x.fault.filter (· != g), verified := sset 0 g (max q.2 (sget 0 g x.verified)) x.verified }
    else s

/-- When group `g` was last verified, or probing began (R254). -/
def groupSince (x : TileSt) (g : Nat) : Nat := max x.since (sget 0 g x.verified)

/-- DRV_COVER_AGE (R253): µs since the least recently verified group of a tile with probing on. -/
def coverAge (s : State) (t : Fin 4) : Nat :=
  let x := s.tile[t]
  if x.probing then ((List.range x.gnEff).foldl (fun m g => max m ((s.now - groupSince x g) / 1000)) 0) else 0

/-- Show the ages. -/
def showAges (s : State) : State := s.over (List.finRange 4) fun s t => s.wr (R.DRV_COVER_AGE t) (word (satU 32 (coverAge s t)))

/-- How long after its last verified probe frame a group is in fault (R254): up to the second tick after the one at which the 2.0 s have run out. The
ticks may have moved by 1 µs per second (R198). -/
def coverLimit (s : State) : Nat := (cdiv s.rate10 5 + 2) * 10 ^ 10 / s.rate10 - 2001

/-- DRV_COVERAGE of tile `t` (R254), whose PROBE_CTRL.EN is 1, also while its link is not UP: every group whose 2.0 s and the two periods after the tick
at which they ran out have passed. -/
def coverage (t : Fin 4) (s : State) : State :=
  let x := s.tile[t]
  if !s.en P.DRV || !x.probing || s.lampKind == 0 then s else
  let due := (List.range x.gnEff).filter fun g => decide (groupSince x g + coverLimit s ≤ s.now) && !x.fault.contains g
  if due = [] then s
  else raiseAll (due.map fun _ => ⟨Src.DRV_COVERAGE t, true, false⟩) ((s.setTile t fun x => { x with fault := x.fault ++ due }).irq P.DRV 2)

/-! ### Records kept (R258) -/

/-- A VF record of frame `n`: the sum of the frame, which the mean is taken of. -/
def noteVf (t : Fin 4) (n mv : Nat) (s : State) : State :=
  let x := s.tile[t]
  let (sum, cnt) := if x.vfFrame = n then (x.vfSum + mv, x.vfCnt + 1) else (mv, 1)
  let s := s.setTile t fun x => { x with vfFrame := n, vfSum := sum, vfCnt := cnt }
  let s := { s with ctl := { s.ctl with vfSeq := s.ctl.vfSeq.set t (s.ctl.vfSeq[t] + 1) } }
  s.wr (R.DRV_TILE_VF t) (word (satU 16 cnt * 65536 + (rndDiv sum cnt).toNat))

/-- A TEMP record of sensor `k`. -/
def noteTemp (t : Fin 4) (k v : Nat) (s : State) : State :=
  if 8 ≤ k then s else
  let j := 8 * t.val + k
  let s := { s with ctl := { s.ctl with tempSeq := sset 0 j (sget 0 j s.ctl.tempSeq + 1) s.ctl.tempSeq } }
  let s := { s with thm := { s.thm with temps := s.thm.temps.set t ((s.thm.temps[t].filter fun (p : Nat × Int) => decide (s.now ≤ p.1 + 1000000000)) ++ [(s.now, sx 16 v)]) } }
  noteValue (16 + j) (decide (sx 16 v < -15360) || decide (43520 < sx 16 v)) (sx 16 v) (s.wr (R.DRV_TILE_TEMP t k) (word (s.tick16 * 65536 + v % 65536)))

end Sys2Proof.Machine
end

