-- ==== Sys2Proof/Machine/Control.lean ====
section
/-! DEFINITION. The closed-loop control engine (R299 to R329): arithmetic, one sample of a loop, HOLD, injection, capture, and the tick. -/

namespace Sys2Proof.Machine

/-- Page of loop `k`. -/
abbrev ctlk (k : Fin 16) : Nat := P.CTLK k

/-- STATE of loop `k`: 0 OFF, 1 RUN, 2 HOLD. -/
def loopState (s : State) (k : Fin 16) : Nat := s.rf (R.STATUS (ctlk k)) 1 0

/-! ### Arithmetic (R302, R303) -/

/-- sat32. -/
def sat32 (x : Int) : Int := satS 32 x

/-- One product term: the 64-bit product of coefficient `e` and a signal, rounded and shifted. -/
def term (s : State) (k : Fin 16) (e : Nat) (x : Int) : Int := rnd (s.rf (R.CTL_LOOP_COEF_SHIFT k e) 4 0) (sw (s.rd (R.CTL_LOOP_COEF_VAL k e)) * x)

/-- A sum in the 64-bit accumulator, with the number of saturating additions. -/
def accum (l : List Int) : Int × Nat :=
  l.foldl (fun (a : Int × Nat) x => let y := satS 64 (a.1 + x); (y, a.2 + bit (y != a.1 + x))) (0, 0)

/-- Count accumulator saturations. -/
def countAcc (k : Fin 16) (n : Nat) (s : State) : State := if n = 0 then s else s.stAdd (R.CTL_LOOP_STAT_SAT k) 31 16 n

/-- Sizes: states, measurements, commands, references (R299). -/
def nx (s : State) (k : Fin 16) : Nat := s.rf (R.CTL_LOOP_CFG k) 10 8 + 1
/-- Measurements. -/
def ny (s : State) (k : Fin 16) : Nat := s.rf (R.CTL_LOOP_CFG k) 13 12 + 1
/-- Commands. -/
def nu (s : State) (k : Fin 16) : Nat := s.rf (R.CTL_LOOP_CFG k) 17 16 + 1
/-- References. -/
def nr (s : State) (k : Fin 16) : Nat := s.rf (R.CTL_LOOP_CFG k) 21 20 + 1
/-- Samples per frame. -/
def spf (s : State) (k : Fin 16) : Nat := max 1 (s.rf (R.CTL_LOOP_SPF k) 14 0)
/-- Compensation: 0 NONE, 1 NOTCH, 2 REPETITIVE, which slots 0 to 3 have (R314, R315). -/
def comp (s : State) (k : Fin 16) : Nat := let c := s.rf (R.CTL_LOOP_CFG k) 25 24; if c = 2 ∧ 4 ≤ k.val then 0 else c

/-- State estimate i. -/
def xHat (s : State) (k : Fin 16) (i : Nat) : Int := sw (s.rd (R.CTL_LOOP_X_HAT k i))

/-! ### Sample timing (R304, R305) -/

/-- A time in ns as counts of 2.4 ns. -/
def countsOf (ns : Nat) : Nat := ns * 5 / 12

/-- FL_n in counts. -/
def frameCounts (s : State) : Nat := countsOf (s.nextTick - s.sync.lastTick)

/-- The count at which sample `m` falls. -/
def sampleCount (s : State) (k : Fin 16) (m : Nat) : Nat := m * frameCounts s / max 1 s.ctl.loop[k].n

/-- N_n of R305 for the interval that begins now. -/
def samplesIn (s : State) (k : Fin 16) : Nat := (rndDiv (spf s k * (s.nextTick - s.now) * s.rate10 : Nat) (10 ^ 10)).toNat

/-! ### Step 1: measurements (R306) -/

/-- When the engine reads the sources of loop `k` other than ADC_SAMPLE (R306): OFS counts after the instant of its sample. -/
def readTime (s : State) (k : Fin 16) : Nat := s.ctl.loop[k].last + cdiv (s.rf (R.CTL_LOOP_SPF k) 24 16 * 12) 5

/-- Output `j` of loop `k` as it stands at time `x` (R306, R311): from the end of a sample's computation the new command. -/
def outputAt (s : State) (k : Fin 16) (j : Fin 4) (x : Nat) : Word :=
  if x < s.ctl.loop[k].done then s.ctl.loop[k].uOld[j] else s.rd (R.CTL_LOOP_U k j)

/-- The raw value of measurement i, and how many values its source has delivered. -/
def rawOf (s : State) (k : Fin 16) (i : Nat) : Int × Nat :=
  let a := R.CTL_LOOP_MSRC k i; let j := s.rf a 11 8
  match s.rf a 2 0 with
  | 0 => (s.rf (R.ADC_CH_LAST j) 11 0, s.ctl.loop[k].taken + 1)
  | 1 => (s.rf (R.STAT P.ADC j) 15 0, s.tickNum)
  | 2 => (s.rf (R.DRV_TILE_VF (j % 4)) 15 0, s.ctl.vfSeq[Fin.ofNat 4 j])
  | 3 => let t := j % 4; let c := s.rf a 14 12; (sx 16 (s.rf (R.DRV_TILE_TEMP t c) 15 0), sget 0 (8 * t + c) s.ctl.tempSeq)
  | 4 => (sw (outputAt s (Fin.ofNat 16 j) 0 (readTime s k)), (s.ctl.loop[Fin.ofNat 16 j]).taken)
  | _ => (0, 0)

/-- y_i before the notch. -/
def measure (s : State) (k : Fin 16) (i : Nat) (raw : Int) : Int :=
  sat32 ((raw - sw (s.rd (R.CTL_LOOP_MOFS k i))) * 2 ^ min 16 (s.rf (R.CTL_LOOP_MSRC k i) 20 16))

/-- One biquad (R314): its output and its states (x1, x2, y1, y2). -/
def biquad (s : State) (k : Fin 16) (b : Nat) (z : Vector Int 8) (o : Fin 2) (x : Int) : (Int × Nat) × Vector Int 8 :=
  let st := fun (j : Fin 4) => z[(⟨4 * o.val + j.val, by omega⟩ : Fin 8)]
  let a := accum [term s k b x, term s k (b + 1) (st 0), term s k (b + 2) (st 1), -term s k (b + 3) (st 2), -term s k (b + 4) (st 3)]
  let y := sat32 a.1
  let z' := Vector.ofFn fun j : Fin 8 => if j.val / 4 = o.val then
      (if j.val % 4 = 0 then x else if j.val % 4 = 1 then st 0 else if j.val % 4 = 2 then y else st 2) else z[j]
  ((y, a.2), z')

/-- The notch stage on a signal: two biquads in cascade. -/
def notch (k : Fin 16) (x : Int) (s : State) : Int × State :=
  let z := s.ctl.loop[k].notch
  let r1 := biquad s k 216 z 0 x
  let r2 := biquad s k 221 r1.2 1 r1.1.1
  (r2.1.1, countAcc k (r1.1.2 + r2.1.2) (s.setSlot k fun l => { l with notch := r2.2 }))

/-- Step 1 for measurement i. -/
def stepMeasure (k : Fin 16) (s : State) (i : Nat) : State :=
  let y := measure s k i (rawOf s k i).1
  let r := if comp s k = 1 ∧ !s.rb (R.CTL_LOOP_COMP_CFG k) 0 ∧ s.rf (R.CTL_LOOP_COMP_CFG k) 2 1 = i then notch k y s else (y, s)
  r.2.wr (R.CTL_LOOP_Y k i) (wordS r.1)

/-! ### Injection (R326, R327) -/

/-- Quarter-wave sine of a 30-bit fraction of a quarter circle, scaled by 2^60, by its series. -/
def sinQuarter (f : Nat) : Int :=
  let x : Int := f * 28976077832308491370 / 2 ^ 34
  let x2 := x * x / 2 ^ 60
  ((List.range 14).foldl (fun (a : Int × Int) i =>
    let t := -(a.2 * x2 / 2 ^ 60 / ((2 * i + 2) * (2 * i + 3) : Nat))
    (a.1 + t, t)) (x, x)).1

/-- round(32,767 × sin(2π φ / 2^32)). -/
def sinCode (phi : Nat) : Int :=
  let p := phi % 2 ^ 32; let q := p / 2 ^ 30; let f := p % 2 ^ 30
  let v := if q % 2 = 0 then sinQuarter f else sinQuarter (2 ^ 30 - f)
  rnd 60 (32767 * (if 2 ≤ q then -v else v))

/-- Feedback taps of the sequence registers (R326). -/
def prbsTaps : Nat → List Nat
  | 7 => [7, 6] | 8 => [8, 6, 5, 4] | 9 => [9, 5] | 10 => [10, 7] | 11 => [11, 9] | 12 => [12, 11, 10, 4] | 13 => [13, 12, 11, 8]
  | 14 => [14, 13, 12, 2] | 15 => [15, 14] | 16 => [16, 15, 13, 4] | 17 => [17, 14] | 18 => [18, 11] | 19 => [19, 18, 17, 14]
  | 20 => [20, 17] | 21 => [21, 19] | 22 => [22, 21] | 23 => [23, 18] | _ => []

/-- A shift of the register: the output is stage 1, into which the feedback enters. -/
def prbsNext (order r : Nat) : Nat :=
  let fb := (prbsTaps order).foldl (fun b t => b != r.testBit (t - 1)) false
  (r * 2 + bit fb) % 2 ^ order

/-- AMP as the term of an injection. -/
def injAmp (s : State) (k : Fin 16) : Int := min 0x7FFFFFFF (s.rd (R.CTL_LOOP_INJ_AMP k)).toNat

/-- The term of a sine at phase φ. -/
def sineTerm (s : State) (k : Fin 16) (phi : Nat) : Int := rnd 15 (injAmp s k * sinCode phi)

/-- The state of an injection at its first sample. -/
def injFirst (s : State) (k : Fin 16) : InjSt :=
  let c := R.CTL_LOOP_INJ_CFG k; let o := s.rf c 12 8; let run := R.CTL_LOOP_INJ_RUN k
  { InjSt.reset with
    inc := if s.rf c 1 0 = 1 then (s.rd (R.CTL_LOOP_INJ_INC0 k)).toNat else (s.rd (R.CTL_LOOP_INJ_STEP k 0)).toNat
    lfsr := 2 ^ o - 1, held := max 1 (s.rf c 31 16), bits := max 1 (s.rf run 15 0) * (2 ^ o - 1) }

/-- One sample of an injection: the term, the state after it, and whether the waveform is complete. -/
def injSample (s : State) (k : Fin 16) (x : InjSt) : InjSt × Bool :=
  let c := R.CTL_LOOP_INJ_CFG k; let run := R.CTL_LOOP_INJ_RUN k
  match s.rf c 1 0 with
  | 0 =>
    let t := if x.lfsr.testBit 0 then injAmp s k else -injAmp s k
    if 1 < x.held then ({ x with term := t, held := x.held - 1 }, false)
    else ({ x with term := t, held := max 1 (s.rf c 31 16), bits := x.bits - 1, lfsr := prbsNext (s.rf c 12 8) x.lfsr }, x.bits ≤ 1)
  | 1 =>
    let last := (s.rd (R.CTL_LOOP_INJ_INC1 k)).toNat
    ({ x with term := sineTerm s k x.phase, phase := (x.phase + x.inc) % 2 ^ 32, inc := min last (x.inc + (s.rd (R.CTL_LOOP_INJ_DINC k)).toNat) },
      last ≤ x.inc)
  | 2 =>
    let len := max 1 (s.rf run 23 16) * spf s k; let n := x.count + 1
    let y := { x with term := sineTerm s k x.phase, phase := (x.phase + x.inc) % 2 ^ 32, count := n }
    if n < len then (y, false)
    else ({ y with count := 0, step := x.step + 1, inc := (s.rd (R.CTL_LOOP_INJ_STEP k (x.step + 1))).toNat }, s.rf run 27 24 ≤ x.step)
  | _ => (x, true)

/-- The injection at a sample of a loop in RUN: a waiting one starts. -/
def injStep (k : Fin 16) (s : State) : State :=
  let s := if s.ctl.loop[k].injWait then
      let f := injFirst s k
      capTrigger k 1 (((s.setSlot k fun x => { x with injWait := false, inj := f }).wr (R.CTL_LOOP_INJ_STAT k) 1#32).wb (R.STATUS (ctlk k)) 5 true)
    else s
  if s.rb (R.CTL_LOOP_INJ_STAT k) 0 then
    let r := injSample s k s.ctl.loop[k].inj
    s.setSlot k fun x => { x with inj := { r.1 with step := if r.2 then 99 else r.1.step } }
  else s

/-- A waveform that is complete ends after its last sample. -/
def injFinish (k : Fin 16) (s : State) : State :=
  if s.rb (R.CTL_LOOP_INJ_STAT k) 0 && s.ctl.loop[k].inj.step == 99 then injEnd k 1 s else s

/-- The injection term at point `point` (0 reference, 1 command) of index `j`. -/
def injTerm (s : State) (k : Fin 16) (point j : Nat) : Int :=
  let c := R.CTL_LOOP_INJ_CFG k
  if s.rb (R.CTL_LOOP_INJ_STAT k) 0 && loopState s k == 1 && s.rf c 2 2 == point && s.rf c 5 4 == j then s.ctl.loop[k].inj.term else 0

/-! ### Step 2: references (R312) -/

/-- Step 2 for reference j. -/
def stepRef (k : Fin 16) (s : State) (j : Fin 4) : State :=
  let src := R.CTL_LOOP_RSRC k j
  let t := if loopState s k = 2 then sw (s.rd (R.CTL_LOOP_HOLD_SP k j))
           else if s.rb src 0 then sw (s.rd (R.CTL_LOOP_U (s.rf src 7 4) (s.rf src 9 8))) else sw (s.rd (R.CTL_LOOP_SP k j))
  let c := max (sw (s.rd (R.CTL_LOOP_SP_MIN k j))) (min t (sw (s.rd (R.CTL_LOOP_SP_MAX k j))))
  let s := if c ≠ t then (s.wb (R.CTL_LOOP_FLAGS k) j true).irq (ctlk k) 1 else s
  let r := s.ctl.loop[k].r[j]
  let r := r + max (-((s.rd (R.CTL_LOOP_FALL k j)).toNat : Int)) (min (c - r) ((s.rd (R.CTL_LOOP_RISE k j)).toNat : Int))
  let s := s.setSlot k fun x => { x with r := x.r.set j r }
  s.wr (R.CTL_LOOP_R k j) (wordS (sat32 (r + injTerm s k 0 j)))

/-- r'_j, 0 beyond the loop's references. -/
def refOf (s : State) (k : Fin 16) (j : Nat) : Int := if j < nr s k then sw (s.rd (R.CTL_LOOP_R k j)) else 0

/-! ### Steps 3 to 6 -/

/-- Step 3 for measurement i. -/
def stepInnov (k : Fin 16) (s : State) (i : Nat) : State :=
  let a := accum ((List.range (nx s k)).map fun l => term s k (128 + 8 * i + l) (xHat s k l))
  (countAcc k a.2 s).wr (R.CTL_LOOP_E k i) (wordS (sat32 (sw (s.rd (R.CTL_LOOP_Y k i)) - a.1)))

/-- The feed-forward input ff_j (R313). -/
def feedForward (s : State) (k : Fin 16) (j : Nat) : Int :=
  let a := R.CTL_LOOP_FF_CFG k j
  match s.rf a 1 0 with
  | 1 => sw (s.rd (R.CTL_LOOP_FF_CONST k j))
  | 2 => sw (s.rd (R.CTL_LOOP_U (s.rf a 7 4) (s.rf a 9 8)))
  | _ => 0

/-- The repetitive output of the sample (R315): 0 in HOLD and in a transition interval. -/
def rcOut (s : State) (k : Fin 16) : Int × Nat :=
  if comp s k ≠ 2 ∨ loopState s k ≠ 1 ∨ s.rb (R.STATUS P.SCN) 3 then (0, 0) else
  let x := s.ctl.loop[k]
  let a := accum [term s k 228 (sw (sget 0#32 ((x.m + s.rf (R.CTL_LOOP_RC_LEAD k) 13 0) % spf s k) x.mem))]
  (rnd 6 (s.rf (R.CTL_LOOP_RC_STAT k) 6 0 * sat32 a.1), a.2)

/-- v_j of step 4. -/
def command (s : State) (k : Fin 16) (j : Nat) : Int × Nat :=
  let ff := term s k (208 + j) (feedForward s k j)
  if loopState s k = 2 then accum [term s k (212 + j) (refOf s k j), ff]
  else accum ((List.range (nr s k)).map (fun l => term s k (192 + 4 * j + l) (refOf s k l)) ++
    (List.range (nx s k)).map (fun l => -term s k (160 + 8 * j + l) (xHat s k l)) ++ [ff])

/-- Step 5 for command j, in RUN. -/
def compensate (k : Fin 16) (rc : Int) (j : Nat) (v : Int) (s : State) : Int × State :=
  if loopState s k ≠ 1 then (v, s) else
  let c := R.CTL_LOOP_COMP_CFG k
  let v := if comp s k = 2 ∧ s.rf c 13 12 = j then sat32 (v + rc) else v
  let r := if comp s k = 1 ∧ s.rb c 0 ∧ s.rf c 2 1 = j then notch k v s else (v, s)
  (sat32 (r.1 + injTerm r.2 k 1 j), r.2)

/-- Steps 5 and 6 for command j, whose v_j step 4 has formed: the command, and whether the clamp acted. -/
def stepCommand (k : Fin 16) (rc : Int) (x : Bool × State) (v : Int × Nat) : Bool × State :=
  let j := v.2
  let r := compensate k rc j v.1 x.2
  let s := r.2
  let hi := sw (s.rd (R.CTL_LOOP_U_MAX k j))
  let hi := if loopState s k = 2 then min hi (sw (s.rd (R.CTL_LOOP_HOLD_UMAX k j))) else hi
  let u := min (max r.1 (sw (s.rd (R.CTL_LOOP_U_MIN k j)))) hi
  let s := if u ≠ r.1 then s.wb (R.CTL_LOOP_FLAGS k) (4 + j) true else s
  (x.1 || u != r.1, s.wr (R.CTL_LOOP_U k j) (wordS u))

/-- Steps 4 to 6: every v_j is formed before a command changes (R310); whether a clamp acted. -/
def stepCommands (k : Fin 16) (s : State) : Bool × State :=
  let rc := rcOut s k
  let vs := (List.range (nu s k)).map (command s k)
  (vs.map fun v => sat32 v.1).zipIdx.foldl (stepCommand k rc.1) (false, countAcc k (sumOf vs (·.2)) (countAcc k rc.2 s))

/-! ### Steps 7 and 8 -/

/-- x̂_i after the sample. -/
def observed (s : State) (k : Fin 16) (i : Nat) : Int × Nat :=
  let l := if loopState s k = 2 then [] else (List.range (ny s k)).map fun j => term s k (96 + 4 * i + j) (sw (s.rd (R.CTL_LOOP_E k j)))
  let a := accum ((List.range (nx s k)).map (fun j => term s k (8 * i + j) (xHat s k j)) ++
    (List.range (nu s k)).map (fun j => term s k (64 + 4 * i + j) (sw (s.rd (R.CTL_LOOP_U k j)))) ++ l)
  (sat32 a.1, a.2)

/-- Step 7: every new estimate from the old ones. -/
def stepObserve (k : Fin 16) (s : State) : State :=
  let xs := (List.range (nx s k)).map (observed s k)
  xs.zipIdx.foldl (fun s p => (countAcc k p.1.2 s).wr (R.CTL_LOOP_X_HAT k p.2) (wordS p.1.1)) s

/-- The repetitive memory learns (R315). -/
def rcLearn (k : Fin 16) (s : State) : State :=
  if comp s k ≠ 2 ∨ loopState s k ≠ 1 ∨ s.rb (R.STATUS P.SCN) 3 then s else
  let c := R.CTL_LOOP_COMP_CFG k; let x := s.ctl.loop[k]; let i := x.m % spf s k
  let e := sat32 (refOf s k (s.rf c 5 4) - sw (s.rd (R.CTL_LOOP_Y k (s.rf c 9 8))))
  let a := accum [term s k 226 (sw (sget 0#32 i x.mem)), term s k 227 e]
  countAcc k a.2 (s.setSlot k fun x => { x with mem := sset 0#32 i (wordS (sat32 a.1)) x.mem })

/-- The residual check of measurement i (R321): the count, and whether it has just reached M_RES. -/
def checkResidual (k : Fin 16) (s : State) (i : Fin 4) : State :=
  let b := (s.rd (R.CTL_LOOP_RESB k i)).toNat
  if b = 0 ∨ ny s k ≤ i.val then s else
  let n := if b < (sw (s.rd (R.CTL_LOOP_E k i))).natAbs then s.ctl.loop[k].res[i] + 1 else 0
  let s := s.setSlot k fun x => { x with res := x.res.set i n }
  if max 1 (s.rf (R.CTL_LOOP_PLAUS k) 15 0) ≤ n ∧ loopState s k = 1 then raise (Src.FEEDBACK_IMPLAUSIBLE k) (loopHold k 1 s) else s

/-- The frozen check of measurement i (R322). -/
def checkFrozen (k : Fin 16) (s : State) (i : Fin 4) : State :=
  let a := R.CTL_LOOP_FRZ k i; let lim := s.rf a 15 0
  if lim = 0 ∨ ny s k ≤ i.val then s else
  let (old, cnt, seen) := s.ctl.loop[k].frz[i]
  let (raw, now_) := rawOf s k i
  if now_ = seen then s else
  let w := s.rf a 17 16; let u := sw (s.rd (R.CTL_LOOP_U k w))
  let moved := match old with
    | none => true
    | some (ar, _) => decide (1 < (raw - ar).natAbs)
  if moved then s.setSlot k fun x => { x with frz := x.frz.set i (some (raw, u), 0, now_) } else
  let s := s.setSlot k fun x => { x with frz := x.frz.set i (old, cnt + 1, now_) }
  let far := match old with
    | some (_, ur) => decide ((s.rd (R.CTL_LOOP_MOVE_MIN k w)).toNat ≤ (u - ur).natAbs)
    | none => false
  if lim ≤ cnt + 1 ∧ far ∧ loopState s k = 1 then raise (Src.FEEDBACK_FROZEN k) (loopHold k 2 s) else s

/-- The energy sum (R319) and the junction estimate (R320). -/
def bookKeep (k : Fin 16) (s : State) : State :=
  let kind := s.rf (R.CTL_LOOP_CFG k) 3 1; let x := s.ctl.loop[k]
  let s := if kind = 1 then
      let v := sw (s.rd (R.CTL_LOOP_Y k (s.rf (R.CTL_LOOP_E_CFG k) 1 0))); let i := sw (s.rd (R.CTL_LOOP_Y k (s.rf (R.CTL_LOOP_E_CFG k) 5 4)))
      let n := sampleCount s k (x.m + 1) - sampleCount s k x.m
      s.setSlot k fun x => { x with acc := satS 96 (x.acc + v * i * n) }
    else s
  if kind = 2 then
    s.wf (R.CTL_LOOP_EST k) 15 0 (enc 16 (satS 16 (rnd 16 (xHat s k (s.rf (R.CTL_LOOP_EST_CFG k) 2 0) * sw (s.rd (R.CTL_LOOP_EST_GAIN k))))))
  else s

/-- A captured signal (R328). -/
def capSignal (s : State) (k : Fin 16) (c : Nat) : Word :=
  if c < 4 then s.rd (R.CTL_LOOP_Y k c) else if c < 8 then s.rd (R.CTL_LOOP_R k (c - 4)) else if c < 12 then s.rd (R.CTL_LOOP_U k (c - 8))
  else if c < 16 then s.rd (R.CTL_LOOP_E k (c - 12)) else if c < 24 then s.rd (R.CTL_LOOP_X_HAT k (c - 16))
  else if c = 24 then wordS (if s.rb (R.CTL_LOOP_INJ_STAT k) 0 then s.ctl.loop[k].inj.term else 0) else 0#32

/-- Capture at the end of a sample (R328, R329). -/
def capSample (k : Fin 16) (s : State) : State :=
  let x := s.ctl.loop[k]; let c := R.CTL_LOOP_CAP_CFG k; let ring := s.rb c 24
  if !x.armed || !(ring || x.trig) then s
  else if 0 < x.skip then s.setSlot k fun x => { x with skip := x.skip - 1 }
  else
    let w := R.CTL_LOOP_CAP_WR k; let i := s.rf w 16 0; let len := max 1 (s.rf (R.CTL_LOOP_CAP_LEN k) 16 0)
    let a := (s.rd (R.CTL_LOOP_CAP_BASE k)).toNat + 8 * i
    let d := bytesLE 4 (capSignal s k (s.rf c 4 0)).toNat ++ bytesLE 4 (capSignal s k (s.rf c 12 8)).toNat
    let s := if regionOf a = .ret ∧ regionOf (a + 7) = .ret then settle (guardedPut .wb a d none s).2 else s
    let wrap := ring && decide (len ≤ i + 1)
    let s := (s.wf w 16 0 (if wrap then 0 else i + 1)).wb w 24 (s.rb w 24 || wrap)
    let s := s.setSlot k fun x => { x with skip := s.rf c 23 16, left := if x.trig then x.left - 1 else x.left }
    if x.trig && decide (x.left ≤ 1) then capStop k s else s

/-! ### One sample (R310) -/

/-- The engine skips cycles (R387): steps 7 to 13 with CTL_THROT set, the only case in which a sample overruns. -/
def ctlThrottled (s : State) : Bool := s.rb R.THM_THROT_CFG 4 && decide (7 ≤ s.rf (R.STATUS P.THM) 3 0)

/-- The instant of sample `m` of loop `k` in the interval (R305). -/
def sampleTime (s : State) (k : Fin 16) (m : Nat) : Nat := s.sync.lastTick + sampleCount s k m * 12 / 5

/-- Channels that loop `k` names with source `src`, of its measurements in use. -/
def adcNamed (n : State) (k : Fin 16) (src : Nat) : List Nat :=
  ((List.range (ny n k)).filter fun i => n.rf (R.CTL_LOOP_MSRC k i) 2 0 == src).map fun i => n.rf (R.CTL_LOOP_MSRC k i) 11 8

/-- When the conversions of the coming sample of loop `k` are complete (R307): OFS counts and 200 ns after the sample's instant. -/
def convTime (s : State) (k : Fin 16) : Nat := cdiv (5 * sampleTime s k s.ctl.loop[k].m + s.rf (R.CTL_LOOP_SPF k) 24 16 * 12) 5 + 200

/-- When the computation of the coming sample of loop `k` starts (R306, R307): with its conversions, or with its reads where it has none. -/
def computeTime (s : State) (k : Fin 16) : Nat := if (adcNamed s k 0).isEmpty then convTime s k - 200 else convTime s k

/-- A conversion of channel `c` gives a code (R334, R338). -/
def adcTake (c : Fin 16) (code : Nat) (s : State) : State :=
  let v := code % 4096
  let s := s.wr (R.ADC_CH_LAST c) (word (s.tick16 * 65536 + v))
  { s with ctl := { s.ctl with adcSum := s.ctl.adcSum.set c (s.ctl.adcSum[c] + v), adcCnt := s.ctl.adcCnt.set c (s.ctl.adcCnt[c] + 1) } }

/-- The loop, running, that names channel `c` as ADC_SAMPLE and has a sample left in the interval. -/
def convLoop (s : State) (c : Fin 16) : Option (Fin 16) :=
  (List.finRange 16).find? fun k => loopState s k != 0 && decide (s.ctl.loop[k].m < s.ctl.loop[k].n) && (adcNamed s k 0).contains c.val

/-- Channel `c` completes a conversion (R307, R334, R338): in FREE at any time, in LOOP once for the coming sample of the loop that names it, at the
instant of R307. -/
def adcConversion (c : Fin 16) (code : Nat) (s : State) : State :=
  let m := s.rf (R.ADC_CH_CFG c) 1 0
  if !s.pageOn P.ADC || !s.en P.ADC then s
  else if m = 2 then adcTake c code s
  else if m = 1 then
    match convLoop s c with
    | some k =>
      if s.ctl.conv[c] then s else
      let s := s.at (convTime s k)
      adcTake c code { s with ctl := { s.ctl with conv := s.ctl.conv.set c true } }
    | none => s
  else s

/-- The conversions of the coming sample of loop `k` that no command has given complete with codes of their own: the environment's, a free value (log entry
181). The channels are then open for the next sample. -/
def convert (k : Fin 16) (s : State) : State :=
  s.over ((List.finRange 16).filter fun (c : Fin 16) => (adcNamed s k 0).contains c.val && s.rf (R.ADC_CH_CFG c) 1 0 == 1) fun s c =>
    let s := if s.ctl.conv[c] then s else let (v, s) := s.fresh; adcConversion c v s
    { s with ctl := { s.ctl with conv := s.ctl.conv.set c false } }

/-- A sample of loop `k` in RUN or HOLD, late or not (R307, R309, R310, R387): its computation starts when its conversions are complete. -/
def loopSample (k : Fin 16) (late : Bool) (s : State) : State :=
  let x := s.ctl.loop[k]
  if loopState s k = 0 ∨ x.n ≤ x.m then s else
  let inst := sampleTime s k x.m
  let s := (convert k s).at (computeTime s k)
  let s := s.setSlot k fun x => { x with last := inst, done := s.now, uOld := Vector.ofFn fun j : Fin 4 => s.rd (R.CTL_LOOP_U k j) }
  let s := if x.resume && loopState s k == 2 then
      setLoop k 1 0 (s.setSlot k fun x => { x with res := Vector.replicate 4 0, frz := x.frz.map (fun f => (f.1, 0, f.2.2)) }) else s
  let s := s.setSlot k fun x => { x with resume := false, bar := false }
  let s := if loopState s k = 1 then injStep k s else s
  let s := s.over (List.range (ny s k)) (stepMeasure k)
  let s := s.over ((List.finRange 4).filter fun (j : Fin 4) => decide (j.val < nr s k)) (stepRef k)
  let s := s.over (List.range (ny s k)) (stepInnov k)
  let r := stepCommands k s
  let s := if r.1 then r.2.stAdd (R.CTL_LOOP_STAT_SAT k) 15 0 1 else r.2
  let s := bookKeep k (rcLearn k (stepObserve k s))
  let s := s.stMax (R.CTL_LOOP_STAT_RES k) 31 0 (sw (s.rd (R.CTL_LOOP_E k 0))).natAbs
  let s := s.over (List.finRange 4) (checkResidual k)
  let s := s.over (List.finRange 4) (checkFrozen k)
  let s := injFinish k (capSample k s)
  let s := (s.stAdd (R.CTL_LOOP_STAT_SAMPLES k) 15 0 1).setSlot k fun x => { x with m := x.m + 1, taken := x.taken + 1 }
  if late && ctlThrottled s then
    let s := (s.stAdd (R.CTL_LOOP_STAT_SAMPLES k) 31 16 1).stAdd (R.STAT P.CTL 0) 31 16 1
    raise Src.CTL_OVERRUN ((s.irq (ctlk k) 2).irq P.CTL 0)
  else s

/-! ### Commands (R325 to R329) -/

/-- The effect of a write to CTL_LOOP_CMD: HOLD before RESUME, so that both leave the loop in HOLD. -/
def loopCmd (k : Fin 16) (_ w : Word) (s : State) : State :=
  let s := if bitOf w 0 then loopHold k 3 (s.setSlot k fun x => { x with bar := true, resume := false }) else s
  let s := if bitOf w 1 && loopState s k == 2 && !s.ctl.loop[k].bar then
      ((s.wf (R.CTL_LOOP_RC_STAT k) 6 0 0).setSlot k fun x => { x with resume := true }) else s
  let s := if bitOf w 2 then
      (if s.rf R.SYS_MODE 3 0 = 6 ∨ s.rf R.SYS_MODE 3 0 = 0 then
        (if s.rb (R.CTL_LOOP_INJ_STAT k) 0 then s else s.setSlot k fun x => { x with injWait := true })
      else s.wf (R.CTL_LOOP_INJ_STAT k) 3 1 3) else s
  let s := if bitOf w 3 then injEnd k 2 s else s
  let s := if bitOf w 4 && !s.ctl.loop[k].armed then
      ((s.wr (R.CTL_LOOP_CAP_WR k) 0#32).wb (R.STATUS (ctlk k)) 6 true).setSlot k fun x => { x with armed := true, trig := false, skip := 0, left := 0 } else s
  if bitOf w 5 then capTrigger k 0 s else s

/-- A loop starts (R301, R316). -/
def loopStart (k : Fin 16) (s : State) : State :=
  let s := s.over (List.range 8) fun s i => s.wr (R.CTL_LOOP_X_HAT k i) (s.rd (R.CTL_LOOP_X_INIT k i))
  let rs := Vector.ofFn fun j : Fin 4 => sw (s.rd (R.CTL_LOOP_R_START k j))
  let s := s.setSlot k fun x => { x with r := rs, notch := Vector.replicate 8 0, mem := [], res := Vector.replicate 4 0,
                                         frz := Vector.replicate 4 (none, 0, 0), resume := false, bar := false }
  setLoop k 1 0 (s.wf (R.CTL_LOOP_RC_STAT k) 6 0 0)

/-- The loop is to run: RUN, and both enables (R301). -/
def loopWanted (s : State) (k : Fin 16) : Bool := !s.pwr.entering && s.pageOn P.CTL && s.en P.CTL && s.en (ctlk k) && s.rb (R.CTL_LOOP_CFG k) 0

/-- Loops whose enables are gone are OFF at once (R301). -/
def loopsOff (s : State) : State :=
  s.over (List.finRange 16) fun s k => if loopState s k != 0 && !(s.en P.CTL && s.en (ctlk k)) then setLoop k 0 0 (injEnd k 2 s) else s

/-- The energy latched at a tick (R319), and the sum cleared. -/
def loopEnergy (s : State) (k : Fin 16) : State :=
  let e := satU 32 (rnd 48 (s.ctl.loop[k].acc * (s.rd (R.CTL_LOOP_E_SCALE k)).toNat))
  let s := if s.rf (R.CTL_LOOP_CFG k) 3 1 = 1 then s.stw (R.CTL_LOOP_STAT_ENERGY k) (word e) else s
  s.setSlot k fun x => { x with acc := 0 }

/-- A commit changed what the repetitive memory holds (R316). -/
def rcChanged (old s : State) (k : Fin 16) : Bool :=
  spf old k != spf s k || comp old k != comp s k || bitsOf (old.rd (R.CTL_LOOP_COMP_CFG k)) 13 4 != bitsOf (s.rd (R.CTL_LOOP_COMP_CFG k)) 13 4

/-- MAC count of loop `k` (R308). -/
def macCount (s : State) (k : Fin 16) : Nat :=
  let n := nx s k; let p := ny s k; let m := nu s k; let q := nr s k
  n * n + n * m + 2 * n * p + m * n + m * q + m + (match s.rf (R.CTL_LOOP_CFG k) 25 24 with
    | 1 => 10
    | 2 => 3
    | _ => 0)

/-- The sums of the interval, latched before the statistics are (R319, R334). -/
def ctlEnd (s : State) : State :=
  let s := s.over (List.finRange 16) loopEnergy
  s.over (List.finRange 16) fun s c =>
    let n := s.ctl.adcCnt[c]
    let s := if n = 0 then s else s.stw (R.STAT P.ADC c) (word (satU 16 n * 65536 + (rndDiv (16 * s.ctl.adcSum[c] : Nat) n).toNat))
    { s with ctl := { s.ctl with adcSum := s.ctl.adcSum.set c 0, adcCnt := s.ctl.adcCnt.set c 0 } }

/-- The loops at a tick, after commits and the time unit (R301, R305, R316, R327, R329): `old` is the state before the commits, `mode` says
that the timing mode changed. -/
def ctlTick (old : State) (mode : Bool) (s : State) : State :=
  if !s.pageOn P.CTL then s else
  let s := s.over (List.finRange 16) fun s k =>
    let want := loopWanted s k; let st := loopState s k
    let s := if want && st == 0 then loopStart k s else if !want && st != 0 then setLoop k 0 0 (injEnd k 2 s) else s
    let clear := mode || rcChanged old s k
    let s := if clear then (s.setSlot k fun x => { x with mem := [] }).wf (R.CTL_LOOP_RC_STAT k) 6 0 0
             else if want && st == 1 && decide (k.val < 4) && s.rf (R.CTL_LOOP_RC_STAT k) 6 0 < 64 then
               let f := s.rf (R.CTL_LOOP_RC_STAT k) 6 0 + 1
               (s.wf (R.CTL_LOOP_RC_STAT k) 6 0 f).irqIf (f == 64) (ctlk k) 5
             else s
    let s := s.wf (R.CTL_LOOP_RC_STAT k) 29 16 (if comp s k = 2 then spf s k else 0)
    let s := if s.rf R.SYS_MODE 3 0 = 6 ∨ s.rf R.SYS_MODE 3 0 = 0 then s else injEnd k 3 s
    let s := if s.rd (R.CTL_LOOP_CAP_TICK k) = word s.tickNum then capTrigger k 3 s else s
    let n := samplesIn s k
    s.setSlot k fun x => { x with m := 0, n := n, whole := loopState s k == 1 }
  let s := { s with ctl := { s.ctl with conv := Vector.replicate 16 false } }
  let load := sumOf (List.finRange 16) fun k => if loopState s k = 0 then 0 else macCount s k * spf s k * s.rate10
  s.stSet (R.STAT P.CTL 0) 15 0 (rndDiv (load : Nat) 10000000).toNat

/-- The memory word that CTL_LOOP_RC_DATA accesses: ADDR then advances, wrapping at LEN. -/
def rcAdvance (k : Fin 16) (s : State) : State :=
  let a := s.rf (R.CTL_LOOP_RC_ADDR k) 13 0 + 1; let n := s.rf (R.CTL_LOOP_RC_STAT k) 29 16
  s.wf (R.CTL_LOOP_RC_ADDR k) 13 0 (if n ≤ a then 0 else a)

/-- A write of CTL_LOOP_RC_DATA. -/
def rcWrite (k : Fin 16) (_ w : Word) (s : State) : State :=
  let s := s.wr (R.CTL_LOOP_RC_DATA k) 0#32
  let a := s.rf (R.CTL_LOOP_RC_ADDR k) 13 0
  rcAdvance k (if k.val < 4 then s.setSlot k fun x => { x with mem := sset 0#32 a w x.mem } else s)

/-- A read of CTL_LOOP_RC_DATA. -/
def rcRead (k : Fin 16) (s : State) : State :=
  rcAdvance k (s.busData (if k.val < 4 then sget 0#32 (s.rf (R.CTL_LOOP_RC_ADDR k) 13 0) s.ctl.loop[k].mem else 0#32))

/-! ### PWM and ADC (R330 to R334) -/

/-- The first sample instant of loop `k` after `at_` (in units of 1/5 ns) from sample `m` on, of at most `n` looked at, in the present interval. -/
def nextInstant (s : State) (k : Fin 16) (at_ : Nat) : Nat → Nat → Option Nat
  | 0, _ => none
  | n + 1, m =>
    if s.ctl.loop[k].n ≤ m then none
    else if at_ < 5 * sampleTime s k m then some (5 * sampleTime s k m) else nextInstant s k at_ n (m + 1)

/-- When the carrier of output `o` that a command names starts, in units of 1/5 ns (R330): at the first sample instant of its loop that has had none,
while the loop runs, or a whole number of periods after the last. -/
def carrierTime (s : State) (o : Fin 16) : Option Nat :=
  let c := R.PWM_CFG o; let at_ := s.ctl.pwm[o].at_
  if s.rb c 1 then
    let k : Fin 16 := Fin.ofNat 16 (s.rf c 7 4); let x := s.ctl.loop[k]
    if loopState s k = 0 then none
    else if at_ < 5 * x.last then some (5 * x.last) else nextInstant s k at_ (x.n - x.m) x.m
  else
    let p := 12 * max 1 (s.rf (R.PWM_PERIOD o) 19 0)
    some (at_ + p * max 1 ((5 * s.now - at_) / p))

/-- Command CMD of the loop of an output at a carrier that starts at `due` (R311): those of a sample act from the next sample's instant on. -/
def carrierCommand (s : State) (k : Fin 16) (j : Fin 4) (due : Nat) : Word :=
  let x := s.ctl.loop[k]
  if due < 5 * sampleTime s k x.m then x.uOld[j] else s.rd (R.CTL_LOOP_U k j)

/-- A carrier of output `o` starts (R330 to R332): the pulse of its duty, and what is left of the pulse before. -/
def carrierStart (o : Fin 16) (s : State) : State :=
  if !s.pageOn P.PWM then s else
  match carrierTime s o with
  | none => s
  | some due =>
  let s := s.at (cdiv due 5)
  let c := R.PWM_CFG o; let k : Fin 16 := Fin.ofNat 16 (s.rf c 7 4); let byLoop := s.rb c 10
  let idle := !s.en P.PWM || !s.rb c 0 || (byLoop && loopState s k == 0)
  let x := s.ctl.loop[k]
  let lc := if s.rb c 1 then (rndDiv (16 * frameCounts s : Nat) (max 1 x.n)).toNat else 16 * s.rf (R.PWM_PERIOD o) 19 0
  let duty := if byLoop then clampN 0 0xFFFF (sw (carrierCommand s k (Fin.ofNat 4 (s.rf c 9 8)) due)) else s.rf (R.PWM_DUTY o) 15 0
  let on := (duty * lc + 0x8000) / 65536
  let on := if on < s.rf (R.PWM_MINON o) 11 0 then 0 else on
  let old := s.ctl.pwm[o]
  let p : PwmSt := if idle then ⟨false, 0, 0, 0, 0, due, old.driven⟩ else ⟨true, (s.rf c 23 16 * lc + 0x80) / 256, on, lc, old.start + old.on - old.lc, due, old.driven⟩
  ({ s with ctl := { s.ctl with pwm := s.ctl.pwm.set o p } }).wb (R.STATUS P.PWM) o p.active

/-- The level of output `o`, `step` steps of 150 ps after its carrier started (R331, R332). -/
def pwmLevel (s : State) (o : Fin 16) (step : Nat) : Bool :=
  let p := s.ctl.pwm[o]; let c := R.PWM_CFG o
  if !p.active then s.rb c 3
  else (decide (step < p.tail) || (decide (p.start ≤ step) && decide (step < p.start + p.on))) != s.rb c 2

/-- The level that the pin of output `o` shows (R586, R587): none while it is high impedance, which it is from chip reset until a commit applies PWM_CFG;
the idle level in SLEEP. -/
def pwmPin (s : State) (o : Fin 16) (step : Nat) : Option Bool :=
  if !s.ctl.pwm[o].driven then none
  else if s.rf R.PWR_STAT 10 8 = 2 then some (s.rb (R.PWM_CFG o) 3)
  else some (pwmLevel s o step)

/-- A commit has applied the PWM page's shadows, PWM_CFG of every output among them (R587). -/
def pwmApplied (s : State) : State := { s with ctl := { s.ctl with pwm := s.ctl.pwm.map fun p => { p with driven := true } } }


end Sys2Proof.Machine
end

