-- ==== Sys2Proof/Machine/Pattern.lean ====
section
/-! DEFINITION. The pattern sequencers (R267 to R273): their instructions, the step of a tick, their outputs, and access to programs and constants. -/

namespace Sys2Proof.Machine

/-- Update the pattern state. -/
def State.setPat (s : State) (f : PatSt → PatSt) : State := { s with pat := f s.pat }

/-- Update sequencer `q`. -/
def State.setSeq (s : State) (q : Fin 16) (f : PatSeq → PatSeq) : State := s.setPat fun p => { p with seq := p.seq.set q (f p.seq[q]) }

/-- STATE of sequencer `q`: 0 STOPPED, 1 RUNNING, 2 WAITING, 3 DONE, 4 ERROR. -/
def seqState (s : State) (q : Fin 16) : Nat := s.rf (R.PAT_STATE q) 10 8

/-- Set STATE. -/
def setSeqState (q : Fin 16) (st : Nat) (s : State) : State := s.wf (R.PAT_STATE q) 10 8 st

/-- RUNNING or WAITING: the sequencer executes and drives its outputs (R269). -/
def seqLive (s : State) (q : Fin 16) : Bool := seqState s q == 1 || seqState s q == 2

/-- Constant K[i] of sequencer `q`. -/
def patK (s : State) (q : Fin 16) (i : Fin 32) : Word := sget 0#32 (32 * q.val + i.val) s.pat.k

/-- V[r] of sequencer `q`. -/
def patV (s : State) (q : Fin 16) (r : Fin 4) : Int := sw (s.rd (R.PAT_V q r))

/-- Set V[r]. -/
def setV (q : Fin 16) (r : Fin 4) (v : Int) (s : State) : State := s.wr (R.PAT_V q r) (wordS v)

/-- The program counter. -/
def patPc (s : State) (q : Fin 16) : Nat := s.rf (R.PAT_STATE q) 7 0

/-- Set the program counter. -/
def setPc (q : Fin 16) (pc : Nat) (s : State) : State := s.wf (R.PAT_STATE q) 7 0 pc

/-- The next instruction; PC saturates (R8). -/
def nextPc (q : Fin 16) (s : State) : State := setPc q (min 255 (patPc s q + 1)) s

/-- Set REMAIN. -/
def setRemain (q : Fin 16) (n : Nat) (s : State) : State := s.wf (R.PAT_STATE q) 31 16 n

/-- The sequencer stops with an error (R268, R269): 1 RUNAWAY, 2 BAD_OP, 3 BAD_FIELD. -/
def seqError (q : Fin 16) (e : Nat) (s : State) : State :=
  raise Src.PAT_FAULT ((setRemain q 0 (setSeqState q 4 (s.wf (R.PAT_STATE q) 15 12 e))).irq P.PAT 1)

/-- R270's division: nearest, ties away from zero. -/
def rdiv (x : Int) (n : Nat) : Int :=
  if n = 0 then 0 else if x < 0 then -((2 * (-x) + n) / (2 * n)) else (2 * x + n) / (2 * n)

/-- One tick of a ramp (R270). -/
def rampTick (q : Fin 16) (r : Ramp) (s : State) : State :=
  let m := r.done + 1
  let s := setV q (Fin.ofNat 4 r.reg) (satS 32 (r.start + rdiv ((r.target - r.start) * m) r.len)) s
  setRemain q (r.len - m) (s.setSeq q fun x => { x with ramp := if m < r.len then some { r with done := m } else none })

/-- The tick at the present time is a release tick of SYNC (R271): some boundary lies in [t - P/2, t + P/2). -/
def releaseTick (s : State) (q : Fin 16) (period : Nat) : Bool :=
  let f : Int := s.rate10
  let epoch : Int := (s.rd R.TIME_EPOCH_LO).toNat + 2 ^ 32 * (s.rd R.TIME_EPOCH_HI).toNat
  let x := s.ttAt s.now - (epoch + (s.rd (R.PAT_PHASE q)).toNat * 1000) * 2 ^ 16
  let lo := 2 * f * x - 10 ^ 10 * 2 ^ 16
  let hi := 2 * f * x + 10 ^ 10 * 2 ^ 16
  let d := (period : Int) * 1000 * 2 ^ 16 * 2 * f
  decide (-((-lo) / d) * d < hi)

/-- Flag `i` as sampled for the tick (R36, R267, R275): at its commit deadline, or at the tick where no deadline has passed (log entry 148). -/
def patFlag (s : State) (i : Fin 16) : Bool := bitOf (s.pat.flags.getD (s.rd R.PAT_FLAGS)) i

/-- The commit deadline samples the pattern parameters that no commit stages (R36). -/
def patSample (s : State) : State := if s.pageOn P.PAT then s.setPat fun p => { p with flags := some (s.rd R.PAT_FLAGS) } else s

/-- The effect of a write to CTRL of PAT (R273): with EN set anew, every sequencer with RUN = 1 starts at the next tick. -/
def patCtrl (old w : Word) (s : State) : State := if !bitOf old 0 && bitOf w 0 then s.setPat fun p => { p with enSet := true } else s

/-! ### Instructions (R268): the state, and whether the step ends -/

/-- END. -/
def opEnd (q : Fin 16) (s : State) : State := (setRemain q 0 (setSeqState q 3 s)).irq P.PAT 0

/-- SET. -/
def opSet (q : Fin 16) (r : Fin 4) (k : Fin 32) (s : State) : State := nextPc q (s.wr (R.PAT_V q r) (patK s q k))

/-- ADD. -/
def opAdd (q : Fin 16) (r : Fin 4) (k : Fin 32) (s : State) : State := nextPc q (setV q r (satS 32 (patV s q r + sw (patK s q k))) s)

/-- RAMP, with its first tick. -/
def opRamp (q : Fin 16) (r : Fin 4) (k : Fin 32) (n : Nat) (s : State) : State :=
  if n = 0 then seqError q 3 s else
  rampTick q ⟨r.val, patV s q r, sw (patK s q k), n, 0⟩ (nextPc q (setSeqState q 1 s))

/-- HOLD. -/
def opHold (q : Fin 16) (n : Nat) (s : State) : State :=
  if n = 0 then seqError q 3 s else
  setRemain q (n - 1) ((nextPc q (setSeqState q 2 s)).setSeq q fun x => { x with hold := n - 1 })

/-- Loop counter C[i]. -/
def loopCount (s : State) (q : Fin 16) (c1 : Bool) : Nat := if c1 then s.pat.seq[q].c1 else s.pat.seq[q].c0

/-- Set a loop counter of 16 bits, which saturates (R8). -/
def setCount (q : Fin 16) (c1 : Bool) (n : Nat) (s : State) : State :=
  s.setSeq q fun x => if c1 then { x with c1 := min 65535 n } else { x with c0 := min 65535 n }

/-- LOOP. -/
def opLoop (q : Fin 16) (c1 : Bool) (addr count : Nat) (s : State) : State :=
  let c := loopCount s q c1
  if count = 0 ∨ c + 1 < count then setPc q addr (setCount q c1 (c + 1) s) else nextPc q (setCount q c1 0 s)

/-- WAIT_TICK: whether the step ends. -/
def opWaitTick (q : Fin 16) (k : Fin 32) (s : State) : Bool × State :=
  let n := (patK s q k).toNat
  if n = 0 then (true, seqError q 3 s)
  else if s.tickNum % n = 0 then (false, nextPc q (setSeqState q 1 s))
  else (true, setSeqState q 2 s)

/-- SYNC: whether the step ends. -/
def opSync (q : Fin 16) (k : Fin 32) (s : State) : Bool × State :=
  let n := (patK s q k).toNat
  if n = 0 then (true, seqError q 3 s)
  else if releaseTick s q n then (false, nextPc q (setSeqState q 1 s))
  else (true, setSeqState q 2 s)

/-- BRANCH_FLAG. -/
def opBranch (q : Fin 16) (pol : Bool) (addr : Nat) (flag : Fin 16) (s : State) : State :=
  if patFlag s flag = pol then setPc q addr s else nextPc q s

/-- Execute one instruction word (R268): whether the step ends, and the state. -/
def execWord (q : Fin 16) (w : Word) (s : State) : Bool × State :=
  let r : Fin 4 := Fin.ofNat 4 (bitsOf w 25 24); let k : Fin 32 := Fin.ofNat 32 (bitsOf w 20 16)
  match bitsOf w 31 28 with
  | 0 => (true, opEnd q s)
  | 1 => (false, opSet q r k s)
  | 2 => (false, opAdd q r k s)
  | 3 => (true, opRamp q r k (bitsOf w 11 0) s)
  | 4 => (true, opHold q (bitsOf w 15 0) s)
  | 5 => (false, opLoop q (bitOf w 24) (bitsOf w 23 16) (bitsOf w 15 0) s)
  | 6 => opWaitTick q k s
  | 7 => opSync q k s
  | 8 => (false, opBranch q (bitOf w 24) (bitsOf w 23 16) (Fin.ofNat 16 (bitsOf w 3 0)) s)
  | _ => (true, seqError q 2 s)

/-- Instructions from PC until one ends the step; a 17th stops the sequencer (R269). -/
def runSeq (q : Fin 16) : Nat → State → State
  | 0, s => seqError q 1 s
  | n + 1, s =>
    let r := execWord q (sget 0#32 (256 * q.val + patPc s q) s.pat.prog) s
    if r.1 then r.2 else runSeq q n r.2

/-- The step of a live sequencer: the ramp or hold in progress, else instructions. -/
def stepSeq (q : Fin 16) (s : State) : State :=
  let x := s.pat.seq[q]
  match x.ramp with
  | some r => rampTick q r s
  | none =>
    if 0 < x.hold then setRemain q (x.hold - 1) (s.setSeq q fun x => { x with hold := x.hold - 1 })
    else runSeq q 16 (setSeqState q 1 s)

/-- Start a sequencer (R273). -/
def startSeq (q : Fin 16) (s : State) : State :=
  let s := s.over (List.finRange 4) fun s r => setV q r 0 s
  (s.wr (R.PAT_STATE q) (word (2 ^ 8))).setSeq q fun _ => ⟨0, 0, none, 0, true⟩

/-- Output `o` of sequencer `q` writes its live field (R69, R272). -/
def patOutput (q : Fin 16) (s : State) (o : Fin 4) : State :=
  let w := s.rd (R.PAT_OUT q o); let l := bitsOf w 6 4; let v := patV s q o
  let s := s.stAdd (R.STAT P.PAT 0) 31 16 1
  let c := clampN 0 0xFFFF v
  match bitsOf w 3 1 with
  | 0 => s.wf (R.LYR_CONST_ALPHA l) 15 0 c
  | 1 => s.wr (R.LYR_OFS_X l) (wordS v)
  | 2 => s.wr (R.LYR_OFS_Y l) (wordS v)
  | 3 => s.wf (R.LYR_PAL l (bitsOf w 15 8)) 15 0 c
  | 4 => s.wf (R.LYR_PAL l (bitsOf w 15 8)) 31 16 c
  | _ => s

/-- Sequencer `q` at a tick (R269, R273). -/
def seqAtTick (s : State) (q : Fin 16) : State :=
  let run := s.rb R.PAT_RUN q
  let was := s.pat.seq[q].ran
  let s := if was && !run then (setRemain q 0 (setSeqState q 0 s)).setSeq q fun x => { x with ramp := none, hold := 0 }
           else if run && s.en P.PAT && (!was || s.pat.enSet) then startSeq q s
           else s
  let s := s.setSeq q fun x => { x with ran := run }
  if !run || !s.en P.PAT || !seqLive s q then s else
  let s := stepSeq q s
  if !seqLive s q then s else
  s.over ((List.finRange 4).filter fun (o : Fin 4) => s.rb (R.PAT_OUT q o.val) 0) (patOutput q)

/-- The pattern sequencers at a tick, after commits applied (R69, R269). -/
def patTick (s : State) : State :=
  if !s.pageOn P.PAT then s else
  let s := (s.over (List.finRange 16) seqAtTick).setPat fun p => { p with flags := none, enSet := false }
  let m := (List.finRange 16).foldl (fun (m : Nat) (q : Fin 16) => m + bit (s.en P.PAT && seqLive s q) * 2 ^ q.val) 0
  s.stSet (R.STAT P.PAT 0) 15 0 m

/-- A row of the table executes its instruction on a live sequencer. -/
def seqExec (q : Fin 16) (f : State → State) (s : State) : State := if s.en P.PAT && seqLive s q then f s else s

/-! ### Programs and constants (R273, R275) -/

/-- Advance PAT_PROG_ADDR. -/
def progAdvance (s : State) : State := s.wf R.PAT_PROG_ADDR 11 0 (s.rf R.PAT_PROG_ADDR 11 0 + 1)

/-- The sequencer that owns the addressed word has RUN = 0 live and in the shadow (R273). -/
def progFree (s : State) : Bool :=
  let q := s.rf R.PAT_PROG_ADDR 11 0 / 256
  !s.rb R.PAT_RUN q && !bitOf (s.sh R.PAT_RUN) q

/-- The effect of a write to PAT_PROG_DATA. -/
def progWrite (_ w : Word) (s : State) : State :=
  let s := s.wr R.PAT_PROG_DATA 0#32
  let a := s.rf R.PAT_PROG_ADDR 11 0
  if progFree s then progAdvance (s.setPat fun p => { p with prog := sset 0#32 a w p.prog })
  else raise Src.CFG_LIVE_WRITE (progAdvance s)

/-- A read of PAT_PROG_DATA. -/
def progRead (s : State) : State := progAdvance (s.busData (sget 0#32 (s.rf R.PAT_PROG_ADDR 11 0) s.pat.prog))

/-- Advance PAT_K_ADDR. -/
def kAdvance (s : State) : State := s.wf R.PAT_K_ADDR 8 0 (s.rf R.PAT_K_ADDR 8 0 + 1)

/-- The effect of a write to PAT_K_DATA: the shadow of a constant; DIRTY is set by the access code. -/
def kWrite (_ w : Word) (s : State) : State :=
  let s := s.shw R.PAT_K_DATA 0#32
  kAdvance (s.setPat fun p => { p with kSh := sset 0#32 (s.rf R.PAT_K_ADDR 8 0) w p.kSh })

/-- A read of PAT_K_DATA gives the shadow. -/
def kRead (s : State) : State := kAdvance (s.busData (sget 0#32 (s.rf R.PAT_K_ADDR 8 0) s.pat.kSh))

end Sys2Proof.Machine
end

