-- ==== Sys2Proof/Machine/Link.lean ====
section
/-! DEFINITION. The Sprindo link (R215 to R241): training, loss and retraining, CTRL commands, and the packets of the return lane. -/

namespace Sys2Proof.Machine

/-- Lanes that LANE_MAX allows (R241). -/
def laneMax (s : State) (t : Fin 4) : Nat := let m := s.rf (R.SPL_LANE_CFG t) 3 0; if m = 15 then 4 else if m = 3 then 2 else 1

/-- The highest rate allowed: 3 acts as 0 (R241). -/
def rateMax (s : State) (t : Fin 4) : Nat := let r := s.rf (R.SPL_LANE_CFG t) 9 8; if r = 3 then 0 else r

/-- The tile in reset (R236): its registers and those of the probes take their reset values. -/
def tileReset (x : TileSt) : TileSt :=
  { x with resetN := false, probing := false, probes := [], verified := [], fault := [], counts := [], gnEff := 64, skew := 0x17, tempPeriod := 240,
           gnNew := none, probeNew := none, units := 4, unitsNew := none, markLen := 0 }

/-- Training starts from step 1 (R236). -/
def trainFrom1 (t : Fin 4) (s : State) : State :=
  let s := leaveUp t s
  let s := s.setTile t fun x => { tileReset x with cap := 4, due := 0, restart := 0 }
  setLstate t 1 (s.wf (R.SPL_RETRAINS t) 31 16 (satAdd 16 (s.rf (R.SPL_RETRAINS t) 31 16) 1))

/-- The link goes to FAILED in training (R236) and restarts 100 ms later. -/
def trainFailed (t : Fin 4) (s : State) : State :=
  let s := (setLstate t 8 (leaveUp t s)).setTile t fun x => { x with due := 0, restart := s.now + 100000000 }
  raise (Src.SPL_LINK_DOWN t) (s.irq (spl t) 1)

/-- Training again from step 3 (R237). -/
def retrain3 (t : Fin 4) (s : State) : State :=
  let s := (leaveUp t s).setTile t fun x => { x with cap := 4, due := s.now + 20000000, restart := 0, ts := tsSets false (2 ^ laneMax s t - 1) 0 0 }
  setLstate t 7 (s.wf (R.SPL_RETRAINS t) 15 0 (satAdd 16 (s.rf (R.SPL_RETRAINS t) 15 0) 1))

/-- A condition of R237 takes the link out of UP. -/
def loseLink (t : Fin 4) (s : State) : State :=
  if !s.linkUp t then s else
  let s := if s.rb (R.CTRL (spl t)) 2 then retrain3 t s
           else (setLstate t 8 (leaveUp t s)).setTile t fun x => { x with due := 0, restart := 0 }
  raise (Src.SPL_LINK_DOWN t) (s.irq (spl t) 1)

/-- The effect of a write to CTRL of a link page (R236, R237, R241). -/
def splCtrl (t : Fin 4) (old w : Word) (s : State) : State :=
  let s := if s.en (spl t) && !bitOf old 0 then trainFrom1 t s
           else if !s.en (spl t) && bitOf old 0 then
             (setLstate t 0 (leaveUp t s)).setTile t fun x => { tileReset x with due := 0, restart := 0 }
           else s
  if !bitOf w 1 then s
  else if s.linkUp t then raise (Src.SPL_LINK_DOWN t) ((retrain3 t s).irq (spl t) 1)
  else if s.lstate t = 8 then trainFrom1 t s
  else s

/-- TILE_RESET_N is released after the hold of step 1. -/
def resetRelease (t : Fin 4) (s : State) : State :=
  if s.lstate t = 1 then setLstate t 2 (s.setTile t fun x => { x with resetN := true }) else s

/-- The training sets now sent on tile `t`'s forward lanes. -/
def sendSets (t : Fin 4) (l : List (List Nat)) (s : State) : State := s.setTile t fun x => { x with ts := l }

/-- TS1 at 1.6 Gbaud on lanes 0 to LANE_MAX, or on the smaller set of a repeated attempt (R236 step 3). -/
def baseSets (s : State) (t : Fin 4) : List (List Nat) := tsSets false (2 ^ min (laneMax s t) s.tile[t].cap - 1) 0 0

/-- 8 consecutive sets `l` on the return lane (R235, R236 step 2): the scan-out locks where they are TS1, and sends TS1. -/
def ts1Lock (t : Fin 4) (l : List Nat) (s : State) : State :=
  if s.lstate t = 2 ∧ isTs false l then sendSets t (baseSets s t) (setLstate t 3 s) else s

/-- The lane count chosen (R236): the largest that the tile locked, both limits allow and the tile's LANES mask contains; 0 for none. -/
def chooseLanes (s : State) (t : Fin 4) (locked lanes : Nat) : Nat :=
  ([(4, 15, 2), (2, 3, 1), (1, 1, 0)].find? fun p =>
    decide (p.1 ≤ s.tile[t].cap) && decide (p.1 ≤ laneMax s t) && (locked % 16 &&& p.2.1) == p.2.1 && lanes.testBit p.2.2).elim 0 (·.1)

/-- The highest rate at or below `r` in the tile's RATES mask; 1.6 Gbaud is mandatory. -/
def chooseRate (rates r : Nat) : Nat := if 2 ≤ r ∧ rates.testBit 2 then 2 else if 1 ≤ r ∧ rates.testBit 1 then 1 else 0

/-- The lane set and the rate chosen are sent in 16 TS2, and TS1 at the chosen rate after them (R235, R236 steps 3 and 4). -/
def rateSets (t : Fin 4) (s : State) : State :=
  let m := s.rf (R.STATUS (spl t)) 7 4; let r := s.rf (R.STATUS (spl t)) 9 8
  sendSets t (tsSets true m m r ++ tsSets false m m 0) s

/-- A training step completes with the set `l` that the tile answers (R235, R236): a TS2 with the lanes it locked and its RATES mask. `lanes` is the
LANES mask of the tile, which no training set carries (log entry 150). -/
def trainStep (t : Fin 4) (l : List Nat) (lanes : Nat) (s : State) : State :=
  let st := s.lstate t; let rates := field l 2 1
  if !isTs true l then s
  else if st = 3 ∨ st = 7 then
    let n := chooseLanes s t (field l 3 1) lanes
    if n = 0 then trainFailed t s else
    let s := s.setTile t fun x => { x with rates := rates }
    rateSets t (setLstate t 4 ((s.wf (R.STATUS (spl t)) 7 4 (2 ^ n - 1)).wf (R.STATUS (spl t)) 9 8 (chooseRate rates (rateMax s t))))
  else if st = 4 then
    let m := s.rf (R.STATUS (spl t)) 7 4
    sendSets t (tsSets true m m (s.rf (R.STATUS (spl t)) 9 8)) (setLstate t 5 s)
  else s

/-- A training step exceeds its bound (R236). -/
def trainTimeout (t : Fin 4) (s : State) : State :=
  let l := s.lstate t
  if l = 2 ∨ l = 3 ∨ l = 5 ∨ l = 7 then trainFailed t s
  else if l = 4 then
    let r := s.rf (R.STATUS (spl t)) 9 8
    let n := lanesOf (s.rf (R.STATUS (spl t)) 7 4)
    if 0 < r then rateSets t (s.wf (R.STATUS (spl t)) 9 8 (chooseRate s.tile[t].rates (r - 1)))
    else if 1 < n then
      let s := s.setTile t fun x => { x with cap := n / 2 }
      sendSets t (baseSets s t) (setLstate t (if s.tile[t].due = 0 then 3 else 7) s)
    else trainFailed t s
  else s

/-- 100 ms after a failed training (R236). -/
def linkRestart (t : Fin 4) (s : State) : State :=
  if s.lstate t = 8 ∧ s.tile[t].restart ≠ 0 then trainFrom1 t (s.at s.tile[t].restart) else s

/-- A retrain that has not reached UP within 20 ms (R237). -/
def retrainTimeout (t : Fin 4) (s : State) : State :=
  let l := s.lstate t
  if s.tile[t].due ≠ 0 ∧ (l = 3 ∨ l = 4 ∨ l = 5 ∨ l = 7) then trainFrom1 t (s.at s.tile[t].due) else s

/-! ### Enumeration (R234) -/

/-- The scan-out accepts an enumeration record. -/
def recordOk (l : List Nat) : Bool :=
  let size := fun x => decide (256 ≤ x) && decide (x ≤ 1024) && x % 8 == 0
  let mask := fun x => x.testBit 0 && decide (x < 8)
  field l 0 2 == 0x4E45 && field l 2 1 / 16 == 1 && size (field l 16 2) && size (field l 18 2) && mask (field l 24 1) && mask (field l 25 1)

/-- CELL_SHIFT of a tile (R126). -/
def sizeShift (w h : Nat) : Nat := if max w h ≤ 256 then 2 else if max w h ≤ 512 then 3 else 4

/-- Keep an accepted record (R126, R234, R241). -/
def keepRecord (t : Fin 4) (l : List Nat) (s : State) : State :=
  let s := s.over (List.range 24) fun s w => s.wr (R.SPL_ENUM t w) (word (field l (4 * w) 4))
  let w := field l 16 2; let h := field l 18 2
  let s := (s.wr (R.WRP_GEOM t) (word (sizeShift w h * 2 ^ 28 + (h - 1) * 65536 + (w - 1)))).setTile t fun x => { x with size := some (w, h) }
  let ok := (List.range 8).all fun k => s.rd (R.SPL_EXP_HASH t k) == word (field l (32 + 4 * k) 4)
  s.wb (R.STATUS (spl t)) 10 ok

/-- The hash check of an accepted record (R234). -/
def hashCheck (t : Fin 4) (s : State) : State :=
  raiseIf (s.rb (R.CTRL (spl t)) 4 && !s.rb (R.STATUS (spl t)) 10) (Src.SPL_TILE_MISMATCH t) s

/-- The link is too slow for the period (R237). -/
def linkShort (s : State) (t : Fin 4) : Bool :=
  let us := s.rf R.SCN_SWAP_GUARD 9 0
  let m := s.rf R.GLM_TIMING 15 0 + 15 * s.rf R.GLM_TIMING 31 16
  linkOver (s.lw t * s.lh t) (s.rPay t) us s.rate10 || (s.rb R.GLM_CFG 0 && linkOver (s.lw t * s.lh t) (s.rPay t) (us + m) s.rate10)

/-- The link comes UP (R236 step 5, R237, R245, R251): a SEQ packet goes out, for the frame composed from the next tick on; where it would not end 20 µs
before the tick (R195) it goes first after it. -/
def linkComesUp (t : Fin 4) (s : State) : State :=
  let s := setLstate t 6 s
  let sent := seqSend t (s.frame + 1) s
  let fits := decide (sent.tile[t].free ≤ 24 * (s.nextTick - 20000))
  let s := if fits then sent else s
  let s := s.setTile t fun x => { x with due := 0, tempFrom := s.tickNum, seqDue := !fits, seqSwitch := true, seqFails := 0, seqBad := false, noFstat := 0, ts := [] }
  let s := probeSetup t (s.irq (spl t) 0)
  let degraded := decide (lanesOf (s.rf (R.STATUS (spl t)) 7 4) < laneMax s t) || decide (s.rf (R.STATUS (spl t)) 9 8 < rateMax s t)
  let short := degraded && linkShort s t
  let s := s.wb (R.STATUS (spl t)) 11 short
  let s := if degraded then raise (Src.SPL_LANE_DEGRADED t) (s.irq (spl t) 5) else s
  hashCheck t (raiseIf short (Src.SPL_LINK_SHORT t) s)

/-! ### Return packets (R219, R224) -/

/-- A return packet of TYPE `type` on a link that is UP (R219, R224): one that is discarded is counted, a repeated RX_ALIVE is discarded, a jump raises
SPL_ALIVE_GAP. `err` is a character error in it. -/
def received (t : Fin 4) (type : Nat) (err : Bool) (l : List Nat) (f : Rx → State → State) (s : State) : State :=
  if !s.linkUp t then s else
  match if err then none else parseRx type l with
  | none => s.stAdd (R.SPL_STAT_RX t) 31 16 1
  | some r =>
    let last := s.rf (R.SPL_ALIVE t) 15 8
    if s.tile[t].rxAny && r.alive == last then s.stAdd (R.SPL_STAT_ALIVE t) 15 0 1 else
    let gap := s.tile[t].rxAny && !isNext 8 last r.alive
    let s := if gap then s.stAdd (R.SPL_STAT_ALIVE t) 31 16 1 else s
    let s := (s.stAdd (R.SPL_STAT_RX t) 15 0 1).wf (R.SPL_ALIVE t) 15 8 r.alive
    raiseIf gap (Src.SPL_ALIVE_GAP t) (f r (s.setTile t fun x => { x with rxAny := true }))

/-- A return ENUM packet (R234, R237): of step 5, when every packet but a good ENUM is discarded uncounted, or sent again for CMD 0x03. -/
def enumPacket (t : Fin 4) (err : Bool) (l : List Nat) (s : State) : State :=
  if s.lstate t = 5 then
    match if err then none else parseRx 0x83 l with
    | none => s
    | some r =>
      let s := ((s.stAdd (R.SPL_STAT_RX t) 15 0 1).wf (R.SPL_ALIVE t) 15 8 r.alive).setTile t fun x => { x with rxAny := true }
      if recordOk r.pay then linkComesUp t (keepRecord t r.pay s) else trainFailed t s
  else received t 0x83 err l (fun r s => if recordOk r.pay then hashCheck t (keepRecord t r.pay s) else trainFailed t s) s

/-! ### CTRL (R223 to R227) -/

/-- A CTRL packet may go out now (R195, R196): the link is UP, the frame's MARK has not gone, fewer than 64 have gone in the frame and none since the last
CODE packet while more are to come, and it ends 20 µs before the tick. -/
def ctrlMay (s : State) (t : Fin 4) (c : CtrlCmd) : Bool :=
  let x := s.tile[t]
  let between := x.sending && decide (0 < x.line) && decide (x.line < s.lh t)
  s.linkUp t && !x.marked && decide (x.ctrls < 64) && (!between || x.gap == 0) && endsBy s t (s.nextTick - 20000) (ctrlPacket c)

/-- CTRL command `c` goes out, for the time of SPL_ACK_TIMEOUT outstanding (R226). -/
def ctrlOut (t : Fin 4) (c : CtrlCmd) (s : State) : State :=
  let c := { c with due := s.now + s.rf R.SPL_ACK_TIMEOUT 9 0 * 1000 }
  let s := if c.org = 0 then s.wf (R.SPL_CTRL_STAT t) 7 4 c.tries else s
  (sendPacket t s.now24 s (ctrlPacket c)).setTile t fun x => { x with outst := some c, ctrls := x.ctrls + 1, gap := x.gap + 1 }

/-- The next CTRL command is sent (R196, R226). -/
def ctrlSend (t : Fin 4) (s : State) : State :=
  match s.tile[t].queue with
  | [] => s
  | c :: rest =>
    let a := (s.rf (R.SPL_ALIVE t) 7 0 + 1) % 256
    let c := { c with alive := a, tries := 1 }
    if s.tile[t].outst.isSome || !ctrlMay s t c then s else
    ctrlOut t c (((s.wf (R.SPL_ALIVE t) 7 0 a).stAdd (R.SPL_STAT_CTRL t) 7 0 1).setTile t fun x => { x with queue := rest })

/-- No matching ACK in time (R226): up to 3 retries, each as soon as a CTRL packet may go out, then the command fails. -/
def ackTimeout (t : Fin 4) (s : State) : State :=
  match s.tile[t].outst with
  | none => s
  | some c =>
    let s := s.at c.due
    if c.tries < 4 then
      if ctrlMay s t c then ctrlOut t { c with tries := c.tries + 1 } (s.stAdd (R.SPL_STAT_CTRL t) 15 8 1) else s
    else
      let s := (s.setTile t fun x => { x with outst := none }).stAdd (R.SPL_STAT_CTRL t) 23 16 1
      let s := if c.org = 0 then s.wf (R.SPL_CTRL_STAT t) 1 0 3 else s
      let s := if c.org = 2 then seqChecked t false s else s
      raise (Src.SPL_CTRL_FAIL t) (s.irq (spl t) 3)

/-- An ACK of the outstanding command `c` with its STATUS and DATA (R225, R226, R246, R249). -/
def ackFor (t : Fin 4) (c : CtrlCmd) (status : Nat) (data : Word) (s : State) : State :=
  let ok := status % 16 == 0
  let s := s.setTile t fun x => { x with outst := none }
  let s := if ok then tileTakes t c s else s
  if c.org = 0 then
    (((s.wr (R.SPL_CTRL_RDATA t) data).wf (R.SPL_CTRL_STAT t) 1 0 2).wf (R.SPL_CTRL_STAT t) 15 8 status).irq (spl t) 2
  else if c.org = 2 then seqChecked t (ok && bitOf data 8 && bitsOf data 7 0 == s.rf R.DRV_SEQ_CFG 31 24) s
  else if ok then drvAcked t c s
  else s

/-- A return ACK (R225, R226): one that matches no outstanding command does nothing. -/
def ackPacket (t : Fin 4) (err : Bool) (l : List Nat) (s : State) : State :=
  received t 0x81 err l (fun r s =>
    match s.tile[t].outst with
    | none => s
    | some c => if c.alive = r.b3 then ackFor t c r.b1 (word r.arg) s else s) s

/-- The effect of a write to SPL_CTRL_CMD (R226): GO queues a software command unless one is BUSY. -/
def splCtrlCmd (t : Fin 4) (_ w : Word) (s : State) : State :=
  if !bitOf w 31 || s.rf (R.SPL_CTRL_STAT t) 1 0 == 1 then s else
  let c : CtrlCmd := ⟨bitsOf w 7 0, (s.rd (R.SPL_CTRL_ADDR t)).toNat, (s.rd (R.SPL_CTRL_WDATA t)).toNat, 0, 0, 0, 0⟩
  (s.wr (R.SPL_CTRL_STAT t) 1#32).setTile t fun x => { x with queue := x.queue ++ [c] }

/-- Any write to SPL_CV_TOTAL clears it (R241). -/
def cvClear (t l : Nat) (_ _ : Word) (s : State) : State := s.wr (R.SPL_CV_TOTAL t l) 0#32

/-- Character errors on the return lane within 1,024 columns (R237, R241): 16 take the link out of UP. -/
def returnErrors (t : Fin 4) (n : Nat) (s : State) : State :=
  if s.lstate t = 0 then s else
  let a := R.SPL_CV_TOTAL t 4
  let s := (s.stAdd (R.SPL_STAT_CV t) 31 0 n).wr a (word (satAdd 16 (s.rf a 15 0) n))
  if 16 ≤ n then loseLink t s else s

/-- No FSTAT for 4 consecutive MARKs (R237). -/
def fstatMissing (t : Fin 4) (s : State) : State := if 4 ≤ s.tile[t].noFstat then loseLink t s else s

/-- What an FSTAT reports (R221, R229, R237): CV_l, CODE_BAD and HELD are added up, and DISP_CRC is compared with the frame sent. -/
def fstatReport (t : Fin 4) (r : Rx) (s : State) : State :=
  let x := s.tile[t]
  let cv := fun (l : Fin 4) => field r.pay (12 + l.val) 1
  let disp := field r.pay 0 4; let bad := field r.pay 8 2; let held := field r.pay 10 2
  let s := s.setTile t fun x => { x with noFstat := 0 }
  let s := s.over (List.finRange 4) fun s l =>
    let a := R.SPL_CV_TOTAL t l
    (s.stAdd (R.SPL_STAT_CV t) 31 0 (cv l)).wr a (word (satAdd 16 (s.rf a 15 0) (cv l)))
  let s := (s.stAdd (R.SPL_STAT_TILE t) 15 0 bad).stAdd (R.SPL_STAT_TILE t) 31 16 held
  let clean := bad == 0 && held == 0
  let echo := clean && r.arg == x.markNum % 2 ^ 32 && !x.markFlags.testBit 3 && word disp != s.rd (R.SCN_STAT_FRAME_CRC t)
  let s := if echo then raise (Src.SPL_ECHO_MISMATCH t) (s.irq (spl t) 4) else s
  let s := raiseIf (!clean) (Src.SPL_CODE_BAD t) s
  if (List.finRange 4).any (fun l => decide (16 ≤ cv l)) then loseLink t s else s

/-- A return FSTAT (R229). -/
def fstatPacket (t : Fin 4) (err : Bool) (l : List Nat) (s : State) : State := received t 0x84 err l (fstatReport t) s

/-! ### Diagnosis records (R232, R233) -/

/-- A record of frame `n` is delivered to the pixel drive (R253, R255, R258). -/
def deliver (t : Fin 4) (n : Nat) (s : State) (r : DiagRec) : State :=
  let w0 := r.w 0
  match r.type with
  | 1 => if !s.en P.DRV then s else
    s.over (List.range (bitsOf w0 15 0)) fun s k => s.over (List.range (s.lw t)) fun s u => notePixel t n u (r.arg + k) s
  | 2 => if !s.en P.DRV then s else
    s.over (List.range (bitsOf w0 31 16)) fun s i =>
      let u := bitsOf w0 15 0 + i
      let st := bitsOf (r.w (1 + i / 16)) (2 * (i % 16) + 1) (2 * (i % 16))
      let s := if st = 0 then s else notePixel t n u r.arg s
      if 2 ≤ st ∧ u < s.lw t ∧ r.arg < s.lh t then defReport t n u r.arg (st == 3) s else s
  | 3 => noteVf t n (bitsOf (r.w 1) 15 0) s
  | 4 => noteTemp t r.arg (bitsOf w0 15 0) s
  | 5 => raise (Src.SPL_TILE_EVENT t) (s.irq (spl t) 7)
  | _ => s

/-- Bytes of the receive ring (R240): 0 where it is disabled. -/
def ringSize (s : State) : Nat := min 1024 (s.rf R.SPL_RING_SIZE 10 0) * 1024

/-- A packet goes to the receive ring (R218, R233, R240): the length of the packet, and its header and payload without the CRC; dropped and counted where
it does not fit between the write offset and SPL_RING_RD. -/
def ringPut (t : Fin 4) (pkt : List Nat) (s : State) : State :=
  let n := ringSize s
  if n = 0 || !s.rb (R.CTRL (spl t)) 3 then s else
  let body := bytesLE 4 (t.val + pkt.length * 65536) ++ bytesLE 4 s.tickNum ++ pkt.take (pkt.length - 4)
  let e := body ++ List.replicate ((8 - body.length % 8) % 8) 0
  let wr := s.rf R.SPL_RING_WR 19 0; let rd := s.rf R.SPL_RING_RD 19 0
  if n ≤ (wr + n - rd % n) % n + e.length then (s.stAdd (R.STAT P.SPL 0) 31 16 1).irq P.SPL 1
  else
    let base := (s.rd R.SPL_RING_BASE).toNat
    let s := s.over e.zipIdx fun s p => (engineWrite .wb (base + (wr + p.2) % n) [p.1] s).2
    ((s.wr R.SPL_RING_WR (word ((wr + e.length) % n))).stAdd (R.STAT P.SPL 0) 15 0 1).irq P.SPL 0

/-- The frame a 32-bit FRAME_NUM names: the latest one up to the present tick. -/
def fullFrame (s : State) (f : Nat) : Nat := s.tickNum - (s.tickNum + 2 ^ 32 - f % 2 ^ 32) % 2 ^ 32

/-- What a DIAG packet of frame `n` brings (R232, R233): late after tick n + 2, its header and payload to the ring, its records to the pixel drive. -/
def diagReport (t : Fin 4) (pkt : List Nat) (r : Rx) (s : State) : State :=
  let n := fullFrame s r.arg
  let late := decide (n + 2 ≤ s.tickNum)
  let s := s.stAdd (R.SPL_STAT_DIAG t) 23 0 r.pay.length
  let s := if late then (s.stAdd (R.SPL_STAT_DIAG t) 31 24 1).irq (spl t) 6 else s
  let s := ringPut t pkt s
  let s := verifyFrame t n (s.over ((recordsOf r.pay).getD []) (deliver t n))
  raiseIf late (Src.SPL_DIAG_LATE t) s

/-- A return DIAG packet (R232, R233). -/
def diagPacket (t : Fin 4) (err : Bool) (l : List Nat) (s : State) : State := received t 0x82 err l (diagReport t l) s

end Sys2Proof.Machine
end

