-- ==== Sys2Proof/Machine/ScanOut.lean ====
section
/-! DEFINITION. The scan-out: lines and underruns (R193 to R196), CRC rectangles (R203 to R211), MARKs (R228), fallback replay (R212 to R214),
and external synchronisation (R198 to R201). -/

namespace Sys2Proof.Machine

/-! ### CRC rectangles -/

/-- First column, first line, last column and last line of rectangle `r` (R203). -/
structure Rect where
  u0 : Nat
  v0 : Nat
  u1 : Nat
  v1 : Nat
  deriving DecidableEq, Repr

/-- Rectangle `r` of tile `t`. -/
def rectOf (s : State) (t : Fin 4) (r : Fin 16) : Rect :=
  let p := R.SCN_RECT_POS t r; let z := R.SCN_RECT_SIZE t r
  ⟨s.rf p 9 0, s.rf p 25 16, s.rf p 9 0 + s.rf z 9 0, s.rf p 25 16 + s.rf z 25 16⟩

/-- The rectangle lies inside the tile, by its last accepted enumeration record (R203). -/
def rectInside (s : State) (t : Fin 4) (r : Fin 16) : Bool := decide ((rectOf s t r).u1 < (s.tileSize t).1) && decide ((rectOf s t r).v1 < (s.tileSize t).2)

/-- Rectangle `r` is DIVERSE. -/
def isDiverse (s : State) (t : Fin 4) (r : Fin 16) : Bool := s.rb (R.SCN_RECT_CFG t r) 0

/-- Bits to bytes, bit i mod 8 of byte i/8 (R204). -/
def packBits : Nat → List Bool → List Nat
  | 0, _ => []
  | n + 1, l => if l.isEmpty then [] else ((l.take 8).zipIdx.foldl (fun b p => b + bit p.1 * 2 ^ p.2) 0) :: packBits n (l.drop 8)

/-- CRC-32C of rectangle `r` over the codes as sent (R204). -/
def rectCalc (s : State) (t : Fin 4) (r : Fin 16) : Nat :=
  let q := rectOf s t r
  let l := (List.range (q.v1 + 1 - q.v0)).flatMap fun j => (s.tile[t].sent.drop ((q.v0 + j) * s.lw t + q.u0)).take (q.u1 + 1 - q.u0)
  if s.rb (R.SCN_RECT_CFG t r) 1 then crc32c (packBits l.length (l.map fun c => decide (s.rf (R.SCN_RECT_CFG t r) 27 16 ≤ c)))
  else crc32c (l.flatMap (bytesLE 2))

/-- Record a decision for frame `n` (R208 to R210): 1 PASS, 2 FAIL, 3 MASKED, 4 NO_REF, 5 FALLBACK, 6 OFF, 7 OUTSIDE. -/
def rectDecide (t : Fin 4) (r : Fin 16) (n res : Nat) (s : State) : State :=
  let s := s.wr (R.SCN_RECT_RES t r) (word (n % 65536 * 65536 + res))
  let run := if res = 1 ∨ res = 2 then 0 else min 65537 (s.tile[t].run[r] + 1)
  let was := run != 0 && s.tile[t].told.testBit r
  let long := decide (s.rf (R.SCN_RECT_SKIP_MAX t) 15 0 < run)
  let s := s.setTile t fun x => { x with run := x.run.set r run, told := putMaskBit x.told r (was || long) }
  let s := if long && !was then raise (Src.SCN_RECT_UNCHECKED t) (s.irq (P.SCNT t) 3) else s
  if res = 2 then fnRect (s.rf (R.SCN_RECT_CFG t r) 15 8) (raise (Src.SCN_RECT_FAIL t) (s.irq (P.SCNT t) 1))
  else if res = 4 then raise (Src.SCN_RECT_NOREF t) (s.irq (P.SCNT t) 2)
  else s

/-- The expected value of a STATIC rectangle (R205); `none` gives NO_REF. -/
def rectExpected (s : State) (t : Fin 4) (r : Fin 16) : Option Word :=
  let b := R.SCN_RECT_BIND t r
  if !s.rb b 31 then some (s.rd (R.SCN_RECT_EXP_A t r)) else
  let a := R.LYR_FLIP_STAT (s.rf b 26 24)
  if !s.rb a 17 then none
  else if s.rf a 7 0 = s.rf b 7 0 then some (s.rd (R.SCN_RECT_EXP_A t r))
  else if s.rf a 7 0 = s.rf b 15 8 then some (s.rd (R.SCN_RECT_EXP_B t r))
  else none

/-- The mask engine marks the rectangle (R180): some pixel inside it has a mask value below 255. -/
def rectMasked (s : State) (t : Fin 4) (r : Fin 16) : Bool :=
  let q := rectOf s t r
  (s.rb R.GLM_CFG 0 || s.rb R.GLM_CFG 1) && s.frm.kind == 1 &&
  (List.range (q.v1 + 1 - q.v0)).any fun j => (List.range (q.u1 + 1 - q.u0)).any fun i => pixelCut s t (q.u0 + i) (q.v0 + j)

/-- Compare a DIVERSE value with a CALC: PASS or FAIL. -/
def passFail (a b : Word) : Nat := if a = b then 1 else 2

/-- A rectangle's last line has been sent (R204 to R207). -/
def rectDone (t : Fin 4) (s : State) (r : Fin 16) : State :=
  let c := word (rectCalc s t r)
  let s := (s.wr (R.SCN_RECT_CALC t r) c).setTile t fun x => { x with calcDone := x.calcDone ||| 2 ^ r.val }
  let n := s.frame
  if isDiverse s t r then
    match s.tile[t].tag[r] with
    | some (m, v) =>
      if m = n % 65536 ∧ s.tile[t].divRes[r] = 8 then
        let res := passFail v c
        rectDecide t r n res (s.setTile t fun x => { x with divRes := x.divRes.set r res, tag := x.tag.set r none })
      else s
    | none => s
  else
    let res := if rectMasked s.view t r then 3 else match rectExpected s t r with
      | some e => passFail e c
      | none => 4
    rectDecide t r n res (s.setTile t fun x => { x with statRes := x.statRes.set r res })

/-- The effect of a write to SCN_RECT_DIV_TAG (R207): the comparison is made at once, or the tag is kept for the frame being sent. -/
def divTag (t : Fin 4) (r : Fin 16) (_ w : Word) (s : State) : State :=
  let m := bitsOf w 15 0; let v := s.rd (R.SCN_RECT_DIV t r); let x := s.tile[t]; let n := s.frame
  if m = n % 65536 ∧ x.divRes[r] = 8 then
    if x.calcDone.testBit r then
      let res := passFail v (s.rd (R.SCN_RECT_CALC t r))
      rectDecide t r n res (s.setTile t fun x => { x with divRes := x.divRes.set r res, tag := x.tag.set r none })
    else s.setTile t fun x => { x with tag := x.tag.set r (some (m, v)) }
  else if m = (n - 1) % 65536 ∧ x.divPrev[r] = 8 ∧ x.calcDonePrev.testBit r then
    let res := passFail v x.calcPrev[r]
    rectDecide t r (n - 1) res (s.setTile t fun x => { x with divPrev := x.divPrev.set r res, tag := x.tag.set r none })
  else s

/-- Bits of the rectangles whose result satisfies `f`. -/
def rectBits (l : Vector Nat 16) (f : Nat → Bool) : Nat := (List.finRange 16).foldl (fun (m : Nat) (r : Fin 16) => m + bit (f l[r]) * 2 ^ r.val) 0

/-- The result of a rectangle whose frame was not compared (R203, R208). -/
def rectSkip (s : State) (t : Fin 4) (r : Fin 16) : Nat :=
  if s.frm.kind = 2 then 5 else if !s.tile[t].marked then 6 else if !rectInside s t r then 7 else 6

/-- The rectangles of tile `t` at tick `n` (R207, R208): decisions left of frame n, DIVERSE results of frame n - 1, and the statistics. -/
def rectEnd (s : State) (t : Fin 4) : State :=
  let n := s.tickNum
  let s := s.over (List.finRange 16) fun s r =>
    if !s.rb (R.SCN_RECT_EN t) r then s
    else if isDiverse s t r then
      if s.tile[t].divRes[r] = 8 ∧ !s.tile[t].calcDone.testBit r then
        let k := rectSkip s t r
        rectDecide t r n k (s.setTile t fun x => { x with divRes := x.divRes.set r k })
      else s
    else if s.tile[t].statRes[r] = 0 then
      let k := rectSkip s t r
      rectDecide t r n k (s.setTile t fun x => { x with statRes := x.statRes.set r k })
    else s
  let s := s.over (List.finRange 16) fun s r =>
    if s.tile[t].divPrev[r] = 8 then rectDecide t r (n - 1) 4 (s.setTile t fun x => { x with divPrev := x.divPrev.set r 4 }) else s
  let x := s.tile[t]
  let s := s.stw (R.SCN_STAT_STATIC t) (word (rectBits x.statRes (· == 2) * 65536 + rectBits x.statRes (· == 1)))
  let s := s.stw (R.SCN_STAT_STATIC_SKIP t) (word (rectBits x.statRes (decide <| 3 ≤ ·)))
  let s := s.stw (R.SCN_STAT_DIVERSE t) (word (rectBits x.divPrev (· == 2) * 65536 + rectBits x.divPrev (· == 1)))
  s.stw (R.SCN_STAT_DIV_SKIP t) (word (rectBits x.divPrev (decide <| 4 ≤ ·)))

/-- The rectangles of the frame that begins at a tick. -/
def rectBegin (s : State) (t : Fin 4) : State :=
  let cs := Vector.ofFn fun r : Fin 16 => s.rd (R.SCN_RECT_CALC t r)
  let on := fun (r : Fin 16) => s.rb (R.SCN_RECT_EN t) r
  s.setTile t fun x => { x with
    calcPrev := cs, calcDonePrev := x.calcDone, calcDone := 0, divPrev := x.divRes, statRes := Vector.replicate 16 0,
    divRes := Vector.ofFn fun r : Fin 16 => if on r && isDiverse s t r then 8 else 0
    run := Vector.ofFn fun r : Fin 16 => if on r then x.run[r] else 0
    told := (List.finRange 16).foldl (fun (m : Nat) (r : Fin 16) => putMaskBit m r.val (on r && x.told.testBit r.val)) 0
    tag := Vector.replicate 16 none }

/-! ### Lines (R193, R194) -/

/-- LS_v, the latest start of line `v` (R193). -/
def lineLatest (s : State) (t : Fin 4) (v : Nat) : Int :=
  (s.nextTick : Int) - s.rf R.SCN_SWAP_GUARD 9 0 * 1000 - cdiv ((s.lh t - v) * s.tLink t) (max 1 (s.lh t))

/-- The composed codes of line `v`, `none` while its band is not done and its deadline has not passed (R181 to R183), or where the pipe has not the size of
the tile, after a reset of its page. -/
def composedLine (s : State) (t : Fin 4) (v : Nat) : Option (List Nat) :=
  let w := s.lw t
  if s.frm.kind = 0 then some (List.replicate w 0)
  else if s.frm.codes[t].length = w * s.lh t then some ((s.frm.codes[t].drop (v * w)).take w)
  else if s.tw t != w || s.th t != s.lh t || bandOpen s t (v / 64) then none
  else some (lineCodes s t v)

/-- A line's turn (R193, R194): the link is free after the time `at_`, in units of 1/24 ns. -/
def lineTurn (s : State) (t : Fin 4) (at_ : Nat) : Nat := max at_ s.tile[t].free

/-- The line's turn comes later than LS_v (R194). -/
def lineLate (s : State) (t : Fin 4) (at_ : Nat) : Bool := decide (24 * lineLatest s t s.tile[t].line < (lineTurn s t at_ : Int))

/-- The last of CODE packets would end after t_n - S (R195). -/
def pktsOver (s : State) (t : Fin 4) (at_ : Nat) (pkts : List (List Nat)) : Bool :=
  decide ((24 * (s.nextTick - s.rf R.SCN_SWAP_GUARD 9 0 * 1000) : Nat) < (s.over pkts (sendPacket t at_)).tile[t].free)

/-- The last CODE packet of a line would end after t_n - S (R195). -/
def lineOver (s : State) (t : Fin 4) (at_ mask : Nat) (codes : List Nat) : Bool := pktsOver s t at_ (linePackets s.frame s.tile[t].line mask codes)

/-- A line goes out as `codes`, its segments of `mask` as FILL packets (R194, R204, R220): statistics, and what ends with it. -/
def putLine (t : Fin 4) (at_ mask : Nat) (codes : List Nat) (under : Bool) (s : State) : State :=
  let x := s.tile[t]; let v := x.line
  let s := s.over (linePackets s.frame v mask codes) (sendPacket t at_)
  let s := s.setTile t fun x => { x with line := v + 1, sent := x.sent ++ codes, under := x.under || under, gap := 0 }
  let s := s.stAdd (R.SCN_STAT_LINES t) 15 0 1
  let s := if under then s.stAdd (R.SCN_STAT_LINES t) 31 16 1 else s
  let s := if under && !x.under then raise (Src.SCN_UNDERRUN t) (s.irq (P.SCNT t) 0) else s
  let s := s.over ((List.finRange 16).filter fun (r : Fin 16) => s.rb (R.SCN_RECT_EN t) r.val && rectInside s t r && (rectOf s t r).v1 == v) (rectDone t)
  if v + 1 = s.lh t then s.stw (R.SCN_STAT_FRAME_CRC t) (word (crc32c (s.tile[t].sent.flatMap (bytesLE 2)))) else s

/-- Background codes for the segments in `mask` of a line (R194). -/
def withFill (s : State) (t : Fin 4) (mask : Nat) (codes : List Nat) : List Nat :=
  codes.zipIdx.map fun p => if mask.testBit (p.2 / 512) then s.rf (R.SCN_TILE_BGCODE t) 11 0 else p.1

/-- The tile takes lines of a composed or dark frame. -/
def lineReady (s : State) (t : Fin 4) : Bool :=
  s.tile[t].sending && s.linkUp t && s.frm.kind != 2 && decide (s.tile[t].line < s.lh t) && !s.tile[t].marked

/-- The next line goes out at its turn (R193 to R195), the segments of `mask` as background: nothing where it could not end by t_n - S. A dark frame's
lines go as FILL packets of code 0 (R577). -/
def lineOut (t : Fin 4) (at_ mask : Nat) (codes : List Nat) (s : State) : State :=
  let dark := s.frm.kind == 0
  let l := if dark then codes else withFill s t mask codes
  let m := if dark then 3 else mask
  if lineOver s t at_ m l then s else putLine t at_ m l (!dark && mask != 0) s

/-- The next line of tile `t` (R193): sent as composed when it is complete, or as background where its turn comes later than LS_v. -/
def lineSend (t : Fin 4) (s : State) : State :=
  if !lineReady s t then s else
  let late := lineLate s t s.now24
  match composedLine s t s.tile[t].line with
  | some l => lineOut t s.now24 (if late then 3 else 0) l s
  | none => if late then lineOut t s.now24 3 (List.replicate (s.lw t) 0) s else s

/-- A line's turn at or after LS_v with the segments of `mask` incomplete (R194). -/
def lineUnderrun (t : Fin 4) (mask : Nat) (s : State) : State :=
  if !lineReady s t then s else
  let v := s.tile[t].line
  if (lineTurn s t s.now24 : Int) < 24 * lineLatest s t v then s else
  let m := if lineLate s t s.now24 || (composedLine s t v).isNone then 3 else mask % 2 ^ cdiv (s.lw t) 512
  if m = 0 then s else lineOut t s.now24 m ((composedLine s t v).getD (List.replicate (s.lw t) 0)) s

/-- The lines not sent one by one before the MARK, each at its turn after the tick (R193, R194): complete ones as composed, others and those whose turn
comes later than LS_v as background. -/
def restOfFrame (t : Fin 4) : Nat → State → State
  | 0, s => s
  | n + 1, s =>
    if !lineReady s t then s else
    let at_ := 24 * s.sync.lastTick
    match composedLine s t s.tile[t].line with
    | some l => restOfFrame t n (lineOut t at_ (if lineLate s t at_ then 3 else 0) l s)
    | none => restOfFrame t n (lineOut t at_ 3 (List.replicate (s.lw t) 0) s)

/-! ### MARK (R228) -/

/-- N(t) of R228. -/
def charCount (clk t : Nat) : Nat := (2 * t * clk + 1000) / 2000

/-- The MARK of the coming frame on tile `t`. -/
def markTile (s : State) (t : Fin 4) : State :=
  let x := s.tile[t]
  if !x.sending || !s.linkUp t || x.marked then s else
  let s := if s.frm.kind = 2 then s else restOfFrame t (s.lh t) s
  let x := s.tile[t]; let n := s.frame; let len := comingLen s
  let swap := s.frm.kind != 2 || x.fb.ready
  let fb := s.frm.kind == 2 && (x.fb.ready || x.markFlags.testBit 4)
  let flags := bit len.2 + 2 * (n % 2) + 4 * bit x.seqSwitch + 8 * bit (!swap) + 16 * bit fb
  let clk := charClock s t
  let frameLen := charCount clk (s.nextTick + len.1) - charCount clk s.nextTick
  let s := if s.frm.kind = 2 && x.fb.ready then s.stw (R.SCN_STAT_FRAME_CRC t) (word (crc32c (x.sent.flatMap (bytesLE 2)))) else s
  let s := sendPacket t (24 * (s.nextTick - 20000)) s (markPacket flags (20 * clk) n frameLen)
  let s := s.setTile t fun x => { x with
    marked := true, markNum := n, markFlags := flags, markDelay := 20 * clk, markLen := frameLen, noFstat := x.noFstat + 1,
    seqRead := x.seqRead || x.seqSwitch, seqSwitch := false,
    fb := if s.frm.kind = 2 && x.fb.ready then { x.fb with ready := false, loading := false, frames := 0 } else x.fb }
  ((s.wb (R.STATUS (P.SCNT t)) 1 (!swap)).wb (R.STATUS (P.SCNT t)) 2 fb).irq (P.SCNT t) 4

/-! ### Fallback replay (R212 to R214) -/

/-- Show SCN_FB_STAT and STATUS.FB (R238). -/
def showFb (s : State) : State :=
  let v := (List.finRange 4).foldl (fun (v : Nat) (t : Fin 4) => v + (s.tile[t].fb.copy + 4 * bit s.tile[t].fb.loading) * 16 ^ t.val) 0
  (s.wr R.SCN_FB_STAT (word v)).wb (R.STATUS P.SCN) 4 (s.frm.kind == 2)

/-- Start a load of tile `t`: copy A first, with the ceiling of the moment. -/
def fbStart (t : Fin 4) (s : State) : State :=
  s.setTile t fun x => { x with fb := { x.fb with loading := true, ready := false, copy := 1, cth := loopCeil s t, next := 0, fill := false, data := [] } }

/-- Codes of packed pairs (R222). -/
def unpackCodes : Nat → List Nat → List Nat
  | 0, _ => []
  | n + 1, l => match l with
    | a :: b :: c :: t => (a + b % 16 * 256) :: (b / 16 + c * 16) :: unpackCodes n t
    | _ => []

/-- The ceiling applied to fallback codes (R135, R213 step 2). -/
def fbCeil (s : State) (t : Fin 4) : Nat := min (s.rf (R.PHO_HWLIMIT t) 11 0) (loopCeil s t)

/-- The record of copy `c` of tile `t` (R212): its address, `none` where the directory names none. -/
def fbRecord (s : State) (t : Fin 4) (c : Nat) : Option Nat :=
  let base := 0x20000000 + (s.rd R.SCN_FB_BASE).toNat
  let o := ofLE (s.seeBytes (base + 4 * (2 * t.val + c)) 4)
  if o = 0 then none else some (base + o)

/-- The frame a record holds (R212), `none` where a check fails. -/
def fbCodes (s : State) (t : Fin 4) (a : Nat) : Option (List Nat) :=
  let h := s.seeBytes a 32
  let b := field h 5 1; let w := field h 8 2; let ht := field h 10 2; let len := field h 16 4
  if field h 0 4 = 0x5046424C ∧ field h 4 1 = t.val ∧ (b = 1 ∨ b = 2 ∨ b = 4 ∨ b = 8) ∧ w = s.lw t ∧ ht = s.lh t ∧ len = w / b * (ht / b) * 3 / 2 then
    let d := s.seeBytes (a + 32) len
    if crc32c (h.take 28 ++ d) = field h 28 4 then
      let codes := unpackCodes len d
      some ((List.range ht).flatMap fun v => (List.range w).map fun u => codes.getD (v / b * (w / b) + u / b) 0)
    else none
  else none

/-- Lines of a load go out (R195, R213 step 2), at most `n` of them: as the link is free, each to end by t_n - S, and none once the frame's MARK has gone;
the rest wait for the next frame. The load has ended with its last line. -/
def fbSend (t : Fin 4) (at_ : Nat) : Nat → State → State
  | 0, s => s
  | n + 1, s =>
    let x := s.tile[t]; let w := s.lw t
    if !x.sending || x.fb.ready || x.fb.data.isEmpty || x.marked then s else
    let codes := (x.fb.data.take w).map (min (fbCeil s t))
    let pkts := linePackets s.frame x.fb.next (if x.fb.fill then 3 else 0) codes
    if pktsOver s t at_ pkts then s else
    let rest := x.fb.data.drop w
    let cth := max x.fb.cth (loopCeil s t)
    let s := (s.over pkts (sendPacket t at_)).setTile t fun x => { x with
      sent := x.sent ++ codes, line := x.fb.next + 1, gap := 0, fb := { x.fb with next := x.fb.next + 1, data := rest, ready := rest.isEmpty, cth := cth } }
    fbSend t at_ n (s.stAdd (R.SCN_STAT_LINES t) 15 0 1)

/-- The codes of a load stand: its lines go to the tile's back buffer, as FILL packets where `fill` (R213 steps 2 and 6). -/
def fbLoaded (t : Fin 4) (fill : Bool) (codes : List Nat) (s : State) : State :=
  let s := s.setTile t fun x => { x with sent := [], fb := { x.fb with next := 0, fill := fill, data := codes } }
  fbSend t s.now24 (s.lh t) s

/-- CTH has fallen below the value applied to the frame on the tile: a load runs at once (R213). -/
def fbCheck (s : State) (t : Fin 4) : State :=
  let x := s.tile[t]
  if s.frm.kind == 2 && x.sending && x.fb.copy != 0 && decide (loopCeil s t < x.fb.cth) then showFb (fbStart t s) else s

/-- CTH of any tile may have changed. -/
def fbChecks (s : State) : State := if s.frm.kind = 2 then s.over (List.finRange 4) fbCheck else s

/-- The read of the copy in use ends (R213): the frame is loaded, or the load restarts with copy B or the uniform code. -/
def fbLoadDone (t : Fin 4) (s : State) : State :=
  let x := s.tile[t]
  if s.frm.kind != 2 || !x.fb.loading || x.fb.ready || !x.fb.data.isEmpty || !x.sending then s else
  if x.fb.copy = 3 then fbLoaded t true (List.replicate (s.lw t * s.lh t) (s.rf R.SCN_FB_UNIFORM 11 0)) s else
  let place := fbRecord s t (x.fb.copy - 1)
  let bad := place.bind fun a => firstUe s a (32 + ofLE (s.seeBytes (a + 16) 4))
  let s := match bad with
    | some w => let (i, s) := s.fresh; ueEvent (i % 256) w s
    | none => s
  match place.bind (fbCodes s t), bad with
  | some l, none => fbLoaded t false l s
  | _, _ =>
    let s := s.setTile t fun y => { y with fb := { y.fb with copy := x.fb.copy + 1 } }
    showFb (if x.fb.copy = 2 then raise Src.SCN_FB_CORRUPT (s.irq P.SCN 2) else s)

/-- FALLBACK_REFRESH (R213): REFRESH frames have lit since the swap that ended the last load. -/
def fbRefresh (t : Fin 4) (s : State) : State :=
  let x := s.tile[t]; let n := s.rf R.SCN_FB_CTRL 7 0
  if s.frm.kind == 2 && x.fb.copy != 0 && !x.fb.loading && n != 0 && decide (n ≤ x.fb.frames) then showFb (fbStart t s) else s

/-! ### The tick -/

/-- A frame lights (R140, R228, R249, R253): the swap of every tile, with the state of the interval that ends. -/
def scanEnd (s : State) : State :=
  let s := s.over (List.finRange 4) fun s t =>
    let x := s.tile[t]
    let s := if x.marked && !x.markFlags.testBit 3 then swapSettings s t else s
    let s := if x.marked && x.markFlags.testBit 4 then s.setTile t fun x => { x with fb := { x.fb with frames := x.fb.frames + 1 } } else s
    rectEnd (lightProbe s t) t
  let s := if s.frm.kind = 2 then noteFbFrame s.tickNum s else s
  if (List.finRange 4).any fun t => s.tile[t].marked && s.tile[t].markFlags.testBit 4 then
    s.wr R.PHO_FB_FRAMES (word (satU 32 ((s.rd R.PHO_FB_FRAMES).toNat + 1))) else s

/-- A tile's scan-out begins the next frame (R196, R213): `entry` is the first tick of a fallback lamp. -/
def beginTile (entry : Bool) (s : State) (t : Fin 4) : State :=
  let send := s.linkUp t && s.en P.SCN && s.en (P.SCNT t) && s.linkTile t
  let fbk := s.frm.kind == 2
  let s := rectBegin s t
  let s := s.setTile t fun x => { x with
    out := [], gap := 0, line := 0, sent := if fbk then x.sent else [], under := false, marked := false, ctrls := 0, sending := send,
    fb := if fbk && send then (if entry then { x.fb with copy := 0 } else x.fb) else ⟨false, 0, 0, 0xFFF, false, 0, false, []⟩ }
  let s := s.wb (R.STATUS (P.SCNT t)) 0 send
  if fbk && send && s.tile[t].fb.copy == 0 then fbStart t s else fbCheck s t

/-- The scan-out begins the frame (after the commits, the mode and the pipes' samples of the tick): a SEQ packet first, then the lines of a load that the
frame before had no room for. -/
def scanBegin (entry : Bool) (s : State) : State :=
  let s := (s.over (List.finRange 4) (beginTile entry)).over (List.finRange 4) seqTick
  showFb (s.over (List.finRange 4) fun s t => fbSend t s.now24 (s.lh t) s)

/-- The effect of a write to CTRL of an SCN page (R196, R238, R239): with EN clear the scan-out discards the codes. -/
def scnCtrl (_ _ : Word) (s : State) : State :=
  s.over (List.finRange 4) fun s t =>
    if s.tile[t].sending && !(s.en P.SCN && s.en (P.SCNT t)) then (s.setTile t fun x => { x with sending := false }).wb (R.STATUS (P.SCNT t)) 0 false else s

/-! ### External synchronisation (R198 to R201) -/

/-- Show the sync source in use (R238). -/
def showSource (s : State) : State :=
  let r := s.rf R.SCN_SYNC 1 0
  let v := if r = 1 then (if s.sync.lost then 2 else 1) else if r = 0 then 0 else 2
  if s.rf (R.STATUS P.SCN) 1 0 = v then s else (s.wf (R.STATUS P.SCN) 1 0 v).irq P.SCN 3

/-- Ticks per edge. -/
def syncDiv (s : State) : Nat := s.rf R.SCN_SYNC 15 8 + 1

/-- At a tick with SRC = SYNC_IN (R200): the expected edge of the tick before has been missed where neither it nor a later one has come. -/
def syncTick (s : State) : State :=
  let s := if s.rf R.SCN_SYNC 1 0 = 1 ∧ 0 < s.tickNum ∧ (s.tickNum - 1) % syncDiv s = 0 ∧ s.sync.nextEdge < s.tickNum - 1 then
      { s with sync := { s.sync with missed := s.sync.missed + 1, valid := 0 } }
    else s
  showSource s

/-- A valid edge of expected tick `n` (R200): the edges in a row, of which a second edge of one tick is none, and the phase error measured. -/
def edgeValid (n : Nat) (err : Int) (s : State) : State :=
  let y := s.sync
  let v := if n = y.nextEdge then y.valid else if n = y.nextEdge + syncDiv s then y.valid + 1 else 1
  showSource { s with sync := { y with missed := 0, valid := v, nextEdge := n, corr := err, lost := y.lost && decide (v < 8) } }

/-- A rising SYNC_IN edge at the present time (R199, R200): inside the window of an expected tick it is a phase measurement, which the ticks take up at
no more than 1 µs per second; outside it is counted. -/
def syncEdge (s : State) : State :=
  if s.rf R.SCN_SYNC 1 0 ≠ 1 then s else
  let win := s.rf R.SCN_SYNC 25 16 * 1000
  let near := fun (x : Nat) => decide (x ≤ s.now + win) && decide (s.now ≤ x + win)
  if s.tickNum % syncDiv s = 0 && near s.sync.lastTick then
    edgeValid s.tickNum ((s.now : Int) - s.sync.lastTick) (s.stAdd (R.STAT P.SCN 0) 15 0 1)
  else if (s.tickNum + 1) % syncDiv s = 0 && near s.nextTick then
    edgeValid (s.tickNum + 1) ((s.now : Int) - s.nextTick) (s.stAdd (R.STAT P.SCN 0) 15 0 1)
  else s.stAdd (R.STAT P.SCN 0) 31 16 1

/-- 8 expected edges in a row without a valid one (R200). -/
def syncLost (s : State) : State :=
  if s.rf R.SCN_SYNC 1 0 = 1 ∧ 8 ≤ s.sync.missed ∧ !s.sync.lost then
    raise Src.SCN_SYNC_LOST ((showSource { s with sync := { s.sync with lost := true, valid := 0, corr := 0 } }).irq P.SCN 1)
  else s

/-- An edge of SYNC_OUT (R201): it rises at each (DIV_M1 + 1)-th tick plus OFFSET, modulo the period, and falls WIDTH_US later. -/
def syncOut (rise : Bool) (s : State) : State :=
  if rise then
    if s.rb R.SCN_SYNC_OUT 0 && s.tickNum % syncDiv s == 0 then
      let ofs := (sx 16 (s.rf R.SCN_SYNC_OUT 31 16) * 1000) % (max 1 s.period : Nat)
      let s := s.at (s.sync.lastTick + ofs.toNat)
      { s with sync := { s.sync with pinOut := true, outUntil := s.now + max 1 (s.rf R.SCN_SYNC_OUT 15 8) * 1000 } }
    else s
  else if s.sync.pinOut then
    let s := s.at s.sync.outUntil
    { s with sync := { s.sync with pinOut := false } }
  else s

end Sys2Proof.Machine
end

