-- ==== Sys2Proof/Machine/Energy.lean ====
section
/-! DEFINITION. The energy ledger (R339 to R358) and the DALI port (R359 to R361). -/

namespace Sys2Proof.Machine

/-- Update the ledger. -/
def State.setNrg (s : State) (f : NrgSt → NrgSt) : State := { s with nrg := f s.nrg }

/-! ### The modelled energy (R339 to R344) -/

/-- The current class of pixel `i`, in line order, of tile `t` (R339). -/
def currentClass (s : State) (t : Fin 4) (i : Nat) : Nat :=
  let w := max 1 (s.lw t); let cell := 16 * (16 * (i / w) / max 1 (s.lh t)) + 16 * (i % w) / w
  s.rf (R.NRG_CC_GRID t (cell / 8)) (4 * (cell % 8) + 3) (4 * (cell % 8))

/-- S_c of a frame of codes (R341). -/
def classSums (s : State) (t : Fin 4) (codes : List Nat) : List Nat :=
  (List.range 16).map fun c => sumOf (codes.zipIdx.filter fun p => currentClass s t p.2 == c) (·.1)

/-- V_c in mV at a temperature in S7.8 (R340, R343). -/
def classVolt (s : State) (t : Fin 4) (c : Nat) (temp : Int) : Int :=
  s.rf (R.NRG_CC_IV t c) 31 16 + rndDiv (sx 16 (s.rf (R.NRG_CC_TC t c) 15 0) * (temp - 6400)) 256000

/-- The term of R343 for `units` of class `c` over `len` ns. -/
def classEnergy (s : State) (t : Fin 4) (len : Nat) (temp : Int) (c units : Nat) : Int :=
  rndDiv ((units * len * s.rf (R.NRG_CC_IV t c) 15 0 : Nat) * classVolt s t c temp) (4096 * 10 ^ 9)

/-- The quiescent energy (R343). -/
def quietEnergy (s : State) (t : Fin 4) (len : Nat) : Int := rndDiv (s.rf (R.NRG_TILE_CFG t) 31 16 * len : Nat) 1000

/-- The probe class of tile `t`. -/
def probeClass (s : State) (t : Fin 4) : Nat := s.rf (R.NRG_TILE_CFG t) 11 8

/-- The THERMAL loop of tile `t` whose estimate is valid. -/
def thermalLoop (s : State) (t : Fin 4) : Option (Fin 16) :=
  (List.finRange 16).find? fun k => s.rf (R.CTL_LOOP_CFG k) 3 1 == 2 && s.rf (R.CTL_LOOP_CFG k) 5 4 == t.val && s.rb (R.CTL_LOOP_EST k) 16

/-- The temperature of tile `t` for the model, S7.8, `none` where no source has a value (R344). -/
def modelTemp (s : State) (t : Fin 4) : Option Int :=
  let l := (s.thm.temps[t].filter fun (p : Nat × Int) => decide (s.now ≤ p.1 + 1000000000)).map fun p => p.2
  let mean : Option Int := if l.isEmpty then none else some (rndDiv (l.foldl (· + ·) 0) l.length)
  let est : Option Int := (thermalLoop s t).map fun k => sx 16 (s.rf (R.CTL_LOOP_EST k) 15 0)
  if s.rb (R.NRG_TILE_CFG t) 4 then est.orElse fun _ => mean else mean.orElse fun _ => est

/-- E_mod of tile `t` (R343). -/
def modelled (s : State) (t : Fin 4) (sums : List Nat) (probe len : Nat) (temp : Int) : Nat :=
  let e := (List.range 16).foldl (fun e c => e + classEnergy s t len temp c (sums.getD c 0 + (if c = probeClass s t then probe else 0))) (quietEnergy s t len)
  satU 32 e

/-! ### A frame has ended (R345 to R348, R357) -/

/-- The tile is accounted (NRG_CFG.TILE_EN). -/
def accounted (s : State) (t : Fin 4) : Bool := s.rb R.NRG_CFG t

/-- The SUPPLY loops of tile `t`. -/
def supplyLoops (s : State) (t : Fin 4) : List (Fin 16) :=
  (List.finRange 16).filter fun k => s.rf (R.CTL_LOOP_CFG k) 3 1 == 1 && s.rf (R.CTL_LOOP_CFG k) 5 4 == t.val

/-- The frame that has ended is evaluated on tile `t` (R345). -/
def frameEvaluated (s : State) (t : Fin 4) : Bool :=
  accounted s t && !(supplyLoops s t).isEmpty && (supplyLoops s t).all (fun k => s.ctl.loop[k].whole) && s.nrg.up.testBit t

/-- E_meas (R345): the energies latched at the tick. -/
def measured (s : State) (t : Fin 4) : Nat := min (maxU 32) (sumOf (supplyLoops s t) fun k => (s.st (R.CTL_LOOP_STAT_ENERGY k)).toNat)

/-- The frame is a mismatch frame (R347). -/
def misframe (s : State) (t : Fin 4) : Bool :=
  let m := s.nrg.model[t]; let d := ((measured s t : Int) - m).natAbs
  s.rb R.NRG_CFG 5 && frameEvaluated s t &&
    decide (max ((m * s.rf R.NRG_MIS_CFG 15 0 + 0x8000) / 65536) (rndDiv (s.rf R.NRG_MIS_ABS 15 0 * s.nrg.len : Nat) 1000).toNat < d)

/-- The mismatch run of tile `t` (R348). -/
def mismatchRun (s : State) (t : Fin 4) : State :=
  if !frameEvaluated s t then s else
  let a := R.NRG_MIS_STAT t
  let run := if misframe s t then s.nrg.run[t] + s.nrg.len else 0
  let hit := decide (s.rf R.NRG_MIS_CFG 31 16 * 1000000 ≤ run) && run != 0 && !s.rb a 30
  let big := decide (s.nrg.model[t] < measured s t)
  let s := (s.setNrg fun x => { x with run := x.run.set t run }).wf a 15 0 (min (maxU 16) ((run + 500000) / 1000000))
  if run = 0 then s.wb a 30 false
  else if hit then raise (Src.ENERGY_MISMATCH t) (((s.wb a 30 true).wb a 31 big).irq P.NRG 0)
  else s

/-- The low words of the accumulators (R362). -/
def showAcc (s : State) : State :=
  let x := s.nrg
  ((((s.wr R.NRG_ACC_HOUR_LO (word x.hour)).wr R.NRG_LAST_HOUR_LO (word x.lastHour)).wr R.NRG_ACC_NIGHT_LO (word x.night)).wr
    R.NRG_LAST_NIGHT_LO (word x.lastNight)).wr R.NRG_ACC_TOTAL_LO (word x.total)

/-- The hour's and the night's energy with the frame that ends now: credited to those in which its lit interval began, so to the last ones where they
rolled over inside the interval; a rollover at the tick itself comes before the addition (R357, R358, log entry 154). -/
def credit (s : State) (sum : Nat) (x : NrgSt) : NrgSt :=
  let before := fun (at_ : Nat) => decide (s.sync.lastTick < at_) && decide (at_ < s.now)
  let add := fun (n : Nat) => (n + sum) % 2 ^ 64
  let x := if before x.hourAt then { x with lastHour := add x.lastHour } else { x with hour := add x.hour }
  let x := if before x.nightAt then { x with lastNight := add x.lastNight } else { x with night := add x.night }
  { x with total := add x.total }

/-- The figures of the frame that ends at a tick, before the statistics latch (R346, R357). -/
def nrgEnd (s : State) : State :=
  if !s.en P.NRG || !s.pageOn P.NRG || s.nrg.len == 0 then s else
  let mask := fun (f : Fin 4 → Bool) => (List.finRange 4).foldl (fun (m : Nat) (t : Fin 4) => m + bit (f t) * 2 ^ t.val) 0
  let sum := sumOf (List.finRange 4) fun t => if !accounted s t then 0 else if frameEvaluated s t then measured s t else s.nrg.model[t]
  let s0 := s
  let s := s.over (List.finRange 4) fun s t =>
    (s.stw (R.NRG_STAT_MODEL t) (word s.nrg.model[t])).stw (R.NRG_STAT_MEAS t) (word (if frameEvaluated s0 t then measured s0 t else 0))
  let s := s.stSet R.NRG_STAT_EVAL 11 0 (mask (frameEvaluated s0) + 16 * mask (misframe s0) + 256 * s.nrg.noTemp)
  let s := s.over (List.finRange 4) fun s c => s.stw (R.NRG_STAT_U c) (word s.nrg.u[c])
  let s := s.over (List.finRange 4) mismatchRun
  showAcc (s.setNrg (credit s sum))

/-! ### The class factors (R349 to R354) -/

/-- K_c of the frame being composed. -/
def classK (s : State) (c : Nat) : Nat := s.rf (R.CMP_CLASS_SCALE c) 15 0

/-- A move of `x` toward `y` by at most `step` (R351). -/
def toward (x y step : Nat) : Nat := if x ≤ y then min y (x + step) else max y (x - step)

/-- A value moved down to remove the excess `x` (R352): the new factor and the excess left. -/
def cutBy (k floor u : Nat) (x : Int) : Nat × Int :=
  if x ≤ 0 ∨ u = 0 then (k, x) else
  let d := min (k - floor) (cdiv (x.toNat * 0x8000) u)
  (k - d, x - rndDiv (u * d : Nat) 0x8000)

/-- The energy available to the frame (R352), `none` for unbounded. -/
def available (s : State) (lenNext : Nat) (fix : Int) : Option Int :=
  let p := (s.rd R.NRG_PLIM).toNat; let e := (s.rd R.NRG_ECEIL).toNat
  let lp : Int := rndDiv (p * lenNext : Nat) 1000; let le : Int := (e * 1000 : Nat)
  if p = 0 ∧ e = 0 then none else some ((if p = 0 then le else if e = 0 then lp else min le lp) - fix)

/-- What the factors of R352 come to: K_1 to K_3 before the limit on rises, and whether the excess could not be removed. -/
def chooseK (s : State) (u : Nat → Nat) (a2 a3 lenNext : Nat) (fix : Int) : Nat × Nat × Nat × Bool :=
  let k1 := 0x8000
  match available s lenNext fix with
  | none => (k1, a2, a3, false)
  | some a =>
    let need : Int := u 0 + rndDiv (u 1 * k1 + u 2 * a2 + u 3 * a3 : Nat) 0x8000
    let r3 := cutBy a3 0 (u 3) (need - a)
    let r2 := cutBy a2 0 (u 2) r3.2
    let r1 := cutBy k1 (s.rf R.NRG_FLOOR1 15 0) (u 1) r2.2
    (r1.1, r2.1, r3.1, decide (0 < r1.2))

/-- Hold K_1 to K_3 at 1.0 (R352, R362). -/
def holdK (s : State) : State := s.over [1, 2, 3] fun s c => s.wr (R.CMP_CLASS_SCALE c) 0x8000#32

/-- The sums of the frame of tile `t` that lights at this tick (R342): of the codes sent at a swap, of the frame before under REPEAT. Of a tile that was
sent no MARK they are those of the frame composed for it, whose codes are discarded (R196, log entry 155). -/
def shownSums (s : State) (t : Fin 4) : List Nat :=
  let x := s.tile[t]
  if x.marked then (if x.markFlags.testBit 3 then s.nrg.sums[t] else classSums s t x.sent)
  else if s.frm.kind = 1 && s.tileOn t then
    classSums s t ((List.range (s.lh t)).flatMap fun v => (composedLine s t v).getD (List.replicate (s.lw t) 0))
  else []

/-- U[c] of R350. Where no light of a class was offered the spec gives no quotient: a free value (log entry 40). -/
def splitU (old : State) (var : Int) (s : State) (c : Fin 4) : State :=
  let k := classK old c
  if k = 0 then s else
  let off := fun (c : Nat) => (old.st (R.CMP_STAT_OFFERED_LO c)).toNat + 2 ^ 32 * (old.st (R.CMP_STAT_OFFERED_HI c)).toNat
  let d := sumOf (List.range 4) fun c => off c * classK old c
  let (f, s) := if d = 0 then s.fresh else (0, s)
  let u := if d = 0 then f % 2 ^ 32 else satU 32 (rndDiv (var * (off c * 0x8000 : Nat)) d)
  s.setNrg fun x => { x with u := x.u.set c u }

/-- The ledger at a tick, after the commits and the time unit (R341 to R343, R349 to R352): `old` is the state before the commits, from which
its inputs come; `len` and `lenNext` are the scheduled lengths of the frame that lights and of the next one. -/
def nrgTick (old : State) (len lenNext : Nat) (s : State) : State :=
  if !s.pageOn P.NRG then s
  else if !s.en P.NRG then holdK (s.setNrg fun x => { x with len := 0 })
  else
    let sums := Vector.ofFn fun t : Fin 4 => shownSums old t
    let probe := Vector.ofFn fun t : Fin 4 => (old.st (R.DRV_STAT_PROBE t)).toNat * old.rf (R.DRV_PROBE_UNITS t) 7 0
    let temp := fun (t : Fin 4) => (modelTemp old t).getD 6400
    let model := Vector.ofFn fun t : Fin 4 => modelled old t sums[t] probe[t] len (temp t)
    let noT := (List.finRange 4).foldl (fun (m : Nat) (t : Fin 4) => m + bit (modelTemp old t).isNone * 2 ^ t.val) 0
    let up := (List.finRange 4).foldl (fun (m : Nat) (t : Fin 4) => m + bit (s.linkUp t) * 2 ^ t.val) 0
    let ts := (List.finRange 4).filter (accounted old)
    let fix : Int := ts.foldl (fun (e : Int) (t : Fin 4) => e + quietEnergy old t len + classEnergy old t len (temp t) (probeClass old t) probe[t]) 0
    let var : Int := ts.foldl (fun (e : Int) (t : Fin 4) => e + Int.ofNat model[t]) 0 - fix
    let s := s.setNrg fun x => { x with sums := sums, probe := probe, model := model, len := len, noTemp := noT, up := up }
    let s := s.over (List.finRange 4) (splitU old var)
    let goal := if s.rb R.NRG_PLAN_STAT 0 then old.rd R.NRG_ALLOW_SAFE else old.rd R.NRG_ALLOW
    let step := old.rf R.NRG_RATE 15 0; let eff := s.rd R.NRG_ALLOW_EFF
    let a2 := toward (bitsOf eff 15 0) (bitsOf goal 15 0) step
    let a3 := toward (bitsOf eff 31 16) (bitsOf goal 31 16) step
    let s := s.wr R.NRG_ALLOW_EFF (word (a3 * 65536 + a2))
    let s := s.wf R.NRG_PLAN_STAT 15 8 (min 255 ((s.now - s.nrg.allowAt) / 60000000000))
    if !old.rb R.NRG_CFG 4 then holdK s else
    let r := chooseK old (fun c => s.nrg.u[Fin.ofNat 4 c]) a2 a3 lenNext fix
    let put := fun (c k : Nat) (s : State) =>
      s.wr (R.CMP_CLASS_SCALE c) (word (min 0x8000 (min k (classK old c + old.rf R.NRG_RATE 31 16))))
    let s := put 3 r.2.2.1 (put 2 r.2.1 (put 1 r.1 s))
    if r.2.2.2 then (s.stSet R.NRG_STAT_EVAL 16 16 1).irq P.NRG 1 else s

/-- The effect of a write to CTRL of NRG (R362): with EN clear the ledger latches nothing; the factors of the frame in composition stay (R80). -/
def nrgCtrl (_ _ : Word) (s : State) : State := if s.en P.NRG then s else s.setNrg fun x => { x with len := 0 }

/-! ### The planner and the accumulators (R355 to R358) -/

/-- The effect of a write to NRG_ALLOW (R356). -/
def nrgAllow (_ _ : Word) (s : State) : State := (s.setNrg fun x => { x with allowAt := s.now }).wr R.NRG_PLAN_STAT 0#32

/-- No NRG_ALLOW write for TIMEOUT_MIN minutes (R356). -/
def planStale (s : State) : State :=
  let lim := s.rf R.NRG_PLAN_CFG 23 16 * 60000000000
  if s.en P.NRG && s.pageOn P.NRG && !s.rb R.NRG_PLAN_STAT 0 && decide (s.nrg.allowAt + lim ≤ s.now) then
    raise Src.ENERGY_PLAN_STALE ((s.wb R.NRG_PLAN_STAT 0 true).irq P.NRG 2)
  else s

/-- City local time in s (R424). -/
def citySec (s : State) : Int := (s.ttNs s.now / 10 ^ 9 : Nat) + sw (s.rd R.TIME_LOCAL_OFS)

/-- The whole hour of network time. -/
def hourNow (s : State) : Int := (s.ttNs s.now / (3600 * 10 ^ 9) : Nat)

/-- The second of city time at which NIGHT_START came last. -/
def nightNow (s : State) : Int :=
  (citySec s - (s.rf R.NRG_PLAN_CFG 10 0 * 60 : Nat)) / 86400 * 86400 + (s.rf R.NRG_PLAN_CFG 10 0 * 60 : Nat)

/-- How long ago, in ns, the present hour began. -/
def hourAge (s : State) : Nat := s.ttNs s.now % (3600 * 10 ^ 9)

/-- How long ago, in ns, the present night began. -/
def nightAge (s : State) : Nat :=
  ((citySec s - (s.rf R.NRG_PLAN_CFG 10 0 * 60 : Nat)) % 86400).toNat * 10 ^ 9 + s.ttNs s.now % 10 ^ 9

/-- A whole hour has come (R358). -/
def hourRoll (s : State) : State :=
  if !s.en P.NRG || !s.pageOn P.NRG || hourNow s == s.nrg.hourIdx then s else
  showAcc ((s.setNrg fun x => { x with lastHour := x.hour, hour := 0, hourIdx := hourNow s, hourAt := s.now - hourAge s }).irq P.NRG 3)

/-- The night's accumulator rolls over: the night began at `at_`. -/
def nightOver (at_ : Nat) (s : State) : State :=
  showAcc ((s.setNrg fun x => { x with lastNight := x.night, night := 0, nightAt := at_ }).irq P.NRG 4)

/-- NIGHT_START has come since the last tick (R358): once for each moment at which it comes, a moment that a commit moves within the night included. -/
def nightRoll (s : State) : State :=
  if !s.en P.NRG || !s.pageOn P.NRG || nightNow s == s.nrg.nightIdx || decide (s.now ≤ s.sync.lastTick + nightAge s) then s
  else nightOver (s.now - nightAge s) (s.setNrg fun x => { x with nightIdx := nightNow s })

/-- The rollovers that fall in the interval that ends at a tick, the tick's own moment included, come before its energy (R358). -/
def rollFirst (s : State) : State :=
  let len := s.now - s.sync.lastTick
  nightRoll (if hourAge s < len then hourRoll s else s)

/-- The effect of a write to NRG_ACC_CTRL (R358). -/
def nrgAccCtrl (_ w : Word) (s : State) : State := if bitOf w 0 then nightOver s.now s else s

/-- A read of a low word latches the high word of its pair (R362). -/
def nrgRead (a : Nat) (s : State) : State :=
  let x := s.nrg
  if a = R.NRG_ACC_HOUR_LO then s.wr R.NRG_ACC_HOUR_HI (word (x.hour / 2 ^ 32))
  else if a = R.NRG_LAST_HOUR_LO then s.wr R.NRG_LAST_HOUR_HI (word (x.lastHour / 2 ^ 32))
  else if a = R.NRG_ACC_NIGHT_LO then s.wr R.NRG_ACC_NIGHT_HI (word (x.night / 2 ^ 32))
  else if a = R.NRG_LAST_NIGHT_LO then s.wr R.NRG_LAST_NIGHT_HI (word (x.lastNight / 2 ^ 32))
  else if a = R.NRG_ACC_TOTAL_LO then s.wr R.NRG_ACC_TOTAL_HI (word (x.total / 2 ^ 32))
  else s

/-! ### DALI (R359 to R361) -/

/-- Update the port. -/
def State.setDali (s : State) (f : DaliSt → DaliSt) : State := { s with dali := f s.dali }

/-- Show the state of the raw commands: QUEUED, or BUSY while the first transaction is one. -/
def showDali (s : State) : State :=
  match s.dali.queue with
  | x :: _ => if x.raw then s.wf R.DALI_RX 17 16 2 else s
  | [] => s

/-- The effect of a write to DALI_TX (R359). -/
def daliTx (_ w : Word) (s : State) : State :=
  if bitOf w 31 && s.en P.DALI then
    let tx : DaliTx := ⟨true, bitsOf w 23 0, bitOf w 24, bitOf w 29, bitOf w 28⟩
    showDali ((s.setDali fun x => { x with queue := x.queue ++ [tx] }).wf R.DALI_RX 17 16 1)
  else s

/-- The forward frames of a raw command, each with its number of bits (R359, R363): twice where TWICE is set. -/
def daliFrames (x : DaliTx) : List (Nat × Nat) :=
  List.replicate (if x.twice then 2 else 1) (if x.len then (24, x.frame % 2 ^ 24) else (16, x.frame % 2 ^ 16))

/-- POLL_S, 10 to 3,600 (R360). -/
def pollSec (s : State) : Nat := max 10 (min 3600 (s.rf R.DALI_POLL_CFG 31 16))

/-- POLL_S seconds have passed (R360): a poll is queued. -/
def daliPoll (s : State) : State :=
  let due := match s.dali.polled with
    | none => true
    | some x => decide (x + pollSec s * 10 ^ 9 ≤ s.now)
  if s.en P.DALI && s.pageOn P.DALI && s.rb R.DALI_POLL_CFG 0 && due then
    showDali (s.setDali fun x => { x with queue := x.queue ++ [⟨false, 0, false, false, false⟩], polled := some s.now })
  else s

/-- The forward frames of a poll (R360): bank 202 and the location of its first scale factor go into the DTRs, and twelve locations are read from the
control gear ADDR (log entry 182). -/
def pollFrames (s : State) : List (Nat × Nat) :=
  [(16, 0xC3CA), (16, 0xA304)] ++ List.replicate 12 (16, (s.rf R.DALI_POLL_CFG 6 1 * 2 + 1) * 256 + 0xC5)

/-- A field of `bits` bits in thousandths of its unit, `scale` being its scale factor, a signed power of ten (R360, log entry 182). -/
def scaled (bits : Nat) (scale : Byte) (raw : Nat) : Nat :=
  let e := scale.toInt + 3
  satU bits (if 0 ≤ e then (raw * 10 ^ e.toNat : Nat) else rndDiv raw (10 ^ (-e).toNat))

/-- A field of `bits` bits reads as not available: its bits are all ones, or all but the lowest (log entry 182). -/
def absent (bits raw : Nat) : Bool := decide (2 ^ bits - 2 ≤ raw % 2 ^ bits)

/-- A poll ends (R360): 0 OK with energy, power and their scale factors, 1 NO_REPLY, 2 BAD_DATA, 3 BUS_FAIL. -/
def pollDone (result energy power : Nat) (scale : D4iScale) (s : State) : State :=
  let result := if result = 0 && (absent 48 energy || absent 32 power) then 2 else result
  let s := (s.wr R.DALI_POLL_STAT (word (s.tick16 * 65536 + result % 16))).irq P.DALI 1
  if result = 0 then
    let e := scaled 64 scale.energy (energy % 2 ^ 48)
    let m : PollMark := ⟨s.now, e, s.nrg.total⟩
    let s := s.setDali fun x => { x with misses := 0, last := some m, start := some (x.start.getD m), late := false, shown := e }
    ((s.wr R.DALI_D4I_POWER (word (scaled 32 scale.power (power % 2 ^ 32)))).wr R.DALI_D4I_ENERGY_LO (word e)).wr R.DALI_D4I_RES
      (word (scaled 32 scale.energy 1))
  else
    let n := s.dali.misses + 1
    let s := s.setDali fun x => { x with misses := n, spoilt := true, late := true }
    raiseIf (n == 3) Src.DALI_NO_REPLY s

/-- The transaction at the front ends (R359): `result` is 0 NO_REPLY, 1 REPLY, 2 FRAMING for a raw command, which takes a backward frame where its REPLY
expects one, and the RESULT of R363 for a poll. While the bus is down every transaction ends BUS_FAIL. -/
def daliDone (result data energy power : Nat) (scale : D4iScale) (s : State) : State :=
  match s.dali.queue with
  | [] => s
  | x :: rest =>
    if !s.en P.DALI || !s.pageOn P.DALI then s else
    let s := s.setDali fun d => { d with queue := rest, carried := if x.raw then daliFrames x else pollFrames s }
    let r := if s.dali.fail then 3 else if x.raw && !x.reply then 0 else min 2 result
    showDali <| if x.raw then
      (s.wr R.DALI_RX
        (word (3 * 65536 + r * 256 + (if r = 1 then data % 256 else s.rf R.DALI_RX 7 0)))).irq P.DALI 0
    else pollDone r energy power scale s

/-- The bus has been low for more than 500 ms (R359). -/
def daliBusFail (s : State) : State :=
  if s.dali.fail || !s.en P.DALI || !s.pageOn P.DALI then s
  else raise Src.DALI_BUS_FAIL ((s.setDali fun x => { x with fail := true }).irq P.DALI 2)

/-- The bus recovers. -/
def daliBusRecover (s : State) : State := s.setDali fun x => { x with fail := false }

/-- A window of the cross-check ends (R361). -/
def xcheck (s : State) : State :=
  match s.dali.start, s.dali.last with
  | some a, some b =>
    if !s.en P.DALI || !s.pageOn P.DALI || decide (s.now < a.time + s.rf R.DALI_XCHK_WIN 31 16 * 10 ^ 9) then s else
    let drv := b.energy - a.energy; let dt := b.time - a.time
    let den := (b.total + 2 ^ 64 - a.total) % 2 ^ 64 * 1000 + (s.rd R.DALI_XCHK_AUX).toNat * dt
    let bad := decide (drv < 20 * (s.rd R.DALI_D4I_RES).toNat) || s.dali.spoilt || den == 0
    let ratio := satU 16 (rndDiv (drv * 3600000000 * 1000 * 2 ^ 14 : Nat) den)
    let out := decide (ratio < s.rf R.DALI_XCHK_CFG 15 0) || decide (s.rf R.DALI_XCHK_CFG 31 16 < ratio)
    let s := s.setDali fun x => { x with start := some b, spoilt := x.late }
    let st := R.DALI_XCHK_STAT
    if bad then s.wf st 9 8 3
    else
      let run := if out then min 255 (s.rf st 7 0 + 1) else 0
      let hit := out && run == max 1 (s.rf R.DALI_XCHK_WIN 7 0) && s.rf st 7 0 != run
      let s := s.wr st (word (ratio * 65536 + (if out then 2 else 1) * 256 + run))
      if hit then raise Src.ENERGY_XCHECK (s.irq P.DALI 3) else s
  | _, _ => s

/-- A read of DALI_D4I_ENERGY_LO latches the high word. -/
def daliRead (a : Nat) (s : State) : State :=
  if a = R.DALI_D4I_ENERGY_LO then s.wr R.DALI_D4I_ENERGY_HI (word (s.dali.shown / 2 ^ 32)) else s

end Sys2Proof.Machine
end

