-- ==== Sys2Proof/Machine/Thermal.lean ====
section
/-! DEFINITION. Performance levels (R367 to R370), clocks (R391 to R395), and the thermal manager (R380 to R390). -/

namespace Sys2Proof.Machine

/-! ### Performance levels (R367 to R370) -/

/-- Update the power state. -/
def State.setPwr (s : State) (f : PwrSt → PwrSt) : State := { s with pwr := f s.pwr }

/-- The level in force. -/
def levelNow (s : State) : Nat := s.rf R.PWR_LEVEL_STAT 13 12

/-- The target: the slower of REQ and CAP (R368). -/
def levelTarget (s : State) : Nat := max (s.rf R.PWR_LEVEL_STAT 9 8) (s.rf R.PWR_LEVEL_STAT 17 16)

/-- The level whose dividers run: a slower target's at once, a faster one's when the transition has ended (R368). -/
def dividerLevel (s : State) : Nat := match s.pwr.trans with
  | some l => max l (levelNow s)
  | none => levelNow s

/-- The pipe clock in MHz (R197): by the mode, and by the rate in TCUST. -/
def pipeClock (s : State) : Nat :=
  let f := s.rate10
  if f ≤ 1200 then 400 else if f ≤ 2400 then 600 else 800

/-- Show the clocks (R197, R367, R386, R388, R395), 0 while one is stopped (R364, R372); those of the fabric and the SERDES reference are constants that the
spec leaves open (log entry 77). -/
def showFreq (s : State) : State :=
  let l := dividerLevel s; let step := s.rf (R.STATUS P.THM) 3 0; let core := s.domainOn 3
  let pick := fun (a : List Nat) => a.getD l 0
  let apu := if 4 ≤ step then (rndDiv 300 (2 ^ min 3 (step - 3))).toNat else pick [1200, 1000, 600, 300]
  let clocks := [(core && s.rf R.PWR_STAT 10 8 != 1, apu), (core && !s.rb (R.STATUS P.THM) 11, pick [1000, 800, 500, 250]),
    (s.domainPowered 3, pick [800, 800, 400, 200]), (s.domainOn 2, 600), (s.domainOn 5, pipeClock s), (core, Config.clockMhz 5), (core, 400),
    (s.domainOn 7, Config.clockMhz 7)]
  s.over (List.finRange 8) fun s d => let c := clocks.getD d.val (false, 0); s.wr (R.CLK_FREQ d) (word (if c.1 then c.2 % 65536 else 0))

/-- The code of level `l` is written to the PMIC, at the I2C address and register of PWR_PMIC_CFG (R368). -/
def pmicWrite (l : Nat) (s : State) : State :=
  s.setPwr fun p => { p with vcode := some (s.rf R.PWR_PMIC_CFG 30 24, s.rf R.PWR_PMIC_CFG 23 16, s.rf (R.PWR_VCODE l) 7 0), asked := s.now, settle := none }

/-- A transition starts where none runs, no PMIC error stands and the target differs from the level in force (R368, R369). -/
def startLevel (s : State) : State :=
  let t := levelTarget s
  if s.pwr.trans.isSome || s.rb R.PWR_LEVEL_STAT 4 || t == levelNow s then s
  else showFreq (((pmicWrite t s).setPwr fun p => { p with trans := some t }).wb R.PWR_LEVEL_STAT 0 true)

/-- A transition has ended at level `l`; the latest target is taken up. -/
def endLevel (l : Nat) (s : State) : State :=
  startLevel (showFreq (((s.setPwr fun p => { p with trans := none, settle := none }).wf R.PWR_LEVEL_STAT 13 12 l).wb R.PWR_LEVEL_STAT 0 false))

/-- The settle time of a change to a faster level has passed (R368): its end takes effect when the device next looks, at a tick or at an access to the level
(log entry 185). -/
def levelSettled (s : State) : State :=
  match s.pwr.trans, s.pwr.settle with
  | some l, some x => if x ≤ s.now then endLevel l (s.irq P.PWR 2) else s
  | _, _ => s

/-- The effect of a write to PWR_LEVEL_REQ (R368). -/
def levelReq (_ w : Word) (s : State) : State := startLevel ((levelSettled s).wf R.PWR_LEVEL_STAT 9 8 (bitsOf w 1 0))

/-- The effect of a write to PWR_LEVEL_STAT: cleared, PMIC_ERR lets level changes go on (R370). -/
def levelClear (_ _ : Word) (s : State) : State := startLevel s

/-- PMIC_PG rises (R368): a change to a slower level is complete, and one to a faster level after SETTLE_US. -/
def pmicRise (s : State) : State :=
  let s := levelSettled s
  match s.pwr.trans with
  | some l =>
    if levelNow s < l then endLevel l (s.irq P.PWR 2)
    else levelSettled (s.setPwr fun p => { p with settle := some (p.settle.getD (s.now + s.rf R.PWR_PMIC_CFG 15 8 * 1000)) })
  | none => s

/-- PMIC_PG has not risen within TIMEOUT, in units of 100 µs (R370). -/
def pmicTimeout (s : State) : State :=
  match s.pwr.trans with
  | some l =>
    if s.pwr.settle.isSome || decide (s.now < s.pwr.asked + s.rf R.PWR_PMIC_CFG 7 0 * 100000) then levelSettled s
    else raise Src.PMIC_TIMEOUT (endLevel (max l (levelNow s)) ((s.wb R.PWR_LEVEL_STAT 4 true).irq P.PWR 3))
  | none => s

/-! ### Conditions (R384 to R388) -/

/-- The junction temperature in 1/256 °C (R384): the thresholds compare it as it is, though the field of THM_TJ saturates below 128 °C. -/
def thmTj (s : State) : Int := s.thm.tj

/-- The throttle step. -/
def thmStep (s : State) : Nat := s.rf (R.STATUS P.THM) 3 0

/-- MAX_STEP: above 13 it acts as 13. -/
def maxStep (s : State) : Nat := min 13 (s.rf R.THM_THROT_CFG 3 0)

/-- Hysteresis in S7.8. -/
def thmHyst (s : State) : Int := s.rf R.THM_HYST 7 0 * 256

/-- Set the step with what it imposes (R386): CAP takes effect through R368. -/
def setStep (n : Nat) (s : State) : State :=
  if n = thmStep s then s else
  let s := (s.wf (R.STATUS P.THM) 3 0 n).irq P.THM 1
  let s := { s with thm := { s.thm with stepAt := s.now } }
  startLevel (showFreq (s.wf R.PWR_LEVEL_STAT 17 16 (min 3 n)))

/-- One condition of R385 by its STATUS bit: whether it sets or clears, given the thresholds to set and to clear. -/
def condition (b : Nat) (hi lo : Int) (s : State) : Bool := if s.rb (R.STATUS P.THM) b then decide (lo ≤ thmTj s) else decide (hi ≤ thmTj s)

/-- SAFE forces FALLBACK (R388): in DARK, STANDALONE dark and QUARANTINE the lamp stays as it is (R572). -/
def forceFallback (s : State) : State :=
  let m := s.rf R.SYS_MODE 3 0
  if m = 5 ∨ m = 7 ∨ (m = 3 ∧ s.dark) then s else { s with sys := { s.sys with forceFb := true } }

/-- WARN and THROTTLE, while EN is 1 (R385, R386, R396). -/
def warnThrottle (s : State) : State :=
  let st := R.STATUS P.THM
  if !s.en P.THM then (s.wb st 8 false).wb st 9 false else
  let w := s.rf R.THM_THR 23 16 * 256; let t := s.rf R.THM_THR 15 8 * 256
  let was := s.rb st 8
  let s := s.wb st 8 (condition 8 w (w - thmHyst s) s)
  let s := if s.rb st 8 && !was then raise Src.THM_WARN (s.irq P.THM 0) else s
  let was := s.rb st 9
  let s := s.wb st 9 (condition 9 t (t - thmHyst s) s)
  if s.rb st 9 && !was then setStep (max (thmStep s) (min (maxStep s) (thmStep s + 1))) s else s

/-- CRITICAL sets (R388); its clearing waits for 10 s below the hysteresis. -/
def critical (s : State) : State :=
  let st := R.STATUS P.THM; let c : Int := s.rf R.THM_THR 7 0 * 256
  let cool := decide (thmTj s < c - thmHyst s)
  let s := { s with thm := { s.thm with coolAt := if cool then some (s.thm.coolAt.getD s.now) else none } }
  if c ≤ thmTj s ∧ !s.rb st 11 then forceFallback (setStep 13 (raise Src.THM_CRITICAL ((s.wb st 11 true).irq P.THM 2))) else s

/-- The eMRAM write window's temperature condition (R551). -/
def nvmTempOk (s : State) : Bool := decide (thmTj s < 115 * 256) && decide (-40 * 256 ≤ thmTj s)

/-- The conditions at a value of THM_TJ, with the largest value of the interval (R385, R396). -/
def thmConditions (s : State) : State :=
  let st := R.STATUS P.THM
  let s := s.wb st 10 (condition 10 (115 * 256) (115 * 256 - thmHyst s) s)
  let s := critical (warnThrottle s)
  let a := R.STAT P.THM 0
  let s := (if sx 16 (bitsOf (s.st a) 15 0) < thmTj s then s.stSet a 15 0 (tempField (thmTj s)) else s).stMax a 19 16 (thmStep s)
  setWindow 1 (nvmTempOk s) s

/-- THM_TJ: the largest value of TS0 to TS11, live or held (R384). -/
def updateTj (s : State) : State :=
  let best := (List.range 12).foldl (fun (b : Option (Nat × Int)) i => match sensorValue s i, b with
    | some v, some (j, w) => if w < v then some (i, v) else some (j, w)
    | some v, none => some (i, v)
    | none, b => b) none
  match best with
  | some (i, v) => thmConditions ({ s with thm := { s.thm with tj := v } }.wr R.THM_TJ (word (i * 65536 + tempField v)))
  | none => s

/-! ### Thermal shutdown (R389) -/

/-- The registers, statistics and internal state of every page whose domain is off are lost (R364). -/
def loseDomains (s : State) : State :=
  let gone := fun a => (isReg a && !s.domainPowered (pageDomain (pageOf a))) || (isPlic a && !s.domainPowered 3)
  let fix := fun (m : List (Nat × Word)) => skeep (fun a => !gone a) m
  { State.reset with
    now := s.now, nextTick := s.nextTick, tickNum := s.tickNum, regs := fix s.regs, shadow := fix s.shadow, stat := fix s.stat,
    mem := skeep (fun a => regionOf a == .ret || regionOf a == .emram || regionOf a == .xspi || regionOf a == .rom) s.mem
    ue := s.ue.filter (fun w => regionOf (8 * w) == .ret || regionOf (8 * w) == .emram)
    ce := s.ce.filter (fun w => regionOf (8 * w) == .ret || regionOf (8 * w) == .emram)
    bus := s.bus, free := s.free, nv := leaveJournal s, tim := s.tim, pwr := s.pwr, thm := s.thm,
    sync := { SyncSt.reset with lastTick := s.sync.lastTick }, nrg := { NrgSt.reset with allowAt := s.now },
    sec := { SecSt.reset with audit := s.sec.audit }, upd := s.upd, pending := s.pending }

/-- The shutdown comparator acts (R389): ERR_N, every domain but AON off, and the record. -/
def thermalShutdown (i : Nat) (v : Int) (s : State) : State :=
  let sd := s.rd R.THM_SD_RESTART
  let s := (s.wr R.THM_SD_REC (word (tempField v * 65536 + i * 256 + 1))).wr R.THM_SD_TICK (word s.tickNum)
  let keep := fun a => a == R.THM_SD_REC || a == R.THM_SD_TICK
  let aon := skeep keep s.regs
  let s := loseDomains (s.wr R.PWR_DOMAIN_STAT 1#32)
  let s := s.over aon fun s p => s.wr p.1 p.2
  let s := s.wr R.THM_SD_RESTART sd
  { s with sys := { s.sys with errLow := true }, thm := { ThmSt.reset with shut := true }, pwr := { s.pwr with cmd := none, entering := false } }

/-- SHUTDOWN_RESTART (R389): TS11 has read below THM_SD_RESTART for 10 s. -/
def shutdownRestart (s : State) : State :=
  match s.thm.shutCool with
  | some t => if s.thm.shut && decide (t + 10000000000 ≤ s.now) then chipReset 3 0 s else s
  | none => s

/-! ### Conversions (R380 to R383) -/

/-- The domain in which on-die sensor `i` lies (R364, R380), by its bit in PWR_DOMAIN_STAT. -/
def sensorDomain (i : Nat) : Nat := if i = 5 ∨ i = 6 then 5 else if i = 7 then 2 else if i = 8 then 7 else if i = 10 then 1 else if i = 11 then 0 else 3

/-- A conversion of on-die sensor `i` (R380): of a sensor whose domain has power; in DEEP_SLEEP and after a shutdown only TS11 is read. -/
def dieConversion (i : Fin 12) (v : Int) (s : State) : State :=
  if !s.domainPowered (sensorDomain i) || (!s.pageOn P.THM && i.val != 11) then s
  else if s.thm.shut then
    if i.val ≠ 11 then s else
    let cool := decide (v < s.rf R.THM_SD_RESTART 7 0 * 256)
    { s with thm := { s.thm with shutCool := if cool then some (s.thm.shutCool.getD s.now) else none } }
  else if 140 * 256 ≤ v then thermalShutdown i v s
  else if !s.pageOn P.THM then (if i.val = 11 then noteValue i (dieBad s i v) v s else s)
  else updateTj (noteValue i (dieBad s i v) v s)

/-- A cleared sensor reads live again, and THM_TJ with it (R383, R384). -/
def thmClear (a : Nat) (old w : Word) (s : State) : State := updateTj (sensorClear a old w s)

/-- NTC `i` at a tick from its averaged channel (R380 to R382): a channel with INPUT = 1 that is not OFF. -/
def ntcUpdate (s : State) (i : Fin 2) : State :=
  let c := 10 + i.val
  if s.rf (R.ADC_CH_CFG c) 1 0 = 0 ∨ s.rf (R.ADC_CH_CFG c) 2 2 = 0 ∨ !s.pageOn P.ADC then s else
  let a := s.rf (R.STAT P.ADC c) 15 0; let k := min 31 (a / 2048); let f := a - 2048 * k
  let p := fun k => sx 16 (s.rf (R.THM_NTC_LUT i k) 15 0)
  noteValue (12 + i) (decide (a < 256) || decide (65264 < a)) (p k + rndDiv ((p (k + 1) - p k) * f) 2048) s

/-- THM_TILE_TJ (R390). -/
def tileTj (s : State) (t : Fin 4) : State :=
  let a := R.THM_TILE_TJ t
  let v : Option (Nat × Int) := match thermalLoop s t with
    | some k => some (1, sx 16 (s.rf (R.CTL_LOOP_EST k) 15 0))
    | none => (List.range 8).foldl (fun b k => match sensorValue s (16 + 8 * t.val + k), b with
        | some v, some (_, w) => some (0, max v w)
        | some v, none => some (0, v)
        | none, b => b) none
  match v with
  | none => s
  | some (src, v) =>
    let s := s.wr a (word (src * 65536 + tempField v))
    let hot := decide ((s.rf R.THM_TILE_LIM 7 0 * 256 : Int) ≤ v)
    { s with thm := { s.thm with overAt := s.thm.overAt.set t (if hot then some (s.thm.overAt[t].getD s.now) else none),
                                 overTold := s.thm.overTold.set t (s.thm.overTold[t] && hot) } }

/-- THM_TILE_OVER (R390): the tile has been at or above its limit for 1 s; raised once until it falls below. -/
def tileOver (t : Fin 4) (s : State) : State :=
  match s.thm.overAt[t] with
  | some x =>
    if decide (x + 1000000000 ≤ s.now) && !s.thm.overTold[t] && s.pageOn P.THM then
      raise (Src.THM_TILE_OVER t) (({ s with thm := { s.thm with overTold := s.thm.overTold.set t true } }).irq P.THM 4)
    else s
  | none => s

/-- No TEMP record for 4 × TEMP_PERIOD frames (R382), of a sensor that the tile's enumeration record counts in TEMPS (R234). -/
def tileSensorTimeout (t : Fin 4) (k : Fin 8) (s : State) : State :=
  if tempLate s t k && decide (k.val < s.rf (R.SPL_ENUM t 5) 23 16) && s.pageOn P.THM then sensorFail (16 + 8 * t.val + k) s else s

/-- THROTTLE_STEP (R386): a rise every STEP_MS while THROTTLE is set, a fall every RELEASE_MS while it is clear below the hysteresis. -/
def throttleStep (s : State) : State :=
  let st := R.STATUS P.THM; let c := R.THM_THROT_CFG
  if !s.pageOn P.THM || s.rb st 11 then s
  else if s.rb st 9 then
    if s.thm.stepAt + s.rf c 15 8 * 1000000 ≤ s.now ∧ thmStep s < maxStep s then setStep (thmStep s + 1) s else s
  else if thmTj s < s.rf R.THM_THR 15 8 * 256 - thmHyst s ∧ 0 < thmStep s ∧ s.thm.stepAt + s.rf c 31 16 * 1000000 ≤ s.now then
    setStep (thmStep s - 1) s
  else s

/-- CRITICAL clears after 10 s below CRIT - HYST (R388). -/
def criticalClear (s : State) : State :=
  match s.thm.coolAt with
  | some x => if s.rb (R.STATUS P.THM) 11 && decide (x + 10000000000 ≤ s.now) then s.wb (R.STATUS P.THM) 11 false else s
  | none => s

/-- The thermal manager at a tick, after the statistics have latched: NTCs, tiles, and the interval's maxima begin anew. -/
def thmTick (s : State) : State :=
  if !s.pageOn P.THM then s else
  let s := s.stw (R.STAT P.THM 0) (word (thmStep s * 65536 + tempField (thmTj s)))
  (s.over (List.finRange 2) ntcUpdate).over (List.finRange 4) tileTj

/-- The effect of a write to CTRL of THM: EN = 0 makes WARN and throttling inactive (R396). -/
def thmCtrl (_ _ : Word) (s : State) : State := if s.en P.THM then warnThrottle s else if s.rb (R.STATUS P.THM) 11 then warnThrottle s else setStep 0 (warnThrottle s)

/-- The effect of a write to THM_THR (R385): a threshold above its default keeps its value. -/
def thmThr (old _ : Word) (s : State) : State :=
  let d := word (regReset R.THM_THR)
  let fix := fun (s : State) (hi lo : Nat) => if bitsOf d hi lo < s.rf R.THM_THR hi lo then s.wf R.THM_THR hi lo (bitsOf old hi lo) else s
  fix (fix (fix s 23 16) 15 8) 7 0

/-! ### Clocks (R391 to R395) -/

/-- CLK_XO_IN_USE (R392): the corrections applied to the crystal's clock, outside FOLLOW, and to the RTC, while it carries the time. -/
def showXo (s : State) : State :=
  let x := if tgen s = 1 then 0 else satS 16 (ttError s)
  let r := if s.tim.deepAt.isSome then rtcPpb s (xoTemp s) else 0
  s.wr R.CLK_XO_IN_USE (word (enc 16 r * 65536 + enc 16 x))

/-- Loss of the 25 MHz reference (R393). -/
def refLoss (s : State) : State :=
  raise Src.CLK_REF_LOSS ((enterHoldover ((s.wb (R.STATUS P.CLK) 0 false).wb (R.STATUS P.SCN) 2 true)).irq P.CLK 0)

/-- PLL `p` loses lock (R395, R525). -/
def pllUnlock (p : Fin 6) (s : State) : State := raise (Src.PLL_UNLOCK p) (s.wb (R.STATUS P.CLK) (2 + p) false)

end Sys2Proof.Machine
end

