-- ==== Sys2Proof/Machine/Power.lean ====
section
/-! DEFINITION. Low-power states (R371 to R378), wake, loss of power (R595) and rail monitors (R592). -/

namespace Sys2Proof.Machine

/-- The device is in DARK, or in STANDALONE with the lamp dark (R371). -/
def restful (s : State) : Bool := let m := s.rf R.SYS_MODE 3 0; m == 5 || (m == 3 && s.dark)

/-- STATE of PWR_STAT: 0 RUN, 1 IDLE, 2 SLEEP, 3 DEEP_SLEEP. -/
def pwrState (s : State) : Nat := s.rf R.PWR_STAT 10 8

/-- Every domain is off: OFF, or power removed. -/
def isOff (s : State) : Bool := s.rf R.PWR_DOMAIN_STAT 7 0 == 0

/-- TILE_RESET_N of tile `t` (R379, R586): none while it floats, in DEEP_SLEEP and OFF. -/
def tileResetPin (s : State) (t : Fin 4) : Option Bool := if s.domainPowered 5 then some s.tile[t].resetN else none

/-- ERR_N (R379, R516, R588): none while it floats, in OFF. -/
def errPin (s : State) : Option Bool := if isOff s then none else some !s.sys.errLow

/-- SYNC_OUT (R199, R379, R586): low in SLEEP and DEEP_SLEEP, and none while it floats, in OFF. -/
def syncOutPin (s : State) : Option Bool := if isOff s then none else some (s.sync.pinOut && decide (s.rf R.PWR_STAT 10 8 < 2))

/-- A power command completes with a result (R394). -/
def pwrResult (r : Nat) (s : State) : State := (((s.wf R.PWR_STAT 3 0 r).wf R.PWR_STAT 31 16 s.tick16).wb R.PWR_STAT 4 s.pwr.cmd.isSome).irq P.PWR 1

/-- The command in progress ends with a result. -/
def endCmd (r : Nat) (s : State) : State := pwrResult r (s.setPwr fun p => { p with cmd := none, entering := false })

/-- A write of target `t` to PWR_CMD (R371). -/
def pwrTarget (t : Nat) (s : State) : State :=
  if s.pwr.cmd.isSome || t == 0 || decide (4 < t) then pwrResult 5 s
  else if 2 ≤ t ∧ !restful s then pwrResult 3 s
  else
    let s := s.setPwr fun p => { p with cmd := some t, entering := false, began := s.tickNum }
    ((s.wr R.PWR_WAKE_PEND 0#32).wf R.PWR_STAT 3 0 0).wb R.PWR_STAT 4 true

/-- The effect of a write to PWR_CMD by initiator `i` (R371): only APU, SAFE and the host enter a low-power state (log entry 41). -/
def pwrCmd (i : Init) (_ w : Word) (s : State) : State :=
  if i = .apu ∨ i = .safe ∨ i = .host then pwrTarget (bitsOf w 2 0) s else s

/-- The harts of `m` are in WFI, as they show it (R581). -/
def showWfi (m : Nat) (s : State) : State := s.wf (R.CPU_HART_STAT 0) 23 16 (m % 16 &&& s.rf (R.CPU_HART_STAT 0) 7 0)

/-- Every APU hart that runs is in WFI. -/
def allWfi (s : State) : Bool := s.rf (R.CPU_HART_STAT 0) 19 16 == s.rf (R.CPU_HART_STAT 0) 3 0

/-- An enabled wake is pending (R374). -/
def wakePending (s : State) : Bool := (s.rd R.PWR_WAKE_PEND &&& s.rd R.PWR_WAKE_EN) != 0#32

/-- The entry ends with ABORTED_WAKE (R374). -/
def abortWake (s : State) : State := (endCmd 2 s).irq P.PWR 0

/-- The wake is shown (R376). -/
def showWake (src : Nat) (from_ : Nat) (s : State) : State :=
  let s := (s.wr R.PWR_WAKE_CAUSE (word (from_ * 256 + src))).wf R.PWR_STAT 10 8 0
  ((s.wf R.PWR_STAT 3 0 1).wf R.PWR_STAT 31 16 s.tick16).irq P.PWR 0

/-- The APU harts for one of whose contexts an interrupt is pending and enabled (R64, R372), as a mask. -/
def apuWoken (s : State) : Nat :=
  (List.range 4).foldl (fun m h => m + bit (plicNotify (2 * h) s || plicNotify (2 * h + 1) s) * 2 ^ h) 0

/-- The APU leaves IDLE (R372): its clocks run again, and the harts of `m` have left WFI. -/
def leaveIdle (m : Nat) (s : State) : State :=
  let s := plicSample s
  showWake 0 1 (s.wf (R.CPU_HART_STAT 0) 19 16 ((List.range 4).foldl (fun v h => v + bit (!m.testBit h && s.rb (R.CPU_HART_STAT 0) (16 + h)) * 2 ^ h) 0))

/-- An interrupt for the APU ends IDLE (R372). The device looks at the interrupts at every tick, at WAKE, and where the APU's state is read (log entry 185). -/
def idleWake (s : State) : State := if pwrState s = 1 && apuWoken s != 0 then leaveIdle (apuWoken s) s else s

/-- IDLE (R372, R374): the APU clocks are gated in the cycle in which the last hart enters WFI. -/
def idleEntry (wfi : Nat) (s : State) : State :=
  let s := showWfi wfi s
  if s.pwr.cmd ≠ some 1 ∨ !allWfi s then s
  else if wakePending s then abortWake s
  else idleWake (endCmd 0 (s.wf R.PWR_STAT 10 8 1))

/-- The links go to OFF with TILE_RESET_N low (R373). -/
def linksOff (s : State) : State :=
  s.over (List.finRange 4) fun s t => (setLstate t 0 (leaveUp t s)).setTile t fun x => { tileReset x with due := 0, restart := 0 }

/-- The links whose EN is 1 train from step 1 (R373, R376). -/
def linksBack (s : State) : State := s.over (List.finRange 4) fun s t => if s.en (spl t) then trainFrom1 t s else s

/-- The loops stop, and their outputs show their idle levels (R373). -/
def loopsStop (s : State) : State := s.over (List.finRange 16) fun s k => if loopState s k = 0 then s else setLoop k 0 0 (injEnd k 2 s)

/-- What entry waits for (R373): 0 for harts in WFI and channels without descriptors, 1 for the journal's open transaction in the deeper states, 2 for
nothing more. An activation that is due ends the command at once (R464): 3. -/
def entryStage (t : Nat) (s : State) : Nat :=
  let busy := (List.finRange 4).any fun c => s.rf (R.DMV_RING_STATE c) 22 16 != 0
  let open_ := decide (3 ≤ t) && (s.nvm.redo.isSome || s.nvm.direct.isSome)
  let act := s.rf R.SEC_UPD_STAT 2 0 == 3 && (match s.upd.act with | some x => decide (x.1 ≤ s.tickNum) | none => false)
  if act then 3 else if !allWfi s || busy then 0 else if open_ then 1 else 2

/-- The bound of the stage that entry is in has passed: 1 ms from its beginning, 50 ms more for the journal (R373, log entry 186). -/
def entryLate (t : Nat) (s : State) : Bool :=
  match entryStage t s with
  | 0 => decide (s.pwr.entryAt + 1000000 ≤ s.now)
  | 1 => decide (s.pwr.quietAt.getD s.now + 50000000 ≤ s.now)
  | 2 => false
  | _ => true

/-- Entry goes on: it notes since when harts and channels have been quiet, and ends ABORTED_BUSY past a bound (R373). -/
def entryGoes (t : Nat) (s : State) : State :=
  let s := s.setPwr fun p => { p with quietAt := if entryStage t s = 0 then none else some (p.quietAt.getD s.now) }
  if entryLate t s then linksBack (endCmd 4 s) else s

/-- Entry to SLEEP, DEEP_SLEEP or OFF from the first tick after the command (R373): links and loops stop; harts, channels and for the deeper states
the journal must be quiet by their bounds, or the entry is aborted; the command is given again while entry waits. A mode that may not rest any more ends
the command before (R6, log entry 156). -/
def lowpowerEntry (wfi : Nat) (s : State) : State :=
  match s.pwr.cmd with
  | none => s
  | some t =>
    let s := showWfi wfi s
    if t < 2 ∨ s.tickNum ≤ s.pwr.began then s
    else if s.pwr.entering then entryGoes t s
    else if !restful s then endCmd 3 s
    else entryGoes t (loopsStop (linksOff (s.setPwr fun p => { p with entering := true, entryAt := s.now, quietAt := none })))

/-- First byte of entry `k` of the scheduler's table (R436). -/
def schedAddr (s : State) (k : Nat) : Nat := (s.rd R.SCHED_TABLE_BASE).toNat + 32 * k

/-- The table lies in retention SRAM (R436). -/
def schedFits (s : State) : Bool := regionOf (schedAddr s 0) == .ret && regionOf (schedAddr s 0 + 16383) == .ret

/-- Word `w` of entry `k`. -/
def schedWord (s : State) (k w : Nat) : Nat := s.ldLE (schedAddr s k + 4 * w) 4

/-- VALID of entry `k`. -/
def schedValid (s : State) (k : Nat) : Bool := schedWord s k 0 % 2 == 1

/-- T_NEXT of entry `k`. -/
def schedNext (s : State) (k : Nat) : Nat := s.ldLE (schedAddr s k + 4) 8

/-- The valid entries, in ascending index. -/
def schedEntries (s : State) : List Nat := if schedFits s then (List.range 512).filter (schedValid s) else []

/-- The smallest T_NEXT of any valid WAKE entry, all ones for none (R443). -/
def nextWake (s : State) : Nat :=
  ((schedEntries s).filter fun k => schedWord s k 0 / 2 % 8 == 3).foldl (fun m k => min m (schedNext s k)) (2 ^ 64 - 1)

/-- The RTC alarm is set to the earliest WAKE entry (R443). -/
def setAlarm (s : State) : State := s.setPwr fun p => { p with alarm := if nextWake s = 2 ^ 64 - 1 then none else some (nextWake s) }

/-- Every domain loses power but for the wake cell: OFF, or the loss of power (R364, R595). In OFF the cell keeps whether the WAKE pin wakes. -/
def allOff (keepRecord : Bool) (s : State) : State :=
  let pin := keepRecord && s.rb R.PWR_WAKE_EN 4
  let recs := if keepRecord then skeep aonKeep s.regs else []
  let s := loseDomains (s.wr R.PWR_DOMAIN_STAT 0#32)
  let ram := fun a => regionOf a != .ret
  let s := { s with mem := skeep ram s.mem, ue := s.ue.filter (fun w => ram (8 * w)), ce := s.ce.filter (fun w => ram (8 * w)),
                    tim := TimeSt.reset, pwr := { PwrSt.reset with wakePin := pin }, thm := ThmSt.reset,
                    sec := { s.sec with audit := [] }, upd := UpdSt.reset }
  (s.over recs fun s p => s.wr p.1 p.2).wr R.PWR_DOMAIN_STAT 0#32

/-- The commit point (R374): an enabled wake pending ends the command, as does a mode that may not rest (R6, log entry 156); otherwise the state is
entered with its domains on, held or off (R364), and VDD_CORE goes to the P3 voltage in SLEEP (R373). -/
def lowpowerCommit (s : State) : State :=
  match s.pwr.cmd with
  | none => s
  | some t =>
    if !s.pwr.entering then s
    else if entryStage t s ≠ 2 then entryGoes t s
    else if wakePending s then linksBack (abortWake s)
    else if !restful s then linksBack (endCmd 3 s)
    else
      let s := setAlarm (s.setDali fun d => { d with spoilt := true, late := true })
      let s := s.setPwr fun p => { p with cmd := none, entering := false }
      let s := (s.wb R.PWR_STAT 4 false).wf R.PWR_STAT 31 16 s.tick16
      if t = 2 then ((pmicWrite 3 s).wf R.PWR_STAT 10 8 2).wr R.PWR_DOMAIN_STAT (word (0x38 * 256 + 0x47))
      else if t = 3 then
        let s := s.setPwr fun p => { p with kept := s.rf R.SYS_MODE 3 0 }
        let s := s.setTim fun x => { x with base := s.cntAt s.now, deepAt := some s.now }
        loseDomains (showXo ((s.wf R.PWR_STAT 10 8 3).wr R.PWR_DOMAIN_STAT (word (0x02 * 256 + 0x01))))
      else allOff true s

/-- Pages of AON whose registers survive DEEP_SLEEP and the warm boot (R364, R394). -/
def deepKeep (a : Nat) : Bool := isReg a && (pageOf a == P.PWR || pageOf a == P.CLK || pageOf a == P.TIME)

/-- The counter runs again from what the RTC has counted (R377, R405). -/
def extendCount (s : State) : State := s.setTim fun t => { t with base := s.cntAt s.now, c0 := s.now, deepAt := none }

/-- A servo that was LOCKED acquires again after DEEP_SLEEP (R377, R410). -/
def servoAgain (s : State) : State :=
  if s.rf R.TIME_SERVO_STAT 2 0 ≠ 2 then s
  else ((s.wr R.TIME_SERVO_STAT (word (s.tick16 * 65536 + 4))).irq P.TIME 0).setTim fun t => { t with jumps := 0 }

/-- The next tick after DEEP_SLEEP: the first grid point at least P later, or one period later off the grid (R418, log entry 187). -/
def tickAgain (s : State) : State :=
  let n := tickAfter s s.now none s.rate10 true 0
  { s with nextTick := n.1, sync := { s.sync with lastTick := s.now } }.setTim fun t => { t with idx := n.2 }

/-- A commit that a reset of its group cut short leaves its page dirty (R40). -/
def unstage (p : Nat) (s : State) : State := if s.rb (R.COMMIT p) 9 then endMember p 7 false true s else s

/-- The wake from DEEP_SLEEP (R376 to R378, R419, R563): a chip reset with cause WAKE_DEEP in which AON keeps its state; TT enters HOLDOVER, and the
level is P2. -/
def deepWake (s : State) : State :=
  let kept := skeep deepKeep s.regs; let old := s
  let s := chipReset 7 0 s
  let s := { s with tickNum := old.tickNum, tim := old.tim, shadow := skeep deepKeep old.shadow
                    pwr := { PwrSt.reset with alarm := old.pwr.alarm, vcode := s.pwr.vcode, kept := old.pwr.kept } }
  let s := s.over kept fun s p => s.wr p.1 p.2
  let s := (unstage P.CLK (unstage P.TIME (extendCount s))).wr R.PWR_DOMAIN_STAT 0xFF#32
  let s := if old.upd.act.isSome then { s with upd := old.upd }.wf R.SEC_UPD_STAT 2 0 3 else s
  let s := (s.wf R.PWR_LEVEL_STAT 17 16 0).wf R.PWR_LEVEL_STAT 13 12 2
  startLevel (tickAgain (enterHoldover (servoAgain (s.wb R.PWR_LEVEL_STAT 0 false))))

/-- The RTC alarm has come (R375, R443). -/
def alarmDue (s : State) : Bool := match s.pwr.alarm with
  | some x => decide (x ≤ s.ttNs s.now)
  | none => false

/-- Wake source `src` acts (R374 to R376): 0 to 7 by R375, 8 an interrupt or debug request for the APU in IDLE. -/
def wake (src : Fin 9) (s : State) : State :=
  let bitv := if src.val < 8 then 2 ^ src.val else 0
  if isOff s then (if src.val = 4 ∧ s.pwr.wakePin then chipReset 6 0 s else s)
  else if s.thm.shut || (src.val == 5 && !alarmDue s) then s
  else
    let s := s.orMask R.PWR_WAKE_PEND bitv
    let st := pwrState s
    if st = 1 then (if src.val = 8 then leaveIdle (apuWoken s) s else idleWake s)
    else if src.val = 8 ∨ !s.rb R.PWR_WAKE_EN src.val then s
    else if st = 2 then
      linksBack (showWake bitv 2 (((pmicWrite (levelNow s) s).wr R.PWR_DOMAIN_STAT 0xFF#32).wf (R.CPU_HART_STAT 0) 19 16 0))
    else if st = 3 ∧ src.val ≠ 2 then showWake bitv 3 (deepWake s)
    else s

/-- The rails fall (R595): the word in progress completes, every domain loses power, and the journal keeps what it has of open transactions. -/
def powerLoss (s : State) : State := allOff false s

/-- Rail `d` has left its operating range for more than 1 µs (R592): below it, or above it; below its threshold during boot it resets the device
(R562, cause POR). -/
def vmon (d : Fin 8) (over_ : Bool) (s : State) : State :=
  if isOff s then s
  else if !over_ && s.rf R.SYS_START_STAT 4 0 == 0 then chipReset 0 0 s
  else raise (if over_ then Src.VMON_OV d else Src.VMON_UV d) s

end Sys2Proof.Machine
end

