-- ==== Sys2Proof/Machine/FaultCmd.lean ====
section
/-! DEFINITION. Commands of the fault collector (R504, R507, R517, R519, R532, R619, R620) and of the CRC contexts (R527). -/

namespace Sys2Proof.Machine

/-! ### Forces (R507) -/

/-- Forces act in SERVICE and FACTORY only. -/
def mayForceSrc (s : State) : Bool := s.rf R.SYS_MODE 3 0 == 6 || s.rf R.SYS_MODE 3 0 == 0

/-- Inject FORCED events of the sources of a list, or refuse them. -/
def forceAll (l : List Nat) (s : State) : State :=
  if l.isEmpty then s
  else if mayForceSrc s then raiseAll (l.map fun n => ⟨n, false, true⟩) s
  else s.wb R.FLT_FORCE_STAT 0 true

/-- The effect of a write to FORCE of page `p`: bit j belongs to the j-th source of the page. -/
def forcePage (p : Nat) (_ w : Word) (s : State) : State :=
  let l := pageSrcsAsc p
  forceAll (((List.range 32).filter fun j => bitOf w j && decide (j < l.length)).map fun j => nth 0 l j) s

/-- The effect of a write to FLT_FORCE_SRC; slots 352 to 511 hold no source (R503). -/
def forceSrc (_ w : Word) (s : State) : State :=
  if bitOf w 31 then forceAll [bitsOf w 8 0] s else s

/-! ### ERR_N, windows, configuration check, log -/

/-- A source holds ERR_N (R517): REAL at level 4 or 5, or FORCED at level 4 or 5. -/
def holdsErr (s : State) : Bool :=
  s.regs.any fun p => isSrcStat p.1 && ((bitOf p.2 1 && decide (4 ≤ bitsOf p.2 10 8)) || (bitOf p.2 2 && decide (4 ≤ bitsOf p.2 13 11)))

/-- The effect of a write to FLT_ERR (R517): ERR_N is released, but stays low until start-up step 2 (R588). -/
def errRelease (_ w : Word) (s : State) : State :=
  if bitOf w 1 && !holdsErr s then
    let s := s.wb R.FLT_ERR 0 false
    { s with sys := { s.sys with errLow := s.rf (R.SYS_START_MS 2) 15 0 == 0 } }
  else s

/-- Reset windows that have timed out end (R519). -/
def conseqTimeout (s : State) : State :=
  let l := s.flt.wins.filter fun w => decide (s.now < w.ends)
  if l.length = s.flt.wins.length then s
  else ({ s with flt := { s.flt with wins := l } }).irq P.FLT0 17

/-- A write to a fault configuration register: FLT_CFG_CRC_REF is computed anew (R532), and a source's new class shows in FLT_CLASS_PEND (R512). -/
def cfgWritten (_ _ : Word) (s : State) : State :=
  showPend (({ s with flt := { s.flt with crcSet := true } }).wr R.FLT_CFG_CRC_REF (word (cfgCrc s)))

/-- Every 1 ms the stored configuration is compared with its CRC (R532). -/
def cfgCheck (s : State) : State := raiseIf (s.flt.crcSet && s.pageOn P.FLT0 && s.rd R.FLT_CFG_CRC_REF != word (cfgCrc s)) Src.FLT_CFG_CRC s

/-- The effect of a write to FLT_LOG_RD (R620): the entries before the index count as read. -/
def logRead (_ w : Word) (s : State) : State := s.wf R.FLT_LOG_WR 16 8 ((s.rf R.FLT_LOG_WR 7 0 + 256 - bitsOf w 7 0) % 256)

/-- The effect of a W1C write to the FLT_SRC_STAT at `a`: the pending classes follow (R512), and what it cleared is kept for an event of the same instant
(R515). -/
def statClear (a : Nat) (old _ : Word) (s : State) : State :=
  let l := if s.flt.ackAt = s.now then s.flt.ack else []
  showPend { s with flt := { s.flt with ackAt := s.now, ack := sset 0#32 a (sget 0#32 a l ||| (old &&& ~~~(s.rd a))) l } }

/-- The condition of a source that lasts holds now (R504): RAW of such a source. No command reports the return of a rail to its range, so an undervoltage
shows at its event only. -/
def rawNow (n : Nat) (s : State) : Bool :=
  n == Src.THM_WARN && s.rb (R.STATUS P.THM) 8 || n == Src.SENSOR_FAIL && (s.rd R.THM_SENSOR_FAIL != 0#32 || s.rd R.THM_TILE_FAIL != 0#32) ||
  n == Src.SCN_SYNC_LOST && s.sync.lost || n == Src.ENERGY_PLAN_STALE && s.rb R.NRG_PLAN_STAT 0 || n == Src.DEBUG_LOCKOUT && s.rb R.SEC_DBG_STAT 4 ||
  (List.finRange 4).any (fun t => n == Src.THM_TILE_OVER t && s.thm.overTold[t] || n == Src.PHO_TH_LOST t && s.pho.thLost[t]) ||
  n == Src.THM_CRITICAL && s.rb (R.STATUS P.THM) 11 || n == Src.DALI_BUS_FAIL && s.dali.fail || n == Src.TIME_STEP_PENDING && s.rb R.TIME_TGEN_STAT 3 ||
  n == Src.CLK_REF_LOSS && !s.rb (R.STATUS P.CLK) 0 || (List.range 6).any (fun p => n == Src.PLL_UNLOCK p && !s.rb (R.STATUS P.CLK) (2 + p)) ||
  (List.range 3).any (fun p => n == Src.PORT_LINK_DOWN p && !s.rb (R.PORT_LINK p) 0)

/-- RAW is brought up to date before a read of FLT_SRC_STAT (R504): the condition that lasts, or an event of this very instant. -/
def rawRead (a : Nat) (s : State) : State :=
  if 352 ≤ srcOfAddr a then s else s.wb a 0 (rawNow (srcOfAddr a) s || (s.evtBits a &&& 0x16#32) != 0#32)

/-! ### CRC contexts (R527) -/

/-- Context `c` of unit `u` is active: the descriptor that a running channel works on computes with it. -/
def crcActive (u c : Nat) (s : State) : Bool :=
  (List.finRange 4).any fun d =>
    inflight d s != 0 && !s.rb (R.STATUS (P.DMVC d)) 1 && s.en (P.DMVC d) &&
    (let x := readDesc s ((s.rd (R.DMV_RING_BASE d)).toNat + 32 * s.rf (R.DMV_RING_STATE d) 5 0)
     x.crcEn && x.unit == u && x.ctx == c)

/-- ACTIVE is brought up to date before a read of CRC_CTX_STAT (R533). -/
def crcStatRead (u c : Nat) (s : State) : State := s.wb (R.CRC_CTX_STAT u c) 3 (crcActive u c s)

/-- The effect of a write to CRC_CTX_RUN: it sets the register, or is dropped while the context is active. -/
def crcRunWrite (u c : Nat) (old w : Word) (s : State) : State :=
  if crcActive u c s then raise Src.CFG_LIVE_WRITE (s.wr (R.CRC_CTX_RUN u c) old)
  else setRun u c w.toNat s

/-- A write of a context's configuration: RESULT shows the register's finished value under the new POLY. -/
def crcCfgWrite (u c : Nat) (_ _ : Word) (s : State) : State := setRun u c (s.rd (R.CRC_CTX_RUN u c)).toNat s

end Sys2Proof.Machine
end

