-- ==== Sys2Proof/Machine/Sha.lean ====
section
/-! DEFINITION. The hashes of R457 with HMAC and HKDF (R451, R457, R459, R483; FIPS 180-4, FIPS 202, RFC 2104 and RFC 5869, PRESUMED, log entry 42). -/

namespace Sys2Proof.Machine

/-- The round constants. -/
def shaK : List Nat :=
  [0x428a2f98, 0x71374491, 0xb5c0fbcf, 0xe9b5dba5, 0x3956c25b, 0x59f111f1, 0x923f82a4, 0xab1c5ed5] ++
  [0xd807aa98, 0x12835b01, 0x243185be, 0x550c7dc3, 0x72be5d74, 0x80deb1fe, 0x9bdc06a7, 0xc19bf174] ++
  [0xe49b69c1, 0xefbe4786, 0x0fc19dc6, 0x240ca1cc, 0x2de92c6f, 0x4a7484aa, 0x5cb0a9dc, 0x76f988da] ++
  [0x983e5152, 0xa831c66d, 0xb00327c8, 0xbf597fc7, 0xc6e00bf3, 0xd5a79147, 0x06ca6351, 0x14292967] ++
  [0x27b70a85, 0x2e1b2138, 0x4d2c6dfc, 0x53380d13, 0x650a7354, 0x766a0abb, 0x81c2c92e, 0x92722c85] ++
  [0xa2bfe8a1, 0xa81a664b, 0xc24b8b70, 0xc76c51a3, 0xd192e819, 0xd6990624, 0xf40e3585, 0x106aa070] ++
  [0x19a4c116, 0x1e376c08, 0x2748774c, 0x34b0bcb5, 0x391c0cb3, 0x4ed8aa4a, 0x5b9cca4f, 0x682e6ff3] ++
  [0x748f82ee, 0x78a5636f, 0x84c87814, 0x8cc70208, 0x90befffa, 0xa4506ceb, 0xbef9a3f7, 0xc67178f2]

/-- The initial hash. -/
def shaH : List Nat :=
  [0x6a09e667, 0xbb67ae85, 0x3c6ef372, 0xa54ff53a, 0x510e527f, 0x9b05688c, 0x1f83d9ab, 0x5be0cd19]

/-- Rotation right of a 32-bit word. -/
def ror (n x : Nat) : Nat := (x / 2 ^ n + x * 2 ^ (32 - n)) % 2 ^ 32

/-- The message schedule: 48 words more, newest first. -/
def shaSchedule : Nat → List Nat → List Nat
  | 0, w => w
  | n + 1, w =>
    let g := fun i => w.getD i 0
    let s0 := ror 7 (g 14) ^^^ ror 18 (g 14) ^^^ (g 14 / 8)
    let s1 := ror 17 (g 1) ^^^ ror 19 (g 1) ^^^ (g 1 / 1024)
    shaSchedule n ((g 15 + s0 + g 6 + s1) % 2 ^ 32 :: w)

/-- One round. -/
def shaRound (h : List Nat) (kw : Nat × Nat) : List Nat :=
  let g := fun i => h.getD i 0
  let s1 := ror 6 (g 4) ^^^ ror 11 (g 4) ^^^ ror 25 (g 4)
  let ch := (g 4 &&& g 5) ^^^ ((0xFFFFFFFF - g 4) &&& g 6)
  let t1 := g 7 + s1 + ch + kw.1 + kw.2
  let s0 := ror 2 (g 0) ^^^ ror 13 (g 0) ^^^ ror 22 (g 0)
  let maj := (g 0 &&& g 1) ^^^ (g 0 &&& g 2) ^^^ (g 1 &&& g 2)
  [(t1 + s0 + maj) % 2 ^ 32, g 0, g 1, g 2, (g 3 + t1) % 2 ^ 32, g 4, g 5, g 6]

/-- One block of 64 bytes. -/
def shaBlock (h : List Nat) (b : List Nat) : List Nat :=
  let w := (List.range 16).map fun i => ofBE ((b.drop (4 * i)).take 4)
  let ws := (shaSchedule 48 w.reverse).reverse
  let r := (shaK.zip ws).foldl shaRound h
  (h.zip r).map fun p => (p.1 + p.2) % 2 ^ 32

/-- SHA-256 of bytes. -/
def sha256 (m : List Nat) : List Nat :=
  let pad := m ++ [0x80] ++ List.replicate ((119 - m.length % 64) % 64) 0 ++ bytesBE 8 (8 * m.length)
  ((List.range (pad.length / 64)).foldl (fun h i => shaBlock h ((pad.drop (64 * i)).take 64)) shaH).flatMap (bytesBE 4)

/-! ### SHA-384 -/

/-- The first 80 primes. -/
def primes80 : List Nat := (List.range 410).filter fun n => decide (2 ≤ n) && (List.range 20).all fun d => d < 2 || n == d || n % d != 0 || n < d

/-- The largest `r` below 2^n with r^e at most `x`. -/
def nroot (e x : Nat) : Nat → Nat → Nat
  | 0, r => r
  | n + 1, r => nroot e x n (if (r + 2 ^ n) ^ e ≤ x then r + 2 ^ n else r)

/-- The round constants: the first 64 fraction bits of the cube roots of the first 80 primes. -/
def sha5K : List Nat := primes80.map fun p => nroot 3 (p * 2 ^ 192) 68 0 % 2 ^ 64

/-- The initial hash of SHA-384: the first 64 fraction bits of the square roots of the 9th to 16th primes. -/
def sha384H : List Nat := ((primes80.drop 8).take 8).map fun p => nroot 2 (p * 2 ^ 128) 68 0 % 2 ^ 64

/-- Rotation right of a 64-bit word. -/
def ror64 (n x : Nat) : Nat := (x / 2 ^ n + x * 2 ^ (64 - n)) % 2 ^ 64

/-- The message schedule: words more, newest first. -/
def sha5Schedule : Nat → List Nat → List Nat
  | 0, w => w
  | n + 1, w =>
    let g := fun i => w.getD i 0
    let s0 := ror64 1 (g 14) ^^^ ror64 8 (g 14) ^^^ (g 14 / 128)
    let s1 := ror64 19 (g 1) ^^^ ror64 61 (g 1) ^^^ (g 1 / 64)
    sha5Schedule n ((g 15 + s0 + g 6 + s1) % 2 ^ 64 :: w)

/-- One round. -/
def sha5Round (h : List Nat) (kw : Nat × Nat) : List Nat :=
  let g := fun i => h.getD i 0
  let s1 := ror64 14 (g 4) ^^^ ror64 18 (g 4) ^^^ ror64 41 (g 4)
  let ch := (g 4 &&& g 5) ^^^ ((2 ^ 64 - 1 - g 4) &&& g 6)
  let t1 := g 7 + s1 + ch + kw.1 + kw.2
  let s0 := ror64 28 (g 0) ^^^ ror64 34 (g 0) ^^^ ror64 39 (g 0)
  let maj := (g 0 &&& g 1) ^^^ (g 0 &&& g 2) ^^^ (g 1 &&& g 2)
  [(t1 + s0 + maj) % 2 ^ 64, g 0, g 1, g 2, (g 3 + t1) % 2 ^ 64, g 4, g 5, g 6]

/-- One block of 128 bytes. -/
def sha5Block (h : List Nat) (b : List Nat) : List Nat :=
  let w := (List.range 16).map fun i => ofBE ((b.drop (8 * i)).take 8)
  let ws := (sha5Schedule 64 w.reverse).reverse
  let r := (sha5K.zip ws).foldl sha5Round h
  (h.zip r).map fun p => (p.1 + p.2) % 2 ^ 64

/-- The initial hash of SHA-512: the same of the first 8 primes. -/
def sha512H : List Nat := (primes80.take 8).map fun p => nroot 2 (p * 2 ^ 128) 68 0 % 2 ^ 64

/-- The 64-byte state that bytes lead to from an initial hash. -/
def sha5 (h0 : List Nat) (m : List Nat) : List Nat :=
  let pad := m ++ [0x80] ++ List.replicate ((239 - m.length % 128) % 128) 0 ++ bytesBE 16 (8 * m.length)
  ((List.range (pad.length / 128)).foldl (fun h i => sha5Block h ((pad.drop (128 * i)).take 128)) h0).flatMap (bytesBE 8)

/-- SHA-384 of bytes. -/
def sha384 (m : List Nat) : List Nat := (sha5 sha384H m).take 48

/-- SHA-512 of bytes. -/
def sha512 (m : List Nat) : List Nat := sha5 sha512H m

/-! ### SHA-3 and SHAKE (FIPS 202) -/

/-- The rotation of each lane. -/
def keccakRho : List Nat := [0, 1, 62, 28, 27, 36, 44, 6, 55, 20, 3, 10, 43] ++ [25, 39, 41, 45, 15, 21, 8, 18, 2, 61, 56, 14]

/-- The round constants. -/
def keccakRC : List Nat :=
  [0x0000000000000001, 0x0000000000008082, 0x800000000000808A, 0x8000000080008000, 0x000000000000808B, 0x0000000080000001] ++
  [0x8000000080008081, 0x8000000000008009, 0x000000000000008A, 0x0000000000000088, 0x0000000080008009, 0x000000008000000A] ++
  [0x000000008000808B, 0x800000000000008B, 0x8000000000008089, 0x8000000000008003, 0x8000000000008002, 0x8000000000000080] ++
  [0x000000000000800A, 0x800000008000000A, 0x8000000080008081, 0x8000000000008080, 0x0000000080000001, 0x8000000080008008]

/-- One round on the 25 lanes, lane (x, y) at 5y + x. -/
def keccakRound (a : List Nat) (rc : Nat) : List Nat :=
  let g := fun i => a.getD i 0
  let c := (List.range 5).map fun x => g x ^^^ g (x + 5) ^^^ g (x + 10) ^^^ g (x + 15) ^^^ g (x + 20)
  let rol := fun (n x : Nat) => ror64 ((64 - n) % 64) x
  let d := (List.range 5).map fun x => c.getD ((x + 4) % 5) 0 ^^^ rol 1 (c.getD ((x + 1) % 5) 0)
  let b := (List.range 25).map fun i =>
    let k := (i % 5 + 3 * (i / 5)) % 5 + 5 * (i % 5)
    rol (keccakRho.getD k 0) (g k ^^^ d.getD (k % 5) 0)
  let e := fun i => b.getD i 0
  (List.range 25).map fun i =>
    let y := 5 * (i / 5)
    e i ^^^ ((2 ^ 64 - 1 - e (y + (i + 1) % 5)) &&& e (y + (i + 2) % 5)) ^^^ (if i = 0 then rc else 0)

/-- The permutation. -/
def keccakF (a : List Nat) : List Nat := keccakRC.foldl keccakRound a

/-- The bytes of the lanes. -/
def keccakOut (a : List Nat) : List Nat := a.flatMap fun x => bytesLE 8 x

/-- The sponge of rate `r` bytes with domain byte `dom`: `n` bytes of output. -/
def keccak (r dom n : Nat) (m : List Nat) : List Nat :=
  let z := r - 1 - m.length % r
  let pad := m ++ (if z = 0 then [dom + 0x80] else dom :: (List.replicate (z - 1) 0 ++ [0x80]))
  let a := (List.range (pad.length / r)).foldl (fun a i =>
    let b := (pad.drop (r * i)).take r
    keccakF (a.zipIdx.map fun x => x.1 ^^^ ofLE ((b.drop (8 * x.2)).take 8))) (List.replicate 25 0)
  let outs := (List.range (n / r)).foldl (fun (p : List Nat × List Nat) _ => let a := keccakF p.1; (a, p.2 ++ (keccakOut a).take r)) (a, (keccakOut a).take r)
  outs.2.take n

/-- SHA3-256. -/
def sha3_256 (m : List Nat) : List Nat := keccak 136 0x06 32 m

/-- SHA3-512. -/
def sha3_512 (m : List Nat) : List Nat := keccak 72 0x06 64 m

/-- SHAKE128. -/
def shake128 (n : Nat) (m : List Nat) : List Nat := keccak 168 0x1F n m

/-- SHAKE256. -/
def shake256 (n : Nat) (m : List Nat) : List Nat := keccak 136 0x1F n m

/-! ### HMAC and HKDF (R451, R457; RFC 2104, RFC 5869) -/

/-- HMAC with a hash of block size `b`. -/
def hmac (h : List Nat → List Nat) (b : Nat) (key m : List Nat) : List Nat :=
  let k := if b < key.length then h key else key
  let k := k ++ List.replicate (b - k.length) 0
  h (k.map (· ^^^ 0x5C) ++ h (k.map (· ^^^ 0x36) ++ m))

/-- HMAC-SHA-256. -/
def hmac256 (key m : List Nat) : List Nat := hmac sha256 64 key m

/-- HMAC-SHA-384. -/
def hmac384 (key m : List Nat) : List Nat := hmac sha384 128 key m

/-- HKDF-Expand with HMAC-SHA-384: `k` blocks from block `i + 1` on. -/
def hkdfBlocks (prk info : List Nat) : Nat → Nat → List Nat → List Nat
  | 0, _, _ => []
  | k + 1, i, t => let t := hmac384 prk (t ++ info ++ [i + 1]); t ++ hkdfBlocks prk info k (i + 1) t

/-- HKDF-SHA-384: `n` bytes from the input key material. -/
def hkdf384 (salt ikm info : List Nat) (n : Nat) : List Nat := (hkdfBlocks (hmac384 salt ikm) info ((n + 47) / 48) 0 []).take n

end Sys2Proof.Machine
end

