-- ==== Sys2Proof/Machine/Aes.lean ====
section
/-! DEFINITION. AES-256, AES-256-GCM and the CTR_DRBG of R457 (FIPS 197, SP 800-38D, SP 800-90A, PRESUMED, log entry 42): the tags of wake beacons (R435) and the
random numbers (R458). -/

namespace Sys2Proof.Machine

/-- Times x in GF(2^8). -/
def xtime (a : Nat) : Nat := let b := 2 * a; if 256 ≤ b then b ^^^ 0x11B else b

/-- Product in GF(2^8): `n` bits of `b`. -/
def gfMul : Nat → Nat → Nat → Nat
  | 0, _, _ => 0
  | n + 1, a, b => (if b % 2 = 1 then a else 0) ^^^ gfMul n (xtime a) (b / 2)

/-- The inverse in GF(2^8): the 254th power. -/
def gfInv (a : Nat) : Nat :=
  let m := gfMul 8
  let a2 := m a a; let a3 := m a2 a; let a6 := m a3 a3; let a12 := m a6 a6; let a15 := m a12 a3
  let a30 := m a15 a15; let a60 := m a30 a30; let a120 := m a60 a60; let a126 := m a120 a6; let a127 := m a126 a
  m a127 a127

/-- The S-box. -/
def aesSub (a : Nat) : Nat :=
  let b := gfInv a
  let r := fun n => (b * 2 ^ n + b / 2 ^ (8 - n)) % 256
  b ^^^ r 1 ^^^ r 2 ^^^ r 3 ^^^ r 4 ^^^ 0x63

/-- The XOR of two byte strings. -/
def xorBytes (a b : List Nat) : List Nat := a.zipWith (· ^^^ ·) b

/-- The key schedule of AES-256: words of 4 bytes, newest first; `n` words more from word `i`. -/
def aesSchedule : Nat → Nat → List (List Nat) → List (List Nat)
  | 0, _, w => w
  | n + 1, i, w =>
    let t := w.headD []
    let t := if i % 8 = 0 then xorBytes ((t.drop 1 ++ t.take 1).map aesSub) [2 ^ (i / 8 - 1), 0, 0, 0] else if i % 8 = 4 then t.map aesSub else t
    aesSchedule n (i + 1) (xorBytes (w.getD 7 []) t :: w)

/-- The 15 round keys. -/
def aesKeys (key : List Nat) : List (List Nat) :=
  let w := (aesSchedule 52 8 ((List.range 8).map fun i => (key.drop (4 * i)).take 4).reverse).reverse
  (List.range 15).map fun r => ((w.drop (4 * r)).take 4).flatten

/-- SubBytes and ShiftRows. -/
def aesShift (b : List Nat) : List Nat := (List.range 16).map fun i => aesSub (b.getD ((i + 4 * (i % 4)) % 16) 0)

/-- MixColumns. -/
def aesMix (b : List Nat) : List Nat := (List.range 16).map fun i =>
  let g := fun k => b.getD (i / 4 * 4 + (i + k) % 4) 0
  xtime (g 0) ^^^ xtime (g 1) ^^^ g 1 ^^^ g 2 ^^^ g 3

/-- One block under AES-256. -/
def aes256 (key b : List Nat) : List Nat :=
  let ks := aesKeys key
  let s := ((ks.drop 1).take 13).foldl (fun s k => xorBytes (aesMix (aesShift s)) k) (xorBytes b (ks.headD []))
  xorBytes (aesShift s) (ks.getD 14 [])

/-! ### GCM -/

/-- Product in GF(2^128) as GCM writes it, bit 127 of the number first: `n` bits of `x`. -/
def ghashMul : Nat → Nat → Nat → Nat → Nat
  | 0, _, _, z => z
  | n + 1, x, v, z =>
    ghashMul n x (if v % 2 = 1 then (v / 2) ^^^ (0xE1 * 2 ^ 120) else v / 2) (if x.testBit n then z ^^^ v else z)

/-- GHASH over whole blocks. -/
def ghash (h : Nat) (m : List Nat) : Nat :=
  (List.range ((m.length + 15) / 16)).foldl (fun y i => ghashMul 128 (y ^^^ ofBE ((m.drop (16 * i)).take 16)) h 0) 0

/-- Padding to a whole block. -/
def pad16 (l : List Nat) : List Nat := l ++ List.replicate ((16 - l.length % 16) % 16) 0

/-- AES-256-GCM with a 12-byte IV: the ciphertext and its tag. -/
def gcmSeal (key iv aad pt : List Nat) : List Nat × List Nat :=
  let ctr := fun n => aes256 key (iv ++ bytesBE 4 n)
  let ct := (List.range ((pt.length + 15) / 16)).flatMap fun i => xorBytes ((pt.drop (16 * i)).take 16) (ctr (i + 2))
  let s := ghash (ofBE (aes256 key (List.replicate 16 0))) (pad16 aad ++ pad16 ct ++ bytesBE 8 (8 * aad.length) ++ bytesBE 8 (8 * ct.length))
  (ct, xorBytes (bytesBE 16 s) (ctr 1))

/-! ### CTR_DRBG with AES-256 -/

/-- Three blocks of the generator from (Key, V). -/
def drbgBlocks (key : List Nat) (v n : Nat) : List Nat := (List.range n).flatMap fun i => aes256 key (bytesBE 16 ((v + i + 1) % 2 ^ 128))

/-- CTR_DRBG_Update with 48 bytes of provided data. -/
def drbgUpdate (d : List Nat) (k : List Nat × Nat) : List Nat × Nat :=
  let t := xorBytes (drbgBlocks k.1 k.2 3) d
  (t.take 32, ofBE (t.drop 32))

/-- CTR_DRBG_Generate of 32 bytes without additional input: the bytes, and the next (Key, V). -/
def drbgGenerate (k : List Nat × Nat) : List Nat × (List Nat × Nat) :=
  (drbgBlocks k.1 k.2 2, drbgUpdate (List.replicate 48 0) (k.1, (k.2 + 2) % 2 ^ 128))

end Sys2Proof.Machine
end

