-- ==== Sys2Proof/Machine/Ec.lean ====
section
/-! DEFINITION. Elliptic curves of R457: ECDSA P-384 with SHA-384, ECDH P-256 and X25519 (FIPS 186-5, SP 800-186, RFC 7748, PRESUMED, log entry 42). -/

namespace Sys2Proof.Machine

/-- The extended Euclidean algorithm, of at most `n` steps. -/
def invEuclid : Nat → Int → Int → Int → Int → Int
  | 0, _, _, x, _ => x
  | n + 1, a, b, x, y => if b = 0 then x else invEuclid n b (a % b) y (x - a / b * y)

/-- The inverse of `a` modulo the prime `p`. -/
def invMod (a p : Nat) : Nat := ((invEuclid 800 a p 1 0) % p).toNat

/-- A curve y² = x³ − 3x + b over the prime `p`, with base point and its order. -/
structure Curve where
  p : Nat
  b : Nat
  gx : Nat
  gy : Nat
  n : Nat
  deriving DecidableEq, Repr

/-- P-384. -/
def p384 : Curve where
  p := 2 ^ 384 - 2 ^ 128 - 2 ^ 96 + 2 ^ 32 - 1
  b := 0xb3312fa7e23ee7e4988e056be3f82d19181d9c6efe8141120314088f5013875ac656398d8a2ed19d2a85c8edd3ec2aef
  gx := 0xaa87ca22be8b05378eb1c71ef320ad746e1d3b628ba79b9859f741e082542a385502f25dbf55296c3a545e3872760ab7
  gy := 0x3617de4a96262c6f5d9e98bf9292dc29f8f41dbd289a147ce9da3113b5f0b8c00a60b1ce1d7e819d7a431d7c90ea0e5f
  n := 0xffffffffffffffffffffffffffffffffffffffffffffffffc7634d81f4372ddf581a0db248b0a77aecec196accc52973

/-- P-256. -/
def p256 : Curve where
  p := 2 ^ 256 - 2 ^ 224 + 2 ^ 192 + 2 ^ 96 - 1
  b := 0x5ac635d8aa3a93e7b3ebbd55769886bc651d06b0cc53b0f63bce3c3e27d2604b
  gx := 0x6b17d1f2e12c4247f8bce6e563a440f277037d812deb33a0f4a13945d898c296
  gy := 0x4fe342e2fe1a7f9b8ee7eb4a7c0f9e162bce33576b315ececbb6406837bf51f5
  n := 0xffffffff00000000ffffffffffffffffbce6faada7179e84f3b9cac2fc632551

/-- The sum of two points; none is the point at infinity. -/
def ecAdd (c : Curve) : Option (Nat × Nat) → Option (Nat × Nat) → Option (Nat × Nat)
  | none, q => q
  | some p, none => some p
  | some (x1, y1), some (x2, y2) =>
    if x1 = x2 ∧ (y1 + y2) % c.p = 0 then none
    else
      let l := if x1 = x2 then (3 * x1 * x1 + 3 * (c.p - 1)) * invMod (2 * y1) c.p % c.p else (y2 + c.p - y1) * invMod ((x2 + c.p - x1) % c.p) c.p % c.p
      let x := (l * l + 2 * c.p - x1 - x2) % c.p
      some (x, (l * (x1 + c.p - x) + c.p - y1) % c.p)

/-- The `k`-fold of a point, for `k` below 2^n. -/
def ecMul (c : Curve) (k : Nat) (q : Option (Nat × Nat)) : Nat → Option (Nat × Nat)
  | 0 => none
  | n + 1 => let h := ecMul c (k / 2) q n; let d := ecAdd c h h; if k % 2 = 1 then ecAdd c d q else d

/-- A point in its uncompressed form, on the curve. -/
def ecPoint (c : Curve) (len : Nat) (l : List Nat) : Option (Nat × Nat) :=
  let x := ofBE ((l.drop 1).take len); let y := ofBE ((l.drop (1 + len)).take len)
  if l.length = 1 + 2 * len ∧ l.headD 0 = 4 ∧ x < c.p ∧ y < c.p ∧ y * y % c.p = (x * x * x + 3 * (c.p - 1) * x + c.b) % c.p then some (x, y) else none

/-- An ECDSA P-384 signature r ‖ s with SHA-384 verifies under an uncompressed key. -/
def ecdsaVerify (key msg sig : List Nat) : Bool :=
  match ecPoint p384 48 key with
  | none => false
  | some q =>
    let r := ofBE (sig.take 48); let s := ofBE (sig.drop 48); let n := p384.n
    if sig.length ≠ 96 ∨ r = 0 ∨ s = 0 ∨ n ≤ r ∨ n ≤ s then false
    else
      let w := invMod s n; let e := ofBE (sha384 msg)
      match ecAdd p384 (ecMul p384 (e * w % n) (some (p384.gx, p384.gy)) 384) (ecMul p384 (r * w % n) (some q) 384) with
      | none => false
      | some (x, _) => x % n == r

/-- ECDH P-256: the shared x coordinate with a peer's point. -/
def ecdh256 (k : Nat) (peer : List Nat) : Option (List Nat) :=
  match ecPoint p256 32 peer with
  | none => none
  | some q => (ecMul p256 (k % (p256.n - 1) + 1) (some q) 256).map fun r => bytesBE 32 r.1

/-- The device's ECDH P-256 share. -/
def ecShare256 (k : Nat) : List Nat := match ecMul p256 (k % (p256.n - 1) + 1) (some (p256.gx, p256.gy)) 256 with
  | some (x, y) => 4 :: (bytesBE 32 x ++ bytesBE 32 y)
  | none => []

/-! ### X25519 -/

/-- One step of the Montgomery ladder from its two points, each (X, Z). -/
def ladderStep (u : Nat) (a b : Nat × Nat) : (Nat × Nat) × (Nat × Nat) :=
  let p := 2 ^ 255 - 19
  let m := fun (x y : Nat) => x * y % p; let sub := fun (x y : Nat) => (x + p - y) % p
  let aa := m (a.1 + a.2) (a.1 + a.2); let bb := m (sub a.1 a.2) (sub a.1 a.2)
  let e := sub aa bb; let da := m (sub b.1 b.2) (a.1 + a.2); let cb := m (b.1 + b.2) (sub a.1 a.2)
  ((m aa bb, m e (aa + m 121665 e)), (m (da + cb) (da + cb), m u (m (sub da cb) (sub da cb))))

/-- The ladder over the bits of `k` from bit n − 1 down. -/
def ladder (u k : Nat) : Nat → (Nat × Nat) × (Nat × Nat) → (Nat × Nat) × (Nat × Nat)
  | 0, s => s
  | n + 1, s => ladder u k n (if k.testBit n then let r := ladderStep u s.2 s.1; (r.2, r.1) else ladderStep u s.1 s.2)

/-- X25519 of a 32-byte scalar and u coordinate. -/
def x25519 (k u : List Nat) : List Nat :=
  let n := ofLE k; let n := n - n % 8
  let n := n % 2 ^ 254 + 2 ^ 254; let u := ofLE u % 2 ^ 255 % (2 ^ 255 - 19)
  let r := (ladder u n 255 ((1, 0), (u, 1))).1
  bytesLE 32 (r.1 * invMod r.2 (2 ^ 255 - 19) % (2 ^ 255 - 19))

end Sys2Proof.Machine
end

