-- ==== Sys2Proof/Machine/Token.lean ====
section
/-! DEFINITION. CBOR and the form of grant tokens (R467, R468), the rights of each role (R474), and the form of images (R459). -/

namespace Sys2Proof.Machine

/-! ### CBOR (RFC 8949, as R430 and R467 name it) -/

/-- A CBOR item; a map lists its keys and values in turn. -/
inductive Cbor where
  | uint (n : Nat)
  | nint (n : Nat)
  | bytes (l : List Nat)
  | text (l : List Nat)
  | arr (l : List Cbor)
  | map (l : List Cbor)
  | tag (n : Nat) (c : Cbor)
  | simple (n : Nat)

/-- The head of an item: major type and argument. Indefinite lengths are not taken. -/
def cborHead : List Nat → Option (Nat × Nat × List Nat)
  | [] => none
  | b :: r =>
    let ai := b % 32
    if ai < 24 then some (b / 32, ai, r)
    else if ai < 28 then
      let n := 2 ^ (ai - 24)
      if n ≤ r.length then some (b / 32, ofBE (r.take n), r.drop n) else none
    else none

/-- Decode `n` items from bytes; `fuel` bounds the depth and the length. -/
def cborItems : Nat → Nat → List Nat → Option (List Cbor × List Nat)
  | _, 0, l => some ([], l)
  | 0, _ + 1, _ => none
  | fuel + 1, n + 1, l =>
    match cborHead l with
    | none => none
    | some (m, a, r) =>
      let one : Option (Cbor × List Nat) :=
        if m = 0 then some (.uint a, r)
        else if m = 1 then some (.nint a, r)
        else if m = 2 then (if a ≤ r.length then some (.bytes (r.take a), r.drop a) else none)
        else if m = 3 then (if a ≤ r.length then some (.text (r.take a), r.drop a) else none)
        else if m = 4 then (cborItems fuel a r).map fun x => (.arr x.1, x.2)
        else if m = 5 then (cborItems fuel (2 * a) r).map fun x => (.map x.1, x.2)
        else if m = 6 then match cborItems fuel 1 r with
          | some ([c], r) => some (.tag a c, r)
          | _ => none
        else some (.simple a, r)
      match one with
      | none => none
      | some (c, r) => (cborItems fuel n r).map fun x => (c :: x.1, x.2)

/-- The one item that bytes hold whole. -/
def cbor (l : List Nat) : Option Cbor :=
  match cborItems (l.length + 1) 1 l with
  | some ([c], []) => some c
  | _ => none

/-- The pairs of a map. -/
def pairs : List Cbor → List (Cbor × Cbor)
  | a :: b :: r => (a, b) :: pairs r
  | _ => []

/-- The value under an unsigned key. -/
def claim (k : Nat) (l : List (Cbor × Cbor)) : Option Cbor :=
  (l.find? fun p => match p.1 with | .uint n => n == k | _ => false).map (·.2)

/-- A key that marks personal data: −1,000 to −1,099 (R475). -/
def personalKey (c : Cbor) : Bool := match c with
  | .nint n => decide (999 ≤ n) && decide (n ≤ 1098)
  | _ => false

/-- The bytes of `n` items (`ofMap`: `n` pairs of a map), the values under personal keys replaced by CBOR null, all else byte for byte (R475); and the bytes
after them. `fuel` bounds the depth and the length. -/
def nulled : Nat → Bool → Nat → List Nat → Option (List Nat × List Nat)
  | _, _, 0, l => some ([], l)
  | 0, _, _ + 1, _ => none
  | fuel + 1, true, n + 1, l =>
    match cborItems (l.length + 1) 1 l with
    | some ([k], r) =>
      let key := l.take (l.length - r.length)
      let v := if personalKey k then (cborItems (r.length + 1) 1 r).map fun x => ([0xF6], x.2) else nulled fuel false 1 r
      match v with
      | none => none
      | some (v, r) => (nulled fuel true n r).map fun x => (key ++ v ++ x.1, x.2)
    | _ => none
  | fuel + 1, false, n + 1, l =>
    match cborHead l with
    | none => none
    | some (m, a, r) =>
      let lead := l.take (l.length - r.length)
      let one : Option (List Nat × List Nat) :=
        if m = 2 ∨ m = 3 then (if a ≤ r.length then some (r.take a, r.drop a) else none)
        else if m = 4 then nulled fuel false a r
        else if m = 5 then nulled fuel true a r
        else if m = 6 then nulled fuel false 1 r
        else some ([], r)
      match one with
      | none => none
      | some (b, r) => (nulled fuel false n r).map fun x => (lead ++ b ++ x.1, x.2)

/-- A payload as a maker session is shown it (R475); one that is no CBOR item is shown as null. -/
def redacted (l : List Nat) : List Nat := match nulled (2 * l.length + 2) false 1 l with
  | some (b, []) => b
  | _ => [0xF6]

/-- The head of an item of major type `m` with argument `a`, in its shortest form. -/
def cborLead (m a : Nat) : List Nat :=
  if a < 24 then [32 * m + a] else if a < 2 ^ 8 then [32 * m + 24, a] else if a < 2 ^ 16 then (32 * m + 25) :: bytesBE 2 a
  else if a < 2 ^ 32 then (32 * m + 26) :: bytesBE 4 a else (32 * m + 27) :: bytesBE 8 a

/-- A byte string as CBOR. -/
def cborBytes (l : List Nat) : List Nat := cborLead 2 l.length ++ l

/-- The protected header of a signer: ES384 (−35) for the identity key of slot 1, ML-DSA-65 (−49) for that of slot 2 (R467). -/
def signerHeader (slot : Nat) : List Nat := [0xA1, 0x01, 0x38, if slot = 1 then 34 else 48]

/-- What a signer of a COSE_Sign object signs: its Sig_structure (RFC 9052) of the body's and the signer's protected headers, without external data. -/
def sigStructure (body signer pay : List Nat) : List Nat :=
  [0x85, 0x69, 0x53, 0x69, 0x67, 0x6E, 0x61, 0x74, 0x75, 0x72, 0x65] ++ cborBytes body ++ cborBytes signer ++ [0x40] ++ cborBytes pay

/-- One COSE_Signature by the identity key of `slot`, which `sign` makes. -/
def coseSignature (sign : Nat → List Nat → List Nat) (slot : Nat) (pay : List Nat) : List Nat :=
  [0x83] ++ cborBytes (signerHeader slot) ++ [0xA0] ++ cborBytes (sign slot (sigStructure [] (signerHeader slot) pay))

/-- A COSE_Sign object (tag 98) over `pay` with the identity keys of slots 1 and 2 as signers (R467, R488). -/
def coseSign (sign : Nat → List Nat → List Nat) (pay : List Nat) : List Nat :=
  [0xD8, 0x62, 0x84, 0x40, 0xA0] ++ cborBytes pay ++ [0x82] ++ coseSignature sign 1 pay ++ coseSignature sign 2 pay

/-! ### Claims (R468) -/

/-- The scope of a token: a UID, or a group number. -/
inductive Scope where
  | uid (l : List Nat)
  | group (n : Nat)
  deriving DecidableEq, Repr

/-- The claims of a token. -/
structure Claims where
  role : Nat
  scope : Scope
  rights : Nat
  nbf : Nat
  exp : Nat
  ctr : Nat
  tid : List Nat
  holder : List Nat
  modes : Nat
  floor : Bool
  nonce : Option (List Nat)
  deriving DecidableEq, Repr

/-- An unsigned claim. -/
def uintOf : Option Cbor → Option Nat
  | some (.uint n) => some n
  | _ => none

/-- A byte-string claim of `n` bytes. -/
def bytesOf (n : Nat) : Option Cbor → Option (List Nat)
  | some (.bytes l) => if l.length = n then some l else none
  | _ => none

/-- An optional claim: absent, or of its type. -/
def optClaim {α : Type} (f : Option Cbor → Option α) : Option Cbor → Option (Option α)
  | none => some none
  | some c => (f (some c)).map some

/-- A truth claim. -/
def boolOf : Option Cbor → Option Bool
  | some (.simple 21) => some true
  | some (.simple 20) => some false
  | _ => none

/-- The scope claim. -/
def scopeOf (c : Option Cbor) : Option Scope :=
  match c with
  | some (.bytes l) => if l.length = 16 then some (.uid l) else none
  | some (.uint n) => if 1 ≤ n ∧ n ≤ 0xFFFFFFFE then some (.group n) else none
  | _ => none

/-- A key that R468 gives. -/
def knownKey (c : Cbor) : Bool := match c with
  | .uint n => decide (1 ≤ n) && decide (n ≤ 12)
  | _ => false

/-- The claims of a payload: exactly those of R468, each of its type and range. -/
def claimsOf (m : List (Cbor × Cbor)) : Option Claims := do
  let u := fun k => uintOf (claim k m)
  let ver ← u 1
  let role ← u 2
  let scope ← scopeOf (claim 3 m)
  let rights ← u 4
  let nbf ← u 5
  let exp ← u 6
  let ctr ← u 7
  let tid ← bytesOf 8 (claim 8 m)
  let holder ← bytesOf 32 (claim 9 m)
  let modes ← optClaim uintOf (claim 10 m)
  let floor ← optClaim boolOf (claim 11 m)
  let nonce ← optClaim (bytesOf 32) (claim 12 m)
  let bound := rights.testBit 20 || rights.testBit 21
  if ver = 1 ∧ role ≤ 2 ∧ rights < 2 ^ 23 ∧ exp ≤ nbf + 31622400 ∧ (m.all fun p => knownKey p.1) ∧ (bound = true → nonce.isSome = true) then
    some ⟨role, scope, rights, nbf, exp, ctr, tid, holder, modes.getD 0xFF, floor.getD false, nonce⟩
  else none

/-- A signer of a COSE_Sign object: its algorithm's number (−1 − n), its protected header and its signature. -/
def signerOf (c : Cbor) : Option (Nat × List Nat × List Nat) := match c with
  | .arr [.bytes p, .map _, .bytes g] => match cbor p with
    | some (.map l) => match claim 1 (pairs l) with
      | some (.nint n) => some (n, p, g)
      | _ => none
    | _ => none
  | _ => none

/-- A COSE_Sign object with exactly the two signers of R467: the body's protected header, its unprotected header, the payload, and the protected header and
signature of the ES384 and of the ML-DSA-65 signer. -/
structure Cose where
  body : List Nat
  free : List (Cbor × Cbor)
  pay : List Nat
  ec : List Nat × List Nat
  ml : List Nat × List Nat

/-- The COSE_Sign object that an item is (R467). -/
def coseOf (c : Cbor) : Option Cose := match c with
  | .tag 98 (.arr [.bytes p, .map u, .bytes pay, .arr [a, b]]) => match signerOf a, signerOf b with
    | some (34, x), some (48, y) => some ⟨p, pairs u, pay, x, y⟩
    | some (48, y), some (34, x) => some ⟨p, pairs u, pay, x, y⟩
    | _, _ => none
  | _ => none

/-- Both signatures of a COSE_Sign object verify under the two public keys of `k` (R457, R467). -/
def Cose.verifies (c : Cose) (k : List Nat × List Nat) : Bool :=
  ecdsaVerify k.1 (sigStructure c.body c.ec.1 c.pay) c.ec.2 && Config.sigMl k.2 (sigStructure c.body c.ml.1 c.pay) c.ml.2

/-- The ES384 and ML-DSA-65 public keys of a key block (R459). -/
def blockKeys (b : List Nat) : List Nat × List Nat := (b.take 97, (b.drop 97).take 1952)

/-- The map that a payload holds. -/
def payMap (l : List Nat) : Option (List (Cbor × Cbor)) := match cbor l with
  | some (.map m) => some (pairs m)
  | _ => none

/-- A token as COSE_Sign object with its claims, or none where its size or form is wrong (R467, R470 check 1). -/
def tokenOf (t : List Nat) : Option (Cose × Claims) := do
  if t.length = 0 ∨ 8192 < t.length then none
  let c ← cbor t
  let c ← coseOf c
  let m ← payMap c.pay
  let k ← claimsOf m
  some (c, k)

/-- A token's claims. -/
def tokenClaims (t : List Nat) : Option Claims := (tokenOf t).map (·.2)

/-- The value of unprotected header label −65537 (R469). -/
def delegationLabel (c : Cose) : Option Cbor := (c.free.find? fun p => match p.1 with | .nint n => n == 65536 | _ => false).map (·.2)

/-- What a delegation record grants (R469): role, rights, nbf, exp, ctr and the delegate's two public keys. -/
structure Delegation where
  role : Nat
  rights : Nat
  nbf : Nat
  exp : Nat
  ctr : Nat
  keys : List Nat × List Nat

/-- The claims of a delegation record (R469): ver 1, role, rights, nbf, exp and ctr under the keys of R468, and the delegate's keys under 20 and 21. -/
def delegationOf (m : List (Cbor × Cbor)) : Option Delegation := do
  let u := fun k => uintOf (claim k m)
  let ver ← u 1
  let role ← u 2
  let rights ← u 4
  let nbf ← u 5
  let exp ← u 6
  let ctr ← u 7
  let ec ← bytesOf 97 (claim 20 m)
  let ml ← bytesOf 1952 (claim 21 m)
  if ver = 1 then some ⟨role, rights, nbf, exp, ctr, (ec, ml)⟩ else none

/-- The delegation that a token carries, where it stands under the root's keys (R469): label −65537 holds the delegate's key block and the record (the
arrangement is log entry 43's), the record is signed by the role root, and its keys are those of the block. -/
def delegated (root : List Nat × List Nat) (v : Cbor) : Option Delegation := do
  match v with
  | .arr [.bytes block, r] =>
    let c ← coseOf r
    let m ← payMap c.pay
    let d ← delegationOf m
    if c.verifies root && blockKeys block == d.keys && (delegationLabel c).isNone then some d else none
  | _ => none

/-- The issuer's public keys of a token under the role root of hash `h` with the role's floor (R469, R470 check 2): the root's own, or a delegate's whose
delegation covers the token; none where the issuer does not stand. -/
def issuerKeys (h : List Nat) (floor : Nat) (t : Cose) (k : Claims) : Option (List Nat × List Nat) :=
  let b := Config.keyBlock h
  if h.all (· == 0) || (sha384 b).take h.length != h then none
  else match delegationLabel t with
    | none => some (blockKeys b)
    | some v => match delegated (blockKeys b) v with
      | none => none
      | some d =>
        if d.role = k.role ∧ k.rights &&& d.rights = k.rights ∧ d.nbf ≤ k.nbf ∧ k.exp ≤ d.exp ∧ floor ≤ d.ctr then some d.keys else none

/-! ### The rights matrix (R474) -/

/-- How a role holds a right: not at all, in any mode, in FACTORY or SERVICE, in COMMISSION or SERVICE, in SERVICE, or for reading only. -/
inductive Qual where
  | none | any | f | c | s | read
  deriving DecidableEq, Repr

/-- The matrix of R474: maker, installer, operator for rights 0 to 22. -/
def rightsMatrix : List (Qual × Qual × Qual) :=
  [(.any, .any, .any), (.read, .none, .any), (.none, .none, .any), (.none, .c, .any), (.none, .c, .any), (.any, .any, .any)] ++
  [(.any, .any, .none), (.none, .any, .any), (.f, .c, .none), (.f, .any, .none), (.f, .c, .none), (.f, .none, .none)] ++
  [(.f, .none, .none), (.f, .c, .none), (.any, .any, .any), (.any, .any, .none), (.f, .s, .none), (.any, .none, .none)] ++
  [(.any, .none, .none), (.any, .any, .any), (.any, .none, .none), (.any, .none, .none), (.f, .none, .none)]

/-- How role `r` holds right `n`. -/
def roleQual (r n : Nat) : Qual :=
  match rightsMatrix[n]? with
  | Option.none => .none
  | some (m, i, o) => if r = 0 then m else if r = 1 then i else if r = 2 then o else .none

/-- The rights that role `r` may hold, as a bitmap. -/
def roleRights (r : Nat) : Nat := (List.range 23).foldl (fun x n => x + (if roleQual r n == .none then 0 else 2 ^ n)) 0

/-- The qualifier holds in mode `m`; `reads` says that the action only reads. -/
def Qual.holds (q : Qual) (m : Nat) (reads : Bool) : Bool :=
  match q with
  | .none => false
  | .any => true
  | .f => m == 0 || m == 6
  | .c => m == 1 || m == 6
  | .s => m == 6
  | .read => reads

/-- The code of a qualifier in SEC_PAGE_RIGHT (R497). -/
def Qual.code : Qual → Nat
  | .any => 0 | .f => 1 | .c => 2 | .s => 3 | .none => 4 | .read => 5

/-- A code of SEC_PAGE_RIGHT lets a host write through in mode `m` (R497: READ refuses every write, 6 and 7 act as 4). -/
def qualWrites (code m : Nat) : Bool :=
  if code = 0 then true else if code = 1 then Qual.f.holds m false else if code = 2 then Qual.c.holds m false
  else if code = 3 then Qual.s.holds m false else false

/-! ### Images (R459) -/

/-- Longest payload of an image type. -/
def imageCap (type : Nat) : Nat := if type = 0 then 131072 else if type = 1 then 67108864 else 4194304

/-- Bytes `[a, b)` are all 0. -/
def zeros (l : List Nat) (a b : Nat) : Bool := ((l.take b).drop a).all (· == 0)

/-- A little-endian field of an image header. -/
def hdr (l : List Nat) (o n : Nat) : Nat := ofLE ((l.drop o).take n)

/-- The key block of an image. -/
def keyBlock (l : List Nat) : List Nat := (l.drop 192).take 2052

/-- An image stands by R460 but for the rollback level: `keyHash` is MAKER_FW_KEY_HASH, `cap` the bytes of its place. -/
def imageStands (type : Nat) (keyHash : List Nat) (cap : Nat) (l : List Nat) : Bool :=
  let k := keyBlock l; let n := hdr l 12 4; let m := l.take 192
  hdr l 0 4 == 0x4D49484C && hdr l 4 1 == type && hdr l 5 1 == 1 && (hdr l 24 4).testBit 0 && decide (n ≤ imageCap type) && decide (5696 + n ≤ cap) &&
  zeros l 28 32 && zeros l 128 192 && zeros l 2241 2244 && zeros l 5649 5696 &&
  (l.drop 80).take 48 == sha384 k && sha384 k == keyHash &&
  ecdsaVerify (blockKeys k).1 m ((l.drop 2244).take 96) && Config.sigMl (blockKeys k).2 m ((l.drop 2340).take 3309) &&
  (l.drop 32).take 48 == sha384 ((l.drop 5696).take n)

end Sys2Proof.Machine
end

