-- ==== Sys2Proof/Machine/Secure.lean ====
section
/-! DEFINITION. SEC: random numbers, one-time-programmable memory, key slots, the audit log, grant tokens, the host grant, debug access, tamper
evidence and QUARANTINE (R449 to R502). -/

namespace Sys2Proof.Machine

/-- Update SEC. -/
def State.setSec (s : State) (f : SecSt → SecSt) : State := { s with sec := f s.sec }

/-- Update what is non-volatile. -/
def State.setNv (s : State) (f : NvSt → NvSt) : State := { s with nv := f s.nv }

/-! ### Random numbers (R458) -/

/-- The DRBG answers: its health tests have passed. -/
def rngOk (s : State) : Bool := s.rb R.SEC_STATUS 2

/-- A random number below 2^256 from the CTR_DRBG (R457, R458), whose seed is a free value. -/
def draw (s : State) : Nat × State :=
  let g := drbgGenerate s.sec.drbg
  (ofBE g.1, s.setSec fun x => { x with draws := x.draws + 1, drbg := g.2 })

/-- Draw a new 32-byte nonce into the eight registers from `a` (R478, R491); without a seeded DRBG the nonce stays. -/
def newNonce (a : Nat) (s : State) : State :=
  if !rngOk s then s else
  let (v, s) := draw s
  s.wrWords a (wordsOf (bytesLE 32 v))

/-- The 32 bytes of a challenge. -/
def nonceAt (a : Nat) (s : State) : List Nat := (List.range 8).flatMap fun k => bytesLE 4 (s.rd (a + 4 * k)).toNat

/-- The DRBG reseeds once 2^20 requests have been made or a failed test left it unseeded (R458): its seed material, what the derivation function makes of the
noise, is a free value (log entry 191). -/
def drbgReseed (good : Bool) (s : State) : State :=
  if s.sec.draws < 2 ^ 20 ∧ rngOk s then s
  else if good then
    let (v, s) := s.fresh
    (s.wb R.SEC_STATUS 2 true).setSec fun x => { x with draws := 0, drbg := drbgUpdate (bytesBE 48 (v % 2 ^ 384)) x.drbg }
  else raise Src.RNG_FAIL ((s.wb R.SEC_STATUS 2 false).irq P.SEC0 3)

/-! ### The audit log (R482 to R487) -/

/-- Time known: TIME_TGEN_STAT.VALID. -/
def ttValid (s : State) : Bool := s.rb R.TIME_TGEN_STAT 4

/-- The time floor in TT seconds (R471). -/
def timeFloor (s : State) : Nat := (s.rd R.SEC_TIME_FLOOR_LO).toNat + 2 ^ 32 * (s.rd R.SEC_TIME_FLOOR_HI).toNat

/-- "Now" in TT seconds (R471). -/
def secNow (s : State) : Nat := if ttValid s then s.ttNs s.now / 10 ^ 9 else timeFloor s

/-- TIME of a record (R482). -/
def auditTime (s : State) : Nat := if ttValid s then s.ttNs s.now else 2 ^ 63 + timeFloor s * 10 ^ 9 % 2 ^ 63

/-- H_(−1): SHA-256 of the string and the UID (R483). -/
def auditSeed (s : State) : List Nat := sha256 ([0x4C, 0x48, 0x34, 0x32, 0x30, 0x30, 0x20, 0x61, 0x75, 0x64, 0x69, 0x74] ++ s.nv.uid)

/-- H of the newest record; before the first, H_(−1) (R483). -/
def auditHead (s : State) : List Nat := if s.rd R.SEC_AUDIT_SEQ = 0#32 then auditSeed s else nonceAt (R.SEC_AUDIT_HEAD 0) s

/-- Show the records waiting (R499). -/
def showAudit (s : State) : State := s.wf R.SEC_AUDIT_STAT 24 16 s.sec.audit.length

/-- The oldest waiting record becomes a journal transaction where none of AUDIT's is under way (R486). -/
def auditPump (s : State) : State :=
  let mine := fun (t : Tx) => t.owner == 1
  if s.nvm.queue.any mine || s.nvm.redo.any mine then showAudit s else
  match s.sec.audit with
  | [] => showAudit s
  | r :: _ =>
    let o := (s.rd (R.NVM_REGION_BASE 8)).toNat + 48 * (r.seq % 65536)
    showAudit (txSubmit 1 false o r.bytes none (.audit (r.seq + 1) r.hash) s).2

/-- Append a record to the queue (R482, R483, R487). -/
def auditPush (actor channel event : Nat) (tid : List Nat) (a b : Nat) (s : State) : State :=
  let seq := (s.rd R.SEC_AUDIT_SEQ).toNat
  let r := bytesLE 4 seq ++ bytesLE 8 (auditTime s) ++ [actor, channel] ++ bytesLE 2 event ++ (tid ++ List.replicate 8 0).take 8 ++ bytesLE 4 a ++ bytesLE 4 b
  let h := sha256 (auditHead s ++ r)
  let s := s.setSec fun x => { x with audit := x.audit ++ [⟨seq, r ++ h.take 16, h⟩] }
  let s := (s.wr R.SEC_AUDIT_SEQ (word (seq + 1))).wrWords (R.SEC_AUDIT_HEAD 0) (wordsOf h)
  let wraps := decide (65536 ≤ seq) && decide ((s.rd R.SEC_AUDIT_ACKED).toNat < seq - 65536) && !s.rb R.SEC_AUDIT_CFG 0
  if wraps then raise Src.AUDIT_WRAP (s.irq P.SEC4 0) else s

/-- The queue is full (R486). -/
def auditFull (s : State) : Bool := decide (256 ≤ s.sec.audit.length)

/-- With room again, one LOST record tells what was not recorded (R486). -/
def auditLost (s : State) : State :=
  let n := s.rf R.SEC_AUDIT_STAT 15 0
  if n = 0 ∨ auditFull s then s else auditPush 3 3 0x10 [] n 0 (s.wf R.SEC_AUDIT_STAT 15 0 0)

/-- Write a record (R485): counted as lost where the queue is full. -/
def auditAdd (actor channel event : Nat) (tid : List Nat) (a b : Nat) (s : State) : State :=
  if auditFull s then (s.wf R.SEC_AUDIT_STAT 15 0 (satAdd 16 (s.rf R.SEC_AUDIT_STAT 15 0) 1)).irq P.SEC4 2
  else auditPump (auditPush actor channel event tid a b (auditLost s))

/-- The queue moves on (R486). -/
def auditStep (s : State) : State := auditPump (auditLost s)

/-- Records not acknowledged (R487): those above ACKED, the highest SEQ acknowledged (log entry 92). -/
def auditUnacked (s : State) : Nat := (s.rd R.SEC_AUDIT_SEQ).toNat - 1 - (s.rd R.SEC_AUDIT_ACKED).toNat

/-- SAFE answers BUSY to an action that needs a record (R486, R487): `exempt` marks the exceptions of R486, `role` who asks. -/
def auditBusy (role : Nat) (exempt : Bool) (s : State) : Bool :=
  !exempt && (auditFull s || (s.rb R.SEC_AUDIT_CFG 0 && decide (65536 ≤ auditUnacked s) && (role == 1 || role == 2)))

/-- AUDIT_ACK (R488) for `role` under token `tid`: ACKED rises to the smaller of the argument and the highest TO exported. -/
def auditAck (role : Nat) (tid : List Nat) (seq : Nat) (s : State) : State :=
  let v := max (s.rd R.SEC_AUDIT_ACKED).toNat (min seq s.sec.exported)
  auditAdd role 0 0x0E tid v 0 (countersTx (.acked v) (s.wr R.SEC_AUDIT_ACKED (word v)))

/-- The stored record `n`: from the queue, or its slot in the audit region. -/
def auditRecord (n : Nat) (s : State) : List Nat :=
  match s.sec.audit.find? fun r => r.seq == n with
  | some r => r.bytes
  | none => s.seeBytes (0x20000000 + (s.rd (R.NVM_REGION_BASE 8)).toNat + 48 * (n % 65536)) 48

/-- H_n (R483): the newest's is kept in full; another's is recomputed from H_(-1) while every record is still stored, and is otherwise free, since
the stored records hold only 16 bytes of each H (log entry 44). `n` counts the records up to it. -/
def auditHash (n : Nat) (s : State) : List Nat × State :=
  let next := (s.rd R.SEC_AUDIT_SEQ).toNat
  if n = next then (auditHead s, s)
  else if next ≤ 65536 then
    let h0 := auditSeed s
    ((List.range n).foldl (fun h k => sha256 (h ++ (auditRecord k s).take 32)) h0, s)
  else
    let (v, s) := s.fresh
    (bytesBE 32 (v % 2 ^ 256), s)

/-- The CBOR map of an export statement (R488). -/
def exportMap (uid : List Nat) (from_ to_ : Nat) (h0 h1 : List Nat) (tt missing : Nat) : List Nat :=
  cborLead 5 7 ++ [1] ++ cborBytes uid ++ [2] ++ cborLead 0 from_ ++ [3] ++ cborLead 0 to_ ++ [4] ++ cborBytes h0 ++ [5] ++ cborBytes h1 ++
    [6] ++ cborLead 0 tt ++ [7] ++ cborLead 0 missing

/-- The signature by the identity key of slot 1 (ES384) or 2 (ML-DSA-65) (R451, R455). -/
def idSign (s : State) (slot : Nat) (msg : List Nat) : List Nat := if slot = 1 then Config.signEc (s.slotKey 1) msg else Config.signMl (s.slotKey 2) msg

/-- AUDIT_READ (R488) for `role` under token `tid`: the records of the range still stored and the export statement, a COSE_Sign object by the identity
keys. -/
def auditExport (role : Nat) (tid : List Nat) (from_ to_ : Nat) (s : State) : List Nat × State :=
  let next := (s.rd R.SEC_AUDIT_SEQ).toNat
  let oldest := next - 65536
  let lo := max from_ oldest; let hi := min (to_ + 1) next
  let recs := (List.range (hi - lo)).flatMap fun k => auditRecord (lo + k) s
  let (h0, s) := auditHash lo s
  let (h1, s) := auditHash (max lo hi) s
  let stmt := exportMap s.nv.uid from_ to_ h0 h1 (secNow s) (oldest - from_)
  let s := s.setSec fun x => { x with exported := max x.exported (hi - 1) }
  (recs ++ coseSign (idSign s) stmt, auditAdd role 0 0x0D tid from_ to_ s)

/-! ### One-time-programmable memory (R453, R454, R466, R502) -/

/-- OTP may be programmed (R466): junction at 105 degrees or less, VDD_NVM in its range. -/
def otpReady (s : State) : Bool := decide (thmTj s ≤ 105 * 256) && s.rb R.NVM_WIN_STAT 2

/-- The lifecycle lets OTP bit `b` be programmed (R453, R454): in BLANK and FACTORY every field but the UID and what is reserved (log entry 193). -/
def otpMay (lc b : Nat) : Bool :=
  let counters := decide (928 ≤ b) && decide (b < 1376)
  if lc = 3 then false
  else if lc = 2 then counters || (decide (912 ≤ b) && decide (b < 920))
  else counters || (decide (128 ≤ b) && decide (b < 896)) || (decide (896 ≤ b) && decide (b < 920)) || (decide (1376 ≤ b) && decide (b < 2496))

/-- Program the 1 bits of `v` into word `w`. -/
def otpBlow (w : Nat) (v : Word) (s : State) : State :=
  otpShow (s.setNv fun n => { n with otp := sset 0#32 w (n.otpWord w ||| v) n.otp })

/-- Entry to RETIRED (R454): slots 1 to 63, the key region with the certificates, and the helper data are erased. -/
def retire (s : State) : State :=
  let s := (s.setNv fun n => { n with slots := [], certs := [] }).setSec fun x => { x with keys := x.keys.filter fun p => p.1 == 0 }
  let s := s.over ((List.range 63).map (· + 1)) fun s k => s.wr (R.SEC_KEY_META k) 0#32
  let base := (s.rd (R.NVM_REGION_BASE 1)).toNat
  nvPut base (List.replicate (s.rd (R.NVM_REGION_SIZE 1)).toNat 0) s

/-- The field of R453 that OTP word `w` lies in: its place in that table, from 0 UID. -/
def otpField (w : Nat) : Nat := ([4, 16, 28, 29, 31, 39, 43, 45, 46, 78].filter fun x => decide (x ≤ w)).length

/-- First bit and length of a field of R453. -/
def otpBits (f : Nat) : Nat × Nat :=
  [(0, 128), (128, 384), (512, 384), (896, 32), (928, 64), (992, 256), (1248, 128), (1376, 64), (1440, 32), (1472, 1024)].getD f (2496, 13888)

/-- The level of a field for its record (R484): the lifecycle's state, otherwise the number of 1 bits (log entry 90). -/
def otpLevel (f : Nat) (s : State) : Nat := if f = 3 then s.nv.lifecycle else s.nv.otpCount (otpBits f).1 (otpBits f).2

/-- The record of a programmed field (R484): its place in the table of R453 and its new level. -/
def otpNote (f : Nat) (s : State) : State := auditAdd 3 3 0x12 [] f (otpLevel f s) s

/-- The effect of a write to SEC_OTP_CMD; `good` says that the programmed word reads back (R502). With the audit queue full SAFE does not make it (R486, log
entry 194). -/
def otpCmd (good : Bool) (_ w : Word) (s : State) : State :=
  if !bitOf w 31 || auditFull s then s else
  let n := bitsOf w 24 16; let v := s.rd R.SEC_OTP_DATA; let lc := s.nv.lifecycle
  let res := fun (r : Nat) (s : State) => s.wr R.SEC_OTP_STAT (word r)
  if !(List.range 32).all fun k => !bitOf v k || otpMay lc (32 * n + k) then res 1 s
  else if !otpReady s then res 2 s
  else if !good then res 3 s
  else
    let s := res 0 (otpBlow n v s)
    otpNote (otpField n) (if lc ≠ 3 ∧ s.nv.lifecycle = 3 then retire s else s)

/-- First bit and length of a rollback counter: 0 SAFE, 1 MAIN, 2 BYSTER (R453). -/
def rollbackField (k : Nat) : Nat × Nat := if k = 0 then (928, 64) else if k = 1 then (992, 256) else (1248, 128)

/-- The level of a rollback counter. -/
def rollbackLevel (k : Nat) (s : State) : Nat := s.nv.otpCount (rollbackField k).1 (rollbackField k).2

/-- Blow a thermometer code up to a level. -/
def otpRaiseTo (k level : Nat) (s : State) : State :=
  let f := rollbackField k
  s.over (List.range (min level f.2)) fun s j => otpBlow ((f.1 + j) / 32) (word (2 ^ ((f.1 + j) % 32))) s

/-- Raise a rollback counter (R465, R466): at once, or kept pending in eMRAM; not in RETIRED (R454). -/
def otpRaise (k level : Nat) (s : State) : State :=
  if level ≤ rollbackLevel k s || s.nv.lifecycle == 3 then s
  else if otpReady s then otpNote (4 + k) (otpRaiseTo k level s)
  else
    let l := s.nv.raises ++ [(k, level)]
    (countersTx (.raises l) (s.setNv fun n => { n with raises := l })).wb R.SEC_UPD_STAT 9 true

/-- Every 60 s SAFE retries pending raises (R466). -/
def otpRetry (s : State) : State :=
  if s.nv.raises.isEmpty || decide (s.now < s.sec.otpAt + 60 * 10 ^ 9) then s else
  let s := s.setSec fun x => { x with otpAt := s.now }
  if !otpReady s || s.nv.lifecycle == 3 then s else
  let s := s.over s.nv.raises fun s p => otpNote (4 + p.1) (otpRaiseTo p.1 p.2 s)
  (countersTx (.raises []) (s.setNv fun n => { n with raises := [] })).wb R.SEC_UPD_STAT 9 false

/-! ### Key slots (R455, R456, R496) -/

/-- SEC_KEY_META of a valid slot. -/
def keyMeta (type usage origin : Nat) : Word := word (2 ^ 31 + type * 2 ^ 24 + usage * 65536 + origin * 256)

/-- Slots that hold installed keys. -/
def installable (n : Nat) : Bool := (decide (8 ≤ n) && decide (n ≤ 15)) || decide (48 ≤ n)

/-- Keep a slot in the eMRAM key region, or erase it there (R456): a transaction of SEC. -/
def slotTx (n : Nat) (c : Option (Nat × Word)) (s : State) : State :=
  (txSubmit 0 false (s.rd (R.NVM_REGION_BASE 1)).toNat [] none (.slot n c) s).2

/-! ### Device certificates (R452) -/

/-- An upper-case hexadecimal digit in ASCII. -/
def hexDigit (n : Nat) : Nat := if n < 10 then 48 + n else 55 + n

/-- The attribute serialNumber (OID 2.5.4.5) as a PrintableString of the UID's 32 hexadecimal digits, in DER. -/
def serialDer (uid : List Nat) : List Nat := [0x06, 0x03, 0x55, 0x04, 0x05, 0x13, 0x20] ++ uid.flatMap fun b => [hexDigit (b / 16 % 16), hexDigit (b % 16)]

/-- A certificate carries this device's UID in its subjectSerialNumber. -/
def certNames (uid der : List Nat) : Bool :=
  let p := serialDer uid
  (List.range der.length).any fun k => (der.drop k).take p.length == p

/-- A device certificate is installed into the eMRAM key region (R452): over the ES384 key (0) or the ML-DSA-65 key (1). One that does not carry the UID is
refused. -/
def certInstall (k : Nat) (der : List Nat) (s : State) : Nat × State :=
  if !certNames s.nv.uid der then (2, s)
  else (0, (txSubmit 0 false (s.rd (R.NVM_REGION_BASE 1)).toNat [] none (.cert k der) s).2)

/-- The maker writes the region directory (R544): a transaction of owner SEC with the 256 entry bytes and their CRC; from DEPLOYED onward never. -/
def dirInstall (l : List Nat) (s : State) : Nat × State :=
  if 2 ≤ s.nv.lifecycle then (2, s) else
  let r := txSubmit 0 false 0 (l ++ bytesLE 4 (crc32c l)) none .none s
  (if r.1 = 0 then 0 else 2, r.2)

/-- The device can prove its identity (R450, R456, R490): neither the DRK nor the key region failed at boot. -/
def identityStands (s : State) : Bool := s.rb R.SEC_STATUS 0 && s.rb R.SEC_STATUS 1

/-- Result of SEC_KEY_CMD. -/
def keyResult (r : Nat) (s : State) : State := s.wr R.SEC_KEY_STAT (word (s.tick16 * 65536 + r))

/-- Slot `n` is locked. -/
def keyLocked (n : Nat) (s : State) : Bool := s.rb (R.SEC_KEY_META n) 30

/-- The content of slot `n` becomes `l`, or goes where `l` is empty (R455). -/
def keyPut (n : Nat) (l : List Nat) (s : State) : State :=
  s.setSec fun x => { x with keys := (x.keys.filter fun p => p.1 != n) ++ (if l.isEmpty then [] else [(n, l)]) }

/-- SEC_KEY_CMD GENERATE (R455, R496): only handshake slots hold generated keys. -/
def keyGenerate (n : Nat) (s : State) : State :=
  if n < 16 ∨ 48 ≤ n then keyResult 1 s
  else if keyLocked n s then keyResult 2 s
  else if !rngOk s then keyResult 4 s
  else
    let (v, s) := draw s
    auditAdd 3 3 0x11 [] n 1 (keyResult 0 (keyPut n (bytesBE 32 v) (s.wr (R.SEC_KEY_META n) (keyMeta 5 1 2))))

/-- SEC_KEY_CMD INSTALL (R455, R496): `good` says that the wrapped blob opens, `mac` that it holds an HMAC key. -/
def keyInstall (n : Nat) (good mac : Bool) (s : State) : State :=
  if !installable n then keyResult 1 s
  else if keyLocked n s then keyResult 2 s
  else if !good then keyResult 3 s
  else
    let m := if n < 16 then keyMeta 0 0x0C 3 else if mac then keyMeta 1 0x10 3 else keyMeta 0 0x0C 3
    let (v, s) := s.fresh
    auditAdd 3 3 0x11 [] n 2 (keyResult 0 (slotTx n (some (v, m)) (s.wr (R.SEC_KEY_META n) m)))

/-- SEC_KEY_CMD ERASE (R496): slots 0 to 7 are not erased. -/
def keyErase (n : Nat) (s : State) : State :=
  if n < 8 then keyResult 1 s
  else if keyLocked n s then keyResult 2 s
  else
    let s := keyPut n [] (s.wr (R.SEC_KEY_META n) 0#32)
    auditAdd 3 3 0x11 [] n 3 (keyResult 0 (if installable n then slotTx n none s else s))

/-- SEC_KEY_CMD LOCK (R496). -/
def keyLock (n : Nat) (s : State) : State :=
  if keyLocked n s then keyResult 2 s else auditAdd 3 3 0x11 [] n 4 (keyResult 0 (s.wb (R.SEC_KEY_META n) 30 true))

/-- The effect of a write to SEC_KEY_CMD; other OP values do nothing. With the audit queue full SAFE does not make it (R486, log entry 194). -/
def keyCmd (good mac : Bool) (_ w : Word) (s : State) : State :=
  if auditFull s then s else
  let n := bitsOf w 5 0
  match bitsOf w 31 28 with
  | 1 => keyGenerate n s
  | 2 => keyInstall n good mac s
  | 3 => keyErase n s
  | 4 => keyLock n s
  | _ => s

/-! ### Modes: the change itself (R577) -/

/-- SYS_MODE changes (R577, R580): mode, LAMP, FORCED and the tick; IRQ bit 3; the audit record, naming actor, channel and tid in `who` (R482); at entry to
DARK the time floor is saved (R471). -/
def setMode (mode lamp : Nat) (forced : Bool) (who : Nat × Nat × List Nat) (s : State) : State :=
  let old := s.rf R.SYS_MODE 3 0
  let s := ((s.wf R.SYS_MODE 3 0 mode).wf R.SYS_MODE 5 4 lamp).wb R.SYS_MODE 8 forced
  let s := (s.wf R.SYS_MODE 31 16 s.tick16).irq P.SYS 3
  let s := auditAdd who.1 who.2.1 7 who.2.2 old mode s
  let s := if mode = 2 ∨ mode = 3 then { s with upd := { s.upd with reached := true } } else s
  if mode = 5 then countersTx (.timeFloor (timeFloor s)) s else s

/-- Every hour the floor is saved (R471). -/
def timeFloorSave (s : State) : State := countersTx (.timeFloor (timeFloor s)) s

/-- The floor rises with TT while it is valid (R471). -/
def floorTick (s : State) : State :=
  let v := s.ttNs s.now / 10 ^ 9
  if ttValid s && decide (timeFloor s < v) then (s.wr R.SEC_TIME_FLOOR_LO (word v)).wr R.SEC_TIME_FLOOR_HI (word (v / 2 ^ 32)) else s

/-! ### Places of images (R463, R543, R559) -/

/-- The copy of an image type in use: MAIN slot, SAFE copy, RECOVERY copy. -/
def copyInUse (type : Nat) (s : State) : Nat :=
  if type = 1 then s.rf R.SEC_BOOT_STAT 0 0 else if type = 0 then s.rf R.SEC_BOOT_STAT 8 8 else s.nv.active / 4 % 2

/-- First address and size of copy `k` of an image type. -/
def imagePlace (type k : Nat) (s : State) : Nat × Nat :=
  if type = 1 then let m := mainSlot s k; (0x60000000 + m.1, m.2)
  else
    let r := (if type = 0 then 4 else 6) + k
    (0x20000000 + (s.rd (R.NVM_REGION_BASE r)).toNat, (s.rd (R.NVM_REGION_SIZE r)).toNat)

/-- The rollback counter of an image type: 0 SAFE, 1 MAIN (R460). -/
def imageCounter (type : Nat) : Nat := if type = 1 then 1 else 0

/-- The image in copy `k` is accepted (R460), with its ROLLBACK and VERSION. -/
def imageCheck (type k : Nat) (s : State) : Bool × Nat × Nat :=
  let p := imagePlace type k s
  let h := s.seeBytes p.1 5696
  let n := min (hdr h 12 4) (imageCap type)
  let l := h ++ s.seeBytes (p.1 + 5696) n
  let roll := hdr h 6 2
  (imageStands type (s.nv.otpBytes 128 48) p.2 l && decide (rollbackLevel (imageCounter type) s ≤ roll), roll, hdr h 8 4)

/-- Index of an image in SEC_IMG_VER (R498). -/
def imageIndex (type k : Nat) : Nat := if type = 1 then k else if type = 0 then 2 + k else 4

/-- A rejected image (R460): its type and slot are recorded. -/
def imageFail (type k : Nat) (s : State) : State := raise Src.IMAGE_VERIFY_FAIL (s.setSec fun x => { x with reject := some (type, k) })

/-- The copy to boot first (R461, R465): the armed trial's, the one in TRIAL, or the one in use. -/
def bootCopy (type : Nat) (s : State) : Nat :=
  let b := if type = 1 then 0 else if type = 0 then 1 else 2
  let used := s.nv.active / 2 ^ b % 2
  if s.nv.trial = 4 * type + 1 ∨ (s.rf R.SEC_UPD_STAT 2 0 = 4 ∧ s.upd.type = type) then 1 - used else used

/-- An accepted image is loaded (R459, R461): its payload to LOAD, and ENTRY becomes the reset vector of its first hart (log entry 195). -/
def imageLoad (type k : Nat) (s : State) : State :=
  let p := (imagePlace type k s).1
  let h := s.seeBytes p 32
  let s := safePut (hdr h 16 4) (s.seeBytes (p + 5696) (min (hdr h 12 4) (imageCap type))) s
  s.wr (R.CPU_RESET_VEC (if type = 0 then 1 else 0) 0) (word (hdr h 20 4 / 2 * 2))

/-! ### QUARANTINE (R489 to R492) -/

/-- The device is in QUARANTINE. -/
def quarantined (s : State) : Bool := s.rf R.SYS_MODE 3 0 == 7

/-- LAMP of QUARANTINE by cause (R489). -/
def quarantineLamp (cause : Nat) : Nat := if cause = 1 then 0 else 2

/-- The RECOVERY copy that stands, the one to boot first before the other (R461). -/
def recoveryCopy (s : State) : Option Nat :=
  let k := bootCopy 2 s
  if (imageCheck 2 k s).1 then some k else if (imageCheck 2 (1 - k) s).1 then some (1 - k) else none

/-- SAFE loads the RECOVERY image, which runs on APU hart 0 and NETE (R461, R490); without an accepted copy nothing is released. -/
def runRecovery (s : State) : State :=
  match recoveryCopy s with
  | none => let k := bootCopy 2 s; imageFail 2 (1 - k) (imageFail 2 k s)
  | some k =>
  let s := if k = bootCopy 2 s then s else imageFail 2 (1 - k) s
  let s := imageLoad 2 k (s.wr (R.SEC_IMG_VER 4) (word (imageCheck 2 k s).2.2))
  let s := (s.wr (R.CPU_HART_EN 0) 1#32).wr (R.CPU_HART_EN 2) 0#32
  let s := (s.wr (R.CPU_HART_STAT 0) 1#32).wr (R.CPU_HART_STAT 2) 0#32
  ((s.wr (R.CPU_HART_EN 3) 3#32).wr (R.CPU_HART_STAT 3) 3#32).wb R.SEC_BOOT_STAT 4 true

/-- Enter QUARANTINE with a cause (R489): kept in eMRAM, recorded, and shown. A device already there keeps its cause. -/
def quarantineEnter (cause : Nat) (s : State) : State :=
  if quarantined s then s else
  let s := ((s.wb R.SEC_STATUS 4 true).wf R.SEC_STATUS 11 8 cause).irq P.SEC0 0
  let s := countersTx (.quarantine cause) (auditAdd 3 3 0x0C [] cause 0 s)
  let s := setMode 7 (quarantineLamp cause) false (3, 3, []) { s with sys := { s.sys with pend := none, forceFb := false } }
  if cause = 1 then s else runRecovery s

/-- TAMPER_CFG (R453, R590): the GPIO of the tamper input where it is enabled. -/
def tamperPin (s : State) : Option Nat :=
  let c := s.nv.otpBits 1376 8
  if c.testBit 0 && decide (c / 4 % 64 < 16) then some (c / 4 % 64) else none

/-- A sample of the tamper input at level `l` (R492): three asserted samples in a row are evidence. -/
def tamperSample (l : Bool) (s : State) : State :=
  match tamperPin s with
  | none => s
  | some g =>
    let pol := (s.nv.otpBits 1376 8).testBit 1
    if !s.domainOn 0 then s
    else if l != pol then s.setSec fun x => { x with tamper := 0 }
    else
      let n := s.sec.tamper + 1
      let s := s.setSec fun x => { x with tamper := n }
      if n = 3 then quarantineEnter 6 (auditAdd 3 3 0x0F [] g 0 (raise Src.TAMPER (s.irq P.SEC0 1))) else s

/-! ### Grant tokens (R470 to R473) -/

/-- What a token is presented for: a session with its client's key hash, a host grant, a debug unlock, leaving QUARANTINE. -/
inductive TokenUse where
  | session (client : List Nat)
  | host
  | debug
  | recovery
  deriving DecidableEq, Repr

/-- The challenge of a nonce-bound use. -/
def challenge (u : TokenUse) (s : State) : Option (List Nat) := match u with
  | .session _ => none
  | .host => some (nonceAt (R.SEC_HOST_CHAL 0) s)
  | .debug => some (nonceAt (R.SEC_DBG_CHAL 0) s)
  | .recovery => some (nonceAt (R.SEC_RCV_CHAL 0) s)

/-- The floor of role `r` (R472). -/
def floorOf (r : Nat) (s : State) : Nat := (s.rd (R.SEC_FLOOR_LO r)).toNat + 2 ^ 32 * (s.rd (R.SEC_FLOOR_HI r)).toNat

/-- The hash of the role root (R470 check 2): MAKER_ROOT_HASH, or SEC_ROOT_HASH. -/
def rootHash (r : Nat) (s : State) : List Nat := if r = 0 then s.nv.otpBytes 512 48 else nonceAt (R.SEC_ROOT_HASH r 0) s

/-- The scope covers this device. -/
def inScope (c : Scope) (s : State) : Bool := match c with
  | .uid l => l == s.nv.uid
  | .group g => (List.range 8).any fun k => (s.rd (R.SEC_GROUPS k)).toNat == g

/-- The reason for which a token is rejected, 0 where it is accepted (R470), and its claims. -/
def verifyToken (tok : List Nat) (u : TokenUse) (s : State) : Nat × Option Claims :=
  match tokenOf tok with
  | none => (1, none)
  | some (t, c) =>
    let keys := issuerKeys (rootHash c.role s) (floorOf c.role s) t c
    let signed := match keys with
      | some k => t.verifies k
      | none => false
    let nonceBound := c.nonce.isSome && c.holder == List.replicate 32 0
    let held := match u with
      | .session client => c.holder == client
      | _ => nonceBound && c.nonce == challenge u s
    let r :=
      if keys.isNone then 2
      else if !signed then 3
      else if !inScope c.scope s then 4
      else if c.rights &&& roleRights c.role != c.rights || (quarantined s && c.role != 0) then 5
      else if !nonceBound && !(decide (c.nbf ≤ secNow s + 300) && decide (secNow s ≤ c.exp)) then 6
      else if c.ctr < floorOf c.role s then 7
      else if !held then 8 else 0
    (r, some c)

/-- Count a verification in SEC_TOK_STAT. -/
def tokResult (r : Nat) (s : State) : State :=
  let a := R.SEC_TOK_STAT
  let s := s.wf a 3 0 r
  if r = 0 then s.wf a 31 16 (satAdd 16 (s.rf a 31 16) 1) else s.wf a 15 4 (satAdd 12 (s.rf a 15 4) 1)

/-- IRQ GRANT: SEC_HOST_GRANT changes (R617). -/
def setGrant (v : Word) (s : State) : State := if s.rd R.SEC_HOST_GRANT = v then s else (s.wr R.SEC_HOST_GRANT v).irq P.HOST 2

/-- Write the SUMMARY records of actions under CONTENT and OBJECTS (R485). -/
def sumsOut (actor channel : Nat) (tid : List Nat) (l : List (Nat × Nat × Nat)) (s : State) : State :=
  s.over l fun s p => auditAdd actor channel 6 tid p.1 p.2.2 s

/-- A host grant is held. -/
def hostGranted (s : State) : Bool := s.rf R.SEC_HOST_GRANT 2 0 != 7

/-- The host grant ends (R477): its summaries are written and a new nonce is drawn (R478). -/
def endGrant (s : State) : State :=
  if !hostGranted s then s else
  let s := sumsOut (s.rf R.SEC_HOST_GRANT 2 0) 1 s.sec.hostTid s.sec.hostSums s
  newNonce (R.SEC_HOST_CHAL 0) (setGrant 7#32 (s.setSec fun x => { x with hostSums := [] }))

/-- The grant reaches its exp (R477). -/
def grantExpiry (s : State) : State := if hostGranted s && decide (s.sec.hostExp < secNow s) then endGrant s else s

/-- First byte of session entry `i` (R479). -/
def sessAddr (s : State) (i : Nat) : Nat := (s.rd R.NET_SESS_BASE).toNat + 64 * i

/-- The records of what session `i` was to have summarised are written, under the token it holds (R482, R485). -/
def flushSums (i : Nat) (s : State) : State :=
  match s.ses.sess.find? fun p => p.1 == i with
  | none => s
  | some (_, x) =>
    let a := sessAddr s i
    let s := { s with ses := { s.ses with sess := s.ses.sess.map fun p => if p.1 = i then (i, { p.2 with sums := [] }) else p } }
    sumsOut (s.ldN a / 8 % 8) 0 (s.ldBytes (a + 36) 8) x.sums s

/-- Session `i`, where its role's floor has risen above the cached ctr, loses its rights at once (R473), in its entry (R479). -/
def dropRights (r v : Nat) (s : State) (i : Nat) : State :=
  let a := sessAddr s i
  if s.ldN a / 8 % 8 = r ∧ s.ldLE (a + 44) 8 < v then
    let s := flushSums i s
    let l := [s.ldN a / 64 * 64 + s.ldN a % 8 + 56] ++ s.ldBytes (a + 1) 23 ++ [0, 0, 0, 0] ++ s.ldBytes (a + 28) 32
    safePut a (l ++ bytesLE 4 (crc32c l)) s
  else s

/-- A role's floor rises (R472) on behalf of `who` (actor, channel and tid, R482): sessions and the host grant below it lose their rights (R473, R477). Floors
never fall. -/
def raiseFloor (who : Nat × Nat × List Nat) (r v : Nat) (s : State) : State :=
  if v ≤ floorOf r s then s else
  let s := (s.wr (R.SEC_FLOOR_LO r) (word v)).wr (R.SEC_FLOOR_HI r) (word (v / 2 ^ 32))
  let s := auditAdd who.1 who.2.1 9 who.2.2 r (v % 2 ^ 32) (countersTx (.floor r v) s)
  let s := s.over (s.ses.sess.map (·.1)) (dropRights r v)
  if s.rf R.SEC_HOST_GRANT 2 0 = r ∧ s.sec.hostCtr < v then endGrant s else s

/-- A role root is installed or replaced (R473, R474, R484): kept in the eMRAM counters region, shown, and recorded; sessions of the role lose their rights
at once. -/
def rootInstall (actor : Nat) (tid : List Nat) (r : Nat) (hash : List Nat) (s : State) : Nat × State :=
  if r = 0 then (2, s) else
  let s := s.wrWords (R.SEC_ROOT_HASH r 0) (wordsOf (hash.take 32))
  let s := auditAdd actor 0 0x0A tid r (ofLE (hash.take 4)) (countersTx (.root r hash) s)
  (0, s.over (s.ses.sess.map (·.1)) (dropRights r (2 ^ 64)))

/-- What accepting a token on `channel` does beside its use (R472): its floor, and with ROLE_ROOTS the floor of a role it names. -/
def acceptFloor (channel : Nat) (c : Claims) (other : Option (Fin 3)) (s : State) : State :=
  let who := (c.role, channel, c.tid)
  let s := if c.floor then raiseFloor who c.role c.ctr s else s
  match other with
  | some r => if c.rights.testBit 18 then raiseFloor who r c.ctr s else s
  | none => s

/-! ### The host token window (R477, R478) -/

/-- Base of the host token window. -/
def hostWin : Nat := 0x003FD000

/-- The right of a page (R474), 31 for a page that the table does not name. -/
def pageRight (p : Nat) : Nat :=
  if p = P.SCHED then 1 else if p = P.NRG then 2
  else if p = P.CMP ∨ p = P.FENCE ∨ p = P.BUF ∨ (0x51 ≤ p ∧ p ≤ 0x5c) ∨ p = P.PAT then 3
  else if p = P.PWR then 5 else if p = P.TIME then 7 else if p = P.GLM then 8
  else if p = P.NET ∨ p = P.SWITCH ∨ (0x22 ≤ p ∧ p ≤ 0x24) then 9
  else if (0x80 ≤ p ∧ p ≤ 0x8c) ∨ p = 0x40 ∨ p = 0x41 ∨ p = P.DRV ∨ p = P.PWM ∨ p = P.ADC ∨ p = P.DALI ∨ p = P.GPIO ∨ p = P.LOOK ∨ (0xa0 ≤ p ∧ p ≤ 0xb0) then 10
  else if (0x60 ≤ p ∧ p ≤ 0x64) ∨ (0x68 ≤ p ∧ p ≤ 0x6c) ∨ p = P.CLK then 11
  else if p = P.THM then 12 else 31

/-- The byte of SEC_PAGE_RIGHT for page `p` under role `r`: right and qualifier; SEC and FLT pages and pages not named are shut but to the maker in
FACTORY by the hardware's own check. -/
def pageByte (r p : Nat) : Nat := let n := pageRight p; if n = 31 then 31 else n + 32 * (roleQual r n).code

/-- SAFE writes SEC_PAGE_RIGHT from R474 (R477). -/
def buildPageRights (r : Nat) (s : State) : State :=
  s.wrWords (R.SEC_PAGE_RIGHT 0) ((List.range 64).map fun w => ofLE ((List.range 4).map fun k => pageByte r (4 * w + k)))

/-- Write RESULT of the window (R478): the outcome, and its count. -/
def winResult (reason : Nat) (s : State) : State :=
  let n := s.ldLE (hostWin + 10) 2 + 1
  safePut (hostWin + 8) [if reason = 0 then 1 else 2 + 16 * reason, 0, n % 256, n / 256 % 256] s

/-- SAFE takes the command in the window: whether CMD holds `c`, and the token. -/
def winToken (s : State) : List Nat := let n := s.ldLE (hostWin + 4) 4; if n = 0 ∨ 8192 < n then [] else s.ldBytes (hostWin + 16) n

/-- The record of a verification (R484): rights or reason, and the session index. -/
def auditToken (channel : Nat) (reason idx : Nat) (c : Option Claims) (s : State) : State :=
  let actor := match c with
    | some c => c.role
    | none => 3
  let tid := match c with
    | some c => c.tid
    | none => []
  if reason = 0 then auditAdd actor channel 2 tid (match c with
    | some c => c.rights
    | none => 0) idx s
  else auditAdd actor channel 3 tid reason idx s

/-- The verification of the token in the window for a nonce-bound use: with no seeded DRBG to draw the nonce that follows it (R458, R478) it is refused as
HOLDER (log entry 196). -/
def winVerify (u : TokenUse) (s : State) : Nat × Option Claims := if rngOk s then verifyToken (winToken s) u s else (8, none)

/-- VERIFY in the host token window (R477, R478). With the audit queue full the command waits in CMD (R486, log entry 194). -/
def hostVerify (s : State) : State :=
  if s.ldLE hostWin 4 ≠ 0x544F4B4E || auditFull s then s else
  let s := safePut hostWin [0, 0, 0, 0] s
  let v := winVerify .host s
  let s := auditToken 1 v.1 0xFFFF v.2 (winResult v.1 (tokResult v.1 s))
  let s := match v.1, v.2 with
    | 0, some c =>
      let s := endGrant s
      let s := s.setSec fun x => { x with hostExp := c.exp, hostCtr := c.ctr, hostTid := c.tid, hostModes := c.modes, hostSums := [] }
      acceptFloor 1 c none (buildPageRights c.role (setGrant (word (c.rights * 256 + c.role)) s))
    | _, _ => s
  newNonce (R.SEC_HOST_CHAL 0) s

/-- DROP in the host token window (R477). -/
def hostDrop (s : State) : State :=
  if s.ldLE hostWin 4 ≠ 0x44524F50 then s else endGrant (safePut hostWin [0, 0, 0, 0] s)

/-! ### Debug access (R493, R494) -/

/-- UNLOCK in the host token window (R493): a maker token with DEBUG opens the scope that ARG names. With the audit queue full the command waits in CMD (R486,
log entry 194). -/
def debugUnlock (s : State) : State :=
  if s.ldLE hostWin 4 ≠ 0x554E4C4B || auditFull s then s else
  let s := safePut hostWin [0, 0, 0, 0] s
  if s.rb R.SEC_DBG_STAT 4 then newNonce (R.SEC_DBG_CHAL 0) (winResult 5 s) else
  let v := winVerify .debug s
  let scope := s.ldLE (hostWin + 12) 4; let lc := s.nv.lifecycle
  let maker := match v.2 with
    | some c => c.role == 0 && c.rights.testBit 20
    | none => false
  let allowed := maker && (scope == 1 || scope == 2) && lc != 3 && (scope == 1 || lc ≤ 1) && (lc != 2 || s.rf R.SYS_MODE 3 0 == 6 || s.dark)
  let r := if v.1 ≠ 0 then v.1 else if allowed then 0 else 5
  let s := auditToken 2 r 0xFFFF v.2 (winResult r (tokResult r s))
  let s := if r = 0 then
      let s := auditAdd 0 2 0x0B (match v.2 with
        | some c => c.tid
        | none => []) scope (s.rf R.SEC_DBG_STAT 11 8) (s.wf R.SEC_DBG_STAT 1 0 scope)
      match v.2 with
      | some c => acceptFloor 2 c none s
      | none => s
    else
      let n := min 8 (s.rf R.SEC_DBG_STAT 11 8 + 1)
      let s := auditAdd 3 2 0x0B [] 0xFF n (s.wf R.SEC_DBG_STAT 11 8 n)
      if n = 8 then raise Src.DEBUG_LOCKOUT ((s.wb R.SEC_DBG_STAT 4 true).wf R.SEC_DBG_STAT 1 0 0) else s
  newNonce (R.SEC_DBG_CHAL 0) s

/-- Write a byte range of the host token window by the host or the TAP (R478): SAFE's working copy stays, and RESULT is SAFE's. -/
def winWrite (o : Nat) (l : List Nat) (s : State) : State :=
  if 0x2010 ≤ o ∨ (8 ≤ o ∧ o < 12) then s else s.put (hostWin + o) l

/-- Data registers of the TAP (R494). -/
inductive TapReg where
  | bypass | idcode | boundary | dtmcs | dmi | unlock
  deriving DecidableEq, Repr

/-- The data register that the 5-bit instruction `ir` selects in the scope in force (R493, R494): BYPASS for every other code, and for an instruction that is
not available. -/
def tapReg (ir : Nat) (s : State) : TapReg :=
  let scope := s.rf R.SEC_DBG_STAT 1 0
  if ir = 1 then .idcode
  else if ir = 24 then .unlock
  else if (ir = 2 ∨ ir = 3) ∧ scope = 2 then .boundary
  else if ir = 16 ∧ scope ≠ 0 then .dtmcs
  else if ir = 17 ∧ scope ≠ 0 then .dmi
  else .bypass

/-- IDCODE (R494): version 0, part 0x4200, the manufacturer from CONFIG, whose layout the spec leaves open (log entry 184), and 1. -/
def tapIdcode (s : State) : Nat := 0x4200 * 4096 + Config.fromOtp 0 (s.nv.otpBits 1472 1024) % 2048 * 2 + 1

/-- What Capture-DR loads into the UNLOCK register (R494): the holding register, under 16 zeros. -/
def tapCapture (s : State) : BitVec 48 := s.sec.tap.setWidth 48

/-- UNLOCK WRITE at Update-DR (R494). -/
def tapWrite (i : Nat) (v : Word) (s : State) : State := if i ≤ 0xBFF then winWrite (4 * i) (bytesLE 4 v.toNat) s else s

/-- UNLOCK READ at Update-DR (R494). -/
def tapRead (i : Nat) (s : State) : State :=
  let hold := fun v => s.setSec fun x => { x with tap := v }
  if i ≤ 0xBFF then hold (word (s.ldLE (hostWin + 4 * i) 4))
  else if i ≤ 0xC07 then hold (s.rd (R.SEC_DBG_CHAL (i - 0xC00)))
  else if i = 0xC08 then hold (s.rd R.SEC_DBG_STAT) else s

end Sys2Proof.Machine
end

