-- ==== Sys2Proof/Machine/HostRegs.lean ====
section
/-! DEFINITION. The effects of the HOST and GPIO registers (R617, R618). -/

namespace Sys2Proof.Machine

/-! ### Doorbells (R617) -/

/-- HOST_IRQ_N is driven (R601, R617). -/
def hostIrq (s : State) : Bool := (s.rd R.HOST_D2H_STAT &&& s.rd R.HOST_D2H_EN) != 0#32

/-- HOST_IRQ_N (R586, R601): none while it floats, low where a doorbell asks, held in SLEEP. -/
def hostIrqPin (s : State) : Option Bool := if s.domainPowered 3 then some !hostIrq s else none

/-- Doorbell bits are set in the status register at `a`; a clear of the same instant leaves them set. -/
def bellSet (a : Nat) (w : Word) (s : State) : State := (s.noteMask a (w &&& 0xFFFF#32)).orMask a (bitsOf w 15 0)

/-- The effect of a write to HOST_H2D_SET: bits of HOST_H2D_STAT; DOORBELL where the host sets one. -/
def h2dSet (i : Init) (_ w : Word) (s : State) : State :=
  (bellSet R.HOST_H2D_STAT w s).irqIf (i == .host && bitsOf w 15 0 != 0) P.HOST 0

/-- The effect of a write to HOST_D2H_SET: bits of HOST_D2H_STAT. -/
def d2hSet (_ w : Word) (s : State) : State := bellSet R.HOST_D2H_STAT w s

/-! ### GPIO (R618) -/

/-- GPIO `g` is driven by the device: an output of an enabled page, not floating as open drain, and not the tamper input. -/
def gpioDriven (s : State) (g : Nat) : Bool :=
  s.pageOn P.GPIO && s.en P.GPIO && s.rb R.GPIO_DIR g && !(s.rb R.GPIO_OD g && s.rb R.GPIO_OUT g) && tamperPin s != some g

/-- New pin levels after the filter: GPIO_IN, and the edge events that GPIO_EDGE enables. -/
def gpioLevels (lv : Nat) (s : State) : State :=
  let old := s.rf R.GPIO_IN 15 0
  let s := s.wf R.GPIO_IN 15 0 lv
  s.over (List.range 16) fun s g =>
    s.irqIf ((!old.testBit g && lv.testBit g && s.rb R.GPIO_EDGE g) || (old.testBit g && !lv.testBit g && s.rb R.GPIO_EDGE (16 + g))) P.GPIO g

/-- Outputs are read back as well. -/
def gpioShow (s : State) : State :=
  gpioLevels ((List.range 16).foldl (fun n g => n + 2 ^ g * bit (if gpioDriven s g then s.rb R.GPIO_OUT g else s.rb R.GPIO_IN g)) 0) s

/-- A filtered edge at pin `g` (R618): it counts where the device does not drive the pin. -/
def gpioEdge (g : Fin 16) (level : Bool) (s : State) : State :=
  if gpioDriven s g || !s.pageOn P.GPIO then s
  else gpioLevels (bitsOf (putBit (s.rd R.GPIO_IN) g level) 15 0) s

/-- The tamper input's GPIO_DIR bit reads 0 (R618). -/
def gpioDir (_ _ : Word) (s : State) : State :=
  gpioShow (match tamperPin s with
    | some g => s.wb R.GPIO_DIR g false
    | none => s)

/-- The effect of a write that may change a driven level. -/
def gpioOut (_ _ : Word) (s : State) : State := gpioShow s

/-- The bits `m` of GPIO_OUT take their levels from `v`, the others keep those of `old`. -/
def gpioMerge (old v m : Word) (s : State) : State := gpioShow (s.wr R.GPIO_OUT ((old &&& ~~~m) ||| (v &&& m)))

/-- The effect of a write to GPIO_OUT: a bit that a GPIO_CLR or a GPIO_SET has reached at this instant keeps their level. -/
def gpioOutWrite (old _ : Word) (s : State) : State :=
  let held := s.evtBits R.GPIO_SET ||| s.evtBits R.GPIO_CLR
  gpioMerge old (s.rd R.GPIO_OUT) (~~~held) (s.noteMask R.GPIO_OUT 0xFFFF#32)

/-- The effect of a write to GPIO_SET. -/
def gpioSet (_ w : Word) (s : State) : State :=
  let m := w &&& 0xFFFF#32
  gpioMerge (s.rd R.GPIO_OUT) m m (s.noteMask R.GPIO_SET m)

/-- The effect of a write to GPIO_CLR: a bit that a GPIO_SET has reached at this instant stays set. -/
def gpioClr (_ w : Word) (s : State) : State :=
  let m := w &&& 0xFFFF#32
  gpioMerge (s.rd R.GPIO_OUT) 0#32 (m &&& ~~~s.evtBits R.GPIO_SET) (s.noteMask R.GPIO_CLR m)

/-- A commit of the GPIO page writes GPIO_OUT_S into GPIO_OUT for the bits of GPIO_OUT_SM (R618), but for those that a write has reached at this
instant, which follows the commit. -/
def gpioCommit (s : State) : State :=
  let late := s.evtBits R.GPIO_OUT ||| s.evtBits R.GPIO_CLR ||| s.evtBits R.GPIO_SET
  gpioMerge (s.rd R.GPIO_OUT) (s.rd R.GPIO_OUT_S) (s.rd R.GPIO_OUT_SM &&& ~~~late) s

end Sys2Proof.Machine
end

