-- ==== Sys2Proof/Machine/Angle.lean ====
section
/-! DEFINITION. Angles in the units of R125 (65,536 to the circle), by shift-and-add with 32 fractional bits: the direction of a vector, the
cosine of an angle, and both roundings outward that R172 allows. -/

namespace Sys2Proof.Machine

/-- atan(2^-i) for i = 0 to 39 in units of 2^-32 of an angle unit. -/
def atanTable : List Int := [
    35184372088832, 20770547670515, 10974586953444, 5570871696862, 2796246208089, 1399486241028, 699913886760, 349978300884,
    174991820497, 87496244017, 43748163730, 21874087080, 10937044192, 5468522177, 2734261099, 1367130551,
    683565276, 341782638, 170891319, 85445659, 42722830, 21361415, 10680707, 5340354,
    2670177, 1335088, 667544, 333772, 166886, 83443, 41722, 20861,
    10430, 5215, 2608, 1304, 652, 326, 163, 81]

/-- The direction of (x, y) with x ≥ 0, in 2^-32 units: rotate onto the x axis. -/
def atanRight (x y : Int) : Int :=
  (atanTable.zipIdx.foldl (fun (a : Int × Int × Int) p =>
    let d : Int := 2 ^ p.2
    if a.2.1 < 0 then (a.1 - a.2.1 / d, a.2.1 + a.1 / d, a.2.2 - p.1) else (a.1 + a.2.1 / d, a.2.1 - a.1 / d, a.2.2 + p.1))
    (x * 2 ^ 40, y * 2 ^ 40, 0)).2.2

/-- The direction of (x, y) measured from +x toward +y, in 2^-32 units within the half circles either side of +x. -/
def atanFine (x y : Int) : Int :=
  if 0 ≤ x then atanRight x y
  else if 0 ≤ y then 32768 * 2 ^ 32 + atanRight (-x) (-y) else atanRight (-x) (-y) - 32768 * 2 ^ 32

/-- A fine angle rounded down to a unit, and up to one unit further (R172). -/
def angleDown (f x y : Int) : Int := f / 2 ^ 32 - (Config.angleErr x y % 2 : Nat)

/-- A fine angle rounded up to a unit, and up to one unit further (R172). -/
def angleUp (f x y : Int) : Int := -((-f) / 2 ^ 32) + (Config.angleErr x y % 2 : Nat)

/-- The cosine of an angle between the quarter circles, scaled by 2^40. -/
def cosUnits (a : Int) : Int :=
  (atanTable.zipIdx.foldl (fun (v : Int × Int × Int) p =>
    let d : Int := 2 ^ p.2
    if v.2.2 < 0 then (v.1 + v.2.1 / d, v.2.1 - v.1 / d, v.2.2 + p.1) else (v.1 - v.2.1 / d, v.2.1 + v.1 / d, v.2.2 - p.1))
    (667681663043, 0, a * 2 ^ 32)).1

end Sys2Proof.Machine
end

