-- ==== Sys2Proof/Machine/Glare.lean ====
section
/-! DEFINITION. The mask engine (chapter 04): lists and slots (R161 to R166), freshness and lanes (R167 to R169), records (R170),
prediction (R171), projection (R172, R173), rasterisation (R174 to R176), bands (R181), pools (R187, R188), start (R189). -/

namespace Sys2Proof.Machine

/-! ### Slots (R164) -/

/-- Set the mask engine. -/
def State.setGlm (s : State) (f : GlmSt → GlmSt) : State := { s with glm := f s.glm }

/-- STATE of slot `k`: 0 FREE, 1 POSTED, 2 IN_USE. -/
def slotState (s : State) (k : Nat) : Nat := s.rf R.GLM_SLOT_STATE (2 * k + 1) (2 * k)

/-- Set STATE of slot `k`. -/
def setSlot (k st : Nat) (s : State) : State := s.wf R.GLM_SLOT_STATE (2 * k + 1) (2 * k) st

/-- Record a refusal in GLM_LIST_REJ. -/
def listReject (k reason : Nat) (s : State) : State := s.wr R.GLM_LIST_REJ (word (s.tick16 * 65536 + k * 256 + reason))

/-- A slot is posted (R164). -/
def postSlot (k : Nat) (s : State) : State := (setSlot k 1 s).setGlm fun g => { g with posts := g.posts ++ [(k, s.now)] }

/-- The effect of a write to GLM_POST (R164): a FREE CH1 slot, else refused with SLOT. -/
def glmPost (_ w : Word) (s : State) : State :=
  let k := bitsOf w 2 0
  if 4 ≤ k ∧ slotState s k = 0 then postSlot k s else listReject k 4 s

/-- Address of slot `k`. -/
def slotAddr (s : State) (k : Nat) : Nat := (s.rd R.GLM_LIST_BASE).toNat + 8256 * k

/-- The check of a list at the cutoff (R166): 0 or the first of MAGIC, COUNT, CRC. -/
def listCheck (s : State) (k : Nat) : Nat :=
  let a := slotAddr s k; let n := s.ldLE (a + 2) 2
  if s.ldLE a 2 ≠ 0x4C4F then 1
  else if 256 < n then 2
  else if crc32c (s.ldBytes a 28 ++ s.ldBytes (a + 32) (32 * n)) = s.ldLE (a + 28) 4 then 0 else 3

/-! ### The cutoff (R166 to R169) -/

/-- State of channel `c`: 0 FRESH, 1 STALE1, 2 STALE2, 3 LOST, 4 RECOVERING. -/
def chState (s : State) (c : Nat) : Nat := s.rf R.GLM_CH_STAT (4 * c + 2) (4 * c)

/-- The next state of a channel (R167). -/
def chNext (st : Nat) (accepted : Bool) : Nat :=
  if accepted then (if st = 3 then 4 else 0) else if st = 0 then 1 else if st = 1 then 2 else 3

/-- Slot `k` was posted in the cycle of the present cutoff, so that it counts for the next one (R166). -/
def postedNow (s : State) (k : Nat) : Bool := s.glm.posts.any fun p => p.1 == k && decide (s.now ≤ p.2)

/-- Channel `c` accepts slot `k` (R166). -/
def acceptList (c : Fin 2) (k : Nat) (s : State) : State :=
  let s := match s.glm.cur[c] with
    | some o => setSlot o 0 s
    | none => s
  let old := (List.range 4).filter fun j => slotState s (4 * c + j) == 1 && 4 * c.val + j != k && !postedNow s (4 * c + j)
  let s := s.over old fun s j => setSlot (4 * c + j) 0 s
  let s := s.stAdd (R.STAT P.GLM 1) 23 16 old.length
  (setSlot k 2 s).setGlm fun g => { g with cur := g.cur.set c (some k), cut := g.cut.set c (s.ttNs s.now) }

/-- Channel `c` at the cutoff (R166, R167). -/
def channelCut (s : State) (c : Fin 2) : State :=
  if !s.rb R.GLM_CFG (4 + c) then s else
  let cand := ((s.glm.posts.filter fun p => p.1 / 4 == c.val && slotState s p.1 == 1 && decide (p.2 < s.now)).map (·.1)).getLast?
  let r := (cand.map fun k => listCheck s k).getD 9
  let s := match cand with
    | none => s
    | some k => if r = 0 then acceptList c k s else (listReject k r (setSlot k 0 s)).irq P.GLM 0
  let st := chState s c; let st' := chNext st (r == 0)
  let s := s.wf R.GLM_CH_STAT (4 * c + 2) (4 * c) st'
  if st' = 3 ∧ st ≠ 3 then raise Src.GLM_LIST_LOST (s.irq P.GLM 1) else s

/-- The conservative lanes at a cutoff (R169). -/
def consLanes (s : State) : Nat :=
  let on := fun c => chState s c == 3 || chState s c == 4
  (if on 0 then s.rf R.GLM_CH_LANES 7 0 else 0) ||| (if on 1 then s.rf R.GLM_CH_LANES 15 8 else 0) ||| s.rf R.GLM_CONS_FORCE 7 0

/-! ### Records (R161, R162, R170) -/

/-- A record of 32 bytes at its address (R162). -/
structure Obj where
  kind : Nat
  lane : Nat
  valid : Bool
  tObs : Nat
  b : List Nat
  deriving DecidableEq, Repr

/-- The record at address `a`. -/
def objAt (s : State) (a : Nat) : Obj :=
  let f := s.ldN (a + 3)
  ⟨s.ldN (a + 2), f / 16 % 8, f.testBit 0, s.ldLE (a + 4) 8, s.ldBytes a 32⟩

/-- Bytes `[o, o + n)` of a record as an unsigned number. -/
def Obj.u (x : Obj) (o n : Nat) : Nat := ofLE ((x.b.drop o).take n)

/-- Bytes `[o, o + n)` of a record as a signed number. -/
def Obj.s (x : Obj) (o n : Nat) : Int := sx (8 * n) (x.u o n)

/-- `n` records from address `a`. -/
def objsFrom (s : State) (a n : Nat) : List Obj := (List.range n).map fun i => objAt s (a + 32 * i)

/-- The current list of channel `c`, with the cutoff of its acceptance, while it contributes (R167). -/
def chObjs (s : State) (c : Fin 2) : List Obj :=
  if chState s c = 3 ∨ !s.rb R.GLM_CFG (4 + c) then [] else
  match s.glm.cur[c] with
  | none => []
  | some k => objsFrom s (slotAddr s k + 32) (min 256 (s.ldLE (slotAddr s k + 2) 2))

/-- A record of a list passes (R170): valid, known kind, no lane, observed no more than 3P before and P after the cutoff. -/
def listOk (s : State) (cut : Nat) (x : Obj) : Bool :=
  x.valid && decide (x.kind ≤ 3) && x.lane == 0 && decide (cut ≤ x.tObs + 3 * s.period) && decide (x.tObs ≤ cut + s.period)

/-- The static records that pass. Their T_OBS is ignored: put beyond every target time, it makes dt 0 (R171; log entry 144). -/
def staticObjs (s : State) : List Obj :=
  ((objsFrom s (s.rd R.GLM_STATIC_BASE).toNat (s.rf R.GLM_TABLE_CNT 6 0)).filter fun x => x.valid && decide (x.kind ≤ 3) && x.lane == 0).map fun x =>
    { x with tObs := 2 ^ 64 }

/-- The conservative records of lanes in force (R169). -/
def consRecords (s : State) : List Obj :=
  (objsFrom s (s.rd R.GLM_CONS_BASE).toNat (s.rf R.GLM_TABLE_CNT 23 16)).filter fun x => s.rb R.GLM_CH_STAT (16 + x.lane)

/-- Those of them that pass: EYE and WINDOW only (R169). -/
def consObjs (s : State) : List Obj := (consRecords s).filter fun x => x.valid && decide (x.kind ≤ 1)

/-- The dynamic records that pass, in order, before the limit of 256. -/
def dynObjs (s : State) : List Obj := (chObjs s 0).filter (listOk s s.glm.cut[0]) ++ (chObjs s 1).filter (listOk s s.glm.cut[1])

/-- The records of the frame (R170). -/
def frameObjs (s : State) : List Obj := staticObjs s ++ (dynObjs s).take 256 ++ consObjs s

/-- Records dropped in the frame (R170), saturated to the field that shows them (R8). -/
def droppedObjs (s : State) : Nat :=
  let stat := s.rf R.GLM_TABLE_CNT 6 0 - (staticObjs s).length
  let dyn := (chObjs s 0).length + (chObjs s 1).length - (min 256 (dynObjs s).length)
  min 511 (stat + dyn + ((consRecords s).length - (consObjs s).length))

/-- The program renders nothing at this cutoff: the skip is counted (R188). -/
def poolSkip (s : State) : State := (s.setGlm fun g => { g with pool := none, skips := g.skips + 1 }).irq P.GLM 3

/-- The mid-time of frame n + 1 (R171), from the times at which the ticks fall. -/
def poolTime (s : State) : Nat :=
  s.ttNs (s.nextTick + (comingLen s).1) + periodOf (match comingTiming s with | some w => rateOf w | none => s.rate10) / 2

/-- The pool entry that the mask layer is rendered to (R187), chosen at a tick: `o` is the first one in SW_OWNED. -/
def glmPool (n : Fin 8) (o : Option Nat) (s : State) : State :=
  match o with
  | some e => if s.cmp.lyr[n].pend.isSome then poolSkip s else s.setGlm fun g => { g with pool := some (e, poolTime s) }
  | none => poolSkip s

/-- The cutoff at the tick (R166 to R170, R187, R188, R189). -/
def glmTick (s : State) : State :=
  if !s.en P.GLM then s else
  let s := (s.setGlm fun g => { g with armed := false }).wb (R.STATUS P.GLM) 0 true
  let s := s.wf (R.STATUS P.GLM) 2 1 (s.frame % 2)
  let s := (s.over (List.finRange 2) channelCut).setGlm fun g => { g with posts := g.posts.filter fun p => decide (s.now ≤ p.2) }
  let lanes := consLanes s
  let s := s.irqIf (lanes != s.rf R.GLM_CH_STAT 23 16) P.GLM 5
  let s := s.wf R.GLM_CH_STAT 23 16 lanes
  let s := (s.stSet (R.STAT P.GLM 0) 8 0 (min 256 (dynObjs s).length)).stSet (R.STAT P.GLM 0) 24 16 (droppedObjs s)
  if !s.rb R.GLM_CFG 2 then s else
  glmPool (Fin.ofNat 8 (s.rf R.GLM_CFG 10 8))
    ([s.rf R.GLM_POOL_BUF 7 0, s.rf R.GLM_POOL_BUF 15 8, s.rf R.GLM_POOL_BUF 23 16].find? fun e => (s.buf e).state == BufState.swOwned) s

/-! ### Prediction and projection (R171 to R173) -/

/-- The time from the observation to `tm`, clamped to 0 to 8P (R171). -/
def predictDt (s : State) (tm : Nat) (x : Obj) : Nat := min (tm - x.tObs) (8 * s.period)

/-- Predicted displacement for velocity `v` (R171). -/
def predictMove (v : Int) (dt : Nat) : Int := (v * dt * 256 + 500000000) / 1000000000

/-- A range of directions, azimuth as a start and a width modulo the circle. -/
structure Region2 where
  az : Int
  width : Int
  elMin : Int
  elMax : Int
  deriving DecidableEq, Repr

/-- The half extent after growth by the distance moved (R171), U8.8. -/
def grown (s : State) (h : Nat) (d : Int) : Nat := min 0xFFFF (h + cdiv (d.natAbs * s.rf R.GLM_SOFT 23 16) 65536)

/-- m_el of R173 for kind `k`. -/
def marginEl (s : State) (k : Nat) : Nat := cdiv (s.rf (R.GLM_KIND k) 31 16 * 256) 360

/-- The margined region of an EYE or WINDOW box at time `tm` (R171 to R173). -/
def boxRegion (s : State) (tm : Nat) (x : Obj) : Region2 :=
  let dt := predictDt s tm x
  let v := fun o => if x.kind = 1 then (0 : Int) else x.s o 2
  let dX := predictMove (v 28) dt; let dY := predictMove (v 30) dt
  let hx : Int := grown s (x.u 22 2) dX * 256; let hy : Int := grown s (x.u 24 2) dY * 256
  let px := satS 32 (x.s 12 4 + dX) - sw (s.rd R.GLM_LAMP_X); let py := satS 32 (x.s 16 4 + dY) - sw (s.rd R.GLM_LAMP_Y)
  let lz := sw (s.rd R.GLM_LAMP_Z); let z : Int := x.u 20 2 * 256; let hz : Int := x.u 26 2 * 256
  let corners := [(px - hx, py - hy), (px - hx, py + hy), (px + hx, py - hy), (px + hx, py + hy)]
  let inside := decide (px - hx ≤ 0) && decide (0 ≤ px + hx) && decide (py - hy ≤ 0) && decide (0 ≤ py + hy)
  let c := atanFine px py
  let circle : Int := 65536 * 2 ^ 32
  let rel := corners.map fun p => (atanFine p.1 p.2 - c + circle / 2) % circle - circle / 2
  let lo := c + rel.foldl min (rel.getD 0 0); let hi := c + rel.foldl max (rel.getD 0 0)
  let far := fun (q h : Int) => max (q - h).natAbs (q + h).natAbs
  let near := fun (q h : Int) => if q - h ≤ 0 ∧ 0 ≤ q + h then 0 else min (q - h).natAbs (q + h).natAbs
  let dist := fun (a b : Nat) => (isqrt 56 ((a * a + b * b) * 2 ^ 32) : Nat)
  let dMax : Int := dist (far px hx) (far py hy); let dMin : Int := dist (near px hx) (near py hy)
  let top := (lz - (z + hz)) * 65536; let bot := (lz - (z - hz)) * 65536
  let elMin := angleDown (atanFine dMax top) dMax top
  let elMax := angleUp (atanFine dMin bot) dMin bot
  let m := marginEl s x.kind
  let full := inside || decide (10922 < elMax)
  let mAz := cdiv (m * 2 ^ 40) (max 1 (cosUnits elMax).toNat)
  let a0 := angleDown lo px py - mAz; let a1 := angleUp hi px py + mAz
  if full ∨ 65535 ≤ a1 - a0 then ⟨0, 65535, elMin - m, elMax + m⟩ else ⟨a0 % 65536, a1 - a0, elMin - m, elMax + m⟩

/-! ### Rasterisation (R174 to R176) -/

/-- The direction of a pixel, with azimuth differences taken relative to point (i, j) (R174). -/
def pixelDir (c : Cell) : Int × Int :=
  let d := fun (p : MeshPt) => (((p.az : Int) - c.p00.az + 32768) % 65536) - 32768
  ((c.p00.az + lerp4 0 (d c.p10) (d c.p01) (d c.p11) c.fx c.fy) % 65536, c.at MeshPt.el)

/-- The soft edge value for an excess (R174). -/
def softValue (s : State) (k : Nat) (delta : Nat) : Nat :=
  let f := s.rf (R.GLM_KIND k) 7 0; let w := cdiv (s.rf R.GLM_SOFT 15 0 * 256) 360
  if delta = 0 then f else min 255 (f + (255 - f) * delta / max 1 w)

/-- What an object of the frame contributes: a region for a box, the sector for a SKY_CUT. -/
inductive Shape where
  | box (kind : Nat) (r : Region2)
  | cut (az width elMin : Int)
  | none
  deriving DecidableEq, Repr

/-- The shape of a record at time `tm`. -/
def shapeOf (s : State) (tm : Nat) (x : Obj) : Shape :=
  if x.kind ≤ 1 then .box x.kind (boxRegion s tm x)
  else if x.kind = 2 then .cut (x.u 12 2) (((x.u 14 2 : Int) - x.u 12 2) % 65536) (x.s 16 2 + marginEl s 2)
  else .none

/-- An object's value at a pixel direction (R174, R175). -/
def shapeValue (s : State) (az el : Int) : Shape → Option Nat
  | .none => Option.none
  | .box k r =>
    let p := (az - r.az) % 65536
    let da := if p ≤ r.width then 0 else min (p - r.width) (65536 - p)
    let de := if el < r.elMin then r.elMin - el else if r.elMax < el then el - r.elMax else 0
    some (softValue s k (max da de).toNat)
  | .cut a w lo => if (az - a) % 65536 ≤ w then some (softValue s 2 (el - lo).toNat) else Option.none

/-- The glare byte of a pixel (R176): the least value of the objects, 255 for none. -/
def glareValue (s : State) (t : Fin 4) (shapes : List Shape) (u v : Nat) : Nat :=
  if !onRoad s t u v then 255 else
  let d := pixelDir (cellOf s t u v)
  (shapes.filterMap (shapeValue s d.1 d.2)).foldl min 255

/-- The mid-time of the frame being built (R171). -/
def midTime (s : State) : Nat := s.ttNs s.nextTick + s.period / 2

/-- The BEAM engine that writes for the mask program. -/
def maskEngine (s : State) : Init := .beam (((List.finRange 8).find? fun (b : Fin 8) => s.rb R.GLM_BEAM_SEL b.val).getD 0)

/-- The program writes band `b` of tile `t` and marks it done (R176, R181). -/
def bandTile (b : Nat) (shapes : List Shape) (s : State) (t : Fin 4) : State :=
  if !s.tileOn t ∨ bandsOf s t ≤ b then s else
  let rows := min 64 (s.th t - 64 * b)
  let l := (List.range rows).flatMap fun r => (List.range (s.tw t)).map fun u => glareValue s t shapes u (64 * b + r)
  let s := (engineWrite (maskEngine s) (glareAddr s t s.frame 0 (64 * b)) l s).2
  { s with frm := { s.frm with band := s.frm.band.set t (s.frm.band[t] ||| 2 ^ b) } }

/-- The program finishes band `b` of the current plane, for all tiles, in order (R181); bands whose deadline has passed are late before (R183). -/
def bandDone (b : Nat) (s : State) : State :=
  let s := bandsLate s
  let before := (List.finRange 4).all fun t => !s.tileOn t || decide (bandsOf s t ≤ b) || (List.range b).all fun j => s.frm.band[t].testBit j
  if !s.en P.GLM || !s.rb (R.STATUS P.GLM) 0 || !s.rb R.GLM_CFG 0 || s.beamGated || !before then s else
  let shapes := (frameObjs s).map (shapeOf s (midTime s))
  s.over (List.finRange 4) (bandTile b shapes)

/-! ### Pools (R187, R188) -/

/-- A pool at its predicted place: centre, LUX, R and E in S15.16 metres. -/
structure Pool where
  x : Int
  y : Int
  lux : Nat
  r : Nat
  e : Nat
  deriving DecidableEq, Repr

/-- The pools of the frame at time `tm` (R171, R187). -/
def poolsAt (s : State) (tm : Nat) : List Pool :=
  ((frameObjs s).filter fun x => x.kind == 3).map fun x =>
    let dt := predictDt s tm x
    ⟨satS 32 (x.s 12 4 + predictMove (x.s 28 2) dt), satS 32 (x.s 16 4 + predictMove (x.s 30 2) dt), x.u 20 2, x.u 22 2 * 256, x.u 24 2 * 256⟩

/-- Value and alpha a pool gives a texel centre (R187). A LSCALE of 0, for which the spec gives no value, gives a free one. A texel whose alpha comes out
0 counts as covered by no pool (DESIGN CHOICE, log entry 174). -/
def poolTexel (s : State) (lscale : Nat) (cx cy : Int) (p : Pool) : Nat × Nat :=
  let dx := (p.x - cx).natAbs; let dy := (p.y - cy).natAbs
  let r := isqrt 44 ((dx * dx + dy * dy) * 2 ^ 16)
  let rr := p.r * 256; let e := p.e * 256
  let a := if r ≤ rr then 255 else if rr + e ≤ r then 0 else 255 * (rr + e - r) / e
  let l := if lscale = 0 then Config.free s.free % 256 else min 255 ((p.lux * 255 + lscale / 2) / lscale)
  if a = 0 then (0, 0) else (l, a)

/-- Centre of texel `i` along one axis: ORG + OFS + (i + 0.5) / INV_PITCH (R187), rounded to S15.16; an INV_PITCH of 0 acts as 1 (DESIGN CHOICE, log
entry 174). -/
def texelCentre (org ofs : Int) (inv i : Nat) : Int := org + ofs + rndDiv ((2 * i + 1 : Nat) * 2 ^ 31) (max 1 inv)

/-- The canvas of the pools (R187). -/
def poolCanvas (s : State) (n : Fin 8) (e : BufEntry) (pools : List Pool) (j : Nat) : List Nat :=
  let cy := texelCentre (sw (s.rd (R.LYR_ORG_Y n))) (sw (s.rd (R.LYR_OFS_Y n))) (s.rd (R.LYR_INV_PITCH_Y n)).toNat j
  (List.range e.w).flatMap fun i =>
    let cx := texelCentre (sw (s.rd (R.LYR_ORG_X n))) (sw (s.rd (R.LYR_OFS_X n))) (s.rd (R.LYR_INV_PITCH_X n)).toNat i
    let m := (pools.map (poolTexel s (s.rf (R.LYR_LSCALE n) 15 0) cx cy)).foldl (fun (a : Nat × Nat) b => (max a.1 b.1, max a.2 b.2)) (0, 0)
    [m.1, m.2]

/-- The pool canvas is finished (R187, R188): the fence is signalled and a flip of POOL_LAYER posted. A gated engine finishes nothing (R388). -/
def poolRenderDone (s : State) : State :=
  if s.beamGated then s else
  match s.glm.pool with
  | none => s
  | some (e, tm) =>
    let n : Fin 8 := Fin.ofNat 8 (s.rf R.GLM_CFG 10 8)
    let b := s.buf e
    let pools := poolsAt s tm
    let src := s
    let s := s.over (List.range b.h) fun s j => (engineWrite (maskEngine s) (b.base + j * b.stride) (poolCanvas src n b pools j) s).2
    let s := s.setGlm fun g => { g with pool := none }
    let f := s.rf R.GLM_POOL_BUF 29 24
    postFlip n ⟨e, f, true, false, s.now⟩ (signalFence f { s with free := s.free + 1 })

/-! ### Start and stop (R168, R189) -/

/-- Every channel is LOST (R168). Nothing is raised for it: GLM_LIST_LOST is the event of R167's own entry into LOST (DEDUCED, log entry 175). -/
def channelsLost (s : State) : State := (s.wf R.GLM_CH_STAT 2 0 3).wf R.GLM_CH_STAT 6 4 3

/-- The boot ROM's program for the mask engine, or for the look-back engine, is loaded into the local memory of BEAM engine `b` (R189, R296). -/
def loadBeam (look : Bool) (s : State) (b : Nat) : State :=
  let t := s.put (0x08000000 + 0x40000 * b) ((Config.beamProgram look).take 0x40000)
  { s with mem := t.mem, ue := t.ue, ce := t.ce }

/-- The effect of a write to GLM CTRL: EN from 0 to 1 loads the program (R168, R189), from 1 to 0 stops it. -/
def glmCtrl (old w : Word) (s : State) : State :=
  if bitOf w 0 && !bitOf old 0 then
    ((channelsLost s).over ((List.range 8).filter fun b => s.rb R.GLM_BEAM_SEL b) (loadBeam false)).setGlm fun g => { g with armed := true }
  else if !bitOf w 0 && bitOf old 0 then (s.setGlm fun g => { g with armed := false, pool := none }).wb (R.STATUS P.GLM) 0 false
  else s

end Sys2Proof.Machine
end

