-- ==== Sys2Proof/Machine/Video.lean ====
section
/-! DEFINITION. The CSI-2 receivers (R276 to R286): frames, lines into buffer entries, object lists, completion, and errors. -/

namespace Sys2Proof.Machine

/-- Stream `k` of receiver `i`. -/
abbrev strm (i : Fin 2) (k : Fin 4) : Fin 8 := ⟨4 * i.val + k.val, by omega⟩

/-- The open frame of a stream. -/
def State.vframe (s : State) (i : Fin 2) (k : Fin 4) : Option VinFrame := s.vin.frames[strm i k]

/-- Set the open frame of a stream; STATUS shows it (R297). -/
def setFrame (i : Fin 2) (k : Fin 4) (f : Option VinFrame) (s : State) : State :=
  { s with vin := { s.vin with frames := s.vin.frames.set (strm i k) f } }.wb (R.STATUS (P.VIN i)) k f.isSome

/-- Is the frame of an IMAGE stream? -/
def VinFrame.image (f : VinFrame) : Bool := bitsOf f.cfg 17 16 == 0

/-- Its virtual channel. -/
def VinFrame.vc (f : VinFrame) : Nat := bitsOf f.cfg 2 1

/-- Its data type. -/
def VinFrame.dt (f : VinFrame) : Nat := bitsOf f.cfg 13 8

/-- An error of the frame: the first cause stands. -/
def VinFrame.fail (f : VinFrame) (c : Nat) : VinFrame := if f.err = 0 then { f with err := c } else f

/-- Format, wire bytes of a line and width multiple of a data type (R279). -/
def lineForm (dt lreq w : Nat) : Option (Nat × Nat × Nat) :=
  if dt = 0x1E then some (5, 2 * w, 2) else if dt = 0x2B then some (6, 5 * w / 4, 4) else if dt = 0x2C then some (7, 3 * w / 2, 2)
  else if dt = lreq then some (0, 2 * w, 1) else none

/-- Raw values of packed RAW10 groups of 5 bytes (R279; CSI-2's packing). -/
def raw10 : Nat → List Nat → List Nat
  | 0, _ => []
  | n + 1, l => match l with
    | a :: b :: c :: d :: e :: t => (4 * a + e % 4) :: (4 * b + e / 4 % 4) :: (4 * c + e / 16 % 4) :: (4 * d + e / 64) :: raw10 n t
    | _ => []

/-- Raw values of packed RAW12 groups of 3 bytes. -/
def raw12 : Nat → List Nat → List Nat
  | 0, _ => []
  | n + 1, l => match l with
    | a :: b :: c :: t => (16 * a + c % 16) :: (16 * b + c / 16) :: raw12 n t
    | _ => []

/-- YUV422 reordered from U0 Y0 V0 Y1 to Y0 U0 Y1 V0. -/
def yuvLine : Nat → List Nat → List Nat
  | 0, _ => []
  | n + 1, l => match l with
    | u :: y0 :: v :: y1 :: t => y0 :: u :: y1 :: v :: yuvLine n t
    | _ => []

/-- The stored bytes of a line (R279). -/
def lineBytes (dt : Nat) (l : List Nat) : List Nat :=
  if dt = 0x1E then yuvLine l.length l
  else if dt = 0x2B then (raw10 l.length l).flatMap (bytesLE 2)
  else if dt = 0x2C then (raw12 l.length l).flatMap (bytesLE 2)
  else l

/-- The entry an IMAGE stream chooses (R280). -/
def chooseEntry (s : State) (i : Fin 2) (k : Fin 4) : Option Nat :=
  let b := R.VIN_S_BUF i k
  ((List.range (s.rf b 25 24)).map fun j => s.rf b (8 * j + 7) (8 * j)).find? fun e =>
    (s.buf e).state == BufState.swOwned && s.vin.last[strm i k] != some e

/-- The frame's entry has another format, or a width that breaks the multiple (R279). -/
def wrongForm (s : State) (f : VinFrame) (e : Nat) : Bool :=
  let b := s.buf e
  match lineForm f.dt f.lreq b.w with
  | some (fmt, _, m) => b.fmt != fmt || b.w % m != 0
  | none => true

/-- An errored frame (R281, R284). -/
def frameErr (i : Fin 2) (k : Fin 4) (f : VinFrame) (s : State) : State :=
  let s := setFrame i k none (s.wf (R.VIN_S_STAT i k) 15 12 f.err)
  let s := (s.stAdd (R.VIN_STAT_FRAMES i) 31 16 1).irq (P.VIN i) 1
  let s := if f.image then s else (s.stAdd (R.VIN_STAT_LIST i) 31 16 1).irq (P.VIN i) 4
  raise (Src.VIN_FRAME_ERR i) s

/-- A frame is skipped, or its flip refused (R280, R282). -/
def countSkip (i : Fin 2) (s : State) : State := s.stAdd (R.VIN_STAT_SKIP i) 15 0 1

/-- A frame is complete (R285, R297): its number and its Frame Start time are shown, and it is counted. -/
def frameMade (i : Fin 2) (k : Fin 4) (f : VinFrame) (s : State) : State :=
  let s := (s.wf (R.VIN_S_STAT i k) 31 16 f.num).wr (R.VIN_S_FS_TIME_LO i k) (word f.fs)
  { s with vin := { s.vin with hi := s.vin.hi.set (strm i k) (word (f.fs / 2 ^ 32)) } }.stAdd (R.VIN_STAT_FRAMES i) 15 0 1

/-- A completed image in entry `e` (R282). -/
def imageDone (i : Fin 2) (k : Fin 4) (f : VinFrame) (e : Nat) (s : State) : State :=
  let s := s.wf (R.VIN_S_STAT i k) 7 0 e
  let s := { s with vin := { s.vin with last := s.vin.last.set (strm i k) (some e) } }
  let fen := bitOf f.cfg 23; let fence := bitsOf f.cfg 29 24
  let s := if fen then signalFence fence s else s
  let sc : Fin 4 := Fin.ofNat 4 (bitsOf f.route 2 1)
  let s := if bitOf f.route 0 && s.rf (R.SCL_CFG sc) 1 0 == i.val + 1 then
      (if (s.cmp.scl[sc]).isSome then sclTrigger sc s else sclTrigger sc (s.wf (R.SCL_SRC sc) 7 0 e))
    else s
  let s := if bitOf f.cfg 18 then
      let n : Fin 8 := Fin.ofNat 8 (bitsOf f.cfg 22 20); let r : FlipReq := ⟨e, fence, fen, false, s.now⟩
      if flipRefusal n r s = 0 then postFlip n r s else countSkip i (postFlip n r s)
    else s
  s.irq (P.VIN i) 0

/-- A completed object list (R284). -/
def listDone (i : Fin 2) (f : VinFrame) (s : State) : State :=
  match f.slot with
  | some k =>
    if 32 ≤ f.bytes ∧ f.bytes ≤ 8224 ∧ s.rb R.GLM_CFG 6 = (i.val == 1) ∧ s.rb R.GLM_CFG 4 ∧ slotState s k = 0 then
      ((postSlot k s).stAdd (R.VIN_STAT_LIST i) 15 0 1).irq (P.VIN i) 3
    else (s.stAdd (R.VIN_STAT_LIST i) 31 16 1).irq (P.VIN i) 4
  | none => (s.stAdd (R.VIN_STAT_LIST i) 31 16 1).irq (P.VIN i) 4

/-- The receiver takes packets: enabled and on; the clock lane is then in high-speed mode (R297). -/
def vinOn (s : State) (i : Fin 2) : Bool := s.en (P.VIN i) && s.pageOn (P.VIN i)

/-- Stream `k` matches virtual channel `vc` with its open frame. -/
def openOn (s : State) (i : Fin 2) (vc : Nat) (k : Fin 4) : Option VinFrame := (s.vframe i k).bind fun f => if f.vc = vc then some f else none

/-- The data types of R276. -/
def dtSupported (s : State) (i : Fin 2) (dt : Nat) : Bool :=
  dt == 0x12 || dt == 0x1E || dt == 0x2B || dt == 0x2C || dt == s.rf (R.VIN_LREQ_DT i) 5 0

/-- A corrected header is counted (R276). -/
def eccFix (i : Fin 2) (fixed : Bool) (s : State) : State :=
  let s := s.wb (R.STATUS (P.VIN i)) 4 true
  if fixed then s.stAdd (R.VIN_STAT_PKT i) 15 0 1 else s

/-- The lowest FREE slot of 0 to 3 that no open frame has chosen (R284). -/
def listSlot (s : State) : Option Nat :=
  (List.range 4).find? fun k => slotState s k == 0 && !(s.vin.frames.toList.any fun f => (f.bind (·.slot)) == some k)

/-- A line of an IMAGE stream (R279, R281): the frame, whether its write was refused (R283), and the state. -/
def imageLine (i : Fin 2) (f : VinFrame) (l : List Nat) (s : State) : VinFrame × Bool × State :=
  match f.entry with
  | none => ({ f with lines := f.lines + 1 }, false, s)
  | some e =>
    let b := s.buf e
    let want := ((lineForm f.dt f.lreq b.w).map (·.2.1)).getD 0
    let g := if l.length = want then f else f.fail 1
    let g := { g with lines := g.lines + 1 }
    if b.h ≤ f.lines then (g, false, s) else
    let r := engineWrite (.vin i) (b.base + f.lines * b.stride) ((lineBytes f.dt (l.take want)).take (rowBytes b)) s
    (if r.1 then g else g.fail 6, !r.1, r.2)

/-- A packet of a LIST stream (R284): the frame, whether its write was refused (R283), and the state. -/
def listBytes (i : Fin 2) (f : VinFrame) (l : List Nat) (s : State) : VinFrame × Bool × State :=
  let f := if f.bytes = 0 ∧ f.slot.isNone then { f with slot := listSlot s } else f
  match f.slot with
  | none => ({ f with bytes := f.bytes + l.length }, false, s)
  | some k =>
    let room := l.take (8224 - f.bytes)
    let r := engineWrite (.vin i) (slotAddr s k + f.bytes) room s
    let bad := !r.1 && !room.isEmpty
    (if bad then { f.fail 6 with bytes := f.bytes + l.length } else { f with bytes := f.bytes + l.length }, bad, r.2)

/-- Raw values of a RAW line, for LOOK (R288). -/
def rawLine (dt : Nat) (l : List Nat) : List Nat := if dt = 0x2B then raw10 l.length l else if dt = 0x2C then raw12 l.length l else []

/-- An uncorrectable header (R276, R281): the packet is discarded and every open frame is errored. -/
def headerError (i : Fin 2) (s : State) : State :=
  if !vinOn s i then s else
  s.over (List.finRange 4) fun s k => match s.vframe i k with
    | some f => setFrame i k (some (f.fail 3)) s
    | none => s

/-- The effect of a write to CTRL of a receiver (R297): with EN clear its clock lane is no longer followed. -/
def vinCtrl (i : Fin 2) (_ _ : Word) (s : State) : State := if s.en (P.VIN i) then s else s.wb (R.STATUS (P.VIN i)) 4 false

/-- A start-of-transmission or synchronisation error (R297). -/
def sotError (i : Fin 2) (s : State) : State := if vinOn s i then raise (Src.VIN_PHY_ERR i) (s.irq (P.VIN i) 5) else s

/-- A read of VIN_S_FS_TIME_LO latches the high word (R297). -/
def fsTimeRead (i : Fin 2) (k : Fin 4) (s : State) : State := s.wr (R.VIN_S_FS_TIME_HI i k) s.vin.hi[strm i k]

end Sys2Proof.Machine
end

