-- ==== Sys2Proof/Machine/Look.lean ====
section
/-! DEFINITION. Frame Start and Frame End of the receivers (R280 to R285), and the look-back engine (R287 to R296). -/

namespace Sys2Proof.Machine

/-! ### The camera model (R290) -/

/-- Byte `o` to `o + n - 1` of the model. -/
def model (s : State) (o n : Nat) : Nat := s.ldLE ((s.rd R.LOOK_MODEL_BASE).toNat + o) n

/-- The model passes its check. -/
def modelOk (s : State) : Bool :=
  let a := (s.rd R.LOOK_MODEL_BASE).toNat; let n := s.rf R.LOOK_MODEL_LEN 23 0
  decide (64 ≤ n) && !s.anyUe a n && word (crc32c (s.ldBytes a n)) == s.rd R.LOOK_MODEL_CRC && model s 0 4 == 0x4D4B4F4C

/-- Bytes of a tile's thumbnail, and the place of its copy in the work area (R296). -/
def thumbBytes (s : State) (t : Fin 4) : Nat := let d := max 1 (model s 10 1); (s.tw t / d) * (s.th t / d) * 2

/-- The copy of tile `t`'s thumbnail: 131,072 bytes a tile after the sums and windows. -/
def thumbAddr (s : State) (t : Fin 4) : Nat := (s.rd R.LOOK_WORK_BASE).toNat + 299008 + 131072 * t.val

/-! ### Capture and reference (R287 to R289) -/

/-- Frame `m` of tile `t` is in a slot and intact (R114); in FALLBACK none is (R289). -/
def intact (s : State) (t : Fin 4) (m : Nat) : Bool :=
  let every := max 1 (s.rf R.CMP_WB_CTRL 15 8); let slots := s.rf R.CMP_WB_CTRL 5 4 + 1
  s.lampKind != 2 && s.look.wb[t].contains m && (s.frm.kind != 1 || decide (s.frame < m + slots * every))

/-- The distance of network time `x` from the lit interval of frame `m`, where its tick is known. -/
def litDistance (s : State) (x : Int) (m : Nat) : Option Nat :=
  match s.look.ticks.find? (fun p => p.1 == m) with
  | none => none
  | some p =>
    let e : Nat := match s.look.ticks.find? (fun q => q.1 == m + 1) with
      | some q => q.2
      | none => s.ttNs s.nextTick
    some (if x < p.2 then ((p.2 : Int) - x).toNat else if Int.ofNat e ≤ x then (x - Int.ofNat e).toNat else 0)

/-- The reference frame (R289): of the frames intact on every tile of the model, the one lit nearest to t_e, within 2P of it. -/
def chooseRef (s : State) (te : Int) : Option Nat :=
  let ts := (List.finRange 4).filter fun (t : Fin 4) => (model s 23 1).testBit t.val
  match ts with
  | [] => none
  | t :: _ =>
    let c := (s.look.wb[t].filter fun m => ts.all fun u => intact s u m).filterMap fun m => (litDistance s te m).map fun d => (m, d)
    let best := c.foldl (fun (b : Option (Nat × Nat)) p => match b with
      | none => some p
      | some q => if p.2 < q.2 then some p else some q) none
    match best with
    | some (m, d) => if d ≤ 2 * s.period then some m else none
    | none => none

/-- Copy the thumbnails of the reference frame into the work area. -/
def copyRef (m : Nat) (s : State) : State :=
  let every := max 1 (s.rf R.CMP_WB_CTRL 15 8); let slots := s.rf R.CMP_WB_CTRL 5 4 + 1
  s.over ((List.finRange 4).filter fun (t : Fin 4) => (model s 23 1).testBit t.val) fun s t =>
    let n := thumbBytes s t
    (engineWrite .look (thumbAddr s t) (s.ldBytes ((s.rd (R.CMP_WB_BASE t)).toNat + m / every % slots * n) n) s).2

/-- A capture waits for the frame that starts on this stream (R287). -/
def looksAt (s : State) (i : Fin 2) (k : Fin 4) (route : Word) : Bool :=
  s.en P.LOOK && s.pageOn P.LOOK && s.look.want && bitOf route 3 &&
  s.rf R.LOOK_CFG 0 0 == i.val && s.rf R.LOOK_CFG 2 1 == k.val && !(s.vin.frames.toList.any fun f => (f.map (·.look)).getD false)

/-- LOOK begins an image at its Frame Start (R289). -/
def lookStart (fs : Nat) (s : State) : State :=
  let te := (fs : Int) + sw (s.rd R.LOOK_EXP_OFS) * 1000
  let m := chooseRef s te
  let s := s.setLook fun l => { l with want := false, img := [], ref := m, res := (if m.isSome then 0 else 1), copyEnd := s.now + Config.lookCopyTime }
  match m with
  | some n => copyRef n (s.wr R.LOOK_REF_TICK (word n))
  | none => s

/-- A capture is skipped: its frame starts, or its time comes, while an image is in evaluation (R287). -/
def lookSkip (s : State) : State := (s.setLook fun l => { l with want := false }).stAdd (R.STAT P.LOOK 0) 31 16 1

/-- The next capture time of the grid at or after the present (R287): city epoch + m / RATE_HZ. -/
def captureTime (s : State) : Nat := let f := 10 * max 1 (s.rf R.LOOK_CFG 6 4); whenTt s (gridPoint s f (gridFrom s f (s.ttAt s.now)))

/-- A capture time (R287): the next frame is taken, or the capture is counted as skipped while an image is in evaluation. -/
def lookCapture (s : State) : State :=
  if !s.en P.LOOK then s
  else if s.rb (R.STATUS P.LOOK) 1 then lookSkip s
  else s.setLook fun l => { l with want := true }

/-- The effect of a write to LOOK_CMD. -/
def lookCmd (_ w : Word) (s : State) : State := if bitOf w 0 then lookCapture s else s

/-- The window of landmark `l` (R288): 96 × 96 raw values from (X - 32, Y - 32). -/
def lmRaw (s : State) (l : Nat) : List Nat :=
  let o := model s 28 4 + 2064 * l
  let x := (model s o 2 : Int) - 32; let y := (model s (o + 2) 2 : Int) - 32
  (List.range 96).flatMap fun j => (List.range 96).map fun i =>
    if x + i < 0 ∨ y + j < 0 then 0 else (s.look.img.getD (y + j).toNat []).getD (x + i).toNat 0

/-- Columns or rows of part `a` of `n` of a length (R290). -/
def partOf (len n a : Nat) : Nat × Nat := (a * len / max 1 n, (a + 1) * len / max 1 n)

/-- The raw values of region `r`. -/
def regionPixels (s : State) (r : Nat) : List Nat :=
  let rx := model s 8 1
  let x := partOf (model s 4 2) rx (r % max 1 rx); let y := partOf (model s 6 2) (model s 9 1) (r / max 1 rx)
  (List.range (y.2 - y.1)).flatMap fun j => ((s.look.img.getD (y.1 + j) []).drop x.1).take (x.2 - x.1)

/-- What LOOK gathers into its work area (R288): sum, count and saturated count of every region, then the landmark windows. -/
def workArea (s : State) : State :=
  let a := (s.rd R.LOOK_WORK_BASE).toNat
  let sums := (List.range (min 256 (model s 8 1 * model s 9 1))).flatMap fun r =>
    let px := regionPixels s r
    bytesLE 8 (sumOf px id) ++ bytesLE 4 px.length ++ bytesLE 4 (px.filter fun v => decide (model s 14 2 ≤ v)).length
  let wins := (List.range (min 16 (model s 11 1))).flatMap fun l => (lmRaw s l).flatMap (bytesLE 2)
  (engineWrite .look (a + 4096) wins (engineWrite .look a sums s).2).2

/-- A frame that LOOK takes ends (R288): discarded, or in evaluation. -/
def lookEnd (f : VinFrame) (good : Bool) (s : State) : State :=
  if !s.en P.LOOK then s
  else if !good then lookResult 0 3 s
  else if (f.dt ≠ 0x2B ∧ f.dt ≠ 0x2C) ∨ f.lines ≠ model s 6 2 ∨ s.look.img.any (fun l => l.length != model s 4 2) then lookResult 0 2 s
  else (workArea s).wb (R.STATUS P.LOOK) 1 true

/-! ### Frame Start and Frame End -/

/-- A frame ends as errored (R281, R283, R288): LOOK's image with it. -/
def frameBad (i : Fin 2) (k : Fin 4) (f : VinFrame) (s : State) : State :=
  let s := frameErr i k f s
  if f.look then lookEnd f false s else s

/-- A Frame Start before the Frame End of the stream's open frame (R281). -/
def dropFrame (i : Fin 2) (k : Fin 4) (s : State) : State :=
  match s.vframe i k with
  | some f => frameBad i k (f.fail 4) s
  | none => s

/-- A stream begins a frame (R278, R280, R285, R287). -/
def streamStart (i : Fin 2) (k : Fin 4) (num : Nat) (s : State) : State :=
  let s := dropFrame i k s
  let c := s.rd (R.VIN_S_CFG i k); let route := s.rd (R.VIN_S_ROUTE i k)
  let fs := s.ttNs s.now
  let f : VinFrame := ⟨c, route, s.rf (R.VIN_LREQ_DT i) 5 0, none, 0, 0, num % 65536, fs, none, 0, false, false⟩
  let hit := looksAt s i k route
  let look := hit && !s.rb (R.STATUS P.LOOK) 1
  let s := if look then lookStart fs s else if hit then lookSkip s else s
  if !f.image then setFrame i k (some { f with look := look }) s else
  let e := chooseEntry s i k
  let skip := e.isNone && s.rf (R.VIN_S_BUF i k) 25 24 != 0
  let s := if skip then (countSkip i s).irq (P.VIN i) 2 else s
  let f := match e with
    | some x => if wrongForm s f x then f.fail 7 else f
    | none => f
  setFrame i k (some { f with entry := e, look := look, skip := skip }) s

/-- A packet with a non-zero VCX field is discarded and counted (R276). -/
def vcxBad (i : Fin 2) (fixed : Bool) (s : State) : State := (eccFix i fixed s).stAdd (R.VIN_STAT_PKT i) 31 24 1

/-- A Frame Start on virtual channel `vc` (R276, R278, R280). -/
def frameStart (i : Fin 2) (vc : Fin 4) (vcx : Bool) (num : Nat) (fixed : Bool) (s : State) : State :=
  if !vinOn s i then s else
  if vcx then vcxBad i fixed s else
  (eccFix i fixed s).over (List.finRange 4) fun s k =>
    let stale := (openOn s i vc k).isSome
    let c := R.VIN_S_CFG i k
    if s.rb c 0 && s.rf c 2 1 == vc.val then streamStart i k num s
    else if stale then dropFrame i k s else s

/-- A frame ends (R281, R282, R284). -/
def streamEnd (i : Fin 2) (k : Fin 4) (f : VinFrame) (s : State) : State :=
  let f := match f.entry with
    | some e => if f.image && f.lines != (s.buf e).h then f.fail 1 else f
    | none => f
  if f.err != 0 then frameBad i k f s else
  let s := setFrame i k none s
  let s := if f.skip then s else frameMade i k f s
  let s := if !f.image then listDone i f s
    else match f.entry with
      | some e => imageDone i k f e s
      | none => s
  if f.look then lookEnd f true s else s

/-- A Frame End on virtual channel `vc`. -/
def frameEnd (i : Fin 2) (vc : Fin 4) (vcx fixed : Bool) (s : State) : State :=
  if !vinOn s i then s else
  if vcx then vcxBad i fixed s else
  (eccFix i fixed s).over (List.finRange 4) fun s k => match openOn s i vc k with
    | some f => streamEnd i k f s
    | none => s

/-- A long packet (R276 to R284): payload, header corrected, CRC-16 good, line buffer overflowed. -/
def longPacket (i : Fin 2) (vc : Fin 4) (dt : Nat) (vcx fixed crcOk overflow : Bool) (l : List Nat) (s : State) : State :=
  if !vinOn s i then s else
  let s := eccFix i fixed s
  if vcx || !(dtSupported s i dt || (List.finRange 4).any fun k => ((openOn s i vc k).map fun f => f.dt == dt && f.lreq == dt).getD false) then s.stAdd (R.VIN_STAT_PKT i) 31 24 1 else
  let s := if crcOk then s else s.stAdd (R.VIN_STAT_PKT i) 23 16 1
  s.over (List.finRange 4) fun s k =>
    match openOn s i vc k with
    | none => s
    | some f =>
      if f.dt ≠ dt then s else
      let r := if f.image then imageLine i f l s else listBytes i f l s
      let f := if crcOk then r.1 else r.1.fail 2
      let f := if overflow then f.fail 5 else f
      let s := r.2.2
      let s := if f.look then { s with look := { s.look with img := s.look.img ++ [rawLine dt l] } } else s
      let s := if r.2.1 then frameBad i k f s else setFrame i k (some f) s
      raiseIf overflow (Src.VIN_OVERFLOW i) s

/-- A short packet that is accepted and ignored (R276), unless its VCX field is not zero. -/
def shortIgnored (i : Fin 2) (vcx fixed : Bool) (s : State) : State :=
  if !vinOn s i then s else if vcx then vcxBad i fixed s else eccFix i fixed s

/-- The clock lane leaves high-speed mode (R297). -/
def laneStop (i : Fin 2) (s : State) : State := if vinOn s i then s.wb (R.STATUS (P.VIN i)) 4 false else s

/-- The clock lane enters the ultra-low-power state, or leaves it to the stop state (R276, R297): it is not in high-speed mode in either. -/
def ulps (i : Fin 2) (_enter : Bool) (s : State) : State := laneStop i s

/-! ### Evaluation (R291 to R294) -/

/-- A region: measured, ambient, own light, valid and dark, all in U12.4 raw units (R291). -/
structure LookRegion where
  m : Int
  a : Int
  own : Nat
  valid : Bool
  dark : Bool
  deriving DecidableEq, Repr

/-- The weight sum of region `r`. -/
def ownLight (s : State) (r : Nat) : Nat :=
  let n := model s (64 + 8 * r + 3) 1; let first := model s (64 + 8 * r + 4) 4
  (sumOf (List.range n) fun k =>
    let o := model s 24 4 + 8 * (first + k)
    model s (o + 4) 4 * s.ldLE (thumbAddr s (Fin.ofNat 4 (model s (o + 2) 1)) + 2 * model s o 2) 2) / 2 ^ model s 22 1

/-- Region `r` of the image. -/
def lookRegion (s : State) (r : Nat) : LookRegion :=
  let px := regionPixels s r
  let cnt := px.length; let sum := sumOf px id
  let m : Int := if cnt = 0 then 0 else max 0 (((16 * sum + cnt / 2) / cnt : Nat) - 16 * (model s 12 2 : Int))
  let sat := (px.filter fun v => decide (model s 14 2 ≤ v)).length
  let use := (model s (64 + 8 * r + 2) 1).testBit 0
  let own := ownLight s r
  ⟨m, model s (64 + 8 * r) 2, own, use && decide (model s 16 2 ≤ own) && decide (sat ≤ cnt / 16), use && decide (own < model s 18 2)⟩

/-- Fixed point of the correlations and shifts: 2^-24 (R293 is in real numbers). -/
def nccUnit : Nat := 2 ^ 24

/-- Normalised cross-correlation of two equal lists, in units of 2^-24. -/
def ncc (p w : List Nat) : Int :=
  let n : Int := p.length
  let sp : Int := sumOf p id; let sw : Int := sumOf w id
  let spp : Int := sumOf p fun x => x * x; let sww : Int := sumOf w fun x => x * x
  let spw : Int := sumOf (p.zip w) fun q => q.1 * q.2
  let den := ((n * spp - sp * sp) * (n * sww - sw * sw)).toNat
  let num := n * spw - sp * sw
  if den = 0 then 0 else rndDiv (num * nccUnit) (max 1 (isqrt 64 den))

/-- The window of landmark `l` shifted by (sx, sy) from (-32, -32): 32 × 32 values. -/
def lmWindow (s : State) (l sx sy : Nat) : List Nat :=
  let o := model s 28 4 + 2064 * l
  let x := (model s o 2 : Int) - 32 + sx; let y := (model s (o + 2) 2 : Int) - 32 + sy
  (List.range 32).flatMap fun j => (List.range 32).map fun i =>
    if x + i < 0 ∨ y + j < 0 then 0 else (s.look.img.getD (y + j).toNat []).getD (x + i).toNat 0

/-- The reference patch of landmark `l`. -/
def lmPatch (s : State) (l : Nat) : List Nat := (List.range 1024).map fun i => model s (model s 28 4 + 2064 * l + 16 + 2 * i) 2

/-- The offset of a parabola's peak from the middle of three values, in units of 2^-24. -/
def peakOffset (a b c : Int) : Int :=
  let d := a - 2 * b + c
  if d ≥ 0 then 0 else rndDiv ((c - a) * nccUnit) (2 * (-d)).toNat

/-- The shift of landmark `l` in units of 2^-24 pixel, where it is valid (R293). -/
def lmShift (s : State) (l : Nat) : Option (Int × Int) :=
  let p := lmPatch s l
  let at_ := fun (x y : Nat) => if 64 < x ∨ 64 < y then (0 : Int) else ncc p (lmWindow s l x y)
  let best := (List.range 65).foldl (fun (b : Nat × Nat × Int) y => (List.range 65).foldl (fun (b : Nat × Nat × Int) x =>
    let v := at_ x y
    if b.2.2 < v then (x, y, v) else b) b) (0, 0, -(nccUnit : Int))
  let (x, y, v) := best
  if v * 256 < (s.rf R.LOOK_THR_B 23 16 : Int) * nccUnit then none else
  let dx := if x = 0 ∨ x = 64 then 0 else peakOffset (at_ (x - 1) y) v (at_ (x + 1) y)
  let dy := if y = 0 ∨ y = 64 then 0 else peakOffset (at_ x (y - 1)) v (at_ x (y + 1))
  some (((x : Int) - 32) * nccUnit + dx, ((y : Int) - 32) * nccUnit + dy)

/-- Insertion into a rising list. -/
def insSorted (x : Int) : List Int → List Int
  | [] => [x]
  | y :: t => if x ≤ y then x :: y :: t else y :: insSorted x t

/-- The median, the mean of the two middle values for an even count. -/
def median (l : List Int) : Int :=
  let q := l.foldr insSorted []; let n := q.length
  if n = 0 then 0 else if n % 2 = 1 then q.getD (n / 2) 0 else rnd 1 (q.getD (n / 2 - 1) 0 + q.getD (n / 2) 0)

/-- The shift angle of an image in U8.8 degrees with 2^16 more fractional bits. -/
def shiftAngle (s : State) (l : List (Int × Int)) : Nat :=
  let dx := median (l.map (·.1)); let dy := median (l.map (·.2))
  let px := isqrt 80 (dx * dx + dy * dy).toNat
  px * model s 20 2 / 2 ^ 16

/-- One detector after an image (R294): 0 not evaluated, 1 clear, 2 holds. -/
def detect (s : State) (d : Fin 4 × Nat) : State :=
  if d.2 = 0 then s else
  let n := max 1 (s.rf R.LOOK_CFG 15 8)
  let r := s.look.runs[d.1]
  let r := if d.2 = 2 then (r.1 + 1, 0) else (0, r.2 + 1)
  let s := s.setLook fun l => { l with runs := l.runs.set d.1 r }
  if s.rb R.LOOK_ACTIVE d.1 then (if n ≤ r.2 then s.wb R.LOOK_ACTIVE d.1 false else s)
  else if n ≤ r.1 then raise (Src.LOOK_OBSCURED + d.1.val) ((s.wb R.LOOK_ACTIVE d.1 true).irq P.LOOK 1)
  else s

/-- The four detectors and the measurements of an image (R291 to R293). -/
def lookMeasure (s : State) : State :=
  let rs := (List.range (model s 8 1 * model s 9 1)).map (lookRegion s)
  let v := rs.filter (·.valid); let dk := rs.filter (·.dark)
  let n : Int := v.foldl (fun x r => x + (r.m - r.a)) 0
  let dn := sumOf v (·.own)
  let few := decide (v.length < 4) || decide (dn < 4 * model s 16 2) || dn == 0
  let obsc := decide ((s.rf R.LOOK_THR_A 15 0 : Int) * dn < ((dn : Int) - n) * 65536)
  let dev := fun (r : LookRegion) => decide ((s.rf R.LOOK_THR_A 31 16 : Int) * r.own * dn < (((r.m - r.a) * dn - n * r.own).natAbs : Int) * 65536)
  let cracks := (v.filter dev).length
  let strays := (dk.filter fun r => decide ((s.rf R.LOOK_THR_C 15 0 : Int) < r.m - r.a)).length
  let lms := (List.range (model s 11 1)).filterMap (lmShift s)
  let ang := if lms.isEmpty then 0 else shiftAngle s lms
  let code := fun (skip hold : Bool) => if skip then 0 else if hold then 2 else 1
  let d := [code few obsc, code few (decide (s.rf R.LOOK_THR_B 31 24 ≤ cracks)), code dk.isEmpty (decide (s.rf R.LOOK_THR_C 23 16 ≤ strays)),
            code (decide (lms.length < 3)) (decide (s.rf R.LOOK_THR_B 15 0 * 65536 < ang))]
  let loss := if dn = 0 then 0 else enc 16 (satS 16 (rndDiv (((dn : Int) - n) * 16384) dn))
  let s := s.wr R.LOOK_MEAS_A (word (satU 8 strays * 2 ^ 24 + satU 8 cracks * 65536 + loss))
  let s := s.wr R.LOOK_MEAS_B (word (lms.length * 65536 + satU 16 (rnd 16 ang)))
  let s := s.over ((List.finRange 4).map fun (i : Fin 4) => (i, d.getD i.val 0)) detect
  lookResult (d.getD 0 0 + 4 * d.getD 1 0 + 16 * d.getD 2 0 + 64 * d.getD 3 0) 0 (s.stAdd (R.STAT P.LOOK 0) 15 0 1)

/-- The look-back program finishes an image (R290, R295). -/
def lookEval (s : State) : State :=
  if !s.rb (R.STATUS P.LOOK) 1 || s.beamGated then s
  else if !modelOk s then raise Src.LOOK_MODEL_CRC (lookResult 0 4 s)
  else if s.look.res ≠ 0 then lookResult 0 1 s
  else lookMeasure s

/-- The effect of a write to CTRL of LOOK (R296, R298). -/
def lookCtrl (old _ : Word) (s : State) : State :=
  if s.en P.LOOK = bitOf old 0 then s else
  let s := s.setLook fun l => { l with want := false, img := [] }
  let s := if s.en P.LOOK then loadBeam true s (s.rf R.LOOK_BEAM_SEL 2 0) else s
  s.wf (R.STATUS P.LOOK) 1 0 (bit (s.en P.LOOK))

/-- At this tick write-back begins to overwrite the slot of frame `m` (R114). -/
def overwrites (s : State) (m : Nat) : Bool :=
  s.frm.kind == 1 && s.frame == m + (s.rf R.CMP_WB_CTRL 5 4 + 1) * max 1 (s.rf R.CMP_WB_CTRL 15 8)

/-- At a tick LOOK notes its network time (R289); a reference whose slot is overwritten before its copy has ended is lost. -/
def lookTick (s : State) : State :=
  let lost := decide (s.now < s.look.copyEnd) && (s.look.ref.map (overwrites s)).getD false
  s.setLook fun l => { l with ticks := ((s.tickNum, s.ttNs s.now) :: l.ticks).take 1024, res := if lost then 1 else l.res }

end Sys2Proof.Machine
end

