-- ==== Sys2Proof/Machine/Time.lean ====
section
/-! DEFINITION. The servo and the TIME page (R405 to R413, R419 to R422, R444). -/

namespace Sys2Proof.Machine

/-- State of the servo: 0 INIT, 1 ACQUIRE, 2 LOCKED, 3 HOLDOVER, 4 RE_ACQUIRE (R410). -/
def servo (s : State) : Nat := s.rf R.TIME_SERVO_STAT 2 0

/-- LOCKED is reached (R420, R421): the first time an alignment is wanted; in HOLDOVER a small difference is slewed out and a large one is pending. -/
def servoLocked (s : State) : State :=
  let first := !s.tim.everLocked
  let s := s.setTim fun t => { t with everLocked := true, want := t.want || first }
  if tgen s ≠ 2 then s
  else if s.dNs.natAbs ≤ 100000 then enterFollow s
  else if s.rb R.TIME_TGEN_STAT 3 then s
  else raise Src.TIME_STEP_PENDING ((s.wb R.TIME_TGEN_STAT 3 true).irq P.TIME 2)

/-- A servo state change (R410, R419). -/
def setServo (st : Nat) (s : State) : State :=
  let was := servo s
  if st = was then s else
  let s := (s.wr R.TIME_SERVO_STAT (word (s.tick16 * 65536 + st))).irq P.TIME 0
  let s := s.setTim fun t => { t with jumps := 0, integ := if st = 1 then 0 else t.integ }
  let s := if st = 3 then s.setTim fun t => { t with ntRateH := t.ntRate, ntTempH := xoTemp s } else s
  let s := if was = 2 && tgen s == 1 then enterHoldover s else s
  if st = 2 then servoLocked s else s

/-- θ in units of 2^-16 ns (R408). -/
def theta (s : State) : Int := sx 64 ((s.rd R.TIME_MEAS_LO).toNat + 2 ^ 32 * (s.rd R.TIME_MEAS_HI).toNat)

/-- A threshold of the servo in units of 2^-16 ns. -/
def nsUnits (n : Nat) : Int := n * 65536

/-- The servo applies a measurement (R409). -/
def applyMeas (s : State) : State :=
  let th := theta s
  let step := (servo s == 1 || servo s == 4) && decide (nsUnits (s.rf R.TIME_SERVO_THR 15 0 * 1000) < th.natAbs)
  let s := if step then s.setTim fun t => { t with ntOfs := t.ntOfs - th } else s
  let u := if step then 0 else th
  let lim : Int := (s.rd R.TIME_RATE_MAX).toNat
  let clampR := fun (x : Int) => max (-lim) (min x lim)
  let p := rnd 32 ((s.rd R.TIME_KP).toNat * u)
  let i := clampR (s.tim.integ + rnd 32 ((s.rd R.TIME_KI).toNat * u))
  setNtRate (clampR (-(p + i))) ((s.setTim fun t => { t with integ := i }).stAdd (R.STAT P.TIME 0) 15 0 1)

/-- The measurement counts toward LOCK_N (R410). -/
def countLock (s : State) : State :=
  let n := if (theta s).natAbs ≤ nsUnits (s.rf R.TIME_SERVO_THR 31 16) then s.rf R.TIME_SERVO_STAT 15 8 + 1 else 0
  let s := s.wf R.TIME_SERVO_STAT 15 8 (min 255 n)
  if max 1 (s.rf R.TIME_SERVO_THR2 15 8) ≤ n then setServo 2 s else s

/-- TIME_MEAS_CTRL.SUBMIT (R409, R410). -/
def submit (s : State) : State :=
  let s := (s.setTim fun t => { t with lastMeas := s.now, theta := theta s / 65536 }).stw (R.STAT P.TIME 2) (wordS (satS 32 (theta s / 65536)))
  match servo s with
  | 0 => countLock (applyMeas (setServo 1 s))
  | 3 => countLock (applyMeas (setServo 4 s))
  | 2 =>
    if nsUnits (s.rf R.TIME_SERVO_THR2 31 16) < (theta s).natAbs then
      let n := s.tim.jumps + 1
      if n < 3 then (s.setTim fun t => { t with jumps := n }).stAdd (R.STAT P.TIME 0) 31 16 1
      else countLock (applyMeas (setServo 4 s))
    else applyMeas (s.setTim fun t => { t with jumps := 0 })
  | _ => countLock (applyMeas s)

/-- The effect of a write to TIME_MEAS_CTRL (R410). -/
def measCtrl (_ w : Word) (s : State) : State :=
  let s := if bitOf w 0 then submit s else s
  if bitOf w 1 && servo s == 2 then setServo 4 s else s

/-- No measurement for HOLD_TO (R410). -/
def servoHoldover (s : State) : State :=
  let st := servo s
  if (st = 1 ∨ st = 2 ∨ st = 4) ∧ s.tim.lastMeas + s.rf R.TIME_SERVO_THR2 7 0 * 100000000 ≤ s.now then setServo 3 s else s

/-- The record of a step of city time (R484): D in µs when it is taken up. -/
def stepRecord (d : Int) (s : State) : State := auditAdd 3 3 0x13 [] (wordS (satS 32 (d / 1000))).toNat 0 s

/-- The effect of a write to TIME_STEP_CMD (R420, R421): an alignment while dark; while lit a pending difference is slewed out. -/
def stepCmd (_ w : Word) (s : State) : State :=
  if !bitOf w 0 then s
  else if !lampLit s then s.setTim fun t => { t with want := true }
  else if s.rb R.TIME_TGEN_STAT 3 then stepRecord s.dNs (enterFollow (s.setTim fun t => { t with slewAll := true }))
  else s

/-- A new epoch (R422): it takes effect through an alignment at the next tick. -/
def epochWrite (_ _ : Word) (s : State) : State := if tgen s = 0 then s else s.setTim fun t => { t with align := true }

/-- NT in the servo's HOLDOVER runs on the held rate with the compensation of R392; D at the tick and the last θ are latched (R444). -/
def ntTick (s : State) : State :=
  let s := if servo s = 3 then setNtRate (heldRate s s.tim.ntRateH s.tim.ntTempH) s else s
  (s.stw (R.STAT P.TIME 1) (wordS (satS 32 s.dNs))).stw (R.STAT P.TIME 2) (wordS (satS 32 s.tim.theta))

/-! ### Transmit timestamps (R413) -/

/-- Show the queue's fill; IRQ bit 3 stands while it is not empty. -/
def showTsq (s : State) : State := (s.wf R.TIME_TSQ_STAT 5 0 s.tim.tsq.length).irqIf (!s.tim.tsq.isEmpty) P.TIME 3

/-- A departure timestamp: tag, port and NT in ns. -/
def tsqPush (tag port ts : Nat) (s : State) : State :=
  if 32 ≤ s.tim.tsq.length then raise Src.TS_QUEUE_OVF ((s.wb R.TIME_TSQ_STAT 8 true).irq P.TIME 4)
  else showTsq (s.setTim fun t => { t with tsq := t.tsq ++ [(tag, port, ts)] })

/-- A read of TIME_TSQ_HDR pops the oldest entry and latches its timestamp. -/
def tsqPop (s : State) : State :=
  match s.tim.tsq with
  | [] => s.wr R.TIME_TSQ_HDR 0#32
  | (tag, port, ts) :: rest =>
    let s := (s.setTim fun t => { t with tsq := rest }).wr R.TIME_TSQ_HDR (word (tag % 65536 * 65536 + port % 4 * 256 + 1))
    showTsq ((s.wr R.TIME_TSQ_TS_LO (word ts)).wr R.TIME_TSQ_TS_HI (word (ts / 2 ^ 32)))

/-- What a read of a TIME register computes before its value is given (R444): the low word and the latched high word of the same instant. -/
def timeRead (a : Nat) (s : State) : State :=
  let c := s.cntAt s.now; let tt := s.ttNs s.now; let nt := s.ntNs s.now
  if a = R.TIME_CNT_LO then (s.wr R.TIME_CNT_LO (word c)).wr R.TIME_CNT_HI (word (c / 2 ^ 32))
  else if a = R.TIME_NOW_LO then (s.wr R.TIME_NOW_LO (word tt)).wr R.TIME_NOW_HI (word (tt / 2 ^ 32))
  else if a = R.TIME_NT_FRAC then
    ((s.wr R.TIME_NT_FRAC (word (s.ntAt s.now % 65536).toNat)).wr R.TIME_NT_LO (word nt)).wr R.TIME_NT_HI (word (nt / 2 ^ 32))
  else if a = R.TIME_TSQ_HDR then tsqPop s
  else if a = R.TIME_D ∨ a = R.TIME_TGEN_STAT then showTime s
  else s

end Sys2Proof.Machine
end

