-- ==== Sys2Proof/Machine/Network.lean ====
section
/-! DEFINITION. Ports, the switch, ring redundancy, PTP correction, peer delay and the wake beacon (R397 to R415, R435, R446, R447). -/

namespace Sys2Proof.Machine

/-- Update the network state. -/
def State.setNet (s : State) (f : NetSt → NetSt) : State := { s with net := f s.net }

/-- Update port `p`. -/
def State.setPort (s : State) (p : Fin 3) (f : PortSt → PortSt) : State := s.setNet fun n => { n with port := n.port.set p (f n.port[p]) }

/-- Page of port `p`: T1LA, T1LB, SGMII. -/
abbrev portPage (p : Fin 3) : Nat := P.PORT p

/-- The port runs: powered, EN, link up. -/
def portUp (s : State) (p : Fin 3) : Bool := s.pageOn (portPage p) && s.en (portPage p) && s.rb (R.PORT_LINK p) 0

/-- The port is a ring port of an MRP client (R403). -/
def ringPort (s : State) (p : Fin 3) : Bool :=
  decide (p.val < 2) && s.rb R.SW_MRP_CFG 0 && s.rb (R.PORT_CFG 0) 8 && s.rb (R.PORT_CFG 1) 8

/-- MRP state of a ring port: 0 DISABLED, 1 BLOCKED, 2 FORWARDING. -/
def mrpState (s : State) (p : Fin 3) : Nat := s.rf (R.PORT_MRP_STAT p) 1 0

/-- Set the MRP state (R447, IRQ RING_PORT on any change). -/
def setMrp (p : Fin 3) (st : Nat) (s : State) : State := if mrpState s p = st then s else (s.wf (R.PORT_MRP_STAT p) 1 0 st).irq P.SWITCH 2

/-- The port forwards every frame. -/
def forwarding (s : State) (p : Fin 3) : Bool := portUp s p && (!ringPort s p || mrpState s p == 2)

/-- A PTP frame. -/
def isPtp (f : NetFrame) : Bool := match f.kind with
  | .ptpSync => true
  | .ptpPdelay => true
  | .ptpResp => true
  | .ptpAnnounce _ _ _ => true
  | .ptpOther => true
  | _ => false

/-- A peer-delay message. -/
def isPdelay (f : NetFrame) : Bool := f.kind == .ptpPdelay || f.kind == .ptpResp

/-- The MRP domain of SW_MRP_DOMAIN (R403, R447): bytes 4w to 4w + 3 in word w. -/
def mrpDomain (s : State) : Nat := sumOf (List.range 4) fun w => (s.rd (R.SW_MRP_DOMAIN w)).toNat * 2 ^ (32 * w)

/-- An MRP frame of the device's domain. -/
def isMrp (s : State) (f : NetFrame) : Bool := match f.kind with
  | .mrpTest d => d == mrpDomain s
  | .mrpLink d _ => d == mrpDomain s
  | .mrpTopology d _ => d == mrpDomain s
  | _ => false

/-- An MRP frame of any domain. -/
def isMrpAny (f : NetFrame) : Bool := match f.kind with
  | .mrpTest _ => true
  | .mrpLink _ _ => true
  | .mrpTopology _ _ => true
  | _ => false

/-- Port `p` sends frame `f`: it forwards, or it is BLOCKED and the frame is one that passes there (R404). -/
def passes (s : State) (f : NetFrame) (p : Fin 3) : Bool :=
  forwarding s p || (portUp s p && mrpState s p == 1 && (isMrpAny f || isPdelay f))

/-- The MRP state of the T1L ports after a change of what makes them ring ports (R403, R404): DISABLED while the link is down, FORWARDING 80 ms after link
up, BLOCKED before. A port that is no ring port shows 0. -/
def ringChanged (_ _ : Word) (s : State) : State :=
  s.over [(0 : Fin 3), 1] fun s p =>
    if !ringPort s p || !s.rb (R.PORT_LINK p) 0 then setMrp p 0 s
    else if s.net.port[p].upAt + 80000000 ≤ s.now then setMrp p 2 s
    else if mrpState s p = 0 then setMrp p 1 s else s

/-- A group address: the lowest bit of the first byte. -/
def isGroup (mac : Nat) : Bool := mac.testBit 40

/-- The egress queue of a frame (R401). -/
def queueOf (f : NetFrame) : Fin 4 :=
  if isPtp f || isMrpAny f then 3 else match f.pcp with
    | none => 1
    | some c => if 4 ≤ c.val then 2 else if 2 ≤ c.val then 1 else 0

/-- A frame joins a port's queue. -/
def enqueue (p : Fin 3) (e : Egress) (s : State) : State :=
  s.setPort p fun x => { x with q := x.q.set (queueOf e.frame) (x.q[queueOf e.frame] ++ [e]) }

/-- The device's MAC address. -/
def ownMac (s : State) : Nat := (s.rd R.NET_MAC_LO).toNat + 2 ^ 32 * s.rf R.NET_MAC_HI 15 0

/-- Show the number of learned addresses. -/
def showFdb (s : State) : State := s.wr R.SW_FDB_CNT (word s.net.fdb.length)

/-- Learn the source address at a port (R400): a full database learns nothing new. -/
def learn (p : Fin 3) (mac : Nat) (s : State) : State :=
  if !s.rb R.SW_CFG 16 || isGroup mac then s
  else if s.net.fdb.any fun e => e.1 == mac then
    s.setNet fun n => { n with fdb := n.fdb.map fun e => if e.1 = mac then (mac, p.val, s.now) else e }
  else if 1024 ≤ s.net.fdb.length then s.irq P.SWITCH 1
  else showFdb (s.setNet fun n => { n with fdb := n.fdb ++ [(mac, p.val, s.now)] })

/-- The port a frame goes to: 3 is NETE; none for every forwarding port but its own (R400). -/
def destination (s : State) (f : NetFrame) : Option Nat :=
  if isGroup f.dst then none else if f.dst = ownMac s then some 3 else (s.net.fdb.find? fun e => e.1 == f.dst).map fun e => e.2.1

/-- Deliver a frame to NETE, with the time of its arrival (R411). -/
def deliverNet (p : Fin 3) (ts : Nat) (f : NetFrame) (s : State) : State := s.setNet fun n => { n with rx := some (f, p.val, ts) }

/-- Forward or deliver a frame (R400). -/
def forward (p : Fin 3) (ts : Nat) (f : NetFrame) (s : State) : State :=
  let e : Egress := ⟨f, some (p.val, ts), none⟩
  let out := (List.finRange 3).filter fun (q : Fin 3) => q != p && passes s f q && (match destination s f with | none => true | some d => d == q.val)
  let s := s.over out fun s q => enqueue q e s
  let s := if out.isEmpty then s else s.stAdd (R.STAT P.SWITCH 0) 31 0 1
  match destination s f with
  | none => deliverNet p ts f s
  | some d => if d = 3 then deliverNet p ts f s else s

/-- The other ring port. -/
def otherRing (p : Fin 3) : Fin 3 := if p.val = 0 then 1 else 0

/-- An MRP frame of the domain at a ring port (R404): passed to the other ring port; a topology change is counted, opens BLOCKED ports and sets the flush. -/
def mrpRx (p : Fin 3) (ts : Nat) (f : NetFrame) (s : State) : State :=
  let o := otherRing p
  let s := if portUp s o then (enqueue o ⟨f, some (p.val, ts), none⟩ s).stAdd (R.STAT P.SWITCH 0) 31 0 1 else s
  match f.kind with
  | .mrpTopology _ ms =>
    let s := ((s.stAdd (R.STAT P.SWITCH 1) 15 0 1).irq P.SWITCH 0).wr R.SW_MRP_STAT
      (word (satAdd 16 (s.rf R.SW_MRP_STAT 31 16) 1 * 65536 + s.tick16))
    let s := s.setNet fun n => { n with flushAt := some (s.now + ms * 1000000) }
    s.over (List.finRange 3) fun s q => if ringPort s q && mrpState s q == 1 then setMrp q 2 s else s
  | _ => s

/-- The storm limit (R402): whether the frame is dropped. -/
def storm (p : Fin 3) (f : NetFrame) (s : State) : Bool × State :=
  if !isGroup f.dst || isPtp f || isMrpAny f then (false, s) else
  let w := s.now / 100000000
  let n := if s.net.port[p].window = w then s.net.port[p].count else 0
  if s.rf (R.PORT_STORM p) 15 0 / 10 ≤ n then
    (true, ((s.setPort p fun x => { x with window := w, count := n }).stAdd (R.STAT (portPage p) 2) 15 0 1).irq (portPage p) 3)
  else (false, s.setPort p fun x => { x with window := w, count := n + 1 })

/-- A peer-delay message of the device, of a kind (R414): to the address of IEEE 1588 that bridges do not forward. -/
def pdelayFrame (s : State) (k : FrameKind) : NetFrame := ⟨0x0180C200000E, ownMac s, 68, true, none, k, s.net.domain, 0, 0, none⟩

/-- The port answers a Pdelay_Req that arrived at `ts` (R414), in every MRP state. -/
def answerPdelay (p : Fin 3) (ts : Nat) (s : State) : State :=
  if s.rb (R.PORT_CFG p) 12 then enqueue p ⟨pdelayFrame s .ptpResp, some (p.val, ts), none⟩ s else s

/-! ### The best master (R410, R417) -/

/-- announceReceiptTimeout of 3 intervals of 1 s has not run out since `t`. -/
def announceFresh (s : State) (t : Nat) : Bool := decide (s.now < t + 3000000000)

/-- A dataset comes before another: by the grandmaster's fields, then stepsRemoved, then the sender's identity (IEEE 1588; PRESUMED, log entry 201). -/
def better (a b : Nat × Nat × Nat) : Bool :=
  decide (a.1 < b.1) || (a.1 == b.1 && (decide (a.2.1 < b.2.1) || (a.2.1 == b.2.1 && decide (a.2.2 < b.2.2))))

/-- The parent (R417): the port and grandmaster of the best Announce heard in time, where the device's own dataset is not better; a device that is slave-only
has none. -/
def bestParent (s : State) : Option (Nat × Nat) :=
  let l := (List.finRange 3).filterMap fun p => match s.net.port[p].announce with
    | some (d, t) => if announceFresh s t && portUp s p then some (p.val, d) else none
    | none => none
  let best := l.foldl (fun (m : Option (Nat × Nat × Nat × Nat)) x => match m with
    | some y => if better x.2 y.2 then some x else m
    | none => some x) none
  match best, s.net.own with
  | some x, some o => if better o x.2 then none else some (x.1, x.2.1)
  | some x, none => some (x.1, x.2.1)
  | none, _ => none

/-- NETE looks at its parent (R410): a change of port or grandmaster while the servo is LOCKED makes it acquire again. -/
def parentCheck (s : State) : State :=
  match bestParent s with
  | none => s
  | some x =>
    let moved := s.net.parent.isSome && s.net.parent != some x
    let s := s.setNet fun n => { n with parent := some x }
    if moved && servo s == 2 then setServo 4 s else s

/-- An Announce of the domain arrives (R417). -/
def announceRx (p : Fin 3) (f : NetFrame) (s : State) : State :=
  match f.kind with
  | .ptpAnnounce r n i => if f.domain = s.net.domain then parentCheck (s.setPort p fun x => { x with announce := some ((r, n, i), s.now) }) else s
  | _ => s

/-- A frame arrives at a port (R399 to R404, R411, R414). -/
def portRx (p : Fin 3) (f : NetFrame) (s : State) : State :=
  if !portUp s p then s
  else if !f.good || decide (1522 < f.len) then s.stAdd (R.STAT (portPage p) 0) 31 16 1
  else
    let s := s.stAdd (R.STAT (portPage p) 0) 15 0 1
    let ts := s.ntNs s.now - s.rf (R.PORT_LAT p) 15 0
    let d := storm p f s
    if d.1 then d.2
    else
      let s := d.2
      if ringPort s p && mrpState s p != 2 && !(isMrpAny f || isPdelay f) then s
      else if ringPort s p && isMrp s f then mrpRx p ts f s
      else if isPdelay f then deliverNet p ts f (if f.kind = .ptpPdelay then answerPdelay p ts s else s)
      else announceRx p f (forward p ts f (learn p f.src s))

/-- The FCS of a frame that the port modifies is computed anew, and its UDP checksum is 0 (R412). -/
def remade (f : NetFrame) : NetFrame := { f with good := true, udp := f.udp.map fun _ => 0 }

/-- A departing frame as its port modifies it at the time `tx` of NT (R412), `none` where it does not, as a message of another domain (R417): a Sync
forwarded between ports has the residence
time, the ingress port's peer delay and asymmetry added to its correctionField, in 2^-16 ns; the device's own Sync carries its originTimestamp; a
Pdelay_Resp has the turnaround time. -/
def modified (tx : Nat) (e : Egress) (s : State) : Option NetFrame :=
  let f := e.frame
  if f.domain ≠ s.net.domain then none else
  match f.kind, e.from_ with
  | .ptpSync, some (q, ts) =>
    some (remade { f with corr := f.corr + ((tx - ts : Nat) : Int) * 65536 + ((s.rd (R.PORT_MLD q)).toNat * 256 : Nat) + sw (s.rd (R.PORT_ASYM q)) * 256 })
  | .ptpSync, none => some (remade { f with origin := tx })
  | .ptpResp, some (_, ts) => some (remade { f with corr := f.corr + ((tx - ts : Nat) : Int) * 65536 })
  | _, _ => none

/-- The time of NT at which a frame departs port `p` now (R412). -/
def departure (p : Fin 3) (s : State) : Nat := s.ntNs s.now + s.rf (R.PORT_LAT p) 31 16

/-- A frame as it departs. -/
def corrected (p : Fin 3) (e : Egress) (s : State) : NetFrame := (modified (departure p s) e s).getD e.frame

/-- A frame that NETE posts at P3 (R400, R413, R414), with the TAG of its request: an MRP frame or a peer-delay message at port `p`, any other by its
destination, and to every forwarding port where that is not known. -/
def netePost (p : Fin 3) (f : NetFrame) (tag : Option Nat) (s : State) : State :=
  if isMrpAny f || isPdelay f then s.when (passes s f p) (enqueue p ⟨f, none, tag⟩)
  else
    let out := (List.finRange 3).filter fun (q : Fin 3) => forwarding s q && (match destination s f with | none => true | some d => d == q.val)
    let s := s.over out fun s q => enqueue q ⟨f, none, tag⟩ s
    if out.isEmpty then s else s.stAdd (R.STAT P.SWITCH 0) 31 0 1

/-- The frame of MRP_LinkChange, to the address of IEC 62439-2 for it. -/
def linkChangeFrame (s : State) (up : Bool) : NetFrame := ⟨0x01154E000002, ownMac s, 64, true, none, .mrpLink (mrpDomain s) up, 0, 0, 0, none⟩

/-- The repetitions of MRP_LinkChange that are due at port `p` (R404). -/
def linkAgain (p : Fin 3) (s : State) : State :=
  let due := s.net.port[p].again.filter fun x => decide (x.1 ≤ s.now)
  let s := s.over due fun s x => enqueue p ⟨linkChangeFrame s x.2, none, none⟩ s
  s.setPort p fun x => { x with again := x.again.filter fun y => !decide (y.1 ≤ s.now) }

/-- The frame of a queue that departs: its first, and from a port that does not forward the first that passes there (R404, log entry 189). -/
def departs (s : State) (p : Fin 3) (k : Fin 4) : Option Egress := s.net.port[p].q[k].find? fun e => passes s e.frame p

/-- A frame departs (R404, R412, R413): of the highest queue that holds one that may; `post` is a frame that NETE posts first, with the TAG of its request. -/
def portTx (p : Fin 3) (post : Option (NetFrame × Option Nat)) (s : State) : State :=
  let s := match post with
    | some (f, tag) => netePost p f tag s
    | none => s
  if !portUp s p then s else
  let s := linkAgain p s
  match [(3 : Fin 4), 2, 1, 0].find? fun k => (departs s p k).isSome with
  | none => s
  | some k =>
    match departs s p k with
    | none => s
    | some e =>
      let f := corrected p e s
      let s := s.setPort p fun x => { x with q := x.q.set k (x.q[k].erase e), sent := some f }
      let s := s.stAdd (R.STAT (portPage p) 1) 31 0 1
      let s := if (modified (departure p s) e s).isSome then s.stAdd (R.STAT (portPage p) 3) 31 16 1 else s
      match e.tag with
      | some tag => tsqPush tag p (departure p s) s
      | none => s


/-- SPEED of a link that came up at the partner's `speed` (R397, R398, R446): 10 Mbit/s on T1L, what the mode gives on SGMII. -/
def linkSpeed (s : State) (p : Fin 3) (speed : Nat) : Nat :=
  let m := s.rf (R.PORT_CFG p) 2 1
  if p.val ≠ 2 then 0 else if m = 1 then 2 else if m = 2 then 3 else min 2 speed

/-- AMP_2V4 and MASTER of a T1L link (R397, R446): as auto-negotiation chose them, or as MODE and ROLE force them. -/
def linkForced (s : State) (p : Fin 3) (amp master : Bool) : Bool × Bool :=
  let m := s.rf (R.PORT_CFG p) 2 1; let r := s.rf (R.PORT_CFG p) 4 3
  if p.val = 2 then (false, false)
  else (if m = 1 then true else if m = 2 then false else amp, if r = 1 then true else if r = 2 then false else master)

/-- A ring port's link has gone `up` or down (R404): MRP_LinkChange goes to the other ring port, and is repeated there as the profile requires. -/
def linkTell (p : Fin 3) (up : Bool) (s : State) : State :=
  let r := Config.mrpRepeat (s.rf R.SW_MRP_CFG 1 1)
  let s := if portUp s p then enqueue p ⟨linkChangeFrame s up, none, none⟩ s else s
  s.setPort p fun x => { x with again := (List.range (r.1 - 1)).map fun k => (s.now + (k + 1) * r.2 * 1000000, up) }

/-- A port's link goes up or down (R397, R404, R429, R446). -/
def portLink (p : Fin 3) (up : Bool) (speed : Fin 4) (amp master : Bool) (sqi : Fin 8) (s : State) : State :=
  if !s.pageOn (portPage p) || (up && !s.en (portPage p)) then s else
  let was := s.rb (R.PORT_LINK p) 0
  let fm := linkForced s p amp master
  let v := if up then 1 + 2 * linkSpeed s p speed + 8 * bit fm.1 + 16 * bit fm.2 + 256 * sqi.val else 0
  let s := s.wr (R.PORT_LINK p) (word v)
  if was = up then s else
  let s := if up then (s.irq (portPage p) 0).setNet fun n => { n with upAt := if (List.finRange 3).any fun q => q != p && portUp s q then n.upAt else some s.now }
    else s.irq (portPage p) 1
  let s := s.setPort p fun x => { x with upAt := s.now, lost := 0 }
  let s := if ringPort s p then linkTell (otherRing p) up (setMrp p (if up then 1 else 0) s) else s
  if up then s else raise (Src.PORT_LINK_DOWN p) s

/-- The topology-change interval has run out (R404). -/
def mrpFlush (s : State) : State :=
  match s.net.flushAt with
  | some t => if t ≤ s.now then showFdb ((s.setNet fun n => { n with fdb := [], flushAt := none }).stAdd (R.STAT P.SWITCH 1) 31 16 1) else s
  | none => s

/-- 80 ms after link up a BLOCKED ring port is FORWARDING (R404). -/
def mrpTimeout (p : Fin 3) (s : State) : State :=
  if ringPort s p && mrpState s p == 1 && decide (s.net.port[p].upAt + 80000000 ≤ s.now) then setMrp p 2 s else s

/-- A learned address ages out (R400). -/
def fdbAge (mac : Nat) (s : State) : State :=
  let age := s.rf R.SW_CFG 15 0 * 10 ^ 9
  showFdb (s.setNet fun n => { n with fdb := n.fdb.filter fun e => !(e.1 == mac && decide (e.2.2 + age ≤ s.now)) })

/-- The effect of a write to SW_FLUSH (R447). -/
def swFlush (_ w : Word) (s : State) : State :=
  if bitsOf w 3 0 = 0 then s else
  showFdb ((s.setNet fun n => { n with fdb := n.fdb.filter fun e => !bitOf w e.2.1 }).stAdd (R.STAT P.SWITCH 1) 31 16 1)

/-- The peer-delay interval in ns: 2^LOG_INT s, LOG_INT from -3 to 4 (R414). -/
def pdInterval (s : State) (p : Fin 3) : Nat := let l := max (-3) (min 4 (sx 8 (s.rf (R.PORT_PD_CFG p) 7 0))); 2 ^ (l + 3).toNat * 125000000

/-- A peer-delay exchange (R414): the port sends its Pdelay_Req; the sample is in U24.8 ns, or none where no valid response came. -/
def pdelay (p : Fin 3) (delta : Option Nat) (s : State) : State :=
  let due := match s.net.port[p].reqAt with
    | none => true
    | some t => decide (t + pdInterval s p ≤ s.now)
  if !portUp s p || !s.rb (R.PORT_CFG p) 12 || !due then s else
  let s := enqueue p ⟨pdelayFrame s .ptpPdelay, none, none⟩ (s.setPort p fun x => { x with reqAt := some s.now })
  let st := R.PORT_PD_STAT p
  match delta with
  | some d =>
    let m := (s.rd (R.PORT_MLD p)).toNat; let k := min 8 (s.rf (R.PORT_PD_CFG p) 11 8)
    let v := if s.net.port[p].sample then (m : Int) + rnd k ((d : Int) - m) else d
    let s := s.setPort p fun x => { x with lost := 0, sample := true }
    ((s.wr (R.PORT_MLD p) (word (satU 32 v))).wf st 1 0 1).stAdd (R.STAT (portPage p) 3) 15 0 1
  | none =>
    let n := s.net.port[p].lost + 1
    let s := (s.setPort p fun x => { x with lost := n }).wf st 31 16 (satAdd 16 (s.rf st 31 16) 1)
    if n = 3 then raise (Src.PD_FAIL p) ((s.wf st 1 0 2).irq (portPage p) 2) else s

/-- Bytes 0 to 11 of a beacon (R435). -/
def beaconBytes (h : BeaconHead) (time : Nat) : List Nat := bytesLE 2 h.magic ++ bytesLE 2 h.group ++ bytesLE 8 time

/-- The tag of a beacon verifies (R435, R455): under the key of a VALID slot among the wake group keys (log entry 190). -/
def beaconTag (h : BeaconHead) (time : Nat) (tag : List Nat) (s : State) : Bool :=
  [8, 9, 10, 11, 12, 13, 14, 15].any fun k =>
    s.rb (R.SEC_KEY_META k) 31 && decide (tag = (gcmSeal (s.slotKey k) (beaconBytes h time) (beaconBytes h time) []).2)

/-- The frame is a wake beacon to the device (R435): its destination, EtherType and MAGIC. -/
def isBeacon (h : BeaconHead) (s : State) : Bool :=
  h.dst == (s.rd R.NET_WAKE_MAC_LO).toNat + 2 ^ 32 * s.rf R.NET_WAKE_MAC_HI 15 0 && h.ether == 0x88B5 && h.magic == 0x4257

/-- A wake beacon (R435). -/
def wakeBeacon (h : BeaconHead) (time : Nat) (tag : List Nat) (s : State) : State :=
  let tt := s.ttNs s.now
  let near := decide (time ≤ tt + 2000000000) && decide (tt ≤ time + 2000000000)
  let ours := isBeacon h s && (h.group == 0xFFFF || h.group == s.rf R.NET_WAKE_CFG 31 16)
  if s.pageOn P.NET && s.rb R.NET_WAKE_CFG 0 && ours && near && decide (s.net.beacon < time) && beaconTag h time tag s then
    wake 2 ((s.setNet fun n => { n with beacon := time }).irq P.NET 2)
  else s

end Sys2Proof.Machine
end

