-- ==== Sys2Proof/Machine/Checks.lean ====
section
/-! DEFINITION. The checks of a staged configuration: each member block's own (R40) and SAFE's. They read the machine `n` as it would be after the
commit, beside the machine `s` before it. Of several failures of one block the first in the order INVALID, LINEBUF, BANDWIDTH is reported (log
entry 46). -/

namespace Sys2Proof.Machine

/-- The register at `a` as it would be live after a commit of the staged copies `copy` of pages `ms`. -/
def cand (ms : List Nat) (copy : List (Nat × Word)) (s : State) (a : Nat) : Word :=
  if ms.contains (pageOf a) then
    let m := maskOf RegDef.rws a
    (s.rd a &&& ~~~m) ||| (sget (regDefault a) a copy &&& m)
  else s.rd a

/-- The live register after a commit: RWS fields from the staged copy, the others as they are (R42). -/
def commitReg (ms : List Nat) (copy : List (Nat × Word)) (s : State) (a : Nat) : State := s.wr a (cand ms copy s a)

/-- Make the staged copies of a group's pages live (R42), the pattern constants among them (R273). -/
def applyCopy (gr : Group) (s : State) : State :=
  let keys := (skeep (fun a => isReg a && gr.members.contains (pageOf a)) s.regs).map (·.1) ++ gr.copy.map (·.1)
  let s := s.over keys (commitReg gr.members gr.copy)
  if gr.members.contains P.PAT then { s with pat := { s.pat with k := gr.kCopy } } else s

/-! ### Timing and links -/

/-- The commit changes the timing mode. -/
def rateChanges (n s : State) : Bool := n.rate10 != s.rate10

/-- Swap guard and timing, whose change brings the link checks (R182, R192). -/
def paceChanges (n s : State) : Bool := rateChanges n s || n.rd R.SCN_TIMING != s.rd R.SCN_TIMING || n.rd R.SCN_SWAP_GUARD != s.rd R.SCN_SWAP_GUARD

/-- A tile whose link is UP needs more than the period less `us` µs (R191, R192). -/
def linkTight (us : Nat) (n : State) : Bool :=
  (List.finRange 4).any fun t => n.linkUp t && linkOver (n.lw t * n.lh t) (n.rPay t) us n.rate10

/-- The mask engine's timing check fails (R182). -/
def glareTight (n : State) : Bool :=
  n.rb R.GLM_CFG 0 && linkTight (n.rf R.SCN_SWAP_GUARD 9 0 + n.rf R.GLM_TIMING 9 0 + 15 * n.rf R.GLM_TIMING 25 16) n

/-- 2^GN_LOG2 × P exceeds 1.0 s (R252). -/
def groupsSlow (n : State) : Bool := decide (n.rate10 < 10 * 2 ^ n.rf R.DRV_PROBE_CFG 3 0)

/-! ### The fetch demand (R33) -/

/-- A point in units of 1/256 texel. -/
abbrev TexPt := Int × Int

/-- Point `x` lies in the quadrilateral of `p` with corners in turn, or on its edge: a ray from it crosses the outline an odd number of times. A cell
whose corners coincide holds that one point. -/
def inQuad (p : TexPt × TexPt × TexPt × TexPt) (x : TexPt) : Bool :=
  let edges := [(p.1, p.2.1), (p.2.1, p.2.2.1), (p.2.2.1, p.2.2.2), (p.2.2.2, p.1)]
  let side := fun (a b : TexPt) => (b.1 - a.1) * (x.2 - a.2) - (b.2 - a.2) * (x.1 - a.1)
  let on := fun (e : TexPt × TexPt) => side e.1 e.2 == 0 && decide (min e.1.1 e.2.1 ≤ x.1) && decide (x.1 ≤ max e.1.1 e.2.1) &&
    decide (min e.1.2 e.2.2 ≤ x.2) && decide (x.2 ≤ max e.1.2 e.2.2)
  let crosses := fun (e : TexPt × TexPt) =>
    (decide (e.1.2 ≤ x.2) && decide (x.2 < e.2.2) && decide (0 < side e.1 e.2)) ||
    (decide (e.2.2 ≤ x.2) && decide (x.2 < e.1.2) && decide (side e.1 e.2 < 0))
  edges.any on || (edges.filter crosses).length % 2 == 1

/-- The footprint of tile `t` on layer `l`: the mesh cells whose four points are VALID, or the tile's part of the array for a layer in array
coordinates (R74, R124, R125). -/
def footCell (n : State) (t : Fin 4) (l : Fin 8) (i j : Nat) : Option (TexPt × TexPt × TexPt × TexPt) :=
  let pt := fun (p : Place) => ((p.i * 256 + p.fx, p.j * 256 + p.fy) : TexPt)
  if n.rb (R.LYR_CFG l) 1 then
    let at_ := fun (u v : Nat) => pt (placeOf n t l 0 0 u v)
    if i = 0 ∧ j = 0 then some (at_ 0 0, at_ (n.tw t - 1) 0, at_ (n.tw t - 1) (n.th t - 1), at_ 0 (n.th t - 1)) else none
  else
    let m := fun (i j : Nat) => meshPt n t i j
    let at_ := fun (p : MeshPt) => pt (placeOf n t l p.x p.y 0 0)
    let a := m i j; let b := m (i + 1) j; let c := m (i + 1) (j + 1); let d := m i (j + 1)
    if a.valid && b.valid && c.valid && d.valid then some (at_ a, at_ b, at_ c, at_ d) else none

/-- The texels of an image of `w` by `h` that lie in a cell's box and in the cell. -/
def cellTexels (w h : Nat) (q : TexPt × TexPt × TexPt × TexPt) : List (Int × Int) :=
  let xs := [q.1.1, q.2.1.1, q.2.2.1.1, q.2.2.2.1]; let ys := [q.1.2, q.2.1.2, q.2.2.1.2, q.2.2.2.2]
  let span := fun (l : List Int) (n : Nat) =>
    let lo := max 0 (l.foldl min (l.headD 0) / 256); let hi := min (n - 1 : Int) (l.foldl max (l.headD 0) / 256)
    (List.range (hi - lo + 1).toNat).map fun (k : Nat) => lo + k
  (span ys h).flatMap fun y => ((span xs w).map fun x => (x, y)).filter fun p => inQuad q (256 * p.1, 256 * p.2)

/-- How many bits of `x` are 1. -/
def bitCount (x : Nat) : Nat := ((List.range (x.log2 + 1)).filter x.testBit).length

/-- Texels of layer `l` that the footprint of tile `t` covers (R33): those whose place lies in some cell, each once, kept as one bit map per row. -/
def texelsUnder (n : State) (t : Fin 4) (l : Fin 8) (e : BufEntry) : Nat :=
  let cells := (List.range 64).flatMap fun j => (List.range 64).filterMap fun i => footCell n t l i j
  let rows := (cells.flatMap (cellTexels e.w e.h)).foldl (fun m p => sset 0 p.2.toNat (sget 0 p.2.toNat m ||| 2 ^ p.1.toNat) m) []
  sumOf rows fun r => bitCount r.2

/-- The fetch demand of pipe `t` exceeds 49.2 GB/s (R33), in units of 1/80 byte per second. -/
def demandOver (n : State) (t : Fin 4) : Bool :=
  let layers := sumOf (List.finRange 8) fun l =>
    match (if n.rb (R.LYR_CFG l) 0 && n.rb (R.LYR_CFG l) (16 + t) then curBuf n l else none) with
    | some e => texelsUnder n t l e * fmtBits e.fmt * 10 / 8
    | none => 0
  n.tileOn t && decide (80 * 49200000000 < n.rate10 * (layers + 33 * (n.tw t * n.th t) + 8 * (4225 * 16 + 16 * (tileRepairs n t).length)))

/-- Some pipe's demand is over. -/
def fetchOver (n : State) : Bool := (List.finRange 4).any (demandOver n)

/-! ### Loops (R304, R308, R324, R334) -/

/-- The sample rate of loop `k` in 0.1 Hz. -/
def sampleRate (n : State) (k : Fin 16) : Nat := spf n k * n.rate10

/-- The SPF field as it is written, 0 included. -/
def spfField (n : State) (k : Fin 16) : Nat := n.rf (R.CTL_LOOP_SPF k) 14 0

/-- R304: a sample rate that is not allowed. -/
def rateBad (n : State) (k : Fin 16) : Bool :=
  spfField n k == 0 || decide (20000 < spf n k) || (decide (2 ≤ spf n k) && (decide (sampleRate n k < 10000) || decide (20000000 < sampleRate n k)))

/-- R308: the engine's load, or a loop's time to its first computation. -/
def macOver (n : State) : Bool :=
  let on := (List.finRange 16).filter (loopWanted n)
  decide (2400000000 < sumOf on fun k => macCount n k * sampleRate n k) ||
  on.any fun k => decide (40000000000 < (24 * n.rf (R.CTL_LOOP_SPF k) 24 16 + 2000) * sampleRate n k)

/-- `d` at a limit of `step` per sample lasts longer than 100 ms (R324). -/
def rampSlow (n : State) (k : Fin 16) (d : Int) (step : Nat) : Bool :=
  decide (0 < d) && (step == 0 || decide (sampleRate n k < 100 * cdiv d.toNat step))

/-- R324 for a SUPPLY loop. -/
def holdSlow (n : State) (k : Fin 16) : Bool :=
  n.rf (R.CTL_LOOP_CFG k) 3 1 == 1 &&
  (rampSlow n k (sw (n.rd (R.CTL_LOOP_SP_MAX k 0)) - sw (n.rd (R.CTL_LOOP_HOLD_SP k 0))) (n.rd (R.CTL_LOOP_FALL k 0)).toNat ||
   rampSlow n k (sw (n.rd (R.CTL_LOOP_HOLD_SP k 0)) - sw (n.rd (R.CTL_LOOP_SP_MIN k 0))) (n.rd (R.CTL_LOOP_RISE k 0)).toNat)


/-- R334 for a loop that would run. -/
def adcBad (n : State) (k : Fin 16) : Bool :=
  loopWanted n k &&
  ((adcNamed n k 0).any (fun c => n.rf (R.ADC_CH_CFG c) 1 0 != 1) || (adcNamed n k 1).any (fun c => n.rf (R.ADC_CH_CFG c) 1 0 == 0) ||
   (List.finRange 16).any fun j => j != k && loopWanted n j && (adcNamed n k 0).any fun c => (adcNamed n j 0).contains c)

/-- The capture buffer that a commit sets does not lie wholly in retention SRAM (R328). -/
def captureBad (n s : State) (k : Fin 16) : Bool :=
  let a := (n.rd (R.CTL_LOOP_CAP_BASE k)).toNat; let len := n.rf (R.CTL_LOOP_CAP_LEN k) 16 0
  (n.rd (R.CTL_LOOP_CAP_BASE k) != s.rd (R.CTL_LOOP_CAP_BASE k) || n.rd (R.CTL_LOOP_CAP_LEN k) != s.rd (R.CTL_LOOP_CAP_LEN k)) &&
  !(a % 8 == 0 && regionOf a == .ret && regionOf (a + 8 * len - 1) == .ret)

/-- Fields of a loop page outside their ranges (R299 to R336). -/
def loopInvalid (n s : State) (k : Fin 16) : Bool :=
  let cfg := n.rd (R.CTL_LOOP_CFG k); let inj := n.rd (R.CTL_LOOP_INJ_CFG k); let len := n.rf (R.CTL_LOOP_CAP_LEN k) 16 0
  rateBad n k || bitsOf cfg 25 24 == 3 || decide (3 < bitsOf cfg 3 1) || (bitsOf cfg 25 24 == 2 && (decide (3 < k.val) || decide (10240 < spf n k))) ||
  decide (spfField n k ≤ n.rf (R.CTL_LOOP_RC_LEAD k) 13 0) || (bitsOf cfg 3 1 == 3 && spfField n k != 1) || holdSlow n k ||
  n.rf (R.CTL_LOOP_PLAUS k) 15 0 == 0 ||
  (List.range 4).any (fun i => decide (4 < n.rf (R.CTL_LOOP_MSRC k i) 2 0) || decide (16 < n.rf (R.CTL_LOOP_MSRC k i) 20 16) ||
    n.rf (R.CTL_LOOP_FF_CFG k i) 1 0 == 3) ||
  bitsOf inj 1 0 == 3 || decide (bitsOf inj 12 8 < 7) || decide (23 < bitsOf inj 12 8) || n.rb (R.CTL_LOOP_INJ_AMP k) 31 ||
  decide (3 < n.rf (R.CTL_LOOP_CAP_CFG k) 27 25) || len == 0 || decide (65536 < len) || decide (len < n.rf (R.CTL_LOOP_CAP_POST k) 16 0) ||
  captureBad n s k || adcBad n k

/-- PWM (R332, R337). -/
def pwmInvalid (n : State) : Bool :=
  (List.finRange 16).any fun (o : Fin 16) =>
    let c := n.rd (R.PWM_CFG o); let k : Fin 16 := Fin.ofNat 16 (bitsOf c 7 4)
    decide (n.rf (R.PWM_PERIOD o) 19 0 < 42) ||
    (bitOf c 0 && (bitOf c 10 || bitOf c 1) && !loopWanted n k) || (bitOf c 0 && bitOf c 10 && decide (nu n k ≤ bitsOf c 9 8))

/-! ### Pixel path -/

/-- The pre-scaler's configuration (R85, R89, R90, and its crop window). A FREE entry has no format to match and counts as any other combination (log
entry 139). -/
def sclInvalid (n : State) (k : Fin 4) : Bool :=
  let c := n.rd (R.SCL_CFG k); let filt := bitsOf c 17 16; let h := bitsOf c 14 11; let v := bitsOf c 10 8
  let tap := fun (x : Nat) => x == 1 || filt == 2 || x == (if filt = 0 then 2 else 4)
  let src := n.buf (n.rf (R.SCL_SRC k) 7 0); let a := n.buf (n.rf (R.SCL_DST k) 7 0); let b := n.buf (n.rf (R.SCL_DST k) 15 8)
  let fmt := if bitOf c 18 then 1 else 0
  let w := n.rf (R.SCL_CROP_WH k) 14 0; let hh := n.rf (R.SCL_CROP_WH k) 30 16
  let step := fun (x : Nat) => decide (0x400 ≤ x) && decide (x ≤ 0x80000)
  filt == 3 || !([1, 2, 4, 8].contains h && tap h) || !([1, 2, 4, 6].contains v && tap v) ||
  !step (n.rf (R.SCL_STEP_H k) 23 0) || !step (n.rf (R.SCL_STEP_V k) 23 0) ||
  !([0, 1, 5, 6, 7].contains src.fmt) || src.state == .free || a.state == .free || b.state == .free || a.fmt != fmt || b.fmt != fmt || a.w != b.w || a.h != b.h ||
  (src.fmt == 0 && fmt == 1) || w == 0 || hh == 0 ||
  decide (src.w < n.rf (R.SCL_CROP_XY k) 14 0 + w) || decide (src.h < n.rf (R.SCL_CROP_XY k) 30 16 + hh)

/-- The line buffer (R91). -/
def lineBuf (n : State) (k : Fin 4) : Bool := decide (1 < n.rf (R.SCL_CFG k) 10 8) && decide (4096 < n.rf (R.SCL_CROP_WH k) 14 0)

/-- The rectangles of a tile (R203). -/
def rectInvalid (n : State) (t : Fin 4) : Bool :=
  let w := (n.tileSize t).1; let h := (n.tileSize t).2
  let on := (List.range 16).filter fun r => n.rb (R.SCN_RECT_EN t) r
  let wid := fun (r : Nat) => n.rf (R.SCN_RECT_SIZE t r) 9 0 + 1; let hei := fun (r : Nat) => n.rf (R.SCN_RECT_SIZE t r) 25 16 + 1
  on.any (fun r => decide (w < n.rf (R.SCN_RECT_POS t r) 9 0 + wid r) || decide (h < n.rf (R.SCN_RECT_POS t r) 25 16 + hei r)) ||
  decide (65536 < sumOf (on.filter fun r => n.rb (R.SCN_RECT_CFG t r) 0) fun r => wid r * hei r)

/-- The sub-slot table (R244), the probe groups (R252) and the functions (R260). -/
def drvInvalid (n : State) : Bool :=
  let order := (List.range 64).map fun k => n.rf (R.DRV_SEQ_ORDER (k / 4)) (8 * (k % 4) + 7) (8 * (k % 4))
  let m := n.rf R.DRV_SEQ_CFG 21 16
  !((List.range 64).all fun k => order.contains k) || m == 0 || decide (32 < m) || groupsSlow n || decide (8 < n.rf R.DRV_PROBE_CFG 3 0) ||
  (List.finRange 32).any fun (f : Fin 32) =>
    n.rf (R.DRV_FN_CFG f) 15 8 == 0 || decide (n.rf (R.DRV_FN_WIN_I f) 31 16 < n.rf (R.DRV_FN_WIN_I f) 15 0) ||
    decide (n.rf (R.DRV_FN_WIN_J f) 31 16 < n.rf (R.DRV_FN_WIN_J f) 15 0)

/-- The field that a pattern output names: kind, layer and palette entry (R272). -/
def patTarget (w : Word) : Nat × Nat × Nat := (bitsOf w 3 1, bitsOf w 6 4, if bitsOf w 3 1 = 3 ∨ bitsOf w 3 1 = 4 then bitsOf w 15 8 else 0)

/-- The outputs of the pattern sequencers (R272). -/
def patInvalid (n : State) : Bool :=
  let outs := (List.finRange 16).flatMap fun (q : Fin 16) => (List.finRange 4).map fun (o : Fin 4) => n.rd (R.PAT_OUT q o)
  let on := (outs.filter fun w => bitOf w 0).map patTarget
  outs.any (fun w => decide (4 < bitsOf w 3 1)) || decide (on.dedup.length < on.length)

/-- The streams of a receiver (R278, R297). -/
def vinInvalid (n : State) (i : Fin 2) : Bool :=
  let cfg := fun (k : Fin 4) => n.rd (R.VIN_S_CFG i k)
  let on := (List.finRange 4).filter fun (k : Fin 4) => bitOf (cfg k) 0
  let ids := on.map fun k => (bitsOf (cfg k) 2 1, bitsOf (cfg k) 13 8)
  let lreq := n.rf (R.VIN_LREQ_DT i) 5 0
  (List.finRange 4).any (fun k => decide (1 < bitsOf (cfg k) 17 16)) || decide (lreq < 0x30) || decide (0x37 < lreq) || decide (ids.dedup.length < ids.length) ||
  on.any fun k => !dtSupported n i (bitsOf (cfg k) 13 8) || (bitsOf (cfg k) 17 16 == 1) != (bitsOf (cfg k) 13 8 == 0x12) ||
    (bitsOf (cfg k) 17 16 == 0 && n.rf (R.VIN_S_BUF i k) 25 24 == 0 && !n.rb (R.VIN_S_ROUTE i k) 3)

/-- What the look-back engine needs while LOOK EN is 1 (R296): an engine of its own, and thumbnails of its decimation for its tiles. -/
def lookNeeds (n : State) : Bool :=
  !n.en P.LOOK || !(n.rb R.GLM_BEAM_SEL (n.rf R.LOOK_BEAM_SEL 2 0) || n.rf R.CMP_WB_CTRL 1 0 != 2 || model n 10 1 != 4 * 2 ^ n.rf R.CMP_WB_CTRL 3 2 ||
    (List.range 4).any fun t => (model n 23 1).testBit t && !n.rb R.CMP_WB_CTRL (16 + t))

/-- The look-back engine (R287, R296). -/
def lookInvalid (n : State) : Bool :=
  let r := n.rf R.LOOK_CFG 6 4
  n.rf R.LOOK_CFG 15 8 == 0 || r == 0 || decide (4 < r) || !lookNeeds n

/-- The mask engine's tables and engines (R182, R189, R190). -/
def glmInvalid (n s : State) : Bool :=
  let glare := n.rb R.GLM_CFG 0 != s.rb R.GLM_CFG 0 || n.rd R.GLM_TIMING != s.rd R.GLM_TIMING
  let engines := ((List.range 8).filter fun b => n.rb R.GLM_BEAM_SEL b).length
  let tiles := ((List.range 4).filter fun t => n.rb R.SCN_ARR (8 + t)).length
  n.rf R.GLM_SOFT 15 0 == 0 || decide (64 < n.rf R.GLM_TABLE_CNT 6 0) || decide (128 < n.rf R.GLM_TABLE_CNT 23 16) || (glare && glareTight n) ||
  (n.rb R.GLM_CFG 0 && decide (engines < tiles))

/-- The ledger (R355, R362). -/
def nrgInvalid (n : State) : Bool :=
  decide (n.rf R.NRG_MIS_CFG 31 16 < 100) || decide (0x8000 < n.rf R.NRG_FLOOR1 15 0) || decide (1439 < n.rf R.NRG_PLAN_CFG 10 0) ||
  decide (65536 + 48 < sumOf (List.range 48) fun k => n.rf (R.NRG_PLAN k) 15 0)

/-- The scan-out (R192, R197, R238), with what a new timing mode brings in other blocks. -/
def scnInvalid (n s : State) : Bool :=
  let g := n.rf R.SCN_SWAP_GUARD 9 0; let m := n.rf R.SCN_TIMING 2 0; let r := n.rf R.SCN_TIMING 28 16
  decide (4 < m) || (m == 4 && (decide (r < 1000) || decide (4800 < r))) || n.rf R.SCN_SYNC 1 0 == 3 || decide (g < 30) || decide (500 < g) ||
  n.rf R.SCN_SYNC_OUT 15 8 == 0 || (paceChanges n s && glareTight n) ||
  (rateChanges n s && (groupsSlow n || (List.finRange 16).any fun k => rateBad n k || holdSlow n k))

/-- INVALID, LINEBUF or BANDWIDTH: the first that holds. -/
def verdict3 (invalid linebuf bandwidth : Bool) : Nat := if invalid then 8 else if linebuf then 4 else if bandwidth then 5 else 0

/-- The own check of page `p`: 0, or the result code of R47. -/
def ownCheck (p : Nat) (n s : State) : Nat :=
  if p = P.SCN then verdict3 (scnInvalid n s) false ((paceChanges n s && linkTight (n.rf R.SCN_SWAP_GUARD 9 0) n) || (rateChanges n s && (macOver n || fetchOver n)))
  else if P.SCNT 0 ≤ p ∧ p ≤ P.SCNT 3 then verdict3 (rectInvalid n (Fin.ofNat 4 (p - P.SCNT 0))) false false
  else if p = P.CMP then verdict3 (n.rf R.CMP_WB_CTRL 1 0 == 3 || n.rf R.CMP_WB_CTRL 3 2 == 3 || !lookNeeds n) false false
  else if P.LYR 0 ≤ p ∧ p ≤ P.LYR 7 then
    let l := p - P.LYR 0
    verdict3 (decide (4 < n.rf (R.LYR_CFG l) 4 2) || n.rd (R.LYR_INV_PITCH_X l) == 0#32 || n.rd (R.LYR_INV_PITCH_Y l) == 0#32) false (fetchOver n)
  else if P.SCL 0 ≤ p ∧ p ≤ P.SCL 3 then let k : Fin 4 := Fin.ofNat 4 (p - P.SCL 0); verdict3 (sclInvalid n k) (lineBuf n k) false
  else if P.WRPT 0 ≤ p ∧ p ≤ P.WRPT 3 then
    let a := (n.rd (R.WRP_MESH_BASE (p - P.WRPT 0))).toNat
    verdict3 (!(a % 64 == 0 && regionOf a == .main && regionOf (a + 67599) == .main)) false (fetchOver n)
  else if P.PHOT 0 ≤ p ∧ p ≤ P.PHOT 3 then verdict3 false false (fetchOver n)
  else if p = P.GLM then verdict3 (glmInvalid n s) false false
  else if p = P.DRV then verdict3 (drvInvalid n) false false
  else if p = P.PAT then verdict3 (patInvalid n) false false
  else if p = P.VIN 0 ∨ p = P.VIN 1 then verdict3 (vinInvalid n (Fin.ofNat 2 (p - P.VIN 0))) false false
  else if p = P.LOOK then verdict3 (lookInvalid n) false false
  else if P.CTLK 0 ≤ p ∧ p ≤ P.CTLK 15 then verdict3 (loopInvalid n s (Fin.ofNat 16 (p - P.CTLK 0))) false (macOver n)
  else if p = P.PWM then verdict3 (pwmInvalid n) false false
  else if p = P.ADC then
    verdict3 ((List.range 16).any (fun c => n.rf (R.ADC_CH_CFG c) 1 0 == 3 || (n.rb (R.ADC_CH_CFG c) 2 && decide (c < 10))) ||
      (List.finRange 16).any (adcBad n)) false false
  else if p = P.NRG then verdict3 (nrgInvalid n) false false
  else if p = P.DALI then verdict3 (decide (n.rf R.DALI_XCHK_WIN 31 16 < 600) || n.rf R.DALI_XCHK_WIN 7 0 == 0) false false
  else if p = P.THM then verdict3 (n.rf R.THM_HYST 7 0 == 0 || decide (20 < n.rf R.THM_HYST 7 0)) false false
  else if p = P.CLK then verdict3 (n.rf R.CLK_XO_CFG 5 4 == 3) false false
  else 0

/-- SAFE's check rejects page `p` (R263, R265). -/
def safeRejects (p : Nat) (n s : State) : Bool :=
  if P.SCNT 0 ≤ p ∧ p ≤ P.SCNT 3 then
    let t := p - P.SCNT 0
    (List.range 16).any fun r =>
      let f := n.rf (R.SCN_RECT_CFG t r) 15 8
      decide (0x20 ≤ f) && decide (f ≤ 0xFE) && n.rd (R.SCN_RECT_CFG t r) != s.rd (R.SCN_RECT_CFG t r)
  else if p = P.DRV ∨ (P.LYR 0 ≤ p ∧ p ≤ P.LYR 7) then
    (List.range 32).any fun f => decide (0 < n.rf (R.DRV_FN_CFG f) 23 16) && n.rf (R.LYR_CFG (n.rf (R.DRV_FN_CFG f) 3 1)) 9 8 == 0
  else false

end Sys2Proof.Machine
end

