-- ==== Sys2Proof/Machine/Commit.lean ====
section
/-! DEFINITION. The commit coordinator (R38 to R48): staging, cancelling, validating and applying commit groups. -/

namespace Sys2Proof.Machine

/-- The pages of group `g` whose COMMIT.DIRTY is 1 (R39). -/
def dirtyPages (g : Nat) (s : State) : List Nat :=
  (List.range 256).filter fun p => (pageDef p).isSome && s.rb (R.COMMIT p) 8 && s.rf (R.COMMIT p) 3 0 == g

/-- How many ticks from now A of R41 is, the first tick that lies at least G after now. -/
def ticksToA (s : State) : Nat := if s.now + s.guardNs ≤ s.nextTick then 1 else 2

/-- TICK_NUM of A (R41). -/
def firstTick (s : State) : Nat := s.nextNum + (ticksToA s - 1)

/-- The target tick T of group `g` (R48). -/
def targetOf (g : Nat) (s : State) : Nat := (s.rd (R.SYS_CG_TARGET_LO g)).toNat + 2 ^ 32 * (s.rd (R.SYS_CG_TARGET_HI g)).toNat

/-- R41: the tick at which a group applies or ends, whether it ends EXPIRED, and whether it is LATE. -/
def decideTick (next : Bool) (runLate : Bool) (t a : Nat) : Nat × Bool × Bool :=
  if next then (a, false, false)
  else if a ≤ t then (t, false, false)
  else if a - t ≤ 4 then (a, false, true)
  else if runLate then (a, false, true)
  else (a, true, false)

/-- An ARM of group `g` (R39, R41, R44, R47): an ARM while staged is ignored and sets REFUSED. A group that applies at A waits for that tick, whatever
number it gets; one that applies at its target waits for the first tick whose number reaches it (R420, log entry 134). -/
def armGroup (g : Fin 16) (s : State) : State :=
  if s.sys.groups[g].staged then s.wb (R.SYS_CG_STAT g) 6 true else
  let ms := dirtyPages g s
  let d := decideTick (s.rb (R.SYS_CG_CTRL g) 2) (s.rb (R.SYS_CG_CTRL g) 3) (targetOf g s) (firstTick s)
  let byA := s.rb (R.SYS_CG_CTRL g) 2 || decide (targetOf g s < firstTick s)
  let gr : Group := ⟨true, false, d.1, if byA then ticksToA s else 0, d.2.1, d.2.2, ms, ms.filter fun p => !s.answers p,
    skeep (fun a => ms.contains (pageOf a)) s.shadow, s.pat.kSh⟩
  let s := s.over ms (fun s p => (s.wb (R.COMMIT p) 8 false).wb (R.COMMIT p) 9 true)
  let s := { s with sys := { s.sys with groups := s.sys.groups.set g gr } }
  ((s.wb (R.SYS_CG_STAT g) 6 false).wb (R.SYS_CG_STAT g) 4 true).wb R.SYS_CG_ARMED g true

/-- The cancel limit of a staged group has not passed (R44): now is at or before its tick minus G. -/
def mayCancel (g : Fin 16) (s : State) : Bool := !(s.sys.groups[g]).dueNext s || decide (s.now + s.guardNs ≤ s.nextTick)

/-- The effect of a write to SYS_CG_CTRL(g) (R44): CANCEL first, then ARM; an ignored CANCEL makes the ARM ignored too. -/
def cgCtrl (g : Fin 16) (_ w : Word) (s : State) : State :=
  if bitOf w 1 && s.sys.groups[g].staged then
    if mayCancel g s then
      let s := cancelGroup g 0 s
      if bitOf w 0 then armGroup g s else s
    else if bitOf w 0 then s.wb (R.SYS_CG_STAT g) 6 true else s
  else if bitOf w 0 then armGroup g s else s

/-- A member's own check, with BLOCK_OFF where its clock or power was off at staging (R40, R47). -/
def memberCheck (gr : Group) (n s : State) (p : Nat) : Nat := if gr.off.contains p then 9 else ownCheck p n s

/-- The lowest page of a list that satisfies `f` (R40, REJECTOR). -/
def lowest (f : Nat → Bool) (l : List Nat) : Nat := (l.filter f).foldl min 255

/-- The validation of a staged group (R40): every member's own check, then SAFE's verdict `rejects` beside the checks the spec names. -/
def validate (g : Fin 16) (rejects : List Nat) (s : State) : State :=
  let gr := s.sys.groups[g]
  if !gr.staged || gr.passed then s else
  let n := applyCopy gr s
  let own := memberCheck gr n s
  if gr.members.any (fun p => own p != 0) then
    let rej := lowest (fun p => own p != 0) gr.members
    endGroup g (own rej) false rej (fun p => if own p = 0 then 6 else own p) s
  else
    let bad := fun p => rejects.contains p || safeRejects p n s
    if gr.members.any bad then
      endGroup g 3 false (lowest bad gr.members) (fun p => if bad p then 3 else 6) s
    else { s with sys := { s.sys with groups := s.sys.groups.set g { gr with passed := true } } }

/-- Group `g` at the present tick (R40 to R42): one with a member without clocks waits (R364); a group due now is validated if it has not been, then applied or ended EXPIRED. A target that TICK_NUM
has passed makes it LATE (R47). -/
def tickGroup (s : State) (g : Fin 16) : State :=
  let gr := s.sys.groups[g]
  if !gr.staged then s else
  if gr.members.any fun p => !s.pageOn p then s else
  if !gr.dueNow s then { s with sys := { s.sys with groups := s.sys.groups.set g { gr with wait := gr.wait - 1 } } } else
  if gr.expires then endGroup g 2 false 0 (fun _ => 2) s else
  let s := validate g [] s
  if !(s.sys.groups[g]).passed then s else
  endGroup g 1 (gr.late || (gr.wait == 0 && decide (gr.applyAt < s.tickNum))) 0 (fun _ => 1) (applyCopy gr s)

/-- Every commit group at the present tick (R42). -/
def tickGroups (s : State) : State := s.over (List.finRange 16) tickGroup

end Sys2Proof.Machine
end

