-- ==== Sys2Proof/Machine/Update.lean ====
section
/-! DEFINITION. Images, updates and rollback (R459 to R466): the update states, activation, trial and confirmation. -/

namespace Sys2Proof.Machine

/-- Update the update state. -/
def State.setUpd (s : State) (f : UpdSt → UpdSt) : State := { s with upd := f s.upd }

/-- STATE of SEC_UPD_STAT: 0 IDLE, 1 RECEIVING, 2 STAGED, 3 ACTIVATING, 4 TRIAL. -/
def updState (s : State) : Nat := s.rf R.SEC_UPD_STAT 2 0

/-- Show the update's state and result (R498). -/
def updShow (st result : Nat) (s : State) : State :=
  ((s.wf R.SEC_UPD_STAT 2 0 st).wf R.SEC_UPD_STAT 7 4 result).wf R.SEC_UPD_STAT 31 16 s.tick16

/-! ### The commands of R463 -/

/-- UPD_BEGIN (R463, R545): erases the target. Answers a Waord status: 0 OK, 2 BAD, 3 BUSY. -/
def updBegin (type len : Nat) (s : State) : Nat × State :=
  if updState s ≠ 0 then (3, updShow (updState s) 3 s)
  else
    let k := 1 - copyInUse type s
    let p := imagePlace type k s
    if 2 < type ∨ p.2 < 5696 + len ∨ imageCap type < len then (2, s)
    else
      let wiped := if type = 1 then (0, s.put p.1 (List.replicate p.2 0xFF))
        else txSubmit 5 true (p.1 % 0x20000000) (List.replicate p.2 0) none .imageByte s
      if wiped.1 ≠ 0 then (3, s)
      else (0, updShow 1 0 (wiped.2.setUpd fun u => { u with type := type, copy := k, len := len, ver := 0, act := none }))

/-- UPD_DATA (R463): bytes at an offset of the target. -/
def updData (ofs : Nat) (l : List Nat) (s : State) : Nat × State :=
  if updState s ≠ 1 then (3, updShow (updState s) 3 s)
  else if 5696 + s.upd.len < ofs + l.length then (2, s)
  else
    let p := imagePlace s.upd.type s.upd.copy s
    if s.upd.type = 1 then (0, s.put (p.1 + ofs) (l.zipIdx.map fun x => x.1 &&& s.ldN (p.1 + ofs + x.2)))
    else
      let r := txSubmit 5 true (p.1 % 0x20000000 + ofs) l none .imageByte s
      if r.1 = 0 then (0, r.2) else (3, s)

/-- UPD_VERIFY (R463). -/
def updVerify (s : State) : Nat × State :=
  if updState s ≠ 1 then (3, updShow (updState s) 3 s)
  else
    let c := imageCheck s.upd.type s.upd.copy s
    let s := (s.irq P.SEC3 0).setUpd fun u => { u with ver := c.2.2 }
    if c.1 then
      let s := s.setUpd fun u => { u with roll := c.2.1 }
      (0, updShow 2 1 (s.wr (R.SEC_IMG_VER (imageIndex s.upd.type s.upd.copy)) (word c.2.2)))
    else (2, imageFail s.upd.type s.upd.copy (updShow 0 2 s))

/-- UPD_ACTIVATE (R464): the tick, none for NOW, and FORCE under maker rights. -/
def updActivate (tick : Option Nat) (force : Bool) (s : State) : Nat × State :=
  if updState s ≠ 2 then (3, updShow (updState s) 3 s)
  else (0, updShow 3 0 (s.setUpd fun u => { u with act := some (tick.getD (s.tickNum + 1), force) }))

/-- UPD_ABORT (R463): the target is left invalid, its MAGIC cleared (log entry 198). -/
def updAbort (s : State) : Nat × State :=
  if updState s ≠ 1 ∧ updState s ≠ 2 then (3, updShow (updState s) 3 s)
  else
    let p := imagePlace s.upd.type s.upd.copy s
    if s.upd.type = 1 then (0, updShow 0 0 (s.put p.1 [0, 0, 0, 0]))
    else
      let r := txSubmit 5 true (p.1 % 0x20000000) [0, 0, 0, 0] none .imageByte s
      if r.1 = 0 then (0, updShow 0 0 r.2) else (3, s)

/-- The trial may be confirmed (R465): ADAPTIVE or STANDALONE has been reached, or the image runs in QUARANTINE, where neither can be (log entry 95). -/
def trialReached (s : State) : Bool := s.upd.reached || quarantined s

/-- UPD_CONFIRM (R465): the trial becomes permanent and its rollback counter is raised; refused with BUSY after expiry, outside TRIAL, and before ADAPTIVE or
STANDALONE has been reached. -/
def updConfirm (s : State) : Nat × State :=
  if updState s ≠ 4 ∨ s.upd.failed ∨ trialReached s = false then (3, updShow (updState s) 3 s)
  else
    let type := s.nv.trial / 4
    let b := if type = 1 then 1 else if type = 0 then 2 else 4
    let act := s.nv.active ^^^ b
    let s := countersTx (.mainSlot act 0) (s.setNv fun n => { n with active := act, trial := 0 })
    let s := otpRaise (imageCounter type) s.upd.roll s
    (0, (updShow 0 5 (s.wb R.SEC_BOOT_STAT 5 false)).irq P.SEC3 0)

/-! ### Activation, trial, rollback (R464, R465) -/

/-- SAFE resets into the trial image: the trial is armed in COUNTERS before the reset. -/
def resetInto (s : State) : State := chipReset 4 0 (s.setNv fun n => { n with trial := 4 * s.upd.type + 1 })

/-- The failed trial's reset: the previous image boots next. -/
def resetBack (s : State) : State := chipReset 4 0 (s.setNv fun n => { n with trial := n.trial / 4 * 4 + 3 })

/-- A pending activation, or the reset after a failed trial, whose tick has come (R464, R465): only while the lamp is dark, unless FORCE is set; in SLEEP and
below it waits for the wake. -/
def activation (s : State) : State :=
  if 2 ≤ pwrState s then s
  else match s.upd.act with
    | some (t, force) => if updState s = 3 ∧ t ≤ s.tickNum ∧ (!lampLit s || force) then resetInto s else s
    | none => if s.upd.failed && !lampLit s then resetBack s else s

/-- CONFIRM_S has passed since the boot into TRIAL (R465): the trial is marked failed, and the device resets once the lamp is dark. -/
def confirmExpiry (s : State) : State :=
  if updState s ≠ 4 ∨ s.upd.failed ∨ s.now < s.upd.trialAt + s.rf R.SEC_UPD_CFG 15 0 * 10 ^ 9 then s
  else
    let f := s.nv.trial / 4 * 4 + 3
    let s := countersTx (.mainSlot s.nv.active f) (s.setUpd fun u => { u with failed := true })
    if lampLit s then s else resetBack s

/-- The boot takes copy `k` of an image type: a trial begins, or an earlier trial has been rolled back (R465). -/
def bootImage (type k : Nat) (c : Bool × Nat × Nat) (s : State) : State :=
  let s := s.wr (R.SEC_IMG_VER (imageIndex type k)) (word c.2.2)
  let s := if type = 1 then s.wb R.SEC_BOOT_STAT 0 (k == 1) else if type = 0 then s.wb R.SEC_BOOT_STAT 8 (k == 1) else s
  let ph := if s.nv.trial / 4 = type then s.nv.trial % 4 else 0
  if ph = 1 ∧ k = bootCopy type s then
    let s := s.setNv fun n => { n with trial := 4 * type + 2 }
    let s := s.setUpd fun u => { u with type := type, copy := k, roll := c.2.1, ver := c.2.2, trialAt := s.now, failed := false, reached := false }
    updShow 4 0 (s.wb R.SEC_BOOT_STAT 5 true)
  else if ph ≠ 0 then
    auditAdd 3 3 8 [] 0x0807 c.2.2 (updShow 0 4 (countersTx (.mainSlot s.nv.active 0) (s.setNv fun n => { n with trial := 0 })))
  else s

end Sys2Proof.Machine
end

