-- ==== Sys2Proof/Machine/Modes.lean ====
section
/-! DEFINITION. Operating modes (R569 to R577) and commissioning (R578, R579). -/

namespace Sys2Proof.Machine

/-- Update the SYS state. -/
def State.setSys (s : State) (f : SysSt → SysSt) : State := { s with sys := f s.sys }

/-- The mode in force. -/
def modeNow (s : State) : Nat := s.rf R.SYS_MODE 3 0

/-- FLT_ERR.ACTIVE. -/
def errActive (s : State) : Bool := s.rb R.FLT_ERR 0

/-- THM STATUS.CRITICAL. -/
def thmCritical (s : State) : Bool := s.rb (R.STATUS P.THM) 11



/-- STATE of session entry `i`: 0 FREE, 1 HANDSHAKE, 2 OPEN, 3 CLOSING. -/
def sessState (s : State) (i : Nat) : Nat := s.ldN (sessAddr s i) % 4

/-- A session to a segment head is OPEN. -/
def headOpen (s : State) : Bool := s.ses.sess.any fun p => p.2.head.isSome && sessState s p.1 == 2

/-! ### Requests (R571, R572) -/

/-- The table of R572: 0 where the transition and the right it names stand, 2 TRANSITION, 3 RIGHT, 12 LIFECYCLE. -/
def transition (q : ModeReq) (s : State) : Nat :=
  let m := modeNow s; let t := q.mode
  let run := fun x => decide (2 ≤ x) && decide (x ≤ 5)
  let site := fun x => x == 1 || x == 6
  let special := q.rights.testBit 6 && (q.role == 0 || q.role == 1)
  if m = 7 then 2
  else if run m && run t then (if q.rights.testBit 5 || t == 4 || t == 5 then 0 else 3)
  else if run m && site t then (if special then 0 else 3)
  else if (m == 4 || m == 5) && t == 0 then (if !special || q.role != 0 then 3 else if 2 ≤ s.nv.lifecycle then 12 else 0)
  else if (m == 0 || site m) && (run t || site t) then (if special then 0 else 3)
  else if m == 0 && t == 0 then (if special && q.role == 0 then 0 else 3)
  else 2

/-- Every tile of TILE_EN is UP. -/
def tilesUp (s : State) : Bool := (List.finRange 4).all fun t => !s.rb R.SCN_ARR (8 + t) || s.linkUp t

/-- Why a request is refused, in the order of R571; 0 for none. -/
def modeRefusal (q : ModeReq) (s : State) : Nat :=
  let r := transition q s
  let t := if modeNow s = 3 ∧ s.dark ∧ q.mode = 2 then 3 else q.mode
  if r ≠ 0 then r
  else if t = 4 ∨ t = 5 then 0
  else if 2 ≤ pwrState s then 4
  else if errActive s then 5
  else if thmCritical s then 6
  else if t = 2 ∨ t = 3 then
    if !s.rb R.SYS_MODE 9 then 7
    else if !ttValid s then 8
    else if !(s.en P.CMP && s.en P.PHO && tilesUp s) then 9
    else if t = 2 ∧ !headOpen s then 10 else 0
  else 0

/-- Show a result (R580), with the tick. -/
def modeResult (r : Nat) (s : State) : State := (s.wf R.SYS_MODE_STAT 3 0 r).wf R.SYS_MODE_STAT 31 16 s.tick16

/-- A refused request: its reason, and IRQ bit 4. -/
def modeRefused (r : Nat) (s : State) : State := (modeResult r s).irq P.SYS 4

/-- Show the pending request (R575). -/
def showModePend (s : State) : State :=
  match s.sys.pend with
  | some q => ((s.wb R.SYS_MODE_STAT 12 true).wf R.SYS_MODE_STAT 11 8 q.mode).wf R.SYS_MODE_STAT 3 0 13
  | none => (s.wb R.SYS_MODE_STAT 12 false).wf R.SYS_MODE_STAT 11 8 0

/-- A mode request (R571, R575): refused with its first reason, or pending, a request that was pending ending SUPERSEDED. Answers the refusal. -/
def modeRequest (q : ModeReq) (s : State) : Nat × State :=
  let r := modeRefusal q s
  if r ≠ 0 then (r, modeRefused r s)
  else
    let s := if s.sys.pend.isSome then modeResult 11 s else s
    let q := { q with wait := ticksToA s }
    (0, showModePend (modeResult 13 (s.setSys fun x => { x with pend := some q })))

/-- A request of SAFE's own (R573). -/
def safeRequest (mode : Nat) (s : State) : State := (modeRequest ⟨mode, 0, false, 3, 0x20, 0, 3, []⟩ s).2

/-- A forced entry to FALLBACK is allowed from the mode in force (R572): not from DARK, STANDALONE dark or QUARANTINE, but from DARK at start-up step 5. -/
def mayForce (s : State) : Bool :=
  let m := modeNow s
  !(m == 7 || (m == 3 && s.dark) || (m == 5 && s.rf R.SYS_START_STAT 4 0 != 4))

/-- The effect of a write to SYS_MODE_REQ for `role` with `rights` (R571, R574, R580). -/
def sysModeReq (role rights : Nat) (_ w : Word) (s : State) : State :=
  if !bitOf w 31 then s
  else if bitOf w 8 then
    if bitsOf w 3 0 = 4 ∧ mayForce s then s.setSys fun x => { x with forceFb := true } else modeRefused 2 s
  else (modeRequest ⟨bitsOf w 3 0, bitsOf w 5 4, bitOf w 9, role, rights, 0, 3, []⟩ s).2

/-! ### Application (R575 to R577) -/

/-- LAMP of a request that applies (R574, R576). -/
def lampOf (q : ModeReq) : Nat :=
  if q.mode = 2 ∨ q.mode = 3 then 1 else if q.mode = 4 then 2 else if q.mode = 5 then 0 else if q.lamp = 3 then 0 else q.lamp

/-- A request applies (R574, R577). -/
def modeApply (q : ModeReq) (s : State) : State :=
  let m := modeNow s
  let actor := (if q.sched then 4 else q.role, q.chan, q.tid)
  let s := s.setSys fun x => { x with selfTestDue := x.selfTestDue && q.mode == 5 }
  let s :=
    if q.mode = 5 ∧ q.sched ∧ m = 3 then setMode 3 0 false actor s
    else if m = 3 ∧ s.dark ∧ (q.mode = 2 ∨ q.mode = 3) then
      setMode (if modeRefusal { q with mode := 2 } s = 0 ∧ headOpen s then 2 else 3) 1 false actor s
    else setMode q.mode (lampOf q) false actor s
  if q.mode = 1 ∧ m ≠ 1 then s.setSys fun x => { x with geometryIn := false, masksIn := false } else s

/-- Modes at a tick (R575): a forced entry first, which supersedes a request of the same tick; otherwise the request due, checked again. -/
def modeTick (s : State) : State :=
  let due := match s.sys.pend with
    | some q => decide (q.wait ≤ 1)
    | none => false
  let s := s.setSys fun x => { x with pend := x.pend.map fun q => { q with wait := q.wait - 1 } }
  if s.sys.forceFb && !quarantined s then
    let m := modeNow s
    let s := s.setSys fun x => { x with forceFb := false, prevMode := if m = 4 then x.prevMode else m, selfTestDue := false }
    let s := if due then modeResult 11 (s.setSys fun x => { x with pend := none }) else s
    showModePend (if m = 4 then s.wb R.SYS_MODE 8 true else setMode 4 2 true (3, 3, []) s)
  else
    let s := s.setSys fun x => { x with forceFb := false }
    match s.sys.pend with
    | some q =>
      if !due then s else
      let s := s.setSys fun x => { x with pend := none }
      let r := modeRefusal q s
      showModePend (if r ≠ 0 then modeRefused r s else modeResult 1 (modeApply q s))
    | none => s

/-- What R573 counts from: the quiet spell of FLT_ERR.ACTIVE and CRITICAL, and the absence of a segment head. -/
def quietTick (s : State) : State :=
  let loud := errActive s || thmCritical s; let up := headOpen s
  s.setSys fun x => { x with quietSince := if loud then none else some (x.quietSince.getD s.now), netSince := if up then s.now else x.netSince }

/-- No segment head for NET_LOSS_S in ADAPTIVE (R573). -/
def netLoss (s : State) : State :=
  if modeNow s = 2 ∧ !headOpen s ∧ s.sys.netSince + s.rf R.SYS_START_CFG 31 16 * 10 ^ 9 ≤ s.now then safeRequest 3 s else s

/-- The other automatic requests of R573, where one is due and no request is pending. -/
def autoRequest (s : State) : State :=
  let m := modeNow s; let auto := s.rb R.SYS_START_CFG 0
  let ok := fun t => modeRefusal ⟨t, 0, false, 3, 0x20, 0, 3, []⟩ s == 0
  let quiet := match s.sys.quietSince with
    | some t => decide (t + 10 ^ 10 ≤ s.now)
    | none => false
  if s.sys.pend.isSome then s
  else if m = 3 ∧ headOpen s ∧ s.rf R.TIME_SERVO_STAT 2 0 = 2 then safeRequest 2 s
  else if m == 4 && s.rb R.SYS_MODE 8 && quiet && auto && (s.sys.prevMode == 2 || s.sys.prevMode == 3) then safeRequest s.sys.prevMode s
  else if auto && (m == 4 || m == 5) && s.rf (R.SYS_START_MS 12) 15 0 == 0 && ok 2 then safeRequest 2 s
  else s

/-! ### Commissioning (R579) -/

/-- Every lane set in GLM_CH_LANES has a conservative record (R579). -/
def lanesCovered (s : State) : Bool :=
  let recs := objsFrom s (s.rd R.GLM_CONS_BASE).toNat (s.rf R.GLM_TABLE_CNT 23 16)
  (List.range 8).all fun lane =>
    !(s.rb R.GLM_CH_LANES lane || s.rb R.GLM_CH_LANES (8 + lane)) || recs.any fun x => x.valid && decide (x.kind ≤ 1) && x.lane == lane

/-- The first condition of R579 that fails, 0 where all hold. -/
def commissionLack (s : State) : Nat :=
  if !(s.sys.geometryIn && s.sys.masksIn) then 1
  else if s.sys.lookInRecord && decide (s.nv.landmarks < 3) then 2
  else if sw (s.rd R.GLM_LAMP_Z) ≤ 0 then 3
  else if !lanesCovered s then 4
  else if !((List.range 8).any fun k => s.rd (R.SEC_GROUPS k) != 0#32) || s.nv.heads == 0 || s.nv.anchor.isEmpty then 5
  else 0

/-- COMMISSION_DONE (R579): a Waord status, the payload, and COMMISSIONED set when its transaction applies. -/
def commissionDone (s : State) : Nat × List Nat × State :=
  if modeNow s ≠ 1 then (2, [], s)
  else
    let n := commissionLack s
    if n ≠ 0 then (2, [n], s) else (0, [], countersTx (.commissioned true) s)

/-- COMMISSION_RESET (R579): by a maker in FACTORY or SERVICE. -/
def commissionReset (role : Nat) (s : State) : Nat × State :=
  if role = 0 ∧ (modeNow s = 0 ∨ modeNow s = 6) then (0, countersTx (.commissioned false) s) else (1, s)

end Sys2Proof.Machine
end

