-- ==== Sys2Proof/Machine/Sched.lean ====
section
/-! DEFINITION. The scheduler (R436 to R443, R448): commands, evaluation at a tick, the due queue and the WAKE alarm. -/

namespace Sys2Proof.Machine

/-- Update the scheduler. -/
def State.setSched (s : State) (f : SchedSt → SchedSt) : State := { s with sched := f s.sched }

/-- SCHED_NEXT_WAKE and SCHED_COUNT (R443, R448). -/
def showSched (s : State) : State :=
  let w := nextWake s
  ((s.wr R.SCHED_NEXT_WAKE_LO (word w)).wr R.SCHED_NEXT_WAKE_HI (word (w / 2 ^ 32))).wr R.SCHED_COUNT (word (schedEntries s).length)

/-! ### Commands (R438) -/

/-- RESULT of SCHED_CMD. -/
def schedResult (r : Nat) (s : State) : State := s.wr R.SCHED_CMD_STAT (word r)

/-- Word 0 of a WRITE as it is stored (R437): reserved bits 0, a late window of 0 stored as 2,000. -/
def schedWord0 (w : Nat) : Nat := w % 128 + (if w / 65536 % 65536 = 0 then 2000 else w / 65536 % 65536) * 65536

/-- SCHED_CMD WRITE of entry `k` (R437, R438). -/
def schedWrite (k : Nat) (s : State) : State :=
  let w0 := (s.rd (R.SCHED_E 0)).toNat
  if 5 ≤ w0 / 2 % 8 ∨ (w0 / 32 % 4 = 1 ∧ s.rd (R.SCHED_E 3) = 0#32) then schedResult 2 s
  else if 512 ≤ k ∨ !schedFits s then schedResult 3 s
  else
    let ws := (List.range 8).map fun w =>
      if w = 0 then schedWord0 w0 else if w = 7 then (s.rd (R.SCHED_E 7)).toNat % 2 ^ 18 else (s.rd (R.SCHED_E w)).toNat
    showSched (schedResult 0 (s.put (schedAddr s k) (ws.flatMap (bytesLE 4))))

/-- SCHED_CMD DELETE (R438): VALID is cleared. -/
def schedDelete (k : Nat) (s : State) : State :=
  if 512 ≤ k ∨ !schedFits s then schedResult 3 s
  else showSched (schedResult 0 (s.put (schedAddr s k) [s.ldN (schedAddr s k) / 2 * 2]))

/-- SCHED_CMD READ (R438). -/
def schedRead (k : Nat) (s : State) : State :=
  if 512 ≤ k ∨ !schedFits s then schedResult 3 s
  else schedResult 0 (s.wrWords (R.SCHED_E 0) ((List.range 8).map (schedWord s k)))

/-- The effect of a write to SCHED_CMD (R438, R448): WRITE and DELETE lie between two evaluations and take effect at once. -/
def schedCmd (_ w : Word) (s : State) : State :=
  match bitsOf w 2 0 with
  | 1 => schedWrite (bitsOf w 24 16) s
  | 2 => schedDelete (bitsOf w 24 16) s
  | 3 => schedRead (bitsOf w 24 16) s
  | _ => schedResult 2 s

/-! ### Evaluation (R439 to R442) -/

/-- The occurrence of an entry that a tick at `tk` handles (R440): occurrences passed before it, its time, and T_NEXT after it, which lies after `tk`. -/
def schedOccur (next period count tk : Nat) : Nat × Nat × Nat :=
  if period = 0 then (0, next, next)
  else
    let all := (tk - next) / period
    let n := if count = 0 then all else min all (count - 1)
    (n, next + n * period, next + (all + 1) * period)

/-- The period of an entry in ns (R437), 0 for ONCE. -/
def schedPeriod (s : State) (k : Nat) : Nat :=
  match schedWord s k 0 / 32 % 4 with
  | 1 => schedWord s k 3 * 10 ^ 9
  | 2 => 86400 * 10 ^ 9
  | 3 => 604800 * 10 ^ 9
  | _ => 0

/-- How an occurrence at `t` counts at tick time `tk` (R439): 0 RUN, 1 LATE, 2 EXPIRED. Where TT stepped forward at the tick, from `before`, those it
passed are late (R442). -/
def schedJudge (s : State) (k t tk before : Nat) : Nat :=
  let w := schedWord s k 0
  if s.sched.last < t ∧ t ≤ before then 0 else if tk ≤ t + w / 65536 * 10 ^ 6 ∨ w / 16 % 2 = 1 then 1 else 2

/-- Run the action of an entry (R441): whether it was carried out, and the state. A MODE request carries the scheduler's right (R574); one that is refused is
recorded here, one that applies by the change (R485). -/
def schedAct (action arg : Nat) (s : State) : Bool × State :=
  if action = 2 then
    let r := modeRequest ⟨arg % 16, 0, true, 3, 0x20, 0, 3, []⟩ s
    (r.1 == 0, if r.1 = 0 then r.2 else auditAdd 4 3 7 [] (modeNow s) (arg % 16) r.2)
  else if action = 4 then
    let s := pwrTarget (arg % 8) s
    (s.rf R.PWR_STAT 3 0 == 0, s)
  else (true, s)

/-- Queue an occurrence (R441). -/
def schedQueue (e : DueEntry) (s : State) : State :=
  let s := s.irq P.SCHED 0
  if 32 ≤ s.sched.due.length then (s.wb R.SCHED_DUE_STAT 8 true).irq P.SCHED 3
  else
    let s := s.setSched fun x => { x with due := x.due ++ [e] }
    s.wf R.SCHED_DUE_STAT 5 0 s.sched.due.length

/-- One entry due at tick time `tk` (R439 to R441), `before` being TT as the tick found it. -/
def schedRun (tk before : Nat) (s : State) (k : Nat) : State :=
  if tk < schedNext s k then s else
  let count := schedWord s k 4 % 65536; let per := schedPeriod s k
  let o := schedOccur (schedNext s k) per count tk
  let j := schedJudge s k o.2.1 tk before
  let action := schedWord s k 0 / 2 % 8; let arg := s.ldLE (schedAddr s k + 20) 8
  let x := if j = 2 then (true, s) else schedAct action arg s
  let res := if x.1 then j else 3
  let s := x.2
  let left := if count = 0 then 0 else count - (o.1 + 1)
  let keep := per != 0 && (count == 0 || left != 0)
  let a := schedAddr s k
  let s := s.put a [s.ldN a / 2 * 2 + bit keep]
  let s := (if per = 0 then s else s.put (a + 4) (bytesLE 8 (o.2.2 % 2 ^ 64))).put (a + 16) (bytesLE 2 left)
  let s := s.put (a + 28) (bytesLE 4 (s.tick16 + res * 65536))
  let s := (s.stAdd (R.STAT P.SCHED 0) (8 * j + 7) (8 * j) 1).stAdd (R.STAT P.SCHED 0) 31 24 o.1
  let s := (s.irqIf (j == 1) P.SCHED 1).irqIf (j == 2) P.SCHED 2
  schedQueue ⟨k, action, res, s.tick16, arg⟩ s

/-- The scheduler at a tick (R439): `before` is TT as the tick found it, before an alignment. -/
def schedTick (before : Nat) (s : State) : State :=
  let tk := s.ttNs s.now
  let s := if s.en P.SCHED && ttValid s && s.pageOn P.SCHED then showSched (s.over (schedEntries s) (schedRun tk before)) else s
  s.setSched fun x => { x with last := tk }

/-- A read of SCHED_DUE pops the oldest occurrence and latches its ARG (R441, R448). -/
def schedDue (s : State) : State :=
  match s.sched.due with
  | [] => s.wr R.SCHED_DUE 0#32
  | e :: t =>
    let s := (s.setSched fun x => { x with due := t }).wf R.SCHED_DUE_STAT 5 0 t.length
    let s := s.wr R.SCHED_DUE (word (2 ^ 31 + e.result * 2 ^ 29 + e.action * 2 ^ 26 + e.idx * 65536 + e.tick % 65536))
    (s.wr R.SCHED_DUE_ARG_LO (word e.arg)).wr R.SCHED_DUE_ARG_HI (word (e.arg / 2 ^ 32))

end Sys2Proof.Machine
end

