-- ==== Sys2Proof/Machine/Session.lean ====
section
/-! DEFINITION. DTLS sessions and Waord (R426 to R434, R473 to R476, R479 to R481, R500). -/

namespace Sys2Proof.Machine

/-- Update the session service. -/
def State.setSes (s : State) (f : SesSt → SesSt) : State := { s with ses := f s.ses }

/-- Session `i`, where it is in use. -/
def sessOf (s : State) (i : Nat) : Option SessSt := (s.ses.sess.find? fun p => p.1 == i).map (·.2)

/-- Update session `i`. -/
def setSess (i : Nat) (f : SessSt → SessSt) (s : State) : State :=
  s.setSes fun x => { x with sess := x.sess.map fun p => if p.1 = i then (i, f p.2) else p }

/-- Write entry `i` with its CRC (R479): `l` is bytes 0 to 59. -/
def putEntry (i : Nat) (l : List Nat) (s : State) : State := safePut (sessAddr s i) (l ++ bytesLE 4 (crc32c l)) s

/-- Bytes 0 to 59 of entry `i`. -/
def entryBytes (s : State) (i : Nat) : List Nat := s.ldBytes (sessAddr s i) 60

/-- Replace bytes of entry `i` from offset `o`. -/
def entrySet (i o : Nat) (l : List Nat) (s : State) : State :=
  let e := entryBytes s i
  putEntry i (e.take o ++ l ++ e.drop (o + l.length)) s

/-- The CRC of entry `i` holds (R479). -/
def entryGood (s : State) (i : Nat) : Bool := crc32c (entryBytes s i) == s.ldLE (sessAddr s i + 60) 4

/-- Show the sessions in use and the handshakes running (R445). -/
def showSess (s : State) : State :=
  let n := fun st => (s.ses.sess.filter fun p => sessState s p.1 == st).length
  s.wr R.NET_SESS_STAT (word (n 2 * 65536 + n 1))

/-- HASH mod HS_SPREAD_MS in ns (R429). -/
def hsWait (s : State) : Nat :=
  let m := s.rf R.NET_SESS_CFG 15 0
  (if m = 0 then 0 else crc32c s.nv.uid % m) * 1000000

/-- The head's own session record. -/
def headOf (s : State) (k : Nat) : HeadSt := match s.ses.heads.find? fun p => p.1 == k with
  | some p => p.2
  | none => ⟨none, 1⟩

/-- Set it. -/
def setHead (k : Nat) (h : HeadSt) (s : State) : State := s.setSes fun x => { x with heads := (x.heads.filter fun p => p.1 != k) ++ [(k, h)] }

/-- A handshake to a head failed, or its session ended: the next try waits (R429). -/
def headRetry (k : Nat) (s : State) : State :=
  let h := headOf s k
  setHead k ⟨some (s.now + h.back * 10 ^ 9 + hsWait s), min 64 (2 * h.back)⟩ s

/-- The slots of a handshake are cleared. -/
def clearHs (h : Option Nat) (s : State) : State := match h with
  | some k => keyPut (17 + 2 * k) [] (keyPut (16 + 2 * k) [] ((s.wr (R.SEC_KEY_META (16 + 2 * k)) 0#32).wr (R.SEC_KEY_META (17 + 2 * k)) 0#32))
  | none => s

/-- Session `i` is closed and its entry freed; what was to be summarised is written (R428, R485). -/
def closeSess (i : Nat) (s : State) : State :=
  match sessOf s i with
  | none => s
  | some x =>
    let s := flushSums i (clearHs x.hs s)
    let s := putEntry i (List.replicate 60 0) s
    let s := s.setSes fun y => { y with sess := y.sess.filter fun p => p.1 != i }
    showSess (match x.head with
      | some k => headRetry k s
      | none => s)

/-- Session `i` with a good entry in state `st`; a bad CRC closes it (R479). -/
def withSess (i st : Nat) (f : SessSt → State → State) (s : State) : State :=
  match sessOf s i with
  | none => s
  | some x => if !entryGood s i then closeSess i s else if sessState s i = st then f x s else s

/-! ### Handshakes (R428, R429, R480) -/

/-- Handshakes running. -/
def handshakes (s : State) : List (Nat × SessSt) := s.ses.sess.filter fun p => sessState s p.1 == 1

/-- The lowest handshake number free. -/
def freeHs (s : State) : Nat := ((List.range 16).find? fun k => s.ses.sess.all fun p => p.2.hs != some k).getD 0

/-- Entries of the table not in use. -/
def freeEntries (s : State) : List Nat := (List.range 1024).filter fun i => (sessOf s i).isNone

/-- Create a session in HANDSHAKE (R427, R428): which free entry it takes is left open; TAG comes from the DRBG. -/
def newSess (head : Option Nat) (port addr : Nat) (v6 : Bool) (s : State) : State :=
  let l := freeEntries s
  let (c, s) := s.fresh
  let i := l.getD (c % max 1 l.length) 0
  let (t, s) := draw s
  let x : SessSt := ⟨none, some (freeHs s), none, [], [], none, s.now, [], 0xFF, none, [], head, none⟩
  let s := s.setSes fun y => { y with sess := y.sess ++ [(i, x)] }
  let e := bytesLE 4 (t % 2 ^ 22 * 1024 + 7 * 8 + bit head.isSome * 4 + 1) ++ bytesLE 4 (port % 65536 + bit v6 * 65536) ++ bytesLE 16 addr
  showSess (putEntry i (e ++ List.replicate 36 0) s)

/-- No room for a handshake (R428). -/
def sessFull (s : State) : Bool := decide (16 ≤ (handshakes s).length) || decide (1024 ≤ s.ses.sess.length)

/-- NETE carries sessions: its pages are on. -/
def netOn (s : State) : Bool := s.pageOn P.NET

/-- A ClientHello to NET_WAORD_PORT (R426, R428, R480): one that offers no DTLS 1.3, not the cipher suite or no group that the device accepts is refused by an
alert; early data is not taken. -/
def clientHello (port addr : Nat) (v6 : Bool) (o : HelloOffer) (s : State) : State :=
  if !netOn s || o.dport != s.rf R.NET_WAORD_PORT 15 0 then s
  else if sessFull s then (s.stAdd (R.STAT P.NET 2) 31 16 1).irq P.NET 0
  else if o.dtls13 && o.suite && o.group && rngOk s then newSess none port addr v6 s else s

/-- When the next handshake to head `k` may start: after link up and the spread wait, and after the wait of a retry (R429). -/
def headDue (s : State) (k : Nat) : Option Nat := s.net.upAt.map fun u => max (u + hsWait s) ((headOf s k).due.getD 0)

/-- The device starts its handshake to segment head `k` (R429). -/
def handshakeStart (k port addr : Nat) (v6 : Bool) (s : State) : State :=
  let due := match headDue s k with
    | some t => decide (t ≤ s.now)
    | none => false
  let have_ := s.ses.sess.any fun p => p.2.head == some k
  if netOn s && decide (k < s.nv.heads) && (List.finRange 3).any (portUp s) && due && !have_ && !sessFull s && rngOk s then newSess (some k) port addr v6 s
  else s

/-- A SubjectPublicKeyInfo of a P-384 key, in DER (R480; RFC 5480). -/
def p384Spki (l : List Nat) : Bool :=
  l.length == 120 &&
  l.take 24 == [0x30, 0x76, 0x30, 0x10, 0x06, 0x07, 0x2A, 0x86, 0x48, 0xCE, 0x3D, 0x02, 0x01, 0x06, 0x05, 0x2B, 0x81, 0x04, 0x00, 0x22, 0x03, 0x62, 0x00, 0x04]

/-- The peer's certificate, by its SubjectPublicKeyInfo, is one the device accepts in session `x` (R480): a P-384 key, and from a segment head one that chains to
the network anchor. -/
def peerStands (x : SessSt) (spki : List Nat) (s : State) : Bool :=
  p384Spki spki && (x.head.isNone || (!s.nv.anchor.isEmpty && Config.chains s.nv.anchor spki))

/-- A handshake ends (R480): with `ok`, the exchange's own signatures and MACs, the session is OPEN with its traffic keys and the hash of the peer's
SubjectPublicKeyInfo; otherwise, or where the device cannot prove its identity or the peer's certificate does not stand, its entry is freed, and a segment
head is tried again. -/
def handshakeDone (i : Nat) (ok : Bool) (spki : List Nat) (s : State) : State :=
  withSess i 1 (fun x s =>
    if !ok || !identityStands s || !peerStands x spki s then closeSess i s
    else
      let client := sha256 spki
      let (g, s) := s.fresh
      let s := setSess i (fun x => { x with keys := some (x.keys.getD g), hs := none, rxAt := s.now, client := client }) (clearHs x.hs s)
      let s := entrySet i 0 [s.ldN (sessAddr s i) / 4 * 4 + 2] s
      let s := entrySet i 52 (bytesLE 4 (s.ttNs s.now / 10 ^ 9) ++ (client ++ [0, 0, 0, 0]).take 4) s
      let s := match x.head with
        | some k => setHead k ⟨none, 1⟩ s
        | none => s
      showSess (s.stAdd (R.STAT P.NET 2) 15 0 1)) s

/-- No valid record for IDLE_S (R428). -/
def sessionIdle (i : Nat) (s : State) : State :=
  match sessOf s i with
  | none => s
  | some x => if x.rxAt + s.rf R.NET_SESS_CFG 31 16 * 10 ^ 9 ≤ s.now then closeSess i s else s

/-! ### Records (R427, R430) -/

/-- A message is well formed (R430): VER, CLASS and LEN. -/
def messageGood (m : List Nat) : Bool :=
  decide (12 ≤ m.length) && m.getD 0 0 == 1 && decide (m.getD 1 0 ≤ 4) && decide (m.length ≤ 1212) && m.getD 10 0 + 256 * m.getD 11 0 + 12 == m.length

/-- CLASS, CMD, TXN and ALIVE of a message (R430). -/
def messageHead (m : List Nat) : Nat × Nat × Nat × Nat :=
  (m.getD 1 0, ofLE ((m.drop 2).take 2), ofLE ((m.drop 4).take 4), m.getD 8 0)

/-- A record is dropped (R427); `auth` says that authentication failed. -/
def recDrop (auth : Bool) (s : State) : State :=
  let s := s.stAdd (R.STAT P.NET 0) 31 16 1
  if auth then (s.wf R.SEC_REC_STAT 31 16 (satAdd 16 (s.rf R.SEC_REC_STAT 31 16) 1)).irq P.NET 1 else s

/-- A protected record with connection ID `cid` (R427). -/
def dtlsRecord (cid : Nat) (body : List Nat) (s : State) : State :=
  if !netOn s then s else
  let i := cid % 1024
  match sessOf s i with
  | none => recDrop false s
  | some x =>
    if !entryGood s i then recDrop false (closeSess i s)
    else if s.ldLE (sessAddr s i) 4 / 1024 ≠ cid / 1024 then recDrop false s
    else match x.keys with
      | none => recDrop true s
      | some k => match Config.openRecord k body with
        | none => recDrop true s
        | some (n, plain) =>
          let top := x.top.getD n
          if n + 64 ≤ top ∨ x.seen.contains n then recDrop false s
          else
            let top := max top n
            let s := setSess i (fun x => { x with top := some top, seen := (n :: x.seen).filter fun m => decide (top < m + 64), rxAt := s.now }) s
            let s := entrySet i 52 (bytesLE 4 (s.ttNs s.now / 10 ^ 9)) s
            let s := s.stAdd (R.STAT P.NET 0) 15 0 1
            if messageGood plain then (setSess i (fun x => { x with hdr := some (messageHead plain) }) s).stAdd (R.STAT P.NET 1) 15 0 1
            else s.stAdd (R.STAT P.NET 1) 31 16 1

/-! ### Rights (R473 to R476, R490) -/

/-- Role of the cached token of session `i`: 7 for none. -/
def sessRole (s : State) (i : Nat) : Nat := s.ldN (sessAddr s i) / 8 % 8

/-- Cached rights. -/
def sessRights (s : State) (i : Nat) : Nat := s.ldLE (sessAddr s i + 24) 4

/-- Cached tid. -/
def sessTid (s : State) (i : Nat) : List Nat := s.ldBytes (sessAddr s i + 36) 8

/-- The session's token goes (R473), what it was to have summarised being written (R485). -/
def clearToken (i : Nat) (s : State) : State :=
  let s := flushSums i s
  let s := entrySet i 0 [s.ldN (sessAddr s i) / 64 * 64 + 56 + s.ldN (sessAddr s i) % 8] s
  setSess i (fun x => { x with modes := 0xFF }) (entrySet i 24 (List.replicate 28 0) s)

/-- At the first command after exp the rights are none (R473). -/
def expireToken (i : Nat) (s : State) : State :=
  if sessRole s i ≠ 7 ∧ s.ldLE (sessAddr s i + 28) 8 < secNow s then clearToken i s else s

/-- The right that a mode request needs (R474, R572): MODE_SPECIAL to enter or leave FACTORY, COMMISSION and SERVICE, otherwise MODE_RUN. -/
def modeRight (now m : Nat) : Nat := if now = 0 ∨ now = 1 ∨ now = 6 ∨ m = 0 ∨ m = 1 ∨ m = 6 then 6 else 5

/-- The right that covers a section's installation (R474). -/
def sectionRight (sec : Section) : Nat := if sec = .geometry ∨ sec = .masks ∨ sec = .landmarks then 8 else 11

/-- The right that a command code needs (R431, R474): none for 0x0001 to 0x00EF, RECOVERY for the recovery commands, 32 for a code without a group. Codes
0x0601 to 0x060F ask for modes and 0x0620 to 0x06FF install keys, roots and bindings (log entry 200). -/
def codeRight (c : Nat) : Option Nat :=
  if c = 0 then some 32 else if c < 0xF0 then none else if c < 0x100 then some 21
  else if 0x0601 ≤ c ∧ c ≤ 0x060F then some 6
  else if 0x0620 ≤ c ∧ c < 0x0660 then some 22
  else if 0x0660 ≤ c ∧ c < 0x0680 then some 18
  else if 0x0680 ≤ c ∧ c < 0x0700 then some 9
  else match c / 256 with
    | 1 => some 0 | 2 => some 1 | 3 => some 2 | 4 => some 3 | 5 => some 4 | 6 => some 7 | 7 => some 11 | 8 => some 17 | 9 => some 19
    | _ => some 32

/-- The right that a command needs in mode `now` (R431, R474, R572). -/
def opRight (now : Nat) (op : WaordOp) : Option Nat :=
  match op with
  | .modeRequest m _ => some (modeRight now m)
  | .sectionInstall _ sec _ => some (sectionRight sec)
  | op => codeRight op.code

/-- A command that only reads (R474). -/
def opReads (op : WaordOp) : Bool := let c := op.code; decide (0x200 ≤ c) && decide (c < 0x240)

/-- Commands of groups 0x0001 and 0x0100 go without SAFE's verdict (R476). -/
def opFree (op : WaordOp) : Bool := decide (op.code < 0x200)

/-- The exceptions of R486. -/
def opExempt (role : Nat) (op : WaordOp) : Bool := match op with
  | .modeRequest m _ => m == 4 || m == 5
  | .rcvChallenge => role == 0
  | .rcvExit _ => role == 0
  | op => op.code / 256 == 9

/-- In QUARANTINE only some groups are executed (R490). -/
def opInQuarantine (op : WaordOp) : Bool := let g := op.code / 256; g == 0 || g == 1 || g == 8 || g == 9

/-- A session's rights cover a command in the present mode (R473, R474, R476, R490). -/
def covers (i : Nat) (x : SessSt) (op : WaordOp) (s : State) : Bool :=
  (!quarantined s || opInQuarantine op) &&
  match opRight (modeNow s) op with
  | none => true
  | some n =>
    let r := sessRole s i
    (sessRights s i).testBit n && (roleQual r n).holds (modeNow s) (opReads op) && x.modes.testBit (modeNow s) && (!quarantined s || r == 0)

/-- Count an action to be summarised; the records of earlier city minutes are written (R485). -/
def bump (right minute : Nat) (l : List (Nat × Nat × Nat)) : List (Nat × Nat × Nat) × List (Nat × Nat × Nat) :=
  let old := l.filter fun p => p.2.1 != minute
  let new := l.filter fun p => p.2.1 == minute
  (if new.any fun p => p.1 == right then new.map fun p => if p.1 = right then (right, minute, p.2.2 + 1) else p else new ++ [(right, minute, 1)], old)

/-- The minute of city time (R424). -/
def cityMinute (s : State) : Nat := ((s.ttNs s.now / 10 ^ 9 : Nat) + sw (s.rd R.TIME_LOCAL_OFS)).toNat / 60

/-- A command that needs no verdict but a record (R484 to R486). -/
def opNoted (op : WaordOp) : Bool := match op with
  | .presentToken _ _ => true
  | .rcvExit _ => true
  | _ => false

/-- SAFE's verdict on a command of session `i` (R476): 0 ALLOW with its record written, 1 DENIED, 3 BUSY. The record of a command carries the response's
STATUS `st` (R484). -/
def verdict (i : Nat) (x : SessSt) (op : WaordOp) (st : Nat) (s : State) : Nat × State :=
  let r := sessRole s i
  if !covers i x op s then (1, s)
  else if opFree op then (if opNoted op && auditBusy r (opExempt r op) s then 3 else 0, s)
  else
    if auditBusy r (opExempt r op) s then (3, s)
    else if opRight (modeNow s) op = some 3 ∨ opRight (modeNow s) op = some 4 then
      let b := bump ((opRight (modeNow s) op).getD 0) (cityMinute s) x.sums
      (0, sumsOut r 0 (sessTid s i) b.2 (setSess i (fun x => { x with sums := b.1 }) s))
    else (0, auditAdd r 0 4 (sessTid s i) op.code st s)

/-! ### Commands (R432, R463, R473, R480, R488, R491, R571, R579) -/

/-- PRESENT_TOKEN (R470, R473): verified, and on acceptance the session's token with its rights cached. -/
def presentToken (i : Nat) (tok : List Nat) (other : Option (Fin 3)) (s : State) : Nat × List Nat × State :=
  match sessOf s i with
  | none => (2, [], s)
  | some x =>
    let v0 := verifyToken tok (.session x.client) s
    let v := if v0.1 = 8 then verifyToken tok .recovery s else v0
    let s := auditToken 0 v.1 i v.2 (tokResult v.1 s)
    match v.1, v.2 with
    | 0, some c =>
      let s := flushSums i s
      let s := entrySet i 0 [s.ldN (sessAddr s i) / 64 * 64 + 8 * c.role + s.ldN (sessAddr s i) % 8] s
      let s := entrySet i 24 (bytesLE 4 c.rights ++ bytesLE 8 c.exp ++ c.tid ++ bytesLE 8 c.ctr) s
      (0, [], acceptFloor 0 c other (setSess i (fun x => { x with modes := c.modes }) s))
    | r, _ => (1, [r], s)

/-- A section that stays in the BYSTER region (R545). -/
def sectionResident : Section → Bool
  | .mesh => true | .aging => true | .loop => true | .repairSeed => true | .geometry => true | .landmarks => true
  | .masks => false | .photometry => false | .camera => false | .fallback => false

/-- The resident sections fit the BYSTER region with `sec` of content `l` (R545). -/
def sectionsFit (sec : Section) (l : List Nat) (s : State) : Bool :=
  let l := (s.nv.sections.filter fun p => p.1 != sec) ++ [(sec, l)]
  decide (sumOf (l.filter fun p => sectionResident p.1) (·.2.length) ≤ (s.rd (R.NVM_REGION_SIZE 11)).toNat)

/-- The content of a section whose COSE_Sign object stands under the root of `role` (R462). -/
def sectionContent (role : Nat) (object : List Nat) (s : State) : Option (List Nat) := do
  let c ← cbor object
  let c ← coseOf c
  let h := rootHash role s
  let b := Config.keyBlock h
  if (h.any (· != 0)) && (sha384 b).take h.length == h && c.verifies (blockKeys b) then some c.pay else none

/-- A section is accepted and stored (R462, R545, R578, R579): `role` owns it; `l` is its content and `roll` the rollback level of a maker's. -/
def sectionPut (role : Nat) (sec : Section) (l : List Nat) (roll : Option Nat) (s : State) : Nat × State :=
  let low := match roll with
    | some r => decide (r < rollbackLevel 2 s)
    | none => role == 0
  if low || !sectionsFit sec l s then (2, s)
  else
    let s := match roll with
      | some r => otpRaise 2 r s
      | none => s
    let s := s.setNv fun n => { n with sections := (n.sections.filter fun p => p.1 != sec) ++ [(sec, l)] }
    (0, match sec with
      | .geometry => s.setSys fun x => { x with geometryIn := x.geometryIn || role == 1 }
      | .masks => s.setSys fun x => { x with masksIn := x.masksIn || role == 1 }
      | .landmarks => s.setNv fun n => { n with landmarks := Config.sectionMarks l }
      | _ => s)

/-- A section is installed for a session of `role` (R462, R474): verified under that role's root, since a role installs only sections that it owns; a maker
section carries a rollback level (log entry 192). -/
def sectionInstall (role : Nat) (sec : Section) (object : List Nat) (s : State) : Nat × State :=
  match sectionContent role object s with
  | none => (2, s)
  | some l => sectionPut role sec l (if role = 0 then Config.sectionRoll l else none) s

/-- RCV_EXIT (R491): a maker token with RECOVERY whose nonce is the challenge clears the stored quarantine state. -/
def rcvExit (i : Nat) (tok : List Nat) (s : State) : Nat × List Nat × State :=
  let v := if rngOk s then verifyToken tok .recovery s else (8, none)
  let s := newNonce (R.SEC_RCV_CHAL 0) (auditToken 0 v.1 i v.2 (tokResult v.1 s))
  match v.1, v.2 with
  | 0, some c =>
    let s := acceptFloor 0 c none s
    if c.role = 0 ∧ c.rights.testBit 21 = true then (0, [], auditAdd 0 0 0x0C c.tid (s.rf R.SEC_STATUS 11 8) 1 (countersTx (.quarantine 0) s)) else (1, [0], s)
  | r, _ => (1, [r], s)

/-- The record of a step of R463, of its confirmation (R484): written for a step carried out, and for a verification that rejects the image. -/
def updRecord (role : Nat) (tid : List Nat) (code : Nat) (p : Nat × State) : Nat × State :=
  if p.1 = 0 ∨ (code = 0x0803 ∧ p.1 = 2) then (p.1, auditAdd role 0 8 tid code p.2.upd.ver p.2) else p

/-- Group of a stored payload's command: 2 schedule entries, 3 programmes. -/
def payloadGroup (code : Nat) : Nat := if code / 256 = 3 then 3 else 2

/-- The payload stored under a key (R475), none where nothing is stored. -/
def payloadOf (g key : Nat) (s : State) : Option (List Nat) := (s.nv.payloads.find? fun p => p.1 == (g, key)).map (·.2)

/-- Store a payload (R475): it takes the place of an earlier one under the key. -/
def payloadPut (g key : Nat) (l : List Nat) (s : State) : State :=
  s.setNv fun n => { n with payloads := (n.payloads.filter fun p => p.1 != (g, key)) ++ [((g, key), l)] }

/-- A command whose response returns a stored payload. -/
def opStored (op : WaordOp) : Bool := op matches .payloadGet _ _

/-- The ASCII bytes of "LH4200 attest". -/
def attestLabel : List Nat := [0x4C, 0x48, 0x34, 0x32, 0x30, 0x30, 0x20, 0x61, 0x74, 0x74, 0x65, 0x73, 0x74]

/-- ATTEST of session `i` (R480): slot 2 signs the session's exporter value; without a valid slot 2 or traffic keys it answers BAD. -/
def attest (i : Nat) (s : State) : Nat × List Nat × State :=
  match (sessOf s i).bind (·.keys) with
  | some k => if s.rb (R.SEC_KEY_META 2) 31 && identityStands s then (0, idSign s 2 (Config.exporter k attestLabel), s) else (2, [], s)
  | none => (2, [], s)

/-- Carry out a command of session `i`: a Waord status and the payload's bytes. -/
def runOp (i : Nat) (op : WaordOp) (s : State) : Nat × List Nat × State :=
  let role := sessRole s i; let tid := sessTid s i
  let plain := fun (p : Nat × State) => (p.1, ([] : List Nat), p.2)
  let upd := fun (p : Nat × State) => let p := updRecord role tid op.code p; (p.1, ([] : List Nat), p.2)
  match op with
  | .other c => if opRight (modeNow s) (.other c) = some 32 then (4, [], s) else (0, [], s)
  | .presentToken t o => presentToken i t o s
  | .dropToken => (0, [], clearToken i s)
  | .attest => attest i s
  | .timeApply _ => (0, [], stepCmd 0#32 1#32 s)
  | .modeRequest m l =>
    let r := modeRequest ⟨m, l, false, role, sessRights s i, 0, 0, tid⟩ s
    (if r.1 = 0 then 0 else if r.1 = 3 then 1 else 2, if r.1 = 0 then [] else [r.1], r.2)
  | .commissionDone => commissionDone s
  | .commissionReset => plain (commissionReset role s)
  | .updBegin t n => upd (updBegin t n s)
  | .updData o l => upd (updData o l s)
  | .updVerify => upd (updVerify s)
  | .updActivate t f => upd (updActivate t (f && role == 0) s)
  | .updConfirm => upd (updConfirm s)
  | .updAbort => upd (updAbort s)
  | .auditRead a b => if !identityStands s then (2, [], s) else let r := auditExport role tid a b s; (0, r.1, r.2)
  | .auditAck n => (0, [], auditAck role tid n s)
  | .rcvChallenge => if !rngOk s then (3, [], s) else let s := newNonce (R.SEC_RCV_CHAL 0) s; (0, nonceAt (R.SEC_RCV_CHAL 0) s, s)
  | .rcvExit t => rcvExit i t s
  | .sectionInstall _ sec o => plain (sectionInstall role sec o s)
  | .bind _ h a => (0, [], s.setNv fun n => { n with heads := h, anchor := a })
  | .payloadPut c k l => (0, [], payloadPut (payloadGroup c) k l s)
  | .payloadGet c k => match payloadOf (payloadGroup c) k s with
    | some l => (0, l, s)
    | none => (2, [], s)
  | .certInstall _ k l => plain (certInstall k l s)
  | .rootInstall _ r h => plain (rootInstall role tid r h s)
  | .dirInstall _ l => plain (dirInstall l s)
  | .archiveActivate _ => (0, [], countersTx (.mainSlot (s.nv.active ^^^ 8) s.nv.trial) s)

/-- The device sends a response; a stored payload goes to a maker session with its personal data replaced by null (R475). -/
def sendResp (i : Nat) (r : Resp) (s : State) : State :=
  let r := if r.stored && sessRole s i == 0 then { r with data := redacted r.data } else r
  s.setSes fun y => { y with resp := some (i, r) }

/-- The device answers, and keeps the last 16 responses (R432). -/
def respond (i : Nat) (r : Resp) (s : State) : State :=
  sendResp i r (setSess i (fun x => { x with kept := (r :: x.kept).take 16 }) s)

/-- A command of session `i` is judged, carried out where it is allowed, and answered (R432, R476); a code without a group is UNKNOWN (R430, R431). -/
def execOp (i txn : Nat) (x : SessSt) (op : WaordOp) (s : State) : State :=
  let v := if opRight (modeNow s) op = some 32 then (4, s) else verdict i x op (runOp i op s).1 s
  if v.1 ≠ 0 then respond i ⟨txn, v.1, [], false⟩ v.2
  else
    let r := runOp i op v.2
    respond i ⟨txn, r.1, r.2.1, opStored op && r.1 == 0⟩ r.2.2

/-- A REQUEST of session `i` (R432, R476): answered from the kept copy of its TXN, or checked, executed and answered. -/
def waordRequest (i txn : Nat) (op : WaordOp) (s : State) : State :=
  withSess i 2 (fun x s =>
    match x.kept.find? fun r => r.txn == txn with
    | some r => sendResp i r s
    | none => execOp i txn x op (expireToken i s)) s

/-- A SAFETY message (R433): judged by its ALIVE count, then executed as its command or dropped as a repeat. -/
def waordSafety (i alive txn : Nat) (op : WaordOp) (s : State) : State :=
  withSess i 2 (fun x s =>
    let a := alive % 256
    if x.alive = some a then s
    else
      let gap := match x.alive with
        | some p => !isNext 8 p a
        | none => false
      let s := setSess i (fun x => { x with alive := some a }) s
      let s := if gap then raise Src.WAORD_ALIVE_GAP (s.irq P.NET 3) else s
      execOp i txn x op (expireToken i s)) s

/-- A CH1 slot that is FREE and that no other session is filling (R434). -/
def freeCh1 (i : Nat) (s : State) : Option Nat :=
  [4, 5, 6, 7].find? fun k => s.rf R.GLM_SLOT_STATE (2 * k + 1) (2 * k) == 0 &&
    !(s.ses.sess.any fun p => p.1 != i && (match p.2.list with
      | some (_, _, _, j) => j == k
      | none => false))

/-- Where part `part` of list `id` belongs (R434): the CH1 slot whose next part it is, or one for the first part of a list, which must be newer than one
that is incomplete; none for a part out of turn. -/
def objectSlot (i : Nat) (x : SessSt) (part parts id : Nat) (s : State) : Option Nat :=
  match x.list with
  | some (d, n, k, j) =>
    if d = id then (if n = parts ∧ part = k then some j else none)
    else if part = 0 ∧ (id + 65536 - d) % 65536 < 32768 then freeCh1 i s else none
  | none => if part = 0 then freeCh1 i s else none

/-- A part of a newer list discards an incomplete older one (R434). -/
def olderList (i id : Nat) (x : SessSt) (s : State) : State := match x.list with
  | some (d, _, _, _) => if d ≠ id ∧ (id + 65536 - d) % 65536 < 32768 then setSess i (fun x => { x with list := none }) s else s
  | none => s

/-- A part of an object list (R434), which stays within its slot of 8,256 bytes: the luminaire service writes it into its CH1 slot, and posts the slot once all
parts have come. -/
def waordObjects (i part parts id : Nat) (l : List Nat) (s : State) : State :=
  withSess i 2 (fun x s =>
    let s := expireToken i s
    let v := verdict i x (.other 0x0500) 0 s
    if v.1 ≠ 0 ∨ parts = 0 ∨ 8 < parts ∨ parts ≤ part ∨ 1152 < l.length ∨ (part + 1 < parts ∧ l.length ≠ 1152) ∨
      8256 < 1152 * part + l.length then v.2
    else
      let s := olderList i (id % 65536) x v.2
      match objectSlot i x part parts (id % 65536) s with
      | none => s
      | some k =>
        let s := (engineWrite .apu (slotAddr s k + 1152 * part) l s).2
        if part + 1 < parts then setSess i (fun x => { x with list := some (id % 65536, parts, part + 1, k) }) s
        else glmPost 0#32 (word k) (setSess i (fun x => { x with list := none }) s)) s

/-! ### The service queue (R481) -/

/-- Address of entry `e` of the service queue. -/
def svcAddr (s : State) (e : Nat) : Nat := (s.rd R.SEC_SVC_BASE).toNat + 64 * e

/-- Word `w` of entry `e`. -/
def svcWord (s : State) (e w : Nat) : Nat := s.ldLE (svcAddr s e + 4 * w) 4

/-- Entry `e` waits with operation `op`: STATUS 0. -/
def svcWaits (s : State) (e op : Nat) : Bool := svcWord s e 0 % 256 == op && svcWord s e 0 / 256 % 256 == 0

/-- Entry `e` waits. -/
def svcPending (s : State) (e : Nat) : Bool :=
  decide (1 ≤ svcWord s e 0 % 256) && decide (svcWord s e 0 % 256 ≤ 8) && svcWord s e 0 / 256 % 256 == 0

/-- SAFE takes entries in SEQ order (R481): no waiting entry has an earlier SEQ than `e`, by serial comparison. -/
def svcTurn (s : State) (e : Nat) : Bool :=
  (List.range 64).all fun f =>
    !svcPending s f || decide ((svcWord s f 0 / 65536 + 65536 - svcWord s e 0 / 65536) % 65536 < 32768)

/-- Show requests completed and waiting (R495). -/
def svcShow (s : State) : State := s.wf R.SEC_SVC_STAT 6 0 ((List.range 64).filter (svcPending s)).length

/-- Entry `e` ends with a status and result bytes at its output (R481). -/
def svcEnd (e status : Nat) (out : List Nat) (s : State) : State :=
  let l := out.take (svcWord s e 5)
  let a := svcAddr s e
  let s := safePut (svcWord s e 4) l s
  let s := safePut (a + 24) (bytesLE 4 l.length) (safePut (a + 1) [status % 256] s)
  svcShow (s.wf R.SEC_SVC_STAT 31 16 (satAdd 16 (s.rf R.SEC_SVC_STAT 31 16) 1))

/-- The session of entry `e`. -/
def svcSess (s : State) (e : Nat) : Nat := svcWord s e 1

/-- The input of entry `e`. -/
def svcInput (s : State) (e : Nat) : List Nat := s.ldBytes (svcWord s e 2) (svcWord s e 3)

/-- Carry out entry `e` of ATTEST or AUDIT_READ (R480, R481, R488): the session's exporter value signed, or the records FROM to TO of the input's two words. -/
def svcOther (e : Nat) (s : State) : State :=
  let i := svcSess s e
  let r := if svcWaits s e 6 then attest i s
    else if !identityStands s then (2, [], s)
    else let l := svcInput s e; let x := auditExport (sessRole s i) (sessTid s i) (ofLE (l.take 4)) (ofLE ((l.drop 4).take 4)) s; (0, x.1, x.2)
  svcEnd e (if r.1 = 0 then 1 else 2) r.2.1 r.2.2

/-- SAFE carries out the ATTEST and AUDIT_READ entries whose turn has come, at most `n` (R481): they have no row of their own, and are taken before any row of the
queue and at every tick (log entry 159). -/
def svcPoll : Nat → State → State
  | 0, s => s
  | n + 1, s => match (List.range 64).find? fun e => (svcWaits s e 6 || svcWaits s e 8) && svcTurn s e with
    | none => s
    | some e => svcPoll n (svcOther e s)

/-- SAFE's poll at a tick, where a queue is configured. -/
def svcTick (s : State) : State := if s.rd R.SEC_SVC_BASE = 0#32 ∨ s.pageOn P.SEC0 = false then s else svcPoll 64 s

/-- Carry out entry `e` of operation `op` when its turn has come: STATUS 1 done, 2 refused. -/
def svcRun (e op : Nat) (f : State → Nat × List Nat × State) (s : State) : State :=
  let s := svcPoll 64 s
  if !svcWaits s e op || !svcTurn s e then s else
  let r := f s
  svcEnd e (if r.1 = 0 then 1 else 2) r.2.1 r.2.2

/-- VERIFY_TOKEN (R470, R473, R481). -/
def svcVerify (e : Nat) (s : State) : State := svcRun e 1 (fun s => presentToken (svcSess s e) (svcInput s e) none s) s

/-- The ECDH share that a private scalar gives: X25519 for group 0x11EC, P-256 for 0x11EB (R480). -/
def ecdhShare (group : Nat) (k : List Nat) : List Nat := if group = 0x11EC then x25519 k (bytesLE 32 9) else ecShare256 (ofBE k)

/-- The ECDH secret with a peer's share. -/
def ecdhSecret (group : Nat) (k peer : List Nat) : Option (List Nat) := if group = 0x11EC then some (x25519 k peer) else ecdh256 (ofBE k) peer

/-- The parts of a hybrid share whose ML-KEM part is `n` bytes: ML-KEM and ECDH, in the group's order. -/
def hybrid (group n : Nat) (l : List Nat) : List Nat × List Nat := if group = 0x11EC then (l.take n, l.drop n) else (l.drop 65, l.take 65)

/-- The same, joined. -/
def hybridJoin (group : Nat) (kem ec : List Nat) : List Nat := if group = 0x11EC then kem ++ ec else ec ++ kem

/-- HS_KEYSHARE of handshake `k` in `group` (R455, R457, R480; log entry 199): with no input the device offers its shares and its slots hold the private keys; with
a client's shares it answers, and with a server's it ends, its slots then holding the two shared secrets. `rnd` is 32 random bytes for each. -/
def keyShare (group k : Nat) (l rnd : List Nat) (s : State) : Nat × List Nat × State :=
  let put := fun (a b : List Nat) (s : State) =>
    keyPut (17 + 2 * k) b (keyPut (16 + 2 * k) a ((s.wr (R.SEC_KEY_META (16 + 2 * k)) (keyMeta 5 1 2)).wr (R.SEC_KEY_META (17 + 2 * k)) (keyMeta 4 1 2)))
  let d := rnd.take 32
  let ecLen := if group = 0x11EC then 32 else 65
  if group ≠ 0x11EC ∧ group ≠ 0x11EB then (1, [], s)
  else if l = [] then
    let q := Config.kemKeys (rnd.drop 32)
    (0, hybridJoin group q.1 (ecdhShare group d), put d q.2 s)
  else
    let answers := decide (l.length = 1184 + ecLen)
    let p := hybrid group (if answers then 1184 else 1088) l
    let q := if answers then Config.kemEncap p.1 (rnd.drop 32) else ([], Config.kemDecap (s.slotKey (17 + 2 * k)) p.1)
    match ecdhSecret group (if answers then d else s.slotKey (16 + 2 * k)) p.2 with
    | none => (1, [], s)
    | some z => if answers then (0, hybridJoin group q.1 (ecdhShare group d), put z q.2 s)
      else if l.length = 1088 + ecLen then (0, [], put z q.2 s) else (1, [], s)

/-- HS_KEYSHARE (R455, R481) in the group of code `n`. -/
def svcKeyshare (e n : Nat) (s : State) : State :=
  svcRun e 2 (fun s => match sessOf s (svcSess s e) with
    | some x => match x.hs with
      | some k =>
        if !rngOk s then (1, [], s) else
        let (a, s) := draw s
        let (b, s) := draw s
        keyShare n k (svcInput s e) (bytesBE 32 a ++ bytesBE 32 b) s
      | none => (1, [], s)
    | none => (1, [], s)) s

/-- HS_SIGN (R480, R481): a signature by slot 1. -/
def svcSign (e : Nat) (s : State) : State :=
  svcRun e 3 (fun s => if s.rb (R.SEC_KEY_META 1) 31 && identityStands s then (0, idSign s 1 (svcInput s e), s) else (1, [], s)) s

/-- Install the traffic keys of the handshake of session `i` (R481, R500); answers RESULT: 0 OK, 1 BAD_IDX, 2 NO_KEYS. -/
def installKeys (i : Nat) (s : State) : Nat × State :=
  match sessOf s i with
  | none => (1, s)
  | some x => match x.hs with
    | none => (2, s)
    | some k =>
      if !s.rb (R.SEC_KEY_META (16 + 2 * k)) 31 then (2, s)
      else let (g, s) := s.fresh; (0, setSess i (fun x => { x with keys := some g, top := none, seen := [] }) s)

/-- HS_INSTALL (R481). -/
def svcInstall (e : Nat) (s : State) : State := svcRun e 4 (fun s => let r := installKeys (svcSess s e) s; (r.1, [], r.2)) s

/-- The command of a message (R430, R431): its code, with the mode and LAMP that a MODE_REQUEST's CBOR payload lists (log entry 200). -/
def opOf (m : List Nat) : WaordOp :=
  let c := m.getD 2 0 + 256 * m.getD 3 0
  if c = 0x0601 then match cbor (m.drop 12) with
    | some (.arr [.uint a, .uint l]) => .modeRequest a l
    | _ => .other c
  else .other c

/-- VERDICT (R476, R481): the input is the message of R430. The response's STATUS is not yet known: its record has 0 (log entry 90). -/
def svcVerdict (e : Nat) (s : State) : State :=
  svcRun e 5 (fun s =>
    match sessOf s (svcSess s e) with
    | some x => let v := verdict (svcSess s e) x (opOf (svcInput s e)) 0 (expireToken (svcSess s e) s); (v.1, [v.1], v.2)
    | none => (1, [1], s)) s

/-- UPDATE (R463, R481): an update command for the service, on behalf of a session whose rights cover FIRMWARE. -/
def svcUpdate (e : Nat) (op : WaordOp) (s : State) : State :=
  svcRun e 7 (fun s =>
    let i := svcSess s e
    match sessOf s i with
    | none => (1, [], s)
    | some x =>
      let s := expireToken i s
      if op.code / 256 ≠ 8 then (2, [], s) else if !covers i x op s then (1, [], s)
      else if auditBusy (sessRole s i) false s then (3, [], s) else runOp i op s) s

/-! ### The record engine's commands (R500) -/

/-- RESULT of SEC_REC_CMD. -/
def recResult (r : Nat) (s : State) : State := s.wf R.SEC_REC_STAT 3 0 r

/-- SEC_REC_CMD INSTALL. -/
def recInstall (i : Nat) (s : State) : State := let r := installKeys i s; recResult r.1 r.2

/-- SEC_REC_CMD KEY_UPDATE: new traffic keys in place of the session's. -/
def keyUpdate (i : Nat) (s : State) : State :=
  match sessOf s i with
  | none => recResult 1 s
  | some x => match x.keys with
    | none => recResult 2 s
    | some _ => let (g, s) := s.fresh; recResult 0 (setSess i (fun x => { x with keys := some g, top := none, seen := [] }) s)

/-- SEC_REC_CMD ERASE. -/
def recErase (i : Nat) (s : State) : State :=
  match sessOf s i with
  | none => recResult 1 s
  | some x => match x.keys with
    | none => recResult 2 s
    | some _ => recResult 0 (setSess i (fun x => { x with keys := none, top := none, seen := [] }) s)

/-- The effect of a write to SEC_REC_CMD; other OP values do nothing. -/
def recCmd (_ w : Word) (s : State) : State :=
  let i := bitsOf w 9 0
  match bitsOf w 31 28 with
  | 1 => recInstall i s
  | 2 => keyUpdate i s
  | 3 => recErase i s
  | _ => s

end Sys2Proof.Machine
end

