-- ==== Sys2Proof/Machine/RegWrite.lean ====
section
/-! DEFINITION. The effect of each register's own of a write or a read at any address, for writes that name the register by its address (R14, R60). -/

namespace Sys2Proof.Machine

/-- What a write does beside its access codes: the value before, the value written, the state. -/
abbrev Hook := Word → Word → State → State

/-- The hook `h x` where `f x` is the address, otherwise `k`. -/
def pick {n : Nat} (f : Fin n → Nat) (h : Fin n → Hook) (a : Nat) (k : Hook) : Hook :=
  match (List.finRange n).find? fun x => f x == a with
  | some x => h x
  | none => k

/-- A choice that the environment makes of a write named by address alone: a free truth value. -/
def freely (h : Bool → Hook) (old w : Word) (s : State) : State := let (v, s) := s.fresh; h (v % 2 == 1) old w s

/-- SYS_RST_CMD (R580): with the key and CHIP the device resets with cause SOFTWARE. -/
def rstCmd (_ w : Word) (s : State) : State := if bitsOf w 31 16 = 0xA5C3 ∧ bitOf w 0 then chipReset 5 0 s else s

/-- DMV_ABORT named by address: how far the active descriptor had got is free (R55, R57). -/
def abortFreely (c : Fin 4) (old w : Word) (s : State) : State :=
  let (m, s) := s.fresh
  let (v, s) := s.fresh
  dmvAbortHook c m v old w s

/-- CTRL of DRV: a change of PROBE_EN is written to the tiles (R274). -/
def drvCtrl (old _ : Word) (s : State) : State := pushProbe (bitOf old 1 && s.lampKind != 0) s

/-- CTRL of the control engine's pages: a loop whose enables are gone is OFF (R301). -/
def ctlCtrl (_ _ : Word) (s : State) : State := loopsOff s

/-- Hooks of the pages 0x00 to 0x17: SYS, PWR, THM, FLT, NVM, XSPI, SEC. -/
def hookLow (i : Init) (a : Nat) : Hook :=
  let p := pageOf a
  if p = P.SYS then
    (if a = R.SYS_RST_CMD then rstCmd else if a = R.SYS_MODE_REQ then sysModeReq 3 0x20 else pick (fun g : Fin 16 => R.SYS_CG_CTRL g) cgCtrl a noHook)
  else if p = P.PWR then
    (if a = R.PWR_CMD then pwrCmd i else if a = R.PWR_LEVEL_REQ then levelReq else if a = R.PWR_LEVEL_STAT then levelClear else noHook)
  else if p = P.THM then
    (if a = R.CTRL P.THM then thmCtrl else if a = R.THM_THR then thmThr else if a = R.THM_SENSOR_FAIL ∨ a = R.THM_TILE_FAIL then thmClear a else noHook)
  else if p = P.FLT0 then
    (if a = R.FLT_ERR then errRelease else if a = R.FLT_FORCE_SRC then forceSrc else if a = R.FLT_CFG ∨ a = R.FLT_NMI_TARGET then cfgWritten else noHook)
  else if 5 ≤ p ∧ p ≤ 8 then (if isSrcStat a then statClear a else if 0x100 ≤ offOf a then cfgWritten else noHook)
  else if p = 9 then (if a = R.FLT_LOG_RD then logRead else noHook)
  else if p = 10 then (if 0x100 ≤ offOf a then cfgWritten else noHook)
  else if a = R.NVM_TX_CMD then nvmTxCmd
  else if a = R.XSPI_CMD then xspiCmd i
  else if a = R.SEC_KEY_CMD then freely fun b => freely (keyCmd b)
  else if a = R.SEC_REC_CMD then recCmd
  else if a = R.SEC_OTP_CMD then freely otpCmd
  else noHook

/-- Hooks of the pages 0x20 to 0x5f: TIME to BUF. -/
def hookMid (i : Init) (a : Nat) : Hook :=
  let p := pageOf a
  if p = P.TIME then
    (if a = R.TIME_MEAS_CTRL then measCtrl else if a = R.TIME_STEP_CMD then stepCmd
     else if a = R.TIME_EPOCH_LO ∨ a = R.TIME_EPOCH_HI then epochWrite else noHook)
  else if a = R.SW_FLUSH then swFlush
  else if a = R.SW_MRP_CFG ∨ a = R.PORT_CFG 0 ∨ a = R.PORT_CFG 1 then ringChanged
  else if a = R.SCHED_CMD then schedCmd
  else if 0x30 ≤ p ∧ p ≤ 0x37 then
    pick (fun c : Fin 32 => R.CRC_CTX_RUN (p - 0x30) c) (fun c => crcRunWrite (p - 0x30) c) a
      (pick (fun c : Fin 32 => R.CRC_CTX_CFG (p - 0x30) c) (fun c => crcCfgWrite (p - 0x30) c) a noHook)
  else if a = R.CTRL (P.VIN 0) then vinCtrl 0
  else if a = R.CTRL (P.VIN 1) then vinCtrl 1
  else if a = R.LOOK_CMD then lookCmd
  else if a = R.CTRL P.LOOK then lookCtrl
  else if a = R.CMP_FLIP_ARM then cmpFlipArm
  else if 0x51 ≤ p ∧ p ≤ 0x58 then pick (fun n : Fin 8 => R.LYR_FLIP n) lyrFlip a noHook
  else if 0x59 ≤ p ∧ p ≤ 0x5c then pick (fun k : Fin 4 => R.SCL_KICK k) sclKick a noHook
  else if a = R.FENCE_SET_LO then fenceSetHook 0
  else if a = R.FENCE_SET_HI then fenceSetHook 32
  else if a = R.BUF_CMD then bufCmd
  else if a = R.PHO_RMAP_CMD then rmapCmd i
  else if a = R.PHO_SNAP_CMD then snapCmd
  else if a = R.PHO_DTH_DATA then dthWrite
  else if a = R.GLM_POST then glmPost
  else if a = R.CTRL P.GLM then glmCtrl
  else noHook

/-- Hooks of the pages from 0x80: SCN to the data mover. -/
def hookHigh (a : Nat) : Hook :=
  let p := pageOf a
  if 0x80 ≤ p ∧ p ≤ 0x84 ∧ a = R.CTRL p then scnCtrl
  else if 0x81 ≤ p ∧ p ≤ 0x84 then pick (fun r : Fin 16 => R.SCN_RECT_DIV_TAG (p - 0x81) r) (fun r => divTag (Fin.ofNat 4 (p - 0x81)) r) a noHook
  else if 0x89 ≤ p ∧ p ≤ 0x8c then
    let t := Fin.ofNat 4 (p - 0x89)
    (if a = R.CTRL p then splCtrl t else if a = R.SPL_CTRL_CMD t then splCtrlCmd t
     else pick (fun l : Fin 5 => R.SPL_CV_TOTAL t l) (fun l => cvClear t l) a noHook)
  else if a = R.CTRL P.DRV then drvCtrl
  else if a = R.DRV_DEF_CMD then defDelete
  else if a = R.DRV_FN_KILL then fnKill
  else if a = R.DRV_FN_CLEAR then fnClear
  else if a = R.CTRL P.PAT then patCtrl
  else if a = R.PAT_PROG_DATA then progWrite
  else if a = R.PAT_K_DATA then kWrite
  else if a = R.CTRL P.CTL then ctlCtrl
  else if 0xa1 ≤ p ∧ p ≤ 0xb0 then
    let k := Fin.ofNat 16 (p - 0xa1)
    (if a = R.CTRL p then ctlCtrl else if a = R.CTL_LOOP_CMD k then loopCmd k else if a = R.CTL_LOOP_RC_DATA k then rcWrite k else noHook)
  else if a = R.CTRL P.NRG then nrgCtrl
  else if a = R.NRG_ALLOW then nrgAllow
  else if a = R.NRG_ACC_CTRL then nrgAccCtrl
  else if a = R.DALI_TX then daliTx
  else noHook

/-- Hooks of the pages from 0xd0: HOST, GPIO, processors, data mover. -/
def hookTop (i : Init) (a : Nat) : Hook :=
  let p := pageOf a
  if a = R.HOST_H2D_SET then h2dSet i
  else if a = R.HOST_D2H_SET then d2hSet
  else if a = R.GPIO_SET then gpioSet
  else if a = R.GPIO_CLR then gpioClr
  else if a = R.GPIO_DIR then gpioDir
  else if a = R.GPIO_OUT then gpioOutWrite
  else if a = R.GPIO_OD ∨ a = R.CTRL P.GPIO then gpioOut
  else if 0xe0 ≤ p ∧ p ≤ 0xe3 then
    let c := Fin.ofNat 4 (p - 0xe0)
    (if a = R.CPU_HART_EN c then hartEn c else if a = R.CPU_HART_RST c then hartRst c
     else pick (fun h : Fin 8 => R.CPU_WDOG c h) (wdogWrite c) a noHook)
  else if 0xe5 ≤ p ∧ p ≤ 0xe8 then
    let c := Fin.ofNat 4 (p - 0xe5)
    (if a = R.CTRL p then dmvCtrl c else if a = R.DMV_POST c then dmvPost c else if a = R.DMV_ABORT c then abortFreely c else noHook)
  else noHook

/-- What a write to the register at `a` by initiator `i` does beside its access codes. -/
def hookOf (i : Init) (a : Nat) : Hook :=
  let p := pageOf a
  if offOf a = 0x24 then forcePage p
  else if p < 0x20 then hookLow i a
  else if p < 0x80 then hookMid i a
  else if p < 0xd0 then hookHigh a
  else hookTop i a

/-- A 32-bit write to the register at `a` (R14 to R18, R27) with the register's own effect. -/
def regWrite (i : Init) (a : Nat) (w : Word) (s : State) : State := gateWrite i a w (hookOf i a) s

/-- A register write of `size` bytes (R15): only aligned 32-bit accesses are accepted; any other is answered with a bus error, and told as R18 has it for
want of clock or power, or as R27 has it where only SAFE may write. -/
def regAccess (i : Init) (a : Nat) (size : Nat) (w : Word) (s : State) : State :=
  if size = 4 ∧ a % 4 = 0 then regWrite i a w s
  else if !s.answers (pageOf a) then raiseBus 2 i a true s.busErr
  else if (safeOnlyPage (pageOf a) || safeOnlyReg (a / 4 * 4)) && !trusted i s then raiseBus 0 i a true s.busErr
  else s.busErr

/-! ### Reads -/

/-- A read that brings a register up to date before its value is given. -/
def readFirst (a : Nat) (s : State) : State :=
  let p := pageOf a
  if p = P.TIME then timeRead a s
  else if p = P.PWR ∨ p = P.CLK ∨ p = 0xe0 then showFreq (idleWake (levelSettled s))
  else if p = P.SCHED ∧ a ≠ R.SCHED_DUE then showSched s
  else if a = R.SYS_TICK_NUM_LO then (s.wr a (word s.tickNum)).wr R.SYS_TICK_NUM_HI (word (s.tickNum / 2 ^ 32))
  else if p = P.DRV then showAges s
  else if p = P.NRG then nrgRead a s
  else if p = P.DALI then daliRead a s
  else if a = R.SCHED_DUE then schedDue s
  else if a = R.HOST_H2D_SET then s.wr a (s.rd R.HOST_H2D_STAT)
  else if a = R.FENCE_SET_LO then s.wr a (s.rd R.FENCE_STATE_LO)
  else if a = R.FENCE_SET_HI then s.wr a (s.rd R.FENCE_STATE_HI)
  else if a = R.GPIO_IN then gpioShow s
  else if isSrcStat a then rawRead a s
  else if 0x30 ≤ p ∧ p ≤ 0x37 then
    match (List.range 32).find? fun c => a == R.CRC_CTX_STAT (p - 0x30) c with
    | some c => crcStatRead (p - 0x30) c s
    | none => s
  else if 0x40 ≤ p ∧ p ≤ 0x41 then
    match (List.finRange 4).find? fun k : Fin 4 => a == R.VIN_S_FS_TIME_LO (p - 0x40) k with
    | some k => fsTimeRead (Fin.ofNat 2 (p - 0x40)) k s
    | none => s
  else s

/-- A read whose data is no register of the map: a window onto a memory, or a latched word. -/
def readData (a : Nat) (s : State) : State :=
  if a = R.PAT_PROG_DATA then progRead s
  else if a = R.PAT_K_DATA then kRead s
  else if a = R.PHO_DTH_DATA then dthRead s
  else if a = R.HOST_H2D_SET ∨ a = R.FENCE_SET_LO ∨ a = R.FENCE_SET_HI then s.wr a 0#32
  else if 0xa1 ≤ pageOf a ∧ pageOf a ≤ 0xb0 then
    (let k := Fin.ofNat 16 (pageOf a - 0xa1); if a = R.CTL_LOOP_RC_DATA k then rcRead k s else s)
  else match (List.finRange 3).find? fun r : Fin 3 => a == R.SEC_FLOOR_LO r || a == R.SEC_FLOOR_HI r with
    | some r =>
      if a = R.SEC_FLOOR_LO r then { s with sec := { s.sec with floorHi := s.sec.floorHi.set r (s.rd (R.SEC_FLOOR_HI r)) } }
      else s.busData s.sec.floorHi[r]
    | none => s

/-- A 32-bit read of the register at `a` (R14, R16, R18), with the effects of reading it. -/
def regRead (i : Init) (a : Nat) (s : State) : State :=
  gateRead i a (readData a) (if s.answers (pageOf a) then readFirst a s else s)

/-- Accesses to the interrupt controller (R62): aligned 32-bit ones, with CORE powered. -/
def plicOk (a size : Nat) : Bool := decide (size = 4) && decide (a % 4 = 0)

/-- BUS_WRITE (R60): a write of bytes by an initiator to memory, to a register page (R15) or to the interrupt controller. -/
def busWrite (i : Init) (a : Nat) (l : List Nat) (s : State) : State :=
  match regionOf a with
  | .regs => regAccess i a l.length (word (ofLE l)) s
  | .plic =>
    if !s.domainOn 3 then raiseBus 2 i a true s.busOk else if plicOk a l.length then plicWrite a (word (ofLE l)) s else s.busErr
  | _ => memWrite i a l s

/-- BUS_READ (R60): a read of `n` bytes; the bus answer holds up to four of them. -/
def busRead (i : Init) (a : Nat) (n : Nat) (s : State) : State :=
  match regionOf a with
  | .regs => if n = 4 ∧ a % 4 = 0 then regRead i a s else if !s.answers (pageOf a) then raiseBus 2 i a false s.busErr else s.busErr
  | .plic => if !s.domainOn 3 then raiseBus 2 i a false s.busErr else if plicOk a n then plicRead a s else s.busErr
  | _ => (memRead i a n s).2

end Sys2Proof.Machine
end

