-- ==== Sys2Proof/Machine/CmdBus.lean ====
section
/-! DEFINITION. The meanings of the commands of accesses to registers and memories, one for each row of the table. -/

namespace Sys2Proof.Machine

/-- REGISTER_WRITE (R14): A write to a register with no row of its own takes effect by its access code, with the checks of R15 to R18. -/
def execRegisterWrite (t : Nat) (i : Init) (a : Nat) (size : Nat) (v : Word) (s : State) : Answer :=
  let s := s.at t
  .next (regAccess i a size v s)

/-- BUS_WRITE (R60): A memory write by an initiator is decoded and either performed or dropped with a bus error by the address map, the buffer
firewall or a protected range. -/
def execBusWrite (t : Nat) (i : Init) (a : Nat) (l : List Byte) (s : State) : Answer :=
  let s := s.at t
  .next (Sys2Proof.Machine.busWrite i a (nums l) s)

/-- SRAM_READ (R535): A read of main, retention or eMRAM memory corrects a single-bit error or marks a double-bit error as uncorrectable. -/
def execSramRead (t : Nat) (i : Init) (a : Nat) (n : Nat) (s : State) : Answer :=
  let s := s.at t
  .next ((memRead i a n s).2)

/-- SCRUB_PASS (R539): The patrol scrubber completes a pass over main SRAM and sets LATE if the pass took longer than PASS_S. -/
def execScrubPass (t : Nat) (s : State) : Answer :=
  let s := s.at t
  .next (Sys2Proof.Machine.scrubPass s)

/-- BUS_READ (R60): A read by an initiator has behaviour of its own: it returns a bus error and raises BUS_DECODE_ERR or BUS_OFF_ACCESS, or latches a
paired high word. -/
def execBusRead (t : Nat) (i : Init) (a : Nat) (n : Nat) (s : State) : Answer :=
  let s := s.at t
  .next (Sys2Proof.Machine.busRead i a n s)

end Sys2Proof.Machine
end

