-- ==== Sys2Proof/Machine/CmdControl.lean ====
section
/-! DEFINITION. The meanings of the commands of control loops, carriers and conversions, one for each row of the table. -/

namespace Sys2Proof.Machine

/-- LOOP_SAMPLE (R213, R310): At a loop's sample instant the engine measures, forms references and commands, clamps, observes and book-keeps. -/
def execLoopSample (t : Nat) (k : Fin 16) (late : Bool) (s : State) : Answer :=
  let s := s.at t
  .next (fbChecks (readyWins (Sys2Proof.Machine.loopSample k late s)))

/-- LOOP_HOLD (R325): A write of CTL_LOOP_CMD.HOLD enters HOLD with cause COMMAND. -/
def execLoopHold (t : Nat) (i : Init) (k : Fin 16) (w : Word) (s : State) : Answer :=
  let s := s.at t
  .next (fbChecks (gateWrite i (R.CTL_LOOP_CMD k) (putBit w 0 true) (loopCmd k) s))

/-- RESUME (R325): A write of CTL_LOOP_CMD.RESUME in HOLD clears the checks and returns the loop to RUN at its next sample. -/
def execLoopResume (t : Nat) (i : Init) (k : Fin 16) (w : Word) (s : State) : Answer :=
  let s := s.at t
  .next (gateWrite i (R.CTL_LOOP_CMD k) (putBit w 1 true) (loopCmd k) s)

/-- INJ_START (R326): A write of INJ_START starts the configured injection at the next sample in SERVICE or FACTORY, or is refused with MODE. -/
def execInjStart (t : Nat) (i : Init) (k : Fin 16) (w : Word) (s : State) : Answer :=
  let s := s.at t
  .next (gateWrite i (R.CTL_LOOP_CMD k) (putBit w 2 true) (loopCmd k) s)

/-- INJ_STOP (R327): A write of INJ_STOP ends the injection with STOPPED. -/
def execInjStop (t : Nat) (i : Init) (k : Fin 16) (w : Word) (s : State) : Answer :=
  let s := s.at t
  .next (gateWrite i (R.CTL_LOOP_CMD k) (putBit w 3 true) (loopCmd k) s)

/-- CAP_ARM (R329): A write of CAP_ARM arms the loop capture, ignored during a capture. -/
def execCapArm (t : Nat) (i : Init) (k : Fin 16) (w : Word) (s : State) : Answer :=
  let s := s.at t
  .next (gateWrite i (R.CTL_LOOP_CMD k) (putBit w 4 true) (loopCmd k) s)

/-- CAP_TRIG (R329): A write of CAP_TRIG triggers an armed software-triggered capture. -/
def execCapTrig (t : Nat) (i : Init) (k : Fin 16) (w : Word) (s : State) : Answer :=
  let s := s.at t
  .next (gateWrite i (R.CTL_LOOP_CMD k) (putBit w 5 true) (loopCmd k) s)

/-- CARRIER_START (R331): At each PWM carrier start the output takes its current duty and places its pulse. -/
def execCarrierStart (t : Nat) (o : Fin 16) (s : State) : Answer :=
  let s := s.at t
  .next (Sys2Proof.Machine.carrierStart o s)

/-- ADC_CONVERSION (R334): An ADC channel completes a 200 ns conversion in LOOP or FREE mode. -/
def execAdcConversion (t : Nat) (c : Fin 16) (code : Fin 4096) (s : State) : Answer :=
  let s := s.at t
  .next (Sys2Proof.Machine.adcConversion c code s)

end Sys2Proof.Machine
end

