-- ==== Sys2Proof/Machine/CmdDrive.lean ====
section
/-! DEFINITION. The meanings of the commands of the pixel drive, one for each row of the table. -/

namespace Sys2Proof.Machine

/-- DRV_COVERAGE (R254): A group not verified for 2.0 s plus 2P raises DRV_COVERAGE once. -/
def execDrvCoverage (t : Nat) (k : Fin 4) (s : State) : Answer :=
  let s := s.at t
  .next (coverage k s)

/-- DRV_FN_KILL (R263): A write of 1 to bit f of DRV_FN_KILL switches function f off with cause KILL. -/
def execDrvFnKill (t : Nat) (i : Init) (w : Word) (s : State) : Answer :=
  let s := s.at t
  .next (gateWrite i R.DRV_FN_KILL w fnKill s)

/-- DRV_FN_CLEAR (R266): A write of 1 to bit f of DRV_FN_CLEAR removes its defect entries and switches it on from the next tick. -/
def execDrvFnClear (t : Nat) (i : Init) (w : Word) (s : State) : Answer :=
  let s := s.at t
  .next (gateWrite i R.DRV_FN_CLEAR w fnClear s)

/-- DRV_DEF_DELETE (R274): DRV_DEF_CMD DELETE removes entry IDX and moves the last entry into its place. -/
def execDrvDefDelete (t : Nat) (i : Init) (w : Word) (s : State) : Answer :=
  let s := s.at t
  .next (gateWrite i R.DRV_DEF_CMD w defDelete s)

end Sys2Proof.Machine
end

