-- ==== Sys2Proof/Machine/CmdEnergy.lean ====
section
/-! DEFINITION. The meanings of the commands of the energy ledger and DALI, one for each row of the table. -/

namespace Sys2Proof.Machine

/-- NRG_ALLOW_WRITE (R356): A write to NRG_ALLOW sets the planner targets, restarts the planner timer and clears STALE. -/
def execNrgAllowWrite (t : Nat) (i : Init) (w : Word) (s : State) : Answer :=
  let s := s.at t
  .next (gateWrite i R.NRG_ALLOW w nrgAllow s)

/-- ENERGY_PLAN_STALE (R356): No NRG_ALLOW write for TIMEOUT_MIN minutes sets STALE and takes the safe targets. -/
def execEnergyPlanStale (t : Nat) (s : State) : Answer :=
  let s := s.at t
  .next (planStale s)

/-- HOUR_ROLLOVER (R358): At each whole hour the hour accumulator is copied to NRG_LAST_HOUR and cleared. -/
def execHourRollover (t : Nat) (s : State) : Answer :=
  let s := s.at t
  .next (hourRoll s)

/-- NIGHT_ROLLOVER (R358): At NIGHT_START the night accumulator is copied to NRG_LAST_NIGHT and cleared. -/
def execNightRollover (t : Nat) (s : State) : Answer :=
  let s := s.at t
  .next (nightRoll s)

/-- NIGHT_RESTART (R358): A write of NRG_ACC_CTRL.NIGHT_RESTART rolls the night accumulator over at once. -/
def execNightRestart (t : Nat) (i : Init) (s : State) : Answer :=
  let s := s.at t
  .next (gateWrite i R.NRG_ACC_CTRL 1#32 nrgAccCtrl s)

/-- DALI_TX (R359): A write of DALI_TX.GO queues a raw forward frame. -/
def execDaliTx (t : Nat) (i : Init) (w : Word) (s : State) : Answer :=
  let s := s.at t
  .next (gateWrite i R.DALI_TX (putBit w 31 true) Sys2Proof.Machine.daliTx s)

/-- DALI_POLL (R360): Every POLL_S seconds the port queues a read of the driver's energy and power. -/
def execDaliPoll (t : Nat) (s : State) : Answer :=
  let s := s.at t
  .next (Sys2Proof.Machine.daliPoll s)

/-- DALI_TRANSACTION_DONE (R359): A DALI transaction ends with a backward frame, no reply, framing error or bus failure. -/
def execDaliTransactionDone (t : Nat) (result : Fin 4) (data : Fin 256) (energy : Nat) (power : Nat) (res : D4iScale) (s : State) : Answer :=
  let s := s.at t
  .next (daliDone result data energy power res s)

/-- DALI_BUS_FAIL (R359): A bus held low for more than 500 ms raises DALI_BUS_FAIL. -/
def execDaliBusFail (t : Nat) (s : State) : Answer :=
  let s := s.at t
  .next (Sys2Proof.Machine.daliBusFail s)

/-- XCHECK_WINDOW (R361): Every WINDOW_S the cross-check ratio is taken and N out windows raise ENERGY_XCHECK. -/
def execXcheckWindow (t : Nat) (s : State) : Answer :=
  let s := s.at t
  .next (xcheck s)

/-- DALI_BUS_RECOVERY (R359): The DALI bus returns from a held-low failure and transactions are carried again instead of ending BUS_FAIL. -/
def execDaliBusRecovery (t : Nat) (s : State) : Answer :=
  let s := s.at t
  .next (daliBusRecover s)

end Sys2Proof.Machine
end

