-- ==== Sys2Proof/Machine/CmdFault.lean ====
section
/-! DEFINITION. The meanings of the commands of fault collection and check values, one for each row of the table. -/

namespace Sys2Proof.Machine

/-- FAULT_EVENT (R508): A source's raising reaches the collector, which latches it, counts it and carries out its reaction level. -/
def execFaultEvent (t : Nat) (n : Fin 352) (s : State) : Answer :=
  let s := s.at t
  .next (raise n s)

/-- FORCE (R507): A write of 1 to a FORCE bit injects a FORCED event in SERVICE or FACTORY, or is refused. -/
def execForce (t : Nat) (i : Init) (page : Fin 256) (w : Word) (s : State) : Answer :=
  let s := s.at t
  .next (gateWrite i (R.FORCE page) w (forcePage page) s)

/-- FLT_FORCE_SRC (R507): A write of FLT_FORCE_SRC with GO injects a FORCED event for the named source. -/
def execFltForceSrc (t : Nat) (i : Init) (w : Word) (s : State) : Answer :=
  let s := s.at t
  .next (gateWrite i R.FLT_FORCE_SRC (putBit w 31 true) forceSrc s)

/-- RELEASE (R517): A write of FLT_ERR.RELEASE releases ERR_N when no level-4 or level-5 event is latched. -/
def execErrRelease (t : Nat) (i : Init) (w : Word) (s : State) : Answer :=
  let s := s.at t
  .next (gateWrite i R.FLT_ERR (putBit w 1 true) Sys2Proof.Machine.errRelease s)

/-- CONSQ_TMO (R519): A reset window expiring by timeout closes and sets CONSQ_TMO. -/
def execConsqTmo (t : Nat) (s : State) : Answer :=
  let s := s.at t
  .next (conseqTimeout s)

/-- FLT_CFG_CRC (R532): Every 1 ms the stored fault configuration is compared with its CRC and a mismatch raises FLT_CFG_CRC. -/
def execFltCfgCrc (t : Nat) (s : State) : Answer :=
  let s := s.at t
  .next (cfgCheck s)

/-- FLT_LOG_RD_WRITE (R620): A write of FLT_LOG_RD marks log entries before it as read and sets UNREAD. -/
def execFltLogRdWrite (t : Nat) (i : Init) (w : Word) (s : State) : Answer :=
  let s := s.at t
  .next (gateWrite i R.FLT_LOG_RD w logRead s)

/-- FLT_STAT_CLEAR (R515): A W1C write to a source's status bits clears them unless an event falls in the same cycle. -/
def execFltStatClear (t : Nat) (i : Init) (n : Fin 352) (w : Word) (s : State) : Answer :=
  let s := s.at t
  .next (gateWrite i (R.FLT_SRC_STAT n) w (statClear (R.FLT_SRC_STAT n)) s)

/-- CRC_SNOOP_PACKET (R528): A snooped packet or frame feeds its bytes to a context, latching or comparing its result. -/
def execCrcSnoopPacket (t : Nat) (src : Fin 8) (inst : Fin 4) (l : List Byte) (s : State) : Answer :=
  let s := s.at t
  .next (snoop src inst (nums l) s)

/-- CRC_CTX_RUN_WRITE (R527): A write to CRC_CTX_RUN sets the shift register, or is dropped while the context is active. -/
def execCrcCtxRunWrite (t : Nat) (i : Init) (u : Fin 8) (c : Fin 32) (w : Word) (s : State) : Answer :=
  let s := s.at t
  .next (gateWrite i (R.CRC_CTX_RUN u c) w (crcRunWrite u c) s)

/-- LOCAL_MEMORY_ECC_ERROR (R525): A read of the APU L2, SAFE TCM, or BEAM or NETE local memory finds an ECC error and raises APU_L2_CE, APU_L2_UE,
SAFE_TCM_UE, BEAM_MEM_UE or NETE_MEM_UE. -/
def execLocalMemoryEccError (t : Nat) (kind : LocalEcc) (s : State) : Answer :=
  let s := s.at t
  .next (localEcc kind s)

end Sys2Proof.Machine
end

