-- ==== Sys2Proof/Machine/Startup.lean ====
section
/-! DEFINITION. Power-good, the boot ROM, the start-up record, and the start-up sequence (R461, R562 to R570, R594). -/

namespace Sys2Proof.Machine

/-! ### Progress (R567, R568) -/

/-- Milliseconds since power-good. -/
def startMs (s : State) : Nat := (s.now - s.sys.pgTime) / 1000000

/-- SYS_START_MS(k): 0 while the step has not been completed, 0xFFFF where it is skipped. -/
def stepMs (s : State) (k : Nat) : Nat := s.rf (R.SYS_START_MS k) 15 0

/-- Step `k` is still open. -/
def stepOpen (s : State) (k : Nat) : Bool := stepMs s k == 0

/-- Step `k` has been completed. -/
def stepDone (s : State) (k : Nat) : Bool := stepMs s k != 0 && stepMs s k != 0xFFFF

/-- Step `k` is completed: its time, and the last step completed. -/
def completeStep (k : Nat) (s : State) : State :=
  if !stepOpen s k then s else
  (s.wr (R.SYS_START_MS k) (word (max 1 (min 0xFFFE (startMs s))))).wf R.SYS_START_STAT 4 0 k

/-- Step `k` is skipped. -/
def skipStep (k : Nat) (s : State) : State := s.wr (R.SYS_START_MS k) 0xFFFF#32

/-- Start-up reports a reason (R568). -/
def startReason (r : Nat) (s : State) : State := (s.wf R.SYS_START_STAT 31 24 r).irq P.SYS 5

/-- Port `p` is up. -/
def t1Up (s : State) (p : Fin 3) : Bool := portUp s p

/-- The condition of step `k`, for the steps that other blocks complete (R567). -/
def stepHolds (s : State) (k : Nat) : Bool :=
  if k = 3 then stepDone s 2 && tilesUp s
  else if k = 5 then stepDone s 4 && modeNow s == 4 && (List.finRange 4).any fun t => s.tileOn t && decide (1 ≤ s.tile[t].fb.frames)
  else if k = 7 then stepDone s 6 && t1Up s 0 && t1Up s 1
  else if k = 8 then stepDone s 7 && (List.finRange 3).all fun p => !ringPort s p || forwarding s p
  else if k = 9 then stepDone s 6 && servo s != 0
  else if k = 10 then stepDone s 6 && servo s == 2 && ttValid s
  else if k = 11 then stepDone s 6 && headOpen s
  else if k = 12 then stepDone s 6 && modeNow s == 2
  else false

/-- Steps whose conditions now hold are completed, in order (R567); with ADAPTIVE in force start-up is complete. -/
def startProgress (s : State) : State :=
  let s := s.over [3, 5, 7, 8, 9, 10, 11, 12] fun s k => if stepOpen s k && stepHolds s k then completeStep k s else s
  if stepDone s 12 && s.rf R.SYS_START_STAT 4 0 == 12 then s.wf R.SYS_START_STAT 31 24 0 else s

/-! ### Power-good (R562, R594) -/

/-- What the boot ROM does first: the clocks are up and the host path serves frames (R395, R617). -/
def bootRelease (s : State) : State := (s.wr (R.STATUS P.CLK) 0xFF#32).wb (R.CTRL P.HOST) 0 true

/-- POWER_GOOD (R540, R562, R594): after a loss of power nothing but eMRAM, flash and OTP has a history; retention SRAM is written to zero. -/
def powerGood (s : State) : State :=
  let s := allOff false s
  let s := chipReset 0 0 { s with tickNum := 0 }
  bootRelease (s.wr R.PWR_DOMAIN_STAT 0xFF#32)

/-- RESET_N held low for at least 1 µs (R562). -/
def resetPin (s : State) : State := if isOff s then s else chipReset 1 0 s

/-! ### The boot ROM (R450 to R461, R544, R553, R570) -/

/-- What the DRK gives (R450, R451, R455): the DRK in slot 0, the ES384 and ML-DSA-65 identity keys by HKDF-SHA-384 with their info strings, and the storage
key. -/
def derivedKeys : List (Nat × List Nat) :=
  let drk := bytesBE 32 (Config.drk % 2 ^ 256)
  let info := [0x4C, 0x48, 0x34, 0x32, 0x30, 0x30, 0x20, 0x49, 0x44, 0x20]
  [(0, drk), (1, hkdf384 Config.hkdfSalt drk (info ++ [0x45, 0x53, 0x33, 0x38, 0x34]) Config.esBytes),
   (2, hkdf384 Config.hkdfSalt drk (info ++ [0x4D, 0x4C, 0x44, 0x53, 0x41, 0x36, 0x35]) 32), (3, Config.storageKey drk)]

/-- Keys at boot (R450, R451, R455, R456): the DRK and what is derived from it, and the slots unwrapped from eMRAM. In RETIRED the helper data are gone and
nothing reconstructs (R454): `ok` says that the PUF's answer stands. -/
def bootKeys (ok keys : Bool) (s : State) : State :=
  let puf := ok && s.nv.lifecycle != 3
  let s := if puf then s.setSec fun x => { x with keys := derivedKeys } else s
  let s := if puf then
      (((s.wr (R.SEC_KEY_META 0) (keyMeta 0 1 0)).wr (R.SEC_KEY_META 1) (keyMeta 2 2 1)).wr (R.SEC_KEY_META 2) (keyMeta 3 2 1)).wr (R.SEC_KEY_META 3) (keyMeta 0 0x20 1)
    else raise Src.PUF_FAIL (s.irq P.SEC0 2)
  let s := if puf && keys then s.over s.nv.slots fun s x => s.wr (R.SEC_KEY_META x.1) x.2.2 else if puf then raise Src.KEYSTORE_FAIL s else s
  (s.wb R.SEC_STATUS 0 puf).wb R.SEC_STATUS 1 (puf && keys)

/-- OTP_CRC (R453, R454): from DEPLOYED onward it is the CRC-32C of bits 0 to 895. -/
def otpGood (s : State) : Bool := decide (s.nv.lifecycle < 2) || s.nv.otpBits 1440 32 == crc32c (s.nv.otpBytes 0 112)

/-- The copy of the SAFE image that boots (R461). -/
def safeCopy (s : State) : Option Nat :=
  let k := bootCopy 0 s
  if (imageCheck 0 k s).1 then some k else if (imageCheck 0 (1 - k) s).1 then some (1 - k) else none

/-- The CHAIN of the newest stored record, recomputed from the H before it and its bytes 0 to 31, is the record's own and the stored head's (R483). -/
def chainGood (s : State) : Bool :=
  if s.nv.auditNext = 0 then true
  else
    let r := auditRecord (s.nv.auditNext - 1) s
    let h := sha256 ((if s.nv.auditNext = 1 then auditSeed s else s.nv.auditPrev) ++ r.take 32)
    h == s.nv.auditHead && r.drop 32 == h.take 16

/-- The audit chain is checked at boot (R483). -/
def auditBoot (s : State) : State :=
  if chainGood s then s else auditAdd 3 3 0x14 [] (ofLE (s.nv.auditHead.take 4)) 0 (raise Src.AUDIT_BROKEN (s.irq P.SEC4 1))

/-- The boot was a warm one (R562, R563). -/
def warmBoot (s : State) : Bool := s.rf R.SYS_RST_CAUSE 3 0 == 7

/-- The stored quarantine state is in force again (R489, R570). -/
def quarantineAgain (cause : Nat) (s : State) : State :=
  let s := ((s.wb R.SEC_STATUS 4 true).wf R.SEC_STATUS 11 8 cause).irq P.SEC0 0
  let s := (s.wf R.SYS_MODE 3 0 7).wf R.SYS_MODE 5 4 (quarantineLamp cause)
  if cause = 1 then s else runRecovery s


/-- The mode that boot sets, with its record where it changes (R484, R485, R570): a chip reset leaves FACTORY in SYS_MODE, a warm boot begins from the mode
before it (log entry 117). -/
def bootTo (m : Nat) (s : State) : State :=
  let old := if warmBoot s then s.pwr.kept else s.rf R.SYS_MODE 3 0
  let s := s.wf R.SYS_MODE 3 0 m
  if old = m then s else auditAdd 3 3 7 [] old m s

/-- The mode at boot (R570): QUARANTINE, FACTORY or DARK; after a warm boot it stays what it was, DARK or STANDALONE with the lamp dark (R378, R563). -/
def bootMode (cause : Nat) (s : State) : State :=
  if cause ≠ 0 then quarantineEnter cause s
  else if s.nv.quarantine ≠ 0 then quarantineAgain s.nv.quarantine s
  else if s.nv.lifecycle < 2 ∧ !warmBoot s then bootTo 0 s
  else bootTo (if warmBoot s && s.pwr.kept == 3 then 3 else 5) s

/-- A RECOVERY image armed for TRIAL, or one whose trial a reset has ended, is judged at boot as a SAFE image is (R465). -/
def recoveryBoot (s : State) : State :=
  if s.nv.trial / 4 ≠ 2 then s
  else match recoveryCopy s with
    | none => let k := bootCopy 2 s; imageFail 2 (1 - k) (imageFail 2 k s)
    | some k => bootImage 2 k (imageCheck 2 k s) (if k = bootCopy 2 s then s else imageFail 2 (1 - k) s)

/-- What a warm boot leaves out (R563): steps 2 to 5 and 7 to 12 are skipped and the self-test waits. ERR_N, which step 2 would release, is released
with its being skipped (R588, log entry 160). -/
def warmSkips (s : State) : State :=
  (s.over [2, 3, 4, 5, 7, 8, 9, 10, 11, 12] fun s k => skipStep k s).setSys fun x => { x with selfTestDue := true, errLow := s.rb R.FLT_ERR 0 }

/-- What the boot ROM does before it verifies SAFE (R450 to R458, R544, R553): OTP, the directory, the journal, the flash parts, the keys, the DRBG and
the challenges. `puf` and `keys` say that the DRK reconstructs and that the key region's tags hold, `rng` that the health tests pass, `flash` what SFDP gives
(R556). -/
def bootPrepare (puf keys rng : Bool) (flash : Nat) (s : State) : State :=
  let s := otpLoad (otpShow (bootRelease s))
  let s := if directoryGood s then loadDirectory s else s
  let s := nvShow (journalScan s)
  let s := flashProbe flash s
  let s := drbgReseed rng (bootKeys puf keys (s.setSec fun x => { x with draws := 2 ^ 20 }))
  let s := newNonce (R.SEC_RCV_CHAL 0) (newNonce (R.SEC_DBG_CHAL 0) (newNonce (R.SEC_HOST_CHAL 0) s))
  let s := s.wb R.SYS_MODE 9 s.nv.commissioned
  s.wb R.SEC_UPD_STAT 9 (!s.nv.raises.isEmpty)

/-- Copy `k` of the SAFE image is loaded, trials are judged, and its hart starts (R461, R465). -/
def bootStart (k : Nat) (s : State) : State :=
  let s := if k = bootCopy 0 s then s else imageFail 0 (1 - k) s
  let s := recoveryBoot (bootImage 0 k (imageCheck 0 k s) (imageLoad 0 k s))
  xspiProtect ((s.wr (R.CPU_HART_EN 1) 1#32).wr (R.CPU_HART_STAT 1) 1#32)

/-- SAFE_RUNNING (R461, R567 step 1): the boot ROM decides the journal, loads the directory and keys, verifies SAFE and starts it. -/
def safeRunning (puf keys rng : Bool) (flash : Nat) (s : State) : State :=
  if isOff s || !stepOpen s 1 || quarantined s then s else
  let dirOk := directoryGood (otpLoad (otpShow (bootRelease s)))
  let s := bootPrepare puf keys rng flash s
  match safeCopy s with
  | none => let k := bootCopy 0 s; bootMode 1 (imageFail 0 (1 - k) (imageFail 0 k s))
  | some k =>
    let s := bootStart k s
    let cause := if !otpGood s then 5 else if !s.rb R.SEC_STATUS 0 then 3 else if !dirOk || !keys then 4 else 0
    let s := buildPageRights 0 (bootMode cause (auditBoot s))
    let s := completeStep 1 s
    if warmBoot s then warmSkips s else s

/-! ### The start-up record (R564, R565) -/

/-- First byte of the record: the last 8,192 bytes of FALLBACK. -/
def recAddr (s : State) : Nat := 0x20000000 + (s.rd (R.NVM_REGION_BASE 10)).toNat + (s.rd (R.NVM_REGION_SIZE 10)).toNat - 8192

/-- A little-endian field of the record. -/
def recField (s : State) (o n : Nat) : Nat := ofLE (s.seeBytes (recAddr s + o) n)

/-- Entries: address, phase, value. -/
def recEntries (s : State) : List (Nat × Nat × Word) :=
  (List.range (min 1020 (recField s 6 2))).map fun k =>
    let w := recField s (32 + 8 * k) 4
    (w / 4 * 4, w % 4, word (recField s (36 + 8 * k) 4))

/-- An entry addresses a register page of R61 that is neither SEC nor FLT, in a phase that exists. -/
def recEntryGood (e : Nat × Nat × Word) : Bool :=
  let p := pageOf e.1
  isReg e.1 && (pageDef p).isSome && decide (e.2.1 ≤ 2) && !(decide (4 ≤ p) && decide (p ≤ 11)) && !(decide (0x10 ≤ p) && decide (p ≤ 0x17))

/-- The record stands. -/
def recGood (s : State) : Bool :=
  decide (8192 ≤ (s.rd (R.NVM_REGION_SIZE 10)).toNat) && recField s 0 4 == 0x50555453 && recField s 4 2 == 1 && decide (recField s 6 2 ≤ 1020) &&
  decide (recField s 8 2 ≤ 1500) && decide (recField s 10 1 ≤ 1) && decide (1 ≤ recField s 11 1) && decide (recField s 11 1 ≤ 100) &&
  recField s 28 4 == crc32c (s.seeBytes (recAddr s) 28 ++ s.seeBytes (recAddr s + 32) (8 * min 1020 (recField s 6 2))) &&
  (recEntries s).all recEntryGood

/-- Groups that hold a dirty block. -/
def dirtyGroups (s : State) : List (Fin 16) := (List.finRange 16).filter fun g => !(dirtyPages g s).isEmpty

/-- SAFE applies the entries of a phase in record order and arms, with MODE = NEXT, every group that holds a dirty block (R565). -/
def applyPhase (ph : Nat) (s : State) : State :=
  let s := s.over (((recEntries s).filter fun e => e.2.1 == ph)) fun s e => regWrite .safe e.1 e.2.2 s
  let gs := dirtyGroups s
  let s := s.over gs fun s g => regWrite .safe (R.SYS_CG_CTRL g) 5#32 s
  s.setSys fun x => { x with startArmed := x.startArmed ++ gs.map (·.val) }

/-- Start-up ends with a reason; the lamp stays dark (R565). -/
def startEnds (r : Nat) (s : State) : State := startReason r (s.setSys fun x => { x with recordGood := false, startArmed := [], softEnd := none })

/-- The self-test that a warm boot deferred (R563): it runs with the first START_RECORD_APPLY after it, of which nothing else is carried out (log entry
160). -/
def lateSelfTest (selfTest : Bool) (s : State) : State :=
  if !s.sys.selfTestDue then s
  else
    let s := s.setSys fun x => { x with selfTestDue := false }
    if selfTest then s else raise Src.LBIST_FAIL s

/-- START_RECORD_APPLY (R565, R567): phase 0 checks the record after the self-test; phase 1 ends step 2. ERR_N rises with step 2 unless a fault
holds it (R588). Phase 2 follows STAGGER_END. After a warm boot the deferred self-test alone runs (R563). -/
def recordApply (phase : Fin 2) (selfTest : Bool) (s : State) : State :=
  if warmBoot s then lateSelfTest selfTest s
  else if !stepDone s 1 || !stepOpen s 2 || s.rf R.SEC_STATUS 11 8 == 1 then s
  else if phase.val = 0 then
    if s.sys.recordGood then s
    else if !selfTest then startEnds 2 (raise Src.LBIST_FAIL s)
    else if !recGood s then startEnds 1 s
    else
      let s := s.wr R.SYS_STAGGER (word (crc32c s.nv.uid % (recField s 8 2 + 1)))
      applyPhase 0 (s.setSys fun x => { x with recordGood := true, lookInRecord := (recEntries s).any fun e => e.1 == R.CTRL P.LOOK && bitOf e.2.2 0 })
  else if !s.sys.recordGood then s
  else
    let s := completeStep 2 (applyPhase 1 s)
    let s := s.setSys fun x => { x with errLow := s.rb R.FLT_ERR 0 }
    if recField s 10 1 = 0 then skipStep 5 (skipStep 4 s) else s

/-- The stagger delay has passed (R566). -/
def staggerOver (s : State) : Bool := decide (s.sys.pgTime + s.rf R.SYS_STAGGER 10 0 * 1000000 ≤ s.now)

/-- STAGGER_END (R566, R567 step 4): with the links UP phase 2 is applied and the soft start begins. -/
def staggerEnd (s : State) : State :=
  let s := startProgress s
  if !s.sys.recordGood || !stepDone s 3 || !stepOpen s 4 || s.sys.softEnd.isSome || !staggerOver s then s
  else
    let s := applyPhase 2 s
    s.setSys fun x => { x with softEnd := some (s.now + recField s 11 1 * 1000000) }

/-- What start-up does at a tick before modes apply (R565, R567): the groups it armed are judged; when the soft start is over step 4 is complete and
FALLBACK is forced at this tick. -/
def startTick (s : State) : State :=
  let open_ := s.sys.startArmed.filter fun g => s.rb R.SYS_CG_ARMED g
  let bad := s.sys.startArmed.any fun g => !s.rb R.SYS_CG_ARMED g && s.rf (R.SYS_CG_STAT (Fin.ofNat 16 g)) 3 0 != 1
  let s := s.setSys fun x => { x with startArmed := open_ }
  if bad then startEnds 1 s
  else match s.sys.softEnd with
    | some t =>
      if t ≤ s.now ∧ open_.isEmpty then (completeStep 4 s).setSys fun x => { x with softEnd := none, forceFb := true } else s
    | none => s

/-! ### MAIN (R461, R465, R484) -/

/-- MAIN_IMAGE_VERIFIED (R461): the active slot, or the other one, stands, and the APU, NETE and BEAM harts are released; otherwise QUARANTINE. -/
def mainVerified (s : State) : State :=
  if !stepDone s 1 || !stepOpen s 6 || quarantined s || s.rb R.SEC_BOOT_STAT 4 then s else
  let k := bootCopy 1 s
  let go := fun (k : Nat) (s : State) =>
    let c := imageCheck 1 k s
    let s := bootImage 1 k c (imageLoad 1 k s)
    let s := auditAdd 3 3 1 [] c.2.2 (k + 256 * s.rf R.SEC_BOOT_STAT 8 8) s
    let s := ((s.wr (R.CPU_HART_EN 0) 0xF#32).wr (R.CPU_HART_EN 2) 0xFF#32).wr (R.CPU_HART_EN 3) 3#32
    let s := ((s.wr (R.CPU_HART_STAT 0) 0xF#32).wr (R.CPU_HART_STAT 2) 0xFF#32).wr (R.CPU_HART_STAT 3) 3#32
    completeStep 6 s
  if (imageCheck 1 k s).1 then go k s
  else
    let s := imageFail 1 k s
    if (imageCheck 1 (1 - k) s).1 then go (1 - k) s
    else startReason 4 (quarantineEnter 2 (imageFail 1 (1 - k) s))

/-! ### Bounds (R568) -/

/-- The first condition of R568 that is not met within its bound, 0 where none is. -/
def startLack (s : State) : Nat :=
  let late := fun ms => decide (ms ≤ startMs s)
  let wait := late (s.rf R.SYS_START_CFG 15 8 * 1000)
  if stepDone s 2 && stepOpen s 3 && late (stepMs s 2 + 120) then 3
  else if stepDone s 6 && wait && !(portUp s 0) && !(portUp s 1) && !(portUp s 2) then 5
  else if stepDone s 6 && wait && servo s != 2 then 6
  else if stepDone s 6 && wait && !headOpen s then 7
  else if stepOpen s 12 && late 45000 then
    (if !s.rb R.SYS_MODE 9 then 8 else if errActive s then 9 else if thmCritical s then 10 else 0)
  else 0

/-- START_STEP_TIMEOUT (R568). -/
def startTimeout (s : State) : State :=
  let s := startProgress s
  if startLack s = 0 ∨ s.rf R.SYS_START_STAT 31 24 = 1 ∨ s.rf R.SYS_START_STAT 31 24 = 2 ∨ s.rf R.SYS_START_STAT 31 24 = 4 then s else startReason (startLack s) s

end Sys2Proof.Machine
end

