-- ==== Sys2Proof/Machine/Tick.lean ====
section
/-! DEFINITION. The frame tick (R13, R22, R34 to R36, R42, R69): what every block does at a tick, in one order. -/

namespace Sys2Proof.Machine

/-- TICK_NUM at this tick (R13): one more, or as the first alignment sets it (R420). -/
def advanceTick (s : State) : State :=
  let s := { s with tickNum := s.nextNum, now := max s.now s.nextTick }
  s.setTim fun t => { t with jump := none }

/-- A clocked block latches its statistics (R22, R51); the ledger only while its EN is 1 (R362). -/
def latches (s : State) (p : Nat) : Bool := s.pageOn p && (p != P.NRG || s.en P.NRG)

/-- A STAT word that is latched at the tick. -/
def statLatched (s : State) (a : Nat) : Bool := isStat a && latches s (pageOf a)

/-- A live statistic as STAT shows it: the bytes read through the flash window in KiB (R561), rounded by R8. -/
def latchWord (a : Nat) (w : Word) : Word := if a = R.STAT P.XSPI 0 then word ((w.toNat + 512) / 1024) else w

/-- At a tick every clocked block copies its live statistics into STAT, writes LATCH_TICK and restarts its live counters (R22, R51). -/
def latchStats (s : State) : State :=
  let keys := ((skeep (statLatched s) s.regs) ++ skeep (statLatched s) s.stat).map (·.1)
  let s := s.over keys fun s a => s.wr a (latchWord a (s.st a))
  let s := { s with stat := skeep (fun a => !statLatched s a) s.stat }
  s.over ((List.range 256).filter fun p => (regDef (R.LATCH_TICK p)).isSome && latches s p) fun s p => s.wr (R.LATCH_TICK p) (word s.tickNum)

/-- The frame that has been sent lights (R35, R36): the swaps, and what the interval that ends leaves to be shown. -/
def frameLights (s : State) : State :=
  let lit := s.frm.live && s.en P.CMP && (List.finRange 4).any fun t => s.tile[t].marked
  let s := nrgEnd (rollFirst ((s.when (s.pageOn P.SCN) scanEnd).when (s.pageOn P.CTL) ctlEnd))
  if lit then closeWins (fun r => r == .lit) s else s

/-- The table of sub-slots changed by the commits of the tick (R245). -/
def seqDiffers (old s : State) : Bool :=
  (List.range 16).any (fun w => old.rd (R.DRV_SEQ_ORDER w) != s.rd (R.DRV_SEQ_ORDER w)) || old.rf R.DRV_SEQ_CFG 21 0 != s.rf R.DRV_SEQ_CFG 21 0

/-- A commit of page `p` is due at this tick. -/
def commitDue (p : Nat) (s : State) : Bool :=
  (List.finRange 16).any fun g =>
    let x := s.sys.groups[g]
    x.staged && x.dueNow s && !x.expires && x.members.contains p

/-- A commit of page `p` has applied at this tick, `old` being the state before it. -/
def committed (p : Nat) (old s : State) : Bool := commitDue p old && s.rf (R.COMMIT_STAT p) 3 0 == 1

/-- Staged commits apply (R42), and what follows from their new values in their blocks. -/
def applyCommits (s : State) : State :=
  let old := s
  let s := tickGroups s
  let s := if committed P.GPIO old s then gpioCommit s else s
  let s := if committed P.PWM old s then pwmApplied s else s
  let s := if committed P.GLM old s then s.setGlm fun g => { g with held := false } else s
  let s := if seqDiffers old s then seqChanged s else s
  let s := if timingMode (s.rd R.SCN_TIMING) = timingMode (old.rd R.SCN_TIMING) then s else showFreq (unitsAgain s)
  loopsOff (groupsChanged none s)

/-- The lamp's modes at the tick (R567, R575, R577), with the probes' settings of a lamp that turns dark or lit. -/
def applyModes (s : State) : State :=
  let was := probeWanted s
  pushProbe was (modeTick (startTick s))

/-- The frame whose composition interval begins (R36). `entry` is the first tick of a fallback lamp. -/
def beginFrame (entry : Bool) (s : State) : State :=
  (s.when (s.pageOn P.CMP) fun s => scanBegin entry (glmTick (latchFrame s))).when (s.pageOn P.LOOK) lookTick

/-- The time unit's step at the tick; an alignment is recorded with the difference it takes up (R420, R484). -/
def timeStep (mode : Bool) (s : State) : State :=
  if s.tim.align then stepRecord s.dNs (timeTick mode s) else timeTick mode s

/-- FRAME_TICK (R34): nothing without clocks, in OFF and in DEEP_SLEEP, whose counter the RTC keeps (R377); otherwise the frame lights, commits, modes,
time, patterns, loops, the scheduler and the slower processes of the device take their step, statistics latch, the ledger chooses its factors and the
next frame begins; each block only while it has clocks (R364). -/
def frameTick (s : State) : State :=
  if isOff s || pwrState s == 3 then s else
  let s := levelSettled ((advanceTick s).irq P.SYS 0)
  let pix := s.pageOn P.CMP
  let s := (frameLights s).when pix settleRetires
  let old := s
  let wasFb := s.lampKind == 2
  let s := applyCommits s
  let mode := timingMode (s.rd R.SCN_TIMING) != timingMode (old.rd R.SCN_TIMING)
  let s := applyModes (s.when pix applyFlips)
  let before := s.ttNs s.now
  let s := (ctlTick old mode (patTick (timeStep mode (ntTick s)))).when (s.pageOn P.SCN) syncTick
  let s := retScrub (auditStep (quietTick (floorTick (schedTick before (s.when (s.pageOn P.NET) parentCheck)))))
  let s := (s.when (s.pageOn P.PHO) rmapTick).when (s.pageOn P.GPIO) fun s => s.stw (R.STAT P.GPIO 0) (s.rd R.GPIO_IN)
  let s := latchStats s
  let s := nrgTick old (s.nextTick - s.now) (comingLen s).1 s
  let s := showAges (showXo (thmTick s))
  let s := beginFrame (s.lampKind == 2 && !wasFb) s
  idleWake (gpioShow (startProgress (readyWins (svcTick s))))

/-- COMMIT_DEADLINE (R36, R49): flip fences are sampled, flips accepted or deferred (R105 to R111), pattern flags are sampled, and SYS sets DEADLINE. -/
def commitDeadline (s : State) : State := (patSample (s.when (s.pageOn P.CMP) flipDeadline)).irq P.SYS 1

end Sys2Proof.Machine
end

