-- ==== Sys2Proof/Machine/CmdFrame.lean ====
section
/-! DEFINITION. The meanings of the commands of frame, commits, resets and locks, one for each row of the table. -/

namespace Sys2Proof.Machine

/-- FRAME_TICK (R34): The time unit generates the frame tick and distributes it with TICK_NUM to every block as a single-cycle event. -/
def execFrameTick (s : State) : Answer := .next (Sys2Proof.Machine.frameTick s)

/-- COMMIT_DEADLINE (R36): At tick minus G the commit deadline passes: flip fences and pattern parameters are sampled and the SYS DEADLINE bit is set.
-/
def execCommitDeadline (s : State) : Answer := .next (if isOff s || pwrState s == 3 then s else Sys2Proof.Machine.commitDeadline (s.at (s.nextTick - s.guardNs)))

/-- ARM (R39): A write of 1 to SYS_CG_CTRL(g).ARM stages the dirty shadows of the group's blocks, or sets REFUSED if the group is already staged. -/
def execArm (t : Nat) (i : Init) (g : Fin 16) (w : Word) (s : State) : Answer :=
  let s := s.at t
  .next (gateWrite i (R.SYS_CG_CTRL g) (putBit w 0 true) (cgCtrl g) s)

/-- CANCEL (R44): A write of 1 to SYS_CG_CTRL(g).CANCEL ends a staged group with CANCELLED if its cancel limit has not passed. -/
def execCancel (t : Nat) (i : Init) (g : Fin 16) (w : Word) (s : State) : Answer :=
  let s := s.at t
  .next (gateWrite i (R.SYS_CG_CTRL g) (putBit w 1 true) (cgCtrl g) s)

/-- COMMIT_VALIDATE (R40): SAFE completes its validation of a staged group after the members' own checks, and the group is either kept or discarded
with per-member reasons. -/
def execCommitValidate (t : Nat) (g : Fin 16) (rejects : List (Fin 256)) (s : State) : Answer :=
  let s := s.at t
  .next (validate g (rejects.map fun p => p.val) s)

/-- BLOCK_RESET (R19): A block reset returns the block's registers to their reset values except SEQ_DONE, RWL fields, LOCK and the timing mode, and
keeps or loses internal state as R524 gives. -/
def execBlockReset (t : Nat) (page : Fin 256) (s : State) : Answer :=
  let s := s.at t
  .next (if (pageDef page).isSome && !isOff s then settle (resetBlock page s) else s)

/-- CHIP_RESET (R562): A chip reset records its cause and the last TICK_NUM in AON and starts a full or warm boot. -/
def execChipReset (t : Nat) (cause : Fin 16) (src : Fin 512) (s : State) : Answer :=
  let s := s.at t
  .next (if isOff s then s else Sys2Proof.Machine.chipReset cause src s)

/-- LOCK_SET (R14): A write of 1 to a block's LOCK bit freezes its RWL fields until chip reset. -/
def execLockSet (t : Nat) (i : Init) (page : Fin 256) (s : State) : Answer :=
  let s := s.at t
  .next (match lockReg page with
    | some a => gateWrite i a 1#32 noHook s
    | none => s)

end Sys2Proof.Machine
end

