-- ==== Sys2Proof/Machine/CmdGlare.lean ====
section
/-! DEFINITION. The meanings of the commands of object lists and masks, one for each row of the table. -/

namespace Sys2Proof.Machine

/-- GLM_POST (R164): Software posts a FREE CH1 list slot by writing its number to GLM_POST, or is refused with SLOT. -/
def execGlmPost (t : Nat) (i : Init) (w : Word) (s : State) : Answer :=
  let s := s.at t
  .next (gateWrite i R.GLM_POST w Sys2Proof.Machine.glmPost s)

/-- BAND_DONE (R181): The mask program marks a band of the current plane done, releasing the pipe to compose it. -/
def execBandDone (t : Nat) (b : Fin 16) (s : State) : Answer :=
  let s := s.at t
  let u := Sys2Proof.Machine.bandDone b s
  .next (if u.frm.band = s.frm.band then u else closeWins (fun r => r == .band) u)

/-- BAND_DEADLINE (R182): A band's deadline passes before it is done, so the band is late and composes from the previous plane or DARK. -/
def execBandDeadline (t : Nat) (k : Fin 4) (b : Fin 16) (s : State) : Answer :=
  let s := s.at t
  .next (bandLate k b s)

/-- POOL_RENDER_DONE (R188): The mask program finishes the pool canvas, signals its fence and posts a flip of POOL_LAYER. -/
def execPoolRenderDone (t : Nat) (s : State) : Answer :=
  let s := s.at t
  .next (Sys2Proof.Machine.poolRenderDone s)

/-- GLM_ENABLE (R189): GLM CTRL.EN changing from 0 to 1 loads the mask program into the selected BEAM engines and sets every channel LOST. -/
def execGlmEnable (t : Nat) (i : Init) (w : Word) (s : State) : Answer :=
  let s := s.at t
  .next (gateWrite i (R.CTRL P.GLM) (putBit w 0 true) glmCtrl s)

end Sys2Proof.Machine
end

