-- ==== Sys2Proof/Machine/HostSpi.lean ====
section
/-! DEFINITION. HOSTSPI frames and the grant checks of host accesses (R477, R602, R617). -/

namespace Sys2Proof.Machine

/-- The host path serves frames (R602, R617). -/
def hostReady (s : State) : Bool := s.pageOn P.HOST && s.en P.HOST

/-- Role of the host grant: 7 for none. -/
def grantRole (s : State) : Nat := s.rf R.SEC_HOST_GRANT 2 0

/-- The grant holds right `n`, and its token's modes allow the present mode (R473, R477). -/
def grantHas (s : State) (n : Nat) : Bool := hostGranted s && s.rb R.SEC_HOST_GRANT (8 + n) && s.sec.hostModes.testBit (modeNow s)

/-- A maker grant in FACTORY (R474, R602). -/
def makerFactory (s : State) : Bool := grantRole s == 0 && modeNow s == 0

/-- In the host token window (R477). -/
def inHostWin (a : Nat) : Bool := decide (hostWin ≤ a) && decide (a ≤ 0x003FFFFF)

/-- Four bytes at `a` lie in a CH1 list slot (R164, R474). -/
def inCh1 (s : State) (a : Nat) : Bool :=
  let b := (s.rd R.GLM_LIST_BASE).toNat
  decide (b + 4 * 8256 ≤ a) && decide (a + 4 ≤ b + 8 * 8256)

/-- Byte of SEC_PAGE_RIGHT for page `p` (R497). -/
def rightByte (s : State) (p : Nat) : Nat := s.rf (R.SEC_PAGE_RIGHT (p / 4)) (8 * (p % 4) + 7) (8 * (p % 4))

/-- The host may write the register page of `a` (R474, R477): by the page's right and qualifier, or the maker in FACTORY for a page not named. -/
def pageMay (s : State) (a : Nat) : Bool :=
  let b := rightByte s (pageOf a)
  if b % 32 = 31 then makerFactory s else grantHas s (b % 32) && qualWrites (b / 32) (modeNow s)

/-- The right of the energy page's register at offset `o` (R474): its plan and limits, the class-1 floor, and its RWL fields. -/
def nrgRight (a : Nat) : Nat :=
  let o := offOf a
  if a = R.NRG_FLOOR1 then 8
  else if a = R.NRG_PLIM ∨ a = R.NRG_ECEIL ∨ a = R.NRG_ALLOW ∨ a = R.NRG_ALLOW_SAFE ∨ a = R.NRG_RATE ∨ a = R.NRG_PLAN_CFG ∨ a = R.NRG_NIGHT_BUDGET ∨
      (0x140 ≤ o ∧ o < 0x200) then 2
  else if maskOf RegDef.rwl a ≠ 0#32 then 11 else 31

/-- The right of the mask page's register (R474). -/
def glmRight (a : Nat) : Nat :=
  let o := offOf a
  if a = R.GLM_POST then 4 else if a = R.GLM_TIMING ∨ a = R.GLM_BEAM_SEL then 10
  else if (0x104 ≤ o ∧ o < 0x120) ∨ (0x13c ≤ o ∧ o ≤ 0x148) ∨ (0x160 ≤ o ∧ o < 0x170) then 8 else 31

/-- The right of the time page's register (R474). -/
def timeRight (a : Nat) : Nat :=
  if a = R.TIME_STEP_CMD ∨ a = R.TIME_EPOCH_LO ∨ a = R.TIME_EPOCH_HI ∨ a = R.TIME_LOCAL_OFS then 7
  else if a = R.TIME_KP ∨ a = R.TIME_KI ∨ a = R.TIME_SERVO_THR ∨ a = R.TIME_SERVO_THR2 ∨ a = R.TIME_RATE_MAX then 9 else 31

/-- The right of a loop page's register at offset `o` (R474): RUN and set-points, injection and capture, coefficients. -/
def loopRight (o : Nat) : Nat :=
  if o = 0x10c ∨ (0x140 ≤ o ∧ o < 0x1c0 ∧ o % 32 = 0) then 10 else if 0x300 ≤ o ∧ o < 0x398 then 16 else if 0x800 ≤ o then 11 else 31

/-- The right that R474 gives a register by name where it is not its whole page's, 31 where it names none on such a page: `w` is what is to be written, which
decides for a repair insert's source, the tolerance of a safety function and a flip to a RAW buffer (log entry 197). -/
def fineRight (s : State) (a : Nat) (w : Word) : Option Nat :=
  let p := pageOf a; let o := offOf a
  if lockReg p = some a then some 12
  else if o = 0x24 then some 16
  else if o < 0x100 then none
  else if p = P.PWR then some (if a = R.PWR_CMD then 5 else 31)
  else if p = P.TIME then some (timeRight a)
  else if p = P.GLM then some (glmRight a)
  else if p = P.NRG then some (nrgRight a)
  else if p = P.THM then some (if a = R.THM_THR ∨ a = R.THM_TILE_LIM ∨ a = R.THM_SD_RESTART then 12 else if 0x200 ≤ o then 11 else 31)
  else if p = P.CLK then some (if 0x200 ≤ o then 11 else 31)
  else if 0xa1 ≤ p ∧ p ≤ 0xb0 then some (loopRight o)
  else if a = R.PHO_RMAP_CMD then some (if bitsOf w 2 0 = 1 ∧ s.rf R.PHO_RMAP_E0 28 27 ≠ 2 then 31 else 13)
  else if 0x69 ≤ p ∧ p ≤ 0x6c ∧ (o = 0x108 ∨ o = 0x114 ∨ o = 0x118) then some 12
  else if a = R.DRV_FN_KILL then some 14 else if a = R.DRV_FN_CLEAR then some 15 else if a = R.DRV_DEF_CMD then some 13
  else if p = P.DRV ∧ 0x400 ≤ o ∧ o < 0x600 ∧ o % 16 = 0 ∧ bitsOf w 23 16 ≠ s.rf a 23 16 then some 12
  else if a = R.SCN_FB_BASE ∨ a = R.SCN_FB_UNIFORM ∨ a = R.LOOK_MODEL_BASE ∨ a = R.LOOK_MODEL_CRC ∨ a = R.LOOK_MODEL_LEN then some 11
  else if 0x51 ≤ p ∧ p ≤ 0x58 ∧ o = 0x130 ∧ bitOf w 31 ∧ isRaw (s.buf (bitsOf w 7 0)).fmt then some 16
  else none

/-- The host may write `w` to the register at `a` (R474, R477): by the register's own right, or its page's. -/
def regMay (s : State) (a : Nat) (w : Word) : Bool :=
  match fineRight s a w with
  | some n => if n = 31 then makerFactory s else grantHas s n && (roleQual (grantRole s) n).holds (modeNow s) false
  | none => pageMay s a

/-- The host may write the 32 bits `w` at `a` (R474, R477, R602, R617). -/
def hostMayWrite (s : State) (a : Nat) (w : Word) : Bool :=
  if inHostWin a ∨ a = R.HOST_H2D_SET ∨ a = R.HOST_D2H_STAT then true
  else if isReg a then
    (if pageOf a = P.HOST then grantHas s 0 && decide (R.HOST_MBOX 0 ≤ a) && decide (a ≤ R.HOST_MBOX 15) else regMay s a w)
  else if inCh1 s a then grantHas s 4 && (roleQual (grantRole s) 4).holds (modeNow s) false
  else makerFactory s

/-- The host may read 32 bits at `a` (R602). -/
def hostMayRead (s : State) (a : Nat) : Bool :=
  if inHostWin a ∨ a = R.HOST_D2H_STAT ∨ a = R.SYS_CHIP_ID ∨ (R.SEC_HOST_CHAL 0 ≤ a ∧ a ≤ R.SEC_HOST_CHAL 7) then true
  else if isReg a then grantHas s 0 else makerFactory s

/-- The end of a frame (R602, R617): HOST_LAST with the frame's OP and status bits, and the counts. Status is 1 OK, 2 BUS_ERROR, 4 DENIED. -/
def hostEnd (op status : Nat) (s : State) : State :=
  let s := s.wr R.HOST_LAST (word (s.tick16 * 65536 + status * 256 + op))
  if status = 4 then s.stAdd (R.STAT P.HOST 0) 31 16 1 else s.stAdd (R.STAT P.HOST 0) 15 0 1

/-- An access refused by the grant checks (R477, R617). -/
def hostDenied (op : Nat) (a : Nat) (s : State) : State :=
  let s := (s.irq P.HOST 1).wr R.HOST_DENY_ADDR (word a)
  hostEnd op 4 (raiseBus 0 .host a (op == 1) s.busErr)

/-- The audit record of a write under a grant (R484, R485): one SUMMARY per right and city minute under CONTENT and OBJECTS. -/
def hostAudit (a : Nat) (v : Word) (s : State) : State :=
  if !hostGranted s || inHostWin a then s else
  let n := if isReg a then (fineRight s a v).getD (rightByte s (pageOf a) % 32) else if inCh1 s a then 4 else 31
  if n = 3 ∨ n = 4 then
    let b := bump n (cityMinute s) s.sec.hostSums
    sumsOut (grantRole s) 1 s.sec.hostTid b.2 (s.setSec fun x => { x with hostSums := b.1 })
  else auditAdd (grantRole s) 1 5 s.sec.hostTid a v.toNat s

/-- The bus side of a host write. -/
def hostStore (a : Nat) (v : Word) (s : State) : State :=
  if inHostWin a then (winWrite (a - hostWin) (bytesLE 4 v.toNat) s).busOk
  else busWrite .host a (bytesLE 4 v.toNat) s

/-- SAFE answers BUSY to a write under a grant that needs a record (R485 to R487): all but FUNC_KILL. -/
def hostBusy (s : State) (a : Nat) : Bool := hostGranted s && !inHostWin a && auditBusy (grantRole s) (a == R.DRV_FN_KILL) s

/-- WRITE32 (R477, R602): a window word, a register or memory, subject to the grant; one for which SAFE is BUSY ends as a bus error (log entry 194). -/
def hostWrite (a : Nat) (v : Word) (s : State) : State :=
  if !hostReady s then s
  else if !hostMayWrite s a v then hostDenied 1 a s
  else if hostBusy s a then hostEnd 1 2 s.busErr
  else
    let s := hostStore a v (hostAudit a v s)
    if hostReady s then hostEnd 1 (if s.bus.err then 2 else 1) s else s

/-- READ32 (R602): the answer is in the bus response, the status in HOST_LAST. -/
def hostRead (a : Nat) (s : State) : State :=
  if !hostReady s then s.busData 0#32
  else if !hostMayRead s a then hostDenied 2 a s
  else
    let s := busRead .host a 4 s
    hostEnd 2 (if s.bus.err then 2 else 1) s

/-- The status byte that a frame returns (R602). -/
def hostStatusByte (s : State) : Nat := bit (hostReady s) * 128 + (if hostReady s then s.rf R.HOST_LAST 10 8 else 0)

/-- STATUS (R602). -/
def hostStatus (s : State) : State :=
  let st := s.rf R.HOST_LAST 10 8
  let s := s.busData (word (hostStatusByte s))
  if hostReady s then (s.wr R.HOST_LAST (word (s.tick16 * 65536 + st * 256 + 3))).stAdd (R.STAT P.HOST 0) 15 0 1 else s

end Sys2Proof.Machine
end

