-- ==== Sys2Proof/Machine/CmdHost.lean ====
section
/-! DEFINITION. The meanings of the commands of the host interface and GPIO, one for each row of the table. -/

namespace Sys2Proof.Machine

/-- WRITE32 (R602): A HOSTSPI WRITE32 frame writes a word subject to the host grant checks. -/
def execHostWrite32 (t : Nat) (a : Word) (v : Word) (s : State) : Answer :=
  let s := s.at t
  .next (hostWrite a.toNat v s)

/-- READ32 (R602): A HOSTSPI READ32 frame reads a word subject to the host grant checks and returns data and status. -/
def execHostRead32 (t : Nat) (a : Word) (s : State) : Answer :=
  let s := s.at t
  .next (hostRead a.toNat s)

/-- STATUS (R602): A HOSTSPI STATUS frame returns the status of the last access. -/
def execHostStatus (t : Nat) (s : State) : Answer :=
  let s := s.at t
  .next (Sys2Proof.Machine.hostStatus s)

/-- HOST_FRAME_ABORT (R602): HOST_CS_N rising before a frame's last byte discards the frame. -/
def execHostFrameAbort (t : Nat) (s : State) : Answer :=
  let s := s.at t
  .next (s)

/-- HOST_H2D_SET (R617): The host sets doorbell bits in HOST_H2D_STAT and raises DOORBELL. -/
def execHostH2dSet (t : Nat) (w : Word) (s : State) : Answer :=
  let s := s.at t
  .next (hostWrite R.HOST_H2D_SET w s)

/-- HOST_D2H_SET (R617): The device sets doorbell bits in HOST_D2H_STAT, driving HOST_IRQ_N when enabled. -/
def execHostD2hSet (t : Nat) (i : Init) (w : Word) (s : State) : Answer :=
  let s := s.at t
  .next (gateWrite i R.HOST_D2H_SET w d2hSet s)

/-- GPIO_SET (R618): A write to GPIO_SET sets bits of GPIO_OUT. -/
def execGpioSet (t : Nat) (i : Init) (w : Word) (s : State) : Answer :=
  let s := s.at t
  .next (gateWrite i R.GPIO_SET w Sys2Proof.Machine.gpioSet s)

/-- GPIO_CLR (R618): A write to GPIO_CLR clears bits of GPIO_OUT. -/
def execGpioClr (t : Nat) (i : Init) (w : Word) (s : State) : Answer :=
  let s := s.at t
  .next (gateWrite i R.GPIO_CLR w Sys2Proof.Machine.gpioClr s)

/-- GPIO_EDGE (R618): A filtered input edge enabled in GPIO_EDGE sets its IRQ_RAW bit. -/
def execGpioEdge (t : Nat) (g : Fin 16) (level : Bool) (s : State) : Answer :=
  let s := s.at t
  .next (Sys2Proof.Machine.gpioEdge g level s)

end Sys2Proof.Machine
end

