-- ==== Sys2Proof/Machine/CmdLayers.lean ====
section
/-! DEFINITION. The meanings of the commands of composition, layers, buffers, fences and pre-scalers, one for each row of the table. -/

namespace Sys2Proof.Machine

/-- COMPOSITION_DONE (R116): All pipes finish composing a frame, which sets FRAME_DONE and completes the per-frame checks of the pipes. -/
def execCompositionDone (t : Nat) (s : State) : Answer :=
  let s := s.at t
  .next (Sys2Proof.Machine.compositionDone s)

/-- WB_FRAME_DONE (R113): Write-back completes a slot, sets CMP_WB_SLOT and CMP_WB_TICK and sets WB_DONE. -/
def execWbFrameDone (t : Nat) (k : Fin 4) (s : State) : Answer :=
  let s := s.at t
  .next (wbDone k s)

/-- LYR_FLIP_REQUEST (R105): A write of LYR_FLIP.REQ posts a flip request, which is refused or makes the entry QUEUED and pending. -/
def execLyrFlipRequest (t : Nat) (i : Init) (n : Fin 8) (w : Word) (s : State) : Answer :=
  let s := s.at t
  .next (gateWrite i (R.LYR_FLIP n) (putBit w 31 true) (lyrFlip n) s)

/-- LYR_FLIP_CANCEL (R110): A write of LYR_FLIP.CANCEL returns a pending request's entry to SW_OWNED with RESULT CANCELLED. -/
def execLyrFlipCancel (t : Nat) (i : Init) (n : Fin 8) (w : Word) (s : State) : Answer :=
  let s := s.at t
  .next (gateWrite i (R.LYR_FLIP n) (putBit w 30 true) (lyrFlip n) s)

/-- CMP_FLIP_ARM (R107): A write of 1 to bit g of CMP_FLIP_ARM records the members of flip group g with pending requests. -/
def execCmpFlipArm (t : Nat) (i : Init) (w : Word) (s : State) : Answer :=
  let s := s.at t
  .next (gateWrite i R.CMP_FLIP_ARM w Sys2Proof.Machine.cmpFlipArm s)

/-- BUF_REGISTER (R99): BUF_CMD REGISTER checks a FREE entry and its staged fields and makes it SW_OWNED, or fails with the first reason. -/
def execBufRegister (t : Nat) (i : Init) (idx : Fin 256) (s : State) : Answer :=
  let s := s.at t
  .next (gateWrite i R.BUF_CMD (word (256 + idx)) bufCmd s)

/-- BUF_UNREGISTER (R100): BUF_CMD UNREGISTER returns a SW_OWNED entry to FREE and clears its fields. -/
def execBufUnregister (t : Nat) (i : Init) (idx : Fin 256) (s : State) : Answer :=
  let s := s.at t
  .next (gateWrite i R.BUF_CMD (word (512 + idx)) bufCmd s)

/-- BUF_READ (R120): BUF_CMD READ copies an entry's fields and state into the staging registers. -/
def execBufRead (t : Nat) (i : Init) (idx : Fin 256) (s : State) : Answer :=
  let s := s.at t
  .next (gateWrite i R.BUF_CMD (word (768 + idx)) bufCmd s)

/-- FENCE_SET (R104): A W1S write to FENCE_SET_LO or FENCE_SET_HI signals fences. -/
def execFenceSet (t : Nat) (i : Init) (high : Bool) (w : Word) (s : State) : Answer :=
  let s := s.at t
  .next (gateWrite i (if high then R.FENCE_SET_HI else R.FENCE_SET_LO) w (fenceSetHook (if high then 32 else 0)) s)

/-- FENCE_CLEAR (R119): A W1C write to FENCE_STATE_LO or FENCE_STATE_HI clears fences unless a producer signals them in the same cycle. -/
def execFenceClear (t : Nat) (i : Init) (high : Bool) (w : Word) (s : State) : Answer :=
  let s := s.at t
  .next (gateWrite i (if high then R.FENCE_STATE_HI else R.FENCE_STATE_LO) w noHook s)

/-- SCL_KICK (R92): A write of 1 to SCL_KICK triggers a pre-scaler pass, or is dropped with TRIG_MISS if a pass runs. -/
def execSclKick (t : Nat) (i : Init) (k : Fin 4) (s : State) : Answer :=
  let s := s.at t
  .next (gateWrite i (R.SCL_KICK k) 1#32 (Sys2Proof.Machine.sclKick k) s)

/-- SCL_PASS_END (R97): A pass ends, records its destination, signals DONE_FENCE and posts its auto-flip, and releases its source. -/
def execSclPassEnd (t : Nat) (k : Fin 4) (s : State) : Answer :=
  let s := s.at t
  .next (sclEnd k s)

end Sys2Proof.Machine
end

