-- ==== Sys2Proof/Machine/CmdLink.lean ====
section
/-! DEFINITION. The meanings of the commands of the Sprindo links, one for each row of the table. -/

namespace Sys2Proof.Machine

/-- CTRL_SEND (R226): The scan-out sends the next queued CTRL command of a tile when none is outstanding, pixel-drive commands first. -/
def execCtrlSend (t : Nat) (k : Fin 4) (s : State) : Answer :=
  let s := s.at t
  .next (Sys2Proof.Machine.ctrlSend k s)

/-- SPL_CTRL_CMD (R226): A write of SPL_CTRL_CMD.GO queues a software CTRL command, ignored while STATE is BUSY. -/
def execSplCtrlCmd (t : Nat) (i : Init) (k : Fin 4) (w : Word) (s : State) : Answer :=
  let s := s.at t
  .next (gateWrite i (R.SPL_CTRL_CMD k) w (Sys2Proof.Machine.splCtrlCmd k) s)

/-- ACK_TIMEOUT (R226): No matching ACK within SPL_ACK_TIMEOUT resends the CTRL, or after 3 retries fails it with SPL_CTRL_FAIL. -/
def execAckTimeout (t : Nat) (k : Fin 4) (s : State) : Answer :=
  let s := s.at t
  .next (Sys2Proof.Machine.ackTimeout k s)

/-- ACK (R225): A return ACK packet completes the outstanding CTRL command and reports its status and data. -/
def execAck (t : Nat) (k : Fin 4) (err : Bool) (head arg pay crc : List Byte) (s : State) : Answer :=
  let s := s.at t
  .next (ackPacket k err (nums (head ++ arg ++ pay ++ crc)) s)

/-- DIAG (R232): A return DIAG packet delivers its records to the pixel drive and the ring, counting it late if after tick n+2. -/
def execDiag (t : Nat) (k : Fin 4) (err : Bool) (head arg pay crc : List Byte) (s : State) : Answer :=
  let s := s.at t
  .next (diagPacket k err (nums (head ++ arg ++ pay ++ crc)) s)

/-- ENUM (R234): A return ENUM packet is checked, recorded and brings the link UP or FAILED, with the hash check. -/
def execEnum (t : Nat) (k : Fin 4) (err : Bool) (body crc : List Byte) (s : State) : Answer :=
  let s := s.at t
  .next (startProgress (readyWins (enumPacket k err (nums (body ++ crc)) s)))

/-- FSTAT (R229): A return FSTAT packet adds its lane error counts and is compared with the frame CRC when applicable. -/
def execFstat (t : Nat) (k : Fin 4) (err : Bool) (head arg disp codes cv crc : List Byte) (s : State) : Answer :=
  let s := s.at t
  .next (fstatPacket k err (nums (head ++ arg ++ disp ++ codes ++ cv ++ crc)) s)

/-- LINK_ENABLE (R236): SPL CTRL.EN set to 1 starts link training at step 1 with TILE_RESET_N held low. -/
def execLinkEnable (t : Nat) (i : Init) (k : Fin 4) (w : Word) (s : State) : Answer :=
  let s := s.at t
  .next (gateWrite i (R.CTRL (spl k)) (putBit w 0 true) (splCtrl k) s)

/-- TS1_LOCK (R236): The scan-out locks after 8 consecutive TS1 from the tile and proceeds to TRAIN_BASE. -/
def execTs1Lock (t : Nat) (x : TileSet) (s : State) : Answer :=
  let s := s.at t
  .next (Sys2Proof.Machine.ts1Lock x.tile (nums x.chars) s)

/-- TRAIN_STEP_DONE (R236): A training step completes with 16 TS2 exchanged and the link moves to its next step. -/
def execTrainStepDone (t : Nat) (k : Fin 4) (head fill : List Byte) (lanes : Nat) (s : State) : Answer :=
  let s := s.at t
  .next (trainStep k (nums (head ++ fill)) lanes s)

/-- TRAIN_TIMEOUT (R236): A training step exceeds its bound and is repeated at a lower rate or lane set, or the link goes FAILED. -/
def execTrainTimeout (t : Nat) (k : Fin 4) (s : State) : Answer :=
  let s := s.at t
  .next (Sys2Proof.Machine.trainTimeout k s)

/-- LINK_RESTART (R236): 100 ms after FAILED with AUTO_RETRAIN the link restarts training from step 1. -/
def execLinkRestart (t : Nat) (k : Fin 4) (s : State) : Answer :=
  let s := s.at t
  .next (Sys2Proof.Machine.linkRestart k s)

/-- RETRAIN (R237): A write of 1 to RETRAIN retrains an UP link from step 3 or restarts a FAILED link from step 1. -/
def execRetrain (t : Nat) (i : Init) (k : Fin 4) (w : Word) (s : State) : Answer :=
  let s := s.at t
  .next (gateWrite i (R.CTRL (spl k)) (putBit w 1 true) (splCtrl k) s)

/-- RETRAIN_TIMEOUT (R237): A retrain that does not reach UP within 20 ms continues from step 1. -/
def execRetrainTimeout (t : Nat) (k : Fin 4) (s : State) : Answer :=
  let s := s.at t
  .next (Sys2Proof.Machine.retrainTimeout k s)

/-- SYMBOL_LOCK_LOSS (R237): Loss of symbol lock on the return lane takes the link out of UP. -/
def execSymbolLockLoss (t : Nat) (k : Fin 4) (s : State) : Answer :=
  let s := s.at t
  .next (loseLink k s)

/-- RETURN_CHAR_ERRORS (R237): 16 character errors within 1,024 return-lane columns take the link out of UP. -/
def execReturnCharErrors (t : Nat) (k : Fin 4) (n : Nat) (s : State) : Answer :=
  let s := s.at t
  .next (returnErrors k n s)

/-- FSTAT_MISSING (R237): No FSTAT for 4 consecutive MARKs takes the link out of UP. -/
def execFstatMissing (t : Nat) (k : Fin 4) (s : State) : Answer :=
  let s := s.at t
  .next (Sys2Proof.Machine.fstatMissing k s)

/-- TILE_RESET_RELEASE (R236): After the 1 ms hold of training step 1, TILE_RESET_N(t) is released and the link enters WAIT_TILE. -/
def execTileResetRelease (t : Nat) (k : Fin 4) (s : State) : Answer :=
  let s := s.at t
  .next (resetRelease k s)

end Sys2Proof.Machine
end

