-- ==== Sys2Proof/Machine/CmdModes.lean ====
section
/-! DEFINITION. The meanings of the commands of modes, one for each row of the table. -/

namespace Sys2Proof.Machine

/-- SYS_MODE_REQ (R571): SAFE's write of SYS_MODE_REQ.GO makes a mode request pending or refuses it with a reason. -/
def execSysModeReq (t : Nat) (i : Init) (w : Word) (role : Fin 4) (rights : Word) (s : State) : Answer :=
  let s := s.at t
  .next (gateWrite i R.SYS_MODE_REQ (putBit w 31 true) (Sys2Proof.Machine.sysModeReq role rights.toNat) s)

/-- NET_LOSS (R573): No segment-head session for NET_LOSS_S in ADAPTIVE makes SAFE request STANDALONE. -/
def execNetLoss (t : Nat) (s : State) : Answer :=
  let s := s.at t
  .next (Sys2Proof.Machine.netLoss s)

/-- AUTO_MODE_REQUEST (R573): SAFE requests ADAPTIVE or the pre-fallback mode when its conditions hold. -/
def execAutoModeRequest (t : Nat) (s : State) : Answer :=
  let s := s.at t
  .next (autoRequest s)

end Sys2Proof.Machine
end

