-- ==== Sys2Proof/Machine/CmdMover.lean ====
section
/-! DEFINITION. The meanings of the commands of the data mover, one for each row of the table. -/

namespace Sys2Proof.Machine

/-- DMV_POST (R59): A write to DMV_POST posts COUNT new descriptors on a channel, or is dropped with DMV_ERR if INFLIGHT would exceed 64. -/
def execDmvPost (t : Nat) (i : Init) (c : Fin 4) (w : Word) (s : State) : Answer :=
  let s := s.at t
  .next (gateWrite i (R.DMV_POST c) w (Sys2Proof.Machine.dmvPost c) s)

/-- DMV_DESCRIPTOR_COMPLETE (R54): A descriptor ends and its completion record is written, with a fence signal, interrupt or halt as its status gives.
-/
def execDmvDescriptorComplete (t : Nat) (c : Fin 4) (s : State) : Answer :=
  let s := s.at t
  .next (dmvRun c s)

/-- DMV_ABORT (R57): A write of DMV_ABORT makes the channel wait for outstanding acknowledgements, write ABORTED and discard posted descriptors. -/
def execDmvAbort (t : Nat) (i : Init) (c : Fin 4) (moved : Nat) (verified : Nat) (s : State) : Answer :=
  let s := s.at t
  .next (gateWrite i (R.DMV_ABORT c) 1#32 (dmvAbortHook c moved verified) s)

/-- DMV_RESUME (R59): A write of CTRL.RESUME restarts a halted channel at its next posted descriptor. -/
def execDmvResume (t : Nat) (i : Init) (c : Fin 4) (w : Word) (s : State) : Answer :=
  let s := s.at t
  .next (gateWrite i (R.CTRL (P.DMVC c)) (putBit w 1 true) (dmvCtrl c) s)

end Sys2Proof.Machine
end

