-- ==== Sys2Proof/Machine/CmdNetwork.lean ====
section
/-! DEFINITION. The meanings of the commands of ports and switch, one for each row of the table. -/

namespace Sys2Proof.Machine

/-- PORT_LINK_CHANGE (R397): A port's link goes up or down, raising PORT_LINK_DOWN and MRP link-change handling. -/
def execPortLinkChange (t : Nat) (p : Fin 3) (up : Bool) (speed : Fin 4) (amp : Bool) (master : Bool) (sqi : Fin 8) (s : State) : Answer :=
  let s := s.at t
  .next (startProgress (portLink p up speed amp master sqi s))

/-- PORT_FRAME_RX (R400): A frame received at a port is checked, timestamped, storm-limited, learned and forwarded or delivered. -/
def execPortFrameRx (t : Nat) (p : Fin 3) (f : NetFrame) (s : State) : Answer :=
  let s := s.at t
  .next (portRx p f s)

/-- PORT_FRAME_TX (R412): A frame departs a port, with PTP fields corrected on the fly and its timestamp queued if requested. -/
def execPortFrameTx (t : Nat) (p : Fin 3) (post : Option (NetFrame × Option Nat)) (s : State) : Answer :=
  let s := s.at t
  .next (portTx p post s)

/-- MRP_FLUSH (R404): When the topology-change interval runs out the learned addresses of all ports are flushed. -/
def execMrpFlush (t : Nat) (s : State) : Answer :=
  let s := s.at t
  .next (Sys2Proof.Machine.mrpFlush s)

/-- MRP_BLOCK_TIMEOUT (R404): 80 ms after link up without a topology change a BLOCKED ring port becomes FORWARDING. -/
def execMrpBlockTimeout (t : Nat) (p : Fin 3) (s : State) : Answer :=
  let s := s.at t
  .next (mrpTimeout p s)

/-- FDB_AGE (R400): A learned address ages out after AGE_S seconds. -/
def execFdbAge (t : Nat) (mac : Nat) (s : State) : Answer :=
  let s := s.at t
  .next (Sys2Proof.Machine.fdbAge mac s)

/-- SW_FLUSH (R447): A write to SW_FLUSH flushes the learned addresses of the named ports. -/
def execSwFlush (t : Nat) (i : Init) (w : Word) (s : State) : Answer :=
  let s := s.at t
  .next (gateWrite i R.SW_FLUSH w Sys2Proof.Machine.swFlush s)

/-- PDELAY_REQ (R414): Every 2^LOG_INT s a port sends Pdelay_Req, updates PORT_MLD on a valid exchange, and fails after 3 lost exchanges. -/
def execPdelayReq (t : Nat) (p : Fin 3) (delta : Option Nat) (s : State) : Answer :=
  let s := s.at t
  .next (pdelay p delta s)

/-- WAKE_BEACON (R435): A wake beacon frame is checked by group, time, order and tag, and an accepted one is a wake source. -/
def execWakeBeacon (t : Nat) (group : BeaconHead) (time : Nat) (auth : List Byte) (s : State) : Answer :=
  let s := s.at t
  .next (Sys2Proof.Machine.wakeBeacon group time (nums auth) s)

end Sys2Proof.Machine
end

