-- ==== Sys2Proof/Machine/CmdNvm.lean ====
section
/-! DEFINITION. The meanings of the commands of journal and flash, one for each row of the table. -/

namespace Sys2Proof.Machine

/-- NVM_TX_SUBMIT (R546): A journal transaction is submitted and queued, or refused with REGION, FULL or OVERLAP. -/
def execNvmTxSubmit (t : Nat) (i : Init) (w : Word) (s : State) : Answer :=
  let s := s.at t
  .next (gateWrite i R.NVM_TX_CMD (putBit w 31 true) nvmTxCmd s)

/-- JOURNAL_TX_OPEN (R549): A queued transaction opens when its slot and the write window allow and writes INTENT and its data. -/
def execJournalTxOpen (t : Nat) (direct : Bool) (s : State) : Answer :=
  let s := s.at t
  .next (txOpen direct s)

/-- JOURNAL_TX_COMMIT (R549): A transaction's data reads back correctly and its COMMIT is written, or it ends ROLLED_BACK. -/
def execJournalTxCommit (t : Nat) (direct : Bool) (good : Bool) (s : State) : Answer :=
  let s := s.at t
  .next (txCommit direct good s)

/-- JOURNAL_TX_SEAL (R549): A committed transaction is applied to its target and sealed APPLIED, and its owner is told. -/
def execJournalTxSeal (t : Nat) (direct : Bool) (s : State) : Answer :=
  let s := s.at t
  .next (txApply direct s)

/-- WINDOW_CLOSE (R552): The eMRAM write window closes, completing the word in progress and abandoning uncommitted transactions. -/
def execWindowClose (t : Nat) (s : State) : Answer :=
  let s := s.at t
  .next (setWindow 2 false s)

/-- WINDOW_OPEN (R551): The eMRAM write window reopens and waiting transactions resume. -/
def execWindowOpen (t : Nat) (s : State) : Answer :=
  let s := s.at t
  .next (setWindow 2 true s)

/-- ERASE_4K (R558): XSPI_CMD ERASE_4K erases a 4 KiB flash sector unless protected. -/
def execErase4k (t : Nat) (i : Init) (s : State) : Answer :=
  let s := s.at t
  .next (gateWrite i R.XSPI_CMD (word (2 ^ 31 + 1)) (xspiCmd i) s)

/-- ERASE_64K (R558): XSPI_CMD ERASE_64K erases a 64 KiB flash block unless protected. -/
def execErase64k (t : Nat) (i : Init) (s : State) : Answer :=
  let s := s.at t
  .next (gateWrite i R.XSPI_CMD (word (2 ^ 31 + 2)) (xspiCmd i) s)

/-- PROGRAM (R558): XSPI_CMD PROGRAM programs up to 256 bytes into one flash page unless protected. -/
def execProgram (t : Nat) (i : Init) (s : State) : Answer :=
  let s := s.at t
  .next (gateWrite i R.XSPI_CMD (word (2 ^ 31 + 3)) (xspiCmd i) s)

/-- XSPI_OP_DONE (R561): A flash erase or program completes and reports its result. -/
def execXspiOpDone (t : Nat) (outcome : Fin 5) (s : State) : Answer :=
  let s := s.at t
  .next (xspiDone outcome s)

/-- XSPI_WAIT_TIMEOUT (R557): A window read that waits longer than XSPI_TMO_MS ends with a bus error and raises XSPI_ERR. -/
def execXspiWaitTimeout (t : Nat) (s : State) : Answer :=
  let s := s.at t
  .next (Sys2Proof.Machine.xspiWaitTimeout s)

end Sys2Proof.Machine
end

