-- ==== Sys2Proof/Machine/CmdPattern.lean ====
section
/-! DEFINITION. The meanings of the commands of the pattern sequencers, one for each row of the table. -/

namespace Sys2Proof.Machine

/-- END (R268): END sets the sequencer state to DONE. -/
def execPatEnd (t : Nat) (q : Fin 16) (s : State) : Answer :=
  let s := s.at t
  .next (seqExec q (opEnd q) s)

/-- SET (R268): SET loads V[REG] from K[KI]. -/
def execPatSet (t : Nat) (q : Fin 16) (r : Fin 4) (k : Fin 32) (s : State) : Answer :=
  let s := s.at t
  .next (seqExec q (opSet q r k) s)

/-- ADD (R268): ADD adds K[KI] to V[REG] with saturation. -/
def execPatAdd (t : Nat) (q : Fin 16) (r : Fin 4) (k : Fin 32) (s : State) : Answer :=
  let s := s.at t
  .next (seqExec q (opAdd q r k) s)

/-- RAMP (R270): RAMP moves V[REG] to K[KI] over N ticks with rounded steps. -/
def execPatRamp (t : Nat) (q : Fin 16) (r : Fin 4) (k : Fin 32) (n : Fin 4096) (s : State) : Answer :=
  let s := s.at t
  .next (seqExec q (opRamp q r k n) s)

/-- HOLD (R268): HOLD ends the step for N ticks. -/
def execPatHold (t : Nat) (q : Fin 16) (n : Fin 65536) (s : State) : Answer :=
  let s := s.at t
  .next (seqExec q (opHold q n) s)

/-- LOOP (R268): LOOP counts C[CI] and branches to ADDR until COUNT is reached. -/
def execPatLoop (t : Nat) (q : Fin 16) (ci : Bool) (addr : Fin 256) (count : Fin 65536) (s : State) : Answer :=
  let s := s.at t
  .next (seqExec q (opLoop q ci addr count) s)

/-- WAIT_TICK (R268): WAIT_TICK waits for the first tick with TICK_NUM mod K[KI] = 0. -/
def execPatWaitTick (t : Nat) (q : Fin 16) (k : Fin 32) (s : State) : Answer :=
  let s := s.at t
  .next (seqExec q (fun s => (opWaitTick q k s).2) s)

/-- SYNC (R271): SYNC waits for the next release tick of city-time boundaries of period K[KI]. -/
def execPatSync (t : Nat) (q : Fin 16) (k : Fin 32) (s : State) : Answer :=
  let s := s.at t
  .next (seqExec q (fun s => (opSync q k s).2) s)

/-- BRANCH_FLAG (R268): BRANCH_FLAG branches to ADDR if the flag equals POL. -/
def execPatBranchFlag (t : Nat) (q : Fin 16) (pol : Bool) (addr : Fin 256) (flag : Fin 16) (s : State) : Answer :=
  let s := s.at t
  .next (seqExec q (opBranch q pol addr flag) s)

/-- PAT_PROG_DATA (R273): An access to PAT_PROG_DATA reads or writes a program word of a stopped sequencer and advances the address. -/
def execPatProgData (t : Nat) (i : Init) (v : Option Word) (s : State) : Answer :=
  let s := s.at t
  .next (match v with
    | some w => gateWrite i R.PAT_PROG_DATA w progWrite s
    | none => regRead i R.PAT_PROG_DATA s)

/-- PAT_K_DATA (R275): An access to PAT_K_DATA reads or writes a shadowed constant and advances the address. -/
def execPatKData (t : Nat) (i : Init) (v : Option Word) (s : State) : Answer :=
  let s := s.at t
  .next (match v with
    | some w => gateWrite i R.PAT_K_DATA w Sys2Proof.Machine.kWrite s
    | none => regRead i R.PAT_K_DATA s)

end Sys2Proof.Machine
end

