-- ==== Sys2Proof/Machine/CmdPhoto.lean ====
section
/-! DEFINITION. The meanings of the commands of dose, repair map and threshold tile, one for each row of the table. -/

namespace Sys2Proof.Machine

/-- DOSE_SNAP_HOURLY (R144): At the first tick at or after each whole hour a dose snapshot starts when SNAP_HOURLY is 1. -/
def execDoseSnapHourly (t : Nat) (s : State) : Answer :=
  let s := s.at t
  .next (snapHourly s)

/-- SNAP (R144): A write of PHO_SNAP_CMD.SNAP starts a dose snapshot unless one runs. -/
def execSnap (t : Nat) (i : Init) (s : State) : Answer :=
  let s := s.at t
  .next (gateWrite i R.PHO_SNAP_CMD 1#32 snapCmd s)

/-- SNAP_SLICE_DONE (R144): A slice's journal transaction is sealed, the slot becomes current and the next slice starts or the snapshot ends DONE. -/
def execSnapSliceDone (t : Nat) (s : State) : Answer :=
  let s := s.at t
  .next (Sys2Proof.Machine.snapSliceDone s)

/-- SNAP_RETRY (R145): A snapshot deferred by the write window retries every 10 s, and ends PARTIAL if the next hourly snapshot falls due. -/
def execSnapRetry (t : Nat) (s : State) : Answer :=
  let s := s.at t
  .next (Sys2Proof.Machine.snapRetry s)

/-- RESTORE (R146): A write of PHO_SNAP_CMD.RESTORE with EN 0 restores each slice from its newest valid slot and counts missing slices. -/
def execRestore (t : Nat) (i : Init) (s : State) : Answer :=
  let s := s.at t
  .next (gateWrite i R.PHO_SNAP_CMD 2#32 snapCmd s)

/-- RESTORE_DONE (R146): The restore completes, BUSY clears, and DOSE_RESTORE_FAIL is raised if any slice had no valid slot. -/
def execRestoreDone (t : Nat) (s : State) : Answer :=
  let s := s.at t
  .next (Sys2Proof.Machine.restoreDone s)

/-- INSERT (R150): PHO_RMAP_CMD INSERT checks the staged entry and queues it, or fails with INVALID, RANGE or QFULL. -/
def execRmapInsert (t : Nat) (i : Init) (w : Word) (s : State) : Answer :=
  let s := s.at t
  .next (gateWrite i R.PHO_RMAP_CMD (putBits w 2 0 1) (rmapCmd i) s)

/-- DELETE (R150): PHO_RMAP_CMD DELETE queues the removal of a pixel's entry, or fails with QFULL. -/
def execRmapDelete (t : Nat) (i : Init) (w : Word) (s : State) : Answer :=
  let s := s.at t
  .next (gateWrite i R.PHO_RMAP_CMD (putBits w 2 0 2) (rmapCmd i) s)

/-- READ (R150): PHO_RMAP_CMD READ copies entry IDX into the staging registers. -/
def execRmapRead (t : Nat) (i : Init) (w : Word) (s : State) : Answer :=
  let s := s.at t
  .next (gateWrite i R.PHO_RMAP_CMD (putBits w 2 0 3) (rmapCmd i) s)

/-- LOOKUP (R150): PHO_RMAP_CMD LOOKUP finds the entry for the pixel named in E0 and returns its index and contents. -/
def execRmapLookup (t : Nat) (i : Init) (w : Word) (s : State) : Answer :=
  let s := s.at t
  .next (gateWrite i R.PHO_RMAP_CMD (putBits w 2 0 4) (rmapCmd i) s)

/-- RMAP_EDIT_APPLY (R151): The edit engine applies the oldest queued repair edit after composition, reporting LOCKED, FULL or NOT_FOUND as
applicable. -/
def execRmapEditApply (t : Nat) (s : State) : Answer :=
  let s := s.at t
  .next (Sys2Proof.Machine.rmapEditApply s)

/-- DTH_DATA_ACCESS (R159): An access to PHO_DTH_DATA reads or writes four thresholds and advances PHO_DTH_ADDR by 4. -/
def execDthDataAccess (t : Nat) (i : Init) (v : Option Word) (s : State) : Answer :=
  let s := s.at t
  .next (match v with
    | some w => gateWrite i R.PHO_DTH_DATA w dthWrite s
    | none => regRead i R.PHO_DTH_DATA s)

end Sys2Proof.Machine
end

