-- ==== Sys2Proof/Machine/CmdPower.lean ====
section
/-! DEFINITION. The meanings of the commands of power states and levels, one for each row of the table. -/

namespace Sys2Proof.Machine

/-- PWR_CMD (R371): A write to PWR_CMD requests a low-power state, or completes with REFUSED_MODE or REFUSED_STATE. -/
def execPwrCmd (t : Nat) (i : Init) (w : Word) (s : State) : Answer :=
  let s := s.at t
  .next (gateWrite i R.PWR_CMD w (Sys2Proof.Machine.pwrCmd i) s)

/-- LOWPOWER_ENTRY (R373): At the first tick after the command, entry quiesces harts, channels, links and loops, or aborts with ABORTED_BUSY. -/
def execLowpowerEntry (t : Nat) (wfi : Fin 16) (s : State) : Answer :=
  let s := s.at t
  .next (Sys2Proof.Machine.lowpowerEntry wfi s)

/-- LOWPOWER_COMMIT (R374): At the commit point a pending enabled wake aborts entry, otherwise domains are clamped and held or turned off. -/
def execLowpowerCommit (t : Nat) (s : State) : Answer :=
  let s := s.at t
  .next (Sys2Proof.Machine.lowpowerCommit s)

/-- IDLE_ENTRY (R372): Once all APU harts are in WFI their clocks are gated. -/
def execIdleEntry (t : Nat) (wfi : Fin 16) (s : State) : Answer :=
  let s := s.at t
  .next (Sys2Proof.Machine.idleEntry wfi s)

/-- WAKE (R376): An enabled wake source returns the device to RUN and records the cause. -/
def execWake (t : Nat) (src : Fin 9) (s : State) : Answer :=
  let s := s.at t
  .next (Sys2Proof.Machine.wake src s)

/-- PWR_LEVEL_REQ (R368): A write of PWR_LEVEL_REQ starts a transition toward the slower of REQ and CAP. -/
def execPwrLevelReq (t : Nat) (i : Init) (w : Word) (s : State) : Answer :=
  let s := s.at t
  .next (gateWrite i R.PWR_LEVEL_REQ w levelReq s)

/-- PMIC_PG_RISE (R368): PMIC_PG rising completes a level transition and the next target is taken up. -/
def execPmicPgRise (t : Nat) (s : State) : Answer :=
  let s := s.at t
  .next (pmicRise s)

/-- PMIC_TIMEOUT (R370): PMIC_PG not rising within TIMEOUT raises PMIC_TIMEOUT and sets PMIC_ERR. -/
def execPmicTimeout (t : Nat) (s : State) : Answer :=
  let s := s.at t
  .next (Sys2Proof.Machine.pmicTimeout s)

end Sys2Proof.Machine
end

