-- ==== Sys2Proof/Machine/CmdScan.lean ====
section
/-! DEFINITION. The meanings of the commands of scan-out, synchronisation and fallback replay, one for each row of the table. -/

namespace Sys2Proof.Machine

/-- LINE_SEND (R193): The scan-out begins a line as soon as the link is free and its first segment is complete, sending CODE packets. -/
def execLineSend (t : Nat) (k : Fin 4) (s : State) : Answer :=
  let s := s.at t
  .next (Sys2Proof.Machine.lineSend k s)

/-- LINE_UNDERRUN (R194): A line whose latest start LS_v passes with segments incomplete is sent as FILL packets and counted. -/
def execLineUnderrun (t : Nat) (k : Fin 4) (mask : Nat) (s : State) : Answer :=
  let s := s.at t
  .next (Sys2Proof.Machine.lineUnderrun k mask s)

/-- SCN_RECT_DIV_TAG (R207): SAFE's write of SCN_RECT_DIV_TAG arms the diverse comparison, made as soon as the tagged CALC stands. -/
def execScnRectDivTag (t : Nat) (i : Init) (k : Fin 4) (r : Fin 16) (w : Word) (s : State) : Answer :=
  let s := s.at t
  .next (gateWrite i (R.SCN_RECT_DIV_TAG k r) w (divTag k r) s)

/-- MARK_SEND (R195, R228): At tick minus 20 µs the scan-out sends the MARK of the frame with DELAY, FRAME_LEN and its flags, on every tile at once. -/
def execMarkSend (t : Nat) (s : State) : Answer :=
  let s := (s.at t).at (s.nextTick - 20000)
  .next (s.over (List.finRange 4) markTile)

/-- SYNC_IN_EDGE (R200): A rising SYNC_IN edge within the window is taken as a phase measurement, otherwise rejected and counted. -/
def execSyncInEdge (t : Nat) (s : State) : Answer :=
  let s := s.at t
  .next (syncEdge s)

/-- SYNC_LOST (R200): After 8 expected edges without a valid edge the generator raises SCN_SYNC_LOST and runs as in HOLD. -/
def execSyncLost (t : Nat) (s : State) : Answer :=
  let s := s.at t
  .next (Sys2Proof.Machine.syncLost s)

/-- SYNC_OUT_PULSE (R201): SYNC_OUT rises at each (DIV_M1+1)-th tick plus OFFSET and falls WIDTH_US later. -/
def execSyncOutPulse (t : Nat) (rise : Bool) (s : State) : Answer :=
  let s := s.at t
  .next (syncOut rise s)

/-- FALLBACK_LOAD_DONE (R213): A load ends with its checks passed and the next MARK swaps, or falls back to copy B or the uniform code. -/
def execFallbackLoadDone (t : Nat) (k : Fin 4) (s : State) : Answer :=
  let s := s.at t
  .next (fbLoadDone k s)

/-- FALLBACK_REFRESH (R213): REFRESH frames after the last load's swap a new load starts. -/
def execFallbackRefresh (t : Nat) (k : Fin 4) (s : State) : Answer :=
  let s := s.at t
  .next (fbRefresh k s)

end Sys2Proof.Machine
end

