-- ==== Sys2Proof/Machine/CmdSched.lean ====
section
/-! DEFINITION. The meanings of the commands of the scheduler, one for each row of the table. -/

namespace Sys2Proof.Machine

/-- SCHED_WRITE (R438): SCHED_CMD WRITE copies the staged entry into the table between two tick evaluations, or fails with INVALID. -/
def execSchedWrite (t : Nat) (i : Init) (idx : Fin 512) (s : State) : Answer :=
  let s := s.at t
  .next (gateWrite i R.SCHED_CMD (word (idx * 65536 + 1)) schedCmd s)

/-- SCHED_DELETE (R438): SCHED_CMD DELETE clears an entry's VALID between two tick evaluations. -/
def execSchedDelete (t : Nat) (i : Init) (idx : Fin 512) (s : State) : Answer :=
  let s := s.at t
  .next (gateWrite i R.SCHED_CMD (word (idx * 65536 + 2)) schedCmd s)

/-- SCHED_READ (R438): SCHED_CMD READ copies an entry into the staging registers at once. -/
def execSchedRead (t : Nat) (i : Init) (idx : Fin 512) (s : State) : Answer :=
  let s := s.at t
  .next (gateWrite i R.SCHED_CMD (word (idx * 65536 + 3)) schedCmd s)

/-- SCHED_DUE (R441): A read of SCHED_DUE pops the oldest occurrence and latches its ARG. -/
def execSchedDue (t : Nat) (i : Init) (s : State) : Answer :=
  let s := s.at t
  .next (regRead i R.SCHED_DUE s)

end Sys2Proof.Machine
end

