-- ==== Sys2Proof/Machine/CmdSecure.lean ====
section
/-! DEFINITION. The meanings of the commands of tokens, keys, debug, OTP and tamper, one for each row of the table. -/

namespace Sys2Proof.Machine

/-- VERIFY (R477): A VERIFY command in the host token window makes SAFE verify the token and load or refuse a host grant. -/
def execHostVerify (t : Nat) (s : State) : Answer :=
  let s := s.at t
  .next (Sys2Proof.Machine.hostVerify s)

/-- DROP (R477): A DROP command in the host token window ends the host grant. -/
def execHostDrop (t : Nat) (s : State) : Answer :=
  let s := s.at t
  .next (Sys2Proof.Machine.hostDrop s)

/-- UNLOCK (R493): An UNLOCK command verifies a maker DEBUG token and opens the named debug scope, counting failures. -/
def execUnlock (t : Nat) (s : State) : Answer :=
  let s := s.at t
  .next (debugUnlock s)

/-- TAP_UNLOCK_WRITE (R494): A TAP UNLOCK WRITE at Update-DR writes a word of the host token window. -/
def execTapUnlockWrite (t : Nat) (index : Fin 65536) (v : Word) (s : State) : Answer :=
  let s := s.at t
  .next (tapWrite index v s)

/-- TAP_UNLOCK_READ (R494): A TAP UNLOCK READ at Update-DR loads a window word, challenge word or SEC_DBG_STAT into the holding register. -/
def execTapUnlockRead (t : Nat) (index : Fin 65536) (s : State) : Answer :=
  let s := s.at t
  .next (tapRead index s)

/-- VERIFY_TOKEN (R481): Service op VERIFY_TOKEN verifies a token by R470 within 20 ms. -/
def execVerifyToken (t : Nat) (e : Fin 64) (s : State) : Answer :=
  let s := s.at t
  .next (svcVerify e s)

/-- HS_KEYSHARE (R481): Service op HS_KEYSHARE performs the hybrid key exchange of a handshake. -/
def execHsKeyshare (t : Nat) (e : Fin 64) (n : Nat) (s : State) : Answer :=
  let s := s.at t
  .next (svcKeyshare e n s)

/-- HS_SIGN (R481): Service op HS_SIGN signs the handshake with the identity key. -/
def execHsSign (t : Nat) (e : Fin 64) (s : State) : Answer :=
  let s := s.at t
  .next (svcSign e s)

/-- HS_INSTALL (R481): Service op HS_INSTALL installs traffic keys into the record engine. -/
def execHsInstall (t : Nat) (e : Fin 64) (s : State) : Answer :=
  let s := s.at t
  .next (svcInstall e s)

/-- VERDICT (R476): Service op VERDICT has SAFE write the required audit record and allow or refuse a command. -/
def execVerdict (t : Nat) (e : Fin 64) (s : State) : Answer :=
  let s := s.at t
  .next (svcVerdict e s)

/-- UPDATE (R481): Service op UPDATE carries out an update command of R463 for the service. -/
def execUpdate (t : Nat) (e : Fin 64) (op : WaordOp) (s : State) : Answer :=
  let s := s.at t
  .next (svcUpdate e op s)

/-- GENERATE (R496): SEC_KEY_CMD GENERATE creates a key in a slot. -/
def execKeyGenerate (t : Nat) (i : Init) (slot : Fin 64) (s : State) : Answer :=
  let s := s.at t
  .next (gateWrite i R.SEC_KEY_CMD (word (0x10000000 + slot)) (keyCmd true true) s)

/-- INSTALL (R496): SEC_KEY_CMD INSTALL loads a slot from a wrapped blob. -/
def execKeyInstall (t : Nat) (i : Init) (slot : Fin 64) (good : Bool) (mac : Bool) (s : State) : Answer :=
  let s := s.at t
  .next (gateWrite i R.SEC_KEY_CMD (word (0x20000000 + slot)) (keyCmd good mac) s)

/-- ERASE (R496): SEC_KEY_CMD ERASE erases a slot. -/
def execKeyErase (t : Nat) (i : Init) (slot : Fin 64) (s : State) : Answer :=
  let s := s.at t
  .next (gateWrite i R.SEC_KEY_CMD (word (0x30000000 + slot)) (keyCmd true true) s)

/-- KEY_LOCK (R496): SEC_KEY_CMD LOCK locks a slot. -/
def execKeyLock (t : Nat) (i : Init) (slot : Fin 64) (s : State) : Answer :=
  let s := s.at t
  .next (gateWrite i R.SEC_KEY_CMD (word (0x40000000 + slot)) (keyCmd true true) s)

/-- REC_INSTALL (R500): SEC_REC_CMD INSTALL puts a handshake's traffic keys into the record engine. -/
def execRecInstall (t : Nat) (i : Init) (e : Fin 1024) (s : State) : Answer :=
  let s := s.at t
  .next (gateWrite i R.SEC_REC_CMD (word (0x10000000 + e)) recCmd s)

/-- KEY_UPDATE (R500): SEC_REC_CMD KEY_UPDATE updates a session's traffic keys. -/
def execKeyUpdate (t : Nat) (i : Init) (e : Fin 1024) (s : State) : Answer :=
  let s := s.at t
  .next (gateWrite i R.SEC_REC_CMD (word (0x20000000 + e)) recCmd s)

/-- REC_ERASE (R500): SEC_REC_CMD ERASE erases a session's traffic keys. -/
def execRecErase (t : Nat) (i : Init) (e : Fin 1024) (s : State) : Answer :=
  let s := s.at t
  .next (gateWrite i R.SEC_REC_CMD (word (0x30000000 + e)) recCmd s)

/-- OTP_PROGRAM (R502): SEC_OTP_CMD GO programs the 1 bits of SEC_OTP_DATA into an OTP word within the lifecycle and condition rules. -/
def execOtpProgram (t : Nat) (i : Init) (w : Word) (good : Bool) (s : State) : Answer :=
  let s := s.at t
  .next (gateWrite i R.SEC_OTP_CMD (putBit w 31 true) (otpCmd good) s)

/-- OTP_RETRY (R466): Every 60 s SAFE retries a pending rollback counter raise. -/
def execOtpRetry (t : Nat) (s : State) : Answer :=
  let s := s.at t
  .next (Sys2Proof.Machine.otpRetry s)

/-- DRBG_RESEED (R458): After 2^20 requests the DRBG reseeds with health tests, raising RNG_FAIL on failure. -/
def execDrbgReseed (t : Nat) (good : Bool) (s : State) : Answer :=
  let s := s.at t
  .next (Sys2Proof.Machine.drbgReseed good s)

/-- TAMPER_SAMPLE (R492): Every 1 ms the tamper input is sampled, and 3 asserted samples are tamper evidence leading to QUARANTINE. -/
def execTamperSample (t : Nat) (level : Bool) (s : State) : Answer :=
  let s := s.at t
  .next (Sys2Proof.Machine.tamperSample level s)

/-- TIME_FLOOR_SAVE (R471): Every hour and at entry to DARK the time floor is saved to eMRAM. -/
def execTimeFloorSave (t : Nat) (s : State) : Answer :=
  let s := s.at t
  .next (Sys2Proof.Machine.timeFloorSave s)

/-- QUARANTINE_ENTRY (R489): A detected quarantine cause enters QUARANTINE with its lamp state and records it in eMRAM. -/
def execQuarantineEntry (t : Nat) (cause : Fin 16) (s : State) : Answer :=
  let s := s.at t
  .next (quarantineEnter cause s)

/-- HOST_GRANT_EXPIRY (R477): A HOSTSPI grant reaches its exp and ends, returning SEC_HOST_GRANT to no grant. -/
def execHostGrantExpiry (t : Nat) (s : State) : Answer :=
  let s := s.at t
  .next (grantExpiry s)

end Sys2Proof.Machine
end

