-- ==== Sys2Proof/Machine/CmdSession.lean ====
section
/-! DEFINITION. The meanings of the commands of sessions and Waord messages, one for each row of the table. -/

namespace Sys2Proof.Machine

/-- DTLS_RECORD_RX (R427): A DTLS record is accepted by index, tag, authentication and replay window, or dropped and counted. -/
def execDtlsRecordRx (t : Nat) (cid : Nat) (body : List Byte) (s : State) : Answer :=
  let s := s.at t
  .next (dtlsRecord cid (nums body) s)

/-- CLIENT_HELLO (R428): A ClientHello starts a handshake or is dropped when 16 handshakes run or all sessions are in use. -/
def execClientHello (t : Nat) (port : Fin 65536) (addr : Nat) (v6 : Bool) (groups : HelloOffer) (s : State) : Answer :=
  let s := s.at t
  .next (Sys2Proof.Machine.clientHello port addr v6 groups s)

/-- HANDSHAKE_DONE (R480): A DTLS handshake completes and its session becomes OPEN with its traffic keys installed. -/
def execHandshakeDone (t : Nat) (e : Fin 1024) (ok : Bool) (client : List Byte) (s : State) : Answer :=
  let s := s.at t
  .next (startProgress (Sys2Proof.Machine.handshakeDone e ok (nums client) s))

/-- HANDSHAKE_START (R429): The device starts its own handshake to a segment head after the spread wait, or retries a failed one with backoff. -/
def execHandshakeStart (t : Nat) (h : Fin 8) (port : Fin 65536) (addr : Nat) (v6 : Bool) (s : State) : Answer :=
  let s := s.at t
  .next (Sys2Proof.Machine.handshakeStart h port addr v6 s)

/-- SESSION_IDLE (R428): A session with no valid record for IDLE_S seconds is closed and freed. -/
def execSessionIdle (t : Nat) (e : Fin 1024) (s : State) : Answer :=
  let s := s.at t
  .next (Sys2Proof.Machine.sessionIdle e s)

/-- WAORD_REQUEST (R432): A Waord REQUEST is checked against the session's rights, executed or answered from the kept response, and answered. -/
def execWaordRequest (t : Nat) (e : Fin 1024) (txn : Word) (op : WaordOp) (s : State) : Answer :=
  let s := s.at t
  .next (Sys2Proof.Machine.waordRequest e txn.toNat op s)

/-- WAORD_SAFETY (R433): A SAFETY message is judged by its alive count, executed or dropped, and raises WAORD_ALIVE_GAP on a gap. -/
def execWaordSafety (t : Nat) (e : Fin 1024) (alive : Fin 256) (txn : Word) (op : WaordOp) (s : State) : Answer :=
  let s := s.at t
  .next (Sys2Proof.Machine.waordSafety e alive txn.toNat op s)

/-- WAORD_OBJECTS (R434): An OBJECTS part is written into a CH1 slot, which is posted when all parts have arrived. -/
def execWaordObjects (t : Nat) (e : Fin 1024) (part : Fin 256) (parts : Fin 256) (id : Word) (l : List Byte) (s : State) : Answer :=
  let s := s.at t
  .next (Sys2Proof.Machine.waordObjects e part parts id.toNat (nums l) s)

/-- PRESENT_TOKEN (R473): PRESENT_TOKEN verifies a token and replaces the session's cached token. -/
def execPresentToken (t : Nat) (e : Fin 1024) (txn : Word) (tok : List Byte) (raise : Option (Fin 3)) (s : State) : Answer :=
  let s := s.at t
  .next (Sys2Proof.Machine.waordRequest e txn.toNat (.presentToken (nums tok) raise) s)

/-- DROP_TOKEN (R473): DROP_TOKEN removes the session's token. -/
def execDropToken (t : Nat) (e : Fin 1024) (txn : Word) (s : State) : Answer :=
  let s := s.at t
  .next (Sys2Proof.Machine.waordRequest e txn.toNat (.dropToken) s)

/-- ATTEST (R480): ATTEST returns an ML-DSA-65 signature over the session's exporter value. -/
def execAttest (t : Nat) (e : Fin 1024) (txn : Word) (s : State) : Answer :=
  let s := s.at t
  .next (Sys2Proof.Machine.waordRequest e txn.toNat (.attest) s)

/-- MODE_REQUEST (R571): A Waord MODE_REQUEST passes the rights check and SAFE writes a mode request. -/
def execModeRequest (t : Nat) (e : Fin 1024) (txn : Word) (mode : Fin 16) (lamp : Fin 4) (s : State) : Answer :=
  let s := s.at t
  .next (Sys2Proof.Machine.waordRequest e txn.toNat (.modeRequest mode lamp) s)

/-- COMMISSION_DONE (R579): COMMISSION_DONE checks the commissioning conditions and writes COMMISSIONED = 1 by journal transaction. -/
def execCommissionDone (t : Nat) (e : Fin 1024) (txn : Word) (s : State) : Answer :=
  let s := s.at t
  .next (Sys2Proof.Machine.waordRequest e txn.toNat (.commissionDone) s)

/-- COMMISSION_RESET (R579): COMMISSION_RESET by a maker in FACTORY or SERVICE clears COMMISSIONED. -/
def execCommissionReset (t : Nat) (e : Fin 1024) (txn : Word) (s : State) : Answer :=
  let s := s.at t
  .next (Sys2Proof.Machine.waordRequest e txn.toNat (.commissionReset) s)

end Sys2Proof.Machine
end

