-- ==== Sys2Proof/Machine/CmdStart.lean ====
section
/-! DEFINITION. The meanings of the commands of power, start-up and processors, one for each row of the table. -/

namespace Sys2Proof.Machine

/-- POWER_GOOD (R594): Power-good releases the internal reset and the boot sequence starts. -/
def execPowerGood (t : Nat) (s : State) : Answer :=
  let s := s.at t
  .next (Sys2Proof.Machine.powerGood s)

/-- RESET_N (R562): RESET_N held low for at least 1 µs resets the chip with cause PIN. -/
def execResetN (t : Nat) (s : State) : Answer :=
  let s := s.at t
  .next (resetPin s)

/-- SYS_RST_CMD (R562): A write by SAFE with the key resets the chip with cause SOFTWARE. -/
def execSysRstCmd (t : Nat) (i : Init) (w : Word) (s : State) : Answer :=
  let s := s.at t
  .next (gateWrite i R.SYS_RST_CMD w rstCmd s)

/-- SAFE_RUNNING (R567): The boot ROM completes key reconstruction and SAFE image verification and starts SAFE. -/
def execSafeRunning (t : Nat) (puf : Bool) (keys : Bool) (rng : Bool) (flash : Fin 64) (s : State) : Answer :=
  let s := s.at t
  .next (Sys2Proof.Machine.safeRunning puf keys rng flash s)

/-- START_RECORD_APPLY (R565): SAFE applies a phase of the start-up record and arms its commit groups, or ends start-up with RECORD. -/
def execStartRecordApply (t : Nat) (phase : Fin 2) (selfTest : Bool) (s : State) : Answer :=
  let s := s.at t
  .next (recordApply phase selfTest s)

/-- STAGGER_END (R566): The stagger delay ends and, with the links UP, phase 2 and the soft start follow. -/
def execStaggerEnd (t : Nat) (s : State) : Answer :=
  let s := s.at t
  .next (Sys2Proof.Machine.staggerEnd s)

/-- MAIN_IMAGE_VERIFIED (R461): SAFE finishes verifying the MAIN image and releases the APU, NETE and BEAM harts, or enters QUARANTINE. -/
def execMainImageVerified (t : Nat) (s : State) : Answer :=
  let s := s.at t
  .next (mainVerified s)

/-- START_STEP_TIMEOUT (R568): A start-up step not met within its bound or NET_WAIT_S records its reason and sets START. -/
def execStartStepTimeout (t : Nat) (s : State) : Answer :=
  let s := s.at t
  .next (startTimeout s)

/-- CPU_HART_RST (R581): A write to CPU_HART_RST resets the named harts, which restart if enabled. -/
def execCpuHartRst (t : Nat) (i : Init) (c : Fin 4) (w : Word) (s : State) : Answer :=
  let s := s.at t
  .next (gateWrite i (R.CPU_HART_RST c) w (hartRst c) s)

/-- CPU_WDOG (R581): A hart watchdog expires and raises its WDOG source. -/
def execCpuWdog (t : Nat) (c : Fin 4) (h : Fin 8) (s : State) : Answer :=
  let s := s.at t
  .next (Sys2Proof.Machine.cpuWdog c h s)

/-- LOCKSTEP_MISMATCH (R25): A mismatch between the two SAFE cores raises LOCKSTEP_MISMATCH. -/
def execLockstepMismatch (t : Nat) (s : State) : Answer :=
  let s := s.at t
  .next (Sys2Proof.Machine.lockstepMismatch s)

/-- VMON_UV (R592): A rail stays below its operating range for more than 1 µs and VMON_UV(d) is raised. -/
def execVmonUv (t : Nat) (d : Fin 8) (s : State) : Answer :=
  let s := s.at t
  .next (vmon d false s)

/-- VMON_OV (R592): A rail stays above its operating range for more than 1 µs and VMON_OV(d) is raised. -/
def execVmonOv (t : Nat) (d : Fin 8) (s : State) : Answer :=
  let s := s.at t
  .next (vmon d true s)

/-- POWER_LOSS (R595): The rails fall, the eMRAM word in progress completes and every domain loses power, leaving open transactions to the next boot's
journal scan. -/
def execPowerLoss (t : Nat) (s : State) : Answer :=
  let s := s.at t
  .next (Sys2Proof.Machine.powerLoss s)

end Sys2Proof.Machine
end

