-- ==== Sys2Proof/Machine/CmdThermal.lean ====
section
/-! DEFINITION. The meanings of the commands of sensors, throttling and clocks, one for each row of the table. -/

namespace Sys2Proof.Machine

/-- SENSOR_CONVERSION (R380): An on-die sensor converts, updating THM_TJ, thresholds, failure detection and the shutdown comparator. -/
def execSensorConversion (t : Nat) (i : Fin 12) (v : Int) (s : State) : Answer :=
  let s := s.at t
  .next (dieConversion i v s)

/-- THROTTLE_STEP (R386): Every STEP_MS while THROTTLE is set the step rises, and every RELEASE_MS while clear it falls. -/
def execThrottleStep (t : Nat) (s : State) : Answer :=
  let s := s.at t
  .next (Sys2Proof.Machine.throttleStep s)

/-- CRITICAL_CLEAR (R388): CRITICAL clears after THM_TJ has stayed below CRIT minus HYST for 10 s. -/
def execCriticalClear (t : Nat) (s : State) : Answer :=
  let s := s.at t
  .next (Sys2Proof.Machine.criticalClear s)

/-- SHUTDOWN_RESTART (R389): After TS11 reads below THM_SD_RESTART for 10 s the device performs a full boot with cause THERMAL. -/
def execShutdownRestart (t : Nat) (s : State) : Answer :=
  let s := s.at t
  .next (Sys2Proof.Machine.shutdownRestart s)

/-- TILE_SENSOR_TIMEOUT (R382): No TEMP record for 4 × TEMP_PERIOD frames on an UP link fails the tile sensor. -/
def execTileSensorTimeout (t : Nat) (k : Fin 4) (n : Fin 8) (s : State) : Answer :=
  let s := s.at t
  .next (Sys2Proof.Machine.tileSensorTimeout k n s)

/-- SENSOR_FAIL_CLEAR (R383): A W1C of a failed sensor's bit returns it to live reading once it has been healthy for 1 s. -/
def execSensorFailClear (t : Nat) (i : Init) (tiles : Bool) (w : Word) (s : State) : Answer :=
  let s := s.at t
  .next (let a := if tiles then R.THM_TILE_FAIL else R.THM_SENSOR_FAIL
    gateWrite i a w (thmClear a) s)

/-- THM_TILE_OVER (R390): THM_TILE_TJ at or above THM_TILE_LIM for 1 s raises THM_TILE_OVER. -/
def execThmTileOver (t : Nat) (k : Fin 4) (s : State) : Answer :=
  let s := s.at t
  .next (tileOver k s)

/-- CLK_REF_LOSS (R393): Loss of the 25 MHz reference raises CLK_REF_LOSS and the tick generator enters holdover. -/
def execClkRefLoss (t : Nat) (s : State) : Answer :=
  let s := s.at t
  .next (refLoss s)

/-- PLL_UNLOCK (R525): A PLL loses lock, clearing its PLL_LOCK bit and raising PLL_UNLOCK(p). -/
def execPllUnlock (t : Nat) (p : Fin 6) (s : State) : Answer :=
  let s := s.at t
  .next (Sys2Proof.Machine.pllUnlock p s)

end Sys2Proof.Machine
end

