-- ==== Sys2Proof/Machine/CmdTime.lean ====
section
/-! DEFINITION. The meanings of the commands of time, one for each row of the table. -/

namespace Sys2Proof.Machine

/-- SUBMIT (R409): A write of TIME_MEAS_CTRL.SUBMIT applies a servo measurement, stepping or slewing NT and changing servo state. -/
def execSubmit (t : Nat) (i : Init) (w : Word) (s : State) : Answer :=
  let s := s.at t
  .next (startProgress (gateWrite i R.TIME_MEAS_CTRL (putBit w 0 true) measCtrl s))

/-- REACQ (R410): A write of TIME_MEAS_CTRL.REACQ moves a LOCKED servo to RE_ACQUIRE. -/
def execReacq (t : Nat) (i : Init) (w : Word) (s : State) : Answer :=
  let s := s.at t
  .next (gateWrite i R.TIME_MEAS_CTRL (putBit w 1 true) measCtrl s)

/-- SERVO_HOLDOVER (R410): No measurement for HOLD_TO moves the servo to HOLDOVER. -/
def execServoHoldover (t : Nat) (s : State) : Answer :=
  let s := s.at t
  .next (Sys2Proof.Machine.servoHoldover s)

/-- APPLY (R421): A write of TIME_STEP_CMD.APPLY ends a pending difference by alignment while dark or by slew while lit. -/
def execApply (t : Nat) (i : Init) (w : Word) (s : State) : Answer :=
  let s := s.at t
  .next (gateWrite i R.TIME_STEP_CMD (putBit w 0 true) stepCmd s)

/-- TIME_EPOCH_WRITE (R422): A write of TIME_EPOCH while dark sets a new epoch taken up by alignment, and while lit is dropped. -/
def execTimeEpochWrite (t : Nat) (i : Init) (high : Bool) (w : Word) (s : State) : Answer :=
  let s := s.at t
  .next (gateWrite i (if high then R.TIME_EPOCH_HI else R.TIME_EPOCH_LO) w epochWrite s)

/-- TIME_TSQ_HDR (R413): A read of TIME_TSQ_HDR pops the oldest transmit timestamp and latches it. -/
def execTimeTsqHdr (t : Nat) (i : Init) (s : State) : Answer :=
  let s := s.at t
  .next (regRead i R.TIME_TSQ_HDR s)

end Sys2Proof.Machine
end

