-- ==== Sys2Proof/Machine/CmdUpdate.lean ====
section
/-! DEFINITION. The meanings of the commands of updates, audit and recovery, one for each row of the table. -/

namespace Sys2Proof.Machine

/-- UPD_BEGIN (R463): UPD_BEGIN erases the update target and moves the update state to RECEIVING. -/
def execUpdBegin (t : Nat) (e : Fin 1024) (txn : Word) (type : Fin 256) (len : Word) (s : State) : Answer :=
  let s := s.at t
  .next (Sys2Proof.Machine.waordRequest e txn.toNat (.updBegin type len.toNat) s)

/-- UPD_DATA (R463): UPD_DATA writes image bytes at an offset of the target. -/
def execUpdData (t : Nat) (e : Fin 1024) (txn : Word) (ofs : Word) (l : List Byte) (s : State) : Answer :=
  let s := s.at t
  .next (Sys2Proof.Machine.waordRequest e txn.toNat (.updData ofs.toNat (nums l)) s)

/-- UPD_VERIFY (R463): UPD_VERIFY checks the received image by R460 and stages or rejects it. -/
def execUpdVerify (t : Nat) (e : Fin 1024) (txn : Word) (s : State) : Answer :=
  let s := s.at t
  .next (Sys2Proof.Machine.waordRequest e txn.toNat (.updVerify) s)

/-- UPD_ACTIVATE (R464): UPD_ACTIVATE schedules a chip reset into the staged image at a named tick. -/
def execUpdActivate (t : Nat) (e : Fin 1024) (txn : Word) (tick : Option Nat) (force : Bool) (s : State) : Answer :=
  let s := s.at t
  .next (Sys2Proof.Machine.waordRequest e txn.toNat (.updActivate tick force) s)

/-- UPDATE_ACTIVATION_RESET (R464): A pending activation resets the chip at its tick once the lamp is dark, or at once with FORCE. -/
def execUpdateActivationReset (t : Nat) (s : State) : Answer :=
  let s := s.at t
  .next (activation s)

/-- UPD_CONFIRM (R465): UPD_CONFIRM makes a trial image permanent and raises its rollback counter. -/
def execUpdConfirm (t : Nat) (e : Fin 1024) (txn : Word) (s : State) : Answer :=
  let s := s.at t
  .next (Sys2Proof.Machine.waordRequest e txn.toNat (.updConfirm) s)

/-- UPD_ABORT (R463): UPD_ABORT returns the update state to IDLE, leaving the target invalid. -/
def execUpdAbort (t : Nat) (e : Fin 1024) (txn : Word) (s : State) : Answer :=
  let s := s.at t
  .next (Sys2Proof.Machine.waordRequest e txn.toNat (.updAbort) s)

/-- CONFIRM_EXPIRY (R465): CONFIRM_S expiring without confirmation marks the trial failed and schedules a rollback reset. -/
def execConfirmExpiry (t : Nat) (s : State) : Answer :=
  let s := s.at t
  .next (Sys2Proof.Machine.confirmExpiry s)

/-- AUDIT_READ (R488): AUDIT_READ returns the stored records of a range with a signed export statement. -/
def execAuditRead (t : Nat) (e : Fin 1024) (txn : Word) (first : Word) (last : Word) (s : State) : Answer :=
  let s := s.at t
  .next (Sys2Proof.Machine.waordRequest e txn.toNat (.auditRead first.toNat last.toNat) s)

/-- AUDIT_ACK (R488): AUDIT_ACK raises SEC_AUDIT_ACKED to the smaller of its argument and the highest exported TO. -/
def execAuditAck (t : Nat) (e : Fin 1024) (txn : Word) (seq : Word) (s : State) : Answer :=
  let s := s.at t
  .next (Sys2Proof.Machine.waordRequest e txn.toNat (.auditAck seq.toNat) s)

/-- RCV_CHALLENGE (R491): RCV_CHALLENGE returns a fresh recovery nonce and sets SEC_RCV_CHAL. -/
def execRcvChallenge (t : Nat) (e : Fin 1024) (txn : Word) (s : State) : Answer :=
  let s := s.at t
  .next (Sys2Proof.Machine.waordRequest e txn.toNat (.rcvChallenge) s)

/-- RCV_EXIT (R491): RCV_EXIT with a matching maker RECOVERY token clears the stored quarantine state. -/
def execRcvExit (t : Nat) (e : Fin 1024) (txn : Word) (tok : List Byte) (s : State) : Answer :=
  let s := s.at t
  .next (Sys2Proof.Machine.waordRequest e txn.toNat (.rcvExit (nums tok)) s)

end Sys2Proof.Machine
end

