-- ==== Sys2Proof/Machine/CmdVideo.lean ====
section
/-! DEFINITION. The meanings of the commands of video input and look-back, one for each row of the table. -/

namespace Sys2Proof.Machine

/-- FRAME_START (R280): A CSI-2 Frame Start opens a frame and an IMAGE stream chooses its entry or skips the frame. -/
def execVinFrameStart (t : Nat) (i : Fin 2) (vc : Fin 4) (num : Fin 65536) (h : ShortHead) (s : State) : Answer :=
  let s := s.at t
  .next ((frameStart i vc h.vcx num h.fixed s).when h.stop (laneStop i))

/-- LONG_PACKET (R279): A CSI-2 long packet of a matching stream is checked and its line unpacked into the entry or list slot. -/
def execVinLongPacket (t : Nat) (i : Fin 2) (vc : Fin 4) (dt : Fin 64) (vcx : Bool) (fixed : Bool) (crcOk : Bool) (overflow : Bool) (l : List Byte) (s : State) : Answer :=
  let s := s.at t
  .next (longPacket i vc dt vcx fixed crcOk overflow (nums l) s)

/-- FRAME_END (R282): A CSI-2 Frame End completes a frame, recording it, signalling its fence, feeding the pre-scaler and auto-flipping, or marks it
errored. -/
def execVinFrameEnd (t : Nat) (i : Fin 2) (vc : Fin 4) (h : ShortHead) (s : State) : Answer :=
  let s := s.at t
  .next ((closeWins (fun r => r == .frame i) (frameEnd i vc h.vcx h.fixed s)).when h.stop (laneStop i))

/-- SHORT_PACKET_IGNORED (R276): Line Start, Line End and generic short packets are accepted and ignored. -/
def execShortPacketIgnored (t : Nat) (i : Fin 2) (h : ShortHead) (s : State) : Answer :=
  let s := s.at t
  .next ((shortIgnored i h.vcx h.fixed s).when h.stop (laneStop i))

/-- HEADER_ECC_ERROR (R281): An uncorrectable CSI-2 header discards the packet and marks every open frame errored. -/
def execHeaderEccError (t : Nat) (i : Fin 2) (s : State) : Answer :=
  let s := s.at t
  .next (headerError i s)

/-- DESKEW (R276): A received deskew sequence is applied to the lanes. -/
def execDeskew (t : Nat) (_i : Fin 2) (s : State) : Answer :=
  let s := s.at t
  .next (s)

/-- ULPS (R276): The receiver enters or exits ultra-low-power state on the lane signalling. -/
def execUlps (t : Nat) (i : Fin 2) (enter : Bool) (s : State) : Answer :=
  let s := s.at t
  .next (Sys2Proof.Machine.ulps i enter s)

/-- LOOK_CAPTURE_TIME (R287): A capture time of the LOOK grid passes and LOOK takes the next matching frame, or counts the capture as skipped. -/
def execLookCaptureTime (t : Nat) (s : State) : Answer :=
  let s := (s.at t).at (captureTime (s.at t))
  .next (lookCapture s)

/-- CAPTURE (R287): A write of LOOK_CMD.CAPTURE adds one capture time at once. -/
def execCapture (t : Nat) (i : Init) (w : Word) (s : State) : Answer :=
  let s := s.at t
  .next (gateWrite i R.LOOK_CMD (putBit w 0 true) lookCmd s)

/-- LOOK_EVAL_DONE (R295): The look-back program finishes an image, writing its results and updating each detector's persistence. -/
def execLookEvalDone (t : Nat) (s : State) : Answer :=
  let s := s.at t
  .next (closeWins (fun r => r == .image) (lookEval s))

/-- LOOK_ENABLE (R296): LOOK CTRL.EN changing from 0 to 1 loads the look-back program into its BEAM engine. -/
def execLookEnable (t : Nat) (i : Init) (w : Word) (s : State) : Answer :=
  let s := s.at t
  .next (gateWrite i (R.CTRL P.LOOK) (putBit w 0 true) lookCtrl s)

/-- START_OF_TRANSMISSION_ERROR (R297): A D-PHY start-of-transmission or synchronisation error on a VIN receiver raises VIN_PHY_ERR and sets PHY_ERR.
-/
def execSotError (t : Nat) (i : Fin 2) (s : State) : Answer :=
  let s := s.at t
  .next (Sys2Proof.Machine.sotError i s)

end Sys2Proof.Machine
end

