-- ==== Sys2Proof/Machine/Dispatch.lean ====
section
/-! DEFINITION. The dispatch: one arm for each command. -/

namespace Sys2Proof.Machine

/-- The meaning of a command on everything but the queue. -/
def exec (i : Instr) (s : State) : Host.Outcome State Fault Refusal :=
  match i with
  | .frameTick => Sys2Proof.Machine.execFrameTick s
  | .commitDeadline => Sys2Proof.Machine.execCommitDeadline s
  | .arm t j g w => Sys2Proof.Machine.execArm t j g w s
  | .cancel t j g w => Sys2Proof.Machine.execCancel t j g w s
  | .commitValidate t g rejects => Sys2Proof.Machine.execCommitValidate t g rejects s
  | .blockReset t page => Sys2Proof.Machine.execBlockReset t page s
  | .chipReset t cause src => Sys2Proof.Machine.execChipReset t cause src s
  | .registerWrite t j a size v => Sys2Proof.Machine.execRegisterWrite t j a size v s
  | .busWrite t j a l => Sys2Proof.Machine.execBusWrite t j a l s
  | .lockSet t j page => Sys2Proof.Machine.execLockSet t j page s
  | .sramRead t j a n => Sys2Proof.Machine.execSramRead t j a n s
  | .scrubPass t => Sys2Proof.Machine.execScrubPass t s
  | .dmvPost t j c w => Sys2Proof.Machine.execDmvPost t j c w s
  | .dmvDescriptorComplete t c => Sys2Proof.Machine.execDmvDescriptorComplete t c s
  | .dmvAbort t j c moved verified => Sys2Proof.Machine.execDmvAbort t j c moved verified s
  | .dmvResume t j c w => Sys2Proof.Machine.execDmvResume t j c w s
  | .compositionDone t => Sys2Proof.Machine.execCompositionDone t s
  | .wbFrameDone t k => Sys2Proof.Machine.execWbFrameDone t k s
  | .lyrFlipRequest t j n w => Sys2Proof.Machine.execLyrFlipRequest t j n w s
  | .lyrFlipCancel t j n w => Sys2Proof.Machine.execLyrFlipCancel t j n w s
  | .cmpFlipArm t j w => Sys2Proof.Machine.execCmpFlipArm t j w s
  | .bufRegister t j idx => Sys2Proof.Machine.execBufRegister t j idx s
  | .bufUnregister t j idx => Sys2Proof.Machine.execBufUnregister t j idx s
  | .bufRead t j idx => Sys2Proof.Machine.execBufRead t j idx s
  | .fenceSet t j high w => Sys2Proof.Machine.execFenceSet t j high w s
  | .fenceClear t j high w => Sys2Proof.Machine.execFenceClear t j high w s
  | .sclKick t j k => Sys2Proof.Machine.execSclKick t j k s
  | .sclPassEnd t k => Sys2Proof.Machine.execSclPassEnd t k s
  | .doseSnapHourly t => Sys2Proof.Machine.execDoseSnapHourly t s
  | .snap t j => Sys2Proof.Machine.execSnap t j s
  | .snapSliceDone t => Sys2Proof.Machine.execSnapSliceDone t s
  | .snapRetry t => Sys2Proof.Machine.execSnapRetry t s
  | .restore t j => Sys2Proof.Machine.execRestore t j s
  | .restoreDone t => Sys2Proof.Machine.execRestoreDone t s
  | .rmapInsert t j w => Sys2Proof.Machine.execRmapInsert t j w s
  | .rmapDelete t j w => Sys2Proof.Machine.execRmapDelete t j w s
  | .rmapRead t j w => Sys2Proof.Machine.execRmapRead t j w s
  | .rmapLookup t j w => Sys2Proof.Machine.execRmapLookup t j w s
  | .rmapEditApply t => Sys2Proof.Machine.execRmapEditApply t s
  | .dthDataAccess t j v => Sys2Proof.Machine.execDthDataAccess t j v s
  | .glmPost t j w => Sys2Proof.Machine.execGlmPost t j w s
  | .bandDone t b => Sys2Proof.Machine.execBandDone t b s
  | .bandDeadline t k b => Sys2Proof.Machine.execBandDeadline t k b s
  | .poolRenderDone t => Sys2Proof.Machine.execPoolRenderDone t s
  | .glmEnable t j w => Sys2Proof.Machine.execGlmEnable t j w s
  | .lineSend t k => Sys2Proof.Machine.execLineSend t k s
  | .lineUnderrun t k mask => Sys2Proof.Machine.execLineUnderrun t k mask s
  | .scnRectDivTag t j k r w => Sys2Proof.Machine.execScnRectDivTag t j k r w s
  | .markSend t => Sys2Proof.Machine.execMarkSend t s
  | .ctrlSend t k => Sys2Proof.Machine.execCtrlSend t k s
  | .splCtrlCmd t j k w => Sys2Proof.Machine.execSplCtrlCmd t j k w s
  | .ackTimeout t k => Sys2Proof.Machine.execAckTimeout t k s
  | .ack t k err h a p c => Sys2Proof.Machine.execAck t k err h a p c s
  | .diag t k err h a p c => Sys2Proof.Machine.execDiag t k err h a p c s
  | .enum t k err b c => Sys2Proof.Machine.execEnum t k err b c s
  | .fstat t k err h a d n v c => Sys2Proof.Machine.execFstat t k err h a d n v c s
  | .linkEnable t j k w => Sys2Proof.Machine.execLinkEnable t j k w s
  | .ts1Lock t x => Sys2Proof.Machine.execTs1Lock t x s
  | .trainStepDone t k h f lanes => Sys2Proof.Machine.execTrainStepDone t k h f lanes s
  | .trainTimeout t k => Sys2Proof.Machine.execTrainTimeout t k s
  | .linkRestart t k => Sys2Proof.Machine.execLinkRestart t k s
  | .retrain t j k w => Sys2Proof.Machine.execRetrain t j k w s
  | .retrainTimeout t k => Sys2Proof.Machine.execRetrainTimeout t k s
  | .symbolLockLoss t k => Sys2Proof.Machine.execSymbolLockLoss t k s
  | .returnCharErrors t k n => Sys2Proof.Machine.execReturnCharErrors t k n s
  | .fstatMissing t k => Sys2Proof.Machine.execFstatMissing t k s
  | .syncInEdge t => Sys2Proof.Machine.execSyncInEdge t s
  | .syncLost t => Sys2Proof.Machine.execSyncLost t s
  | .syncOutPulse t rise => Sys2Proof.Machine.execSyncOutPulse t rise s
  | .fallbackLoadDone t k => Sys2Proof.Machine.execFallbackLoadDone t k s
  | .fallbackRefresh t k => Sys2Proof.Machine.execFallbackRefresh t k s
  | .drvCoverage t k => Sys2Proof.Machine.execDrvCoverage t k s
  | .drvFnKill t j w => Sys2Proof.Machine.execDrvFnKill t j w s
  | .drvFnClear t j w => Sys2Proof.Machine.execDrvFnClear t j w s
  | .drvDefDelete t j w => Sys2Proof.Machine.execDrvDefDelete t j w s
  | .patEnd t q => Sys2Proof.Machine.execPatEnd t q s
  | .patSet t q r k => Sys2Proof.Machine.execPatSet t q r k s
  | .patAdd t q r k => Sys2Proof.Machine.execPatAdd t q r k s
  | .patRamp t q r k n => Sys2Proof.Machine.execPatRamp t q r k n s
  | .patHold t q n => Sys2Proof.Machine.execPatHold t q n s
  | .patLoop t q ci addr count => Sys2Proof.Machine.execPatLoop t q ci addr count s
  | .patWaitTick t q k => Sys2Proof.Machine.execPatWaitTick t q k s
  | .patSync t q k => Sys2Proof.Machine.execPatSync t q k s
  | .patBranchFlag t q pol addr flag => Sys2Proof.Machine.execPatBranchFlag t q pol addr flag s
  | .patProgData t j v => Sys2Proof.Machine.execPatProgData t j v s
  | .patKData t j v => Sys2Proof.Machine.execPatKData t j v s
  | .vinFrameStart t j vc num h => Sys2Proof.Machine.execVinFrameStart t j vc num h s
  | .vinLongPacket t j vc dt vcx fixed crcOk overflow l => Sys2Proof.Machine.execVinLongPacket t j vc dt vcx fixed crcOk overflow l s
  | .vinFrameEnd t j vc h => Sys2Proof.Machine.execVinFrameEnd t j vc h s
  | .shortPacketIgnored t j h => Sys2Proof.Machine.execShortPacketIgnored t j h s
  | .headerEccError t j => Sys2Proof.Machine.execHeaderEccError t j s
  | .deskew t j => Sys2Proof.Machine.execDeskew t j s
  | .ulps t j enter => Sys2Proof.Machine.execUlps t j enter s
  | .lookCaptureTime t => Sys2Proof.Machine.execLookCaptureTime t s
  | .capture t j w => Sys2Proof.Machine.execCapture t j w s
  | .lookEvalDone t => Sys2Proof.Machine.execLookEvalDone t s
  | .lookEnable t j w => Sys2Proof.Machine.execLookEnable t j w s
  | .loopSample t k late => Sys2Proof.Machine.execLoopSample t k late s
  | .loopHold t j k w => Sys2Proof.Machine.execLoopHold t j k w s
  | .loopResume t j k w => Sys2Proof.Machine.execLoopResume t j k w s
  | .injStart t j k w => Sys2Proof.Machine.execInjStart t j k w s
  | .injStop t j k w => Sys2Proof.Machine.execInjStop t j k w s
  | .capArm t j k w => Sys2Proof.Machine.execCapArm t j k w s
  | .capTrig t j k w => Sys2Proof.Machine.execCapTrig t j k w s
  | .carrierStart t o => Sys2Proof.Machine.execCarrierStart t o s
  | .adcConversion t c code => Sys2Proof.Machine.execAdcConversion t c code s
  | .nrgAllowWrite t j w => Sys2Proof.Machine.execNrgAllowWrite t j w s
  | .energyPlanStale t => Sys2Proof.Machine.execEnergyPlanStale t s
  | .hourRollover t => Sys2Proof.Machine.execHourRollover t s
  | .nightRollover t => Sys2Proof.Machine.execNightRollover t s
  | .nightRestart t j => Sys2Proof.Machine.execNightRestart t j s
  | .daliTx t j w => Sys2Proof.Machine.execDaliTx t j w s
  | .daliPoll t => Sys2Proof.Machine.execDaliPoll t s
  | .daliTransactionDone t result data energy power res => Sys2Proof.Machine.execDaliTransactionDone t result data energy power res s
  | .daliBusFail t => Sys2Proof.Machine.execDaliBusFail t s
  | .xcheckWindow t => Sys2Proof.Machine.execXcheckWindow t s
  | .pwrCmd t j w => Sys2Proof.Machine.execPwrCmd t j w s
  | .lowpowerEntry t wfi => Sys2Proof.Machine.execLowpowerEntry t wfi s
  | .lowpowerCommit t => Sys2Proof.Machine.execLowpowerCommit t s
  | .idleEntry t wfi => Sys2Proof.Machine.execIdleEntry t wfi s
  | .wake t src => Sys2Proof.Machine.execWake t src s
  | .pwrLevelReq t j w => Sys2Proof.Machine.execPwrLevelReq t j w s
  | .pmicPgRise t => Sys2Proof.Machine.execPmicPgRise t s
  | .pmicTimeout t => Sys2Proof.Machine.execPmicTimeout t s
  | .sensorConversion t j v => Sys2Proof.Machine.execSensorConversion t j v s
  | .throttleStep t => Sys2Proof.Machine.execThrottleStep t s
  | .criticalClear t => Sys2Proof.Machine.execCriticalClear t s
  | .shutdownRestart t => Sys2Proof.Machine.execShutdownRestart t s
  | .tileSensorTimeout t k n => Sys2Proof.Machine.execTileSensorTimeout t k n s
  | .sensorFailClear t j tiles w => Sys2Proof.Machine.execSensorFailClear t j tiles w s
  | .thmTileOver t k => Sys2Proof.Machine.execThmTileOver t k s
  | .clkRefLoss t => Sys2Proof.Machine.execClkRefLoss t s
  | .portLinkChange t p up speed amp master sqi => Sys2Proof.Machine.execPortLinkChange t p up speed amp master sqi s
  | .portFrameRx t p f => Sys2Proof.Machine.execPortFrameRx t p f s
  | .portFrameTx t p post => Sys2Proof.Machine.execPortFrameTx t p post s
  | .mrpFlush t => Sys2Proof.Machine.execMrpFlush t s
  | .mrpBlockTimeout t p => Sys2Proof.Machine.execMrpBlockTimeout t p s
  | .fdbAge t mac => Sys2Proof.Machine.execFdbAge t mac s
  | .swFlush t j w => Sys2Proof.Machine.execSwFlush t j w s
  | .pdelayReq t p delta => Sys2Proof.Machine.execPdelayReq t p delta s
  | .submit t j w => Sys2Proof.Machine.execSubmit t j w s
  | .reacq t j w => Sys2Proof.Machine.execReacq t j w s
  | .servoHoldover t => Sys2Proof.Machine.execServoHoldover t s
  | .apply t j w => Sys2Proof.Machine.execApply t j w s
  | .timeEpochWrite t j high w => Sys2Proof.Machine.execTimeEpochWrite t j high w s
  | .timeTsqHdr t j => Sys2Proof.Machine.execTimeTsqHdr t j s
  | .dtlsRecordRx t cid body => Sys2Proof.Machine.execDtlsRecordRx t cid body s
  | .clientHello t port addr v6 groups => Sys2Proof.Machine.execClientHello t port addr v6 groups s
  | .handshakeDone t e ok client => Sys2Proof.Machine.execHandshakeDone t e ok client s
  | .handshakeStart t h port addr v6 => Sys2Proof.Machine.execHandshakeStart t h port addr v6 s
  | .sessionIdle t e => Sys2Proof.Machine.execSessionIdle t e s
  | .waordRequest t e txn op => Sys2Proof.Machine.execWaordRequest t e txn op s
  | .waordSafety t e alive txn op => Sys2Proof.Machine.execWaordSafety t e alive txn op s
  | .waordObjects t e part parts id l => Sys2Proof.Machine.execWaordObjects t e part parts id l s
  | .presentToken t e txn tok raise => Sys2Proof.Machine.execPresentToken t e txn tok raise s
  | .dropToken t e txn => Sys2Proof.Machine.execDropToken t e txn s
  | .attest t e txn => Sys2Proof.Machine.execAttest t e txn s
  | .modeRequest t e txn mode lamp => Sys2Proof.Machine.execModeRequest t e txn mode lamp s
  | .commissionDone t e txn => Sys2Proof.Machine.execCommissionDone t e txn s
  | .commissionReset t e txn => Sys2Proof.Machine.execCommissionReset t e txn s
  | .updBegin t e txn type len => Sys2Proof.Machine.execUpdBegin t e txn type len s
  | .updData t e txn ofs l => Sys2Proof.Machine.execUpdData t e txn ofs l s
  | .updVerify t e txn => Sys2Proof.Machine.execUpdVerify t e txn s
  | .updActivate t e txn tick force => Sys2Proof.Machine.execUpdActivate t e txn tick force s
  | .updateActivationReset t => Sys2Proof.Machine.execUpdateActivationReset t s
  | .updConfirm t e txn => Sys2Proof.Machine.execUpdConfirm t e txn s
  | .updAbort t e txn => Sys2Proof.Machine.execUpdAbort t e txn s
  | .confirmExpiry t => Sys2Proof.Machine.execConfirmExpiry t s
  | .auditRead t e txn first last => Sys2Proof.Machine.execAuditRead t e txn first last s
  | .auditAck t e txn seq => Sys2Proof.Machine.execAuditAck t e txn seq s
  | .rcvChallenge t e txn => Sys2Proof.Machine.execRcvChallenge t e txn s
  | .rcvExit t e txn tok => Sys2Proof.Machine.execRcvExit t e txn tok s
  | .wakeBeacon t group time auth => Sys2Proof.Machine.execWakeBeacon t group time auth s
  | .schedWrite t j idx => Sys2Proof.Machine.execSchedWrite t j idx s
  | .schedDelete t j idx => Sys2Proof.Machine.execSchedDelete t j idx s
  | .schedRead t j idx => Sys2Proof.Machine.execSchedRead t j idx s
  | .schedDue t j => Sys2Proof.Machine.execSchedDue t j s
  | .hostVerify t => Sys2Proof.Machine.execHostVerify t s
  | .hostDrop t => Sys2Proof.Machine.execHostDrop t s
  | .unlock t => Sys2Proof.Machine.execUnlock t s
  | .tapUnlockWrite t index v => Sys2Proof.Machine.execTapUnlockWrite t index v s
  | .tapUnlockRead t index => Sys2Proof.Machine.execTapUnlockRead t index s
  | .verifyToken t e => Sys2Proof.Machine.execVerifyToken t e s
  | .hsKeyshare t e n => Sys2Proof.Machine.execHsKeyshare t e n s
  | .hsSign t e => Sys2Proof.Machine.execHsSign t e s
  | .hsInstall t e => Sys2Proof.Machine.execHsInstall t e s
  | .verdict t e => Sys2Proof.Machine.execVerdict t e s
  | .update t e op => Sys2Proof.Machine.execUpdate t e op s
  | .keyGenerate t j slot => Sys2Proof.Machine.execKeyGenerate t j slot s
  | .keyInstall t j slot good mac => Sys2Proof.Machine.execKeyInstall t j slot good mac s
  | .keyErase t j slot => Sys2Proof.Machine.execKeyErase t j slot s
  | .keyLock t j slot => Sys2Proof.Machine.execKeyLock t j slot s
  | .recInstall t j e => Sys2Proof.Machine.execRecInstall t j e s
  | .keyUpdate t j e => Sys2Proof.Machine.execKeyUpdate t j e s
  | .recErase t j e => Sys2Proof.Machine.execRecErase t j e s
  | .otpProgram t j w good => Sys2Proof.Machine.execOtpProgram t j w good s
  | .otpRetry t => Sys2Proof.Machine.execOtpRetry t s
  | .drbgReseed t good => Sys2Proof.Machine.execDrbgReseed t good s
  | .tamperSample t level => Sys2Proof.Machine.execTamperSample t level s
  | .timeFloorSave t => Sys2Proof.Machine.execTimeFloorSave t s
  | .quarantineEntry t cause => Sys2Proof.Machine.execQuarantineEntry t cause s
  | .faultEvent t n => Sys2Proof.Machine.execFaultEvent t n s
  | .force t j page w => Sys2Proof.Machine.execForce t j page w s
  | .fltForceSrc t j w => Sys2Proof.Machine.execFltForceSrc t j w s
  | .errRelease t j w => Sys2Proof.Machine.execErrRelease t j w s
  | .consqTmo t => Sys2Proof.Machine.execConsqTmo t s
  | .fltCfgCrc t => Sys2Proof.Machine.execFltCfgCrc t s
  | .fltLogRdWrite t j w => Sys2Proof.Machine.execFltLogRdWrite t j w s
  | .fltStatClear t j n w => Sys2Proof.Machine.execFltStatClear t j n w s
  | .crcSnoopPacket t src inst l => Sys2Proof.Machine.execCrcSnoopPacket t src inst l s
  | .crcCtxRunWrite t j u c w => Sys2Proof.Machine.execCrcCtxRunWrite t j u c w s
  | .nvmTxSubmit t j w => Sys2Proof.Machine.execNvmTxSubmit t j w s
  | .journalTxOpen t direct => Sys2Proof.Machine.execJournalTxOpen t direct s
  | .journalTxCommit t direct good => Sys2Proof.Machine.execJournalTxCommit t direct good s
  | .journalTxSeal t direct => Sys2Proof.Machine.execJournalTxSeal t direct s
  | .windowClose t => Sys2Proof.Machine.execWindowClose t s
  | .windowOpen t => Sys2Proof.Machine.execWindowOpen t s
  | .erase4k t j => Sys2Proof.Machine.execErase4k t j s
  | .erase64k t j => Sys2Proof.Machine.execErase64k t j s
  | .program t j => Sys2Proof.Machine.execProgram t j s
  | .xspiOpDone t outcome => Sys2Proof.Machine.execXspiOpDone t outcome s
  | .xspiWaitTimeout t => Sys2Proof.Machine.execXspiWaitTimeout t s
  | .powerGood t => Sys2Proof.Machine.execPowerGood t s
  | .resetN t => Sys2Proof.Machine.execResetN t s
  | .sysRstCmd t j w => Sys2Proof.Machine.execSysRstCmd t j w s
  | .safeRunning t puf keys rng flash => Sys2Proof.Machine.execSafeRunning t puf keys rng flash s
  | .startRecordApply t phase selfTest => Sys2Proof.Machine.execStartRecordApply t phase selfTest s
  | .staggerEnd t => Sys2Proof.Machine.execStaggerEnd t s
  | .mainImageVerified t => Sys2Proof.Machine.execMainImageVerified t s
  | .startStepTimeout t => Sys2Proof.Machine.execStartStepTimeout t s
  | .sysModeReq t j w role rights => Sys2Proof.Machine.execSysModeReq t j w role rights s
  | .netLoss t => Sys2Proof.Machine.execNetLoss t s
  | .autoModeRequest t => Sys2Proof.Machine.execAutoModeRequest t s
  | .cpuHartRst t j c w => Sys2Proof.Machine.execCpuHartRst t j c w s
  | .cpuWdog t c h => Sys2Proof.Machine.execCpuWdog t c h s
  | .lockstepMismatch t => Sys2Proof.Machine.execLockstepMismatch t s
  | .hostWrite32 t a v => Sys2Proof.Machine.execHostWrite32 t a v s
  | .hostRead32 t a => Sys2Proof.Machine.execHostRead32 t a s
  | .hostStatus t => Sys2Proof.Machine.execHostStatus t s
  | .hostFrameAbort t => Sys2Proof.Machine.execHostFrameAbort t s
  | .hostH2dSet t w => Sys2Proof.Machine.execHostH2dSet t w s
  | .hostD2hSet t j w => Sys2Proof.Machine.execHostD2hSet t j w s
  | .gpioSet t j w => Sys2Proof.Machine.execGpioSet t j w s
  | .gpioClr t j w => Sys2Proof.Machine.execGpioClr t j w s
  | .gpioEdge t g level => Sys2Proof.Machine.execGpioEdge t g level s
  | .busRead t j a n => Sys2Proof.Machine.execBusRead t j a n s
  | .tileResetRelease t k => Sys2Proof.Machine.execTileResetRelease t k s
  | .sotError t j => Sys2Proof.Machine.execSotError t j s
  | .vmonUv t d => Sys2Proof.Machine.execVmonUv t d s
  | .vmonOv t d => Sys2Proof.Machine.execVmonOv t d s
  | .pllUnlock t p => Sys2Proof.Machine.execPllUnlock t p s
  | .powerLoss t => Sys2Proof.Machine.execPowerLoss t s
  | .daliBusRecovery t => Sys2Proof.Machine.execDaliBusRecovery t s
  | .hostGrantExpiry t => Sys2Proof.Machine.execHostGrantExpiry t s
  | .localMemoryEccError t kind => Sys2Proof.Machine.execLocalMemoryEccError t kind s

end Sys2Proof.Machine
end

