-- ==== Sys2Proof/Safety.lean ====
section
/-! DEFINITION. What a safe run keeps: the canonical form of every map of the state, and what is blown or counted up for the device's life. -/

namespace Sys2Proof.Machine

/-- Registers, shadows, statistics and memory are in their canonical form, so that equal contents are equal data. -/
def State.canonical (s : State) : Bool :=
  regsWf s.regs && regsWf s.shadow && swf (fun _ => 0#32) s.stat && Memory.wf s.mem

/-- The token floor of role `r` (R470). -/
def NvSt.floor (v : NvSt) (r : Nat) : Nat := sget 0 r v.floors

/-- From `v` to `w` nothing that the spec only ever raises is lowered: no bit of OTP goes back to 0 (R449, R466), no token floor and not the time
floor go down (R470, R497), and transaction numbers count on over the device's life (R548). -/
structure NotLowered (v w : NvSt) : Prop where
  otp : ∀ i, v.otpWord i &&& w.otpWord i = v.otpWord i
  floor : ∀ r, v.floor r ≤ w.floor r
  timeFloor : v.timeFloor ≤ w.timeFloor
  txn : v.txn ≤ w.txn

/-- A write of `w` to the register at `a` by initiator `i` at the instant `t` passes every check a write can fail: power and clock (R18), the writer (R27),
engines that belong to a program (R189), live-only fields (R17), a staged COMMIT (R45) and a lit lamp's epoch (R422). -/
abbrev State.accepts (s : State) (t : Nat) (i : Init) (a : Nat) (w : Word) : Prop := writeVerdict i a w (s.at t) = .store

/-- From `s` to `u` no register but those of `regs`, no live statistic but those of `stats`, no shadow, no byte of memory, nothing that survives a
reset and no waiting command changes. -/
structure Only (regs stats : List Nat) (s u : State) : Prop where
  regs : ∀ a, a ∉ regs → u.rd a = s.rd a
  stats : ∀ a, a ∉ stats → u.st a = s.st a
  shadow : ∀ a, u.sh a = s.sh a
  mem : ∀ a, u.ld a = s.ld a
  nv : u.nv = s.nv
  pending : u.pending = s.pending

/-- From `s` to `u` no register, statistic, shadow or byte of memory changes, nothing that survives a reset and no waiting command. -/
abbrev Calm (s u : State) : Prop := Only [] [] s u

end Sys2Proof.Machine
end

