-- ==== Sys2Proof/Certificates/Slice0/Obligations.lean ====
section
/-! DEFINITION. The statements for the provers. A command's name in a docstring is its row of the opcode table; R<n> is the spec's rule. -/

open Sys2Proof Sys2Proof.Machine

/-- A step takes the command at the front of the queue and is that command carried out on the state with the queue's rest; with an empty queue the
block idles, which is the model's choice (log entry 1). -/
def Obligations.StepCarriesOutTheFrontCommand : Prop :=
  ∀ (c : Instr) (l : List Instr) (s : State),
    (s.pending = c :: l → step s = exec c { s with pending := l }) ∧ (s.pending = [] → step s = .next s)

/-- Every command answers a next state, and does not touch the queue, turn time back, leave a map out of its canonical form or lower what the spec
only ever raises. That no command faults or is refused is the model's (log entry 63). -/
def Obligations.EveryCommandCompletes : Prop :=
  ∀ (c : Instr) (s : State), ∃ u, exec c s = .next u ∧ u.pending = s.pending ∧ s.now ≤ u.now ∧ (s.canonical = true → u.canonical = true) ∧
    NotLowered s.nv u.nv ∧ (c ≠ .frameTick → u.tickNum = s.tickNum ∨ u.tickNum = 0)

/-- From every state whose registers, shadows, statistics and memory are in their canonical form, a step leads to one of that kind; it takes one
command off the queue, turns no time back, lets no bit of OTP go back to 0 (R449, R466), no token floor and no time floor fall (R470, R497), and
the transaction number count on (R548). -/
def Obligations.EveryStepKeepsTheInvariant : Prop :=
  ∀ s t : State, s.canonical = true → step s = .next t →
    t.canonical = true ∧ t.pending = s.pending.tail ∧ s.now ≤ t.now ∧ NotLowered s.nv t.nv

/-- The state after reset is in canonical form with nothing waiting; every register reads its reset value, among them those the spec's tables give
to the SEQ order, the probe settings, the merge settings, the DRV page's CTRL and the host grant; memory lists nothing. Values that the spec does
not give are the model's (log entries 4, 7 and 8). -/
def Obligations.ResetStandsWithItsValues : Prop :=
  State.reset.canonical = true ∧ State.reset.pending = [] ∧ State.reset.tickNum = 0 ∧ State.reset.mem = [] ∧
    (∀ a, isReg a = true → State.reset.rd a = word (regReset a)) ∧ State.reset.rd (R.DRV_SEQ_ORDER 0) = 0x30102000#32 ∧ State.reset.rd R.DRV_SEQ_CFG = 0x00040100#32 ∧
    State.reset.rd R.DRV_PROBE_CFG = 0x00001706#32 ∧ State.reset.rd R.DRV_PROBE_STAT = 0x00000040#32 ∧ State.reset.rf R.SEC_HOST_GRANT 2 0 = 7 ∧
    State.reset.rd (R.CTRL P.DRV) = 0#32

/-- R15: an access to a register page that is narrower than 32 bits or misaligned is answered with a bus error, a write of that kind is dropped,
and nothing changes but the answer and, where the page has no clock or power (R18) or takes writes from SAFE alone (R27), the fault that R18 and R27
have it raise with the address recorded; an aligned 32-bit write that passes its checks is carried out with a normal response. -/
def Obligations.RegisterPagesTakeAlignedWords : Prop :=
  ∀ (t : Nat) (i : Init) (a : Nat) (s : State), isReg a = true →
    let powered := (s.at t).answers (pageOf a) = true
    let mine := safeOnlyPage (pageOf a) = false ∧ safeOnlyReg (a / 4 * 4) = false ∨ trusted i s = true
    let told := fun (u : State) => u.bus = ⟨0#32, true⟩ ∧ u.rd R.FLT_BUS_ADDR = word a ∧ Only [R.FLT_BUS_ADDR, R.FLT_BUS_INFO] [] s u
    (∀ size v, ¬(size = 4 ∧ a % 4 = 0) →
      (powered → mine → ∃ u, exec (.registerWrite t i a size v) s = .next u ∧ u.bus = ⟨0#32, true⟩ ∧ Calm s u) ∧
      (powered → ¬mine → ∃ u, exec (.registerWrite t i a size v) s = .next (raise Src.ACCESS_VIOLATION u) ∧ told u) ∧
      (¬powered → ∃ u, exec (.registerWrite t i a size v) s = .next (raise Src.BUS_OFF_ACCESS u) ∧ told u)) ∧
    (∀ l : List Byte, ¬(l.length = 4 ∧ a % 4 = 0) →
      (powered → mine → ∃ u, exec (.busWrite t i a l) s = .next u ∧ u.bus = ⟨0#32, true⟩ ∧ Calm s u) ∧
      (powered → ¬mine → ∃ u, exec (.busWrite t i a l) s = .next (raise Src.ACCESS_VIOLATION u) ∧ told u) ∧
      (¬powered → ∃ u, exec (.busWrite t i a l) s = .next (raise Src.BUS_OFF_ACCESS u) ∧ told u)) ∧
    (∀ n, ¬(n = 4 ∧ a % 4 = 0) →
      (powered → ∃ u, exec (.busRead t i a n) s = .next u ∧ u.bus = ⟨0#32, true⟩ ∧ Calm s u) ∧
      (¬powered → ∃ u, exec (.busRead t i a n) s = .next (raise Src.BUS_OFF_ACCESS u) ∧ told u)) ∧
    (∀ v, a % 4 = 0 → s.accepts t i a v → offOf a ≠ 0x1c → offOf a ≠ 0x20 → hookOf i a = noHook →
      ∃ u, exec (.registerWrite t i a 4 v) s = .next u ∧ u.bus = ⟨0#32, false⟩)

/-- R18: an access to a page whose block has its clock or power off, or is in reset (R522), reads 0 with a bus error, a write is dropped, and either
raises BUS_OFF_ACCESS with the address recorded. -/
def Obligations.AccessWithoutPowerRaisesBusOffAccess : Prop :=
  ∀ (t : Nat) (i : Init) (a : Nat) (s : State), isReg a = true → a % 4 = 0 → (s.at t).answers (pageOf a) = false →
    (∀ v, ∃ u, exec (.registerWrite t i a 4 v) s = .next (raise Src.BUS_OFF_ACCESS u) ∧ u.rd R.FLT_BUS_ADDR = word a ∧
      Only [R.FLT_BUS_ADDR, R.FLT_BUS_INFO] [] s u) ∧
    (∃ u, exec (.busRead t i a 4) s = .next (raise Src.BUS_OFF_ACCESS u) ∧ u.bus = ⟨0#32, true⟩ ∧ u.rd R.FLT_BUS_ADDR = word a ∧
      Only [R.FLT_BUS_ADDR, R.FLT_BUS_INFO] [] s u)

/-- R27: a write to the SEC pages, the FLT pages or the SAFE control page by an initiator other than SAFE, and the boot ROM while it boots, is dropped with a bus
error and raises ACCESS_VIOLATION with initiator and address recorded; a read is answered without an error for every initiator and stores nothing. -/
def Obligations.SafePagesTakeWritesFromSafeOnly : Prop :=
  ∀ (t : Nat) (i : Init) (a : Nat) (s : State), isReg a = true → a % 4 = 0 → (s.at t).answers (pageOf a) = true →
    (0x04 ≤ pageOf a ∧ pageOf a ≤ 0x0b ∨ 0x10 ≤ pageOf a ∧ pageOf a ≤ 0x17 ∨ pageOf a = 0xe1) →
    (trusted i s = false → ∀ v, ∃ u, exec (.registerWrite t i a 4 v) s = .next (raise Src.ACCESS_VIOLATION u) ∧ u.bus = ⟨0#32, true⟩ ∧
      u.rd R.FLT_BUS_ADDR = word a ∧ u.rf R.FLT_BUS_INFO 7 0 = i.code ∧ u.rb R.FLT_BUS_INFO 10 = true ∧
      Only [R.FLT_BUS_ADDR, R.FLT_BUS_INFO] [] s u) ∧
    (trusted i s = true → ∀ v, writeVerdict i a v (s.at t) ≠ .denied) ∧
    (∃ u, exec (.busRead t i a 4) s = .next u ∧ u.bus.err = false ∧ ∀ b, u.ld b = s.ld b)

/-- R45: a write to COMMIT.GROUP of a block that is STAGED is dropped and raises CFG_LIVE_WRITE, and so is a write to SYS_COMMIT_GUARD while any
group is staged. The page is powered, the writer is one it accepts, and no engine that belongs to a program is touched. -/
def Obligations.StagedCommitFieldsDropWrites : Prop :=
  ∀ (t : Nat) (i : Init) (a : Nat) (v : Word) (s : State), isReg a = true → a % 4 = 0 → (s.at t).answers (pageOf a) = true →
    (safeOnlyPage (pageOf a) = true ∨ safeOnlyReg a = true → trusted i s = true) → beamTouched s a v = false →
    (offOf a = 0x28 ∧ s.rb a 9 = true ∨ a = R.SYS_COMMIT_GUARD ∧ s.rd R.SYS_CG_ARMED ≠ 0#32) →
      ∃ u, exec (.registerWrite t i a 4 v) s = .next (raise Src.CFG_LIVE_WRITE u) ∧ Calm s u

/-- R14: what an accepted write does to each bit by its access code: RW (and RWL while not locked) takes the bit written, W1C clears it where 1 is
written, unless an event sets it in the same instant (R21), W1S sets it where 1 is written, every other bit of the live register stays; RWS bits go to the shadow. Nothing else changes but DIRTY of
the page's COMMIT. The register has no effect of its own. Where the spec leaves it to a reading, this is the model's (log entry 14). -/
def Obligations.RegisterWriteFollowsAccessCodes : Prop :=
  ∀ (t : Nat) (i : Init) (a : Nat) (v : Word) (s : State), isReg a = true → a % 4 = 0 → s.accepts t i a v → hookOf i a = noHook →
    legalize a v = v → offOf a ≠ 0x1c → offOf a ≠ 0x20 → offOf a ≠ 0x28 →
    ∃ u, exec (.registerWrite t i a 4 v) s = .next u ∧
      (∀ j < 32,
        let rw := maskOf (fun d => if s.locked (pageOf a) then d.rw else d.rw ||| d.rwl) a
        (u.rd a).getLsbD j =
          if (maskOf RegDef.w1s a).getLsbD j && v.getLsbD j then true
          else if (maskOf RegDef.w1c a).getLsbD j && v.getLsbD j then (s.rd a).getLsbD j && ((s.at t).evtBits a).getLsbD j
          else if rw.getLsbD j then v.getLsbD j
          else (s.rd a).getLsbD j) ∧
      (∀ j < 32, (u.sh a).getLsbD j = if (maskOf RegDef.rws a).getLsbD j then v.getLsbD j else (s.sh a).getLsbD j) ∧
      (maskOf RegDef.rws a ≠ 0#32 → u.rb (R.COMMIT (pageOf a)) 8 = true) ∧
      (∀ b, b ≠ a → b ≠ R.COMMIT (pageOf a) → u.rd b = s.rd b) ∧ (∀ b, b ≠ a → u.sh b = s.sh b) ∧
      (∀ b, u.st b = s.st b) ∧ (∀ b, u.ld b = s.ld b) ∧ u.nv = s.nv ∧ u.pending = s.pending

/-- R60, R535: a write into main SRAM that no protection stops stores its bytes at its addresses and no others; a read there that meets no marked
word answers the bytes, least significant first, and changes nothing; so does SRAM_READ. Where the spec leaves it to a reading, this is the model's
(log entry 12). -/
def Obligations.MainMemoryHoldsWhatIsWritten : Prop :=
  ∀ (t : Nat) (i : Init) (a : Nat) (s : State),
    (∀ l : List Byte, regionOf a = .main → regionOf (a + (l.length - 1)) = .main → firewall s a l.length = none → glmBlocked s a l.length = none →
      s.en P.PHO = false → s.en P.SCHED = false → i.isSafe = true → partialUe s a l.length = none →
      ∃ u, exec (.busWrite t i a l) s = .next u ∧ u.bus = ⟨0#32, false⟩ ∧
        (∀ k (h : k < l.length), u.ld (a + k) = l[k]) ∧ (∀ b, b < a ∨ a + l.length ≤ b → u.ld b = s.ld b) ∧
        (∀ b, u.rd b = s.rd b) ∧ (∀ b, u.st b = s.st b) ∧ (∀ b, u.sh b = s.sh b) ∧ u.nv = s.nv ∧ u.pending = s.pending) ∧
    (∀ n, regionOf a = .main → regionOf (a + (n - 1)) = .main → firstUe s a n = none → s.ce = [] →
      (∃ u, exec (.busRead t i a n) s = .next u ∧ u.bus = ⟨word (ofLE ((s.ldBytes a n).take 4)), false⟩ ∧ Calm s u) ∧
      (∃ u, exec (.sramRead t i a n) s = .next u ∧ u.bus = ⟨word (ofLE ((s.ldBytes a n).take 4)), false⟩ ∧ Calm s u))

/-- R536, R539: a scrub pass over main SRAM without marked words counts in PASSES and shows LATE by the pass's length. Where the spec leaves it to
a reading, this is the model's (log entry 12). -/
def Obligations.ScrubPassCountsAndTells : Prop :=
  ∀ (t : Nat) (s : State), s.rb R.NVM_SCRUB_CFG 0 = true → s.ce = [] → s.ue = [] →
    ∃ u, exec (.scrubPass t) s = .next u ∧ u.rf R.NVM_SCRUB_STAT 31 16 = (s.rf R.NVM_SCRUB_STAT 31 16 + 1) % 65536 ∧
      (u.rb R.NVM_SCRUB_STAT 0 = true ↔ max 60 (s.rf R.NVM_SCRUB_CFG 23 8) * 1000000000 < max s.now t - s.nvm.scrubStart) ∧
      u.nvm.scrubStart = max s.now t ∧ Only [R.NVM_SCRUB_STAT] [] s u

/-- R13, R34: a frame tick of a running device takes TICK_NUM on by one, or to the number that a first alignment has set (R420), unless something
at the tick resets the chip; time does not run back, and the queue and what the device keeps for life are safe. A device that is off or in DEEP_SLEEP has
no ticks. Every other command leaves TICK_NUM alone but for a chip reset. Where the spec leaves it to a reading, this is the model's (log entries 10, 28
and 187). -/
def Obligations.OnlyFrameTicksAdvanceTickNum : Prop :=
  ∀ s : State,
    (isOff s = false → pwrState s ≠ 3 → ∃ u, exec .frameTick s = .next u ∧ (u.tickNum = s.tim.jump.getD (s.tickNum + 1) ∨ u.tickNum = 0) ∧
      max s.now s.nextTick ≤ u.now ∧ u.pending = s.pending ∧ NotLowered s.nv u.nv) ∧
    (isOff s = true ∨ pwrState s = 3 → exec .frameTick s = .next s ∧ exec .commitDeadline s = .next s) ∧
    (∀ c, c ≠ .frameTick → ∃ u, exec c s = .next u ∧ (u.tickNum = s.tickNum ∨ u.tickNum = 0))

/-- R36, R105 to R111: the commit deadline falls G before the next tick and sets DEADLINE of the SYS page. With no flip to evaluate, the layers' deferral
statistics are shown and nothing else changes. The one flip to evaluate that is ready is accepted: its request is pending no longer, its buffer SCANNING
and the layer's next, RESULT ACCEPTED with the count of deferrals 0, its fence consumed unless it is signalled in the same cycle, and the layer leaves the
group it was armed in; the one that is not ready is deferred: RESULT DEFERRED, counted, DEFERRED of its interrupts set and the request kept, and the eighth
deferral in a row sets STALL and raises FLIP_STALL. Nothing else changes but the pattern flags, which are sampled where the pattern block has clocks. Without clocks for the
layers only DEADLINE and the pattern flags remain. Where the spec leaves it to a reading, this is the model's (log entries 135, 136 and 173). -/
def Obligations.CommitDeadlineTells : Prop :=
  ∀ s : State, isOff s = false → pwrState s ≠ 3 →
    let d := s.at (s.nextTick - s.guardNs); let sys := R.IRQ_STAT P.SYS
    let stats := (List.finRange 8).map fun n : Fin 8 => R.STAT (P.LYR n) 0
    let sampled := fun (u : State) => u.pat = (if s.pageOn P.PAT then { s.pat with flags := some (s.rd R.PAT_FLAGS) } else s.pat)
    let tells := fun (u : State) => u.rb sys 1 = true ∧ u.now = max s.now (s.nextTick - s.guardNs) ∧ sampled u
    let quiet := ∀ n : Fin 8, (s.cmp.lyr[n]).after = none
    (∃ u, exec .commitDeadline s = .next u ∧ u.rb sys 1 = true ∧ max s.now (s.nextTick - s.guardNs) ≤ u.now) ∧
    (s.pageOn P.CMP = false → ∃ u, exec .commitDeadline s = .next u ∧ tells u ∧ u.cmp = s.cmp ∧ Only [sys] [] s u) ∧
    (s.pageOn P.CMP = true → quiet → evaluated d = [] → ∃ u, exec .commitDeadline s = .next u ∧ tells u ∧ u.cmp = s.cmp ∧
      (∀ n : Fin 8, u.st (R.STAT (P.LYR n) 0) = putBits (s.st (R.STAT (P.LYR n) 0)) 15 8 (s.rf (R.LYR_FLIP_STAT n) 27 20)) ∧ Only [sys] stats s u) ∧
    (∀ (n : Fin 8) (r : FlipReq), let a := R.LYR_FLIP_STAT n
      s.pageOn P.CMP = true → quiet → r.buf < 256 → r.fence < 64 →
      (evaluated d = [(n, r, true)] →
        ∃ u, exec .commitDeadline s = .next u ∧ tells u ∧ (u.cmp.lyr[n]).pend = none ∧
          (u.cmp.lyr[n]).acc = some (if r.release then none else some r.buf) ∧ (r.release = false → (u.buf r.buf).state = .scanning) ∧
          (∀ m, m ≠ n → u.cmp.lyr[m] = s.cmp.lyr[m]) ∧ (∀ e, e ≠ r.buf → u.buf e = s.buf e) ∧
          (∀ g : Fin 8, u.cmp.arms[g] = (s.cmp.arms[g]).filter (· != n.val)) ∧
          u.rf a 31 28 = 1 ∧ u.rb a 16 = false ∧ u.rf a 15 8 = 0 ∧ u.rf a 27 20 = 0 ∧
          (∀ b < 64, fenceSet u b = (fenceSet s b && !(r.fenceEn && b == r.fence && !(d.evtBits (fenceReg b).1).getLsbD (b % 32)))) ∧
          Only [sys, a, R.BUF_STATES (r.buf / 8), R.FENCE_STATE_LO, R.FENCE_STATE_HI, R.CMP_FLIPGRP_STAT] (R.STAT P.CMP 0 :: stats) s u) ∧
      (evaluated d = [(n, r, false)] →
        (s.rf a 27 20 ≠ 7 →
          ∃ u, exec .commitDeadline s = .next u ∧ tells u ∧ u.cmp = s.cmp ∧ u.rf a 31 28 = 2 ∧ u.rf a 27 20 = min 255 (s.rf a 27 20 + 1) ∧
            u.rb (R.IRQ_STAT (P.LYR n)) 1 = true ∧ Only [sys, a, R.IRQ_STAT (P.LYR n)] (R.STAT P.CMP 0 :: stats) s u) ∧
        (s.rf a 27 20 = 7 →
          ∃ u, exec .commitDeadline s = .next ((patSample ((raise (Src.FLIP_STALL n) u).over (List.finRange 8) fun x m =>
              x.stSet (R.STAT (P.LYR m) 0) 15 8 (x.rf (R.LYR_FLIP_STAT m) 27 20))).irq P.SYS 1) ∧
            u.now = d.now ∧ u.cmp = s.cmp ∧ u.rf a 31 28 = 2 ∧ u.rf a 27 20 = 8 ∧ u.rb (R.IRQ_STAT (P.LYR n)) 1 = true ∧
            u.rb (R.IRQ_STAT (P.LYR n)) 2 = true ∧ Only [sys, a, R.IRQ_STAT (P.LYR n)] (R.STAT P.CMP 0 :: stats) s u)))

/-- R39, R44: ARM stages the dirty blocks of an idle group, each of them STAGED and no longer DIRTY; ARM of a staged group is refused and stages
nothing; CANCEL before the limit ends a staged group with CANCELLED, its members no longer STAGED and
DIRTY again; CANCEL of a group that is not staged does nothing. Where the spec leaves it to a reading, this is the
model's (log entries 11 and 46). -/
def Obligations.ArmStagesAndCancelEnds : Prop :=
  ∀ (t : Nat) (i : Init) (g : Fin 16) (w : Word) (s : State),
    (s.accepts t i (R.SYS_CG_CTRL g) (putBit w 0 true) → bitOf w 1 = false → (s.sys.groups[g]).staged = false →
      ∃ u, exec (.arm t i g w) s = .next u ∧ (u.sys.groups[g]).staged = true ∧ (u.sys.groups[g]).passed = false ∧
        (u.sys.groups[g]).members = dirtyPages g s ∧
        (u.sys.groups[g]).copy = skeep (fun a => (dirtyPages g s).contains (pageOf a)) s.shadow ∧
        (∀ p ∈ dirtyPages g s, u.rb (R.COMMIT p) 9 = true ∧ u.rb (R.COMMIT p) 8 = false) ∧
        u.rb (R.SYS_CG_STAT g) 4 = true ∧ u.rb (R.SYS_CG_STAT g) 6 = false ∧ u.rb R.SYS_CG_ARMED g = true ∧
        Only ((dirtyPages g s).map R.COMMIT ++ [R.SYS_CG_CTRL g, R.SYS_CG_STAT g, R.SYS_CG_ARMED]) [] s u) ∧
    (s.accepts t i (R.SYS_CG_CTRL g) (putBit w 0 true) → bitOf w 1 = false → (s.sys.groups[g]).staged = true →
      ∃ u, exec (.arm t i g w) s = .next u ∧ u.rb (R.SYS_CG_STAT g) 6 = true ∧ u.sys = s.sys ∧
        Only [R.SYS_CG_CTRL g, R.SYS_CG_STAT g] [] s u) ∧
    (s.accepts t i (R.SYS_CG_CTRL g) (putBit w 1 true) → bitOf w 0 = false → (s.sys.groups[g]).staged = true →
      ((s.sys.groups[g]).dueNext s = false ∨ max s.now t + s.guardNs ≤ s.nextTick) →
      ∃ u, exec (.cancel t i g w) s = .next u ∧ (u.sys.groups[g]).staged = false ∧ u.rf (R.SYS_CG_STAT g) 3 0 = 7 ∧
        u.rf (R.SYS_CG_STAT g) 15 8 = 0 ∧ u.rb R.SYS_CG_ARMED g = false ∧ u.rb (R.IRQ_STAT P.SYS) 2 = true ∧
        (∀ p ∈ (s.sys.groups[g]).members, u.rb (R.COMMIT p) 9 = false ∧ u.rb (R.COMMIT p) 8 = true) ∧
        Only ((s.sys.groups[g]).members.map R.COMMIT ++ (s.sys.groups[g]).members.map R.COMMIT_STAT ++
          [R.SYS_CG_CTRL g, R.SYS_CG_STAT g, R.SYS_CG_ARMED, R.IRQ_STAT P.SYS]) [] s u) ∧
    (s.accepts t i (R.SYS_CG_CTRL g) (putBit w 1 true) → bitOf w 0 = false → (s.sys.groups[g]).staged = false →
      ∃ u, exec (.cancel t i g w) s = .next u ∧ u.sys = s.sys ∧ Only [R.SYS_CG_CTRL g] [] s u)

/-- R40: a staged group that every member's own check and SAFE's pass is kept, its validation passed, and nothing else changes; one whose member fails
its own check ends with the reason of the lowest such page, and one that SAFE alone rejects ends REJECTED: the lowest rejecting page is shown, every
member drops its staged copy and is no longer STAGED, and no register outside its commit registers changes. A group that is not staged, or has been
validated, stays as it is. Where the spec leaves it to a reading, this is the model's (log entries 46 and 122). -/
def Obligations.ValidationKeepsOrDiscardsTheGroup : Prop :=
  ∀ (t : Nat) (g : Fin 16) (rejects : List (Fin 256)) (s : State),
    let gr := s.sys.groups[g]; let n := applyCopy gr (s.at t)
    let own := memberCheck gr n (s.at t)
    let bad := fun p => (rejects.map fun x => x.val).contains p || safeRejects p n (s.at t)
    let ends := fun (r low : Nat) (u : State) => (u.sys.groups[g]).staged = false ∧ u.rf (R.SYS_CG_STAT g) 3 0 = r % 16 ∧
      u.rf (R.SYS_CG_STAT g) 15 8 = low % 256 ∧ u.rb (R.SYS_CG_STAT g) 4 = false ∧ u.rb R.SYS_CG_ARMED g = false ∧ u.rb (R.IRQ_STAT P.SYS) 2 = true ∧
      (∀ p ∈ gr.members, u.rb (R.COMMIT p) 9 = false) ∧ (∀ a, u.ld a = s.ld a) ∧
      ∀ a, a ∉ gr.members.map R.COMMIT ++ gr.members.map R.COMMIT_STAT ++ [R.SYS_CG_STAT g, R.SYS_CG_ARMED, R.IRQ_STAT P.SYS] → u.rd a = s.rd a
    (gr.staged = true → gr.passed = false → gr.members.any (fun p => own p != 0) = false → gr.members.any bad = false →
      ∃ u, exec (.commitValidate t g rejects) s = .next u ∧ (u.sys.groups[g]).passed = true ∧ (u.sys.groups[g]).staged = true ∧
        (u.sys.groups[g]).copy = gr.copy ∧ (u.sys.groups[g]).members = gr.members ∧ Calm s u) ∧
    (gr.staged = true → gr.passed = false → gr.members.any (fun p => own p != 0) = false → gr.members.any bad = true →
      ∃ u, exec (.commitValidate t g rejects) s = .next u ∧ ends 3 (lowest bad gr.members) u) ∧
    (gr.staged = true → gr.passed = false → gr.members.any (fun p => own p != 0) = true →
      ∃ u, exec (.commitValidate t g rejects) s = .next u ∧
        ends (own (lowest (fun p => own p != 0) gr.members)) (lowest (fun p => own p != 0) gr.members) u) ∧
    (gr.staged = false ∨ gr.passed = true → ∃ u, exec (.commitValidate t g rejects) s = .next u ∧ u.sys = s.sys ∧ Calm s u)

/-- R19: a block reset of a page that is not staged returns the page's registers to their reset values but for what a reset keeps (SEQ_DONE, RWL
fields, LOCK), whose bits stay; the page of a block that is not powered, or is held, is left as it is. Pages that load from OTP (SEC), links and receivers, whose loss is an event of the collector, are said elsewhere; nothing
that the loss of the block brings about is left to be raised.
Where the spec leaves it to a reading, this is the model's (log entries 13 and 104). -/
def Obligations.BlockResetReturnsRegisters : Prop :=
  ∀ (t : Nat) (p : Fin 256) (s : State),
    ((pageDef p).isSome = true → isOff s = false → s.pageOn p = true →
    ¬(0x10 ≤ p.val ∧ p.val ≤ 0x17) → ¬(0x81 ≤ p.val ∧ p.val ≤ 0x8c) → ¬(0x40 ≤ p.val ∧ p.val ≤ 0x41) → (resetBlock p (s.at t)).flt.due = [] →
    ∃ u, exec (.blockReset t p) s = .next u ∧
      (∀ a, isReg a = true → pageOf a = p → resetKeep a = 0#32 → u.rd a = regDefault a ∧ u.sh a = regDefault a) ∧
      (s.rb (R.COMMIT p) 9 = false → (lockReg p).isSome = true → ∀ a, isReg a = true → pageOf a = p →
        u.rd a &&& maskOf (fun d => d.rwl ||| d.w1s) a = s.rd a &&& maskOf (fun d => d.rwl ||| d.w1s) a) ∧
      (∀ a, pageOf a = p → u.st a = 0#32) ∧ u.pending = s.pending) ∧
    ((pageDef p).isNone = true ∨ isOff s = true ∨ s.pageOn p = false → s.flt.due = [] → exec (.blockReset t p) s = .next (s.at t))

/-- R538, R562: a chip reset writes its cause, source and the last tick's number into the reset record, makes every byte of main SRAM zero and
keeps the other memories, starts TICK_NUM and every register outside SYS, THM and SEC at its reset value, but for those that load from OTP's CONFIG (R453),
and loses nothing of OTP. Where the spec leaves it to a reading, this is the model's (log entries 7, 8 and 184). -/
def Obligations.ChipResetRecordsAndClears : Prop :=
  ∀ (t : Nat) (cause : Fin 16) (src : Fin 512) (s : State), isOff s = false →
    let loaded := [R.NET_MAC_LO, R.NET_MAC_HI, R.PORT_LAT 0, R.PORT_LAT 1, R.PORT_LAT 2] ++ (List.range 4).map R.PWR_VCODE
    ∃ u, exec (.chipReset t cause src) s = .next u ∧ u.rd R.SYS_RST_CAUSE = word (src.val * 65536 + cause.val) ∧
      u.rd R.SYS_RST_TICK = word (s.tickNum % 2 ^ 32) ∧ u.tickNum = 0 ∧ u.now = max s.now t ∧
      (∀ a, 0x10000000 ≤ a → a ≤ 0x12ffffff → u.ld a = 0#8) ∧ (∀ a, a < 0x10000000 ∨ 0x12ffffff < a → u.ld a = s.ld a) ∧
      (∀ a, pageOf a ≠ P.SYS → pageOf a ≠ P.THM → ¬(0x10 ≤ pageOf a ∧ pageOf a ≤ 0x17) → a ∉ loaded → u.rd a = regDefault a) ∧
      (∀ a, u.sh a = regDefault a) ∧ (∀ a, u.st a = 0#32) ∧ u.nv.otp = s.nv.otp ∧ u.nv.floors = s.nv.floors ∧ u.pending = s.pending

/-- R14: a 1 written to a block's LOCK sets it and freezes the RWL fields of its pages; nothing else changes. Where the spec leaves it to a
reading, this is the model's (log entry 14). -/
def Obligations.LockSetFreezesTheBlock : Prop :=
  ∀ (t : Nat) (i : Init) (page : Fin 256) (a : Nat) (s : State), lockReg page = some a → s.accepts t i a 1#32 →
    ∃ u, exec (.lockSet t i page) s = .next u ∧ u.locked page = true ∧ Only [a] [] s u ∧
      ∀ b w live ev j, pageOf b = page → j < 32 → (maskOf RegDef.rw b).getLsbD j = false → (maskOf RegDef.w1c b).getLsbD j = false →
        (maskOf RegDef.w1s b).getLsbD j = false → (storeLive b w live ev (u.locked page)).getLsbD j = live.getLsbD j

/-- R504, R508, R510: a REAL event that falls in no reset window and calls for level 2 at most latches REAL and its level, is counted, logged with
its source, and sets its class's interrupt from level 1 up. Nothing but the collector's registers changes. R519: a REAL event that falls in an open
reset window sets CONSQ and is logged, and nothing else happens: it is not counted, not escalated and not reacted to. R366: the line of a domain that
is off or held raises nothing; R504: a second raising in the same cycle is the same event, and changes nothing. Where the spec leaves it to a
reading, this is the model's (log entries 105, 106 and 205). -/
def Obligations.EventsAreRealOrConsequential : Prop :=
  (
    ∀ (t : Nat) (n : Fin 352) (s : State), s.flt.due = [] → lineOpen n (s.at t) = true → realNow n (s.at t) = false → isConseq n (s.at t) = false →
      (realEvent n (s.at t)).1 ≤ 2 →
      let c := countEvent n (unack n (s.at t))
      let lvl := (realEvent n (s.at t)).1
      ∃ u, exec (.faultEvent t n) s = .next u ∧ u.rb (R.FLT_SRC_STAT n) 1 = true ∧ u.rf (R.FLT_SRC_STAT n) 10 8 = lvl ∧
        (classPending (srcClass n c) c = false → lvl = realLevel n c) ∧
        u.rf (R.FLT_SRC_WIN n) 23 16 = c.rf (R.FLT_SRC_WIN n) 23 16 ∧ 1 ≤ u.rf (R.FLT_SRC_WIN n) 23 16 ∧
        (1 ≤ lvl → u.rb (R.IRQ_STAT P.FLT0) (srcClass n s) = true) ∧
        u.rf R.FLT_LAST 8 0 = n ∧ u.rf R.FLT_LAST 11 9 = lvl ∧ u.rf R.FLT_LOG_WR 7 0 = (s.rf R.FLT_LOG_WR 7 0 + 1) % 256 ∧
        Only [R.FLT_SRC_STAT n, R.FLT_SRC_WIN n, R.IRQ_STAT P.FLT0, R.FLT_LAST, R.FLT_LOG_A (s.rf R.FLT_LOG_WR 7 0), R.FLT_LOG_B (s.rf R.FLT_LOG_WR 7 0),
          R.FLT_LOG_WR, R.FLT_LOG_RD, R.FLT_CLASS_PEND] [R.STAT P.FLT0 0] s u) ∧
  (
    ∀ (t : Nat) (n : Fin 352) (s : State), s.flt.due = [] → lineOpen n (s.at t) = true → realNow n (s.at t) = false → isConseq n (s.at t) = true →
      ∃ u, exec (.faultEvent t n) s = .next u ∧ u.rb (R.FLT_SRC_STAT n) 4 = true ∧ u.rb (R.FLT_SRC_STAT n) 1 = s.rb (R.FLT_SRC_STAT n) 1 ∧
        u.rf (R.FLT_SRC_STAT n) 10 8 = s.rf (R.FLT_SRC_STAT n) 10 8 ∧ u.rd (R.FLT_SRC_WIN n) = s.rd (R.FLT_SRC_WIN n) ∧ u.flt = s.flt ∧ u.sys = s.sys ∧
        u.rf R.FLT_LAST 8 0 = n ∧ (∀ b < 16, u.rb (R.IRQ_STAT P.FLT0) b = s.rb (R.IRQ_STAT P.FLT0) b) ∧
        Only [R.FLT_SRC_STAT n, R.IRQ_STAT P.FLT0, R.FLT_LAST, R.FLT_LOG_A (s.rf R.FLT_LOG_WR 7 0), R.FLT_LOG_B (s.rf R.FLT_LOG_WR 7 0),
          R.FLT_LOG_WR, R.FLT_LOG_RD] [R.STAT P.FLT0 0] s u) ∧
  (
    ∀ (t : Nat) (n : Fin 352) (s : State), s.flt.due = [] → lineOpen n (s.at t) = false ∨ realNow n (s.at t) = true →
      exec (.faultEvent t n) s = .next (s.at t))

/-- R507: a force written in SERVICE or FACTORY injects FORCED events of the sources its bits name, in ascending source number, or of the source
that FLT_FORCE_SRC names; in any other mode it is dropped and sets REFUSED. -/
def Obligations.ForcesActInServiceAndFactoryOnly : Prop :=
  ∀ (t : Nat) (i : Init) (page : Fin 256) (w : Word) (s : State),
    let named := ((List.range 32).filter fun j => bitOf w j && decide (j < (pageSrcsAsc page).length)).map fun j => (pageSrcsAsc page).getD j 0
    (s.accepts t i (R.FORCE page) w → s.rf R.SYS_MODE 3 0 = 6 ∨ s.rf R.SYS_MODE 3 0 = 0 → named ≠ [] →
      ∃ u, exec (.force t i page w) s = .next (raiseAll (named.map fun n => ⟨n, false, true⟩) u) ∧ Only [R.FORCE page] [] s u) ∧
    (s.accepts t i (R.FORCE page) w → s.rf R.SYS_MODE 3 0 ≠ 6 → s.rf R.SYS_MODE 3 0 ≠ 0 → named ≠ [] →
      ∃ u, exec (.force t i page w) s = .next u ∧ u.rb R.FLT_FORCE_STAT 0 = true ∧ Only [R.FORCE page, R.FLT_FORCE_STAT] [] s u) ∧
    (s.accepts t i R.FLT_FORCE_SRC (putBit w 31 true) → s.rf R.SYS_MODE 3 0 = 6 ∨ s.rf R.SYS_MODE 3 0 = 0 →
      ∃ u, exec (.fltForceSrc t i w) s = .next (raiseAll [⟨bitsOf w 8 0, false, true⟩] u) ∧ Only [R.FLT_FORCE_SRC] [] s u) ∧
    (s.accepts t i R.FLT_FORCE_SRC (putBit w 31 true) → s.rf R.SYS_MODE 3 0 ≠ 6 → s.rf R.SYS_MODE 3 0 ≠ 0 →
      ∃ u, exec (.fltForceSrc t i w) s = .next u ∧ u.rb R.FLT_FORCE_STAT 0 = true ∧ Only [R.FLT_FORCE_SRC, R.FLT_FORCE_STAT] [] s u)

/-- R517: RELEASE makes ERR_N high where no source holds a REAL level of 4 or 5 and none a FORCED level of 4 or 5, and is ignored at any other
time; R519: windows that have timed out end and set CONSQ_TMO; R620: a write of FLT_LOG_RD counts what lies before it as read; R515: a W1C clears
the bits written, but for those that an event of the same cycle sets (R21). Where the spec leaves it to a reading, this is the model's (log entries 15 and 111). -/
def Obligations.CollectorCommandsActAsWritten : Prop :=
  ∀ (t : Nat) (i : Init) (n : Fin 352) (w : Word) (s : State),
    (s.accepts t i R.FLT_ERR (putBit w 1 true) → holdsErr s = false →
      ∃ u, exec (.errRelease t i w) s = .next u ∧ u.rb R.FLT_ERR 0 = false ∧ u.sys.errLow = decide (s.rf R.SYS_START_STAT 4 0 < 2) ∧ Only [R.FLT_ERR] [] s u) ∧
    (s.accepts t i R.FLT_ERR (putBit w 1 true) → holdsErr s = true →
      ∃ u, exec (.errRelease t i w) s = .next u ∧ u.rb R.FLT_ERR 0 = s.rb R.FLT_ERR 0 ∧ u.sys = s.sys ∧ Only [R.FLT_ERR] [] s u) ∧
    ((∃ x ∈ s.flt.wins, x.ends ≤ max s.now t) →
      ∃ u, exec (.consqTmo t) s = .next u ∧ u.flt.wins = s.flt.wins.filter (fun x => decide (max s.now t < x.ends)) ∧ u.rb (R.IRQ_STAT P.FLT0) 17 = true ∧
        Only [R.IRQ_STAT P.FLT0] [] s u) ∧
    (s.accepts t i R.FLT_LOG_RD w →
      ∃ u, exec (.fltLogRdWrite t i w) s = .next u ∧ u.rf R.FLT_LOG_RD 7 0 = bitsOf w 7 0 ∧
        u.rf R.FLT_LOG_WR 16 8 = (s.rf R.FLT_LOG_WR 7 0 + 256 - bitsOf w 7 0) % 256 ∧ u.rf R.FLT_LOG_WR 7 0 = s.rf R.FLT_LOG_WR 7 0 ∧
        Only [R.FLT_LOG_RD, R.FLT_LOG_WR] [] s u) ∧
    (s.accepts t i (R.FLT_SRC_STAT n) w →
      ∃ u, exec (.fltStatClear t i n w) s = .next u ∧
        u.rd (R.FLT_SRC_STAT n) = s.rd (R.FLT_SRC_STAT n) &&& ~~~(w &&& maskOf RegDef.w1c (R.FLT_SRC_STAT n) &&& ~~~(s.at t).evtBits (R.FLT_SRC_STAT n)) ∧
        (∀ c < 15, u.rb R.FLT_CLASS_PEND c = classPending c u) ∧ Only [R.FLT_SRC_STAT n, R.FLT_CLASS_PEND] [] s u)

/-- R525, R527, R528, R532: a stored configuration that no longer matches its check value raises FLT_CFG_CRC, a matching one nothing; an error of a
local memory raises its own source; a write to RUN of a context that is not active sets its register, with RESULT showing the finished value; a
snooped packet is fed to every unit that snoops its stream, and a packet that none snoops changes nothing. Where the spec leaves it to a reading,
this is the model's (log entry 15). -/
def Obligations.CheckValuesFollowTheirData : Prop :=
  ∀ (t : Nat) (s : State),
    (s.flt.crcSet = true → s.pageOn P.FLT0 = true → s.rd R.FLT_CFG_CRC_REF ≠ word (cfgCrc s) →
      ∃ u, exec (.fltCfgCrc t) s = .next (raise Src.FLT_CFG_CRC u) ∧ Calm s u) ∧
    (s.rd R.FLT_CFG_CRC_REF = word (cfgCrc s) → ∃ u, exec (.fltCfgCrc t) s = .next u ∧ u.flt = s.flt ∧ Calm s u) ∧
    (∀ k : LocalEcc, s.pageOn (eccSrc k).2 = true → ∃ u, exec (.localMemoryEccError t k) s = .next (raise (eccSrc k).1 u) ∧ Calm s u) ∧
    (∀ (i : Init) (x : Fin 8) (c : Fin 32) (w : Word), s.accepts t i (R.CRC_CTX_RUN x c) w → crcActive x c (s.wr (R.CRC_CTX_RUN x c) w) = false →
      ∃ u, exec (.crcCtxRunWrite t i x c w) s = .next u ∧ u.rd (R.CRC_CTX_RUN x c) = w ∧
        u.rd (R.CRC_CTX_RESULT x c) = word (crcDone (ctxKind x c s) (w.toNat % 2 ^ (ctxKind x c s).width)) ∧
        Only [R.CRC_CTX_RUN x c, R.CRC_CTX_RESULT x c] [] s u) ∧
    (∀ (src : Fin 8) (inst : Fin 4) (l : List Byte), (∀ x < 8, s.en (P.CRC x) = false ∨ s.rf (R.CRC_SNOOP x) 2 0 ≠ src) →
      ∃ u, exec (.crcSnoopPacket t src inst l) s = .next u ∧ Calm s u) ∧
    (∀ (src : Fin 8) (inst : Fin 4) (l : List Byte) (x : Fin 8), src.val ≠ 0 → src.val ≠ 7 →
      s.en (P.CRC x) = true → s.rf (R.CRC_SNOOP x) 2 0 = src → s.rf (R.CRC_SNOOP x) 5 4 = inst → s.rb (R.CRC_SNOOP x) 16 = false →
      (∀ y : Fin 8, y ≠ x → s.en (P.CRC y) = false) →
      let c := s.rf (R.CRC_SNOOP x) 12 8
      ∃ u, exec (.crcSnoopPacket t src inst l) s = .next u ∧ u = crcFeed x c (nums l) (s.at t) ∧
        u.rf (R.CRC_CTX_CFG x c) 1 0 = s.rf (R.CRC_CTX_CFG x c) 1 0 ∧ ∀ b, u.ld b = s.ld b)

/-- R54 to R59: POST adds COUNT descriptors after TAIL, and a count that would raise INFLIGHT above 64 is dropped with DMV_ERR; RESUME restarts a
halted channel; ABORT gives the active descriptor the record ABORTED with the bytes issued and verified, and returns the channel's page to its reset values;
a channel that is off, halted or has nothing posted executes nothing; a FILL descriptor whose every byte may be written stores its pattern, writes its record
with OK, and moves HEAD on. BUSY of a halted or disabled channel, the order of the bytes of the pattern (word 3), and how far an abort clears the page
are the model's (log entries 172, 132 and 133). -/
def Obligations.MoverPostsFillsAndHalts : Prop :=
  ∀ (t : Nat) (i : Init) (c : Fin 4) (w : Word) (s : State),
    let r := R.DMV_RING_STATE c; let st := R.STATUS (P.DMVC c); let n := s.rf r 22 16
    let da := descAddr c s; let d := readDesc s da
    let fills := d.op = 1 ∧ d.crcEn = false ∧ d.len ≠ 0 ∧ d.recAddr ≠ 0 ∧ d.recAddr % 16 = 0 ∧
      (∀ k < d.len, writeStop (.dmv c) (d.dstAt k) 1 (linePart d k s) s = none) ∧ writeStop (.dmv c) d.recAddr 16 none s = none ∧
      (d.recAddr + 16 ≤ d.dst ∨ d.dst + d.len ≤ d.recAddr)
    let filled := fun (m : Nat) (u : State) => (∀ k < m, u.ldN (d.dst + k) = d.dst / 256 ^ (k % 4) % 256) ∧
      ∀ a, (a < d.dst ∨ d.dst + d.len ≤ a) → (a < d.recAddr ∨ d.recAddr + 16 ≤ a) → u.ld a = s.ld a
    let cleared := fun (u : State) => u.dmvLast[c] = none ∧
      (∀ a, isReg a = true → pageOf a = P.DMVC c → resetKeep a = 0#32 → u.rd a = regDefault a ∧ u.sh a = regDefault a) ∧
      (∀ a, pageOf a ≠ P.DMVC c → u.rd a = s.rd a ∧ u.sh a = s.sh a ∧ u.st a = s.st a) ∧ u.nv = s.nv ∧ u.pending = s.pending
    (s.accepts t i (R.DMV_POST c) w → n + bitsOf w 6 0 ≤ 64 →
      ∃ u, exec (.dmvPost t i c w) s = .next u ∧ u.rf r 22 16 = n + bitsOf w 6 0 ∧ u.rf r 13 8 = (s.rf r 13 8 + bitsOf w 6 0) % 64 ∧
        u.rf r 5 0 = s.rf r 5 0 ∧ (n + bitsOf w 6 0 ≠ 0 → u.rb st 0 = true) ∧ Only [R.DMV_POST c, r, st] [] s u) ∧
    (s.accepts t i (R.DMV_POST c) w → 64 < n + bitsOf w 6 0 →
      ∃ u, exec (.dmvPost t i c w) s = .next (raise Src.DMV_ERR u) ∧ Only [R.DMV_POST c] [] s u) ∧
    (s.accepts t i (R.CTRL (P.DMVC c)) (putBit w 1 true) →
      ∃ u, exec (.dmvResume t i c w) s = .next u ∧ u.rb st 1 = false ∧ u.rb st 0 = decide (n ≠ 0) ∧ u.rd r = s.rd r ∧
        Only [R.CTRL (P.DMVC c), st] [] s u) ∧
    (s.accepts t i (R.DMV_ABORT c) 1#32 → s.flt.due = [] → ∀ moved verified,
      (dmvActive c s = false → ∃ u, exec (.dmvAbort t i c moved verified) s = .next u ∧ cleared u ∧ ∀ a, u.ld a = s.ld a) ∧
      (dmvActive c s = true → descPlaced da = true → s.anyUe da 32 = false → seqBad c d s = false → fills →
        ∃ u, exec (.dmvAbort t i c moved verified) s = .next u ∧ cleared u ∧ filled (min verified (min moved d.len)) u ∧
          u.ldLE d.recAddr 4 = d.seq + 4 * 65536 ∧ u.ldLE (d.recAddr + 4) 4 = min moved d.len ∧
          u.ldLE (d.recAddr + 8) 4 = min verified (min moved d.len))) ∧
    (s.en (P.DMVC c) = false ∨ s.rb st 1 = true ∨ n = 0 →
      ∃ u, exec (.dmvDescriptorComplete t c) s = .next u ∧ u.dmvLast = s.dmvLast ∧ Calm s u) ∧
    (dmvActive c s = true → s.flt.due = [] → descPlaced da = true → readStop (.dmv c) da 32 s = none → ceWords s da 32 = [] → seqBad c d s = false →
      fills → d.fenceSig = false →
      ∃ u, exec (.dmvDescriptorComplete t c) s = .next u ∧ filled d.len u ∧
        u.ldLE d.recAddr 4 = d.seq ∧ u.ldLE (d.recAddr + 4) 4 = d.len ∧ u.ldLE (d.recAddr + 8) 4 = d.len ∧
        u.rf r 22 16 = n - 1 ∧ u.rf r 5 0 = (s.rf r 5 0 + 1) % 64 ∧ u.rb st 0 = decide (n ≠ 1) ∧ u.rd (R.SEQ_DONE (P.DMVC c)) = word (65536 + d.seq) ∧
        (d.irq = true → u.rb (R.IRQ_STAT (P.DMVC c)) 0 = true) ∧
        ∀ a, a ∉ [r, st, R.SEQ_DONE (P.DMVC c), R.IRQ_STAT (P.DMVC c)] → u.rd a = s.rd a)

/-- R105, R107, R110: an accepted REQ makes the request pending, its entry QUEUED and RESULT PENDING, or is refused with its reason and changes no
entry; a release is pending with no entry; a CANCEL of a pending request ends it CANCELLED, and has no effect without one or at the instant of the
deadline that accepts it; a write of both acts as the CANCEL and then the request; an arm of a flip group records its members that have a request. -/
def Obligations.FlipRequestsQueueOrAreRefused : Prop :=
  ∀ (t : Nat) (i : Init) (n : Fin 8) (w : Word) (s : State),
    let r : FlipReq := ⟨bitsOf w 7 0, bitsOf w 13 8, bitOf w 14, bitOf w 15, max s.now t⟩
    (s.accepts t i (R.LYR_FLIP n) (putBit w 31 true) → (bitOf w 30 = false ∨ (s.cmp.lyr[n]).pend = none) → flipRefusal n r s = 0 → r.release = false →
      ∃ u, exec (.lyrFlipRequest t i n w) s = .next u ∧ (u.cmp.lyr[n]).pend = some r ∧ (u.buf r.buf).state = .queued ∧
        u.rf (R.LYR_FLIP_STAT n) 31 28 = 7 ∧ u.rb (R.LYR_FLIP_STAT n) 16 = true ∧ u.rf (R.LYR_FLIP_STAT n) 15 8 = r.buf ∧
        (∀ e, e ≠ r.buf → u.buf e = s.buf e) ∧ Only [R.LYR_FLIP n, R.LYR_FLIP_STAT n, R.BUF_STATES (r.buf / 8)] [] s u) ∧
    (s.accepts t i (R.LYR_FLIP n) (putBit w 31 true) → (bitOf w 30 = false ∨ (s.cmp.lyr[n]).pend = none) → (s.cmp.lyr[n]).pend = none → r.release = true →
      ∃ u, exec (.lyrFlipRequest t i n w) s = .next u ∧ (u.cmp.lyr[n]).pend = some r ∧ u.cmp.bufs = s.cmp.bufs ∧
        u.rf (R.LYR_FLIP_STAT n) 31 28 = 7 ∧ u.rb (R.LYR_FLIP_STAT n) 16 = true ∧ Only [R.LYR_FLIP n, R.LYR_FLIP_STAT n] [] s u) ∧
    (s.accepts t i (R.LYR_FLIP n) (putBit w 31 true) → (bitOf w 30 = false ∨ (s.cmp.lyr[n]).pend = none) → flipRefusal n r s ≠ 0 →
      ∃ u, exec (.lyrFlipRequest t i n w) s = .next u ∧ u.rf (R.LYR_FLIP_STAT n) 31 28 = flipRefusal n r s ∧ u.cmp = s.cmp ∧
        u.rb (R.IRQ_STAT (P.LYR n)) 3 = true ∧ Only [R.LYR_FLIP n, R.LYR_FLIP_STAT n, R.IRQ_STAT (P.LYR n)] [] s u) ∧
    (∀ q : FlipReq, s.accepts t i (R.LYR_FLIP n) (putBit w 30 true) → bitOf w 31 = false → (s.cmp.lyr[n]).pend = some q → q.release = false → q.buf < 256 →
      max s.now t + s.guardNs ≠ s.nextTick →
      ∃ u, exec (.lyrFlipCancel t i n w) s = .next u ∧ (u.cmp.lyr[n]).pend = none ∧ (u.buf q.buf).state = .swOwned ∧
        u.rf (R.LYR_FLIP_STAT n) 31 28 = 5 ∧ u.rb (R.LYR_FLIP_STAT n) 16 = false ∧
        Only [R.LYR_FLIP n, R.LYR_FLIP_STAT n, R.BUF_STATES (q.buf / 8), R.CMP_FLIPGRP_STAT] [] s u) ∧
    (∀ q : FlipReq, s.accepts t i (R.LYR_FLIP n) (putBit w 31 true) → bitOf w 30 = true → (s.cmp.lyr[n]).pend = some q → q.release = false → q.buf < 256 →
      max s.now t + s.guardNs ≠ s.nextTick → r.release = false → (r.buf = q.buf ∨ (s.buf r.buf).state = .swOwned) →
      (isRaw (s.buf r.buf).fmt = false ∨ specialMode s = true) →
      ∃ u, exec (.lyrFlipRequest t i n w) s = .next u ∧ (u.cmp.lyr[n]).pend = some r ∧ (u.buf r.buf).state = .queued ∧
        (q.buf ≠ r.buf → (u.buf q.buf).state = .swOwned) ∧ u.rf (R.LYR_FLIP_STAT n) 31 28 = 7 ∧ u.rb (R.LYR_FLIP_STAT n) 16 = true ∧
        Only [R.LYR_FLIP n, R.LYR_FLIP_STAT n, R.BUF_STATES (q.buf / 8), R.BUF_STATES (r.buf / 8), R.CMP_FLIPGRP_STAT] [] s u) ∧
    (s.accepts t i (R.LYR_FLIP n) (putBit w 30 true) → bitOf w 31 = false →
      (s.cmp.lyr[n]).pend = none ∨ max s.now t + s.guardNs = s.nextTick ∧ (evaluated (s.at t)).any (fun x => x.1 == n && x.2.2) = true →
      ∃ u, exec (.lyrFlipCancel t i n w) s = .next u ∧ u.cmp = s.cmp ∧ Only [R.LYR_FLIP n] [] s u) ∧
    (∀ g : Fin 8, g.val ≠ 0 → s.accepts t i R.CMP_FLIP_ARM (word (2 ^ g.val)) → s.rb R.CMP_FLIPGRP_STAT g = false → groupMembers g s ≠ [] →
      ∃ u, exec (.cmpFlipArm t i (word (2 ^ g.val))) s = .next u ∧ u.cmp.arms[g] = groupMembers g s ∧ u.rb R.CMP_FLIPGRP_STAT g = true ∧
        u.cmp.bufs = s.cmp.bufs ∧ Only [R.CMP_FLIP_ARM, R.CMP_FLIPGRP_STAT] [] s u)

/-- R99, R100, R120: REGISTER of a sound entry takes the staging registers' content and makes the entry SW_OWNED; a failing one answers its first
failure and changes no entry; UNREGISTER frees an SW_OWNED entry, clearing every field but the tick of its last state change, and refuses any other
with BAD_STATE; a refusal sets CMD_ERR; READ copies the entry's base, stride, size, format, owner, state and tick into the staging registers and
reports OK. Where the spec leaves it to a reading, this is the model's (log entry 124). -/
def Obligations.BufferTableFollowsItsCommands : Prop :=
  ∀ (t : Nat) (i : Init) (x : Fin 256) (s : State),
    (s.accepts t i R.BUF_CMD (word (256 + x)) → registerCheck x (stagedEntry s) s = 0 →
      ∃ u, exec (.bufRegister t i x) s = .next u ∧ u.buf x = { stagedEntry s with state := .swOwned, tick := s.tick16 } ∧
        u.rf R.BUF_CMD_STAT 3 0 = 0 ∧ (∀ e, e ≠ x.val → u.buf e = s.buf e) ∧ Only [R.BUF_CMD, R.BUF_CMD_STAT, R.BUF_STATES (x / 8)] [] s u) ∧
    (s.accepts t i R.BUF_CMD (word (256 + x)) → registerCheck x (stagedEntry s) s ≠ 0 →
      ∃ u, exec (.bufRegister t i x) s = .next u ∧ u.cmp = s.cmp ∧ u.rf R.BUF_CMD_STAT 3 0 = registerCheck x (stagedEntry s) s ∧
        u.rb (R.IRQ_STAT P.BUF) 2 = true ∧ Only [R.BUF_CMD, R.BUF_CMD_STAT, R.IRQ_STAT P.BUF] [] s u) ∧
    (s.accepts t i R.BUF_CMD (word (512 + x)) → (s.buf x).state = .swOwned →
      ∃ u, exec (.bufUnregister t i x) s = .next u ∧ u.buf x = { BufEntry.empty with state := .free, tick := s.tick16 } ∧ u.rf R.BUF_CMD_STAT 3 0 = 0 ∧
        (∀ e, e ≠ x.val → u.buf e = s.buf e) ∧ Only [R.BUF_CMD, R.BUF_CMD_STAT, R.BUF_STATES (x / 8)] [] s u) ∧
    (s.accepts t i R.BUF_CMD (word (512 + x)) → (s.buf x).state ≠ .swOwned →
      ∃ u, exec (.bufUnregister t i x) s = .next u ∧ u.cmp = s.cmp ∧ u.rf R.BUF_CMD_STAT 3 0 = 1 ∧ u.rb (R.IRQ_STAT P.BUF) 2 = true ∧
        Only [R.BUF_CMD, R.BUF_CMD_STAT, R.IRQ_STAT P.BUF] [] s u) ∧
    (s.accepts t i R.BUF_CMD (word (768 + x)) →
      ∃ u, exec (.bufRead t i x) s = .next u ∧ u.rd R.BUF_E_BASE = word (s.buf x).base ∧ u.rd R.BUF_E_STRIDE = word (s.buf x).stride ∧
        u.rd R.BUF_E_SIZE = word (((s.buf x).h - 1) * 65536 + ((s.buf x).w - 1)) ∧ u.rd R.BUF_E_FMT = word ((s.buf x).owner * 256 + (s.buf x).fmt) ∧
        u.rd R.BUF_E_STATE = word ((s.buf x).tick * 65536 + (s.buf x).state.code) ∧ u.rf R.BUF_CMD_STAT 3 0 = 0 ∧ u.cmp = s.cmp ∧
        Only [R.BUF_CMD, R.BUF_CMD_STAT, R.BUF_E_BASE, R.BUF_E_STRIDE, R.BUF_E_SIZE, R.BUF_E_FMT, R.BUF_E_STATE] [] s u)

/-- R104, R119: every 1 written to FENCE_SET signals its fence, every 1 written to FENCE_STATE clears its fence unless it is signalled in the same instant, and the other fences stay. No
pre-scaler waits for a fence here. R92, R93, R95, R97, R113, R116: a kick of an idle pre-scaler with a source and a destination starts a pass; the
end of a pass whose rows may be read and written stores its image, shows its destination, frees the pre-scaler and sets its interrupt; the end of composition clears the tiles that compose and sets
CMP's interrupt; a write-back that goes through shows its slot and frame. Where the spec leaves it to a reading, this is the model's (log entries
18 and 19). -/
def Obligations.FencesScalersAndPipesFollow : Prop :=
  (
    ∀ (t : Nat) (i : Init) (high : Bool) (w : Word) (s : State),
      (s.accepts t i (if high then R.FENCE_SET_HI else R.FENCE_SET_LO) w → (∀ k : Fin 4, s.rf (R.SCL_CFG k) 1 0 ≠ 3) →
        ∃ u, exec (.fenceSet t i high w) s = .next u ∧
          (∀ b < 64, fenceSet u b = (fenceSet s b || (decide (b / 32 = high.toNat) && w.getLsbD (b % 32)))) ∧
          Only [if high then R.FENCE_SET_HI else R.FENCE_SET_LO, R.FENCE_STATE_LO, R.FENCE_STATE_HI, R.IRQ_STAT P.FENCE] [] s u) ∧
      (s.accepts t i (if high then R.FENCE_STATE_HI else R.FENCE_STATE_LO) w →
        ∃ u, exec (.fenceClear t i high w) s = .next u ∧
          (∀ b < 64, fenceSet u b = (fenceSet s b && !(decide (b / 32 = high.toNat) && w.getLsbD (b % 32) &&
            !((s.at t).evtBits (fenceReg b).1).getLsbD (b % 32)))) ∧
          Only [if high then R.FENCE_STATE_HI else R.FENCE_STATE_LO] [] s u)) ∧
  (
    ∀ (t : Nat) (i : Init) (k : Fin 4) (s : State),
      (∀ d, s.accepts t i (R.SCL_KICK k) 1#32 → s.rf (R.SCL_CFG k) 1 0 = 0 → s.en (P.SCL k) = true → s.cmp.scl[k] = none →
        (s.buf (s.rf (R.SCL_SRC k) 7 0)).state = .swOwned → sclDest k (s.rf (R.SCL_SRC k) 7 0) s = some d →
        ∃ u, exec (.sclKick t i k) s = .next u ∧ u.cmp.scl[k] = some ⟨d, s.rf (R.SCL_SRC k) 7 0, true⟩ ∧
          (u.buf (s.rf (R.SCL_SRC k) 7 0)).state = .scanning ∧ u.rb (R.STATUS (P.SCL k)) 0 = true ∧
          Only [R.SCL_KICK k, R.STATUS (P.SCL k), R.BUF_STATES (s.rf (R.SCL_SRC k) 7 0 / 8)] [] s u) ∧
      (∀ p, s.cmp.scl[k] = some p → s.rb (R.SCL_CFG k) 19 = false → s.rb (R.SCL_CFG k) 26 = false → s.ue = [] → s.ce = [] → s.flt.due = [] →
        let e := s.buf p.src; let d := s.buf p.dst; let row := fun y => d.base + y * d.stride
        (∀ j < s.rf (R.SCL_CROP_WH k) 30 16, readStop (.scl k) (e.base + (s.rf (R.SCL_CROP_XY k) 30 16 + j) * e.stride + 2 * s.rf (R.SCL_CROP_XY k) 14 0)
          (2 * s.rf (R.SCL_CROP_WH k) 14 0) s = none) →
        (∀ y < d.h, writeStop (.scl k) (row y) (2 * d.w) none s = none) → 2 * d.w ≤ d.stride →
        ∃ u, exec (.sclPassEnd t k) s = .next u ∧ u.cmp.scl[k] = none ∧ u.rf (R.SCL_PASS k) 15 0 = p.dst % 65536 ∧
          u.rf (R.SCL_PASS k) 31 16 = (s.rf (R.SCL_PASS k) 31 16 + 1) % 65536 ∧ u.rb (R.STATUS (P.SCL k)) 0 = false ∧ u.rb (R.IRQ_STAT (P.SCL k)) 0 = true ∧
          (∀ y < d.h, ∀ x < 2 * d.w, u.ldN (row y + x) = nth 0 (sclRow (s.at t) k e d y) x) ∧
          (∀ a, (∀ y < d.h, a < row y ∨ row y + 2 * d.w ≤ a) → u.ld a = s.ld a)) ∧
      (let b := bandsLate (s.at t)
       b.frm.live = true → b.rf (R.STATUS P.CMP) 3 0 ≠ 0 → bandsOpen b = false →
        ∃ u, exec (.compositionDone t) s = .next u ∧ u.rf (R.STATUS P.CMP) 3 0 = 0 ∧ u.rb (R.IRQ_STAT P.CMP) 0 = true) ∧
      (let n := s.frame; let every := max 1 (s.rf R.CMP_WB_CTRL 15 8); let slot := n / every % (s.rf R.CMP_WB_CTRL 5 4 + 1)
       let bytes := wbBytes s k s.frm.codes[k]
       let r := engineWrite .wb ((s.rd (R.CMP_WB_BASE k)).toNat + slot * bytes.length) bytes (s.at t)
       s.frm.live = true → s.frm.codes[k] ≠ [] → (s.rf R.CMP_WB_CTRL 1 0 = 1 ∨ s.rf R.CMP_WB_CTRL 1 0 = 2) → s.rb R.CMP_WB_CTRL (16 + k) = true →
        n % every = 0 → r.1 = true →
        ∃ u, exec (.wbFrameDone t k) s = .next u ∧ u.rd (R.CMP_WB_SLOT k) = word slot ∧ u.rd (R.CMP_WB_TICK k) = word n ∧
          u.rb (R.IRQ_STAT P.CMP) 1 = true ∧ (∀ b, u.ld b = r.2.ld b) ∧ Only [R.CMP_WB_SLOT k, R.CMP_WB_TICK k, R.IRQ_STAT P.CMP] [] r.2 u))

/-- R150 to R153, R155, R159: INSERT queues the staged entry or fails with INVALID, RANGE or QFULL in that order; DELETE queues a removal or fails
with QFULL; READ and LOOKUP copy an entry into the staging registers, or fail; the edit engine puts the oldest insert of a new pixel into its place
in the map; PHO_DTH_DATA reads or writes four thresholds and moves its address on by 4. Where the spec leaves it to a reading, this is the model's
(log entry 124). -/
def Obligations.RepairMapAndThresholdCommands : Prop :=
  ∀ (t : Nat) (i : Init) (w : Word) (s : State),
    let cmd := R.PHO_RMAP_CMD; let st := R.PHO_RMAP_CMD_STAT; let e0 := s.rd R.PHO_RMAP_E0; let full := 47 < s.pho.edits.length
    let fails := fun (r : Nat) (u : State) => u.rf st 3 0 = r ∧ u.pho = s.pho ∧ Only [cmd, st] [] s u
    let queued := fun (e : RmapEdit) (u : State) => u.rf st 3 0 = 1 ∧ u.pho.edits = s.pho.edits ++ [e] ∧
      u.rf R.PHO_RMAP_STAT 23 16 = s.pho.edits.length + 1 ∧ Only [cmd, st, R.PHO_RMAP_STAT] [] s u
    let staged := fun (k : Nat) (u : State) => u.rf st 3 0 = 0 ∧ (∀ e : RmapEntry, (rmapEntries s)[k]? = some e →
      u.rd R.PHO_RMAP_E0 = e.w0 ∧ u.rd R.PHO_RMAP_E1 = e.w1 ∧ u.rd R.PHO_RMAP_E2 = e.w2 ∧ u.rd R.PHO_RMAP_E3 = e.w3) ∧ u.pho = s.pho ∧
      Only [cmd, st, R.PHO_RMAP_E0, R.PHO_RMAP_E1, R.PHO_RMAP_E2, R.PHO_RMAP_E3] [] s u
    (s.accepts t i cmd (putBits w 2 0 1) →
      (rmapInvalid e0 = true → ∃ u, exec (.rmapInsert t i w) s = .next u ∧ fails 7 u) ∧
      (rmapInvalid e0 = false → rmapRange s e0 = true → ∃ u, exec (.rmapInsert t i w) s = .next u ∧ fails 3 u) ∧
      (rmapInvalid e0 = false → rmapRange s e0 = false → full → ∃ u, exec (.rmapInsert t i w) s = .next u ∧ fails 2 u) ∧
      (rmapInvalid e0 = false → rmapRange s e0 = false → ¬full →
        ∃ u, exec (.rmapInsert t i w) s = .next u ∧ queued ⟨true, e0, s.rd R.PHO_RMAP_E1, s.rd R.PHO_RMAP_E2, false, false⟩ u)) ∧
    (s.accepts t i cmd (putBits w 2 0 2) →
      (full → ∃ u, exec (.rmapDelete t i w) s = .next u ∧ fails 2 u) ∧
      (¬full → ∃ u, exec (.rmapDelete t i w) s = .next u ∧ queued ⟨false, e0, 0#32, 0#32, bitOf w 15 && i.isSafe, false⟩ u)) ∧
    (s.accepts t i cmd (putBits w 2 0 3) →
      (bitsOf w 29 16 < (rmapEntries s).length → ∃ u, exec (.rmapRead t i w) s = .next u ∧ staged (bitsOf w 29 16) u) ∧
      ((rmapEntries s).length ≤ bitsOf w 29 16 → ∃ u, exec (.rmapRead t i w) s = .next u ∧ fails 3 u)) ∧
    (s.accepts t i cmd (putBits w 2 0 4) →
      (∀ k, rmapFind s e0 = some k → k < 2 ^ 14 → ∃ u, exec (.rmapLookup t i w) s = .next u ∧ staged k u ∧ u.rf st 29 16 = k) ∧
      (rmapFind s e0 = none → ∃ u, exec (.rmapLookup t i w) s = .next u ∧ fails 4 u)) ∧
    (s.pho.edits = [] → ∃ u, exec (.rmapEditApply t) s = .next u ∧ u.pho = s.pho ∧ Calm s u) ∧
    (∀ e l, s.pho.edits = e :: l → s.frm.live = true → s.en P.PHO = true → rmapValid s = true → s.rf (R.STATUS P.CMP) 3 0 = 0 →
      max s.now t + 20000 ≤ s.nextTick → e.insert = true → rmapFind s e.e0 = none → (rmapEntries s).length < 16384 →
      writeStop .wb (s.rd R.PHO_RMAP_BASE).toNat (16 * ((rmapEntries s).length + 1)) none (s.wb (R.CTRL P.PHO) 0 false) = none →
      ∃ u, exec (.rmapEditApply t) s = .next u ∧ u.pho.edits = l ∧
        rmapEntries u = rmapSorted ⟨putBit (putBit e.e0 30 false) 31 true, e.e1, e.e2, word s.tickNum⟩ (rmapEntries s) ∧
        (∀ a, a < (s.rd R.PHO_RMAP_BASE).toNat ∨ (s.rd R.PHO_RMAP_BASE).toNat + 262144 ≤ a → u.ld a = s.ld a) ∧
        ∀ a, a ≠ R.PHO_RMAP_STAT → u.rd a = s.rd a) ∧
    (let a := s.rf R.PHO_DTH_ADDR 11 0;
      (s.accepts t i R.PHO_DTH_DATA w →
        ∃ u, exec (.dthDataAccess t i (some w)) s = .next u ∧ (∀ k < 4, threshold u ((a + k) % 4096) = bitsOf w (8 * k + 7) (8 * k)) ∧
          (∀ b < 4096, (∀ k < 4, b ≠ (a + k) % 4096) → threshold u b = threshold s b) ∧ u.rf R.PHO_DTH_ADDR 11 0 = (a + 4) % 4096 ∧
          Only [R.PHO_DTH_DATA, R.PHO_DTH_ADDR] [] s u) ∧
      ((s.at t).answers P.PHO = true →
        ∃ u, exec (.dthDataAccess t i none) s = .next u ∧ (∀ k < 4, bitsOf u.bus.data (8 * k + 7) (8 * k) = threshold s ((a + k) % 4096)) ∧
          u.rf R.PHO_DTH_ADDR 11 0 = (a + 4) % 4096 ∧ u.pho = s.pho ∧ Only [R.PHO_DTH_ADDR] [] s u))

/-- R144 to R146: a snapshot that is asked for, or due at a whole hour, starts at the first slice of the first driven tile: the slice goes as one DIRECT
transaction of owner DOSE to the tile's free slot, or waits 10 s where the write window is closed; a request during another is ignored, and an unfinished
one ends PARTIAL at the whole hour; a sealed slice makes its slot current and the next slice goes, of this tile or of the next, and the last one ends the
snapshot DONE; a deferred slice is tried again when its 10 s are over; a restore needs EN 0, takes every slice of the driven tiles from its newest valid
slot, or 0 with MISSING counted, and ends with DOSE_RESTORE_FAIL where a slice was missing. Where the spec leaves it to a reading, this is the model's (log
entries 21, 22 and 143). -/
def Obligations.DoseSnapshotsRunSliceBySlice : Prop :=
  ∀ (t : Nat) (i : Init) (s : State),
    let st := R.PHO_SNAP_STAT; let h := hourOf (s.at t); let later := max s.now t + 10 ^ 10; let cmd := R.PHO_SNAP_CMD
    let jrn := [R.NVM_JRN_TAIL, R.NVM_JRN_OPEN, R.NVM_TX_STAT]
    let slice := fun (n : Fin 4) (k : Nat) (b : State) => (⟨3, true, slotOfs b n (freeSlot b n), slotBytes b n k, none, .snap n, b.nv.txn, 0⟩ : Tx)
    let free := fun (n : Fin 4) (k : Nat) (b : State) => b.rb R.NVM_WIN_STAT 0 = true ∧ txRefusal (slice n k b) b = 0
    let goes := fun (n : Fin 4) (k : Nat) (b u : State) => u.pho.snap = some (n.val, k) ∧ u.pho.tx = 1 ∧ u.rb st 1 = false ∧
      u.nvm.queue = b.nvm.queue ++ [slice n k b] ∧ u.nv.txn = b.nv.txn + 1 ∧ (∀ a, u.ld a = b.ld a) ∧ u.pending = b.pending
    let rest := fun (regs : List Nat) (b u : State) => ∀ a, a ∉ regs ++ jrn → u.rd a = b.rd a
    let waits := fun (k : Nat × Nat) (u : State) => u.pho.snap = some k ∧ u.pho.retryAt = later ∧ u.rb st 0 = true ∧ u.rb st 1 = true
    let taken := fun (n : Fin 4) (k : Nat) => sset 99 (16 * n.val + k) (freeSlot s n) s.pho.slots
    let seals := fun (n : Fin 4) (k : Nat) => { s with pho := { s.pho with slots := taken n k, seq := s.pho.seq.set n (s.pho.seq[n] + 1) } }
    (s.pho.hour = some h ∨ s.rb R.PHO_DOSE_CTRL 1 = false →
      ∃ u, exec (.doseSnapHourly t) s = .next u ∧ u.pho = { s.pho with hour := some h } ∧ Calm s u) ∧
    (∀ n : Fin 4, s.pho.hour ≠ some h → s.rb R.PHO_DOSE_CTRL 1 = true → s.pho.snap = none → s.rb st 0 = false → tileFrom s 0 = some n.val →
      free n 0 (s.at t) →
      ∃ u, exec (.doseSnapHourly t) s = .next u ∧ goes n 0 (s.at t) u ∧ u.rb st 0 = true ∧ u.pho.hour = some h ∧ rest [st] s u) ∧
    (∀ k, s.pho.hour ≠ some h → s.rb R.PHO_DOSE_CTRL 1 = true → s.pho.snap = none → s.rb st 0 = false → tileFrom s 0 = some k →
      s.rb R.NVM_WIN_STAT 0 = false →
      ∃ u, exec (.doseSnapHourly t) s = .next u ∧ waits (k, 0) u ∧ u.pho.hour = some h ∧ Only [st] [] s u) ∧
    (∀ k x, s.pho.hour ≠ some h → s.rb R.PHO_DOSE_CTRL 1 = true → s.pho.snap = some x → tileFrom s 0 = some k → s.rb R.NVM_WIN_STAT 0 = false →
      ∃ u, exec (.doseSnapHourly t) s = .next u ∧ waits (k, 0) u ∧ u.rf st 7 4 = 2 ∧ u.pho.hour = some h ∧ u.rb (R.IRQ_STAT P.PHO) 3 = true ∧
        Only ([st, R.IRQ_STAT P.PHO] ++ jrn) [] s u) ∧
    (s.accepts t i cmd 1#32 →
      (s.rb st 0 = true → ∃ u, exec (.snap t i) s = .next u ∧ u.pho = s.pho ∧ Only [cmd] [] s u) ∧
      (∀ n : Fin 4, s.rb st 0 = false → tileFrom s 0 = some n.val → free n 0 (s.at t) →
        ∃ u, exec (.snap t i) s = .next u ∧ goes n 0 (s.at t) u ∧ u.rb st 0 = true ∧ rest [cmd, st] s u) ∧
      (∀ k, s.rb st 0 = false → tileFrom s 0 = some k → s.rb R.NVM_WIN_STAT 0 = false →
        ∃ u, exec (.snap t i) s = .next u ∧ waits (k, 0) u ∧ Only [cmd, st] [] s u)) ∧
    (∀ (n : Fin 4) (k : Nat), s.pho.snap = some (n.val, k) → s.pho.tx = 2 →
      (k < 15 → free n (k + 1) ((seals n k).at t) →
        ∃ u, exec (.snapSliceDone t) s = .next u ∧ goes n (k + 1) ((seals n k).at t) u ∧ u.pho.slots = (seals n k).pho.slots ∧
          u.pho.seq = (seals n k).pho.seq ∧ rest [R.PHO_SNAP_SEQ, st] s u) ∧
      (∀ m : Fin 4, 15 ≤ k → tileFrom s (n + 1) = some m.val → free m 0 ((seals n k).at t) →
        ∃ u, exec (.snapSliceDone t) s = .next u ∧ goes m 0 ((seals n k).at t) u ∧ u.pho.slots = (seals n k).pho.slots ∧
          u.pho.seq = (seals n k).pho.seq ∧ rest [R.PHO_SNAP_SEQ, st] s u)) ∧
    (∀ k : Fin 4, s.pho.snap = some (k.val, 15) → s.pho.tx = 2 → tileFrom s (k + 1) = none →
      ∃ u, exec (.snapSliceDone t) s = .next u ∧ curSlot u k 15 = freeSlot s k ∧ u.pho.seq[k] = s.pho.seq[k] + 1 ∧ u.pho.snap = none ∧
        u.rf st 7 4 = 1 ∧ u.rb st 0 = false ∧ u.rb (R.IRQ_STAT P.PHO) 2 = true ∧ Only [R.PHO_SNAP_SEQ, st, R.IRQ_STAT P.PHO] [] s u) ∧
    (∀ k, s.pho.snap = some k → s.pho.tx = 3 → ∃ u, exec (.snapSliceDone t) s = .next u ∧ u.pho.snap = some k ∧ u.pho.retryAt = later ∧
      u.rb st 1 = true ∧ Only [st] [] s u) ∧
    (s.pho.snap = none ∨ s.pho.tx < 2 → ∃ u, exec (.snapSliceDone t) s = .next u ∧ u.pho = s.pho ∧ Calm s u) ∧
    (∀ (n : Fin 4) (k : Nat), s.pho.snap = some (n.val, k) → s.pho.tx = 0 → s.rb st 1 = true → s.pho.retryAt ≤ max s.now t → free n k (s.at t) →
      ∃ u, exec (.snapRetry t) s = .next u ∧ goes n k (s.at t) u ∧ rest [st] s u) ∧
    (∀ k, s.pho.snap = some k → s.pho.tx = 0 → s.rb st 1 = true → s.pho.retryAt ≤ max s.now t → s.rb R.NVM_WIN_STAT 0 = false →
      ∃ u, exec (.snapRetry t) s = .next u ∧ u.pho.snap = some k ∧ u.pho.retryAt = later ∧ u.rb st 1 = true ∧ Only [st] [] s u) ∧
    (s.pho.snap = none ∨ s.pho.tx ≠ 0 ∨ s.rb st 1 = false ∨ max s.now t < s.pho.retryAt →
      ∃ u, exec (.snapRetry t) s = .next u ∧ u.pho = s.pho ∧ Calm s u) ∧
    (s.accepts t i cmd 2#32 →
      (s.en P.PHO = true → ∃ u, exec (.restore t i) s = .next (raise Src.CFG_LIVE_WRITE u) ∧ u.pho = s.pho ∧ Only [cmd] [] s u) ∧
      (s.en P.PHO = false → s.rb st 0 = true → ∃ u, exec (.restore t i) s = .next u ∧ u.pho = s.pho ∧ Only [cmd] [] s u) ∧
      (s.en P.PHO = false → s.rb st 0 = false → s.flt.due = [] →
        (∀ n : Fin 4, s.tileOn n = true → ∀ k < 16, writeStop .wb (sliceAddr s n k) (sliceLen s n k * s.tw n * 2)
          (partialUe s (sliceAddr s n k) (sliceLen s n k * s.tw n * 2)) s = none) →
        ∃ u, exec (.restore t i) s = .next u ∧ u.rb st 0 = true ∧ u.pho.snap = s.pho.snap ∧
          u.rf st 15 8 = sumOf (List.finRange 4) (fun n => if s.tileOn n then ((List.range 16).filter fun k => (bestSlot s n k).isNone).length else 0) ∧
          (∀ n : Fin 4, (∀ m : Fin 4, s.tileOn m = true ↔ m = n) → ∀ k < 16, ∀ j < sliceLen s n k * s.tw n * 2,
            u.ldN (sliceAddr s n k + j) = match bestSlot s n k with
              | some b => s.see (0x20000000 + slotOfs s n b.1 + 64 + j)
              | none => 0) ∧
          (∀ a, (∀ n : Fin 4, s.tileOn n = true → ∀ k < 16, a < sliceAddr s n k ∨ sliceAddr s n k + sliceLen s n k * s.tw n * 2 ≤ a) → u.ld a = s.ld a) ∧
          (∀ a, a ∉ [cmd, st] → u.rd a = s.rd a) ∧ u.nv = s.nv ∧ u.pending = s.pending)) ∧
    (s.rb st 0 = true → s.pho.snap = none →
      (s.rf st 15 8 = 0 → ∃ u, exec (.restoreDone t) s = .next u ∧ u.rb st 0 = false ∧ u.rf st 7 4 = 3 ∧ Only [st] [] s u) ∧
      (s.rf st 15 8 ≠ 0 → ∃ u, exec (.restoreDone t) s = .next (raise Src.DOSE_RESTORE_FAIL u) ∧ u.rb st 0 = false ∧ u.rf st 7 4 = 3 ∧
        u.rb (R.IRQ_STAT P.PHO) 3 = true ∧ Only [st, R.IRQ_STAT P.PHO] [] s u))

/-- R164, R168, R189: a post of a FREE CH1 slot makes it POSTED, behind the slots posted before; any other post is refused with SLOT; enabling the
mask engine makes both channels LOST, loads its program into the selected engines and starts it at the next cutoff. Where the spec leaves it to a reading,
this is the model's (log entries 35 and 145). -/
def Obligations.ObjectListsArePostedOrRefused : Prop :=
  ∀ (t : Nat) (i : Init) (w : Word) (s : State),
    (s.accepts t i R.GLM_POST w → 4 ≤ bitsOf w 2 0 → slotState s (bitsOf w 2 0) = 0 →
      ∃ u, exec (.glmPost t i w) s = .next u ∧ slotState u (bitsOf w 2 0) = 1 ∧ u.glm.posts = s.glm.posts ++ [(bitsOf w 2 0, max s.now t)] ∧
        (∀ k < 8, k ≠ bitsOf w 2 0 → slotState u k = slotState s k) ∧ Only [R.GLM_POST, R.GLM_SLOT_STATE] [] s u) ∧
    (s.accepts t i R.GLM_POST w → bitsOf w 2 0 < 4 ∨ slotState s (bitsOf w 2 0) ≠ 0 →
      ∃ u, exec (.glmPost t i w) s = .next u ∧ u.rd R.GLM_LIST_REJ = word (s.tick16 * 65536 + bitsOf w 2 0 * 256 + 4) ∧ u.glm = s.glm ∧
        Only [R.GLM_POST, R.GLM_LIST_REJ] [] s u) ∧
    (s.accepts t i (R.CTRL P.GLM) (putBit w 0 true) → s.rb (R.CTRL P.GLM) 0 = false →
      ∃ u, exec (.glmEnable t i w) s = .next u ∧ u.en P.GLM = true ∧ u.rf R.GLM_CH_STAT 2 0 = 3 ∧ u.rf R.GLM_CH_STAT 6 4 = 3 ∧ u.glm = { s.glm with armed := true } ∧
        (let prog := (Config.beamProgram false).take 0x40000; let base := fun b => 0x08000000 + 0x40000 * b;
          (∀ b < 8, s.rb R.GLM_BEAM_SEL b = true → ∀ x < prog.length, u.ldN (base b + x) = nth 0 prog x % 256) ∧
          ∀ a, (∀ b < 8, s.rb R.GLM_BEAM_SEL b = true → a < base b ∨ base b + 0x40000 ≤ a) → u.ld a = s.ld a) ∧
        (∀ a, a ≠ R.CTRL P.GLM → a ≠ R.GLM_CH_STAT → u.rd a = s.rd a) ∧ (∀ a, u.st a = s.st a) ∧ u.nv = s.nv ∧ u.pending = s.pending)

/-- R181 to R183, R187, R188: a band whose rows reach memory is done; a band whose deadline passes first is late, takes the previous plane or DARK,
and raises GLM_BAND_LATE; a finished pool canvas signals its fence and posts the flip of its layer. Where the spec leaves it to a reading, this is
the model's (log entry 18). -/
def Obligations.BandsAndPoolsFinish : Prop :=
  ∀ (t : Nat) (s : State),
    (∀ (b : Fin 16) (k : Fin 4),
      let shapes := (frameObjs (s.at t)).map (shapeOf (s.at t) (midTime (s.at t)))
      let l := (List.range (min 64 (s.th k - 64 * b))).flatMap fun r => (List.range (s.tw k)).map fun x => glareValue (s.at t) k shapes x (64 * b + r)
      let a := glareAddr s k s.frame 0 (64 * b)
      s.en P.GLM = true → s.rb (R.STATUS P.GLM) 0 = true → s.rb R.GLM_CFG 0 = true → s.tileOn k = true → (∀ j, j ≠ k → s.tileOn j = false) →
      b.val < bandsOf s k → (∀ j < b.val, (s.frm.band[k]).testBit j = true) → engineWrite (maskEngine s) a l (s.at t) = (true, (s.at t).put a l) →
      s.beamGated = false → bandsLate (s.at t) = s.at t →
      ∃ u, exec (.bandDone t b) s = .next u ∧ u.frm.band[k] = s.frm.band[k] ||| 2 ^ b.val ∧ (∀ x, x < l.length → u.ld (a + x) = BitVec.ofNat 8 (l.getD x 0)) ∧
        (∀ x, x < a ∨ a + l.length ≤ x → u.ld x = s.ld x) ∧ ∀ x, u.rd x = s.rd x) ∧
    (∀ (k : Fin 4) (b : Fin 16), bandOpen (s.at t) k b = true → bandDue (s.at t) b ≤ max s.now t →
      ∃ u, exec (.bandDeadline t k b) s = .next (raise Src.GLM_BAND_LATE u) ∧ bandSrc u k b = (if (s.frm.bandPrev[k]).testBit b then 1 else 2) ∧
        u.rb (R.IRQ_STAT P.GLM) 2 = true ∧ Only [R.IRQ_STAT P.GLM] [R.GLM_STAT_BANDSRC k, R.STAT P.GLM 1] s u) ∧
    (∀ (e tm : Nat) (w : State), s.beamGated = false → s.glm.pool = some (e, tm) →
      let n : Fin 8 := Fin.ofNat 8 (s.rf R.GLM_CFG 10 8)
      let f := s.rf R.GLM_POOL_BUF 29 24
      w = (List.range (s.buf e).h).foldl (fun x j => (engineWrite (maskEngine x) ((s.buf e).base + j * (s.buf e).stride)
        (poolCanvas (s.at t) n (s.buf e) (poolsAt (s.at t) tm) j) x).2) (s.at t) →
      w.regs = s.regs → w.cmp = s.cmp → (∀ k : Fin 4, s.rf (R.SCL_CFG k) 1 0 ≠ 3) → (s.cmp.lyr[n]).pend = none → (s.buf e).state = .swOwned → isRaw (s.buf e).fmt = false → e < 256 →
      ∃ u, exec (.poolRenderDone t) s = .next u ∧ u.glm.pool = none ∧ (u.cmp.lyr[n]).pend = some ⟨e, f, true, false, max s.now t⟩ ∧ (u.buf e).state = .queued ∧
        fenceSet u f = true ∧ ∀ b, u.ld b = w.ld b)

/-- R193 to R195: a line whose turn comes in time goes out as composed and counts; with segments incomplete at its latest start it goes out with
background in them, counts as an underrun, and the first of a frame raises SCN_UNDERRUN; one whose turn comes later than its latest start goes out as
background. Each ends by t_n - S, and the frame's last completes its CRC. No rectangle ends with the line here. Where the spec leaves it to a reading, this is
the model's (log entries 18 and 37). -/
def Obligations.LinesGoOutAsComposedOrAsBackground : Prop :=
  ∀ (t : Nat) (k : Fin 4) (m : Nat) (l : List Nat) (s : State),
    let b := s.at t; let v := (s.tile[k]).line; let n := cdiv (s.lw k) 512; let st := R.SCN_STAT_LINES k; let crc := R.SCN_STAT_FRAME_CRC k
    let goes := fun (c : List Nat) (u : State) => (u.tile[k]).line = v + 1 ∧ (u.tile[k]).sent = (s.tile[k]).sent ++ c ∧ (∀ j, j ≠ k → u.tile[j] = s.tile[j]) ∧
      bitsOf (u.st st) 15 0 = min (bitsOf (s.st st) 15 0 + 1) 65535 ∧
      u.st crc = if v + 1 = s.lh k then word (crc32c ((u.tile[k]).sent.flatMap (bytesLE 2))) else s.st crc
    let filled := fun (c : List Nat) (u : State) => goes c u ∧ (u.tile[k]).under = true ∧ bitsOf (u.st st) 31 16 = min (bitsOf (s.st st) 31 16 + 1) 65535
    lineReady s k = true → s.frm.kind = 1 → (∀ r < 16, s.rb (R.SCN_RECT_EN k) r = false) → composedLine b k v = some l →
    (lineLate b k b.now24 = false → lineOver b k b.now24 0 (withFill s k 0 l) = false →
      ∃ u, exec (.lineSend t k) s = .next u ∧ goes l u ∧ Only [] [st, crc] s u) ∧
    (lineLate b k b.now24 = true → lineOver b k b.now24 3 (withFill s k 3 l) = false → (s.tile[k]).under = true →
      ∃ u, exec (.lineSend t k) s = .next u ∧ filled (withFill s k 3 l) u ∧ Only [] [st, crc] s u) ∧
    (lineLate b k b.now24 = false → (24 * lineLatest s k v : Int) = lineTurn b k b.now24 → m % 2 ^ n ≠ 0 →
      lineOver b k b.now24 (m % 2 ^ n) (withFill s k (m % 2 ^ n) l) = false →
      ((s.tile[k]).under = false → ∃ u, exec (.lineUnderrun t k m) s = .next (raise (Src.SCN_UNDERRUN k) u) ∧ filled (withFill s k (m % 2 ^ n) l) u ∧
        u.rb (R.IRQ_STAT (P.SCNT k)) 0 = true ∧ Only [R.IRQ_STAT (P.SCNT k)] [st, crc] s u) ∧
      ((s.tile[k]).under = true → ∃ u, exec (.lineUnderrun t k m) s = .next u ∧ filled (withFill s k (m % 2 ^ n) l) u ∧ Only [] [st, crc] s u))

/-- R196, R207, R220: the MARK of a frame whose lines are all sent goes out once with the frame's number and the interrupt set; a tag written for
the frame being sent, before its rectangle is calculated, is kept with the register's value; after that it is compared at once and its decision
shown. Where the spec leaves it to a reading, this is the model's (log entries 37 and 38). -/
def Obligations.MarksAndTagsCloseTheFrame : Prop :=
  ∀ (t : Nat) (i : Init) (k : Fin 4) (r : Fin 16) (w : Word) (s : State),
    ((s.tile[k]).sending = true → s.linkUp k = true → (s.tile[k]).marked = false → (s.tile[k]).line = s.lh k → s.frm.kind = 1 →
      (∀ j, j ≠ k → (s.tile[j]).sending = false) →
      ∃ u, exec (.markSend t) s = .next u ∧ (u.tile[k]).marked = true ∧ (u.tile[k]).markNum = s.frame ∧ (u.tile[k]).noFstat = (s.tile[k]).noFstat + 1 ∧
        (u.tile[k]).seqSwitch = false ∧ u.rb (R.STATUS (P.SCNT k)) 1 = false ∧ u.rb (R.IRQ_STAT (P.SCNT k)) 4 = true ∧
        (∀ j, j ≠ k → u.tile[j] = s.tile[j]) ∧ Only [R.STATUS (P.SCNT k), R.IRQ_STAT (P.SCNT k)] [] s u) ∧
    (s.accepts t i (R.SCN_RECT_DIV_TAG k r) w → bitsOf w 15 0 = s.frame % 65536 → (s.tile[k]).divRes[r] = 8 → (s.tile[k]).calcDone.testBit r = false →
      ∃ u, exec (.scnRectDivTag t i k r w) s = .next u ∧ (u.tile[k]).tag[r] = some (bitsOf w 15 0, s.rd (R.SCN_RECT_DIV k r)) ∧
        (u.tile[k]).divRes = (s.tile[k]).divRes ∧ Only [R.SCN_RECT_DIV_TAG k r] [] s u) ∧
    (s.accepts t i (R.SCN_RECT_DIV_TAG k r) w → bitsOf w 15 0 = s.frame % 65536 → (s.tile[k]).divRes[r] = 8 → (s.tile[k]).calcDone.testBit r = true →
      s.rd (R.SCN_RECT_DIV k r) = s.rd (R.SCN_RECT_CALC k r) →
      ∃ u, exec (.scnRectDivTag t i k r w) s = .next u ∧ (u.tile[k]).divRes[r] = 1 ∧ (u.tile[k]).run[r] = 0 ∧
        u.rd (R.SCN_RECT_RES k r) = word (s.frame % 65536 * 65536 + 1) ∧ Only [R.SCN_RECT_DIV_TAG k r, R.SCN_RECT_RES k r] [] s u)

/-- R199 to R201: an edge outside the window is counted as rejected and nothing else; one inside it counts, ends the run of missing edges and is a
measurement of the next tick's phase, which the ticks take up later (log entry 147); 8 missing edges raise SCN_SYNC_LOST once; SYNC_OUT rises and falls. Where
the spec leaves it to a reading, this is the model's (log entry 39). -/
def Obligations.ExternalSyncIsFollowedOrLost : Prop :=
  ∀ (t : Nat) (s : State),
    (let win := s.rf R.SCN_SYNC 25 16 * 1000;
     s.rf R.SCN_SYNC 1 0 = 1 → (∀ x, x = s.sync.lastTick ∨ x = s.nextTick → x + win < max s.now t ∨ max s.now t + win < x) →
      ∃ u, exec (.syncInEdge t) s = .next u ∧ bitsOf (u.st (R.STAT P.SCN 0)) 31 16 = min (bitsOf (s.st (R.STAT P.SCN 0)) 31 16 + 1) 65535 ∧
        u.sync = s.sync ∧ u.nextTick = s.nextTick ∧ Only [] [R.STAT P.SCN 0] s u) ∧
    (let win := s.rf R.SCN_SYNC 25 16 * 1000;
     s.rf R.SCN_SYNC 1 0 = 1 → s.sync.lost = false → (s.tickNum + 1) % syncDiv s = 0 → s.tickNum % syncDiv s ≠ 0 → s.nextTick ≤ max s.now t + win →
      max s.now t ≤ s.nextTick + win →
      ∃ u, exec (.syncInEdge t) s = .next u ∧ u.sync.missed = 0 ∧ u.sync.nextEdge = s.tickNum + 1 ∧ u.sync.corr = (max s.now t : Int) - s.nextTick ∧
        u.sync.valid = (if s.tickNum + 1 = s.sync.nextEdge then s.sync.valid else if s.tickNum + 1 = s.sync.nextEdge + syncDiv s then s.sync.valid + 1 else 1) ∧
        bitsOf (u.st (R.STAT P.SCN 0)) 15 0 = min (bitsOf (s.st (R.STAT P.SCN 0)) 15 0 + 1) 65535 ∧ u.nextTick = s.nextTick ∧
        Only [R.STATUS P.SCN, R.IRQ_STAT P.SCN] [R.STAT P.SCN 0] s u) ∧
    (s.rf R.SCN_SYNC 1 0 = 1 → 8 ≤ s.sync.missed → s.sync.lost = false →
      ∃ u, exec (.syncLost t) s = .next (raise Src.SCN_SYNC_LOST u) ∧ u.sync.lost = true ∧ u.sync.valid = 0 ∧ u.rb (R.IRQ_STAT P.SCN) 1 = true ∧
        Only [R.STATUS P.SCN, R.IRQ_STAT P.SCN] [] s u) ∧
    (s.rb R.SCN_SYNC_OUT 0 = true → s.tickNum % syncDiv s = 0 →
      ∃ u, exec (.syncOutPulse t true) s = .next u ∧ u.sync.pinOut = true ∧ u.now + 1000 ≤ u.sync.outUntil ∧ Calm s u) ∧
    (s.sync.pinOut = true → ∃ u, exec (.syncOutPulse t false) s = .next u ∧ u.sync.pinOut = false ∧ s.sync.outUntil ≤ u.now ∧ Calm s u)

/-- R213, R195: a load whose checks pass sends its lines to the tile's back buffer as the link is free, no code above the ceiling, each line to end by
t_n - S, and has ended with the last; the rest wait for the next frame; a copy that fails its checks gives way to the next, and the second failure
raises SCN_FB_CORRUPT; once REFRESH frames have lit since the last swap a new load starts from copy A. Where the spec leaves it to a reading, this is
the model's (log entry 31). -/
def Obligations.FallbackLoadsAndRefreshes : Prop :=
  ∀ (t : Nat) (k : Fin 4) (l : List Nat) (s : State),
    let x := (s.tile[k]).fb; let w := s.lw k
    let mask := if x.copy = 3 then 3 else 0
    let place := fbRecord s k (x.copy - 1)
    let reads := s.frm.kind = 2 ∧ x.loading = true ∧ x.ready = false ∧ x.data = [] ∧ (s.tile[k]).sending = true
    (reads → s.ue = [] → x.copy = 3 ∧ l = List.replicate (w * s.lh k) (s.rf R.SCN_FB_UNIFORM 11 0) ∨ x.copy ≠ 3 ∧ place.bind (fbCodes s k) = some l →
      ∃ u, exec (.fallbackLoadDone t k) s = .next u ∧
        (let n := (u.tile[k]).fb.next
         (u.tile[k]).sent = (l.take (n * w)).map (min (fbCeil s k)) ∧ (u.tile[k]).fb.data = l.drop (n * w) ∧
         (u.tile[k]).fb.ready = (decide (0 < n) && (l.drop (n * w)).isEmpty) ∧ (u.tile[k]).fb.copy = x.copy ∧
         (l.drop (n * w) ≠ [] → (s.tile[k]).marked = false → n < s.lh k →
          pktsOver u k (s.at t).now24 (linePackets s.frame n mask (((l.drop (n * w)).take w).map (min (fbCeil s k)))) = true) ∧
         (0 < n → (u.tile[k]).line = n)) ∧
        (∀ j, j ≠ k → u.tile[j] = s.tile[j]) ∧ Only [] [R.SCN_STAT_LINES k] s u) ∧
    (reads → s.ue = [] → x.copy = 1 → place.bind (fbCodes s k) = none →
      ∃ u, exec (.fallbackLoadDone t k) s = .next u ∧ (u.tile[k]).fb = { x with copy := 2 } ∧ (∀ j, j ≠ k → u.tile[j] = s.tile[j]) ∧
        Only [R.SCN_FB_STAT, R.STATUS P.SCN] [] s u) ∧
    (reads → s.ue = [] → x.copy = 2 → place.bind (fbCodes s k) = none →
      ∃ u, exec (.fallbackLoadDone t k) s = .next (showFb (raise Src.SCN_FB_CORRUPT u)) ∧ (u.tile[k]).fb = { x with copy := 3 } ∧
        u.rb (R.IRQ_STAT P.SCN) 2 = true ∧ Only [R.IRQ_STAT P.SCN] [] s u) ∧
    (s.frm.kind = 2 → x.copy ≠ 0 → x.loading = false → s.rf R.SCN_FB_CTRL 7 0 ≠ 0 → s.rf R.SCN_FB_CTRL 7 0 ≤ x.frames →
      ∃ u, exec (.fallbackRefresh t k) s = .next u ∧ (u.tile[k]).fb.loading = true ∧ (u.tile[k]).fb.ready = false ∧ (u.tile[k]).fb.copy = 1 ∧
        (u.tile[k]).fb.cth = loopCeil s k ∧ (u.tile[k]).line = (s.tile[k]).line ∧ (∀ j, j ≠ k → u.tile[j] = s.tile[j]) ∧
        Only [R.SCN_FB_STAT, R.STATUS P.SCN] [] s u) ∧
    (s.frm.kind ≠ 2 ∨ x.copy = 0 ∨ x.loading = true ∨ s.rf R.SCN_FB_CTRL 7 0 = 0 ∨ x.frames < s.rf R.SCN_FB_CTRL 7 0 →
      ∃ u, exec (.fallbackRefresh t k) s = .next u ∧ u.tile = s.tile ∧ Calm s u)

/-- R236, R237: enabling a link starts training at step 1 with the tile in reset; the release of the reset, TS1 lock and completed steps move it on
one step at a time, the lanes chosen shown; a step that overruns its bound fails the link, raises SPL_LINK_DOWN and restarts 100 ms later, but at a
lower rate, then with half the lanes, where one is left; a restart, a retrain of a FAILED link and a retrain that overruns begin at step 1 again. R237: each condition that takes a link out of UP (a written RETRAIN, loss of symbol
lock, 16 character errors, 4 MARKs without FSTAT) leaves UP, raises SPL_LINK_DOWN, and retrains from step 3 where AUTO_RETRAIN is set; fewer
character errors are only counted. Where the spec leaves it to a reading, this is the model's (log entries 17 and 51). -/
def Obligations.LinkTrainsAndRetrains : Prop :=
  (
    ∀ (t : Nat) (i : Init) (k : Fin 4) (w : Word) (s : State),
      let ofLink := [R.STATUS (spl k), R.STATUS P.DRV, R.STATUS (P.SCNT k), R.SPL_CTRL_STAT k, R.IRQ_STAT (spl k), R.SPL_RETRAINS k]
      (s.accepts t i (R.CTRL (spl k)) (putBit w 0 true) → s.en (spl k) = false → bitOf w 1 = false →
        ∃ u, exec (.linkEnable t i k w) s = .next u ∧ u.en (spl k) = true ∧ u.lstate k = 1 ∧ (u.tile[k]).resetN = false ∧
          u.rf (R.SPL_RETRAINS k) 31 16 = min (s.rf (R.SPL_RETRAINS k) 31 16 + 1) 65535 ∧
          (∀ j, j ≠ k → u.tile[j] = s.tile[j]) ∧ Only (R.CTRL (spl k) :: ofLink) [] s u) ∧
      (s.lstate k = 1 → ∃ u, exec (.tileResetRelease t k) s = .next u ∧ u.lstate k = 2 ∧ (u.tile[k]).resetN = true ∧ Only [R.STATUS (spl k)] [] s u) ∧
      (∀ l : List Byte, s.lstate k = 2 → isTs false (nums l) = true →
        ∃ u, exec (.ts1Lock t ⟨k, l⟩) s = .next u ∧ u.lstate k = 3 ∧ (u.tile[k]).ts = baseSets s k ∧ Only [R.STATUS (spl k)] [] s u) ∧
      (∀ (h f : List Byte) (lanes : Nat), s.lstate k = 3 ∨ s.lstate k = 7 → isTs true (nums (h ++ f)) = true →
        let n := chooseLanes s k (field (nums (h ++ f)) 3 1) lanes; let rate := chooseRate (field (nums (h ++ f)) 2 1) (rateMax s k)
        (n ≠ 0 → ∃ u, exec (.trainStepDone t k h f lanes) s = .next u ∧ u.lstate k = 4 ∧ u.rf (R.STATUS (spl k)) 7 4 = 2 ^ n - 1 ∧
          u.rf (R.STATUS (spl k)) 9 8 = rate ∧ (u.tile[k]).ts = tsSets true (2 ^ n - 1) (2 ^ n - 1) rate ++ tsSets false (2 ^ n - 1) (2 ^ n - 1) 0 ∧
          Only [R.STATUS (spl k)] [] s u) ∧
        (n = 0 → ∃ u, exec (.trainStepDone t k h f lanes) s = .next (raise (Src.SPL_LINK_DOWN k) u) ∧ u.lstate k = 8 ∧
          (u.tile[k]).restart = max s.now t + 100000000 ∧ u.rb (R.IRQ_STAT (spl k)) 1 = true ∧ Only ofLink [] s u)) ∧
      (∀ (h f : List Byte) (lanes : Nat), s.lstate k = 4 → isTs true (nums (h ++ f)) = true →
        ∃ u, exec (.trainStepDone t k h f lanes) s = .next u ∧ u.lstate k = 5 ∧
          (u.tile[k]).ts = tsSets true (s.rf (R.STATUS (spl k)) 7 4) (s.rf (R.STATUS (spl k)) 7 4) (s.rf (R.STATUS (spl k)) 9 8) ∧
          Only [R.STATUS (spl k)] [] s u) ∧
      (s.lstate k = 4 → 0 < s.rf (R.STATUS (spl k)) 9 8 →
        ∃ u, exec (.trainTimeout t k) s = .next u ∧ u.lstate k = 4 ∧
          u.rf (R.STATUS (spl k)) 9 8 = chooseRate (s.tile[k]).rates (s.rf (R.STATUS (spl k)) 9 8 - 1) ∧ Only [R.STATUS (spl k)] [] s u) ∧
      (s.lstate k = 4 → s.rf (R.STATUS (spl k)) 9 8 = 0 → let n := lanesOf (s.rf (R.STATUS (spl k)) 7 4); 1 < n →
        ∃ u, exec (.trainTimeout t k) s = .next u ∧ u.lstate k = (if (s.tile[k]).due = 0 then 3 else 7) ∧ (u.tile[k]).cap = n / 2 ∧
          (u.tile[k]).ts = baseSets { s with tile := s.tile.set k { s.tile[k] with cap := n / 2 } } k ∧ Only [R.STATUS (spl k)] [] s u) ∧
      (s.lstate k = 2 ∨ s.lstate k = 3 ∨ s.lstate k = 5 ∨ s.lstate k = 7 ∨
          s.lstate k = 4 ∧ s.rf (R.STATUS (spl k)) 9 8 = 0 ∧ lanesOf (s.rf (R.STATUS (spl k)) 7 4) ≤ 1 →
        ∃ u, exec (.trainTimeout t k) s = .next (raise (Src.SPL_LINK_DOWN k) u) ∧ u.lstate k = 8 ∧ (u.tile[k]).restart = max s.now t + 100000000 ∧
          u.rb (R.IRQ_STAT (spl k)) 1 = true ∧ Only ofLink [] s u) ∧
      (s.lstate k = 8 → (s.tile[k]).restart ≠ 0 →
        ∃ u, exec (.linkRestart t k) s = .next u ∧ u.lstate k = 1 ∧ (u.tile[k]).resetN = false ∧ (s.tile[k]).restart ≤ u.now ∧ Only ofLink [] s u) ∧
      ((s.tile[k]).due ≠ 0 → s.lstate k = 3 ∨ s.lstate k = 4 ∨ s.lstate k = 5 ∨ s.lstate k = 7 →
        ∃ u, exec (.retrainTimeout t k) s = .next u ∧ u.lstate k = 1 ∧ (s.tile[k]).due ≤ u.now ∧ Only ofLink [] s u)) ∧
  (
    ∀ (t : Nat) (i : Init) (k : Fin 4) (w : Word) (n : Nat) (s : State),
      let ofLink := [R.STATUS (spl k), R.STATUS P.DRV, R.STATUS (P.SCNT k), R.SPL_CTRL_STAT k, R.IRQ_STAT (spl k), R.SPL_RETRAINS k]
      (s.accepts t i (R.CTRL (spl k)) (putBit w 1 true) → s.en (spl k) = true → bitOf w 0 = true → s.lstate k = 8 →
        ∃ u, exec (.retrain t i k w) s = .next u ∧ u.lstate k = 1 ∧ (u.tile[k]).resetN = false ∧ Only (R.CTRL (spl k) :: ofLink) [] s u) ∧
      (s.linkUp k = true →
      (s.accepts t i (R.CTRL (spl k)) (putBit w 1 true) → s.en (spl k) = true → bitOf w 0 = true →
        ∃ u, exec (.retrain t i k w) s = .next (raise (Src.SPL_LINK_DOWN k) u) ∧ u.lstate k = 7 ∧ u.rb (R.IRQ_STAT (spl k)) 1 = true ∧
          (u.tile[k]).due = max s.now t + 20000000 ∧ (u.tile[k]).ts = tsSets false (2 ^ laneMax s k - 1) 0 0 ∧
          Only (R.CTRL (spl k) :: ofLink) [] s u) ∧
      (∃ u, exec (.symbolLockLoss t k) s = .next (raise (Src.SPL_LINK_DOWN k) u) ∧ u.lstate k = (if s.rb (R.CTRL (spl k)) 2 then 7 else 8) ∧
        (u.tile[k]).outst = none ∧ u.rb (R.IRQ_STAT (spl k)) 1 = true ∧ Only ofLink [] s u) ∧
      (n < 16 → ∃ u, exec (.returnCharErrors t k n) s = .next u ∧ u.rd (R.SPL_CV_TOTAL k 4) = word (satAdd 16 (s.rf (R.SPL_CV_TOTAL k 4) 15 0) n) ∧
        u.lstate k = 6 ∧ Only [R.SPL_CV_TOTAL k 4] [R.SPL_STAT_CV k] s u) ∧
      (16 ≤ n → ∃ u, exec (.returnCharErrors t k n) s = .next (raise (Src.SPL_LINK_DOWN k) u) ∧ u.lstate k = (if s.rb (R.CTRL (spl k)) 2 then 7 else 8) ∧
        Only (R.SPL_CV_TOTAL k 4 :: ofLink) [R.SPL_STAT_CV k] s u) ∧
      (4 ≤ (s.tile[k]).noFstat →
        ∃ u, exec (.fstatMissing t k) s = .next (raise (Src.SPL_LINK_DOWN k) u) ∧ u.lstate k = (if s.rb (R.CTRL (spl k)) 2 then 7 else 8) ∧
          Only ofLink [] s u) ∧
      ((s.tile[k]).noFstat < 4 → ∃ u, exec (.fstatMissing t k) s = .next u ∧ u.tile = s.tile ∧ Calm s u)))

/-- R226: GO queues a command behind those waiting and makes SPL_CTRL_STAT BUSY; the next command goes out when none is outstanding, with the next
alive count; a command without ACK is sent again up to three times and then fails; the matching ACK ends it DONE with the tile's data. Where the
spec leaves it to a reading, this is the model's (log entry 50). -/
def Obligations.CtrlCommandsAreAnsweredOrFail : Prop :=
  ∀ (t : Nat) (i : Init) (k : Fin 4) (w : Word) (s : State),
    (s.accepts t i (R.SPL_CTRL_CMD k) w → bitOf w 31 = true → s.rf (R.SPL_CTRL_STAT k) 1 0 ≠ 1 →
      ∃ u, exec (.splCtrlCmd t i k w) s = .next u ∧ u.rd (R.SPL_CTRL_STAT k) = 1#32 ∧
        (u.tile[k]).queue = (s.tile[k]).queue ++ [⟨bitsOf w 7 0, (s.rd (R.SPL_CTRL_ADDR k)).toNat, (s.rd (R.SPL_CTRL_WDATA k)).toNat, 0, 0, 0, 0⟩] ∧
        (∀ j, j ≠ k → u.tile[j] = s.tile[j]) ∧ Only [R.SPL_CTRL_CMD k, R.SPL_CTRL_STAT k] [] s u) ∧
    (∀ c rest, let a := (s.rf (R.SPL_ALIVE k) 7 0 + 1) % 256
      (s.tile[k]).queue = c :: rest → (s.tile[k]).outst = none → ctrlMay (s.at t) k { c with alive := a, tries := 1 } = true →
      ∃ u, exec (.ctrlSend t k) s = .next u ∧ (u.tile[k]).queue = rest ∧ u.rf (R.SPL_ALIVE k) 7 0 = a ∧
        (u.tile[k]).outst = some { c with alive := a, tries := 1, due := max s.now t + s.rf R.SPL_ACK_TIMEOUT 9 0 * 1000 } ∧
        (u.tile[k]).out = (s.tile[k]).out ++ [ctrlPacket { c with alive := a }] ∧ (u.tile[k]).ctrls = (s.tile[k]).ctrls + 1 ∧
        Only [R.SPL_ALIVE k, R.SPL_CTRL_STAT k] [R.SPL_STAT_CTRL k] s u) ∧
    (∀ c, (s.tile[k]).outst = some c → c.tries < 4 → ctrlMay ((s.at t).at c.due) k c = true →
      ∃ u, exec (.ackTimeout t k) s = .next u ∧ (u.tile[k]).outst.map (fun x => x.tries) = some (c.tries + 1) ∧
        (u.tile[k]).out = (s.tile[k]).out ++ [ctrlPacket c] ∧ Only [R.SPL_CTRL_STAT k] [R.SPL_STAT_CTRL k] s u) ∧
    (∀ c, (s.tile[k]).outst = some c → c.tries < 4 → ctrlMay ((s.at t).at c.due) k c = false →
      ∃ u, exec (.ackTimeout t k) s = .next u ∧ u.tile = s.tile ∧ Calm s u) ∧
    (∀ c, (s.tile[k]).outst = some c → 4 ≤ c.tries → c.org = 0 →
      ∃ u, exec (.ackTimeout t k) s = .next (raise (Src.SPL_CTRL_FAIL k) u) ∧ (u.tile[k]).outst = none ∧ u.rf (R.SPL_CTRL_STAT k) 1 0 = 3 ∧
        u.rb (R.IRQ_STAT (spl k)) 3 = true ∧ Only [R.SPL_CTRL_STAT k, R.IRQ_STAT (spl k)] [R.SPL_STAT_CTRL k] s u) ∧
    (∀ (h a p q : List Byte) (x : Rx) (c : CtrlCmd), s.linkUp k = true → parseRx 0x81 (nums (h ++ a ++ p ++ q)) = some x → (s.tile[k]).rxAny = false →
      (s.tile[k]).outst = some c → c.org = 0 → c.alive = x.b3 →
      ∃ u, exec (.ack t k false h a p q) s = .next u ∧ (u.tile[k]).outst = none ∧ u.rd (R.SPL_CTRL_RDATA k) = word x.arg ∧
        u.rf (R.SPL_CTRL_STAT k) 1 0 = 2 ∧ u.rf (R.SPL_CTRL_STAT k) 15 8 = x.b1 ∧ u.rb (R.IRQ_STAT (spl k)) 2 = true ∧
        u.rf (R.SPL_ALIVE k) 15 8 = x.alive ∧
        Only [R.SPL_ALIVE k, R.SPL_CTRL_RDATA k, R.SPL_CTRL_STAT k, R.IRQ_STAT (spl k)] [R.SPL_STAT_RX k] s u)

/-- R219, R224, R229, R232 to R236: a packet that R219 has discarded is counted and nothing else, a repeated one is discarded and counted; a good FSTAT
adds the tile's counts and ends the wait for it; a good DIAG counts its bytes and delivers its records, here the VF record of a frame that has none yet,
or one without an effect of its own; the ENUM of step 5 keeps its record and brings the link UP. Where the spec leaves it to a reading, this is the
model's (log entry 54). -/
def Obligations.ReturnPacketsAreTakenOnce : Prop :=
  ∀ (t : Nat) (k : Fin 4) (err : Bool) (h a p n v q : List Byte) (s : State),
    let f := nums (h ++ a ++ p ++ n ++ v ++ q); let g := nums (h ++ a ++ p ++ q)
    let fresh := fun (type : Nat) (l : List Nat) (x : Rx) => s.linkUp k = true ∧ (s.tile[k]).rxAny = false ∧ parseRx type l = some x
    (s.linkUp k = true → err = true ∨ parseRx 0x84 f = none →
      ∃ u, exec (.fstat t k err h a p n v q) s = .next u ∧
        bitsOf (u.st (R.SPL_STAT_RX k)) 31 16 = min (bitsOf (s.st (R.SPL_STAT_RX k)) 31 16 + 1) 65535 ∧ u.tile = s.tile ∧ Only [] [R.SPL_STAT_RX k] s u) ∧
    (∀ x, s.linkUp k = true → parseRx 0x84 f = some x → (s.tile[k]).rxAny = true → s.rf (R.SPL_ALIVE k) 15 8 = x.alive →
      ∃ u, exec (.fstat t k false h a p n v q) s = .next u ∧ u.tile = s.tile ∧ Only [] [R.SPL_STAT_ALIVE k] s u) ∧
    (∀ x, let cv := fun (j : Nat) => field x.pay (12 + j) 1
      fresh 0x84 f x → (∀ j < 4, cv j < 16) → field x.pay 8 2 = 0 → field x.pay 10 2 = 0 → word (field x.pay 0 4) = s.rd (R.SCN_STAT_FRAME_CRC k) →
      ∃ u, exec (.fstat t k false h a p n v q) s = .next u ∧ (u.tile[k]).noFstat = 0 ∧ u.rf (R.SPL_ALIVE k) 15 8 = x.alive ∧
        (∀ j : Fin 4, u.rd (R.SPL_CV_TOTAL k j) = word (satAdd 16 (s.rf (R.SPL_CV_TOTAL k j) 15 0) (cv j))) ∧
        Only [R.SPL_ALIVE k, R.SPL_CV_TOTAL k 0, R.SPL_CV_TOTAL k 1, R.SPL_CV_TOTAL k 2, R.SPL_CV_TOTAL k 3] [R.SPL_STAT_RX k, R.SPL_STAT_CV k, R.SPL_STAT_TILE k] s u) ∧
    (∀ x, fresh 0x82 g x → s.rb (R.CTRL (spl k)) 3 = false → (s.tile[k]).probes = [] → s.tickNum < fullFrame s x.arg + 2 →
      (∀ d, recordsOf x.pay = some [d] → 0x80 ≤ d.type →
        ∃ u, exec (.diag t k false h a p q) s = .next u ∧
          bitsOf (u.st (R.SPL_STAT_DIAG k)) 23 0 = min (bitsOf (s.st (R.SPL_STAT_DIAG k)) 23 0 + x.pay.length) 16777215 ∧
          u.rf (R.SPL_ALIVE k) 15 8 = x.alive ∧ Only [R.SPL_ALIVE k] [R.SPL_STAT_RX k, R.SPL_STAT_DIAG k] s u) ∧
      (∀ d, recordsOf x.pay = some [d] → d.type = 3 → (s.tile[k]).vfFrame ≠ fullFrame s x.arg →
        ∃ u, exec (.diag t k false h a p q) s = .next u ∧ u.rd (R.DRV_TILE_VF k) = word (65536 + bitsOf (d.w 1) 15 0) ∧
          (u.tile[k]).vfFrame = fullFrame s x.arg ∧ u.ctl.vfSeq[k] = s.ctl.vfSeq[k] + 1 ∧
          Only [R.SPL_ALIVE k, R.DRV_TILE_VF k] [R.SPL_STAT_RX k, R.SPL_STAT_DIAG k] s u)) ∧
    (∀ x, s.lstate k = 5 → parseRx 0x83 (nums (p ++ q)) = some x → recordOk x.pay = true → laneMax s k ≤ lanesOf (s.rf (R.STATUS (spl k)) 7 4) →
      rateMax s k ≤ s.rf (R.STATUS (spl k)) 9 8 → s.rb (R.CTRL (spl k)) 4 = false →
      ∃ u, exec (.enum t k false p q) s = .next (startProgress (readyWins u)) ∧ u.lstate k = 6 ∧ u.rb (R.IRQ_STAT (spl k)) 0 = true ∧
        (∀ j : Fin 24, u.rd (R.SPL_ENUM k j) = word (field x.pay (4 * j) 4)) ∧ (u.tile[k]).due = 0 ∧ ∀ b, u.ld b = s.ld b)

/-- R253, R254, R263, R266, R274: DRV_FN_KILL switches off every function it names that is on, with cause KILL and the tick, and raises
DRV_FUNC_OFF for each; DRV_FN_CLEAR of a function removes its defect entries, zeroes DEFECTS and switches it on; DELETE moves the last entry of the
defect table into the place of the one removed; every probe group whose time is past and that is not in fault yet goes into fault with
DRV_COVERAGE. Where the spec leaves it to a reading, this is the model's (log entries 52 and 53). -/
def Obligations.FunctionsGoOffAndDefectsAreRemoved : Prop :=
  ∀ (t : Nat) (i : Init) (w : Word) (s : State),
    let table := (List.range 512).map fun e => R.DRV_DEF e
    (let l := (List.range 32).filter fun f => bitOf w f && !s.rb R.DRV_FN_OFF f;
      s.accepts t i R.DRV_FN_KILL w → l ≠ [] →
      ∃ u, exec (.drvFnKill t i w) s = .next (raiseAll (l.map fun _ => ⟨Src.DRV_FUNC_OFF, true, false⟩) u) ∧
        (∀ f < 32, u.rb R.DRV_FN_OFF f = (s.rb R.DRV_FN_OFF f || bitOf w f)) ∧
        (∀ f ∈ l, u.rb (R.DRV_FN_STAT f) 0 = true ∧ u.rf (R.DRV_FN_STAT f) 3 1 = 3 ∧ u.rf (R.DRV_FN_STAT f) 31 16 = s.tickNum % 65536 ∧
          u.rf (R.DRV_FN_STAT f) 15 8 = s.rf (R.DRV_FN_STAT f) 15 8) ∧
        u.rb (R.IRQ_STAT P.DRV) 1 = true ∧
        Only ([R.DRV_FN_KILL, R.DRV_FN_OFF, R.IRQ_STAT P.DRV] ++ l.map fun f => R.DRV_FN_STAT f) [] s u) ∧
    (∀ f < 32, s.accepts t i R.DRV_FN_CLEAR w → (∀ g < 32, bitOf w g = decide (g = f)) → s.rf R.DRV_DEF_COUNT 9 0 ≤ 512 →
      ∃ u, exec (.drvFnClear t i w) s = .next u ∧ (∀ g < 32, u.rb R.DRV_FN_OFF g = (s.rb R.DRV_FN_OFF g && decide (g ≠ f))) ∧
        u.rf (R.DRV_FN_STAT f) 15 8 = 0 ∧ defects u = (defects s).filter (fun d => bitsOf d 31 24 != f) ∧
        Only (R.DRV_FN_CLEAR :: R.DRV_FN_OFF :: R.DRV_FN_STAT f :: R.DRV_DEF_COUNT :: table) [] s u) ∧
    (let n := s.rf R.DRV_DEF_COUNT 9 0; let k := bitsOf w 8 0;
      s.accepts t i R.DRV_DEF_CMD w → bitOf w 31 = true → k < n → n ≤ 512 →
      ∃ u, exec (.drvDefDelete t i w) s = .next u ∧ u.rf R.DRV_DEF_COUNT 9 0 = n - 1 ∧ u.rd (R.DRV_DEF (n - 1)) = 0#32 ∧
        (∀ e < n - 1, u.rd (R.DRV_DEF e) = s.rd (R.DRV_DEF (if e = k then n - 1 else e))) ∧
        Only (R.DRV_DEF_CMD :: R.DRV_DEF_COUNT :: table) [] s u) ∧
    (∀ k : Fin 4, s.en P.DRV = true → s.tile[k].probing = true → s.lampKind ≠ 0 →
      let due := (List.range s.tile[k].gnEff).filter fun g => decide (groupSince s.tile[k] g + coverLimit s ≤ max s.now t) && !s.tile[k].fault.contains g
      (due = [] → ∃ u, exec (.drvCoverage t k) s = .next u ∧ u.tile = s.tile ∧ Calm s u) ∧
      (due ≠ [] → ∃ u, exec (.drvCoverage t k) s = .next (raiseAll (due.map fun _ => ⟨Src.DRV_COVERAGE k, true, false⟩) u) ∧
        u.tile[k].fault = s.tile[k].fault ++ due ∧ u.rb (R.IRQ_STAT P.DRV) 2 = true ∧ Only [R.IRQ_STAT P.DRV] [] s u))

/-- R268, R270: what each instruction of a sequencer that is RUNNING or WAITING does to V, the counters, PC, STATE and REMAIN: only the sequencer's
registers and its own state change, and at END its IRQ_STAT bit. R268, R269: N = 0 in RAMP or HOLD, and a constant of 0 in WAIT_TICK or SYNC, stop the
sequencer with error BAD_FIELD and raise PAT_FAULT; any instruction at a sequencer that does not run does nothing. Where the spec leaves it to a
reading, this is the model's (log entries 55 and 149). -/
def Obligations.PatternInstructionsDoAsTabled : Prop :=
  (
    ∀ (t : Nat) (q : Fin 16) (s : State), s.en P.PAT = true → s.rf (R.PAT_STATE q) 10 8 = 1 ∨ s.rf (R.PAT_STATE q) 10 8 = 2 →
      let st := R.PAT_STATE q
      let pc1 := min 255 (s.rf st 7 0 + 1)
      let K := fun k : Fin 32 => sget 0#32 (32 * q.val + k.val) s.pat.k
      let seq := fun x : PatSeq => { s.pat with seq := s.pat.seq.set q x }
      (∃ u, exec (.patEnd t q) s = .next u ∧ u.rf st 10 8 = 3 ∧ u.rf st 31 16 = 0 ∧ u.rf st 7 0 = s.rf st 7 0 ∧ u.rf st 15 12 = s.rf st 15 12 ∧
        u.rb (R.IRQ_STAT P.PAT) 0 = true ∧ u.pat = s.pat ∧ Only [st, R.IRQ_STAT P.PAT] [] s u) ∧
      (∀ (r : Fin 4) (k : Fin 32),
        (∃ u, exec (.patSet t q r k) s = .next u ∧ u.rd (R.PAT_V q r) = K k ∧ u.rf st 7 0 = pc1 ∧ u.rf st 31 8 = s.rf st 31 8 ∧ u.pat = s.pat ∧
          Only [st, R.PAT_V q r] [] s u) ∧
        (∃ u, exec (.patAdd t q r k) s = .next u ∧ sw (u.rd (R.PAT_V q r)) = satS 32 (sw (s.rd (R.PAT_V q r)) + sw (K k)) ∧ u.rf st 7 0 = pc1 ∧
          u.rf st 31 8 = s.rf st 31 8 ∧ u.pat = s.pat ∧ Only [st, R.PAT_V q r] [] s u) ∧
        (∀ n : Fin 4096, n.val ≠ 0 → let v := sw (s.rd (R.PAT_V q r))
          ∃ u, exec (.patRamp t q r k n) s = .next u ∧ sw (u.rd (R.PAT_V q r)) = satS 32 (v + rdiv (sw (K k) - v) n) ∧ u.rf st 7 0 = pc1 ∧
            u.rf st 10 8 = 1 ∧ u.rf st 15 11 = s.rf st 15 11 ∧ u.rf st 31 16 = n - 1 ∧
            u.pat = seq { s.pat.seq[q] with ramp := if 1 < n.val then some ⟨r, v, sw (K k), n, 1⟩ else none } ∧ Only [st, R.PAT_V q r] [] s u)) ∧
      (∀ n : Fin 65536, n.val ≠ 0 → ∃ u, exec (.patHold t q n) s = .next u ∧ u.rf st 7 0 = pc1 ∧ u.rf st 10 8 = 2 ∧ u.rf st 15 11 = s.rf st 15 11 ∧
        u.rf st 31 16 = n - 1 ∧ u.pat = seq { s.pat.seq[q] with hold := n - 1 } ∧ Only [st] [] s u) ∧
      (∀ (ci : Bool) (addr : Fin 256) (count : Fin 65536),
        let x := s.pat.seq[q]
        let c := if ci then x.c1 else x.c0
        let again := count.val = 0 ∨ c + 1 < count.val
        let c' := if again then min 65535 (c + 1) else 0
        ∃ u, exec (.patLoop t q ci addr count) s = .next u ∧ u.rf st 7 0 = (if again then addr.val else pc1) ∧ u.rf st 31 8 = s.rf st 31 8 ∧
          u.pat = seq (if ci then { x with c1 := c' } else { x with c0 := c' }) ∧ Only [st] [] s u) ∧
      (∀ k : Fin 32, K k ≠ 0#32 →
        (let go := s.tickNum % (K k).toNat = 0
         ∃ u, exec (.patWaitTick t q k) s = .next u ∧ u.rf st 7 0 = (if go then pc1 else s.rf st 7 0) ∧ u.rf st 10 8 = (if go then 1 else 2) ∧
          u.rf st 31 11 = s.rf st 31 11 ∧ u.pat = s.pat ∧ Only [st] [] s u) ∧
        (let go := releaseTick (s.at t) q (K k).toNat
         ∃ u, exec (.patSync t q k) s = .next u ∧ u.rf st 7 0 = (if go then pc1 else s.rf st 7 0) ∧ u.rf st 10 8 = (if go then 1 else 2) ∧
          u.rf st 31 11 = s.rf st 31 11 ∧ u.pat = s.pat ∧ Only [st] [] s u)) ∧
      (∀ (pol : Bool) (addr : Fin 256) (flag : Fin 16),
        ∃ u, exec (.patBranchFlag t q pol addr flag) s = .next u ∧ u.rf st 7 0 = (if patFlag s flag = pol then addr.val else pc1) ∧
          u.rf st 31 8 = s.rf st 31 8 ∧ u.pat = s.pat ∧ Only [st] [] s u)) ∧
  (
    ∀ (t : Nat) (q : Fin 16) (r : Fin 4) (k : Fin 32) (s : State),
      let st := R.PAT_STATE q
      (s.en P.PAT = true → s.rf st 10 8 = 1 ∨ s.rf st 10 8 = 2 →
        ∀ c, (c = Instr.patRamp t q r k 0 ∨ c = Instr.patHold t q 0 ∨
            sget 0#32 (32 * q.val + k.val) s.pat.k = 0#32 ∧ (c = Instr.patWaitTick t q k ∨ c = Instr.patSync t q k)) →
          ∃ u, exec c s = .next (raise Src.PAT_FAULT u) ∧ u.rf st 10 8 = 4 ∧ u.rf st 15 12 = 3 ∧ u.rf st 31 16 = 0 ∧ u.rf st 7 0 = s.rf st 7 0 ∧
            u.rb (R.IRQ_STAT P.PAT) 1 = true ∧ u.pat = s.pat ∧ Only [st, R.IRQ_STAT P.PAT] [] s u) ∧
      (s.en P.PAT = false ∨ (s.rf st 10 8 ≠ 1 ∧ s.rf st 10 8 ≠ 2) →
        ∀ (n : Fin 4096) (m count : Fin 65536) (b : Bool) (addr : Fin 256) (flag : Fin 16) (c : Instr),
          c ∈ [Instr.patEnd t q, .patSet t q r k, .patAdd t q r k, .patRamp t q r k n, .patHold t q m, .patLoop t q b addr count,
            .patWaitTick t q k, .patSync t q k, .patBranchFlag t q b addr flag] →
          ∃ u, exec c s = .next u ∧ u.pat = s.pat ∧ Calm s u))

/-- R273, R275: a write of PAT_PROG_DATA stores the word of a sequencer that is stopped and advances the address, and for a sequencer that runs it
is dropped and raises CFG_LIVE_WRITE; a write of PAT_K_DATA goes to the constant's shadow and sets DIRTY; reads give the word, or the shadow; each
access advances its address. -/
def Obligations.ProgramAndConstantWindows : Prop :=
  ∀ (t : Nat) (i : Init) (w : Word) (s : State),
    let a := s.rf R.PAT_PROG_ADDR 11 0; let k := s.rf R.PAT_K_ADDR 8 0
    let free := s.rb R.PAT_RUN (a / 256) = false ∧ bitOf (s.sh R.PAT_RUN) (a / 256) = false
    (s.accepts t i R.PAT_PROG_DATA w → free →
      ∃ u, exec (.patProgData t i (some w)) s = .next u ∧ sget 0#32 a u.pat.prog = w ∧ (∀ b, b ≠ a → sget 0#32 b u.pat.prog = sget 0#32 b s.pat.prog) ∧
        u.rf R.PAT_PROG_ADDR 11 0 = (a + 1) % 4096 ∧ u.pat.k = s.pat.k ∧ u.pat.seq = s.pat.seq ∧
        Only [R.PAT_PROG_DATA, R.PAT_PROG_ADDR] [] s u) ∧
    (s.accepts t i R.PAT_PROG_DATA w → ¬free →
      ∃ u, exec (.patProgData t i (some w)) s = .next (raise Src.CFG_LIVE_WRITE u) ∧ u.pat = s.pat ∧ u.rf R.PAT_PROG_ADDR 11 0 = (a + 1) % 4096 ∧
        Only [R.PAT_PROG_DATA, R.PAT_PROG_ADDR] [] s u) ∧
    ((s.at t).answers P.PAT = true →
      ∃ u, exec (.patProgData t i none) s = .next u ∧ u.bus = ⟨sget 0#32 a s.pat.prog, false⟩ ∧ u.rf R.PAT_PROG_ADDR 11 0 = (a + 1) % 4096 ∧
        u.pat = s.pat ∧ Only [R.PAT_PROG_ADDR] [] s u) ∧
    (s.accepts t i R.PAT_K_DATA w →
      ∃ u, exec (.patKData t i (some w)) s = .next u ∧ sget 0#32 k u.pat.kSh = w ∧ (∀ b, b ≠ k → sget 0#32 b u.pat.kSh = sget 0#32 b s.pat.kSh) ∧
        u.pat.k = s.pat.k ∧ u.rf R.PAT_K_ADDR 8 0 = (k + 1) % 512 ∧ u.rb (R.COMMIT P.PAT) 8 = true ∧ (∀ b, b ≠ R.PAT_K_DATA → u.sh b = s.sh b) ∧
        (∀ b, b ≠ R.PAT_K_DATA → b ≠ R.PAT_K_ADDR → b ≠ R.COMMIT P.PAT → u.rd b = s.rd b)) ∧
    ((s.at t).answers P.PAT = true →
      ∃ u, exec (.patKData t i none) s = .next u ∧ u.bus = ⟨sget 0#32 k s.pat.kSh, false⟩ ∧ u.rf R.PAT_K_ADDR 8 0 = (k + 1) % 512 ∧
        u.pat = s.pat ∧ Only [R.PAT_K_ADDR] [] s u)

/-- R325 to R329: the commands of a loop. HOLD takes a loop in RUN to HOLD with its cause; RESUME in HOLD clears FADE and lets the loop run at its
next sample; INJ_START waits for the next sample in SERVICE and FACTORY and shows MODE elsewhere; INJ_STOP ends an injection with STOPPED; CAP_ARM
arms a capture, CAP_TRIG triggers one that waits for software. A loop that leaves RUN makes the fallback look at its loads again (fbChecks, R213). Where the spec leaves it to a reading, this is the model's (log entries 58, 60 and
61). -/
def Obligations.LoopCommandsActAsWritten : Prop :=
  ∀ (t : Nat) (i : Init) (k : Fin 16) (s : State),
    let cmd := R.CTL_LOOP_CMD k; let st := R.STATUS (P.CTLK k); let p := P.CTLK k
    (s.accepts t i cmd 1#32 → s.rf st 1 0 = 1 → s.rb (R.CTL_LOOP_INJ_STAT k) 0 = false → s.ctl.loop[k].injWait = false → s.ctl.loop[k].armed = false →
      ∃ u, exec (.loopHold t i k 0#32) s = .next (fbChecks u) ∧ u.rf st 1 0 = 2 ∧ u.rf st 4 2 = 3 ∧ u.rb (R.STATUS P.CTL) k = false ∧
        u.rb (R.STATUS P.CTL) (16 + k) = true ∧ u.rb (R.IRQ_STAT p) 0 = true ∧ u.rb (R.CTL_LOOP_EST k) 16 = false ∧
        u.ctl.loop[k].notch = Vector.replicate 8 0 ∧ u.ctl.loop[k].r = s.ctl.loop[k].r ∧
        Only [cmd, st, R.STATUS P.CTL, R.IRQ_STAT p, R.CTL_LOOP_EST k] [] s u) ∧
    (s.accepts t i cmd 2#32 → s.rf st 1 0 = 2 → s.ctl.loop[k].bar = false →
      ∃ u, exec (.loopResume t i k 0#32) s = .next u ∧ u.rf (R.CTL_LOOP_RC_STAT k) 6 0 = 0 ∧ u.ctl.loop[k].resume = true ∧ u.rf st 1 0 = 2 ∧
        Only [cmd, R.CTL_LOOP_RC_STAT k] [] s u) ∧
    (s.accepts t i cmd 2#32 → s.rf st 1 0 ≠ 2 → ∃ u, exec (.loopResume t i k 0#32) s = .next u ∧ u.ctl = s.ctl ∧ Only [cmd] [] s u) ∧
    (s.accepts t i cmd 4#32 → s.rf R.SYS_MODE 3 0 = 6 ∨ s.rf R.SYS_MODE 3 0 = 0 → s.rb (R.CTL_LOOP_INJ_STAT k) 0 = false →
      ∃ u, exec (.injStart t i k 0#32) s = .next u ∧ u.ctl.loop[k].injWait = true ∧ Only [cmd] [] s u) ∧
    (s.accepts t i cmd 4#32 → s.rf R.SYS_MODE 3 0 ≠ 6 → s.rf R.SYS_MODE 3 0 ≠ 0 →
      ∃ u, exec (.injStart t i k 0#32) s = .next u ∧ u.rf (R.CTL_LOOP_INJ_STAT k) 3 1 = 3 ∧ u.ctl = s.ctl ∧
        Only [cmd, R.CTL_LOOP_INJ_STAT k] [] s u) ∧
    (s.accepts t i cmd 8#32 → s.rb (R.CTL_LOOP_INJ_STAT k) 0 = true →
      ∃ u, exec (.injStop t i k 0#32) s = .next u ∧ u.rf (R.CTL_LOOP_INJ_STAT k) 3 1 = 2 ∧ u.rb (R.CTL_LOOP_INJ_STAT k) 0 = false ∧
        u.rb (R.IRQ_STAT p) 3 = true ∧ u.ctl.loop[k].injWait = false ∧ Only [cmd, R.CTL_LOOP_INJ_STAT k, st, R.IRQ_STAT p] [] s u) ∧
    (s.accepts t i cmd 16#32 → s.ctl.loop[k].armed = false →
      ∃ u, exec (.capArm t i k 0#32) s = .next u ∧ u.ctl.loop[k].armed = true ∧ u.ctl.loop[k].trig = false ∧ u.rd (R.CTL_LOOP_CAP_WR k) = 0#32 ∧
        u.rb st 6 = true ∧ Only [cmd, R.CTL_LOOP_CAP_WR k, st] [] s u) ∧
    (s.accepts t i cmd 16#32 → s.ctl.loop[k].armed = true → ∃ u, exec (.capArm t i k 0#32) s = .next u ∧ u.ctl = s.ctl ∧ Only [cmd] [] s u) ∧
    (s.accepts t i cmd 32#32 → s.ctl.loop[k].armed = true → s.ctl.loop[k].trig = false → s.rf (R.CTL_LOOP_CAP_CFG k) 27 25 = 0 →
        s.rb (R.CTL_LOOP_CAP_CFG k) 24 = false →
      ∃ u, exec (.capTrig t i k 0#32) s = .next u ∧ u.ctl.loop[k].trig = true ∧ u.ctl.loop[k].left = max 1 (s.rf (R.CTL_LOOP_CAP_LEN k) 16 0) ∧
        Only [cmd] [] s u)

/-- R330, R331, R334, R310: at a carrier start of an output that is on, its on-time is (duty × Lc + 0x8000) >> 16 steps, 0 below MINON, at the phase
(PHASE × Lc + 0x80) >> 8, with the duty of the register or of its loop's command; one that is off, or whose loop is OFF, becomes inactive, and in MODE
LOOP no carrier starts at any other instant; a conversion shows its code and tick in ADC_CH_LAST and joins the interval's sum, in LOOP only for the coming sample of
the loop that names the channel; a sample of a loop that is OFF, or beyond the interval's samples, changes nothing of it; any other sample that is not late advances the
loop, keeps its commands within U_MIN and U_MAX and changes no register outside the loop's pages and the converters' and no memory but what a capture may write.
A sample may make blocks READY and the fallback look at its loads again (readyWins, fbChecks). Where the spec leaves it to a reading, this is the
model's (log entries 59, 63 and 181). -/
def Obligations.CarriersConversionsAndSamples : Prop :=
  ∀ (t : Nat) (s : State),
    (∀ o : Fin 16, s.pageOn P.PWM = true →
      let k : Fin 16 := Fin.ofNat 16 (s.rf (R.PWM_CFG o) 7 4); let byLoop := s.rb (R.PWM_CFG o) 10; let off := s.rf (R.STATUS (P.CTLK k)) 1 0 = 0
      (∀ due, carrierTime (s.at t) o = some due → s.en P.PWM = true → s.rb (R.PWM_CFG o) 0 = true → (byLoop = true → ¬off) →
        let lc := if s.rb (R.PWM_CFG o) 1 then (rndDiv (16 * frameCounts s : Nat) (max 1 s.ctl.loop[k].n)).toNat else 16 * s.rf (R.PWM_PERIOD o) 19 0
        let duty := if byLoop then clampN 0 0xFFFF (sw (carrierCommand s k (Fin.ofNat 4 (s.rf (R.PWM_CFG o) 9 8)) due)) else s.rf (R.PWM_DUTY o) 15 0
        let on := (duty * lc + 0x8000) / 2 ^ 16
        ∃ u, exec (.carrierStart t o) s = .next u ∧ u.ctl.pwm[o].active = true ∧
          u.ctl.pwm[o].start = (s.rf (R.PWM_CFG o) 23 16 * lc + 0x80) / 2 ^ 8 ∧
          u.ctl.pwm[o].on = (if on < s.rf (R.PWM_MINON o) 11 0 then 0 else on) ∧ u.rb (R.STATUS P.PWM) o = true ∧
          (∀ j : Fin 16, j ≠ o → u.ctl.pwm[j] = s.ctl.pwm[j]) ∧ Only [R.STATUS P.PWM] [] s u) ∧
      (∀ due, carrierTime (s.at t) o = some due → (s.en P.PWM = false ∨ s.rb (R.PWM_CFG o) 0 = false ∨ byLoop = true ∧ off) →
        ∃ u, exec (.carrierStart t o) s = .next u ∧ u.ctl.pwm[o].active = false ∧ u.rb (R.STATUS P.PWM) o = false ∧
          (∀ j : Fin 16, j ≠ o → u.ctl.pwm[j] = s.ctl.pwm[j]) ∧ Only [R.STATUS P.PWM] [] s u) ∧
      (s.rb (R.PWM_CFG o) 1 = true → off → ∃ u, exec (.carrierStart t o) s = .next u ∧ u.ctl = s.ctl ∧ Calm s u)) ∧
    (∀ (c : Fin 16) (code : Fin 4096), s.pageOn P.ADC = true → s.en P.ADC = true →
      (s.rf (R.ADC_CH_CFG c) 1 0 = 2 ∨ s.rf (R.ADC_CH_CFG c) 1 0 = 1 ∧ (convLoop s c).isSome = true ∧ s.ctl.conv[c] = false →
        ∃ u, exec (.adcConversion t c code) s = .next u ∧ u.rf (R.ADC_CH_LAST c) 11 0 = code ∧ u.rf (R.ADC_CH_LAST c) 31 16 = s.tickNum % 65536 ∧
          u.ctl.adcSum[c] = s.ctl.adcSum[c] + code ∧ u.ctl.adcCnt[c] = s.ctl.adcCnt[c] + 1 ∧ Only [R.ADC_CH_LAST c] [] s u) ∧
      (s.rf (R.ADC_CH_CFG c) 1 0 = 0 ∨ s.rf (R.ADC_CH_CFG c) 1 0 = 1 ∧ (convLoop s c = none ∨ s.ctl.conv[c] = true) →
        ∃ u, exec (.adcConversion t c code) s = .next u ∧ u.ctl = s.ctl ∧ Calm s u)) ∧
    (∀ (k : Fin 16) (late : Bool), s.rf (R.STATUS (P.CTLK k)) 1 0 = 0 ∨ s.ctl.loop[k].n ≤ s.ctl.loop[k].m →
      ∃ u, exec (.loopSample t k late) s = .next (fbChecks (readyWins u)) ∧ u.ctl = s.ctl ∧ Calm s u) ∧
    (∀ k : Fin 16, s.rf (R.STATUS (P.CTLK k)) 1 0 ≠ 0 → s.ctl.loop[k].m < s.ctl.loop[k].n →
      (∀ j < 4, s.rd (R.CTL_LOOP_RESB k j) = 0#32 ∧ s.rf (R.CTL_LOOP_FRZ k j) 15 0 = 0) →
      ∃ u, exec (.loopSample t k false) s = .next (fbChecks (readyWins u)) ∧ u.ctl.loop[k].m = s.ctl.loop[k].m + 1 ∧
        (u.st (R.CTL_LOOP_STAT_SAMPLES k)).toNat % 2 ^ 16 = min (2 ^ 16 - 1) ((s.st (R.CTL_LOOP_STAT_SAMPLES k)).toNat % 2 ^ 16 + 1) ∧
        (∀ j ≤ s.rf (R.CTL_LOOP_CFG k) 17 16, sw (u.rd (R.CTL_LOOP_U k j)) ≤ sw (s.rd (R.CTL_LOOP_U_MAX k j)) ∧
          (s.rf (R.STATUS (P.CTLK k)) 1 0 = 1 → sw (s.rd (R.CTL_LOOP_U_MIN k j)) ≤ sw (s.rd (R.CTL_LOOP_U_MAX k j)) →
            sw (s.rd (R.CTL_LOOP_U_MIN k j)) ≤ sw (u.rd (R.CTL_LOOP_U k j)))) ∧
        (∀ a, pageOf a ≠ P.CTLK k → pageOf a ≠ P.CTL → pageOf a ≠ P.ADC → u.rd a = s.rd a) ∧ (∀ a, regionOf a ≠ .ret → u.ld a = s.ld a) ∧ u.nv = s.nv)

/-- R276 to R297: a receiver that is off takes nothing; a Frame Start opens the frame of a LIST stream; a packet of an unknown type is counted and
ignored, and so is any packet with a non-zero VCX field; the clock lane's stop after a short packet clears STATUS bit 4; an uncorrectable header marks every open frame; a short packet, a deskew and ultra-low power change nothing of a frame; a line of 16-bit
values goes to its place in the entry; a frame that ends is shown, and one that ends with an error is counted, shown and raises VIN_FRAME_ERR; a
start-of-transmission error raises VIN_PHY_ERR. A capture time is taken up or counted as skipped, EN loads LOOK's program into its engine, and an image
with a model that fails its check raises LOOK_MODEL_CRC. Where the spec leaves it to a reading, this is the model's (log entries 56, 62, 126 and
145). -/
def Obligations.ReceiversAndLookTakeTheirEvents : Prop :=
  ∀ (t : Nat) (i : Fin 2) (vc : Fin 4) (s : State),
    let st := R.STATUS (P.VIN i); let pkt := R.VIN_STAT_PKT i; let on := s.en (P.VIN i) = true ∧ s.pageOn (P.VIN i) = true
    let look := R.STATUS P.LOOK; let prog := (Config.beamProgram true).take 0x40000; let base := 0x08000000 + 0x40000 * s.rf R.LOOK_BEAM_SEL 2 0
    let asks := fun (u : State) => u.look = { s.look with want := true }
    (¬on → (∀ num h, ∃ u, exec (.vinFrameStart t i vc num h) s = .next u ∧ u.vin = s.vin ∧ Calm s u) ∧
      (∀ dt vcx fixed crc ovf l, ∃ u, exec (.vinLongPacket t i vc dt vcx fixed crc ovf l) s = .next u ∧ u.vin = s.vin ∧ Calm s u) ∧
      (∀ h, ∃ u, exec (.vinFrameEnd t i vc h) s = .next u ∧ u.vin = s.vin ∧ Calm s u) ∧
      (∃ u, exec (.headerEccError t i) s = .next u ∧ u.vin = s.vin ∧ Calm s u) ∧ ∃ u, exec (.sotError t i) s = .next u ∧ u.vin = s.vin ∧ Calm s u) ∧
    (on → ∀ (k : Fin 4) (num : Fin 65536), s.rf (R.VIN_S_CFG i k) 2 1 = vc → s.rb (R.VIN_S_CFG i k) 0 = true → s.rf (R.VIN_S_CFG i k) 17 16 = 1 →
      s.en P.LOOK = false →
      (∀ j : Fin 4, j ≠ k → s.rb (R.VIN_S_CFG i j) 0 = false ∨ s.rf (R.VIN_S_CFG i j) 2 1 ≠ vc) → (∀ j : Fin 4, s.vframe i j = none) →
      ∃ u, exec (.vinFrameStart t i vc num ⟨false, false, false⟩) s = .next u ∧ u.rb st k = true ∧ u.rb st 4 = true ∧
        (∃ f, u.vframe i k = some f ∧ f.cfg = s.rd (R.VIN_S_CFG i k) ∧ f.num = num ∧ f.err = 0 ∧ f.bytes = 0) ∧
        (∀ j : Fin 4, j ≠ k → u.vframe i j = none) ∧ Only [st] [] s u) ∧
    (on → ∀ (dt : Fin 64) (vcx : Bool) (crc ovf : Bool) (l : List Byte), vcx = true ∨ dtSupported s i dt = false ∧ (∀ k, openOn s i vc k = none) →
      ∃ u, exec (.vinLongPacket t i vc dt vcx false crc ovf l) s = .next u ∧ u.vin = s.vin ∧
        bitsOf (u.st pkt) 31 24 = min 255 (bitsOf (s.st pkt) 31 24 + 1) ∧ Only [st] [pkt] s u) ∧
    (on → ∀ (dt : Fin 64) (l : List Byte), dtSupported s i dt = true → (∀ k, openOn s i vc k = none) →
      ∃ u, exec (.vinLongPacket t i vc dt false false false false l) s = .next u ∧ u.vin = s.vin ∧
        bitsOf (u.st pkt) 23 16 = min 255 (bitsOf (s.st pkt) 23 16 + 1) ∧ Only [st] [pkt] s u) ∧
    (on → ∃ u, exec (.headerEccError t i) s = .next u ∧
      (∀ k : Fin 4, u.vframe i k = (s.vframe i k).map fun f => if f.err = 0 then { f with err := 3 } else f) ∧
      (∀ a, a ≠ st → u.rd a = s.rd a) ∧ ∀ a, u.ld a = s.ld a) ∧
    (on → ∀ (k : Fin 4) (f : VinFrame), openOn s i vc k = some f → (∀ j, j ≠ k → openOn s i vc j = none) → f.err ≠ 0 → f.entry = none → f.look = false →
      bitsOf f.cfg 17 16 = 0 →
      ∃ u, exec (.vinFrameEnd t i vc ⟨false, false, false⟩) s = .next (closeWins (fun r => r == .frame i) (raise (Src.VIN_FRAME_ERR i) u)) ∧ u.vframe i k = none ∧
        u.rf (R.VIN_S_STAT i k) 15 12 = f.err % 16 ∧ u.rb (R.IRQ_STAT (P.VIN i)) 1 = true ∧ u.rb st k = false ∧
        bitsOf (u.st (R.VIN_STAT_FRAMES i)) 31 16 = min 65535 (bitsOf (s.st (R.VIN_STAT_FRAMES i)) 31 16 + 1) ∧
        Only [st, R.VIN_S_STAT i k, R.IRQ_STAT (P.VIN i)] [R.VIN_STAT_FRAMES i] s u) ∧
    (on → ∀ (k : Fin 4) (f : VinFrame), openOn s i vc k = some f → (∀ j, j ≠ k → openOn s i vc j = none) → f.err = 0 → f.look = false →
      bitsOf f.cfg 17 16 = 0 →
      let shown := fun (u : State) => u.vframe i k = none ∧ u.rf (R.VIN_S_STAT i k) 31 16 = f.num % 65536 ∧ u.rd (R.VIN_S_FS_TIME_LO i k) = word f.fs ∧
        u.vin.hi[strm i k] = word (f.fs / 2 ^ 32) ∧ bitsOf (u.st (R.VIN_STAT_FRAMES i)) 15 0 = min 65535 (bitsOf (s.st (R.VIN_STAT_FRAMES i)) 15 0 + 1)
      (f.entry = none → f.skip = true →
        ∃ u, exec (.vinFrameEnd t i vc ⟨false, false, false⟩) s = .next u ∧ u.vframe i k = none ∧ u.rb st k = false ∧ Only [st] [] s u) ∧
      (f.entry = none → f.skip = false → ∃ u, exec (.vinFrameEnd t i vc ⟨false, false, false⟩) s = .next u ∧ shown u ∧ u.rb st k = false ∧
        Only [st, R.VIN_S_STAT i k, R.VIN_S_FS_TIME_LO i k] [R.VIN_STAT_FRAMES i] s u) ∧
      (∀ e, f.entry = some e → e < 256 → f.lines = (s.buf e).h → f.skip = false → bitOf f.cfg 23 = false → bitOf f.cfg 18 = false → bitOf f.route 0 = false →
        ∃ u, exec (.vinFrameEnd t i vc ⟨false, false, false⟩) s = .next u ∧ shown u ∧ u.rf (R.VIN_S_STAT i k) 7 0 = e ∧ u.rb (R.IRQ_STAT (P.VIN i)) 0 = true ∧
          Only [st, R.VIN_S_STAT i k, R.VIN_S_FS_TIME_LO i k, R.IRQ_STAT (P.VIN i)] [R.VIN_STAT_FRAMES i] s u)) ∧
    (on → ∀ (k : Fin 4) (f : VinFrame) (e : Nat) (l : List Byte), openOn s i vc k = some f → (∀ j, j ≠ k → openOn s i vc j = none) → f.look = false →
      s.flt.due = [] → bitsOf f.cfg 17 16 = 0 → bitsOf f.cfg 13 8 = f.lreq → f.err ≠ 6 →
      f.lreq ≠ 0x1E → f.lreq ≠ 0x2B → f.lreq ≠ 0x2C → f.lreq < 64 →
      f.entry = some e → l.length = 2 * (s.buf e).w → rowBytes (s.buf e) = l.length → f.lines < (s.buf e).h →
      let z := engineWrite (.vin i) ((s.buf e).base + f.lines * (s.buf e).stride) (nums l) (s.at t)
      z.1 = true →
      ∃ u, exec (.vinLongPacket t i vc (Fin.ofNat 64 f.lreq) false false true false l) s = .next u ∧
        u.vframe i k = some { f with lines := f.lines + 1 } ∧ (∀ a, u.ld a = z.2.ld a) ∧ ∀ a, a ≠ st → u.rd a = s.rd a) ∧
    (∀ h, ∃ u, exec (.shortPacketIgnored t i h) s = .next u ∧ u.vin = s.vin ∧ Only [st] [pkt] s u) ∧
    (on → ∀ c, (c = Instr.vinFrameStart t i vc 0 ⟨true, false, false⟩ ∨ c = Instr.vinFrameEnd t i vc ⟨true, false, false⟩ ∨ c = Instr.shortPacketIgnored t i ⟨true, false, false⟩) →
      ∃ u, exec c s = .next u ∧ u.vin = s.vin ∧ bitsOf (u.st pkt) 31 24 = min 255 (bitsOf (s.st pkt) 31 24 + 1) ∧ Only [st] [pkt] s u) ∧
    (on → ∀ num h, h.stop = true → ∀ c, (c = Instr.vinFrameStart t i vc num h ∨ c = Instr.shortPacketIgnored t i h ∨
        c = Instr.vinFrameEnd t i vc h ∧ ∀ k, openOn s i vc k = none) → ∃ u, exec c s = .next u ∧ u.rb st 4 = false) ∧
    (∃ u, exec (.deskew t i) s = .next u ∧ u.vin = s.vin ∧ Calm s u) ∧
    (∀ enter, ∃ u, exec (.ulps t i enter) s = .next u ∧ u.vin = s.vin ∧ (on → enter = true → u.rb st 4 = false) ∧ Only [st] [] s u) ∧
    (on → ∃ u, exec (.sotError t i) s = .next (raise (Src.VIN_PHY_ERR i) u) ∧ u.rb (R.IRQ_STAT (P.VIN i)) 5 = true ∧
      Only [R.IRQ_STAT (P.VIN i)] [] s u) ∧
    (s.en P.LOOK = false → ∃ u, exec (.lookCaptureTime t) s = .next u ∧ u.look = s.look ∧ Calm s u) ∧
    (s.en P.LOOK = true →
      (s.rb look 1 = false → ∃ u, exec (.lookCaptureTime t) s = .next u ∧ asks u ∧ Calm s u) ∧
      (s.rb look 1 = true → ∃ u, exec (.lookCaptureTime t) s = .next u ∧ u.look = { s.look with want := false } ∧
        bitsOf (u.st (R.STAT P.LOOK 0)) 31 16 = min 65535 (bitsOf (s.st (R.STAT P.LOOK 0)) 31 16 + 1) ∧ Only [] [R.STAT P.LOOK 0] s u)) ∧
    (∀ (o : Init) (w : Word),
      (s.accepts t o R.LOOK_CMD (putBit w 0 true) → s.en P.LOOK = true → s.rb look 1 = false →
        ∃ u, exec (.capture t o w) s = .next u ∧ asks u ∧ Only [R.LOOK_CMD] [] s u) ∧
      (s.accepts t o (R.CTRL P.LOOK) (putBit w 0 true) →
        (s.en P.LOOK = false → ∃ u, exec (.lookEnable t o w) s = .next u ∧ u.en P.LOOK = true ∧ u.rf look 1 0 = 1 ∧ u.look.want = false ∧ u.look.img = [] ∧
          (∀ x < prog.length, u.ldN (base + x) = nth 0 prog x % 256) ∧ (∀ a, a < base ∨ base + 0x40000 ≤ a → u.ld a = s.ld a) ∧
          (∀ a, a ≠ R.CTRL P.LOOK → a ≠ look → u.rd a = s.rd a) ∧ (∀ a, u.st a = s.st a) ∧ u.nv = s.nv ∧ u.pending = s.pending) ∧
        (s.en P.LOOK = true → ∃ u, exec (.lookEnable t o w) s = .next u ∧ u.look = s.look ∧ Only [R.CTRL P.LOOK] [] s u))) ∧
    (s.rb look 1 = false → ∃ u, exec (.lookEvalDone t) s = .next u ∧ u.look = s.look ∧ Calm s u) ∧
    (s.rb look 1 = true → s.beamGated = false → modelOk s = false →
      ∃ u, exec (.lookEvalDone t) s = .next (closeWins (fun r => r == .image) (raise Src.LOOK_MODEL_CRC u)) ∧ u.rb look 1 = false ∧
        u.rf R.LOOK_RES 3 0 = 4 ∧ u.rf R.LOOK_RES 31 16 = s.tickNum % 65536 ∧ u.rb (R.IRQ_STAT P.LOOK) 0 = true ∧
        Only [R.LOOK_RES, look, R.IRQ_STAT P.LOOK] [] s u) ∧
    (s.rb look 1 = true → s.beamGated = false → modelOk s = true → s.look.res ≠ 0 →
      ∃ u, exec (.lookEvalDone t) s = .next u ∧ u.rb look 1 = false ∧ u.rf R.LOOK_RES 3 0 = 1 ∧ u.rb (R.IRQ_STAT P.LOOK) 2 = true ∧
        Only [R.LOOK_RES, look, R.IRQ_STAT P.LOOK] [] s u) ∧
    (s.rb look 1 = true → s.beamGated = false → modelOk s = true → s.look.res = 0 →
      ∃ u, exec (.lookEvalDone t) s = .next u ∧ u.rb look 1 = false ∧ u.rf R.LOOK_RES 3 0 = 0 ∧ u.rb (R.IRQ_STAT P.LOOK) 0 = true)

/-- R356: an accepted write to NRG_ALLOW restarts the planner timer and clears STALE; with none for TIMEOUT_MIN minutes STALE is set and
ENERGY_PLAN_STALE raised, and before that time nothing happens. Registers, statistics and memory stay but for those named. R358: at each whole hour
the hour accumulator goes to its last value and restarts from 0 with HOUR set; at a NIGHT_START since the last tick, and on NIGHT_RESTART, the night's does so with NIGHT
set; the total is untouched. Only the registers that show accumulators change. Where the spec leaves it to a reading, this is the model's (log
entry 69). -/
def Obligations.PlannerAndAccumulatorsFollowTheirTimes : Prop :=
  (
    ∀ (t : Nat) (i : Init) (w : Word) (s : State),
      (s.accepts t i R.NRG_ALLOW w →
        ∃ u, exec (.nrgAllowWrite t i w) s = .next u ∧ u.nrg.allowAt = max s.now t ∧ u.rb R.NRG_PLAN_STAT 0 = false ∧
          u.rd R.NRG_ALLOW = storeLive R.NRG_ALLOW w (s.rd R.NRG_ALLOW) ((s.at t).evtBits R.NRG_ALLOW) (s.locked P.NRG) ∧ u.nrg.night = s.nrg.night ∧ u.nrg.total = s.nrg.total ∧
          Only [R.NRG_ALLOW, R.NRG_PLAN_STAT] [] s u) ∧
      (s.en P.NRG = true → s.pageOn P.NRG = true → s.rb R.NRG_PLAN_STAT 0 = false →
        s.nrg.allowAt + s.rf R.NRG_PLAN_CFG 23 16 * 60000000000 ≤ max s.now t →
        ∃ u, exec (.energyPlanStale t) s = .next (raise Src.ENERGY_PLAN_STALE u) ∧ u.rb R.NRG_PLAN_STAT 0 = true ∧
          u.rb (R.IRQ_STAT P.NRG) 2 = true ∧ Only [R.NRG_PLAN_STAT, R.IRQ_STAT P.NRG] [] s u) ∧
      (max s.now t < s.nrg.allowAt + s.rf R.NRG_PLAN_CFG 23 16 * 60000000000 →
        ∃ u, exec (.energyPlanStale t) s = .next u ∧ u.nrg = s.nrg ∧ Calm s u)) ∧
  (
    ∀ (t : Nat) (i : Init) (s : State),
      let shown := [R.NRG_ACC_HOUR_LO, R.NRG_LAST_HOUR_LO, R.NRG_ACC_NIGHT_LO, R.NRG_LAST_NIGHT_LO, R.NRG_ACC_TOTAL_LO, R.IRQ_STAT P.NRG]
      (s.en P.NRG = true → s.pageOn P.NRG = true → hourNow (s.at t) ≠ s.nrg.hourIdx →
        ∃ u, exec (.hourRollover t) s = .next u ∧ u.nrg.lastHour = s.nrg.hour ∧ u.nrg.hour = 0 ∧ u.nrg.night = s.nrg.night ∧
          u.nrg.total = s.nrg.total ∧ u.rd R.NRG_LAST_HOUR_LO = word s.nrg.hour ∧ u.rd R.NRG_ACC_HOUR_LO = 0#32 ∧
          u.rb (R.IRQ_STAT P.NRG) 3 = true ∧ Only shown [] s u) ∧
      (s.en P.NRG = true → s.pageOn P.NRG = true → nightNow (s.at t) ≠ s.nrg.nightIdx → s.sync.lastTick + nightAge (s.at t) < max s.now t →
        ∃ u, exec (.nightRollover t) s = .next u ∧ u.nrg.lastNight = s.nrg.night ∧ u.nrg.night = 0 ∧ u.nrg.hour = s.nrg.hour ∧
          u.nrg.total = s.nrg.total ∧ u.rd R.NRG_LAST_NIGHT_LO = word s.nrg.night ∧ u.rd R.NRG_ACC_NIGHT_LO = 0#32 ∧
          u.rb (R.IRQ_STAT P.NRG) 4 = true ∧ Only shown [] s u) ∧
      (s.accepts t i R.NRG_ACC_CTRL 1#32 →
        ∃ u, exec (.nightRestart t i) s = .next u ∧ u.nrg.lastNight = s.nrg.night ∧ u.nrg.night = 0 ∧ u.nrg.hour = s.nrg.hour ∧
          u.nrg.total = s.nrg.total ∧ u.rd R.NRG_LAST_NIGHT_LO = word s.nrg.night ∧ u.rd R.NRG_ACC_NIGHT_LO = 0#32 ∧
          u.rb (R.IRQ_STAT P.NRG) 4 = true ∧ Only (R.NRG_ACC_CTRL :: shown) [] s u))

/-- R359 to R361: GO queues a raw frame behind what waits; a poll that is due is queued, and none before its time; a transaction that ends leaves the queue
and shows a reply and its data (raw), or energy, power and resolution in thousandths by their scale factors (poll); a poll without a reply, with bad or
absent data or on a failed bus shows its result and counts as missed, and the third in a row raises DALI_NO_REPLY; a bus held low raises DALI_BUS_FAIL, and
each transaction ends BUS_FAIL until it recovers; a cross-check window shows the ratio of the driver's energy to the ledger's with the auxiliary power's,
IN or OUT with the count of OUT windows, or SKIPPED. Where the spec leaves it to a reading, this is the model's (log entries 67, 68 and 182). -/
def Obligations.DaliPortQueuesAndAnswers : Prop :=
  ∀ (t : Nat) (i : Init) (w : Word) (s : State),
    let on := s.en P.DALI = true ∧ s.pageOn P.DALI = true; let now := max s.now t
    (s.accepts t i R.DALI_TX (putBit w 31 true) → s.en P.DALI = true →
      ∃ u, exec (.daliTx t i w) s = .next u ∧ u.dali.queue = s.dali.queue ++ [⟨true, bitsOf w 23 0, bitOf w 24, bitOf w 29, bitOf w 28⟩] ∧
        u.rf R.DALI_RX 17 16 ≠ 0 ∧ u.dali.fail = s.dali.fail ∧ Only [R.DALI_TX, R.DALI_RX] [] s u) ∧
    (on → s.rb R.DALI_POLL_CFG 0 = true → (∀ x, s.dali.polled = some x → x + pollSec s * 10 ^ 9 ≤ now) →
      ∃ u, exec (.daliPoll t) s = .next u ∧ u.dali.queue = s.dali.queue ++ [⟨false, 0, false, false, false⟩] ∧ u.dali.polled = some now ∧
        Only [R.DALI_RX] [] s u) ∧
    (∀ x, s.dali.polled = some x → now < x + pollSec s * 10 ^ 9 → ∃ u, exec (.daliPoll t) s = .next u ∧ u.dali = s.dali ∧ Calm s u) ∧
    (∀ (result : Fin 4) (data : Fin 256) (energy power : Nat) (sc : D4iScale) (x : DaliTx) (rest : List DaliTx), s.dali.queue = x :: rest → x.raw = true →
      on →
      let ends := fun (n : Nat) (u : State) => u.dali.queue = rest ∧ u.dali.carried = daliFrames x ∧ u.rf R.DALI_RX 9 8 = n ∧ u.rb (R.IRQ_STAT P.DALI) 0 = true ∧
        u.rf R.DALI_RX 7 0 = (if n = 1 then data.val else s.rf R.DALI_RX 7 0) ∧ Only [R.DALI_RX, R.IRQ_STAT P.DALI] [] s u
      (s.dali.fail = false → x.reply = true → ∃ u, exec (.daliTransactionDone t result data energy power sc) s = .next u ∧ ends (min 2 result) u) ∧
      (s.dali.fail = false → x.reply = false → ∃ u, exec (.daliTransactionDone t result data energy power sc) s = .next u ∧ ends 0 u) ∧
      (s.dali.fail = true → ∃ u, exec (.daliTransactionDone t result data energy power sc) s = .next u ∧ ends 3 u)) ∧
    (∀ (result : Fin 4) (data : Fin 256) (energy power : Nat) (sc : D4iScale) (x : DaliTx) (rest : List DaliTx), s.dali.queue = x :: rest → x.raw = false →
      on →
      let gone := absent 48 energy = true ∨ absent 32 power = true; let n := if s.dali.fail then 3 else if result.val = 0 then (if gone then 2 else 0) else min 2 result.val
      let shows := fun (u : State) => u.dali.queue = rest ∧ u.rf R.DALI_POLL_STAT 3 0 = n ∧ u.rf R.DALI_POLL_STAT 31 16 = s.tickNum % 65536 ∧
        u.rb (R.IRQ_STAT P.DALI) 1 = true
      let regs := [R.DALI_RX, R.DALI_POLL_STAT, R.IRQ_STAT P.DALI]
      (n = 0 →
        ∃ u, exec (.daliTransactionDone t result data energy power sc) s = .next u ∧ shows u ∧ u.dali.misses = 0 ∧
          u.rd R.DALI_D4I_POWER = word (scaled 32 sc.power (power % 2 ^ 32)) ∧ u.rd R.DALI_D4I_ENERGY_LO = word (scaled 64 sc.energy (energy % 2 ^ 48)) ∧
          u.rd R.DALI_D4I_RES = word (scaled 32 sc.energy 1) ∧ Only (regs ++ [R.DALI_D4I_POWER, R.DALI_D4I_ENERGY_LO, R.DALI_D4I_RES]) [] s u) ∧
      (n ≠ 0 → s.dali.misses ≠ 2 →
        ∃ u, exec (.daliTransactionDone t result data energy power sc) s = .next u ∧ shows u ∧ u.dali.misses = s.dali.misses + 1 ∧ Only regs [] s u) ∧
      (n ≠ 0 → s.dali.misses = 2 →
        ∃ u, exec (.daliTransactionDone t result data energy power sc) s = .next (showDali (raise Src.DALI_NO_REPLY u)) ∧ shows u ∧ u.dali.misses = 3 ∧
          Only regs [] s u)) ∧
    (on → s.dali.fail = false →
      ∃ u, exec (.daliBusFail t) s = .next (raise Src.DALI_BUS_FAIL u) ∧ u.dali.fail = true ∧ u.rb (R.IRQ_STAT P.DALI) 2 = true ∧ Only [R.IRQ_STAT P.DALI] [] s u) ∧
    (∃ u, exec (.daliBusRecovery t) s = .next u ∧ u.dali.fail = false ∧ u.dali.queue = s.dali.queue ∧ Calm s u) ∧
    (∀ a b, s.dali.start = some a → s.dali.last = some b → on → a.time + s.rf R.DALI_XCHK_WIN 31 16 * 10 ^ 9 ≤ now →
      a.total ≤ b.total → b.total < 2 ^ 64 →
      let st := R.DALI_XCHK_STAT; let drv := b.energy - a.energy
      let den := (b.total - a.total) * 1000 + (s.rd R.DALI_XCHK_AUX).toNat * (b.time - a.time)
      let ratio := satU 16 (rndDiv (drv * 3600000000 * 1000 * 2 ^ 14 : Nat) den)
      let inside := s.rf R.DALI_XCHK_CFG 15 0 ≤ ratio ∧ ratio ≤ s.rf R.DALI_XCHK_CFG 31 16
      let sound := 20 * (s.rd R.DALI_D4I_RES).toNat ≤ drv ∧ s.dali.spoilt = false ∧ den ≠ 0
      (sound → inside →
        ∃ u, exec (.xcheckWindow t) s = .next u ∧ u.rf st 31 16 = ratio ∧ u.rf st 9 8 = 1 ∧ u.rf st 7 0 = 0 ∧ u.dali.start = some b ∧ Only [st] [] s u) ∧
      (sound → ¬inside → s.rf st 7 0 + 1 < max 1 (s.rf R.DALI_XCHK_WIN 7 0) →
        ∃ u, exec (.xcheckWindow t) s = .next u ∧ u.rf st 31 16 = ratio ∧ u.rf st 9 8 = 2 ∧ u.rf st 7 0 = s.rf st 7 0 + 1 ∧ u.dali.start = some b ∧
          Only [st] [] s u) ∧
      (¬sound → ∃ u, exec (.xcheckWindow t) s = .next u ∧ u.rf st 9 8 = 3 ∧ u.dali.start = some b ∧ Only [st] [] s u))

/-- R368 to R376: PWR_CMD starts an entry or is refused; IDLE is entered once every running hart waits, unless a wake is pending, and ends with an
interrupt for the APU; entry to the deeper states begins at the first tick after the command: links and loops stop, and it waits for harts, channels and journal
within their bounds, or ends ABORTED_BUSY; at the commit point a pending wake ends the command, or the state is entered; a wake source that is enabled
brings the device back to RUN with its cause, from OFF only the WAKE pin; a level request writes the target's code to the PMIC, and PMIC_PG ends a change to a
slower level, or one to a faster level after SETTLE_US; a timeout raises PMIC_TIMEOUT and holds the slower level. Where the spec leaves it to a reading,
this is the model's (log entries 41, 72, 73, 74, 75, 77, 156, 185 and 186). -/
def Obligations.PowerStatesAreEnteredAndLeft : Prop :=
  ∀ (t : Nat) (i : Init) (w : Word) (wfi : Fin 16) (s : State),
    let st := R.PWR_STAT; let irq := R.IRQ_STAT P.PWR; let hart := R.CPU_HART_STAT 0; let lv := R.PWR_LEVEL_STAT; let k := bitsOf w 2 0
    let shown := fun r (u : State) => u.rf st 3 0 = r ∧ u.rf st 31 16 = s.tickNum % 65536 ∧ u.rb irq 1 = true
    let waiting := wfi.val &&& s.rf hart 3 0 = s.rf hart 3 0
    let pend := s.rd R.PWR_WAKE_PEND &&& s.rd R.PWR_WAKE_EN ≠ 0#32
    let still := ∀ x < 4, s.rf (R.DMV_RING_STATE x) 22 16 = 0
    let sealed := s.nvm.redo = none ∧ s.nvm.direct = none
    (s.accepts t i R.PWR_CMD w → i = .apu ∨ i = .safe ∨ i = .host →
      (s.pwr.cmd = none → 1 ≤ k → k ≤ 4 → (2 ≤ k → restful s = true) →
        ∃ u, exec (.pwrCmd t i w) s = .next u ∧ u.pwr.cmd = some k ∧ u.pwr.entering = false ∧ u.rd R.PWR_WAKE_PEND = 0#32 ∧ u.rf st 3 0 = 0 ∧
          u.rb st 4 = true ∧ Only [R.PWR_CMD, R.PWR_WAKE_PEND, st] [] s u) ∧
      (s.pwr.cmd ≠ none ∨ k = 0 ∨ 4 < k → ∃ u, exec (.pwrCmd t i w) s = .next u ∧ shown 5 u ∧ u.pwr = s.pwr ∧ Only [R.PWR_CMD, st, irq] [] s u) ∧
      (s.pwr.cmd = none → 2 ≤ k → k ≤ 4 → restful s = false →
        ∃ u, exec (.pwrCmd t i w) s = .next u ∧ shown 3 u ∧ u.pwr = s.pwr ∧ Only [R.PWR_CMD, st, irq] [] s u)) ∧
    (s.pwr.cmd = some 1 → waiting →
      (¬pend → apuWoken s = 0 →
        ∃ u, exec (.idleEntry t wfi) s = .next u ∧ u.rf st 10 8 = 1 ∧ shown 0 u ∧ u.pwr.cmd = none ∧ Only [hart, st, irq] [] s u) ∧
      (pend → ∃ u, exec (.idleEntry t wfi) s = .next u ∧ u.rf st 10 8 = s.rf st 10 8 ∧ shown 2 u ∧ u.rb irq 0 = true ∧ u.pwr.cmd = none ∧
        Only [hart, st, irq] [] s u)) ∧
    (∀ c, s.pwr.cmd = some c → 2 ≤ c → s.pwr.began < s.tickNum → s.rf R.SEC_UPD_STAT 2 0 ≠ 3 →
      (s.pwr.entering = false → restful s = true →
        ∃ u, exec (.lowpowerEntry t wfi) s = .next u ∧ u.pwr.entering = true ∧ u.pwr.cmd = some c ∧ u.pwr.entryAt = max s.now t ∧
          (∀ x < 4, u.rf (R.STATUS (P.SPLT x)) 3 0 = 0) ∧ (∀ x : Fin 4, u.tile[x].resetN = false) ∧ (∀ x < 16, u.rf (R.STATUS (P.CTLK x)) 1 0 = 0) ∧
          u.nv = s.nv ∧ u.mem = s.mem ∧ u.pending = s.pending) ∧
      (s.pwr.entering = false → restful s = false →
        ∃ u, exec (.lowpowerEntry t wfi) s = .next u ∧ shown 3 u ∧ u.pwr.cmd = none ∧ Only [hart, st, irq] [] s u) ∧
      (s.pwr.entering = true → ¬(waiting ∧ still) →
        (max s.now t < s.pwr.entryAt + 1000000 → ∃ u, exec (.lowpowerEntry t wfi) s = .next u ∧ u.pwr = { s.pwr with quietAt := none } ∧ Only [hart] [] s u) ∧
        (s.pwr.entryAt + 1000000 ≤ max s.now t →
          ∃ u, exec (.lowpowerEntry t wfi) s = .next (linksBack u) ∧ shown 4 u ∧ u.pwr.cmd = none ∧ Only [hart, st, irq] [] s u)) ∧
      (∀ q, s.pwr.entering = true → waiting → still → 3 ≤ c → ¬sealed → s.pwr.quietAt = some q →
        (max s.now t < q + 50000000 → ∃ u, exec (.lowpowerEntry t wfi) s = .next u ∧ u.pwr = s.pwr ∧ Only [hart] [] s u) ∧
        (q + 50000000 ≤ max s.now t →
          ∃ u, exec (.lowpowerEntry t wfi) s = .next (linksBack u) ∧ shown 4 u ∧ u.pwr.cmd = none ∧ Only [hart, st, irq] [] s u))) ∧
    (∀ c, s.pwr.cmd = some c → s.pwr.entering = true → s.rf hart 19 16 = s.rf hart 3 0 → still → (3 ≤ c → sealed) → s.rf R.SEC_UPD_STAT 2 0 ≠ 3 →
      (pend → ∃ u, exec (.lowpowerCommit t) s = .next (linksBack u) ∧ shown 2 u ∧ u.pwr.cmd = none ∧ u.rb irq 0 = true ∧ Only [st, irq] [] s u) ∧
      (¬pend → restful s = false → ∃ u, exec (.lowpowerCommit t) s = .next (linksBack u) ∧ shown 3 u ∧ u.pwr.cmd = none ∧ Only [st, irq] [] s u) ∧
      (¬pend → restful s = true → c = 2 →
        ∃ u, exec (.lowpowerCommit t) s = .next u ∧ u.rf st 10 8 = 2 ∧ u.pwr.cmd = none ∧ u.rd R.PWR_DOMAIN_STAT = 0x3847#32 ∧
          u.pwr.vcode = some (s.rf R.PWR_PMIC_CFG 30 24, s.rf R.PWR_PMIC_CFG 23 16, s.rf (R.PWR_VCODE 3) 7 0) ∧ Only [st, R.PWR_DOMAIN_STAT] [] s u) ∧
      (¬pend → restful s = true → c = 3 →
        ∃ u, exec (.lowpowerCommit t) s = .next u ∧ u.rf st 10 8 = 3 ∧ u.pwr.cmd = none ∧ u.rd R.PWR_DOMAIN_STAT = 0x0201#32 ∧
          (∀ a, regionOf a = .ret ∨ regionOf a = .emram ∨ regionOf a = .xspi → u.ld a = s.ld a) ∧ u.pending = s.pending) ∧
      (¬pend → restful s = true → c = 4 →
        ∃ u, exec (.lowpowerCommit t) s = .next u ∧ isOff u = true ∧ u.pwr.cmd = none ∧ u.pwr.wakePin = s.rb R.PWR_WAKE_EN 4 ∧
          (∀ a, regionOf a = .emram ∨ regionOf a = .xspi → u.ld a = s.ld a) ∧ u.pending = s.pending)) ∧
    (isOff s = true → s.pwr.wakePin = true → exec (.wake t 4) s = .next (chipReset 6 0 (s.at t))) ∧
    (∀ src : Fin 9, isOff s = false → s.thm.shut = true → ∃ u, exec (.wake t src) s = .next u ∧ u.pwr = s.pwr ∧ Calm s u) ∧
    (∀ src : Fin 9, isOff s = false → s.thm.shut = false → (src.val = 5 → alarmDue (s.at t) = true) →
      (s.rf st 10 8 = 0 → src.val < 8 →
        ∃ u, exec (.wake t src) s = .next u ∧ u.rd R.PWR_WAKE_PEND = s.rd R.PWR_WAKE_PEND ||| word (2 ^ src.val) ∧ Only [R.PWR_WAKE_PEND] [] s u) ∧
      (s.rf st 10 8 = 1 → src.val = 8 →
        ∃ u, exec (.wake t src) s = .next u ∧ u.rf st 10 8 = 0 ∧ u.rf st 3 0 = 1 ∧ u.rd R.PWR_WAKE_CAUSE = word 256 ∧ u.rb irq 0 = true ∧
          (∀ a, isPlic a = false → a ∉ [R.PWR_WAKE_CAUSE, st, irq, hart] → u.rd a = s.rd a) ∧ (∀ a, u.ld a = s.ld a) ∧ u.nv = s.nv) ∧
      (s.rf st 10 8 = 2 → src.val < 8 → s.rb R.PWR_WAKE_EN src = true →
        ∃ u, exec (.wake t src) s = .next (linksBack u) ∧ u.rf st 10 8 = 0 ∧ u.rf st 3 0 = 1 ∧ u.rd R.PWR_DOMAIN_STAT = 0xFF#32 ∧
          u.rd R.PWR_WAKE_CAUSE = word (2 * 256 + 2 ^ src.val) ∧ u.rb irq 0 = true ∧
          Only [R.PWR_WAKE_PEND, R.PWR_WAKE_CAUSE, st, R.PWR_DOMAIN_STAT, irq, hart] [] s u) ∧
      (s.rf st 10 8 = 3 → src.val < 8 → src.val ≠ 2 → s.rb R.PWR_WAKE_EN src = true →
        ∃ u, exec (.wake t src) s = .next u ∧ u.rf st 10 8 = 0 ∧ u.rf st 3 0 = 1 ∧ u.rd R.PWR_DOMAIN_STAT = 0xFF#32 ∧
          u.rd R.PWR_WAKE_CAUSE = word (3 * 256 + 2 ^ src.val) ∧ u.rf R.PWR_LEVEL_STAT 13 12 = 2 ∧ u.tickNum = s.tickNum ∧
          (∀ a, regionOf a = .ret ∨ regionOf a = .emram ∨ regionOf a = .xspi → u.ld a = s.ld a))) ∧
    (let clocks := (List.range 8).map R.CLK_FREQ
      let code := fun l => some (s.rf R.PWR_PMIC_CFG 30 24, s.rf R.PWR_PMIC_CFG 23 16, s.rf (R.PWR_VCODE l) 7 0)
      let ends := fun l (u : State) => u.pwr.trans = none ∧ u.pwr.settle = none ∧ u.rf lv 13 12 = l ∧ u.rb lv 0 = false ∧ Only (lv :: irq :: clocks) [] s u
      (s.accepts t i R.PWR_LEVEL_REQ w → s.pwr.trans = none → s.pwr.settle = none → s.rb lv 4 = false →
        max (bitsOf w 1 0) (s.rf lv 17 16) ≠ s.rf lv 13 12 →
        ∃ u, exec (.pwrLevelReq t i w) s = .next u ∧ u.pwr.trans = some (max (bitsOf w 1 0) (s.rf lv 17 16)) ∧ u.rf lv 9 8 = bitsOf w 1 0 ∧
          u.pwr.vcode = code (max (bitsOf w 1 0) (s.rf lv 17 16)) ∧ u.rb lv 0 = true ∧ u.rf lv 13 12 = s.rf lv 13 12 ∧
          Only (R.PWR_LEVEL_REQ :: lv :: clocks) [] s u) ∧
      (∀ l, s.pwr.trans = some l → l < 4 → s.rb lv 4 = false → max (s.rf lv 9 8) (s.rf lv 17 16) = l →
        (s.rf lv 13 12 < l → s.pwr.settle = none → ∃ u, exec (.pmicPgRise t) s = .next u ∧ ends l u ∧ u.rb irq 2 = true) ∧
        (l ≤ s.rf lv 13 12 → s.pwr.settle = none → s.rf R.PWR_PMIC_CFG 15 8 ≠ 0 →
          ∃ u, exec (.pmicPgRise t) s = .next u ∧ u.pwr = { s.pwr with settle := some (max s.now t + s.rf R.PWR_PMIC_CFG 15 8 * 1000) } ∧ Calm s u) ∧
        (∀ x, l ≤ s.rf lv 13 12 → s.pwr.settle = some x → x ≤ max s.now t → ∃ u, exec (.pmicPgRise t) s = .next u ∧ ends l u ∧ u.rb irq 2 = true)) ∧
      (∀ l, s.pwr.trans = some l → l < 4 → s.pwr.settle = none →
        (s.pwr.asked + s.rf R.PWR_PMIC_CFG 7 0 * 100000 ≤ max s.now t →
          ∃ u, exec (.pmicTimeout t) s = .next (raise Src.PMIC_TIMEOUT u) ∧ u.pwr.trans = none ∧ u.rf lv 13 12 = max l (s.rf lv 13 12) ∧
            u.rb lv 4 = true ∧ u.rb irq 3 = true ∧ Only (lv :: irq :: clocks) [] s u) ∧
        (max s.now t < s.pwr.asked + s.rf R.PWR_PMIC_CFG 7 0 * 100000 → ∃ u, exec (.pmicTimeout t) s = .next u ∧ u.pwr = s.pwr ∧ Calm s u)))

/-- R380 to R390, R393, R525: a conversion of 140 °C or more shuts every domain but AON down with ERR_N low and a record, and any later one is
TS11's alone, until it has read cool for 10 s; the throttle step rises every STEP_MS while THROTTLE is set and falls every RELEASE_MS while it is
clear; CRITICAL clears after 10 s; a late tile sensor fails with SENSOR_FAIL; a fail bit clears only after a healthy second; a tile over its limit
for 1 s raises THM_TILE_OVER once; a lost reference and an unlocked PLL raise their sources. Where the spec leaves it to a reading, this is the
model's (log entries 71, 83 and 127). -/
def Obligations.ThermalManagerActsByItsRules : Prop :=
  ∀ (t : Nat) (s : State),
    let now := max s.now t; let st := R.STATUS P.THM; let step := s.rf st 3 0
    (∀ (i : Fin 12) (v : Int), s.domainPowered (sensorDomain i) = true → s.pageOn P.THM = true ∨ i.val = 11 → s.thm.shut = false → 140 * 256 ≤ v →
      ∃ u, exec (.sensorConversion t i v) s = .next u ∧ u.rd R.PWR_DOMAIN_STAT = 1#32 ∧ u.sys.errLow = true ∧ u.thm.shut = true ∧
        u.rf R.THM_SD_REC 31 16 = tempField v ∧ u.rf R.THM_SD_REC 11 8 = i ∧ u.rb R.THM_SD_REC 0 = true ∧ u.rd R.THM_SD_TICK = word s.tickNum ∧
        (∀ a, regionOf a = .ret ∨ regionOf a = .emram ∨ regionOf a = .xspi → u.ld a = s.ld a) ∧ u.pending = s.pending) ∧
    (∀ (i : Fin 12) (v r : Int), s.domainPowered (sensorDomain i) = true → s.thm.shut = false → s.pageOn P.THM = true → s.rb R.THM_SENSOR_FAIL i = false → (s.sensor i).raw = some r →
      -15360 ≤ v → v < 140 * 256 → (v - r).natAbs ≤ 1280 →
      ∃ u, exec (.sensorConversion t i v) s = .next (thmConditions u) ∧ (u.sensor i).raw = some v ∧ u.rd (R.THM_SENS i) = word (tempField v) ∧
        (∀ (k : Fin 12) (y : Int), sensorValue u k = some y → y ≤ u.thm.tj) ∧
        (∃ j : Fin 12, sensorValue u j = some u.thm.tj ∧ u.rd R.THM_TJ = word (j * 65536 + tempField u.thm.tj)) ∧ Only [R.THM_SENS i, R.THM_TJ] [] s u) ∧
    (∀ (i : Fin 12) (v : Int), s.thm.shut = true → s.domainPowered 0 = true →
      ∃ u, exec (.sensorConversion t i v) s = .next u ∧
        u.thm.shutCool = (if i.val = 11 then (if v < s.rf R.THM_SD_RESTART 7 0 * 256 then some (s.thm.shutCool.getD now) else none) else s.thm.shutCool) ∧
        Calm s u) ∧
    (s.thm.shut = false ∨ s.thm.shutCool = none ∨ (∃ x, s.thm.shutCool = some x ∧ now < x + 10000000000) →
      ∃ u, exec (.shutdownRestart t) s = .next u ∧ u.thm = s.thm ∧ Calm s u) ∧
    (∀ x, s.thm.shut = true → s.thm.shutCool = some x → x + 10000000000 ≤ now → exec (.shutdownRestart t) s = .next (chipReset 3 0 (s.at t))) ∧
    (s.pageOn P.THM = true → s.rb st 11 = false →
      let moved := [st, R.IRQ_STAT P.THM, R.PWR_LEVEL_STAT] ++ (List.range 8).map R.CLK_FREQ
      (s.rb st 9 = true → s.thm.stepAt + s.rf R.THM_THROT_CFG 15 8 * 1000000 ≤ now → step < min 13 (s.rf R.THM_THROT_CFG 3 0) →
        ∃ u, exec (.throttleStep t) s = .next u ∧ u.rf st 3 0 = step + 1 ∧ u.rf R.PWR_LEVEL_STAT 17 16 = min 3 (step + 1) ∧ u.thm.stepAt = now ∧
          u.rb (R.IRQ_STAT P.THM) 1 = true ∧ Only moved [] s u) ∧
      (s.rb st 9 = false → 0 < step → s.thm.stepAt + s.rf R.THM_THROT_CFG 31 16 * 1000000 ≤ now →
        s.thm.tj < s.rf R.THM_THR 15 8 * 256 - s.rf R.THM_HYST 7 0 * 256 →
        ∃ u, exec (.throttleStep t) s = .next u ∧ u.rf st 3 0 = step - 1 ∧ u.rf R.PWR_LEVEL_STAT 17 16 = min 3 (step - 1) ∧ u.thm.stepAt = now ∧
          Only moved [] s u)) ∧
    (∀ x, s.thm.coolAt = some x →
      ∃ u, exec (.criticalClear t) s = .next u ∧ u.rb st 11 = (s.rb st 11 && decide (now < x + 10000000000)) ∧ u.thm = s.thm ∧ Only [st] [] s u) ∧
    (∀ (k : Fin 4) (n : Fin 8), let x := 16 + 8 * k.val + n.val;
      (tempLate s k n = true → n.val < s.rf (R.SPL_ENUM k 5) 23 16 → s.pageOn P.THM = true → s.rb R.THM_TILE_FAIL (8 * k + n) = false →
        ∃ u, exec (.tileSensorTimeout t k n) s = .next (raise Src.SENSOR_FAIL u) ∧ u.rb R.THM_TILE_FAIL (8 * k + n) = true ∧
          u.rb (R.IRQ_STAT P.THM) 3 = true ∧ (u.sensor x).badAt = now ∧ Only [R.THM_TILE_FAIL, R.IRQ_STAT P.THM, R.IRQ_STAT P.CLK] [] s u) ∧
      (tempLate s k n = false ∨ s.rf (R.SPL_ENUM k 5) 23 16 ≤ n.val → ∃ u, exec (.tileSensorTimeout t k n) s = .next u ∧ u.thm = s.thm ∧ Calm s u)) ∧
    (∀ (i : Init) (w : Word), s.accepts t i R.THM_TILE_FAIL w → (∀ b < 32, bitOf w b = true → now < (s.sensor (16 + b)).badAt + 1000000000) →
      ∃ u, exec (.sensorFailClear t i true w) s = .next u ∧ ∀ b < 32, u.rb R.THM_TILE_FAIL b = s.rb R.THM_TILE_FAIL b) ∧
    (∀ (i : Init) (tiles : Bool) (w : Word), let a := if tiles then R.THM_TILE_FAIL else R.THM_SENSOR_FAIL; let x := if tiles then 16 else 0
      s.accepts t i a w → (s.at t).evtBits a = 0#32 →
      (∀ b < 32, bitOf w b = true → (s.sensor (x + b)).badAt + 1000000000 ≤ now ∧ (tiles = true → tempLate s (Fin.ofNat 4 (b / 8)) (b % 8) = false)) →
      ∃ u, exec (.sensorFailClear t i tiles w) s = .next (updateTj u) ∧
        (∀ b < 32, u.rb a b = (s.rb a b && !(bitOf w b && (maskOf RegDef.w1c a).getLsbD b))) ∧ u.thm = s.thm ∧ u.nv = s.nv ∧ ∀ b, u.ld b = s.ld b) ∧
    (∀ (k : Fin 4) (x : Nat), s.thm.overAt[k] = some x → x + 1000000000 ≤ now → s.thm.overTold[k] = false → s.pageOn P.THM = true →
      ∃ u, exec (.thmTileOver t k) s = .next (raise (Src.THM_TILE_OVER k) u) ∧ u.thm.overTold[k] = true ∧ u.rb (R.IRQ_STAT P.THM) 4 = true ∧
        Only [R.IRQ_STAT P.THM] [] s u) ∧
    (∀ k : Fin 4, s.thm.overAt[k] = none ∨ s.thm.overTold[k] = true ∨ s.thm.overAt[k].any (fun x => decide (now < x + 1000000000)) = true → ∃ u, exec (.thmTileOver t k) s = .next u ∧ u.thm = s.thm ∧ Calm s u) ∧
    (∃ u, exec (.clkRefLoss t) s = .next (raise Src.CLK_REF_LOSS u) ∧ u.rb (R.STATUS P.CLK) 0 = false ∧ u.rb (R.STATUS P.SCN) 2 = true ∧
      u.rb (R.IRQ_STAT P.CLK) 0 = true ∧ u.rf R.TIME_TGEN_STAT 1 0 = 2 ∧
      Only [R.STATUS P.CLK, R.STATUS P.SCN, R.IRQ_STAT P.CLK, R.IRQ_STAT P.TIME, R.TIME_TGEN_STAT] [] s u) ∧
    (∀ p : Fin 6, ∃ u, exec (.pllUnlock t p) s = .next (raise (Src.PLL_UNLOCK p) u) ∧ u.rb (R.STATUS P.CLK) (2 + p) = false ∧
      Only [R.STATUS P.CLK] [] s u)

/-- R409, R410, R413, R420 to R422: a first measurement takes the servo from INIT to ACQUIRE and is applied, a step at once where it is above
STEP_THR; in LOCKED a measurement above JUMP_THR is rejected until the third in a row; REACQ moves LOCKED to RE_ACQUIRE; without a measurement for
HOLD_TO the servo is in HOLDOVER; APPLY ends a pending difference, by alignment while dark and by slewing while lit; a new epoch asks for an
alignment; TIME_TSQ_HDR takes the oldest timestamp out of its queue. Where the spec leaves it to a reading, this is the model's (log entries 28 and
82). -/
def Obligations.ServoAndTimestampsFollowTheirTables : Prop :=
  ∀ (t : Nat) (i : Init) (w : Word) (s : State),
    let now := max s.now t; let st := R.TIME_SERVO_STAT; let ctl := R.TIME_MEAS_CTRL; let servo := s.rf st 2 0
    let moved := [st, R.IRQ_STAT P.TIME, R.TIME_TGEN_STAT, R.STATUS P.SCN]
    let th := sx 64 ((s.rd R.TIME_MEAS_LO).toNat + 2 ^ 32 * (s.rd R.TIME_MEAS_HI).toNat)
    (s.accepts t i ctl 1#32 → servo = 2 → (s.rf R.TIME_SERVO_THR2 31 16 : Int) * 2 ^ 16 < th.natAbs → s.tim.jumps < 2 →
      ∃ u, exec (.submit t i 0#32) s = .next (startProgress u) ∧ u.tim.jumps = s.tim.jumps + 1 ∧ u.tim.lastMeas = now ∧ u.tim.ntRate = s.tim.ntRate ∧
        u.tim.ntOfs = s.tim.ntOfs ∧ u.rd st = s.rd st ∧ Only [ctl] [R.STAT P.TIME 0, R.STAT P.TIME 2] s u) ∧
    (s.accepts t i ctl 1#32 → servo = 2 → (s.rf R.TIME_SERVO_THR2 31 16 : Int) * 2 ^ 16 < th.natAbs → 2 ≤ s.tim.jumps → 1 < s.rf R.TIME_SERVO_THR2 15 8 →
      ∃ u, exec (.submit t i 0#32) s = .next (startProgress u) ∧ u.rf st 2 0 = 4 ∧ u.rf st 31 16 = s.tickNum % 65536 ∧ u.tim.jumps = 0 ∧
        u.rb (R.IRQ_STAT P.TIME) 0 = true ∧ Only (ctl :: R.TIME_RATE :: moved) [R.STAT P.TIME 0, R.STAT P.TIME 2] s u) ∧
    (s.accepts t i ctl 1#32 → servo = 0 → 1 < s.rf R.TIME_SERVO_THR2 15 8 → s.rf st 15 8 = 0 →
      (s.rf R.TIME_SERVO_THR 15 0 * 1000 : Int) * 2 ^ 16 < th.natAbs →
      ∃ u, exec (.submit t i 0#32) s = .next (startProgress u) ∧ u.rf st 2 0 = 1 ∧ (u.at now).ntAt now = (s.at now).ntAt now - th ∧ u.tim.lastMeas = now ∧
        u.rb (R.IRQ_STAT P.TIME) 0 = true ∧ Only [ctl, st, R.TIME_RATE, R.IRQ_STAT P.TIME] [R.STAT P.TIME 0, R.STAT P.TIME 2] s u) ∧
    (s.accepts t i ctl 2#32 →
      (servo = 2 → ∃ u, exec (.reacq t i 0#32) s = .next u ∧ u.rf st 2 0 = 4 ∧ u.rf st 31 16 = s.tickNum % 65536 ∧ u.rb (R.IRQ_STAT P.TIME) 0 = true ∧
          u.tim.ntRate = s.tim.ntRate ∧ u.tim.ntOfs = s.tim.ntOfs ∧ Only (ctl :: moved) [] s u) ∧
      (servo ≠ 2 → ∃ u, exec (.reacq t i 0#32) s = .next u ∧ u.tim = s.tim ∧ Only [ctl] [] s u)) ∧
    (let due := s.tim.lastMeas + s.rf R.TIME_SERVO_THR2 7 0 * 100000000 ≤ now;
      (due → servo = 1 ∨ servo = 2 ∨ servo = 4 → ∃ u, exec (.servoHoldover t) s = .next u ∧ u.rf st 2 0 = 3 ∧ u.rb (R.IRQ_STAT P.TIME) 0 = true ∧
        u.tim.ntRateH = s.tim.ntRate ∧ u.tim.ntRate = s.tim.ntRate ∧ Only moved [] s u) ∧
      (¬due ∨ servo = 0 ∨ servo = 3 → ∃ u, exec (.servoHoldover t) s = .next u ∧ u.tim = s.tim ∧ Calm s u)) ∧
    (s.accepts t i R.TIME_STEP_CMD 1#32 →
      (s.rb R.TIME_TGEN_STAT 3 = false → lampLit s = true →
        ∃ u, exec (.apply t i 0#32) s = .next u ∧ u.tim = s.tim ∧ Only [R.TIME_STEP_CMD] [] s u) ∧
      (lampLit s = false →
        ∃ u, exec (.apply t i 0#32) s = .next u ∧ u.tim = { s.tim with want := true } ∧ Only [R.TIME_STEP_CMD] [] s u) ∧
      (s.rb R.TIME_TGEN_STAT 3 = true → lampLit s = true →
        ∃ u, exec (.apply t i 0#32) s = .next u ∧ u.tim.slewAll = true ∧ u.rf R.TIME_TGEN_STAT 1 0 = 1 ∧ u.rb R.TIME_TGEN_STAT 3 = false ∧
          u.rb (R.STATUS P.SCN) 2 = false ∧ (s.tim.idx = none → u.nextTick = s.nextTick))) ∧
    (∀ high, let a := if high then R.TIME_EPOCH_HI else R.TIME_EPOCH_LO;
      (s.accepts t i a w → s.rf R.TIME_TGEN_STAT 1 0 ≠ 0 →
        ∃ u, exec (.timeEpochWrite t i high w) s = .next u ∧ u.rd a = w ∧ u.tim = { s.tim with align := true } ∧ Only [a] [] s u) ∧
      ((s.at t).answers P.TIME = true → s.en P.TIME = false → lampLit s = true →
        ∃ u, exec (.timeEpochWrite t i high w) s = .next (raise Src.CFG_LIVE_WRITE u) ∧ u.tim = s.tim ∧ Calm s u)) ∧
    ((s.at t).answers P.TIME = true →
      (∀ tag port ts l, s.tim.tsq = (tag, port, ts) :: l → tag < 65536 → port < 4 → l.length < 64 →
        ∃ u, exec (.timeTsqHdr t i) s = .next u ∧ u.tim.tsq = l ∧ u.bus.data = word (tag * 65536 + port * 256 + 1) ∧
          u.rd R.TIME_TSQ_TS_LO = word ts ∧ u.rd R.TIME_TSQ_TS_HI = word (ts / 2 ^ 32) ∧ u.rf R.TIME_TSQ_STAT 5 0 = l.length ∧
          Only [R.TIME_TSQ_HDR, R.TIME_TSQ_TS_LO, R.TIME_TSQ_TS_HI, R.TIME_TSQ_STAT, R.IRQ_STAT P.TIME] [] s u) ∧
      (s.tim.tsq = [] → ∃ u, exec (.timeTsqHdr t i) s = .next u ∧ bitOf u.bus.data 0 = false ∧ u.tim = s.tim ∧ Only [R.TIME_TSQ_HDR] [] s u))

/-- R399 to R404, R411, R412, R414, R435, R446, R447: what the ports, the switch and the beacon do. A frame that is damaged or too long is counted
and dropped; a frame to the device's own address goes to NETE with its timestamp; a frame to a learned address joins the queue of that port alone;
from a port that forwards, a departing frame is the first of the highest queue that holds one, a Sync of the domain with its residence time and the ingress
port's delays added; aged and flushed addresses go; a blocked ring port forwards after 80 ms; a link change is shown and told; the first peer-delay sample
is taken, a later one filtered, a loss counted, and the third in a row raises PD_FAIL; a beacon that fails any check does nothing, and one that passes
wakes the device. Where the spec leaves it to a reading, this is the model's (log entries 79, 80, 81, 189 and 190). -/
def Obligations.PortsAndSwitchHandleFrames : Prop :=
  ∀ (t : Nat) (p : Fin 3) (s : State),
    let now := max s.now t; let pg := P.PORT p; let ts := (s.at t).ntNs now - s.rf (R.PORT_LAT p) 15 0
    (∀ f : NetFrame, portUp s p = false → ∃ u, exec (.portFrameRx t p f) s = .next u ∧ u.net = s.net ∧ Calm s u) ∧
    (∀ f : NetFrame, portUp s p = true → f.good = false ∨ 1522 < f.len →
      ∃ u, exec (.portFrameRx t p f) s = .next u ∧ u.net = s.net ∧ bitsOf (u.st (R.STAT pg 0)) 31 16 = min 65535 (bitsOf (s.st (R.STAT pg 0)) 31 16 + 1) ∧
        Only [] [R.STAT pg 0] s u) ∧
    (∀ f : NetFrame, portUp s p = true → f.good = true → f.len ≤ 1522 → isGroup f.dst = false → s.rb R.SW_CFG 16 = false → ringPort s p = false →
      isPdelay f = false → (∀ a b c, f.kind ≠ .ptpAnnounce a b c) →
      (f.dst = ownMac s → ∃ u, exec (.portFrameRx t p f) s = .next u ∧ u.net = { s.net with rx := some (f, p.val, ts) } ∧ Only [] [R.STAT pg 0] s u) ∧
      (∀ (d : Fin 3) (e : Nat × Nat × Nat), f.dst ≠ ownMac s → s.net.fdb.find? (fun e => e.1 == f.dst) = some e → e.2.1 = d → d ≠ p → forwarding s d = true →
        ∃ u, exec (.portFrameRx t p f) s = .next u ∧ u.net.port[d].q[queueOf f] = s.net.port[d].q[queueOf f] ++ [⟨f, some (p.val, ts), none⟩] ∧
          (∀ x : Fin 3, x ≠ d → u.net.port[x] = s.net.port[x]) ∧ u.net.rx = s.net.rx ∧ Only [] [R.STAT pg 0, R.STAT P.SWITCH 0] s u)) ∧
    (∀ (k : Fin 4) (e : Egress) (l : List Egress), portUp s p = true → s.net.port[p].q[k] = e :: l → (∀ j : Fin 4, k < j → s.net.port[p].q[j] = []) →
      forwarding s p = true → s.net.port[p].again = [] →
      let tx := (s.at t).ntNs now + s.rf (R.PORT_LAT p) 31 16
      ∃ u, exec (.portFrameTx t p none) s = .next (match e.tag with
          | some tag => tsqPush tag p tx u
          | none => u) ∧
        u.net.port[p].q[k] = l ∧
        u.net.port[p].sent = some (if e.frame.domain ≠ s.net.domain then e.frame else match e.frame.kind, e.from_ with
          | .ptpSync, some (q, rx) => remade { e.frame with corr := e.frame.corr + ((tx - rx : Nat) : Int) * 2 ^ 16 +
              ((s.rd (R.PORT_MLD q)).toNat * 2 ^ 8 : Nat) + sw (s.rd (R.PORT_ASYM q)) * 2 ^ 8 }
          | .ptpSync, none => remade { e.frame with origin := tx }
          | .ptpResp, some (_, rx) => remade { e.frame with corr := e.frame.corr + ((tx - rx : Nat) : Int) * 2 ^ 16 }
          | _, _ => e.frame) ∧
        Only [] [R.STAT pg 1, R.STAT pg 3] s u) ∧
    (∀ mac, ∃ u, exec (.fdbAge t mac) s = .next u ∧
      u.net.fdb = s.net.fdb.filter (fun e => !(e.1 == mac && decide (e.2.2 + s.rf R.SW_CFG 15 0 * 10 ^ 9 ≤ now))) ∧
      u.rd R.SW_FDB_CNT = word u.net.fdb.length ∧ Only [R.SW_FDB_CNT] [] s u) ∧
    (∀ (i : Init) (w : Word), s.accepts t i R.SW_FLUSH w → bitsOf w 3 0 ≠ 0 →
      ∃ u, exec (.swFlush t i w) s = .next u ∧ u.net.fdb = s.net.fdb.filter (fun e => !bitOf w e.2.1) ∧ u.rd R.SW_FDB_CNT = word u.net.fdb.length ∧
        Only [R.SW_FLUSH, R.SW_FDB_CNT] [R.STAT P.SWITCH 1] s u) ∧
    (∀ x, s.net.flushAt = some x → x ≤ now →
      ∃ u, exec (.mrpFlush t) s = .next u ∧ u.net = { s.net with fdb := [], flushAt := none } ∧ Only [R.SW_FDB_CNT] [R.STAT P.SWITCH 1] s u) ∧
    (ringPort s p = true → s.rf (R.PORT_MRP_STAT p) 1 0 = 1 →
      (s.net.port[p].upAt + 80000000 ≤ now →
        ∃ u, exec (.mrpBlockTimeout t p) s = .next u ∧ u.rf (R.PORT_MRP_STAT p) 1 0 = 2 ∧ u.rb (R.IRQ_STAT P.SWITCH) 2 = true ∧
          Only [R.PORT_MRP_STAT p, R.IRQ_STAT P.SWITCH] [] s u) ∧
      (now < s.net.port[p].upAt + 80000000 → ∃ u, exec (.mrpBlockTimeout t p) s = .next u ∧ Calm s u)) ∧
    (∀ (speed : Fin 4) (amp master : Bool) (sqi : Fin 8), s.pageOn pg = true → ringPort s p = false →
      (s.en pg = true → s.rb (R.PORT_LINK p) 0 = false →
        ∃ u, exec (.portLinkChange t p true speed amp master sqi) s = .next (startProgress u) ∧ u.rb (R.PORT_LINK p) 0 = true ∧
          (p.val < 2 → u.rf (R.PORT_LINK p) 2 1 = 0 ∧ (s.rf (R.PORT_CFG p) 2 1 = 0 → u.rb (R.PORT_LINK p) 3 = amp) ∧
            (s.rf (R.PORT_CFG p) 4 3 = 0 → u.rb (R.PORT_LINK p) 4 = master)) ∧
          (p.val = 2 → s.rf (R.PORT_CFG p) 2 1 = 0 → u.rf (R.PORT_LINK p) 2 1 = min 2 speed.val) ∧
          u.rf (R.PORT_LINK p) 10 8 = sqi ∧ u.rb (R.IRQ_STAT pg) 0 = true ∧ u.net.port[p].upAt = now ∧
          Only [R.PORT_LINK p, R.IRQ_STAT pg] [] s u) ∧
      (s.rb (R.PORT_LINK p) 0 = true →
        ∃ u, exec (.portLinkChange t p false speed amp master sqi) s = .next (startProgress (raise (Src.PORT_LINK_DOWN p) u)) ∧
          u.rd (R.PORT_LINK p) = 0#32 ∧ u.rb (R.IRQ_STAT pg) 1 = true ∧ Only [R.PORT_LINK p, R.IRQ_STAT pg] [] s u)) ∧
    (portUp s p = true → s.rb (R.PORT_CFG p) 12 = true → s.net.port[p].reqAt = none →
      (∀ d, d < 2 ^ 32 → s.net.port[p].sample = false →
        ∃ u, exec (.pdelayReq t p (some d)) s = .next u ∧ (u.rd (R.PORT_MLD p)).toNat = d ∧ u.rf (R.PORT_PD_STAT p) 1 0 = 1 ∧
          u.net.port[p].reqAt = some now ∧ u.net.port[p].q[(3 : Fin 4)] = s.net.port[p].q[(3 : Fin 4)] ++ [⟨pdelayFrame s .ptpPdelay, none, none⟩] ∧
          Only [R.PORT_MLD p, R.PORT_PD_STAT p] [R.STAT pg 3] s u) ∧
      (∀ d, s.net.port[p].sample = true →
        ∃ u, exec (.pdelayReq t p (some d)) s = .next u ∧ (u.rd (R.PORT_MLD p)).toNat = satU 32 ((s.rd (R.PORT_MLD p)).toNat +
            rnd (min 8 (s.rf (R.PORT_PD_CFG p) 11 8)) ((d : Int) - (s.rd (R.PORT_MLD p)).toNat)) ∧ u.rf (R.PORT_PD_STAT p) 1 0 = 1 ∧
          u.net.port[p].reqAt = some now ∧ Only [R.PORT_MLD p, R.PORT_PD_STAT p] [R.STAT pg 3] s u) ∧
      (s.net.port[p].lost ≠ 2 →
        ∃ u, exec (.pdelayReq t p none) s = .next u ∧ u.net.port[p].lost = s.net.port[p].lost + 1 ∧
          u.rf (R.PORT_PD_STAT p) 31 16 = min 65535 (s.rf (R.PORT_PD_STAT p) 31 16 + 1) ∧ Only [R.PORT_PD_STAT p] [] s u) ∧
      (s.net.port[p].lost = 2 →
        ∃ u, exec (.pdelayReq t p none) s = .next (raise (Src.PD_FAIL p) u) ∧ u.rf (R.PORT_PD_STAT p) 1 0 = 2 ∧ u.rb (R.IRQ_STAT pg) 2 = true ∧
          u.rd (R.PORT_MLD p) = s.rd (R.PORT_MLD p) ∧ Only [R.PORT_PD_STAT p, R.IRQ_STAT pg] [] s u)) ∧
    (∀ (h : BeaconHead) (time : Nat) (tag : List Byte),
      let tt := (s.at t).ttNs now
      let ok := s.pageOn P.NET = true ∧ s.rb R.NET_WAKE_CFG 0 = true ∧ isBeacon h s = true ∧ (h.group = 0xFFFF ∨ h.group = s.rf R.NET_WAKE_CFG 31 16) ∧
        time ≤ tt + 2000000000 ∧ tt ≤ time + 2000000000 ∧ s.net.beacon < time ∧ beaconTag h time (nums tag) s = true
      (ok → ∃ u, exec (.wakeBeacon t h time tag) s = .next (wake 2 u) ∧ u.net.beacon = time ∧ u.rb (R.IRQ_STAT P.NET) 2 = true ∧
        Only [R.IRQ_STAT P.NET] [] s u) ∧
      (¬ok → ∃ u, exec (.wakeBeacon t h time tag) s = .next u ∧ u.net = s.net ∧ Calm s u))

/-- R437, R438, R441, R448: SCHED_CMD WRITE stores the staged entry, or fails with INVALID or RANGE; DELETE clears VALID and nothing else of the
entry; READ copies an entry into the staging registers; a read of SCHED_DUE takes the oldest occurrence out of the due queue and latches its ARG,
and reads without VALID where the queue is empty. Where the spec leaves it to a reading, this is the model's (log entries 107 and 124). -/
def Obligations.SchedulerTableAndDueQueue : Prop :=
  ∀ (t : Nat) (i : Init) (idx : Fin 512) (s : State),
    let a := (s.rd R.SCHED_TABLE_BASE).toNat + 32 * idx; let w0 := (s.rd (R.SCHED_E 0)).toNat
    let bad := 5 ≤ w0 / 2 % 8 ∨ (w0 / 32 % 4 = 1 ∧ s.rd (R.SCHED_E 3) = 0#32)
    let shown := [R.SCHED_CMD, R.SCHED_CMD_STAT, R.SCHED_NEXT_WAKE_LO, R.SCHED_NEXT_WAKE_HI, R.SCHED_COUNT]
    let kept := fun (n : Nat) (u : State) => (∀ b, b < a ∨ a + n ≤ b → u.ld b = s.ld b) ∧ (∀ r, r ∉ shown → u.rd r = s.rd r) ∧ u.sched = s.sched
    (s.accepts t i R.SCHED_CMD (word (idx * 65536 + 1)) →
      (bad → ∃ u, exec (.schedWrite t i idx) s = .next u ∧ u.rd R.SCHED_CMD_STAT = 2#32 ∧ Only [R.SCHED_CMD, R.SCHED_CMD_STAT] [] s u) ∧
      (¬bad → schedFits s = false → ∃ u, exec (.schedWrite t i idx) s = .next u ∧ u.rd R.SCHED_CMD_STAT = 3#32 ∧
        Only [R.SCHED_CMD, R.SCHED_CMD_STAT] [] s u) ∧
      (¬bad → schedFits s = true → ∃ u, exec (.schedWrite t i idx) s = .next u ∧ u.rd R.SCHED_CMD_STAT = 0#32 ∧
        schedWord u idx 0 = w0 % 128 + (if w0 / 65536 = 0 then 2000 else w0 / 65536) * 65536 ∧
        (∀ k, 1 ≤ k → k < 7 → schedWord u idx k = (s.rd (R.SCHED_E k)).toNat) ∧ schedWord u idx 7 = (s.rd (R.SCHED_E 7)).toNat % 2 ^ 18 ∧ kept 32 u)) ∧
    (s.accepts t i R.SCHED_CMD (word (idx * 65536 + 2)) → schedFits s = true →
      ∃ u, exec (.schedDelete t i idx) s = .next u ∧ u.rd R.SCHED_CMD_STAT = 0#32 ∧ schedValid u idx = false ∧ schedWord u idx 0 / 2 = schedWord s idx 0 / 2 ∧
        kept 1 u) ∧
    (s.accepts t i R.SCHED_CMD (word (idx * 65536 + 3)) → schedFits s = true →
      ∃ u, exec (.schedRead t i idx) s = .next u ∧ u.rd R.SCHED_CMD_STAT = 0#32 ∧ (∀ k < 8, u.rd (R.SCHED_E k) = word (schedWord s idx k)) ∧
        Only (R.SCHED_CMD :: R.SCHED_CMD_STAT :: (List.range 8).map fun k => R.SCHED_E k) [] s u) ∧
    ((s.at t).answers P.SCHED = true →
      (∀ e l, s.sched.due = e :: l → e.idx < 512 → e.action < 8 → e.result < 4 → l.length < 64 →
        ∃ u, exec (.schedDue t i) s = .next u ∧ u.sched.due = l ∧ u.rf R.SCHED_DUE_STAT 5 0 = l.length ∧ bitOf u.bus.data 31 = true ∧
          bitsOf u.bus.data 30 29 = e.result ∧ bitsOf u.bus.data 28 26 = e.action ∧ bitsOf u.bus.data 24 16 = e.idx ∧
          bitsOf u.bus.data 15 0 = e.tick % 65536 ∧ u.rd R.SCHED_DUE_ARG_LO = word e.arg ∧ u.rd R.SCHED_DUE_ARG_HI = word (e.arg / 2 ^ 32) ∧
          Only [R.SCHED_DUE, R.SCHED_DUE_STAT, R.SCHED_DUE_ARG_LO, R.SCHED_DUE_ARG_HI] [] s u) ∧
      (s.sched.due = [] → ∃ u, exec (.schedDue t i) s = .next u ∧ u.bus.data = 0#32 ∧ u.sched = s.sched ∧ Only [R.SCHED_DUE] [] s u))

/-- R453, R454, R456, R458, R466, R496, R500, R502: key slots are generated, installed, erased and locked as their class allows, with an audit
record; traffic keys are installed, updated and erased for a session that has them; the 1 bits of SEC_OTP_DATA join an OTP word where the lifecycle
and the conditions allow; pending counter raises are retried; a failed reseed raises RNG_FAIL. With the audit queue full no key or OTP command is made;
`room` is an audit queue with room that does not wrap. Where the spec leaves it to a reading, this is the model's (log entries 43, 96, 97, 110, 191, 193 and
194). -/
def Obligations.KeysTrafficKeysAndOtp : Prop :=
  ∀ (t : Nat) (i : Init) (slot : Fin 64) (e : Fin 1024) (w : Word) (good mac : Bool) (s : State),
    let kst := R.SEC_KEY_STAT; let km := R.SEC_KEY_META slot; let rst := R.SEC_REC_STAT
    let room := s.sec.audit.length < 256 ∧ s.rf R.SEC_AUDIT_STAT 15 0 = 0 ∧ (s.rd R.SEC_AUDIT_SEQ).toNat < 65536
    let recorded := fun (u : State) => u.rd R.SEC_AUDIT_SEQ = word ((s.rd R.SEC_AUDIT_SEQ).toNat + 1) ∧ u.sec.audit.length = s.sec.audit.length + 1
    let kept := fun (l : List Nat) (u : State) => (∀ a, a ∉ l → pageOf a ≠ P.SEC4 → pageOf a ≠ P.NVM → u.rd a = s.rd a) ∧ ∀ a, u.ld a = s.ld a
    let full := 256 ≤ s.sec.audit.length
    let shows := fun (r : Nat) (u : State) => u.rd kst = word (s.tickNum % 65536 * 65536 + r)
    let fails := fun (r : Nat) (u : State) => shows r u ∧ u.sec = s.sec ∧ Only [R.SEC_KEY_CMD, kst] [] s u
    (∀ op ∈ [(1, Instr.keyGenerate t i slot), (2, .keyInstall t i slot good mac), (3, .keyErase t i slot), (4, .keyLock t i slot)],
      s.accepts t i R.SEC_KEY_CMD (word (op.1 * 0x10000000 + slot)) → full → ∃ u, exec op.2 s = .next u ∧ u.sec = s.sec ∧ Only [R.SEC_KEY_CMD] [] s u) ∧
    (s.accepts t i R.SEC_KEY_CMD (word (0x10000000 + slot)) → ¬full →
      (slot.val < 16 ∨ 48 ≤ slot.val → ∃ u, exec (.keyGenerate t i slot) s = .next u ∧ fails 1 u) ∧
      (16 ≤ slot.val → slot.val < 48 → s.rb km 30 = true → ∃ u, exec (.keyGenerate t i slot) s = .next u ∧ fails 2 u) ∧
      (16 ≤ slot.val → slot.val < 48 → s.rb km 30 = false → s.rb R.SEC_STATUS 2 = false → ∃ u, exec (.keyGenerate t i slot) s = .next u ∧ fails 4 u) ∧
      (16 ≤ slot.val → slot.val < 48 → s.rb km 30 = false → s.rb R.SEC_STATUS 2 = true → room →
        ∃ u, exec (.keyGenerate t i slot) s = .next u ∧ shows 0 u ∧ u.rb km 31 = true ∧ u.rf km 28 24 = 5 ∧ u.sec.draws = s.sec.draws + 1 ∧
          u.slotKey slot = bytesBE 32 (draw s).1 ∧ recorded u ∧ kept [R.SEC_KEY_CMD, kst, km] u)) ∧
    (s.accepts t i R.SEC_KEY_CMD (word (0x20000000 + slot)) → installable slot = true → s.rb km 30 = false → ¬full →
      (∃ u, exec (.keyInstall t i slot false mac) s = .next u ∧ fails 3 u) ∧
      (room → ∃ u, exec (.keyInstall t i slot true mac) s = .next u ∧ shows 0 u ∧ u.rb km 31 = true ∧ recorded u ∧
        kept [R.SEC_KEY_CMD, kst, km] u)) ∧
    (s.accepts t i R.SEC_KEY_CMD (word (0x30000000 + slot)) →
      (slot.val < 8 → ¬full → ∃ u, exec (.keyErase t i slot) s = .next u ∧ fails 1 u) ∧
      (8 ≤ slot.val → s.rb km 30 = false → room →
        ∃ u, exec (.keyErase t i slot) s = .next u ∧ shows 0 u ∧ u.rd km = 0#32 ∧ recorded u ∧ kept [R.SEC_KEY_CMD, kst, km] u)) ∧
    (s.accepts t i R.SEC_KEY_CMD (word (0x40000000 + slot)) → s.rb km 30 = false → room →
      ∃ u, exec (.keyLock t i slot) s = .next u ∧ shows 0 u ∧ u.rd km = putBit (s.rd km) 30 true ∧ recorded u ∧ kept [R.SEC_KEY_CMD, kst, km] u) ∧
    (∀ x, s.accepts t i R.SEC_REC_CMD (word (0x10000000 + e)) → sessOf s e = some x →
      (∀ k, x.hs = some k → s.rb (R.SEC_KEY_META (16 + 2 * k)) 31 = true →
        ∃ u, exec (.recInstall t i e) s = .next u ∧ u.rf rst 3 0 = 0 ∧ (∃ y, sessOf u e = some y ∧ y.keys.isSome = true ∧ y.top = none) ∧
          Only [R.SEC_REC_CMD, rst] [] s u) ∧
      (x.hs = none → ∃ u, exec (.recInstall t i e) s = .next u ∧ u.rf rst 3 0 = 2 ∧ u.ses = s.ses ∧ Only [R.SEC_REC_CMD, rst] [] s u)) ∧
    (∀ x, s.accepts t i R.SEC_REC_CMD (word (0x20000000 + e)) → sessOf s e = some x → x.keys.isSome = true →
      ∃ u, exec (.keyUpdate t i e) s = .next u ∧ u.rf rst 3 0 = 0 ∧ (∃ y, sessOf u e = some y ∧ y.keys = some (Config.free s.free) ∧ y.top = none) ∧
        Only [R.SEC_REC_CMD, rst] [] s u) ∧
    (∀ x, s.accepts t i R.SEC_REC_CMD (word (0x30000000 + e)) → sessOf s e = some x → x.keys.isSome = true →
      ∃ u, exec (.recErase t i e) s = .next u ∧ u.rf rst 3 0 = 0 ∧ (∃ y, sessOf u e = some y ∧ y.keys = none) ∧ Only [R.SEC_REC_CMD, rst] [] s u) ∧
    (let n := bitsOf w 24 16; let v := s.rd R.SEC_OTP_DATA; let may := ∀ k < 32, bitOf v k = true → otpMay s.nv.lifecycle (32 * n + k) = true;
      let fails := fun (r : Nat) (u : State) => u.rd R.SEC_OTP_STAT = word r ∧ Only [R.SEC_OTP_CMD, R.SEC_OTP_STAT] [] s u;
      s.accepts t i R.SEC_OTP_CMD (putBit w 31 true) →
      (full → ∃ u, exec (.otpProgram t i w good) s = .next u ∧ u.nv = s.nv ∧ Only [R.SEC_OTP_CMD] [] s u) ∧
      (¬full → ¬may → ∃ u, exec (.otpProgram t i w good) s = .next u ∧ fails 1 u) ∧
      (¬full → may → otpReady s = false → ∃ u, exec (.otpProgram t i w good) s = .next u ∧ fails 2 u) ∧
      (¬full → may → otpReady s = true → ∃ u, exec (.otpProgram t i w false) s = .next u ∧ fails 3 u) ∧
      (may → otpReady s = true → room →
        ∃ u, exec (.otpProgram t i w true) s = .next u ∧ u.rd R.SEC_OTP_STAT = 0#32 ∧ u.nv.otpWord n = s.nv.otpWord n ||| v ∧
          (∀ k, k ≠ n → u.nv.otpWord k = s.nv.otpWord k) ∧ recorded u)) ∧
    (s.nv.raises = [] ∨ max s.now t < s.sec.otpAt + 60 * 10 ^ 9 → ∃ u, exec (.otpRetry t) s = .next u ∧ u.sec = s.sec ∧ Calm s u) ∧
    (s.nv.raises ≠ [] → s.sec.otpAt + 60 * 10 ^ 9 ≤ max s.now t → otpReady s = false ∨ s.nv.lifecycle = 3 →
      ∃ u, exec (.otpRetry t) s = .next u ∧ u.sec.otpAt = max s.now t ∧ Calm s u) ∧
    (∀ k l, s.nv.raises = [(k, l)] → s.sec.otpAt + 60 * 10 ^ 9 ≤ max s.now t → otpReady s = true → s.nv.lifecycle ≠ 3 → room → k < 3 → l ≤ (rollbackField k).2 →
      ∃ u, exec (.otpRetry t) s = .next u ∧ u.nv.raises = [] ∧ l ≤ rollbackLevel k u ∧ rollbackLevel k s ≤ rollbackLevel k u ∧
        u.rb R.SEC_UPD_STAT 9 = false ∧ recorded u) ∧
    (s.sec.draws < 2 ^ 20 → s.rb R.SEC_STATUS 2 = true → ∃ u, exec (.drbgReseed t good) s = .next u ∧ u.sec = s.sec ∧ Calm s u) ∧
    (2 ^ 20 ≤ s.sec.draws ∨ s.rb R.SEC_STATUS 2 = false →
      (∃ u, exec (.drbgReseed t true) s = .next u ∧ u.rb R.SEC_STATUS 2 = true ∧ u.sec = { s.sec with draws := 0, drbg := u.sec.drbg } ∧ u.free = s.free + 1 ∧
        Only [R.SEC_STATUS] [] s u) ∧
      (∃ u, exec (.drbgReseed t false) s = .next (raise Src.RNG_FAIL u) ∧ u.rb R.SEC_STATUS 2 = false ∧ u.rb (R.IRQ_STAT P.SEC0) 3 = true ∧
        Only [R.SEC_STATUS, R.IRQ_STAT P.SEC0] [] s u))

/-- R470, R471, R477, R478, R481, R489, R492 to R494: VERIFY with a token that stands grants the host its rights, any other token leaves the grant
and counts a rejection; DROP and the token's exp end the grant; UNLOCK opens the scope of a maker's token; the TAP reads and writes the window; the
service queue carries out the request whose turn it is and ends it with its status and output; three asserted tamper samples lead to QUARANTINE, whose
entry sets the mode, its lamp and its cause; the time floor is saved. Where the spec leaves it to a reading, this is the model's (log entries 43, 87, 91, 98,
102, 123, 159, 194, 196 and 199). -/
def Obligations.GrantsServicesAndQuarantine : Prop :=
  ∀ (t : Nat) (s : State),
    let win := hostWin; let dbg := R.SEC_DBG_STAT
    let put := fun (a n : Nat) => writeStop .safe a n (partialUe s a n) s = none
    let window := put win 4 ∧ put (win + 8) 4 ∧ s.flt.due = []
    let v := fun (u : TokenUse) => if rngOk s then verifyToken (winToken s) u (s.at t) else (8, none)
    let room := s.sec.audit.length + 4 < 256 ∧ s.rf R.SEC_AUDIT_STAT 15 0 = 0 ∧ (s.rd R.SEC_AUDIT_SEQ).toNat + 4 < 65536
    let taken := fun (u : State) => u.ldLE win 4 = 0 ∧ ∀ a, (a < win ∨ win + 4 ≤ a) → (a < win + 8 ∨ win + 12 ≤ a) → u.ld a = s.ld a
    let shows := fun (r : Nat) (u : State) => taken u ∧ u.ldN (win + 8) = (if r = 0 then 1 else (2 + 16 * r) % 256) ∧
      u.ldLE (win + 10) 2 = (s.ldLE (win + 10) 2 + 1) % 65536
    let ended := fun (u : State) => u.rd R.SEC_HOST_GRANT = 7#32 ∧ u.rb (R.IRQ_STAT P.HOST) 2 = true ∧
      ∀ a, a ∉ [R.SEC_HOST_GRANT, R.IRQ_STAT P.HOST] ++ (List.range 8).map R.SEC_HOST_CHAL → u.rd a = s.rd a
    (s.ldLE win 4 ≠ 0x544F4B4E ∨ 256 ≤ s.sec.audit.length → ∃ u, exec (.hostVerify t) s = .next u ∧ u.sec = s.sec ∧ Calm s u) ∧
    (s.ldLE win 4 = 0x544F4B4E → room → window → s.rf R.SEC_HOST_GRANT 2 0 = 7 →
      ∃ u, exec (.hostVerify t) s = .next u ∧ shows (v .host).1 u ∧ u.rf R.SEC_TOK_STAT 3 0 = (v .host).1 % 16 ∧
        (rngOk s = true → s.sec.draws < u.sec.draws) ∧ ((v .host).1 ≠ 0 → u.rd R.SEC_HOST_GRANT = s.rd R.SEC_HOST_GRANT ∧ u.sec.hostExp = s.sec.hostExp) ∧
        (∀ c, v .host = (0, some c) → c.floor = false → c.role < 3 →
          u.rd R.SEC_HOST_GRANT = word (c.rights * 256 + c.role) ∧ u.rb (R.IRQ_STAT P.HOST) 2 = true ∧ u.sec.hostExp = c.exp)) ∧
    (s.ldLE win 4 = 0x44524F50 → window → s.sec.hostSums = [] → s.rf R.SEC_HOST_GRANT 2 0 ≠ 7 →
      ∃ u, exec (.hostDrop t) s = .next u ∧ ended u ∧ taken u) ∧
    (s.rf R.SEC_HOST_GRANT 2 0 = 7 ∨ secNow (s.at t) ≤ s.sec.hostExp →
      ∃ u, exec (.hostGrantExpiry t) s = .next u ∧ u.sec = s.sec ∧ Calm s u) ∧
    (s.rf R.SEC_HOST_GRANT 2 0 ≠ 7 → s.sec.hostExp < secNow (s.at t) → s.sec.hostSums = [] →
      ∃ u, exec (.hostGrantExpiry t) s = .next u ∧ ended u ∧ ∀ a, u.ld a = s.ld a) ∧
    (s.ldLE win 4 = 0x554E4C4B → window → s.sec.audit.length < 256 → s.rb dbg 4 = true →
      ∃ u, exec (.unlock t) s = .next u ∧ u.rd dbg = s.rd dbg ∧ shows 5 u) ∧
    (s.ldLE win 4 = 0x554E4C4B → window → room → s.rb dbg 4 = false → s.rf dbg 11 8 < 7 →
      let r := v .debug; let scope := s.ldLE (win + 12) 4; let no := s.rf dbg 11 8 + 1
      ∃ u, exec (.unlock t) s = .next u ∧ taken u ∧ s.sec.audit.length < u.sec.audit.length ∧
        (r.1 ≠ 0 → shows r.1 u ∧ u.rf dbg 11 8 = no ∧ u.rf dbg 1 0 = s.rf dbg 1 0) ∧
        (∀ c, r = (0, some c) → c.role ≠ 0 ∨ c.rights.testBit 20 = false → shows 5 u ∧ u.rf dbg 11 8 = no ∧ u.rf dbg 1 0 = s.rf dbg 1 0) ∧
        (∀ c, r = (0, some c) → c.role = 0 → c.rights.testBit 20 = true → scope = 1 ∨ scope = 2 → s.nv.lifecycle < 2 →
          shows 0 u ∧ u.rf dbg 1 0 = scope ∧ u.rf dbg 11 8 = s.rf dbg 11 8)) ∧
    (∀ (k : Fin 65536) (v : Word), k.val ≤ 0x803 → k.val ≠ 2 →
      ∃ u, exec (.tapUnlockWrite t k v) s = .next u ∧ u.ldLE (win + 4 * k) 4 = v.toNat ∧
        (∀ a, a < win + 4 * k ∨ win + 4 * k + 4 ≤ a → u.ld a = s.ld a) ∧ ∀ a, u.rd a = s.rd a) ∧
    (∀ (k : Fin 65536) (v : Word), 0x804 ≤ k.val ∨ k.val = 2 → ∃ u, exec (.tapUnlockWrite t k v) s = .next u ∧ Calm s u) ∧
    (∀ k : Fin 65536,
      ∃ u, exec (.tapUnlockRead t k) s = .next u ∧ Calm s u ∧
        u.sec.tap = (if k.val ≤ 0xBFF then word (s.ldLE (win + 4 * k) 4) else if k.val ≤ 0xC07 then s.rd (R.SEC_DBG_CHAL (k - 0xC00))
          else if k.val = 0xC08 then s.rd dbg else s.sec.tap)) ∧
    (∀ e : Fin 64, (∀ f < 64, svcWaits s f 6 = false ∧ svcWaits s f 8 = false) →
      let i := svcWord s e 1; let x := sessOf s i; let inp := svcInput s e
      let waits := fun (o : Nat) => svcWaits s e o = true ∧ svcTurn s e = true; let now := expireToken i (s.at t)
      let noted := put (svcAddr s e + 1) 1 ∧ put (svcAddr s e + 24) 4 ∧ s.flt.due = []
      let ends := fun (st : Nat) (u : State) => svcWord u e 0 / 256 % 256 = st ∧ u.rf R.SEC_SVC_STAT 31 16 = min 65535 (s.rf R.SEC_SVC_STAT 31 16 + 1)
      let out := fun (r : Nat × List Nat × State) => svcEnd e (if r.1 = 0 then 1 else 2) r.2.1 r.2.2
      (∀ p ∈ [(1, Instr.verifyToken t e), (2, Instr.hsKeyshare t e 0), (3, Instr.hsSign t e), (4, Instr.hsInstall t e), (5, Instr.verdict t e),
          (7, Instr.update t e .updAbort)],
        (¬waits p.1 → ∃ u, exec p.2 s = .next u ∧ u.sec = s.sec ∧ Calm s u) ∧
        (waits p.1 → noted → p.1 ≠ 3 → p.1 ≠ 5 → x = none → ∃ u, exec p.2 s = .next u ∧ ends 2 u)) ∧
      (∀ y, waits 1 → x = some y → room → y.sums = [] → put (sessAddr s i) 64 → s.flt.due = [] →
        let v0 := verifyToken inp (.session y.client) (s.at t); let v := if v0.1 = 8 then verifyToken inp .recovery (s.at t) else v0
        ∃ u, exec (.verifyToken t e) s = .next (out (if v.1 = 0 then (0, [], u) else (1, [v.1], u))) ∧ u.rf R.SEC_TOK_STAT 3 0 = v.1 % 16 ∧
          (∀ c, v = (0, some c) → c.floor = false → c.role < 3 → c.rights < 2 ^ 32 → sessRole u i = c.role ∧ sessRights u i = c.rights ∧
            ∃ z, sessOf u i = some z ∧ z.modes = c.modes)) ∧
      (∀ y k n, waits 2 → x = some y → y.hs = some k → k < 16 → rngOk s = true → inp = [] → n = 0x11EB ∨ n = 0x11EC →
        let a := draw (s.at t); let b := draw a.2; let q := Config.kemKeys (bytesBE 32 b.1)
        ∃ u, exec (.hsKeyshare t e n) s = .next (svcEnd e 1 (hybridJoin n q.1 (ecdhShare n (bytesBE 32 a.1))) u) ∧ u.sec.draws = s.sec.draws + 2 ∧
          u.rb (R.SEC_KEY_META (16 + 2 * k)) 31 = true ∧ u.rb (R.SEC_KEY_META (17 + 2 * k)) 31 = true ∧
          Only [R.SEC_KEY_META (16 + 2 * k), R.SEC_KEY_META (17 + 2 * k)] [] s u) ∧
      (waits 3 → exec (.hsSign t e) s = .next (if s.rb (R.SEC_KEY_META 1) 31 && identityStands s then svcEnd e 1 (idSign s 1 inp) (s.at t)
        else svcEnd e 2 [] (s.at t))) ∧
      (∀ y k, waits 4 → noted → x = some y → y.hs = some k → s.rb (R.SEC_KEY_META (16 + 2 * k)) 31 = true →
        ∃ u, exec (.hsInstall t e) s = .next u ∧ ends 1 u ∧ ∃ z, sessOf u i = some z ∧ z.keys.isSome = true) ∧
      (∀ y, waits 5 → x = some y → let op := opOf inp; let v := verdict i y op 0 now
        exec (.verdict t e) s = .next (out (v.1, [v.1], v.2)) ∧ (covers i y op now = false → v.1 = 1) ∧ (covers i y op now = true → room → v.1 = 0)) ∧
      (∀ (op : WaordOp) y, waits 7 → x = some y →
        (op.code / 256 ≠ 8 ∨ covers i y op now = false → ∃ n, exec (.update t e op) s = .next (out (n, [], now)) ∧ n ≠ 0) ∧
        (op.code / 256 = 8 → covers i y op now = true → room → now = s.at t → exec (.update t e op) s = .next (out (runOp i op (s.at t)))) ∧
        (covers i y .updAbort now = true → room → now = s.at t → s.rf R.SEC_UPD_STAT 2 0 = 1 ∨ s.rf R.SEC_UPD_STAT 2 0 = 2 → s.upd.type = 1 →
          ∃ u, exec (.update t e .updAbort) s = .next (svcEnd e 1 [] u) ∧ u.rf R.SEC_UPD_STAT 2 0 = 0 ∧
            ∀ k < 4, u.ldN ((imagePlace 1 s.upd.copy s).1 + k) = 0))) ∧
    (∀ (g : Nat) (l : Bool), tamperPin s = some g → s.domainOn 0 = true → let pol := (s.nv.otpBits 1376 8).testBit 1
      (l ≠ pol → ∃ u, exec (.tamperSample t l) s = .next u ∧ u.sec = { s.sec with tamper := 0 } ∧ Calm s u) ∧
      (l = pol → s.sec.tamper ≠ 2 → ∃ u, exec (.tamperSample t l) s = .next u ∧ u.sec = { s.sec with tamper := s.sec.tamper + 1 } ∧ Calm s u) ∧
      (l = pol → s.sec.tamper = 2 → ∃ u, exec (.tamperSample t l) s = .next (quarantineEnter 6 (auditAdd 3 3 0x0F [] g 0 (raise Src.TAMPER u))) ∧
        u.sec.tamper = 3 ∧ u.rb (R.IRQ_STAT P.SEC0) 1 = true ∧ Only [R.IRQ_STAT P.SEC0] [] s u)) ∧
    (∀ c : Fin 16, s.rf R.SYS_MODE 3 0 = 7 → ∃ u, exec (.quarantineEntry t c) s = .next u ∧ u.sys = s.sys ∧ Calm s u) ∧
    (s.rf R.SYS_MODE 3 0 ≠ 7 → room →
      ∃ u, exec (.quarantineEntry t 1) s = .next u ∧ u.rf R.SYS_MODE 3 0 = 7 ∧ u.rf R.SYS_MODE 5 4 = 0 ∧ u.rb R.SEC_STATUS 4 = true ∧
        u.rf R.SEC_STATUS 11 8 = 1 ∧ u.sys.pend = none ∧ u.rb (R.IRQ_STAT P.SEC0) 0 = true ∧ u.rb (R.IRQ_STAT P.SYS) 3 = true ∧ (∀ a, u.ld a = s.ld a) ∧
        ∀ a, a ∉ [R.SYS_MODE, R.SEC_STATUS, R.IRQ_STAT P.SEC0, R.IRQ_STAT P.SYS] → pageOf a ≠ P.SEC4 → pageOf a ≠ P.NVM → u.rd a = s.rd a) ∧
    (let x : Tx := ⟨2, false, (s.rd (R.NVM_REGION_BASE 2)).toNat, [], none, .timeFloor (timeFloor s), s.nv.txn, 0⟩;
      (txRefusal x s = 0 → ∃ u, exec (.timeFloorSave t) s = .next u ∧ u.nvm.queue = s.nvm.queue ++ [x] ∧ u.nv.txn = s.nv.txn + 1 ∧
        (∀ a, pageOf a ≠ P.NVM → u.rd a = s.rd a) ∧ ∀ a, u.ld a = s.ld a) ∧
      (txRefusal x s ≠ 0 → ∃ u, exec (.timeFloorSave t) s = .next u ∧ u.nvm = s.nvm ∧ Calm s u))

/-- R427 to R429, R431 to R434, R471 to R476, R480, R571, R579: a record that fails a check is dropped and counted, one that opens is taken up once and its
message counted; a ClientHello to another port does nothing, one with no room is dropped and counted, one whose offer does not stand is refused, any other
takes a free entry for a handshake; a segment head is called when its wait is over; a handshake that proves both sides ends with an OPEN session, any other
frees its entry; an idle session is closed; a request to a session that is not OPEN does nothing, a repeated TXN is answered from the kept response, a code
without a group is UNKNOWN, a command that the rights do not cover is DENIED, and one that SAFE allows is carried out and answered with its status:
PRESENT_TOKEN with a token that stands gives its role and rights, ATTEST signs the session's exporter value, MODE_REQUEST leaves the request pending or
shows its refusal, COMMISSION_DONE and COMMISSION_RESET queue the transaction that writes COMMISSIONED; a SAFETY message that repeats its count does
nothing, and a part of an object list goes to its place in its slot, which the last part posts. Where the spec leaves it to a reading, this is the model's
(log entries 43, 84, 101 and 200). -/
def Obligations.SessionsCarryCommands : Prop :=
  ∀ (t : Nat) (e : Fin 1024) (txn : Word) (s : State),
    let x := sessOf s e; let now := max s.now t; let net := R.STAT P.NET 0
    let free := fun (j : Nat) => writeStop .safe (sessAddr s j) 64 (partialUe s (sessAddr s j) 64) s = none
    let whole := free e ∧ s.flt.due = []
    let outside := fun (u : State) => ∀ a, a < sessAddr s e ∨ sessAddr s e + 64 ≤ a → u.ld a = s.ld a
    let is := fun (st : Nat) (y : SessSt) => x = some y ∧ entryGood s e = true ∧ sessState s e = st
    let fresh := s.ldN (sessAddr s e) / 8 % 8 = 7 ∨ secNow (s.at t) ≤ s.ldLE (sessAddr s e + 28) 8
    let room := s.sec.audit.length + 4 < 256 ∧ s.rf R.SEC_AUDIT_STAT 15 0 = 0 ∧ (s.rd R.SEC_AUDIT_SEQ).toNat + 4 < 65536
    let seen := fun (u : State) (r : Resp) => if r.stored && sessRole u e == 0 then { r with data := redacted r.data } else r
    let answers := fun (status : Nat) (data : List Nat) (u : State) => u.ses.resp = some (e.val, ⟨txn.toNat, status, data, false⟩)
    let hsRegs := fun (y : SessSt) => match y.hs with
      | some k => [R.NET_SESS_STAT, R.SEC_KEY_META (16 + 2 * k), R.SEC_KEY_META (17 + 2 * k)]
      | none => [R.NET_SESS_STAT]
    (∀ (cid : Nat) (body : List Byte), let j := cid % 1024
      (s.pageOn P.NET = false → ∃ u, exec (.dtlsRecordRx t cid body) s = .next u ∧ u.ses = s.ses ∧ Calm s u) ∧
      (s.pageOn P.NET = true → sessOf s j = none ∨ entryGood s j = true ∧ s.ldLE (sessAddr s j) 4 / 1024 ≠ cid / 1024 →
        ∃ u, exec (.dtlsRecordRx t cid body) s = .next u ∧ u.ses = s.ses ∧ bitsOf (u.st net) 31 16 = min 65535 (bitsOf (s.st net) 31 16 + 1) ∧
          Only [] [net] s u) ∧
      (∀ (y : SessSt) (k : Nat), s.pageOn P.NET = true → sessOf s j = some y → entryGood s j = true → s.ldLE (sessAddr s j) 4 / 1024 = cid / 1024 →
        y.keys = some k → free j → s.flt.due = [] →
        let r := Config.openRecord k (nums body)
        ∃ u, exec (.dtlsRecordRx t cid body) s = .next u ∧ (∀ a, a < sessAddr s j ∨ sessAddr s j + 64 ≤ a → u.ld a = s.ld a) ∧
          (r = none → u.ses = s.ses ∧ bitsOf (u.st net) 31 16 = min 65535 (bitsOf (s.st net) 31 16 + 1) ∧ u.rb (R.IRQ_STAT P.NET) 1 = true ∧
            Only [R.SEC_REC_STAT, R.IRQ_STAT P.NET] [net] s u) ∧
          (∀ m, r = some m → y.top.getD m.1 < m.1 + 64 → m.1 ∉ y.seen →
            (∃ z, sessOf u j = some z ∧ z.top = some (max (y.top.getD m.1) m.1) ∧ m.1 ∈ z.seen ∧ z.rxAt = now ∧ z.keys = y.keys) ∧
            bitsOf (u.st net) 15 0 = min 65535 (bitsOf (s.st net) 15 0 + 1) ∧
            (messageGood m.2 = true → bitsOf (u.st (R.STAT P.NET 1)) 15 0 = min 65535 (bitsOf (s.st (R.STAT P.NET 1)) 15 0 + 1)) ∧
            (messageGood m.2 = false → bitsOf (u.st (R.STAT P.NET 1)) 31 16 = min 65535 (bitsOf (s.st (R.STAT P.NET 1)) 31 16 + 1)) ∧
            (∀ a, u.rd a = s.rd a) ∧ ∀ a, a ≠ net → a ≠ R.STAT P.NET 1 → u.st a = s.st a) ∧
          (∀ m, r = some m → m.1 + 64 ≤ y.top.getD m.1 ∨ m.1 ∈ y.seen →
            u.ses = s.ses ∧ bitsOf (u.st net) 31 16 = min 65535 (bitsOf (s.st net) 31 16 + 1) ∧ Only [] [net] s u))) ∧
    (∀ (port : Fin 65536) (addr : Nat) (v6 : Bool) (o : HelloOffer),
      let stands := o.dtls13 = true ∧ o.suite = true ∧ o.group = true ∧ rngOk s = true
      (s.pageOn P.NET = false ∨ o.dport ≠ s.rf R.NET_WAORD_PORT 15 0 → ∃ u, exec (.clientHello t port addr v6 o) s = .next u ∧ u.ses = s.ses ∧ Calm s u) ∧
      (s.pageOn P.NET = true → o.dport = s.rf R.NET_WAORD_PORT 15 0 →
        (sessFull s = true →
          ∃ u, exec (.clientHello t port addr v6 o) s = .next u ∧ u.ses = s.ses ∧ u.rb (R.IRQ_STAT P.NET) 0 = true ∧
            bitsOf (u.st (R.STAT P.NET 2)) 31 16 = min 65535 (bitsOf (s.st (R.STAT P.NET 2)) 31 16 + 1) ∧ Only [R.IRQ_STAT P.NET] [R.STAT P.NET 2] s u) ∧
        (sessFull s = false → ¬stands → ∃ u, exec (.clientHello t port addr v6 o) s = .next u ∧ u.ses = s.ses ∧ Calm s u) ∧
        (sessFull s = false → stands → (∀ j < 1024, sessOf s j = none → free j) → s.flt.due = [] →
          ∃ u, exec (.clientHello t port addr v6 o) s = .next u ∧ u.ses.sess.length = s.ses.sess.length + 1 ∧
            (∃ j, sessOf s j = none ∧ sessState u j = 1 ∧ ∃ z, sessOf u j = some z ∧ z.hs = some (freeHs s) ∧ z.head = none) ∧
            (∀ a, a ≠ R.NET_SESS_STAT → u.rd a = s.rd a) ∧ ∀ a, u.st a = s.st a))) ∧
    (∀ (h : Fin 8) (port : Fin 65536) (addr : Nat) (v6 : Bool), s.nv.heads ≤ h ∨ s.ses.sess.any (fun p => p.2.head == some h.val) = true →
      ∃ u, exec (.handshakeStart t h port addr v6) s = .next u ∧ u.ses = s.ses ∧ Calm s u) ∧
    (∀ (h : Fin 8) (port : Fin 65536) (addr : Nat) (v6 : Bool) (d : Nat), s.pageOn P.NET = true → h < s.nv.heads → (∃ p, portUp s p = true) →
      headDue s h = some d → d ≤ now → s.ses.sess.any (fun p => p.2.head == some h.val) = false → sessFull s = false → rngOk s = true →
      (∀ j < 1024, sessOf s j = none → free j) → s.flt.due = [] →
      ∃ u, exec (.handshakeStart t h port addr v6) s = .next u ∧ u.ses.sess.length = s.ses.sess.length + 1 ∧
        (∃ j, sessOf s j = none ∧ sessState u j = 1 ∧ ∃ z, sessOf u j = some z ∧ z.hs = some (freeHs s) ∧ z.head = some h.val) ∧
        (∀ a, a ≠ R.NET_SESS_STAT → u.rd a = s.rd a) ∧ ∀ a, u.st a = s.st a) ∧
    (∀ (y : SessSt) (client : List Byte), is 1 y → whole →
      let proves := identityStands s = true ∧ peerStands y (nums client) s = true
      (proves →
        ∃ u, exec (.handshakeDone t e true client) s = .next (startProgress u) ∧ sessState u e = 2 ∧
          (∃ z, sessOf u e = some z ∧ z.keys.isSome = true ∧ z.hs = none ∧ z.rxAt = now ∧ z.client = sha256 (nums client)) ∧ outside u ∧
          (∀ a, a ∉ hsRegs y → u.rd a = s.rd a) ∧ ∀ a, a ≠ R.STAT P.NET 2 → u.st a = s.st a) ∧
      (∀ ok, ok = false ∨ ¬proves → y.sums = [] →
        ∃ u, exec (.handshakeDone t e ok client) s = .next (startProgress u) ∧ sessOf u e = none ∧ sessState u e = 0 ∧ outside u ∧
          (∀ a, a ∉ hsRegs y → u.rd a = s.rd a) ∧ ∀ a, u.st a = s.st a)) ∧
    (∀ y : SessSt, x = some y → let idle := y.rxAt + s.rf R.NET_SESS_CFG 31 16 * 10 ^ 9
      (now < idle → ∃ u, exec (.sessionIdle t e) s = .next u ∧ u.ses = s.ses ∧ Calm s u) ∧
      (idle ≤ now → y.sums = [] → whole →
        ∃ u, exec (.sessionIdle t e) s = .next u ∧ sessOf u e = none ∧ sessState u e = 0 ∧ outside u ∧ (∀ a, a ∉ hsRegs y → u.rd a = s.rd a) ∧
          ∀ a, u.st a = s.st a)) ∧
    (∀ (op : WaordOp) (tok : List Byte) (r : Option (Fin 3)) (mode : Fin 16) (lamp : Fin 4),
      ∀ p ∈ [(Instr.waordRequest t e txn op, op), (.presentToken t e txn tok r, .presentToken (nums tok) r), (.dropToken t e txn, .dropToken),
          (.attest t e txn, .attest), (.modeRequest t e txn mode lamp, .modeRequest mode lamp), (.commissionDone t e txn, .commissionDone),
          (.commissionReset t e txn, .commissionReset)],
      (x = none ∨ entryGood s e = true ∧ sessState s e ≠ 2 → ∃ u, exec p.1 s = .next u ∧ u.ses = s.ses ∧ Calm s u) ∧
      (∀ y, is 2 y →
        (∀ k, y.kept.find? (fun r => r.txn == txn.toNat) = some k →
          ∃ u, exec p.1 s = .next u ∧ u.ses = { s.ses with resp := some (e.val, seen s k) } ∧ Calm s u) ∧
        (y.kept.find? (fun r => r.txn == txn.toNat) = none → fresh → let unknown := opRight (modeNow s) p.2 = some 32
          (unknown → ∃ u, exec p.1 s = .next u ∧ answers 4 [] u ∧ Calm s u) ∧
          (¬unknown → covers e y p.2 s = false → ∃ u, exec p.1 s = .next u ∧ answers 1 [] u ∧ Calm s u) ∧
          (∀ v, ¬unknown → verdict e y p.2 (runOp e p.2 (s.at t)).1 (s.at t) = (0, v) → let z := runOp e p.2 v
            ∃ u, exec p.1 s = .next u ∧ u.ses.resp = some (e.val, seen z.2.2 ⟨txn.toNat, z.1, z.2.1, opStored p.2 && z.1 == 0⟩) ∧
              (∀ a, u.rd a = z.2.2.rd a) ∧ (∀ a, u.ld a = z.2.2.ld a) ∧ u.nv = z.2.2.nv ∧ u.sys = z.2.2.sys)))) ∧
    (∀ (y : SessSt), is 2 y → y.kept.find? (fun r => r.txn == txn.toNat) = none → fresh → whole → y.sums = [] → s.rf R.SYS_MODE 3 0 ≠ 7 →
      (∃ u, exec (.dropToken t e txn) s = .next u ∧ answers 0 [] u ∧ sessRole u e = 7 ∧ sessRights u e = 0 ∧ outside u ∧ (∀ a, u.rd a = s.rd a) ∧
        ∀ a, u.st a = s.st a) ∧
      (∀ k, y.keys = some k → s.rb (R.SEC_KEY_META 2) 31 = true → identityStands s = true →
        ∃ u, exec (.attest t e txn) s = .next u ∧ answers 0 (idSign s 2 (Config.exporter k attestLabel)) u ∧ Calm s u) ∧
      (∀ tok : List Byte, room →
        let v0 := verifyToken (nums tok) (.session y.client) (s.at t); let v := if v0.1 = 8 then verifyToken (nums tok) .recovery (s.at t) else v0
        ∃ u, exec (.presentToken t e txn tok none) s = .next u ∧ u.rf R.SEC_TOK_STAT 3 0 = v.1 % 16 ∧ answers (min 1 v.1) (if v.1 = 0 then [] else [v.1]) u ∧
          (v.1 ≠ 0 → sessRole u e = sessRole s e ∧ sessRights u e = sessRights s e) ∧
          (∀ c, v = (0, some c) → c.floor = false → c.role < 3 → c.rights < 2 ^ 32 → sessRole u e = c.role ∧ sessRights u e = c.rights)) ∧
      (∀ (mode : Fin 16) (lamp : Fin 4), covers e y (.modeRequest mode lamp) s = true → room →
        let q : ModeReq := ⟨mode, lamp, false, sessRole s e, sessRights s e, 0, 0, sessTid s e⟩; let r := modeRefusal q (s.at t)
        (r = 0 → ∃ u, exec (.modeRequest t e txn mode lamp) s = .next u ∧ answers 0 [] u ∧ u.sys.pend = some { q with wait := ticksToA (s.at t) } ∧
          u.rb R.SYS_MODE_STAT 12 = true ∧ u.rf R.SYS_MODE_STAT 11 8 = mode) ∧
        (r ≠ 0 → ∃ u, exec (.modeRequest t e txn mode lamp) s = .next u ∧ answers (if r = 3 then 1 else 2) [r] u ∧ u.sys.pend = s.sys.pend ∧
          u.rf R.SYS_MODE_STAT 3 0 = r % 16)) ∧
      (covers e y .commissionDone s = true → room → s.rf R.SYS_MODE 3 0 = 1 → let n := commissionLack (s.at t)
        (n ≠ 0 → ∃ u, exec (.commissionDone t e txn) s = .next u ∧ answers 2 [n] u) ∧
        (n = 0 → ∃ u, exec (.commissionDone t e txn) s = .next u ∧ answers 0 [] u ∧
          (s.nvm.queue.length + 2 ≤ 16 → s.nvm.direct = none → regionFor s (s.rd (R.NVM_REGION_BASE 2)).toNat 1 = some 2 → s.rb (R.NVM_REGION_WR 2) 2 = true →
            u.nvm.queue.any (fun x => x.upd == .commissioned true) = true))) ∧
      (covers e y .commissionReset s = true → room → sessRole s e = 0 → s.rf R.SYS_MODE 3 0 = 0 ∨ s.rf R.SYS_MODE 3 0 = 6 →
        ∃ u, exec (.commissionReset t e txn) s = .next u ∧ answers 0 [] u ∧
          (s.nvm.queue.length + 2 ≤ 16 → s.nvm.direct = none → regionFor s (s.rd (R.NVM_REGION_BASE 2)).toNat 1 = some 2 → s.rb (R.NVM_REGION_WR 2) 2 = true →
            u.nvm.queue.any (fun x => x.upd == .commissioned false) = true))) ∧
    (∀ (y : SessSt) (alive : Fin 256) (op : WaordOp), is 2 y → let unknown := opRight (modeNow s) op = some 32
      (y.alive = some alive.val → ∃ u, exec (.waordSafety t e alive txn op) s = .next u ∧ u.ses = s.ses ∧ Calm s u) ∧
      (y.alive = none → fresh → ¬unknown → covers e y op s = false →
        ∃ u, exec (.waordSafety t e alive txn op) s = .next u ∧ answers 1 [] u ∧ Calm s u) ∧
      (∀ v, y.alive = none ∨ y.alive = some ((alive.val + 255) % 256) → fresh → ¬unknown →
        let w := setSess e (fun y => { y with alive := some alive.val }) (s.at t)
        verdict e y op (runOp e op w).1 w = (0, v) → let z := runOp e op v
        ∃ u, exec (.waordSafety t e alive txn op) s = .next u ∧ (∀ a, u.rd a = z.2.2.rd a) ∧ (∀ a, u.ld a = z.2.2.ld a) ∧ u.nv = z.2.2.nv ∧
          u.ses.resp = some (e.val, seen z.2.2 ⟨txn.toNat, z.1, z.2.1, opStored op && z.1 == 0⟩))) ∧
    (∀ (y : SessSt) (part parts : Fin 256) (id : Word) (l : List Byte), is 2 y → fresh →
      (covers e y (.other 0x0500) s = false → ∃ u, exec (.waordObjects t e part parts id l) s = .next u ∧ u.ses = s.ses ∧ Calm s u) ∧
      (∀ v, verdict e y (.other 0x0500) 0 (s.at t) = (0, v) → part < parts → parts.val ≤ 8 →
        (∀ k, part.val = 0 → 1 < parts.val → l.length = 1152 → y.list = none → freeCh1 e v = some k →
          exec (.waordObjects t e part parts id l) s =
            .next (setSess e (fun z => { z with list := some (id.toNat % 65536, parts.val, 1, k) }) (engineWrite .apu (slotAddr v k) (nums l) v).2)) ∧
        (∀ k, part.val + 1 = parts.val → l.length ≤ 1152 → 1152 * part.val + l.length ≤ 8256 → y.list = some (id.toNat % 65536, parts.val, part.val, k) →
          exec (.waordObjects t e part parts id l) s =
            .next (glmPost 0#32 (word k) (setSess e (fun z => { z with list := none }) (engineWrite .apu (slotAddr v k + 1152 * part.val) (nums l) v).2))) ∧
        (∀ d n k j, y.list = some (d, n, k, j) → d = id.toNat % 65536 → n ≠ parts.val ∨ k ≠ part.val →
          exec (.waordObjects t e part parts id l) s = .next v)))

/-- R463 to R465, R488, R491: the commands of an update and of the audit log reach their session as other requests do, and of a session whose rights cover
them they do what the update states allow: BEGIN only from IDLE, erasing the target, DATA only while RECEIVING and within the image, VERIFY stages an image
that stands or refuses it, ACTIVATE only from STAGED, ABORT from RECEIVING and STAGED, leaving the target without its MAGIC, CONFIRM only from a TRIAL that
has not failed and has reached a running mode; any other state answers BUSY. An activation whose tick has come resets the chip once the lamp is dark; a trial
that is not confirmed in time is marked failed; AUDIT_READ answers with its record and export, AUDIT_ACK never lowers ACKED; RCV_CHALLENGE answers the
challenge it draws, and RCV_EXIT with a maker's token that stands is granted. Where the spec leaves it to a reading, this is the model's (log entries 43, 92,
94, 95, 100, 196 and 198). -/
def Obligations.UpdatesAndAuditFollowTheirStates : Prop :=
  ∀ (t : Nat) (e : Fin 1024) (txn : Word) (s : State),
    let st := R.SEC_UPD_STAT; let dark := lampLit (s.at t) = false; let next := (s.rd R.SEC_AUDIT_SEQ).toNat
    let room := s.sec.audit.length + 4 < 256 ∧ s.rf R.SEC_AUDIT_STAT 15 0 = 0 ∧ next + 4 < 65536
    let others := fun (l : List Nat) (u : State) => ∀ a, a ∉ l → pageOf a ≠ P.SEC4 → pageOf a ≠ P.NVM → u.rd a = s.rd a
    let answers := fun (status : Nat) (data : List Nat) (u : State) => u.ses.resp = some (e.val, ⟨txn.toNat, status, data, false⟩)
    let fresh := s.ldN (sessAddr s e) / 8 % 8 = 7 ∨ secNow (s.at t) ≤ s.ldLE (sessAddr s e + 28) 8
    let busy := fun (u : State) => answers 3 [] u ∧ u.rf st 7 4 = 3 ∧ u.upd = s.upd ∧ others [st] u ∧ ∀ a, u.ld a = s.ld a
    (∀ (type : Fin 256) (len ofs first last seq : Word) (l tok : List Byte) (tick : Option Nat) (force : Bool),
      ∀ p ∈ [(Instr.updBegin t e txn type len, WaordOp.updBegin type len.toNat), (.updData t e txn ofs l, .updData ofs.toNat (nums l)),
          (.updVerify t e txn, .updVerify), (.updActivate t e txn tick force, .updActivate tick force), (.updConfirm t e txn, .updConfirm),
          (.updAbort t e txn, .updAbort), (.auditRead t e txn first last, .auditRead first.toNat last.toNat), (.auditAck t e txn seq, .auditAck seq.toNat),
          (.rcvChallenge t e txn, .rcvChallenge), (.rcvExit t e txn tok, .rcvExit (nums tok))],
      (sessOf s e = none → ∃ u, exec p.1 s = .next u ∧ u.ses = s.ses ∧ Calm s u) ∧
      (∀ y, sessOf s e = some y → entryGood s e = true → sessState s e = 2 → y.kept.find? (fun r => r.txn == txn.toNat) = none → fresh →
        covers e y p.2 s = false → ∃ u, exec p.1 s = .next u ∧ answers 1 [] u ∧ Calm s u)) ∧
    (∀ y, sessOf s e = some y → entryGood s e = true → sessState s e = 2 → y.kept.find? (fun r => r.txn == txn.toNat) = none → fresh → room →
      let may := fun (op : WaordOp) => covers e y op s = true
      (∀ (type : Fin 256) (len : Word), may (.updBegin type len.toNat) →
        let p := imagePlace 1 (1 - copyInUse 1 s) s
        (s.rf st 2 0 ≠ 0 → ∃ u, exec (.updBegin t e txn type len) s = .next u ∧ busy u) ∧
        (s.rf st 2 0 = 0 → type.val = 1 → len.toNat ≤ imageCap 1 → 5696 + len.toNat ≤ p.2 →
          ∃ u, exec (.updBegin t e txn type len) s = .next u ∧ answers 0 [] u ∧ u.rf st 2 0 = 1 ∧ u.upd.type = 1 ∧ u.upd.len = len.toNat ∧
            u.upd.copy = 1 - copyInUse 1 s ∧ (∀ k < p.2, u.ldN (p.1 + k) = 0xFF) ∧ (∀ a, a < p.1 ∨ p.1 + p.2 ≤ a → u.ld a = s.ld a) ∧ others [st] u)) ∧
      (∀ (ofs : Word) (l : List Byte), may (.updData ofs.toNat (nums l)) → let p := (imagePlace 1 s.upd.copy s).1 + ofs.toNat
        (s.rf st 2 0 ≠ 1 → ∃ u, exec (.updData t e txn ofs l) s = .next u ∧ busy u) ∧
        (s.rf st 2 0 = 1 → 5696 + s.upd.len < ofs.toNat + l.length →
          ∃ u, exec (.updData t e txn ofs l) s = .next u ∧ answers 2 [] u ∧ u.upd = s.upd ∧ others [] u ∧ ∀ a, u.ld a = s.ld a) ∧
        (s.rf st 2 0 = 1 → s.upd.type = 1 → ofs.toNat + l.length ≤ 5696 + s.upd.len →
          ∃ u, exec (.updData t e txn ofs l) s = .next u ∧ answers 0 [] u ∧ (∀ k (h : k < l.length), u.ldN (p + k) = l[k].toNat &&& s.ldN (p + k)) ∧
            (∀ a, a < p ∨ p + l.length ≤ a → u.ld a = s.ld a) ∧ u.upd = s.upd ∧ others [] u)) ∧
      (may .updVerify → let c := imageCheck s.upd.type s.upd.copy (s.at t)
        (s.rf st 2 0 ≠ 1 → ∃ u, exec (.updVerify t e txn) s = .next u ∧ busy u) ∧
        (s.rf st 2 0 = 1 → s.upd.type < 3 → s.upd.copy < 2 →
          ∃ u, exec (.updVerify t e txn) s = .next u ∧ answers (if c.1 then 0 else 2) [] u ∧
            (c.1 = true → u.rf st 2 0 = 2 ∧ u.rf st 7 4 = 1 ∧ u.rb (R.IRQ_STAT P.SEC3) 0 = true ∧ u.upd.roll = c.2.1 ∧ u.upd.ver = c.2.2 ∧
              others [st, R.IRQ_STAT P.SEC3, R.SEC_IMG_VER (imageIndex s.upd.type s.upd.copy)] u ∧ ∀ a, u.ld a = s.ld a))) ∧
      (∀ (tick : Option Nat) (force : Bool), may (.updActivate tick force) →
        (s.rf st 2 0 ≠ 2 → ∃ u, exec (.updActivate t e txn tick force) s = .next u ∧ busy u) ∧
        (s.rf st 2 0 = 2 → ∃ u, exec (.updActivate t e txn tick force) s = .next u ∧ answers 0 [] u ∧ u.rf st 2 0 = 3 ∧
          u.upd.act = some (tick.getD (s.tickNum + 1), force && sessRole s e == 0) ∧ others [st] u ∧ ∀ a, u.ld a = s.ld a)) ∧
      (may .updConfirm →
        (s.rf st 2 0 ≠ 4 ∨ s.upd.failed = true ∨ trialReached s = false → ∃ u, exec (.updConfirm t e txn) s = .next u ∧ busy u) ∧
        (s.rf st 2 0 = 4 → s.upd.failed = false → trialReached s = true → s.upd.roll ≤ rollbackLevel (imageCounter (s.nv.trial / 4)) s →
          ∃ u, exec (.updConfirm t e txn) s = .next u ∧ answers 0 [] u ∧ u.rf st 2 0 = 0 ∧ u.rf st 7 4 = 5 ∧ u.nv.trial = 0 ∧
            u.rb R.SEC_BOOT_STAT 5 = false ∧ others [st, R.SEC_BOOT_STAT, R.IRQ_STAT P.SEC3] u ∧ ∀ a, u.ld a = s.ld a)) ∧
      (may .updAbort → let p := (imagePlace 1 s.upd.copy s).1
        (s.rf st 2 0 ≠ 1 → s.rf st 2 0 ≠ 2 → ∃ u, exec (.updAbort t e txn) s = .next u ∧ busy u) ∧
        (s.rf st 2 0 = 1 ∨ s.rf st 2 0 = 2 → s.upd.type = 1 →
          ∃ u, exec (.updAbort t e txn) s = .next u ∧ answers 0 [] u ∧ u.rf st 2 0 = 0 ∧ (∀ k < 4, u.ldN (p + k) = 0) ∧
            (∀ a, a < p ∨ p + 4 ≤ a → u.ld a = s.ld a) ∧ others [st] u)) ∧
      (∀ first last : Word, may (.auditRead first.toNat last.toNat) → identityStands s = true →
        ∃ u, exec (.auditRead t e txn first last) s = .next u ∧ (∃ data, u.ses.resp = some (e.val, ⟨txn.toNat, 0, data, false⟩)) ∧
          u.sec.exported = max s.sec.exported (min (last.toNat + 1) (next + 1) - 1) ∧ u.rd R.SEC_AUDIT_SEQ = word (next + 2) ∧ others [] u ∧
          ∀ a, u.ld a = s.ld a) ∧
      (∀ seq : Word, may (.auditAck seq.toNat) →
        ∃ u, exec (.auditAck t e txn seq) s = .next u ∧ answers 0 [] u ∧
          (u.rd R.SEC_AUDIT_ACKED).toNat = max (s.rd R.SEC_AUDIT_ACKED).toNat (min seq.toNat s.sec.exported) % 2 ^ 32 ∧
          u.rd R.SEC_AUDIT_SEQ = word (next + 2) ∧ others [] u ∧ ∀ a, u.ld a = s.ld a) ∧
      (may .rcvChallenge →
        (rngOk s = true → ∃ u, exec (.rcvChallenge t e txn) s = .next u ∧ answers 0 (nonceAt (R.SEC_RCV_CHAL 0) u) u ∧ u.sec.draws = s.sec.draws + 1 ∧
          Only ((List.range 8).map fun k => R.SEC_RCV_CHAL k) [] s u) ∧
        (rngOk s = false → ∃ u, exec (.rcvChallenge t e txn) s = .next u ∧ answers 3 [] u ∧ Calm s u)) ∧
      (∀ tok : List Byte, may (.rcvExit (nums tok)) → rngOk s = true → let v := verifyToken (nums tok) .recovery (s.at t)
        ∃ u, exec (.rcvExit t e txn tok) s = .next u ∧ u.rf R.SEC_TOK_STAT 3 0 = v.1 % 16 ∧
          (v.1 ≠ 0 → answers 1 [v.1] u ∧ u.nv.quarantine = s.nv.quarantine ∧ u.rd R.SEC_AUDIT_SEQ = word (next + 1)) ∧
          (∀ c, v = (0, some c) → c.role = 0 → c.rights.testBit 21 = true → c.floor = false →
            answers 0 [] u ∧ u.rd R.SEC_AUDIT_SEQ = word (next + 2)))) ∧
    (s.rf st 2 0 = 1 → (imageCheck s.upd.type s.upd.copy s).1 = false →
      ∃ u, let r := raise Src.IMAGE_VERIFY_FAIL u; runOp e .updVerify s = (2, [], auditAdd (sessRole s e) 0 8 (sessTid s e) 0x0803 r.upd.ver r) ∧
      u.rf st 2 0 = 0 ∧ u.rf st 7 4 = 2 ∧ u.sec.reject = some (s.upd.type, s.upd.copy) ∧ Only [st, R.IRQ_STAT P.SEC3] [] s u) ∧
    (∀ x, s.upd.act = some x → s.rf R.PWR_STAT 10 8 < 2 →
      (s.rf st 2 0 = 3 → x.1 ≤ s.tickNum → dark ∨ x.2 = true →
        exec (.updateActivationReset t) s = .next (chipReset 4 0 ((s.at t).setNv fun n => { n with trial := 4 * s.upd.type + 1 }))) ∧
      (s.rf st 2 0 ≠ 3 ∨ s.tickNum < x.1 ∨ (¬dark ∧ x.2 = false) → ∃ u, exec (.updateActivationReset t) s = .next u ∧ u.upd = s.upd ∧ Calm s u)) ∧
    (s.rf st 2 0 ≠ 4 ∨ s.upd.failed = true ∨ max s.now t < s.upd.trialAt + s.rf R.SEC_UPD_CFG 15 0 * 10 ^ 9 →
      ∃ u, exec (.confirmExpiry t) s = .next u ∧ u.upd = s.upd ∧ Calm s u) ∧
    (s.rf st 2 0 = 4 → s.upd.failed = false → s.upd.trialAt + s.rf R.SEC_UPD_CFG 15 0 * 10 ^ 9 ≤ max s.now t → ¬dark →
      ∃ u, exec (.confirmExpiry t) s = .next u ∧ u.upd.failed = true ∧ ∀ a, pageOf a ≠ P.NVM → u.rd a = s.rd a) ∧
    (s.rf st 2 0 = 4 → s.upd.failed = false → s.upd.trialAt + s.rf R.SEC_UPD_CFG 15 0 * 10 ^ 9 ≤ max s.now t → dark →
      ∃ u, exec (.confirmExpiry t) s = .next (chipReset 4 0 u) ∧ u.upd.failed = true ∧ u.nv.trial = s.nv.trial / 4 * 4 + 3)

/-- R25, R461, R562 to R568, R581, R592 to R595: power-good is a chip reset with cause POR that leaves every domain on, RESET_N one with cause PIN,
and SYS_RST_CMD one with cause SOFTWARE where it carries its key; each step of start-up waits for the one before it, and a step that has been
completed is not repeated; a self-test or a record that fails ends start-up with its reason; harts are reset by mask; watchdogs, the lockstep
monitor and the rail monitors raise their sources; with the rails gone every domain is off. Where the spec leaves it to a reading, this is the
model's (log entries 76, 89, 108, 109, 115, 116, 120 and 121). -/
def Obligations.StartUpResetsAndMonitors : Prop :=
  ∀ (t : Nat) (i : Init) (w : Word) (s : State),
    let now := max s.now t; let off := s.rf R.PWR_DOMAIN_STAT 7 0 = 0; let steps := fun k => s.rf (R.SYS_START_MS k) 15 0
    (∃ u, exec (.powerGood t) s = .next u ∧ u.rf R.SYS_RST_CAUSE 3 0 = 0 ∧ u.rd R.PWR_DOMAIN_STAT = 0xFF#32 ∧ u.tickNum = 0 ∧ u.sys.pgTime = now ∧
      u.rd (R.STATUS P.CLK) = 0xFF#32 ∧ (∀ a, regionOf a = .main ∨ regionOf a = .ret → u.ld a = 0#8) ∧
      (∀ a, regionOf a = .emram ∨ regionOf a = .xspi → u.ld a = s.ld a) ∧ u.pending = s.pending) ∧
    (off → ∃ u, exec (.resetN t) s = .next u ∧ Calm s u) ∧
    (¬off → ∃ u, exec (.resetN t) s = .next u ∧ u.rf R.SYS_RST_CAUSE 3 0 = 1 ∧ u.rd R.SYS_RST_TICK = word s.tickNum ∧
      (∀ a, regionOf a = .main → u.ld a = 0#8) ∧ (∀ a, regionOf a = .ret ∨ regionOf a = .emram → u.ld a = s.ld a) ∧ u.pending = s.pending) ∧
    (s.accepts t i R.SYS_RST_CMD w →
      (bitsOf w 31 16 ≠ 0xA5C3 ∨ bitOf w 0 = false → ∃ u, exec (.sysRstCmd t i w) s = .next u ∧ Only [R.SYS_RST_CMD] [] s u) ∧
      (bitsOf w 31 16 = 0xA5C3 → bitOf w 0 = true → ∃ u, exec (.sysRstCmd t i w) s = .next u ∧ u.rf R.SYS_RST_CAUSE 3 0 = 5 ∧
        u.rd R.SYS_RST_TICK = word s.tickNum)) ∧
    (off ∨ steps 1 ≠ 0 ∨ s.rf R.SYS_MODE 3 0 = 7 → ∀ puf keys rng f, ∃ u, exec (.safeRunning t puf keys rng f) s = .next u ∧ Calm s u) ∧
    (∀ (puf keys rng : Bool) (f : Fin 64), ¬off → steps 1 = 0 → s.rf R.SYS_MODE 3 0 ≠ 7 →
      let v := bootPrepare puf keys rng f (s.at t); let k := bootCopy 0 v;
      ∃ u, exec (.safeRunning t puf keys rng f) s = .next u ∧
      (safeCopy v = none → u = bootMode 1 (imageFail 0 (1 - k) (imageFail 0 k v))) ∧
      (∀ c, safeCopy v = some c → let b := bootStart c v; warmBoot b = false → otpGood b = true → b.rb R.SEC_STATUS 0 = true → keys = true →
        directoryGood (otpLoad (otpShow (bootRelease (s.at t)))) = true → chainGood b = true → b.nv.quarantine = 0 → b.rf (R.SYS_START_MS 1) 15 0 = 0 →
        b.sec.audit.length < 256 → b.rf R.SEC_AUDIT_STAT 15 0 = 0 → (b.rd R.SEC_AUDIT_SEQ).toNat < 65536 →
        u.rd (R.CPU_HART_EN 1) = 1#32 ∧ u.rd (R.CPU_HART_STAT 1) = 1#32 ∧ u.rf (R.SYS_START_MS 1) 15 0 ≠ 0 ∧ u.rf R.SYS_START_STAT 4 0 = 1 ∧
          u.rf R.SYS_MODE 3 0 = (if b.nv.lifecycle < 2 then 0 else 5) ∧ u.rf R.SEC_STATUS 2 0 = b.rf R.SEC_STATUS 2 0 ∧
          u.rb R.SEC_BOOT_STAT 8 = b.rb R.SEC_BOOT_STAT 8)) ∧
    (∀ f : Fin 64, s.nv.lifecycle ≠ 3 → s.nv.left = [] → (bootPrepare true true true f (s.at t)).rf R.SEC_STATUS 2 0 = 7) ∧
    (∀ (ph : Fin 2) (ok : Bool), (if warmBoot s then s.sys.selfTestDue = false else steps 1 = 0 ∨ steps 1 = 0xFFFF ∨ steps 2 ≠ 0 ∨
        s.rf R.SEC_STATUS 11 8 = 1 ∨ s.sys.recordGood = decide (ph = 0)) →
      ∃ u, exec (.startRecordApply t ph ok) s = .next u ∧ u.sys = s.sys ∧ Calm s u) ∧
    (∀ ph : Fin 2, warmBoot s = true → s.sys.selfTestDue = true →
      (∃ u, exec (.startRecordApply t ph true) s = .next u ∧ u.sys = { s.sys with selfTestDue := false } ∧ Calm s u) ∧
      (∃ u, exec (.startRecordApply t ph false) s = .next (raise Src.LBIST_FAIL u) ∧ u.sys = { s.sys with selfTestDue := false } ∧ Calm s u)) ∧
    (steps 1 ≠ 0 → steps 1 ≠ 0xFFFF → steps 2 = 0 → warmBoot s = false → s.rf R.SEC_STATUS 11 8 ≠ 1 →
      (s.sys.recordGood = false → recGood s = true →
        ∃ u, exec (.startRecordApply t 0 true) s = .next (applyPhase 0 u) ∧ u.sys.recordGood = true ∧
          u.rd R.SYS_STAGGER = word (crc32c s.nv.uid % (recField s 8 2 + 1)) ∧ Only [R.SYS_STAGGER] [] s u) ∧
      (s.sys.recordGood = true →
        ∃ u, exec (.startRecordApply t 1 true) s = .next u ∧ u.rf (R.SYS_START_MS 2) 15 0 ≠ 0 ∧
          u.sys.errLow = (applyPhase 1 (s.at t)).rb R.FLT_ERR 0 ∧ u.mem = (applyPhase 1 (s.at t)).mem)) ∧
    (steps 1 ≠ 0 → steps 1 ≠ 0xFFFF → steps 2 = 0 → s.rf R.SYS_RST_CAUSE 3 0 ≠ 7 → s.rf R.SEC_STATUS 11 8 ≠ 1 → s.sys.recordGood = false →
      (recGood s = false → ∃ u, exec (.startRecordApply t 0 true) s = .next u ∧ u.rf R.SYS_START_STAT 31 24 = 1 ∧ u.rb (R.IRQ_STAT P.SYS) 5 = true ∧
        Only [R.SYS_START_STAT, R.IRQ_STAT P.SYS] [] s u) ∧
      exec (.startRecordApply t 0 false) s = .next (startEnds 2 (raise Src.LBIST_FAIL (s.at t)))) ∧
    (let v := startProgress (s.at t); let z := applyPhase 2 v; let up := v.rf (R.SYS_START_MS 3) 15 0;
      exec (.staggerEnd t) s = .next (if v.sys.recordGood = true ∧ up ≠ 0 ∧ up ≠ 0xFFFF ∧ v.rf (R.SYS_START_MS 4) 15 0 = 0 ∧
          v.sys.softEnd = none ∧ v.sys.pgTime + v.rf R.SYS_STAGGER 10 0 * 1000000 ≤ now then z.setSys fun x => { x with softEnd := some (z.now + recField z 11 1 * 1000000) }
        else v)) ∧
    (steps 1 = 0 ∨ steps 1 = 0xFFFF ∨ steps 6 ≠ 0 ∨ s.rf R.SYS_MODE 3 0 = 7 ∨ s.rb R.SEC_BOOT_STAT 4 = true →
      ∃ u, exec (.mainImageVerified t) s = .next u ∧ Calm s u) ∧
    (steps 1 ≠ 0 → steps 1 ≠ 0xFFFF → steps 6 = 0 → s.rf R.SYS_MODE 3 0 ≠ 7 → s.rb R.SEC_BOOT_STAT 4 = false →
      let v := s.at t; let k := bootCopy 1 v; let w := imageFail 1 k v; let a := (imageCheck 1 k v).1; let b := (imageCheck 1 (1 - k) w).1;
      let x := if a then imageLoad 1 k v else imageLoad 1 (1 - k) w;
      ∃ u, exec (.mainImageVerified t) s = .next u ∧
        (a = true ∨ b = true → u.rd (R.CPU_HART_EN 0) = 0xF#32 ∧ u.rd (R.CPU_HART_EN 2) = 0xFF#32 ∧ u.rd (R.CPU_HART_EN 3) = 3#32 ∧
          (x.rf (R.SYS_START_MS 6) 15 0 = 0 → x.nv.trial = 0 → x.sec.audit.length < 256 → x.rf R.SEC_AUDIT_STAT 15 0 = 0 →
            (x.rd R.SEC_AUDIT_SEQ).toNat < 65536 → u.rb R.SEC_BOOT_STAT 0 = decide ((if a then k else 1 - k) = 1) ∧
            u.rf (R.SYS_START_MS 6) 15 0 ≠ 0 ∧ u.rf R.SYS_START_STAT 4 0 = 6)) ∧
        (a = false → b = false → u = startReason 4 (quarantineEnter 2 (imageFail 1 (1 - k) w)))) ∧
    (let v := startProgress (s.at t);
      (startLack v = 0 → exec (.startStepTimeout t) s = .next v) ∧
      (startLack v ≠ 0 → v.rf R.SYS_START_STAT 31 24 = 0 →
        ∃ u, exec (.startStepTimeout t) s = .next u ∧ u.rf R.SYS_START_STAT 31 24 = startLack v ∧ u.rb (R.IRQ_STAT P.SYS) 5 = true ∧
          Only [R.SYS_START_STAT, R.IRQ_STAT P.SYS] [] v u)) ∧
    (∀ c : Fin 4, s.accepts t i (R.CPU_HART_RST c) w → w.toNat % 2 ^ harts c = 0 →
      ∃ u, exec (.cpuHartRst t i c w) s = .next u ∧ Only [R.CPU_HART_RST c] [] s u) ∧
    (∀ c : Fin 4, s.accepts t i (R.CPU_HART_RST c) w → w.toNat % 2 ^ harts c ≠ 0 →
      exec (.cpuHartRst t i c w) s = .next (hartReset (0xe0 + c.val) (w.toNat % 2 ^ harts c) (storeReg (R.CPU_HART_RST c) w (s.at t).busOk))) ∧
    (∀ (c : Fin 4) (h : Fin 8) (at_ : Nat), s.wdog.find? (fun p => p.1 == 8 * c.val + h.val) = some (8 * c.val + h.val, at_) → h < harts c →
      s.rb (R.CPU_WDOG c h) 31 = true → s.pageOn (P.CPU c) = true →
      (at_ + s.rf (R.CPU_WDOG c h) 23 0 * 1000 ≤ now →
        ∃ u, exec (.cpuWdog t c h) s = .next (raise (wdogSrc c h) u) ∧ u.wdog = s.wdog.filter (fun q => q.1 != 8 * c.val + h.val) ∧ Calm s u) ∧
      (now < at_ + s.rf (R.CPU_WDOG c h) 23 0 * 1000 → ∃ u, exec (.cpuWdog t c h) s = .next u ∧ u.wdog = s.wdog ∧ Calm s u)) ∧
    (s.pageOn 0xe1 = true → ∃ u, exec (.lockstepMismatch t) s = .next (raise Src.LOCKSTEP_MISMATCH u) ∧ Calm s u) ∧
    (∀ d : Fin 8, ¬off → (s.rf R.SYS_START_STAT 4 0 ≠ 0 → ∃ u, exec (.vmonUv t d) s = .next (raise (Src.VMON_UV d) u) ∧ Calm s u) ∧
      (s.rf R.SYS_START_STAT 4 0 = 0 → ∃ u, exec (.vmonUv t d) s = .next u ∧ u.rf R.SYS_RST_CAUSE 3 0 = 0 ∧ u.rd R.SYS_RST_TICK = word s.tickNum) ∧
      ∃ u, exec (.vmonOv t d) s = .next (raise (Src.VMON_OV d) u) ∧ Calm s u) ∧
    (∃ u, exec (.powerLoss t) s = .next u ∧ u.rd R.PWR_DOMAIN_STAT = 0#32 ∧ (∀ a, regionOf a = .main ∨ regionOf a = .ret → u.ld a = 0#8) ∧
      (∀ a, regionOf a = .emram ∨ regionOf a = .xspi → u.ld a = s.ld a) ∧ u.pending = s.pending)

/-- R571 to R575, R580: a mode request that none of the checks refuses becomes the pending one, to apply at the first tick a guard time away; any
other shows its reason and IRQ bit 4, QUARANTINE's being TRANSITION; DARK and FALLBACK from a running mode are refused to nobody, ADAPTIVE and
STANDALONE to whoever lacks MODE_RUN; a forced request applies at the next tick. SAFE itself
requests STANDALONE when ADAPTIVE has had no segment head for NET_LOSS_S, and ADAPTIVE or the mode before a forced FALLBACK when R573's conditions
hold, with none pending. Where the spec leaves it to a reading, this is the model's (log entries 85 and 88). -/
def Obligations.ModeRequestsPendOrAreRefused : Prop :=
  ∀ (t : Nat) (i : Init) (w : Word) (role : Fin 4) (rights : Word) (s : State),
    let q : ModeReq := ⟨bitsOf w 3 0, bitsOf w 5 4, bitOf w 9, role, rights.toNat, 0, 3, []⟩
    let auto := fun m => (⟨m, 0, false, 3, 0x20, 0, 3, []⟩ : ModeReq)
    let pends := fun (q : ModeReq) (u : State) => u.sys.pend = some { q with wait := ticksToA (s.at t) } ∧ u.rb R.SYS_MODE_STAT 12 = true ∧
      u.rf R.SYS_MODE_STAT 11 8 = q.mode ∧ u.rf R.SYS_MODE_STAT 3 0 = 13 ∧ u.rd R.SYS_MODE = s.rd R.SYS_MODE
    (s.accepts t i R.SYS_MODE_REQ (putBit w 31 true) → bitOf w 8 = false → modeRefusal q s = 0 →
      ∃ u, exec (.sysModeReq t i w role rights) s = .next u ∧ pends q u ∧ Only [R.SYS_MODE_REQ, R.SYS_MODE_STAT] [] s u) ∧
    (s.accepts t i R.SYS_MODE_REQ (putBit w 31 true) → bitOf w 8 = false → modeRefusal q s ≠ 0 →
      ∃ u, exec (.sysModeReq t i w role rights) s = .next u ∧ u.rf R.SYS_MODE_STAT 3 0 = modeRefusal q s ∧
        u.rf R.SYS_MODE_STAT 31 16 = s.tickNum % 65536 ∧ u.rb (R.IRQ_STAT P.SYS) 4 = true ∧ u.sys = s.sys ∧
        Only [R.SYS_MODE_REQ, R.SYS_MODE_STAT, R.IRQ_STAT P.SYS] [] s u) ∧
    (s.rf R.SYS_MODE 3 0 = 7 → modeRefusal q s = 2) ∧
    (2 ≤ s.rf R.SYS_MODE 3 0 → s.rf R.SYS_MODE 3 0 ≤ 5 → q.mode = 4 ∨ q.mode = 5 → modeRefusal q s = 0) ∧
    (2 ≤ s.rf R.SYS_MODE 3 0 → s.rf R.SYS_MODE 3 0 ≤ 5 → q.mode = 2 ∨ q.mode = 3 → q.rights.testBit 5 = false → modeRefusal q s = 3) ∧
    (s.accepts t i R.SYS_MODE_REQ (putBit w 31 true) → bitOf w 8 = true →
      (bitsOf w 3 0 = 4 → mayForce s = true →
        ∃ u, exec (.sysModeReq t i w role rights) s = .next u ∧ u.sys = { s.sys with forceFb := true } ∧ Only [R.SYS_MODE_REQ] [] s u) ∧
      (bitsOf w 3 0 ≠ 4 ∨ mayForce s = false →
        ∃ u, exec (.sysModeReq t i w role rights) s = .next u ∧ u.rf R.SYS_MODE_STAT 3 0 = 2 ∧ u.sys = s.sys ∧
          Only [R.SYS_MODE_REQ, R.SYS_MODE_STAT, R.IRQ_STAT P.SYS] [] s u)) ∧
    (s.rf R.SYS_MODE 3 0 = 2 → headOpen s = false → s.sys.netSince + s.rf R.SYS_START_CFG 31 16 * 10 ^ 9 ≤ max s.now t → modeRefusal (auto 3) s = 0 →
      ∃ u, exec (.netLoss t) s = .next u ∧ pends (auto 3) u ∧ Only [R.SYS_MODE_STAT] [] s u) ∧
    (s.rf R.SYS_MODE 3 0 ≠ 2 ∨ headOpen s = true ∨ max s.now t < s.sys.netSince + s.rf R.SYS_START_CFG 31 16 * 10 ^ 9 →
      ∃ u, exec (.netLoss t) s = .next u ∧ u.sys = s.sys ∧ Calm s u) ∧
    (s.sys.pend = none → s.rf R.SYS_MODE 3 0 = 3 → headOpen s = true → s.rf R.TIME_SERVO_STAT 2 0 = 2 → modeRefusal (auto 2) s = 0 →
      ∃ u, exec (.autoModeRequest t) s = .next u ∧ pends (auto 2) u ∧ Only [R.SYS_MODE_STAT] [] s u) ∧
    (∀ x, s.sys.pend = none → s.rf R.SYS_MODE 3 0 = 4 → s.rb R.SYS_MODE 8 = true → s.rb R.SYS_START_CFG 0 = true → s.sys.quietSince = some x →
      x + 10 ^ 10 ≤ max s.now t → s.sys.prevMode = 2 ∨ s.sys.prevMode = 3 → modeRefusal (auto s.sys.prevMode) s = 0 →
      ∃ u, exec (.autoModeRequest t) s = .next u ∧ pends (auto s.sys.prevMode) u ∧ Only [R.SYS_MODE_STAT] [] s u) ∧
    (s.sys.pend = none → s.rf R.SYS_MODE 3 0 = 4 ∨ s.rf R.SYS_MODE 3 0 = 5 → s.rb R.SYS_MODE 8 = false → s.rb R.SYS_START_CFG 0 = true →
      s.rf (R.SYS_START_MS 12) 15 0 = 0 → modeRefusal (auto 2) s = 0 →
      ∃ u, exec (.autoModeRequest t) s = .next u ∧ pends (auto 2) u ∧ Only [R.SYS_MODE_STAT] [] s u) ∧
    (s.sys.pend.isSome = true → ∃ u, exec (.autoModeRequest t) s = .next u ∧ u.sys = s.sys ∧ Calm s u)

/-- R546, R547, R549, R551, R552, R560: a submitted transaction is queued under the next number or refused with its reason; it opens while the
window is open and the ring has room; its data reads back and COMMIT is written, or it ends ROLLED_BACK with NVM_UE; a committed REDO transaction
reaches its target and ends; a window that closes with nothing open tells so. Where the spec leaves it to a reading, this is the model's (log
entries 29, 31 and 125). -/
def Obligations.TransactionsQueueOpenCommitAndSeal : Prop :=
  ∀ (t : Nat) (i : Init) (w : Word) (direct : Bool) (s : State),
    let cmd := putBit w 31 true; let src := (s.rd R.NVM_TX_SRC).toNat; let n := s.rf R.NVM_TX_LEN 23 0; let dst := s.rf R.NVM_TX_DST 23 0
    let x : Tx := ⟨7, bitOf w 0, dst, s.ldBytes src n, none, .none, s.nv.txn, 0⟩
    (s.accepts t i R.NVM_TX_CMD cmd → n % 8 ≠ 0 ∨ n = 0 →
      ∃ u, exec (.nvmTxSubmit t i w) s = .next u ∧ u.rf R.NVM_TX_STAT 3 0 = 7 ∧ u.rf R.NVM_TX_STAT 7 4 = 0 ∧ u.nvm = s.nvm ∧
        Only [R.NVM_TX_CMD, R.NVM_TX_STAT] [] s u) ∧
    (s.accepts t i R.NVM_TX_CMD cmd → n % 8 = 0 → n ≠ 0 → src % 8 = 0 → dst % 8 = 0 → bitOf w 2 = false → regionOf src = .main →
        regionOf (src + n - 1) = .main →
      (txRefusal x s = 0 →
        ∃ u, exec (.nvmTxSubmit t i w) s = .next u ∧ u.nvm.queue = s.nvm.queue ++ [x] ∧ u.nv = { s.nv with txn := s.nv.txn + 1 } ∧
          u.rf R.NVM_TX_STAT 31 16 = s.nv.txn % 65536 ∧ u.rf R.NVM_TX_STAT 7 4 = 1 ∧ u.rf R.NVM_TX_STAT 3 0 = 0 ∧ (∀ a, u.ld a = s.ld a) ∧
          ∀ a, a ∉ [R.NVM_TX_CMD, R.NVM_TX_STAT, R.NVM_JRN_TAIL, R.NVM_JRN_OPEN] → u.rd a = s.rd a) ∧
      (txRefusal x s ≠ 0 →
        ∃ u, exec (.nvmTxSubmit t i w) s = .next u ∧ u.nvm = s.nvm ∧ u.rf R.NVM_TX_STAT 7 4 = 0 ∧ u.rf R.NVM_TX_STAT 3 0 = txRefusal x s ∧
          Only [R.NVM_TX_CMD, R.NVM_TX_STAT] [] s u)) ∧
    (∀ y : Tx, openTx direct s = none → s.nvm.queue.find? (fun z => z.direct == direct) = some y → s.rb R.NVM_WIN_STAT 0 = true → jrnRoom s y = true →
      ∃ u, exec (.journalTxOpen t direct) s = .next u ∧ openTx direct u = some { y with phase := 1 } ∧ u.nvm.queue = s.nvm.queue.erase y ∧
        ∀ a, pageOf a ≠ P.NVM → u.rd a = s.rd a) ∧
    (openTx direct s ≠ none ∨ s.rb R.NVM_WIN_STAT 0 = false → ∃ u, exec (.journalTxOpen t direct) s = .next u ∧ u.nvm = s.nvm ∧ Calm s u) ∧
    (∀ y : Tx, openTx direct s = some y → y.phase = 1 → s.rb R.NVM_WIN_STAT 0 = true →
      (s.anyUe (0x20000000 + y.target) y.data.length = false →
        ∃ u, exec (.journalTxCommit t direct true) s = .next u ∧ openTx direct u = some { y with phase := 2 } ∧ u.nvm.queue = s.nvm.queue ∧
          ∀ a, pageOf a ≠ P.NVM → u.rd a = s.rd a) ∧
      (∃ u, exec (.journalTxCommit t direct false) s = .next (raise Src.NVM_UE u) ∧ openTx direct u = none ∧ u.rb (R.IRQ_STAT P.NVM) 1 = true ∧
        ∀ a, pageOf a ≠ P.NVM → u.rd a = s.rd a)) ∧
    (∀ y : Tx, s.nvm.redo = some y → y.phase = 2 → s.rb R.NVM_WIN_STAT 0 = true → y.act = none → y.upd = .none →
      32 ≤ (s.rd (R.NVM_REGION_SIZE 3)).toNat →
      (y.target + y.data.length ≤ (s.rd (R.NVM_REGION_BASE 3)).toNat ∨
        (s.rd (R.NVM_REGION_BASE 3)).toNat + (s.rd (R.NVM_REGION_SIZE 3)).toNat ≤ y.target) →
      ∃ u, exec (.journalTxSeal t false) s = .next u ∧ u.nvm.redo = none ∧ u.nvm.direct = s.nvm.direct ∧
        (∀ k < y.data.length, u.ldN (0x20000000 + y.target + k) = y.data.getD k 0 % 256) ∧
        (y.owner = 7 → u.rb (R.IRQ_STAT P.NVM) 0 = true) ∧ ∀ a, pageOf a ≠ P.NVM → u.rd a = s.rd a) ∧
    (∀ y : Tx, s.nvm.direct = some y → y.phase = 2 → s.rb R.NVM_WIN_STAT 0 = true → y.act = none → y.upd = .none →
      ∃ u, exec (.journalTxSeal t true) s = .next u ∧ u.nvm.direct = none ∧ u.nvm.redo = s.nvm.redo ∧ u.nvm.queue = s.nvm.queue ∧
        (y.owner = 7 → u.rb (R.IRQ_STAT P.NVM) 0 = true) ∧ ∀ a, pageOf a ≠ P.NVM → u.rd a = s.rd a) ∧
    (s.rb R.NVM_WIN_STAT 0 = true → s.nvm.redo = none → s.nvm.direct = none →
      ∃ u, exec (.windowClose t) s = .next u ∧ u.rb R.NVM_WIN_STAT 0 = false ∧ u.rb R.NVM_WIN_STAT 2 = false ∧ u.rb (R.IRQ_STAT P.NVM) 3 = true ∧
        u.nvm = s.nvm ∧ Only [R.NVM_WIN_STAT, R.IRQ_STAT P.NVM, R.NVM_JRN_TAIL, R.NVM_JRN_OPEN, R.NVM_TX_STAT, R.PHO_SNAP_STAT] [] s u) ∧
    (∀ y : Tx, s.rb R.NVM_WIN_STAT 0 = true → s.nvm.redo = some y → y.phase = 1 → y.upd = .none → s.nvm.direct = none →
      ∃ u, exec (.windowClose t) s = .next (raise Src.NVM_WRITE_REFUSED u) ∧ u.nvm.redo = none ∧ u.nvm.unsealed = s.nvm.unsealed ++ [y] ∧
        u.rb R.NVM_WIN_STAT 0 = false ∧ Only [R.NVM_WIN_STAT, R.IRQ_STAT P.NVM, R.NVM_JRN_TAIL, R.NVM_JRN_OPEN, R.NVM_TX_STAT, R.PHO_SNAP_STAT] [] s u) ∧
    (s.rb R.NVM_WIN_STAT 1 = true → s.nvm.unsealed = [] →
      ∃ u, exec (.windowOpen t) s = .next u ∧ u.rb R.NVM_WIN_STAT 0 = true ∧ u.rb R.NVM_WIN_STAT 2 = true ∧ u.nvm = s.nvm ∧ Only [R.NVM_WIN_STAT, R.PHO_SNAP_STAT] [] s u)

/-- R557, R558, R561: an erase or a program of the flash that passes its checks becomes the operation in progress with BUSY; one that meets another
gets BUSY, a malformed one BAD, a protected one PROT. A finished erase leaves its range at 0xFF, a finished program what was there AND the data; a
failed one shows TIMEOUT and raises XSPI_ERR, and what it leaves in its range is open. A window read that waits too long ends with a bus error and
XSPI_ERR. Where the spec leaves it to a reading, this is the model's (log entries 33, 34 and 119). -/
def Obligations.FlashErasesAndPrograms : Prop :=
  ∀ (t : Nat) (i : Init) (s : State),
    let o := s.rf R.XSPI_ADDR 28 0; let len := s.rf R.XSPI_LEN 8 0; let src := (s.rd R.XSPI_SRC).toNat
    let m := mainSlot s (s.rf R.SEC_BOOT_STAT 0 0)
    let clear := fun n => xspiDenied s i o n = false ∧ (i = .safe ∨ i = .boot ∨ m.2 = 0 ∨ o + n ≤ m.1 ∨ m.1 + m.2 ≤ o)
    let ran := fun (op : FlashOp) (u : State) => u.flash = some op ∧ u.rb R.XSPI_STAT 8 = true ∧ u.rb (R.STATUS P.XSPI) 0 = true ∧
      Only [R.XSPI_CMD, R.XSPI_STAT, R.STATUS P.XSPI] [] s u
    let ended := fun (r : Nat) (u : State) => u.flash = s.flash ∧ u.rf R.XSPI_STAT 3 0 = r ∧ u.rb (R.IRQ_STAT P.XSPI) 1 = true ∧
      Only [R.XSPI_CMD, R.XSPI_STAT, R.IRQ_STAT P.XSPI] [] s u
    (s.accepts t i R.XSPI_CMD (word (2 ^ 31 + 1)) → s.en P.XSPI = true →
      (s.flash.isSome = true → ∃ u, exec (.erase4k t i) s = .next u ∧ ended 1 u) ∧
      (s.flash = none → flashSize s < o + 4096 ∨ o % 4096 ≠ 0 → ∃ u, exec (.erase4k t i) s = .next u ∧ ended 5 u) ∧
      (s.flash = none → o + 4096 ≤ flashSize s → o % 4096 = 0 → xspiDenied s i o 4096 = true → ∃ u, exec (.erase4k t i) s = .next u ∧ ended 2 u) ∧
      (s.flash = none → o + 4096 ≤ flashSize s → o % 4096 = 0 → clear 4096 → ∃ u, exec (.erase4k t i) s = .next u ∧ ran ⟨true, o, 4096, []⟩ u)) ∧
    (s.accepts t i R.XSPI_CMD (word (2 ^ 31 + 2)) → s.en P.XSPI = true → s.flash = none → o + 65536 ≤ flashSize s → o % 65536 = 0 → clear 65536 →
      ∃ u, exec (.erase64k t i) s = .next u ∧ ran ⟨true, o, 65536, []⟩ u) ∧
    (s.accepts t i R.XSPI_CMD (word (2 ^ 31 + 3)) → s.en P.XSPI = true → s.flash = none → o + len ≤ flashSize s → o % 8 = 0 → 8 ≤ len → len ≤ 256 →
      o % 256 + len ≤ 256 → regionOf src = .main ∨ regionOf src = .ret → clear len →
      ∃ u, exec (.program t i) s = .next u ∧ ran ⟨false, o, len, s.ldBytes src len⟩ u) ∧
    (∀ f : FlashOp, s.flash = some f → f.erase = true → f.ofs + f.len ≤ 2 ^ 29 →
      (∃ u, exec (.xspiOpDone t 0) s = .next u ∧ u.flash = none ∧ u.rf R.XSPI_STAT 3 0 = 0 ∧ u.rb R.XSPI_STAT 8 = false ∧
        u.rb (R.IRQ_STAT P.XSPI) 0 = true ∧ (∀ k < f.len, u.ldN (0x60000000 + f.ofs + k) = 0xFF) ∧
        (∀ a, a < 0x60000000 + f.ofs ∨ 0x60000000 + f.ofs + f.len ≤ a → u.ld a = s.ld a) ∧
        ∀ a, a ∉ [R.XSPI_STAT, R.STATUS P.XSPI, R.IRQ_STAT P.XSPI] → u.rd a = s.rd a) ∧
      (∃ u, exec (.xspiOpDone t 3) s = .next (raise Src.XSPI_ERR u) ∧ u.flash = none ∧ u.rf R.XSPI_STAT 3 0 = 3 ∧
        (∀ a, a < 0x60000000 + f.ofs ∨ 0x60000000 + f.ofs + f.len ≤ a → u.ld a = s.ld a) ∧
        ∀ a, a ∉ [R.XSPI_STAT, R.STATUS P.XSPI, R.IRQ_STAT P.XSPI] → u.rd a = s.rd a)) ∧
    (∀ f : FlashOp, s.flash = some f → f.erase = false → f.data.length = f.len → (∀ b ∈ f.data, b < 256) →
      ∃ u, exec (.xspiOpDone t 0) s = .next u ∧ u.flash = none ∧ u.rf R.XSPI_STAT 3 0 = 0 ∧
        (∀ k < f.len, u.ldN (0x60000000 + f.ofs + k) = f.data.getD k 0 &&& s.ldN (0x60000000 + f.ofs + k)) ∧
        ∀ a, a < 0x60000000 + f.ofs ∨ 0x60000000 + f.ofs + f.len ≤ a → u.ld a = s.ld a) ∧
    (s.flash.isSome = true → ∃ u, exec (.xspiWaitTimeout t) s = .next (raise Src.XSPI_ERR u) ∧ u.bus = ⟨0#32, true⟩ ∧
      u.rb (R.IRQ_STAT P.XSPI) 1 = true ∧ Only [R.IRQ_STAT P.XSPI] [] s u)

/-- R477, R602, R617: a host access that the grant does not allow is dropped, records its address and raises ACCESS_VIOLATION with status DENIED; a
write of the host token window needs no grant and stores its bytes; a read of it answers them; an aborted frame changes nothing. An allowed write for
which SAFE is BUSY is dropped with a bus error (the model's choice, log entry 194). Where the spec leaves it to a reading, this is the model's (log
entries 99 and 112). -/
def Obligations.HostAccessNeedsTheGrant : Prop :=
  ∀ (t : Nat) (a v : Word) (s : State), hostReady s = true →
    (hostMayWrite s a.toNat v = false →
      ∃ x, exec (.hostWrite32 t a v) s = .next (hostEnd 1 4 (raise Src.ACCESS_VIOLATION x)) ∧ x.rd R.HOST_DENY_ADDR = a ∧ x.rb (R.IRQ_STAT P.HOST) 1 = true ∧
        x.bus.err = true ∧ Only [R.IRQ_STAT P.HOST, R.HOST_DENY_ADDR, R.FLT_BUS_ADDR, R.FLT_BUS_INFO] [] s x) ∧
    (hostMayRead s a.toNat = false →
      ∃ x, exec (.hostRead32 t a) s = .next (hostEnd 2 4 (raise Src.ACCESS_VIOLATION x)) ∧ x.rd R.HOST_DENY_ADDR = a ∧
        Only [R.IRQ_STAT P.HOST, R.HOST_DENY_ADDR, R.FLT_BUS_ADDR, R.FLT_BUS_INFO] [] s x) ∧
    (hostMayWrite s a.toNat v = true → hostBusy s a.toNat = true →
      ∃ u, exec (.hostWrite32 t a v) s = .next u ∧ u.rf R.HOST_LAST 10 8 = 2 ∧ u.bus.err = true ∧ Only [R.HOST_LAST] [R.STAT P.HOST 0] s u) ∧
    (0x003fd00c ≤ a.toNat → a.toNat + 3 < 0x003fd00c + 0x2004 →
      ∃ u, exec (.hostWrite32 t a v) s = .next u ∧ u.ldLE a.toNat 4 = v.toNat ∧ (∀ b, b < a.toNat ∨ a.toNat + 4 ≤ b → u.ld b = s.ld b) ∧
        u.rf R.HOST_LAST 10 8 = 1 ∧ (∀ x, x ≠ R.HOST_LAST → u.rd x = s.rd x) ∧ (∀ x, x ≠ R.STAT P.HOST 0 → u.st x = s.st x)) ∧
    (∀ k : Fin 16, a.toNat = R.HOST_MBOX k → grantHas s 0 = true → s.accepts t .host a.toNat v → s.sec.audit.length + 4 < 256 →
      s.rf R.SEC_AUDIT_STAT 15 0 = 0 → (s.rd R.SEC_AUDIT_SEQ).toNat + 4 < 65536 →
      ∃ u, exec (.hostWrite32 t a v) s = .next u ∧ u.rd (R.HOST_MBOX k) = v ∧ u.rf R.HOST_LAST 10 8 = 1 ∧ u.bus = ⟨0#32, false⟩ ∧
        (∀ b, u.ld b = s.ld b)) ∧
    (0x003fd000 ≤ a.toNat → a.toNat + 3 ≤ 0x003fffff → s.ue = [] → s.ce = [] →
      ∃ u, exec (.hostRead32 t a) s = .next u ∧ u.bus = ⟨word (s.ldLE a.toNat 4), false⟩ ∧ u.rf R.HOST_LAST 10 8 = 1 ∧
        Only [R.HOST_LAST] [R.STAT P.HOST 0] s u) ∧
    (∃ u, exec (.hostStatus t) s = .next u ∧ u.bus = ⟨word (128 + s.rf R.HOST_LAST 10 8), false⟩ ∧ u.rf R.HOST_LAST 7 0 = 3 ∧
      u.rf R.HOST_LAST 10 8 = s.rf R.HOST_LAST 10 8 ∧ Only [R.HOST_LAST] [R.STAT P.HOST 0] s u) ∧
    (∃ u, exec (.hostFrameAbort t) s = .next u ∧ u.bus = s.bus ∧ Calm s u)

/-- R617, R618: a doorbell sets the other side's bits; GPIO_SET and GPIO_CLR set and clear output bits; an edge at a pin that the device does not
drive shows in GPIO_IN and sets the pin's interrupt where the edge is enabled. -/
def Obligations.DoorbellsAndPinsFollow : Prop :=
  ∀ (t : Nat) (i : Init) (w : Word) (s : State),
    (hostReady s = true → s.accepts t .host R.HOST_H2D_SET w → hostGranted s = false →
      ∃ u, exec (.hostH2dSet t w) s = .next u ∧ u.rd R.HOST_H2D_STAT = s.rd R.HOST_H2D_STAT ||| word (bitsOf w 15 0) ∧
        (bitsOf w 15 0 ≠ 0 → u.rb (R.IRQ_STAT P.HOST) 0 = true) ∧ u.rf R.HOST_LAST 10 8 = 1 ∧
        Only [R.HOST_H2D_SET, R.HOST_H2D_STAT, R.IRQ_STAT P.HOST, R.HOST_LAST] [R.STAT P.HOST 0] s u) ∧
    (s.accepts t i R.HOST_D2H_SET w →
      ∃ u, exec (.hostD2hSet t i w) s = .next u ∧ u.rd R.HOST_D2H_STAT = s.rd R.HOST_D2H_STAT ||| word (bitsOf w 15 0) ∧
        Only [R.HOST_D2H_SET, R.HOST_D2H_STAT] [] s u) ∧
    (s.accepts t i R.GPIO_SET w →
      ∃ u, exec (.gpioSet t i w) s = .next u ∧ u.rd R.GPIO_OUT = s.rd R.GPIO_OUT ||| word (bitsOf w 15 0) ∧
        (∀ g < 16, gpioDriven u g = true → u.rb R.GPIO_IN g = u.rb R.GPIO_OUT g) ∧
        Only [R.GPIO_SET, R.GPIO_OUT, R.GPIO_IN, R.IRQ_STAT P.GPIO] [] s u) ∧
    (s.accepts t i R.GPIO_CLR w → (s.at t).evtBits R.GPIO_SET = 0#32 →
      ∃ u, exec (.gpioClr t i w) s = .next u ∧ u.rd R.GPIO_OUT = s.rd R.GPIO_OUT &&& ~~~(w &&& 0xFFFF#32) ∧
        (∀ g < 16, gpioDriven u g = true → u.rb R.GPIO_IN g = u.rb R.GPIO_OUT g) ∧
        Only [R.GPIO_CLR, R.GPIO_OUT, R.GPIO_IN, R.IRQ_STAT P.GPIO] [] s u) ∧
    (∀ (g : Fin 16) (level : Bool), gpioDriven s g = false → s.pageOn P.GPIO = true →
      ∃ u, exec (.gpioEdge t g level) s = .next u ∧ u.rb R.GPIO_IN g = level ∧ (∀ h : Fin 16, h ≠ g → u.rb R.GPIO_IN h = s.rb R.GPIO_IN h) ∧
        (s.rb R.GPIO_IN g ≠ level → s.rb R.GPIO_EDGE (if level then g.val else 16 + g.val) = true → u.rb (R.IRQ_STAT P.GPIO) g = true) ∧
        Only [R.GPIO_IN, R.IRQ_STAT P.GPIO] [] s u)
end

