-- ==== Sys2Proof/Laws/Bits.lean ====
section
/-! SUPPORT. Fields and bits of a word: what they read as after one of them is set. -/

namespace Sys2Proof.Machine

/-- A word as the bits above a field, the field and the bits below it. -/
theorem toNat_split (w : Word) {hi lo : Nat} (h : lo ≤ hi) :
    w.toNat = 2 ^ (hi + 1) * (w.toNat / 2 ^ (hi + 1)) + (2 ^ lo * bitsOf w hi lo + w.toNat % 2 ^ lo) := by
  have e : 2 ^ (hi + 1) = 2 ^ lo * 2 ^ (hi + 1 - lo) := by rw [← Nat.pow_add]; congr 1; omega
  rw [bitsOf, e, ← Nat.div_div_eq_div_mul, Nat.mul_assoc, ← Nat.add_assoc, ← Nat.mul_add, Nat.div_add_mod, Nat.div_add_mod]

theorem putBits_toNat (w : Word) {hi lo : Nat} (v : Nat) (h : lo ≤ hi) (h32 : hi < 32) :
    (putBits w hi lo v).toNat = 2 ^ (hi + 1) * (w.toNat / 2 ^ (hi + 1)) + (2 ^ lo * (v % 2 ^ (hi + 1 - lo)) + w.toNat % 2 ^ lo) := by
  have hw := toNat_split w h
  have hb : bitsOf w hi lo < 2 ^ (hi + 1 - lo) := Nat.mod_lt _ (Nat.two_pow_pos _)
  have hl : w.toNat % 2 ^ lo < 2 ^ lo := Nat.mod_lt _ (Nat.two_pow_pos _)
  have hv : v % 2 ^ (hi + 1 - lo) < 2 ^ (hi + 1 - lo) := Nat.mod_lt _ (Nat.two_pow_pos _)
  have e : 2 ^ (hi + 1) = 2 ^ lo * 2 ^ (hi + 1 - lo) := by rw [← Nat.pow_add]; congr 1; omega
  have hlt : 2 ^ lo * (v % 2 ^ (hi + 1 - lo)) + w.toNat % 2 ^ lo < 2 ^ (hi + 1) := by
    rw [e]
    calc _ < 2 ^ lo * (v % 2 ^ (hi + 1 - lo)) + 2 ^ lo := by omega
      _ = 2 ^ lo * (v % 2 ^ (hi + 1 - lo) + 1) := by ring
      _ ≤ _ := Nat.mul_le_mul_left _ hv
  have hH : 2 ^ (hi + 1) * (w.toNat / 2 ^ (hi + 1)) + 2 ^ (hi + 1) ≤ 2 ^ 32 := by
    have h1 : w.toNat / 2 ^ (hi + 1) < 2 ^ (32 - (hi + 1)) := by
      rw [Nat.div_lt_iff_lt_mul (Nat.two_pow_pos _), ← Nat.pow_add]
      have := w.isLt
      rwa [show 32 - (hi + 1) + (hi + 1) = 32 by omega]
    calc _ = 2 ^ (hi + 1) * (w.toNat / 2 ^ (hi + 1) + 1) := by ring
      _ ≤ 2 ^ (hi + 1) * 2 ^ (32 - (hi + 1)) := Nat.mul_le_mul_left _ h1
      _ = 2 ^ 32 := by rw [← Nat.pow_add]; congr 1; omega
  rw [putBits, BitVec.toNat_ofNat, Nat.mod_eq_of_lt]
  · rw [Nat.mul_comm (bitsOf w hi lo), Nat.mul_comm (v % _)]; omega
  · rw [Nat.mul_comm (bitsOf w hi lo), Nat.mul_comm (v % _)]; omega

/-- Bit `j` of a word whose field `[hi:lo]` has been set. -/
theorem testBit_putBits (w : Word) {hi lo : Nat} (v j : Nat) (h : lo ≤ hi) (h32 : hi < 32) :
    (putBits w hi lo v).toNat.testBit j = if lo ≤ j ∧ j ≤ hi then v.testBit (j - lo) else w.toNat.testBit j := by
  have hl : w.toNat % 2 ^ lo < 2 ^ lo := Nat.mod_lt _ (Nat.two_pow_pos _)
  have key : ∀ x < 2 ^ (hi + 1 - lo), (2 ^ (hi + 1) * (w.toNat / 2 ^ (hi + 1)) + (2 ^ lo * x + w.toNat % 2 ^ lo)).testBit j =
      if lo ≤ j ∧ j ≤ hi then x.testBit (j - lo) else w.toNat.testBit j := by
    intro x hx
    have e : 2 ^ (hi + 1) = 2 ^ lo * 2 ^ (hi + 1 - lo) := by rw [← Nat.pow_add]; congr 1; omega
    have hlt : 2 ^ lo * x + w.toNat % 2 ^ lo < 2 ^ (hi + 1) := by
      rw [e]
      calc _ < 2 ^ lo * x + 2 ^ lo := by omega
        _ = 2 ^ lo * (x + 1) := by ring
        _ ≤ _ := Nat.mul_le_mul_left _ hx
    rw [Nat.testBit_two_pow_mul_add _ hlt, Nat.testBit_two_pow_mul_add _ hl]
    by_cases h1 : j < hi + 1
    · by_cases h2 : j < lo
      · simp [h1, h2, Nat.testBit_mod_two_pow]
      · rw [if_pos h1, if_neg h2, if_pos (by omega)]
    · rw [if_neg h1, if_neg (by omega), Nat.testBit_div_two_pow]
      congr 1; omega
  rw [putBits_toNat w v h h32, key _ (Nat.mod_lt _ (Nat.two_pow_pos _))]
  split
  · rename_i hj
    rw [Nat.testBit_mod_two_pow]
    have : j - lo < hi + 1 - lo := by omega
    simp [this]
  · rfl

/-- A field reads as what was put into it, cut to its width. -/
theorem bitsOf_putBits_self (w : Word) {hi lo : Nat} (v : Nat) (h : lo ≤ hi) (h32 : hi < 32) :
    bitsOf (putBits w hi lo v) hi lo = v % 2 ^ (hi + 1 - lo) := by
  apply Nat.eq_of_testBit_eq; intro j
  rw [bitsOf, Nat.testBit_mod_two_pow, Nat.testBit_div_two_pow, testBit_putBits w v _ h h32, Nat.testBit_mod_two_pow]
  by_cases hj : j < hi + 1 - lo
  · rw [if_pos (by omega)]; simp [hj]
  · simp [hj]

/-- Putting a field leaves every field that it does not meet. -/
theorem bitsOf_putBits_of_disjoint (w : Word) {hi lo : Nat} (v : Nat) {hi' lo' : Nat} (h : lo ≤ hi) (h32 : hi < 32) (hd : hi < lo' ∨ hi' < lo) :
    bitsOf (putBits w hi lo v) hi' lo' = bitsOf w hi' lo' := by
  apply Nat.eq_of_testBit_eq; intro j
  rw [bitsOf, bitsOf, Nat.testBit_mod_two_pow, Nat.testBit_mod_two_pow, Nat.testBit_div_two_pow, Nat.testBit_div_two_pow, testBit_putBits w v _ h h32]
  by_cases hj : j < hi' + 1 - lo'
  · rw [if_neg (by omega)]
  · simp [hj]

@[simp] theorem bitOf_putBit_self (w : Word) {b : Nat} (v : Bool) (h : b < 32) : bitOf (putBit w b v) b = v := by
  rw [bitOf, putBit, testBit_putBits w _ _ (Nat.le_refl _) h, if_pos ⟨Nat.le_refl _, Nat.le_refl _⟩]
  cases v <;> simp

theorem bitOf_putBit_of_ne (w : Word) {b c : Nat} (v : Bool) (h : b < 32) (hc : c ≠ b) : bitOf (putBit w b v) c = bitOf w c := by
  rw [bitOf, bitOf, putBit, testBit_putBits w _ _ (Nat.le_refl _) h, if_neg (by omega)]

theorem bitOf_putBits_of_disjoint (w : Word) {hi lo : Nat} (v : Nat) {c : Nat} (h : lo ≤ hi) (h32 : hi < 32) (hd : hi < c ∨ c < lo) :
    bitOf (putBits w hi lo v) c = bitOf w c := by
  rw [bitOf, bitOf, testBit_putBits w _ _ h h32, if_neg (by omega)]

theorem bitsOf_putBit_of_disjoint (w : Word) {b hi lo : Nat} (v : Bool) (h : b < 32) (hd : hi < b ∨ b < lo) :
    bitsOf (putBit w b v) hi lo = bitsOf w hi lo :=
  bitsOf_putBits_of_disjoint w _ (Nat.le_refl _) h (by omega)

end Sys2Proof.Machine
end

