-- ==== Sys2Proof/Laws/Sparse.lean ====
section
/-! SUPPORT. Sparse maps: read after write, and every operation keeps the canonical form. -/

namespace Sys2Proof.Machine

variable {α : Type}

theorem sget_sdel_self (d : α) (k : Nat) (m : List (Nat × α)) : sget d k (sdel k m) = d := by
  induction m with
  | nil => rfl
  | cons p t ih =>
    by_cases h : p.1 = k
    · simpa [sdel, h] using ih
    · simpa [sdel, h, sget] using ih

theorem sget_sdel_of_ne (d : α) {k j : Nat} (h : j ≠ k) (m : List (Nat × α)) : sget d j (sdel k m) = sget d j m := by
  induction m with
  | nil => rfl
  | cons p t ih =>
    by_cases hp : p.1 = k
    · have hj : p.1 ≠ j := fun e => h (e.symm.trans hp)
      simpa [sdel, hp, sget, hj, h.symm] using ih
    · have : sdel k (p :: t) = p :: sdel k t := by simp [sdel, hp]
      rw [this, sget, sget, ih]

theorem sget_sins_self (d : α) (k : Nat) (v : α) (m : List (Nat × α)) (h : ∀ p ∈ m, p.1 ≠ k) : sget d k (sins k v m) = v := by
  induction m with
  | nil => simp [sins, sget]
  | cons p t ih =>
    rw [sins]
    split
    · simp [sget]
    · rw [sget, if_neg (h p (by simp)), ih fun q hq => h q (by simp [hq])]

theorem sget_sins_of_ne (d : α) {k j : Nat} (h : j ≠ k) (v : α) (m : List (Nat × α)) : sget d j (sins k v m) = sget d j m := by
  induction m with
  | nil => simp [sins, sget, h.symm]
  | cons p t ih =>
    rw [sins]
    split
    · simp [sget, h.symm]
    · simp [sget, ih]

variable [DecidableEq α]

/-- A key reads as what was last written to it. -/
@[simp] theorem sget_sset_self (d : α) (k : Nat) (v : α) (m : List (Nat × α)) : sget d k (sset d k v m) = v := by
  rw [sset]
  split
  · rename_i h; rw [sget_sdel_self, h]
  · exact sget_sins_self d k v _ (by simp [sdel])

/-- A write leaves every other key alone. -/
theorem sget_sset_of_ne (d e : α) {k j : Nat} (h : j ≠ k) (v : α) (m : List (Nat × α)) : sget d j (sset e k v m) = sget d j m := by
  rw [sset]
  split
  · exact sget_sdel_of_ne d h m
  · rw [sget_sins_of_ne d h, sget_sdel_of_ne d h]

/-- The canonical form, said over the whole list. -/
theorem swf_iff (dflt : Nat → α) (m : List (Nat × α)) :
    swf dflt m = true ↔ m.Pairwise (fun p q => p.1 < q.1) ∧ ∀ p ∈ m, p.2 ≠ dflt p.1 := by
  induction m with
  | nil => simp [swf]
  | cons p t ih =>
    cases t with
    | nil => simp [swf]
    | cons q t =>
      rw [swf, Bool.and_eq_true, Bool.and_eq_true, ih, List.pairwise_cons]
      simp only [decide_eq_true_eq, bne_iff_ne, List.mem_cons, List.pairwise_cons, forall_eq_or_imp]
      constructor
      · rintro ⟨⟨h1, h2⟩, ⟨h3, h4⟩, h5, h6⟩
        exact ⟨⟨⟨h1, fun a ha => h1.trans (h3 a ha)⟩, h3, h4⟩, h2, h5, h6⟩
      · rintro ⟨⟨⟨h1, _⟩, h3, h4⟩, h2, h5, h6⟩
        exact ⟨⟨h1, h2⟩, ⟨h3, h4⟩, h5, h6⟩

theorem swf_filter {dflt : Nat → α} (f : Nat × α → Bool) {m : List (Nat × α)} (h : swf dflt m = true) : swf dflt (m.filter f) = true := by
  rw [swf_iff] at h ⊢
  exact ⟨h.1.filter _, fun p hp => h.2 p (List.mem_of_mem_filter hp)⟩

/-- Keeping some of the keys keeps the canonical form. -/
theorem swf_skeep {dflt : Nat → α} (f : Nat → Bool) {m : List (Nat × α)} (h : swf dflt m = true) : swf dflt (skeep f m) = true :=
  swf_filter _ h

theorem swf_sdel {dflt : Nat → α} (k : Nat) {m : List (Nat × α)} (h : swf dflt m = true) : swf dflt (sdel k m) = true :=
  swf_filter _ h

theorem mem_sins (k : Nat) (v : α) (m : List (Nat × α)) : ∀ p, p ∈ sins k v m ↔ p = (k, v) ∨ p ∈ m := by
  induction m with
  | nil => simp [sins]
  | cons q t ih =>
    intro p
    rw [sins]
    split
    · simp
    · simp only [List.mem_cons, ih p]; tauto

theorem pairwise_sins (k : Nat) (v : α) (m : List (Nat × α)) (h : m.Pairwise (fun p q => p.1 < q.1)) (hk : ∀ p ∈ m, p.1 ≠ k) :
    (sins k v m).Pairwise (fun p q => p.1 < q.1) := by
  induction m with
  | nil => simp [sins]
  | cons q t ih =>
    rw [List.pairwise_cons] at h
    rw [sins]
    split
    · rename_i hlt
      refine List.pairwise_cons.2 ⟨?_, List.pairwise_cons.2 h⟩
      intro p hp
      rcases List.mem_cons.1 hp with rfl | hp
      · exact hlt
      · exact hlt.trans (h.1 p hp)
    · rename_i hge
      refine List.pairwise_cons.2 ⟨?_, ih h.2 fun p hp => hk p (by simp [hp])⟩
      intro p hp
      rcases (mem_sins k v t p).1 hp with rfl | hp
      · have := hk q (by simp); dsimp only; omega
      · exact h.1 p hp

/-- A write keeps the canonical form. -/
theorem swf_sset {dflt : Nat → α} (k : Nat) (v : α) {m : List (Nat × α)} (h : swf dflt m = true) : swf dflt (sset (dflt k) k v m) = true := by
  rw [sset]
  split
  · exact swf_sdel k h
  · rename_i hv
    have h' := (swf_iff dflt _).1 (swf_sdel k h)
    refine (swf_iff dflt _).2 ⟨pairwise_sins k v _ h'.1 (by simp [sdel]), ?_⟩
    intro p hp
    rcases (mem_sins k v _ p).1 hp with rfl | hp
    · exact hv
    · exact h'.2 p hp

/-- Mapping the entries keeps the canonical form. -/
theorem swf_smap {dflt : Nat → α} (f : Nat → α → α) {m : List (Nat × α)} (h : swf dflt m = true) : swf dflt (smap dflt f m) = true := by
  rw [smap, swf_iff]
  constructor
  · refine List.Pairwise.filter _ ?_
    exact List.pairwise_map.2 ((swf_iff _ _).1 h).1
  · intro p hp
    simpa using (List.mem_filter.1 hp).2

/-- Two maps in canonical form that read the same everywhere are equal. -/
theorem swf_ext {dflt : Nat → α} : ∀ {m n : List (Nat × α)}, swf dflt m = true → swf dflt n = true →
    (∀ k, sget (dflt k) k m = sget (dflt k) k n) → m = n := by
  have gt_default : ∀ (k : Nat) (m : List (Nat × α)), (∀ p ∈ m, k < p.1) → sget (dflt k) k m = dflt k := by
    intro k m
    induction m with
    | nil => intro _; rfl
    | cons p t ih =>
      intro h
      have := h p (by simp)
      rw [sget, if_neg (by omega), ih fun q hq => h q (by simp [hq])]
  intro m
  induction m with
  | nil =>
    intro n _ hn h
    cases n with
    | nil => rfl
    | cons q u =>
      have := h q.1
      rw [sget, sget, if_pos rfl] at this
      exact absurd this.symm (((swf_iff _ _).1 hn).2 q (by simp))
  | cons p t ih =>
    intro n hm hn h
    have hm' := (swf_iff _ _).1 hm
    rw [List.pairwise_cons] at hm'
    cases n with
    | nil =>
      have := h p.1
      rw [sget, sget, if_pos rfl] at this
      exact absurd this (hm'.2 p (by simp))
    | cons q u =>
      have hn' := (swf_iff _ _).1 hn
      rw [List.pairwise_cons] at hn'
      have hk : p.1 = q.1 := by
        rcases Nat.lt_trichotomy p.1 q.1 with hlt | he | hlt
        · have := h p.1
          rw [sget, if_pos rfl, sget, if_neg (by omega), gt_default _ _ fun r hr => hlt.trans (hn'.1.1 r hr)] at this
          exact absurd this (hm'.2 p (by simp))
        · exact he
        · have := h q.1
          rw [sget, if_neg (by omega), gt_default _ _ fun r hr => hlt.trans (hm'.1.1 r hr), sget, if_pos rfl] at this
          exact absurd this.symm (hn'.2 q (by simp))
      have hv : p.2 = q.2 := by
        have := h p.1
        rwa [sget, if_pos rfl, sget, if_pos hk.symm] at this
      have ht : t = u := by
        refine ih ((swf_iff _ _).2 ⟨hm'.1.2, fun r hr => hm'.2 r (by simp [hr])⟩)
          ((swf_iff _ _).2 ⟨hn'.1.2, fun r hr => hn'.2 r (by simp [hr])⟩) fun k => ?_
        by_cases hkp : k = p.1
        · rw [hkp, gt_default _ _ hm'.1.1, gt_default _ _ (hk ▸ hn'.1.1)]
        · have := h k
          rwa [sget, if_neg (Ne.symm hkp), sget, if_neg (hk ▸ Ne.symm hkp)] at this
      rw [Prod.ext hk hv, ht]

end Sys2Proof.Machine
end

