-- ==== Sys2Proof/Laws/Keeps.lean ====
section
/-! SUPPORT. What every operation of the device keeps, and the operations that the others are made of. -/

namespace Sys2Proof.Machine

/-- From `s` to `t` the queue is untouched, time does not run back, the maps stay canonical, and nothing that only rises is lowered. -/
structure Base (s t : State) : Prop where
  pending : t.pending = s.pending
  now : s.now ≤ t.now
  canonical : s.canonical = true → t.canonical = true
  nv : NotLowered s.nv t.nv

/-- `Base`, and TICK_NUM stays as it is, or is 0 after a chip reset on the way. -/
structure Keeps (s t : State) : Prop where
  pending : t.pending = s.pending
  now : s.now ≤ t.now
  canonical : s.canonical = true → t.canonical = true
  nv : NotLowered s.nv t.nv
  tick : t.tickNum = s.tickNum ∨ t.tickNum = 0

theorem Keeps.base {s t : State} (h : Keeps s t) : Base s t := ⟨h.pending, h.now, h.canonical, h.nv⟩

theorem NotLowered.refl (v : NvSt) : NotLowered v v := ⟨fun _ => by simp, fun _ => Nat.le_refl _, Nat.le_refl _, Nat.le_refl _⟩

theorem NotLowered.trans {u v w : NvSt} (h : NotLowered u v) (g : NotLowered v w) : NotLowered u w := by
  refine ⟨fun i => ?_, fun r => (h.floor r).trans (g.floor r), h.timeFloor.trans g.timeFloor, h.txn.trans g.txn⟩
  rw [← h.otp i, BitVec.and_assoc, g.otp i]

theorem Keeps.refl (s : State) : Keeps s s := ⟨rfl, Nat.le_refl _, id, .refl _, .inl rfl⟩

theorem Keeps.trans {s t u : State} (h : Keeps s t) (g : Keeps t u) : Keeps s u :=
  ⟨g.pending.trans h.pending, h.now.trans g.now, fun c => g.canonical (h.canonical c), h.nv.trans g.nv,
    g.tick.elim (fun e => h.tick.elim (fun f => .inl (e.trans f)) fun f => .inr (e.trans f)) .inr⟩

theorem Base.trans {s t u : State} (h : Base s t) (g : Base t u) : Base s u :=
  ⟨g.pending.trans h.pending, h.now.trans g.now, fun c => g.canonical (h.canonical c), h.nv.trans g.nv⟩

/-- An update of the blocks' own fields alone. -/
theorem Keeps.upd {s t u : State} (h : Keeps s t) (hp : u.pending = t.pending) (hn : u.now = t.now) (hr : u.regs = t.regs)
    (hs : u.shadow = t.shadow) (hst : u.stat = t.stat) (hm : u.mem = t.mem) (hv : u.nv = t.nv)
    (ht : u.tickNum = t.tickNum) : Keeps s u := by
  refine ⟨hp.trans h.pending, hn ▸ h.now, fun c => ?_, hv ▸ h.nv, ht ▸ h.tick⟩
  have := h.canonical c
  rw [State.canonical] at this ⊢
  rw [hr, hs, hst, hm]; exact this

theorem Keeps.of_pair {α : Type} {s t : State} {p : α × State} {a : α} (e : p = (a, t)) (h : Keeps s p.2) : Keeps s t := by
  rw [e] at h; exact h

theorem Keeps.of_triple {α β : Type} {s t : State} {p : α × β × State} {a : α} {b : β} (e : p = (a, b, t)) (h : Keeps s p.2.2) : Keeps s t := by
  rw [e] at h; exact h

theorem canonical_iff (s : State) : s.canonical = true ↔
    regsWf s.regs = true ∧ regsWf s.shadow = true ∧ swf (fun _ => 0#32) s.stat = true ∧ Memory.wf s.mem = true := by
  simp [State.canonical, and_assoc]

/-- A record update of fields that none of this speaks of. -/
theorem mk_keeps {s t : State} {v : NvSt} {nextTick : Nat} {evt : EvtSt} {ue : List Nat} {ce : List Nat} {bus : BusResp} {free : Nat} {sys : SysSt} {flt : FltSt} {plicClaimed : List Nat} {wdog : List (Nat × Nat)} {dmvLast : Vector (Option Nat) 4} {cmp : CmpSt} {frm : FrameSt} {pho : PhoSt} {glm : GlmSt} {tile : Vector TileSt 4} {sync : SyncSt} {pat : PatSt} {vin : VinSt} {look : LookSt} {ctl : CtlSt} {nrg : NrgSt} {dali : DaliSt} {thm : ThmSt} {pwr : PwrSt} {tim : TimeSt} {net : NetSt} {sched : SchedSt} {ses : SesSt} {sec : SecSt} {upd : UpdSt} {nvm : NvmSt} {flash : Option FlashOp}
    (h : Keeps s t) (hv : NotLowered t.nv v) :
    Keeps s (State.mk t.now nextTick t.tickNum t.regs t.shadow t.stat evt t.mem ue ce bus free sys flt v plicClaimed wdog dmvLast cmp frm pho glm tile sync pat vin look ctl nrg dali thm pwr tim net sched ses sec upd nvm flash t.pending) :=
  ⟨h.pending, h.now, h.canonical, h.nv.trans hv, h.tick⟩

/-- A record update of non-volatile fields that none of this speaks of. -/
theorem nvMk_keeps {w v : NvSt} {roots : List (Nat × List Nat)} {slots : List (Nat × Nat × Word)} {certs : List (Nat × List Nat)} {payloads : List ((Nat × Nat) × List Nat)} {sections : List (Section × List Nat)} {heads : Nat} {anchor : List Nat} {landmarks : Nat} {commissioned : Bool} {quarantine : Nat} {auditNext : Nat} {auditHead auditPrev : List Nat} {acked : Nat} {active : Nat} {trial : Nat} {raises : List (Nat × Nat)} {wear : List (Nat × Nat)} {head : Nat} {left : List Tx}
    (h : NotLowered w v) : NotLowered w (NvSt.mk v.otp roots slots certs payloads sections heads anchor landmarks commissioned quarantine v.floors v.timeFloor auditNext auditHead auditPrev acked active trial raises wear v.txn head left) := ⟨h.otp, h.floor, h.timeFloor, h.txn⟩

/-- A new transaction. -/
theorem nvTxn_keeps {w v : NvSt} {roots : List (Nat × List Nat)} {slots : List (Nat × Nat × Word)} {certs : List (Nat × List Nat)} {payloads : List ((Nat × Nat) × List Nat)} {sections : List (Section × List Nat)} {heads : Nat} {anchor : List Nat} {landmarks : Nat} {commissioned : Bool} {quarantine : Nat} {auditNext : Nat} {auditHead auditPrev : List Nat} {acked : Nat} {active : Nat} {trial : Nat} {raises : List (Nat × Nat)} {wear : List (Nat × Nat)} {head : Nat} {left : List Tx}
    (h : NotLowered w v) : NotLowered w (NvSt.mk v.otp roots slots certs payloads sections heads anchor landmarks commissioned quarantine v.floors v.timeFloor auditNext auditHead auditPrev acked active trial raises wear (v.txn + 1) head left) := ⟨h.otp, h.floor, h.timeFloor, h.txn.trans (Nat.le_succ _)⟩

/-- A token floor is raised. -/
theorem nvFloor_keeps {w v : NvSt} {r x : Nat} {roots : List (Nat × List Nat)} {slots : List (Nat × Nat × Word)} {certs : List (Nat × List Nat)} {payloads : List ((Nat × Nat) × List Nat)} {sections : List (Section × List Nat)} {heads : Nat} {anchor : List Nat} {landmarks : Nat} {commissioned : Bool} {quarantine : Nat} {auditNext : Nat} {auditHead auditPrev : List Nat} {acked : Nat} {active : Nat} {trial : Nat} {raises : List (Nat × Nat)} {wear : List (Nat × Nat)} {head : Nat} {left : List Tx}
    (h : NotLowered w v) : NotLowered w (NvSt.mk v.otp roots slots certs payloads sections heads anchor landmarks commissioned quarantine (sset 0 r (max x (sget 0 r v.floors)) v.floors) v.timeFloor auditNext auditHead auditPrev acked active trial raises wear v.txn head left) := by
  refine ⟨h.otp, fun k => (h.floor k).trans ?_, h.timeFloor, h.txn⟩
  simp only [NvSt.floor]
  by_cases hk : k = r
  · subst hk; rw [sget_sset_self]; exact Nat.le_max_right _ _
  · rw [sget_sset_of_ne _ _ hk]

/-- The time floor is raised. -/
theorem nvTime_keeps {w v : NvSt} {x : Nat} {roots : List (Nat × List Nat)} {slots : List (Nat × Nat × Word)} {certs : List (Nat × List Nat)} {payloads : List ((Nat × Nat) × List Nat)} {sections : List (Section × List Nat)} {heads : Nat} {anchor : List Nat} {landmarks : Nat} {commissioned : Bool} {quarantine : Nat} {auditNext : Nat} {auditHead auditPrev : List Nat} {acked : Nat} {active : Nat} {trial : Nat} {raises : List (Nat × Nat)} {wear : List (Nat × Nat)} {head : Nat} {left : List Tx}
    (h : NotLowered w v) : NotLowered w (NvSt.mk v.otp roots slots certs payloads sections heads anchor landmarks commissioned quarantine v.floors (max x v.timeFloor) auditNext auditHead auditPrev acked active trial raises wear v.txn head left) := ⟨h.otp, h.floor, h.timeFloor.trans (Nat.le_max_right _ _), h.txn⟩

/-- Bits of an OTP word are blown. -/
theorem nvOtp_keeps {w v : NvSt} {i : Nat} {x : Word} {roots : List (Nat × List Nat)} {slots : List (Nat × Nat × Word)} {certs : List (Nat × List Nat)} {payloads : List ((Nat × Nat) × List Nat)} {sections : List (Section × List Nat)} {heads : Nat} {anchor : List Nat} {landmarks : Nat} {commissioned : Bool} {quarantine : Nat} {auditNext : Nat} {auditHead auditPrev : List Nat} {acked : Nat} {active : Nat} {trial : Nat} {raises : List (Nat × Nat)} {wear : List (Nat × Nat)} {head : Nat} {left : List Tx}
    (h : NotLowered w v) : NotLowered w (NvSt.mk (sset 0#32 i (v.otpWord i ||| x) v.otp) roots slots certs payloads sections heads anchor landmarks commissioned quarantine v.floors v.timeFloor auditNext auditHead auditPrev acked active trial raises wear v.txn head left) := by
  refine .trans h ⟨fun k => ?_, fun _ => Nat.le_refl _, Nat.le_refl _, Nat.le_refl _⟩
  simp only [NvSt.otpWord]
  by_cases hk : k = i
  · subst hk; rw [sget_sset_self]; ext j; simp; tauto
  · rw [sget_sset_of_ne _ _ hk, BitVec.and_self]

theorem Keeps.pair {α : Type} {s t : State} {a : α} (h : Keeps s t) : Keeps s (a, t).2 := h

theorem Keeps.pair3 {α β : Type} {s : State} {a : α} {p : β × State} (h : Keeps s p.2) : Keeps s (a, p).2.2 := h

theorem wr_keeps {s t : State} {a : Nat} {v : Word} (h : Keeps s t) : Keeps s (t.wr a v) := by
  refine ⟨h.pending, h.now, fun c => ?_, h.nv, h.tick⟩
  have := (canonical_iff t).1 (h.canonical c)
  exact (canonical_iff _).2 ⟨swf_sset a v this.1, this.2⟩

theorem shw_keeps {s t : State} {a : Nat} {v : Word} (h : Keeps s t) : Keeps s (t.shw a v) := by
  refine ⟨h.pending, h.now, fun c => ?_, h.nv, h.tick⟩
  have := (canonical_iff t).1 (h.canonical c)
  exact (canonical_iff _).2 ⟨this.1, swf_sset a v this.2.1, this.2.2⟩

theorem stw_keeps {s t : State} {a : Nat} {v : Word} (h : Keeps s t) : Keeps s (t.stw a v) := by
  refine ⟨h.pending, h.now, fun c => ?_, h.nv, h.tick⟩
  have := (canonical_iff t).1 (h.canonical c)
  exact (canonical_iff _).2 ⟨this.1, this.2.1, swf_sset (dflt := fun _ => 0#32) a v this.2.2.1, this.2.2.2⟩

theorem stB_keeps {s t : State} {a : Nat} {b : Byte} (h : Keeps s t) : Keeps s (t.stB a b) := by
  refine ⟨h.pending, h.now, fun c => ?_, h.nv, h.tick⟩
  have := (canonical_iff t).1 (h.canonical c)
  exact (canonical_iff _).2 ⟨this.1, this.2.1, this.2.2.1, swf_sset (dflt := memDefault) a b this.2.2.2⟩

theorem at_keeps {s t : State} {n : Nat} (h : Keeps s t) : Keeps s (t.at n) :=
  ⟨h.pending, h.now.trans (Nat.le_max_left _ _), h.canonical, h.nv, h.tick⟩

theorem over_keeps {s t : State} {α : Type} {l : List α} {f : State → α → State} (h : Keeps s t)
    (hf : ∀ u x, Keeps s u → Keeps s (f u x)) : Keeps s (t.over l f) := by
  induction l generalizing t with
  | nil => exact h
  | cons x l ih => exact ih (hf t x h)

theorem foldl_keeps {s t : State} {α : Type} {l : List α} {f : State → α → State} (h : Keeps s t)
    (hf : ∀ u x, Keeps s u → Keeps s (f u x)) : Keeps s (l.foldl f t) := over_keeps h hf

theorem when_keeps {s t : State} {c : Bool} {f : State → State} (h : Keeps s t) (hf : Keeps s (f t)) : Keeps s (t.when c f) := by
  rw [State.when]; split
  · exact hf
  · exact h

theorem Keeps.ite {s t u : State} {c : Prop} [Decidable c] (h : Keeps s t) (g : Keeps s u) : Keeps s (if c then t else u) := by
  split <;> assumption

theorem Keeps.ite2 {α : Type} {s : State} {p q : α × State} {c : Prop} [Decidable c] (h : Keeps s p.2) (g : Keeps s q.2) :
    Keeps s (if c then p else q).2 := by
  split <;> assumption

theorem Keeps.ite3 {α β : Type} {s : State} {p q : α × β × State} {c : Prop} [Decidable c] (h : Keeps s p.2.2) (g : Keeps s q.2.2) :
    Keeps s (if c then p else q).2.2 := by
  split <;> assumption

theorem Keeps.dite {s : State} {c : Prop} [Decidable c] {t : c → State} {u : ¬c → State} (h : ∀ x, Keeps s (t x)) (g : ∀ x, Keeps s (u x)) :
    Keeps s (if x : c then t x else u x) := by
  split
  · exact h _
  · exact g _

theorem foldl_keeps2 {s : State} {α β : Type} {p : β × State} {l : List α} {f : β × State → α → β × State} (h : Keeps s p.2)
    (hf : ∀ q x, Keeps s q.2 → Keeps s (f q x).2) : Keeps s (l.foldl f p).2 := by
  induction l generalizing p with
  | nil => exact h
  | cons x l ih => exact ih (hf p x h)

theorem Keeps.elim {α : Type} {s t : State} {o : Option α} {f : α → State} (h : Keeps s t) (hf : ∀ x, Keeps s (f x)) : Keeps s (o.elim t f) := by
  cases o
  · exact h
  · exact hf _

theorem id_keeps {s t : State} (h : Keeps s t) : Keeps s (id t) := h

end Sys2Proof.Machine
end

