-- ==== Sys2Proof/Laws/Keeps01.lean ====
section
/-! SUPPORT. Every operation of Ops, Guard, Reset, Ring, Plic, BlockReset, Flags keeps what `Keeps` says. -/

namespace Sys2Proof.Machine

theorem busData_keeps {s t : State} {a1} (h : Keeps s t) : Keeps s (State.busData t a1) := by
  unfold State.busData
  exact mk_keeps (by assumption) (.refl _)

theorem busErr_keeps {s t : State} (h : Keeps s t) : Keeps s (State.busErr t) := by
  unfold State.busErr
  exact mk_keeps (by assumption) (.refl _)

theorem busOk_keeps {s t : State} (h : Keeps s t) : Keeps s (State.busOk t) := by
  unfold State.busOk
  exact mk_keeps (by assumption) (.refl _)

theorem clearErr_keeps {s t : State} {a1 a2} (h : Keeps s t) : Keeps s (State.clearErr t a1 a2) := by
  unfold State.clearErr
  exact mk_keeps (by assumption) (.refl _)

theorem wb_keeps {s t : State} {a1 a2 a3} (h : Keeps s t) : Keeps s (State.wb t a1 a2 a3) := by
  unfold State.wb
  exact wr_keeps (by assumption)

theorem note_keeps {s t : State} {a1 a2} (h : Keeps s t) : Keeps s (State.note t a1 a2) := by
  unfold State.note
  exact mk_keeps (by assumption) (.refl _)

theorem event_keeps {s t : State} {a1 a2} (h : Keeps s t) : Keeps s (State.event t a1 a2) := by
  unfold State.event
  exact wb_keeps (note_keeps (by assumption))

theorem fresh_keeps {s t : State} (h : Keeps s t) : Keeps s (State.fresh t).2 := by
  unfold State.fresh
  exact Keeps.pair (mk_keeps (by assumption) (.refl _))

theorem irq_keeps {s t : State} {a1 a2} (h : Keeps s t) : Keeps s (State.irq t a1 a2) := by
  unfold State.irq
  exact event_keeps (by assumption)

theorem irqIf_keeps {s t : State} {a1 a2 a3} (h : Keeps s t) : Keeps s (State.irqIf t a1 a2 a3) := by
  unfold State.irqIf
  exact Keeps.ite (irq_keeps (by assumption)) (by assumption)

theorem noteMask_keeps {s t : State} {a1 a2} (h : Keeps s t) : Keeps s (State.noteMask t a1 a2) := by
  unfold State.noteMask
  exact mk_keeps (by assumption) (.refl _)

theorem orMask_keeps {s t : State} {a1 a2} (h : Keeps s t) : Keeps s (State.orMask t a1 a2) := by
  unfold State.orMask
  exact wr_keeps (by assumption)

theorem stBytes_keeps {s t : State} {a l} (h : Keeps s t) : Keeps s (State.stBytes t a l) := by
  induction l generalizing t a with
  | nil => exact h
  | cons b l ih => exact ih (stB_keeps h)

theorem put_keeps {s t : State} {a1 a2} (h : Keeps s t) : Keeps s (State.put t a1 a2) := by
  unfold State.put
  exact clearErr_keeps (stBytes_keeps (by assumption))

theorem setTile_keeps {s t : State} {a1 a2} (h : Keeps s t) : Keeps s (State.setTile t a1 a2) := by
  unfold State.setTile
  exact mk_keeps (by assumption) (.refl _)

theorem stAdd_keeps {s t : State} {a1 a2 a3 a4} (h : Keeps s t) : Keeps s (State.stAdd t a1 a2 a3 a4) := by
  unfold State.stAdd
  exact stw_keeps (by assumption)

theorem stLE_keeps {s t : State} {a1 a2 a3} (h : Keeps s t) : Keeps s (State.stLE t a1 a2 a3) := by
  unfold State.stLE
  exact stBytes_keeps (by assumption)

theorem stSet_keeps {s t : State} {a1 a2 a3 a4} (h : Keeps s t) : Keeps s (State.stSet t a1 a2 a3 a4) := by
  unfold State.stSet
  exact stw_keeps (by assumption)

theorem stMax_keeps {s t : State} {a1 a2 a3 a4} (h : Keeps s t) : Keeps s (State.stMax t a1 a2 a3 a4) := by
  unfold State.stMax
  exact stSet_keeps (by assumption)

theorem wf_keeps {s t : State} {a1 a2 a3 a4} (h : Keeps s t) : Keeps s (State.wf t a1 a2 a3 a4) := by
  unfold State.wf
  exact wr_keeps (by assumption)

theorem stampHi_keeps {s t : State} {a1} (h : Keeps s t) : Keeps s (State.stampHi t a1) := by
  unfold State.stampHi
  exact wf_keeps (by assumption)

theorem defer_keeps {s t : State} {a1} (h : Keeps s t) : Keeps s (State.defer t a1) := by
  unfold State.defer
  exact mk_keeps (by assumption) (.refl _)

theorem ceNote_keeps {s t : State} {a0 a1} (h : Keeps s t) : Keeps s (ceNote a0 a1 t).2 := by
  unfold ceNote
  split; extract_lets +onlyGivenNames -merge -useContext x; have : Keeps s x := Keeps.ite (Keeps.of_pair (by assumption) (fresh_keeps (by assumption))) (mk_keeps (Keeps.of_pair (by assumption) (fresh_keeps (by assumption))) (.refl _)); clear_value x; exact (by split; {exact Keeps.pair (irq_keeps (wr_keeps (wr_keeps (by assumption))))}; {exact Keeps.pair (stAdd_keeps (Keeps.ite (mk_keeps (irq_keeps (wr_keeps (wr_keeps (by assumption)))) (nvTxn_keeps (.refl _))) (irq_keeps (wr_keeps (wr_keeps (by assumption))))))}; {exact Keeps.pair (stAdd_keeps (irq_keeps (wr_keeps (wr_keeps (by assumption)))))})

theorem recordBus_keeps {s t : State} {a0 a1 a2 a3} (h : Keeps s t) : Keeps s (recordBus a0 a1 a2 a3 t) := by
  unfold recordBus
  exact wr_keeps (wr_keeps (by assumption))

theorem ueNote_keeps {s t : State} {a0 a1} (h : Keeps s t) : Keeps s (ueNote a0 a1 t).2 := by
  unfold ueNote
  exact (by split; exact Keeps.pair (irq_keeps (wr_keeps (wr_keeps (Keeps.of_pair (by assumption) (fresh_keeps (by assumption)))))))

theorem guardedRead_keeps {s t : State} {a0 a1 a2} (h : Keeps s t) : Keeps s (guardedRead a0 a1 a2 t).2 := by
  unfold guardedRead
  exact (by split; {exact Keeps.pair (over_keeps (by assumption) (fun _ => fun _ => fun _ => defer_keeps (ceNote_keeps (by assumption))))}; {exact Keeps.pair (defer_keeps (recordBus_keeps (by assumption)))}; {exact Keeps.pair (defer_keeps (recordBus_keeps (by assumption)))}; {assumption}; {exact Keeps.pair (defer_keeps (ueNote_keeps (by assumption)))})

theorem stopNote_keeps {s t : State} {a0 a1 a2} (h : Keeps s t) : Keeps s (stopNote a0 a1 a2 t).2 := by
  unfold stopNote
  exact (by split; {exact Keeps.pair (recordBus_keeps (busErr_keeps (by assumption)))}; {exact Keeps.pair (recordBus_keeps (busErr_keeps (by assumption)))}; {exact Keeps.pair (busErr_keeps (by assumption))}; {exact Keeps.pair (recordBus_keeps (busOk_keeps (by assumption)))}; {exact Keeps.pair (recordBus_keeps (busOk_keeps (by assumption)))}; {exact Keeps.pair (busErr_keeps (irq_keeps (wr_keeps (wr_keeps (by assumption)))))}; {exact Keeps.pair (busErr_keeps (wr_keeps (by assumption)))}; {exact Keeps.pair (busErr_keeps (by assumption))}; {exact Keeps.pair (busErr_keeps (irq_keeps (by assumption)))}; {exact Keeps.pair (busErr_keeps (ueNote_keeps (by assumption)))})

theorem guardedPut_keeps {s t : State} {a0 a1 a2 a3} (h : Keeps s t) : Keeps s (guardedPut a0 a1 a2 a3 t).2 := by
  unfold guardedPut
  exact (by split; {exact Keeps.pair (put_keeps (by assumption))}; {exact Keeps.pair (mk_keeps ((by split; {exact defer_keeps (stopNote_keeps (by assumption))}; {exact stopNote_keeps (by assumption)})) (.refl _))})

theorem setRun_keeps {s t : State} {a0 a1 a2} (h : Keeps s t) : Keeps s (setRun a0 a1 a2 t) := by
  unfold setRun
  exact wr_keeps (wr_keeps (by assumption))

theorem crcVerdict_keeps {s t : State} {a0 a1 a2} (h : Keeps s t) : Keeps s (crcVerdict a0 a1 a2 t) := by
  unfold crcVerdict
  exact Keeps.ite (wf_keeps (by assumption)) (defer_keeps (irq_keeps (wf_keeps (by assumption))))

theorem ctxEnd_keeps {s t : State} {a0 a1} (h : Keeps s t) : Keeps s (ctxEnd a0 a1 t) := by
  unfold ctxEnd
  exact Keeps.ite (crcVerdict_keeps (irq_keeps (wr_keeps (by assumption)))) (irq_keeps (wr_keeps (by assumption)))

theorem crcTake_keeps {s t : State} {a0 a1 a3} (h : Keeps s t) : Keeps s (crcTake a0 a1 t a3) := by
  unfold crcTake
  exact Keeps.ite (ctxEnd_keeps (wr_keeps (setRun_keeps (by assumption)))) (wr_keeps (setRun_keeps (by assumption)))

theorem crcBytesIn_keeps {s t : State} {a0 a1 a2} (h : Keeps s t) : Keeps s (crcBytesIn a0 a1 a2 t) := by
  unfold crcBytesIn
  exact Keeps.ite (over_keeps (stAdd_keeps (by assumption)) (fun _ => fun _ => fun _ => crcTake_keeps (by assumption))) (by assumption)

theorem closeWins_keeps {s t : State} {a0} (h : Keeps s t) : Keeps s (closeWins a0 t) := by
  unfold closeWins
  exact mk_keeps (by assumption) (.refl _)

theorem readyWins_keeps {s t : State} (h : Keeps s t) : Keeps s (readyWins t) := by
  unfold readyWins
  exact closeWins_keeps (by assumption)

theorem openWin_keeps {s t : State} {p m s0} (h : Keeps s t) : Keeps s (openWin p m s0 t) := by
  unfold openWin
  exact mk_keeps (by assumption) (.refl _)

theorem resetRegs_keeps {s t : State} {p} (h : Keeps s t) : Keeps s (resetRegs p t) := by
  refine ⟨h.pending, h.now, fun c => ?_, h.nv, h.tick⟩
  have := (canonical_iff t).1 (h.canonical c)
  exact (canonical_iff _).2 ⟨by unfold resetRegs; dsimp only [regsWf, Memory.wf]; exact swf_smap _ this.1, by unfold resetRegs; dsimp only [regsWf, Memory.wf]; exact swf_smap _ this.2.1, by unfold resetRegs; dsimp only [regsWf, Memory.wf]; exact swf_skeep (dflt := fun _ => 0#32) _ this.2.2.1, this.2.2.2⟩

theorem setCommitStat_keeps {s t : State} {a0 a1 a2} (h : Keeps s t) : Keeps s (setCommitStat a0 a1 a2 t) := by
  unfold setCommitStat
  exact wr_keeps (by assumption)

theorem endMember_keeps {s t : State} {a0 a1 a2 a3} (h : Keeps s t) : Keeps s (endMember a0 a1 a2 a3 t) := by
  unfold endMember
  exact setCommitStat_keeps (Keeps.ite (wb_keeps (wb_keeps (by assumption))) (wb_keeps (by assumption)))

theorem endGroup_keeps {s t : State} {a0 a1 a2 a3 a4} (h : Keeps s t) : Keeps s (endGroup a0 a1 a2 a3 a4 t) := by
  unfold endGroup
  exact irqIf_keeps (mk_keeps (wb_keeps (wr_keeps (over_keeps (by assumption) (fun _ => fun _ => fun _ => endMember_keeps (by assumption))))) (.refl _))

theorem cancelGroup_keeps {s t : State} {a0 a1} (h : Keeps s t) : Keeps s (cancelGroup a0 a1 t) := by
  unfold cancelGroup
  exact endGroup_keeps (by assumption)

theorem cancelByReset_keeps {s t : State} {a0} (h : Keeps s t) : Keeps s (cancelByReset a0 t) := by
  unfold cancelByReset
  exact Keeps.ite (cancelGroup_keeps (by assumption)) (by assumption)

theorem moveByte_keeps {s t : State} {a0 a1 a2} (h : Keeps s t) : Keeps s (moveByte a0 a1 a2 t).2 := by
  unfold moveByte
  extract_lets +onlyGivenNames -merge -useContext x; have : Keeps s x.2 := Keeps.ite2 (by assumption) (guardedRead_keeps (by assumption)); clear_value x; with_reducible apply Keeps.ite2; {assumption}; {extract_lets +onlyGivenNames -merge -useContext x; have : Keeps s x := (by assumption); clear_value x; extract_lets +onlyGivenNames -merge -useContext x; have : Keeps s x := Keeps.ite (stAdd_keeps (by assumption)) (by assumption); clear_value x; extract_lets +onlyGivenNames -merge -useContext x; clear_value x; exact (by split; {exact Keeps.pair (Keeps.of_pair (by assumption) (guardedPut_keeps (by assumption)))}; {exact Keeps.pair (Keeps.of_pair (by assumption) (guardedPut_keeps (by assumption)))}; {exact Keeps.pair (Keeps.ite (clearErr_keeps (Keeps.of_pair (by assumption) (guardedPut_keeps (by assumption)))) (Keeps.of_pair (by assumption) (guardedPut_keeps (by assumption))))})}

theorem transfer_keeps {s t : State} {c d n k} (h : Keeps s t) : Keeps s (transfer c d n k t).2.2 := by
  induction n generalizing k t with
  | zero => exact h
  | succ n ih =>
    have hm : Keeps s (moveByte c d k t).2 := moveByte_keeps h
    rw [transfer]
    generalize moveByte c d k t = m at hm ⊢
    split
    · exact hm
    · exact ih (Keeps.ite (crcBytesIn_keeps hm) hm)

theorem looseBytes_keeps {s t : State} {c d n k} (h : Keeps s t) : Keeps s (looseBytes c d n k t) := by
  induction n generalizing k t with
  | zero => exact h
  | succ n ih =>
    rw [looseBytes]
    exact ih (Keeps.ite (moveByte_keeps (fresh_keeps h)) (fresh_keeps h))

theorem putRecord_keeps {s t : State} {a0 a1 a2 a3 a4 a5} (h : Keeps s t) : Keeps s (putRecord a0 a1 a2 a3 a4 a5 t).2 := by
  unfold putRecord
  exact guardedPut_keeps (by assumption)

theorem abortDesc_keeps {s t : State} {a0 a1 a2} (h : Keeps s t) : Keeps s (abortDesc a0 a1 a2 t) := by
  unfold abortDesc
  exact Keeps.ite (by assumption) (Keeps.ite (putRecord_keeps (looseBytes_keeps (transfer_keeps (by assumption)))) (looseBytes_keeps (transfer_keeps (by assumption))))

theorem dmvAbort_keeps {s t : State} {a0 a1 a2} (h : Keeps s t) : Keeps s (dmvAbort a0 a1 a2 t) := by
  unfold dmvAbort
  exact resetRegs_keeps (mk_keeps (Keeps.ite (abortDesc_keeps (by assumption)) (by assumption)) (.refl _))

theorem dmvReset_keeps {s t : State} {a0} (h : Keeps s t) : Keeps s (dmvReset a0 t) := by
  unfold dmvReset
  exact (by split; exact (by split; exact dmvAbort_keeps (Keeps.of_pair (by assumption) (fresh_keeps (Keeps.of_pair (by assumption) (fresh_keeps (by assumption)))))))

theorem plicSample_keeps {s t : State} (h : Keeps s t) : Keeps s (plicSample t) := by
  unfold plicSample
  exact over_keeps (by assumption) (fun _ => fun _ => fun _ => wb_keeps (by assumption))

theorem plicRead_keeps {s t : State} {a0} (h : Keeps s t) : Keeps s (plicRead a0 t) := by
  unfold plicRead
  exact (by split; {exact busData_keeps (Keeps.ite (plicSample_keeps (by assumption)) (mk_keeps (wb_keeps (plicSample_keeps (by assumption))) (.refl _)))}; {exact busData_keeps (plicSample_keeps (by assumption))}; {exact busData_keeps (plicSample_keeps (by assumption))})

theorem plicWrite_keeps {s t : State} {a0 a1} (h : Keeps s t) : Keeps s (plicWrite a0 a1 t) := by
  unfold plicWrite
  exact (by split; {exact wr_keeps (busOk_keeps (plicSample_keeps (by assumption)))}; {exact wr_keeps (busOk_keeps (plicSample_keeps (by assumption)))}; {exact wr_keeps (busOk_keeps (plicSample_keeps (by assumption)))}; {exact Keeps.ite (plicSample_keeps (mk_keeps (busOk_keeps (plicSample_keeps (by assumption))) (.refl _))) (busOk_keeps (plicSample_keeps (by assumption)))}; {exact busOk_keeps (plicSample_keeps (by assumption))}; {exact busOk_keeps (plicSample_keeps (by assumption))})

theorem setBuf_keeps {s t : State} {a1 a2} (h : Keeps s t) : Keeps s (State.setBuf t a1 a2) := by
  unfold State.setBuf
  exact mk_keeps (by assumption) (.refl _)

theorem setLook_keeps {s t : State} {a1} (h : Keeps s t) : Keeps s (State.setLook t a1) := by
  unfold State.setLook
  exact mk_keeps (by assumption) (.refl _)

theorem statesetSlot_keeps {s t : State} {a1 a2} (h : Keeps s t) : Keeps s (State.setSlot t a1 a2) := by
  unfold State.setSlot
  exact mk_keeps (by assumption) (.refl _)

theorem wrWords_keeps {s t : State} {a l} (h : Keeps s t) : Keeps s (State.wrWords t a l) := by
  induction l generalizing t a with
  | nil => exact h
  | cons b l ih => exact ih (wr_keeps h)

theorem hartReset_keeps {s t : State} {a0 a1} (h : Keeps s t) : Keeps s (hartReset a0 a1 t) := by
  unfold hartReset
  exact readyWins_keeps (openWin_keeps (wr_keeps (by assumption)))

theorem pwmIdle_keeps {s t : State} {a0} (h : Keeps s t) : Keeps s (pwmIdle a0 t) := by
  unfold pwmIdle
  exact over_keeps (by assumption) (fun _ => fun _ => fun _ => Keeps.ite (wb_keeps (mk_keeps (by assumption) (.refl _))) (by assumption))

theorem setLoop_keeps {s t : State} {a0 a1 a2} (h : Keeps s t) : Keeps s (setLoop a0 a1 a2 t) := by
  unfold setLoop
  exact Keeps.ite (pwmIdle_keeps (wb_keeps (Keeps.ite (wb_keeps (wb_keeps (wf_keeps (wf_keeps (by assumption))))) (statesetSlot_keeps (wb_keeps (wb_keeps (wf_keeps (wf_keeps (by assumption))))))))) (wb_keeps (Keeps.ite (wb_keeps (wb_keeps (wf_keeps (wf_keeps (by assumption))))) (statesetSlot_keeps (wb_keeps (wb_keeps (wf_keeps (wf_keeps (by assumption))))))))

theorem capStop_keeps {s t : State} {a0} (h : Keeps s t) : Keeps s (capStop a0 t) := by
  unfold capStop
  exact irq_keeps (statesetSlot_keeps (wb_keeps (wb_keeps (by assumption))))

theorem capTrigger_keeps {s t : State} {a0 a1} (h : Keeps s t) : Keeps s (capTrigger a0 a1 t) := by
  unfold capTrigger
  exact Keeps.ite (by assumption) (Keeps.ite (Keeps.ite (capStop_keeps (statesetSlot_keeps (by assumption))) (statesetSlot_keeps (by assumption))) (statesetSlot_keeps (by assumption)))

theorem injEnd_keeps {s t : State} {a0 a1} (h : Keeps s t) : Keeps s (injEnd a0 a1 t) := by
  unfold injEnd
  exact Keeps.ite (irq_keeps (statesetSlot_keeps (wb_keeps (wr_keeps (by assumption))))) (by assumption)

theorem loopHold_keeps {s t : State} {a0 a1} (h : Keeps s t) : Keeps s (loopHold a0 a1 t) := by
  unfold loopHold
  exact Keeps.ite (capTrigger_keeps (injEnd_keeps (statesetSlot_keeps (irq_keeps (setLoop_keeps (by assumption)))))) (by assumption)

theorem setLstate_keeps {s t : State} {a0 a1} (h : Keeps s t) : Keeps s (setLstate a0 a1 t) := by
  unfold setLstate
  exact wf_keeps (by assumption)

theorem dropCtrl_keeps {s t : State} {a0} (h : Keeps s t) : Keeps s (dropCtrl a0 t) := by
  unfold dropCtrl
  exact setTile_keeps (Keeps.ite (wf_keeps (by assumption)) (by assumption))

theorem leaveUp_keeps {s t : State} {a0} (h : Keeps s t) : Keeps s (leaveUp a0 t) := by
  unfold leaveUp
  exact setTile_keeps (wf_keeps (wb_keeps (wb_keeps (dropCtrl_keeps (mk_keeps (by assumption) (.refl _))))))

theorem tileLost_keeps {s t : State} {a0} (h : Keeps s t) : Keeps s (tileLost a0 t) := by
  unfold tileLost
  exact wr_keeps (wr_keeps (setTile_keeps (setLstate_keeps (leaveUp_keeps (by assumption)))))

theorem setBufState_keeps {s t : State} {a0 a1} (h : Keeps s t) : Keeps s (setBufState a0 a1 t) := by
  unfold setBufState
  exact wf_keeps (setBuf_keeps (by assumption))

theorem setLyr_keeps {s t : State} {a0 a1} (h : Keeps s t) : Keeps s (setLyr a0 a1 t) := by
  unfold setLyr
  exact mk_keeps (by assumption) (.refl _)

theorem leaveArms_keeps {s t : State} {a0} (h : Keeps s t) : Keeps s (leaveArms a0 t) := by
  unfold leaveArms
  exact over_keeps (by assumption) (fun _ => fun _ => fun _ => Keeps.ite (Keeps.ite (wb_keeps (mk_keeps (by assumption) (.refl _))) (mk_keeps (by assumption) (.refl _))) (by assumption))

theorem dropPending_keeps {s t : State} {a0} (h : Keeps s t) : Keeps s (dropPending a0 t) := by
  unfold dropPending
  exact (by split; {assumption}; {exact leaveArms_keeps (wf_keeps (wf_keeps (wb_keeps (setLyr_keeps (Keeps.ite (by assumption) (setBufState_keeps (by assumption)))))))})

theorem layerLost_keeps {s t : State} {a0} (h : Keeps s t) : Keeps s (layerLost a0 t) := by
  unfold layerLost
  exact setLyr_keeps (dropPending_keeps (by assumption))

theorem retireEvent_keeps {s t : State} {a0} (h : Keeps s t) : Keeps s (retireEvent a0 t) := by
  unfold retireEvent
  exact irq_keeps (event_keeps (setBufState_keeps (by assumption)))

theorem settleRetires_keeps {s t : State} (h : Keeps s t) : Keeps s (settleRetires t) := by
  unfold settleRetires
  exact over_keeps (mk_keeps (by assumption) (.refl _)) (fun _ => fun _ => fun _ => retireEvent_keeps (by assumption))

theorem startRetire_keeps {s t : State} {a0 a1} (h : Keeps s t) : Keeps s (startRetire a0 a1 t) := by
  unfold startRetire
  exact mk_keeps (setBufState_keeps (by assumption)) (.refl _)

theorem sclRelease_keeps {s t : State} {a0} (h : Keeps s t) : Keeps s (sclRelease a0 t) := by
  unfold sclRelease
  exact settleRetires_keeps (Keeps.ite (startRetire_keeps (by assumption)) (by assumption))

theorem sclLost_keeps {s t : State} {a0} (h : Keeps s t) : Keeps s (sclLost a0 t) := by
  unfold sclLost
  exact (by split; {assumption}; {exact sclRelease_keeps (mk_keeps (by assumption) (.refl _))})

theorem lookResult_keeps {s t : State} {a0 a1} (h : Keeps s t) : Keeps s (lookResult a0 a1 t) := by
  unfold lookResult
  exact irqIf_keeps (irq_keeps (setLook_keeps (wb_keeps (wr_keeps (by assumption)))))

theorem vinLost_keeps {s t : State} {a0} (h : Keeps s t) : Keeps s (vinLost a0 t) := by
  unfold vinLost
  exact Keeps.ite (lookResult_keeps (mk_keeps (by assumption) (.refl _))) (mk_keeps (by assumption) (.refl _))

theorem glmLost_keeps {s t : State} (h : Keeps s t) : Keeps s (glmLost t) := by
  unfold glmLost
  exact mk_keeps (by assumption) (.refl _)

theorem resetInner_keeps {s t : State} {a0} (h : Keeps s t) : Keeps s (resetInner a0 t) := by
  unfold resetInner
  exact (by split; {exact dmvReset_keeps (by assumption)}; {exact Keeps.ite (over_keeps (by assumption) (fun _ => fun _ => fun _ => dmvReset_keeps (by assumption))) ((by split; {exact tileLost_keeps (by assumption)}; {exact tileLost_keeps (by assumption)}; {exact (by split; {exact layerLost_keeps (by assumption)}; {exact sclLost_keeps (by assumption)}; {exact vinLost_keeps (by assumption)}; {exact statesetSlot_keeps (setLoop_keeps (by assumption))}; {exact Keeps.ite (mk_keeps (by assumption) (.refl _)) (Keeps.ite (irqIf_keeps (by assumption)) (Keeps.ite (mk_keeps (by assumption) (.refl _)) (Keeps.ite (mk_keeps (by assumption) (.refl _)) (Keeps.ite (mk_keeps (by assumption) (.refl _)) (Keeps.ite (glmLost_keeps (by assumption)) (Keeps.ite (mk_keeps (by assumption) (.refl _)) (Keeps.ite (over_keeps (by assumption) (fun _ => fun _ => fun _ => Keeps.ite (by assumption) (setLoop_keeps (injEnd_keeps (by assumption))))) (Keeps.ite (mk_keeps (by assumption) (.refl _)) (Keeps.ite (over_keeps (by assumption) (fun _ => fun _ => fun _ => wb_keeps (setTile_keeps (by assumption)))) (by assumption))))))))))})}))})

theorem otpShow_keeps {s t : State} (h : Keeps s t) : Keeps s (otpShow t) := by
  unfold otpShow
  exact wr_keeps (wr_keeps (wrWords_keeps (over_keeps (by assumption) (fun _ => fun _ => fun _ => wr_keeps (by assumption)))))

theorem nvShow_keeps {s t : State} (h : Keeps s t) : Keeps s (nvShow t) := by
  unfold nvShow
  exact wrWords_keeps (wr_keeps (wr_keeps (wf_keeps (wr_keeps (wr_keeps (over_keeps (mk_keeps (by assumption) (.refl _)) (fun _ => fun _ => fun _ => wrWords_keeps (wr_keeps (wr_keeps (by assumption))))))))))

theorem blockReset_keeps {s t : State} {a0} (h : Keeps s t) : Keeps s (blockReset a0 t) := by
  unfold blockReset
  exact openWin_keeps (mk_keeps (Keeps.ite (otpShow_keeps (nvShow_keeps (resetRegs_keeps (resetInner_keeps (cancelByReset_keeps (plicSample_keeps (by assumption))))))) (resetRegs_keeps (resetInner_keeps (cancelByReset_keeps (plicSample_keeps (by assumption)))))) (.refl _))

theorem clearMain_keeps {s t : State} (h : Keeps s t) : Keeps s (clearMain t) := by
  refine ⟨h.pending, h.now, fun c => ?_, h.nv, h.tick⟩
  have := (canonical_iff t).1 (h.canonical c)
  exact (canonical_iff _).2 ⟨this.1, this.2.1, this.2.2.1, by unfold clearMain; dsimp only [regsWf, Memory.wf]; exact swf_skeep (dflt := memDefault) _ this.2.2.2⟩

theorem otpLoad_keeps {s t : State} (h : Keeps s t) : Keeps s (otpLoad t) := by
  unfold otpLoad
  exact Keeps.ite (by assumption) (over_keeps (by assumption) (fun _ => fun _ => fun _ => wr_keeps (by assumption)))

theorem chipReset_keeps {s t : State} {a b} (h : Keeps s t) : Keeps s (chipReset a b t) := by
  unfold chipReset
  extract_lets u v r r1 r2 r3 r4 r5 w x
  have g : Keeps s v := clearMain_keeps (wr_keeps (wr_keeps h))
  have k : Keeps s w := by
    refine otpShow_keeps (nvShow_keeps ⟨g.pending, g.now, fun c => ?_, ⟨g.nv.otp, g.nv.floor, g.nv.timeFloor, g.nv.txn⟩, .inr rfl⟩)
    have := (canonical_iff _).1 (g.canonical c)
    exact (canonical_iff _).2 ⟨swf_skeep _ this.1, rfl, rfl, this.2.2.2⟩
  clear_value w
  have kx : Keeps s x := otpLoad_keeps k
  clear_value x
  exact mk_keeps kx (.refl _)

theorem copyBytes_keeps {s t : State} {a0 a1 a2} (h : Keeps s t) : Keeps s (copyBytes a0 a1 a2 t) := by
  unfold copyBytes
  exact put_keeps (by assumption)

theorem logEvent_keeps {s t : State} {a0 a1} (h : Keeps s t) : Keeps s (logEvent a0 a1 t) := by
  unfold logEvent
  exact Keeps.ite (irq_keeps (wf_keeps (wr_keeps (wr_keeps (wr_keeps (wr_keeps (by assumption))))))) (wr_keeps (wr_keeps (wr_keeps (wr_keeps (by assumption)))))

theorem conseqEvent_keeps {s t : State} {a0} (h : Keeps s t) : Keeps s (conseqEvent a0 t) := by
  unfold conseqEvent
  exact logEvent_keeps (stAdd_keeps (stampHi_keeps (event_keeps (by assumption))))

theorem countEvent_keeps {s t : State} {a0} (h : Keeps s t) : Keeps s (countEvent a0 t) := by
  unfold countEvent
  exact Keeps.ite (mk_keeps (wf_keeps (by assumption)) (.refl _)) (wf_keeps (by assumption))

theorem unack_keeps {s t : State} {a0} (h : Keeps s t) : Keeps s (unack a0 t) := by
  unfold unack
  exact Keeps.ite (wb_keeps (by assumption)) (by assumption)

theorem resetBlock_keeps {s t : State} {a0} (h : Keeps s t) : Keeps s (resetBlock a0 t) := by
  unfold resetBlock
  exact Keeps.ite (by assumption) ((by split; {exact Keeps.ite (conseqEvent_keeps (Keeps.ite (conseqEvent_keeps (blockReset_keeps (by assumption))) (Keeps.ite (conseqEvent_keeps (blockReset_keeps (by assumption))) (blockReset_keeps (by assumption))))) (Keeps.ite (conseqEvent_keeps (blockReset_keeps (by assumption))) (Keeps.ite (conseqEvent_keeps (blockReset_keeps (by assumption))) (blockReset_keeps (by assumption))))}; {exact Keeps.ite (conseqEvent_keeps (blockReset_keeps (by assumption))) (Keeps.ite (conseqEvent_keeps (blockReset_keeps (by assumption))) (blockReset_keeps (by assumption)))}))

theorem resetFor_keeps {s t : State} {a0} (h : Keeps s t) : Keeps s (resetFor a0 t) := by
  unfold resetFor
  exact Keeps.ite (by assumption) ((by split; {assumption}; {exact Keeps.ite (hartReset_keeps (by assumption)) (Keeps.ite (hartReset_keeps (by assumption)) (Keeps.ite (hartReset_keeps (by assumption)) ((by split; {exact loopHold_keeps (by assumption)}; {exact resetBlock_keeps (by assumption)}))))}))

theorem reactErr_keeps {s t : State} (h : Keeps s t) : Keeps s (reactErr t) := by
  unfold reactErr
  exact Keeps.ite (mk_keeps (wb_keeps (by assumption)) (.refl _)) (mk_keeps (mk_keeps (wb_keeps (by assumption)) (.refl _)) (.refl _))

theorem react_keeps {s t : State} {a0 a1} (h : Keeps s t) : Keeps s (react a0 a1 t) := by
  unfold react
  exact Keeps.ite (reactErr_keeps (Keeps.ite (resetFor_keeps (Keeps.ite (mk_keeps (irqIf_keeps (by assumption)) (.refl _)) (irqIf_keeps (by assumption)))) (Keeps.ite (mk_keeps (irqIf_keeps (by assumption)) (.refl _)) (irqIf_keeps (by assumption))))) (Keeps.ite (resetFor_keeps (Keeps.ite (mk_keeps (irqIf_keeps (by assumption)) (.refl _)) (irqIf_keeps (by assumption)))) (Keeps.ite (mk_keeps (irqIf_keeps (by assumption)) (.refl _)) (irqIf_keeps (by assumption))))

theorem showPend_keeps {s t : State} (h : Keeps s t) : Keeps s (showPend t) := by
  unfold showPend
  exact wr_keeps (by assumption)

theorem realEvent_keeps {s t : State} {a0} (h : Keeps s t) : Keeps s (realEvent a0 t).2 := by
  unfold realEvent
  exact Keeps.pair (react_keeps (showPend_keeps (logEvent_keeps (stAdd_keeps (stampHi_keeps (wr_keeps (note_keeps (Keeps.ite (note_keeps (countEvent_keeps (unack_keeps (by assumption)))) (countEvent_keeps (unack_keeps (by assumption)))))))))))

theorem forcedEvent_keeps {s t : State} {a0} (h : Keeps s t) : Keeps s (forcedEvent a0 t).2 := by
  unfold forcedEvent
  exact Keeps.pair (react_keeps (logEvent_keeps (stampHi_keeps (wr_keeps (note_keeps (by assumption))))))

theorem handle_keeps {s t : State} {a0} (h : Keeps s t) : Keeps s (handle a0 t).2 := by
  unfold handle
  exact Keeps.ite2 (by assumption) (Keeps.ite2 (Keeps.ite2 (Keeps.pair (Keeps.ite (event_keeps (by assumption)) (by assumption))) (Keeps.ite2 (Keeps.pair (conseqEvent_keeps (Keeps.ite (event_keeps (by assumption)) (by assumption)))) (realEvent_keeps (Keeps.ite (event_keeps (by assumption)) (by assumption))))) (Keeps.ite2 (Keeps.ite2 (Keeps.pair (event_keeps (by assumption))) (forcedEvent_keeps (by assumption))) (by assumption)))

theorem raiseCycle_keeps {s t : State} {a0} (h : Keeps s t) : Keeps s (raiseCycle a0 t) := by
  unfold raiseCycle
  extract_lets +onlyGivenNames -merge -useContext x; have : Keeps s x.2 := foldl_keeps2 (by assumption) (fun _ => fun _ => fun _ => (by split; exact Keeps.pair (Keeps.of_pair (by assumption) (handle_keeps (by assumption))))); clear_value x; exact (by split; {exact chipReset_keeps (by assumption)}; {assumption})

theorem settle_keeps {s t : State} (h : Keeps s t) : Keeps s (settle t) := by
  unfold settle
  exact (by split; {assumption}; {exact raiseCycle_keeps (mk_keeps (by assumption) (.refl _))})

theorem raiseAll_keeps {s t : State} {a0} (h : Keeps s t) : Keeps s (raiseAll a0 t) := by
  unfold raiseAll
  exact settle_keeps (raiseCycle_keeps (by assumption))

theorem raise_keeps {s t : State} {a0} (h : Keeps s t) : Keeps s (raise a0 t) := by
  unfold raise
  exact raiseAll_keeps (by assumption)

theorem safePut_keeps {s t : State} {a0 a1} (h : Keeps s t) : Keeps s (safePut a0 a1 t) := by
  unfold safePut
  exact Keeps.ite (by assumption) (settle_keeps (guardedPut_keeps (by assumption)))

theorem raiseIf_keeps {s t : State} {a0 a1} (h : Keeps s t) : Keeps s (raiseIf a0 a1 t) := by
  unfold raiseIf
  exact Keeps.ite (raise_keeps (by assumption)) (by assumption)

theorem raiseBus_keeps {s t : State} {a0 a1 a2 a3} (h : Keeps s t) : Keeps s (raiseBus a0 a1 a2 a3 t) := by
  unfold raiseBus
  exact raise_keeps (recordBus_keeps (by assumption))

end Sys2Proof.Machine
end

