-- ==== Sys2Proof/Laws/Keeps02.lean ====
section
/-! SUPPORT. Every operation of TickGen, Bus, Crc, Layers, Dmv, Scaler, Compose, Nvm keeps what `Keeps` says. -/

namespace Sys2Proof.Machine

theorem setTim_keeps {s t : State} {a1} (h : Keeps s t) : Keeps s (State.setTim t a1) := by
  unfold State.setTim
  exact mk_keeps (by assumption) (.refl _)

theorem setTtRate_keeps {s t : State} {a0} (h : Keeps s t) : Keeps s (setTtRate a0 t) := by
  unfold setTtRate
  extract_lets +onlyGivenNames -merge -useContext x; clear_value x; extract_lets +onlyGivenNames -merge -useContext x; have : Keeps s x := setTim_keeps (by assumption); clear_value x; exact (by split; {exact Keeps.ite (mk_keeps (by assumption) (.refl _)) (by assumption)}; {assumption})

theorem enterFollow_keeps {s t : State} (h : Keeps s t) : Keeps s (enterFollow t) := by
  unfold enterFollow
  exact setTtRate_keeps (wb_keeps (wb_keeps (wf_keeps (irqIf_keeps (by assumption)))))

theorem ttFromNt_keeps {s t : State} (h : Keeps s t) : Keeps s (ttFromNt t) := by
  unfold ttFromNt
  exact setTim_keeps (by assumption)

theorem alignTick_keeps {s t : State} (h : Keeps s t) : Keeps s (alignTick t) := by
  unfold alignTick
  exact setTim_keeps (wb_keeps (enterFollow_keeps (ttFromNt_keeps (by assumption))))

theorem enterHoldover_keeps {s t : State} (h : Keeps s t) : Keeps s (enterHoldover t) := by
  unfold enterHoldover
  exact Keeps.ite (by assumption) (setTtRate_keeps (irq_keeps (wb_keeps (wf_keeps (setTim_keeps (by assumption))))))

theorem setNtRate_keeps {s t : State} {a0} (h : Keeps s t) : Keeps s (setNtRate a0 t) := by
  unfold setNtRate
  exact wr_keeps (setTim_keeps (by assumption))

theorem showTime_keeps {s t : State} (h : Keeps s t) : Keeps s (showTime t) := by
  unfold showTime
  exact wb_keeps (wb_keeps (wr_keeps (by assumption)))

theorem timeTick_keeps {s t : State} {a0} (h : Keeps s t) : Keeps s (timeTick a0 t) := by
  unfold timeTick
  exact showTime_keeps (Keeps.ite (irq_keeps (wr_keeps (wr_keeps (wb_keeps (Keeps.ite (enterFollow_keeps (mk_keeps (setTim_keeps (mk_keeps (Keeps.ite (alignTick_keeps ((by split; {exact wr_keeps (wr_keeps (by assumption))}; {assumption}))) (Keeps.ite (setTtRate_keeps ((by split; {exact wr_keeps (wr_keeps (by assumption))}; {assumption}))) (setTtRate_keeps ((by split; {exact wr_keeps (wr_keeps (by assumption))}; {assumption}))))) (.refl _))) (.refl _))) (mk_keeps (setTim_keeps (mk_keeps (Keeps.ite (alignTick_keeps ((by split; {exact wr_keeps (wr_keeps (by assumption))}; {assumption}))) (Keeps.ite (setTtRate_keeps ((by split; {exact wr_keeps (wr_keeps (by assumption))}; {assumption}))) (setTtRate_keeps ((by split; {exact wr_keeps (wr_keeps (by assumption))}; {assumption}))))) (.refl _))) (.refl _))))))) (wb_keeps (Keeps.ite (enterFollow_keeps (mk_keeps (setTim_keeps (mk_keeps (Keeps.ite (alignTick_keeps ((by split; {exact wr_keeps (wr_keeps (by assumption))}; {assumption}))) (Keeps.ite (setTtRate_keeps ((by split; {exact wr_keeps (wr_keeps (by assumption))}; {assumption}))) (setTtRate_keeps ((by split; {exact wr_keeps (wr_keeps (by assumption))}; {assumption}))))) (.refl _))) (.refl _))) (mk_keeps (setTim_keeps (mk_keeps (Keeps.ite (alignTick_keeps ((by split; {exact wr_keeps (wr_keeps (by assumption))}; {assumption}))) (Keeps.ite (setTtRate_keeps ((by split; {exact wr_keeps (wr_keeps (by assumption))}; {assumption}))) (setTtRate_keeps ((by split; {exact wr_keeps (wr_keeps (by assumption))}; {assumption}))))) (.refl _))) (.refl _)))))

theorem noHook_keeps {s t : State} {a0 a1} (h : Keeps s t) : Keeps s (noHook a0 a1 t) := by
  unfold noHook
  assumption

theorem storeReg_keeps {s t : State} {a0 a1} (h : Keeps s t) : Keeps s (storeReg a0 a1 t) := by
  unfold storeReg
  exact Keeps.ite (wr_keeps (by assumption)) (wb_keeps (shw_keeps (wr_keeps (by assumption))))

theorem gateWrite_keeps {s t : State} {a0 a1 a2 a3} (h : Keeps s t) (h3 : ∀ x0 x1 u, Keeps s u → Keeps s (a3 x0 x1 u)) : Keeps s (gateWrite a0 a1 a2 a3 t) := by
  unfold gateWrite
  split; {exact raiseBus_keeps (busOk_keeps (by assumption))}; {exact raiseBus_keeps (busErr_keeps (by assumption))}; {exact raiseBus_keeps (busOk_keeps (by assumption))}; {exact raise_keeps (busOk_keeps (by assumption))}; {extract_lets +onlyGivenNames -merge -useContext x; have : Keeps s x := Keeps.ite (plicSample_keeps (by assumption)) (by assumption); clear_value x; exact h3 _ _ _ (storeReg_keeps (busOk_keeps (by assumption)))}

theorem gateRead_keeps {s t : State} {a0 a1 a2} (h : Keeps s t) (h2 : ∀  u, Keeps s u → Keeps s (a2 u)) : Keeps s (gateRead a0 a1 a2 t) := by
  unfold gateRead
  exact Keeps.ite (raiseBus_keeps (busErr_keeps (by assumption))) (h2 _ (busData_keeps (by assumption)))

theorem ueEvent_keeps {s t : State} {a0 a1} (h : Keeps s t) : Keeps s (ueEvent a0 a1 t) := by
  unfold ueEvent
  exact raise_keeps (ueNote_keeps (by assumption))

theorem ceEvent_keeps {s t : State} {a0 a1} (h : Keeps s t) : Keeps s (ceEvent a0 a1 t) := by
  unfold ceEvent
  exact raise_keeps (ceNote_keeps (by assumption))

theorem correct_keeps {s t : State} {a0 a1 a2} (h : Keeps s t) : Keeps s (correct a0 a1 a2 t) := by
  unfold correct
  exact over_keeps (by assumption) (fun _ => fun _ => fun _ => ceEvent_keeps (by assumption))

theorem memRead_keeps {s t : State} {i a n} (h : Keeps s t) : Keeps s (memRead i a n t).2 := by
  unfold memRead
  extract_lets z
  generalize readStop i a n t = o
  split
  · exact raiseBus_keeps (busErr_keeps h)
  · exact raiseBus_keeps (busErr_keeps h)
  · exact busErr_keeps h
  · exact busErr_keeps (ueEvent_keeps h)
  · exact busData_keeps (Keeps.ite (stAdd_keeps h) (correct_keeps h))

theorem stopWrite_keeps {s t : State} {a0 a1 a2} (h : Keeps s t) : Keeps s (stopWrite a0 a1 a2 t) := by
  unfold stopWrite
  extract_lets +onlyGivenNames -merge -useContext x; have : Keeps s x.2 := stopNote_keeps (by assumption); clear_value x; exact (by split; {exact raise_keeps (by assumption)}; {assumption})

theorem memWrite_keeps {s t : State} {a0 a1 a2} (h : Keeps s t) : Keeps s (memWrite a0 a1 a2 t) := by
  unfold memWrite
  exact (by split; {exact stopWrite_keeps (by assumption)}; {exact busOk_keeps (put_keeps (by assumption))})

theorem crcAlive_keeps {s t : State} {a0 a1 a2} (h : Keeps s t) : Keeps s (crcAlive a0 a1 a2 t) := by
  unfold crcAlive
  exact Keeps.ite (Keeps.ite (wf_keeps (wf_keeps (by assumption))) (Keeps.ite (wf_keeps (by assumption)) (irq_keeps (wf_keeps (wf_keeps (by assumption)))))) (by assumption)

theorem crcFeed_keeps {s t : State} {a0 a1 a2} (h : Keeps s t) : Keeps s (crcFeed a0 a1 a2 t) := by
  unfold crcFeed
  exact settle_keeps (crcBytesIn_keeps (by assumption))

theorem crcPacket_keeps {s t : State} {a0 a1 a2 a3} (h : Keeps s t) : Keeps s (crcPacket a0 a1 a2 a3 t) := by
  unfold crcPacket
  exact Keeps.ite (Keeps.ite (crcAlive_keeps (crcFeed_keeps (wr_keeps (setRun_keeps (by assumption))))) (crcFeed_keeps (by assumption))) (by assumption)

theorem snoop_keeps {s t : State} {a0 a1 a2} (h : Keeps s t) : Keeps s (snoop a0 a1 a2 t) := by
  unfold snoop
  exact over_keeps (by assumption) (fun _ => fun _ => fun _ => crcPacket_keeps (by assumption))

theorem acceptFlip_keeps {s t : State} {a0 a1} (h : Keeps s t) : Keeps s (acceptFlip a0 a1 t) := by
  unfold acceptFlip
  exact stSet_keeps (stAdd_keeps (wf_keeps (wf_keeps (wb_keeps (wf_keeps (setLyr_keeps (Keeps.ite (by assumption) (setBufState_keeps (by assumption)))))))))

theorem applyFlip_keeps {s t : State} {a1} (h : Keeps s t) : Keeps s (applyFlip t a1) := by
  unfold applyFlip
  extract_lets +onlyGivenNames -merge -useContext x; clear_value x; exact (by split; {exact setLyr_keeps (over_keeps (by assumption) (fun _ => fun _ => fun _ => startRetire_keeps (by assumption)))}; {exact irq_keeps (setLyr_keeps ((by split; {exact wf_keeps (wb_keeps (Keeps.ite (startRetire_keeps (setLyr_keeps (over_keeps (by assumption) (fun _ => fun _ => fun _ => startRetire_keeps (by assumption))))) (setLyr_keeps (over_keeps (by assumption) (fun _ => fun _ => fun _ => startRetire_keeps (by assumption))))))}; {exact wf_keeps (wb_keeps (Keeps.ite (startRetire_keeps (setLyr_keeps (over_keeps (by assumption) (fun _ => fun _ => fun _ => startRetire_keeps (by assumption))))) (setLyr_keeps (over_keeps (by assumption) (fun _ => fun _ => fun _ => startRetire_keeps (by assumption))))))})))})

theorem applyFlips_keeps {s t : State} (h : Keeps s t) : Keeps s (applyFlips t) := by
  unfold applyFlips
  exact over_keeps (by assumption) (fun _ => fun _ => fun _ => applyFlip_keeps (by assumption))

theorem armFlips_keeps {s t : State} {a0} (h : Keeps s t) : Keeps s (armFlips a0 t) := by
  unfold armFlips
  exact Keeps.ite (by assumption) (Keeps.ite (by assumption) (wb_keeps (mk_keeps (by assumption) (.refl _))))

theorem cmpFlipArm_keeps {s t : State} {a0 a1} (h : Keeps s t) : Keeps s (cmpFlipArm a0 a1 t) := by
  unfold cmpFlipArm
  exact over_keeps (by assumption) (fun _ => fun _ => fun _ => Keeps.ite (armFlips_keeps (by assumption)) (by assumption))

theorem cancelFlip_keeps {s t : State} {a0} (h : Keeps s t) : Keeps s (cancelFlip a0 t).2 := by
  unfold cancelFlip
  exact Keeps.ite2 (by assumption) (Keeps.ite2 (by assumption) (Keeps.pair (wf_keeps (dropPending_keeps (by assumption)))))

theorem postFlip_keeps {s t : State} {a0 a1} (h : Keeps s t) : Keeps s (postFlip a0 a1 t) := by
  unfold postFlip
  exact Keeps.ite (irq_keeps (wf_keeps (by assumption))) (wf_keeps (wb_keeps (wf_keeps (setLyr_keeps (Keeps.ite (by assumption) (setBufState_keeps (by assumption)))))))

theorem lyrFlip_keeps {s t : State} {a0 a1 a2} (h : Keeps s t) : Keeps s (lyrFlip a0 a1 a2 t) := by
  unfold lyrFlip
  exact Keeps.ite (Keeps.ite2 (cancelFlip_keeps (by assumption)) (by assumption)) (Keeps.ite (setLyr_keeps (Keeps.ite2 (cancelFlip_keeps (by assumption)) (by assumption))) (postFlip_keeps (Keeps.ite2 (cancelFlip_keeps (by assumption)) (by assumption))))

theorem sclSkip_keeps {s t : State} {a0 a1} (h : Keeps s t) : Keeps s (sclSkip a0 a1 t) := by
  unfold sclSkip
  exact irq_keeps (stAdd_keeps (by assumption))

theorem sclTrigger_keeps {s t : State} {a0} (h : Keeps s t) : Keeps s (sclTrigger a0 t) := by
  unfold sclTrigger
  exact Keeps.ite (by assumption) (Keeps.ite (irq_keeps (by assumption)) (Keeps.ite (sclSkip_keeps (by assumption)) ((by split; {exact sclSkip_keeps (by assumption)}; {exact wb_keeps (mk_keeps (Keeps.ite (setBufState_keeps (by assumption)) (by assumption)) (.refl _))}))))

theorem signalFence_keeps {s t : State} {a0} (h : Keeps s t) : Keeps s (signalFence a0 t) := by
  unfold signalFence
  exact over_keeps (irq_keeps (event_keeps (Keeps.ite (by assumption) (note_keeps (by assumption))))) (fun _ => fun _ => fun _ => Keeps.ite (sclTrigger_keeps (by assumption)) (by assumption))

theorem fenceSetHook_keeps {s t : State} {a0 a1 a2} (h : Keeps s t) : Keeps s (fenceSetHook a0 a1 a2 t) := by
  unfold fenceSetHook
  exact over_keeps (by assumption) (fun _ => fun _ => fun _ => Keeps.ite (signalFence_keeps (by assumption)) (by assumption))

theorem bufResult_keeps {s t : State} {a0} (h : Keeps s t) : Keeps s (bufResult a0 t) := by
  unfold bufResult
  exact irqIf_keeps (wf_keeps (by assumption))

theorem bufRegister_keeps {s t : State} {a0} (h : Keeps s t) : Keeps s (bufRegister a0 t) := by
  unfold bufRegister
  exact Keeps.ite (bufResult_keeps (setBufState_keeps (setBuf_keeps (by assumption)))) (bufResult_keeps (by assumption))

theorem bufUnregister_keeps {s t : State} {a0} (h : Keeps s t) : Keeps s (bufUnregister a0 t) := by
  unfold bufUnregister
  exact Keeps.ite (bufResult_keeps (setBufState_keeps (setBuf_keeps (by assumption)))) (bufResult_keeps (by assumption))

theorem bufRead_keeps {s t : State} {a0} (h : Keeps s t) : Keeps s (bufRead a0 t) := by
  unfold bufRead
  exact bufResult_keeps (wr_keeps (wr_keeps (wr_keeps (wr_keeps (wr_keeps (by assumption))))))

theorem bufCmd_keeps {s t : State} {a0 a1} (h : Keeps s t) : Keeps s (bufCmd a0 a1 t) := by
  unfold bufCmd
  exact Keeps.ite (bufRegister_keeps (by assumption)) (Keeps.ite (bufUnregister_keeps (by assumption)) (Keeps.ite (bufRead_keeps (by assumption)) (bufResult_keeps (by assumption))))

theorem deferFlip_keeps {s t : State} {a0} (h : Keeps s t) : Keeps s (deferFlip a0 t) := by
  unfold deferFlip
  exact Keeps.ite (raise_keeps (irq_keeps (stSet_keeps (stAdd_keeps (irq_keeps (wf_keeps (wf_keeps (by assumption)))))))) (stSet_keeps (stAdd_keeps (irq_keeps (wf_keeps (wf_keeps (by assumption))))))

theorem consumeFence_keeps {s t : State} {a0} (h : Keeps s t) : Keeps s (consumeFence a0 t) := by
  unfold consumeFence
  exact Keeps.ite (by assumption) (wb_keeps (by assumption))

theorem postAfter_keeps {s t : State} {a1} (h : Keeps s t) : Keeps s (postAfter t a1) := by
  unfold postAfter
  exact (by split; {assumption}; {exact postFlip_keeps (setLyr_keeps (by assumption))})

theorem flipDeadline_keeps {s t : State} (h : Keeps s t) : Keeps s (flipDeadline t) := by
  unfold flipDeadline
  exact over_keeps (over_keeps (over_keeps (over_keeps (over_keeps (by assumption) (fun _ => fun _ => fun _ => Keeps.ite (acceptFlip_keeps (by assumption)) (deferFlip_keeps (by assumption)))) (fun _ => fun _ => fun _ => Keeps.ite (consumeFence_keeps (by assumption)) (by assumption))) (fun _ => fun _ => fun _ => Keeps.ite (leaveArms_keeps (by assumption)) (by assumption))) (fun _ => fun _ => fun _ => postAfter_keeps (by assumption))) (fun _ => fun _ => fun _ => stSet_keeps (by assumption))

theorem dmvAbortHook_keeps {s t : State} {a0 a1 a2 a3 a4} (h : Keeps s t) : Keeps s (dmvAbortHook a0 a1 a2 a3 a4 t) := by
  unfold dmvAbortHook
  exact Keeps.ite (settle_keeps (dmvAbort_keeps (plicSample_keeps (by assumption)))) (by assumption)

theorem dmvCtrl_keeps {s t : State} {a0 a1 a2} (h : Keeps s t) : Keeps s (dmvCtrl a0 a1 a2 t) := by
  unfold dmvCtrl
  exact Keeps.ite (wb_keeps (wb_keeps (by assumption))) (by assumption)

theorem dmvPost_keeps {s t : State} {a0 a1 a2} (h : Keeps s t) : Keeps s (dmvPost a0 a1 a2 t) := by
  unfold dmvPost
  exact Keeps.ite (raise_keeps (by assumption)) (Keeps.ite (wf_keeps (wf_keeps (by assumption))) (wb_keeps (wf_keeps (wf_keeps (by assumption)))))

theorem endDesc_keeps {s t : State} {a0 a1 a2 a3 a4} (h : Keeps s t) : Keeps s (endDesc a0 a1 a2 a3 a4 t) := by
  unfold endDesc
  exact Keeps.ite (settle_keeps (Keeps.ite (signalFence_keeps (wb_keeps (wr_keeps (mk_keeps (irqIf_keeps (wf_keeps (wf_keeps (Keeps.ite2 (putRecord_keeps (by assumption)) (by assumption))))) (.refl _))))) (wb_keeps (wr_keeps (mk_keeps (irqIf_keeps (wf_keeps (wf_keeps (Keeps.ite2 (putRecord_keeps (by assumption)) (by assumption))))) (.refl _)))))) (settle_keeps (defer_keeps (wb_keeps (wb_keeps (mk_keeps (irqIf_keeps (wf_keeps (wf_keeps (Keeps.ite2 (putRecord_keeps (by assumption)) (by assumption))))) (.refl _))))))

theorem unreadDesc_keeps {s t : State} {a0 a1} (h : Keeps s t) : Keeps s (unreadDesc a0 a1 t) := by
  unfold unreadDesc
  exact mk_keeps (endDesc_keeps (by assumption)) (.refl _)

theorem issuedPast_keeps {s t : State} {a0 a1 a2 a3} (h : Keeps s t) : Keeps s (issuedPast a0 a1 a2 a3 t).2 := by
  unfold issuedPast
  exact (by split; exact Keeps.pair (looseBytes_keeps (Keeps.of_pair (by assumption) (fresh_keeps (by assumption)))))

theorem dmvRun_keeps {s t : State} {a0} (h : Keeps s t) : Keeps s (dmvRun a0 t) := by
  unfold dmvRun
  with_reducible apply Keeps.ite; {assumption}; {extract_lets +onlyGivenNames -merge -useContext x; clear_value x; with_reducible apply Keeps.ite; {exact unreadDesc_keeps (by assumption)}; {extract_lets +onlyGivenNames -merge -useContext x; have : Keeps s x.2 := guardedRead_keeps (by assumption); clear_value x; extract_lets +onlyGivenNames -merge -useContext x; have : Keeps s x := (by assumption); clear_value x; with_reducible apply Keeps.ite; {exact unreadDesc_keeps (by assumption)}; {extract_lets +onlyGivenNames -merge -useContext x; clear_value x; with_reducible apply Keeps.ite; {exact endDesc_keeps (by assumption)}; {with_reducible apply Keeps.ite; {exact endDesc_keeps (by assumption)}; {extract_lets +onlyGivenNames -merge -useContext x; clear_value x; extract_lets +onlyGivenNames -merge -useContext x; clear_value x; extract_lets +onlyGivenNames -merge -useContext x; clear_value x; extract_lets +onlyGivenNames -merge -useContext x; have : Keeps s x.2.2 := transfer_keeps (by assumption); clear_value x; extract_lets +onlyGivenNames -merge -useContext x; have : Keeps s x := (by assumption); clear_value x; with_reducible apply Keeps.ite; {exact endDesc_keeps (by assumption)}; {with_reducible apply Keeps.ite; {exact endDesc_keeps (issuedPast_keeps (by assumption))}; {extract_lets +onlyGivenNames -merge -useContext x; clear_value x; extract_lets +onlyGivenNames -merge -useContext x; have : Keeps s x.2 := Keeps.ite2 (guardedPut_keeps (by assumption)) (by assumption); clear_value x; exact (by split; {exact endDesc_keeps (by assumption)}; {exact endDesc_keeps (by assumption)}; {exact Keeps.ite (Keeps.ite (endDesc_keeps (guardedRead_keeps (by assumption))) (endDesc_keeps (crcVerdict_keeps (guardedRead_keeps (by assumption))))) (endDesc_keeps (by assumption))})}}}}}}}

theorem sclKick_keeps {s t : State} {a0 a1 a2} (h : Keeps s t) : Keeps s (sclKick a0 a1 a2 t) := by
  unfold sclKick
  exact Keeps.ite (sclTrigger_keeps (by assumption)) (by assumption)

theorem sclFlip_keeps {s t : State} {a0 a1} (h : Keeps s t) : Keeps s (sclFlip a0 a1 t) := by
  unfold sclFlip
  exact Keeps.ite (by assumption) (postFlip_keeps (Keeps.ite (stAdd_keeps (by assumption)) (by assumption)))

theorem sclFence_keeps {s t : State} {a0} (h : Keeps s t) : Keeps s (sclFence a0 t) := by
  unfold sclFence
  exact Keeps.ite (signalFence_keeps (by assumption)) (by assumption)

theorem sclShow_keeps {s t : State} {a0 a1} (h : Keeps s t) : Keeps s (sclShow a0 a1 t) := by
  unfold sclShow
  exact stAdd_keeps (irq_keeps (wr_keeps (by assumption)))

theorem sclIdle_keeps {s t : State} {a0} (h : Keeps s t) : Keeps s (sclIdle a0 t) := by
  unfold sclIdle
  exact wb_keeps (mk_keeps (by assumption) (.refl _))

theorem sclRead_keeps {s t : State} {a0 a1} (h : Keeps s t) : Keeps s (sclRead a0 a1 t) := by
  unfold sclRead
  exact over_keeps (by assumption) (fun _ => fun _ => fun _ => guardedRead_keeps (by assumption))

theorem sclWrite_keeps {s t : State} {a0 a1} (h : Keeps s t) : Keeps s (sclWrite a0 a1 t) := by
  unfold sclWrite
  exact settle_keeps (mk_keeps (over_keeps (sclRead_keeps (by assumption)) (fun _ => fun _ => fun _ => guardedPut_keeps (by assumption))) (.refl _))

theorem sclEnd_keeps {s t : State} {a0} (h : Keeps s t) : Keeps s (sclEnd a0 t) := by
  unfold sclEnd
  exact (by split; {assumption}; {exact sclFlip_keeps (sclFence_keeps (sclShow_keeps (sclRelease_keeps (sclIdle_keeps (sclWrite_keeps (by assumption))))))})

theorem swf_foldl_sset {l : List (Nat × Word)} {m : List (Nat × Word)} (h : regsWf m = true) :
    regsWf (l.foldl (fun l p => sset (regDefault p.1) p.1 p.2 l) m) = true := by
  induction l generalizing m with
  | nil => exact h
  | cons p l ih => exact ih (swf_sset (dflt := regDefault) p.1 p.2 h)

theorem view_keeps {s t : State} (h : Keeps s t) : Keeps s (State.view t) := by
  refine ⟨h.pending, h.now, fun c => ?_, h.nv, h.tick⟩
  have := (canonical_iff t).1 (h.canonical c)
  exact (canonical_iff _).2 ⟨swf_foldl_sset (swf_skeep (dflt := regDefault) _ this.1), this.2⟩

theorem setOpen_keeps {s t : State} {a0 a1} (h : Keeps s t) : Keeps s (setOpen a0 a1 t) := by
  unfold setOpen
  exact Keeps.ite (mk_keeps (by assumption) (.refl _)) (mk_keeps (by assumption) (.refl _))

theorem txTell_keeps {s t : State} {a0 a1 a2} (h : Keeps s t) : Keeps s (txTell a0 a1 a2 t) := by
  unfold txTell
  exact Keeps.ite (wf_keeps (wf_keeps (by assumption))) (by assumption)

theorem abandon_keeps {s t : State} {a0} (h : Keeps s t) : Keeps s (abandon a0 t) := by
  unfold abandon
  exact (by split; {assumption}; {exact Keeps.ite (by assumption) (irqIf_keeps (txTell_keeps (Keeps.ite (wb_keeps (mk_keeps (setOpen_keeps (mk_keeps (by assumption) (.refl _))) (.refl _))) (setOpen_keeps (mk_keeps (by assumption) (.refl _))))))})

theorem jrnShow_keeps {s t : State} (h : Keeps s t) : Keeps s (jrnShow t) := by
  unfold jrnShow
  exact wf_keeps (wr_keeps (wr_keeps (by assumption)))

theorem txSubmit_keeps {s t : State} {a0 a1 a2 a3 a4 a5} (h : Keeps s t) : Keeps s (txSubmit a0 a1 a2 a3 a4 a5 t).2 := by
  unfold txSubmit
  exact Keeps.ite2 (by assumption) (Keeps.pair (jrnShow_keeps (mk_keeps (by assumption) (nvTxn_keeps (.refl _)))))

theorem countersTx_keeps {s t : State} {a0} (h : Keeps s t) : Keeps s (countersTx a0 t) := by
  unfold countersTx
  exact txSubmit_keeps (by assumption)

theorem wear_keeps {s t : State} {a0 a1} (h : Keeps s t) : Keeps s (wear a0 a1 t) := by
  unfold wear
  extract_lets +onlyGivenNames -merge -useContext x; have : Keeps s x := stAdd_keeps (by assumption); clear_value x; exact (by split; {assumption}; {exact wr_keeps (mk_keeps (by assumption) (nvMk_keeps (.refl _)))})

theorem nvPut_keeps {s t : State} {a0 a1} (h : Keeps s t) : Keeps s (nvPut a0 a1 t) := by
  unfold nvPut
  exact wear_keeps (put_keeps (by assumption))

theorem jrnAppend_keeps {s t : State} {a0} (h : Keeps s t) : Keeps s (jrnAppend a0 t) := by
  unfold jrnAppend
  exact wr_keeps (nvPut_keeps (Keeps.ite (nvPut_keeps (by assumption)) (by assumption)))

theorem txSeal_keeps {s t : State} {a0 a1} (h : Keeps s t) : Keeps s (txSeal a0 a1 t) := by
  unfold txSeal
  exact jrnShow_keeps (mk_keeps (jrnAppend_keeps (by assumption)) (.refl _))

theorem setWindow_keeps {s t : State} {a0 a1} (h : Keeps s t) : Keeps s (setWindow a0 a1 t) := by
  unfold setWindow
  exact Keeps.ite (raiseIf_keeps (Keeps.ite (wb_keeps (jrnShow_keeps (abandon_keeps (abandon_keeps (irq_keeps (wb_keeps (wb_keeps (by assumption)))))))) (jrnShow_keeps (abandon_keeps (abandon_keeps (irq_keeps (wb_keeps (wb_keeps (by assumption))))))))) (Keeps.ite (over_keeps (mk_keeps (Keeps.ite (wb_keeps (wb_keeps (wb_keeps (by assumption)))) (wb_keeps (wb_keeps (by assumption)))) (.refl _)) (fun _ => fun _ => fun _ => txSeal_keeps (by assumption))) (wb_keeps (wb_keeps (by assumption))))

theorem nvmTxCmd_keeps {s t : State} {a0 a1} (h : Keeps s t) : Keeps s (nvmTxCmd a0 a1 t) := by
  unfold nvmTxCmd
  exact Keeps.ite (by assumption) (Keeps.ite (wf_keeps (wf_keeps (Keeps.ite2 (by assumption) (txSubmit_keeps (by assumption))))) (wf_keeps (wf_keeps (wf_keeps (Keeps.ite2 (by assumption) (txSubmit_keeps (by assumption)))))))

theorem xspiResult_keeps {s t : State} {a0} (h : Keeps s t) : Keeps s (xspiResult a0 t) := by
  unfold xspiResult
  exact irqIf_keeps (wf_keeps (by assumption))

theorem xspiCmd_keeps {s t : State} {a0 a1 a2} (h : Keeps s t) : Keeps s (xspiCmd a0 a1 a2 t) := by
  unfold xspiCmd
  exact Keeps.ite (by assumption) (Keeps.ite (xspiResult_keeps (by assumption)) (Keeps.ite (xspiResult_keeps (by assumption)) (Keeps.ite (xspiResult_keeps (by assumption)) (wb_keeps (wb_keeps (mk_keeps (by assumption) (.refl _)))))))

theorem applyUpd_keeps {s t : State} {a0} (h : Keeps s t) : Keeps s (applyUpd a0 t) := by
  unfold applyUpd
  exact (by split; {assumption}; {assumption}; {exact mk_keeps (by assumption) (.refl _)}; {exact wb_keeps (mk_keeps (by assumption) (nvMk_keeps (.refl _)))}; {exact mk_keeps (by assumption) (nvMk_keeps (.refl _))}; {exact mk_keeps (by assumption) (nvFloor_keeps (.refl _))}; {exact mk_keeps (by assumption) (nvTime_keeps (.refl _))}; {exact mk_keeps (by assumption) (nvMk_keeps (.refl _))}; {exact mk_keeps (by assumption) (nvMk_keeps (.refl _))}; {exact mk_keeps (by assumption) (nvMk_keeps (.refl _))}; {exact mk_keeps (by assumption) (nvMk_keeps (.refl _))}; {exact mk_keeps (by assumption) (nvMk_keeps (.refl _))}; {exact mk_keeps (by assumption) (nvMk_keeps (.refl _))}; {exact mk_keeps (by assumption) (nvMk_keeps (.refl _))})

theorem loadDirectory_keeps {s t : State} (h : Keeps s t) : Keeps s (loadDirectory t) := by
  unfold loadDirectory
  exact over_keeps (by assumption) (fun _ => fun _ => fun _ => wr_keeps (wr_keeps (wr_keeps (by assumption))))

theorem txApply_keeps {s t : State} {a0} (h : Keeps s t) : Keeps s (txApply a0 t) := by
  unfold txApply
  exact (by split; {assumption}; {exact Keeps.ite (by assumption) (irqIf_keeps (txTell_keeps (txSeal_keeps (applyUpd_keeps (setOpen_keeps ((by split; {exact nvPut_keeps (Keeps.ite (by assumption) (nvPut_keeps (by assumption)))}; {exact Keeps.ite (by assumption) (nvPut_keeps (by assumption))})))))))})

theorem recover_keeps {s t : State} {a1} (h : Keeps s t) : Keeps s (recover t a1) := by
  unfold recover
  exact irq_keeps (wr_keeps (Keeps.ite (txApply_keeps (setOpen_keeps (mk_keeps (by assumption) (.refl _)))) (Keeps.ite (txSeal_keeps (mk_keeps (by assumption) (.refl _))) (mk_keeps (mk_keeps (by assumption) (.refl _)) (.refl _)))))

theorem journalScan_keeps {s t : State} (h : Keeps s t) : Keeps s (journalScan t) := by
  unfold journalScan
  exact over_keeps (mk_keeps (jrnShow_keeps (wr_keeps (by assumption))) (nvMk_keeps (.refl _))) (fun _ => fun _ => fun _ => recover_keeps (by assumption))

theorem flashProbe_keeps {s t : State} {a0} (h : Keeps s t) : Keeps s (flashProbe a0 t) := by
  unfold flashProbe
  exact (by split; exact Keeps.ite (raise_keeps (wr_keeps (Keeps.ite (Keeps.of_pair (by assumption) (fresh_keeps (by assumption))) (wf_keeps (Keeps.of_pair (by assumption) (fresh_keeps (by assumption))))))) (wr_keeps (Keeps.ite (Keeps.of_pair (by assumption) (fresh_keeps (by assumption))) (wf_keeps (Keeps.of_pair (by assumption) (fresh_keeps (by assumption)))))))

theorem xspiRange_keeps {s t : State} {a1} (h : Keeps s t) : Keeps s (xspiRange t a1) := by
  unfold xspiRange
  exact wf_keeps (wf_keeps (wf_keeps (by assumption)))

theorem xspiProtect_keeps {s t : State} (h : Keeps s t) : Keeps s (xspiProtect t) := by
  unfold xspiProtect
  exact Keeps.ite (by assumption) (wb_keeps (over_keeps (by assumption) (fun _ => fun _ => fun _ => xspiRange_keeps (by assumption))))

theorem retScrub_keeps {s t : State} (h : Keeps s t) : Keeps s (retScrub t) := by
  unfold retScrub
  exact Keeps.ite (by assumption) (mk_keeps (over_keeps (over_keeps (by assumption) (fun _ => fun _ => fun _ => ceEvent_keeps (by assumption))) (fun _ => fun _ => fun _ => ueEvent_keeps (by assumption))) (.refl _))

theorem scrubPass_keeps {s t : State} (h : Keeps s t) : Keeps s (scrubPass t) := by
  unfold scrubPass
  exact Keeps.ite (by assumption) (wb_keeps (wf_keeps (mk_keeps (over_keeps (over_keeps (by assumption) (fun _ => fun _ => fun _ => ceEvent_keeps (by assumption))) (fun _ => fun _ => fun _ => ueEvent_keeps (by assumption))) (.refl _))))

theorem txCommit_keeps {s t : State} {a0 a1} (h : Keeps s t) : Keeps s (txCommit a0 a1 t) := by
  unfold txCommit
  exact (by split; {assumption}; {exact Keeps.ite (by assumption) (Keeps.ite (txTell_keeps (setOpen_keeps (jrnAppend_keeps (by assumption)))) (raise_keeps (irqIf_keeps (irq_keeps (Keeps.ite (mk_keeps (txTell_keeps (txSeal_keeps (setOpen_keeps (by assumption)))) (.refl _)) (txTell_keeps (txSeal_keeps (setOpen_keeps (by assumption)))))))))})

theorem txOpen_keeps {s t : State} {a0} (h : Keeps s t) : Keeps s (txOpen a0 t) := by
  unfold txOpen
  exact (by split; {assumption}; {exact (by split; {assumption}; {exact Keeps.ite (by assumption) (jrnShow_keeps (txTell_keeps (setOpen_keeps (Keeps.ite (nvPut_keeps (jrnAppend_keeps (mk_keeps (by assumption) (.refl _)))) (over_keeps (jrnAppend_keeps (mk_keeps (by assumption) (.refl _))) (fun _ => fun _ => fun _ => jrnAppend_keeps (by assumption)))))))})})

theorem txRun_keeps {s t : State} {a0} (h : Keeps s t) : Keeps s (txRun a0 t) := by
  unfold txRun
  exact txApply_keeps (txCommit_keeps (txOpen_keeps (by assumption)))

theorem xspiDone_keeps {s t : State} {a0} (h : Keeps s t) : Keeps s (xspiDone a0 t) := by
  unfold xspiDone
  exact (by split; {assumption}; {exact Keeps.ite (irq_keeps (wf_keeps (wb_keeps (wb_keeps (mk_keeps (Keeps.ite (put_keeps (by assumption)) (over_keeps (by assumption) (fun _ => fun _ => fun _ => (by split; exact put_keeps (Keeps.of_pair (by assumption) (fresh_keeps (by assumption))))))) (.refl _)))))) (raiseIf_keeps (irq_keeps (irq_keeps (wf_keeps (wb_keeps (wb_keeps (mk_keeps (Keeps.ite (put_keeps (by assumption)) (over_keeps (by assumption) (fun _ => fun _ => fun _ => (by split; exact put_keeps (Keeps.of_pair (by assumption) (fresh_keeps (by assumption))))))) (.refl _))))))))})

theorem xspiWaitTimeout_keeps {s t : State} (h : Keeps s t) : Keeps s (xspiWaitTimeout t) := by
  unfold xspiWaitTimeout
  exact Keeps.ite (raise_keeps (irq_keeps (busErr_keeps (by assumption)))) (by assumption)

end Sys2Proof.Machine
end

