-- ==== Sys2Proof/Laws/Keeps03.lean ====
section
/-! SUPPORT. Every operation of Pipes, Photometry, Sensors, LinkPacket, Drive, Control keeps what `Keeps` says. -/

namespace Sys2Proof.Machine

theorem addOffered_keeps {s t : State} {a0 a1} (h : Keeps s t) : Keeps s (addOffered a0 a1 t) := by
  unfold addOffered
  exact stw_keeps (stw_keeps (by assumption))

theorem engineWrite_keeps {s t : State} {a0 a1 a2} (h : Keeps s t) : Keeps s (engineWrite a0 a1 a2 t).2 := by
  unfold engineWrite
  exact Keeps.pair (settle_keeps (guardedPut_keeps (by assumption)))

theorem setBandSrc_keeps {s t : State} {a0 a1 a2} (h : Keeps s t) : Keeps s (setBandSrc a0 a1 a2 t) := by
  unfold setBandSrc
  exact stSet_keeps (by assumption)

theorem bandLate_keeps {s t : State} {a0 a1} (h : Keeps s t) : Keeps s (bandLate a0 a1 t) := by
  unfold bandLate
  exact Keeps.ite (by assumption) (raise_keeps (Keeps.ite (irq_keeps (stAdd_keeps (setBandSrc_keeps (by assumption)))) (stAdd_keeps (irq_keeps (stAdd_keeps (setBandSrc_keeps (by assumption)))))))

theorem bandsLate_keeps {s t : State} (h : Keeps s t) : Keeps s (bandsLate t) := by
  unfold bandsLate
  exact over_keeps (by assumption) (fun _ => fun _ => fun _ => over_keeps (by assumption) (fun _ => fun _ => fun _ => bandLate_keeps (by assumption)))

theorem thLost_keeps {s t : State} {a1} (h : Keeps s t) : Keeps s (thLost t a1) := by
  unfold thLost
  exact Keeps.ite (raise_keeps (irq_keeps (mk_keeps (by assumption) (.refl _)))) (mk_keeps (by assumption) (.refl _))

theorem latchFrame_keeps {s t : State} (h : Keeps s t) : Keeps s (latchFrame t) := by
  unfold latchFrame
  exact wf_keeps (over_keeps (mk_keeps (wr_keeps (over_keeps (over_keeps (by assumption) (fun _ => fun _ => fun _ => thLost_keeps (by assumption))) (fun _ => fun _ => fun _ => wr_keeps (by assumption)))) (.refl _)) (fun _ => fun _ => fun _ => stw_keeps (by assumption)))

theorem pipeStats_keeps {s t : State} {a0 a1 a2} (h : Keeps s t) : Keeps s (pipeStats a0 a1 a2 t) := by
  unfold pipeStats
  exact stAdd_keeps (stAdd_keeps (stAdd_keeps (stAdd_keeps (stAdd_keeps (stAdd_keeps (over_keeps (over_keeps (stAdd_keeps (by assumption)) (fun _ => fun _ => fun _ => addOffered_keeps (by assumption))) (fun _ => fun _ => fun _ => stAdd_keeps (by assumption))))))))

theorem meshCheck_keeps {s t : State} {a0} (h : Keeps s t) : Keeps s (meshCheck a0 t) := by
  unfold meshCheck
  exact Keeps.ite (Keeps.ite (stw_keeps (Keeps.ite (raise_keeps (irq_keeps (irq_keeps (by assumption)))) (by assumption))) (raise_keeps (irq_keeps (irq_keeps (stw_keeps (Keeps.ite (raise_keeps (irq_keeps (irq_keeps (by assumption)))) (by assumption))))))) (Keeps.ite (raise_keeps (irq_keeps (irq_keeps (by assumption)))) (by assumption))

theorem pipeUe_keeps {s t : State} {a0 a1} (h : Keeps s t) : Keeps s (pipeUe a0 a1 t) := by
  unfold pipeUe
  exact Keeps.ite (raise_keeps (irq_keeps (Keeps.ite (raise_keeps (irq_keeps (irq_keeps ((by split; {exact raise_keeps (irq_keeps (wr_keeps (by assumption)))}; {assumption}))))) ((by split; {exact raise_keeps (irq_keeps (wr_keeps (by assumption)))}; {assumption}))))) (Keeps.ite (raise_keeps (irq_keeps (irq_keeps ((by split; {exact raise_keeps (irq_keeps (wr_keeps (by assumption)))}; {assumption}))))) ((by split; {exact raise_keeps (irq_keeps (wr_keeps (by assumption)))}; {assumption})))

theorem writeFootprint_keeps {s t : State} {a0 a1} (h : Keeps s t) : Keeps s (writeFootprint a0 a1 t) := by
  unfold writeFootprint
  exact mk_keeps (Keeps.ite2 (engineWrite_keeps (by assumption)) (by assumption)) (.refl _)

theorem doseStep_keeps {s t : State} {a0 a2} (h : Keeps s t) : Keeps s (doseStep a0 t a2) := by
  unfold doseStep
  exact (by split; exact Keeps.ite (Keeps.of_pair (by assumption) (fresh_keeps (by assumption))) (Keeps.ite (stAdd_keeps (Keeps.of_pair (by assumption) (fresh_keeps (by assumption)))) (Keeps.ite (engineWrite_keeps (Keeps.of_pair (by assumption) (fresh_keeps (by assumption)))) (Keeps.of_pair (by assumption) (fresh_keeps (by assumption))))))

theorem doseUpdate_keeps {s t : State} {a0 a1} (h : Keeps s t) : Keeps s (doseUpdate a0 a1 t) := by
  unfold doseUpdate
  exact Keeps.ite (over_keeps (wr_keeps (by assumption)) (fun _ => fun _ => fun _ => doseStep_keeps (by assumption))) (by assumption)

theorem pipeEcc_keeps {s t : State} {a0} (h : Keeps s t) : Keeps s (pipeEcc a0 t) := by
  unfold pipeEcc
  exact over_keeps (over_keeps (by assumption) (fun _ => fun _ => fun _ => (by split; exact ceEvent_keeps (Keeps.of_pair (by assumption) (fresh_keeps (by assumption)))))) (fun _ => fun _ => fun _ => (by split; exact ueEvent_keeps (Keeps.of_pair (by assumption) (fresh_keeps (by assumption)))))

theorem pipeDone_keeps {s t : State} {a1} (h : Keeps s t) : Keeps s (pipeDone t a1) := by
  unfold pipeDone
  exact Keeps.ite (by assumption) (Keeps.ite (writeFootprint_keeps (doseUpdate_keeps (meshCheck_keeps (pipeUe_keeps (mk_keeps (pipeStats_keeps (by assumption)) (.refl _)))))) (pipeEcc_keeps (writeFootprint_keeps (doseUpdate_keeps (meshCheck_keeps (pipeUe_keeps (mk_keeps (pipeStats_keeps (by assumption)) (.refl _))))))))

theorem compositionDone_keeps {s t : State} (h : Keeps s t) : Keeps s (compositionDone t) := by
  unfold compositionDone
  exact Keeps.ite (bandsLate_keeps (by assumption)) (irq_keeps (wf_keeps (over_keeps (bandsLate_keeps (by assumption)) (fun _ => fun _ => fun _ => pipeDone_keeps (by assumption)))))

theorem wbDone_keeps {s t : State} {a0} (h : Keeps s t) : Keeps s (wbDone a0 t) := by
  unfold wbDone
  exact Keeps.ite (by assumption) (Keeps.ite (irq_keeps (wr_keeps (wr_keeps (mk_keeps (engineWrite_keeps (by assumption)) (.refl _))))) (raise_keeps (irq_keeps (engineWrite_keeps (by assumption)))))

theorem setPho_keeps {s t : State} {a1} (h : Keeps s t) : Keeps s (State.setPho t a1) := by
  unfold State.setPho
  exact mk_keeps (by assumption) (.refl _)

theorem rmapResult_keeps {s t : State} {a0} (h : Keeps s t) : Keeps s (rmapResult a0 t) := by
  unfold rmapResult
  exact wf_keeps (by assumption)

theorem rmapShow_keeps {s t : State} (h : Keeps s t) : Keeps s (rmapShow t) := by
  unfold rmapShow
  exact wr_keeps (by assumption)

theorem rmapQueue_keeps {s t : State} {a0} (h : Keeps s t) : Keeps s (rmapQueue a0 t) := by
  unfold rmapQueue
  exact rmapShow_keeps (setPho_keeps (by assumption))

theorem rmapInsert_keeps {s t : State} (h : Keeps s t) : Keeps s (rmapInsert t) := by
  unfold rmapInsert
  exact Keeps.ite (rmapResult_keeps (by assumption)) (Keeps.ite (rmapResult_keeps (by assumption)) (Keeps.ite (rmapResult_keeps (by assumption)) (rmapResult_keeps (rmapQueue_keeps (by assumption)))))

theorem rmapDelete_keeps {s t : State} {a0 a1} (h : Keeps s t) : Keeps s (rmapDelete a0 a1 t) := by
  unfold rmapDelete
  exact Keeps.ite (rmapResult_keeps (by assumption)) (rmapResult_keeps (rmapQueue_keeps (by assumption)))

theorem rmapStage_keeps {s t : State} {a0} (h : Keeps s t) : Keeps s (rmapStage a0 t) := by
  unfold rmapStage
  exact wr_keeps (wr_keeps (wr_keeps (wr_keeps (by assumption))))

theorem rmapRead_keeps {s t : State} {a0} (h : Keeps s t) : Keeps s (rmapRead a0 t) := by
  unfold rmapRead
  exact Keeps.ite (rmapResult_keeps (rmapStage_keeps (by assumption))) (rmapResult_keeps (by assumption))

theorem rmapLookup_keeps {s t : State} (h : Keeps s t) : Keeps s (rmapLookup t) := by
  unfold rmapLookup
  exact (by split; {exact rmapResult_keeps (by assumption)}; {exact rmapResult_keeps (wf_keeps (rmapStage_keeps (by assumption)))})

theorem rmapCmd_keeps {s t : State} {a0 a1 a2} (h : Keeps s t) : Keeps s (rmapCmd a0 a1 a2 t) := by
  unfold rmapCmd
  exact Keeps.ite (rmapInsert_keeps (by assumption)) (Keeps.ite (rmapDelete_keeps (by assumption)) (Keeps.ite (rmapRead_keeps (by assumption)) (Keeps.ite (rmapLookup_keeps (by assumption)) (rmapResult_keeps (by assumption)))))

theorem snapEnd_keeps {s t : State} {a0} (h : Keeps s t) : Keeps s (snapEnd a0 t) := by
  unfold snapEnd
  exact Keeps.ite (irq_keeps (wb_keeps (wb_keeps (wf_keeps (setPho_keeps (by assumption)))))) (irq_keeps (wb_keeps (wb_keeps (wf_keeps (setPho_keeps (by assumption))))))

theorem snapDefer_keeps {s t : State} (h : Keeps s t) : Keeps s (snapDefer t) := by
  unfold snapDefer
  exact wb_keeps (setPho_keeps (by assumption))

theorem snapSlice_keeps {s t : State} (h : Keeps s t) : Keeps s (snapSlice t) := by
  unfold snapSlice
  exact (by split; {assumption}; {exact Keeps.ite (snapDefer_keeps (by assumption)) (Keeps.ite (snapDefer_keeps (txSubmit_keeps (by assumption))) (wb_keeps (setPho_keeps (txSubmit_keeps (by assumption)))))})

theorem snapStart_keeps {s t : State} (h : Keeps s t) : Keeps s (snapStart t) := by
  unfold snapStart
  exact (by split; {exact snapEnd_keeps (by assumption)}; {exact snapSlice_keeps (wb_keeps (setPho_keeps (by assumption)))})

theorem snapRequest_keeps {s t : State} (h : Keeps s t) : Keeps s (snapRequest t) := by
  unfold snapRequest
  exact Keeps.ite (by assumption) (snapStart_keeps (by assumption))

theorem restoreSlice_keeps {s t : State} {a0 a2} (h : Keeps s t) : Keeps s (restoreSlice a0 t a2) := by
  unfold restoreSlice
  exact (by split; {exact setPho_keeps (engineWrite_keeps (by assumption))}; {exact wf_keeps (engineWrite_keeps (by assumption))})

theorem restoreStart_keeps {s t : State} (h : Keeps s t) : Keeps s (restoreStart t) := by
  unfold restoreStart
  exact Keeps.ite (raise_keeps (by assumption)) (Keeps.ite (by assumption) (over_keeps (wb_keeps (wf_keeps (by assumption))) (fun _ => fun _ => fun _ => Keeps.ite (over_keeps (by assumption) (fun _ => fun _ => fun _ => restoreSlice_keeps (by assumption))) (by assumption))))

theorem snapCmd_keeps {s t : State} {a0 a1} (h : Keeps s t) : Keeps s (snapCmd a0 a1 t) := by
  unfold snapCmd
  exact Keeps.ite (restoreStart_keeps (Keeps.ite (snapRequest_keeps (by assumption)) (by assumption))) (Keeps.ite (snapRequest_keeps (by assumption)) (by assumption))

theorem dthAdvance_keeps {s t : State} (h : Keeps s t) : Keeps s (dthAdvance t) := by
  unfold dthAdvance
  exact wf_keeps (by assumption)

theorem dthWrite_keeps {s t : State} {a0 a1} (h : Keeps s t) : Keeps s (dthWrite a0 a1 t) := by
  unfold dthWrite
  exact dthAdvance_keeps (wr_keeps (over_keeps (by assumption) (fun _ => fun _ => fun _ => setPho_keeps (by assumption))))

theorem dthRead_keeps {s t : State} (h : Keeps s t) : Keeps s (dthRead t) := by
  unfold dthRead
  exact dthAdvance_keeps (busData_keeps (by assumption))

theorem rmapRetry_keeps {s t : State} (h : Keeps s t) : Keeps s (rmapRetry t) := by
  unfold rmapRetry
  exact setPho_keeps (by assumption)

theorem rmapTick_keeps {s t : State} (h : Keeps s t) : Keeps s (rmapTick t) := by
  unfold rmapTick
  exact rmapShow_keeps (rmapRetry_keeps (stSet_keeps (setPho_keeps (irqIf_keeps (by assumption)))))

theorem restoreDone_keeps {s t : State} (h : Keeps s t) : Keeps s (restoreDone t) := by
  unfold restoreDone
  exact Keeps.ite (Keeps.ite (wf_keeps (wb_keeps (by assumption))) (raise_keeps (irq_keeps (wf_keeps (wb_keeps (by assumption)))))) (by assumption)

theorem rmapStore_keeps {s t : State} {a0 a1} (h : Keeps s t) : Keeps s (rmapStore a0 a1 t) := by
  unfold rmapStore
  extract_lets +onlyGivenNames -merge -useContext x; clear_value x; extract_lets +onlyGivenNames -merge -useContext x; clear_value x; extract_lets +onlyGivenNames -merge -useContext x; clear_value x; exact (by split; {exact put_keeps (by assumption)}; {exact mk_keeps ((by split; {exact raise_keeps (stopNote_keeps (by assumption))}; {exact stopNote_keeps (by assumption)})) (.refl _)})

theorem rmapApply_keeps {s t : State} {a0} (h : Keeps s t) : Keeps s (rmapApply a0 t) := by
  unfold rmapApply
  exact Keeps.ite ((by split; {exact rmapStore_keeps (by assumption)}; {exact Keeps.ite (rmapResult_keeps (irq_keeps (by assumption))) (rmapStore_keeps (by assumption))})) ((by split; {exact rmapResult_keeps (by assumption)}; {exact Keeps.ite (rmapResult_keeps (by assumption)) (rmapStore_keeps (by assumption))}))

theorem rmapEditApply_keeps {s t : State} (h : Keeps s t) : Keeps s (rmapEditApply t) := by
  unfold rmapEditApply
  exact (by split; {assumption}; {exact Keeps.ite (by assumption) (raiseIf_keeps (rmapShow_keeps (stAdd_keeps (rmapApply_keeps (setPho_keeps (by assumption))))))})

theorem snapForget_keeps {s t : State} (h : Keeps s t) : Keeps s (snapForget t) := by
  unfold snapForget
  exact jrnShow_keeps (mk_keeps (by assumption) (.refl _))

theorem snapHourly_keeps {s t : State} (h : Keeps s t) : Keeps s (snapHourly t) := by
  unfold snapHourly
  exact Keeps.ite (setPho_keeps (by assumption)) (Keeps.ite (snapStart_keeps (snapEnd_keeps (snapForget_keeps (setPho_keeps (by assumption))))) (snapRequest_keeps (setPho_keeps (by assumption))))

theorem snapRetry_keeps {s t : State} (h : Keeps s t) : Keeps s (snapRetry t) := by
  unfold snapRetry
  exact Keeps.ite (snapSlice_keeps (by assumption)) (by assumption)

theorem snapSliceDone_keeps {s t : State} (h : Keeps s t) : Keeps s (snapSliceDone t) := by
  unfold snapSliceDone
  exact (by split; {assumption}; {exact Keeps.ite (snapDefer_keeps (by assumption)) (Keeps.ite (by assumption) (Keeps.ite (snapSlice_keeps (setPho_keeps (wr_keeps (setPho_keeps (by assumption))))) ((by split; {exact snapSlice_keeps (setPho_keeps (wr_keeps (setPho_keeps (by assumption))))}; {exact snapEnd_keeps (wr_keeps (setPho_keeps (by assumption)))}))))})

theorem setSensor_keeps {s t : State} {a1 a2} (h : Keeps s t) : Keeps s (State.setSensor t a1 a2) := by
  unfold State.setSensor
  exact mk_keeps (by assumption) (.refl _)

theorem showSensor_keeps {s t : State} {a0} (h : Keeps s t) : Keeps s (showSensor a0 t) := by
  unfold showSensor
  exact Keeps.ite (by assumption) ((by split; {exact wr_keeps (by assumption)}; {assumption}))

theorem sensorClear_keeps {s t : State} {a0 a1 a2} (h : Keeps s t) : Keeps s (sensorClear a0 a1 a2 t) := by
  unfold sensorClear
  exact over_keeps (by assumption) (fun _ => fun _ => fun _ => Keeps.ite (Keeps.ite (wb_keeps (by assumption)) (showSensor_keeps (by assumption))) (by assumption))

theorem sensorFail_keeps {s t : State} {a0} (h : Keeps s t) : Keeps s (sensorFail a0 t) := by
  unfold sensorFail
  exact Keeps.ite (setSensor_keeps (by assumption)) (raise_keeps (irqIf_keeps (irq_keeps (wb_keeps (setSensor_keeps (setSensor_keeps (by assumption)))))))

theorem xoNote_keeps {s t : State} {a0} (h : Keeps s t) : Keeps s (xoNote a0 t) := by
  unfold xoNote
  extract_lets +onlyGivenNames -merge -useContext x; clear_value x; exact (by split; {exact Keeps.ite (mk_keeps (by assumption) (.refl _)) (by assumption)}; {assumption})

theorem noteValue_keeps {s t : State} {a0 a1 a2} (h : Keeps s t) : Keeps s (noteValue a0 a1 a2 t) := by
  unfold noteValue
  exact xoNote_keeps (showSensor_keeps (Keeps.ite (sensorFail_keeps (setSensor_keeps (Keeps.ite (setSensor_keeps (by assumption)) (by assumption)))) (setSensor_keeps (Keeps.ite (setSensor_keeps (by assumption)) (by assumption)))))

theorem sendPacket_keeps {s t : State} {a0 a1 a3} (h : Keeps s t) : Keeps s (sendPacket a0 a1 t a3) := by
  unfold sendPacket
  exact setTile_keeps (by assumption)

theorem tileTakes_keeps {s t : State} {a0 a1} (h : Keeps s t) : Keeps s (tileTakes a0 a1 t) := by
  unfold tileTakes
  exact Keeps.ite (by assumption) (Keeps.ite (setTile_keeps (by assumption)) (Keeps.ite (setTile_keeps (by assumption)) (Keeps.ite (setTile_keeps (by assumption)) (Keeps.ite (setTile_keeps (by assumption)) (by assumption)))))

theorem seqChecked_keeps {s t : State} {a0 a1} (h : Keeps s t) : Keeps s (seqChecked a0 a1 t) := by
  unfold seqChecked
  exact Keeps.ite (wb_keeps (setTile_keeps (by assumption))) (Keeps.ite (raise_keeps (irq_keeps (wb_keeps (setTile_keeps (setTile_keeps (by assumption)))))) (setTile_keeps (by assumption)))

theorem drvAcked_keeps {s t : State} {a0 a1} (h : Keeps s t) : Keeps s (drvAcked a0 a1 t) := by
  unfold drvAcked
  exact Keeps.ite (wb_keeps (by assumption)) (by assumption)

theorem seqChanged_keeps {s t : State} (h : Keeps s t) : Keeps s (seqChanged t) := by
  unfold seqChanged
  exact over_keeps (wf_keeps (by assumption)) (fun _ => fun _ => fun _ => Keeps.ite (setTile_keeps (by assumption)) (by assumption))

theorem showProbe_keeps {s t : State} (h : Keeps s t) : Keeps s (showProbe t) := by
  unfold showProbe
  exact wr_keeps (over_keeps (by assumption) (fun _ => fun _ => fun _ => Keeps.ite (wr_keeps (by assumption)) (by assumption)))

theorem drvWrite_keeps {s t : State} {a0 a1 a2 a3} (h : Keeps s t) : Keeps s (drvWrite a0 a1 a2 a3 t) := by
  unfold drvWrite
  exact setTile_keeps (by assumption)

theorem unitsAgain_keeps {s t : State} (h : Keeps s t) : Keeps s (unitsAgain t) := by
  unfold unitsAgain
  exact over_keeps (showProbe_keeps (by assumption)) (fun _ => fun _ => fun _ => Keeps.ite (drvWrite_keeps (by assumption)) (by assumption))

theorem groupsChanged_keeps {s t : State} {a0} (h : Keeps s t) : Keeps s (groupsChanged a0 t) := by
  unfold groupsChanged
  exact Keeps.ite (showProbe_keeps (by assumption)) (over_keeps (mk_keeps (showProbe_keeps (by assumption)) (.refl _)) (fun _ => fun _ => fun _ => Keeps.ite (drvWrite_keeps (by assumption)) (by assumption)))

theorem pushProbe_keeps {s t : State} {a0} (h : Keeps s t) : Keeps s (pushProbe a0 t) := by
  unfold pushProbe
  exact Keeps.ite (by assumption) (over_keeps (by assumption) (fun _ => fun _ => fun _ => Keeps.ite (drvWrite_keeps (by assumption)) (by assumption)))

theorem fnMark_keeps {s t : State} {a0 a2} (h : Keeps s t) : Keeps s (fnMark a0 t a2) := by
  unfold fnMark
  exact wb_keeps (wr_keeps (by assumption))

theorem fnsOff_keeps {s t : State} {a0 a1} (h : Keeps s t) : Keeps s (fnsOff a0 a1 t) := by
  unfold fnsOff
  exact Keeps.ite (by assumption) (raiseAll_keeps (irq_keeps (over_keeps (by assumption) (fun _ => fun _ => fun _ => fnMark_keeps (by assumption)))))

theorem fnOff_keeps {s t : State} {a0 a1} (h : Keeps s t) : Keeps s (fnOff a0 a1 t) := by
  unfold fnOff
  exact fnsOff_keeps (by assumption)

theorem fnRect_keeps {s t : State} {a0} (h : Keeps s t) : Keeps s (fnRect a0 t) := by
  unfold fnRect
  exact Keeps.ite (fnOff_keeps (by assumption)) (by assumption)

theorem setDefects_keeps {s t : State} {a0} (h : Keeps s t) : Keeps s (setDefects a0 t) := by
  unfold setDefects
  exact Keeps.ite (mk_keeps (wr_keeps (over_keeps (by assumption) (fun _ => fun _ => fun _ => wr_keeps (by assumption)))) (.refl _)) (wr_keeps (over_keeps (by assumption) (fun _ => fun _ => fun _ => wr_keeps (by assumption))))

theorem defDelete_keeps {s t : State} {a0 a1} (h : Keeps s t) : Keeps s (defDelete a0 a1 t) := by
  unfold defDelete
  exact Keeps.ite (setDefects_keeps (by assumption)) (by assumption)

theorem fnKill_keeps {s t : State} {a0 a1} (h : Keeps s t) : Keeps s (fnKill a0 a1 t) := by
  unfold fnKill
  exact fnsOff_keeps (by assumption)

theorem fnClear1_keeps {s t : State} {a1} (h : Keeps s t) : Keeps s (fnClear1 t a1) := by
  unfold fnClear1
  exact wb_keeps (wf_keeps (setDefects_keeps (by assumption)))

theorem fnClear_keeps {s t : State} {a0 a1} (h : Keeps s t) : Keeps s (fnClear a0 a1 t) := by
  unfold fnClear
  exact over_keeps (by assumption) (fun _ => fun _ => fun _ => fnClear1_keeps (by assumption))

theorem seqSend_keeps {s t : State} {a0 a1} (h : Keeps s t) : Keeps s (seqSend a0 a1 t) := by
  unfold seqSend
  exact sendPacket_keeps (by assumption)

theorem seqTick_keeps {s t : State} {a1} (h : Keeps s t) : Keeps s (seqTick t a1) := by
  unfold seqTick
  exact Keeps.ite (by assumption) (setTile_keeps (Keeps.ite (seqSend_keeps (by assumption)) (by assumption)))

theorem showAges_keeps {s t : State} (h : Keeps s t) : Keeps s (showAges t) := by
  unfold showAges
  exact over_keeps (by assumption) (fun _ => fun _ => fun _ => wr_keeps (by assumption))

theorem coverage_keeps {s t : State} {a0} (h : Keeps s t) : Keeps s (coverage a0 t) := by
  unfold coverage
  exact Keeps.ite (by assumption) (Keeps.ite (by assumption) (raiseAll_keeps (irq_keeps (setTile_keeps (by assumption)))))

theorem defFullRaise_keeps {s t : State} (h : Keeps s t) : Keeps s (defFullRaise t) := by
  unfold defFullRaise
  exact Keeps.ite (raise_keeps (irq_keeps (mk_keeps (by assumption) (.refl _)))) (by assumption)

theorem fnCount_keeps {s t : State} {a0 a2} (h : Keeps s t) : Keeps s (fnCount a0 t a2) := by
  unfold fnCount
  exact Keeps.ite (by assumption) (Keeps.ite (fnOff_keeps (wf_keeps ((by split; {exact wb_keeps (wf_keeps (by assumption))}; {assumption})))) (wf_keeps ((by split; {exact wb_keeps (wf_keeps (by assumption))}; {assumption}))))

theorem defReport_keeps {s t : State} {a0 a1 a2 a3 a4} (h : Keeps s t) : Keeps s (defReport a0 a1 a2 a3 a4 t) := by
  unfold defReport
  exact Keeps.ite ((by split; {exact Keeps.pair (stAdd_keeps (by assumption))}; {exact Keeps.ite2 (Keeps.pair (defFullRaise_keeps (raise_keeps (irq_keeps (wr_keeps (wr_keeps (Keeps.ite (rmapQueue_keeps (stAdd_keeps (stAdd_keeps (by assumption)))) (setPho_keeps (stAdd_keeps (stAdd_keeps (by assumption))))))))))) (Keeps.pair (defFullRaise_keeps (raise_keeps (irq_keeps (Keeps.ite (rmapQueue_keeps (stAdd_keeps (stAdd_keeps (by assumption)))) (setPho_keeps (stAdd_keeps (stAdd_keeps (by assumption)))))))))})) (over_keeps ((by split; {exact Keeps.pair (stAdd_keeps (by assumption))}; {exact Keeps.ite2 (Keeps.pair (defFullRaise_keeps (raise_keeps (irq_keeps (wr_keeps (wr_keeps (Keeps.ite (rmapQueue_keeps (stAdd_keeps (stAdd_keeps (by assumption)))) (setPho_keeps (stAdd_keeps (stAdd_keeps (by assumption))))))))))) (Keeps.pair (defFullRaise_keeps (raise_keeps (irq_keeps (Keeps.ite (rmapQueue_keeps (stAdd_keeps (stAdd_keeps (by assumption)))) (setPho_keeps (stAdd_keeps (stAdd_keeps (by assumption)))))))))})) (fun _ => fun _ => fun _ => fnCount_keeps (by assumption)))

theorem notePixel_keeps {s t : State} {a0 a1 a2 a3} (h : Keeps s t) : Keeps s (notePixel a0 a1 a2 a3 t) := by
  unfold notePixel
  exact Keeps.ite (setTile_keeps (by assumption)) (by assumption)

theorem noteVf_keeps {s t : State} {a0 a1 a2} (h : Keeps s t) : Keeps s (noteVf a0 a1 a2 t) := by
  unfold noteVf
  extract_lets +onlyGivenNames -merge -useContext x; clear_value x; exact (by split; exact wr_keeps (mk_keeps (setTile_keeps (by assumption)) (.refl _)))

theorem noteTemp_keeps {s t : State} {a0 a1 a2} (h : Keeps s t) : Keeps s (noteTemp a0 a1 a2 t) := by
  unfold noteTemp
  exact Keeps.ite (by assumption) (noteValue_keeps (wr_keeps (mk_keeps (mk_keeps (by assumption) (.refl _)) (.refl _))))

theorem verifyFrame_keeps {s t : State} {a0 a1} (h : Keeps s t) : Keeps s (verifyFrame a0 a1 t) := by
  unfold verifyFrame
  extract_lets +onlyGivenNames -merge -useContext x; clear_value x; exact (by split; {assumption}; {exact Keeps.ite (setTile_keeps (stAdd_keeps (by assumption))) (by assumption)})

theorem probeSetup_keeps {s t : State} {a0} (h : Keeps s t) : Keeps s (probeSetup a0 t) := by
  unfold probeSetup
  exact drvWrite_keeps (drvWrite_keeps (drvWrite_keeps (drvWrite_keeps (groupsChanged_keeps (by assumption)))))

theorem swapSettings_keeps {s t : State} {a1} (h : Keeps s t) : Keeps s (swapSettings t a1) := by
  unfold swapSettings
  extract_lets +onlyGivenNames -merge -useContext x; clear_value x; exact (by split; exact setTile_keeps (by assumption))

theorem lightProbe_keeps {s t : State} {a1} (h : Keeps s t) : Keeps s (lightProbe t a1) := by
  unfold lightProbe
  exact Keeps.ite (stSet_keeps (setTile_keeps (by assumption))) (by assumption)

theorem noteFbFrame_keeps {s t : State} {a0} (h : Keeps s t) : Keeps s (noteFbFrame a0 t) := by
  unfold noteFbFrame
  exact mk_keeps (by assumption) (.refl _)

theorem adcTake_keeps {s t : State} {a0 a1} (h : Keeps s t) : Keeps s (adcTake a0 a1 t) := by
  unfold adcTake
  exact mk_keeps (wr_keeps (by assumption)) (.refl _)

theorem adcConversion_keeps {s t : State} {a0 a1} (h : Keeps s t) : Keeps s (adcConversion a0 a1 t) := by
  unfold adcConversion
  exact Keeps.ite (by assumption) (Keeps.ite (adcTake_keeps (by assumption)) (Keeps.ite ((by split; {exact Keeps.ite (by assumption) (adcTake_keeps (mk_keeps (at_keeps (by assumption)) (.refl _)))}; {assumption})) (by assumption)))

theorem pwmApplied_keeps {s t : State} (h : Keeps s t) : Keeps s (pwmApplied t) := by
  unfold pwmApplied
  exact mk_keeps (by assumption) (.refl _)

theorem loopsOff_keeps {s t : State} (h : Keeps s t) : Keeps s (loopsOff t) := by
  unfold loopsOff
  exact over_keeps (by assumption) (fun _ => fun _ => fun _ => Keeps.ite (setLoop_keeps (injEnd_keeps (by assumption))) (by assumption))

theorem loopCmd_keeps {s t : State} {a0 a1 a2} (h : Keeps s t) : Keeps s (loopCmd a0 a1 a2 t) := by
  unfold loopCmd
  exact Keeps.ite (capTrigger_keeps (Keeps.ite (statesetSlot_keeps (wb_keeps (wr_keeps (Keeps.ite (injEnd_keeps (Keeps.ite (Keeps.ite (Keeps.ite (Keeps.ite (statesetSlot_keeps (wf_keeps (Keeps.ite (loopHold_keeps (statesetSlot_keeps (by assumption))) (by assumption)))) (Keeps.ite (loopHold_keeps (statesetSlot_keeps (by assumption))) (by assumption))) (statesetSlot_keeps (Keeps.ite (statesetSlot_keeps (wf_keeps (Keeps.ite (loopHold_keeps (statesetSlot_keeps (by assumption))) (by assumption)))) (Keeps.ite (loopHold_keeps (statesetSlot_keeps (by assumption))) (by assumption))))) (wf_keeps (Keeps.ite (statesetSlot_keeps (wf_keeps (Keeps.ite (loopHold_keeps (statesetSlot_keeps (by assumption))) (by assumption)))) (Keeps.ite (loopHold_keeps (statesetSlot_keeps (by assumption))) (by assumption))))) (Keeps.ite (statesetSlot_keeps (wf_keeps (Keeps.ite (loopHold_keeps (statesetSlot_keeps (by assumption))) (by assumption)))) (Keeps.ite (loopHold_keeps (statesetSlot_keeps (by assumption))) (by assumption))))) (Keeps.ite (Keeps.ite (Keeps.ite (Keeps.ite (statesetSlot_keeps (wf_keeps (Keeps.ite (loopHold_keeps (statesetSlot_keeps (by assumption))) (by assumption)))) (Keeps.ite (loopHold_keeps (statesetSlot_keeps (by assumption))) (by assumption))) (statesetSlot_keeps (Keeps.ite (statesetSlot_keeps (wf_keeps (Keeps.ite (loopHold_keeps (statesetSlot_keeps (by assumption))) (by assumption)))) (Keeps.ite (loopHold_keeps (statesetSlot_keeps (by assumption))) (by assumption))))) (wf_keeps (Keeps.ite (statesetSlot_keeps (wf_keeps (Keeps.ite (loopHold_keeps (statesetSlot_keeps (by assumption))) (by assumption)))) (Keeps.ite (loopHold_keeps (statesetSlot_keeps (by assumption))) (by assumption))))) (Keeps.ite (statesetSlot_keeps (wf_keeps (Keeps.ite (loopHold_keeps (statesetSlot_keeps (by assumption))) (by assumption)))) (Keeps.ite (loopHold_keeps (statesetSlot_keeps (by assumption))) (by assumption)))))))) (Keeps.ite (injEnd_keeps (Keeps.ite (Keeps.ite (Keeps.ite (Keeps.ite (statesetSlot_keeps (wf_keeps (Keeps.ite (loopHold_keeps (statesetSlot_keeps (by assumption))) (by assumption)))) (Keeps.ite (loopHold_keeps (statesetSlot_keeps (by assumption))) (by assumption))) (statesetSlot_keeps (Keeps.ite (statesetSlot_keeps (wf_keeps (Keeps.ite (loopHold_keeps (statesetSlot_keeps (by assumption))) (by assumption)))) (Keeps.ite (loopHold_keeps (statesetSlot_keeps (by assumption))) (by assumption))))) (wf_keeps (Keeps.ite (statesetSlot_keeps (wf_keeps (Keeps.ite (loopHold_keeps (statesetSlot_keeps (by assumption))) (by assumption)))) (Keeps.ite (loopHold_keeps (statesetSlot_keeps (by assumption))) (by assumption))))) (Keeps.ite (statesetSlot_keeps (wf_keeps (Keeps.ite (loopHold_keeps (statesetSlot_keeps (by assumption))) (by assumption)))) (Keeps.ite (loopHold_keeps (statesetSlot_keeps (by assumption))) (by assumption))))) (Keeps.ite (Keeps.ite (Keeps.ite (Keeps.ite (statesetSlot_keeps (wf_keeps (Keeps.ite (loopHold_keeps (statesetSlot_keeps (by assumption))) (by assumption)))) (Keeps.ite (loopHold_keeps (statesetSlot_keeps (by assumption))) (by assumption))) (statesetSlot_keeps (Keeps.ite (statesetSlot_keeps (wf_keeps (Keeps.ite (loopHold_keeps (statesetSlot_keeps (by assumption))) (by assumption)))) (Keeps.ite (loopHold_keeps (statesetSlot_keeps (by assumption))) (by assumption))))) (wf_keeps (Keeps.ite (statesetSlot_keeps (wf_keeps (Keeps.ite (loopHold_keeps (statesetSlot_keeps (by assumption))) (by assumption)))) (Keeps.ite (loopHold_keeps (statesetSlot_keeps (by assumption))) (by assumption))))) (Keeps.ite (statesetSlot_keeps (wf_keeps (Keeps.ite (loopHold_keeps (statesetSlot_keeps (by assumption))) (by assumption)))) (Keeps.ite (loopHold_keeps (statesetSlot_keeps (by assumption))) (by assumption))))))) (Keeps.ite (statesetSlot_keeps (wb_keeps (wr_keeps (Keeps.ite (injEnd_keeps (Keeps.ite (Keeps.ite (Keeps.ite (Keeps.ite (statesetSlot_keeps (wf_keeps (Keeps.ite (loopHold_keeps (statesetSlot_keeps (by assumption))) (by assumption)))) (Keeps.ite (loopHold_keeps (statesetSlot_keeps (by assumption))) (by assumption))) (statesetSlot_keeps (Keeps.ite (statesetSlot_keeps (wf_keeps (Keeps.ite (loopHold_keeps (statesetSlot_keeps (by assumption))) (by assumption)))) (Keeps.ite (loopHold_keeps (statesetSlot_keeps (by assumption))) (by assumption))))) (wf_keeps (Keeps.ite (statesetSlot_keeps (wf_keeps (Keeps.ite (loopHold_keeps (statesetSlot_keeps (by assumption))) (by assumption)))) (Keeps.ite (loopHold_keeps (statesetSlot_keeps (by assumption))) (by assumption))))) (Keeps.ite (statesetSlot_keeps (wf_keeps (Keeps.ite (loopHold_keeps (statesetSlot_keeps (by assumption))) (by assumption)))) (Keeps.ite (loopHold_keeps (statesetSlot_keeps (by assumption))) (by assumption))))) (Keeps.ite (Keeps.ite (Keeps.ite (Keeps.ite (statesetSlot_keeps (wf_keeps (Keeps.ite (loopHold_keeps (statesetSlot_keeps (by assumption))) (by assumption)))) (Keeps.ite (loopHold_keeps (statesetSlot_keeps (by assumption))) (by assumption))) (statesetSlot_keeps (Keeps.ite (statesetSlot_keeps (wf_keeps (Keeps.ite (loopHold_keeps (statesetSlot_keeps (by assumption))) (by assumption)))) (Keeps.ite (loopHold_keeps (statesetSlot_keeps (by assumption))) (by assumption))))) (wf_keeps (Keeps.ite (statesetSlot_keeps (wf_keeps (Keeps.ite (loopHold_keeps (statesetSlot_keeps (by assumption))) (by assumption)))) (Keeps.ite (loopHold_keeps (statesetSlot_keeps (by assumption))) (by assumption))))) (Keeps.ite (statesetSlot_keeps (wf_keeps (Keeps.ite (loopHold_keeps (statesetSlot_keeps (by assumption))) (by assumption)))) (Keeps.ite (loopHold_keeps (statesetSlot_keeps (by assumption))) (by assumption)))))))) (Keeps.ite (injEnd_keeps (Keeps.ite (Keeps.ite (Keeps.ite (Keeps.ite (statesetSlot_keeps (wf_keeps (Keeps.ite (loopHold_keeps (statesetSlot_keeps (by assumption))) (by assumption)))) (Keeps.ite (loopHold_keeps (statesetSlot_keeps (by assumption))) (by assumption))) (statesetSlot_keeps (Keeps.ite (statesetSlot_keeps (wf_keeps (Keeps.ite (loopHold_keeps (statesetSlot_keeps (by assumption))) (by assumption)))) (Keeps.ite (loopHold_keeps (statesetSlot_keeps (by assumption))) (by assumption))))) (wf_keeps (Keeps.ite (statesetSlot_keeps (wf_keeps (Keeps.ite (loopHold_keeps (statesetSlot_keeps (by assumption))) (by assumption)))) (Keeps.ite (loopHold_keeps (statesetSlot_keeps (by assumption))) (by assumption))))) (Keeps.ite (statesetSlot_keeps (wf_keeps (Keeps.ite (loopHold_keeps (statesetSlot_keeps (by assumption))) (by assumption)))) (Keeps.ite (loopHold_keeps (statesetSlot_keeps (by assumption))) (by assumption))))) (Keeps.ite (Keeps.ite (Keeps.ite (Keeps.ite (statesetSlot_keeps (wf_keeps (Keeps.ite (loopHold_keeps (statesetSlot_keeps (by assumption))) (by assumption)))) (Keeps.ite (loopHold_keeps (statesetSlot_keeps (by assumption))) (by assumption))) (statesetSlot_keeps (Keeps.ite (statesetSlot_keeps (wf_keeps (Keeps.ite (loopHold_keeps (statesetSlot_keeps (by assumption))) (by assumption)))) (Keeps.ite (loopHold_keeps (statesetSlot_keeps (by assumption))) (by assumption))))) (wf_keeps (Keeps.ite (statesetSlot_keeps (wf_keeps (Keeps.ite (loopHold_keeps (statesetSlot_keeps (by assumption))) (by assumption)))) (Keeps.ite (loopHold_keeps (statesetSlot_keeps (by assumption))) (by assumption))))) (Keeps.ite (statesetSlot_keeps (wf_keeps (Keeps.ite (loopHold_keeps (statesetSlot_keeps (by assumption))) (by assumption)))) (Keeps.ite (loopHold_keeps (statesetSlot_keeps (by assumption))) (by assumption))))))

theorem rcAdvance_keeps {s t : State} {a0} (h : Keeps s t) : Keeps s (rcAdvance a0 t) := by
  unfold rcAdvance
  exact wf_keeps (by assumption)

theorem rcWrite_keeps {s t : State} {a0 a1 a2} (h : Keeps s t) : Keeps s (rcWrite a0 a1 a2 t) := by
  unfold rcWrite
  exact rcAdvance_keeps (Keeps.ite (statesetSlot_keeps (wr_keeps (by assumption))) (wr_keeps (by assumption)))

theorem bookKeep_keeps {s t : State} {a0} (h : Keeps s t) : Keeps s (bookKeep a0 t) := by
  unfold bookKeep
  exact Keeps.ite (wf_keeps (Keeps.ite (statesetSlot_keeps (by assumption)) (by assumption))) (Keeps.ite (statesetSlot_keeps (by assumption)) (by assumption))

theorem rcRead_keeps {s t : State} {a0} (h : Keeps s t) : Keeps s (rcRead a0 t) := by
  unfold rcRead
  exact rcAdvance_keeps (busData_keeps (by assumption))

theorem capSample_keeps {s t : State} {a0} (h : Keeps s t) : Keeps s (capSample a0 t) := by
  unfold capSample
  exact Keeps.ite (by assumption) (Keeps.ite (statesetSlot_keeps (by assumption)) (Keeps.ite (capStop_keeps (statesetSlot_keeps (wb_keeps (wf_keeps (Keeps.ite (settle_keeps (guardedPut_keeps (by assumption))) (by assumption)))))) (statesetSlot_keeps (wb_keeps (wf_keeps (Keeps.ite (settle_keeps (guardedPut_keeps (by assumption))) (by assumption)))))))

theorem carrierStart_keeps {s t : State} {a0} (h : Keeps s t) : Keeps s (carrierStart a0 t) := by
  unfold carrierStart
  exact Keeps.ite (by assumption) ((by split; {assumption}; {exact wb_keeps (mk_keeps (at_keeps (by assumption)) (.refl _))}))

theorem checkFrozen_keeps {s t : State} {a0 a2} (h : Keeps s t) : Keeps s (checkFrozen a0 t a2) := by
  unfold checkFrozen
  exact Keeps.ite (by assumption) ((by split; exact (by split; exact Keeps.ite (by assumption) (Keeps.ite (statesetSlot_keeps (by assumption)) (Keeps.ite (raise_keeps (loopHold_keeps (statesetSlot_keeps (by assumption)))) (statesetSlot_keeps (by assumption)))))))

theorem checkResidual_keeps {s t : State} {a0 a2} (h : Keeps s t) : Keeps s (checkResidual a0 t a2) := by
  unfold checkResidual
  exact Keeps.ite (by assumption) (Keeps.ite (raise_keeps (loopHold_keeps (statesetSlot_keeps (by assumption)))) (statesetSlot_keeps (by assumption)))

theorem countAcc_keeps {s t : State} {a0 a1} (h : Keeps s t) : Keeps s (countAcc a0 a1 t) := by
  unfold countAcc
  exact Keeps.ite (by assumption) (stAdd_keeps (by assumption))

theorem notch_keeps {s t : State} {a0 a1} (h : Keeps s t) : Keeps s (notch a0 a1 t).2 := by
  unfold notch
  exact Keeps.pair (countAcc_keeps (statesetSlot_keeps (by assumption)))

theorem compensate_keeps {s t : State} {a0 a1 a2 a3} (h : Keeps s t) : Keeps s (compensate a0 a1 a2 a3 t).2 := by
  unfold compensate
  exact Keeps.ite2 (by assumption) (Keeps.pair (Keeps.ite2 (notch_keeps (by assumption)) (by assumption)))

theorem convert_keeps {s t : State} {a0} (h : Keeps s t) : Keeps s (convert a0 t) := by
  unfold convert
  exact over_keeps (by assumption) (fun _ => fun _ => fun _ => mk_keeps (Keeps.ite (by assumption) ((by split; exact adcConversion_keeps (Keeps.of_pair (by assumption) (fresh_keeps (by assumption)))))) (.refl _))

theorem loopEnergy_keeps {s t : State} {a1} (h : Keeps s t) : Keeps s (loopEnergy t a1) := by
  unfold loopEnergy
  exact statesetSlot_keeps (Keeps.ite (stw_keeps (by assumption)) (by assumption))

theorem ctlEnd_keeps {s t : State} (h : Keeps s t) : Keeps s (ctlEnd t) := by
  unfold ctlEnd
  exact over_keeps (over_keeps (by assumption) (fun _ => fun _ => fun _ => loopEnergy_keeps (by assumption))) (fun _ => fun _ => fun _ => mk_keeps (Keeps.ite (by assumption) (stw_keeps (by assumption))) (.refl _))

theorem loopStart_keeps {s t : State} {a0} (h : Keeps s t) : Keeps s (loopStart a0 t) := by
  unfold loopStart
  exact setLoop_keeps (wf_keeps (statesetSlot_keeps (over_keeps (by assumption) (fun _ => fun _ => fun _ => wr_keeps (by assumption)))))

theorem ctlTick_keeps {s t : State} {old m} (h : Keeps s t) : Keeps s (ctlTick old m t) := by
  unfold ctlTick
  exact Keeps.ite (by assumption) (stSet_keeps (mk_keeps (over_keeps (by assumption) (fun _ => fun _ => fun _ => statesetSlot_keeps (Keeps.ite (capTrigger_keeps (Keeps.ite (wf_keeps (Keeps.ite (wf_keeps (statesetSlot_keeps (Keeps.ite (loopStart_keeps (by assumption)) (Keeps.ite (setLoop_keeps (injEnd_keeps (by assumption))) (by assumption))))) (Keeps.ite (irqIf_keeps (wf_keeps (Keeps.ite (loopStart_keeps (by assumption)) (Keeps.ite (setLoop_keeps (injEnd_keeps (by assumption))) (by assumption))))) (Keeps.ite (loopStart_keeps (by assumption)) (Keeps.ite (setLoop_keeps (injEnd_keeps (by assumption))) (by assumption)))))) (injEnd_keeps (wf_keeps (Keeps.ite (wf_keeps (statesetSlot_keeps (Keeps.ite (loopStart_keeps (by assumption)) (Keeps.ite (setLoop_keeps (injEnd_keeps (by assumption))) (by assumption))))) (Keeps.ite (irqIf_keeps (wf_keeps (Keeps.ite (loopStart_keeps (by assumption)) (Keeps.ite (setLoop_keeps (injEnd_keeps (by assumption))) (by assumption))))) (Keeps.ite (loopStart_keeps (by assumption)) (Keeps.ite (setLoop_keeps (injEnd_keeps (by assumption))) (by assumption))))))))) (Keeps.ite (wf_keeps (Keeps.ite (wf_keeps (statesetSlot_keeps (Keeps.ite (loopStart_keeps (by assumption)) (Keeps.ite (setLoop_keeps (injEnd_keeps (by assumption))) (by assumption))))) (Keeps.ite (irqIf_keeps (wf_keeps (Keeps.ite (loopStart_keeps (by assumption)) (Keeps.ite (setLoop_keeps (injEnd_keeps (by assumption))) (by assumption))))) (Keeps.ite (loopStart_keeps (by assumption)) (Keeps.ite (setLoop_keeps (injEnd_keeps (by assumption))) (by assumption)))))) (injEnd_keeps (wf_keeps (Keeps.ite (wf_keeps (statesetSlot_keeps (Keeps.ite (loopStart_keeps (by assumption)) (Keeps.ite (setLoop_keeps (injEnd_keeps (by assumption))) (by assumption))))) (Keeps.ite (irqIf_keeps (wf_keeps (Keeps.ite (loopStart_keeps (by assumption)) (Keeps.ite (setLoop_keeps (injEnd_keeps (by assumption))) (by assumption))))) (Keeps.ite (loopStart_keeps (by assumption)) (Keeps.ite (setLoop_keeps (injEnd_keeps (by assumption))) (by assumption))))))))))) (.refl _)))

theorem injFinish_keeps {s t : State} {a0} (h : Keeps s t) : Keeps s (injFinish a0 t) := by
  unfold injFinish
  exact Keeps.ite (injEnd_keeps (by assumption)) (by assumption)

theorem injStep_keeps {s t : State} {a0} (h : Keeps s t) : Keeps s (injStep a0 t) := by
  unfold injStep
  exact Keeps.ite (statesetSlot_keeps (Keeps.ite (capTrigger_keeps (wb_keeps (wr_keeps (statesetSlot_keeps (by assumption))))) (by assumption))) (Keeps.ite (capTrigger_keeps (wb_keeps (wr_keeps (statesetSlot_keeps (by assumption))))) (by assumption))

theorem stepMeasure_keeps {s t : State} {a0 a2} (h : Keeps s t) : Keeps s (stepMeasure a0 t a2) := by
  unfold stepMeasure
  exact wr_keeps (Keeps.ite2 (notch_keeps (by assumption)) (by assumption))

theorem stepRef_keeps {s t : State} {a0 a2} (h : Keeps s t) : Keeps s (stepRef a0 t a2) := by
  unfold stepRef
  exact wr_keeps (statesetSlot_keeps (Keeps.ite (irq_keeps (wb_keeps (by assumption))) (by assumption)))

theorem stepInnov_keeps {s t : State} {a0 a2} (h : Keeps s t) : Keeps s (stepInnov a0 t a2) := by
  unfold stepInnov
  exact wr_keeps (countAcc_keeps (by assumption))

theorem stepCommand_keeps {s : State} {k rc j} {t : Bool × State} (h : Keeps s t.2) : Keeps s (stepCommand k rc t j).2 := by
  unfold stepCommand
  exact Keeps.pair (wr_keeps (Keeps.ite (wb_keeps (compensate_keeps (by assumption))) (compensate_keeps (by assumption))))

theorem stepCommands_keeps {s t : State} {a0} (h : Keeps s t) : Keeps s (stepCommands a0 t).2 := by
  unfold stepCommands
  exact foldl_keeps2 (Keeps.pair (countAcc_keeps (countAcc_keeps (by assumption)))) (fun _ => fun _ => fun _ => stepCommand_keeps (by assumption))

theorem rcLearn_keeps {s t : State} {a0} (h : Keeps s t) : Keeps s (rcLearn a0 t) := by
  unfold rcLearn
  exact Keeps.ite (by assumption) (countAcc_keeps (statesetSlot_keeps (by assumption)))

theorem stepObserve_keeps {s t : State} {a0} (h : Keeps s t) : Keeps s (stepObserve a0 t) := by
  unfold stepObserve
  exact foldl_keeps (by assumption) (fun _ => fun _ => fun _ => wr_keeps (countAcc_keeps (by assumption)))

theorem loopSample_keeps {s t : State} {a0 a1} (h : Keeps s t) : Keeps s (loopSample a0 a1 t) := by
  unfold loopSample
  exact Keeps.ite (by assumption) (Keeps.ite (raise_keeps (irq_keeps (irq_keeps (stAdd_keeps (stAdd_keeps (statesetSlot_keeps (stAdd_keeps (injFinish_keeps (capSample_keeps (over_keeps (over_keeps (stMax_keeps (bookKeep_keeps (rcLearn_keeps (stepObserve_keeps (Keeps.ite (stAdd_keeps (stepCommands_keeps (over_keeps (over_keeps (over_keeps (Keeps.ite (injStep_keeps (statesetSlot_keeps (Keeps.ite (setLoop_keeps (statesetSlot_keeps (statesetSlot_keeps (at_keeps (convert_keeps (by assumption)))))) (statesetSlot_keeps (at_keeps (convert_keeps (by assumption))))))) (statesetSlot_keeps (Keeps.ite (setLoop_keeps (statesetSlot_keeps (statesetSlot_keeps (at_keeps (convert_keeps (by assumption)))))) (statesetSlot_keeps (at_keeps (convert_keeps (by assumption))))))) (fun _ => fun _ => fun _ => stepMeasure_keeps (by assumption))) (fun _ => fun _ => fun _ => stepRef_keeps (by assumption))) (fun _ => fun _ => fun _ => stepInnov_keeps (by assumption))))) (stepCommands_keeps (over_keeps (over_keeps (over_keeps (Keeps.ite (injStep_keeps (statesetSlot_keeps (Keeps.ite (setLoop_keeps (statesetSlot_keeps (statesetSlot_keeps (at_keeps (convert_keeps (by assumption)))))) (statesetSlot_keeps (at_keeps (convert_keeps (by assumption))))))) (statesetSlot_keeps (Keeps.ite (setLoop_keeps (statesetSlot_keeps (statesetSlot_keeps (at_keeps (convert_keeps (by assumption)))))) (statesetSlot_keeps (at_keeps (convert_keeps (by assumption))))))) (fun _ => fun _ => fun _ => stepMeasure_keeps (by assumption))) (fun _ => fun _ => fun _ => stepRef_keeps (by assumption))) (fun _ => fun _ => fun _ => stepInnov_keeps (by assumption))))))))) (fun _ => fun _ => fun _ => checkResidual_keeps (by assumption))) (fun _ => fun _ => fun _ => checkFrozen_keeps (by assumption)))))))))))) (statesetSlot_keeps (stAdd_keeps (injFinish_keeps (capSample_keeps (over_keeps (over_keeps (stMax_keeps (bookKeep_keeps (rcLearn_keeps (stepObserve_keeps (Keeps.ite (stAdd_keeps (stepCommands_keeps (over_keeps (over_keeps (over_keeps (Keeps.ite (injStep_keeps (statesetSlot_keeps (Keeps.ite (setLoop_keeps (statesetSlot_keeps (statesetSlot_keeps (at_keeps (convert_keeps (by assumption)))))) (statesetSlot_keeps (at_keeps (convert_keeps (by assumption))))))) (statesetSlot_keeps (Keeps.ite (setLoop_keeps (statesetSlot_keeps (statesetSlot_keeps (at_keeps (convert_keeps (by assumption)))))) (statesetSlot_keeps (at_keeps (convert_keeps (by assumption))))))) (fun _ => fun _ => fun _ => stepMeasure_keeps (by assumption))) (fun _ => fun _ => fun _ => stepRef_keeps (by assumption))) (fun _ => fun _ => fun _ => stepInnov_keeps (by assumption))))) (stepCommands_keeps (over_keeps (over_keeps (over_keeps (Keeps.ite (injStep_keeps (statesetSlot_keeps (Keeps.ite (setLoop_keeps (statesetSlot_keeps (statesetSlot_keeps (at_keeps (convert_keeps (by assumption)))))) (statesetSlot_keeps (at_keeps (convert_keeps (by assumption))))))) (statesetSlot_keeps (Keeps.ite (setLoop_keeps (statesetSlot_keeps (statesetSlot_keeps (at_keeps (convert_keeps (by assumption)))))) (statesetSlot_keeps (at_keeps (convert_keeps (by assumption))))))) (fun _ => fun _ => fun _ => stepMeasure_keeps (by assumption))) (fun _ => fun _ => fun _ => stepRef_keeps (by assumption))) (fun _ => fun _ => fun _ => stepInnov_keeps (by assumption))))))))) (fun _ => fun _ => fun _ => checkResidual_keeps (by assumption))) (fun _ => fun _ => fun _ => checkFrozen_keeps (by assumption))))))))

end Sys2Proof.Machine
end

