-- ==== Sys2Proof/Laws/Keeps04.lean ====
section
/-! SUPPORT. Every operation of Pattern, Link, ScanOut keeps what `Keeps` says. -/

namespace Sys2Proof.Machine

theorem setPat_keeps {s t : State} {a1} (h : Keeps s t) : Keeps s (State.setPat t a1) := by
  unfold State.setPat
  exact mk_keeps (by assumption) (.refl _)

theorem setSeq_keeps {s t : State} {a1 a2} (h : Keeps s t) : Keeps s (State.setSeq t a1 a2) := by
  unfold State.setSeq
  exact setPat_keeps (by assumption)

theorem patCtrl_keeps {s t : State} {a0 a1} (h : Keeps s t) : Keeps s (patCtrl a0 a1 t) := by
  unfold patCtrl
  exact Keeps.ite (setPat_keeps (by assumption)) (by assumption)

theorem progAdvance_keeps {s t : State} (h : Keeps s t) : Keeps s (progAdvance t) := by
  unfold progAdvance
  exact wf_keeps (by assumption)

theorem progWrite_keeps {s t : State} {a0 a1} (h : Keeps s t) : Keeps s (progWrite a0 a1 t) := by
  unfold progWrite
  exact Keeps.ite (progAdvance_keeps (setPat_keeps (wr_keeps (by assumption)))) (raise_keeps (progAdvance_keeps (wr_keeps (by assumption))))

theorem kAdvance_keeps {s t : State} (h : Keeps s t) : Keeps s (kAdvance t) := by
  unfold kAdvance
  exact wf_keeps (by assumption)

theorem kWrite_keeps {s t : State} {a0 a1} (h : Keeps s t) : Keeps s (kWrite a0 a1 t) := by
  unfold kWrite
  exact kAdvance_keeps (setPat_keeps (shw_keeps (by assumption)))

theorem progRead_keeps {s t : State} (h : Keeps s t) : Keeps s (progRead t) := by
  unfold progRead
  exact progAdvance_keeps (busData_keeps (by assumption))

theorem kRead_keeps {s t : State} (h : Keeps s t) : Keeps s (kRead t) := by
  unfold kRead
  exact kAdvance_keeps (busData_keeps (by assumption))

theorem patSample_keeps {s t : State} (h : Keeps s t) : Keeps s (patSample t) := by
  unfold patSample
  exact Keeps.ite (setPat_keeps (by assumption)) (by assumption)

theorem setRemain_keeps {s t : State} {a0 a1} (h : Keeps s t) : Keeps s (setRemain a0 a1 t) := by
  unfold setRemain
  exact wf_keeps (by assumption)

theorem setSeqState_keeps {s t : State} {a0 a1} (h : Keeps s t) : Keeps s (setSeqState a0 a1 t) := by
  unfold setSeqState
  exact wf_keeps (by assumption)

theorem opEnd_keeps {s t : State} {a0} (h : Keeps s t) : Keeps s (opEnd a0 t) := by
  unfold opEnd
  exact irq_keeps (setRemain_keeps (setSeqState_keeps (by assumption)))

theorem setPc_keeps {s t : State} {a0 a1} (h : Keeps s t) : Keeps s (setPc a0 a1 t) := by
  unfold setPc
  exact wf_keeps (by assumption)

theorem nextPc_keeps {s t : State} {a0} (h : Keeps s t) : Keeps s (nextPc a0 t) := by
  unfold nextPc
  exact setPc_keeps (by assumption)

theorem opSet_keeps {s t : State} {a0 a1 a2} (h : Keeps s t) : Keeps s (opSet a0 a1 a2 t) := by
  unfold opSet
  exact nextPc_keeps (wr_keeps (by assumption))

theorem setV_keeps {s t : State} {a0 a1 a2} (h : Keeps s t) : Keeps s (setV a0 a1 a2 t) := by
  unfold setV
  exact wr_keeps (by assumption)

theorem opAdd_keeps {s t : State} {a0 a1 a2} (h : Keeps s t) : Keeps s (opAdd a0 a1 a2 t) := by
  unfold opAdd
  exact nextPc_keeps (setV_keeps (by assumption))

theorem seqError_keeps {s t : State} {a0 a1} (h : Keeps s t) : Keeps s (seqError a0 a1 t) := by
  unfold seqError
  exact raise_keeps (irq_keeps (setRemain_keeps (setSeqState_keeps (wf_keeps (by assumption)))))

theorem rampTick_keeps {s t : State} {a0 a1} (h : Keeps s t) : Keeps s (rampTick a0 a1 t) := by
  unfold rampTick
  exact setRemain_keeps (setSeq_keeps (setV_keeps (by assumption)))

theorem opRamp_keeps {s t : State} {a0 a1 a2 a3} (h : Keeps s t) : Keeps s (opRamp a0 a1 a2 a3 t) := by
  unfold opRamp
  exact Keeps.ite (seqError_keeps (by assumption)) (rampTick_keeps (nextPc_keeps (setSeqState_keeps (by assumption))))

theorem opHold_keeps {s t : State} {a0 a1} (h : Keeps s t) : Keeps s (opHold a0 a1 t) := by
  unfold opHold
  exact Keeps.ite (seqError_keeps (by assumption)) (setRemain_keeps (setSeq_keeps (nextPc_keeps (setSeqState_keeps (by assumption)))))

theorem setCount_keeps {s t : State} {a0 a1 a2} (h : Keeps s t) : Keeps s (setCount a0 a1 a2 t) := by
  unfold setCount
  exact setSeq_keeps (by assumption)

theorem opLoop_keeps {s t : State} {a0 a1 a2 a3} (h : Keeps s t) : Keeps s (opLoop a0 a1 a2 a3 t) := by
  unfold opLoop
  exact Keeps.ite (setPc_keeps (setCount_keeps (by assumption))) (nextPc_keeps (setCount_keeps (by assumption)))

theorem opWaitTick_keeps {s t : State} {a0 a1} (h : Keeps s t) : Keeps s (opWaitTick a0 a1 t).2 := by
  unfold opWaitTick
  exact Keeps.ite2 (Keeps.pair (seqError_keeps (by assumption))) (Keeps.ite2 (Keeps.pair (nextPc_keeps (setSeqState_keeps (by assumption)))) (Keeps.pair (setSeqState_keeps (by assumption))))

theorem opSync_keeps {s t : State} {a0 a1} (h : Keeps s t) : Keeps s (opSync a0 a1 t).2 := by
  unfold opSync
  exact Keeps.ite2 (Keeps.pair (seqError_keeps (by assumption))) (Keeps.ite2 (Keeps.pair (nextPc_keeps (setSeqState_keeps (by assumption)))) (Keeps.pair (setSeqState_keeps (by assumption))))

theorem opBranch_keeps {s t : State} {a0 a1 a2 a3} (h : Keeps s t) : Keeps s (opBranch a0 a1 a2 a3 t) := by
  unfold opBranch
  exact Keeps.ite (setPc_keeps (by assumption)) (nextPc_keeps (by assumption))

theorem execWord_keeps {s t : State} {q w} (h : Keeps s t) : Keeps s (execWord q w t).2 := by
  unfold execWord
  extract_lets
  generalize bitsOf w 31 28 = n
  split
  · exact opEnd_keeps h
  · exact opSet_keeps h
  · exact opAdd_keeps h
  · exact opRamp_keeps h
  · exact opHold_keeps h
  · exact opLoop_keeps h
  · exact opWaitTick_keeps h
  · exact opSync_keeps h
  · exact opBranch_keeps h
  · exact seqError_keeps h

theorem startSeq_keeps {s t : State} {a0} (h : Keeps s t) : Keeps s (startSeq a0 t) := by
  unfold startSeq
  exact setSeq_keeps (wr_keeps (over_keeps (by assumption) (fun _ => fun _ => fun _ => setV_keeps (by assumption))))

theorem runSeq_keeps {s t : State} {q n} (h : Keeps s t) : Keeps s (runSeq q n t) := by
  induction n generalizing t with
  | zero => exact seqError_keeps h
  | succ n ih =>
    rw [runSeq]
    exact Keeps.ite (execWord_keeps h) (ih (execWord_keeps h))

theorem stepSeq_keeps {s t : State} {a0} (h : Keeps s t) : Keeps s (stepSeq a0 t) := by
  unfold stepSeq
  extract_lets +onlyGivenNames -merge -useContext x; clear_value x; exact (by split; {exact rampTick_keeps (by assumption)}; {exact Keeps.ite (setRemain_keeps (setSeq_keeps (by assumption))) (runSeq_keeps (setSeqState_keeps (by assumption)))})

theorem patOutput_keeps {s t : State} {a0 a2} (h : Keeps s t) : Keeps s (patOutput a0 t a2) := by
  unfold patOutput
  extract_lets +onlyGivenNames -merge -useContext x; clear_value x; exact (by split; {exact wf_keeps (stAdd_keeps (by assumption))}; {exact wr_keeps (stAdd_keeps (by assumption))}; {exact wr_keeps (stAdd_keeps (by assumption))}; {exact wf_keeps (stAdd_keeps (by assumption))}; {exact wf_keeps (stAdd_keeps (by assumption))}; {exact stAdd_keeps (by assumption)})

theorem seqAtTick_keeps {s t : State} {a1} (h : Keeps s t) : Keeps s (seqAtTick t a1) := by
  unfold seqAtTick
  exact Keeps.ite (setSeq_keeps (Keeps.ite (setSeq_keeps (setRemain_keeps (setSeqState_keeps (by assumption)))) (Keeps.ite (startSeq_keeps (by assumption)) (by assumption)))) (Keeps.ite (stepSeq_keeps (setSeq_keeps (Keeps.ite (setSeq_keeps (setRemain_keeps (setSeqState_keeps (by assumption)))) (Keeps.ite (startSeq_keeps (by assumption)) (by assumption))))) (over_keeps (stepSeq_keeps (setSeq_keeps (Keeps.ite (setSeq_keeps (setRemain_keeps (setSeqState_keeps (by assumption)))) (Keeps.ite (startSeq_keeps (by assumption)) (by assumption))))) (fun _ => fun _ => fun _ => patOutput_keeps (by assumption))))

theorem patTick_keeps {s t : State} (h : Keeps s t) : Keeps s (patTick t) := by
  unfold patTick
  exact Keeps.ite (by assumption) (stSet_keeps (setPat_keeps (over_keeps (by assumption) (fun _ => fun _ => fun _ => seqAtTick_keeps (by assumption)))))

theorem seqExec_keeps {s t : State} {a0 a1} (h : Keeps s t) (h1 : ∀  u, Keeps s u → Keeps s (a1 u)) : Keeps s (seqExec a0 a1 t) := by
  unfold seqExec
  exact Keeps.ite (h1 _ (by assumption)) (by assumption)

theorem ackFor_keeps {s t : State} {a0 a1 a2 a3} (h : Keeps s t) : Keeps s (ackFor a0 a1 a2 a3 t) := by
  unfold ackFor
  exact Keeps.ite (irq_keeps (wf_keeps (wf_keeps (wr_keeps (Keeps.ite (tileTakes_keeps (setTile_keeps (by assumption))) (setTile_keeps (by assumption))))))) (Keeps.ite (seqChecked_keeps (Keeps.ite (tileTakes_keeps (setTile_keeps (by assumption))) (setTile_keeps (by assumption)))) (Keeps.ite (drvAcked_keeps (Keeps.ite (tileTakes_keeps (setTile_keeps (by assumption))) (setTile_keeps (by assumption)))) (Keeps.ite (tileTakes_keeps (setTile_keeps (by assumption))) (setTile_keeps (by assumption)))))

theorem received_keeps {s t : State} {a0 a1 a2 a3 a4} (h : Keeps s t) (h4 : ∀ x0 u, Keeps s u → Keeps s (a4 x0 u)) : Keeps s (received a0 a1 a2 a3 a4 t) := by
  unfold received
  with_reducible apply Keeps.ite; {assumption}; {split; {exact stAdd_keeps (by assumption)}; {extract_lets +onlyGivenNames -merge -useContext x; clear_value x; with_reducible apply Keeps.ite; {exact stAdd_keeps (by assumption)}; {extract_lets +onlyGivenNames -merge -useContext x; clear_value x; extract_lets +onlyGivenNames -merge -useContext x; have : Keeps s x := Keeps.ite (stAdd_keeps (by assumption)) (by assumption); clear_value x; extract_lets +onlyGivenNames -merge -useContext x; have : Keeps s x := wf_keeps (stAdd_keeps (by assumption)); clear_value x; exact raiseIf_keeps (h4 _ _ (setTile_keeps (by assumption)))}}}

theorem ackPacket_keeps {s t : State} {a0 a1 a2} (h : Keeps s t) : Keeps s (ackPacket a0 a1 a2 t) := by
  unfold ackPacket
  exact received_keeps (by assumption) (fun _ => fun _ => fun _ => (by split; {assumption}; {exact Keeps.ite (ackFor_keeps (by assumption)) (by assumption)}))

theorem ctrlOut_keeps {s t : State} {a0 a1} (h : Keeps s t) : Keeps s (ctrlOut a0 a1 t) := by
  unfold ctrlOut
  exact setTile_keeps (sendPacket_keeps (Keeps.ite (wf_keeps (by assumption)) (by assumption)))

theorem ackTimeout_keeps {s t : State} {a0} (h : Keeps s t) : Keeps s (ackTimeout a0 t) := by
  unfold ackTimeout
  exact (by split; {assumption}; {exact Keeps.ite (Keeps.ite (ctrlOut_keeps (stAdd_keeps (at_keeps (by assumption)))) (at_keeps (by assumption))) (raise_keeps (irq_keeps (Keeps.ite (seqChecked_keeps (Keeps.ite (wf_keeps (stAdd_keeps (setTile_keeps (at_keeps (by assumption))))) (stAdd_keeps (setTile_keeps (at_keeps (by assumption)))))) (Keeps.ite (wf_keeps (stAdd_keeps (setTile_keeps (at_keeps (by assumption))))) (stAdd_keeps (setTile_keeps (at_keeps (by assumption))))))))})

theorem trainFrom1_keeps {s t : State} {a0} (h : Keeps s t) : Keeps s (trainFrom1 a0 t) := by
  unfold trainFrom1
  exact setLstate_keeps (wf_keeps (setTile_keeps (leaveUp_keeps (by assumption))))

theorem retrain3_keeps {s t : State} {a0} (h : Keeps s t) : Keeps s (retrain3 a0 t) := by
  unfold retrain3
  exact setLstate_keeps (wf_keeps (setTile_keeps (leaveUp_keeps (by assumption))))

theorem splCtrl_keeps {s t : State} {a0 a1 a2} (h : Keeps s t) : Keeps s (splCtrl a0 a1 a2 t) := by
  unfold splCtrl
  exact Keeps.ite (Keeps.ite (trainFrom1_keeps (by assumption)) (Keeps.ite (setTile_keeps (setLstate_keeps (leaveUp_keeps (by assumption)))) (by assumption))) (Keeps.ite (raise_keeps (irq_keeps (retrain3_keeps (Keeps.ite (trainFrom1_keeps (by assumption)) (Keeps.ite (setTile_keeps (setLstate_keeps (leaveUp_keeps (by assumption)))) (by assumption)))))) (Keeps.ite (trainFrom1_keeps (Keeps.ite (trainFrom1_keeps (by assumption)) (Keeps.ite (setTile_keeps (setLstate_keeps (leaveUp_keeps (by assumption)))) (by assumption)))) (Keeps.ite (trainFrom1_keeps (by assumption)) (Keeps.ite (setTile_keeps (setLstate_keeps (leaveUp_keeps (by assumption)))) (by assumption)))))

theorem splCtrlCmd_keeps {s t : State} {a0 a1 a2} (h : Keeps s t) : Keeps s (splCtrlCmd a0 a1 a2 t) := by
  unfold splCtrlCmd
  exact Keeps.ite (by assumption) (setTile_keeps (wr_keeps (by assumption)))

theorem cvClear_keeps {s t : State} {a0 a1 a2 a3} (h : Keeps s t) : Keeps s (cvClear a0 a1 a2 a3 t) := by
  unfold cvClear
  exact wr_keeps (by assumption)

theorem ctrlSend_keeps {s t : State} {a0} (h : Keeps s t) : Keeps s (ctrlSend a0 t) := by
  unfold ctrlSend
  exact (by split; {assumption}; {exact Keeps.ite (by assumption) (ctrlOut_keeps (setTile_keeps (stAdd_keeps (wf_keeps (by assumption)))))})

theorem deliver_keeps {s t : State} {a0 a1 a3} (h : Keeps s t) : Keeps s (deliver a0 a1 t a3) := by
  unfold deliver
  exact (by split; {exact Keeps.ite (by assumption) (over_keeps (by assumption) (fun _ => fun _ => fun _ => over_keeps (by assumption) (fun _ => fun _ => fun _ => notePixel_keeps (by assumption))))}; {exact Keeps.ite (by assumption) (over_keeps (by assumption) (fun _ => fun _ => fun _ => Keeps.ite (defReport_keeps (Keeps.ite (by assumption) (notePixel_keeps (by assumption)))) (Keeps.ite (by assumption) (notePixel_keeps (by assumption)))))}; {exact noteVf_keeps (by assumption)}; {exact noteTemp_keeps (by assumption)}; {exact raise_keeps (irq_keeps (by assumption))}; {assumption})

theorem ringPut_keeps {s t : State} {a0 a1} (h : Keeps s t) : Keeps s (ringPut a0 a1 t) := by
  unfold ringPut
  exact Keeps.ite (by assumption) (Keeps.ite (irq_keeps (stAdd_keeps (by assumption))) (irq_keeps (stAdd_keeps (wr_keeps (over_keeps (by assumption) (fun _ => fun _ => fun _ => engineWrite_keeps (by assumption)))))))

theorem diagReport_keeps {s t : State} {a0 a1 a2} (h : Keeps s t) : Keeps s (diagReport a0 a1 a2 t) := by
  unfold diagReport
  exact raiseIf_keeps (verifyFrame_keeps (over_keeps (ringPut_keeps (Keeps.ite (irq_keeps (stAdd_keeps (stAdd_keeps (by assumption)))) (stAdd_keeps (by assumption)))) (fun _ => fun _ => fun _ => deliver_keeps (by assumption))))

theorem diagPacket_keeps {s t : State} {a0 a1 a2} (h : Keeps s t) : Keeps s (diagPacket a0 a1 a2 t) := by
  unfold diagPacket
  exact received_keeps (by assumption) (fun _ => fun _ => fun _ => diagReport_keeps (by assumption))

theorem hashCheck_keeps {s t : State} {a0} (h : Keeps s t) : Keeps s (hashCheck a0 t) := by
  unfold hashCheck
  exact raiseIf_keeps (by assumption)

theorem linkComesUp_keeps {s t : State} {a0} (h : Keeps s t) : Keeps s (linkComesUp a0 t) := by
  unfold linkComesUp
  exact hashCheck_keeps (raiseIf_keeps (Keeps.ite (raise_keeps (irq_keeps (wb_keeps (probeSetup_keeps (irq_keeps (setTile_keeps (Keeps.ite (seqSend_keeps (setLstate_keeps (by assumption))) (setLstate_keeps (by assumption))))))))) (wb_keeps (probeSetup_keeps (irq_keeps (setTile_keeps (Keeps.ite (seqSend_keeps (setLstate_keeps (by assumption))) (setLstate_keeps (by assumption)))))))))

theorem keepRecord_keeps {s t : State} {a0 a1} (h : Keeps s t) : Keeps s (keepRecord a0 a1 t) := by
  unfold keepRecord
  exact wb_keeps (setTile_keeps (wr_keeps (over_keeps (by assumption) (fun _ => fun _ => fun _ => wr_keeps (by assumption)))))

theorem trainFailed_keeps {s t : State} {a0} (h : Keeps s t) : Keeps s (trainFailed a0 t) := by
  unfold trainFailed
  exact raise_keeps (irq_keeps (setTile_keeps (setLstate_keeps (leaveUp_keeps (by assumption)))))

theorem enumPacket_keeps {s t : State} {a0 a1 a2} (h : Keeps s t) : Keeps s (enumPacket a0 a1 a2 t) := by
  unfold enumPacket
  exact Keeps.ite ((by split; {assumption}; {exact Keeps.ite (linkComesUp_keeps (keepRecord_keeps (setTile_keeps (wf_keeps (stAdd_keeps (by assumption)))))) (trainFailed_keeps (setTile_keeps (wf_keeps (stAdd_keeps (by assumption)))))})) (received_keeps (by assumption) (fun _ => fun _ => fun _ => Keeps.ite (hashCheck_keeps (keepRecord_keeps (by assumption))) (trainFailed_keeps (by assumption))))

theorem loseLink_keeps {s t : State} {a0} (h : Keeps s t) : Keeps s (loseLink a0 t) := by
  unfold loseLink
  exact Keeps.ite (by assumption) (raise_keeps (irq_keeps (Keeps.ite (retrain3_keeps (by assumption)) (setTile_keeps (setLstate_keeps (leaveUp_keeps (by assumption)))))))

theorem fstatMissing_keeps {s t : State} {a0} (h : Keeps s t) : Keeps s (fstatMissing a0 t) := by
  unfold fstatMissing
  exact Keeps.ite (loseLink_keeps (by assumption)) (by assumption)

theorem fstatReport_keeps {s t : State} {a0 a1} (h : Keeps s t) : Keeps s (fstatReport a0 a1 t) := by
  unfold fstatReport
  exact Keeps.ite (loseLink_keeps (raiseIf_keeps (Keeps.ite (raise_keeps (irq_keeps (stAdd_keeps (stAdd_keeps (over_keeps (setTile_keeps (by assumption)) (fun _ => fun _ => fun _ => wr_keeps (stAdd_keeps (by assumption)))))))) (stAdd_keeps (stAdd_keeps (over_keeps (setTile_keeps (by assumption)) (fun _ => fun _ => fun _ => wr_keeps (stAdd_keeps (by assumption))))))))) (raiseIf_keeps (Keeps.ite (raise_keeps (irq_keeps (stAdd_keeps (stAdd_keeps (over_keeps (setTile_keeps (by assumption)) (fun _ => fun _ => fun _ => wr_keeps (stAdd_keeps (by assumption)))))))) (stAdd_keeps (stAdd_keeps (over_keeps (setTile_keeps (by assumption)) (fun _ => fun _ => fun _ => wr_keeps (stAdd_keeps (by assumption))))))))

theorem fstatPacket_keeps {s t : State} {a0 a1 a2} (h : Keeps s t) : Keeps s (fstatPacket a0 a1 a2 t) := by
  unfold fstatPacket
  exact received_keeps (by assumption) (fun _ => fun _ => fun _ => fstatReport_keeps (by assumption))

theorem linkRestart_keeps {s t : State} {a0} (h : Keeps s t) : Keeps s (linkRestart a0 t) := by
  unfold linkRestart
  exact Keeps.ite (trainFrom1_keeps (at_keeps (by assumption))) (by assumption)

theorem sendSets_keeps {s t : State} {a0 a1} (h : Keeps s t) : Keeps s (sendSets a0 a1 t) := by
  unfold sendSets
  exact setTile_keeps (by assumption)

theorem rateSets_keeps {s t : State} {a0} (h : Keeps s t) : Keeps s (rateSets a0 t) := by
  unfold rateSets
  exact sendSets_keeps (by assumption)

theorem resetRelease_keeps {s t : State} {a0} (h : Keeps s t) : Keeps s (resetRelease a0 t) := by
  unfold resetRelease
  exact Keeps.ite (setLstate_keeps (setTile_keeps (by assumption))) (by assumption)

theorem retrainTimeout_keeps {s t : State} {a0} (h : Keeps s t) : Keeps s (retrainTimeout a0 t) := by
  unfold retrainTimeout
  exact Keeps.ite (trainFrom1_keeps (at_keeps (by assumption))) (by assumption)

theorem returnErrors_keeps {s t : State} {a0 a1} (h : Keeps s t) : Keeps s (returnErrors a0 a1 t) := by
  unfold returnErrors
  exact Keeps.ite (by assumption) (Keeps.ite (loseLink_keeps (wr_keeps (stAdd_keeps (by assumption)))) (wr_keeps (stAdd_keeps (by assumption))))

theorem trainStep_keeps {s t : State} {a0 a1 a2} (h : Keeps s t) : Keeps s (trainStep a0 a1 a2 t) := by
  unfold trainStep
  exact Keeps.ite (by assumption) (Keeps.ite (Keeps.ite (trainFailed_keeps (by assumption)) (rateSets_keeps (setLstate_keeps (wf_keeps (wf_keeps (setTile_keeps (by assumption))))))) (Keeps.ite (sendSets_keeps (setLstate_keeps (by assumption))) (by assumption)))

theorem trainTimeout_keeps {s t : State} {a0} (h : Keeps s t) : Keeps s (trainTimeout a0 t) := by
  unfold trainTimeout
  exact Keeps.ite (trainFailed_keeps (by assumption)) (Keeps.ite (Keeps.ite (rateSets_keeps (wf_keeps (by assumption))) (Keeps.ite (sendSets_keeps (setLstate_keeps (setTile_keeps (by assumption)))) (trainFailed_keeps (by assumption)))) (by assumption))

theorem ts1Lock_keeps {s t : State} {a0 a1} (h : Keeps s t) : Keeps s (ts1Lock a0 a1 t) := by
  unfold ts1Lock
  exact Keeps.ite (sendSets_keeps (setLstate_keeps (by assumption))) (by assumption)

theorem scnCtrl_keeps {s t : State} {a0 a1} (h : Keeps s t) : Keeps s (scnCtrl a0 a1 t) := by
  unfold scnCtrl
  exact over_keeps (by assumption) (fun _ => fun _ => fun _ => Keeps.ite (wb_keeps (setTile_keeps (by assumption))) (by assumption))

theorem rectDecide_keeps {s t : State} {a0 a1 a2 a3} (h : Keeps s t) : Keeps s (rectDecide a0 a1 a2 a3 t) := by
  unfold rectDecide
  exact Keeps.ite (fnRect_keeps (raise_keeps (irq_keeps (Keeps.ite (raise_keeps (irq_keeps (setTile_keeps (wr_keeps (by assumption))))) (setTile_keeps (wr_keeps (by assumption))))))) (Keeps.ite (raise_keeps (irq_keeps (Keeps.ite (raise_keeps (irq_keeps (setTile_keeps (wr_keeps (by assumption))))) (setTile_keeps (wr_keeps (by assumption)))))) (Keeps.ite (raise_keeps (irq_keeps (setTile_keeps (wr_keeps (by assumption))))) (setTile_keeps (wr_keeps (by assumption)))))

theorem divTag_keeps {s t : State} {a0 a1 a2 a3} (h : Keeps s t) : Keeps s (divTag a0 a1 a2 a3 t) := by
  unfold divTag
  exact Keeps.ite (Keeps.ite (rectDecide_keeps (setTile_keeps (by assumption))) (setTile_keeps (by assumption))) (Keeps.ite (rectDecide_keeps (setTile_keeps (by assumption))) (by assumption))

theorem rectBegin_keeps {s t : State} {a1} (h : Keeps s t) : Keeps s (rectBegin t a1) := by
  unfold rectBegin
  exact setTile_keeps (by assumption)

theorem fbStart_keeps {s t : State} {a0} (h : Keeps s t) : Keeps s (fbStart a0 t) := by
  unfold fbStart
  exact setTile_keeps (by assumption)

theorem showFb_keeps {s t : State} (h : Keeps s t) : Keeps s (showFb t) := by
  unfold showFb
  exact wb_keeps (wr_keeps (by assumption))

theorem fbCheck_keeps {s t : State} {a1} (h : Keeps s t) : Keeps s (fbCheck t a1) := by
  unfold fbCheck
  exact Keeps.ite (showFb_keeps (fbStart_keeps (by assumption))) (by assumption)

theorem beginTile_keeps {s t : State} {a0 a2} (h : Keeps s t) : Keeps s (beginTile a0 t a2) := by
  unfold beginTile
  exact Keeps.ite (fbStart_keeps (wb_keeps (setTile_keeps (rectBegin_keeps (by assumption))))) (fbCheck_keeps (wb_keeps (setTile_keeps (rectBegin_keeps (by assumption)))))

theorem fbSend_keeps {s t : State} {a b n} (h : Keeps s t) : Keeps s (fbSend a b n t) := by
  induction n generalizing t with
  | zero => exact h
  | succ n ih =>
    rw [fbSend]
    refine Keeps.ite h (Keeps.ite h (ih (stAdd_keeps (setTile_keeps (over_keeps h fun _ _ h => sendPacket_keeps h)))))

theorem scanBegin_keeps {s t : State} {a0} (h : Keeps s t) : Keeps s (scanBegin a0 t) := by
  unfold scanBegin
  exact showFb_keeps (over_keeps (over_keeps (over_keeps (by assumption) (fun _ => fun _ => fun _ => beginTile_keeps (by assumption))) (fun _ => fun _ => fun _ => seqTick_keeps (by assumption))) (fun _ => fun _ => fun _ => fbSend_keeps (by assumption)))

theorem showSource_keeps {s t : State} (h : Keeps s t) : Keeps s (showSource t) := by
  unfold showSource
  exact Keeps.ite (by assumption) (irq_keeps (wf_keeps (by assumption)))

theorem edgeValid_keeps {s t : State} {a0 a1} (h : Keeps s t) : Keeps s (edgeValid a0 a1 t) := by
  unfold edgeValid
  exact showSource_keeps (mk_keeps (by assumption) (.refl _))

theorem fbChecks_keeps {s t : State} (h : Keeps s t) : Keeps s (fbChecks t) := by
  unfold fbChecks
  exact Keeps.ite (over_keeps (by assumption) (fun _ => fun _ => fun _ => fbCheck_keeps (by assumption))) (by assumption)

theorem fbLoaded_keeps {s t : State} {a0 a1 a2} (h : Keeps s t) : Keeps s (fbLoaded a0 a1 a2 t) := by
  unfold fbLoaded
  exact fbSend_keeps (setTile_keeps (by assumption))

theorem fbLoadDone_keeps {s t : State} {a} (h : Keeps s t) : Keeps s (fbLoadDone a t) := by
  unfold fbLoadDone
  extract_lets x place bad u v
  have hu : Keeps s u := by
    unfold u
    clear v u
    generalize bad = o
    cases o with
    | none => exact h
    | some w => exact ueEvent_keeps (fresh_keeps h)
  have hv : Keeps s v := setTile_keeps hu
  clear_value v u
  with_reducible apply Keeps.ite h
  with_reducible apply Keeps.ite (fbLoaded_keeps h)
  split
  · exact fbLoaded_keeps hu
  · exact showFb_keeps (Keeps.ite (raise_keeps (irq_keeps hv)) hv)

theorem fbRefresh_keeps {s t : State} {a0} (h : Keeps s t) : Keeps s (fbRefresh a0 t) := by
  unfold fbRefresh
  exact Keeps.ite (showFb_keeps (fbStart_keeps (by assumption))) (by assumption)

theorem rectEnd_keeps {s t : State} {a1} (h : Keeps s t) : Keeps s (rectEnd t a1) := by
  unfold rectEnd
  exact stw_keeps (stw_keeps (stw_keeps (stw_keeps (over_keeps (over_keeps (by assumption) (fun _ => fun _ => fun _ => Keeps.ite (by assumption) (Keeps.ite (Keeps.ite (rectDecide_keeps (setTile_keeps (by assumption))) (by assumption)) (Keeps.ite (rectDecide_keeps (setTile_keeps (by assumption))) (by assumption))))) (fun _ => fun _ => fun _ => Keeps.ite (rectDecide_keeps (setTile_keeps (by assumption))) (by assumption))))))

theorem scanEnd_keeps {s t : State} (h : Keeps s t) : Keeps s (scanEnd t) := by
  unfold scanEnd
  exact Keeps.ite (wr_keeps (Keeps.ite (noteFbFrame_keeps (over_keeps (by assumption) (fun _ => fun _ => fun _ => rectEnd_keeps (lightProbe_keeps (Keeps.ite (setTile_keeps (Keeps.ite (swapSettings_keeps (by assumption)) (by assumption))) (Keeps.ite (swapSettings_keeps (by assumption)) (by assumption))))))) (over_keeps (by assumption) (fun _ => fun _ => fun _ => rectEnd_keeps (lightProbe_keeps (Keeps.ite (setTile_keeps (Keeps.ite (swapSettings_keeps (by assumption)) (by assumption))) (Keeps.ite (swapSettings_keeps (by assumption)) (by assumption)))))))) (Keeps.ite (noteFbFrame_keeps (over_keeps (by assumption) (fun _ => fun _ => fun _ => rectEnd_keeps (lightProbe_keeps (Keeps.ite (setTile_keeps (Keeps.ite (swapSettings_keeps (by assumption)) (by assumption))) (Keeps.ite (swapSettings_keeps (by assumption)) (by assumption))))))) (over_keeps (by assumption) (fun _ => fun _ => fun _ => rectEnd_keeps (lightProbe_keeps (Keeps.ite (setTile_keeps (Keeps.ite (swapSettings_keeps (by assumption)) (by assumption))) (Keeps.ite (swapSettings_keeps (by assumption)) (by assumption)))))))

theorem syncTick_keeps {s t : State} (h : Keeps s t) : Keeps s (syncTick t) := by
  unfold syncTick
  exact showSource_keeps (Keeps.ite (mk_keeps (by assumption) (.refl _)) (by assumption))

theorem rectDone_keeps {s t : State} {a0 a2} (h : Keeps s t) : Keeps s (rectDone a0 t a2) := by
  unfold rectDone
  exact Keeps.ite ((by split; {exact Keeps.ite (rectDecide_keeps (setTile_keeps (setTile_keeps (wr_keeps (by assumption))))) (setTile_keeps (wr_keeps (by assumption)))}; {exact setTile_keeps (wr_keeps (by assumption))})) (rectDecide_keeps (setTile_keeps (setTile_keeps (wr_keeps (by assumption)))))

theorem putLine_keeps {s t : State} {a0 a1 a2 a3 a4} (h : Keeps s t) : Keeps s (putLine a0 a1 a2 a3 a4 t) := by
  unfold putLine
  exact Keeps.ite (stw_keeps (over_keeps (Keeps.ite (raise_keeps (irq_keeps (Keeps.ite (stAdd_keeps (stAdd_keeps (setTile_keeps (over_keeps (by assumption) (fun _ => fun _ => fun _ => sendPacket_keeps (by assumption)))))) (stAdd_keeps (setTile_keeps (over_keeps (by assumption) (fun _ => fun _ => fun _ => sendPacket_keeps (by assumption)))))))) (Keeps.ite (stAdd_keeps (stAdd_keeps (setTile_keeps (over_keeps (by assumption) (fun _ => fun _ => fun _ => sendPacket_keeps (by assumption)))))) (stAdd_keeps (setTile_keeps (over_keeps (by assumption) (fun _ => fun _ => fun _ => sendPacket_keeps (by assumption))))))) (fun _ => fun _ => fun _ => rectDone_keeps (by assumption)))) (over_keeps (Keeps.ite (raise_keeps (irq_keeps (Keeps.ite (stAdd_keeps (stAdd_keeps (setTile_keeps (over_keeps (by assumption) (fun _ => fun _ => fun _ => sendPacket_keeps (by assumption)))))) (stAdd_keeps (setTile_keeps (over_keeps (by assumption) (fun _ => fun _ => fun _ => sendPacket_keeps (by assumption)))))))) (Keeps.ite (stAdd_keeps (stAdd_keeps (setTile_keeps (over_keeps (by assumption) (fun _ => fun _ => fun _ => sendPacket_keeps (by assumption)))))) (stAdd_keeps (setTile_keeps (over_keeps (by assumption) (fun _ => fun _ => fun _ => sendPacket_keeps (by assumption))))))) (fun _ => fun _ => fun _ => rectDone_keeps (by assumption)))

theorem lineOut_keeps {s t : State} {a0 a1 a2 a3} (h : Keeps s t) : Keeps s (lineOut a0 a1 a2 a3 t) := by
  unfold lineOut
  exact Keeps.ite (by assumption) (putLine_keeps (by assumption))

theorem lineSend_keeps {s t : State} {a0} (h : Keeps s t) : Keeps s (lineSend a0 t) := by
  unfold lineSend
  exact Keeps.ite (by assumption) ((by split; {exact lineOut_keeps (by assumption)}; {exact Keeps.ite (lineOut_keeps (by assumption)) (by assumption)}))

theorem lineUnderrun_keeps {s t : State} {a0 a1} (h : Keeps s t) : Keeps s (lineUnderrun a0 a1 t) := by
  unfold lineUnderrun
  exact Keeps.ite (by assumption) (Keeps.ite (by assumption) (Keeps.ite (by assumption) (lineOut_keeps (by assumption))))

theorem restOfFrame_keeps {s t : State} {a n} (h : Keeps s t) : Keeps s (restOfFrame a n t) := by
  induction n generalizing t with
  | zero => exact h
  | succ n ih =>
    rw [restOfFrame]
    refine Keeps.ite h ?_
    split
    · exact ih (lineOut_keeps h)
    · exact ih (lineOut_keeps h)

theorem markTile_keeps {s t : State} {a1} (h : Keeps s t) : Keeps s (markTile t a1) := by
  unfold markTile
  exact Keeps.ite (by assumption) (irq_keeps (wb_keeps (wb_keeps (setTile_keeps (sendPacket_keeps (Keeps.ite (stw_keeps (Keeps.ite (by assumption) (restOfFrame_keeps (by assumption)))) (Keeps.ite (by assumption) (restOfFrame_keeps (by assumption)))))))))

theorem syncEdge_keeps {s t : State} (h : Keeps s t) : Keeps s (syncEdge t) := by
  unfold syncEdge
  exact Keeps.ite (by assumption) (Keeps.ite (edgeValid_keeps (stAdd_keeps (by assumption))) (Keeps.ite (edgeValid_keeps (stAdd_keeps (by assumption))) (stAdd_keeps (by assumption))))

theorem syncLost_keeps {s t : State} (h : Keeps s t) : Keeps s (syncLost t) := by
  unfold syncLost
  exact Keeps.ite (raise_keeps (irq_keeps (showSource_keeps (mk_keeps (by assumption) (.refl _))))) (by assumption)

theorem syncOut_keeps {s t : State} {a0} (h : Keeps s t) : Keeps s (syncOut a0 t) := by
  unfold syncOut
  exact Keeps.ite (Keeps.ite (mk_keeps (at_keeps (by assumption)) (.refl _)) (by assumption)) (Keeps.ite (mk_keeps (at_keeps (by assumption)) (.refl _)) (by assumption))

end Sys2Proof.Machine
end

