-- ==== Sys2Proof/Laws/Keeps05.lean ====
section
/-! SUPPORT. Every operation of Energy, Thermal, Power, FaultCmd keeps what `Keeps` says. -/

namespace Sys2Proof.Machine

theorem setDali_keeps {s t : State} {a1} (h : Keeps s t) : Keeps s (State.setDali t a1) := by
  unfold State.setDali
  exact mk_keeps (by assumption) (.refl _)

theorem setNrg_keeps {s t : State} {a1} (h : Keeps s t) : Keeps s (State.setNrg t a1) := by
  unfold State.setNrg
  exact mk_keeps (by assumption) (.refl _)

theorem nrgCtrl_keeps {s t : State} {a0 a1} (h : Keeps s t) : Keeps s (nrgCtrl a0 a1 t) := by
  unfold nrgCtrl
  exact Keeps.ite (by assumption) (setNrg_keeps (by assumption))

theorem nrgAllow_keeps {s t : State} {a0 a1} (h : Keeps s t) : Keeps s (nrgAllow a0 a1 t) := by
  unfold nrgAllow
  exact wr_keeps (setNrg_keeps (by assumption))

theorem showAcc_keeps {s t : State} (h : Keeps s t) : Keeps s (showAcc t) := by
  unfold showAcc
  exact wr_keeps (wr_keeps (wr_keeps (wr_keeps (wr_keeps (by assumption)))))

theorem nightOver_keeps {s t : State} {a0} (h : Keeps s t) : Keeps s (nightOver a0 t) := by
  unfold nightOver
  exact showAcc_keeps (irq_keeps (setNrg_keeps (by assumption)))

theorem nrgAccCtrl_keeps {s t : State} {a0 a1} (h : Keeps s t) : Keeps s (nrgAccCtrl a0 a1 t) := by
  unfold nrgAccCtrl
  exact Keeps.ite (nightOver_keeps (by assumption)) (by assumption)

theorem showDali_keeps {s t : State} (h : Keeps s t) : Keeps s (showDali t) := by
  unfold showDali
  exact (by split; {exact Keeps.ite (wf_keeps (by assumption)) (by assumption)}; {assumption})

theorem daliTx_keeps {s t : State} {a0 a1} (h : Keeps s t) : Keeps s (daliTx a0 a1 t) := by
  unfold daliTx
  exact Keeps.ite (showDali_keeps (wf_keeps (setDali_keeps (by assumption)))) (by assumption)

theorem nrgRead_keeps {s t : State} {a0} (h : Keeps s t) : Keeps s (nrgRead a0 t) := by
  unfold nrgRead
  exact Keeps.ite (wr_keeps (by assumption)) (Keeps.ite (wr_keeps (by assumption)) (Keeps.ite (wr_keeps (by assumption)) (Keeps.ite (wr_keeps (by assumption)) (Keeps.ite (wr_keeps (by assumption)) (by assumption)))))

theorem daliRead_keeps {s t : State} {a0} (h : Keeps s t) : Keeps s (daliRead a0 t) := by
  unfold daliRead
  exact Keeps.ite (wr_keeps (by assumption)) (by assumption)

theorem daliBusFail_keeps {s t : State} (h : Keeps s t) : Keeps s (daliBusFail t) := by
  unfold daliBusFail
  exact Keeps.ite (by assumption) (raise_keeps (irq_keeps (setDali_keeps (by assumption))))

theorem daliBusRecover_keeps {s t : State} (h : Keeps s t) : Keeps s (daliBusRecover t) := by
  unfold daliBusRecover
  exact setDali_keeps (by assumption)

theorem pollDone_keeps {s t : State} {a0 a1 a2 a3} (h : Keeps s t) : Keeps s (pollDone a0 a1 a2 a3 t) := by
  unfold pollDone
  exact Keeps.ite (wr_keeps (wr_keeps (wr_keeps (setDali_keeps (irq_keeps (wr_keeps (by assumption))))))) (raiseIf_keeps (setDali_keeps (irq_keeps (wr_keeps (by assumption)))))

theorem daliDone_keeps {s t : State} {a0 a1 a2 a3 a4} (h : Keeps s t) : Keeps s (daliDone a0 a1 a2 a3 a4 t) := by
  unfold daliDone
  exact (by split; {assumption}; {exact Keeps.ite (by assumption) (showDali_keeps (Keeps.ite (irq_keeps (wr_keeps (setDali_keeps (by assumption)))) (pollDone_keeps (setDali_keeps (by assumption)))))})

theorem daliPoll_keeps {s t : State} (h : Keeps s t) : Keeps s (daliPoll t) := by
  unfold daliPoll
  exact Keeps.ite (showDali_keeps (setDali_keeps (by assumption))) (by assumption)

theorem mismatchRun_keeps {s t : State} {a1} (h : Keeps s t) : Keeps s (mismatchRun t a1) := by
  unfold mismatchRun
  exact Keeps.ite (by assumption) (Keeps.ite (wb_keeps (wf_keeps (setNrg_keeps (by assumption)))) (Keeps.ite (raise_keeps (irq_keeps (wb_keeps (wb_keeps (wf_keeps (setNrg_keeps (by assumption))))))) (wf_keeps (setNrg_keeps (by assumption)))))

theorem nrgEnd_keeps {s t : State} (h : Keeps s t) : Keeps s (nrgEnd t) := by
  unfold nrgEnd
  exact Keeps.ite (by assumption) (showAcc_keeps (setNrg_keeps (over_keeps (over_keeps (stSet_keeps (over_keeps (by assumption) (fun _ => fun _ => fun _ => stw_keeps (stw_keeps (by assumption))))) (fun _ => fun _ => fun _ => stw_keeps (by assumption))) (fun _ => fun _ => fun _ => mismatchRun_keeps (by assumption)))))

theorem nightRoll_keeps {s t : State} (h : Keeps s t) : Keeps s (nightRoll t) := by
  unfold nightRoll
  exact Keeps.ite (by assumption) (nightOver_keeps (setNrg_keeps (by assumption)))

theorem hourRoll_keeps {s t : State} (h : Keeps s t) : Keeps s (hourRoll t) := by
  unfold hourRoll
  exact Keeps.ite (by assumption) (showAcc_keeps (irq_keeps (setNrg_keeps (by assumption))))

theorem rollFirst_keeps {s t : State} (h : Keeps s t) : Keeps s (rollFirst t) := by
  unfold rollFirst
  exact nightRoll_keeps (Keeps.ite (hourRoll_keeps (by assumption)) (by assumption))

theorem holdK_keeps {s t : State} (h : Keeps s t) : Keeps s (holdK t) := by
  unfold holdK
  exact over_keeps (by assumption) (fun _ => fun _ => fun _ => wr_keeps (by assumption))

theorem splitU_keeps {s t : State} {old v c} (h : Keeps s t) : Keeps s (splitU old v t c) := by
  unfold splitU
  extract_lets +onlyGivenNames -merge -useContext x; clear_value x; with_reducible apply Keeps.ite; {assumption}; {extract_lets +onlyGivenNames -merge -useContext x; subst x; extract_lets +onlyGivenNames -merge -useContext x; clear_value x; exact (by split; exact setNrg_keeps (Keeps.of_pair (by assumption) (Keeps.ite2 (fresh_keeps (by assumption)) (by assumption))))}

theorem nrgTick_keeps {s t : State} {old a b} (h : Keeps s t) : Keeps s (nrgTick old a b t) := by
  unfold nrgTick
  exact Keeps.ite (by assumption) (Keeps.ite (holdK_keeps (setNrg_keeps (by assumption))) (Keeps.ite (holdK_keeps (wf_keeps (wr_keeps (over_keeps (setNrg_keeps (by assumption)) (fun _ => fun _ => fun _ => splitU_keeps (by assumption)))))) (Keeps.ite (irq_keeps (stSet_keeps (wr_keeps (wr_keeps (wr_keeps (wf_keeps (wr_keeps (over_keeps (setNrg_keeps (by assumption)) (fun _ => fun _ => fun _ => splitU_keeps (by assumption)))))))))) (wr_keeps (wr_keeps (wr_keeps (wf_keeps (wr_keeps (over_keeps (setNrg_keeps (by assumption)) (fun _ => fun _ => fun _ => splitU_keeps (by assumption)))))))))))

theorem planStale_keeps {s t : State} (h : Keeps s t) : Keeps s (planStale t) := by
  unfold planStale
  exact Keeps.ite (raise_keeps (irq_keeps (wb_keeps (by assumption)))) (by assumption)

theorem xcheck_keeps {s t : State} (h : Keeps s t) : Keeps s (xcheck t) := by
  unfold xcheck
  exact (by split; {exact Keeps.ite (by assumption) (Keeps.ite (wf_keeps (setDali_keeps (by assumption))) (Keeps.ite (raise_keeps (irq_keeps (wr_keeps (setDali_keeps (by assumption))))) (wr_keeps (setDali_keeps (by assumption)))))}; {assumption})

theorem setPwr_keeps {s t : State} {a1} (h : Keeps s t) : Keeps s (State.setPwr t a1) := by
  unfold State.setPwr
  exact mk_keeps (by assumption) (.refl _)

theorem loseDomains_keeps {s t : State} (h : Keeps s t) : Keeps s (loseDomains t) := by
  refine ⟨h.pending, h.now, fun c => ?_, ⟨h.nv.otp, h.nv.floor, h.nv.timeFloor, h.nv.txn⟩, h.tick⟩
  have := (canonical_iff t).1 (h.canonical c)
  exact (canonical_iff _).2 ⟨by unfold loseDomains; dsimp only [regsWf, Memory.wf]; exact swf_skeep (dflt := regDefault) _ this.1, by unfold loseDomains; dsimp only [regsWf, Memory.wf]; exact swf_skeep (dflt := regDefault) _ this.2.1,
    by unfold loseDomains; dsimp only [regsWf, Memory.wf]; exact swf_skeep (dflt := fun _ => 0#32) _ this.2.2.1, by unfold loseDomains; dsimp only [regsWf, Memory.wf]; exact swf_skeep (dflt := memDefault) _ this.2.2.2⟩

theorem showFreq_keeps {s t : State} (h : Keeps s t) : Keeps s (showFreq t) := by
  unfold showFreq
  exact over_keeps (by assumption) (fun _ => fun _ => fun _ => wr_keeps (by assumption))

theorem pmicWrite_keeps {s t : State} {a0} (h : Keeps s t) : Keeps s (pmicWrite a0 t) := by
  unfold pmicWrite
  exact setPwr_keeps (by assumption)

theorem startLevel_keeps {s t : State} (h : Keeps s t) : Keeps s (startLevel t) := by
  unfold startLevel
  exact Keeps.ite (by assumption) (showFreq_keeps (wb_keeps (setPwr_keeps (pmicWrite_keeps (by assumption)))))

theorem endLevel_keeps {s t : State} {a0} (h : Keeps s t) : Keeps s (endLevel a0 t) := by
  unfold endLevel
  exact startLevel_keeps (showFreq_keeps (wb_keeps (wf_keeps (setPwr_keeps (by assumption)))))

theorem levelSettled_keeps {s t : State} (h : Keeps s t) : Keeps s (levelSettled t) := by
  unfold levelSettled
  exact (by split; {exact Keeps.ite (endLevel_keeps (irq_keeps (by assumption))) (by assumption)}; {assumption})

theorem levelReq_keeps {s t : State} {a0 a1} (h : Keeps s t) : Keeps s (levelReq a0 a1 t) := by
  unfold levelReq
  exact startLevel_keeps (wf_keeps (levelSettled_keeps (by assumption)))

theorem levelClear_keeps {s t : State} {a0 a1} (h : Keeps s t) : Keeps s (levelClear a0 a1 t) := by
  unfold levelClear
  exact startLevel_keeps (by assumption)

theorem setStep_keeps {s t : State} {a0} (h : Keeps s t) : Keeps s (setStep a0 t) := by
  unfold setStep
  exact Keeps.ite (by assumption) (startLevel_keeps (showFreq_keeps (wf_keeps (mk_keeps (irq_keeps (wf_keeps (by assumption))) (.refl _)))))

theorem warnThrottle_keeps {s t : State} (h : Keeps s t) : Keeps s (warnThrottle t) := by
  unfold warnThrottle
  exact Keeps.ite (wb_keeps (wb_keeps (by assumption))) (Keeps.ite (setStep_keeps (wb_keeps (Keeps.ite (raise_keeps (irq_keeps (wb_keeps (by assumption)))) (wb_keeps (by assumption))))) (wb_keeps (Keeps.ite (raise_keeps (irq_keeps (wb_keeps (by assumption)))) (wb_keeps (by assumption)))))

theorem thmCtrl_keeps {s t : State} {a0 a1} (h : Keeps s t) : Keeps s (thmCtrl a0 a1 t) := by
  unfold thmCtrl
  exact Keeps.ite (warnThrottle_keeps (by assumption)) (Keeps.ite (warnThrottle_keeps (by assumption)) (setStep_keeps (warnThrottle_keeps (by assumption))))

theorem thmThr_keeps {s t : State} {a0 a1} (h : Keeps s t) : Keeps s (thmThr a0 a1 t) := by
  unfold thmThr
  exact Keeps.ite (wf_keeps (Keeps.ite (wf_keeps (Keeps.ite (wf_keeps (by assumption)) (by assumption))) (Keeps.ite (wf_keeps (by assumption)) (by assumption)))) (Keeps.ite (wf_keeps (Keeps.ite (wf_keeps (by assumption)) (by assumption))) (Keeps.ite (wf_keeps (by assumption)) (by assumption)))

theorem forceFallback_keeps {s t : State} (h : Keeps s t) : Keeps s (forceFallback t) := by
  unfold forceFallback
  exact Keeps.ite (by assumption) (mk_keeps (by assumption) (.refl _))

theorem critical_keeps {s t : State} (h : Keeps s t) : Keeps s (critical t) := by
  unfold critical
  exact Keeps.ite (forceFallback_keeps (setStep_keeps (raise_keeps (irq_keeps (wb_keeps (mk_keeps (by assumption) (.refl _))))))) (mk_keeps (by assumption) (.refl _))

theorem thmConditions_keeps {s t : State} (h : Keeps s t) : Keeps s (thmConditions t) := by
  unfold thmConditions
  exact setWindow_keeps (stMax_keeps (Keeps.ite (stSet_keeps (critical_keeps (warnThrottle_keeps (wb_keeps (by assumption))))) (critical_keeps (warnThrottle_keeps (wb_keeps (by assumption))))))

theorem updateTj_keeps {s t : State} (h : Keeps s t) : Keeps s (updateTj t) := by
  unfold updateTj
  extract_lets +onlyGivenNames -merge -useContext x; clear_value x; exact (by split; {exact thmConditions_keeps (wr_keeps (mk_keeps (by assumption) (.refl _)))}; {assumption})

theorem thmClear_keeps {s t : State} {a0 a1 a2} (h : Keeps s t) : Keeps s (thmClear a0 a1 a2 t) := by
  unfold thmClear
  exact updateTj_keeps (sensorClear_keeps (by assumption))

theorem criticalClear_keeps {s t : State} (h : Keeps s t) : Keeps s (criticalClear t) := by
  unfold criticalClear
  exact (by split; {exact Keeps.ite (wb_keeps (by assumption)) (by assumption)}; {assumption})

theorem thermalShutdown_keeps {s t : State} {a0 a1} (h : Keeps s t) : Keeps s (thermalShutdown a0 a1 t) := by
  unfold thermalShutdown
  exact mk_keeps (wr_keeps (over_keeps (loseDomains_keeps (wr_keeps (wr_keeps (wr_keeps (by assumption))))) (fun _ => fun _ => fun _ => wr_keeps (by assumption)))) (.refl _)

theorem dieConversion_keeps {s t : State} {a0 a1} (h : Keeps s t) : Keeps s (dieConversion a0 a1 t) := by
  unfold dieConversion
  exact Keeps.ite (by assumption) (Keeps.ite (Keeps.ite (by assumption) (mk_keeps (by assumption) (.refl _))) (Keeps.ite (thermalShutdown_keeps (by assumption)) (Keeps.ite (Keeps.ite (noteValue_keeps (by assumption)) (by assumption)) (updateTj_keeps (noteValue_keeps (by assumption))))))

theorem showXo_keeps {s t : State} (h : Keeps s t) : Keeps s (showXo t) := by
  unfold showXo
  exact wr_keeps (by assumption)

theorem ntcUpdate_keeps {s t : State} {a1} (h : Keeps s t) : Keeps s (ntcUpdate t a1) := by
  unfold ntcUpdate
  exact Keeps.ite (by assumption) (noteValue_keeps (by assumption))

theorem tileTj_keeps {s t : State} {a1} (h : Keeps s t) : Keeps s (tileTj t a1) := by
  unfold tileTj
  extract_lets +onlyGivenNames -merge -useContext x; clear_value x; extract_lets +onlyGivenNames -merge -useContext x; clear_value x; exact (by split; {assumption}; {exact mk_keeps (wr_keeps (by assumption)) (.refl _)})

theorem thmTick_keeps {s t : State} (h : Keeps s t) : Keeps s (thmTick t) := by
  unfold thmTick
  exact Keeps.ite (by assumption) (over_keeps (over_keeps (stw_keeps (by assumption)) (fun _ => fun _ => fun _ => ntcUpdate_keeps (by assumption))) (fun _ => fun _ => fun _ => tileTj_keeps (by assumption)))

theorem pllUnlock_keeps {s t : State} {a0} (h : Keeps s t) : Keeps s (pllUnlock a0 t) := by
  unfold pllUnlock
  exact raise_keeps (wb_keeps (by assumption))

theorem pmicRise_keeps {s t : State} (h : Keeps s t) : Keeps s (pmicRise t) := by
  unfold pmicRise
  extract_lets +onlyGivenNames -merge -useContext x; have : Keeps s x := levelSettled_keeps (by assumption); clear_value x; exact (by split; {exact Keeps.ite (endLevel_keeps (irq_keeps (by assumption))) (levelSettled_keeps (setPwr_keeps (by assumption)))}; {assumption})

theorem pmicTimeout_keeps {s t : State} (h : Keeps s t) : Keeps s (pmicTimeout t) := by
  unfold pmicTimeout
  exact (by split; {exact Keeps.ite (levelSettled_keeps (by assumption)) (raise_keeps (endLevel_keeps (irq_keeps (wb_keeps (by assumption)))))}; {assumption})

theorem refLoss_keeps {s t : State} (h : Keeps s t) : Keeps s (refLoss t) := by
  unfold refLoss
  exact raise_keeps (irq_keeps (enterHoldover_keeps (wb_keeps (wb_keeps (by assumption)))))

theorem shutdownRestart_keeps {s t : State} (h : Keeps s t) : Keeps s (shutdownRestart t) := by
  unfold shutdownRestart
  exact (by split; {exact Keeps.ite (chipReset_keeps (by assumption)) (by assumption)}; {assumption})

theorem throttleStep_keeps {s t : State} (h : Keeps s t) : Keeps s (throttleStep t) := by
  unfold throttleStep
  exact Keeps.ite (by assumption) (Keeps.ite (Keeps.ite (setStep_keeps (by assumption)) (by assumption)) (Keeps.ite (setStep_keeps (by assumption)) (by assumption)))

theorem tileOver_keeps {s t : State} {a0} (h : Keeps s t) : Keeps s (tileOver a0 t) := by
  unfold tileOver
  exact (by split; {exact Keeps.ite (raise_keeps (irq_keeps (mk_keeps (by assumption) (.refl _)))) (by assumption)}; {assumption})

theorem tileSensorTimeout_keeps {s t : State} {a0 a1} (h : Keeps s t) : Keeps s (tileSensorTimeout a0 a1 t) := by
  unfold tileSensorTimeout
  exact Keeps.ite (sensorFail_keeps (by assumption)) (by assumption)

theorem pwrResult_keeps {s t : State} {a0} (h : Keeps s t) : Keeps s (pwrResult a0 t) := by
  unfold pwrResult
  exact irq_keeps (wb_keeps (wf_keeps (wf_keeps (by assumption))))

theorem endCmd_keeps {s t : State} {a0} (h : Keeps s t) : Keeps s (endCmd a0 t) := by
  unfold endCmd
  exact pwrResult_keeps (setPwr_keeps (by assumption))

theorem abortWake_keeps {s t : State} (h : Keeps s t) : Keeps s (abortWake t) := by
  unfold abortWake
  exact irq_keeps (endCmd_keeps (by assumption))

theorem allOff_keeps {s t : State} {b} (h : Keeps s t) : Keeps s (allOff b t) := by
  unfold allOff
  extract_lets pin recs u ram v
  refine wr_keeps (over_keeps ?_ fun _ _ h => wr_keeps h)
  have g : Keeps s u := loseDomains_keeps (wr_keeps h)
  refine ⟨g.pending, g.now, fun c => ?_, g.nv, g.tick⟩
  have := (canonical_iff _).1 (g.canonical c)
  exact (canonical_iff _).2 ⟨this.1, this.2.1, this.2.2.1, swf_skeep (dflt := memDefault) ram this.2.2.2⟩

theorem pwrTarget_keeps {s t : State} {a0} (h : Keeps s t) : Keeps s (pwrTarget a0 t) := by
  unfold pwrTarget
  exact Keeps.ite (pwrResult_keeps (by assumption)) (Keeps.ite (pwrResult_keeps (by assumption)) (wb_keeps (wf_keeps (wr_keeps (setPwr_keeps (by assumption))))))

theorem pwrCmd_keeps {s t : State} {a0 a1 a2} (h : Keeps s t) : Keeps s (pwrCmd a0 a1 a2 t) := by
  unfold pwrCmd
  exact Keeps.ite (pwrTarget_keeps (by assumption)) (by assumption)

theorem showWake_keeps {s t : State} {a0 a1} (h : Keeps s t) : Keeps s (showWake a0 a1 t) := by
  unfold showWake
  exact irq_keeps (wf_keeps (wf_keeps (wf_keeps (wr_keeps (by assumption)))))

theorem leaveIdle_keeps {s t : State} {a0} (h : Keeps s t) : Keeps s (leaveIdle a0 t) := by
  unfold leaveIdle
  exact showWake_keeps (wf_keeps (plicSample_keeps (by assumption)))

theorem idleWake_keeps {s t : State} (h : Keeps s t) : Keeps s (idleWake t) := by
  unfold idleWake
  exact Keeps.ite (leaveIdle_keeps (by assumption)) (by assumption)

theorem unstage_keeps {s t : State} {a0} (h : Keeps s t) : Keeps s (unstage a0 t) := by
  unfold unstage
  exact Keeps.ite (endMember_keeps (by assumption)) (by assumption)

theorem extendCount_keeps {s t : State} (h : Keeps s t) : Keeps s (extendCount t) := by
  unfold extendCount
  exact setTim_keeps (by assumption)

theorem tickAgain_keeps {s t : State} (h : Keeps s t) : Keeps s (tickAgain t) := by
  unfold tickAgain
  exact setTim_keeps (mk_keeps (by assumption) (.refl _))

theorem servoAgain_keeps {s t : State} (h : Keeps s t) : Keeps s (servoAgain t) := by
  unfold servoAgain
  exact Keeps.ite (by assumption) (setTim_keeps (irq_keeps (wr_keeps (by assumption))))

theorem deepWake_keeps {s t : State} (h : Keeps s t) : Keeps s (deepWake t) := by
  unfold deepWake
  extract_lets kept old r p u v w x y
  have g : Keeps s r := chipReset_keeps h
  have k : Keeps s u := by
    clear_value r
    have hs : u.shadow = skeep deepKeep old.shadow := rfl
    refine ⟨g.pending, g.now, fun c => ?_, g.nv, h.tick⟩
    have c1 := (canonical_iff _).1 (g.canonical c)
    have c2 := (canonical_iff _).1 (h.canonical c)
    exact (canonical_iff u).2 ⟨c1.1, hs ▸ swf_skeep (dflt := regDefault) _ c2.2.1, c1.2.2⟩
  clear_value u
  have hv : Keeps s v := over_keeps k fun _ _ h => wr_keeps h
  clear_value v
  have hw : Keeps s w := wr_keeps (unstage_keeps (unstage_keeps (extendCount_keeps hv)))
  clear_value w
  have hx : Keeps s x := by
    unfold x
    with_reducible apply Keeps.ite
    · exact wr_keeps (mk_keeps hw (.refl _))
    · exact hw
  clear_value x
  exact startLevel_keeps (tickAgain_keeps (enterHoldover_keeps (servoAgain_keeps (wb_keeps (wf_keeps (wf_keeps hx))))))

theorem linksBack_keeps {s t : State} (h : Keeps s t) : Keeps s (linksBack t) := by
  unfold linksBack
  exact over_keeps (by assumption) (fun _ => fun _ => fun _ => Keeps.ite (trainFrom1_keeps (by assumption)) (by assumption))

theorem entryGoes_keeps {s t : State} {a0} (h : Keeps s t) : Keeps s (entryGoes a0 t) := by
  unfold entryGoes
  exact Keeps.ite (linksBack_keeps (endCmd_keeps (setPwr_keeps (by assumption)))) (setPwr_keeps (by assumption))

theorem showWfi_keeps {s t : State} {a0} (h : Keeps s t) : Keeps s (showWfi a0 t) := by
  unfold showWfi
  exact wf_keeps (by assumption)

theorem idleEntry_keeps {s t : State} {a0} (h : Keeps s t) : Keeps s (idleEntry a0 t) := by
  unfold idleEntry
  exact Keeps.ite (showWfi_keeps (by assumption)) (Keeps.ite (abortWake_keeps (showWfi_keeps (by assumption))) (idleWake_keeps (endCmd_keeps (wf_keeps (showWfi_keeps (by assumption))))))

theorem linksOff_keeps {s t : State} (h : Keeps s t) : Keeps s (linksOff t) := by
  unfold linksOff
  exact over_keeps (by assumption) (fun _ => fun _ => fun _ => setTile_keeps (setLstate_keeps (leaveUp_keeps (by assumption))))

theorem loopsStop_keeps {s t : State} (h : Keeps s t) : Keeps s (loopsStop t) := by
  unfold loopsStop
  exact over_keeps (by assumption) (fun _ => fun _ => fun _ => Keeps.ite (by assumption) (setLoop_keeps (injEnd_keeps (by assumption))))

theorem setAlarm_keeps {s t : State} (h : Keeps s t) : Keeps s (setAlarm t) := by
  unfold setAlarm
  exact setPwr_keeps (by assumption)

theorem lowpowerCommit_keeps {s t : State} (h : Keeps s t) : Keeps s (lowpowerCommit t) := by
  unfold lowpowerCommit
  exact (by split; {assumption}; {exact Keeps.ite (by assumption) (Keeps.ite (entryGoes_keeps (by assumption)) (Keeps.ite (linksBack_keeps (abortWake_keeps (by assumption))) (Keeps.ite (linksBack_keeps (endCmd_keeps (by assumption))) (Keeps.ite (wr_keeps (wf_keeps (pmicWrite_keeps (wf_keeps (wb_keeps (setPwr_keeps (setAlarm_keeps (setDali_keeps (by assumption))))))))) (Keeps.ite (loseDomains_keeps (showXo_keeps (wr_keeps (wf_keeps (setTim_keeps (setPwr_keeps (wf_keeps (wb_keeps (setPwr_keeps (setAlarm_keeps (setDali_keeps (by assumption)))))))))))) (allOff_keeps (wf_keeps (wb_keeps (setPwr_keeps (setAlarm_keeps (setDali_keeps (by assumption))))))))))))})

theorem lowpowerEntry_keeps {s t : State} {a0} (h : Keeps s t) : Keeps s (lowpowerEntry a0 t) := by
  unfold lowpowerEntry
  exact (by split; {assumption}; {exact Keeps.ite (showWfi_keeps (by assumption)) (Keeps.ite (entryGoes_keeps (showWfi_keeps (by assumption))) (Keeps.ite (endCmd_keeps (showWfi_keeps (by assumption))) (entryGoes_keeps (loopsStop_keeps (linksOff_keeps (setPwr_keeps (showWfi_keeps (by assumption))))))))})

theorem powerLoss_keeps {s t : State} (h : Keeps s t) : Keeps s (powerLoss t) := by
  unfold powerLoss
  exact allOff_keeps (by assumption)

theorem vmon_keeps {s t : State} {a0 a1} (h : Keeps s t) : Keeps s (vmon a0 a1 t) := by
  unfold vmon
  exact Keeps.ite (by assumption) (Keeps.ite (chipReset_keeps (by assumption)) (raise_keeps (by assumption)))

theorem wake_keeps {s t : State} {a0} (h : Keeps s t) : Keeps s (wake a0 t) := by
  unfold wake
  exact Keeps.ite (Keeps.ite (chipReset_keeps (by assumption)) (by assumption)) (Keeps.ite (by assumption) (Keeps.ite (Keeps.ite (leaveIdle_keeps (orMask_keeps (by assumption))) (idleWake_keeps (orMask_keeps (by assumption)))) (Keeps.ite (orMask_keeps (by assumption)) (Keeps.ite (linksBack_keeps (showWake_keeps (wf_keeps (wr_keeps (pmicWrite_keeps (orMask_keeps (by assumption))))))) (Keeps.ite (showWake_keeps (deepWake_keeps (orMask_keeps (by assumption)))) (orMask_keeps (by assumption)))))))

theorem errRelease_keeps {s t : State} {a0 a1} (h : Keeps s t) : Keeps s (errRelease a0 a1 t) := by
  unfold errRelease
  exact Keeps.ite (mk_keeps (wb_keeps (by assumption)) (.refl _)) (by assumption)

theorem forceAll_keeps {s t : State} {a0} (h : Keeps s t) : Keeps s (forceAll a0 t) := by
  unfold forceAll
  exact Keeps.ite (by assumption) (Keeps.ite (raiseAll_keeps (by assumption)) (wb_keeps (by assumption)))

theorem forceSrc_keeps {s t : State} {a0 a1} (h : Keeps s t) : Keeps s (forceSrc a0 a1 t) := by
  unfold forceSrc
  exact Keeps.ite (forceAll_keeps (by assumption)) (by assumption)

theorem cfgWritten_keeps {s t : State} {a0 a1} (h : Keeps s t) : Keeps s (cfgWritten a0 a1 t) := by
  unfold cfgWritten
  exact showPend_keeps (wr_keeps (mk_keeps (by assumption) (.refl _)))

theorem statClear_keeps {s t : State} {a0 a1 a2} (h : Keeps s t) : Keeps s (statClear a0 a1 a2 t) := by
  unfold statClear
  exact showPend_keeps (mk_keeps (by assumption) (.refl _))

theorem logRead_keeps {s t : State} {a0 a1} (h : Keeps s t) : Keeps s (logRead a0 a1 t) := by
  unfold logRead
  exact wf_keeps (by assumption)

theorem crcRunWrite_keeps {s t : State} {a0 a1 a2 a3} (h : Keeps s t) : Keeps s (crcRunWrite a0 a1 a2 a3 t) := by
  unfold crcRunWrite
  exact Keeps.ite (raise_keeps (wr_keeps (by assumption))) (setRun_keeps (by assumption))

theorem crcCfgWrite_keeps {s t : State} {a0 a1 a2 a3} (h : Keeps s t) : Keeps s (crcCfgWrite a0 a1 a2 a3 t) := by
  unfold crcCfgWrite
  exact setRun_keeps (by assumption)

theorem forcePage_keeps {s t : State} {a0 a1 a2} (h : Keeps s t) : Keeps s (forcePage a0 a1 a2 t) := by
  unfold forcePage
  exact forceAll_keeps (by assumption)

theorem rawRead_keeps {s t : State} {a0} (h : Keeps s t) : Keeps s (rawRead a0 t) := by
  unfold rawRead
  exact Keeps.ite (by assumption) (wb_keeps (by assumption))

theorem crcStatRead_keeps {s t : State} {a0 a1} (h : Keeps s t) : Keeps s (crcStatRead a0 a1 t) := by
  unfold crcStatRead
  exact wb_keeps (by assumption)

theorem cfgCheck_keeps {s t : State} (h : Keeps s t) : Keeps s (cfgCheck t) := by
  unfold cfgCheck
  exact raiseIf_keeps (by assumption)

theorem conseqTimeout_keeps {s t : State} (h : Keeps s t) : Keeps s (conseqTimeout t) := by
  unfold conseqTimeout
  exact Keeps.ite (by assumption) (irq_keeps (mk_keeps (by assumption) (.refl _)))

end Sys2Proof.Machine
end

