-- ==== Sys2Proof/Laws/Keeps06.lean ====
section
/-! SUPPORT. Every operation of Secure, HostRegs, Cpu, Update, Glare keeps what `Keeps` says. -/

namespace Sys2Proof.Machine

theorem setNv_keeps {s t : State} {f} (h : Keeps s t) (hf : ∀ v, NotLowered v (f v)) : Keeps s (State.setNv t f) :=
  mk_keeps h (hf _)

theorem setSec_keeps {s t : State} {a1} (h : Keeps s t) : Keeps s (State.setSec t a1) := by
  unfold State.setSec
  exact mk_keeps (by assumption) (.refl _)

theorem showAudit_keeps {s t : State} (h : Keeps s t) : Keeps s (showAudit t) := by
  unfold showAudit
  exact wf_keeps (by assumption)

theorem auditPump_keeps {s t : State} (h : Keeps s t) : Keeps s (auditPump t) := by
  unfold auditPump
  exact Keeps.ite (showAudit_keeps (by assumption)) ((by split; {exact showAudit_keeps (by assumption)}; {exact showAudit_keeps (txSubmit_keeps (by assumption))}))

theorem auditPush_keeps {s t : State} {a0 a1 a2 a3 a4 a5} (h : Keeps s t) : Keeps s (auditPush a0 a1 a2 a3 a4 a5 t) := by
  unfold auditPush
  exact Keeps.ite (raise_keeps (irq_keeps (wrWords_keeps (wr_keeps (setSec_keeps (by assumption)))))) (wrWords_keeps (wr_keeps (setSec_keeps (by assumption))))

theorem auditLost_keeps {s t : State} (h : Keeps s t) : Keeps s (auditLost t) := by
  unfold auditLost
  exact Keeps.ite (by assumption) (auditPush_keeps (wf_keeps (by assumption)))

theorem auditAdd_keeps {s t : State} {a0 a1 a2 a3 a4 a5} (h : Keeps s t) : Keeps s (auditAdd a0 a1 a2 a3 a4 a5 t) := by
  unfold auditAdd
  exact Keeps.ite (irq_keeps (wf_keeps (by assumption))) (auditPump_keeps (auditPush_keeps (auditLost_keeps (by assumption))))

theorem sumsOut_keeps {s t : State} {a0 a1 a2 a3} (h : Keeps s t) : Keeps s (sumsOut a0 a1 a2 a3 t) := by
  unfold sumsOut
  exact over_keeps (by assumption) (fun _ => fun _ => fun _ => auditAdd_keeps (by assumption))

theorem flushSums_keeps {s t : State} {a0} (h : Keeps s t) : Keeps s (flushSums a0 t) := by
  unfold flushSums
  exact (by split; {assumption}; {exact sumsOut_keeps (mk_keeps (by assumption) (.refl _))})

theorem dropRights_keeps {s t : State} {a0 a1 a3} (h : Keeps s t) : Keeps s (dropRights a0 a1 t a3) := by
  unfold dropRights
  exact Keeps.ite (safePut_keeps (flushSums_keeps (by assumption))) (by assumption)

theorem draw_keeps {s t : State} (h : Keeps s t) : Keeps s (draw t).2 := by
  unfold draw
  exact Keeps.pair (setSec_keeps (by assumption))

theorem newNonce_keeps {s t : State} {a0} (h : Keeps s t) : Keeps s (newNonce a0 t) := by
  unfold newNonce
  exact Keeps.ite (by assumption) ((by split; exact wrWords_keeps (Keeps.of_pair (by assumption) (draw_keeps (by assumption)))))

theorem setGrant_keeps {s t : State} {a0} (h : Keeps s t) : Keeps s (setGrant a0 t) := by
  unfold setGrant
  exact Keeps.ite (by assumption) (irq_keeps (wr_keeps (by assumption)))

theorem endGrant_keeps {s t : State} (h : Keeps s t) : Keeps s (endGrant t) := by
  unfold endGrant
  exact Keeps.ite (by assumption) (newNonce_keeps (setGrant_keeps (setSec_keeps (sumsOut_keeps (by assumption)))))

theorem raiseFloor_keeps {s t : State} {a0 a1 a2} (h : Keeps s t) : Keeps s (raiseFloor a0 a1 a2 t) := by
  unfold raiseFloor
  exact Keeps.ite (by assumption) (Keeps.ite (endGrant_keeps (over_keeps (auditAdd_keeps (countersTx_keeps (wr_keeps (wr_keeps (by assumption))))) (fun _ => fun _ => fun _ => dropRights_keeps (by assumption)))) (over_keeps (auditAdd_keeps (countersTx_keeps (wr_keeps (wr_keeps (by assumption))))) (fun _ => fun _ => fun _ => dropRights_keeps (by assumption))))

theorem acceptFloor_keeps {s t : State} {a0 a1 a2} (h : Keeps s t) : Keeps s (acceptFloor a0 a1 a2 t) := by
  unfold acceptFloor
  extract_lets +onlyGivenNames -merge -useContext x; clear_value x; extract_lets +onlyGivenNames -merge -useContext x; have : Keeps s x := Keeps.ite (raiseFloor_keeps (by assumption)) (by assumption); clear_value x; exact (by split; {exact Keeps.ite (raiseFloor_keeps (by assumption)) (by assumption)}; {assumption})

theorem setMode_keeps {s t : State} {a0 a1 a2 a3} (h : Keeps s t) : Keeps s (setMode a0 a1 a2 a3 t) := by
  unfold setMode
  exact Keeps.ite (countersTx_keeps (Keeps.ite (mk_keeps (auditAdd_keeps (irq_keeps (wf_keeps (wb_keeps (wf_keeps (wf_keeps (by assumption))))))) (.refl _)) (auditAdd_keeps (irq_keeps (wf_keeps (wb_keeps (wf_keeps (wf_keeps (by assumption))))))))) (Keeps.ite (mk_keeps (auditAdd_keeps (irq_keeps (wf_keeps (wb_keeps (wf_keeps (wf_keeps (by assumption))))))) (.refl _)) (auditAdd_keeps (irq_keeps (wf_keeps (wb_keeps (wf_keeps (wf_keeps (by assumption))))))))

theorem keyResult_keeps {s t : State} {a0} (h : Keeps s t) : Keeps s (keyResult a0 t) := by
  unfold keyResult
  exact wr_keeps (by assumption)

theorem keyPut_keeps {s t : State} {a0 a1} (h : Keeps s t) : Keeps s (keyPut a0 a1 t) := by
  unfold keyPut
  exact setSec_keeps (by assumption)

theorem keyGenerate_keeps {s t : State} {a0} (h : Keeps s t) : Keeps s (keyGenerate a0 t) := by
  unfold keyGenerate
  exact Keeps.ite (keyResult_keeps (by assumption)) (Keeps.ite (keyResult_keeps (by assumption)) (Keeps.ite (keyResult_keeps (by assumption)) ((by split; exact auditAdd_keeps (keyResult_keeps (keyPut_keeps (wr_keeps (Keeps.of_pair (by assumption) (draw_keeps (by assumption))))))))))

theorem slotTx_keeps {s t : State} {a0 a1} (h : Keeps s t) : Keeps s (slotTx a0 a1 t) := by
  unfold slotTx
  exact txSubmit_keeps (by assumption)

theorem keyInstall_keeps {s t : State} {a0 a1 a2} (h : Keeps s t) : Keeps s (keyInstall a0 a1 a2 t) := by
  unfold keyInstall
  with_reducible apply Keeps.ite; {exact keyResult_keeps (by assumption)}; {with_reducible apply Keeps.ite; {exact keyResult_keeps (by assumption)}; {with_reducible apply Keeps.ite; {exact keyResult_keeps (by assumption)}; {extract_lets +onlyGivenNames -merge -useContext x; clear_value x; exact (by split; exact auditAdd_keeps (keyResult_keeps (slotTx_keeps (wr_keeps (Keeps.of_pair (by assumption) (fresh_keeps (by assumption)))))))}}}

theorem keyErase_keeps {s t : State} {a0} (h : Keeps s t) : Keeps s (keyErase a0 t) := by
  unfold keyErase
  exact Keeps.ite (keyResult_keeps (by assumption)) (Keeps.ite (keyResult_keeps (by assumption)) (auditAdd_keeps (keyResult_keeps (Keeps.ite (slotTx_keeps (keyPut_keeps (wr_keeps (by assumption)))) (keyPut_keeps (wr_keeps (by assumption)))))))

theorem keyLock_keeps {s t : State} {a0} (h : Keeps s t) : Keeps s (keyLock a0 t) := by
  unfold keyLock
  exact Keeps.ite (keyResult_keeps (by assumption)) (auditAdd_keeps (keyResult_keeps (wb_keeps (by assumption))))

theorem keyCmd_keeps {s t : State} {a0 a1 a2 a3} (h : Keeps s t) : Keeps s (keyCmd a0 a1 a2 a3 t) := by
  unfold keyCmd
  exact Keeps.ite (by assumption) ((by split; {exact keyGenerate_keeps (by assumption)}; {exact keyInstall_keeps (by assumption)}; {exact keyErase_keeps (by assumption)}; {exact keyLock_keeps (by assumption)}; {assumption}))

theorem otpBlow_keeps {s t : State} {a0 a1} (h : Keeps s t) : Keeps s (otpBlow a0 a1 t) := by
  unfold otpBlow
  exact otpShow_keeps (setNv_keeps (by assumption) (fun _ => nvOtp_keeps (.refl _)))

theorem otpNote_keeps {s t : State} {a0} (h : Keeps s t) : Keeps s (otpNote a0 t) := by
  unfold otpNote
  exact auditAdd_keeps (by assumption)

theorem retire_keeps {s t : State} (h : Keeps s t) : Keeps s (retire t) := by
  unfold retire
  exact nvPut_keeps (over_keeps (setSec_keeps (setNv_keeps (by assumption) (fun _ => nvMk_keeps (.refl _)))) (fun _ => fun _ => fun _ => wr_keeps (by assumption)))

theorem otpCmd_keeps {s t : State} {a0 a1 a2} (h : Keeps s t) : Keeps s (otpCmd a0 a1 a2 t) := by
  unfold otpCmd
  exact Keeps.ite (by assumption) (Keeps.ite (wr_keeps (by assumption)) (Keeps.ite (wr_keeps (by assumption)) (Keeps.ite (wr_keeps (by assumption)) (otpNote_keeps (Keeps.ite (retire_keeps (wr_keeps (otpBlow_keeps (by assumption)))) (wr_keeps (otpBlow_keeps (by assumption))))))))

theorem auditAck_keeps {s t : State} {a0 a1 a2} (h : Keeps s t) : Keeps s (auditAck a0 a1 a2 t) := by
  unfold auditAck
  exact auditAdd_keeps (countersTx_keeps (wr_keeps (by assumption)))

theorem auditHash_keeps {s t : State} {a0} (h : Keeps s t) : Keeps s (auditHash a0 t).2 := by
  unfold auditHash
  exact Keeps.ite2 (by assumption) (Keeps.ite2 (by assumption) ((by split; exact Keeps.pair (Keeps.of_pair (by assumption) (fresh_keeps (by assumption))))))

theorem auditExport_keeps {s t : State} {a0 a1 a2 a3} (h : Keeps s t) : Keeps s (auditExport a0 a1 a2 a3 t).2 := by
  unfold auditExport
  extract_lets +onlyGivenNames -merge -useContext x; clear_value x; extract_lets +onlyGivenNames -merge -useContext x; clear_value x; extract_lets +onlyGivenNames -merge -useContext x; clear_value x; extract_lets +onlyGivenNames -merge -useContext x; clear_value x; exact (by split; exact (by split; exact Keeps.pair (auditAdd_keeps (setSec_keeps (Keeps.of_pair (by assumption) (auditHash_keeps (Keeps.of_pair (by assumption) (auditHash_keeps (by assumption)))))))))

theorem auditStep_keeps {s t : State} (h : Keeps s t) : Keeps s (auditStep t) := by
  unfold auditStep
  exact auditPump_keeps (auditLost_keeps (by assumption))

theorem auditToken_keeps {s t : State} {a0 a1 a2 a3} (h : Keeps s t) : Keeps s (auditToken a0 a1 a2 a3 t) := by
  unfold auditToken
  exact Keeps.ite (auditAdd_keeps (by assumption)) (auditAdd_keeps (by assumption))

theorem imageFail_keeps {s t : State} {a0 a1} (h : Keeps s t) : Keeps s (imageFail a0 a1 t) := by
  unfold imageFail
  exact raise_keeps (setSec_keeps (by assumption))

theorem imageLoad_keeps {s t : State} {a0 a1} (h : Keeps s t) : Keeps s (imageLoad a0 a1 t) := by
  unfold imageLoad
  exact wr_keeps (safePut_keeps (by assumption))

theorem runRecovery_keeps {s t : State} (h : Keeps s t) : Keeps s (runRecovery t) := by
  unfold runRecovery
  exact (by split; {exact imageFail_keeps (imageFail_keeps (by assumption))}; {exact wb_keeps (wr_keeps (wr_keeps (wr_keeps (wr_keeps (wr_keeps (wr_keeps (imageLoad_keeps (wr_keeps (Keeps.ite (by assumption) (imageFail_keeps (by assumption)))))))))))})

theorem quarantineEnter_keeps {s t : State} {a0} (h : Keeps s t) : Keeps s (quarantineEnter a0 t) := by
  unfold quarantineEnter
  exact Keeps.ite (by assumption) (Keeps.ite (setMode_keeps (mk_keeps (countersTx_keeps (auditAdd_keeps (irq_keeps (wf_keeps (wb_keeps (by assumption)))))) (.refl _))) (runRecovery_keeps (setMode_keeps (mk_keeps (countersTx_keeps (auditAdd_keeps (irq_keeps (wf_keeps (wb_keeps (by assumption)))))) (.refl _)))))

theorem drbgReseed_keeps {s t : State} {a0} (h : Keeps s t) : Keeps s (drbgReseed a0 t) := by
  unfold drbgReseed
  exact Keeps.ite (by assumption) (Keeps.ite ((by split; exact setSec_keeps (wb_keeps (Keeps.of_pair (by assumption) (fresh_keeps (by assumption)))))) (raise_keeps (irq_keeps (wb_keeps (by assumption)))))

theorem buildPageRights_keeps {s t : State} {a0} (h : Keeps s t) : Keeps s (buildPageRights a0 t) := by
  unfold buildPageRights
  exact wrWords_keeps (by assumption)

theorem certInstall_keeps {s t : State} {a0 a1} (h : Keeps s t) : Keeps s (certInstall a0 a1 t).2 := by
  unfold certInstall
  exact Keeps.ite2 (by assumption) (Keeps.pair (txSubmit_keeps (by assumption)))

theorem winResult_keeps {s t : State} {a0} (h : Keeps s t) : Keeps s (winResult a0 t) := by
  unfold winResult
  exact safePut_keeps (by assumption)

theorem tokResult_keeps {s t : State} {a0} (h : Keeps s t) : Keeps s (tokResult a0 t) := by
  unfold tokResult
  exact Keeps.ite (wf_keeps (wf_keeps (by assumption))) (wf_keeps (wf_keeps (by assumption)))

theorem debugUnlock_keeps {s t : State} (h : Keeps s t) : Keeps s (debugUnlock t) := by
  unfold debugUnlock
  exact Keeps.ite (by assumption) (Keeps.ite (newNonce_keeps (winResult_keeps (safePut_keeps (by assumption)))) (newNonce_keeps (Keeps.ite ((by split; {exact acceptFloor_keeps (auditAdd_keeps (wf_keeps (auditToken_keeps (winResult_keeps (tokResult_keeps (safePut_keeps (by assumption)))))))}; {exact auditAdd_keeps (wf_keeps (auditToken_keeps (winResult_keeps (tokResult_keeps (safePut_keeps (by assumption))))))})) (Keeps.ite (raise_keeps (wf_keeps (wb_keeps (auditAdd_keeps (wf_keeps (auditToken_keeps (winResult_keeps (tokResult_keeps (safePut_keeps (by assumption)))))))))) (auditAdd_keeps (wf_keeps (auditToken_keeps (winResult_keeps (tokResult_keeps (safePut_keeps (by assumption)))))))))))

theorem dirInstall_keeps {s t : State} {a0} (h : Keeps s t) : Keeps s (dirInstall a0 t).2 := by
  unfold dirInstall
  exact Keeps.ite2 (by assumption) (Keeps.pair (txSubmit_keeps (by assumption)))

theorem otpRaiseTo_keeps {s t : State} {a0 a1} (h : Keeps s t) : Keeps s (otpRaiseTo a0 a1 t) := by
  unfold otpRaiseTo
  exact over_keeps (by assumption) (fun _ => fun _ => fun _ => otpBlow_keeps (by assumption))

theorem otpRaise_keeps {s t : State} {a0 a1} (h : Keeps s t) : Keeps s (otpRaise a0 a1 t) := by
  unfold otpRaise
  exact Keeps.ite (by assumption) (Keeps.ite (otpNote_keeps (otpRaiseTo_keeps (by assumption))) (wb_keeps (countersTx_keeps (setNv_keeps (by assumption) (fun _ => nvMk_keeps (.refl _))))))

theorem rootInstall_keeps {s t : State} {a0 a1 a2 a3} (h : Keeps s t) : Keeps s (rootInstall a0 a1 a2 a3 t).2 := by
  unfold rootInstall
  exact Keeps.ite2 (by assumption) (Keeps.pair (over_keeps (auditAdd_keeps (countersTx_keeps (wrWords_keeps (by assumption)))) (fun _ => fun _ => fun _ => dropRights_keeps (by assumption))))

theorem floorTick_keeps {s t : State} (h : Keeps s t) : Keeps s (floorTick t) := by
  unfold floorTick
  exact Keeps.ite (wr_keeps (wr_keeps (by assumption))) (by assumption)

theorem grantExpiry_keeps {s t : State} (h : Keeps s t) : Keeps s (grantExpiry t) := by
  unfold grantExpiry
  exact Keeps.ite (endGrant_keeps (by assumption)) (by assumption)

theorem hostDrop_keeps {s t : State} (h : Keeps s t) : Keeps s (hostDrop t) := by
  unfold hostDrop
  exact Keeps.ite (by assumption) (endGrant_keeps (safePut_keeps (by assumption)))

theorem winWrite_keeps {s t : State} {a0 a1} (h : Keeps s t) : Keeps s (winWrite a0 a1 t) := by
  unfold winWrite
  exact Keeps.ite (by assumption) (put_keeps (by assumption))

theorem hostVerify_keeps {s t : State} (h : Keeps s t) : Keeps s (hostVerify t) := by
  unfold hostVerify
  exact Keeps.ite (by assumption) (newNonce_keeps ((by split; {exact acceptFloor_keeps (buildPageRights_keeps (setGrant_keeps (setSec_keeps (endGrant_keeps (auditToken_keeps (winResult_keeps (tokResult_keeps (safePut_keeps (by assumption)))))))))}; {exact auditToken_keeps (winResult_keeps (tokResult_keeps (safePut_keeps (by assumption))))})))

theorem otpRetry_keeps {s t : State} (h : Keeps s t) : Keeps s (otpRetry t) := by
  unfold otpRetry
  exact Keeps.ite (by assumption) (Keeps.ite (setSec_keeps (by assumption)) (wb_keeps (countersTx_keeps (setNv_keeps (over_keeps (setSec_keeps (by assumption)) (fun _ => fun _ => fun _ => otpNote_keeps (otpRaiseTo_keeps (by assumption)))) (fun _ => nvMk_keeps (.refl _))))))

theorem tamperSample_keeps {s t : State} {a0} (h : Keeps s t) : Keeps s (tamperSample a0 t) := by
  unfold tamperSample
  exact (by split; {assumption}; {exact Keeps.ite (by assumption) (Keeps.ite (setSec_keeps (by assumption)) (Keeps.ite (quarantineEnter_keeps (auditAdd_keeps (raise_keeps (irq_keeps (setSec_keeps (by assumption)))))) (setSec_keeps (by assumption))))})

theorem tapRead_keeps {s t : State} {a0} (h : Keeps s t) : Keeps s (tapRead a0 t) := by
  unfold tapRead
  exact Keeps.ite (setSec_keeps (by assumption)) (Keeps.ite (setSec_keeps (by assumption)) (Keeps.ite (setSec_keeps (by assumption)) (by assumption)))

theorem tapWrite_keeps {s t : State} {a0 a1} (h : Keeps s t) : Keeps s (tapWrite a0 a1 t) := by
  unfold tapWrite
  exact Keeps.ite (winWrite_keeps (by assumption)) (by assumption)

theorem timeFloorSave_keeps {s t : State} (h : Keeps s t) : Keeps s (timeFloorSave t) := by
  unfold timeFloorSave
  exact countersTx_keeps (by assumption)

theorem gpioLevels_keeps {s t : State} {a0} (h : Keeps s t) : Keeps s (gpioLevels a0 t) := by
  unfold gpioLevels
  exact over_keeps (wf_keeps (by assumption)) (fun _ => fun _ => fun _ => irqIf_keeps (by assumption))

theorem gpioShow_keeps {s t : State} (h : Keeps s t) : Keeps s (gpioShow t) := by
  unfold gpioShow
  exact gpioLevels_keeps (by assumption)

theorem gpioMerge_keeps {s t : State} {a0 a1 a2} (h : Keeps s t) : Keeps s (gpioMerge a0 a1 a2 t) := by
  unfold gpioMerge
  exact gpioShow_keeps (wr_keeps (by assumption))

theorem gpioCommit_keeps {s t : State} (h : Keeps s t) : Keeps s (gpioCommit t) := by
  unfold gpioCommit
  exact gpioMerge_keeps (by assumption)

theorem bellSet_keeps {s t : State} {a0 a1} (h : Keeps s t) : Keeps s (bellSet a0 a1 t) := by
  unfold bellSet
  exact orMask_keeps (noteMask_keeps (by assumption))

theorem h2dSet_keeps {s t : State} {a0 a1 a2} (h : Keeps s t) : Keeps s (h2dSet a0 a1 a2 t) := by
  unfold h2dSet
  exact irqIf_keeps (bellSet_keeps (by assumption))

theorem d2hSet_keeps {s t : State} {a0 a1} (h : Keeps s t) : Keeps s (d2hSet a0 a1 t) := by
  unfold d2hSet
  exact bellSet_keeps (by assumption)

theorem gpioSet_keeps {s t : State} {a0 a1} (h : Keeps s t) : Keeps s (gpioSet a0 a1 t) := by
  unfold gpioSet
  exact gpioMerge_keeps (noteMask_keeps (by assumption))

theorem gpioClr_keeps {s t : State} {a0 a1} (h : Keeps s t) : Keeps s (gpioClr a0 a1 t) := by
  unfold gpioClr
  exact gpioMerge_keeps (noteMask_keeps (by assumption))

theorem gpioDir_keeps {s t : State} {a0 a1} (h : Keeps s t) : Keeps s (gpioDir a0 a1 t) := by
  unfold gpioDir
  exact gpioShow_keeps ((by split; {exact wb_keeps (by assumption)}; {assumption}))

theorem gpioOutWrite_keeps {s t : State} {a0 a1} (h : Keeps s t) : Keeps s (gpioOutWrite a0 a1 t) := by
  unfold gpioOutWrite
  exact gpioMerge_keeps (noteMask_keeps (by assumption))

theorem gpioOut_keeps {s t : State} {a0 a1} (h : Keeps s t) : Keeps s (gpioOut a0 a1 t) := by
  unfold gpioOut
  exact gpioShow_keeps (by assumption)

theorem gpioEdge_keeps {s t : State} {a0 a1} (h : Keeps s t) : Keeps s (gpioEdge a0 a1 t) := by
  unfold gpioEdge
  exact Keeps.ite (by assumption) (gpioLevels_keeps (by assumption))

theorem hartEn_keeps {s t : State} {a0 a1 a2} (h : Keeps s t) : Keeps s (hartEn a0 a1 a2 t) := by
  unfold hartEn
  exact readyWins_keeps (wf_keeps (wf_keeps (by assumption)))

theorem hartRst_keeps {s t : State} {a0 a1 a2} (h : Keeps s t) : Keeps s (hartRst a0 a1 a2 t) := by
  unfold hartRst
  exact Keeps.ite (by assumption) (hartReset_keeps (by assumption))

theorem wdogWrite_keeps {s t : State} {a0 a1 a2 a3} (h : Keeps s t) : Keeps s (wdogWrite a0 a1 a2 a3 t) := by
  unfold wdogWrite
  exact mk_keeps (by assumption) (.refl _)

theorem cpuWdog_keeps {s t : State} {a0 a1} (h : Keeps s t) : Keeps s (cpuWdog a0 a1 t) := by
  unfold cpuWdog
  extract_lets +onlyGivenNames -merge -useContext x; clear_value x; exact (by split; {assumption}; {exact Keeps.ite (by assumption) (raise_keeps (mk_keeps (by assumption) (.refl _)))})

theorem localEcc_keeps {s t : State} {a0} (h : Keeps s t) : Keeps s (localEcc a0 t) := by
  unfold localEcc
  exact Keeps.ite (raise_keeps (by assumption)) (by assumption)

theorem lockstepMismatch_keeps {s t : State} (h : Keeps s t) : Keeps s (lockstepMismatch t) := by
  unfold lockstepMismatch
  exact Keeps.ite (raise_keeps (by assumption)) (by assumption)

theorem setUpd_keeps {s t : State} {a1} (h : Keeps s t) : Keeps s (State.setUpd t a1) := by
  unfold State.setUpd
  exact mk_keeps (by assumption) (.refl _)

theorem resetInto_keeps {s t : State} (h : Keeps s t) : Keeps s (resetInto t) := by
  unfold resetInto
  exact chipReset_keeps (setNv_keeps (by assumption) (fun _ => nvMk_keeps (.refl _)))

theorem resetBack_keeps {s t : State} (h : Keeps s t) : Keeps s (resetBack t) := by
  unfold resetBack
  exact chipReset_keeps (setNv_keeps (by assumption) (fun _ => nvMk_keeps (.refl _)))

theorem activation_keeps {s t : State} (h : Keeps s t) : Keeps s (activation t) := by
  unfold activation
  exact Keeps.ite (by assumption) ((by split; {exact Keeps.ite (resetInto_keeps (by assumption)) (by assumption)}; {exact Keeps.ite (resetBack_keeps (by assumption)) (by assumption)}))

theorem updShow_keeps {s t : State} {a0 a1} (h : Keeps s t) : Keeps s (updShow a0 a1 t) := by
  unfold updShow
  exact wf_keeps (wf_keeps (wf_keeps (by assumption)))

theorem bootImage_keeps {s t : State} {a0 a1 a2} (h : Keeps s t) : Keeps s (bootImage a0 a1 a2 t) := by
  unfold bootImage
  exact Keeps.ite (updShow_keeps (wb_keeps (setUpd_keeps (setNv_keeps (Keeps.ite (wb_keeps (wr_keeps (by assumption))) (Keeps.ite (wb_keeps (wr_keeps (by assumption))) (wr_keeps (by assumption)))) (fun _ => nvMk_keeps (.refl _)))))) (Keeps.ite (auditAdd_keeps (updShow_keeps (countersTx_keeps (setNv_keeps (Keeps.ite (wb_keeps (wr_keeps (by assumption))) (Keeps.ite (wb_keeps (wr_keeps (by assumption))) (wr_keeps (by assumption)))) (fun _ => nvMk_keeps (.refl _)))))) (Keeps.ite (wb_keeps (wr_keeps (by assumption))) (Keeps.ite (wb_keeps (wr_keeps (by assumption))) (wr_keeps (by assumption)))))

theorem confirmExpiry_keeps {s t : State} (h : Keeps s t) : Keeps s (confirmExpiry t) := by
  unfold confirmExpiry
  exact Keeps.ite (by assumption) (Keeps.ite (countersTx_keeps (setUpd_keeps (by assumption))) (resetBack_keeps (countersTx_keeps (setUpd_keeps (by assumption)))))

theorem updBegin_keeps {s t : State} {a0 a1} (h : Keeps s t) : Keeps s (updBegin a0 a1 t).2 := by
  unfold updBegin
  exact Keeps.ite2 (Keeps.pair (updShow_keeps (by assumption))) (Keeps.ite2 (by assumption) (Keeps.ite2 (by assumption) (Keeps.pair (updShow_keeps (setUpd_keeps (Keeps.ite2 (Keeps.pair (put_keeps (by assumption))) (txSubmit_keeps (by assumption))))))))

theorem updData_keeps {s t : State} {a0 a1} (h : Keeps s t) : Keeps s (updData a0 a1 t).2 := by
  unfold updData
  exact Keeps.ite2 (Keeps.pair (updShow_keeps (by assumption))) (Keeps.ite2 (by assumption) (Keeps.ite2 (Keeps.pair (put_keeps (by assumption))) (Keeps.ite2 (Keeps.pair (txSubmit_keeps (by assumption))) (by assumption))))

theorem updVerify_keeps {s t : State} (h : Keeps s t) : Keeps s (updVerify t).2 := by
  unfold updVerify
  exact Keeps.ite2 (Keeps.pair (updShow_keeps (by assumption))) (Keeps.ite2 (Keeps.pair (updShow_keeps (wr_keeps (setUpd_keeps (setUpd_keeps (irq_keeps (by assumption))))))) (Keeps.pair (imageFail_keeps (updShow_keeps (setUpd_keeps (irq_keeps (by assumption)))))))

theorem updActivate_keeps {s t : State} {a0 a1} (h : Keeps s t) : Keeps s (updActivate a0 a1 t).2 := by
  unfold updActivate
  exact Keeps.ite2 (Keeps.pair (updShow_keeps (by assumption))) (Keeps.pair (updShow_keeps (setUpd_keeps (by assumption))))

theorem updConfirm_keeps {s t : State} (h : Keeps s t) : Keeps s (updConfirm t).2 := by
  unfold updConfirm
  exact Keeps.ite2 (Keeps.pair (updShow_keeps (by assumption))) (Keeps.pair (irq_keeps (updShow_keeps (wb_keeps (otpRaise_keeps (countersTx_keeps (setNv_keeps (by assumption) (fun _ => nvMk_keeps (.refl _)))))))))

theorem updAbort_keeps {s t : State} (h : Keeps s t) : Keeps s (updAbort t).2 := by
  unfold updAbort
  exact Keeps.ite2 (Keeps.pair (updShow_keeps (by assumption))) (Keeps.ite2 (Keeps.pair (updShow_keeps (put_keeps (by assumption)))) (Keeps.ite2 (Keeps.pair (updShow_keeps (txSubmit_keeps (by assumption)))) (by assumption)))

theorem setGlm_keeps {s t : State} {a1} (h : Keeps s t) : Keeps s (State.setGlm t a1) := by
  unfold State.setGlm
  exact mk_keeps (by assumption) (.refl _)

theorem setSlot_keeps {s t : State} {a0 a1} (h : Keeps s t) : Keeps s (setSlot a0 a1 t) := by
  unfold setSlot
  exact wf_keeps (by assumption)

theorem acceptList_keeps {s t : State} {a0 a1} (h : Keeps s t) : Keeps s (acceptList a0 a1 t) := by
  unfold acceptList
  exact setGlm_keeps (setSlot_keeps (stAdd_keeps (over_keeps ((by split; {exact setSlot_keeps (by assumption)}; {assumption})) (fun _ => fun _ => fun _ => setSlot_keeps (by assumption)))))

theorem loadBeam_keeps {s t : State} {a b} (h : Keeps s t) : Keeps s (loadBeam a t b) := by
  unfold loadBeam
  extract_lets x
  have g : Keeps s x := put_keeps h
  clear_value x
  refine ⟨h.pending, h.now, fun c => ?_, h.nv, h.tick⟩
  have c1 := (canonical_iff t).1 (h.canonical c)
  have c2 := (canonical_iff x).1 (g.canonical c)
  exact (canonical_iff _).2 ⟨c1.1, c1.2.1, c1.2.2.1, c2.2.2.2⟩

theorem postSlot_keeps {s t : State} {a0} (h : Keeps s t) : Keeps s (postSlot a0 t) := by
  unfold postSlot
  exact setGlm_keeps (setSlot_keeps (by assumption))

theorem listReject_keeps {s t : State} {a0 a1} (h : Keeps s t) : Keeps s (listReject a0 a1 t) := by
  unfold listReject
  exact wr_keeps (by assumption)

theorem glmPost_keeps {s t : State} {a0 a1} (h : Keeps s t) : Keeps s (glmPost a0 a1 t) := by
  unfold glmPost
  exact Keeps.ite (postSlot_keeps (by assumption)) (listReject_keeps (by assumption))

theorem channelsLost_keeps {s t : State} (h : Keeps s t) : Keeps s (channelsLost t) := by
  unfold channelsLost
  exact wf_keeps (wf_keeps (by assumption))

theorem glmCtrl_keeps {s t : State} {a0 a1} (h : Keeps s t) : Keeps s (glmCtrl a0 a1 t) := by
  unfold glmCtrl
  exact Keeps.ite (setGlm_keeps (over_keeps (channelsLost_keeps (by assumption)) (fun _ => fun _ => fun _ => loadBeam_keeps (by assumption)))) (Keeps.ite (wb_keeps (setGlm_keeps (by assumption))) (by assumption))

theorem bandTile_keeps {s t : State} {a0 a1 a3} (h : Keeps s t) : Keeps s (bandTile a0 a1 t a3) := by
  unfold bandTile
  exact Keeps.ite (by assumption) (mk_keeps (engineWrite_keeps (by assumption)) (.refl _))

theorem bandDone_keeps {s t : State} {a0} (h : Keeps s t) : Keeps s (bandDone a0 t) := by
  unfold bandDone
  exact Keeps.ite (bandsLate_keeps (by assumption)) (over_keeps (bandsLate_keeps (by assumption)) (fun _ => fun _ => fun _ => bandTile_keeps (by assumption)))

theorem channelCut_keeps {s t : State} {a1} (h : Keeps s t) : Keeps s (channelCut t a1) := by
  unfold channelCut
  exact Keeps.ite (by assumption) (Keeps.ite (raise_keeps (irq_keeps (wf_keeps ((by split; {assumption}; {exact Keeps.ite (acceptList_keeps (by assumption)) (irq_keeps (listReject_keeps (setSlot_keeps (by assumption))))}))))) (wf_keeps ((by split; {assumption}; {exact Keeps.ite (acceptList_keeps (by assumption)) (irq_keeps (listReject_keeps (setSlot_keeps (by assumption))))}))))

theorem poolSkip_keeps {s t : State} (h : Keeps s t) : Keeps s (poolSkip t) := by
  unfold poolSkip
  exact irq_keeps (setGlm_keeps (by assumption))

theorem glmPool_keeps {s t : State} {a0 a1} (h : Keeps s t) : Keeps s (glmPool a0 a1 t) := by
  unfold glmPool
  exact (by split; {exact Keeps.ite (poolSkip_keeps (by assumption)) (setGlm_keeps (by assumption))}; {exact poolSkip_keeps (by assumption)})

theorem glmTick_keeps {s t : State} (h : Keeps s t) : Keeps s (glmTick t) := by
  unfold glmTick
  exact Keeps.ite (by assumption) (Keeps.ite (stSet_keeps (stSet_keeps (wf_keeps (irqIf_keeps (setGlm_keeps (over_keeps (wf_keeps (wb_keeps (setGlm_keeps (by assumption)))) (fun _ => fun _ => fun _ => channelCut_keeps (by assumption)))))))) (glmPool_keeps (stSet_keeps (stSet_keeps (wf_keeps (irqIf_keeps (setGlm_keeps (over_keeps (wf_keeps (wb_keeps (setGlm_keeps (by assumption)))) (fun _ => fun _ => fun _ => channelCut_keeps (by assumption))))))))))

theorem poolRenderDone_keeps {s t : State} (h : Keeps s t) : Keeps s (poolRenderDone t) := by
  unfold poolRenderDone
  exact Keeps.ite (by assumption) ((by split; {assumption}; {exact postFlip_keeps (signalFence_keeps (mk_keeps (setGlm_keeps (over_keeps (by assumption) (fun _ => fun _ => fun _ => engineWrite_keeps (by assumption)))) (.refl _)))}))

end Sys2Proof.Machine
end

