-- ==== Sys2Proof/Laws/Keeps07.lean ====
section
/-! SUPPORT. Every operation of Video, Look, Checks, Commit, Modes, Sched, Time keeps what `Keeps` says. -/

namespace Sys2Proof.Machine

theorem vinCtrl_keeps {s t : State} {a0 a1 a2} (h : Keeps s t) : Keeps s (vinCtrl a0 a1 a2 t) := by
  unfold vinCtrl
  exact Keeps.ite (by assumption) (wb_keeps (by assumption))

theorem fsTimeRead_keeps {s t : State} {a0 a1} (h : Keeps s t) : Keeps s (fsTimeRead a0 a1 t) := by
  unfold fsTimeRead
  exact wr_keeps (by assumption)

theorem countSkip_keeps {s t : State} {a0} (h : Keeps s t) : Keeps s (countSkip a0 t) := by
  unfold countSkip
  exact stAdd_keeps (by assumption)

theorem setFrame_keeps {s t : State} {a0 a1 a2} (h : Keeps s t) : Keeps s (setFrame a0 a1 a2 t) := by
  unfold setFrame
  exact wb_keeps (mk_keeps (by assumption) (.refl _))

theorem frameErr_keeps {s t : State} {a0 a1 a2} (h : Keeps s t) : Keeps s (frameErr a0 a1 a2 t) := by
  unfold frameErr
  exact raise_keeps (Keeps.ite (irq_keeps (stAdd_keeps (setFrame_keeps (wf_keeps (by assumption))))) (irq_keeps (stAdd_keeps (irq_keeps (stAdd_keeps (setFrame_keeps (wf_keeps (by assumption))))))))

theorem eccFix_keeps {s t : State} {a0 a1} (h : Keeps s t) : Keeps s (eccFix a0 a1 t) := by
  unfold eccFix
  exact Keeps.ite (stAdd_keeps (wb_keeps (by assumption))) (wb_keeps (by assumption))

theorem frameMade_keeps {s t : State} {a0 a1 a2} (h : Keeps s t) : Keeps s (frameMade a0 a1 a2 t) := by
  unfold frameMade
  exact stAdd_keeps (mk_keeps (wr_keeps (wf_keeps (by assumption))) (.refl _))

theorem listDone_keeps {s t : State} {a0 a1} (h : Keeps s t) : Keeps s (listDone a0 a1 t) := by
  unfold listDone
  exact (by split; {exact Keeps.ite (irq_keeps (stAdd_keeps (postSlot_keeps (by assumption)))) (irq_keeps (stAdd_keeps (by assumption)))}; {exact irq_keeps (stAdd_keeps (by assumption))})

theorem imageDone_keeps {s t : State} {a0 a1 a2 a3} (h : Keeps s t) : Keeps s (imageDone a0 a1 a2 a3 t) := by
  unfold imageDone
  exact irq_keeps (Keeps.ite (Keeps.ite (postFlip_keeps (Keeps.ite (Keeps.ite (sclTrigger_keeps (Keeps.ite (signalFence_keeps (mk_keeps (wf_keeps (by assumption)) (.refl _))) (mk_keeps (wf_keeps (by assumption)) (.refl _)))) (sclTrigger_keeps (wf_keeps (Keeps.ite (signalFence_keeps (mk_keeps (wf_keeps (by assumption)) (.refl _))) (mk_keeps (wf_keeps (by assumption)) (.refl _)))))) (Keeps.ite (signalFence_keeps (mk_keeps (wf_keeps (by assumption)) (.refl _))) (mk_keeps (wf_keeps (by assumption)) (.refl _))))) (countSkip_keeps (postFlip_keeps (Keeps.ite (Keeps.ite (sclTrigger_keeps (Keeps.ite (signalFence_keeps (mk_keeps (wf_keeps (by assumption)) (.refl _))) (mk_keeps (wf_keeps (by assumption)) (.refl _)))) (sclTrigger_keeps (wf_keeps (Keeps.ite (signalFence_keeps (mk_keeps (wf_keeps (by assumption)) (.refl _))) (mk_keeps (wf_keeps (by assumption)) (.refl _)))))) (Keeps.ite (signalFence_keeps (mk_keeps (wf_keeps (by assumption)) (.refl _))) (mk_keeps (wf_keeps (by assumption)) (.refl _))))))) (Keeps.ite (Keeps.ite (sclTrigger_keeps (Keeps.ite (signalFence_keeps (mk_keeps (wf_keeps (by assumption)) (.refl _))) (mk_keeps (wf_keeps (by assumption)) (.refl _)))) (sclTrigger_keeps (wf_keeps (Keeps.ite (signalFence_keeps (mk_keeps (wf_keeps (by assumption)) (.refl _))) (mk_keeps (wf_keeps (by assumption)) (.refl _)))))) (Keeps.ite (signalFence_keeps (mk_keeps (wf_keeps (by assumption)) (.refl _))) (mk_keeps (wf_keeps (by assumption)) (.refl _)))))

theorem headerError_keeps {s t : State} {a0} (h : Keeps s t) : Keeps s (headerError a0 t) := by
  unfold headerError
  exact Keeps.ite (by assumption) (over_keeps (by assumption) (fun _ => fun _ => fun _ => (by split; {exact setFrame_keeps (by assumption)}; {assumption})))

theorem imageLine_keeps {s t : State} {a0 a1 a2} (h : Keeps s t) : Keeps s (imageLine a0 a1 a2 t).2.2 := by
  unfold imageLine
  exact (by split; {assumption}; {exact Keeps.ite3 (by assumption) (Keeps.pair3 (Keeps.pair (engineWrite_keeps (by assumption))))})

theorem listBytes_keeps {s t : State} {a0 a1 a2} (h : Keeps s t) : Keeps s (listBytes a0 a1 a2 t).2.2 := by
  unfold listBytes
  extract_lets +onlyGivenNames -merge -useContext x; clear_value x; exact (by split; {assumption}; {exact Keeps.pair3 (Keeps.pair (engineWrite_keeps (by assumption)))})

theorem sotError_keeps {s t : State} {a0} (h : Keeps s t) : Keeps s (sotError a0 t) := by
  unfold sotError
  exact Keeps.ite (raise_keeps (irq_keeps (by assumption))) (by assumption)

theorem lookSkip_keeps {s t : State} (h : Keeps s t) : Keeps s (lookSkip t) := by
  unfold lookSkip
  exact stAdd_keeps (setLook_keeps (by assumption))

theorem lookCapture_keeps {s t : State} (h : Keeps s t) : Keeps s (lookCapture t) := by
  unfold lookCapture
  exact Keeps.ite (by assumption) (Keeps.ite (lookSkip_keeps (by assumption)) (setLook_keeps (by assumption)))

theorem lookCmd_keeps {s t : State} {a0 a1} (h : Keeps s t) : Keeps s (lookCmd a0 a1 t) := by
  unfold lookCmd
  exact Keeps.ite (lookCapture_keeps (by assumption)) (by assumption)

theorem lookCtrl_keeps {s t : State} {a0 a1} (h : Keeps s t) : Keeps s (lookCtrl a0 a1 t) := by
  unfold lookCtrl
  exact Keeps.ite (by assumption) (wf_keeps (Keeps.ite (loadBeam_keeps (setLook_keeps (by assumption))) (setLook_keeps (by assumption))))

theorem lookTick_keeps {s t : State} (h : Keeps s t) : Keeps s (lookTick t) := by
  unfold lookTick
  exact setLook_keeps (by assumption)

theorem copyRef_keeps {s t : State} {a0} (h : Keeps s t) : Keeps s (copyRef a0 t) := by
  unfold copyRef
  exact over_keeps (by assumption) (fun _ => fun _ => fun _ => engineWrite_keeps (by assumption))

theorem detect_keeps {s t : State} {a1} (h : Keeps s t) : Keeps s (detect t a1) := by
  unfold detect
  exact Keeps.ite (by assumption) (Keeps.ite (Keeps.ite (wb_keeps (setLook_keeps (by assumption))) (setLook_keeps (by assumption))) (Keeps.ite (raise_keeps (irq_keeps (wb_keeps (setLook_keeps (by assumption))))) (setLook_keeps (by assumption))))

theorem workArea_keeps {s t : State} (h : Keeps s t) : Keeps s (workArea t) := by
  unfold workArea
  exact engineWrite_keeps (engineWrite_keeps (by assumption))

theorem lookEnd_keeps {s t : State} {a0 a1} (h : Keeps s t) : Keeps s (lookEnd a0 a1 t) := by
  unfold lookEnd
  exact Keeps.ite (by assumption) (Keeps.ite (lookResult_keeps (by assumption)) (Keeps.ite (lookResult_keeps (by assumption)) (wb_keeps (workArea_keeps (by assumption)))))

theorem frameBad_keeps {s t : State} {a0 a1 a2} (h : Keeps s t) : Keeps s (frameBad a0 a1 a2 t) := by
  unfold frameBad
  exact Keeps.ite (lookEnd_keeps (frameErr_keeps (by assumption))) (frameErr_keeps (by assumption))

theorem dropFrame_keeps {s t : State} {a0 a1} (h : Keeps s t) : Keeps s (dropFrame a0 a1 t) := by
  unfold dropFrame
  exact (by split; {exact frameBad_keeps (by assumption)}; {assumption})

theorem vcxBad_keeps {s t : State} {a0 a1} (h : Keeps s t) : Keeps s (vcxBad a0 a1 t) := by
  unfold vcxBad
  exact stAdd_keeps (eccFix_keeps (by assumption))

theorem streamEnd_keeps {s t : State} {a0 a1 a2} (h : Keeps s t) : Keeps s (streamEnd a0 a1 a2 t) := by
  unfold streamEnd
  exact Keeps.ite (frameBad_keeps (by assumption)) (Keeps.ite (lookEnd_keeps (Keeps.ite (listDone_keeps (Keeps.ite (setFrame_keeps (by assumption)) (frameMade_keeps (setFrame_keeps (by assumption))))) ((by split; {exact imageDone_keeps (Keeps.ite (setFrame_keeps (by assumption)) (frameMade_keeps (setFrame_keeps (by assumption))))}; {exact Keeps.ite (setFrame_keeps (by assumption)) (frameMade_keeps (setFrame_keeps (by assumption)))})))) (Keeps.ite (listDone_keeps (Keeps.ite (setFrame_keeps (by assumption)) (frameMade_keeps (setFrame_keeps (by assumption))))) ((by split; {exact imageDone_keeps (Keeps.ite (setFrame_keeps (by assumption)) (frameMade_keeps (setFrame_keeps (by assumption))))}; {exact Keeps.ite (setFrame_keeps (by assumption)) (frameMade_keeps (setFrame_keeps (by assumption)))}))))

theorem frameEnd_keeps {s t : State} {a0 a1 a2 a3} (h : Keeps s t) : Keeps s (frameEnd a0 a1 a2 a3 t) := by
  unfold frameEnd
  exact Keeps.ite (by assumption) (Keeps.ite (vcxBad_keeps (by assumption)) (over_keeps (eccFix_keeps (by assumption)) (fun _ => fun _ => fun _ => (by split; {exact streamEnd_keeps (by assumption)}; {assumption}))))

theorem lookStart_keeps {s t : State} {a0} (h : Keeps s t) : Keeps s (lookStart a0 t) := by
  unfold lookStart
  extract_lets +onlyGivenNames -merge -useContext x; clear_value x; extract_lets +onlyGivenNames -merge -useContext x; clear_value x; extract_lets +onlyGivenNames -merge -useContext x; have : Keeps s x := setLook_keeps (by assumption); clear_value x; exact (by split; {exact copyRef_keeps (wr_keeps (by assumption))}; {assumption})

theorem streamStart_keeps {s t : State} {a0 a1 a2} (h : Keeps s t) : Keeps s (streamStart a0 a1 a2 t) := by
  unfold streamStart
  exact Keeps.ite (setFrame_keeps (Keeps.ite (lookStart_keeps (dropFrame_keeps (by assumption))) (Keeps.ite (lookSkip_keeps (dropFrame_keeps (by assumption))) (dropFrame_keeps (by assumption))))) (setFrame_keeps (Keeps.ite (irq_keeps (countSkip_keeps (Keeps.ite (lookStart_keeps (dropFrame_keeps (by assumption))) (Keeps.ite (lookSkip_keeps (dropFrame_keeps (by assumption))) (dropFrame_keeps (by assumption)))))) (Keeps.ite (lookStart_keeps (dropFrame_keeps (by assumption))) (Keeps.ite (lookSkip_keeps (dropFrame_keeps (by assumption))) (dropFrame_keeps (by assumption))))))

theorem frameStart_keeps {s t : State} {a0 a1 a2 a3 a4} (h : Keeps s t) : Keeps s (frameStart a0 a1 a2 a3 a4 t) := by
  unfold frameStart
  exact Keeps.ite (by assumption) (Keeps.ite (vcxBad_keeps (by assumption)) (over_keeps (eccFix_keeps (by assumption)) (fun _ => fun _ => fun _ => Keeps.ite (streamStart_keeps (by assumption)) (Keeps.ite (dropFrame_keeps (by assumption)) (by assumption)))))

theorem laneStop_keeps {s t : State} {a0} (h : Keeps s t) : Keeps s (laneStop a0 t) := by
  unfold laneStop
  exact Keeps.ite (wb_keeps (by assumption)) (by assumption)

theorem longPacket_keeps {s t : State} {a0 a1 a2 a3 a4 a5 a6 a7} (h : Keeps s t) : Keeps s (longPacket a0 a1 a2 a3 a4 a5 a6 a7 t) := by
  unfold longPacket
  exact Keeps.ite (by assumption) (Keeps.ite (stAdd_keeps (eccFix_keeps (by assumption))) (over_keeps (Keeps.ite (eccFix_keeps (by assumption)) (stAdd_keeps (eccFix_keeps (by assumption)))) (fun _ => fun _ => fun _ => (by split; {assumption}; {exact Keeps.ite (by assumption) (raiseIf_keeps (Keeps.ite (frameBad_keeps (Keeps.ite (mk_keeps (Keeps.ite3 (imageLine_keeps (by assumption)) (listBytes_keeps (by assumption))) (.refl _)) (Keeps.ite3 (imageLine_keeps (by assumption)) (listBytes_keeps (by assumption))))) (setFrame_keeps (Keeps.ite (mk_keeps (Keeps.ite3 (imageLine_keeps (by assumption)) (listBytes_keeps (by assumption))) (.refl _)) (Keeps.ite3 (imageLine_keeps (by assumption)) (listBytes_keeps (by assumption)))))))}))))

theorem lookMeasure_keeps {s t : State} (h : Keeps s t) : Keeps s (lookMeasure t) := by
  unfold lookMeasure
  exact lookResult_keeps (stAdd_keeps (over_keeps (wr_keeps (wr_keeps (by assumption))) (fun _ => fun _ => fun _ => detect_keeps (by assumption))))

theorem lookEval_keeps {s t : State} (h : Keeps s t) : Keeps s (lookEval t) := by
  unfold lookEval
  exact Keeps.ite (by assumption) (Keeps.ite (raise_keeps (lookResult_keeps (by assumption))) (Keeps.ite (lookResult_keeps (by assumption)) (lookMeasure_keeps (by assumption))))

theorem shortIgnored_keeps {s t : State} {a0 a1 a2} (h : Keeps s t) : Keeps s (shortIgnored a0 a1 a2 t) := by
  unfold shortIgnored
  exact Keeps.ite (by assumption) (Keeps.ite (vcxBad_keeps (by assumption)) (eccFix_keeps (by assumption)))

theorem ulps_keeps {s t : State} {a0 a1} (h : Keeps s t) : Keeps s (ulps a0 a1 t) := by
  unfold ulps
  exact laneStop_keeps (by assumption)

theorem commitReg_keeps {s t : State} {a0 a1 a3} (h : Keeps s t) : Keeps s (commitReg a0 a1 t a3) := by
  unfold commitReg
  exact wr_keeps (by assumption)

theorem applyCopy_keeps {s t : State} {a0} (h : Keeps s t) : Keeps s (applyCopy a0 t) := by
  unfold applyCopy
  exact Keeps.ite (mk_keeps (over_keeps (by assumption) (fun _ => fun _ => fun _ => commitReg_keeps (by assumption))) (.refl _)) (over_keeps (by assumption) (fun _ => fun _ => fun _ => commitReg_keeps (by assumption)))

theorem validate_keeps {s t : State} {a0 a1} (h : Keeps s t) : Keeps s (validate a0 a1 t) := by
  unfold validate
  exact Keeps.ite (by assumption) (Keeps.ite (endGroup_keeps (by assumption)) (Keeps.ite (endGroup_keeps (by assumption)) (mk_keeps (by assumption) (.refl _))))

theorem tickGroup_keeps {s t : State} {a1} (h : Keeps s t) : Keeps s (tickGroup t a1) := by
  unfold tickGroup
  exact Keeps.ite (by assumption) (Keeps.ite (by assumption) (Keeps.ite (mk_keeps (by assumption) (.refl _)) (Keeps.ite (endGroup_keeps (by assumption)) (Keeps.ite (validate_keeps (by assumption)) (endGroup_keeps (applyCopy_keeps (validate_keeps (by assumption))))))))

theorem tickGroups_keeps {s t : State} (h : Keeps s t) : Keeps s (tickGroups t) := by
  unfold tickGroups
  exact over_keeps (by assumption) (fun _ => fun _ => fun _ => tickGroup_keeps (by assumption))

theorem armGroup_keeps {s t : State} {a0} (h : Keeps s t) : Keeps s (armGroup a0 t) := by
  unfold armGroup
  exact Keeps.ite (wb_keeps (by assumption)) (wb_keeps (wb_keeps (wb_keeps (mk_keeps (over_keeps (by assumption) (fun _ => fun _ => fun _ => wb_keeps (wb_keeps (by assumption)))) (.refl _)))))

theorem cgCtrl_keeps {s t : State} {a0 a1 a2} (h : Keeps s t) : Keeps s (cgCtrl a0 a1 a2 t) := by
  unfold cgCtrl
  exact Keeps.ite (Keeps.ite (Keeps.ite (armGroup_keeps (cancelGroup_keeps (by assumption))) (cancelGroup_keeps (by assumption))) (Keeps.ite (wb_keeps (by assumption)) (by assumption))) (Keeps.ite (armGroup_keeps (by assumption)) (by assumption))

theorem setSys_keeps {s t : State} {a1} (h : Keeps s t) : Keeps s (State.setSys t a1) := by
  unfold State.setSys
  exact mk_keeps (by assumption) (.refl _)

theorem modeResult_keeps {s t : State} {a0} (h : Keeps s t) : Keeps s (modeResult a0 t) := by
  unfold modeResult
  exact wf_keeps (wf_keeps (by assumption))

theorem showModePend_keeps {s t : State} (h : Keeps s t) : Keeps s (showModePend t) := by
  unfold showModePend
  exact (by split; {exact wf_keeps (wf_keeps (wb_keeps (by assumption)))}; {exact wf_keeps (wb_keeps (by assumption))})

theorem modeRefused_keeps {s t : State} {a0} (h : Keeps s t) : Keeps s (modeRefused a0 t) := by
  unfold modeRefused
  exact irq_keeps (modeResult_keeps (by assumption))

theorem modeApply_keeps {s t : State} {a0} (h : Keeps s t) : Keeps s (modeApply a0 t) := by
  unfold modeApply
  exact Keeps.ite (setSys_keeps (Keeps.ite (setMode_keeps (setSys_keeps (by assumption))) (Keeps.ite (setMode_keeps (setSys_keeps (by assumption))) (setMode_keeps (setSys_keeps (by assumption)))))) (Keeps.ite (setMode_keeps (setSys_keeps (by assumption))) (Keeps.ite (setMode_keeps (setSys_keeps (by assumption))) (setMode_keeps (setSys_keeps (by assumption)))))

theorem modeTick_keeps {s t : State} (h : Keeps s t) : Keeps s (modeTick t) := by
  unfold modeTick
  extract_lets +onlyGivenNames -merge -useContext x; clear_value x; extract_lets +onlyGivenNames -merge -useContext x; have : Keeps s x := setSys_keeps (by assumption); clear_value x; with_reducible apply Keeps.ite; {exact showModePend_keeps (Keeps.ite (wb_keeps (Keeps.ite (modeResult_keeps (setSys_keeps (setSys_keeps (by assumption)))) (setSys_keeps (by assumption)))) (setMode_keeps (Keeps.ite (modeResult_keeps (setSys_keeps (setSys_keeps (by assumption)))) (setSys_keeps (by assumption)))))}; {extract_lets +onlyGivenNames -merge -useContext x; have : Keeps s x := setSys_keeps (by assumption); clear_value x; exact (by split; {exact Keeps.ite (by assumption) (showModePend_keeps (Keeps.ite (modeRefused_keeps (setSys_keeps (by assumption))) (modeResult_keeps (modeApply_keeps (setSys_keeps (by assumption))))))}; {assumption})}

theorem modeRequest_keeps {s t : State} {a0} (h : Keeps s t) : Keeps s (modeRequest a0 t).2 := by
  unfold modeRequest
  exact Keeps.ite2 (Keeps.pair (modeRefused_keeps (by assumption))) (Keeps.pair (showModePend_keeps (modeResult_keeps (setSys_keeps (Keeps.ite (modeResult_keeps (by assumption)) (by assumption))))))

theorem sysModeReq_keeps {s t : State} {a0 a1 a2 a3} (h : Keeps s t) : Keeps s (sysModeReq a0 a1 a2 a3 t) := by
  unfold sysModeReq
  exact Keeps.ite (by assumption) (Keeps.ite (Keeps.ite (setSys_keeps (by assumption)) (modeRefused_keeps (by assumption))) (modeRequest_keeps (by assumption)))

theorem safeRequest_keeps {s t : State} {a0} (h : Keeps s t) : Keeps s (safeRequest a0 t) := by
  unfold safeRequest
  exact modeRequest_keeps (by assumption)

theorem autoRequest_keeps {s t : State} (h : Keeps s t) : Keeps s (autoRequest t) := by
  unfold autoRequest
  exact Keeps.ite (by assumption) (Keeps.ite (safeRequest_keeps (by assumption)) (Keeps.ite (safeRequest_keeps (by assumption)) (Keeps.ite (safeRequest_keeps (by assumption)) (by assumption))))

theorem commissionDone_keeps {s t : State} (h : Keeps s t) : Keeps s (commissionDone t).2.2 := by
  unfold commissionDone
  exact Keeps.ite3 (by assumption) (Keeps.ite3 (by assumption) (Keeps.pair3 (Keeps.pair (countersTx_keeps (by assumption)))))

theorem commissionReset_keeps {s t : State} {a0} (h : Keeps s t) : Keeps s (commissionReset a0 t).2 := by
  unfold commissionReset
  exact Keeps.ite2 (Keeps.pair (countersTx_keeps (by assumption))) (by assumption)

theorem quietTick_keeps {s t : State} (h : Keeps s t) : Keeps s (quietTick t) := by
  unfold quietTick
  exact setSys_keeps (by assumption)

theorem netLoss_keeps {s t : State} (h : Keeps s t) : Keeps s (netLoss t) := by
  unfold netLoss
  exact Keeps.ite (safeRequest_keeps (by assumption)) (by assumption)

theorem setSched_keeps {s t : State} {a1} (h : Keeps s t) : Keeps s (State.setSched t a1) := by
  unfold State.setSched
  exact mk_keeps (by assumption) (.refl _)

theorem schedResult_keeps {s t : State} {a0} (h : Keeps s t) : Keeps s (schedResult a0 t) := by
  unfold schedResult
  exact wr_keeps (by assumption)

theorem showSched_keeps {s t : State} (h : Keeps s t) : Keeps s (showSched t) := by
  unfold showSched
  exact wr_keeps (wr_keeps (wr_keeps (by assumption)))

theorem schedWrite_keeps {s t : State} {a0} (h : Keeps s t) : Keeps s (schedWrite a0 t) := by
  unfold schedWrite
  exact Keeps.ite (schedResult_keeps (by assumption)) (Keeps.ite (schedResult_keeps (by assumption)) (showSched_keeps (schedResult_keeps (put_keeps (by assumption)))))

theorem schedDelete_keeps {s t : State} {a0} (h : Keeps s t) : Keeps s (schedDelete a0 t) := by
  unfold schedDelete
  exact Keeps.ite (schedResult_keeps (by assumption)) (showSched_keeps (schedResult_keeps (put_keeps (by assumption))))

theorem schedRead_keeps {s t : State} {a0} (h : Keeps s t) : Keeps s (schedRead a0 t) := by
  unfold schedRead
  exact Keeps.ite (schedResult_keeps (by assumption)) (schedResult_keeps (wrWords_keeps (by assumption)))

theorem schedCmd_keeps {s t : State} {a0 a1} (h : Keeps s t) : Keeps s (schedCmd a0 a1 t) := by
  unfold schedCmd
  exact (by split; {exact schedWrite_keeps (by assumption)}; {exact schedDelete_keeps (by assumption)}; {exact schedRead_keeps (by assumption)}; {exact schedResult_keeps (by assumption)})

theorem schedDue_keeps {s t : State} (h : Keeps s t) : Keeps s (schedDue t) := by
  unfold schedDue
  exact (by split; {exact wr_keeps (by assumption)}; {exact wr_keeps (wr_keeps (wr_keeps (wf_keeps (setSched_keeps (by assumption)))))})

theorem schedAct_keeps {s t : State} {a0 a1} (h : Keeps s t) : Keeps s (schedAct a0 a1 t).2 := by
  unfold schedAct
  exact Keeps.ite2 (Keeps.pair (Keeps.ite (modeRequest_keeps (by assumption)) (auditAdd_keeps (modeRequest_keeps (by assumption))))) (Keeps.ite2 (Keeps.pair (pwrTarget_keeps (by assumption))) (by assumption))

theorem schedQueue_keeps {s t : State} {a0} (h : Keeps s t) : Keeps s (schedQueue a0 t) := by
  unfold schedQueue
  exact Keeps.ite (irq_keeps (wb_keeps (irq_keeps (by assumption)))) (wf_keeps (setSched_keeps (irq_keeps (by assumption))))

theorem schedRun_keeps {s t : State} {a0 a1 a3} (h : Keeps s t) : Keeps s (schedRun a0 a1 t a3) := by
  unfold schedRun
  exact Keeps.ite (by assumption) (schedQueue_keeps (irqIf_keeps (irqIf_keeps (stAdd_keeps (stAdd_keeps (put_keeps (put_keeps (Keeps.ite (put_keeps (Keeps.ite2 (by assumption) (schedAct_keeps (by assumption)))) (put_keeps (put_keeps (Keeps.ite2 (by assumption) (schedAct_keeps (by assumption)))))))))))))

theorem schedTick_keeps {s t : State} {a0} (h : Keeps s t) : Keeps s (schedTick a0 t) := by
  unfold schedTick
  exact setSched_keeps (Keeps.ite (showSched_keeps (over_keeps (by assumption) (fun _ => fun _ => fun _ => schedRun_keeps (by assumption)))) (by assumption))

theorem servoLocked_keeps {s t : State} (h : Keeps s t) : Keeps s (servoLocked t) := by
  unfold servoLocked
  exact Keeps.ite (setTim_keeps (by assumption)) (Keeps.ite (enterFollow_keeps (setTim_keeps (by assumption))) (Keeps.ite (setTim_keeps (by assumption)) (raise_keeps (irq_keeps (wb_keeps (setTim_keeps (by assumption)))))))

theorem setServo_keeps {s t : State} {a0} (h : Keeps s t) : Keeps s (setServo a0 t) := by
  unfold setServo
  exact Keeps.ite (by assumption) (Keeps.ite (servoLocked_keeps (Keeps.ite (enterHoldover_keeps (Keeps.ite (setTim_keeps (setTim_keeps (irq_keeps (wr_keeps (by assumption))))) (setTim_keeps (irq_keeps (wr_keeps (by assumption)))))) (Keeps.ite (setTim_keeps (setTim_keeps (irq_keeps (wr_keeps (by assumption))))) (setTim_keeps (irq_keeps (wr_keeps (by assumption))))))) (Keeps.ite (enterHoldover_keeps (Keeps.ite (setTim_keeps (setTim_keeps (irq_keeps (wr_keeps (by assumption))))) (setTim_keeps (irq_keeps (wr_keeps (by assumption)))))) (Keeps.ite (setTim_keeps (setTim_keeps (irq_keeps (wr_keeps (by assumption))))) (setTim_keeps (irq_keeps (wr_keeps (by assumption)))))))

theorem applyMeas_keeps {s t : State} (h : Keeps s t) : Keeps s (applyMeas t) := by
  unfold applyMeas
  exact setNtRate_keeps (stAdd_keeps (setTim_keeps (Keeps.ite (setTim_keeps (by assumption)) (by assumption))))

theorem countLock_keeps {s t : State} (h : Keeps s t) : Keeps s (countLock t) := by
  unfold countLock
  exact Keeps.ite (setServo_keeps (wf_keeps (by assumption))) (wf_keeps (by assumption))

theorem submit_keeps {s t : State} (h : Keeps s t) : Keeps s (submit t) := by
  unfold submit
  extract_lets +onlyGivenNames -merge -useContext x; have : Keeps s x := stw_keeps (setTim_keeps (by assumption)); clear_value x; exact (by split; {exact countLock_keeps (applyMeas_keeps (setServo_keeps (by assumption)))}; {exact countLock_keeps (applyMeas_keeps (setServo_keeps (by assumption)))}; {exact Keeps.ite (Keeps.ite (stAdd_keeps (setTim_keeps (by assumption))) (countLock_keeps (applyMeas_keeps (setServo_keeps (by assumption))))) (applyMeas_keeps (setTim_keeps (by assumption)))}; {exact countLock_keeps (applyMeas_keeps (by assumption))})

theorem measCtrl_keeps {s t : State} {a0 a1} (h : Keeps s t) : Keeps s (measCtrl a0 a1 t) := by
  unfold measCtrl
  exact Keeps.ite (setServo_keeps (Keeps.ite (submit_keeps (by assumption)) (by assumption))) (Keeps.ite (submit_keeps (by assumption)) (by assumption))

theorem stepRecord_keeps {s t : State} {a0} (h : Keeps s t) : Keeps s (stepRecord a0 t) := by
  unfold stepRecord
  exact auditAdd_keeps (by assumption)

theorem stepCmd_keeps {s t : State} {a0 a1} (h : Keeps s t) : Keeps s (stepCmd a0 a1 t) := by
  unfold stepCmd
  exact Keeps.ite (by assumption) (Keeps.ite (setTim_keeps (by assumption)) (Keeps.ite (stepRecord_keeps (enterFollow_keeps (setTim_keeps (by assumption)))) (by assumption)))

theorem epochWrite_keeps {s t : State} {a0 a1} (h : Keeps s t) : Keeps s (epochWrite a0 a1 t) := by
  unfold epochWrite
  exact Keeps.ite (by assumption) (setTim_keeps (by assumption))

theorem showTsq_keeps {s t : State} (h : Keeps s t) : Keeps s (showTsq t) := by
  unfold showTsq
  exact irqIf_keeps (wf_keeps (by assumption))

theorem tsqPop_keeps {s t : State} (h : Keeps s t) : Keeps s (tsqPop t) := by
  unfold tsqPop
  exact (by split; {exact wr_keeps (by assumption)}; {exact showTsq_keeps (wr_keeps (wr_keeps (wr_keeps (setTim_keeps (by assumption)))))})

theorem timeRead_keeps {s t : State} {a0} (h : Keeps s t) : Keeps s (timeRead a0 t) := by
  unfold timeRead
  exact Keeps.ite (wr_keeps (wr_keeps (by assumption))) (Keeps.ite (wr_keeps (wr_keeps (by assumption))) (Keeps.ite (wr_keeps (wr_keeps (wr_keeps (by assumption)))) (Keeps.ite (tsqPop_keeps (by assumption)) (Keeps.ite (showTime_keeps (by assumption)) (by assumption)))))

theorem ntTick_keeps {s t : State} (h : Keeps s t) : Keeps s (ntTick t) := by
  unfold ntTick
  exact stw_keeps (stw_keeps (Keeps.ite (setNtRate_keeps (by assumption)) (by assumption)))

theorem tsqPush_keeps {s t : State} {a0 a1 a2} (h : Keeps s t) : Keeps s (tsqPush a0 a1 a2 t) := by
  unfold tsqPush
  exact Keeps.ite (raise_keeps (irq_keeps (wb_keeps (by assumption)))) (showTsq_keeps (setTim_keeps (by assumption)))

theorem servoHoldover_keeps {s t : State} (h : Keeps s t) : Keeps s (servoHoldover t) := by
  unfold servoHoldover
  exact Keeps.ite (setServo_keeps (by assumption)) (by assumption)

end Sys2Proof.Machine
end

