-- ==== Sys2Proof/Laws/Keeps08.lean ====
section
/-! SUPPORT. Every operation of Network, Session keeps what `Keeps` says. -/

namespace Sys2Proof.Machine

theorem setNet_keeps {s t : State} {a1} (h : Keeps s t) : Keeps s (State.setNet t a1) := by
  unfold State.setNet
  exact mk_keeps (by assumption) (.refl _)

theorem setPort_keeps {s t : State} {a1 a2} (h : Keeps s t) : Keeps s (State.setPort t a1 a2) := by
  unfold State.setPort
  exact setNet_keeps (by assumption)

theorem parentCheck_keeps {s t : State} (h : Keeps s t) : Keeps s (parentCheck t) := by
  unfold parentCheck
  exact (by split; {assumption}; {exact Keeps.ite (setServo_keeps (setNet_keeps (by assumption))) (setNet_keeps (by assumption))})

theorem announceRx_keeps {s t : State} {a0 a1} (h : Keeps s t) : Keeps s (announceRx a0 a1 t) := by
  unfold announceRx
  exact (by split; {exact Keeps.ite (parentCheck_keeps (setPort_keeps (by assumption))) (by assumption)}; {assumption})

theorem enqueue_keeps {s t : State} {a0 a1} (h : Keeps s t) : Keeps s (enqueue a0 a1 t) := by
  unfold enqueue
  exact setPort_keeps (by assumption)

theorem answerPdelay_keeps {s t : State} {a0 a1} (h : Keeps s t) : Keeps s (answerPdelay a0 a1 t) := by
  unfold answerPdelay
  exact Keeps.ite (enqueue_keeps (by assumption)) (by assumption)

theorem showFdb_keeps {s t : State} (h : Keeps s t) : Keeps s (showFdb t) := by
  unfold showFdb
  exact wr_keeps (by assumption)

theorem swFlush_keeps {s t : State} {a0 a1} (h : Keeps s t) : Keeps s (swFlush a0 a1 t) := by
  unfold swFlush
  exact Keeps.ite (by assumption) (showFdb_keeps (stAdd_keeps (setNet_keeps (by assumption))))

theorem setMrp_keeps {s t : State} {a0 a1} (h : Keeps s t) : Keeps s (setMrp a0 a1 t) := by
  unfold setMrp
  exact Keeps.ite (by assumption) (irq_keeps (wf_keeps (by assumption)))

theorem ringChanged_keeps {s t : State} {a0 a1} (h : Keeps s t) : Keeps s (ringChanged a0 a1 t) := by
  unfold ringChanged
  exact over_keeps (by assumption) (fun _ => fun _ => fun _ => Keeps.ite (setMrp_keeps (by assumption)) (Keeps.ite (setMrp_keeps (by assumption)) (Keeps.ite (setMrp_keeps (by assumption)) (by assumption))))

theorem deliverNet_keeps {s t : State} {a0 a1 a2} (h : Keeps s t) : Keeps s (deliverNet a0 a1 a2 t) := by
  unfold deliverNet
  exact setNet_keeps (by assumption)

theorem fdbAge_keeps {s t : State} {a0} (h : Keeps s t) : Keeps s (fdbAge a0 t) := by
  unfold fdbAge
  exact showFdb_keeps (setNet_keeps (by assumption))

theorem forward_keeps {s t : State} {a0 a1 a2} (h : Keeps s t) : Keeps s (forward a0 a1 a2 t) := by
  unfold forward
  extract_lets +onlyGivenNames -merge -useContext x; clear_value x; extract_lets +onlyGivenNames -merge -useContext x; clear_value x; extract_lets +onlyGivenNames -merge -useContext x; have : Keeps s x := over_keeps (by assumption) (fun _ => fun _ => fun _ => enqueue_keeps (by assumption)); clear_value x; extract_lets +onlyGivenNames -merge -useContext x; have : Keeps s x := Keeps.ite (by assumption) (stAdd_keeps (by assumption)); clear_value x; exact (by split; {exact deliverNet_keeps (by assumption)}; {exact Keeps.ite (deliverNet_keeps (by assumption)) (by assumption)})

theorem learn_keeps {s t : State} {a0 a1} (h : Keeps s t) : Keeps s (learn a0 a1 t) := by
  unfold learn
  exact Keeps.ite (by assumption) (Keeps.ite (setNet_keeps (by assumption)) (Keeps.ite (irq_keeps (by assumption)) (showFdb_keeps (setNet_keeps (by assumption)))))

theorem linkAgain_keeps {s t : State} {a0} (h : Keeps s t) : Keeps s (linkAgain a0 t) := by
  unfold linkAgain
  exact setPort_keeps (over_keeps (by assumption) (fun _ => fun _ => fun _ => enqueue_keeps (by assumption)))

theorem linkTell_keeps {s t : State} {a0 a1} (h : Keeps s t) : Keeps s (linkTell a0 a1 t) := by
  unfold linkTell
  exact setPort_keeps (Keeps.ite (enqueue_keeps (by assumption)) (by assumption))

theorem mrpFlush_keeps {s t : State} (h : Keeps s t) : Keeps s (mrpFlush t) := by
  unfold mrpFlush
  exact (by split; {exact Keeps.ite (showFdb_keeps (stAdd_keeps (setNet_keeps (by assumption)))) (by assumption)}; {assumption})

theorem mrpRx_keeps {s t : State} {a0 a1 a2} (h : Keeps s t) : Keeps s (mrpRx a0 a1 a2 t) := by
  unfold mrpRx
  exact (by split; {exact over_keeps (setNet_keeps (wr_keeps (irq_keeps (stAdd_keeps (Keeps.ite (stAdd_keeps (enqueue_keeps (by assumption))) (by assumption)))))) (fun _ => fun _ => fun _ => Keeps.ite (setMrp_keeps (by assumption)) (by assumption))}; {exact Keeps.ite (stAdd_keeps (enqueue_keeps (by assumption))) (by assumption)})

theorem mrpTimeout_keeps {s t : State} {a0} (h : Keeps s t) : Keeps s (mrpTimeout a0 t) := by
  unfold mrpTimeout
  exact Keeps.ite (setMrp_keeps (by assumption)) (by assumption)

theorem netePost_keeps {s t : State} {a0 a1 a2} (h : Keeps s t) : Keeps s (netePost a0 a1 a2 t) := by
  unfold netePost
  exact Keeps.ite (when_keeps (by assumption) (enqueue_keeps (by assumption))) (Keeps.ite (over_keeps (by assumption) (fun _ => fun _ => fun _ => enqueue_keeps (by assumption))) (stAdd_keeps (over_keeps (by assumption) (fun _ => fun _ => fun _ => enqueue_keeps (by assumption)))))

theorem pdelay_keeps {s t : State} {a0 a1} (h : Keeps s t) : Keeps s (pdelay a0 a1 t) := by
  unfold pdelay
  exact Keeps.ite (by assumption) ((by split; {exact stAdd_keeps (wf_keeps (wr_keeps (setPort_keeps (enqueue_keeps (setPort_keeps (by assumption))))))}; {exact Keeps.ite (raise_keeps (irq_keeps (wf_keeps (wf_keeps (setPort_keeps (enqueue_keeps (setPort_keeps (by assumption)))))))) (wf_keeps (setPort_keeps (enqueue_keeps (setPort_keeps (by assumption)))))}))

theorem portLink_keeps {s t : State} {a0 a1 a2 a3 a4 a5} (h : Keeps s t) : Keeps s (portLink a0 a1 a2 a3 a4 a5 t) := by
  unfold portLink
  exact Keeps.ite (by assumption) (Keeps.ite (wr_keeps (by assumption)) (Keeps.ite (Keeps.ite (linkTell_keeps (setMrp_keeps (setPort_keeps (Keeps.ite (setNet_keeps (irq_keeps (wr_keeps (by assumption)))) (irq_keeps (wr_keeps (by assumption))))))) (setPort_keeps (Keeps.ite (setNet_keeps (irq_keeps (wr_keeps (by assumption)))) (irq_keeps (wr_keeps (by assumption)))))) (raise_keeps (Keeps.ite (linkTell_keeps (setMrp_keeps (setPort_keeps (Keeps.ite (setNet_keeps (irq_keeps (wr_keeps (by assumption)))) (irq_keeps (wr_keeps (by assumption))))))) (setPort_keeps (Keeps.ite (setNet_keeps (irq_keeps (wr_keeps (by assumption)))) (irq_keeps (wr_keeps (by assumption)))))))))

theorem storm_keeps {s t : State} {a0 a1} (h : Keeps s t) : Keeps s (storm a0 a1 t).2 := by
  unfold storm
  exact Keeps.ite2 (by assumption) (Keeps.ite2 (Keeps.pair (irq_keeps (stAdd_keeps (setPort_keeps (by assumption))))) (Keeps.pair (setPort_keeps (by assumption))))

theorem portRx_keeps {s t : State} {a0 a1} (h : Keeps s t) : Keeps s (portRx a0 a1 t) := by
  unfold portRx
  exact Keeps.ite (by assumption) (Keeps.ite (stAdd_keeps (by assumption)) (Keeps.ite (storm_keeps (stAdd_keeps (by assumption))) (Keeps.ite (storm_keeps (stAdd_keeps (by assumption))) (Keeps.ite (mrpRx_keeps (storm_keeps (stAdd_keeps (by assumption)))) (Keeps.ite (deliverNet_keeps (Keeps.ite (answerPdelay_keeps (storm_keeps (stAdd_keeps (by assumption)))) (storm_keeps (stAdd_keeps (by assumption))))) (announceRx_keeps (forward_keeps (learn_keeps (storm_keeps (stAdd_keeps (by assumption)))))))))))

theorem portTx_keeps {s t : State} {a b} (h : Keeps s t) : Keeps s (portTx a b t) := by
  unfold portTx
  extract_lets u v
  have hu : Keeps s u := by
    unfold u
    split
    · exact netePost_keeps h
    · exact h
  have hv : Keeps s v := linkAgain_keeps hu
  clear_value v u
  with_reducible apply Keeps.ite hu
  split
  · exact hv
  · split
    · exact hv
    · extract_lets f w x y
      have hw : Keeps s w := setPort_keeps hv
      clear_value w
      have hx : Keeps s x := stAdd_keeps hw
      clear_value x
      have hy : Keeps s y := Keeps.ite (stAdd_keeps hx) hx
      clear_value y
      split
      · exact tsqPush_keeps hy
      · exact hy

theorem wakeBeacon_keeps {s t : State} {a0 a1 a2} (h : Keeps s t) : Keeps s (wakeBeacon a0 a1 a2 t) := by
  unfold wakeBeacon
  exact Keeps.ite (wake_keeps (irq_keeps (setNet_keeps (by assumption)))) (by assumption)

theorem setSes_keeps {s t : State} {a1} (h : Keeps s t) : Keeps s (State.setSes t a1) := by
  unfold State.setSes
  exact mk_keeps (by assumption) (.refl _)

theorem setSess_keeps {s t : State} {a0 a1} (h : Keeps s t) : Keeps s (setSess a0 a1 t) := by
  unfold setSess
  exact setSes_keeps (by assumption)

theorem installKeys_keeps {s t : State} {i} (h : Keeps s t) : Keeps s (installKeys i t).2 := by
  unfold installKeys
  split
  · exact h
  · split
    · exact h
    · with_reducible apply Keeps.ite2
      · exact h
      · split
        with_reducible apply Keeps.pair
        exact setSess_keeps (Keeps.of_pair (by assumption) (fresh_keeps h))

theorem recResult_keeps {s t : State} {a0} (h : Keeps s t) : Keeps s (recResult a0 t) := by
  unfold recResult
  exact wf_keeps (by assumption)

theorem recInstall_keeps {s t : State} {a0} (h : Keeps s t) : Keeps s (recInstall a0 t) := by
  unfold recInstall
  exact recResult_keeps (installKeys_keeps (by assumption))

theorem keyUpdate_keeps {s t : State} {a0} (h : Keeps s t) : Keeps s (keyUpdate a0 t) := by
  unfold keyUpdate
  exact (by split; {exact recResult_keeps (by assumption)}; {exact (by split; {exact recResult_keeps (by assumption)}; {exact (by split; exact recResult_keeps (setSess_keeps (Keeps.of_pair (by assumption) (fresh_keeps (by assumption)))))})})

theorem recErase_keeps {s t : State} {a0} (h : Keeps s t) : Keeps s (recErase a0 t) := by
  unfold recErase
  exact (by split; {exact recResult_keeps (by assumption)}; {exact (by split; {exact recResult_keeps (by assumption)}; {exact recResult_keeps (setSess_keeps (by assumption))})})

theorem recCmd_keeps {s t : State} {a0 a1} (h : Keeps s t) : Keeps s (recCmd a0 a1 t) := by
  unfold recCmd
  exact (by split; {exact recInstall_keeps (by assumption)}; {exact keyUpdate_keeps (by assumption)}; {exact recErase_keeps (by assumption)}; {assumption})

theorem attest_keeps {s t : State} {a0} (h : Keeps s t) : Keeps s (attest a0 t).2.2 := by
  unfold attest
  exact (by split; {exact Keeps.ite3 (by assumption) (by assumption)}; {assumption})

theorem clearHs_keeps {s t : State} {a0} (h : Keeps s t) : Keeps s (clearHs a0 t) := by
  unfold clearHs
  exact (by split; {exact keyPut_keeps (keyPut_keeps (wr_keeps (wr_keeps (by assumption))))}; {assumption})

theorem putEntry_keeps {s t : State} {a0 a1} (h : Keeps s t) : Keeps s (putEntry a0 a1 t) := by
  unfold putEntry
  exact safePut_keeps (by assumption)

theorem entrySet_keeps {s t : State} {a0 a1 a2} (h : Keeps s t) : Keeps s (entrySet a0 a1 a2 t) := by
  unfold entrySet
  exact putEntry_keeps (by assumption)

theorem clearToken_keeps {s t : State} {a0} (h : Keeps s t) : Keeps s (clearToken a0 t) := by
  unfold clearToken
  exact setSess_keeps (entrySet_keeps (entrySet_keeps (flushSums_keeps (by assumption))))

theorem showSess_keeps {s t : State} (h : Keeps s t) : Keeps s (showSess t) := by
  unfold showSess
  exact wr_keeps (by assumption)

theorem newSess_keeps {s t : State} {a0 a1 a2 a3} (h : Keeps s t) : Keeps s (newSess a0 a1 a2 a3 t) := by
  unfold newSess
  exact (by split; exact (by split; exact showSess_keeps (putEntry_keeps (setSes_keeps (Keeps.of_pair (by assumption) (draw_keeps (Keeps.of_pair (by assumption) (fresh_keeps (by assumption)))))))))

theorem clientHello_keeps {s t : State} {a0 a1 a2 a3} (h : Keeps s t) : Keeps s (clientHello a0 a1 a2 a3 t) := by
  unfold clientHello
  exact Keeps.ite (by assumption) (Keeps.ite (irq_keeps (stAdd_keeps (by assumption))) (Keeps.ite (newSess_keeps (by assumption)) (by assumption)))

theorem setHead_keeps {s t : State} {a0 a1} (h : Keeps s t) : Keeps s (setHead a0 a1 t) := by
  unfold setHead
  exact setSes_keeps (by assumption)

theorem headRetry_keeps {s t : State} {a0} (h : Keeps s t) : Keeps s (headRetry a0 t) := by
  unfold headRetry
  exact setHead_keeps (by assumption)

theorem closeSess_keeps {s t : State} {a0} (h : Keeps s t) : Keeps s (closeSess a0 t) := by
  unfold closeSess
  exact (by split; {assumption}; {exact showSess_keeps ((by split; {exact headRetry_keeps (setSes_keeps (putEntry_keeps (flushSums_keeps (clearHs_keeps (by assumption)))))}; {exact setSes_keeps (putEntry_keeps (flushSums_keeps (clearHs_keeps (by assumption))))}))})

theorem recDrop_keeps {s t : State} {a0} (h : Keeps s t) : Keeps s (recDrop a0 t) := by
  unfold recDrop
  exact Keeps.ite (irq_keeps (wf_keeps (stAdd_keeps (by assumption)))) (stAdd_keeps (by assumption))

theorem dtlsRecord_keeps {s t : State} {a0 a1} (h : Keeps s t) : Keeps s (dtlsRecord a0 a1 t) := by
  unfold dtlsRecord
  with_reducible apply Keeps.ite; {assumption}; {extract_lets +onlyGivenNames -merge -useContext x; clear_value x; exact (by split; {exact recDrop_keeps (by assumption)}; {exact Keeps.ite (recDrop_keeps (closeSess_keeps (by assumption))) (Keeps.ite (recDrop_keeps (by assumption)) ((by split; {exact recDrop_keeps (by assumption)}; {exact (by split; {exact recDrop_keeps (by assumption)}; {exact Keeps.ite (recDrop_keeps (by assumption)) (Keeps.ite (stAdd_keeps (setSess_keeps (stAdd_keeps (entrySet_keeps (setSess_keeps (by assumption)))))) (stAdd_keeps (stAdd_keeps (entrySet_keeps (setSess_keeps (by assumption))))))})})))})}

theorem verdict_keeps {s t : State} {a0 a1 a2 a3} (h : Keeps s t) : Keeps s (verdict a0 a1 a2 a3 t).2 := by
  unfold verdict
  exact Keeps.ite2 (by assumption) (Keeps.ite2 (by assumption) (Keeps.ite2 (by assumption) (Keeps.ite2 (Keeps.pair (sumsOut_keeps (setSess_keeps (by assumption)))) (Keeps.pair (auditAdd_keeps (by assumption))))))

theorem updRecord_keeps {s : State} {r i c} {t : Nat × State} (h : Keeps s t.2) : Keeps s (updRecord r i c t).2 := by
  unfold updRecord
  exact Keeps.ite2 (Keeps.pair (auditAdd_keeps (by assumption))) (by assumption)

theorem presentToken_keeps {s t : State} {a0 a1 a2} (h : Keeps s t) : Keeps s (presentToken a0 a1 a2 t).2.2 := by
  unfold presentToken
  split; {assumption}; {extract_lets +onlyGivenNames -merge -useContext x; clear_value x; extract_lets +onlyGivenNames -merge -useContext x; clear_value x; exact (by split; {exact Keeps.pair3 (Keeps.pair (acceptFloor_keeps (setSess_keeps (entrySet_keeps (entrySet_keeps (flushSums_keeps (auditToken_keeps (tokResult_keeps (by assumption)))))))))}; {exact Keeps.pair3 (Keeps.pair (auditToken_keeps (tokResult_keeps (by assumption))))})}

theorem rcvExit_keeps {s t : State} {a0 a1} (h : Keeps s t) : Keeps s (rcvExit a0 a1 t).2.2 := by
  unfold rcvExit
  extract_lets +onlyGivenNames -merge -useContext x; clear_value x; exact (by split; {exact Keeps.ite3 (Keeps.pair3 (Keeps.pair (auditAdd_keeps (countersTx_keeps (acceptFloor_keeps (newNonce_keeps (auditToken_keeps (tokResult_keeps (by assumption))))))))) (Keeps.pair3 (Keeps.pair (acceptFloor_keeps (newNonce_keeps (auditToken_keeps (tokResult_keeps (by assumption)))))))}; {exact Keeps.pair3 (Keeps.pair (newNonce_keeps (auditToken_keeps (tokResult_keeps (by assumption)))))})

theorem sectionPut_keeps {s t : State} {a0 a1 a2 a3} (h : Keeps s t) : Keeps s (sectionPut a0 a1 a2 a3 t).2 := by
  unfold sectionPut
  exact Keeps.ite2 (by assumption) (Keeps.pair ((by split; {exact setSys_keeps (setNv_keeps ((by split; {exact otpRaise_keeps (by assumption)}; {assumption})) (fun _ => nvMk_keeps (.refl _)))}; {exact setSys_keeps (setNv_keeps ((by split; {exact otpRaise_keeps (by assumption)}; {assumption})) (fun _ => nvMk_keeps (.refl _)))}; {exact setNv_keeps (setNv_keeps ((by split; {exact otpRaise_keeps (by assumption)}; {assumption})) (fun _ => nvMk_keeps (.refl _))) (fun _ => nvMk_keeps (.refl _))}; {exact setNv_keeps ((by split; {exact otpRaise_keeps (by assumption)}; {assumption})) (fun _ => nvMk_keeps (.refl _))})))

theorem sectionInstall_keeps {s t : State} {a0 a1 a2} (h : Keeps s t) : Keeps s (sectionInstall a0 a1 a2 t).2 := by
  unfold sectionInstall
  exact (by split; {assumption}; {exact sectionPut_keeps (by assumption)})

theorem payloadPut_keeps {s t : State} {a0 a1 a2} (h : Keeps s t) : Keeps s (payloadPut a0 a1 a2 t) := by
  unfold payloadPut
  exact setNv_keeps (by assumption) (fun _ => nvMk_keeps (.refl _))

theorem runOp_keeps {s t : State} {a0 a1} (h : Keeps s t) : Keeps s (runOp a0 a1 t).2.2 := by
  unfold runOp
  exact (by split; {exact Keeps.ite3 (by assumption) (by assumption)}; {exact presentToken_keeps (by assumption)}; {exact Keeps.pair3 (Keeps.pair (clearToken_keeps (by assumption)))}; {exact attest_keeps (by assumption)}; {exact Keeps.pair3 (Keeps.pair (stepCmd_keeps (by assumption)))}; {exact Keeps.pair3 (Keeps.pair (modeRequest_keeps (by assumption)))}; {exact commissionDone_keeps (by assumption)}; {exact Keeps.pair3 (Keeps.pair (commissionReset_keeps (by assumption)))}; {exact Keeps.pair3 (Keeps.pair (updRecord_keeps (updBegin_keeps (by assumption))))}; {exact Keeps.pair3 (Keeps.pair (updRecord_keeps (updData_keeps (by assumption))))}; {exact Keeps.pair3 (Keeps.pair (updRecord_keeps (updVerify_keeps (by assumption))))}; {exact Keeps.pair3 (Keeps.pair (updRecord_keeps (updActivate_keeps (by assumption))))}; {exact Keeps.pair3 (Keeps.pair (updRecord_keeps (updConfirm_keeps (by assumption))))}; {exact Keeps.pair3 (Keeps.pair (updRecord_keeps (updAbort_keeps (by assumption))))}; {exact Keeps.ite3 (by assumption) (Keeps.pair3 (Keeps.pair (auditExport_keeps (by assumption))))}; {exact Keeps.pair3 (Keeps.pair (auditAck_keeps (by assumption)))}; {exact Keeps.ite3 (by assumption) (Keeps.pair3 (Keeps.pair (newNonce_keeps (by assumption))))}; {exact rcvExit_keeps (by assumption)}; {exact Keeps.pair3 (Keeps.pair (sectionInstall_keeps (by assumption)))}; {exact Keeps.pair3 (Keeps.pair (setNv_keeps (by assumption) (fun _ => nvMk_keeps (.refl _))))}; {exact Keeps.pair3 (Keeps.pair (payloadPut_keeps (by assumption)))}; {exact (by split; {assumption}; {assumption})}; {exact Keeps.pair3 (Keeps.pair (certInstall_keeps (by assumption)))}; {exact Keeps.pair3 (Keeps.pair (rootInstall_keeps (by assumption)))}; {exact Keeps.pair3 (Keeps.pair (dirInstall_keeps (by assumption)))}; {exact Keeps.pair3 (Keeps.pair (countersTx_keeps (by assumption)))})

theorem sendResp_keeps {s t : State} {a0 a1} (h : Keeps s t) : Keeps s (sendResp a0 a1 t) := by
  unfold sendResp
  exact setSes_keeps (by assumption)

theorem respond_keeps {s t : State} {a0 a1} (h : Keeps s t) : Keeps s (respond a0 a1 t) := by
  unfold respond
  exact sendResp_keeps (setSess_keeps (by assumption))

theorem execOp_keeps {s t : State} {a0 a1 a2 a3} (h : Keeps s t) : Keeps s (execOp a0 a1 a2 a3 t) := by
  unfold execOp
  exact Keeps.ite (respond_keeps (Keeps.ite2 (by assumption) (verdict_keeps (by assumption)))) (respond_keeps (runOp_keeps (Keeps.ite2 (by assumption) (verdict_keeps (by assumption)))))

theorem expireToken_keeps {s t : State} {a0} (h : Keeps s t) : Keeps s (expireToken a0 t) := by
  unfold expireToken
  exact Keeps.ite (clearToken_keeps (by assumption)) (by assumption)

theorem svcShow_keeps {s t : State} (h : Keeps s t) : Keeps s (svcShow t) := by
  unfold svcShow
  exact wf_keeps (by assumption)

theorem svcEnd_keeps {s t : State} {a0 a1 a2} (h : Keeps s t) : Keeps s (svcEnd a0 a1 a2 t) := by
  unfold svcEnd
  exact svcShow_keeps (wf_keeps (safePut_keeps (safePut_keeps (safePut_keeps (by assumption)))))

theorem svcOther_keeps {s t : State} {a0} (h : Keeps s t) : Keeps s (svcOther a0 t) := by
  unfold svcOther
  exact svcEnd_keeps (Keeps.ite3 (attest_keeps (by assumption)) (Keeps.ite3 (by assumption) (Keeps.pair3 (Keeps.pair (auditExport_keeps (by assumption))))))

theorem svcPoll_keeps {s t : State} {n} (h : Keeps s t) : Keeps s (svcPoll n t) := by
  induction n generalizing t with
  | zero => exact h
  | succ n ih =>
    rw [svcPoll]
    split
    · exact h
    · exact ih (svcOther_keeps h)

theorem svcTick_keeps {s t : State} (h : Keeps s t) : Keeps s (svcTick t) := by
  unfold svcTick
  exact Keeps.ite (by assumption) (svcPoll_keeps (by assumption))

theorem withSess_keeps {s t : State} {a0 a1 a2} (h : Keeps s t) (h2 : ∀ x0 u, Keeps s u → Keeps s (a2 x0 u)) : Keeps s (withSess a0 a1 a2 t) := by
  unfold withSess
  exact (by split; {assumption}; {exact Keeps.ite (closeSess_keeps (by assumption)) (Keeps.ite (h2 _ _ (by assumption)) (by assumption))})

theorem handshakeDone_keeps {s t : State} {a0 a1 a2} (h : Keeps s t) : Keeps s (handshakeDone a0 a1 a2 t) := by
  unfold handshakeDone
  exact withSess_keeps (by assumption) (fun _ => fun _ => fun _ => Keeps.ite (closeSess_keeps (by assumption)) ((by split; exact showSess_keeps (stAdd_keeps ((by split; {exact setHead_keeps (entrySet_keeps (entrySet_keeps (setSess_keeps (clearHs_keeps (Keeps.of_pair (by assumption) (fresh_keeps (by assumption)))))))}; {exact entrySet_keeps (entrySet_keeps (setSess_keeps (clearHs_keeps (Keeps.of_pair (by assumption) (fresh_keeps (by assumption))))))}))))))

theorem handshakeStart_keeps {s t : State} {a0 a1 a2 a3} (h : Keeps s t) : Keeps s (handshakeStart a0 a1 a2 a3 t) := by
  unfold handshakeStart
  exact Keeps.ite (newSess_keeps (by assumption)) (by assumption)

theorem keyShare_keeps {s t : State} {a0 a1 a2 a3} (h : Keeps s t) : Keeps s (keyShare a0 a1 a2 a3 t).2.2 := by
  unfold keyShare
  extract_lets +onlyGivenNames -merge -useContext x; subst x; extract_lets +onlyGivenNames -merge -useContext x; clear_value x; extract_lets +onlyGivenNames -merge -useContext x; clear_value x; with_reducible apply Keeps.ite3; {assumption}; {with_reducible apply Keeps.ite3; {exact Keeps.pair3 (Keeps.pair (keyPut_keeps (keyPut_keeps (wr_keeps (wr_keeps (by assumption))))))}; {extract_lets +onlyGivenNames -merge -useContext x; clear_value x; extract_lets +onlyGivenNames -merge -useContext x; clear_value x; extract_lets +onlyGivenNames -merge -useContext x; clear_value x; exact (by split; {assumption}; {exact Keeps.ite3 (Keeps.pair3 (Keeps.pair (keyPut_keeps (keyPut_keeps (wr_keeps (wr_keeps (by assumption))))))) (Keeps.ite3 (Keeps.pair3 (Keeps.pair (keyPut_keeps (keyPut_keeps (wr_keeps (wr_keeps (by assumption))))))) (by assumption))})}}

theorem olderList_keeps {s t : State} {a0 a1 a2} (h : Keeps s t) : Keeps s (olderList a0 a1 a2 t) := by
  unfold olderList
  exact (by split; {exact Keeps.ite (setSess_keeps (by assumption)) (by assumption)}; {assumption})

theorem sessionIdle_keeps {s t : State} {a0} (h : Keeps s t) : Keeps s (sessionIdle a0 t) := by
  unfold sessionIdle
  exact (by split; {assumption}; {exact Keeps.ite (closeSess_keeps (by assumption)) (by assumption)})

theorem svcRun_keeps {s t : State} {a0 a1 a2} (h : Keeps s t) (h2 : ∀  u, Keeps s u → Keeps s (a2 u).2.2) : Keeps s (svcRun a0 a1 a2 t) := by
  unfold svcRun
  extract_lets +onlyGivenNames -merge -useContext x; have : Keeps s x := svcPoll_keeps (by assumption); clear_value x; with_reducible apply Keeps.ite; {assumption}; {extract_lets +onlyGivenNames -merge -useContext x; have : Keeps s x.2.2 := h2 _ (by assumption); clear_value x; exact svcEnd_keeps (by assumption)}

theorem svcInstall_keeps {s t : State} {a0} (h : Keeps s t) : Keeps s (svcInstall a0 t) := by
  unfold svcInstall
  exact svcRun_keeps (by assumption) (fun _ => fun _ => Keeps.pair3 (Keeps.pair (installKeys_keeps (by assumption))))

theorem svcKeyshare_keeps {s t : State} {a0 a1} (h : Keeps s t) : Keeps s (svcKeyshare a0 a1 t) := by
  unfold svcKeyshare
  exact svcRun_keeps (by assumption) (fun _ => fun _ => (by split; {exact (by split; {exact Keeps.ite3 (by assumption) ((by split; exact (by split; exact keyShare_keeps (Keeps.of_pair (by assumption) (draw_keeps (Keeps.of_pair (by assumption) (draw_keeps (by assumption))))))))}; {assumption})}; {assumption}))

theorem svcSign_keeps {s t : State} {a0} (h : Keeps s t) : Keeps s (svcSign a0 t) := by
  unfold svcSign
  exact svcRun_keeps (by assumption) (fun _ => fun _ => Keeps.ite3 (by assumption) (by assumption))

theorem svcUpdate_keeps {s t : State} {a0 a1} (h : Keeps s t) : Keeps s (svcUpdate a0 a1 t) := by
  unfold svcUpdate
  with_reducible apply svcRun_keeps; {assumption}; {intro _; intro _; extract_lets +onlyGivenNames -merge -useContext x; clear_value x; exact (by split; {assumption}; {exact Keeps.ite3 (Keeps.pair3 (Keeps.pair (expireToken_keeps (by assumption)))) (Keeps.ite3 (Keeps.pair3 (Keeps.pair (expireToken_keeps (by assumption)))) (Keeps.ite3 (Keeps.pair3 (Keeps.pair (expireToken_keeps (by assumption)))) (runOp_keeps (expireToken_keeps (by assumption)))))})}

theorem svcVerdict_keeps {s t : State} {a0} (h : Keeps s t) : Keeps s (svcVerdict a0 t) := by
  unfold svcVerdict
  exact svcRun_keeps (by assumption) (fun _ => fun _ => (by split; {exact Keeps.pair3 (Keeps.pair (verdict_keeps (expireToken_keeps (by assumption))))}; {assumption}))

theorem svcVerify_keeps {s t : State} {a0} (h : Keeps s t) : Keeps s (svcVerify a0 t) := by
  unfold svcVerify
  exact svcRun_keeps (by assumption) (fun _ => fun _ => presentToken_keeps (by assumption))

theorem waordObjects_keeps {s t : State} {a0 a1 a2 a3 a4} (h : Keeps s t) : Keeps s (waordObjects a0 a1 a2 a3 a4 t) := by
  unfold waordObjects
  with_reducible apply withSess_keeps; {assumption}; {intro _; intro _; intro _; extract_lets +onlyGivenNames -merge -useContext x; have : Keeps s x := expireToken_keeps (by assumption); clear_value x; extract_lets +onlyGivenNames -merge -useContext x; have : Keeps s x.2 := verdict_keeps (by assumption); clear_value x; with_reducible apply Keeps.ite; {assumption}; {extract_lets +onlyGivenNames -merge -useContext x; have : Keeps s x := olderList_keeps (by assumption); clear_value x; exact (by split; {assumption}; {exact Keeps.ite (setSess_keeps (engineWrite_keeps (by assumption))) (glmPost_keeps (setSess_keeps (engineWrite_keeps (by assumption))))})}}

theorem waordRequest_keeps {s t : State} {a0 a1 a2} (h : Keeps s t) : Keeps s (waordRequest a0 a1 a2 t) := by
  unfold waordRequest
  exact withSess_keeps (by assumption) (fun _ => fun _ => fun _ => (by split; {exact sendResp_keeps (by assumption)}; {exact execOp_keeps (expireToken_keeps (by assumption))}))

theorem waordSafety_keeps {s t : State} {a0 a1 a2 a3} (h : Keeps s t) : Keeps s (waordSafety a0 a1 a2 a3 t) := by
  unfold waordSafety
  exact withSess_keeps (by assumption) (fun _ => fun _ => fun _ => Keeps.ite (by assumption) (execOp_keeps (expireToken_keeps (Keeps.ite (raise_keeps (irq_keeps (setSess_keeps (by assumption)))) (setSess_keeps (by assumption))))))

end Sys2Proof.Machine
end

