-- ==== Sys2Proof/Laws/Keeps09.lean ====
section
/-! SUPPORT. Every operation of RegWrite, Startup, Tick, HostSpi keeps what `Keeps` says. -/

namespace Sys2Proof.Machine

theorem abortFreely_keeps {s t : State} {a0 a1 a2} (h : Keeps s t) : Keeps s (abortFreely a0 a1 a2 t) := by
  unfold abortFreely
  exact (by split; exact (by split; exact dmvAbortHook_keeps (Keeps.of_pair (by assumption) (fresh_keeps (Keeps.of_pair (by assumption) (fresh_keeps (by assumption)))))))

theorem rstCmd_keeps {s t : State} {a0 a1} (h : Keeps s t) : Keeps s (rstCmd a0 a1 t) := by
  unfold rstCmd
  exact Keeps.ite (chipReset_keeps (by assumption)) (by assumption)

theorem freely_keeps {s t : State} {g : Bool → Hook} {o w} (h : Keeps s t) (h0 : ∀ x y z u, Keeps s u → Keeps s (g x y z u)) : Keeps s (freely g o w t) := by
  unfold freely
  exact (by split; exact h0 _ _ _ _ (Keeps.of_pair (by assumption) (fresh_keeps (by assumption))))

theorem drvCtrl_keeps {s t : State} {a0 a1} (h : Keeps s t) : Keeps s (drvCtrl a0 a1 t) := by
  unfold drvCtrl
  exact pushProbe_keeps (by assumption)

theorem ctlCtrl_keeps {s t : State} {a0 a1} (h : Keeps s t) : Keeps s (ctlCtrl a0 a1 t) := by
  unfold ctlCtrl
  exact loopsOff_keeps (by assumption)

/-- A register's own effect keeps what every operation keeps. -/
def HookKeeps (f : Hook) : Prop := ∀ (s t : State) (x y : Word), Keeps s t → Keeps s (f x y t)

theorem HookKeeps.ite {c : Prop} [Decidable c] {f g : Hook} (hf : HookKeeps f) (hg : HookKeeps g) : HookKeeps (if c then f else g) := by
  split <;> assumption

theorem HookKeeps.pick {n : Nat} {f : Fin n → Nat} {h : Fin n → Hook} {a : Nat} {k : Hook} (hh : ∀ x, HookKeeps (h x)) (hk : HookKeeps k) :
    HookKeeps (Machine.pick f h a k) := by
  unfold Machine.pick; split
  · exact hh _
  · exact hk

theorem HookKeeps.freely {h : Bool → Hook} (hh : ∀ b, HookKeeps (h b)) : HookKeeps (Machine.freely h) :=
  fun _ _ _ _ g => freely_keeps g fun b _ _ _ k => hh b _ _ _ _ k

theorem hookLow_keeps {i a} : HookKeeps (hookLow i a) := by
  unfold hookLow
  extract_lets
  repeat' first
    | with_reducible apply HookKeeps.ite
    | with_reducible apply HookKeeps.pick
    | with_reducible apply HookKeeps.freely
    | intro _
    | with_reducible exact rstCmd_keeps (by assumption)
    | with_reducible exact sysModeReq_keeps (by assumption)
    | with_reducible exact cgCtrl_keeps (by assumption)
    | with_reducible exact noHook_keeps (by assumption)
    | with_reducible exact pwrCmd_keeps (by assumption)
    | with_reducible exact levelReq_keeps (by assumption)
    | with_reducible exact levelClear_keeps (by assumption)
    | with_reducible exact thmCtrl_keeps (by assumption)
    | with_reducible exact thmThr_keeps (by assumption)
    | with_reducible exact thmClear_keeps (by assumption)
    | with_reducible exact errRelease_keeps (by assumption)
    | with_reducible exact forceSrc_keeps (by assumption)
    | with_reducible exact cfgWritten_keeps (by assumption)
    | with_reducible exact statClear_keeps (by assumption)
    | with_reducible exact logRead_keeps (by assumption)
    | with_reducible exact nvmTxCmd_keeps (by assumption)
    | with_reducible exact xspiCmd_keeps (by assumption)
    | with_reducible exact keyCmd_keeps (by assumption)
    | with_reducible exact recCmd_keeps (by assumption)
    | with_reducible exact otpCmd_keeps (by assumption)

theorem hookMid_keeps {i a} : HookKeeps (hookMid i a) := by
  unfold hookMid
  extract_lets
  repeat' first
    | with_reducible apply HookKeeps.ite
    | with_reducible apply HookKeeps.pick
    | with_reducible apply HookKeeps.freely
    | intro _
    | with_reducible exact measCtrl_keeps (by assumption)
    | with_reducible exact stepCmd_keeps (by assumption)
    | with_reducible exact epochWrite_keeps (by assumption)
    | with_reducible exact noHook_keeps (by assumption)
    | with_reducible exact ringChanged_keeps (by assumption)
    | with_reducible exact vinCtrl_keeps (by assumption)
    | with_reducible exact swFlush_keeps (by assumption)
    | with_reducible exact schedCmd_keeps (by assumption)
    | with_reducible exact crcRunWrite_keeps (by assumption)
    | with_reducible exact crcCfgWrite_keeps (by assumption)
    | with_reducible exact lookCmd_keeps (by assumption)
    | with_reducible exact lookCtrl_keeps (by assumption)
    | with_reducible exact cmpFlipArm_keeps (by assumption)
    | with_reducible exact lyrFlip_keeps (by assumption)
    | with_reducible exact sclKick_keeps (by assumption)
    | with_reducible exact fenceSetHook_keeps (by assumption)
    | with_reducible exact bufCmd_keeps (by assumption)
    | with_reducible exact rmapCmd_keeps (by assumption)
    | with_reducible exact snapCmd_keeps (by assumption)
    | with_reducible exact dthWrite_keeps (by assumption)
    | with_reducible exact glmPost_keeps (by assumption)
    | with_reducible exact glmCtrl_keeps (by assumption)

theorem hookHigh_keeps {a} : HookKeeps (hookHigh a) := by
  unfold hookHigh
  extract_lets
  repeat' first
    | with_reducible apply HookKeeps.ite
    | with_reducible apply HookKeeps.pick
    | with_reducible apply HookKeeps.freely
    | intro _
    | with_reducible exact scnCtrl_keeps (by assumption)
    | with_reducible exact divTag_keeps (by assumption)
    | with_reducible exact noHook_keeps (by assumption)
    | with_reducible exact splCtrl_keeps (by assumption)
    | with_reducible exact splCtrlCmd_keeps (by assumption)
    | with_reducible exact cvClear_keeps (by assumption)
    | with_reducible exact drvCtrl_keeps (by assumption)
    | with_reducible exact defDelete_keeps (by assumption)
    | with_reducible exact fnKill_keeps (by assumption)
    | with_reducible exact fnClear_keeps (by assumption)
    | with_reducible exact patCtrl_keeps (by assumption)
    | with_reducible exact progWrite_keeps (by assumption)
    | with_reducible exact kWrite_keeps (by assumption)
    | with_reducible exact ctlCtrl_keeps (by assumption)
    | with_reducible exact loopCmd_keeps (by assumption)
    | with_reducible exact rcWrite_keeps (by assumption)
    | with_reducible exact nrgCtrl_keeps (by assumption)
    | with_reducible exact nrgAllow_keeps (by assumption)
    | with_reducible exact nrgAccCtrl_keeps (by assumption)
    | with_reducible exact daliTx_keeps (by assumption)

theorem hookTop_keeps {i a} : HookKeeps (hookTop i a) := by
  unfold hookTop
  extract_lets
  repeat' first
    | with_reducible apply HookKeeps.ite
    | with_reducible apply HookKeeps.pick
    | with_reducible apply HookKeeps.freely
    | intro _
    | with_reducible exact h2dSet_keeps (by assumption)
    | with_reducible exact d2hSet_keeps (by assumption)
    | with_reducible exact gpioSet_keeps (by assumption)
    | with_reducible exact gpioClr_keeps (by assumption)
    | with_reducible exact gpioDir_keeps (by assumption)
    | with_reducible exact gpioOut_keeps (by assumption)
    | with_reducible exact gpioOutWrite_keeps (by assumption)
    | with_reducible exact hartEn_keeps (by assumption)
    | with_reducible exact hartRst_keeps (by assumption)
    | with_reducible exact wdogWrite_keeps (by assumption)
    | with_reducible exact noHook_keeps (by assumption)
    | with_reducible exact dmvCtrl_keeps (by assumption)
    | with_reducible exact dmvPost_keeps (by assumption)
    | with_reducible exact abortFreely_keeps (by assumption)

theorem hookOf_keeps {i a s t x y} (h : Keeps s t) : Keeps s (hookOf i a x y t) := by
  have : HookKeeps (hookOf i a) := by
    unfold hookOf
    extract_lets
    refine .ite (fun _ _ _ _ h => forcePage_keeps h) (.ite hookLow_keeps (.ite hookMid_keeps (.ite hookHigh_keeps hookTop_keeps)))
  exact this _ _ _ _ h

theorem regWrite_keeps {s t : State} {a0 a1 a2} (h : Keeps s t) : Keeps s (regWrite a0 a1 a2 t) := by
  unfold regWrite
  exact gateWrite_keeps h fun _ _ _ h => hookOf_keeps h

theorem readData_keeps {s t : State} {a0} (h : Keeps s t) : Keeps s (readData a0 t) := by
  unfold readData
  exact Keeps.ite (progRead_keeps (by assumption)) (Keeps.ite (kRead_keeps (by assumption)) (Keeps.ite (dthRead_keeps (by assumption)) (Keeps.ite (wr_keeps (by assumption)) (Keeps.ite (Keeps.ite (rcRead_keeps (by assumption)) (by assumption)) ((by split; {exact Keeps.ite (mk_keeps (by assumption) (.refl _)) (busData_keeps (by assumption))}; {assumption}))))))

theorem readFirst_keeps {s t : State} {a0} (h : Keeps s t) : Keeps s (readFirst a0 t) := by
  unfold readFirst
  exact Keeps.ite (timeRead_keeps (by assumption)) (Keeps.ite (showFreq_keeps (idleWake_keeps (levelSettled_keeps (by assumption)))) (Keeps.ite (showSched_keeps (by assumption)) (Keeps.ite (wr_keeps (wr_keeps (by assumption))) (Keeps.ite (showAges_keeps (by assumption)) (Keeps.ite (nrgRead_keeps (by assumption)) (Keeps.ite (daliRead_keeps (by assumption)) (Keeps.ite (schedDue_keeps (by assumption)) (Keeps.ite (wr_keeps (by assumption)) (Keeps.ite (wr_keeps (by assumption)) (Keeps.ite (wr_keeps (by assumption)) (Keeps.ite (gpioShow_keeps (by assumption)) (Keeps.ite (rawRead_keeps (by assumption)) (Keeps.ite ((by split; {exact crcStatRead_keeps (by assumption)}; {assumption})) (Keeps.ite ((by split; {exact fsTimeRead_keeps (by assumption)}; {assumption})) (by assumption)))))))))))))))

theorem regRead_keeps {s t : State} {a0 a1} (h : Keeps s t) : Keeps s (regRead a0 a1 t) := by
  unfold regRead
  exact gateRead_keeps (Keeps.ite (readFirst_keeps (by assumption)) (by assumption)) (fun _ => fun _ => readData_keeps (by assumption))

theorem busRead_keeps {s t : State} {i a n} (h : Keeps s t) : Keeps s (busRead i a n t) := by
  unfold busRead
  generalize regionOf a = r
  split
  · exact Keeps.ite (regRead_keeps h) (Keeps.ite (raiseBus_keeps (busErr_keeps h)) (busErr_keeps h))
  · exact Keeps.ite (raiseBus_keeps (busErr_keeps h)) (Keeps.ite (plicRead_keeps h) (busErr_keeps h))
  · exact memRead_keeps h

theorem regAccess_keeps {s t : State} {a0 a1 a2 a3} (h : Keeps s t) : Keeps s (regAccess a0 a1 a2 a3 t) := by
  unfold regAccess
  exact Keeps.ite (regWrite_keeps (by assumption)) (Keeps.ite (raiseBus_keeps (busErr_keeps (by assumption))) (Keeps.ite (raiseBus_keeps (busErr_keeps (by assumption))) (busErr_keeps (by assumption))))

theorem busWrite_keeps {s t : State} {i a l} (h : Keeps s t) : Keeps s (busWrite i a l t) := by
  unfold busWrite
  generalize regionOf a = r
  split
  · exact regAccess_keeps h
  · exact Keeps.ite (raiseBus_keeps (busOk_keeps h)) (Keeps.ite (plicWrite_keeps h) (busErr_keeps h))
  · exact memWrite_keeps h

theorem startReason_keeps {s t : State} {a0} (h : Keeps s t) : Keeps s (startReason a0 t) := by
  unfold startReason
  exact irq_keeps (wf_keeps (by assumption))

theorem startEnds_keeps {s t : State} {a0} (h : Keeps s t) : Keeps s (startEnds a0 t) := by
  unfold startEnds
  exact startReason_keeps (setSys_keeps (by assumption))

theorem completeStep_keeps {s t : State} {a0} (h : Keeps s t) : Keeps s (completeStep a0 t) := by
  unfold completeStep
  exact Keeps.ite (by assumption) (wf_keeps (wr_keeps (by assumption)))

theorem startTick_keeps {s t : State} (h : Keeps s t) : Keeps s (startTick t) := by
  unfold startTick
  exact Keeps.ite (startEnds_keeps (setSys_keeps (by assumption))) ((by split; {exact Keeps.ite (setSys_keeps (completeStep_keeps (setSys_keeps (by assumption)))) (setSys_keeps (by assumption))}; {exact setSys_keeps (by assumption)}))

theorem applyPhase_keeps {s t : State} {a0} (h : Keeps s t) : Keeps s (applyPhase a0 t) := by
  unfold applyPhase
  exact setSys_keeps (over_keeps (over_keeps (by assumption) (fun _ => fun _ => fun _ => regWrite_keeps (by assumption))) (fun _ => fun _ => fun _ => regWrite_keeps (by assumption)))

theorem auditBoot_keeps {s t : State} (h : Keeps s t) : Keeps s (auditBoot t) := by
  unfold auditBoot
  exact Keeps.ite (by assumption) (auditAdd_keeps (raise_keeps (irq_keeps (by assumption))))

theorem bootKeys_keeps {s t : State} {a0 a1} (h : Keeps s t) : Keeps s (bootKeys a0 a1 t) := by
  unfold bootKeys
  exact wb_keeps (wb_keeps (Keeps.ite (over_keeps (Keeps.ite (wr_keeps (wr_keeps (wr_keeps (wr_keeps (Keeps.ite (setSec_keeps (by assumption)) (by assumption)))))) (raise_keeps (irq_keeps (Keeps.ite (setSec_keeps (by assumption)) (by assumption))))) (fun _ => fun _ => fun _ => wr_keeps (by assumption))) (Keeps.ite (raise_keeps (Keeps.ite (wr_keeps (wr_keeps (wr_keeps (wr_keeps (Keeps.ite (setSec_keeps (by assumption)) (by assumption)))))) (raise_keeps (irq_keeps (Keeps.ite (setSec_keeps (by assumption)) (by assumption)))))) (Keeps.ite (wr_keeps (wr_keeps (wr_keeps (wr_keeps (Keeps.ite (setSec_keeps (by assumption)) (by assumption)))))) (raise_keeps (irq_keeps (Keeps.ite (setSec_keeps (by assumption)) (by assumption))))))))

theorem quarantineAgain_keeps {s t : State} {a0} (h : Keeps s t) : Keeps s (quarantineAgain a0 t) := by
  unfold quarantineAgain
  exact Keeps.ite (wf_keeps (wf_keeps (irq_keeps (wf_keeps (wb_keeps (by assumption)))))) (runRecovery_keeps (wf_keeps (wf_keeps (irq_keeps (wf_keeps (wb_keeps (by assumption)))))))

theorem bootTo_keeps {s t : State} {a0} (h : Keeps s t) : Keeps s (bootTo a0 t) := by
  unfold bootTo
  exact Keeps.ite (wf_keeps (by assumption)) (auditAdd_keeps (wf_keeps (by assumption)))

theorem bootMode_keeps {s t : State} {a0} (h : Keeps s t) : Keeps s (bootMode a0 t) := by
  unfold bootMode
  exact Keeps.ite (quarantineEnter_keeps (by assumption)) (Keeps.ite (quarantineAgain_keeps (by assumption)) (Keeps.ite (bootTo_keeps (by assumption)) (bootTo_keeps (by assumption))))

theorem bootRelease_keeps {s t : State} (h : Keeps s t) : Keeps s (bootRelease t) := by
  unfold bootRelease
  exact wb_keeps (wr_keeps (by assumption))

theorem bootPrepare_keeps {s t : State} {a0 a1 a2 a3} (h : Keeps s t) : Keeps s (bootPrepare a0 a1 a2 a3 t) := by
  unfold bootPrepare
  exact wb_keeps (wb_keeps (newNonce_keeps (newNonce_keeps (newNonce_keeps (drbgReseed_keeps (bootKeys_keeps (setSec_keeps (flashProbe_keeps (nvShow_keeps (journalScan_keeps (Keeps.ite (loadDirectory_keeps (otpLoad_keeps (otpShow_keeps (bootRelease_keeps (by assumption))))) (otpLoad_keeps (otpShow_keeps (bootRelease_keeps (by assumption)))))))))))))))

theorem recoveryBoot_keeps {s t : State} (h : Keeps s t) : Keeps s (recoveryBoot t) := by
  unfold recoveryBoot
  exact Keeps.ite (by assumption) ((by split; {exact imageFail_keeps (imageFail_keeps (by assumption))}; {exact bootImage_keeps (Keeps.ite (by assumption) (imageFail_keeps (by assumption)))}))

theorem bootStart_keeps {s t : State} {a0} (h : Keeps s t) : Keeps s (bootStart a0 t) := by
  unfold bootStart
  exact xspiProtect_keeps (wr_keeps (wr_keeps (recoveryBoot_keeps (bootImage_keeps (imageLoad_keeps (Keeps.ite (by assumption) (imageFail_keeps (by assumption))))))))

theorem startProgress_keeps {s t : State} (h : Keeps s t) : Keeps s (startProgress t) := by
  unfold startProgress
  exact Keeps.ite (wf_keeps (over_keeps (by assumption) (fun _ => fun _ => fun _ => Keeps.ite (completeStep_keeps (by assumption)) (by assumption)))) (over_keeps (by assumption) (fun _ => fun _ => fun _ => Keeps.ite (completeStep_keeps (by assumption)) (by assumption)))

theorem lateSelfTest_keeps {s t : State} {a0} (h : Keeps s t) : Keeps s (lateSelfTest a0 t) := by
  unfold lateSelfTest
  exact Keeps.ite (by assumption) (Keeps.ite (setSys_keeps (by assumption)) (raise_keeps (setSys_keeps (by assumption))))

theorem mainVerified_keeps {s t : State} (h : Keeps s t) : Keeps s (mainVerified t) := by
  unfold mainVerified
  exact Keeps.ite (by assumption) (Keeps.ite (completeStep_keeps (wr_keeps (wr_keeps (wr_keeps (wr_keeps (wr_keeps (wr_keeps (auditAdd_keeps (bootImage_keeps (imageLoad_keeps (by assumption))))))))))) (Keeps.ite (completeStep_keeps (wr_keeps (wr_keeps (wr_keeps (wr_keeps (wr_keeps (wr_keeps (auditAdd_keeps (bootImage_keeps (imageLoad_keeps (imageFail_keeps (by assumption)))))))))))) (startReason_keeps (quarantineEnter_keeps (imageFail_keeps (imageFail_keeps (by assumption)))))))

theorem powerGood_keeps {s t : State} (h : Keeps s t) : Keeps s (powerGood t) := by
  unfold powerGood
  extract_lets u
  have g : Keeps s u := allOff_keeps h
  exact bootRelease_keeps (wr_keeps (chipReset_keeps ⟨g.pending, g.now, g.canonical, g.nv, .inr rfl⟩))

theorem skipStep_keeps {s t : State} {a0} (h : Keeps s t) : Keeps s (skipStep a0 t) := by
  unfold skipStep
  exact wr_keeps (by assumption)

theorem recordApply_keeps {s t : State} {a0 a1} (h : Keeps s t) : Keeps s (recordApply a0 a1 t) := by
  unfold recordApply
  exact Keeps.ite (lateSelfTest_keeps (by assumption)) (Keeps.ite (by assumption) (Keeps.ite (Keeps.ite (by assumption) (Keeps.ite (startEnds_keeps (raise_keeps (by assumption))) (Keeps.ite (startEnds_keeps (by assumption)) (applyPhase_keeps (setSys_keeps (wr_keeps (by assumption))))))) (Keeps.ite (by assumption) (Keeps.ite (skipStep_keeps (skipStep_keeps (setSys_keeps (completeStep_keeps (applyPhase_keeps (by assumption)))))) (setSys_keeps (completeStep_keeps (applyPhase_keeps (by assumption))))))))

theorem resetPin_keeps {s t : State} (h : Keeps s t) : Keeps s (resetPin t) := by
  unfold resetPin
  exact Keeps.ite (by assumption) (chipReset_keeps (by assumption))

theorem warmSkips_keeps {s t : State} (h : Keeps s t) : Keeps s (warmSkips t) := by
  unfold warmSkips
  exact setSys_keeps (over_keeps (by assumption) (fun _ => fun _ => fun _ => skipStep_keeps (by assumption)))

theorem safeRunning_keeps {s t : State} {a0 a1 a2 a3} (h : Keeps s t) : Keeps s (safeRunning a0 a1 a2 a3 t) := by
  unfold safeRunning
  with_reducible apply Keeps.ite; {assumption}; {extract_lets +onlyGivenNames -merge -useContext x; clear_value x; extract_lets +onlyGivenNames -merge -useContext x; have : Keeps s x := bootPrepare_keeps (by assumption); clear_value x; exact (by split; {exact bootMode_keeps (imageFail_keeps (imageFail_keeps (by assumption)))}; {exact Keeps.ite (warmSkips_keeps (completeStep_keeps (buildPageRights_keeps (bootMode_keeps (auditBoot_keeps (bootStart_keeps (by assumption))))))) (completeStep_keeps (buildPageRights_keeps (bootMode_keeps (auditBoot_keeps (bootStart_keeps (by assumption))))))})}

theorem staggerEnd_keeps {s t : State} (h : Keeps s t) : Keeps s (staggerEnd t) := by
  unfold staggerEnd
  exact Keeps.ite (startProgress_keeps (by assumption)) (setSys_keeps (applyPhase_keeps (startProgress_keeps (by assumption))))

theorem startTimeout_keeps {s t : State} (h : Keeps s t) : Keeps s (startTimeout t) := by
  unfold startTimeout
  exact Keeps.ite (startProgress_keeps (by assumption)) (startReason_keeps (startProgress_keeps (by assumption)))

theorem applyCommits_keeps {s t : State} (h : Keeps s t) : Keeps s (applyCommits t) := by
  unfold applyCommits
  exact loopsOff_keeps (groupsChanged_keeps (Keeps.ite (Keeps.ite (seqChanged_keeps (Keeps.ite (setGlm_keeps (Keeps.ite (pwmApplied_keeps (Keeps.ite (gpioCommit_keeps (tickGroups_keeps (by assumption))) (tickGroups_keeps (by assumption)))) (Keeps.ite (gpioCommit_keeps (tickGroups_keeps (by assumption))) (tickGroups_keeps (by assumption))))) (Keeps.ite (pwmApplied_keeps (Keeps.ite (gpioCommit_keeps (tickGroups_keeps (by assumption))) (tickGroups_keeps (by assumption)))) (Keeps.ite (gpioCommit_keeps (tickGroups_keeps (by assumption))) (tickGroups_keeps (by assumption)))))) (Keeps.ite (setGlm_keeps (Keeps.ite (pwmApplied_keeps (Keeps.ite (gpioCommit_keeps (tickGroups_keeps (by assumption))) (tickGroups_keeps (by assumption)))) (Keeps.ite (gpioCommit_keeps (tickGroups_keeps (by assumption))) (tickGroups_keeps (by assumption))))) (Keeps.ite (pwmApplied_keeps (Keeps.ite (gpioCommit_keeps (tickGroups_keeps (by assumption))) (tickGroups_keeps (by assumption)))) (Keeps.ite (gpioCommit_keeps (tickGroups_keeps (by assumption))) (tickGroups_keeps (by assumption)))))) (showFreq_keeps (unitsAgain_keeps (Keeps.ite (seqChanged_keeps (Keeps.ite (setGlm_keeps (Keeps.ite (pwmApplied_keeps (Keeps.ite (gpioCommit_keeps (tickGroups_keeps (by assumption))) (tickGroups_keeps (by assumption)))) (Keeps.ite (gpioCommit_keeps (tickGroups_keeps (by assumption))) (tickGroups_keeps (by assumption))))) (Keeps.ite (pwmApplied_keeps (Keeps.ite (gpioCommit_keeps (tickGroups_keeps (by assumption))) (tickGroups_keeps (by assumption)))) (Keeps.ite (gpioCommit_keeps (tickGroups_keeps (by assumption))) (tickGroups_keeps (by assumption)))))) (Keeps.ite (setGlm_keeps (Keeps.ite (pwmApplied_keeps (Keeps.ite (gpioCommit_keeps (tickGroups_keeps (by assumption))) (tickGroups_keeps (by assumption)))) (Keeps.ite (gpioCommit_keeps (tickGroups_keeps (by assumption))) (tickGroups_keeps (by assumption))))) (Keeps.ite (pwmApplied_keeps (Keeps.ite (gpioCommit_keeps (tickGroups_keeps (by assumption))) (tickGroups_keeps (by assumption)))) (Keeps.ite (gpioCommit_keeps (tickGroups_keeps (by assumption))) (tickGroups_keeps (by assumption))))))))))

theorem applyModes_keeps {s t : State} (h : Keeps s t) : Keeps s (applyModes t) := by
  unfold applyModes
  exact pushProbe_keeps (modeTick_keeps (startTick_keeps (by assumption)))

theorem beginFrame_keeps {s t : State} {a0} (h : Keeps s t) : Keeps s (beginFrame a0 t) := by
  unfold beginFrame
  exact when_keeps (when_keeps (by assumption) (scanBegin_keeps (glmTick_keeps (latchFrame_keeps (by assumption))))) (lookTick_keeps (when_keeps (by assumption) (scanBegin_keeps (glmTick_keeps (latchFrame_keeps (by assumption))))))

theorem commitDeadline_keeps {s t : State} (h : Keeps s t) : Keeps s (commitDeadline t) := by
  unfold commitDeadline
  exact irq_keeps (patSample_keeps (when_keeps (by assumption) (flipDeadline_keeps (by assumption))))

theorem frameLights_keeps {s t : State} (h : Keeps s t) : Keeps s (frameLights t) := by
  unfold frameLights
  exact Keeps.ite (closeWins_keeps (nrgEnd_keeps (rollFirst_keeps (when_keeps (when_keeps (by assumption) (scanEnd_keeps (by assumption))) (ctlEnd_keeps (when_keeps (by assumption) (scanEnd_keeps (by assumption)))))))) (nrgEnd_keeps (rollFirst_keeps (when_keeps (when_keeps (by assumption) (scanEnd_keeps (by assumption))) (ctlEnd_keeps (when_keeps (by assumption) (scanEnd_keeps (by assumption)))))))

theorem timeStep_keeps {s t : State} {a0} (h : Keeps s t) : Keeps s (timeStep a0 t) := by
  unfold timeStep
  exact Keeps.ite (stepRecord_keeps (timeTick_keeps (by assumption))) (timeTick_keeps (by assumption))

theorem latchStats_keeps {s t : State} (h : Keeps s t) : Keeps s (latchStats t) := by
  unfold latchStats
  extract_lets keys u v
  refine over_keeps ?_ fun _ _ h => wr_keeps h
  have g : Keeps s u := over_keeps h fun _ _ h => wr_keeps h
  refine ⟨g.pending, g.now, fun c => ?_, g.nv, g.tick⟩
  have := (canonical_iff _).1 (g.canonical c)
  have k : v.stat = skeep (fun a => !statLatched u a) u.stat := rfl
  exact (canonical_iff _).2 ⟨this.1, this.2.1, k ▸ swf_skeep (dflt := fun _ => 0#32) _ this.2.2.1, this.2.2.2⟩

theorem hostAudit_keeps {s t : State} {a0 a1} (h : Keeps s t) : Keeps s (hostAudit a0 a1 t) := by
  unfold hostAudit
  exact Keeps.ite (by assumption) (Keeps.ite (sumsOut_keeps (setSec_keeps (by assumption))) (auditAdd_keeps (by assumption)))

theorem hostEnd_keeps {s t : State} {a0 a1} (h : Keeps s t) : Keeps s (hostEnd a0 a1 t) := by
  unfold hostEnd
  exact Keeps.ite (stAdd_keeps (wr_keeps (by assumption))) (stAdd_keeps (wr_keeps (by assumption)))

theorem hostDenied_keeps {s t : State} {a0 a1} (h : Keeps s t) : Keeps s (hostDenied a0 a1 t) := by
  unfold hostDenied
  exact hostEnd_keeps (raiseBus_keeps (busErr_keeps (wr_keeps (irq_keeps (by assumption)))))

theorem hostRead_keeps {s t : State} {a0} (h : Keeps s t) : Keeps s (hostRead a0 t) := by
  unfold hostRead
  exact Keeps.ite (busData_keeps (by assumption)) (Keeps.ite (hostDenied_keeps (by assumption)) (hostEnd_keeps (busRead_keeps (by assumption))))

theorem hostStatus_keeps {s t : State} (h : Keeps s t) : Keeps s (hostStatus t) := by
  unfold hostStatus
  exact Keeps.ite (stAdd_keeps (wr_keeps (busData_keeps (by assumption)))) (busData_keeps (by assumption))

theorem hostStore_keeps {s t : State} {a0 a1} (h : Keeps s t) : Keeps s (hostStore a0 a1 t) := by
  unfold hostStore
  exact Keeps.ite (busOk_keeps (winWrite_keeps (by assumption))) (busWrite_keeps (by assumption))

theorem hostWrite_keeps {s t : State} {a0 a1} (h : Keeps s t) : Keeps s (hostWrite a0 a1 t) := by
  unfold hostWrite
  exact Keeps.ite (by assumption) (Keeps.ite (hostDenied_keeps (by assumption)) (Keeps.ite (hostEnd_keeps (busErr_keeps (by assumption))) (Keeps.ite (hostEnd_keeps (hostStore_keeps (hostAudit_keeps (by assumption)))) (hostStore_keeps (hostAudit_keeps (by assumption))))))

end Sys2Proof.Machine
end

