-- ==== Sys2Proof/Laws/FrameTick.lean ====
section
/-! SUPPORT. A frame tick keeps what every operation keeps, but for the number of the tick. -/

namespace Sys2Proof.Machine

/-- The number of the tick (R13, R420): the one register of time that a frame tick alone moves. -/
theorem advanceTick_base (s : State) : Base s (advanceTick s) := by
  unfold advanceTick
  extract_lets u
  have h : Base s u := ⟨rfl, Nat.le_max_left _ _, id, .refl _⟩
  exact h.trans (setTim_keeps (.refl _)).base

/-- `when` of an operation that keeps what every operation keeps. -/
theorem when_map {s t : State} {c : Bool} {f : State → State} (hf : ∀ {u}, Keeps s u → Keeps s (f u)) (h : Keeps s t) : Keeps s (t.when c f) :=
  when_keeps h (hf h)

/-- After its number a frame tick keeps what every operation keeps. -/
theorem frameTick_after {s : State} (h : (isOff s || pwrState s == 3) = false) : Keeps (advanceTick s) (frameTick s) := by
  unfold frameTick
  rw [h]
  have h0 := Keeps.refl (advanceTick s)
  have h1 := applyCommits_keeps (when_map (c := (levelSettled ((advanceTick s).irq P.SYS 0)).pageOn P.CMP) settleRetires_keeps
    (frameLights_keeps (levelSettled_keeps (irq_keeps (a1 := P.SYS) (a2 := 0) h0))))
  have h2 := applyModes_keeps (when_map (c := (levelSettled ((advanceTick s).irq P.SYS 0)).pageOn P.CMP) applyFlips_keeps h1)
  exact idleWake_keeps (gpioShow_keeps (startProgress_keeps (readyWins_keeps (svcTick_keeps (beginFrame_keeps (showAges_keeps (showXo_keeps
    (thmTick_keeps (nrgTick_keeps (latchStats_keeps (when_map stw_keeps (when_map rmapTick_keeps (retScrub_keeps (auditStep_keeps (quietTick_keeps
    (floorTick_keeps (schedTick_keeps (when_map parentCheck_keeps (when_map syncTick_keeps (ctlTick_keeps (patTick_keeps (timeStep_keeps
    (ntTick_keeps h2)))))))))))))))))))))))

theorem frameTick_base (s : State) : Base s (frameTick s) := by
  cases h : (isOff s || pwrState s == 3)
  · exact (advanceTick_base s).trans (frameTick_after h).base
  · unfold frameTick; rw [h]; exact (Keeps.refl s).base

end Sys2Proof.Machine
end

