-- ==== Sys2Proof/Laws/Commands.lean ====
section
/-! SUPPORT. Every command answers a next state and keeps what `Keeps` says. -/

namespace Sys2Proof.Machine

theorem execRegisterWrite_next {s : State} {a0 a1 a2 a3 a4} : ∃ u, execRegisterWrite a0 a1 a2 a3 a4 s = .next u ∧ Keeps s u := by
  have h := Keeps.refl s
  unfold execRegisterWrite
  refine ⟨_, rfl, ?_⟩
  exact regAccess_keeps (at_keeps (by assumption))

theorem execBusWrite_next {s : State} {a0 a1 a2 a3} : ∃ u, execBusWrite a0 a1 a2 a3 s = .next u ∧ Keeps s u := by
  have h := Keeps.refl s
  unfold execBusWrite
  refine ⟨_, rfl, ?_⟩
  exact busWrite_keeps (at_keeps (by assumption))

theorem execSramRead_next {s : State} {a0 a1 a2 a3} : ∃ u, execSramRead a0 a1 a2 a3 s = .next u ∧ Keeps s u := by
  have h := Keeps.refl s
  unfold execSramRead
  refine ⟨_, rfl, ?_⟩
  exact memRead_keeps (at_keeps (by assumption))

theorem execScrubPass_next {s : State} {a0} : ∃ u, execScrubPass a0 s = .next u ∧ Keeps s u := by
  have h := Keeps.refl s
  unfold execScrubPass
  refine ⟨_, rfl, ?_⟩
  exact scrubPass_keeps (at_keeps (by assumption))

theorem execBusRead_next {s : State} {a0 a1 a2 a3} : ∃ u, execBusRead a0 a1 a2 a3 s = .next u ∧ Keeps s u := by
  have h := Keeps.refl s
  unfold execBusRead
  refine ⟨_, rfl, ?_⟩
  exact busRead_keeps (at_keeps (by assumption))

theorem execLoopSample_next {s : State} {a0 a1 a2} : ∃ u, execLoopSample a0 a1 a2 s = .next u ∧ Keeps s u := by
  have h := Keeps.refl s
  unfold execLoopSample
  refine ⟨_, rfl, ?_⟩
  exact fbChecks_keeps (readyWins_keeps (loopSample_keeps (at_keeps (by assumption))))

theorem execLoopHold_next {s : State} {a0 a1 a2 a3} : ∃ u, execLoopHold a0 a1 a2 a3 s = .next u ∧ Keeps s u := by
  have h := Keeps.refl s
  unfold execLoopHold
  refine ⟨_, rfl, ?_⟩
  exact fbChecks_keeps (gateWrite_keeps (at_keeps (by assumption)) (fun _ => fun _ => fun _ => fun _ => loopCmd_keeps (by assumption)))

theorem execLoopResume_next {s : State} {a0 a1 a2 a3} : ∃ u, execLoopResume a0 a1 a2 a3 s = .next u ∧ Keeps s u := by
  have h := Keeps.refl s
  unfold execLoopResume
  refine ⟨_, rfl, ?_⟩
  exact gateWrite_keeps (at_keeps (by assumption)) (fun _ => fun _ => fun _ => fun _ => loopCmd_keeps (by assumption))

theorem execInjStart_next {s : State} {a0 a1 a2 a3} : ∃ u, execInjStart a0 a1 a2 a3 s = .next u ∧ Keeps s u := by
  have h := Keeps.refl s
  unfold execInjStart
  refine ⟨_, rfl, ?_⟩
  exact gateWrite_keeps (at_keeps (by assumption)) (fun _ => fun _ => fun _ => fun _ => loopCmd_keeps (by assumption))

theorem execInjStop_next {s : State} {a0 a1 a2 a3} : ∃ u, execInjStop a0 a1 a2 a3 s = .next u ∧ Keeps s u := by
  have h := Keeps.refl s
  unfold execInjStop
  refine ⟨_, rfl, ?_⟩
  exact gateWrite_keeps (at_keeps (by assumption)) (fun _ => fun _ => fun _ => fun _ => loopCmd_keeps (by assumption))

theorem execCapArm_next {s : State} {a0 a1 a2 a3} : ∃ u, execCapArm a0 a1 a2 a3 s = .next u ∧ Keeps s u := by
  have h := Keeps.refl s
  unfold execCapArm
  refine ⟨_, rfl, ?_⟩
  exact gateWrite_keeps (at_keeps (by assumption)) (fun _ => fun _ => fun _ => fun _ => loopCmd_keeps (by assumption))

theorem execCapTrig_next {s : State} {a0 a1 a2 a3} : ∃ u, execCapTrig a0 a1 a2 a3 s = .next u ∧ Keeps s u := by
  have h := Keeps.refl s
  unfold execCapTrig
  refine ⟨_, rfl, ?_⟩
  exact gateWrite_keeps (at_keeps (by assumption)) (fun _ => fun _ => fun _ => fun _ => loopCmd_keeps (by assumption))

theorem execCarrierStart_next {s : State} {a0 a1} : ∃ u, execCarrierStart a0 a1 s = .next u ∧ Keeps s u := by
  have h := Keeps.refl s
  unfold execCarrierStart
  refine ⟨_, rfl, ?_⟩
  exact carrierStart_keeps (at_keeps (by assumption))

theorem execAdcConversion_next {s : State} {a0 a1 a2} : ∃ u, execAdcConversion a0 a1 a2 s = .next u ∧ Keeps s u := by
  have h := Keeps.refl s
  unfold execAdcConversion
  refine ⟨_, rfl, ?_⟩
  exact adcConversion_keeps (at_keeps (by assumption))

theorem execDrvCoverage_next {s : State} {a0 a1} : ∃ u, execDrvCoverage a0 a1 s = .next u ∧ Keeps s u := by
  have h := Keeps.refl s
  unfold execDrvCoverage
  refine ⟨_, rfl, ?_⟩
  exact coverage_keeps (at_keeps (by assumption))

theorem execDrvFnKill_next {s : State} {a0 a1 a2} : ∃ u, execDrvFnKill a0 a1 a2 s = .next u ∧ Keeps s u := by
  have h := Keeps.refl s
  unfold execDrvFnKill
  refine ⟨_, rfl, ?_⟩
  exact gateWrite_keeps (at_keeps (by assumption)) (fun _ => fun _ => fun _ => fun _ => fnKill_keeps (by assumption))

theorem execDrvFnClear_next {s : State} {a0 a1 a2} : ∃ u, execDrvFnClear a0 a1 a2 s = .next u ∧ Keeps s u := by
  have h := Keeps.refl s
  unfold execDrvFnClear
  refine ⟨_, rfl, ?_⟩
  exact gateWrite_keeps (at_keeps (by assumption)) (fun _ => fun _ => fun _ => fun _ => fnClear_keeps (by assumption))

theorem execDrvDefDelete_next {s : State} {a0 a1 a2} : ∃ u, execDrvDefDelete a0 a1 a2 s = .next u ∧ Keeps s u := by
  have h := Keeps.refl s
  unfold execDrvDefDelete
  refine ⟨_, rfl, ?_⟩
  exact gateWrite_keeps (at_keeps (by assumption)) (fun _ => fun _ => fun _ => fun _ => defDelete_keeps (by assumption))

theorem execNrgAllowWrite_next {s : State} {a0 a1 a2} : ∃ u, execNrgAllowWrite a0 a1 a2 s = .next u ∧ Keeps s u := by
  have h := Keeps.refl s
  unfold execNrgAllowWrite
  refine ⟨_, rfl, ?_⟩
  exact gateWrite_keeps (at_keeps (by assumption)) (fun _ => fun _ => fun _ => fun _ => nrgAllow_keeps (by assumption))

theorem execEnergyPlanStale_next {s : State} {a0} : ∃ u, execEnergyPlanStale a0 s = .next u ∧ Keeps s u := by
  have h := Keeps.refl s
  unfold execEnergyPlanStale
  refine ⟨_, rfl, ?_⟩
  exact planStale_keeps (at_keeps (by assumption))

theorem execHourRollover_next {s : State} {a0} : ∃ u, execHourRollover a0 s = .next u ∧ Keeps s u := by
  have h := Keeps.refl s
  unfold execHourRollover
  refine ⟨_, rfl, ?_⟩
  exact hourRoll_keeps (at_keeps (by assumption))

theorem execNightRollover_next {s : State} {a0} : ∃ u, execNightRollover a0 s = .next u ∧ Keeps s u := by
  have h := Keeps.refl s
  unfold execNightRollover
  refine ⟨_, rfl, ?_⟩
  exact nightRoll_keeps (at_keeps (by assumption))

theorem execNightRestart_next {s : State} {a0 a1} : ∃ u, execNightRestart a0 a1 s = .next u ∧ Keeps s u := by
  have h := Keeps.refl s
  unfold execNightRestart
  refine ⟨_, rfl, ?_⟩
  exact gateWrite_keeps (at_keeps (by assumption)) (fun _ => fun _ => fun _ => fun _ => nrgAccCtrl_keeps (by assumption))

theorem execDaliTx_next {s : State} {a0 a1 a2} : ∃ u, execDaliTx a0 a1 a2 s = .next u ∧ Keeps s u := by
  have h := Keeps.refl s
  unfold execDaliTx
  refine ⟨_, rfl, ?_⟩
  exact gateWrite_keeps (at_keeps (by assumption)) (fun _ => fun _ => fun _ => fun _ => daliTx_keeps (by assumption))

theorem execDaliPoll_next {s : State} {a0} : ∃ u, execDaliPoll a0 s = .next u ∧ Keeps s u := by
  have h := Keeps.refl s
  unfold execDaliPoll
  refine ⟨_, rfl, ?_⟩
  exact daliPoll_keeps (at_keeps (by assumption))

theorem execDaliTransactionDone_next {s : State} {a0 a1 a2 a3 a4 a5} : ∃ u, execDaliTransactionDone a0 a1 a2 a3 a4 a5 s = .next u ∧ Keeps s u := by
  have h := Keeps.refl s
  unfold execDaliTransactionDone
  refine ⟨_, rfl, ?_⟩
  exact daliDone_keeps (at_keeps (by assumption))

theorem execDaliBusFail_next {s : State} {a0} : ∃ u, execDaliBusFail a0 s = .next u ∧ Keeps s u := by
  have h := Keeps.refl s
  unfold execDaliBusFail
  refine ⟨_, rfl, ?_⟩
  exact daliBusFail_keeps (at_keeps (by assumption))

theorem execXcheckWindow_next {s : State} {a0} : ∃ u, execXcheckWindow a0 s = .next u ∧ Keeps s u := by
  have h := Keeps.refl s
  unfold execXcheckWindow
  refine ⟨_, rfl, ?_⟩
  exact xcheck_keeps (at_keeps (by assumption))

theorem execDaliBusRecovery_next {s : State} {a0} : ∃ u, execDaliBusRecovery a0 s = .next u ∧ Keeps s u := by
  have h := Keeps.refl s
  unfold execDaliBusRecovery
  refine ⟨_, rfl, ?_⟩
  exact daliBusRecover_keeps (at_keeps (by assumption))

theorem execFaultEvent_next {s : State} {a0 a1} : ∃ u, execFaultEvent a0 a1 s = .next u ∧ Keeps s u := by
  have h := Keeps.refl s
  unfold execFaultEvent
  refine ⟨_, rfl, ?_⟩
  exact raise_keeps (at_keeps (by assumption))

theorem execForce_next {s : State} {a0 a1 a2 a3} : ∃ u, execForce a0 a1 a2 a3 s = .next u ∧ Keeps s u := by
  have h := Keeps.refl s
  unfold execForce
  refine ⟨_, rfl, ?_⟩
  exact gateWrite_keeps (at_keeps (by assumption)) (fun _ => fun _ => fun _ => fun _ => forcePage_keeps (by assumption))

theorem execFltForceSrc_next {s : State} {a0 a1 a2} : ∃ u, execFltForceSrc a0 a1 a2 s = .next u ∧ Keeps s u := by
  have h := Keeps.refl s
  unfold execFltForceSrc
  refine ⟨_, rfl, ?_⟩
  exact gateWrite_keeps (at_keeps (by assumption)) (fun _ => fun _ => fun _ => fun _ => forceSrc_keeps (by assumption))

theorem execErrRelease_next {s : State} {a0 a1 a2} : ∃ u, execErrRelease a0 a1 a2 s = .next u ∧ Keeps s u := by
  have h := Keeps.refl s
  unfold execErrRelease
  refine ⟨_, rfl, ?_⟩
  exact gateWrite_keeps (at_keeps (by assumption)) (fun _ => fun _ => fun _ => fun _ => errRelease_keeps (by assumption))

theorem execConsqTmo_next {s : State} {a0} : ∃ u, execConsqTmo a0 s = .next u ∧ Keeps s u := by
  have h := Keeps.refl s
  unfold execConsqTmo
  refine ⟨_, rfl, ?_⟩
  exact conseqTimeout_keeps (at_keeps (by assumption))

theorem execFltCfgCrc_next {s : State} {a0} : ∃ u, execFltCfgCrc a0 s = .next u ∧ Keeps s u := by
  have h := Keeps.refl s
  unfold execFltCfgCrc
  refine ⟨_, rfl, ?_⟩
  exact cfgCheck_keeps (at_keeps (by assumption))

theorem execFltLogRdWrite_next {s : State} {a0 a1 a2} : ∃ u, execFltLogRdWrite a0 a1 a2 s = .next u ∧ Keeps s u := by
  have h := Keeps.refl s
  unfold execFltLogRdWrite
  refine ⟨_, rfl, ?_⟩
  exact gateWrite_keeps (at_keeps (by assumption)) (fun _ => fun _ => fun _ => fun _ => logRead_keeps (by assumption))

theorem execFltStatClear_next {s : State} {a0 a1 a2 a3} : ∃ u, execFltStatClear a0 a1 a2 a3 s = .next u ∧ Keeps s u := by
  have h := Keeps.refl s
  unfold execFltStatClear
  refine ⟨_, rfl, ?_⟩
  exact gateWrite_keeps (at_keeps (by assumption)) (fun _ => fun _ => fun _ => fun _ => statClear_keeps (by assumption))

theorem execCrcSnoopPacket_next {s : State} {a0 a1 a2 a3} : ∃ u, execCrcSnoopPacket a0 a1 a2 a3 s = .next u ∧ Keeps s u := by
  have h := Keeps.refl s
  unfold execCrcSnoopPacket
  refine ⟨_, rfl, ?_⟩
  exact snoop_keeps (at_keeps (by assumption))

theorem execCrcCtxRunWrite_next {s : State} {a0 a1 a2 a3 a4} : ∃ u, execCrcCtxRunWrite a0 a1 a2 a3 a4 s = .next u ∧ Keeps s u := by
  have h := Keeps.refl s
  unfold execCrcCtxRunWrite
  refine ⟨_, rfl, ?_⟩
  exact gateWrite_keeps (at_keeps (by assumption)) (fun _ => fun _ => fun _ => fun _ => crcRunWrite_keeps (by assumption))

theorem execLocalMemoryEccError_next {s : State} {a0 a1} : ∃ u, execLocalMemoryEccError a0 a1 s = .next u ∧ Keeps s u := by
  have h := Keeps.refl s
  unfold execLocalMemoryEccError
  refine ⟨_, rfl, ?_⟩
  exact localEcc_keeps (at_keeps (by assumption))

theorem execFrameTick_next {s : State} : ∃ u, execFrameTick s = .next u ∧ Base s u := ⟨_, rfl, frameTick_base s⟩

theorem execCommitDeadline_next {s : State} : ∃ u, execCommitDeadline s = .next u ∧ Keeps s u := by
  have h := Keeps.refl s
  unfold execCommitDeadline
  refine ⟨_, rfl, ?_⟩
  exact Keeps.ite (by assumption) (commitDeadline_keeps (at_keeps (by assumption)))

theorem execArm_next {s : State} {a0 a1 a2 a3} : ∃ u, execArm a0 a1 a2 a3 s = .next u ∧ Keeps s u := by
  have h := Keeps.refl s
  unfold execArm
  refine ⟨_, rfl, ?_⟩
  exact gateWrite_keeps (at_keeps (by assumption)) (fun _ => fun _ => fun _ => fun _ => cgCtrl_keeps (by assumption))

theorem execCancel_next {s : State} {a0 a1 a2 a3} : ∃ u, execCancel a0 a1 a2 a3 s = .next u ∧ Keeps s u := by
  have h := Keeps.refl s
  unfold execCancel
  refine ⟨_, rfl, ?_⟩
  exact gateWrite_keeps (at_keeps (by assumption)) (fun _ => fun _ => fun _ => fun _ => cgCtrl_keeps (by assumption))

theorem execCommitValidate_next {s : State} {a0 a1 a2} : ∃ u, execCommitValidate a0 a1 a2 s = .next u ∧ Keeps s u := by
  have h := Keeps.refl s
  unfold execCommitValidate
  refine ⟨_, rfl, ?_⟩
  exact validate_keeps (at_keeps (by assumption))

theorem execBlockReset_next {s : State} {a0 a1} : ∃ u, execBlockReset a0 a1 s = .next u ∧ Keeps s u := by
  have h := Keeps.refl s
  unfold execBlockReset
  refine ⟨_, rfl, ?_⟩
  exact Keeps.ite (settle_keeps (resetBlock_keeps (at_keeps (by assumption)))) (at_keeps (by assumption))

theorem execChipReset_next {s : State} {a0 a1 a2} : ∃ u, execChipReset a0 a1 a2 s = .next u ∧ Keeps s u := by
  have h := Keeps.refl s
  unfold execChipReset
  refine ⟨_, rfl, ?_⟩
  exact Keeps.ite (at_keeps (by assumption)) (chipReset_keeps (at_keeps (by assumption)))

theorem execLockSet_next {s : State} {a0 a1 a2} : ∃ u, execLockSet a0 a1 a2 s = .next u ∧ Keeps s u := by
  have h := Keeps.refl s
  unfold execLockSet
  refine ⟨_, rfl, ?_⟩
  exact (by split; {exact gateWrite_keeps (at_keeps (by assumption)) (fun _ => fun _ => fun _ => fun _ => noHook_keeps (by assumption))}; {exact at_keeps (by assumption)})

theorem execGlmPost_next {s : State} {a0 a1 a2} : ∃ u, execGlmPost a0 a1 a2 s = .next u ∧ Keeps s u := by
  have h := Keeps.refl s
  unfold execGlmPost
  refine ⟨_, rfl, ?_⟩
  exact gateWrite_keeps (at_keeps (by assumption)) (fun _ => fun _ => fun _ => fun _ => glmPost_keeps (by assumption))

theorem execBandDone_next {s : State} {a0 a1} : ∃ u, execBandDone a0 a1 s = .next u ∧ Keeps s u := by
  have h := Keeps.refl s
  unfold execBandDone
  refine ⟨_, rfl, ?_⟩
  exact Keeps.ite (bandDone_keeps (at_keeps (by assumption))) (closeWins_keeps (bandDone_keeps (at_keeps (by assumption))))

theorem execBandDeadline_next {s : State} {a0 a1 a2} : ∃ u, execBandDeadline a0 a1 a2 s = .next u ∧ Keeps s u := by
  have h := Keeps.refl s
  unfold execBandDeadline
  refine ⟨_, rfl, ?_⟩
  exact bandLate_keeps (at_keeps (by assumption))

theorem execPoolRenderDone_next {s : State} {a0} : ∃ u, execPoolRenderDone a0 s = .next u ∧ Keeps s u := by
  have h := Keeps.refl s
  unfold execPoolRenderDone
  refine ⟨_, rfl, ?_⟩
  exact poolRenderDone_keeps (at_keeps (by assumption))

theorem execGlmEnable_next {s : State} {a0 a1 a2} : ∃ u, execGlmEnable a0 a1 a2 s = .next u ∧ Keeps s u := by
  have h := Keeps.refl s
  unfold execGlmEnable
  refine ⟨_, rfl, ?_⟩
  exact gateWrite_keeps (at_keeps (by assumption)) (fun _ => fun _ => fun _ => fun _ => glmCtrl_keeps (by assumption))

theorem execHostWrite32_next {s : State} {a0 a1 a2} : ∃ u, execHostWrite32 a0 a1 a2 s = .next u ∧ Keeps s u := by
  have h := Keeps.refl s
  unfold execHostWrite32
  refine ⟨_, rfl, ?_⟩
  exact hostWrite_keeps (at_keeps (by assumption))

theorem execHostRead32_next {s : State} {a0 a1} : ∃ u, execHostRead32 a0 a1 s = .next u ∧ Keeps s u := by
  have h := Keeps.refl s
  unfold execHostRead32
  refine ⟨_, rfl, ?_⟩
  exact hostRead_keeps (at_keeps (by assumption))

theorem execHostStatus_next {s : State} {a0} : ∃ u, execHostStatus a0 s = .next u ∧ Keeps s u := by
  have h := Keeps.refl s
  unfold execHostStatus
  refine ⟨_, rfl, ?_⟩
  exact hostStatus_keeps (at_keeps (by assumption))

theorem execHostFrameAbort_next {s : State} {a0} : ∃ u, execHostFrameAbort a0 s = .next u ∧ Keeps s u := by
  have h := Keeps.refl s
  unfold execHostFrameAbort
  refine ⟨_, rfl, ?_⟩
  exact at_keeps (by assumption)

theorem execHostH2dSet_next {s : State} {a0 a1} : ∃ u, execHostH2dSet a0 a1 s = .next u ∧ Keeps s u := by
  have h := Keeps.refl s
  unfold execHostH2dSet
  refine ⟨_, rfl, ?_⟩
  exact hostWrite_keeps (at_keeps (by assumption))

theorem execHostD2hSet_next {s : State} {a0 a1 a2} : ∃ u, execHostD2hSet a0 a1 a2 s = .next u ∧ Keeps s u := by
  have h := Keeps.refl s
  unfold execHostD2hSet
  refine ⟨_, rfl, ?_⟩
  exact gateWrite_keeps (at_keeps (by assumption)) (fun _ => fun _ => fun _ => fun _ => d2hSet_keeps (by assumption))

theorem execGpioSet_next {s : State} {a0 a1 a2} : ∃ u, execGpioSet a0 a1 a2 s = .next u ∧ Keeps s u := by
  have h := Keeps.refl s
  unfold execGpioSet
  refine ⟨_, rfl, ?_⟩
  exact gateWrite_keeps (at_keeps (by assumption)) (fun _ => fun _ => fun _ => fun _ => gpioSet_keeps (by assumption))

theorem execGpioClr_next {s : State} {a0 a1 a2} : ∃ u, execGpioClr a0 a1 a2 s = .next u ∧ Keeps s u := by
  have h := Keeps.refl s
  unfold execGpioClr
  refine ⟨_, rfl, ?_⟩
  exact gateWrite_keeps (at_keeps (by assumption)) (fun _ => fun _ => fun _ => fun _ => gpioClr_keeps (by assumption))

theorem execGpioEdge_next {s : State} {a0 a1 a2} : ∃ u, execGpioEdge a0 a1 a2 s = .next u ∧ Keeps s u := by
  have h := Keeps.refl s
  unfold execGpioEdge
  refine ⟨_, rfl, ?_⟩
  exact gpioEdge_keeps (at_keeps (by assumption))

theorem execCompositionDone_next {s : State} {a0} : ∃ u, execCompositionDone a0 s = .next u ∧ Keeps s u := by
  have h := Keeps.refl s
  unfold execCompositionDone
  refine ⟨_, rfl, ?_⟩
  exact compositionDone_keeps (at_keeps (by assumption))

theorem execWbFrameDone_next {s : State} {a0 a1} : ∃ u, execWbFrameDone a0 a1 s = .next u ∧ Keeps s u := by
  have h := Keeps.refl s
  unfold execWbFrameDone
  refine ⟨_, rfl, ?_⟩
  exact wbDone_keeps (at_keeps (by assumption))

theorem execLyrFlipRequest_next {s : State} {a0 a1 a2 a3} : ∃ u, execLyrFlipRequest a0 a1 a2 a3 s = .next u ∧ Keeps s u := by
  have h := Keeps.refl s
  unfold execLyrFlipRequest
  refine ⟨_, rfl, ?_⟩
  exact gateWrite_keeps (at_keeps (by assumption)) (fun _ => fun _ => fun _ => fun _ => lyrFlip_keeps (by assumption))

theorem execLyrFlipCancel_next {s : State} {a0 a1 a2 a3} : ∃ u, execLyrFlipCancel a0 a1 a2 a3 s = .next u ∧ Keeps s u := by
  have h := Keeps.refl s
  unfold execLyrFlipCancel
  refine ⟨_, rfl, ?_⟩
  exact gateWrite_keeps (at_keeps (by assumption)) (fun _ => fun _ => fun _ => fun _ => lyrFlip_keeps (by assumption))

theorem execCmpFlipArm_next {s : State} {a0 a1 a2} : ∃ u, execCmpFlipArm a0 a1 a2 s = .next u ∧ Keeps s u := by
  have h := Keeps.refl s
  unfold execCmpFlipArm
  refine ⟨_, rfl, ?_⟩
  exact gateWrite_keeps (at_keeps (by assumption)) (fun _ => fun _ => fun _ => fun _ => cmpFlipArm_keeps (by assumption))

theorem execBufRegister_next {s : State} {a0 a1 a2} : ∃ u, execBufRegister a0 a1 a2 s = .next u ∧ Keeps s u := by
  have h := Keeps.refl s
  unfold execBufRegister
  refine ⟨_, rfl, ?_⟩
  exact gateWrite_keeps (at_keeps (by assumption)) (fun _ => fun _ => fun _ => fun _ => bufCmd_keeps (by assumption))

theorem execBufUnregister_next {s : State} {a0 a1 a2} : ∃ u, execBufUnregister a0 a1 a2 s = .next u ∧ Keeps s u := by
  have h := Keeps.refl s
  unfold execBufUnregister
  refine ⟨_, rfl, ?_⟩
  exact gateWrite_keeps (at_keeps (by assumption)) (fun _ => fun _ => fun _ => fun _ => bufCmd_keeps (by assumption))

theorem execBufRead_next {s : State} {a0 a1 a2} : ∃ u, execBufRead a0 a1 a2 s = .next u ∧ Keeps s u := by
  have h := Keeps.refl s
  unfold execBufRead
  refine ⟨_, rfl, ?_⟩
  exact gateWrite_keeps (at_keeps (by assumption)) (fun _ => fun _ => fun _ => fun _ => bufCmd_keeps (by assumption))

theorem execFenceSet_next {s : State} {a0 a1 a2 a3} : ∃ u, execFenceSet a0 a1 a2 a3 s = .next u ∧ Keeps s u := by
  have h := Keeps.refl s
  unfold execFenceSet
  refine ⟨_, rfl, ?_⟩
  exact gateWrite_keeps (at_keeps (by assumption)) (fun _ => fun _ => fun _ => fun _ => fenceSetHook_keeps (by assumption))

theorem execFenceClear_next {s : State} {a0 a1 a2 a3} : ∃ u, execFenceClear a0 a1 a2 a3 s = .next u ∧ Keeps s u := by
  have h := Keeps.refl s
  unfold execFenceClear
  refine ⟨_, rfl, ?_⟩
  exact gateWrite_keeps (at_keeps (by assumption)) (fun _ => fun _ => fun _ => fun _ => noHook_keeps (by assumption))

theorem execSclKick_next {s : State} {a0 a1 a2} : ∃ u, execSclKick a0 a1 a2 s = .next u ∧ Keeps s u := by
  have h := Keeps.refl s
  unfold execSclKick
  refine ⟨_, rfl, ?_⟩
  exact gateWrite_keeps (at_keeps (by assumption)) (fun _ => fun _ => fun _ => fun _ => sclKick_keeps (by assumption))

theorem execSclPassEnd_next {s : State} {a0 a1} : ∃ u, execSclPassEnd a0 a1 s = .next u ∧ Keeps s u := by
  have h := Keeps.refl s
  unfold execSclPassEnd
  refine ⟨_, rfl, ?_⟩
  exact sclEnd_keeps (at_keeps (by assumption))

theorem execCtrlSend_next {s : State} {a0 a1} : ∃ u, execCtrlSend a0 a1 s = .next u ∧ Keeps s u := by
  have h := Keeps.refl s
  unfold execCtrlSend
  refine ⟨_, rfl, ?_⟩
  exact ctrlSend_keeps (at_keeps (by assumption))

theorem execSplCtrlCmd_next {s : State} {a0 a1 a2 a3} : ∃ u, execSplCtrlCmd a0 a1 a2 a3 s = .next u ∧ Keeps s u := by
  have h := Keeps.refl s
  unfold execSplCtrlCmd
  refine ⟨_, rfl, ?_⟩
  exact gateWrite_keeps (at_keeps (by assumption)) (fun _ => fun _ => fun _ => fun _ => splCtrlCmd_keeps (by assumption))

theorem execAckTimeout_next {s : State} {a0 a1} : ∃ u, execAckTimeout a0 a1 s = .next u ∧ Keeps s u := by
  have h := Keeps.refl s
  unfold execAckTimeout
  refine ⟨_, rfl, ?_⟩
  exact ackTimeout_keeps (at_keeps (by assumption))

theorem execAck_next {s : State} {a0 a1 a2 a3 a4 a5 a6} : ∃ u, execAck a0 a1 a2 a3 a4 a5 a6 s = .next u ∧ Keeps s u := by
  have h := Keeps.refl s
  unfold execAck
  refine ⟨_, rfl, ?_⟩
  exact ackPacket_keeps (at_keeps (by assumption))

theorem execDiag_next {s : State} {a0 a1 a2 a3 a4 a5 a6} : ∃ u, execDiag a0 a1 a2 a3 a4 a5 a6 s = .next u ∧ Keeps s u := by
  have h := Keeps.refl s
  unfold execDiag
  refine ⟨_, rfl, ?_⟩
  exact diagPacket_keeps (at_keeps (by assumption))

theorem execEnum_next {s : State} {a0 a1 a2 a3 a4} : ∃ u, execEnum a0 a1 a2 a3 a4 s = .next u ∧ Keeps s u := by
  have h := Keeps.refl s
  unfold execEnum
  refine ⟨_, rfl, ?_⟩
  exact startProgress_keeps (readyWins_keeps (enumPacket_keeps (at_keeps (by assumption))))

theorem execFstat_next {s : State} {a0 a1 a2 a3 a4 a5 a6 a7 a8} : ∃ u, execFstat a0 a1 a2 a3 a4 a5 a6 a7 a8 s = .next u ∧ Keeps s u := by
  have h := Keeps.refl s
  unfold execFstat
  refine ⟨_, rfl, ?_⟩
  exact fstatPacket_keeps (at_keeps (by assumption))

theorem execLinkEnable_next {s : State} {a0 a1 a2 a3} : ∃ u, execLinkEnable a0 a1 a2 a3 s = .next u ∧ Keeps s u := by
  have h := Keeps.refl s
  unfold execLinkEnable
  refine ⟨_, rfl, ?_⟩
  exact gateWrite_keeps (at_keeps (by assumption)) (fun _ => fun _ => fun _ => fun _ => splCtrl_keeps (by assumption))

theorem execTs1Lock_next {s : State} {a0 a1} : ∃ u, execTs1Lock a0 a1 s = .next u ∧ Keeps s u := by
  have h := Keeps.refl s
  unfold execTs1Lock
  refine ⟨_, rfl, ?_⟩
  exact ts1Lock_keeps (at_keeps (by assumption))

theorem execTrainStepDone_next {s : State} {a0 a1 a2 a3 a4} : ∃ u, execTrainStepDone a0 a1 a2 a3 a4 s = .next u ∧ Keeps s u := by
  have h := Keeps.refl s
  unfold execTrainStepDone
  refine ⟨_, rfl, ?_⟩
  exact trainStep_keeps (at_keeps (by assumption))

theorem execTrainTimeout_next {s : State} {a0 a1} : ∃ u, execTrainTimeout a0 a1 s = .next u ∧ Keeps s u := by
  have h := Keeps.refl s
  unfold execTrainTimeout
  refine ⟨_, rfl, ?_⟩
  exact trainTimeout_keeps (at_keeps (by assumption))

theorem execLinkRestart_next {s : State} {a0 a1} : ∃ u, execLinkRestart a0 a1 s = .next u ∧ Keeps s u := by
  have h := Keeps.refl s
  unfold execLinkRestart
  refine ⟨_, rfl, ?_⟩
  exact linkRestart_keeps (at_keeps (by assumption))

theorem execRetrain_next {s : State} {a0 a1 a2 a3} : ∃ u, execRetrain a0 a1 a2 a3 s = .next u ∧ Keeps s u := by
  have h := Keeps.refl s
  unfold execRetrain
  refine ⟨_, rfl, ?_⟩
  exact gateWrite_keeps (at_keeps (by assumption)) (fun _ => fun _ => fun _ => fun _ => splCtrl_keeps (by assumption))

theorem execRetrainTimeout_next {s : State} {a0 a1} : ∃ u, execRetrainTimeout a0 a1 s = .next u ∧ Keeps s u := by
  have h := Keeps.refl s
  unfold execRetrainTimeout
  refine ⟨_, rfl, ?_⟩
  exact retrainTimeout_keeps (at_keeps (by assumption))

theorem execSymbolLockLoss_next {s : State} {a0 a1} : ∃ u, execSymbolLockLoss a0 a1 s = .next u ∧ Keeps s u := by
  have h := Keeps.refl s
  unfold execSymbolLockLoss
  refine ⟨_, rfl, ?_⟩
  exact loseLink_keeps (at_keeps (by assumption))

theorem execReturnCharErrors_next {s : State} {a0 a1 a2} : ∃ u, execReturnCharErrors a0 a1 a2 s = .next u ∧ Keeps s u := by
  have h := Keeps.refl s
  unfold execReturnCharErrors
  refine ⟨_, rfl, ?_⟩
  exact returnErrors_keeps (at_keeps (by assumption))

theorem execFstatMissing_next {s : State} {a0 a1} : ∃ u, execFstatMissing a0 a1 s = .next u ∧ Keeps s u := by
  have h := Keeps.refl s
  unfold execFstatMissing
  refine ⟨_, rfl, ?_⟩
  exact fstatMissing_keeps (at_keeps (by assumption))

theorem execTileResetRelease_next {s : State} {a0 a1} : ∃ u, execTileResetRelease a0 a1 s = .next u ∧ Keeps s u := by
  have h := Keeps.refl s
  unfold execTileResetRelease
  refine ⟨_, rfl, ?_⟩
  exact resetRelease_keeps (at_keeps (by assumption))

theorem execSysModeReq_next {s : State} {a0 a1 a2 a3 a4} : ∃ u, execSysModeReq a0 a1 a2 a3 a4 s = .next u ∧ Keeps s u := by
  have h := Keeps.refl s
  unfold execSysModeReq
  refine ⟨_, rfl, ?_⟩
  exact gateWrite_keeps (at_keeps (by assumption)) (fun _ => fun _ => fun _ => fun _ => sysModeReq_keeps (by assumption))

theorem execNetLoss_next {s : State} {a0} : ∃ u, execNetLoss a0 s = .next u ∧ Keeps s u := by
  have h := Keeps.refl s
  unfold execNetLoss
  refine ⟨_, rfl, ?_⟩
  exact netLoss_keeps (at_keeps (by assumption))

theorem execAutoModeRequest_next {s : State} {a0} : ∃ u, execAutoModeRequest a0 s = .next u ∧ Keeps s u := by
  have h := Keeps.refl s
  unfold execAutoModeRequest
  refine ⟨_, rfl, ?_⟩
  exact autoRequest_keeps (at_keeps (by assumption))

theorem execDmvPost_next {s : State} {a0 a1 a2 a3} : ∃ u, execDmvPost a0 a1 a2 a3 s = .next u ∧ Keeps s u := by
  have h := Keeps.refl s
  unfold execDmvPost
  refine ⟨_, rfl, ?_⟩
  exact gateWrite_keeps (at_keeps (by assumption)) (fun _ => fun _ => fun _ => fun _ => dmvPost_keeps (by assumption))

theorem execDmvDescriptorComplete_next {s : State} {a0 a1} : ∃ u, execDmvDescriptorComplete a0 a1 s = .next u ∧ Keeps s u := by
  have h := Keeps.refl s
  unfold execDmvDescriptorComplete
  refine ⟨_, rfl, ?_⟩
  exact dmvRun_keeps (at_keeps (by assumption))

theorem execDmvAbort_next {s : State} {a0 a1 a2 a3 a4} : ∃ u, execDmvAbort a0 a1 a2 a3 a4 s = .next u ∧ Keeps s u := by
  have h := Keeps.refl s
  unfold execDmvAbort
  refine ⟨_, rfl, ?_⟩
  exact gateWrite_keeps (at_keeps (by assumption)) (fun _ => fun _ => fun _ => fun _ => dmvAbortHook_keeps (by assumption))

theorem execDmvResume_next {s : State} {a0 a1 a2 a3} : ∃ u, execDmvResume a0 a1 a2 a3 s = .next u ∧ Keeps s u := by
  have h := Keeps.refl s
  unfold execDmvResume
  refine ⟨_, rfl, ?_⟩
  exact gateWrite_keeps (at_keeps (by assumption)) (fun _ => fun _ => fun _ => fun _ => dmvCtrl_keeps (by assumption))

theorem execPortLinkChange_next {s : State} {a0 a1 a2 a3 a4 a5 a6} : ∃ u, execPortLinkChange a0 a1 a2 a3 a4 a5 a6 s = .next u ∧ Keeps s u := by
  have h := Keeps.refl s
  unfold execPortLinkChange
  refine ⟨_, rfl, ?_⟩
  exact startProgress_keeps (portLink_keeps (at_keeps (by assumption)))

theorem execPortFrameRx_next {s : State} {a0 a1 a2} : ∃ u, execPortFrameRx a0 a1 a2 s = .next u ∧ Keeps s u := by
  have h := Keeps.refl s
  unfold execPortFrameRx
  refine ⟨_, rfl, ?_⟩
  exact portRx_keeps (at_keeps (by assumption))

theorem execPortFrameTx_next {s : State} {a0 a1 a2} : ∃ u, execPortFrameTx a0 a1 a2 s = .next u ∧ Keeps s u := by
  have h := Keeps.refl s
  unfold execPortFrameTx
  refine ⟨_, rfl, ?_⟩
  exact portTx_keeps (at_keeps (by assumption))

theorem execMrpFlush_next {s : State} {a0} : ∃ u, execMrpFlush a0 s = .next u ∧ Keeps s u := by
  have h := Keeps.refl s
  unfold execMrpFlush
  refine ⟨_, rfl, ?_⟩
  exact mrpFlush_keeps (at_keeps (by assumption))

theorem execMrpBlockTimeout_next {s : State} {a0 a1} : ∃ u, execMrpBlockTimeout a0 a1 s = .next u ∧ Keeps s u := by
  have h := Keeps.refl s
  unfold execMrpBlockTimeout
  refine ⟨_, rfl, ?_⟩
  exact mrpTimeout_keeps (at_keeps (by assumption))

theorem execFdbAge_next {s : State} {a0 a1} : ∃ u, execFdbAge a0 a1 s = .next u ∧ Keeps s u := by
  have h := Keeps.refl s
  unfold execFdbAge
  refine ⟨_, rfl, ?_⟩
  exact fdbAge_keeps (at_keeps (by assumption))

theorem execSwFlush_next {s : State} {a0 a1 a2} : ∃ u, execSwFlush a0 a1 a2 s = .next u ∧ Keeps s u := by
  have h := Keeps.refl s
  unfold execSwFlush
  refine ⟨_, rfl, ?_⟩
  exact gateWrite_keeps (at_keeps (by assumption)) (fun _ => fun _ => fun _ => fun _ => swFlush_keeps (by assumption))

theorem execPdelayReq_next {s : State} {a0 a1 a2} : ∃ u, execPdelayReq a0 a1 a2 s = .next u ∧ Keeps s u := by
  have h := Keeps.refl s
  unfold execPdelayReq
  refine ⟨_, rfl, ?_⟩
  exact pdelay_keeps (at_keeps (by assumption))

theorem execWakeBeacon_next {s : State} {a0 a1 a2 a3} : ∃ u, execWakeBeacon a0 a1 a2 a3 s = .next u ∧ Keeps s u := by
  have h := Keeps.refl s
  unfold execWakeBeacon
  refine ⟨_, rfl, ?_⟩
  exact wakeBeacon_keeps (at_keeps (by assumption))

theorem execNvmTxSubmit_next {s : State} {a0 a1 a2} : ∃ u, execNvmTxSubmit a0 a1 a2 s = .next u ∧ Keeps s u := by
  have h := Keeps.refl s
  unfold execNvmTxSubmit
  refine ⟨_, rfl, ?_⟩
  exact gateWrite_keeps (at_keeps (by assumption)) (fun _ => fun _ => fun _ => fun _ => nvmTxCmd_keeps (by assumption))

theorem execJournalTxOpen_next {s : State} {a0 a1} : ∃ u, execJournalTxOpen a0 a1 s = .next u ∧ Keeps s u := by
  have h := Keeps.refl s
  unfold execJournalTxOpen
  refine ⟨_, rfl, ?_⟩
  exact txOpen_keeps (at_keeps (by assumption))

theorem execJournalTxCommit_next {s : State} {a0 a1 a2} : ∃ u, execJournalTxCommit a0 a1 a2 s = .next u ∧ Keeps s u := by
  have h := Keeps.refl s
  unfold execJournalTxCommit
  refine ⟨_, rfl, ?_⟩
  exact txCommit_keeps (at_keeps (by assumption))

theorem execJournalTxSeal_next {s : State} {a0 a1} : ∃ u, execJournalTxSeal a0 a1 s = .next u ∧ Keeps s u := by
  have h := Keeps.refl s
  unfold execJournalTxSeal
  refine ⟨_, rfl, ?_⟩
  exact txApply_keeps (at_keeps (by assumption))

theorem execWindowClose_next {s : State} {a0} : ∃ u, execWindowClose a0 s = .next u ∧ Keeps s u := by
  have h := Keeps.refl s
  unfold execWindowClose
  refine ⟨_, rfl, ?_⟩
  exact setWindow_keeps (at_keeps (by assumption))

theorem execWindowOpen_next {s : State} {a0} : ∃ u, execWindowOpen a0 s = .next u ∧ Keeps s u := by
  have h := Keeps.refl s
  unfold execWindowOpen
  refine ⟨_, rfl, ?_⟩
  exact setWindow_keeps (at_keeps (by assumption))

theorem execErase4k_next {s : State} {a0 a1} : ∃ u, execErase4k a0 a1 s = .next u ∧ Keeps s u := by
  have h := Keeps.refl s
  unfold execErase4k
  refine ⟨_, rfl, ?_⟩
  exact gateWrite_keeps (at_keeps (by assumption)) (fun _ => fun _ => fun _ => fun _ => xspiCmd_keeps (by assumption))

theorem execErase64k_next {s : State} {a0 a1} : ∃ u, execErase64k a0 a1 s = .next u ∧ Keeps s u := by
  have h := Keeps.refl s
  unfold execErase64k
  refine ⟨_, rfl, ?_⟩
  exact gateWrite_keeps (at_keeps (by assumption)) (fun _ => fun _ => fun _ => fun _ => xspiCmd_keeps (by assumption))

theorem execProgram_next {s : State} {a0 a1} : ∃ u, execProgram a0 a1 s = .next u ∧ Keeps s u := by
  have h := Keeps.refl s
  unfold execProgram
  refine ⟨_, rfl, ?_⟩
  exact gateWrite_keeps (at_keeps (by assumption)) (fun _ => fun _ => fun _ => fun _ => xspiCmd_keeps (by assumption))

theorem execXspiOpDone_next {s : State} {a0 a1} : ∃ u, execXspiOpDone a0 a1 s = .next u ∧ Keeps s u := by
  have h := Keeps.refl s
  unfold execXspiOpDone
  refine ⟨_, rfl, ?_⟩
  exact xspiDone_keeps (at_keeps (by assumption))

theorem execXspiWaitTimeout_next {s : State} {a0} : ∃ u, execXspiWaitTimeout a0 s = .next u ∧ Keeps s u := by
  have h := Keeps.refl s
  unfold execXspiWaitTimeout
  refine ⟨_, rfl, ?_⟩
  exact xspiWaitTimeout_keeps (at_keeps (by assumption))

theorem execPatEnd_next {s : State} {a0 a1} : ∃ u, execPatEnd a0 a1 s = .next u ∧ Keeps s u := by
  have h := Keeps.refl s
  unfold execPatEnd
  refine ⟨_, rfl, ?_⟩
  exact seqExec_keeps (at_keeps (by assumption)) (fun _ => fun _ => opEnd_keeps (by assumption))

theorem execPatSet_next {s : State} {a0 a1 a2 a3} : ∃ u, execPatSet a0 a1 a2 a3 s = .next u ∧ Keeps s u := by
  have h := Keeps.refl s
  unfold execPatSet
  refine ⟨_, rfl, ?_⟩
  exact seqExec_keeps (at_keeps (by assumption)) (fun _ => fun _ => opSet_keeps (by assumption))

theorem execPatAdd_next {s : State} {a0 a1 a2 a3} : ∃ u, execPatAdd a0 a1 a2 a3 s = .next u ∧ Keeps s u := by
  have h := Keeps.refl s
  unfold execPatAdd
  refine ⟨_, rfl, ?_⟩
  exact seqExec_keeps (at_keeps (by assumption)) (fun _ => fun _ => opAdd_keeps (by assumption))

theorem execPatRamp_next {s : State} {a0 a1 a2 a3 a4} : ∃ u, execPatRamp a0 a1 a2 a3 a4 s = .next u ∧ Keeps s u := by
  have h := Keeps.refl s
  unfold execPatRamp
  refine ⟨_, rfl, ?_⟩
  exact seqExec_keeps (at_keeps (by assumption)) (fun _ => fun _ => opRamp_keeps (by assumption))

theorem execPatHold_next {s : State} {a0 a1 a2} : ∃ u, execPatHold a0 a1 a2 s = .next u ∧ Keeps s u := by
  have h := Keeps.refl s
  unfold execPatHold
  refine ⟨_, rfl, ?_⟩
  exact seqExec_keeps (at_keeps (by assumption)) (fun _ => fun _ => opHold_keeps (by assumption))

theorem execPatLoop_next {s : State} {a0 a1 a2 a3 a4} : ∃ u, execPatLoop a0 a1 a2 a3 a4 s = .next u ∧ Keeps s u := by
  have h := Keeps.refl s
  unfold execPatLoop
  refine ⟨_, rfl, ?_⟩
  exact seqExec_keeps (at_keeps (by assumption)) (fun _ => fun _ => opLoop_keeps (by assumption))

theorem execPatWaitTick_next {s : State} {a0 a1 a2} : ∃ u, execPatWaitTick a0 a1 a2 s = .next u ∧ Keeps s u := by
  have h := Keeps.refl s
  unfold execPatWaitTick
  refine ⟨_, rfl, ?_⟩
  exact seqExec_keeps (at_keeps (by assumption)) (fun _ => fun _ => opWaitTick_keeps (by assumption))

theorem execPatSync_next {s : State} {a0 a1 a2} : ∃ u, execPatSync a0 a1 a2 s = .next u ∧ Keeps s u := by
  have h := Keeps.refl s
  unfold execPatSync
  refine ⟨_, rfl, ?_⟩
  exact seqExec_keeps (at_keeps (by assumption)) (fun _ => fun _ => opSync_keeps (by assumption))

theorem execPatBranchFlag_next {s : State} {a0 a1 a2 a3 a4} : ∃ u, execPatBranchFlag a0 a1 a2 a3 a4 s = .next u ∧ Keeps s u := by
  have h := Keeps.refl s
  unfold execPatBranchFlag
  refine ⟨_, rfl, ?_⟩
  exact seqExec_keeps (at_keeps (by assumption)) (fun _ => fun _ => opBranch_keeps (by assumption))

theorem execPatProgData_next {s : State} {a0 a1 a2} : ∃ u, execPatProgData a0 a1 a2 s = .next u ∧ Keeps s u := by
  have h := Keeps.refl s
  unfold execPatProgData
  refine ⟨_, rfl, ?_⟩
  exact (by split; {exact gateWrite_keeps (at_keeps (by assumption)) (fun _ => fun _ => fun _ => fun _ => progWrite_keeps (by assumption))}; {exact regRead_keeps (at_keeps (by assumption))})

theorem execPatKData_next {s : State} {a0 a1 a2} : ∃ u, execPatKData a0 a1 a2 s = .next u ∧ Keeps s u := by
  have h := Keeps.refl s
  unfold execPatKData
  refine ⟨_, rfl, ?_⟩
  exact (by split; {exact gateWrite_keeps (at_keeps (by assumption)) (fun _ => fun _ => fun _ => fun _ => kWrite_keeps (by assumption))}; {exact regRead_keeps (at_keeps (by assumption))})

theorem execDoseSnapHourly_next {s : State} {a0} : ∃ u, execDoseSnapHourly a0 s = .next u ∧ Keeps s u := by
  have h := Keeps.refl s
  unfold execDoseSnapHourly
  refine ⟨_, rfl, ?_⟩
  exact snapHourly_keeps (at_keeps (by assumption))

theorem execSnap_next {s : State} {a0 a1} : ∃ u, execSnap a0 a1 s = .next u ∧ Keeps s u := by
  have h := Keeps.refl s
  unfold execSnap
  refine ⟨_, rfl, ?_⟩
  exact gateWrite_keeps (at_keeps (by assumption)) (fun _ => fun _ => fun _ => fun _ => snapCmd_keeps (by assumption))

theorem execSnapSliceDone_next {s : State} {a0} : ∃ u, execSnapSliceDone a0 s = .next u ∧ Keeps s u := by
  have h := Keeps.refl s
  unfold execSnapSliceDone
  refine ⟨_, rfl, ?_⟩
  exact snapSliceDone_keeps (at_keeps (by assumption))

theorem execSnapRetry_next {s : State} {a0} : ∃ u, execSnapRetry a0 s = .next u ∧ Keeps s u := by
  have h := Keeps.refl s
  unfold execSnapRetry
  refine ⟨_, rfl, ?_⟩
  exact snapRetry_keeps (at_keeps (by assumption))

theorem execRestore_next {s : State} {a0 a1} : ∃ u, execRestore a0 a1 s = .next u ∧ Keeps s u := by
  have h := Keeps.refl s
  unfold execRestore
  refine ⟨_, rfl, ?_⟩
  exact gateWrite_keeps (at_keeps (by assumption)) (fun _ => fun _ => fun _ => fun _ => snapCmd_keeps (by assumption))

theorem execRestoreDone_next {s : State} {a0} : ∃ u, execRestoreDone a0 s = .next u ∧ Keeps s u := by
  have h := Keeps.refl s
  unfold execRestoreDone
  refine ⟨_, rfl, ?_⟩
  exact restoreDone_keeps (at_keeps (by assumption))

theorem execRmapInsert_next {s : State} {a0 a1 a2} : ∃ u, execRmapInsert a0 a1 a2 s = .next u ∧ Keeps s u := by
  have h := Keeps.refl s
  unfold execRmapInsert
  refine ⟨_, rfl, ?_⟩
  exact gateWrite_keeps (at_keeps (by assumption)) (fun _ => fun _ => fun _ => fun _ => rmapCmd_keeps (by assumption))

theorem execRmapDelete_next {s : State} {a0 a1 a2} : ∃ u, execRmapDelete a0 a1 a2 s = .next u ∧ Keeps s u := by
  have h := Keeps.refl s
  unfold execRmapDelete
  refine ⟨_, rfl, ?_⟩
  exact gateWrite_keeps (at_keeps (by assumption)) (fun _ => fun _ => fun _ => fun _ => rmapCmd_keeps (by assumption))

theorem execRmapRead_next {s : State} {a0 a1 a2} : ∃ u, execRmapRead a0 a1 a2 s = .next u ∧ Keeps s u := by
  have h := Keeps.refl s
  unfold execRmapRead
  refine ⟨_, rfl, ?_⟩
  exact gateWrite_keeps (at_keeps (by assumption)) (fun _ => fun _ => fun _ => fun _ => rmapCmd_keeps (by assumption))

theorem execRmapLookup_next {s : State} {a0 a1 a2} : ∃ u, execRmapLookup a0 a1 a2 s = .next u ∧ Keeps s u := by
  have h := Keeps.refl s
  unfold execRmapLookup
  refine ⟨_, rfl, ?_⟩
  exact gateWrite_keeps (at_keeps (by assumption)) (fun _ => fun _ => fun _ => fun _ => rmapCmd_keeps (by assumption))

theorem execRmapEditApply_next {s : State} {a0} : ∃ u, execRmapEditApply a0 s = .next u ∧ Keeps s u := by
  have h := Keeps.refl s
  unfold execRmapEditApply
  refine ⟨_, rfl, ?_⟩
  exact rmapEditApply_keeps (at_keeps (by assumption))

theorem execDthDataAccess_next {s : State} {a0 a1 a2} : ∃ u, execDthDataAccess a0 a1 a2 s = .next u ∧ Keeps s u := by
  have h := Keeps.refl s
  unfold execDthDataAccess
  refine ⟨_, rfl, ?_⟩
  exact (by split; {exact gateWrite_keeps (at_keeps (by assumption)) (fun _ => fun _ => fun _ => fun _ => dthWrite_keeps (by assumption))}; {exact regRead_keeps (at_keeps (by assumption))})

theorem execPwrCmd_next {s : State} {a0 a1 a2} : ∃ u, execPwrCmd a0 a1 a2 s = .next u ∧ Keeps s u := by
  have h := Keeps.refl s
  unfold execPwrCmd
  refine ⟨_, rfl, ?_⟩
  exact gateWrite_keeps (at_keeps (by assumption)) (fun _ => fun _ => fun _ => fun _ => pwrCmd_keeps (by assumption))

theorem execLowpowerEntry_next {s : State} {a0 a1} : ∃ u, execLowpowerEntry a0 a1 s = .next u ∧ Keeps s u := by
  have h := Keeps.refl s
  unfold execLowpowerEntry
  refine ⟨_, rfl, ?_⟩
  exact lowpowerEntry_keeps (at_keeps (by assumption))

theorem execLowpowerCommit_next {s : State} {a0} : ∃ u, execLowpowerCommit a0 s = .next u ∧ Keeps s u := by
  have h := Keeps.refl s
  unfold execLowpowerCommit
  refine ⟨_, rfl, ?_⟩
  exact lowpowerCommit_keeps (at_keeps (by assumption))

theorem execIdleEntry_next {s : State} {a0 a1} : ∃ u, execIdleEntry a0 a1 s = .next u ∧ Keeps s u := by
  have h := Keeps.refl s
  unfold execIdleEntry
  refine ⟨_, rfl, ?_⟩
  exact idleEntry_keeps (at_keeps (by assumption))

theorem execWake_next {s : State} {a0 a1} : ∃ u, execWake a0 a1 s = .next u ∧ Keeps s u := by
  have h := Keeps.refl s
  unfold execWake
  refine ⟨_, rfl, ?_⟩
  exact wake_keeps (at_keeps (by assumption))

theorem execPwrLevelReq_next {s : State} {a0 a1 a2} : ∃ u, execPwrLevelReq a0 a1 a2 s = .next u ∧ Keeps s u := by
  have h := Keeps.refl s
  unfold execPwrLevelReq
  refine ⟨_, rfl, ?_⟩
  exact gateWrite_keeps (at_keeps (by assumption)) (fun _ => fun _ => fun _ => fun _ => levelReq_keeps (by assumption))

theorem execPmicPgRise_next {s : State} {a0} : ∃ u, execPmicPgRise a0 s = .next u ∧ Keeps s u := by
  have h := Keeps.refl s
  unfold execPmicPgRise
  refine ⟨_, rfl, ?_⟩
  exact pmicRise_keeps (at_keeps (by assumption))

theorem execPmicTimeout_next {s : State} {a0} : ∃ u, execPmicTimeout a0 s = .next u ∧ Keeps s u := by
  have h := Keeps.refl s
  unfold execPmicTimeout
  refine ⟨_, rfl, ?_⟩
  exact pmicTimeout_keeps (at_keeps (by assumption))

theorem execLineSend_next {s : State} {a0 a1} : ∃ u, execLineSend a0 a1 s = .next u ∧ Keeps s u := by
  have h := Keeps.refl s
  unfold execLineSend
  refine ⟨_, rfl, ?_⟩
  exact lineSend_keeps (at_keeps (by assumption))

theorem execLineUnderrun_next {s : State} {a0 a1 a2} : ∃ u, execLineUnderrun a0 a1 a2 s = .next u ∧ Keeps s u := by
  have h := Keeps.refl s
  unfold execLineUnderrun
  refine ⟨_, rfl, ?_⟩
  exact lineUnderrun_keeps (at_keeps (by assumption))

theorem execScnRectDivTag_next {s : State} {a0 a1 a2 a3 a4} : ∃ u, execScnRectDivTag a0 a1 a2 a3 a4 s = .next u ∧ Keeps s u := by
  have h := Keeps.refl s
  unfold execScnRectDivTag
  refine ⟨_, rfl, ?_⟩
  exact gateWrite_keeps (at_keeps (by assumption)) (fun _ => fun _ => fun _ => fun _ => divTag_keeps (by assumption))

theorem execMarkSend_next {s : State} {a0} : ∃ u, execMarkSend a0 s = .next u ∧ Keeps s u := by
  have h := Keeps.refl s
  unfold execMarkSend
  refine ⟨_, rfl, ?_⟩
  exact over_keeps (at_keeps (at_keeps (by assumption))) (fun _ => fun _ => fun _ => markTile_keeps (by assumption))

theorem execSyncInEdge_next {s : State} {a0} : ∃ u, execSyncInEdge a0 s = .next u ∧ Keeps s u := by
  have h := Keeps.refl s
  unfold execSyncInEdge
  refine ⟨_, rfl, ?_⟩
  exact syncEdge_keeps (at_keeps (by assumption))

theorem execSyncLost_next {s : State} {a0} : ∃ u, execSyncLost a0 s = .next u ∧ Keeps s u := by
  have h := Keeps.refl s
  unfold execSyncLost
  refine ⟨_, rfl, ?_⟩
  exact syncLost_keeps (at_keeps (by assumption))

theorem execSyncOutPulse_next {s : State} {a0 a1} : ∃ u, execSyncOutPulse a0 a1 s = .next u ∧ Keeps s u := by
  have h := Keeps.refl s
  unfold execSyncOutPulse
  refine ⟨_, rfl, ?_⟩
  exact syncOut_keeps (at_keeps (by assumption))

theorem execFallbackLoadDone_next {s : State} {a0 a1} : ∃ u, execFallbackLoadDone a0 a1 s = .next u ∧ Keeps s u := by
  have h := Keeps.refl s
  unfold execFallbackLoadDone
  refine ⟨_, rfl, ?_⟩
  exact fbLoadDone_keeps (at_keeps (by assumption))

theorem execFallbackRefresh_next {s : State} {a0 a1} : ∃ u, execFallbackRefresh a0 a1 s = .next u ∧ Keeps s u := by
  have h := Keeps.refl s
  unfold execFallbackRefresh
  refine ⟨_, rfl, ?_⟩
  exact fbRefresh_keeps (at_keeps (by assumption))

theorem execSchedWrite_next {s : State} {a0 a1 a2} : ∃ u, execSchedWrite a0 a1 a2 s = .next u ∧ Keeps s u := by
  have h := Keeps.refl s
  unfold execSchedWrite
  refine ⟨_, rfl, ?_⟩
  exact gateWrite_keeps (at_keeps (by assumption)) (fun _ => fun _ => fun _ => fun _ => schedCmd_keeps (by assumption))

theorem execSchedDelete_next {s : State} {a0 a1 a2} : ∃ u, execSchedDelete a0 a1 a2 s = .next u ∧ Keeps s u := by
  have h := Keeps.refl s
  unfold execSchedDelete
  refine ⟨_, rfl, ?_⟩
  exact gateWrite_keeps (at_keeps (by assumption)) (fun _ => fun _ => fun _ => fun _ => schedCmd_keeps (by assumption))

theorem execSchedRead_next {s : State} {a0 a1 a2} : ∃ u, execSchedRead a0 a1 a2 s = .next u ∧ Keeps s u := by
  have h := Keeps.refl s
  unfold execSchedRead
  refine ⟨_, rfl, ?_⟩
  exact gateWrite_keeps (at_keeps (by assumption)) (fun _ => fun _ => fun _ => fun _ => schedCmd_keeps (by assumption))

theorem execSchedDue_next {s : State} {a0 a1} : ∃ u, execSchedDue a0 a1 s = .next u ∧ Keeps s u := by
  have h := Keeps.refl s
  unfold execSchedDue
  refine ⟨_, rfl, ?_⟩
  exact regRead_keeps (at_keeps (by assumption))

theorem execHostVerify_next {s : State} {a0} : ∃ u, execHostVerify a0 s = .next u ∧ Keeps s u := by
  have h := Keeps.refl s
  unfold execHostVerify
  refine ⟨_, rfl, ?_⟩
  exact hostVerify_keeps (at_keeps (by assumption))

theorem execHostDrop_next {s : State} {a0} : ∃ u, execHostDrop a0 s = .next u ∧ Keeps s u := by
  have h := Keeps.refl s
  unfold execHostDrop
  refine ⟨_, rfl, ?_⟩
  exact hostDrop_keeps (at_keeps (by assumption))

theorem execUnlock_next {s : State} {a0} : ∃ u, execUnlock a0 s = .next u ∧ Keeps s u := by
  have h := Keeps.refl s
  unfold execUnlock
  refine ⟨_, rfl, ?_⟩
  exact debugUnlock_keeps (at_keeps (by assumption))

theorem execTapUnlockWrite_next {s : State} {a0 a1 a2} : ∃ u, execTapUnlockWrite a0 a1 a2 s = .next u ∧ Keeps s u := by
  have h := Keeps.refl s
  unfold execTapUnlockWrite
  refine ⟨_, rfl, ?_⟩
  exact tapWrite_keeps (at_keeps (by assumption))

theorem execTapUnlockRead_next {s : State} {a0 a1} : ∃ u, execTapUnlockRead a0 a1 s = .next u ∧ Keeps s u := by
  have h := Keeps.refl s
  unfold execTapUnlockRead
  refine ⟨_, rfl, ?_⟩
  exact tapRead_keeps (at_keeps (by assumption))

theorem execVerifyToken_next {s : State} {a0 a1} : ∃ u, execVerifyToken a0 a1 s = .next u ∧ Keeps s u := by
  have h := Keeps.refl s
  unfold execVerifyToken
  refine ⟨_, rfl, ?_⟩
  exact svcVerify_keeps (at_keeps (by assumption))

theorem execHsKeyshare_next {s : State} {a0 a1 a2} : ∃ u, execHsKeyshare a0 a1 a2 s = .next u ∧ Keeps s u := by
  have h := Keeps.refl s
  unfold execHsKeyshare
  refine ⟨_, rfl, ?_⟩
  exact svcKeyshare_keeps (at_keeps (by assumption))

theorem execHsSign_next {s : State} {a0 a1} : ∃ u, execHsSign a0 a1 s = .next u ∧ Keeps s u := by
  have h := Keeps.refl s
  unfold execHsSign
  refine ⟨_, rfl, ?_⟩
  exact svcSign_keeps (at_keeps (by assumption))

theorem execHsInstall_next {s : State} {a0 a1} : ∃ u, execHsInstall a0 a1 s = .next u ∧ Keeps s u := by
  have h := Keeps.refl s
  unfold execHsInstall
  refine ⟨_, rfl, ?_⟩
  exact svcInstall_keeps (at_keeps (by assumption))

theorem execVerdict_next {s : State} {a0 a1} : ∃ u, execVerdict a0 a1 s = .next u ∧ Keeps s u := by
  have h := Keeps.refl s
  unfold execVerdict
  refine ⟨_, rfl, ?_⟩
  exact svcVerdict_keeps (at_keeps (by assumption))

theorem execUpdate_next {s : State} {a0 a1 a2} : ∃ u, execUpdate a0 a1 a2 s = .next u ∧ Keeps s u := by
  have h := Keeps.refl s
  unfold execUpdate
  refine ⟨_, rfl, ?_⟩
  exact svcUpdate_keeps (at_keeps (by assumption))

theorem execKeyGenerate_next {s : State} {a0 a1 a2} : ∃ u, execKeyGenerate a0 a1 a2 s = .next u ∧ Keeps s u := by
  have h := Keeps.refl s
  unfold execKeyGenerate
  refine ⟨_, rfl, ?_⟩
  exact gateWrite_keeps (at_keeps (by assumption)) (fun _ => fun _ => fun _ => fun _ => keyCmd_keeps (by assumption))

theorem execKeyInstall_next {s : State} {a0 a1 a2 a3 a4} : ∃ u, execKeyInstall a0 a1 a2 a3 a4 s = .next u ∧ Keeps s u := by
  have h := Keeps.refl s
  unfold execKeyInstall
  refine ⟨_, rfl, ?_⟩
  exact gateWrite_keeps (at_keeps (by assumption)) (fun _ => fun _ => fun _ => fun _ => keyCmd_keeps (by assumption))

theorem execKeyErase_next {s : State} {a0 a1 a2} : ∃ u, execKeyErase a0 a1 a2 s = .next u ∧ Keeps s u := by
  have h := Keeps.refl s
  unfold execKeyErase
  refine ⟨_, rfl, ?_⟩
  exact gateWrite_keeps (at_keeps (by assumption)) (fun _ => fun _ => fun _ => fun _ => keyCmd_keeps (by assumption))

theorem execKeyLock_next {s : State} {a0 a1 a2} : ∃ u, execKeyLock a0 a1 a2 s = .next u ∧ Keeps s u := by
  have h := Keeps.refl s
  unfold execKeyLock
  refine ⟨_, rfl, ?_⟩
  exact gateWrite_keeps (at_keeps (by assumption)) (fun _ => fun _ => fun _ => fun _ => keyCmd_keeps (by assumption))

theorem execRecInstall_next {s : State} {a0 a1 a2} : ∃ u, execRecInstall a0 a1 a2 s = .next u ∧ Keeps s u := by
  have h := Keeps.refl s
  unfold execRecInstall
  refine ⟨_, rfl, ?_⟩
  exact gateWrite_keeps (at_keeps (by assumption)) (fun _ => fun _ => fun _ => fun _ => recCmd_keeps (by assumption))

theorem execKeyUpdate_next {s : State} {a0 a1 a2} : ∃ u, execKeyUpdate a0 a1 a2 s = .next u ∧ Keeps s u := by
  have h := Keeps.refl s
  unfold execKeyUpdate
  refine ⟨_, rfl, ?_⟩
  exact gateWrite_keeps (at_keeps (by assumption)) (fun _ => fun _ => fun _ => fun _ => recCmd_keeps (by assumption))

theorem execRecErase_next {s : State} {a0 a1 a2} : ∃ u, execRecErase a0 a1 a2 s = .next u ∧ Keeps s u := by
  have h := Keeps.refl s
  unfold execRecErase
  refine ⟨_, rfl, ?_⟩
  exact gateWrite_keeps (at_keeps (by assumption)) (fun _ => fun _ => fun _ => fun _ => recCmd_keeps (by assumption))

theorem execOtpProgram_next {s : State} {a0 a1 a2 a3} : ∃ u, execOtpProgram a0 a1 a2 a3 s = .next u ∧ Keeps s u := by
  have h := Keeps.refl s
  unfold execOtpProgram
  refine ⟨_, rfl, ?_⟩
  exact gateWrite_keeps (at_keeps (by assumption)) (fun _ => fun _ => fun _ => fun _ => otpCmd_keeps (by assumption))

theorem execOtpRetry_next {s : State} {a0} : ∃ u, execOtpRetry a0 s = .next u ∧ Keeps s u := by
  have h := Keeps.refl s
  unfold execOtpRetry
  refine ⟨_, rfl, ?_⟩
  exact otpRetry_keeps (at_keeps (by assumption))

theorem execDrbgReseed_next {s : State} {a0 a1} : ∃ u, execDrbgReseed a0 a1 s = .next u ∧ Keeps s u := by
  have h := Keeps.refl s
  unfold execDrbgReseed
  refine ⟨_, rfl, ?_⟩
  exact drbgReseed_keeps (at_keeps (by assumption))

theorem execTamperSample_next {s : State} {a0 a1} : ∃ u, execTamperSample a0 a1 s = .next u ∧ Keeps s u := by
  have h := Keeps.refl s
  unfold execTamperSample
  refine ⟨_, rfl, ?_⟩
  exact tamperSample_keeps (at_keeps (by assumption))

theorem execTimeFloorSave_next {s : State} {a0} : ∃ u, execTimeFloorSave a0 s = .next u ∧ Keeps s u := by
  have h := Keeps.refl s
  unfold execTimeFloorSave
  refine ⟨_, rfl, ?_⟩
  exact timeFloorSave_keeps (at_keeps (by assumption))

theorem execQuarantineEntry_next {s : State} {a0 a1} : ∃ u, execQuarantineEntry a0 a1 s = .next u ∧ Keeps s u := by
  have h := Keeps.refl s
  unfold execQuarantineEntry
  refine ⟨_, rfl, ?_⟩
  exact quarantineEnter_keeps (at_keeps (by assumption))

theorem execHostGrantExpiry_next {s : State} {a0} : ∃ u, execHostGrantExpiry a0 s = .next u ∧ Keeps s u := by
  have h := Keeps.refl s
  unfold execHostGrantExpiry
  refine ⟨_, rfl, ?_⟩
  exact grantExpiry_keeps (at_keeps (by assumption))

theorem execDtlsRecordRx_next {s : State} {a0 a1 a2} : ∃ u, execDtlsRecordRx a0 a1 a2 s = .next u ∧ Keeps s u := by
  have h := Keeps.refl s
  unfold execDtlsRecordRx
  refine ⟨_, rfl, ?_⟩
  exact dtlsRecord_keeps (at_keeps (by assumption))

theorem execClientHello_next {s : State} {a0 a1 a2 a3 a4} : ∃ u, execClientHello a0 a1 a2 a3 a4 s = .next u ∧ Keeps s u := by
  have h := Keeps.refl s
  unfold execClientHello
  refine ⟨_, rfl, ?_⟩
  exact clientHello_keeps (at_keeps (by assumption))

theorem execHandshakeDone_next {s : State} {a0 a1 a2 a3} : ∃ u, execHandshakeDone a0 a1 a2 a3 s = .next u ∧ Keeps s u := by
  have h := Keeps.refl s
  unfold execHandshakeDone
  refine ⟨_, rfl, ?_⟩
  exact startProgress_keeps (handshakeDone_keeps (at_keeps (by assumption)))

theorem execHandshakeStart_next {s : State} {a0 a1 a2 a3 a4} : ∃ u, execHandshakeStart a0 a1 a2 a3 a4 s = .next u ∧ Keeps s u := by
  have h := Keeps.refl s
  unfold execHandshakeStart
  refine ⟨_, rfl, ?_⟩
  exact handshakeStart_keeps (at_keeps (by assumption))

theorem execSessionIdle_next {s : State} {a0 a1} : ∃ u, execSessionIdle a0 a1 s = .next u ∧ Keeps s u := by
  have h := Keeps.refl s
  unfold execSessionIdle
  refine ⟨_, rfl, ?_⟩
  exact sessionIdle_keeps (at_keeps (by assumption))

theorem execWaordRequest_next {s : State} {a0 a1 a2 a3} : ∃ u, execWaordRequest a0 a1 a2 a3 s = .next u ∧ Keeps s u := by
  have h := Keeps.refl s
  unfold execWaordRequest
  refine ⟨_, rfl, ?_⟩
  exact waordRequest_keeps (at_keeps (by assumption))

theorem execWaordSafety_next {s : State} {a0 a1 a2 a3 a4} : ∃ u, execWaordSafety a0 a1 a2 a3 a4 s = .next u ∧ Keeps s u := by
  have h := Keeps.refl s
  unfold execWaordSafety
  refine ⟨_, rfl, ?_⟩
  exact waordSafety_keeps (at_keeps (by assumption))

theorem execWaordObjects_next {s : State} {a0 a1 a2 a3 a4 a5} : ∃ u, execWaordObjects a0 a1 a2 a3 a4 a5 s = .next u ∧ Keeps s u := by
  have h := Keeps.refl s
  unfold execWaordObjects
  refine ⟨_, rfl, ?_⟩
  exact waordObjects_keeps (at_keeps (by assumption))

theorem execPresentToken_next {s : State} {a0 a1 a2 a3 a4} : ∃ u, execPresentToken a0 a1 a2 a3 a4 s = .next u ∧ Keeps s u := by
  have h := Keeps.refl s
  unfold execPresentToken
  refine ⟨_, rfl, ?_⟩
  exact waordRequest_keeps (at_keeps (by assumption))

theorem execDropToken_next {s : State} {a0 a1 a2} : ∃ u, execDropToken a0 a1 a2 s = .next u ∧ Keeps s u := by
  have h := Keeps.refl s
  unfold execDropToken
  refine ⟨_, rfl, ?_⟩
  exact waordRequest_keeps (at_keeps (by assumption))

theorem execAttest_next {s : State} {a0 a1 a2} : ∃ u, execAttest a0 a1 a2 s = .next u ∧ Keeps s u := by
  have h := Keeps.refl s
  unfold execAttest
  refine ⟨_, rfl, ?_⟩
  exact waordRequest_keeps (at_keeps (by assumption))

theorem execModeRequest_next {s : State} {a0 a1 a2 a3 a4} : ∃ u, execModeRequest a0 a1 a2 a3 a4 s = .next u ∧ Keeps s u := by
  have h := Keeps.refl s
  unfold execModeRequest
  refine ⟨_, rfl, ?_⟩
  exact waordRequest_keeps (at_keeps (by assumption))

theorem execCommissionDone_next {s : State} {a0 a1 a2} : ∃ u, execCommissionDone a0 a1 a2 s = .next u ∧ Keeps s u := by
  have h := Keeps.refl s
  unfold execCommissionDone
  refine ⟨_, rfl, ?_⟩
  exact waordRequest_keeps (at_keeps (by assumption))

theorem execCommissionReset_next {s : State} {a0 a1 a2} : ∃ u, execCommissionReset a0 a1 a2 s = .next u ∧ Keeps s u := by
  have h := Keeps.refl s
  unfold execCommissionReset
  refine ⟨_, rfl, ?_⟩
  exact waordRequest_keeps (at_keeps (by assumption))

theorem execPowerGood_next {s : State} {a0} : ∃ u, execPowerGood a0 s = .next u ∧ Keeps s u := by
  have h := Keeps.refl s
  unfold execPowerGood
  refine ⟨_, rfl, ?_⟩
  exact powerGood_keeps (at_keeps (by assumption))

theorem execResetN_next {s : State} {a0} : ∃ u, execResetN a0 s = .next u ∧ Keeps s u := by
  have h := Keeps.refl s
  unfold execResetN
  refine ⟨_, rfl, ?_⟩
  exact resetPin_keeps (at_keeps (by assumption))

theorem execSysRstCmd_next {s : State} {a0 a1 a2} : ∃ u, execSysRstCmd a0 a1 a2 s = .next u ∧ Keeps s u := by
  have h := Keeps.refl s
  unfold execSysRstCmd
  refine ⟨_, rfl, ?_⟩
  exact gateWrite_keeps (at_keeps (by assumption)) (fun _ => fun _ => fun _ => fun _ => rstCmd_keeps (by assumption))

theorem execSafeRunning_next {s : State} {a0 a1 a2 a3 a4} : ∃ u, execSafeRunning a0 a1 a2 a3 a4 s = .next u ∧ Keeps s u := by
  have h := Keeps.refl s
  unfold execSafeRunning
  refine ⟨_, rfl, ?_⟩
  exact safeRunning_keeps (at_keeps (by assumption))

theorem execStartRecordApply_next {s : State} {a0 a1 a2} : ∃ u, execStartRecordApply a0 a1 a2 s = .next u ∧ Keeps s u := by
  have h := Keeps.refl s
  unfold execStartRecordApply
  refine ⟨_, rfl, ?_⟩
  exact recordApply_keeps (at_keeps (by assumption))

theorem execStaggerEnd_next {s : State} {a0} : ∃ u, execStaggerEnd a0 s = .next u ∧ Keeps s u := by
  have h := Keeps.refl s
  unfold execStaggerEnd
  refine ⟨_, rfl, ?_⟩
  exact staggerEnd_keeps (at_keeps (by assumption))

theorem execMainImageVerified_next {s : State} {a0} : ∃ u, execMainImageVerified a0 s = .next u ∧ Keeps s u := by
  have h := Keeps.refl s
  unfold execMainImageVerified
  refine ⟨_, rfl, ?_⟩
  exact mainVerified_keeps (at_keeps (by assumption))

theorem execStartStepTimeout_next {s : State} {a0} : ∃ u, execStartStepTimeout a0 s = .next u ∧ Keeps s u := by
  have h := Keeps.refl s
  unfold execStartStepTimeout
  refine ⟨_, rfl, ?_⟩
  exact startTimeout_keeps (at_keeps (by assumption))

theorem execCpuHartRst_next {s : State} {a0 a1 a2 a3} : ∃ u, execCpuHartRst a0 a1 a2 a3 s = .next u ∧ Keeps s u := by
  have h := Keeps.refl s
  unfold execCpuHartRst
  refine ⟨_, rfl, ?_⟩
  exact gateWrite_keeps (at_keeps (by assumption)) (fun _ => fun _ => fun _ => fun _ => hartRst_keeps (by assumption))

theorem execCpuWdog_next {s : State} {a0 a1 a2} : ∃ u, execCpuWdog a0 a1 a2 s = .next u ∧ Keeps s u := by
  have h := Keeps.refl s
  unfold execCpuWdog
  refine ⟨_, rfl, ?_⟩
  exact cpuWdog_keeps (at_keeps (by assumption))

theorem execLockstepMismatch_next {s : State} {a0} : ∃ u, execLockstepMismatch a0 s = .next u ∧ Keeps s u := by
  have h := Keeps.refl s
  unfold execLockstepMismatch
  refine ⟨_, rfl, ?_⟩
  exact lockstepMismatch_keeps (at_keeps (by assumption))

theorem execVmonUv_next {s : State} {a0 a1} : ∃ u, execVmonUv a0 a1 s = .next u ∧ Keeps s u := by
  have h := Keeps.refl s
  unfold execVmonUv
  refine ⟨_, rfl, ?_⟩
  exact vmon_keeps (at_keeps (by assumption))

theorem execVmonOv_next {s : State} {a0 a1} : ∃ u, execVmonOv a0 a1 s = .next u ∧ Keeps s u := by
  have h := Keeps.refl s
  unfold execVmonOv
  refine ⟨_, rfl, ?_⟩
  exact vmon_keeps (at_keeps (by assumption))

theorem execPowerLoss_next {s : State} {a0} : ∃ u, execPowerLoss a0 s = .next u ∧ Keeps s u := by
  have h := Keeps.refl s
  unfold execPowerLoss
  refine ⟨_, rfl, ?_⟩
  exact powerLoss_keeps (at_keeps (by assumption))

theorem execSensorConversion_next {s : State} {a0 a1 a2} : ∃ u, execSensorConversion a0 a1 a2 s = .next u ∧ Keeps s u := by
  have h := Keeps.refl s
  unfold execSensorConversion
  refine ⟨_, rfl, ?_⟩
  exact dieConversion_keeps (at_keeps (by assumption))

theorem execThrottleStep_next {s : State} {a0} : ∃ u, execThrottleStep a0 s = .next u ∧ Keeps s u := by
  have h := Keeps.refl s
  unfold execThrottleStep
  refine ⟨_, rfl, ?_⟩
  exact throttleStep_keeps (at_keeps (by assumption))

theorem execCriticalClear_next {s : State} {a0} : ∃ u, execCriticalClear a0 s = .next u ∧ Keeps s u := by
  have h := Keeps.refl s
  unfold execCriticalClear
  refine ⟨_, rfl, ?_⟩
  exact criticalClear_keeps (at_keeps (by assumption))

theorem execShutdownRestart_next {s : State} {a0} : ∃ u, execShutdownRestart a0 s = .next u ∧ Keeps s u := by
  have h := Keeps.refl s
  unfold execShutdownRestart
  refine ⟨_, rfl, ?_⟩
  exact shutdownRestart_keeps (at_keeps (by assumption))

theorem execTileSensorTimeout_next {s : State} {a0 a1 a2} : ∃ u, execTileSensorTimeout a0 a1 a2 s = .next u ∧ Keeps s u := by
  have h := Keeps.refl s
  unfold execTileSensorTimeout
  refine ⟨_, rfl, ?_⟩
  exact tileSensorTimeout_keeps (at_keeps (by assumption))

theorem execSensorFailClear_next {s : State} {a0 a1 a2 a3} : ∃ u, execSensorFailClear a0 a1 a2 a3 s = .next u ∧ Keeps s u := by
  have h := Keeps.refl s
  unfold execSensorFailClear
  refine ⟨_, rfl, ?_⟩
  exact gateWrite_keeps (at_keeps (by assumption)) (fun _ => fun _ => fun _ => fun _ => thmClear_keeps (by assumption))

theorem execThmTileOver_next {s : State} {a0 a1} : ∃ u, execThmTileOver a0 a1 s = .next u ∧ Keeps s u := by
  have h := Keeps.refl s
  unfold execThmTileOver
  refine ⟨_, rfl, ?_⟩
  exact tileOver_keeps (at_keeps (by assumption))

theorem execClkRefLoss_next {s : State} {a0} : ∃ u, execClkRefLoss a0 s = .next u ∧ Keeps s u := by
  have h := Keeps.refl s
  unfold execClkRefLoss
  refine ⟨_, rfl, ?_⟩
  exact refLoss_keeps (at_keeps (by assumption))

theorem execPllUnlock_next {s : State} {a0 a1} : ∃ u, execPllUnlock a0 a1 s = .next u ∧ Keeps s u := by
  have h := Keeps.refl s
  unfold execPllUnlock
  refine ⟨_, rfl, ?_⟩
  exact pllUnlock_keeps (at_keeps (by assumption))

theorem execSubmit_next {s : State} {a0 a1 a2} : ∃ u, execSubmit a0 a1 a2 s = .next u ∧ Keeps s u := by
  have h := Keeps.refl s
  unfold execSubmit
  refine ⟨_, rfl, ?_⟩
  exact startProgress_keeps (gateWrite_keeps (at_keeps (by assumption)) (fun _ => fun _ => fun _ => fun _ => measCtrl_keeps (by assumption)))

theorem execReacq_next {s : State} {a0 a1 a2} : ∃ u, execReacq a0 a1 a2 s = .next u ∧ Keeps s u := by
  have h := Keeps.refl s
  unfold execReacq
  refine ⟨_, rfl, ?_⟩
  exact gateWrite_keeps (at_keeps (by assumption)) (fun _ => fun _ => fun _ => fun _ => measCtrl_keeps (by assumption))

theorem execServoHoldover_next {s : State} {a0} : ∃ u, execServoHoldover a0 s = .next u ∧ Keeps s u := by
  have h := Keeps.refl s
  unfold execServoHoldover
  refine ⟨_, rfl, ?_⟩
  exact servoHoldover_keeps (at_keeps (by assumption))

theorem execApply_next {s : State} {a0 a1 a2} : ∃ u, execApply a0 a1 a2 s = .next u ∧ Keeps s u := by
  have h := Keeps.refl s
  unfold execApply
  refine ⟨_, rfl, ?_⟩
  exact gateWrite_keeps (at_keeps (by assumption)) (fun _ => fun _ => fun _ => fun _ => stepCmd_keeps (by assumption))

theorem execTimeEpochWrite_next {s : State} {a0 a1 a2 a3} : ∃ u, execTimeEpochWrite a0 a1 a2 a3 s = .next u ∧ Keeps s u := by
  have h := Keeps.refl s
  unfold execTimeEpochWrite
  refine ⟨_, rfl, ?_⟩
  exact gateWrite_keeps (at_keeps (by assumption)) (fun _ => fun _ => fun _ => fun _ => epochWrite_keeps (by assumption))

theorem execTimeTsqHdr_next {s : State} {a0 a1} : ∃ u, execTimeTsqHdr a0 a1 s = .next u ∧ Keeps s u := by
  have h := Keeps.refl s
  unfold execTimeTsqHdr
  refine ⟨_, rfl, ?_⟩
  exact regRead_keeps (at_keeps (by assumption))

theorem execUpdBegin_next {s : State} {a0 a1 a2 a3 a4} : ∃ u, execUpdBegin a0 a1 a2 a3 a4 s = .next u ∧ Keeps s u := by
  have h := Keeps.refl s
  unfold execUpdBegin
  refine ⟨_, rfl, ?_⟩
  exact waordRequest_keeps (at_keeps (by assumption))

theorem execUpdData_next {s : State} {a0 a1 a2 a3 a4} : ∃ u, execUpdData a0 a1 a2 a3 a4 s = .next u ∧ Keeps s u := by
  have h := Keeps.refl s
  unfold execUpdData
  refine ⟨_, rfl, ?_⟩
  exact waordRequest_keeps (at_keeps (by assumption))

theorem execUpdVerify_next {s : State} {a0 a1 a2} : ∃ u, execUpdVerify a0 a1 a2 s = .next u ∧ Keeps s u := by
  have h := Keeps.refl s
  unfold execUpdVerify
  refine ⟨_, rfl, ?_⟩
  exact waordRequest_keeps (at_keeps (by assumption))

theorem execUpdActivate_next {s : State} {a0 a1 a2 a3 a4} : ∃ u, execUpdActivate a0 a1 a2 a3 a4 s = .next u ∧ Keeps s u := by
  have h := Keeps.refl s
  unfold execUpdActivate
  refine ⟨_, rfl, ?_⟩
  exact waordRequest_keeps (at_keeps (by assumption))

theorem execUpdateActivationReset_next {s : State} {a0} : ∃ u, execUpdateActivationReset a0 s = .next u ∧ Keeps s u := by
  have h := Keeps.refl s
  unfold execUpdateActivationReset
  refine ⟨_, rfl, ?_⟩
  exact activation_keeps (at_keeps (by assumption))

theorem execUpdConfirm_next {s : State} {a0 a1 a2} : ∃ u, execUpdConfirm a0 a1 a2 s = .next u ∧ Keeps s u := by
  have h := Keeps.refl s
  unfold execUpdConfirm
  refine ⟨_, rfl, ?_⟩
  exact waordRequest_keeps (at_keeps (by assumption))

theorem execUpdAbort_next {s : State} {a0 a1 a2} : ∃ u, execUpdAbort a0 a1 a2 s = .next u ∧ Keeps s u := by
  have h := Keeps.refl s
  unfold execUpdAbort
  refine ⟨_, rfl, ?_⟩
  exact waordRequest_keeps (at_keeps (by assumption))

theorem execConfirmExpiry_next {s : State} {a0} : ∃ u, execConfirmExpiry a0 s = .next u ∧ Keeps s u := by
  have h := Keeps.refl s
  unfold execConfirmExpiry
  refine ⟨_, rfl, ?_⟩
  exact confirmExpiry_keeps (at_keeps (by assumption))

theorem execAuditRead_next {s : State} {a0 a1 a2 a3 a4} : ∃ u, execAuditRead a0 a1 a2 a3 a4 s = .next u ∧ Keeps s u := by
  have h := Keeps.refl s
  unfold execAuditRead
  refine ⟨_, rfl, ?_⟩
  exact waordRequest_keeps (at_keeps (by assumption))

theorem execAuditAck_next {s : State} {a0 a1 a2 a3} : ∃ u, execAuditAck a0 a1 a2 a3 s = .next u ∧ Keeps s u := by
  have h := Keeps.refl s
  unfold execAuditAck
  refine ⟨_, rfl, ?_⟩
  exact waordRequest_keeps (at_keeps (by assumption))

theorem execRcvChallenge_next {s : State} {a0 a1 a2} : ∃ u, execRcvChallenge a0 a1 a2 s = .next u ∧ Keeps s u := by
  have h := Keeps.refl s
  unfold execRcvChallenge
  refine ⟨_, rfl, ?_⟩
  exact waordRequest_keeps (at_keeps (by assumption))

theorem execRcvExit_next {s : State} {a0 a1 a2 a3} : ∃ u, execRcvExit a0 a1 a2 a3 s = .next u ∧ Keeps s u := by
  have h := Keeps.refl s
  unfold execRcvExit
  refine ⟨_, rfl, ?_⟩
  exact waordRequest_keeps (at_keeps (by assumption))

theorem execVinFrameStart_next {s : State} {a0 a1 a2 a3 a4} : ∃ u, execVinFrameStart a0 a1 a2 a3 a4 s = .next u ∧ Keeps s u := by
  have h := Keeps.refl s
  unfold execVinFrameStart
  refine ⟨_, rfl, ?_⟩
  exact when_keeps (frameStart_keeps (at_keeps (by assumption))) (laneStop_keeps (frameStart_keeps (at_keeps (by assumption))))

theorem execVinLongPacket_next {s : State} {a0 a1 a2 a3 a4 a5 a6 a7 a8} : ∃ u, execVinLongPacket a0 a1 a2 a3 a4 a5 a6 a7 a8 s = .next u ∧ Keeps s u := by
  have h := Keeps.refl s
  unfold execVinLongPacket
  refine ⟨_, rfl, ?_⟩
  exact longPacket_keeps (at_keeps (by assumption))

theorem execVinFrameEnd_next {s : State} {a0 a1 a2 a3} : ∃ u, execVinFrameEnd a0 a1 a2 a3 s = .next u ∧ Keeps s u := by
  have h := Keeps.refl s
  unfold execVinFrameEnd
  refine ⟨_, rfl, ?_⟩
  exact when_keeps (closeWins_keeps (frameEnd_keeps (at_keeps (by assumption)))) (laneStop_keeps (closeWins_keeps (frameEnd_keeps (at_keeps (by assumption)))))

theorem execShortPacketIgnored_next {s : State} {a0 a1 a2} : ∃ u, execShortPacketIgnored a0 a1 a2 s = .next u ∧ Keeps s u := by
  have h := Keeps.refl s
  unfold execShortPacketIgnored
  refine ⟨_, rfl, ?_⟩
  exact when_keeps (shortIgnored_keeps (at_keeps (by assumption))) (laneStop_keeps (shortIgnored_keeps (at_keeps (by assumption))))

theorem execHeaderEccError_next {s : State} {a0 a1} : ∃ u, execHeaderEccError a0 a1 s = .next u ∧ Keeps s u := by
  have h := Keeps.refl s
  unfold execHeaderEccError
  refine ⟨_, rfl, ?_⟩
  exact headerError_keeps (at_keeps (by assumption))

theorem execDeskew_next {s : State} {a0 a1} : ∃ u, execDeskew a0 a1 s = .next u ∧ Keeps s u := by
  have h := Keeps.refl s
  unfold execDeskew
  refine ⟨_, rfl, ?_⟩
  exact at_keeps (by assumption)

theorem execUlps_next {s : State} {a0 a1 a2} : ∃ u, execUlps a0 a1 a2 s = .next u ∧ Keeps s u := by
  have h := Keeps.refl s
  unfold execUlps
  refine ⟨_, rfl, ?_⟩
  exact ulps_keeps (at_keeps (by assumption))

theorem execLookCaptureTime_next {s : State} {a0} : ∃ u, execLookCaptureTime a0 s = .next u ∧ Keeps s u := by
  have h := Keeps.refl s
  unfold execLookCaptureTime
  refine ⟨_, rfl, ?_⟩
  exact lookCapture_keeps (at_keeps (at_keeps (by assumption)))

theorem execCapture_next {s : State} {a0 a1 a2} : ∃ u, execCapture a0 a1 a2 s = .next u ∧ Keeps s u := by
  have h := Keeps.refl s
  unfold execCapture
  refine ⟨_, rfl, ?_⟩
  exact gateWrite_keeps (at_keeps (by assumption)) (fun _ => fun _ => fun _ => fun _ => lookCmd_keeps (by assumption))

theorem execLookEvalDone_next {s : State} {a0} : ∃ u, execLookEvalDone a0 s = .next u ∧ Keeps s u := by
  have h := Keeps.refl s
  unfold execLookEvalDone
  refine ⟨_, rfl, ?_⟩
  exact closeWins_keeps (lookEval_keeps (at_keeps (by assumption)))

theorem execLookEnable_next {s : State} {a0 a1 a2} : ∃ u, execLookEnable a0 a1 a2 s = .next u ∧ Keeps s u := by
  have h := Keeps.refl s
  unfold execLookEnable
  refine ⟨_, rfl, ?_⟩
  exact gateWrite_keeps (at_keeps (by assumption)) (fun _ => fun _ => fun _ => fun _ => lookCtrl_keeps (by assumption))

theorem execSotError_next {s : State} {a0 a1} : ∃ u, execSotError a0 a1 s = .next u ∧ Keeps s u := by
  have h := Keeps.refl s
  unfold execSotError
  refine ⟨_, rfl, ?_⟩
  exact sotError_keeps (at_keeps (by assumption))

end Sys2Proof.Machine
end

