-- ==== Sys2Proof/Laws/State.lean ====
section
/-! SUPPORT. Reads after updates of the state: one equation per field and update, and what registers, shadows, statistics and memory read as after a write. -/

namespace Sys2Proof.Machine

variable (s : State)

/-! ### wr -/

@[simp] theorem State.wr_now (a : Nat) (v : Word) : (s.wr a v).now = s.now := rfl
@[simp] theorem State.wr_nextTick (a : Nat) (v : Word) : (s.wr a v).nextTick = s.nextTick := rfl
@[simp] theorem State.wr_tickNum (a : Nat) (v : Word) : (s.wr a v).tickNum = s.tickNum := rfl
@[simp] theorem State.wr_shadow (a : Nat) (v : Word) : (s.wr a v).shadow = s.shadow := rfl
@[simp] theorem State.wr_stat (a : Nat) (v : Word) : (s.wr a v).stat = s.stat := rfl
@[simp] theorem State.wr_mem (a : Nat) (v : Word) : (s.wr a v).mem = s.mem := rfl
@[simp] theorem State.wr_evt (a : Nat) (v : Word) : (s.wr a v).evt = s.evt := rfl
@[simp] theorem State.wr_ue (a : Nat) (v : Word) : (s.wr a v).ue = s.ue := rfl
@[simp] theorem State.wr_ce (a : Nat) (v : Word) : (s.wr a v).ce = s.ce := rfl
@[simp] theorem State.wr_bus (a : Nat) (v : Word) : (s.wr a v).bus = s.bus := rfl
@[simp] theorem State.wr_free (a : Nat) (v : Word) : (s.wr a v).free = s.free := rfl
@[simp] theorem State.wr_sys (a : Nat) (v : Word) : (s.wr a v).sys = s.sys := rfl
@[simp] theorem State.wr_flt (a : Nat) (v : Word) : (s.wr a v).flt = s.flt := rfl
@[simp] theorem State.wr_nv (a : Nat) (v : Word) : (s.wr a v).nv = s.nv := rfl
@[simp] theorem State.wr_plicClaimed (a : Nat) (v : Word) : (s.wr a v).plicClaimed = s.plicClaimed := rfl
@[simp] theorem State.wr_wdog (a : Nat) (v : Word) : (s.wr a v).wdog = s.wdog := rfl
@[simp] theorem State.wr_dmvLast (a : Nat) (v : Word) : (s.wr a v).dmvLast = s.dmvLast := rfl
@[simp] theorem State.wr_cmp (a : Nat) (v : Word) : (s.wr a v).cmp = s.cmp := rfl
@[simp] theorem State.wr_frm (a : Nat) (v : Word) : (s.wr a v).frm = s.frm := rfl
@[simp] theorem State.wr_pho (a : Nat) (v : Word) : (s.wr a v).pho = s.pho := rfl
@[simp] theorem State.wr_glm (a : Nat) (v : Word) : (s.wr a v).glm = s.glm := rfl
@[simp] theorem State.wr_tile (a : Nat) (v : Word) : (s.wr a v).tile = s.tile := rfl
@[simp] theorem State.wr_sync (a : Nat) (v : Word) : (s.wr a v).sync = s.sync := rfl
@[simp] theorem State.wr_pat (a : Nat) (v : Word) : (s.wr a v).pat = s.pat := rfl
@[simp] theorem State.wr_vin (a : Nat) (v : Word) : (s.wr a v).vin = s.vin := rfl
@[simp] theorem State.wr_look (a : Nat) (v : Word) : (s.wr a v).look = s.look := rfl
@[simp] theorem State.wr_ctl (a : Nat) (v : Word) : (s.wr a v).ctl = s.ctl := rfl
@[simp] theorem State.wr_nrg (a : Nat) (v : Word) : (s.wr a v).nrg = s.nrg := rfl
@[simp] theorem State.wr_dali (a : Nat) (v : Word) : (s.wr a v).dali = s.dali := rfl
@[simp] theorem State.wr_thm (a : Nat) (v : Word) : (s.wr a v).thm = s.thm := rfl
@[simp] theorem State.wr_pwr (a : Nat) (v : Word) : (s.wr a v).pwr = s.pwr := rfl
@[simp] theorem State.wr_tim (a : Nat) (v : Word) : (s.wr a v).tim = s.tim := rfl
@[simp] theorem State.wr_net (a : Nat) (v : Word) : (s.wr a v).net = s.net := rfl
@[simp] theorem State.wr_sched (a : Nat) (v : Word) : (s.wr a v).sched = s.sched := rfl
@[simp] theorem State.wr_ses (a : Nat) (v : Word) : (s.wr a v).ses = s.ses := rfl
@[simp] theorem State.wr_sec (a : Nat) (v : Word) : (s.wr a v).sec = s.sec := rfl
@[simp] theorem State.wr_upd (a : Nat) (v : Word) : (s.wr a v).upd = s.upd := rfl
@[simp] theorem State.wr_nvm (a : Nat) (v : Word) : (s.wr a v).nvm = s.nvm := rfl
@[simp] theorem State.wr_flash (a : Nat) (v : Word) : (s.wr a v).flash = s.flash := rfl
@[simp] theorem State.wr_pending (a : Nat) (v : Word) : (s.wr a v).pending = s.pending := rfl
@[simp] theorem State.wr_sh (c : Nat) (v : Word) (a : Nat) : (s.wr c v).sh a = s.sh a := rfl
@[simp] theorem State.wr_st (c : Nat) (v : Word) (a : Nat) : (s.wr c v).st a = s.st a := rfl
@[simp] theorem State.wr_ld (c : Nat) (v : Word) (a : Nat) : (s.wr c v).ld a = s.ld a := rfl

/-! ### shw -/

@[simp] theorem State.shw_now (a : Nat) (v : Word) : (s.shw a v).now = s.now := rfl
@[simp] theorem State.shw_nextTick (a : Nat) (v : Word) : (s.shw a v).nextTick = s.nextTick := rfl
@[simp] theorem State.shw_tickNum (a : Nat) (v : Word) : (s.shw a v).tickNum = s.tickNum := rfl
@[simp] theorem State.shw_regs (a : Nat) (v : Word) : (s.shw a v).regs = s.regs := rfl
@[simp] theorem State.shw_stat (a : Nat) (v : Word) : (s.shw a v).stat = s.stat := rfl
@[simp] theorem State.shw_mem (a : Nat) (v : Word) : (s.shw a v).mem = s.mem := rfl
@[simp] theorem State.shw_evt (a : Nat) (v : Word) : (s.shw a v).evt = s.evt := rfl
@[simp] theorem State.shw_ue (a : Nat) (v : Word) : (s.shw a v).ue = s.ue := rfl
@[simp] theorem State.shw_ce (a : Nat) (v : Word) : (s.shw a v).ce = s.ce := rfl
@[simp] theorem State.shw_bus (a : Nat) (v : Word) : (s.shw a v).bus = s.bus := rfl
@[simp] theorem State.shw_free (a : Nat) (v : Word) : (s.shw a v).free = s.free := rfl
@[simp] theorem State.shw_sys (a : Nat) (v : Word) : (s.shw a v).sys = s.sys := rfl
@[simp] theorem State.shw_flt (a : Nat) (v : Word) : (s.shw a v).flt = s.flt := rfl
@[simp] theorem State.shw_nv (a : Nat) (v : Word) : (s.shw a v).nv = s.nv := rfl
@[simp] theorem State.shw_plicClaimed (a : Nat) (v : Word) : (s.shw a v).plicClaimed = s.plicClaimed := rfl
@[simp] theorem State.shw_wdog (a : Nat) (v : Word) : (s.shw a v).wdog = s.wdog := rfl
@[simp] theorem State.shw_dmvLast (a : Nat) (v : Word) : (s.shw a v).dmvLast = s.dmvLast := rfl
@[simp] theorem State.shw_cmp (a : Nat) (v : Word) : (s.shw a v).cmp = s.cmp := rfl
@[simp] theorem State.shw_frm (a : Nat) (v : Word) : (s.shw a v).frm = s.frm := rfl
@[simp] theorem State.shw_pho (a : Nat) (v : Word) : (s.shw a v).pho = s.pho := rfl
@[simp] theorem State.shw_glm (a : Nat) (v : Word) : (s.shw a v).glm = s.glm := rfl
@[simp] theorem State.shw_tile (a : Nat) (v : Word) : (s.shw a v).tile = s.tile := rfl
@[simp] theorem State.shw_sync (a : Nat) (v : Word) : (s.shw a v).sync = s.sync := rfl
@[simp] theorem State.shw_pat (a : Nat) (v : Word) : (s.shw a v).pat = s.pat := rfl
@[simp] theorem State.shw_vin (a : Nat) (v : Word) : (s.shw a v).vin = s.vin := rfl
@[simp] theorem State.shw_look (a : Nat) (v : Word) : (s.shw a v).look = s.look := rfl
@[simp] theorem State.shw_ctl (a : Nat) (v : Word) : (s.shw a v).ctl = s.ctl := rfl
@[simp] theorem State.shw_nrg (a : Nat) (v : Word) : (s.shw a v).nrg = s.nrg := rfl
@[simp] theorem State.shw_dali (a : Nat) (v : Word) : (s.shw a v).dali = s.dali := rfl
@[simp] theorem State.shw_thm (a : Nat) (v : Word) : (s.shw a v).thm = s.thm := rfl
@[simp] theorem State.shw_pwr (a : Nat) (v : Word) : (s.shw a v).pwr = s.pwr := rfl
@[simp] theorem State.shw_tim (a : Nat) (v : Word) : (s.shw a v).tim = s.tim := rfl
@[simp] theorem State.shw_net (a : Nat) (v : Word) : (s.shw a v).net = s.net := rfl
@[simp] theorem State.shw_sched (a : Nat) (v : Word) : (s.shw a v).sched = s.sched := rfl
@[simp] theorem State.shw_ses (a : Nat) (v : Word) : (s.shw a v).ses = s.ses := rfl
@[simp] theorem State.shw_sec (a : Nat) (v : Word) : (s.shw a v).sec = s.sec := rfl
@[simp] theorem State.shw_upd (a : Nat) (v : Word) : (s.shw a v).upd = s.upd := rfl
@[simp] theorem State.shw_nvm (a : Nat) (v : Word) : (s.shw a v).nvm = s.nvm := rfl
@[simp] theorem State.shw_flash (a : Nat) (v : Word) : (s.shw a v).flash = s.flash := rfl
@[simp] theorem State.shw_pending (a : Nat) (v : Word) : (s.shw a v).pending = s.pending := rfl
@[simp] theorem State.shw_rd (c : Nat) (v : Word) (a : Nat) : (s.shw c v).rd a = s.rd a := rfl
@[simp] theorem State.shw_st (c : Nat) (v : Word) (a : Nat) : (s.shw c v).st a = s.st a := rfl
@[simp] theorem State.shw_ld (c : Nat) (v : Word) (a : Nat) : (s.shw c v).ld a = s.ld a := rfl

/-! ### stw -/

@[simp] theorem State.stw_now (a : Nat) (v : Word) : (s.stw a v).now = s.now := rfl
@[simp] theorem State.stw_nextTick (a : Nat) (v : Word) : (s.stw a v).nextTick = s.nextTick := rfl
@[simp] theorem State.stw_tickNum (a : Nat) (v : Word) : (s.stw a v).tickNum = s.tickNum := rfl
@[simp] theorem State.stw_regs (a : Nat) (v : Word) : (s.stw a v).regs = s.regs := rfl
@[simp] theorem State.stw_shadow (a : Nat) (v : Word) : (s.stw a v).shadow = s.shadow := rfl
@[simp] theorem State.stw_mem (a : Nat) (v : Word) : (s.stw a v).mem = s.mem := rfl
@[simp] theorem State.stw_evt (a : Nat) (v : Word) : (s.stw a v).evt = s.evt := rfl
@[simp] theorem State.stw_ue (a : Nat) (v : Word) : (s.stw a v).ue = s.ue := rfl
@[simp] theorem State.stw_ce (a : Nat) (v : Word) : (s.stw a v).ce = s.ce := rfl
@[simp] theorem State.stw_bus (a : Nat) (v : Word) : (s.stw a v).bus = s.bus := rfl
@[simp] theorem State.stw_free (a : Nat) (v : Word) : (s.stw a v).free = s.free := rfl
@[simp] theorem State.stw_sys (a : Nat) (v : Word) : (s.stw a v).sys = s.sys := rfl
@[simp] theorem State.stw_flt (a : Nat) (v : Word) : (s.stw a v).flt = s.flt := rfl
@[simp] theorem State.stw_nv (a : Nat) (v : Word) : (s.stw a v).nv = s.nv := rfl
@[simp] theorem State.stw_plicClaimed (a : Nat) (v : Word) : (s.stw a v).plicClaimed = s.plicClaimed := rfl
@[simp] theorem State.stw_wdog (a : Nat) (v : Word) : (s.stw a v).wdog = s.wdog := rfl
@[simp] theorem State.stw_dmvLast (a : Nat) (v : Word) : (s.stw a v).dmvLast = s.dmvLast := rfl
@[simp] theorem State.stw_cmp (a : Nat) (v : Word) : (s.stw a v).cmp = s.cmp := rfl
@[simp] theorem State.stw_frm (a : Nat) (v : Word) : (s.stw a v).frm = s.frm := rfl
@[simp] theorem State.stw_pho (a : Nat) (v : Word) : (s.stw a v).pho = s.pho := rfl
@[simp] theorem State.stw_glm (a : Nat) (v : Word) : (s.stw a v).glm = s.glm := rfl
@[simp] theorem State.stw_tile (a : Nat) (v : Word) : (s.stw a v).tile = s.tile := rfl
@[simp] theorem State.stw_sync (a : Nat) (v : Word) : (s.stw a v).sync = s.sync := rfl
@[simp] theorem State.stw_pat (a : Nat) (v : Word) : (s.stw a v).pat = s.pat := rfl
@[simp] theorem State.stw_vin (a : Nat) (v : Word) : (s.stw a v).vin = s.vin := rfl
@[simp] theorem State.stw_look (a : Nat) (v : Word) : (s.stw a v).look = s.look := rfl
@[simp] theorem State.stw_ctl (a : Nat) (v : Word) : (s.stw a v).ctl = s.ctl := rfl
@[simp] theorem State.stw_nrg (a : Nat) (v : Word) : (s.stw a v).nrg = s.nrg := rfl
@[simp] theorem State.stw_dali (a : Nat) (v : Word) : (s.stw a v).dali = s.dali := rfl
@[simp] theorem State.stw_thm (a : Nat) (v : Word) : (s.stw a v).thm = s.thm := rfl
@[simp] theorem State.stw_pwr (a : Nat) (v : Word) : (s.stw a v).pwr = s.pwr := rfl
@[simp] theorem State.stw_tim (a : Nat) (v : Word) : (s.stw a v).tim = s.tim := rfl
@[simp] theorem State.stw_net (a : Nat) (v : Word) : (s.stw a v).net = s.net := rfl
@[simp] theorem State.stw_sched (a : Nat) (v : Word) : (s.stw a v).sched = s.sched := rfl
@[simp] theorem State.stw_ses (a : Nat) (v : Word) : (s.stw a v).ses = s.ses := rfl
@[simp] theorem State.stw_sec (a : Nat) (v : Word) : (s.stw a v).sec = s.sec := rfl
@[simp] theorem State.stw_upd (a : Nat) (v : Word) : (s.stw a v).upd = s.upd := rfl
@[simp] theorem State.stw_nvm (a : Nat) (v : Word) : (s.stw a v).nvm = s.nvm := rfl
@[simp] theorem State.stw_flash (a : Nat) (v : Word) : (s.stw a v).flash = s.flash := rfl
@[simp] theorem State.stw_pending (a : Nat) (v : Word) : (s.stw a v).pending = s.pending := rfl
@[simp] theorem State.stw_rd (c : Nat) (v : Word) (a : Nat) : (s.stw c v).rd a = s.rd a := rfl
@[simp] theorem State.stw_sh (c : Nat) (v : Word) (a : Nat) : (s.stw c v).sh a = s.sh a := rfl
@[simp] theorem State.stw_ld (c : Nat) (v : Word) (a : Nat) : (s.stw c v).ld a = s.ld a := rfl

/-! ### stB -/

@[simp] theorem State.stB_now (a : Nat) (b : Byte) : (s.stB a b).now = s.now := rfl
@[simp] theorem State.stB_nextTick (a : Nat) (b : Byte) : (s.stB a b).nextTick = s.nextTick := rfl
@[simp] theorem State.stB_tickNum (a : Nat) (b : Byte) : (s.stB a b).tickNum = s.tickNum := rfl
@[simp] theorem State.stB_regs (a : Nat) (b : Byte) : (s.stB a b).regs = s.regs := rfl
@[simp] theorem State.stB_shadow (a : Nat) (b : Byte) : (s.stB a b).shadow = s.shadow := rfl
@[simp] theorem State.stB_stat (a : Nat) (b : Byte) : (s.stB a b).stat = s.stat := rfl
@[simp] theorem State.stB_evt (a : Nat) (b : Byte) : (s.stB a b).evt = s.evt := rfl
@[simp] theorem State.stB_ue (a : Nat) (b : Byte) : (s.stB a b).ue = s.ue := rfl
@[simp] theorem State.stB_ce (a : Nat) (b : Byte) : (s.stB a b).ce = s.ce := rfl
@[simp] theorem State.stB_bus (a : Nat) (b : Byte) : (s.stB a b).bus = s.bus := rfl
@[simp] theorem State.stB_free (a : Nat) (b : Byte) : (s.stB a b).free = s.free := rfl
@[simp] theorem State.stB_sys (a : Nat) (b : Byte) : (s.stB a b).sys = s.sys := rfl
@[simp] theorem State.stB_flt (a : Nat) (b : Byte) : (s.stB a b).flt = s.flt := rfl
@[simp] theorem State.stB_nv (a : Nat) (b : Byte) : (s.stB a b).nv = s.nv := rfl
@[simp] theorem State.stB_plicClaimed (a : Nat) (b : Byte) : (s.stB a b).plicClaimed = s.plicClaimed := rfl
@[simp] theorem State.stB_wdog (a : Nat) (b : Byte) : (s.stB a b).wdog = s.wdog := rfl
@[simp] theorem State.stB_dmvLast (a : Nat) (b : Byte) : (s.stB a b).dmvLast = s.dmvLast := rfl
@[simp] theorem State.stB_cmp (a : Nat) (b : Byte) : (s.stB a b).cmp = s.cmp := rfl
@[simp] theorem State.stB_frm (a : Nat) (b : Byte) : (s.stB a b).frm = s.frm := rfl
@[simp] theorem State.stB_pho (a : Nat) (b : Byte) : (s.stB a b).pho = s.pho := rfl
@[simp] theorem State.stB_glm (a : Nat) (b : Byte) : (s.stB a b).glm = s.glm := rfl
@[simp] theorem State.stB_tile (a : Nat) (b : Byte) : (s.stB a b).tile = s.tile := rfl
@[simp] theorem State.stB_sync (a : Nat) (b : Byte) : (s.stB a b).sync = s.sync := rfl
@[simp] theorem State.stB_pat (a : Nat) (b : Byte) : (s.stB a b).pat = s.pat := rfl
@[simp] theorem State.stB_vin (a : Nat) (b : Byte) : (s.stB a b).vin = s.vin := rfl
@[simp] theorem State.stB_look (a : Nat) (b : Byte) : (s.stB a b).look = s.look := rfl
@[simp] theorem State.stB_ctl (a : Nat) (b : Byte) : (s.stB a b).ctl = s.ctl := rfl
@[simp] theorem State.stB_nrg (a : Nat) (b : Byte) : (s.stB a b).nrg = s.nrg := rfl
@[simp] theorem State.stB_dali (a : Nat) (b : Byte) : (s.stB a b).dali = s.dali := rfl
@[simp] theorem State.stB_thm (a : Nat) (b : Byte) : (s.stB a b).thm = s.thm := rfl
@[simp] theorem State.stB_pwr (a : Nat) (b : Byte) : (s.stB a b).pwr = s.pwr := rfl
@[simp] theorem State.stB_tim (a : Nat) (b : Byte) : (s.stB a b).tim = s.tim := rfl
@[simp] theorem State.stB_net (a : Nat) (b : Byte) : (s.stB a b).net = s.net := rfl
@[simp] theorem State.stB_sched (a : Nat) (b : Byte) : (s.stB a b).sched = s.sched := rfl
@[simp] theorem State.stB_ses (a : Nat) (b : Byte) : (s.stB a b).ses = s.ses := rfl
@[simp] theorem State.stB_sec (a : Nat) (b : Byte) : (s.stB a b).sec = s.sec := rfl
@[simp] theorem State.stB_upd (a : Nat) (b : Byte) : (s.stB a b).upd = s.upd := rfl
@[simp] theorem State.stB_nvm (a : Nat) (b : Byte) : (s.stB a b).nvm = s.nvm := rfl
@[simp] theorem State.stB_flash (a : Nat) (b : Byte) : (s.stB a b).flash = s.flash := rfl
@[simp] theorem State.stB_pending (a : Nat) (b : Byte) : (s.stB a b).pending = s.pending := rfl
@[simp] theorem State.stB_rd (c : Nat) (b : Byte) (a : Nat) : (s.stB c b).rd a = s.rd a := rfl
@[simp] theorem State.stB_sh (c : Nat) (b : Byte) (a : Nat) : (s.stB c b).sh a = s.sh a := rfl
@[simp] theorem State.stB_st (c : Nat) (b : Byte) (a : Nat) : (s.stB c b).st a = s.st a := rfl

/-! ### at -/

@[simp] theorem State.at_nextTick (t : Nat) : (s.at t).nextTick = s.nextTick := rfl
@[simp] theorem State.at_tickNum (t : Nat) : (s.at t).tickNum = s.tickNum := rfl
@[simp] theorem State.at_regs (t : Nat) : (s.at t).regs = s.regs := rfl
@[simp] theorem State.at_shadow (t : Nat) : (s.at t).shadow = s.shadow := rfl
@[simp] theorem State.at_stat (t : Nat) : (s.at t).stat = s.stat := rfl
@[simp] theorem State.at_mem (t : Nat) : (s.at t).mem = s.mem := rfl
@[simp] theorem State.at_evt (t : Nat) : (s.at t).evt = s.evt := rfl
@[simp] theorem State.at_ue (t : Nat) : (s.at t).ue = s.ue := rfl
@[simp] theorem State.at_ce (t : Nat) : (s.at t).ce = s.ce := rfl
@[simp] theorem State.at_bus (t : Nat) : (s.at t).bus = s.bus := rfl
@[simp] theorem State.at_free (t : Nat) : (s.at t).free = s.free := rfl
@[simp] theorem State.at_sys (t : Nat) : (s.at t).sys = s.sys := rfl
@[simp] theorem State.at_flt (t : Nat) : (s.at t).flt = s.flt := rfl
@[simp] theorem State.at_nv (t : Nat) : (s.at t).nv = s.nv := rfl
@[simp] theorem State.at_plicClaimed (t : Nat) : (s.at t).plicClaimed = s.plicClaimed := rfl
@[simp] theorem State.at_wdog (t : Nat) : (s.at t).wdog = s.wdog := rfl
@[simp] theorem State.at_dmvLast (t : Nat) : (s.at t).dmvLast = s.dmvLast := rfl
@[simp] theorem State.at_cmp (t : Nat) : (s.at t).cmp = s.cmp := rfl
@[simp] theorem State.at_frm (t : Nat) : (s.at t).frm = s.frm := rfl
@[simp] theorem State.at_pho (t : Nat) : (s.at t).pho = s.pho := rfl
@[simp] theorem State.at_glm (t : Nat) : (s.at t).glm = s.glm := rfl
@[simp] theorem State.at_tile (t : Nat) : (s.at t).tile = s.tile := rfl
@[simp] theorem State.at_sync (t : Nat) : (s.at t).sync = s.sync := rfl
@[simp] theorem State.at_pat (t : Nat) : (s.at t).pat = s.pat := rfl
@[simp] theorem State.at_vin (t : Nat) : (s.at t).vin = s.vin := rfl
@[simp] theorem State.at_look (t : Nat) : (s.at t).look = s.look := rfl
@[simp] theorem State.at_ctl (t : Nat) : (s.at t).ctl = s.ctl := rfl
@[simp] theorem State.at_nrg (t : Nat) : (s.at t).nrg = s.nrg := rfl
@[simp] theorem State.at_dali (t : Nat) : (s.at t).dali = s.dali := rfl
@[simp] theorem State.at_thm (t : Nat) : (s.at t).thm = s.thm := rfl
@[simp] theorem State.at_pwr (t : Nat) : (s.at t).pwr = s.pwr := rfl
@[simp] theorem State.at_tim (t : Nat) : (s.at t).tim = s.tim := rfl
@[simp] theorem State.at_net (t : Nat) : (s.at t).net = s.net := rfl
@[simp] theorem State.at_sched (t : Nat) : (s.at t).sched = s.sched := rfl
@[simp] theorem State.at_ses (t : Nat) : (s.at t).ses = s.ses := rfl
@[simp] theorem State.at_sec (t : Nat) : (s.at t).sec = s.sec := rfl
@[simp] theorem State.at_upd (t : Nat) : (s.at t).upd = s.upd := rfl
@[simp] theorem State.at_nvm (t : Nat) : (s.at t).nvm = s.nvm := rfl
@[simp] theorem State.at_flash (t : Nat) : (s.at t).flash = s.flash := rfl
@[simp] theorem State.at_pending (t : Nat) : (s.at t).pending = s.pending := rfl
@[simp] theorem State.at_rd (t : Nat) (a : Nat) : (s.at t).rd a = s.rd a := rfl
@[simp] theorem State.at_sh (t : Nat) (a : Nat) : (s.at t).sh a = s.sh a := rfl
@[simp] theorem State.at_st (t : Nat) (a : Nat) : (s.at t).st a = s.st a := rfl
@[simp] theorem State.at_ld (t : Nat) (a : Nat) : (s.at t).ld a = s.ld a := rfl

/-! ### busOk -/

@[simp] theorem State.busOk_now : (s.busOk).now = s.now := rfl
@[simp] theorem State.busOk_nextTick : (s.busOk).nextTick = s.nextTick := rfl
@[simp] theorem State.busOk_tickNum : (s.busOk).tickNum = s.tickNum := rfl
@[simp] theorem State.busOk_regs : (s.busOk).regs = s.regs := rfl
@[simp] theorem State.busOk_shadow : (s.busOk).shadow = s.shadow := rfl
@[simp] theorem State.busOk_stat : (s.busOk).stat = s.stat := rfl
@[simp] theorem State.busOk_mem : (s.busOk).mem = s.mem := rfl
@[simp] theorem State.busOk_evt : (s.busOk).evt = s.evt := rfl
@[simp] theorem State.busOk_ue : (s.busOk).ue = s.ue := rfl
@[simp] theorem State.busOk_ce : (s.busOk).ce = s.ce := rfl
@[simp] theorem State.busOk_free : (s.busOk).free = s.free := rfl
@[simp] theorem State.busOk_sys : (s.busOk).sys = s.sys := rfl
@[simp] theorem State.busOk_flt : (s.busOk).flt = s.flt := rfl
@[simp] theorem State.busOk_nv : (s.busOk).nv = s.nv := rfl
@[simp] theorem State.busOk_plicClaimed : (s.busOk).plicClaimed = s.plicClaimed := rfl
@[simp] theorem State.busOk_wdog : (s.busOk).wdog = s.wdog := rfl
@[simp] theorem State.busOk_dmvLast : (s.busOk).dmvLast = s.dmvLast := rfl
@[simp] theorem State.busOk_cmp : (s.busOk).cmp = s.cmp := rfl
@[simp] theorem State.busOk_frm : (s.busOk).frm = s.frm := rfl
@[simp] theorem State.busOk_pho : (s.busOk).pho = s.pho := rfl
@[simp] theorem State.busOk_glm : (s.busOk).glm = s.glm := rfl
@[simp] theorem State.busOk_tile : (s.busOk).tile = s.tile := rfl
@[simp] theorem State.busOk_sync : (s.busOk).sync = s.sync := rfl
@[simp] theorem State.busOk_pat : (s.busOk).pat = s.pat := rfl
@[simp] theorem State.busOk_vin : (s.busOk).vin = s.vin := rfl
@[simp] theorem State.busOk_look : (s.busOk).look = s.look := rfl
@[simp] theorem State.busOk_ctl : (s.busOk).ctl = s.ctl := rfl
@[simp] theorem State.busOk_nrg : (s.busOk).nrg = s.nrg := rfl
@[simp] theorem State.busOk_dali : (s.busOk).dali = s.dali := rfl
@[simp] theorem State.busOk_thm : (s.busOk).thm = s.thm := rfl
@[simp] theorem State.busOk_pwr : (s.busOk).pwr = s.pwr := rfl
@[simp] theorem State.busOk_tim : (s.busOk).tim = s.tim := rfl
@[simp] theorem State.busOk_net : (s.busOk).net = s.net := rfl
@[simp] theorem State.busOk_sched : (s.busOk).sched = s.sched := rfl
@[simp] theorem State.busOk_ses : (s.busOk).ses = s.ses := rfl
@[simp] theorem State.busOk_sec : (s.busOk).sec = s.sec := rfl
@[simp] theorem State.busOk_upd : (s.busOk).upd = s.upd := rfl
@[simp] theorem State.busOk_nvm : (s.busOk).nvm = s.nvm := rfl
@[simp] theorem State.busOk_flash : (s.busOk).flash = s.flash := rfl
@[simp] theorem State.busOk_pending : (s.busOk).pending = s.pending := rfl
@[simp] theorem State.busOk_rd (a : Nat) : (s.busOk).rd a = s.rd a := rfl
@[simp] theorem State.busOk_sh (a : Nat) : (s.busOk).sh a = s.sh a := rfl
@[simp] theorem State.busOk_st (a : Nat) : (s.busOk).st a = s.st a := rfl
@[simp] theorem State.busOk_ld (a : Nat) : (s.busOk).ld a = s.ld a := rfl

/-! ### busErr -/

@[simp] theorem State.busErr_now : (s.busErr).now = s.now := rfl
@[simp] theorem State.busErr_nextTick : (s.busErr).nextTick = s.nextTick := rfl
@[simp] theorem State.busErr_tickNum : (s.busErr).tickNum = s.tickNum := rfl
@[simp] theorem State.busErr_regs : (s.busErr).regs = s.regs := rfl
@[simp] theorem State.busErr_shadow : (s.busErr).shadow = s.shadow := rfl
@[simp] theorem State.busErr_stat : (s.busErr).stat = s.stat := rfl
@[simp] theorem State.busErr_mem : (s.busErr).mem = s.mem := rfl
@[simp] theorem State.busErr_evt : (s.busErr).evt = s.evt := rfl
@[simp] theorem State.busErr_ue : (s.busErr).ue = s.ue := rfl
@[simp] theorem State.busErr_ce : (s.busErr).ce = s.ce := rfl
@[simp] theorem State.busErr_free : (s.busErr).free = s.free := rfl
@[simp] theorem State.busErr_sys : (s.busErr).sys = s.sys := rfl
@[simp] theorem State.busErr_flt : (s.busErr).flt = s.flt := rfl
@[simp] theorem State.busErr_nv : (s.busErr).nv = s.nv := rfl
@[simp] theorem State.busErr_plicClaimed : (s.busErr).plicClaimed = s.plicClaimed := rfl
@[simp] theorem State.busErr_wdog : (s.busErr).wdog = s.wdog := rfl
@[simp] theorem State.busErr_dmvLast : (s.busErr).dmvLast = s.dmvLast := rfl
@[simp] theorem State.busErr_cmp : (s.busErr).cmp = s.cmp := rfl
@[simp] theorem State.busErr_frm : (s.busErr).frm = s.frm := rfl
@[simp] theorem State.busErr_pho : (s.busErr).pho = s.pho := rfl
@[simp] theorem State.busErr_glm : (s.busErr).glm = s.glm := rfl
@[simp] theorem State.busErr_tile : (s.busErr).tile = s.tile := rfl
@[simp] theorem State.busErr_sync : (s.busErr).sync = s.sync := rfl
@[simp] theorem State.busErr_pat : (s.busErr).pat = s.pat := rfl
@[simp] theorem State.busErr_vin : (s.busErr).vin = s.vin := rfl
@[simp] theorem State.busErr_look : (s.busErr).look = s.look := rfl
@[simp] theorem State.busErr_ctl : (s.busErr).ctl = s.ctl := rfl
@[simp] theorem State.busErr_nrg : (s.busErr).nrg = s.nrg := rfl
@[simp] theorem State.busErr_dali : (s.busErr).dali = s.dali := rfl
@[simp] theorem State.busErr_thm : (s.busErr).thm = s.thm := rfl
@[simp] theorem State.busErr_pwr : (s.busErr).pwr = s.pwr := rfl
@[simp] theorem State.busErr_tim : (s.busErr).tim = s.tim := rfl
@[simp] theorem State.busErr_net : (s.busErr).net = s.net := rfl
@[simp] theorem State.busErr_sched : (s.busErr).sched = s.sched := rfl
@[simp] theorem State.busErr_ses : (s.busErr).ses = s.ses := rfl
@[simp] theorem State.busErr_sec : (s.busErr).sec = s.sec := rfl
@[simp] theorem State.busErr_upd : (s.busErr).upd = s.upd := rfl
@[simp] theorem State.busErr_nvm : (s.busErr).nvm = s.nvm := rfl
@[simp] theorem State.busErr_flash : (s.busErr).flash = s.flash := rfl
@[simp] theorem State.busErr_pending : (s.busErr).pending = s.pending := rfl
@[simp] theorem State.busErr_rd (a : Nat) : (s.busErr).rd a = s.rd a := rfl
@[simp] theorem State.busErr_sh (a : Nat) : (s.busErr).sh a = s.sh a := rfl
@[simp] theorem State.busErr_st (a : Nat) : (s.busErr).st a = s.st a := rfl
@[simp] theorem State.busErr_ld (a : Nat) : (s.busErr).ld a = s.ld a := rfl

/-! ### busData -/

@[simp] theorem State.busData_now (d : Word) : (s.busData d).now = s.now := rfl
@[simp] theorem State.busData_nextTick (d : Word) : (s.busData d).nextTick = s.nextTick := rfl
@[simp] theorem State.busData_tickNum (d : Word) : (s.busData d).tickNum = s.tickNum := rfl
@[simp] theorem State.busData_regs (d : Word) : (s.busData d).regs = s.regs := rfl
@[simp] theorem State.busData_shadow (d : Word) : (s.busData d).shadow = s.shadow := rfl
@[simp] theorem State.busData_stat (d : Word) : (s.busData d).stat = s.stat := rfl
@[simp] theorem State.busData_mem (d : Word) : (s.busData d).mem = s.mem := rfl
@[simp] theorem State.busData_evt (d : Word) : (s.busData d).evt = s.evt := rfl
@[simp] theorem State.busData_ue (d : Word) : (s.busData d).ue = s.ue := rfl
@[simp] theorem State.busData_ce (d : Word) : (s.busData d).ce = s.ce := rfl
@[simp] theorem State.busData_free (d : Word) : (s.busData d).free = s.free := rfl
@[simp] theorem State.busData_sys (d : Word) : (s.busData d).sys = s.sys := rfl
@[simp] theorem State.busData_flt (d : Word) : (s.busData d).flt = s.flt := rfl
@[simp] theorem State.busData_nv (d : Word) : (s.busData d).nv = s.nv := rfl
@[simp] theorem State.busData_plicClaimed (d : Word) : (s.busData d).plicClaimed = s.plicClaimed := rfl
@[simp] theorem State.busData_wdog (d : Word) : (s.busData d).wdog = s.wdog := rfl
@[simp] theorem State.busData_dmvLast (d : Word) : (s.busData d).dmvLast = s.dmvLast := rfl
@[simp] theorem State.busData_cmp (d : Word) : (s.busData d).cmp = s.cmp := rfl
@[simp] theorem State.busData_frm (d : Word) : (s.busData d).frm = s.frm := rfl
@[simp] theorem State.busData_pho (d : Word) : (s.busData d).pho = s.pho := rfl
@[simp] theorem State.busData_glm (d : Word) : (s.busData d).glm = s.glm := rfl
@[simp] theorem State.busData_tile (d : Word) : (s.busData d).tile = s.tile := rfl
@[simp] theorem State.busData_sync (d : Word) : (s.busData d).sync = s.sync := rfl
@[simp] theorem State.busData_pat (d : Word) : (s.busData d).pat = s.pat := rfl
@[simp] theorem State.busData_vin (d : Word) : (s.busData d).vin = s.vin := rfl
@[simp] theorem State.busData_look (d : Word) : (s.busData d).look = s.look := rfl
@[simp] theorem State.busData_ctl (d : Word) : (s.busData d).ctl = s.ctl := rfl
@[simp] theorem State.busData_nrg (d : Word) : (s.busData d).nrg = s.nrg := rfl
@[simp] theorem State.busData_dali (d : Word) : (s.busData d).dali = s.dali := rfl
@[simp] theorem State.busData_thm (d : Word) : (s.busData d).thm = s.thm := rfl
@[simp] theorem State.busData_pwr (d : Word) : (s.busData d).pwr = s.pwr := rfl
@[simp] theorem State.busData_tim (d : Word) : (s.busData d).tim = s.tim := rfl
@[simp] theorem State.busData_net (d : Word) : (s.busData d).net = s.net := rfl
@[simp] theorem State.busData_sched (d : Word) : (s.busData d).sched = s.sched := rfl
@[simp] theorem State.busData_ses (d : Word) : (s.busData d).ses = s.ses := rfl
@[simp] theorem State.busData_sec (d : Word) : (s.busData d).sec = s.sec := rfl
@[simp] theorem State.busData_upd (d : Word) : (s.busData d).upd = s.upd := rfl
@[simp] theorem State.busData_nvm (d : Word) : (s.busData d).nvm = s.nvm := rfl
@[simp] theorem State.busData_flash (d : Word) : (s.busData d).flash = s.flash := rfl
@[simp] theorem State.busData_pending (d : Word) : (s.busData d).pending = s.pending := rfl
@[simp] theorem State.busData_rd (d : Word) (a : Nat) : (s.busData d).rd a = s.rd a := rfl
@[simp] theorem State.busData_sh (d : Word) (a : Nat) : (s.busData d).sh a = s.sh a := rfl
@[simp] theorem State.busData_st (d : Word) (a : Nat) : (s.busData d).st a = s.st a := rfl
@[simp] theorem State.busData_ld (d : Word) (a : Nat) : (s.busData d).ld a = s.ld a := rfl

/-! ### note -/

@[simp] theorem State.note_now (a b : Nat) : (s.note a b).now = s.now := rfl
@[simp] theorem State.note_nextTick (a b : Nat) : (s.note a b).nextTick = s.nextTick := rfl
@[simp] theorem State.note_tickNum (a b : Nat) : (s.note a b).tickNum = s.tickNum := rfl
@[simp] theorem State.note_regs (a b : Nat) : (s.note a b).regs = s.regs := rfl
@[simp] theorem State.note_shadow (a b : Nat) : (s.note a b).shadow = s.shadow := rfl
@[simp] theorem State.note_stat (a b : Nat) : (s.note a b).stat = s.stat := rfl
@[simp] theorem State.note_mem (a b : Nat) : (s.note a b).mem = s.mem := rfl
@[simp] theorem State.note_ue (a b : Nat) : (s.note a b).ue = s.ue := rfl
@[simp] theorem State.note_bus (a b : Nat) : (s.note a b).bus = s.bus := rfl
@[simp] theorem State.note_ce (a b : Nat) : (s.note a b).ce = s.ce := rfl
@[simp] theorem State.note_free (a b : Nat) : (s.note a b).free = s.free := rfl
@[simp] theorem State.note_sys (a b : Nat) : (s.note a b).sys = s.sys := rfl
@[simp] theorem State.note_flt (a b : Nat) : (s.note a b).flt = s.flt := rfl
@[simp] theorem State.note_nv (a b : Nat) : (s.note a b).nv = s.nv := rfl
@[simp] theorem State.note_plicClaimed (a b : Nat) : (s.note a b).plicClaimed = s.plicClaimed := rfl
@[simp] theorem State.note_wdog (a b : Nat) : (s.note a b).wdog = s.wdog := rfl
@[simp] theorem State.note_dmvLast (a b : Nat) : (s.note a b).dmvLast = s.dmvLast := rfl
@[simp] theorem State.note_cmp (a b : Nat) : (s.note a b).cmp = s.cmp := rfl
@[simp] theorem State.note_frm (a b : Nat) : (s.note a b).frm = s.frm := rfl
@[simp] theorem State.note_pho (a b : Nat) : (s.note a b).pho = s.pho := rfl
@[simp] theorem State.note_glm (a b : Nat) : (s.note a b).glm = s.glm := rfl
@[simp] theorem State.note_tile (a b : Nat) : (s.note a b).tile = s.tile := rfl
@[simp] theorem State.note_sync (a b : Nat) : (s.note a b).sync = s.sync := rfl
@[simp] theorem State.note_pat (a b : Nat) : (s.note a b).pat = s.pat := rfl
@[simp] theorem State.note_vin (a b : Nat) : (s.note a b).vin = s.vin := rfl
@[simp] theorem State.note_look (a b : Nat) : (s.note a b).look = s.look := rfl
@[simp] theorem State.note_ctl (a b : Nat) : (s.note a b).ctl = s.ctl := rfl
@[simp] theorem State.note_nrg (a b : Nat) : (s.note a b).nrg = s.nrg := rfl
@[simp] theorem State.note_dali (a b : Nat) : (s.note a b).dali = s.dali := rfl
@[simp] theorem State.note_thm (a b : Nat) : (s.note a b).thm = s.thm := rfl
@[simp] theorem State.note_pwr (a b : Nat) : (s.note a b).pwr = s.pwr := rfl
@[simp] theorem State.note_tim (a b : Nat) : (s.note a b).tim = s.tim := rfl
@[simp] theorem State.note_net (a b : Nat) : (s.note a b).net = s.net := rfl
@[simp] theorem State.note_sched (a b : Nat) : (s.note a b).sched = s.sched := rfl
@[simp] theorem State.note_ses (a b : Nat) : (s.note a b).ses = s.ses := rfl
@[simp] theorem State.note_sec (a b : Nat) : (s.note a b).sec = s.sec := rfl
@[simp] theorem State.note_upd (a b : Nat) : (s.note a b).upd = s.upd := rfl
@[simp] theorem State.note_nvm (a b : Nat) : (s.note a b).nvm = s.nvm := rfl
@[simp] theorem State.note_flash (a b : Nat) : (s.note a b).flash = s.flash := rfl
@[simp] theorem State.note_pending (a b : Nat) : (s.note a b).pending = s.pending := rfl
@[simp] theorem State.note_rd (a b : Nat) (c : Nat) : (s.note a b).rd c = s.rd c := rfl
@[simp] theorem State.note_sh (a b : Nat) (c : Nat) : (s.note a b).sh c = s.sh c := rfl
@[simp] theorem State.note_st (a b : Nat) (c : Nat) : (s.note a b).st c = s.st c := rfl
@[simp] theorem State.note_ld (a b : Nat) (c : Nat) : (s.note a b).ld c = s.ld c := rfl

/-! ### noteMask -/

@[simp] theorem State.noteMask_now (a : Nat) (m : Word) : (s.noteMask a m).now = s.now := rfl
@[simp] theorem State.noteMask_nextTick (a : Nat) (m : Word) : (s.noteMask a m).nextTick = s.nextTick := rfl
@[simp] theorem State.noteMask_tickNum (a : Nat) (m : Word) : (s.noteMask a m).tickNum = s.tickNum := rfl
@[simp] theorem State.noteMask_regs (a : Nat) (m : Word) : (s.noteMask a m).regs = s.regs := rfl
@[simp] theorem State.noteMask_shadow (a : Nat) (m : Word) : (s.noteMask a m).shadow = s.shadow := rfl
@[simp] theorem State.noteMask_stat (a : Nat) (m : Word) : (s.noteMask a m).stat = s.stat := rfl
@[simp] theorem State.noteMask_mem (a : Nat) (m : Word) : (s.noteMask a m).mem = s.mem := rfl
@[simp] theorem State.noteMask_ue (a : Nat) (m : Word) : (s.noteMask a m).ue = s.ue := rfl
@[simp] theorem State.noteMask_bus (a : Nat) (m : Word) : (s.noteMask a m).bus = s.bus := rfl
@[simp] theorem State.noteMask_ce (a : Nat) (m : Word) : (s.noteMask a m).ce = s.ce := rfl
@[simp] theorem State.noteMask_free (a : Nat) (m : Word) : (s.noteMask a m).free = s.free := rfl
@[simp] theorem State.noteMask_sys (a : Nat) (m : Word) : (s.noteMask a m).sys = s.sys := rfl
@[simp] theorem State.noteMask_flt (a : Nat) (m : Word) : (s.noteMask a m).flt = s.flt := rfl
@[simp] theorem State.noteMask_nv (a : Nat) (m : Word) : (s.noteMask a m).nv = s.nv := rfl
@[simp] theorem State.noteMask_plicClaimed (a : Nat) (m : Word) : (s.noteMask a m).plicClaimed = s.plicClaimed := rfl
@[simp] theorem State.noteMask_wdog (a : Nat) (m : Word) : (s.noteMask a m).wdog = s.wdog := rfl
@[simp] theorem State.noteMask_dmvLast (a : Nat) (m : Word) : (s.noteMask a m).dmvLast = s.dmvLast := rfl
@[simp] theorem State.noteMask_cmp (a : Nat) (m : Word) : (s.noteMask a m).cmp = s.cmp := rfl
@[simp] theorem State.noteMask_frm (a : Nat) (m : Word) : (s.noteMask a m).frm = s.frm := rfl
@[simp] theorem State.noteMask_pho (a : Nat) (m : Word) : (s.noteMask a m).pho = s.pho := rfl
@[simp] theorem State.noteMask_glm (a : Nat) (m : Word) : (s.noteMask a m).glm = s.glm := rfl
@[simp] theorem State.noteMask_tile (a : Nat) (m : Word) : (s.noteMask a m).tile = s.tile := rfl
@[simp] theorem State.noteMask_sync (a : Nat) (m : Word) : (s.noteMask a m).sync = s.sync := rfl
@[simp] theorem State.noteMask_pat (a : Nat) (m : Word) : (s.noteMask a m).pat = s.pat := rfl
@[simp] theorem State.noteMask_vin (a : Nat) (m : Word) : (s.noteMask a m).vin = s.vin := rfl
@[simp] theorem State.noteMask_look (a : Nat) (m : Word) : (s.noteMask a m).look = s.look := rfl
@[simp] theorem State.noteMask_ctl (a : Nat) (m : Word) : (s.noteMask a m).ctl = s.ctl := rfl
@[simp] theorem State.noteMask_nrg (a : Nat) (m : Word) : (s.noteMask a m).nrg = s.nrg := rfl
@[simp] theorem State.noteMask_dali (a : Nat) (m : Word) : (s.noteMask a m).dali = s.dali := rfl
@[simp] theorem State.noteMask_thm (a : Nat) (m : Word) : (s.noteMask a m).thm = s.thm := rfl
@[simp] theorem State.noteMask_pwr (a : Nat) (m : Word) : (s.noteMask a m).pwr = s.pwr := rfl
@[simp] theorem State.noteMask_tim (a : Nat) (m : Word) : (s.noteMask a m).tim = s.tim := rfl
@[simp] theorem State.noteMask_net (a : Nat) (m : Word) : (s.noteMask a m).net = s.net := rfl
@[simp] theorem State.noteMask_sched (a : Nat) (m : Word) : (s.noteMask a m).sched = s.sched := rfl
@[simp] theorem State.noteMask_ses (a : Nat) (m : Word) : (s.noteMask a m).ses = s.ses := rfl
@[simp] theorem State.noteMask_sec (a : Nat) (m : Word) : (s.noteMask a m).sec = s.sec := rfl
@[simp] theorem State.noteMask_upd (a : Nat) (m : Word) : (s.noteMask a m).upd = s.upd := rfl
@[simp] theorem State.noteMask_nvm (a : Nat) (m : Word) : (s.noteMask a m).nvm = s.nvm := rfl
@[simp] theorem State.noteMask_flash (a : Nat) (m : Word) : (s.noteMask a m).flash = s.flash := rfl
@[simp] theorem State.noteMask_pending (a : Nat) (m : Word) : (s.noteMask a m).pending = s.pending := rfl
@[simp] theorem State.noteMask_rd (a : Nat) (m : Word) (c : Nat) : (s.noteMask a m).rd c = s.rd c := rfl
@[simp] theorem State.noteMask_sh (a : Nat) (m : Word) (c : Nat) : (s.noteMask a m).sh c = s.sh c := rfl
@[simp] theorem State.noteMask_st (a : Nat) (m : Word) (c : Nat) : (s.noteMask a m).st c = s.st c := rfl
@[simp] theorem State.noteMask_ld (a : Nat) (m : Word) (c : Nat) : (s.noteMask a m).ld c = s.ld c := rfl

/-! ### Read after write -/

@[simp] theorem State.rd_wr_self (a : Nat) (v : Word) : (s.wr a v).rd a = v := sget_sset_self ..

theorem State.rd_wr_of_ne {a b : Nat} (h : b ≠ a) (v : Word) : (s.wr a v).rd b = s.rd b := sget_sset_of_ne _ _ h _ _

theorem State.rd_wr (a b : Nat) (v : Word) : (s.wr a v).rd b = if b = a then v else s.rd b := by
  by_cases h : b = a
  · subst h; simp
  · simp [h, State.rd_wr_of_ne]

@[simp] theorem State.sh_shw_self (a : Nat) (v : Word) : (s.shw a v).sh a = v := sget_sset_self ..

theorem State.sh_shw_of_ne {a b : Nat} (h : b ≠ a) (v : Word) : (s.shw a v).sh b = s.sh b := sget_sset_of_ne _ _ h _ _

theorem State.sh_shw (a b : Nat) (v : Word) : (s.shw a v).sh b = if b = a then v else s.sh b := by
  by_cases h : b = a
  · subst h; simp
  · simp [h, State.sh_shw_of_ne]

@[simp] theorem State.st_stw_self (a : Nat) (v : Word) : (s.stw a v).st a = v := sget_sset_self ..

theorem State.st_stw_of_ne {a b : Nat} (h : b ≠ a) (v : Word) : (s.stw a v).st b = s.st b := sget_sset_of_ne _ _ h _ _

theorem State.st_stw (a b : Nat) (v : Word) : (s.stw a v).st b = if b = a then v else s.st b := by
  by_cases h : b = a
  · subst h; simp
  · simp [h, State.st_stw_of_ne]

@[simp] theorem State.ld_stB_self (a : Nat) (v : Byte) : (s.stB a v).ld a = v := sget_sset_self ..

theorem State.ld_stB_of_ne {a b : Nat} (h : b ≠ a) (v : Byte) : (s.stB a v).ld b = s.ld b := sget_sset_of_ne _ _ h _ _

theorem State.ld_stB (a b : Nat) (v : Byte) : (s.stB a v).ld b = if b = a then v else s.ld b := by
  by_cases h : b = a
  · subst h; simp
  · simp [h, State.ld_stB_of_ne]

/-! ### Record updates: a map read through the field that holds it -/

theorem State.rd_mk {now_ : Nat} {nextTick_ : Nat} {tickNum_ : Nat} {regs_ : List (Nat × Word)} {shadow_ : List (Nat × Word)} {stat_ : List (Nat × Word)} {evt_ : EvtSt} {mem_ : List Host.Cell} {ue_ : List Nat} {ce_ : List Nat} {bus_ : BusResp} {free_ : Nat} {sys_ : SysSt} {flt_ : FltSt} {nv_ : NvSt} {plicClaimed_ : List Nat} {wdog_ : List (Nat × Nat)} {dmvLast_ : Vector (Option Nat) 4} {cmp_ : CmpSt} {frm_ : FrameSt} {pho_ : PhoSt} {glm_ : GlmSt} {tile_ : Vector TileSt 4} {sync_ : SyncSt} {pat_ : PatSt} {vin_ : VinSt} {look_ : LookSt} {ctl_ : CtlSt} {nrg_ : NrgSt} {dali_ : DaliSt} {thm_ : ThmSt} {pwr_ : PwrSt} {tim_ : TimeSt} {net_ : NetSt} {sched_ : SchedSt} {ses_ : SesSt} {sec_ : SecSt} {upd_ : UpdSt} {nvm_ : NvmSt} {flash_ : Option FlashOp} {pending_ : List Instr} (a : Nat) :
    (State.mk now_ nextTick_ tickNum_ regs_ shadow_ stat_ evt_ mem_ ue_ ce_ bus_ free_ sys_ flt_ nv_ plicClaimed_ wdog_ dmvLast_ cmp_ frm_ pho_ glm_ tile_ sync_ pat_ vin_ look_ ctl_ nrg_ dali_ thm_ pwr_ tim_ net_ sched_ ses_ sec_ upd_ nvm_ flash_ pending_).rd a = sget (regDefault a) a regs_ := rfl

theorem sget_regs (a : Nat) : sget (regDefault a) a s.regs = s.rd a := rfl

theorem State.sh_mk {now_ : Nat} {nextTick_ : Nat} {tickNum_ : Nat} {regs_ : List (Nat × Word)} {shadow_ : List (Nat × Word)} {stat_ : List (Nat × Word)} {evt_ : EvtSt} {mem_ : List Host.Cell} {ue_ : List Nat} {ce_ : List Nat} {bus_ : BusResp} {free_ : Nat} {sys_ : SysSt} {flt_ : FltSt} {nv_ : NvSt} {plicClaimed_ : List Nat} {wdog_ : List (Nat × Nat)} {dmvLast_ : Vector (Option Nat) 4} {cmp_ : CmpSt} {frm_ : FrameSt} {pho_ : PhoSt} {glm_ : GlmSt} {tile_ : Vector TileSt 4} {sync_ : SyncSt} {pat_ : PatSt} {vin_ : VinSt} {look_ : LookSt} {ctl_ : CtlSt} {nrg_ : NrgSt} {dali_ : DaliSt} {thm_ : ThmSt} {pwr_ : PwrSt} {tim_ : TimeSt} {net_ : NetSt} {sched_ : SchedSt} {ses_ : SesSt} {sec_ : SecSt} {upd_ : UpdSt} {nvm_ : NvmSt} {flash_ : Option FlashOp} {pending_ : List Instr} (a : Nat) :
    (State.mk now_ nextTick_ tickNum_ regs_ shadow_ stat_ evt_ mem_ ue_ ce_ bus_ free_ sys_ flt_ nv_ plicClaimed_ wdog_ dmvLast_ cmp_ frm_ pho_ glm_ tile_ sync_ pat_ vin_ look_ ctl_ nrg_ dali_ thm_ pwr_ tim_ net_ sched_ ses_ sec_ upd_ nvm_ flash_ pending_).sh a = sget (regDefault a) a shadow_ := rfl

theorem sget_shadow (a : Nat) : sget (regDefault a) a s.shadow = s.sh a := rfl

theorem State.st_mk {now_ : Nat} {nextTick_ : Nat} {tickNum_ : Nat} {regs_ : List (Nat × Word)} {shadow_ : List (Nat × Word)} {stat_ : List (Nat × Word)} {evt_ : EvtSt} {mem_ : List Host.Cell} {ue_ : List Nat} {ce_ : List Nat} {bus_ : BusResp} {free_ : Nat} {sys_ : SysSt} {flt_ : FltSt} {nv_ : NvSt} {plicClaimed_ : List Nat} {wdog_ : List (Nat × Nat)} {dmvLast_ : Vector (Option Nat) 4} {cmp_ : CmpSt} {frm_ : FrameSt} {pho_ : PhoSt} {glm_ : GlmSt} {tile_ : Vector TileSt 4} {sync_ : SyncSt} {pat_ : PatSt} {vin_ : VinSt} {look_ : LookSt} {ctl_ : CtlSt} {nrg_ : NrgSt} {dali_ : DaliSt} {thm_ : ThmSt} {pwr_ : PwrSt} {tim_ : TimeSt} {net_ : NetSt} {sched_ : SchedSt} {ses_ : SesSt} {sec_ : SecSt} {upd_ : UpdSt} {nvm_ : NvmSt} {flash_ : Option FlashOp} {pending_ : List Instr} (a : Nat) :
    (State.mk now_ nextTick_ tickNum_ regs_ shadow_ stat_ evt_ mem_ ue_ ce_ bus_ free_ sys_ flt_ nv_ plicClaimed_ wdog_ dmvLast_ cmp_ frm_ pho_ glm_ tile_ sync_ pat_ vin_ look_ ctl_ nrg_ dali_ thm_ pwr_ tim_ net_ sched_ ses_ sec_ upd_ nvm_ flash_ pending_).st a = sget (0#32) a stat_ := rfl

theorem sget_stat (a : Nat) : sget (0#32) a s.stat = s.st a := rfl

theorem State.ld_mk {now_ : Nat} {nextTick_ : Nat} {tickNum_ : Nat} {regs_ : List (Nat × Word)} {shadow_ : List (Nat × Word)} {stat_ : List (Nat × Word)} {evt_ : EvtSt} {mem_ : List Host.Cell} {ue_ : List Nat} {ce_ : List Nat} {bus_ : BusResp} {free_ : Nat} {sys_ : SysSt} {flt_ : FltSt} {nv_ : NvSt} {plicClaimed_ : List Nat} {wdog_ : List (Nat × Nat)} {dmvLast_ : Vector (Option Nat) 4} {cmp_ : CmpSt} {frm_ : FrameSt} {pho_ : PhoSt} {glm_ : GlmSt} {tile_ : Vector TileSt 4} {sync_ : SyncSt} {pat_ : PatSt} {vin_ : VinSt} {look_ : LookSt} {ctl_ : CtlSt} {nrg_ : NrgSt} {dali_ : DaliSt} {thm_ : ThmSt} {pwr_ : PwrSt} {tim_ : TimeSt} {net_ : NetSt} {sched_ : SchedSt} {ses_ : SesSt} {sec_ : SecSt} {upd_ : UpdSt} {nvm_ : NvmSt} {flash_ : Option FlashOp} {pending_ : List Instr} (a : Nat) :
    (State.mk now_ nextTick_ tickNum_ regs_ shadow_ stat_ evt_ mem_ ue_ ce_ bus_ free_ sys_ flt_ nv_ plicClaimed_ wdog_ dmvLast_ cmp_ frm_ pho_ glm_ tile_ sync_ pat_ vin_ look_ ctl_ nrg_ dali_ thm_ pwr_ tim_ net_ sched_ ses_ sec_ upd_ nvm_ flash_ pending_).ld a = sget (memDefault a) a mem_ := rfl

theorem sget_mem (a : Nat) : sget (memDefault a) a s.mem = s.ld a := rfl

end Sys2Proof.Machine
end

