-- ==== Sys2Proof/Laws/Only.lean ====
section
/-! SUPPORT. What `Only` is kept by: the operations that the meanings are made of. -/

namespace Sys2Proof.Machine

variable {l m : List Nat} {s t u : State}

theorem Only.refl (l m : List Nat) (s : State) : Only l m s s := ⟨fun _ _ => rfl, fun _ _ => rfl, fun _ => rfl, fun _ => rfl, rfl, rfl⟩

theorem Only.trans (h : Only l m s t) (g : Only l m t u) : Only l m s u :=
  ⟨fun a x => (g.regs a x).trans (h.regs a x), fun a x => (g.stats a x).trans (h.stats a x), fun a => (g.shadow a).trans (h.shadow a),
    fun a => (g.mem a).trans (h.mem a), g.nv.trans h.nv, g.pending.trans h.pending⟩

theorem Only.mono {l' m' : List Nat} (h : Only l m s t) (hl : ∀ a ∈ l, a ∈ l') (hm : ∀ a ∈ m, a ∈ m') : Only l' m' s t :=
  ⟨fun a x => h.regs a fun y => x (hl a y), fun a x => h.stats a fun y => x (hm a y), h.shadow, h.mem, h.nv, h.pending⟩

/-- An update of fields that `Only` does not speak of. -/
theorem Only.upd (h : Only l m s t) (hr : u.regs = t.regs) (hs : u.shadow = t.shadow) (hst : u.stat = t.stat) (hm : u.mem = t.mem) (hv : u.nv = t.nv)
    (hp : u.pending = t.pending) : Only l m s u := by
  refine h.trans ⟨fun a _ => ?_, fun a _ => ?_, fun a => ?_, fun a => ?_, hv, hp⟩
  · simp only [State.rd, hr]
  · simp only [State.st, hst]
  · simp only [State.sh, hs]
  · simp only [State.ld, hm]

theorem Only.wr {a : Nat} {v : Word} (h : Only l m s t) (ha : a ∈ l) : Only l m s (t.wr a v) :=
  h.trans ⟨fun b hb => State.rd_wr_of_ne _ (fun e : b = _ => hb (e ▸ ha)) v, fun _ _ => rfl, fun _ => rfl, fun _ => rfl, rfl, rfl⟩

theorem Only.wrSame {a : Nat} (h : Only l m s t) : Only l m s (t.wr a (t.rd a)) :=
  h.trans ⟨fun b _ => by rw [State.rd_wr]; split <;> simp_all, fun _ _ => rfl, fun _ => rfl, fun _ => rfl, rfl, rfl⟩

theorem Only.stw {a : Nat} {v : Word} (h : Only l m s t) (ha : a ∈ m) : Only l m s (t.stw a v) :=
  h.trans ⟨fun _ _ => rfl, fun b hb => State.st_stw_of_ne _ (fun e : b = _ => hb (e ▸ ha)) v, fun _ => rfl, fun _ => rfl, rfl, rfl⟩

theorem Only.over {α : Type} {xs : List α} {f : State → α → State} (h : Only l m s t) (hf : ∀ u x, Only l m s u → Only l m s (f u x)) :
    Only l m s (t.over xs f) := by
  induction xs generalizing t with
  | nil => exact h
  | cons x xs ih => exact ih (hf t x h)

theorem Only.ite {c : Prop} [Decidable c] (h : Only l m s t) (g : Only l m s u) : Only l m s (if c then t else u) := by
  split <;> assumption

theorem Only.at {n : Nat} (h : Only l m s t) : Only l m s (t.at n) := h.upd rfl rfl rfl rfl rfl rfl

end Sys2Proof.Machine
end

