-- ==== Sys2Proof/Laws/Gate.lean ====
section
/-! SUPPORT. What an accepted register write is: the store by access code and the register's own effect. -/

namespace Sys2Proof.Machine

variable {l m : List Nat} {s t : State}

/-- An accepted write runs the register's own effect on the stored register. -/
theorem gateWrite_accepts {i : Init} {a : Nat} {w : Word} {n : Nat} (hook : Word → Word → State → State) (h : s.accepts n i a w)
    (ho : offOf a ≠ 0x1c ∧ offOf a ≠ 0x20) :
    gateWrite i a w hook (s.at n) = hook (s.rd a) w (storeReg a w (s.at n).busOk) := by
  rw [gateWrite, h]
  simp [ho.1, ho.2]

/-- The store of a register without shadow fields. -/
theorem storeReg_plain {a : Nat} (w : Word) (s : State) (hm : maskOf RegDef.rws a = 0#32) :
    storeReg a w s = s.wr a (storeLive a (legalize a w) (s.rd a) (s.evtBits a) (s.locked (pageOf a))) := by
  rw [storeReg]
  simp [hm]

/-- An accepted write of a register without shadow fields. -/
theorem gateWrite_plain {i : Init} {a : Nat} {w : Word} {n : Nat} (hook : Word → Word → State → State) (h : s.accepts n i a w)
    (ho : offOf a ≠ 0x1c ∧ offOf a ≠ 0x20) (hm : maskOf RegDef.rws a = 0#32) :
    gateWrite i a w hook (s.at n) =
      hook (s.rd a) w ((s.at n).busOk.wr a (storeLive a (legalize a w) (s.rd a) ((s.at n).evtBits a) (s.locked (pageOf a)))) := by
  rw [gateWrite_accepts hook h ho, storeReg_plain w _ hm]; rfl

/-- The state that an accepted write leaves to the register's own effect differs from the one before in that register alone. -/
theorem gateState_only (n a : Nat) (v : Word) : Only [a] [] s ((s.at n).busOk.wr a v) :=
  Only.wr (Only.upd (.refl _ _ _) rfl rfl rfl rfl rfl rfl) (List.mem_singleton.2 rfl)

theorem word_and_ones (v : Word) : v &&& 4294967295#32 = v := BitVec.and_allOnes

/-- A register whose fields are all read-only or commands keeps its value over a write. -/
theorem storeLive_cmd {a : Nat} {w live ev : Word} {k : Bool} (h1 : maskOf RegDef.rw a = 0#32) (h2 : maskOf (fun d => d.rw ||| d.rwl) a = 0#32)
    (h3 : maskOf RegDef.w1c a = 0#32) (h4 : maskOf RegDef.w1s a = 0#32) : storeLive a w live ev k = live := by
  cases k <;> simp [storeLive, h1, h2, h3, h4, word_and_ones]

/-- A register of RW fields alone holds the written bits of its mask. -/
theorem storeLive_rw {a : Nat} {w live ev : Word} {k : Bool} {x : Word} (h1 : maskOf RegDef.rw a = x) (h2 : maskOf (fun d => d.rw ||| d.rwl) a = x)
    (h3 : maskOf RegDef.w1c a = 0#32) (h4 : maskOf RegDef.w1s a = 0#32) : storeLive a w live ev k = (live &&& ~~~x) ||| (w &&& x) := by
  cases k <;> simp [storeLive, h1, h2, h3, h4, word_and_ones]

/-- A store changes the register and, where it has shadow fields, shadows and the page's COMMIT. -/
theorem storeReg_only {a : Nat} {w : Word} (h : Only l m s t) (ha : a ∈ l) (hm : maskOf RegDef.rws a = 0#32) : Only l m s (storeReg a w t) := by
  rw [storeReg_plain w t hm]
  exact h.wr ha

theorem regionOf_reg {a : Nat} (h : isReg a = true) : regionOf a = .regs := by
  have h' := h
  simp only [isReg, Bool.and_eq_true, decide_eq_true_eq] at h
  obtain ⟨h1, h2⟩ := h
  unfold regionOf
  split_ifs <;> first | rfl | (exfalso; omega)

/-- A bus fault is its source raised in a state that records address, initiator and direction (R523). -/
theorem raiseBus_eq (k : Nat) (i : Init) (a : Nat) (b : Bool) (hk : k < 3) :
    ∃ u, raiseBus k i a b s = raise (busSrc k) u ∧
      u.bus = s.bus ∧ u.rd R.FLT_BUS_ADDR = word a ∧ u.rf R.FLT_BUS_INFO 7 0 = i.code ∧ u.rf R.FLT_BUS_INFO 9 8 = k ∧ u.rb R.FLT_BUS_INFO 10 = b ∧
      Only [R.FLT_BUS_ADDR, R.FLT_BUS_INFO] [] s u := by
  have hc : i.code < 256 := by cases i <;> simp only [Init.code] <;> omega
  refine ⟨_, rfl, rfl, ?_, ?_, ?_, ?_, ((Only.refl _ _ _).wr (by simp)).wr (by simp)⟩
  · rw [recordBus, State.rd_wr_of_ne _ (by decide)]; simp
  · simp only [recordBus, State.rf, State.rd_wr_self, bitsOf, word, BitVec.toNat_ofNat, bit]; split <;> omega
  · simp only [recordBus, State.rf, State.rd_wr_self, bitsOf, word, BitVec.toNat_ofNat, bit]; split <;> omega
  · have e : ∀ x < 1024, ∀ c : Bool, (word (bit c * 1024 + x)).toNat.testBit 10 = c := by
      intro x hx c
      have : (word (bit c * 1024 + x)).toNat = 2 ^ 10 * bit c + x := by
        simp only [word, BitVec.toNat_ofNat, bit]; cases c <;> simp <;> omega
      rw [this, Nat.testBit_two_pow_mul_add _ hx]
      cases c <;> simp [bit]
    simp only [recordBus, State.rb, State.rd_wr_self, bitOf]
    rw [Nat.add_assoc]
    exact e _ (by omega) b

end Sys2Proof.Machine
end

