-- ==== Sys2Proof/Laws/Memory.lean ====
section
/-! SUPPORT. Bytes of memory after a store of several bytes. -/

namespace Sys2Proof.Machine

variable {s : State}

theorem ld_stBytes_of_lt (l : List Nat) : ∀ (s : State) (a b : Nat), b < a → (s.stBytes a l).ld b = s.ld b := by
  induction l with
  | nil => intros; rfl
  | cons x l ih =>
    intro s a b h
    have h1 : b < a + 1 := by omega
    have h2 : b ≠ a := by omega
    rw [State.stBytes, ih _ _ _ h1, State.ld_stB_of_ne _ h2]

theorem ld_stBytes_of_ge (l : List Nat) : ∀ (s : State) (a b : Nat), a + l.length ≤ b → (s.stBytes a l).ld b = s.ld b := by
  induction l with
  | nil => intros; rfl
  | cons x l ih =>
    intro s a b h
    rw [List.length_cons] at h
    have h1 : a + 1 + l.length ≤ b := by omega
    have h2 : b ≠ a := by omega
    rw [State.stBytes, ih _ _ _ h1, State.ld_stB_of_ne _ h2]

/-- A stored byte reads back. -/
theorem ld_stBytes_self (l : List Nat) : ∀ (s : State) (a : Nat) (k : Nat) (h : k < l.length), (s.stBytes a l).ld (a + k) = BitVec.ofNat 8 l[k] := by
  induction l with
  | nil => intro s a k h; simp at h
  | cons x l ih =>
    intro s a k h
    rw [State.stBytes]
    cases k with
    | zero =>
      have h1 := ld_stBytes_of_lt l (s.stB a (BitVec.ofNat 8 x)) (a + 1) a (Nat.lt_succ_self a)
      refine h1.trans ?_; simp
    | succ k =>
      have h1 := ih (s.stB a (BitVec.ofNat 8 x)) (a + 1) k (by simpa using h)
      have e : a + (k + 1) = a + 1 + k := by omega
      exact (congrArg (State.ld _) e).trans (h1.trans (by simp))

theorem stBytes_rd (l : List Nat) : ∀ (s : State) (a : Nat), (s.stBytes a l).regs = s.regs ∧ (s.stBytes a l).shadow = s.shadow ∧
    (s.stBytes a l).stat = s.stat ∧ (s.stBytes a l).nv = s.nv ∧ (s.stBytes a l).pending = s.pending := by
  induction l with
  | nil => intros; exact ⟨rfl, rfl, rfl, rfl, rfl⟩
  | cons x l ih => intro s a; exact ih _ _

end Sys2Proof.Machine
end

