-- ==== Sys2Proof/WellFormed.lean ====
section
/-! DEFINITION. Which commands are well formed: operands that a type does not bound keep to the widths the spec gives them. -/

namespace Sys2Proof

/-- What a frame carries keeps to its fields: an Announce's dataset of 112 bits with stepsRemoved and the sender's port identity, an MRP domain of 128 bits
and an interval of 16 (R404, R417). -/
def FrameKind.wellFormed : FrameKind → Bool
  | .ptpAnnounce rank steps sender => decide (rank < 2 ^ 112) && decide (steps < 2 ^ 16) && decide (sender < 2 ^ 80)
  | .mrpTest dom => decide (dom < 2 ^ 128)
  | .mrpLink dom _ => decide (dom < 2 ^ 128)
  | .mrpTopology dom ms => decide (dom < 2 ^ 128) && decide (ms < 2 ^ 16)
  | .other => true
  | .ptpSync => true
  | .ptpPdelay => true
  | .ptpResp => true
  | .ptpOther => true

/-- A network frame with addresses of 48 bits, a length of at least a shortest Ethernet frame's, a PTP domain of 8 bits, a checksum of 16 bits and a
timestamp of 80 bits with its nanoseconds (R399, R400, R412, R417); longer frames than R399 takes are dropped by the port. -/
def frameOk (f : NetFrame) : Bool :=
  decide (f.dst < 2 ^ 48) && decide (f.src < 2 ^ 48) && decide (64 ≤ f.len) && decide (f.len < 2 ^ 16) && f.kind.wellFormed && decide (f.domain < 2 ^ 8) &&
    decide (f.origin < 2 ^ 80) && decide (f.udp.getD 0 < 2 ^ 16)

/-- The head of a wake beacon keeps to its fields (R435). -/
def BeaconHead.wellFormed (h : BeaconHead) : Bool :=
  decide (h.dst < 2 ^ 48) && decide (h.ether < 2 ^ 16) && decide (h.magic < 2 ^ 16) && decide (h.group < 2 ^ 16)

/-- Every element is a byte. -/
def bytesOk (l : List Nat) : Bool := l.all fun b => decide (b < 256)

/-- A packet of the return lane: no longer than a header, the longest payload and a CRC (R218). -/
def packetOk (l : List Byte) : Bool := decide (l.length ≤ 1036)

/-- A Waord command whose operands keep to their fields (R431, R463, R467, R488). -/
def WaordOp.wellFormed : WaordOp → Bool
  | .other code => decide (code < 2 ^ 16)
  | .presentToken tok _ => bytesOk tok && decide (tok.length ≤ 8192)
  | .rcvExit tok => bytesOk tok && decide (tok.length ≤ 8192)
  | .modeRequest mode lamp => decide (mode < 16) && decide (lamp < 4)
  | .updBegin type len => decide (type < 256) && decide (len < 2 ^ 32)
  | .updData ofs l => decide (ofs < 2 ^ 32) && bytesOk l && decide (l.length ≤ 1196)
  | .updActivate tick _ => decide (tick.getD 0 < 2 ^ 64)
  | .auditRead a b => decide (a < 2 ^ 32) && decide (b < 2 ^ 32)
  | .auditAck n => decide (n < 2 ^ 32)
  | .sectionInstall code _ l => decide (code < 2 ^ 16) && bytesOk l && decide (l.length ≤ 2 ^ 24)
  | .dirInstall code l => decide (code < 2 ^ 16) && bytesOk l && l.length == 256
  | .archiveActivate code => decide (code < 2 ^ 16)
  | .timeApply code => decide (code < 2 ^ 16)
  | .bind code _ l => decide (code < 2 ^ 16) && bytesOk l && decide (l.length ≤ 65536)
  | .payloadPut code key l => decide (code < 2 ^ 16) && decide (key < 2 ^ 32) && bytesOk l && decide (l.length ≤ 1196)
  | .payloadGet code key => decide (code < 2 ^ 16) && decide (key < 2 ^ 32)
  | .certInstall code _ l => decide (code < 2 ^ 16) && bytesOk l && decide (l.length ≤ 65536)
  | .rootInstall code _ l => decide (code < 2 ^ 16) && bytesOk l && l.length == 48
  | .dropToken => true
  | .attest => true
  | .commissionDone => true
  | .commissionReset => true
  | .updVerify => true
  | .updConfirm => true
  | .updAbort => true
  | .rcvChallenge => true

/-- A well-formed command. -/
def Instr.wellFormed : Instr → Bool
  | .frameTick => true
  | .commitDeadline => true
  | .arm _ _ _ _ => true
  | .cancel _ _ _ _ => true
  | .commitValidate _ _ _ => true
  | .blockReset _ _ => true
  | .chipReset _ _ _ => true
  | .registerWrite _ _ a size _ => decide (size = 1 ∨ size = 2 ∨ size = 4 ∨ size = 8) && decide (a < 2 ^ 32)
  | .busWrite _ _ a l => decide (0 < l.length) && decide (a + l.length ≤ 2 ^ 32)
  | .lockSet _ _ _ => true
  | .sramRead _ _ a n => decide (0 < n) && decide (a + n ≤ 2 ^ 32)
  | .scrubPass _ => true
  | .dmvPost _ _ _ _ => true
  | .dmvDescriptorComplete _ _ => true
  | .dmvAbort _ _ _ moved verified => decide (verified ≤ moved) && decide (moved < 2 ^ 32)
  | .dmvResume _ _ _ _ => true
  | .compositionDone _ => true
  | .wbFrameDone _ _ => true
  | .lyrFlipRequest _ _ _ _ => true
  | .lyrFlipCancel _ _ _ _ => true
  | .cmpFlipArm _ _ _ => true
  | .bufRegister _ _ _ => true
  | .bufUnregister _ _ _ => true
  | .bufRead _ _ _ => true
  | .fenceSet _ _ _ _ => true
  | .fenceClear _ _ _ _ => true
  | .sclKick _ _ _ => true
  | .sclPassEnd _ _ => true
  | .doseSnapHourly _ => true
  | .snap _ _ => true
  | .snapSliceDone _ => true
  | .snapRetry _ => true
  | .restore _ _ => true
  | .restoreDone _ => true
  | .rmapInsert _ _ _ => true
  | .rmapDelete _ _ _ => true
  | .rmapRead _ _ _ => true
  | .rmapLookup _ _ _ => true
  | .rmapEditApply _ => true
  | .dthDataAccess _ _ _ => true
  | .glmPost _ _ _ => true
  | .bandDone _ _ => true
  | .bandDeadline _ _ _ => true
  | .poolRenderDone _ => true
  | .glmEnable _ _ _ => true
  | .lineSend _ _ => true
  | .lineUnderrun _ _ mask => decide (0 < mask) && decide (mask < 4)
  | .scnRectDivTag _ _ _ _ _ => true
  | .markSend _ => true
  | .ctrlSend _ _ => true
  | .splCtrlCmd _ _ _ _ => true
  | .ackTimeout _ _ => true
  | .ack _ _ _ h a p c => packetOk (h ++ a ++ p ++ c)
  | .diag _ _ _ h a p c => packetOk (h ++ a ++ p ++ c)
  | .enum _ _ _ b c => packetOk (b ++ c)
  | .fstat _ _ _ h a d n v c => packetOk (h ++ a ++ d ++ n ++ v ++ c)
  | .linkEnable _ _ _ _ => true
  | .ts1Lock _ x => decide (x.chars.length = 16)
  | .trainStepDone _ _ h f lanes => decide ((h ++ f).length = 16) && decide (lanes < 8)
  | .trainTimeout _ _ => true
  | .linkRestart _ _ => true
  | .retrain _ _ _ _ => true
  | .retrainTimeout _ _ => true
  | .symbolLockLoss _ _ => true
  | .returnCharErrors _ _ n => decide (0 < n) && decide (n ≤ 1024)
  | .fstatMissing _ _ => true
  | .syncInEdge _ => true
  | .syncLost _ => true
  | .syncOutPulse _ _ => true
  | .fallbackLoadDone _ _ => true
  | .fallbackRefresh _ _ => true
  | .drvCoverage _ _ => true
  | .drvFnKill _ _ _ => true
  | .drvFnClear _ _ _ => true
  | .drvDefDelete _ _ _ => true
  | .patEnd _ _ => true
  | .patSet _ _ _ _ => true
  | .patAdd _ _ _ _ => true
  | .patRamp _ _ _ _ _ => true
  | .patHold _ _ _ => true
  | .patLoop _ _ _ _ _ => true
  | .patWaitTick _ _ _ => true
  | .patSync _ _ _ => true
  | .patBranchFlag _ _ _ _ _ => true
  | .patProgData _ _ _ => true
  | .patKData _ _ _ => true
  | .vinFrameStart _ _ _ _ _ => true
  | .vinLongPacket _ _ _ _ _ _ _ _ l => decide (l.length < 2 ^ 16)
  | .vinFrameEnd _ _ _ _ => true
  | .shortPacketIgnored _ _ _ => true
  | .headerEccError _ _ => true
  | .deskew _ _ => true
  | .ulps _ _ _ => true
  | .lookCaptureTime _ => true
  | .capture _ _ _ => true
  | .lookEvalDone _ => true
  | .lookEnable _ _ _ => true
  | .loopSample _ _ _ => true
  | .loopHold _ _ _ _ => true
  | .loopResume _ _ _ _ => true
  | .injStart _ _ _ _ => true
  | .injStop _ _ _ _ => true
  | .capArm _ _ _ _ => true
  | .capTrig _ _ _ _ => true
  | .carrierStart _ _ => true
  | .adcConversion _ _ _ => true
  | .nrgAllowWrite _ _ _ => true
  | .energyPlanStale _ => true
  | .hourRollover _ => true
  | .nightRollover _ => true
  | .nightRestart _ _ => true
  | .daliTx _ _ _ => true
  | .daliPoll _ => true
  | .daliTransactionDone _ _ _ energy power _ => decide (energy < 2 ^ 48) && decide (power < 2 ^ 32)
  | .daliBusFail _ => true
  | .xcheckWindow _ => true
  | .pwrCmd _ _ _ => true
  | .lowpowerEntry _ _ => true
  | .lowpowerCommit _ => true
  | .idleEntry _ _ => true
  | .wake _ _ => true
  | .pwrLevelReq _ _ _ => true
  | .pmicPgRise _ => true
  | .pmicTimeout _ => true
  | .sensorConversion _ _ _ => true
  | .throttleStep _ => true
  | .criticalClear _ => true
  | .shutdownRestart _ => true
  | .tileSensorTimeout _ _ _ => true
  | .sensorFailClear _ _ _ _ => true
  | .thmTileOver _ _ => true
  | .clkRefLoss _ => true
  | .portLinkChange _ _ _ _ _ _ _ => true
  | .portFrameRx _ _ f => frameOk f
  | .portFrameTx _ _ post => match post with
    | some (f, tag) => frameOk f && decide (tag.getD 0 < 2 ^ 16)
    | none => true
  | .mrpFlush _ => true
  | .mrpBlockTimeout _ _ => true
  | .fdbAge _ mac => decide (mac < 2 ^ 48)
  | .swFlush _ _ _ => true
  | .pdelayReq _ _ delta => decide (delta.getD 0 < 2 ^ 32)
  | .submit _ _ _ => true
  | .reacq _ _ _ => true
  | .servoHoldover _ => true
  | .apply _ _ _ => true
  | .timeEpochWrite _ _ _ _ => true
  | .timeTsqHdr _ _ => true
  | .dtlsRecordRx _ cid body => decide (cid < 2 ^ 32) && decide (body.length < 2 ^ 16)
  | .clientHello _ _ addr v6 o => decide (addr < if v6 then 2 ^ 128 else 2 ^ 32) && decide (o.dport < 2 ^ 16)
  | .handshakeDone _ _ _ client => decide (client.length ≤ 65536)
  | .handshakeStart _ _ _ addr v6 => decide (addr < if v6 then 2 ^ 128 else 2 ^ 32)
  | .sessionIdle _ _ => true
  | .waordRequest _ _ _ op => op.wellFormed
  | .waordSafety _ _ _ _ op => op.wellFormed
  | .waordObjects _ _ _ _ _ l => decide (l.length ≤ 1192)
  | .presentToken _ _ _ tok _ => decide (tok.length ≤ 8192)
  | .dropToken _ _ _ => true
  | .attest _ _ _ => true
  | .modeRequest _ _ _ _ _ => true
  | .commissionDone _ _ _ => true
  | .commissionReset _ _ _ => true
  | .updBegin _ _ _ _ _ => true
  | .updData _ _ _ _ l => decide (l.length ≤ 1196)
  | .updVerify _ _ _ => true
  | .updActivate _ _ _ tick _ => decide (tick.getD 0 < 2 ^ 64)
  | .updateActivationReset _ => true
  | .updConfirm _ _ _ => true
  | .updAbort _ _ _ => true
  | .confirmExpiry _ => true
  | .auditRead _ _ _ _ _ => true
  | .auditAck _ _ _ _ => true
  | .rcvChallenge _ _ _ => true
  | .rcvExit _ _ _ tok => decide (tok.length ≤ 8192)
  | .wakeBeacon _ h time _ => h.wellFormed && decide (time < 2 ^ 64)
  | .schedWrite _ _ _ => true
  | .schedDelete _ _ _ => true
  | .schedRead _ _ _ => true
  | .schedDue _ _ => true
  | .hostVerify _ => true
  | .hostDrop _ => true
  | .unlock _ => true
  | .tapUnlockWrite _ _ _ => true
  | .tapUnlockRead _ _ => true
  | .verifyToken _ _ => true
  | .hsKeyshare _ _ n => decide (n ≤ 65536)
  | .hsSign _ _ => true
  | .hsInstall _ _ => true
  | .verdict _ _ => true
  | .update _ _ op => op.wellFormed
  | .keyGenerate _ _ _ => true
  | .keyInstall _ _ _ _ _ => true
  | .keyErase _ _ _ => true
  | .keyLock _ _ _ => true
  | .recInstall _ _ _ => true
  | .keyUpdate _ _ _ => true
  | .recErase _ _ _ => true
  | .otpProgram _ _ _ _ => true
  | .otpRetry _ => true
  | .drbgReseed _ _ => true
  | .tamperSample _ _ => true
  | .timeFloorSave _ => true
  | .quarantineEntry _ _ => true
  | .faultEvent _ _ => true
  | .force _ _ _ _ => true
  | .fltForceSrc _ _ _ => true
  | .errRelease _ _ _ => true
  | .consqTmo _ => true
  | .fltCfgCrc _ => true
  | .fltLogRdWrite _ _ _ => true
  | .fltStatClear _ _ _ _ => true
  | .crcSnoopPacket _ _ _ _ => true
  | .crcCtxRunWrite _ _ _ _ _ => true
  | .nvmTxSubmit _ _ _ => true
  | .journalTxOpen _ _ => true
  | .journalTxCommit _ _ _ => true
  | .journalTxSeal _ _ => true
  | .windowClose _ => true
  | .windowOpen _ => true
  | .erase4k _ _ => true
  | .erase64k _ _ => true
  | .program _ _ => true
  | .xspiOpDone _ _ => true
  | .xspiWaitTimeout _ => true
  | .powerGood _ => true
  | .resetN _ => true
  | .sysRstCmd _ _ _ => true
  | .safeRunning _ _ _ _ _ => true
  | .startRecordApply _ _ _ => true
  | .staggerEnd _ => true
  | .mainImageVerified _ => true
  | .startStepTimeout _ => true
  | .sysModeReq _ _ _ _ _ => true
  | .netLoss _ => true
  | .autoModeRequest _ => true
  | .cpuHartRst _ _ _ _ => true
  | .cpuWdog _ _ _ => true
  | .lockstepMismatch _ => true
  | .hostWrite32 _ _ _ => true
  | .hostRead32 _ _ => true
  | .hostStatus _ => true
  | .hostFrameAbort _ => true
  | .hostH2dSet _ _ => true
  | .hostD2hSet _ _ _ => true
  | .gpioSet _ _ _ => true
  | .gpioClr _ _ _ => true
  | .gpioEdge _ _ _ => true
  | .busRead _ _ a n => decide (0 < n) && decide (a + n ≤ 2 ^ 32)
  | .tileResetRelease _ _ => true
  | .sotError _ _ => true
  | .vmonUv _ _ => true
  | .vmonOv _ _ => true
  | .pllUnlock _ _ => true
  | .powerLoss _ => true
  | .daliBusRecovery _ => true
  | .hostGrantExpiry _ => true
  | .localMemoryEccError _ _ => true

end Sys2Proof
end

