-- ==== Sys2Proof/Tests/Slice0.lean ====
section
/-! SUPPORT. Tests of the model: ill-formed commands that the checks refuse, the worked figures of the spec, and for every statement of
Certificates/Slice0/Obligations.lean that has hypotheses a state and operands that meet them, clause by clause. What depends on
whether a signature verifies, an opaque constant (log entry 43), is stated by cases in a conclusion, so no clause needs one here. -/

namespace Sys2Proof.Tests

open Sys2Proof Sys2Proof.Machine

set_option maxRecDepth 1000000
set_option Elab.async false

/-- The state after reset with every power domain on. -/
def on : State := State.reset.wr R.PWR_DOMAIN_STAT 0xFF#32

/-- `on` with registers set. -/
def onWith (l : List (Nat × Word)) : State := l.foldl (fun s p => s.wr p.1 p.2) on

/-! ### Well-formed commands: each check refuses a term that breaks it, and takes one at its bound -/

def frame0 : NetFrame := ⟨1, 2, 64, true, none, .other, 0, 0, 0, none⟩

theorem test_ill_formed_commands_are_refused :
    ([.registerWrite 0 .safe 0x40000000 3 0, .registerWrite 0 .safe (2 ^ 32) 4 0, .busWrite 0 .safe 0x10000000 [], .busWrite 0 .safe (2 ^ 32 - 1) [1, 2],
      .sramRead 0 .safe 0x10000000 0, .sramRead 0 .safe (2 ^ 32 - 1) 2, .busRead 0 .safe 0x10000000 0, .dmvAbort 0 .safe 0 1 2, .dmvAbort 0 .safe 0 (2 ^ 32) 0,
      .lineUnderrun 0 0 0, .lineUnderrun 0 0 4, .ack 0 0 false [0] [0] [0] (List.replicate 1034 0), .diag 0 0 false [] [] (List.replicate 1037 0) [],
      .enum 0 0 false [0] (List.replicate 1036 0), .fstat 0 0 false [0] [0] [0] [0] [0] (List.replicate 1032 0),
      .ts1Lock 0 ⟨0, List.replicate 15 0⟩,
      .trainStepDone 0 0 (List.replicate 16 0) [0] 0, .trainStepDone 0 0 [] (List.replicate 16 0) 8,
      .returnCharErrors 0 0 0, .returnCharErrors 0 0 1025, .daliTransactionDone 0 0 0 (2 ^ 48) 0 ⟨0, 0⟩,
      .daliTransactionDone 0 0 0 0 (2 ^ 32) ⟨0, 0⟩, .portFrameRx 0 0 { frame0 with dst := 2 ^ 48 }, .portFrameRx 0 0 { frame0 with src := 2 ^ 48 },
      .portFrameRx 0 0 { frame0 with len := 63 }, .portFrameTx 0 0 (some ({ frame0 with len := 2 ^ 16 }, none)),
      .portFrameRx 0 0 { frame0 with origin := 2 ^ 80 }, .portFrameRx 0 0 { frame0 with udp := some (2 ^ 16) },
      .portFrameRx 0 0 { frame0 with domain := 256 }, .portFrameRx 0 0 { frame0 with kind := .mrpTest (2 ^ 128) },
      .portFrameRx 0 0 { frame0 with kind := .mrpLink (2 ^ 128) true }, .portFrameRx 0 0 { frame0 with kind := .mrpTopology 0 65536 },
      .portFrameRx 0 0 { frame0 with kind := .ptpAnnounce (2 ^ 112) 0 0 },
      .portFrameTx 0 0 (some (frame0, some (2 ^ 16)))] : List Instr).all (fun i => !i.wellFormed) = true := by decide +kernel

theorem test_ill_formed_network_and_session_commands_are_refused :
    ([.fdbAge 0 (2 ^ 48), .pdelayReq 0 0 (some (2 ^ 32)), .dtlsRecordRx 0 (2 ^ 32) [], .clientHello 0 0 (2 ^ 32) false ⟨0, true, true, true⟩,
      .clientHello 0 0 (2 ^ 128) true ⟨0, true, true, true⟩, .clientHello 0 0 0 true ⟨65536, true, true, true⟩, .handshakeStart 0 0 0 (2 ^ 128) true, .waordRequest 0 0 0 (.other (2 ^ 16)),
      .waordRequest 0 0 0 (.presentToken [256] none), .waordSafety 0 0 0 0 (.modeRequest 16 0), .waordRequest 0 0 0 (.modeRequest 0 4),
      .waordRequest 0 0 0 (.updBegin 256 0), .waordRequest 0 0 0 (.updBegin 0 (2 ^ 32)), .waordRequest 0 0 0 (.updData (2 ^ 32) []),
      .waordRequest 0 0 0 (.updData 0 [256]), .waordRequest 0 0 0 (.updActivate (some (2 ^ 64)) true), .waordRequest 0 0 0 (.auditRead (2 ^ 32) 0),
      .waordRequest 0 0 0 (.auditAck (2 ^ 32)), .waordRequest 0 0 0 (.rcvExit [256]), .waordRequest 0 0 0 (.sectionInstall (2 ^ 16) .geometry []),
      .waordRequest 0 0 0 (.bind (2 ^ 16) 0 []), .waordRequest 0 0 0 (.timeApply (2 ^ 16)), .waordRequest 0 0 0 (.dirInstall 0 [0]), .waordRequest 0 0 0 (.archiveActivate (2 ^ 16)),
      .waordRequest 0 0 0 (.payloadPut 0 0 [256]), .waordRequest 0 0 0 (.payloadGet 0 (2 ^ 32)), .waordRequest 0 0 0 (.certInstall 0 0 [256]),
      .waordRequest 0 0 0 (.rootInstall 0 0 [0]), .waordObjects 0 0 0 0 0 (List.replicate 1193 0), .updData 0 0 0 0 (List.replicate 1197 0),
      .updActivate 0 0 0 (some (2 ^ 64)) true, .wakeBeacon 0 ⟨0, 0, 0, 0⟩ (2 ^ 64) [], .wakeBeacon 0 ⟨2 ^ 48, 0, 0, 0⟩ 0 [], .wakeBeacon 0 ⟨0, 65536, 0, 0⟩ 0 [],
      .wakeBeacon 0 ⟨0, 0, 65536, 0⟩ 0 [], .wakeBeacon 0 ⟨0, 0, 0, 65536⟩ 0 [], .hsKeyshare 0 0 65537, .update 0 0 (.other (2 ^ 16))] :
        List Instr).all (fun i => !i.wellFormed) = true := by decide +kernel

theorem test_long_operands_are_refused :
    ((Instr.presentToken 0 0 0 (List.replicate 8193 0) none).wellFormed || (Instr.rcvExit 0 0 0 (List.replicate 8193 0)).wellFormed ||
      (Instr.dtlsRecordRx 0 0 (List.replicate 65536 0)).wellFormed || (Instr.vinLongPacket 0 0 0 0 false false true false (List.replicate 65536 0)).wellFormed) =
        false := by decide +kernel

theorem test_commands_at_their_bounds_are_well_formed :
    ([.registerWrite 0 .safe 0xFFFFFFFC 4 0, .busWrite 0 .safe (2 ^ 32 - 1) [1], .busRead 0 .safe (2 ^ 32 - 2) 2, .dmvAbort 0 .safe 0 5 5, .lineUnderrun 0 0 3,
      .diag 0 0 false [0] [] (List.replicate 1035 0) [], .enum 0 0 false [] [], .ts1Lock 0 ⟨0, List.replicate 16 0⟩,
      .trainStepDone 0 0 [0] (List.replicate 15 0) 7, .returnCharErrors 0 0 1024, .portFrameRx 0 0 frame0,
      .portFrameRx 0 0 { frame0 with len := 2 ^ 16 - 1 }, .waordRequest 0 0 0 (.modeRequest 15 3), .updData 0 0 0 0 (List.replicate 1196 0), .hsKeyshare 0 0 65536] :
        List Instr).all Instr.wellFormed = true := by decide +kernel

/-! ### The spec's worked figures -/

/-- R526: the check values of "123456789". -/
theorem test_crc_check_values :
    (List.range 4).map (fun p => crc p [0x31, 0x32, 0x33, 0x34, 0x35, 0x36, 0x37, 0x38, 0x39]) = [0xCBF43926, 0xE3069283, 0x29B1, 0xDF] := by decide +kernel

/-- Worked example of the frame chapter: target 86,400,000 met three ticks late applies LATE, five ticks late is EXPIRED under SKIP. -/
theorem test_commit_lateness :
    decideTick false false 86400000 86400003 = (86400003, false, true) ∧ decideTick false false 86400000 86400004 = (86400004, false, true) ∧
      (decideTick false false 86400000 86400005).2.1 = true := by decide +kernel

/-- Worked example "one Twin-240 pixel" of the composition chapter: texel place, interpolation, the three blends and the offered amounts. -/
theorem test_composition_example :
    texPos 81920 (-1966080) 0 0x140000 = 40927232 ∧ lerp4 320 320 336 336 128 128 = 328 ∧ blend 0 0 246 0xFFFF = 246 ∧ blend 0 246 560 0xC000 = 482 ∧
      blend 1 482 32 32896 = 498 ∧ round16 49152 560 = 420 ∧ round16 32896 32 = 16 := by decide +kernel

/-- The same pixel's warp: R127 on its four mesh points. -/
theorem test_warp_example :
    lerp4 0x13000 0x15000 0x13000 0x15000 128 192 = 81920 ∧ lerp4 0x37400 0x37400 0x38400 0x38400 128 192 = 229376 ∧
      lerp4 0x2800 0x2800 0x2880 0x2880 128 192 = 10336 := by decide +kernel

/-- The same pixel's photometry on pixel (0, 0): gains 0x0F5C and 0x1052, dose 18,000 between AGE[17] = 0x1180 and AGE[18] = 0x1190. -/
def phoS : State :=
  let s := onWith [(R.PHO_GAIN_BASE 0, 0x10000000), (R.PHO_DOSE_BASE 0, 0x10001000), (R.PHO_AGE 0 17, 0x1180), (R.PHO_AGE 0 18, 0x1190),
    (R.PHO_IN_USE 0, 0x10520C80)]
  let s := (s.stLE 0x10000000 2 0x0F5C).stLE 0x10001000 2 18000
  { s with frm := { s.frm with hw := s.frm.hw.set 0 3900 } }

theorem test_photometry_example :
    ageGain phoS 0 18000 = 4489 ∧ driveOf phoS 0 0 0 498 10336 = ⟨345234, 0, false⟩ ∧ (431459 + 97) / 256 = 1685 := by decide +kernel

/-- Worked example of the masks: an EYE margin byte of 138 takes a composition of 498 to 270, and an open privacy byte leaves it. -/
theorem test_mask_example : round16 (138 * 257) 498 = 270 ∧ round16 (255 * 257) 270 = 270 := by decide +kernel

/-- R222: codes 1685 and 1686 are sent as 0x95, 0x66, 0x69. -/
theorem test_packed_codes : packCodes [1685, 1686] = [0x95, 0x66, 0x69] ∧ unpackCodes 1 [0x95, 0x66, 0x69] = [1685, 1686] := by decide +kernel

/-- Worked example "three Twin-240 codes", with the table of reset. -/
theorem test_pulse_examples :
    let q := seqTable State.reset
    (List.range 64).filter (fun s => slotUnits q 1685 s == 27) = [0, 2, 4, 8, 10, 12, 16, 18, 20, 24, 28, 32, 34, 36, 40, 44, 48, 50, 52, 56, 60] ∧
      (codeUnits q 1685).sum = 1685 ∧ slotUnits q 37 0 = 5 ∧ [32, 16, 48, 8, 40, 24, 56, 4].map (slotUnits q 37) = List.replicate 8 4 ∧
      (codeUnits q 37).sum = 37 ∧ slotUnits q 1 0 = 1 ∧ (codeUnits q 1).sum = 1 := by decide +kernel

/-- The example of R247: from T480 to T120 M is 8, and a slot of 27 units splits into 3, 3, 3, 3, 3, 4, 4 and 4. -/
theorem test_stretch_example : stretch 20833 125000 = 8 ∧ (List.range 8).map (subSlot 27 8) = [3, 3, 3, 3, 3, 4, 4, 4] := by decide +kernel

/-- Worked example "a crossing switched off": pixel (528, 704) lies in group 16 of 64 with skew 23. -/
theorem test_probe_group_example : groupOfPixel 64 23 528 704 = 16 := by decide +kernel

/-- The SUPPLY loop of Twin-240 in steady state, before step 4: slot 0 in RUN with the example's coefficients. -/
def supplyS : State :=
  let c := fun e shift value => [(R.CTL_LOOP_COEF_SHIFT 0 e, word shift), (R.CTL_LOOP_COEF_VAL 0 e, word value)]
  onWith ([(R.STATUS (ctlk 0), 1), (R.CTL_LOOP_CFG 0, 0x01001301), (R.CTL_LOOP_R 0 0, 42000), (R.CTL_LOOP_X_HAT 0 0, 42000), (R.CTL_LOOP_X_HAT 0 1, 8000),
      (R.CTL_LOOP_X_HAT 0 2, 8000), (R.CTL_LOOP_X_HAT 0 3, 11469), (R.CTL_LOOP_E 0 0, wordS (-16)), (R.CTL_LOOP_E 0 1, 40), (R.CTL_LOOP_U 0 0, 11469)] ++
    c 0 30 0x40000000 ++ c 9 30 0x40000000 ++ c 18 30 0x40000000 ++ c 1 31 0x03333333 ++ c 2 31 0xFCCCCCCD ++ c 8 31 0xE6666666 ++ c 11 31 0x5DC00000 ++
    c 76 30 0x40000000 ++ c 96 31 0x26666666 ++ c 101 31 0x26666666 ++ c 104 28 0xC0000000 ++ c 160 31 0x40000000 ++ c 161 31 0x33333333 ++
    c 162 31 0xCCCCCCCD ++ c 163 31 0x0CCCCCCD ++ c 192 31 0x6672A226)

/-- Worked example "the SUPPLY loop of Twin-240": the command, the next estimate and the MAC count. -/
theorem test_supply_loop_example :
    (command supplyS 0 0).1 = 11469 ∧ (List.range 4).map (fun i => (observed supplyS 0 i).1) = [41995, 8012, 8064, 11469] ∧ macCount supplyS 0 = 52 := by
  decide +kernel

/-- The same example's carrier: the loop samples 4,167 times in a frame of 4,166,667 ns, so its carrier is 6,666 steps and the duty 11,469 is 1,167
steps of it. -/
theorem test_carrier_example :
    let s := onWith [(R.CTRL P.PWM, 1), (R.STATUS P.CTL, 1), (R.CTRL P.CTL, 1), (R.STATUS (ctlk 0), 1), (R.PWM_CFG 0, 0x403), (R.CTL_LOOP_U 0 0, 11469)]
    let s := { s with nextTick := 4166667, ctl := { s.ctl with loop := s.ctl.loop.set 0 { s.ctl.loop[0] with n := 4167, m := 1, last := 0 } } }
    ((carrierStart 0 s).ctl.pwm[0].lc, (carrierStart 0 s).ctl.pwm[0].on) = (6666, 1167) := by decide +kernel

/-- Worked example "Twin-240 at night": the terms of R343 and the cuts of R352. -/
theorem test_energy_example :
    let s := onWith [(R.NRG_CC_IV 0 0, 0x10680018), (R.NRG_TILE_CFG 0, 0x02580000)]
    quietEnergy s 0 4166667 = 2500000 ∧ classEnergy s 0 4166667 6400 0 1342177280 = 137625611 ∧ classEnergy s 0 4166667 6400 0 8192 = 840 ∧
      cutBy 0x8000 0 27312477 28126429 = (0, 813952) ∧ (cutBy 0x8000 0 76474935 813952).1 = 32419 := by decide +kernel

/-- R504: two raisings of a source in one cycle are one event, so it is counted once; a raising in a later cycle counts again. -/
theorem test_one_event_per_cycle :
    let s := raise 345 (raise 345 on)
    s.rf (R.FLT_SRC_WIN 345) 23 16 = 1 ∧ (raise 345 (s.at 8)).rf (R.FLT_SRC_WIN 345) 23 16 = 2 := by decide +kernel

/-! ### Statements: states that meet their hypotheses -/

theorem test_hypotheses_EveryStepKeepsTheInvariant :
    ∃ s t : State, s.canonical = true ∧ step s = .next t :=
  ⟨{ on with pending := [.gpioSet 0 .safe 1] }, _, by decide +kernel, rfl⟩

theorem test_no_command_is_a_word : decodeTableWord 32 0 = none ∧ (on.withFetchWord 32 0).pending = [] := by decide +kernel

/-- The check value of R619 does not cover its own reference. -/
theorem cfgCrc_wr_ref (s : State) (v : Word) : cfgCrc (s.wr R.FLT_CFG_CRC_REF v) = cfgCrc s := by
  have h : ∀ a, a ≠ R.FLT_CFG_CRC_REF → (s.wr R.FLT_CFG_CRC_REF v).rd a = s.rd a := fun a ha => State.rd_wr_of_ne _ ha v
  have h1 : ∀ n ∈ List.range 512, (s.wr R.FLT_CFG_CRC_REF v).rd (R.FLT_SRC_CFG n) = s.rd (R.FLT_SRC_CFG n) := fun n hn =>
    h _ (by have := List.mem_range.mp hn; simp only [R.FLT_SRC_CFG, R.FLT_CFG_CRC_REF]; omega)
  have h2 : ∀ n ∈ List.range 512, putBits ((s.wr R.FLT_CFG_CRC_REF v).rd (R.FLT_SRC_WIN n)) 23 16 0 = putBits (s.rd (R.FLT_SRC_WIN n)) 23 16 0 :=
    fun n hn => by rw [h _ (by have := List.mem_range.mp hn; simp only [R.FLT_SRC_WIN, R.FLT_CFG_CRC_REF]; omega)]
  have h3 : ∀ i ∈ List.range 24, (s.wr R.FLT_CFG_CRC_REF v).rd (R.FLT_CQ_PAGE (8 + i)) = s.rd (R.FLT_CQ_PAGE (8 + i)) := fun i hi =>
    h _ (by have := List.mem_range.mp hi; simp only [R.FLT_CQ_PAGE, R.FLT_CFG_CRC_REF]; omega)
  have h4 : ∀ i ∈ List.range 24, (List.range 11).map (fun w => (s.wr R.FLT_CFG_CRC_REF v).rd (R.FLT_CQ_SRC (8 + i) w)) =
      (List.range 11).map (fun w => s.rd (R.FLT_CQ_SRC (8 + i) w)) := fun i hi => List.map_congr_left fun w hw =>
    h _ (by have := List.mem_range.mp hi; have := List.mem_range.mp hw; simp only [R.FLT_CQ_SRC, R.FLT_CFG_CRC_REF]; omega)
  have hw : cfgWords (s.wr R.FLT_CFG_CRC_REF v) = cfgWords s := by
    simp only [cfgWords]
    rw [List.map_congr_left h1, List.map_congr_left h2, List.map_congr_left h3, List.flatMap_congr h4, h _ (by decide), h _ (by decide)]
  rw [cfgCrc, hw, cfgCrc]

theorem test_hypotheses_CollectorCommandsActAsWritten_crc :
    (∃ (s : State), s.flt.crcSet = true ∧ s.pageOn P.FLT0 = true ∧ s.rd R.FLT_CFG_CRC_REF ≠ word (cfgCrc s)) ∧
    (∃ (s : State), s.rd R.FLT_CFG_CRC_REF = word (cfgCrc s)) := by
  constructor
  · let u : State := { on with flt := { on.flt with crcSet := true } }
    refine ⟨u.wr R.FLT_CFG_CRC_REF (word (cfgCrc u) + 1), rfl, ?_, ?_⟩
    · have hu : u.pageOn P.FLT0 = true := by decide +kernel
      have e : ∀ v, (u.wr R.FLT_CFG_CRC_REF v).rd R.PWR_DOMAIN_STAT = u.rd R.PWR_DOMAIN_STAT := fun v => State.rd_wr_of_ne u (by decide) v
      simpa only [State.pageOn, State.domainPowered, State.domainOn, State.rb, e] using hu
    · rw [cfgCrc_wr_ref, State.rd_wr_self]
      intro h
      simp at h
  · exact ⟨on.wr R.FLT_CFG_CRC_REF (word (cfgCrc on)), by rw [cfgCrc_wr_ref, State.rd_wr_self]⟩



namespace Bus

theorem test_hypotheses_RegisterPagesTakeAlignedWords :
    (∃ (t : Nat) (i : Init) (a : Nat) (s : State) (size : Nat), isReg a = true ∧ ¬(size = 4 ∧ a % 4 = 0) ∧ ((s.at t).answers (pageOf a) = true) ∧
      (safeOnlyPage (pageOf a) = false ∧ safeOnlyReg (a / 4 * 4) = false ∨ trusted i s = true)) ∧
    (∃ (t : Nat) (i : Init) (a : Nat) (s : State) (size : Nat), isReg a = true ∧ ¬(size = 4 ∧ a % 4 = 0) ∧ ((s.at t).answers (pageOf a) = true) ∧
      (¬(safeOnlyPage (pageOf a) = false ∧ safeOnlyReg (a / 4 * 4) = false ∨ trusted i s = true))) ∧
    (∃ (t : Nat) (a : Nat) (s : State) (size : Nat), isReg a = true ∧ ¬(size = 4 ∧ a % 4 = 0) ∧ ¬((s.at t).answers (pageOf a) = true)) ∧
    (∃ (t : Nat) (i : Init) (a : Nat) (s : State) (l : List Byte), isReg a = true ∧ ¬(l.length = 4 ∧ a % 4 = 0) ∧ ((s.at t).answers (pageOf a) =
      true) ∧ (safeOnlyPage (pageOf a) = false ∧ safeOnlyReg (a / 4 * 4) = false ∨ trusted i s = true)) ∧
    (∃ (t : Nat) (i : Init) (a : Nat) (s : State) (l : List Byte), isReg a = true ∧ ¬(l.length = 4 ∧ a % 4 = 0) ∧ ((s.at t).answers (pageOf a) =
      true) ∧ (¬(safeOnlyPage (pageOf a) = false ∧ safeOnlyReg (a / 4 * 4) = false ∨ trusted i s = true))) ∧
    (∃ (t : Nat) (a : Nat) (s : State) (l : List Byte), isReg a = true ∧ ¬(l.length = 4 ∧ a % 4 = 0) ∧ ¬((s.at t).answers (pageOf a) = true)) ∧
    (∃ (t : Nat) (a : Nat) (s : State) (n : Nat), isReg a = true ∧ ¬(n = 4 ∧ a % 4 = 0) ∧ ((s.at t).answers (pageOf a) = true)) ∧
    (∃ (t : Nat) (a : Nat) (s : State) (n : Nat), isReg a = true ∧ ¬(n = 4 ∧ a % 4 = 0) ∧ ¬((s.at t).answers (pageOf a) = true)) ∧
    (∃ (t : Nat) (i : Init) (a : Nat) (s : State) (v : Word), isReg a = true ∧ a % 4 = 0 ∧ s.accepts t i a v ∧ offOf a ≠ 28 ∧ offOf a ≠ 32 ∧ hookOf i
      a = noHook) :=
  ⟨⟨0, Init.safe, R.SYS_MODE, on, 2, by decide +kernel⟩,
   ⟨0, .dmv 0, R.SEC_HOST_GRANT, on, 1, by decide +kernel⟩,
   ⟨0, R.DRV_SEQ_CFG, on.wr R.PWR_DOMAIN_STAT 0x0F, 2, by decide +kernel⟩,
   ⟨0, Init.safe, R.SYS_MODE, on, [1,2], by decide +kernel⟩,
   ⟨0, .dmv 0, R.SEC_HOST_GRANT, on, [1], by decide +kernel⟩,
   ⟨0, R.DRV_SEQ_CFG, on.wr R.PWR_DOMAIN_STAT 0x0F, [1, 2], by decide +kernel⟩,
   ⟨0, R.SYS_MODE, on, 2, by decide +kernel⟩,
   ⟨0, R.DRV_SEQ_CFG, on.wr R.PWR_DOMAIN_STAT 0x0F, 2, by decide +kernel⟩,
   ⟨0, Init.safe, R.DRV_SEQ_CFG, on, 7, by decide +kernel, by decide +kernel, by decide +kernel, by decide +kernel, by decide +kernel, rfl⟩⟩

theorem test_hypotheses_AccessWithoutPowerRaisesBusOffAccess :
    ∃ (t : Nat) (a : Nat) (s : State), isReg a = true ∧ a % 4 = 0 ∧ (s.at t).answers (pageOf a) = false :=
  ⟨0, R.DRV_SEQ_CFG, on.wr R.PWR_DOMAIN_STAT 0x0F, by decide +kernel⟩

theorem test_hypotheses_SafePagesTakeWritesFromSafeOnly :
    (∃ (t : Nat) (i : Init) (a : Nat) (s : State), isReg a = true ∧ a % 4 = 0 ∧ (s.at t).answers (pageOf a) = true ∧ (4 ≤ pageOf a ∧ pageOf a ≤ 11 ∨
      16 ≤ pageOf a ∧ pageOf a ≤ 23 ∨ pageOf a = 225) ∧ trusted i s = false) ∧
    (∃ (t : Nat) (i : Init) (a : Nat) (s : State), isReg a = true ∧ a % 4 = 0 ∧ (s.at t).answers (pageOf a) = true ∧ (4 ≤ pageOf a ∧ pageOf a ≤ 11 ∨
      16 ≤ pageOf a ∧ pageOf a ≤ 23 ∨ pageOf a = 225) ∧ trusted i s = true) ∧
    (∃ (t : Nat) (a : Nat) (s : State), isReg a = true ∧ a % 4 = 0 ∧ (s.at t).answers (pageOf a) = true ∧ (4 ≤ pageOf a ∧ pageOf a ≤ 11 ∨ 16 ≤ pageOf
      a ∧ pageOf a ≤ 23 ∨ pageOf a = 225)) :=
  ⟨⟨0, .dmv 0, R.SEC_HOST_GRANT, on, by decide +kernel⟩,
   ⟨0, Init.safe, R.SEC_HOST_GRANT, on, by decide +kernel⟩,
   ⟨0, R.SEC_HOST_GRANT, on, by decide +kernel⟩⟩

theorem test_hypotheses_StagedCommitFieldsDropWrites :
    ∃ (t : Nat) (i : Init) (a : Nat) (v : Word) (s : State), isReg a = true ∧ a % 4 = 0 ∧ (s.at t).answers (pageOf a) = true ∧ (safeOnlyPage (pageOf
      a) = true ∨ safeOnlyReg a = true → trusted i s = true) ∧ beamTouched s a v = false ∧ (offOf a = 40 ∧ s.rb a 9 = true ∨ a = R.SYS_COMMIT_GUARD ∧
      s.rd R.SYS_CG_ARMED ≠ 0#32) :=
  ⟨0, Init.safe, R.COMMIT P.DRV, 3, on.wr (R.COMMIT P.DRV) 0x200, by decide +kernel⟩

theorem test_hypotheses_RegisterWriteFollowsAccessCodes :
    ∃ (t : Nat) (i : Init) (a : Nat) (v : Word) (s : State), isReg a = true ∧ a % 4 = 0 ∧ s.accepts t i a v ∧ hookOf i a = noHook ∧ legalize a v = v
      ∧ offOf a ≠ 28 ∧ offOf a ≠ 32 ∧ offOf a ≠ 40 :=
  ⟨0, Init.safe, R.DRV_SEQ_CFG, 0x00040100, on, by decide +kernel, by decide +kernel, by decide +kernel, rfl, by decide +kernel, by decide +kernel,
    by decide +kernel, by decide +kernel⟩

theorem test_hypotheses_MainMemoryHoldsWhatIsWritten :
    (∃ (i : Init) (a : Nat) (s : State) (l : List Byte), regionOf a = Region.main ∧ regionOf (a + (l.length - 1)) = Region.main ∧ firewall s a
      l.length = none ∧ glmBlocked s a l.length = none ∧ s.en P.PHO = false ∧ s.en P.SCHED = false ∧ i.isSafe = true ∧ partialUe s a l.length = none) ∧
    (∃ (a : Nat) (s : State) (n : Nat), regionOf a = Region.main ∧ regionOf (a + (n - 1)) = Region.main ∧ firstUe s a n = none ∧ s.ce = []) :=
  ⟨⟨Init.safe, 0x10000003, on, [1,2,3], by decide +kernel⟩,
   ⟨0x12FFFFFE, on.stB 0x12FFFFFE 5, 2, by decide +kernel⟩⟩

theorem test_hypotheses_ScrubPassCountsAndTells :
    ∃ (s : State), s.rb R.NVM_SCRUB_CFG 0 = true ∧ s.ce = [] ∧ s.ue = [] :=
  ⟨on.wr R.NVM_SCRUB_CFG 0x3C01, by decide +kernel⟩

end Bus


namespace Control

def loopS (st : Word) (l : List (Nat × Word)) (f : LoopSt → LoopSt) : State :=
  { onWith ([(R.STATUS (P.CTLK 15), st)] ++ l) with ctl := { on.ctl with loop := on.ctl.loop.set 15 (f on.ctl.loop[15]) } }

def pwmS (en : Word) (cfg : Word) : State := onWith [(R.CTRL P.PWM, en), (R.PWM_CFG 15, cfg), (R.PWM_PERIOD 15, 1000), (R.PWM_DUTY 15, 0x8000), (R.PWM_MINON 15, 0x10)]

theorem test_hypotheses_LoopCommandsActAsWritten :
    (∃ (t : Nat) (i : Init) (k : Fin 16) (s : State), s.accepts t i (R.CTL_LOOP_CMD k.val : Nat) 1#32 ∧ s.rf (R.STATUS (P.CTLK k.val) : Nat) 1 0 = 1
      ∧ s.rb (R.CTL_LOOP_INJ_STAT k.val) 0 = false ∧ s.ctl.loop[k].injWait = false ∧ s.ctl.loop[k].armed = false) ∧
    (∃ (t : Nat) (i : Init) (k : Fin 16) (s : State), s.accepts t i (R.CTL_LOOP_CMD k.val : Nat) 2#32 ∧ s.rf (R.STATUS (P.CTLK k.val) : Nat) 1 0 = 2
      ∧ s.ctl.loop[k].bar = false) ∧
    (∃ (t : Nat) (i : Init) (k : Fin 16) (s : State), s.accepts t i (R.CTL_LOOP_CMD k.val : Nat) 2#32 ∧ s.rf (R.STATUS (P.CTLK k.val) : Nat) 1 0 ≠ 2) ∧
    (∃ (t : Nat) (i : Init) (k : Fin 16) (s : State), s.accepts t i (R.CTL_LOOP_CMD k.val : Nat) 4#32 ∧ (s.rf R.SYS_MODE 3 0 = 6 ∨ s.rf R.SYS_MODE 3
      0 = 0) ∧ s.rb (R.CTL_LOOP_INJ_STAT k.val) 0 = false) ∧
    (∃ (t : Nat) (i : Init) (k : Fin 16) (s : State), s.accepts t i (R.CTL_LOOP_CMD k.val : Nat) 4#32 ∧ s.rf R.SYS_MODE 3 0 ≠ 6 ∧ s.rf R.SYS_MODE 3 0
      ≠ 0) ∧
    (∃ (t : Nat) (i : Init) (k : Fin 16) (s : State), s.accepts t i (R.CTL_LOOP_CMD k.val : Nat) 8#32 ∧ s.rb (R.CTL_LOOP_INJ_STAT k.val) 0 = true) ∧
    (∃ (t : Nat) (i : Init) (k : Fin 16) (s : State), s.accepts t i (R.CTL_LOOP_CMD k.val : Nat) 16#32 ∧ s.ctl.loop[k].armed = false) ∧
    (∃ (t : Nat) (i : Init) (k : Fin 16) (s : State), s.accepts t i (R.CTL_LOOP_CMD k.val : Nat) 16#32 ∧ s.ctl.loop[k].armed = true) ∧
    (∃ (t : Nat) (i : Init) (k : Fin 16) (s : State), s.accepts t i (R.CTL_LOOP_CMD k.val : Nat) 32#32 ∧ s.ctl.loop[k].armed = true ∧
      s.ctl.loop[k].trig = false ∧ s.rf (R.CTL_LOOP_CAP_CFG k.val) 27 25 = 0 ∧ s.rb (R.CTL_LOOP_CAP_CFG k.val) 24 = false) :=
  ⟨⟨0, Init.safe, 15, loopS 1 [] id, by decide +kernel⟩,
   ⟨0, Init.safe, 15, loopS 2 [(R.CTL_LOOP_RC_STAT 15, 0x8000000F)] id, by decide +kernel⟩,
   ⟨0, Init.safe, 15, loopS 1 [] id, by decide +kernel⟩,
   ⟨0, Init.safe, 15, loopS 1 [(R.SYS_MODE, 6)] id, by decide +kernel⟩,
   ⟨0, Init.safe, 15, loopS 1 [(R.SYS_MODE, 2)] id, by decide +kernel⟩,
   ⟨0, Init.safe, 15, loopS 1 [(R.CTL_LOOP_INJ_STAT 15, 1)] (fun x => { x with injWait := true }), by decide +kernel⟩,
   ⟨0, Init.safe, 15, loopS 1 [] id, by decide +kernel⟩,
   ⟨0, Init.safe, 15, loopS 1 [] (fun x => { x with armed := true }), by decide +kernel⟩,
   ⟨0, Init.safe, 15, loopS 1 [(R.CTL_LOOP_CAP_LEN 15, 0x1FFFF)] (fun x => { x with armed := true }), by decide +kernel⟩⟩

theorem test_hypotheses_CarriersConversionsAndSamples :
    (∃ (t : Nat) (s : State) (o : Fin 16) (due : Nat), s.pageOn P.PWM = true ∧ carrierTime (s.at t) o = some due ∧ s.en P.PWM = true ∧ s.rb
      (R.PWM_CFG o.val) 0 = true ∧ ((s.rb (R.PWM_CFG o.val) 10 : Bool) = true → ¬(s.rf (R.STATUS (P.CTLK (Fin.ofNat 16 (s.rf (R.PWM_CFG o.val) 7 4) :
      Fin 16))) 1 0 = 0))) ∧
    (∃ (t : Nat) (s : State) (o : Fin 16) (due : Nat), s.pageOn P.PWM = true ∧ carrierTime (s.at t) o = some due ∧ (s.en P.PWM = false ∨ s.rb
      (R.PWM_CFG o.val) 0 = false ∨ (s.rb (R.PWM_CFG o.val) 10 : Bool) = true ∧ (s.rf (R.STATUS (P.CTLK (Fin.ofNat 16 (s.rf (R.PWM_CFG o.val) 7 4) :
      Fin 16))) 1 0 = 0))) ∧
    (∃ (s : State) (o : Fin 16), s.pageOn P.PWM = true ∧ s.rb (R.PWM_CFG o.val) 1 = true ∧ (s.rf (R.STATUS (P.CTLK (Fin.ofNat 16 (s.rf (R.PWM_CFG
      o.val) 7 4) : Fin 16))) 1 0 = 0)) ∧
    (∃ (s : State) (c : Fin 16), s.pageOn P.ADC = true ∧ s.en P.ADC = true ∧ (s.rf (R.ADC_CH_CFG c.val) 1 0 = 2 ∨ s.rf (R.ADC_CH_CFG c.val) 1 0 = 1 ∧
      (convLoop s c).isSome = true ∧ s.ctl.conv[c] = false)) ∧
    (∃ (s : State) (c : Fin 16), s.pageOn P.ADC = true ∧ s.en P.ADC = true ∧ (s.rf (R.ADC_CH_CFG c.val) 1 0 = 0 ∨ s.rf (R.ADC_CH_CFG c.val) 1 0 = 1 ∧
      (convLoop s c = none ∨ s.ctl.conv[c] = true))) ∧
    (∃ (s : State) (k : Fin 16), (s.rf (R.STATUS (P.CTLK k.val)) 1 0 = 0 ∨ s.ctl.loop[k].n ≤ s.ctl.loop[k].m)) ∧
    (∃ (s : State) (k : Fin 16), s.rf (R.STATUS (P.CTLK k.val)) 1 0 ≠ 0 ∧ s.ctl.loop[k].m < s.ctl.loop[k].n ∧ (∀ j < 4, s.rd (R.CTL_LOOP_RESB (k.val)
      j) = 0#32 ∧ s.rf (R.CTL_LOOP_FRZ (k.val) j) 15 0 = 0)) :=
  ⟨⟨0, pwmS 1 0x00400001, 15, (carrierTime (pwmS 1 0x00400001) 15).getD 0, by decide +kernel⟩,
   ⟨0, { pwmS 0 0x00400001 with ctl := { on.ctl with pwm := on.ctl.pwm.set 15 { on.ctl.pwm[15] with active := true } } }, 15, (carrierTime (pwmS 0
     0x00400001) 15).getD 0, by decide +kernel⟩,
   ⟨pwmS 1 0x004000F3, 15, by decide +kernel⟩,
   ⟨onWith [(R.CTRL P.ADC, 1), (R.ADC_CH_CFG 15, 2)], 15, by decide +kernel⟩,
   ⟨onWith [(R.CTRL P.ADC, 1), (R.ADC_CH_CFG 15, 1)], 15, by decide +kernel⟩,
   ⟨loopS 1 [] id, 15, by decide +kernel⟩,
   ⟨loopS 1 [(R.CTL_LOOP_CFG 15, 0x00030001), (R.CTL_LOOP_U_MAX 15 0, 0x1000), (R.CTL_LOOP_U_MIN 15 0, 0x100)] (fun x => { x with m := 2, n := 3 }),
     15, by decide +kernel⟩⟩

end Control


namespace Drive

def tileS (k : Fin 4) (f : TileSt → TileSt) (s : State) : State := { s with tile := s.tile.set k (f s.tile[k]) }

def prob (f : TileSt → TileSt) : State := tileS 1 (fun x => f { x with probing := true }) { onWith [(R.CTRL P.DRV, 1), (R.STATUS (P.SPLT 1), 6), (R.SYS_MODE, 0x13)] with now := 5000000000 }

theorem test_hypotheses_FunctionsGoOffAndDefectsAreRemoved :
    (∃ (t : Nat) (i : Init) (w : Word) (s : State), s.accepts t i R.DRV_FN_KILL w ∧ (List.filter (fun f => bitOf w f && !s.rb R.DRV_FN_OFF f)
      (List.range 32) : List Nat) ≠ []) ∧
    (∃ (t : Nat) (i : Init) (w : Word) (s : State) (f : Nat), f < 32 ∧ s.accepts t i R.DRV_FN_CLEAR w ∧ (∀ g < 32, bitOf w g = decide (g = f)) ∧ s.rf
      R.DRV_DEF_COUNT 9 0 ≤ 512) ∧
    (∃ (t : Nat) (i : Init) (w : Word) (s : State), s.accepts t i R.DRV_DEF_CMD w ∧ bitOf w 31 = true ∧ (bitsOf w 8 0 : Nat) < (s.rf R.DRV_DEF_COUNT
      9 0 : Nat) ∧ (s.rf R.DRV_DEF_COUNT 9 0 : Nat) ≤ 512) ∧
    (∃ (t : Nat) (s : State) (k : Fin 4), s.en P.DRV = true ∧ s.tile[k].probing = true ∧ s.lampKind ≠ 0 ∧ (List.filter (fun g => decide (groupSince
      s.tile[k] g + coverLimit s ≤ max s.now t) && !s.tile[k].fault.contains g) (List.range s.tile[k].gnEff) : List Nat) = []) ∧
    (∃ (t : Nat) (s : State) (k : Fin 4), s.en P.DRV = true ∧ s.tile[k].probing = true ∧ s.lampKind ≠ 0 ∧ (List.filter (fun g => decide (groupSince
      s.tile[k] g + coverLimit s ≤ max s.now t) && !s.tile[k].fault.contains g) (List.range s.tile[k].gnEff) : List Nat) ≠ []) :=
  ⟨⟨0, Init.safe, 0x80000003, onWith [(R.DRV_FN_OFF, 2)], by decide +kernel⟩,
   ⟨0, Init.safe, 0x10, onWith [(R.DRV_FN_OFF, 0x30), (R.DRV_DEF_COUNT, 3), (R.DRV_DEF 0, 0x04000001), (R.DRV_DEF 1, 0x05000001), (R.DRV_DEF 2,
     0x04000002)], 4, by decide +kernel⟩,
   ⟨0, Init.safe, 0x80000000, onWith [(R.DRV_DEF_COUNT, 512), (R.DRV_DEF 0, 0x04000001), (R.DRV_DEF 511, 0x04000002)], by decide +kernel⟩,
   ⟨0, prob (fun x => { x with since := 4000000000 }), 1, by decide +kernel⟩,
   ⟨0, prob (fun x => { x with fault := [0, 3] }), 1, by decide +kernel⟩⟩

end Drive


namespace Energy

def nrgS (l : List (Nat × Word)) : State := { onWith ([(R.CTRL P.NRG, 1)] ++ l) with nrg := { on.nrg with hour := 5, night := 6, total := 7, hourIdx := 3, nightIdx := 4 } }

def daliS (q : List DaliTx) (f : Bool) (l : List (Nat × Word)) : State := { onWith ([(R.CTRL P.DALI, 1)] ++ l) with dali := { on.dali with queue := q, fail := f } }

def raw (r : Bool) : DaliTx := ⟨true, 0xFF05, false, true, r⟩

def poll : DaliTx := ⟨false, 0, false, false, false⟩

def polled (n : Nat) (q : List DaliTx) : State := { daliS q false [(R.DALI_POLL_CFG, 1)] with dali := { on.dali with queue := q, polled := some 0, misses := n } }

def winS (r : Word) (sp : Bool) : State := { daliS [] false [(R.DALI_D4I_RES, 1), (R.DALI_XCHK_AUX, 0), (R.DALI_XCHK_CFG, r)] with
  dali := { on.dali with start := some ⟨0, 100, 1000⟩, last := some ⟨5, 120, 72000001000⟩, spoilt := sp } }

theorem test_hypotheses_PlannerAndAccumulatorsFollowTheirTimes :
    (∃ (t : Nat) (i : Init) (w : Word) (s : State), s.accepts t i R.NRG_ALLOW w) ∧
    (∃ (t : Nat) (s : State), s.en P.NRG = true ∧ s.pageOn P.NRG = true ∧ s.rb R.NRG_PLAN_STAT 0 = false ∧ s.nrg.allowAt + s.rf R.NRG_PLAN_CFG 23 16
      * 60000000000 ≤ max s.now t) ∧
    (∃ (t : Nat) (s : State), max s.now t < s.nrg.allowAt + s.rf R.NRG_PLAN_CFG 23 16 * 60000000000) ∧
    (∃ (t : Nat) (s : State), s.en P.NRG = true ∧ s.pageOn P.NRG = true ∧ hourNow (s.at t) ≠ s.nrg.hourIdx) ∧
    (∃ (t : Nat) (s : State), s.en P.NRG = true ∧ s.pageOn P.NRG = true ∧ nightNow (s.at t) ≠ s.nrg.nightIdx ∧ s.sync.lastTick + nightAge (s.at t) <
      max s.now t) ∧
    (∃ (t : Nat) (i : Init) (s : State), s.accepts t i R.NRG_ACC_CTRL 1#32) :=
  ⟨⟨0, Init.safe, 0x55, nrgS [], by decide +kernel⟩,
   ⟨60000000000, nrgS [(R.NRG_PLAN_CFG, 0x00010000)], by decide +kernel⟩,
   ⟨59999999999, nrgS [(R.NRG_PLAN_CFG, 0x00010000)], by decide +kernel⟩,
   ⟨0, nrgS [], by decide +kernel⟩,
   ⟨10 ^ 15, nrgS [], by decide +kernel⟩,
   ⟨0, Init.safe, nrgS [], by decide +kernel⟩⟩

theorem test_hypotheses_DaliPortQueuesAndAnswers :
    (∃ (t : Nat) (i : Init) (w : Word) (s : State), s.accepts t i R.DALI_TX (putBit w 31 true) ∧ s.en P.DALI = true) ∧
    (∃ (t : Nat) (s : State), (s.en P.DALI = true ∧ s.pageOn P.DALI = true) ∧ s.rb R.DALI_POLL_CFG 0 = true ∧ (∀ (x : Nat), s.dali.polled = some x →
      x + pollSec s * 10 ^ 9 ≤ (max s.now t : Nat))) ∧
    (∃ (t : Nat) (s : State) (x : Nat), s.dali.polled = some x ∧ (max s.now t : Nat) < x + pollSec s * 10 ^ 9) ∧
    (∃ (s : State) (x : DaliTx) (rest : List DaliTx), s.dali.queue = x :: rest ∧ x.raw = true ∧ (s.en P.DALI = true ∧ s.pageOn P.DALI = true) ∧
      s.dali.fail = false ∧ x.reply = true) ∧
    (∃ (s : State) (x : DaliTx) (rest : List DaliTx), s.dali.queue = x :: rest ∧ x.raw = true ∧ (s.en P.DALI = true ∧ s.pageOn P.DALI = true) ∧
      s.dali.fail = false ∧ x.reply = false) ∧
    (∃ (s : State) (x : DaliTx) (rest : List DaliTx), s.dali.queue = x :: rest ∧ x.raw = true ∧ (s.en P.DALI = true ∧ s.pageOn P.DALI = true) ∧
      s.dali.fail = true) ∧
    (∃ (s : State) (result : Fin 4) (energy : Nat) (power : Nat) (x : DaliTx) (rest : List DaliTx), s.dali.queue = x :: rest ∧ x.raw = false ∧ (s.en
      P.DALI = true ∧ s.pageOn P.DALI = true) ∧ (if s.dali.fail = true then 3 else if result.val = 0 then if (absent 48 energy = true ∨ absent 32
      power = true) then 2 else 0 else min 2 result.val : Nat) = 0) ∧
    (∃ (s : State) (result : Fin 4) (energy : Nat) (power : Nat) (x : DaliTx) (rest : List DaliTx), s.dali.queue = x :: rest ∧ x.raw = false ∧ (s.en
      P.DALI = true ∧ s.pageOn P.DALI = true) ∧ (if s.dali.fail = true then 3 else if result.val = 0 then if (absent 48 energy = true ∨ absent 32
      power = true) then 2 else 0 else min 2 result.val : Nat) ≠ 0 ∧ s.dali.misses ≠ 2) ∧
    (∃ (s : State) (result : Fin 4) (energy : Nat) (power : Nat) (x : DaliTx) (rest : List DaliTx), s.dali.queue = x :: rest ∧ x.raw = false ∧ (s.en
      P.DALI = true ∧ s.pageOn P.DALI = true) ∧ (if s.dali.fail = true then 3 else if result.val = 0 then if (absent 48 energy = true ∨ absent 32
      power = true) then 2 else 0 else min 2 result.val : Nat) ≠ 0 ∧ s.dali.misses = 2) ∧
    (∃ (s : State), (s.en P.DALI = true ∧ s.pageOn P.DALI = true) ∧ s.dali.fail = false) ∧
    (∃ (t : Nat) (s : State) (a : PollMark) (b : PollMark), s.dali.start = some a ∧ s.dali.last = some b ∧ (s.en P.DALI = true ∧ s.pageOn P.DALI =
      true) ∧ a.time + s.rf R.DALI_XCHK_WIN 31 16 * 10 ^ 9 ≤ (max s.now t : Nat) ∧ a.total ≤ b.total ∧ b.total < 2 ^ 64 ∧ (20 * BitVec.toNat (s.rd
      R.DALI_D4I_RES) ≤ (b.energy - a.energy : Nat) ∧ s.dali.spoilt = false ∧ ((b.total - a.total) * 1000 + BitVec.toNat (s.rd R.DALI_XCHK_AUX) *
      (b.time - a.time) : Nat) ≠ 0) ∧ (s.rf R.DALI_XCHK_CFG 15 0 ≤ (satU 16 (rndDiv (Int.ofNat ((b.energy - a.energy) * 3600000000 * 1000 * 2 ^ 14))
      ((b.total - a.total) * 1000 + BitVec.toNat (s.rd R.DALI_XCHK_AUX) * (b.time - a.time) : Nat)) : Nat) ∧ (satU 16 (rndDiv (Int.ofNat ((b.energy -
      a.energy) * 3600000000 * 1000 * 2 ^ 14)) ((b.total - a.total) * 1000 + BitVec.toNat (s.rd R.DALI_XCHK_AUX) * (b.time - a.time) : Nat)) : Nat) ≤
      s.rf R.DALI_XCHK_CFG 31 16)) ∧
    (∃ (t : Nat) (s : State) (a : PollMark) (b : PollMark), s.dali.start = some a ∧ s.dali.last = some b ∧ (s.en P.DALI = true ∧ s.pageOn P.DALI =
      true) ∧ a.time + s.rf R.DALI_XCHK_WIN 31 16 * 10 ^ 9 ≤ (max s.now t : Nat) ∧ a.total ≤ b.total ∧ b.total < 2 ^ 64 ∧ (20 * BitVec.toNat (s.rd
      R.DALI_D4I_RES) ≤ (b.energy - a.energy : Nat) ∧ s.dali.spoilt = false ∧ ((b.total - a.total) * 1000 + BitVec.toNat (s.rd R.DALI_XCHK_AUX) *
      (b.time - a.time) : Nat) ≠ 0) ∧ ¬(s.rf R.DALI_XCHK_CFG 15 0 ≤ (satU 16 (rndDiv (Int.ofNat ((b.energy - a.energy) * 3600000000 * 1000 * 2 ^ 14))
      ((b.total - a.total) * 1000 + BitVec.toNat (s.rd R.DALI_XCHK_AUX) * (b.time - a.time) : Nat)) : Nat) ∧ (satU 16 (rndDiv (Int.ofNat ((b.energy -
      a.energy) * 3600000000 * 1000 * 2 ^ 14)) ((b.total - a.total) * 1000 + BitVec.toNat (s.rd R.DALI_XCHK_AUX) * (b.time - a.time) : Nat)) : Nat) ≤
      s.rf R.DALI_XCHK_CFG 31 16) ∧ s.rf R.DALI_XCHK_STAT 7 0 + 1 < max 1 (s.rf R.DALI_XCHK_WIN 7 0)) ∧
    (∃ (t : Nat) (s : State) (a : PollMark) (b : PollMark), s.dali.start = some a ∧ s.dali.last = some b ∧ (s.en P.DALI = true ∧ s.pageOn P.DALI =
      true) ∧ a.time + s.rf R.DALI_XCHK_WIN 31 16 * 10 ^ 9 ≤ (max s.now t : Nat) ∧ a.total ≤ b.total ∧ b.total < 2 ^ 64 ∧ ¬(20 * BitVec.toNat (s.rd
      R.DALI_D4I_RES) ≤ (b.energy - a.energy : Nat) ∧ s.dali.spoilt = false ∧ ((b.total - a.total) * 1000 + BitVec.toNat (s.rd R.DALI_XCHK_AUX) *
      (b.time - a.time) : Nat) ≠ 0)) :=
  ⟨⟨0, Init.safe, 7, daliS [poll] false [], by decide +kernel⟩,
   ⟨10000000000, polled 0 [], by decide +kernel⟩,
   ⟨9, polled 0 [], 0, by decide +kernel⟩,
   ⟨daliS [raw true, poll] false [], raw true, [poll], by decide +kernel⟩,
   ⟨daliS [raw false, poll] false [], raw false, [poll], by decide +kernel⟩,
   ⟨daliS [raw true] true [], raw true, [], by decide +kernel⟩,
   ⟨daliS [poll, poll] false [], 0, 5, 6, poll, [poll], by decide +kernel⟩,
   ⟨daliS [poll, poll] false [], 1, 0, 0, poll, [poll], by decide +kernel⟩,
   ⟨polled 2 [poll], 0, 2 ^ 48 - 1, 0, poll, [], by decide +kernel⟩,
   ⟨daliS [] false [], by decide +kernel⟩,
   ⟨10000000000000, winS 0x40013FFF false, ⟨0, 100, 1000⟩, ⟨5, 120, 72000001000⟩, by decide +kernel⟩,
   ⟨10000000000000, winS 0x50014001 false |>.wr R.DALI_XCHK_WIN 0x02580003, ⟨0, 100, 1000⟩, ⟨5, 120, 72000001000⟩, by decide +kernel⟩,
   ⟨10000000000000, winS 0x50014001 true, ⟨0, 100, 1000⟩, ⟨5, 120, 72000001000⟩, by decide +kernel⟩⟩

end Energy


namespace Fault

theorem test_hypotheses_EventsAreRealOrConsequential :
    (∃ (t : Nat) (n : Fin 352) (s : State), s.flt.due = [] ∧ lineOpen (n.val) (s.at t) = true ∧ realNow (n.val) (s.at t) = false ∧ isConseq (n.val)
      (s.at t) = false ∧ (realEvent (n.val) (s.at t)).1 ≤ 2) ∧
    (∃ (t : Nat) (n : Fin 352) (s : State), s.flt.due = [] ∧ lineOpen (n.val) (s.at t) = true ∧ realNow (n.val) (s.at t) = false ∧ isConseq (n.val)
      (s.at t) = true) ∧
    (∃ (t : Nat) (n : Fin 352) (s : State), s.flt.due = [] ∧ (lineOpen (n.val) (s.at t) = false ∨ realNow (n.val) (s.at t) = true)) :=
  ⟨⟨5, 345, on, by decide +kernel⟩,
   ⟨5, 345, { on with flt := { on.flt with wins := [⟨P.DRV, 100000, [345], .none⟩] } }, by decide +kernel⟩,
   ⟨5, 345, on.wr R.PWR_DOMAIN_STAT 0, by decide +kernel⟩⟩

theorem test_hypotheses_ForcesActInServiceAndFactoryOnly :
    (∃ (t : Nat) (i : Init) (page : Fin 256) (w : Word) (s : State), s.accepts t i (R.FORCE page.val) w ∧ (s.rf R.SYS_MODE 3 0 = 6 ∨ s.rf R.SYS_MODE
      3 0 = 0) ∧ (List.map (fun j => (pageSrcsAsc page.val).getD j 0) (List.filter (fun j => bitOf w j && decide (j < (pageSrcsAsc page.val).length))
      (List.range 32)) : List Nat) ≠ []) ∧
    (∃ (t : Nat) (i : Init) (page : Fin 256) (w : Word) (s : State), s.accepts t i (R.FORCE page.val) w ∧ s.rf R.SYS_MODE 3 0 ≠ 6 ∧ s.rf R.SYS_MODE 3
      0 ≠ 0 ∧ (List.map (fun j => (pageSrcsAsc page.val).getD j 0) (List.filter (fun j => bitOf w j && decide (j < (pageSrcsAsc page.val).length))
      (List.range 32)) : List Nat) ≠ []) ∧
    (∃ (t : Nat) (i : Init) (w : Word) (s : State), s.accepts t i R.FLT_FORCE_SRC (putBit w 31 true) ∧ (s.rf R.SYS_MODE 3 0 = 6 ∨ s.rf R.SYS_MODE 3 0
      = 0)) ∧
    (∃ (t : Nat) (i : Init) (w : Word) (s : State), s.accepts t i R.FLT_FORCE_SRC (putBit w 31 true) ∧ s.rf R.SYS_MODE 3 0 ≠ 6 ∧ s.rf R.SYS_MODE 3 0
      ≠ 0) :=
  ⟨⟨0, Init.safe, 0x90, 3, on.wr R.SYS_MODE 6, by decide +kernel⟩,
   ⟨0, Init.safe, 0x90, 3, on.wr R.SYS_MODE 1, by decide +kernel⟩,
   ⟨0, Init.safe, 5, on.wr R.SYS_MODE 6, by decide +kernel⟩,
   ⟨0, Init.safe, 5, on.wr R.SYS_MODE 2, by decide +kernel⟩⟩

theorem test_hypotheses_CollectorCommandsActAsWritten :
    (∃ (t : Nat) (i : Init) (w : Word) (s : State), s.accepts t i R.FLT_ERR (putBit w 1 true) ∧ holdsErr s = false) ∧
    (∃ (t : Nat) (i : Init) (w : Word) (s : State), s.accepts t i R.FLT_ERR (putBit w 1 true) ∧ holdsErr s = true) ∧
    (∃ (t : Nat) (s : State), (∃ x ∈ s.flt.wins, x.ends ≤ max s.now t)) ∧
    (∃ (t : Nat) (i : Init) (w : Word) (s : State), s.accepts t i R.FLT_LOG_RD w) ∧
    (∃ (t : Nat) (i : Init) (n : Fin 352) (w : Word) (s : State), s.accepts t i (R.FLT_SRC_STAT n.val) w) :=
  ⟨⟨0, Init.safe, 0, on.wr R.FLT_ERR 1, by decide +kernel⟩,
   ⟨0, Init.safe, 0, onWith [(R.FLT_ERR, 1), (R.FLT_SRC_STAT 5, 0x402)], by decide +kernel⟩,
   ⟨7, { on with flt := { on.flt with wins := [⟨P.DRV, 7, [], .none⟩, ⟨P.NRG, 8, [], .none⟩] } }, by decide +kernel⟩,
   ⟨0, Init.safe, 0x85, on, by decide +kernel⟩,
   ⟨0, Init.safe, 351, 0x1f, onWith [(R.FLT_SRC_STAT 351, 0x402)], by decide +kernel⟩⟩

theorem test_hypotheses_CheckValuesFollowTheirData :
    (∃ (s : State) (k : LocalEcc), s.pageOn (eccSrc k).2 = true) ∧
    (∃ (t : Nat) (s : State) (i : Init) (x : Fin 8) (c : Fin 32) (w : Word), s.accepts t i (R.CRC_CTX_RUN x.val c.val) w ∧ crcActive (x.val) (c.val)
      (s.wr (R.CRC_CTX_RUN x.val c.val) w) = false) ∧
    (∃ (s : State) (src : Fin 8), (∀ x < 8, s.en (P.CRC x) = false ∨ s.rf (R.CRC_SNOOP x) 2 0 ≠ src.val)) ∧
    (∃ (s : State) (src : Fin 8) (inst : Fin 4) (x : Fin 8), src.val ≠ 0 ∧ src.val ≠ 7 ∧ s.en (P.CRC x.val) = true ∧ s.rf (R.CRC_SNOOP x.val) 2 0 =
      src.val ∧ s.rf (R.CRC_SNOOP x.val) 5 4 = inst.val ∧ s.rb (R.CRC_SNOOP x.val) 16 = false ∧ (∀ (y : Fin 8), y ≠ x → s.en (P.CRC ↑y) = false)) :=
  ⟨⟨on, .beam 7, by decide +kernel⟩,
   ⟨0, on, Init.safe, 7, 31, 0x1234, by decide +kernel⟩,
   ⟨on, 3, by decide +kernel⟩,
   ⟨onWith [(R.CTRL (P.CRC 7), 1), (R.CRC_SNOOP 7, 0x1F23)], 3, 2, 7, by decide +kernel⟩⟩

end Fault


namespace Frame

def stagedSys (p : Bool) : State := { onWith [(R.COMMIT P.DRV, 0x200)] with shadow := [(R.DRV_SEQ_CFG, 5)], sys := { on.sys with groups := on.sys.groups.set 0 ⟨true, p, 5, 0, false, false, [P.DRV], [], [], []⟩ } }

/-- A staged group whose member had no power at staging. -/
def offSys : State := { stagedSys false with sys := { (stagedSys false).sys with groups := (stagedSys false).sys.groups.set 0 { (stagedSys false).sys.groups[0] with off := [P.DRV] } } }

def pendS (r : FlipReq) (l : List (Nat × Word)) : State := { onWith l with cmp := { on.cmp with lyr := on.cmp.lyr.set 2 { on.cmp.lyr[2] with pend := some r } } }

theorem test_hypotheses_OnlyFrameTicksAdvanceTickNum :
    (∃ (s : State), isOff s = false ∧ pwrState s ≠ 3) ∧
    (∃ (s : State), (isOff s = true ∨ pwrState s = 3)) ∧
    (∃ (c : Instr), c ≠ Instr.frameTick) :=
  ⟨⟨on, by decide +kernel⟩,
   ⟨on.wr R.PWR_DOMAIN_STAT 0, by decide +kernel⟩,
   ⟨.commitDeadline, by decide +kernel⟩⟩

theorem test_hypotheses_CommitDeadlineTells :
    (∃ (s : State), isOff s = false ∧ pwrState s ≠ 3) ∧
    (∃ (s : State), isOff s = false ∧ pwrState s ≠ 3 ∧ s.pageOn P.CMP = false) ∧
    (∃ (s : State), isOff s = false ∧ pwrState s ≠ 3 ∧ s.pageOn P.CMP = true ∧ (∀ (n : Fin 8), s.cmp.lyr[n].after = none) ∧ evaluated (s.at
      (s.nextTick - s.guardNs) : State) = []) ∧
    (∃ (s : State) (n : Fin 8) (r : FlipReq), isOff s = false ∧ pwrState s ≠ 3 ∧ s.pageOn P.CMP = true ∧ (∀ (n : Fin 8), s.cmp.lyr[n].after = none) ∧
      r.buf < 256 ∧ r.fence < 64 ∧ evaluated (s.at (s.nextTick - s.guardNs) : State) = [(n, r, true)]) ∧
    (∃ (s : State) (n : Fin 8) (r : FlipReq), isOff s = false ∧ pwrState s ≠ 3 ∧ s.pageOn P.CMP = true ∧ (∀ (n : Fin 8), s.cmp.lyr[n].after = none) ∧
      r.buf < 256 ∧ r.fence < 64 ∧ evaluated (s.at (s.nextTick - s.guardNs) : State) = [(n, r, false)] ∧ s.rf (R.LYR_FLIP_STAT n.val : Nat) 27 20 ≠
      7) ∧
    (∃ (s : State) (n : Fin 8) (r : FlipReq), isOff s = false ∧ pwrState s ≠ 3 ∧ s.pageOn P.CMP = true ∧ (∀ (n : Fin 8), s.cmp.lyr[n].after = none) ∧
      r.buf < 256 ∧ r.fence < 64 ∧ evaluated (s.at (s.nextTick - s.guardNs) : State) = [(n, r, false)] ∧ s.rf (R.LYR_FLIP_STAT n.val : Nat) 27 20 =
      7) :=
  ⟨⟨on, by decide +kernel⟩,
   ⟨on.wr R.PWR_DOMAIN_STAT 0x0F, by decide +kernel⟩,
   ⟨on, by decide +kernel⟩,
   ⟨pendS ⟨5, 0, false, false, 0⟩ [], 2, ⟨5, 0, false, false, 0⟩, by decide +kernel⟩,
   ⟨pendS ⟨5, 3, true, false, 0⟩ [], 2, ⟨5, 3, true, false, 0⟩, by decide +kernel⟩,
   ⟨pendS ⟨5, 3, true, false, 0⟩ [(R.LYR_FLIP_STAT 2, 0x700000)], 2, ⟨5, 3, true, false, 0⟩, by decide +kernel⟩⟩

theorem test_hypotheses_ArmStagesAndCancelEnds :
    (∃ (t : Nat) (i : Init) (g : Fin 16) (w : Word) (s : State), s.accepts t i (R.SYS_CG_CTRL g.val) (putBit w 0 true) ∧ bitOf w 1 = false ∧
      s.sys.groups[g].staged = false) ∧
    (∃ (t : Nat) (i : Init) (g : Fin 16) (w : Word) (s : State), s.accepts t i (R.SYS_CG_CTRL g.val) (putBit w 0 true) ∧ bitOf w 1 = false ∧
      s.sys.groups[g].staged = true) ∧
    (∃ (t : Nat) (i : Init) (g : Fin 16) (w : Word) (s : State), s.accepts t i (R.SYS_CG_CTRL g.val) (putBit w 1 true) ∧ bitOf w 0 = false ∧
      s.sys.groups[g].staged = true ∧ (s.sys.groups[g].dueNext s = false ∨ max s.now t + s.guardNs ≤ s.nextTick)) ∧
    (∃ (t : Nat) (i : Init) (g : Fin 16) (w : Word) (s : State), s.accepts t i (R.SYS_CG_CTRL g.val) (putBit w 1 true) ∧ bitOf w 0 = false ∧
      s.sys.groups[g].staged = false) :=
  ⟨⟨0, Init.safe, 3, 0, onWith [(R.COMMIT P.DRV, 0x103)], by decide +kernel⟩,
   ⟨0, Init.safe, 0, 0, stagedSys false, by decide +kernel⟩,
   ⟨0, Init.safe, 0, 0, stagedSys false, by decide +kernel⟩,
   ⟨0, Init.safe, 3, 0, on, by decide +kernel⟩⟩

theorem test_hypotheses_ValidationKeepsOrDiscardsTheGroup :
    (∃ (t : Nat) (g : Fin 16) (rejects : List (Fin 256)) (s : State), (s.sys.groups[g] : Machine.Group).staged = true ∧ (s.sys.groups[g] :
      Machine.Group).passed = false ∧ ((s.sys.groups[g] : Machine.Group).members.any fun p => (memberCheck (s.sys.groups[g] : Machine.Group)
      (applyCopy (s.sys.groups[g] : Machine.Group) (s.at t) : State) (s.at t)) p != 0) = false ∧ (s.sys.groups[g] : Machine.Group).members.any (fun p
      => (List.map (fun x => ↑x) rejects).contains p || safeRejects p (applyCopy (s.sys.groups[g] : Machine.Group) (s.at t) : State) (s.at t)) =
      false) ∧
    (∃ (t : Nat) (g : Fin 16) (rejects : List (Fin 256)) (s : State), (s.sys.groups[g] : Machine.Group).staged = true ∧ (s.sys.groups[g] :
      Machine.Group).passed = false ∧ ((s.sys.groups[g] : Machine.Group).members.any fun p => (memberCheck (s.sys.groups[g] : Machine.Group)
      (applyCopy (s.sys.groups[g] : Machine.Group) (s.at t) : State) (s.at t)) p != 0) = false ∧ (s.sys.groups[g] : Machine.Group).members.any (fun p
      => (List.map (fun x => ↑x) rejects).contains p || safeRejects p (applyCopy (s.sys.groups[g] : Machine.Group) (s.at t) : State) (s.at t)) =
      true) ∧
    (∃ (t : Nat) (g : Fin 16) (s : State), (s.sys.groups[g] : Machine.Group).staged = true ∧ (s.sys.groups[g] : Machine.Group).passed = false ∧
      ((s.sys.groups[g] : Machine.Group).members.any fun p => (memberCheck (s.sys.groups[g] : Machine.Group) (applyCopy (s.sys.groups[g] :
      Machine.Group) (s.at t) : State) (s.at t)) p != 0) = true) ∧
    (∃ (g : Fin 16) (s : State), (s.sys.groups[g] : Machine.Group).staged = false ∨ (s.sys.groups[g] : Machine.Group).passed = true) :=
  ⟨⟨0, 0, [], stagedSys false, by decide +kernel⟩,
   ⟨0, 0, [⟨P.DRV, by decide⟩], stagedSys false, by decide +kernel⟩,
   ⟨0, 0, offSys, by decide +kernel⟩,
   ⟨0, on, by decide +kernel⟩⟩

theorem test_hypotheses_BlockResetReturnsRegisters :
    (∃ (t : Nat) (p : Fin 256) (s : State), (pageDef p.val).isSome = true ∧ isOff s = false ∧ s.pageOn p.val = true ∧ ¬(16 ≤ p.val ∧ p.val ≤ 23) ∧
      ¬(129 ≤ p.val ∧ p.val ≤ 140) ∧ ¬(64 ≤ p.val ∧ p.val ≤ 65) ∧ (resetBlock (p.val) (s.at t)).flt.due = []) ∧
    (∃ (p : Fin 256) (s : State), ((pageDef p.val).isNone = true ∨ isOff s = true ∨ s.pageOn p.val = false) ∧ s.flt.due = []) :=
  ⟨⟨0, ⟨P.DRV, by decide⟩, onWith [(R.DRV_SEQ_CFG, 5)], by decide +kernel⟩,
   ⟨⟨P.DRV, by decide⟩, onWith [(R.PWR_DOMAIN_STAT, 1)], by decide +kernel⟩⟩

theorem test_hypotheses_ChipResetRecordsAndClears :
    ∃ (s : State), isOff s = false :=
  ⟨onWith [(R.DRV_SEQ_CFG, 5)], by decide +kernel⟩

theorem test_hypotheses_LockSetFreezesTheBlock :
    ∃ (t : Nat) (i : Init) (page : Fin 256) (a : Nat) (s : State), lockReg page.val = some a ∧ s.accepts t i a 1#32 :=
  ⟨0, Init.safe, ⟨P.DRV, by decide⟩, R.DRV_LOCK, on, by decide +kernel⟩

end Frame


namespace Gen

theorem test_hypotheses_StepCarriesOutTheFrontCommand :
    (∃ (c : Instr) (l : List Instr) (s : State), s.pending = c :: l) ∧
    (∃ (s : State), s.pending = []) :=
  ⟨⟨.frameTick, [.commitDeadline], { on with pending := [.frameTick, .commitDeadline] }, by decide +kernel⟩,
   ⟨on, by decide +kernel⟩⟩

end Gen


namespace Glare

def glmOn (l : List (Nat × Word)) : State := { onWith ([(R.CTRL P.GLM, 1), (R.STATUS P.GLM, 1), (R.GLM_CFG, 0x101), (R.GLM_BEAM_SEL, 4), (R.SCN_ARR, 0x100), (R.WRP_GEOM 0, 0x40070007),
   (R.GLM_PLANE_BASE 0, 0x10000100)] ++ l) with frm := { on.frm with kind := 1, cfg := [(R.GLM_CFG, 0x101)] }
  }

def poolS : State := { onWith [(R.GLM_CFG, 0x201), (R.GLM_POOL_BUF, 0x05000904)] with
   glm := { on.glm with pool := some (9, 3) },
   cmp := { on.cmp with bufs := [(9, ⟨0x10000000, 1, 4, 2, 16, 0, .swOwned, 0⟩)] } }

def poolW (s : State) (e tm : Nat) (n : Fin 8) : State := (List.range (s.buf e).h).foldl (fun x j => (engineWrite (maskEngine x) ((s.buf e).base + j * (s.buf e).stride)
        (poolCanvas (s.at 0) n (s.buf e) (poolsAt (s.at 0) tm) j) x).2) (s.at 0)

theorem test_hypotheses_ObjectListsArePostedOrRefused :
    (∃ (t : Nat) (i : Init) (w : Word) (s : State), s.accepts t i R.GLM_POST w ∧ 4 ≤ bitsOf w 2 0 ∧ slotState s (bitsOf w 2 0) = 0) ∧
    (∃ (t : Nat) (i : Init) (w : Word) (s : State), s.accepts t i R.GLM_POST w ∧ (bitsOf w 2 0 < 4 ∨ slotState s (bitsOf w 2 0) ≠ 0)) ∧
    (∃ (t : Nat) (i : Init) (w : Word) (s : State), s.accepts t i (R.CTRL P.GLM) (putBit w 0 true) ∧ s.rb (R.CTRL P.GLM) 0 = false) :=
  ⟨⟨0, Init.safe, 7, on, by decide +kernel⟩,
   ⟨0, Init.safe, 3, on, by decide +kernel⟩,
   ⟨0, Init.safe, 0, on, by decide +kernel⟩⟩

theorem test_hypotheses_BandsAndPoolsFinish :
    (∃ (t : Nat) (s : State) (b : Fin 16) (k : Fin 4), s.en P.GLM = true ∧ s.rb (R.STATUS P.GLM) 0 = true ∧ s.rb R.GLM_CFG 0 = true ∧ s.tileOn k =
      true ∧ (∀ (j : Fin 4), j ≠ k → s.tileOn j = false) ∧ b.val < bandsOf s k ∧ (∀ j < b.val, s.frm.band[k].testBit j = true) ∧ engineWrite
      (maskEngine s) (glareAddr s k s.frame 0 (64 * b.val) : Nat) (List.flatMap (fun r => List.map (fun x => glareValue (s.at t) k (List.map (shapeOf
      (s.at t) (midTime (s.at t))) (frameObjs (s.at t)) : List Shape) x (64 * b.val + r)) (List.range (s.tw k))) (List.range (min 64 (s.th k - 64 *
      b.val))) : List Nat) (s.at t) = (true, (s.at t).put (glareAddr s k s.frame 0 (64 * b.val) : Nat) (List.flatMap (fun r => List.map (fun x =>
      glareValue (s.at t) k (List.map (shapeOf (s.at t) (midTime (s.at t))) (frameObjs (s.at t)) : List Shape) x (64 * b.val + r)) (List.range (s.tw
      k))) (List.range (min 64 (s.th k - 64 * b.val))) : List Nat)) ∧ s.beamGated = false ∧ bandsLate (s.at t) = s.at t) ∧
    (∃ (t : Nat) (s : State) (k : Fin 4) (b : Fin 16), bandOpen (s.at t) k b.val = true ∧ bandDue (s.at t) b.val ≤ max s.now t) ∧
    (∃ (t : Nat) (s : State) (e : Nat) (tm : Nat) (w : State), s.beamGated = false ∧ s.glm.pool = some (e, tm) ∧ w = List.foldl (fun x j =>
      (engineWrite (maskEngine x) ((s.buf e).base + j * (s.buf e).stride) (poolCanvas (s.at t) (Fin.ofNat 8 (s.rf R.GLM_CFG 10 8) : Fin 8) (s.buf e)
      (poolsAt (s.at t) tm) j) x).2) (s.at t) (List.range (s.buf e).h) ∧ w.regs = s.regs ∧ w.cmp = s.cmp ∧ (∀ (k : Fin 4), s.rf (R.SCL_CFG ↑k) 1 0 ≠
      3) ∧ s.cmp.lyr[(Fin.ofNat 8 (s.rf R.GLM_CFG 10 8) : Fin 8)].pend = none ∧ (s.buf e).state = BufState.swOwned ∧ isRaw (s.buf e).fmt = false ∧ e
      < 256) :=
  ⟨⟨0, glmOn [], 0, 0, by decide +kernel⟩,
   ⟨1000000000, glmOn [], 0, 0, by decide +kernel⟩,
   ⟨0, poolS, 9, 3, poolW poolS 9 3 2, by decide +kernel⟩⟩

end Glare


namespace HostPage

def auditR : AuditRec := ⟨0, [], []⟩

def hs (l : List (Nat × Word)) : State := onWith ([(R.CTRL P.HOST, 1)] ++ l)

theorem test_hypotheses_HostAccessNeedsTheGrant :
    (∃ (a : Word) (v : Word) (s : State), hostReady s = true ∧ hostMayWrite s (BitVec.toNat a) v = false) ∧
    (∃ (a : Word) (s : State), hostReady s = true ∧ hostMayRead s (BitVec.toNat a) = false) ∧
    (∃ (a : Word) (v : Word) (s : State), hostReady s = true ∧ hostMayWrite s (BitVec.toNat a) v = true ∧ hostBusy s (BitVec.toNat a) = true) ∧
    (∃ (a : Word) (s : State), hostReady s = true ∧ 4182028 ≤ BitVec.toNat a ∧ BitVec.toNat a + 3 < 4182028 + 8196) ∧
    (∃ (t : Nat) (a : Word) (v : Word) (s : State) (k : Fin 16), hostReady s = true ∧ BitVec.toNat a = R.HOST_MBOX k.val ∧ grantHas s 0 = true ∧
      s.accepts t Init.host (BitVec.toNat a) v ∧ s.sec.audit.length + 4 < 256 ∧ s.rf R.SEC_AUDIT_STAT 15 0 = 0 ∧ BitVec.toNat (s.rd R.SEC_AUDIT_SEQ)
      + 4 < 65536) ∧
    (∃ (a : Word) (s : State), hostReady s = true ∧ 4182016 ≤ BitVec.toNat a ∧ BitVec.toNat a + 3 ≤ 4194303 ∧ s.ue = [] ∧ s.ce = []) ∧
    (∃ (s : State), hostReady s = true) :=
  ⟨⟨0x10000000, 7, hs [], by decide +kernel⟩,
   ⟨0x40001000, hs [], by decide +kernel⟩,
   ⟨word (R.HOST_MBOX 15), 0, { hs [(R.SEC_HOST_GRANT, 0x101)] with sec := { on.sec with hostModes := 0xFF, audit := List.replicate 256 auditR } },
     by decide +kernel⟩,
   ⟨0x003fd00c, hs [], by decide +kernel⟩,
   ⟨0, word (R.HOST_MBOX 15), 0xFFFFFFFF, { hs [(R.SEC_HOST_GRANT, 0x101)] with sec := { on.sec with hostModes := 0xFF } }, 15, by decide +kernel⟩,
   ⟨0x003ff000, hs [], by decide +kernel⟩,
   ⟨hs [], by decide +kernel⟩⟩

theorem test_hypotheses_DoorbellsAndPinsFollow :
    (∃ (t : Nat) (w : Word) (s : State), hostReady s = true ∧ s.accepts t Init.host R.HOST_H2D_SET w ∧ hostGranted s = false) ∧
    (∃ (t : Nat) (i : Init) (w : Word) (s : State), s.accepts t i R.HOST_D2H_SET w) ∧
    (∃ (t : Nat) (i : Init) (w : Word) (s : State), s.accepts t i R.GPIO_SET w) ∧
    (∃ (t : Nat) (i : Init) (w : Word) (s : State), s.accepts t i R.GPIO_CLR w ∧ (s.at t).evtBits R.GPIO_SET = 0#32) ∧
    (∃ (s : State) (g : Fin 16), gpioDriven s g.val = false ∧ s.pageOn P.GPIO = true) :=
  ⟨⟨0, 0xF0005, hs [], by decide +kernel⟩,
   ⟨0, .apu, 0xF0005, hs [], by decide +kernel⟩,
   ⟨0, .apu, 0xF0005, hs [(R.GPIO_DIR, 0xFF)], by decide +kernel⟩,
   ⟨0, .apu, 0xF0005, hs [(R.GPIO_OUT, 0xFFFF), (R.GPIO_DIR, 0xFF)], by decide +kernel⟩,
   ⟨hs [(R.GPIO_EDGE, 0xFFFF)], 15, by decide +kernel⟩⟩

end HostPage


namespace Layers

/-- An entry of 16 by 8 pixels at the start of main SRAM. -/
def ent (st : BufState) : BufEntry := ⟨0x10000000, 1, 16, 8, 64, 0, st, 0⟩

def withBufs (l : List (Nat × BufEntry)) (s : State) : State := { s with cmp := { s.cmp with bufs := l } }

def withPend (r : FlipReq) (s : State) : State := { s with cmp := { s.cmp with lyr := s.cmp.lyr.set 2 { s.cmp.lyr[2] with pend := some r } } }

theorem test_hypotheses_FlipRequestsQueueOrAreRefused :
    (∃ (t : Nat) (i : Init) (n : Fin 8) (w : Word) (s : State), s.accepts t i (R.LYR_FLIP n.val) (putBit w 31 true) ∧ (bitOf w 30 = false ∨
      s.cmp.lyr[n].pend = none) ∧ flipRefusal n
      ({ buf := bitsOf w 7 0, fence := bitsOf w 13 8, fenceEn := bitOf w 14, release := bitOf w 15, made := max s.now t } : FlipReq) s = 0 ∧
      ({ buf := bitsOf w 7 0, fence := bitsOf w 13 8, fenceEn := bitOf w 14, release := bitOf w 15, made := max s.now t } : FlipReq).release = false) ∧
    (∃ (t : Nat) (i : Init) (n : Fin 8) (w : Word) (s : State), s.accepts t i (R.LYR_FLIP n.val) (putBit w 31 true) ∧ (bitOf w 30 = false ∨
      s.cmp.lyr[n].pend = none) ∧ s.cmp.lyr[n].pend = none ∧
      ({ buf := bitsOf w 7 0, fence := bitsOf w 13 8, fenceEn := bitOf w 14, release := bitOf w 15, made := max s.now t } : FlipReq).release = true) ∧
    (∃ (t : Nat) (i : Init) (n : Fin 8) (w : Word) (s : State), s.accepts t i (R.LYR_FLIP n.val) (putBit w 31 true) ∧ (bitOf w 30 = false ∨
      s.cmp.lyr[n].pend = none) ∧ flipRefusal n
      ({ buf := bitsOf w 7 0, fence := bitsOf w 13 8, fenceEn := bitOf w 14, release := bitOf w 15, made := max s.now t } : FlipReq) s ≠ 0) ∧
    (∃ (t : Nat) (i : Init) (n : Fin 8) (w : Word) (s : State) (q : FlipReq), s.accepts t i (R.LYR_FLIP n.val) (putBit w 30 true) ∧ bitOf w 31 =
      false ∧ s.cmp.lyr[n].pend = some q ∧ q.release = false ∧ q.buf < 256 ∧ max s.now t + s.guardNs ≠ s.nextTick) ∧
    (∃ (t : Nat) (i : Init) (n : Fin 8) (w : Word) (s : State) (q : FlipReq), s.accepts t i (R.LYR_FLIP n.val) (putBit w 31 true) ∧ bitOf w 30 = true
      ∧ s.cmp.lyr[n].pend = some q ∧ q.release = false ∧ q.buf < 256 ∧ max s.now t + s.guardNs ≠ s.nextTick ∧
      ({ buf := bitsOf w 7 0, fence := bitsOf w 13 8, fenceEn := bitOf w 14, release := bitOf w 15, made := max s.now t } : FlipReq).release = false
      ∧ (({ buf := bitsOf w 7 0, fence := bitsOf w 13 8, fenceEn := bitOf w 14, release := bitOf w 15, made := max s.now t } : FlipReq).buf = q.buf ∨
      (s.buf ({ buf := bitsOf w 7 0, fence := bitsOf w 13 8, fenceEn := bitOf w 14, release := bitOf w 15, made := max s.now t } :
      FlipReq).buf).state = BufState.swOwned) ∧ (isRaw (s.buf
      ({ buf := bitsOf w 7 0, fence := bitsOf w 13 8, fenceEn := bitOf w 14, release := bitOf w 15, made := max s.now t } : FlipReq).buf).fmt = false
      ∨ specialMode s = true)) ∧
    (∃ (t : Nat) (i : Init) (n : Fin 8) (w : Word) (s : State), s.accepts t i (R.LYR_FLIP n.val) (putBit w 30 true) ∧ bitOf w 31 = false ∧
      (s.cmp.lyr[n].pend = none ∨ max s.now t + s.guardNs = s.nextTick ∧ ((evaluated (s.at t)).any fun x => x.1 == n && x.2.2) = true)) ∧
    (∃ (t : Nat) (i : Init) (s : State) (g : Fin 8), g.val ≠ 0 ∧ s.accepts t i R.CMP_FLIP_ARM (word (2 ^ g.val)) ∧ s.rb R.CMP_FLIPGRP_STAT g.val =
      false ∧ groupMembers (g.val) s ≠ []) :=
  ⟨⟨0, Init.safe, 2, 0x80000009, withBufs [(9, ent .swOwned)] on, by decide +kernel⟩,
   ⟨0, Init.safe, 2, 0x8000FFFF, on, by decide +kernel⟩,
   ⟨0, Init.safe, 2, 9, withBufs [(9, ent .queued)] on, by decide +kernel⟩,
   ⟨0, Init.safe, 2, 0, withPend ⟨9, 0, false, false, 0⟩ (withBufs [(9, ent .queued)] on), ⟨9, 0, false, false, 0⟩, by decide +kernel⟩,
   ⟨0, Init.safe, 2, 0xC0000009, withPend ⟨9, 0, false, false, 0⟩ (withBufs [(9, ent .queued)] on), ⟨9, 0, false, false, 0⟩, by decide +kernel⟩,
   ⟨0, Init.safe, 2, 0, on, by decide +kernel⟩,
   ⟨0, Init.safe, withPend ⟨9, 0, false, false, 0⟩ (withBufs [(9, ent .queued)] (onWith [(R.LYR_CFG 2, 0xC00)])), 3, by decide +kernel⟩⟩

theorem test_hypotheses_BufferTableFollowsItsCommands :
    (∃ (t : Nat) (i : Init) (x : Fin 256) (s : State), s.accepts t i R.BUF_CMD (word (256 + x.val)) ∧ registerCheck (x.val) (stagedEntry s) s = 0) ∧
    (∃ (t : Nat) (i : Init) (x : Fin 256) (s : State), s.accepts t i R.BUF_CMD (word (256 + x.val)) ∧ registerCheck (x.val) (stagedEntry s) s ≠ 0) ∧
    (∃ (t : Nat) (i : Init) (x : Fin 256) (s : State), s.accepts t i R.BUF_CMD (word (512 + x.val)) ∧ (s.buf x.val).state = BufState.swOwned) ∧
    (∃ (t : Nat) (i : Init) (x : Fin 256) (s : State), s.accepts t i R.BUF_CMD (word (512 + x.val)) ∧ (s.buf x.val).state ≠ BufState.swOwned) ∧
    (∃ (t : Nat) (i : Init) (x : Fin 256) (s : State), s.accepts t i R.BUF_CMD (word (768 + x.val))) :=
  ⟨⟨0, Init.safe, 255, onWith [(R.BUF_E_BASE, 0x10000040), (R.BUF_E_SIZE, 0x0007000F), (R.BUF_E_STRIDE, 64), (R.BUF_E_FMT, 0x301)],
     by decide +kernel⟩,
   ⟨0, Init.safe, 4, onWith [(R.BUF_E_BASE, 0x10000041)], by decide +kernel⟩,
   ⟨0, Init.safe, 4, withBufs [(4, ent .swOwned)] on, by decide +kernel⟩,
   ⟨0, Init.safe, 4, withBufs [(4, ent .queued)] on, by decide +kernel⟩,
   ⟨0, Init.safe, 4, withBufs [(4, ent .queued)] on, by decide +kernel⟩⟩

theorem test_hypotheses_FencesScalersAndPipesFollow :
    (∃ (t : Nat) (i : Init) (high : Bool) (w : Word) (s : State), s.accepts t i (if high = true then R.FENCE_SET_HI else R.FENCE_SET_LO) w ∧ (∀ (k :
      Fin 4), s.rf (R.SCL_CFG ↑k) 1 0 ≠ 3)) ∧
    (∃ (t : Nat) (i : Init) (high : Bool) (w : Word) (s : State), s.accepts t i (if high = true then R.FENCE_STATE_HI else R.FENCE_STATE_LO) w) ∧
    (∃ (t : Nat) (i : Init) (k : Fin 4) (s : State) (d : Nat), s.accepts t i (R.SCL_KICK k.val) 1#32 ∧ s.rf (R.SCL_CFG k.val) 1 0 = 0 ∧ s.en (P.SCL
      k.val) = true ∧ s.cmp.scl[k] = none ∧ (s.buf (s.rf (R.SCL_SRC k.val) 7 0)).state = BufState.swOwned ∧ sclDest k (s.rf (R.SCL_SRC k.val) 7 0) s
      = some d) ∧
    (∃ (k : Fin 4) (s : State) (p : SclPass), s.cmp.scl[k] = some p ∧ s.rb (R.SCL_CFG k.val) 19 = false ∧ s.rb (R.SCL_CFG k.val) 26 = false ∧ s.ue =
      [] ∧ s.ce = [] ∧ s.flt.due = [] ∧ (∀ j < s.rf (R.SCL_CROP_WH k.val) 30 16, readStop (Init.scl k) ((s.buf p.src : BufEntry).base + (s.rf
      (R.SCL_CROP_XY k.val) 30 16 + j) * (s.buf p.src : BufEntry).stride + 2 * s.rf (R.SCL_CROP_XY k.val) 14 0) (2 * s.rf (R.SCL_CROP_WH k.val) 14 0)
      s = none) ∧ (∀ y < (s.buf p.dst : BufEntry).h, writeStop (Init.scl k) ((fun y => (s.buf p.dst : BufEntry).base + y * (s.buf p.dst :
      BufEntry).stride) y) (2 * (s.buf p.dst : BufEntry).w) none s = none) ∧ 2 * (s.buf p.dst : BufEntry).w ≤ (s.buf p.dst : BufEntry).stride) ∧
    (∃ (t : Nat) (s : State), (bandsLate (s.at t) : State).frm.live = true ∧ (bandsLate (s.at t) : State).rf (R.STATUS P.CMP) 3 0 ≠ 0 ∧ bandsOpen
      (bandsLate (s.at t) : State) = false) ∧
    (∃ (t : Nat) (k : Fin 4) (s : State), s.frm.live = true ∧ s.frm.codes[k] ≠ [] ∧ (s.rf R.CMP_WB_CTRL 1 0 = 1 ∨ s.rf R.CMP_WB_CTRL 1 0 = 2) ∧ s.rb
      R.CMP_WB_CTRL (16 + k.val) = true ∧ s.frame % (max 1 (s.rf R.CMP_WB_CTRL 15 8) : Nat) = 0 ∧ (engineWrite Init.wb (BitVec.toNat (s.rd
      (R.CMP_WB_BASE k.val)) + (s.frame / (max 1 (s.rf R.CMP_WB_CTRL 15 8) : Nat) % (s.rf R.CMP_WB_CTRL 5 4 + 1) : Nat) * (wbBytes s k s.frm.codes[k]
      : List Nat).length) (wbBytes s k s.frm.codes[k] : List Nat) (s.at t) : Bool × State).1 = true) :=
  ⟨⟨0, Init.safe, true, 0x80000001, onWith [(R.FENCE_STATE_HI, 2)], by decide +kernel⟩,
   ⟨0, Init.safe, false, 3, onWith [(R.FENCE_STATE_LO, 0xffffffff)], by decide +kernel⟩,
   ⟨0, Init.safe, 3, withBufs [(4, ent .swOwned), (5, { ent .swOwned with base := 0x10100000 })] (onWith [(R.CTRL (P.SCL 3), 1), (R.SCL_SRC 3, 4),
     (R.SCL_DST 3, 0x0504), (R.SCL_CFG 3, 0x00070000)]), 5, by decide +kernel⟩,
   ⟨3,
     { withBufs [(4, ent .scanning), (5, { ent .swOwned with base := 0x10100000 })] (onWith [(R.CTRL (P.SCL 3), 1), (R.SCL_SRC 3, 4), (R.SCL_DST 3, 0x0504)]) with cmp := { (withBufs [(4, ent .scanning), (5, { ent .swOwned with base := 0x10100000 })] on).cmp with scl := on.cmp.scl.set 3 (some ⟨5, 4, true⟩) } },
     ⟨5, 4, true⟩, by decide +kernel⟩,
   ⟨0, { onWith [(R.STATUS P.CMP, 0x3)] with frm := { on.frm with kind := 1 } }, by decide +kernel⟩,
   ⟨0, 1,
     { onWith [(R.CMP_WB_CTRL, 0x00020101), (R.CMP_WB_BASE 1, 0x10003000), (R.CTRL P.CMP, 1)] with frm := { on.frm with kind := 1, codes := on.frm.codes.set 1 [1,2,3] } },
     by decide +kernel⟩⟩

end Layers


namespace Link

def tileS (k : Fin 4) (f : TileSt → TileSt) (s : State) : State := { s with tile := s.tile.set k (f s.tile[k]) }

/-- The link of tile 1 in state `n`. -/
def lnk (n : Nat) (l : List (Nat × Word)) (f : TileSt → TileSt) : State :=
  tileS 1 f (onWith ([(R.STATUS (P.SPLT 1), word (0x2F0 + n)), (R.CTRL (P.SPLT 1), 5)] ++ l))

def cmd : CtrlCmd := ⟨3, 4, 5, 0, 9, 1, 77⟩

def by8 (l : List Nat) : List Byte := l.map (BitVec.ofNat 8)

/-- The CRC of a return packet of TYPE `type` with RX_ALIVE 4. -/
def crcOf (type b1 b3 arg : Nat) (pay : List Nat) : List Byte := by8 (bytesLE 4 (crc32c ([type, b1, 4, b3] ++ bytesLE 4 arg ++ pay)))

def rxOf (b1 b3 arg : Nat) (pay : List Nat) : Rx := ⟨b1, 4, b3, arg, pay⟩

def enumPay : List Nat := bytesLE 2 0x4E45 ++ [0x10] ++ List.replicate 13 0 ++ bytesLE 2 256 ++ bytesLE 2 256 ++ List.replicate 4 0 ++ [7, 7] ++ List.replicate 70 0

def ts2 : List Byte := by8 (tsSet true 0 1 3 0)

def late (s : State) : State := { s with nextTick := 8000000 }

theorem test_hypotheses_LinkTrainsAndRetrains :
    (∃ (t : Nat) (i : Init) (k : Fin 4) (w : Word) (s : State), s.accepts t i (R.CTRL (spl k)) (putBit w 0 true) ∧ s.en (spl k) = false ∧ bitOf w 1 =
      false) ∧
    (∃ (k : Fin 4) (s : State), s.lstate k = 1) ∧
    (∃ (k : Fin 4) (s : State) (l : List Byte), s.lstate k = 2 ∧ isTs false (nums l) = true) ∧
    (∃ (k : Fin 4) (s : State) (h : List Byte) (f : List Byte) (lanes : Nat), (s.lstate k = 3 ∨ s.lstate k = 7) ∧ isTs true (nums (h ++ f)) = true ∧
      (chooseLanes s k (field (nums (h ++ f)) 3 1) lanes : Nat) ≠ 0) ∧
    (∃ (k : Fin 4) (s : State) (h : List Byte) (f : List Byte) (lanes : Nat), (s.lstate k = 3 ∨ s.lstate k = 7) ∧ isTs true (nums (h ++ f)) = true ∧
      (chooseLanes s k (field (nums (h ++ f)) 3 1) lanes : Nat) = 0) ∧
    (∃ (k : Fin 4) (s : State) (h : List Byte) (f : List Byte), s.lstate k = 4 ∧ isTs true (nums (h ++ f)) = true) ∧
    (∃ (k : Fin 4) (s : State), s.lstate k = 4 ∧ 0 < s.rf (R.STATUS (spl k)) 9 8) ∧
    (∃ (k : Fin 4) (s : State), s.lstate k = 4 ∧ s.rf (R.STATUS (spl k)) 9 8 = 0 ∧ 1 < (lanesOf (s.rf (R.STATUS (spl k)) 7 4) : Nat)) ∧
    (∃ (k : Fin 4) (s : State), (s.lstate k = 2 ∨ s.lstate k = 3 ∨ s.lstate k = 5 ∨ s.lstate k = 7 ∨ s.lstate k = 4) ∧ s.rf (R.STATUS (spl k)) 9 8 =
      0 ∧ lanesOf (s.rf (R.STATUS (spl k)) 7 4) ≤ 1) ∧
    (∃ (k : Fin 4) (s : State), s.lstate k = 8 ∧ s.tile[k].restart ≠ 0) ∧
    (∃ (k : Fin 4) (s : State), s.tile[k].due ≠ 0 ∧ (s.lstate k = 3 ∨ s.lstate k = 4 ∨ s.lstate k = 5 ∨ s.lstate k = 7)) ∧
    (∃ (t : Nat) (i : Init) (k : Fin 4) (w : Word) (s : State), s.accepts t i (R.CTRL (spl k)) (putBit w 1 true) ∧ s.en (spl k) = true ∧ bitOf w 0 =
      true ∧ s.lstate k = 8) ∧
    (∃ (t : Nat) (i : Init) (k : Fin 4) (w : Word) (s : State), s.linkUp k = true ∧ s.accepts t i (R.CTRL (spl k)) (putBit w 1 true) ∧ s.en (spl k) =
      true ∧ bitOf w 0 = true) ∧
    (∃ (k : Fin 4) (s : State), s.linkUp k = true) ∧
    (∃ (k : Fin 4) (n : Nat) (s : State), s.linkUp k = true ∧ n < 16) ∧
    (∃ (k : Fin 4) (n : Nat) (s : State), s.linkUp k = true ∧ 16 ≤ n) ∧
    (∃ (k : Fin 4) (s : State), s.linkUp k = true ∧ 4 ≤ s.tile[k].noFstat) ∧
    (∃ (k : Fin 4) (s : State), s.linkUp k = true ∧ s.tile[k].noFstat < 4) :=
  ⟨⟨0, Init.safe, 1, 0, on, by decide +kernel⟩,
   ⟨1, lnk 1 [] id, by decide +kernel⟩,
   ⟨1, lnk 2 [] id, by8 (tsSet false 0 1 3 0), by decide +kernel⟩,
   ⟨1, lnk 3 [] (fun x => { x with cap := 4 }), ts2.take 5, ts2.drop 5, 3, by decide +kernel⟩,
   ⟨1, lnk 3 [] (fun x => { x with cap := 4 }), ts2.take 5, ts2.drop 5, 4, by decide +kernel⟩,
   ⟨1, lnk 4 [] id, ts2.take 5, ts2.drop 5, by decide +kernel⟩,
   ⟨1, lnk 4 [] (fun x => { x with rates := 3 }), by decide +kernel⟩,
   ⟨1, lnk 4 [(R.STATUS (P.SPLT 1), 0x34)] (fun x => { x with due := 5 }), by decide +kernel⟩,
   ⟨1, lnk 5 [(R.STATUS (P.SPLT 1), 0x15)] id, by decide +kernel⟩,
   ⟨1, lnk 8 [] (fun x => { x with restart := 100 }), by decide +kernel⟩,
   ⟨1, lnk 7 [] (fun x => { x with due := 100 }), by decide +kernel⟩,
   ⟨0, Init.safe, 1, 1, lnk 8 [] id, by decide +kernel⟩,
   ⟨0, Init.safe, 1, 1, lnk 6 [] id, by decide +kernel⟩,
   ⟨1, lnk 6 [] id, by decide +kernel⟩,
   ⟨1, 15, lnk 6 [] id, by decide +kernel⟩,
   ⟨1, 16, lnk 6 [] id, by decide +kernel⟩,
   ⟨1, lnk 6 [] (fun x => { x with noFstat := 4 }), by decide +kernel⟩,
   ⟨1, lnk 6 [] (fun x => { x with noFstat := 3 }), by decide +kernel⟩⟩

theorem test_hypotheses_CtrlCommandsAreAnsweredOrFail :
    (∃ (t : Nat) (i : Init) (k : Fin 4) (w : Word) (s : State), s.accepts t i (R.SPL_CTRL_CMD k.val) w ∧ bitOf w 31 = true ∧ s.rf (R.SPL_CTRL_STAT
      k.val) 1 0 ≠ 1) ∧
    (∃ (t : Nat) (k : Fin 4) (s : State) (c : CtrlCmd) (rest : List CtrlCmd), s.tile[k].queue = c :: rest ∧ s.tile[k].outst = none ∧ ctrlMay (s.at t)
      k
      { cmd := c.cmd, addr := c.addr, data := c.data, org := c.org, alive := ((s.rf (R.SPL_ALIVE k.val) 7 0 + 1) % 256 : Nat), tries := 1, due := c.due }
      = true) ∧
    (∃ (t : Nat) (k : Fin 4) (s : State) (c : CtrlCmd), s.tile[k].outst = some c ∧ c.tries < 4 ∧ ctrlMay ((s.at t).at c.due) k c = true) ∧
    (∃ (t : Nat) (k : Fin 4) (s : State) (c : CtrlCmd), s.tile[k].outst = some c ∧ c.tries < 4 ∧ ctrlMay ((s.at t).at c.due) k c = false) ∧
    (∃ (k : Fin 4) (s : State) (c : CtrlCmd), s.tile[k].outst = some c ∧ 4 ≤ c.tries ∧ c.org = 0) ∧
    (∃ (k : Fin 4) (s : State) (h : List Byte) (a : List Byte) (p : List Byte) (q : List Byte) (x : Rx) (c : CtrlCmd), s.linkUp k = true ∧ parseRx
      129 (nums (h ++ a ++ p ++ q)) = some x ∧ s.tile[k].rxAny = false ∧ s.tile[k].outst = some c ∧ c.org = 0 ∧ c.alive = x.b3) :=
  ⟨⟨0, Init.safe, 1, 0x80000007, lnk 6 [] (fun x => { x with queue := [cmd] }), by decide +kernel⟩,
   ⟨0, 1, late (lnk 6 [(R.SPL_ALIVE 1, 0xFF)] (fun x => { x with queue := [cmd, cmd], ctrls := 63 })), cmd, [cmd], by decide +kernel⟩,
   ⟨0, 1, late (lnk 6 [] (fun x => { x with outst := some cmd })), cmd, by decide +kernel⟩,
   ⟨0, 1, late (lnk 6 [] (fun x => { x with outst := some cmd, marked := true })), cmd, by decide +kernel⟩,
   ⟨1, lnk 6 [] (fun x => { x with outst := some { cmd with tries := 4 } }), { cmd with tries := 4 }, by decide +kernel⟩,
   ⟨1, lnk 6 [] (fun x => { x with outst := some cmd }), by8 [0x81, 8, 4, 9], by8 (bytesLE 4 0x55), by8 [], crcOf 0x81 8 9 0x55 [], rxOf 8 9 0x55 [],
     cmd, by decide +kernel⟩⟩

theorem test_hypotheses_ReturnPacketsAreTakenOnce :
    (∃ (k : Fin 4) (err : Bool) (h : List Byte) (a : List Byte) (p : List Byte) (n : List Byte) (v : List Byte) (q : List Byte) (s : State), s.linkUp
      k = true ∧ (err = true ∨ parseRx 132 (nums (h ++ a ++ p ++ n ++ v ++ q) : List Nat) = none)) ∧
    (∃ (k : Fin 4) (h : List Byte) (a : List Byte) (p : List Byte) (n : List Byte) (v : List Byte) (q : List Byte) (s : State) (x : Rx), s.linkUp k =
      true ∧ parseRx 132 (nums (h ++ a ++ p ++ n ++ v ++ q) : List Nat) = some x ∧ s.tile[k].rxAny = true ∧ s.rf (R.SPL_ALIVE k.val) 15 8 = x.alive) ∧
    (∃ (k : Fin 4) (h : List Byte) (a : List Byte) (p : List Byte) (n : List Byte) (v : List Byte) (q : List Byte) (s : State) (x : Rx), (fun type l
      x => s.linkUp k = true ∧ s.tile[k].rxAny = false ∧ parseRx type l = some x) 132 (nums (h ++ a ++ p ++ n ++ v ++ q) : List Nat) x ∧ (∀ j < 4,
      (fun j => field x.pay (12 + j) 1) j < 16) ∧ field x.pay 8 2 = 0 ∧ field x.pay 10 2 = 0 ∧ word (field x.pay 0 4) = s.rd (R.SCN_STAT_FRAME_CRC
      k.val)) ∧
    (∃ (k : Fin 4) (h : List Byte) (a : List Byte) (p : List Byte) (q : List Byte) (s : State) (x : Rx) (d : DiagRec), (fun type l x => s.linkUp k =
      true ∧ s.tile[k].rxAny = false ∧ parseRx type l = some x) 130 (nums (h ++ a ++ p ++ q) : List Nat) x ∧ s.rb (R.CTRL (spl k)) 3 = false ∧
      s.tile[k].probes = [] ∧ s.tickNum < fullFrame s x.arg + 2 ∧ recordsOf x.pay = some [d] ∧ 128 ≤ d.type) ∧
    (∃ (k : Fin 4) (h : List Byte) (a : List Byte) (p : List Byte) (q : List Byte) (s : State) (x : Rx) (d : DiagRec), (fun type l x => s.linkUp k =
      true ∧ s.tile[k].rxAny = false ∧ parseRx type l = some x) 130 (nums (h ++ a ++ p ++ q) : List Nat) x ∧ s.rb (R.CTRL (spl k)) 3 = false ∧
      s.tile[k].probes = [] ∧ s.tickNum < fullFrame s x.arg + 2 ∧ recordsOf x.pay = some [d] ∧ d.type = 3 ∧ s.tile[k].vfFrame ≠ fullFrame s x.arg) ∧
    (∃ (k : Fin 4) (p : List Byte) (q : List Byte) (s : State) (x : Rx), s.lstate k = 5 ∧ parseRx 131 (nums (p ++ q)) = some x ∧ recordOk x.pay =
      true ∧ laneMax s k ≤ lanesOf (s.rf (R.STATUS (spl k)) 7 4) ∧ rateMax s k ≤ s.rf (R.STATUS (spl k)) 9 8 ∧ s.rb (R.CTRL (spl k)) 4 = false) :=
  ⟨⟨1, false, [0x84], [], [], [], [], [], lnk 6 [] id, by decide +kernel⟩,
   ⟨1, by8 [0x84, 0, 4, 0], by8 (bytesLE 4 7), by8 ((List.replicate 16 0).take 4), by8 (((List.replicate 16 0).drop 4).take 8), by8 ((List.replicate
     16 0).drop 12), crcOf 0x84 0 0 7 (List.replicate 16 0), lnk 6 [(R.SPL_ALIVE 1, 0x400)] (fun x => { x with rxAny := true }), rxOf 0 0 7
     (List.replicate 16 0), by decide +kernel⟩,
   ⟨1, by8 [0x84, 0, 4, 0], by8 (bytesLE 4 7), by8 ((bytesLE 4 6 ++ List.replicate 8 0 ++ List.replicate 4 15).take 4), by8 (((bytesLE 4 6 ++
     List.replicate 8 0 ++ List.replicate 4 15).drop 4).take 8), by8 ((bytesLE 4 6 ++ List.replicate 8 0 ++ List.replicate 4 15).drop 12), crcOf 0x84
     0 0 7 (bytesLE 4 6 ++ List.replicate 8 0 ++ List.replicate 4 15), lnk 6 [(R.SCN_STAT_FRAME_CRC 1, 6)] id, rxOf 0 0 7 (bytesLE 4 6 ++
     List.replicate 8 0 ++ List.replicate 4 15), by decide +kernel⟩,
   ⟨1, by8 [0x82, 1, 4, 0], by8 (bytesLE 4 7), by8 (bytesLE 4 0x80), crcOf 0x82 1 0 7 (bytesLE 4 0x80), { lnk 6 [] id with tickNum := 7 }, rxOf 1 0 7
     (bytesLE 4 0x80), ⟨0x80, 0, []⟩, by decide +kernel⟩,
   ⟨1, by8 [0x82, 1, 4, 0], by8 (bytesLE 4 7), by8 (bytesLE 4 0x103 ++ bytesLE 4 0x123), crcOf 0x82 1 0 7 (bytesLE 4 0x103 ++ bytesLE 4 0x123),
     { lnk 6 [] id with tickNum := 7 }, rxOf 1 0 7 (bytesLE 4 0x103 ++ bytesLE 4 0x123), ⟨3, 0, [0x123]⟩, by decide +kernel⟩,
   ⟨1, by8 ([0x83, 0, 4, 0] ++ bytesLE 4 0 ++ enumPay), crcOf 0x83 0 0 0 enumPay, lnk 5 [] id, rxOf 0 0 0 enumPay, by decide +kernel⟩⟩

end Link


namespace Modes

def mdS (m : Nat) (l : List (Nat × Word)) : State := onWith ([(R.SEC_STATUS, 4), (R.NVM_WIN_STAT, 7), (R.SYS_MODE, word m)] ++ l)

def hdx : SessSt := ⟨none, none, none, [], [], none, 0, [], 0xFF, none, [], some 0, none⟩

def mdH (m : Nat) (l : List (Nat × Word)) : State :=
  let s := mdS m ([(R.NET_SESS_BASE, 0x10100000)] ++ l)
  { putEntry 1023 ([2] ++ List.replicate 63 0) s with ses := { s.ses with sess := [(1023, hdx)] } }

def okr : List (Nat × Word) := [(R.TIME_TGEN_STAT, 16), (R.CTRL P.CMP, 1), (R.CTRL P.PHO, 1), (R.TIME_SERVO_STAT, 2)]

theorem test_hypotheses_ModeRequestsPendOrAreRefused :
    (∃ (t : Nat) (i : Init) (w : Word) (role : Fin 4) (rights : Word) (s : State), s.accepts t i R.SYS_MODE_REQ (putBit w 31 true) ∧ bitOf w 8 =
      false ∧ modeRefusal
      ({ mode := bitsOf w 3 0, lamp := bitsOf w 5 4, sched := bitOf w 9, role := role.val, rights := BitVec.toNat rights, wait := 0, chan := 3, tid := [] }
      : ModeReq) s = 0) ∧
    (∃ (t : Nat) (i : Init) (w : Word) (role : Fin 4) (rights : Word) (s : State), s.accepts t i R.SYS_MODE_REQ (putBit w 31 true) ∧ bitOf w 8 =
      false ∧ modeRefusal
      ({ mode := bitsOf w 3 0, lamp := bitsOf w 5 4, sched := bitOf w 9, role := role.val, rights := BitVec.toNat rights, wait := 0, chan := 3, tid := [] }
      : ModeReq) s ≠ 0) ∧
    (∃ (s : State), s.rf R.SYS_MODE 3 0 = 7) ∧
    (∃ (w : Word) (role : Fin 4) (rights : Word) (s : State), 2 ≤ s.rf R.SYS_MODE 3 0 ∧ s.rf R.SYS_MODE 3 0 ≤ 5 ∧
      (({ mode := bitsOf w 3 0, lamp := bitsOf w 5 4, sched := bitOf w 9, role := role.val, rights := BitVec.toNat rights, wait := 0, chan := 3, tid := [] }
      : ModeReq).mode = 4 ∨
      ({ mode := bitsOf w 3 0, lamp := bitsOf w 5 4, sched := bitOf w 9, role := role.val, rights := BitVec.toNat rights, wait := 0, chan := 3, tid := [] }
      : ModeReq).mode = 5)) ∧
    (∃ (w : Word) (role : Fin 4) (rights : Word) (s : State), 2 ≤ s.rf R.SYS_MODE 3 0 ∧ s.rf R.SYS_MODE 3 0 ≤ 5 ∧
      (({ mode := bitsOf w 3 0, lamp := bitsOf w 5 4, sched := bitOf w 9, role := role.val, rights := BitVec.toNat rights, wait := 0, chan := 3, tid := [] }
      : ModeReq).mode = 2 ∨
      ({ mode := bitsOf w 3 0, lamp := bitsOf w 5 4, sched := bitOf w 9, role := role.val, rights := BitVec.toNat rights, wait := 0, chan := 3, tid := [] }
      : ModeReq).mode = 3) ∧
      ({ mode := bitsOf w 3 0, lamp := bitsOf w 5 4, sched := bitOf w 9, role := role.val, rights := BitVec.toNat rights, wait := 0, chan := 3, tid := [] }
      : ModeReq).rights.testBit 5 = false) ∧
    (∃ (t : Nat) (i : Init) (w : Word) (s : State), s.accepts t i R.SYS_MODE_REQ (putBit w 31 true) ∧ bitOf w 8 = true ∧ bitsOf w 3 0 = 4 ∧ mayForce
      s = true) ∧
    (∃ (t : Nat) (i : Init) (w : Word) (s : State), s.accepts t i R.SYS_MODE_REQ (putBit w 31 true) ∧ bitOf w 8 = true ∧ (bitsOf w 3 0 ≠ 4 ∨ mayForce
      s = false)) ∧
    (∃ (t : Nat) (s : State), s.rf R.SYS_MODE 3 0 = 2 ∧ headOpen s = false ∧ s.sys.netSince + s.rf R.SYS_START_CFG 31 16 * 10 ^ 9 ≤ max s.now t ∧
      modeRefusal ((fun m => { mode := m, lamp := 0, sched := false, role := 3, rights := 32, wait := 0, chan := 3, tid := [] }) 3) s = 0) ∧
    (∃ (t : Nat) (s : State), (s.rf R.SYS_MODE 3 0 ≠ 2 ∨ headOpen s = true ∨ max s.now t < s.sys.netSince + s.rf R.SYS_START_CFG 31 16 * 10 ^ 9)) ∧
    (∃ (s : State), s.sys.pend = none ∧ s.rf R.SYS_MODE 3 0 = 3 ∧ headOpen s = true ∧ s.rf R.TIME_SERVO_STAT 2 0 = 2 ∧ modeRefusal ((fun m =>
      { mode := m, lamp := 0, sched := false, role := 3, rights := 32, wait := 0, chan := 3, tid := [] }) 2) s = 0) ∧
    (∃ (t : Nat) (s : State) (x : Nat), s.sys.pend = none ∧ s.rf R.SYS_MODE 3 0 = 4 ∧ s.rb R.SYS_MODE 8 = true ∧ s.rb R.SYS_START_CFG 0 = true ∧
      s.sys.quietSince = some x ∧ x + 10 ^ 10 ≤ max s.now t ∧ (s.sys.prevMode = 2 ∨ s.sys.prevMode = 3) ∧ modeRefusal ((fun m =>
      { mode := m, lamp := 0, sched := false, role := 3, rights := 32, wait := 0, chan := 3, tid := [] }) s.sys.prevMode) s = 0) ∧
    (∃ (s : State), s.sys.pend = none ∧ (s.rf R.SYS_MODE 3 0 = 4 ∨ s.rf R.SYS_MODE 3 0 = 5) ∧ s.rb R.SYS_MODE 8 = false ∧ s.rb R.SYS_START_CFG 0 =
      true ∧ s.rf (R.SYS_START_MS 12) 15 0 = 0 ∧ modeRefusal ((fun m =>
      { mode := m, lamp := 0, sched := false, role := 3, rights := 32, wait := 0, chan := 3, tid := [] }) 2) s = 0) ∧
    (∃ (s : State), s.sys.pend.isSome = true) :=
  ⟨⟨0, Init.safe, 5, 2, 0x20, mdS 2 [], by decide +kernel⟩,
   ⟨0, Init.safe, 3, 2, 0, mdS 2 [], by decide +kernel⟩,
   ⟨mdS 7 [], by decide +kernel⟩,
   ⟨4, 0, 0, mdS 5 [], by decide +kernel⟩,
   ⟨2, 0, 0, mdS 5 [], by decide +kernel⟩,
   ⟨0, Init.safe, 0x104, mdS 2 [], by decide +kernel⟩,
   ⟨0, Init.safe, 0x104, mdS 7 [], by decide +kernel⟩,
   ⟨100000000000000, mdS 2 (okr ++ [(R.SYS_MODE, 0x202)]), by decide +kernel⟩,
   ⟨0, mdS 3 [], by decide +kernel⟩,
   ⟨mdH 3 (okr ++ [(R.SYS_MODE, 0x203)]), by decide +kernel⟩,
   ⟨10000000000, { mdS 4 (okr ++ [(R.SYS_MODE, 0x304), (R.SYS_START_CFG, 1)]) with sys := { on.sys with prevMode := 3, quietSince := some 0 } }, 0,
     by decide +kernel⟩,
   ⟨mdH 5 (okr ++ [(R.SYS_MODE, 0x205), (R.SYS_START_CFG, 1)]), by decide +kernel⟩,
   ⟨{ mdS 2 [] with sys := { on.sys with pend := some ⟨2, 0, false, 0, 0, 0, 3, []⟩ } }, by decide +kernel⟩⟩

end Modes


namespace Mover

def ring (l : List (Nat × Word)) : State :=
  (((((onWith ([(R.CTRL (P.DMVC 1), 1), (R.DMV_RING_BASE 1, 0x10000000), (R.DMV_RING_STATE 1, 0x00020000)] ++ l)).stLE 0x10000000 2 7).stLE 0x10000002 2 1).stLE 0x10000004 4 6).stLE 0x10000008 4 0xAABBCCDD).stLE 0x1000000c 4 0x10001001 |>.stLE 0x1000001c 4 0x10002000

theorem test_hypotheses_MoverPostsFillsAndHalts :
    (∃ (t : Nat) (i : Init) (c : Fin 4) (w : Word) (s : State), s.accepts t i (R.DMV_POST c.val) w ∧ (s.rf (R.DMV_RING_STATE c.val : Nat) 22 16 :
      Nat) + bitsOf w 6 0 ≤ 64) ∧
    (∃ (t : Nat) (i : Init) (c : Fin 4) (w : Word) (s : State), s.accepts t i (R.DMV_POST c.val) w ∧ 64 < (s.rf (R.DMV_RING_STATE c.val : Nat) 22 16
      : Nat) + bitsOf w 6 0) ∧
    (∃ (t : Nat) (i : Init) (c : Fin 4) (w : Word) (s : State), s.accepts t i (R.CTRL (P.DMVC c.val)) (putBit w 1 true)) ∧
    (∃ (t : Nat) (i : Init) (c : Fin 4) (s : State), s.accepts t i (R.DMV_ABORT c.val) 1#32 ∧ s.flt.due = [] ∧ dmvActive c s = false) ∧
    (∃ (t : Nat) (i : Init) (c : Fin 4) (s : State), s.accepts t i (R.DMV_ABORT c.val) 1#32 ∧ s.flt.due = [] ∧ dmvActive c s = true ∧ descPlaced
      (descAddr c s : Nat) = true ∧ s.anyUe (descAddr c s : Nat) 32 = false ∧ seqBad c (readDesc s (descAddr c s : Nat) : Desc) s = false ∧
      ((readDesc s (descAddr c s : Nat) : Desc).op = 1 ∧ (readDesc s (descAddr c s : Nat) : Desc).crcEn = false ∧ (readDesc s (descAddr c s : Nat) :
      Desc).len ≠ 0 ∧ (readDesc s (descAddr c s : Nat) : Desc).recAddr ≠ 0 ∧ (readDesc s (descAddr c s : Nat) : Desc).recAddr % 16 = 0 ∧ (∀ k <
      (readDesc s (descAddr c s : Nat) : Desc).len, writeStop (Init.dmv c) ((readDesc s (descAddr c s : Nat) : Desc).dstAt k) 1 (linePart (readDesc s
      (descAddr c s : Nat) : Desc) k s) s = none) ∧ writeStop (Init.dmv c) (readDesc s (descAddr c s : Nat) : Desc).recAddr 16 none s = none ∧
      ((readDesc s (descAddr c s : Nat) : Desc).recAddr + 16 ≤ (readDesc s (descAddr c s : Nat) : Desc).dst ∨ (readDesc s (descAddr c s : Nat) :
      Desc).dst + (readDesc s (descAddr c s : Nat) : Desc).len ≤ (readDesc s (descAddr c s : Nat) : Desc).recAddr))) ∧
    (∃ (c : Fin 4) (s : State), (s.en (P.DMVC c.val) = false ∨ s.rb (R.STATUS (P.DMVC c.val) : Nat) 1 = true ∨ (s.rf (R.DMV_RING_STATE c.val : Nat)
      22 16 : Nat) = 0)) ∧
    (∃ (c : Fin 4) (s : State), dmvActive c s = true ∧ s.flt.due = [] ∧ descPlaced (descAddr c s : Nat) = true ∧ readStop (Init.dmv c) (descAddr c s
      : Nat) 32 s = none ∧ ceWords s (descAddr c s : Nat) 32 = [] ∧ seqBad c (readDesc s (descAddr c s : Nat) : Desc) s = false ∧ ((readDesc s
      (descAddr c s : Nat) : Desc).op = 1 ∧ (readDesc s (descAddr c s : Nat) : Desc).crcEn = false ∧ (readDesc s (descAddr c s : Nat) : Desc).len ≠ 0
      ∧ (readDesc s (descAddr c s : Nat) : Desc).recAddr ≠ 0 ∧ (readDesc s (descAddr c s : Nat) : Desc).recAddr % 16 = 0 ∧ (∀ k < (readDesc s
      (descAddr c s : Nat) : Desc).len, writeStop (Init.dmv c) ((readDesc s (descAddr c s : Nat) : Desc).dstAt k) 1 (linePart (readDesc s (descAddr c
      s : Nat) : Desc) k s) s = none) ∧ writeStop (Init.dmv c) (readDesc s (descAddr c s : Nat) : Desc).recAddr 16 none s = none ∧ ((readDesc s
      (descAddr c s : Nat) : Desc).recAddr + 16 ≤ (readDesc s (descAddr c s : Nat) : Desc).dst ∨ (readDesc s (descAddr c s : Nat) : Desc).dst +
      (readDesc s (descAddr c s : Nat) : Desc).len ≤ (readDesc s (descAddr c s : Nat) : Desc).recAddr)) ∧ (readDesc s (descAddr c s : Nat) :
      Desc).fenceSig = false) :=
  ⟨⟨0, Init.safe, 1, 64, on, by decide +kernel⟩,
   ⟨0, Init.safe, 1, 63, ring [], by decide +kernel⟩,
   ⟨0, Init.safe, 1, 0, ring [(R.STATUS (P.DMVC 1), 2)], by decide +kernel⟩,
   ⟨0, Init.safe, 3, on, by decide +kernel⟩,
   ⟨0, Init.safe, 1, ring [], by decide +kernel⟩,
   ⟨1, ring [(R.STATUS (P.DMVC 1), 2)], by decide +kernel⟩,
   ⟨1, ring [], by decide +kernel⟩⟩

end Mover


namespace Network

def netS (f : NetSt → NetSt) (l : List (Nat × Word)) : State :=
  { onWith ([(R.CTRL (P.PORT 2), 1), (R.PORT_LINK 2, 1), (R.CTRL (P.PORT 1), 1), (R.PORT_LINK 1, 1), (R.NET_MAC_LO, 0x11223344), (R.NET_MAC_HI, 0x0002), (R.SW_CFG, 300)] ++ l) with net := f on.net }

def frm (d : Nat) : NetFrame := ⟨d, 7, 1522, true, some 3, .other, 0, 0, 0, none⟩

def ring : List (Nat × Word) := [(R.SW_MRP_CFG, 1), (R.PORT_CFG 0, 0x100), (R.PORT_CFG 1, 0x100), (R.PORT_MRP_STAT 1, 1)]

def beac : BeaconHead := ⟨(0x333400000042 : Nat), 0x88B5, 0x4257, 0xFFFF⟩

def beacS : State := netS id [(R.NET_WAKE_CFG, 1), (R.NET_WAKE_MAC_LO, 0x00000042), (R.NET_WAKE_MAC_HI, 0x3334), (R.SEC_KEY_META 9, 0x80000000)]

def beacTag : List Nat := (gcmSeal (beacS.slotKey 9) (beaconBytes beac 5) (beaconBytes beac 5) []).2

theorem test_hypotheses_PortsAndSwitchHandleFrames :
    (∃ (p : Fin 3) (s : State), portUp s p = false) ∧
    (∃ (p : Fin 3) (s : State) (f : NetFrame), portUp s p = true ∧ (f.good = false ∨ 1522 < f.len)) ∧
    (∃ (p : Fin 3) (s : State) (f : NetFrame), portUp s p = true ∧ f.good = true ∧ f.len ≤ 1522 ∧ isGroup f.dst = false ∧ s.rb R.SW_CFG 16 = false ∧
      ringPort s p = false ∧ isPdelay f = false ∧ (∀ (a b c : Nat), f.kind ≠ FrameKind.ptpAnnounce a b c) ∧ f.dst = ownMac s) ∧
    (∃ (p : Fin 3) (s : State) (f : NetFrame) (d : Fin 3) (e : Nat × Nat × Nat), portUp s p = true ∧ f.good = true ∧ f.len ≤ 1522 ∧ isGroup f.dst =
      false ∧ s.rb R.SW_CFG 16 = false ∧ ringPort s p = false ∧ isPdelay f = false ∧ (∀ (a b c : Nat), f.kind ≠ FrameKind.ptpAnnounce a b c) ∧ f.dst
      ≠ ownMac s ∧ List.find? (fun e => e.1 == f.dst) s.net.fdb = some e ∧ e.2.1 = d.val ∧ d ≠ p ∧ forwarding s d = true) ∧
    (∃ (p : Fin 3) (s : State) (k : Fin 4) (e : Egress) (l : List Egress), portUp s p = true ∧ s.net.port[p].q[k] = e :: l ∧ (∀ (j : Fin 4), k < j →
      s.net.port[p].q[j] = []) ∧ forwarding s p = true ∧ s.net.port[p].again = []) ∧
    (∃ (t : Nat) (s : State) (i : Init) (w : Word), s.accepts t i R.SW_FLUSH w ∧ bitsOf w 3 0 ≠ 0) ∧
    (∃ (t : Nat) (s : State) (x : Nat), s.net.flushAt = some x ∧ x ≤ (max s.now t : Nat)) ∧
    (∃ (t : Nat) (p : Fin 3) (s : State), ringPort s p = true ∧ s.rf (R.PORT_MRP_STAT p.val) 1 0 = 1 ∧ s.net.port[p].upAt + 80000000 ≤ (max s.now t :
      Nat)) ∧
    (∃ (t : Nat) (p : Fin 3) (s : State), ringPort s p = true ∧ s.rf (R.PORT_MRP_STAT p.val) 1 0 = 1 ∧ (max s.now t : Nat) < s.net.port[p].upAt +
      80000000) ∧
    (∃ (p : Fin 3) (s : State), s.pageOn (P.PORT p.val : Nat) = true ∧ ringPort s p = false ∧ s.en (P.PORT p.val : Nat) = true ∧ s.rb (R.PORT_LINK
      p.val) 0 = false) ∧
    (∃ (p : Fin 3) (s : State), s.pageOn (P.PORT p.val : Nat) = true ∧ ringPort s p = false ∧ s.rb (R.PORT_LINK p.val) 0 = true) ∧
    (∃ (p : Fin 3) (s : State) (d : Nat), portUp s p = true ∧ s.rb (R.PORT_CFG p.val) 12 = true ∧ s.net.port[p].reqAt = none ∧ d < 2 ^ 32 ∧
      s.net.port[p].sample = false) ∧
    (∃ (p : Fin 3) (s : State), portUp s p = true ∧ s.rb (R.PORT_CFG p.val) 12 = true ∧ s.net.port[p].reqAt = none ∧ s.net.port[p].sample = true) ∧
    (∃ (p : Fin 3) (s : State), portUp s p = true ∧ s.rb (R.PORT_CFG p.val) 12 = true ∧ s.net.port[p].reqAt = none ∧ s.net.port[p].lost ≠ 2) ∧
    (∃ (p : Fin 3) (s : State), portUp s p = true ∧ s.rb (R.PORT_CFG p.val) 12 = true ∧ s.net.port[p].reqAt = none ∧ s.net.port[p].lost = 2) ∧
    (∃ (t : Nat) (s : State) (h : BeaconHead) (time : Nat) (tag : List Byte), (s.pageOn P.NET = true ∧ s.rb R.NET_WAKE_CFG 0 = true ∧ isBeacon h s =
      true ∧ (h.group = 65535 ∨ h.group = s.rf R.NET_WAKE_CFG 31 16) ∧ time ≤ ((s.at t).ttNs (max s.now t : Nat) : Nat) + 2000000000 ∧ ((s.at t).ttNs
      (max s.now t : Nat) : Nat) ≤ time + 2000000000 ∧ s.net.beacon < time ∧ beaconTag h time (nums tag) s = true)) ∧
    (∃ (t : Nat) (s : State) (h : BeaconHead) (time : Nat) (tag : List Byte), (¬(s.pageOn P.NET = true ∧ s.rb R.NET_WAKE_CFG 0 = true ∧ isBeacon h s
      = true ∧ (h.group = 65535 ∨ h.group = s.rf R.NET_WAKE_CFG 31 16) ∧ time ≤ ((s.at t).ttNs (max s.now t : Nat) : Nat) + 2000000000 ∧ ((s.at
      t).ttNs (max s.now t : Nat) : Nat) ≤ time + 2000000000 ∧ s.net.beacon < time ∧ beaconTag h time (nums tag) s = true))) :=
  ⟨⟨0, on, by decide +kernel⟩,
   ⟨2, netS id [], { frm 5 with len := 1523 }, by decide +kernel⟩,
   ⟨2, netS id [], frm (0x000200000000 + 0x11223344), by decide +kernel, by decide +kernel, by decide +kernel, by decide +kernel, by decide +kernel,
     by decide +kernel, by decide +kernel, by simp [frm], by decide +kernel⟩,
   ⟨2, netS (fun n => { n with fdb := [(8, 2, 0), (9, 1, 5)] }) [], frm 9, 1, (9, 1, 5), by decide +kernel, by decide +kernel, by decide +kernel,
     by decide +kernel, by decide +kernel, by decide +kernel, by decide +kernel, by simp [frm], by decide +kernel, by decide +kernel,
     by decide +kernel, by decide +kernel, by decide +kernel⟩,
   ⟨2, netS (fun n =>
     { n with port := n.port.set 2 { n.port[2] with q := n.port[2].q.set 3 [⟨{ frm 5 with kind := .ptpSync }, some (1, 40), none⟩, ⟨frm 4, none, none⟩] } })
     [(R.PORT_MLD 1, 100)], 3, ⟨{ frm 5 with kind := .ptpSync }, some (1, 40), none⟩, [⟨frm 4, none, none⟩], by decide +kernel⟩,
   ⟨0, netS (fun n => { n with fdb := [(8, 2, 0), (9, 1, 5)] }) [], Init.safe, 4, by decide +kernel⟩,
   ⟨5, netS (fun n => { n with fdb := [(8, 2, 0)], flushAt := some 5 }) [], 5, by decide +kernel⟩,
   ⟨80000000, 1, netS id ring, by decide +kernel⟩,
   ⟨79999999, 1, netS id ring, by decide +kernel⟩,
   ⟨2, netS id [(R.PORT_LINK 2, 0)], by decide +kernel⟩,
   ⟨2, netS id [], by decide +kernel⟩,
   ⟨2, netS id [(R.PORT_CFG 2, 0x1000)], 0xFFFFFFFF, by decide +kernel⟩,
   ⟨2, netS (fun n => { n with port := n.port.set 2 { n.port[2] with sample := true } }) [(R.PORT_CFG 2, 0x1000), (R.PORT_MLD 2, 5)],
     by decide +kernel⟩,
   ⟨2, netS id [(R.PORT_CFG 2, 0x1000)], by decide +kernel⟩,
   ⟨2, netS (fun n => { n with port := n.port.set 2 { n.port[2] with lost := 2 } }) [(R.PORT_CFG 2, 0x1000)], by decide +kernel⟩,
   ⟨0, beacS, beac, 5, beacTag.map (BitVec.ofNat 8), by decide +kernel⟩,
   ⟨0, beacS, beac, 0, beacTag.map (BitVec.ofNat 8), by decide +kernel⟩⟩

end Network


namespace Nvm

def nvS (l : List (Nat × Word)) : State := onWith ([(R.SEC_STATUS, 4), (R.NVM_WIN_STAT, 7), (R.NVM_REGION_SIZE 3, 0x100000), (R.NVM_REGION_BASE 3, 0x200000), (R.NVM_REGION_BASE 0, 0), (R.NVM_REGION_SIZE 0, 0x100000), (R.NVM_REGION_WR 0, 0xFF)] ++ l)

def y0 (p : Nat) : Tx := ⟨7, false, 0x1000, [1,2,3,4,5,6,7,8], none, .none, 3, p⟩

def nq (q : List Tx) (r d : Option Tx) : State := let s := nvS []; { s with nvm := { s.nvm with queue := q, redo := r, direct := d } }

def fl (l : List (Nat × Word)) (f : Option FlashOp) : State := { onWith ([(R.CTRL P.XSPI, 1), (R.XSPI_SIZE, 25)] ++ l) with flash := f }

def fe : FlashOp := ⟨true, 0x1000, 4096, []⟩

def fp : FlashOp := ⟨false, 0x1000, 8, [1,2,3,4,5,6,7,255]⟩

theorem test_hypotheses_TransactionsQueueOpenCommitAndSeal :
    (∃ (t : Nat) (i : Init) (w : Word) (s : State), s.accepts t i R.NVM_TX_CMD (putBit w 31 true : Word) ∧ ((s.rf R.NVM_TX_LEN 23 0 : Nat) % 8 ≠ 0 ∨
      (s.rf R.NVM_TX_LEN 23 0 : Nat) = 0)) ∧
    (∃ (t : Nat) (i : Init) (w : Word) (s : State), s.accepts t i R.NVM_TX_CMD (putBit w 31 true : Word) ∧ (s.rf R.NVM_TX_LEN 23 0 : Nat) % 8 = 0 ∧
      (s.rf R.NVM_TX_LEN 23 0 : Nat) ≠ 0 ∧ (BitVec.toNat (s.rd R.NVM_TX_SRC) : Nat) % 8 = 0 ∧ (s.rf R.NVM_TX_DST 23 0 : Nat) % 8 = 0 ∧ bitOf w 2 =
      false ∧ regionOf (BitVec.toNat (s.rd R.NVM_TX_SRC) : Nat) = Region.main ∧ regionOf ((BitVec.toNat (s.rd R.NVM_TX_SRC) : Nat) + (s.rf
      R.NVM_TX_LEN 23 0 : Nat) - 1) = Region.main ∧ txRefusal
      ({ owner := 7, direct := bitOf w 0, target := (s.rf R.NVM_TX_DST 23 0 : Nat), data := s.ldBytes (BitVec.toNat (s.rd R.NVM_TX_SRC) : Nat) (s.rf R.NVM_TX_LEN 23 0 : Nat), act := none, upd := NvUpd.none, txn := s.nv.txn, phase := 0 }
      : Tx) s = 0) ∧
    (∃ (t : Nat) (i : Init) (w : Word) (s : State), s.accepts t i R.NVM_TX_CMD (putBit w 31 true : Word) ∧ (s.rf R.NVM_TX_LEN 23 0 : Nat) % 8 = 0 ∧
      (s.rf R.NVM_TX_LEN 23 0 : Nat) ≠ 0 ∧ (BitVec.toNat (s.rd R.NVM_TX_SRC) : Nat) % 8 = 0 ∧ (s.rf R.NVM_TX_DST 23 0 : Nat) % 8 = 0 ∧ bitOf w 2 =
      false ∧ regionOf (BitVec.toNat (s.rd R.NVM_TX_SRC) : Nat) = Region.main ∧ regionOf ((BitVec.toNat (s.rd R.NVM_TX_SRC) : Nat) + (s.rf
      R.NVM_TX_LEN 23 0 : Nat) - 1) = Region.main ∧ txRefusal
      ({ owner := 7, direct := bitOf w 0, target := (s.rf R.NVM_TX_DST 23 0 : Nat), data := s.ldBytes (BitVec.toNat (s.rd R.NVM_TX_SRC) : Nat) (s.rf R.NVM_TX_LEN 23 0 : Nat), act := none, upd := NvUpd.none, txn := s.nv.txn, phase := 0 }
      : Tx) s ≠ 0) ∧
    (∃ (direct : Bool) (s : State) (y : Tx), openTx direct s = none ∧ List.find? (fun z => z.direct == direct) s.nvm.queue = some y ∧ s.rb
      R.NVM_WIN_STAT 0 = true ∧ jrnRoom s y = true) ∧
    (∃ (direct : Bool) (s : State), (openTx direct s ≠ none ∨ s.rb R.NVM_WIN_STAT 0 = false)) ∧
    (∃ (direct : Bool) (s : State) (y : Tx), openTx direct s = some y ∧ y.phase = 1 ∧ s.rb R.NVM_WIN_STAT 0 = true ∧ s.anyUe (536870912 + y.target)
      y.data.length = false) ∧
    (∃ (direct : Bool) (s : State) (y : Tx), openTx direct s = some y ∧ y.phase = 1 ∧ s.rb R.NVM_WIN_STAT 0 = true) ∧
    (∃ (s : State) (y : Tx), s.nvm.redo = some y ∧ y.phase = 2 ∧ s.rb R.NVM_WIN_STAT 0 = true ∧ y.act = none ∧ y.upd = NvUpd.none ∧ 32 ≤ BitVec.toNat
      (s.rd (R.NVM_REGION_SIZE 3)) ∧ (y.target + y.data.length ≤ BitVec.toNat (s.rd (R.NVM_REGION_BASE 3)) ∨ BitVec.toNat (s.rd (R.NVM_REGION_BASE
      3)) + BitVec.toNat (s.rd (R.NVM_REGION_SIZE 3)) ≤ y.target)) ∧
    (∃ (s : State) (y : Tx), s.nvm.direct = some y ∧ y.phase = 2 ∧ s.rb R.NVM_WIN_STAT 0 = true ∧ y.act = none ∧ y.upd = NvUpd.none) ∧
    (∃ (s : State), s.rb R.NVM_WIN_STAT 0 = true ∧ s.nvm.redo = none ∧ s.nvm.direct = none) ∧
    (∃ (s : State) (y : Tx), s.rb R.NVM_WIN_STAT 0 = true ∧ s.nvm.redo = some y ∧ y.phase = 1 ∧ y.upd = NvUpd.none ∧ s.nvm.direct = none) ∧
    (∃ (s : State), s.rb R.NVM_WIN_STAT 1 = true ∧ s.nvm.unsealed = []) :=
  ⟨⟨0, Init.safe, 0, nvS [(R.NVM_TX_LEN, 7)], by decide +kernel⟩,
   ⟨0, Init.safe, 0, nvS [(R.NVM_TX_LEN, 8), (R.NVM_TX_SRC, 0x10001000), (R.NVM_TX_DST, 0x1000)], by decide +kernel⟩,
   ⟨0, Init.safe, 1, nvS [(R.NVM_TX_LEN, 8), (R.NVM_TX_SRC, 0x10001000), (R.NVM_TX_DST, 0x201000)], by decide +kernel⟩,
   ⟨false, nq [y0 0] none none, y0 0, by decide +kernel⟩,
   ⟨false, nq [y0 0] (some (y0 1)) none, by decide +kernel⟩,
   ⟨false, nq [] (some (y0 1)) none, y0 1, by decide +kernel⟩,
   ⟨false, nq [] (some (y0 1)) none, y0 1, by decide +kernel⟩,
   ⟨nq [] (some (y0 2)) none, y0 2, by decide +kernel⟩,
   ⟨nq [] none (some (y0 2)), y0 2, by decide +kernel⟩,
   ⟨nq [y0 0] none none, by decide +kernel⟩,
   ⟨nq [y0 0] (some (y0 1)) none, y0 1, by decide +kernel⟩,
   ⟨nvS [(R.NVM_WIN_STAT, 2)], by decide +kernel⟩⟩

theorem test_hypotheses_FlashErasesAndPrograms :
    (∃ (t : Nat) (i : Init) (s : State), s.accepts t i R.XSPI_CMD (word (2 ^ 31 + 1)) ∧ s.en P.XSPI = true ∧ s.flash.isSome = true) ∧
    (∃ (t : Nat) (i : Init) (s : State), s.accepts t i R.XSPI_CMD (word (2 ^ 31 + 1)) ∧ s.en P.XSPI = true ∧ s.flash = none ∧ (flashSize s < (s.rf
      R.XSPI_ADDR 28 0 : Nat) + 4096 ∨ (s.rf R.XSPI_ADDR 28 0 : Nat) % 4096 ≠ 0)) ∧
    (∃ (t : Nat) (i : Init) (s : State), s.accepts t i R.XSPI_CMD (word (2 ^ 31 + 1)) ∧ s.en P.XSPI = true ∧ s.flash = none ∧ (s.rf R.XSPI_ADDR 28 0
      : Nat) + 4096 ≤ flashSize s ∧ (s.rf R.XSPI_ADDR 28 0 : Nat) % 4096 = 0 ∧ xspiDenied s i (s.rf R.XSPI_ADDR 28 0 : Nat) 4096 = true) ∧
    (∃ (t : Nat) (i : Init) (s : State), s.accepts t i R.XSPI_CMD (word (2 ^ 31 + 1)) ∧ s.en P.XSPI = true ∧ s.flash = none ∧ (s.rf R.XSPI_ADDR 28 0
      : Nat) + 4096 ≤ flashSize s ∧ (s.rf R.XSPI_ADDR 28 0 : Nat) % 4096 = 0 ∧ (fun n => xspiDenied s i (s.rf R.XSPI_ADDR 28 0 : Nat) n = false ∧ (i
      = Init.safe ∨ i = Init.boot ∨ (mainSlot s (s.rf R.SEC_BOOT_STAT 0 0) : Nat × Nat).2 = 0 ∨ (s.rf R.XSPI_ADDR 28 0 : Nat) + n ≤ (mainSlot s (s.rf
      R.SEC_BOOT_STAT 0 0) : Nat × Nat).1 ∨ (mainSlot s (s.rf R.SEC_BOOT_STAT 0 0) : Nat × Nat).1 + (mainSlot s (s.rf R.SEC_BOOT_STAT 0 0) : Nat ×
      Nat).2 ≤ (s.rf R.XSPI_ADDR 28 0 : Nat))) 4096) ∧
    (∃ (t : Nat) (i : Init) (s : State), s.accepts t i R.XSPI_CMD (word (2 ^ 31 + 2)) ∧ s.en P.XSPI = true ∧ s.flash = none ∧ (s.rf R.XSPI_ADDR 28 0
      : Nat) + 65536 ≤ flashSize s ∧ (s.rf R.XSPI_ADDR 28 0 : Nat) % 65536 = 0 ∧ (fun n => xspiDenied s i (s.rf R.XSPI_ADDR 28 0 : Nat) n = false ∧
      (i = Init.safe ∨ i = Init.boot ∨ (mainSlot s (s.rf R.SEC_BOOT_STAT 0 0) : Nat × Nat).2 = 0 ∨ (s.rf R.XSPI_ADDR 28 0 : Nat) + n ≤ (mainSlot s
      (s.rf R.SEC_BOOT_STAT 0 0) : Nat × Nat).1 ∨ (mainSlot s (s.rf R.SEC_BOOT_STAT 0 0) : Nat × Nat).1 + (mainSlot s (s.rf R.SEC_BOOT_STAT 0 0) :
      Nat × Nat).2 ≤ (s.rf R.XSPI_ADDR 28 0 : Nat))) 65536) ∧
    (∃ (t : Nat) (i : Init) (s : State), s.accepts t i R.XSPI_CMD (word (2 ^ 31 + 3)) ∧ s.en P.XSPI = true ∧ s.flash = none ∧ (s.rf R.XSPI_ADDR 28 0
      : Nat) + (s.rf R.XSPI_LEN 8 0 : Nat) ≤ flashSize s ∧ (s.rf R.XSPI_ADDR 28 0 : Nat) % 8 = 0 ∧ 8 ≤ (s.rf R.XSPI_LEN 8 0 : Nat) ∧ (s.rf R.XSPI_LEN
      8 0 : Nat) ≤ 256 ∧ (s.rf R.XSPI_ADDR 28 0 : Nat) % 256 + (s.rf R.XSPI_LEN 8 0 : Nat) ≤ 256 ∧ (regionOf (BitVec.toNat (s.rd R.XSPI_SRC) : Nat) =
      Region.main ∨ regionOf (BitVec.toNat (s.rd R.XSPI_SRC) : Nat) = Region.ret) ∧ (fun n => xspiDenied s i (s.rf R.XSPI_ADDR 28 0 : Nat) n = false
      ∧ (i = Init.safe ∨ i = Init.boot ∨ (mainSlot s (s.rf R.SEC_BOOT_STAT 0 0) : Nat × Nat).2 = 0 ∨ (s.rf R.XSPI_ADDR 28 0 : Nat) + n ≤ (mainSlot s
      (s.rf R.SEC_BOOT_STAT 0 0) : Nat × Nat).1 ∨ (mainSlot s (s.rf R.SEC_BOOT_STAT 0 0) : Nat × Nat).1 + (mainSlot s (s.rf R.SEC_BOOT_STAT 0 0) :
      Nat × Nat).2 ≤ (s.rf R.XSPI_ADDR 28 0 : Nat))) (s.rf R.XSPI_LEN 8 0 : Nat)) ∧
    (∃ (s : State) (f : FlashOp), s.flash = some f ∧ f.erase = true ∧ f.ofs + f.len ≤ 2 ^ 29) ∧
    (∃ (s : State) (f : FlashOp), s.flash = some f ∧ f.erase = false ∧ f.data.length = f.len ∧ (∀ b ∈ f.data, b < 256)) ∧
    (∃ (s : State), s.flash.isSome = true) :=
  ⟨⟨0, .apu, fl [] (some fe), by decide +kernel⟩,
   ⟨0, .apu, fl [(R.XSPI_ADDR, 0x100)] none, by decide +kernel⟩,
   ⟨0, .apu, fl [(R.XSPI_PROT_SIZE 0, 0x1000)] none, by decide +kernel⟩,
   ⟨0, .apu, fl [] none, by decide +kernel⟩,
   ⟨0, Init.safe, fl [] none, by decide +kernel⟩,
   ⟨0, Init.safe, fl [(R.XSPI_LEN, 8), (R.XSPI_SRC, 0x10000000)] none, by decide +kernel⟩,
   ⟨fl [] (some fe), fe, by decide +kernel⟩,
   ⟨fl [] (some fp), fp, by decide +kernel⟩,
   ⟨fl [] (some fp), by decide +kernel⟩⟩

end Nvm


namespace Pattern

def run (q : Fin 16) (st : Word) (l : List (Nat × Word)) : State :=
  { onWith ([(R.CTRL P.PAT, 1), (R.PAT_STATE q, st)] ++ l) with pat := { on.pat with k := [(32 * 15 + 31, 0x7FFFFFF0)] } }

theorem test_hypotheses_PatternInstructionsDoAsTabled :
    (∃ (q : Fin 16) (s : State), s.en P.PAT = true ∧ (s.rf (R.PAT_STATE q.val) 10 8 = 1 ∨ s.rf (R.PAT_STATE q.val) 10 8 = 2)) ∧
    (∃ (q : Fin 16) (s : State), s.en P.PAT = true ∧ (s.rf (R.PAT_STATE q.val) 10 8 = 1 ∨ s.rf (R.PAT_STATE q.val) 10 8 = 2)) ∧
    (∃ (q : Fin 16) (s : State) (n : Fin 4096), s.en P.PAT = true ∧ (s.rf (R.PAT_STATE q.val) 10 8 = 1 ∨ s.rf (R.PAT_STATE q.val) 10 8 = 2) ∧ n.val ≠
      0) ∧
    (∃ (q : Fin 16) (s : State) (n : Fin 65536), s.en P.PAT = true ∧ (s.rf (R.PAT_STATE q.val) 10 8 = 1 ∨ s.rf (R.PAT_STATE q.val) 10 8 = 2) ∧ n.val
      ≠ 0) ∧
    (∃ (q : Fin 16) (s : State), s.en P.PAT = true ∧ (s.rf (R.PAT_STATE q.val) 10 8 = 1 ∨ s.rf (R.PAT_STATE q.val) 10 8 = 2)) ∧
    (∃ (q : Fin 16) (s : State) (k : Fin 32), s.en P.PAT = true ∧ (s.rf (R.PAT_STATE q.val) 10 8 = 1 ∨ s.rf (R.PAT_STATE q.val) 10 8 = 2) ∧ (fun k =>
      sget (0#32) (32 * q.val + k.val) s.pat.k) k ≠ 0#32) ∧
    (∃ (t : Nat) (q : Fin 16) (r : Fin 4) (k : Fin 32) (s : State) (c : Instr), s.en P.PAT = true ∧ (s.rf (R.PAT_STATE q.val : Nat) 10 8 = 1 ∨ s.rf
      (R.PAT_STATE q.val : Nat) 10 8 = 2) ∧ (c = Instr.patRamp t q r k 0 ∨ c = Instr.patHold t q 0 ∨ sget (0#32) (32 * q.val + k.val) s.pat.k = 0#32
      ∧ (c = Instr.patWaitTick t q k ∨ c = Instr.patSync t q k))) ∧
    (∃ (t : Nat) (q : Fin 16) (r : Fin 4) (k : Fin 32) (s : State) (n : Fin 4096) (m : Fin 65536) (count : Fin 65536) (b : Bool) (addr : Fin 256)
      (flag : Fin 16) (c : Instr), (s.en P.PAT = false ∨ s.rf (R.PAT_STATE q.val : Nat) 10 8 ≠ 1 ∧ s.rf (R.PAT_STATE q.val : Nat) 10 8 ≠ 2) ∧ c ∈
      [Instr.patEnd t q, Instr.patSet t q r k, Instr.patAdd t q r k, Instr.patRamp t q r k n, Instr.patHold t q m, Instr.patLoop t q b addr count,
      Instr.patWaitTick t q k, Instr.patSync t q k, Instr.patBranchFlag t q b addr flag]) :=
  ⟨⟨15, run 15 0x1FF [], by decide +kernel⟩,
   ⟨15, run 15 0x1FF [(R.PAT_V 15 3, 0x7fffffff)], by decide +kernel⟩,
   ⟨15, run 15 0x1FF [(R.PAT_V 15 3, 0x7fffffff)], 4095, by decide +kernel⟩,
   ⟨15, run 15 0x1FF [], 65535, by decide +kernel⟩,
   ⟨15, run 15 0x2FF [], by decide +kernel⟩,
   ⟨15, run 15 0x2FF [], 31, by decide +kernel⟩,
   ⟨0, 15, 0, 30, run 15 0x2FF [], .patSync 0 15 30, by decide +kernel⟩,
   ⟨0, 15, 0, 0, run 15 0x3FF [], 0, 0, 4, true, 3, 0, .patLoop 0 15 true 3 4, by decide +kernel, by simp⟩⟩

theorem test_hypotheses_ProgramAndConstantWindows :
    (∃ (t : Nat) (i : Init) (w : Word) (s : State), s.accepts t i R.PAT_PROG_DATA w ∧ (s.rb R.PAT_RUN ((s.rf R.PAT_PROG_ADDR 11 0 : Nat) / 256) =
      false ∧ bitOf (s.sh R.PAT_RUN) ((s.rf R.PAT_PROG_ADDR 11 0 : Nat) / 256) = false)) ∧
    (∃ (t : Nat) (i : Init) (w : Word) (s : State), s.accepts t i R.PAT_PROG_DATA w ∧ ¬(s.rb R.PAT_RUN ((s.rf R.PAT_PROG_ADDR 11 0 : Nat) / 256) =
      false ∧ bitOf (s.sh R.PAT_RUN) ((s.rf R.PAT_PROG_ADDR 11 0 : Nat) / 256) = false)) ∧
    (∃ (t : Nat) (s : State), (s.at t).answers P.PAT = true) ∧
    (∃ (t : Nat) (i : Init) (w : Word) (s : State), s.accepts t i R.PAT_K_DATA w) ∧
    (∃ (t : Nat) (s : State), (s.at t).answers P.PAT = true) :=
  ⟨⟨0, Init.safe, 9, onWith [(R.PAT_PROG_ADDR, 0xFFF)], by decide +kernel⟩,
   ⟨0, Init.safe, 9, onWith [(R.PAT_PROG_ADDR, 0xFFF), (R.PAT_RUN, 0x8000)], by decide +kernel⟩,
   ⟨0, { onWith [(R.PAT_PROG_ADDR, 0xFFF)] with pat := { on.pat with prog := [(4095, 7)] } }, by decide +kernel⟩,
   ⟨0, Init.safe, 9, onWith [(R.PAT_K_ADDR, 0x1FF)], by decide +kernel⟩,
   ⟨0, { onWith [(R.PAT_K_ADDR, 0x1FF)] with pat := { on.pat with kSh := [(511, 7)] } }, by decide +kernel⟩⟩

end Pattern


namespace Photo

def withEdits (l : List RmapEdit) (s : State) : State := { s with nextTick := 8000000, frm := { s.frm with kind := 1 }, pho := { s.pho with edits := l } }

def rmapOn (l : List (Nat × Word)) : State := ((onWith ([(R.PHO_RMAP_BASE, 0x10000000), (R.WRP_GEOM 0, 0x40070007)] ++ l)).stLE 0x10000000 4 0x80000005)

def withSnap (k : Option (Nat × Nat)) (tx : Nat) (l : List (Nat × Word)) : State := { onWith l with pho := { on.pho with snap := k, tx := tx, hour := some 7 } }

/-- A snapshot state with tile 3 on and its dose region in eMRAM. -/
def snapNv (k : Option (Nat × Nat)) (tx : Nat) (l : List (Nat × Word)) : State :=
  withSnap k tx ([(R.SCN_ARR, 0x800), (R.WRP_GEOM 3, 0x40070007), (R.NVM_WIN_STAT, 7), (R.NVM_REGION_BASE 0, 0), (R.NVM_REGION_SIZE 0, 0x1000000), (R.NVM_REGION_WR 0, 0xFF)] ++ l)

theorem test_hypotheses_RepairMapAndThresholdCommands :
    (∃ (t : Nat) (i : Init) (w : Word) (s : State), s.accepts t i R.PHO_RMAP_CMD (putBits w 2 0 1) ∧ rmapInvalid (s.rd R.PHO_RMAP_E0 : Word) = true) ∧
    (∃ (t : Nat) (i : Init) (w : Word) (s : State), s.accepts t i R.PHO_RMAP_CMD (putBits w 2 0 1) ∧ rmapInvalid (s.rd R.PHO_RMAP_E0 : Word) = false
      ∧ rmapRange s (s.rd R.PHO_RMAP_E0 : Word) = true) ∧
    (∃ (t : Nat) (i : Init) (w : Word) (s : State), s.accepts t i R.PHO_RMAP_CMD (putBits w 2 0 1) ∧ rmapInvalid (s.rd R.PHO_RMAP_E0 : Word) = false
      ∧ rmapRange s (s.rd R.PHO_RMAP_E0 : Word) = false ∧ (47 < s.pho.edits.length)) ∧
    (∃ (t : Nat) (i : Init) (w : Word) (s : State), s.accepts t i R.PHO_RMAP_CMD (putBits w 2 0 1) ∧ rmapInvalid (s.rd R.PHO_RMAP_E0 : Word) = false
      ∧ rmapRange s (s.rd R.PHO_RMAP_E0 : Word) = false ∧ ¬(47 < s.pho.edits.length)) ∧
    (∃ (t : Nat) (i : Init) (w : Word) (s : State), s.accepts t i R.PHO_RMAP_CMD (putBits w 2 0 2) ∧ (47 < s.pho.edits.length)) ∧
    (∃ (t : Nat) (i : Init) (w : Word) (s : State), s.accepts t i R.PHO_RMAP_CMD (putBits w 2 0 2) ∧ ¬(47 < s.pho.edits.length)) ∧
    (∃ (t : Nat) (i : Init) (w : Word) (s : State), s.accepts t i R.PHO_RMAP_CMD (putBits w 2 0 3) ∧ bitsOf w 29 16 < (rmapEntries s).length) ∧
    (∃ (t : Nat) (i : Init) (w : Word) (s : State), s.accepts t i R.PHO_RMAP_CMD (putBits w 2 0 3) ∧ (rmapEntries s).length ≤ bitsOf w 29 16) ∧
    (∃ (t : Nat) (i : Init) (w : Word) (s : State) (k : Nat), s.accepts t i R.PHO_RMAP_CMD (putBits w 2 0 4) ∧ rmapFind s (s.rd R.PHO_RMAP_E0 : Word)
      = some k ∧ k < 2 ^ 14) ∧
    (∃ (t : Nat) (i : Init) (w : Word) (s : State), s.accepts t i R.PHO_RMAP_CMD (putBits w 2 0 4) ∧ rmapFind s (s.rd R.PHO_RMAP_E0 : Word) = none) ∧
    (∃ (s : State), s.pho.edits = []) ∧
    (∃ (t : Nat) (s : State) (e : RmapEdit) (l : List RmapEdit), s.pho.edits = e :: l ∧ s.frm.live = true ∧ s.en P.PHO = true ∧ rmapValid s = true ∧
      s.rf (R.STATUS P.CMP) 3 0 = 0 ∧ max s.now t + 20000 ≤ s.nextTick ∧ e.insert = true ∧ rmapFind s e.e0 = none ∧ (rmapEntries s).length < 16384 ∧
      writeStop Init.wb (BitVec.toNat (s.rd R.PHO_RMAP_BASE)) (16 * ((rmapEntries s).length + 1)) none (s.wb (R.CTRL P.PHO) 0 false) = none) ∧
    (∃ (t : Nat) (i : Init) (w : Word) (s : State), s.accepts t i R.PHO_DTH_DATA w) ∧
    (∃ (t : Nat) (s : State), (s.at t).answers P.PHO = true) :=
  ⟨⟨0, Init.safe, 0, rmapOn [(R.PHO_RMAP_E0, 0x01400000)], by decide +kernel⟩,
   ⟨0, Init.safe, 0, rmapOn [(R.PHO_RMAP_E0, 8)], by decide +kernel⟩,
   ⟨0, Init.safe, 0, withEdits (List.replicate 48 ⟨true, 0, 0, 0, false, false⟩) (rmapOn [(R.PHO_RMAP_E0, 7)]), by decide +kernel⟩,
   ⟨0, Init.safe, 0, rmapOn [(R.PHO_RMAP_E0, 7)], by decide +kernel⟩,
   ⟨0, Init.safe, 0, withEdits (List.replicate 48 ⟨true, 0, 0, 0, false, false⟩) (rmapOn []), by decide +kernel⟩,
   ⟨0, Init.safe, 0x8000, withEdits (List.replicate 47 ⟨true, 0, 0, 0, false, false⟩) (rmapOn []), by decide +kernel⟩,
   ⟨0, Init.safe, 0, rmapOn [], by decide +kernel⟩,
   ⟨0, Init.safe, 0x00010000, rmapOn [], by decide +kernel⟩,
   ⟨0, Init.safe, 0, rmapOn [(R.PHO_RMAP_E0, 5)], 0, by decide +kernel⟩,
   ⟨0, Init.safe, 0, rmapOn [], by decide +kernel⟩,
   ⟨rmapOn [], by decide +kernel⟩,
   ⟨0, withEdits [⟨true, 3, 1, 2, false, false⟩, ⟨true, 4, 0, 0, false, false⟩] (rmapOn [(R.CTRL P.PHO, 1)]), ⟨true, 3, 1, 2, false, false⟩, [⟨true,
     4, 0, 0, false, false⟩], by decide +kernel⟩,
   ⟨0, Init.safe, 0x04030201, onWith [(R.PHO_DTH_ADDR, 0xFFE)], by decide +kernel⟩,
   ⟨0, { onWith [(R.PHO_DTH_ADDR, 0xFFE)] with pho := { on.pho with dth := [(0, 9), (1, 8), (4094, 3), (4095, 255)] } }, by decide +kernel⟩⟩

theorem test_hypotheses_DoseSnapshotsRunSliceBySlice :
    (∃ (t : Nat) (s : State), (s.pho.hour = some (hourOf (s.at t) : Nat) ∨ s.rb R.PHO_DOSE_CTRL 1 = false)) ∧
    (∃ (t : Nat) (s : State) (n : Fin 4), s.pho.hour ≠ some (hourOf (s.at t) : Nat) ∧ s.rb R.PHO_DOSE_CTRL 1 = true ∧ s.pho.snap = none ∧ s.rb
      R.PHO_SNAP_STAT 0 = false ∧ tileFrom s 0 = some n.val ∧ (fun n k b => b.rb R.NVM_WIN_STAT 0 = true ∧ txRefusal ((fun n k b =>
      { owner := 3, direct := true, target := slotOfs b n (freeSlot b n), data := slotBytes b n k, act := none, upd := NvUpd.snap n.val, txn := b.nv.txn, phase := 0 })
      n k b) b = 0) n 0 (s.at t)) ∧
    (∃ (t : Nat) (s : State) (k : Nat), s.pho.hour ≠ some (hourOf (s.at t) : Nat) ∧ s.rb R.PHO_DOSE_CTRL 1 = true ∧ s.pho.snap = none ∧ s.rb
      R.PHO_SNAP_STAT 0 = false ∧ tileFrom s 0 = some k ∧ s.rb R.NVM_WIN_STAT 0 = false) ∧
    (∃ (t : Nat) (s : State) (k : Nat) (x : Nat × Nat), s.pho.hour ≠ some (hourOf (s.at t) : Nat) ∧ s.rb R.PHO_DOSE_CTRL 1 = true ∧ s.pho.snap = some
      x ∧ tileFrom s 0 = some k ∧ s.rb R.NVM_WIN_STAT 0 = false) ∧
    (∃ (t : Nat) (i : Init) (s : State), s.accepts t i R.PHO_SNAP_CMD 1#32 ∧ s.rb R.PHO_SNAP_STAT 0 = true) ∧
    (∃ (t : Nat) (i : Init) (s : State) (n : Fin 4), s.accepts t i R.PHO_SNAP_CMD 1#32 ∧ s.rb R.PHO_SNAP_STAT 0 = false ∧ tileFrom s 0 = some n.val ∧
      (fun n k b => b.rb R.NVM_WIN_STAT 0 = true ∧ txRefusal ((fun n k b =>
      { owner := 3, direct := true, target := slotOfs b n (freeSlot b n), data := slotBytes b n k, act := none, upd := NvUpd.snap n.val, txn := b.nv.txn, phase := 0 })
      n k b) b = 0) n 0 (s.at t)) ∧
    (∃ (t : Nat) (i : Init) (s : State) (k : Nat), s.accepts t i R.PHO_SNAP_CMD 1#32 ∧ s.rb R.PHO_SNAP_STAT 0 = false ∧ tileFrom s 0 = some k ∧ s.rb
      R.NVM_WIN_STAT 0 = false) ∧
    (∃ (t : Nat) (s : State) (n : Fin 4) (k : Nat), s.pho.snap = some (n.val, k) ∧ s.pho.tx = 2 ∧ k < 15 ∧ (fun n k b => b.rb R.NVM_WIN_STAT 0 = true
      ∧ txRefusal ((fun n k b =>
      { owner := 3, direct := true, target := slotOfs b n (freeSlot b n), data := slotBytes b n k, act := none, upd := NvUpd.snap n.val, txn := b.nv.txn, phase := 0 })
      n k b) b = 0) n (k + 1) (((fun (n : Fin 4) k =>
      { s with pho := { s.pho with seq := s.pho.seq.set (n.val) (s.pho.seq[n] + 1) n.isLt, slots := (fun (n : Fin 4) k => sset 99 (16 * n.val + k) (freeSlot s n) s.pho.slots) n k } })
      n k).at t)) ∧
    (∃ (t : Nat) (s : State) (n : Fin 4) (k : Nat) (m : Fin 4), s.pho.snap = some (n.val, k) ∧ s.pho.tx = 2 ∧ 15 ≤ k ∧ tileFrom s (n.val + 1) = some
      m.val ∧ (fun n k b => b.rb R.NVM_WIN_STAT 0 = true ∧ txRefusal ((fun n k b =>
      { owner := 3, direct := true, target := slotOfs b n (freeSlot b n), data := slotBytes b n k, act := none, upd := NvUpd.snap n.val, txn := b.nv.txn, phase := 0 })
      n k b) b = 0) m 0 (((fun (n : Fin 4) k =>
      { s with pho := { s.pho with seq := s.pho.seq.set (n.val) (s.pho.seq[n] + 1) n.isLt, slots := (fun (n : Fin 4) k => sset 99 (16 * n.val + k) (freeSlot s n) s.pho.slots) n k } })
      n k).at t)) ∧
    (∃ (s : State) (k : Fin 4), s.pho.snap = some (k.val, 15) ∧ s.pho.tx = 2 ∧ tileFrom s (k.val + 1) = none) ∧
    (∃ (s : State) (k : Nat × Nat), s.pho.snap = some k ∧ s.pho.tx = 3) ∧
    (∃ (s : State), (s.pho.snap = none ∨ s.pho.tx < 2)) ∧
    (∃ (t : Nat) (s : State) (n : Fin 4) (k : Nat), s.pho.snap = some (n.val, k) ∧ s.pho.tx = 0 ∧ s.rb R.PHO_SNAP_STAT 1 = true ∧ s.pho.retryAt ≤ max
      s.now t ∧ (fun n k b => b.rb R.NVM_WIN_STAT 0 = true ∧ txRefusal ((fun n k b =>
      { owner := 3, direct := true, target := slotOfs b n (freeSlot b n), data := slotBytes b n k, act := none, upd := NvUpd.snap n.val, txn := b.nv.txn, phase := 0 })
      n k b) b = 0) n k (s.at t)) ∧
    (∃ (t : Nat) (s : State) (k : Nat × Nat), s.pho.snap = some k ∧ s.pho.tx = 0 ∧ s.rb R.PHO_SNAP_STAT 1 = true ∧ s.pho.retryAt ≤ max s.now t ∧ s.rb
      R.NVM_WIN_STAT 0 = false) ∧
    (∃ (t : Nat) (s : State), (s.pho.snap = none ∨ s.pho.tx ≠ 0 ∨ s.rb R.PHO_SNAP_STAT 1 = false ∨ max s.now t < s.pho.retryAt)) ∧
    (∃ (t : Nat) (i : Init) (s : State), s.accepts t i R.PHO_SNAP_CMD 2#32 ∧ s.en P.PHO = true) ∧
    (∃ (t : Nat) (i : Init) (s : State), s.accepts t i R.PHO_SNAP_CMD 2#32 ∧ s.en P.PHO = false ∧ s.rb R.PHO_SNAP_STAT 0 = true) ∧
    (∃ (t : Nat) (i : Init) (s : State), s.accepts t i R.PHO_SNAP_CMD 2#32 ∧ s.en P.PHO = false ∧ s.rb R.PHO_SNAP_STAT 0 = false ∧ s.flt.due = [] ∧
      (∀ (n : Fin 4), s.tileOn n = true → ∀ k < 16, writeStop Init.wb (sliceAddr s n k) (sliceLen s n k * s.tw n * 2) (partialUe s (sliceAddr s n k)
      (sliceLen s n k * s.tw n * 2)) s = none)) ∧
    (∃ (s : State), s.rb R.PHO_SNAP_STAT 0 = true ∧ s.pho.snap = none ∧ s.rf R.PHO_SNAP_STAT 15 8 = 0) ∧
    (∃ (s : State), s.rb R.PHO_SNAP_STAT 0 = true ∧ s.pho.snap = none ∧ s.rf R.PHO_SNAP_STAT 15 8 ≠ 0) :=
  ⟨⟨0, withSnap none 0 [(R.PHO_DOSE_CTRL, 0)], by decide +kernel⟩,
   ⟨0, snapNv none 0 [(R.PHO_DOSE_CTRL, 2)], 3, by decide +kernel⟩,
   ⟨0, withSnap none 0 [(R.PHO_DOSE_CTRL, 2), (R.SCN_ARR, 0x800), (R.WRP_GEOM 3, 0x40070007)], 3, by decide +kernel⟩,
   ⟨0, withSnap (some (3, 9)) 0 [(R.PHO_DOSE_CTRL, 2), (R.PHO_SNAP_STAT, 1), (R.SCN_ARR, 0x800), (R.WRP_GEOM 3, 0x40070007)], 3, (3, 9),
     by decide +kernel⟩,
   ⟨0, Init.safe, withSnap (some (0, 3)) 0 [(R.PHO_SNAP_STAT, 1)], by decide +kernel⟩,
   ⟨0, Init.safe, snapNv none 0 [], 3, by decide +kernel⟩,
   ⟨0, Init.safe, withSnap none 0 [(R.SCN_ARR, 0x800), (R.WRP_GEOM 3, 0x40070007)], 3, by decide +kernel⟩,
   ⟨0, snapNv (some (3, 14)) 2 [(R.PHO_SNAP_STAT, 1)], 3, 14, by decide +kernel⟩,
   ⟨0, snapNv (some (2, 15)) 2 [(R.PHO_SNAP_STAT, 1), (R.WRP_GEOM 2, 0x40070007)], 2, 15, 3, by decide +kernel⟩,
   ⟨withSnap (some (3, 15)) 2 [(R.PHO_SNAP_STAT, 1)], 3, by decide +kernel⟩,
   ⟨withSnap (some (3, 15)) 3 [(R.PHO_SNAP_STAT, 1)], (3, 15), by decide +kernel⟩,
   ⟨withSnap (some (3, 15)) 1 [], by decide +kernel⟩,
   ⟨5, snapNv (some (3, 14)) 0 [(R.PHO_SNAP_STAT, 2)], 3, 14, by decide +kernel⟩,
   ⟨5, withSnap (some (3, 14)) 0 [(R.PHO_SNAP_STAT, 2)], (3, 14), by decide +kernel⟩,
   ⟨0, withSnap (some (3, 14)) 0 [], by decide +kernel⟩,
   ⟨0, Init.safe, withSnap none 0 [(R.CTRL P.PHO, 1)], by decide +kernel⟩,
   ⟨0, Init.safe, withSnap none 0 [(R.PHO_SNAP_STAT, 1)], by decide +kernel⟩,
   ⟨0, Init.safe, withSnap none 0 [(R.SCN_ARR, 0x800), (R.WRP_GEOM 3, 0x40070007), (R.PHO_DOSE_BASE 3, 0x10000000)], by decide +kernel⟩,
   ⟨withSnap none 0 [(R.PHO_SNAP_STAT, 0x41)], by decide +kernel⟩,
   ⟨withSnap none 0 [(R.PHO_SNAP_STAT, 0x141)], by decide +kernel⟩⟩

end Photo


namespace Power

def pwrS (c : Option Nat) (e : Bool) (tr : Option Nat) (l : List (Nat × Word)) : State := { onWith l with pwr := { on.pwr with cmd := c, entering := e, trans := tr }, tickNum := 5 }

def slp (f : PwrSt → PwrSt) (s : State) : State := { s with pwr := f s.pwr }

def at_ (n : Nat) (s : State) : State := { s with now := n }

theorem test_hypotheses_PowerStatesAreEnteredAndLeft :
    (∃ (t : Nat) (i : Init) (w : Word) (s : State), s.accepts t i R.PWR_CMD w ∧ (i = Init.apu ∨ i = Init.safe ∨ i = Init.host) ∧ s.pwr.cmd = none ∧ 1
      ≤ (bitsOf w 2 0 : Nat) ∧ (bitsOf w 2 0 : Nat) ≤ 4 ∧ (2 ≤ (bitsOf w 2 0 : Nat) → restful s = true)) ∧
    (∃ (t : Nat) (i : Init) (w : Word) (s : State), s.accepts t i R.PWR_CMD w ∧ (i = Init.apu ∨ i = Init.safe ∨ i = Init.host) ∧ (s.pwr.cmd ≠ none ∨
      (bitsOf w 2 0 : Nat) = 0 ∨ 4 < (bitsOf w 2 0 : Nat))) ∧
    (∃ (t : Nat) (i : Init) (w : Word) (s : State), s.accepts t i R.PWR_CMD w ∧ (i = Init.apu ∨ i = Init.safe ∨ i = Init.host) ∧ s.pwr.cmd = none ∧ 2
      ≤ (bitsOf w 2 0 : Nat) ∧ (bitsOf w 2 0 : Nat) ≤ 4 ∧ restful s = false) ∧
    (∃ (wfi : Fin 16) (s : State), s.pwr.cmd = some 1 ∧ (wfi.val &&& s.rf (R.CPU_HART_STAT 0 : Nat) 3 0 = s.rf (R.CPU_HART_STAT 0 : Nat) 3 0) ∧
      ¬(s.rd R.PWR_WAKE_PEND &&& s.rd R.PWR_WAKE_EN ≠ 0#32) ∧ apuWoken s = 0) ∧
    (∃ (wfi : Fin 16) (s : State), s.pwr.cmd = some 1 ∧ (wfi.val &&& s.rf (R.CPU_HART_STAT 0 : Nat) 3 0 = s.rf (R.CPU_HART_STAT 0 : Nat) 3 0) ∧ (s.rd
      R.PWR_WAKE_PEND &&& s.rd R.PWR_WAKE_EN ≠ 0#32)) ∧
    (∃ (s : State) (c : Nat), s.pwr.cmd = some c ∧ 2 ≤ c ∧ s.pwr.began < s.tickNum ∧ s.rf R.SEC_UPD_STAT 2 0 ≠ 3 ∧ s.pwr.entering = false ∧ restful s
      = true) ∧
    (∃ (s : State) (c : Nat), s.pwr.cmd = some c ∧ 2 ≤ c ∧ s.pwr.began < s.tickNum ∧ s.rf R.SEC_UPD_STAT 2 0 ≠ 3 ∧ s.pwr.entering = false ∧ restful s
      = false) ∧
    (∃ (t : Nat) (wfi : Fin 16) (s : State) (c : Nat), s.pwr.cmd = some c ∧ 2 ≤ c ∧ s.pwr.began < s.tickNum ∧ s.rf R.SEC_UPD_STAT 2 0 ≠ 3 ∧
      s.pwr.entering = true ∧ (¬((wfi.val &&& s.rf (R.CPU_HART_STAT 0 : Nat) 3 0 = s.rf (R.CPU_HART_STAT 0 : Nat) 3 0) ∧ (∀ x < 4, s.rf
      (R.DMV_RING_STATE x) 22 16 = 0))) ∧ max s.now t < s.pwr.entryAt + 1000000) ∧
    (∃ (t : Nat) (wfi : Fin 16) (s : State) (c : Nat), s.pwr.cmd = some c ∧ 2 ≤ c ∧ s.pwr.began < s.tickNum ∧ s.rf R.SEC_UPD_STAT 2 0 ≠ 3 ∧
      s.pwr.entering = true ∧ (¬((wfi.val &&& s.rf (R.CPU_HART_STAT 0 : Nat) 3 0 = s.rf (R.CPU_HART_STAT 0 : Nat) 3 0) ∧ (∀ x < 4, s.rf
      (R.DMV_RING_STATE x) 22 16 = 0))) ∧ s.pwr.entryAt + 1000000 ≤ max s.now t) ∧
    (∃ (t : Nat) (wfi : Fin 16) (s : State) (c : Nat) (q : Nat), s.pwr.cmd = some c ∧ 2 ≤ c ∧ s.pwr.began < s.tickNum ∧ s.rf R.SEC_UPD_STAT 2 0 ≠ 3 ∧
      s.pwr.entering = true ∧ (wfi.val &&& s.rf (R.CPU_HART_STAT 0 : Nat) 3 0 = s.rf (R.CPU_HART_STAT 0 : Nat) 3 0) ∧ (∀ x < 4, s.rf
      (R.DMV_RING_STATE x) 22 16 = 0) ∧ 3 ≤ c ∧ ¬(s.nvm.redo = none ∧ s.nvm.direct = none) ∧ s.pwr.quietAt = some q ∧ max s.now t < q + 50000000) ∧
    (∃ (t : Nat) (wfi : Fin 16) (s : State) (c : Nat) (q : Nat), s.pwr.cmd = some c ∧ 2 ≤ c ∧ s.pwr.began < s.tickNum ∧ s.rf R.SEC_UPD_STAT 2 0 ≠ 3 ∧
      s.pwr.entering = true ∧ (wfi.val &&& s.rf (R.CPU_HART_STAT 0 : Nat) 3 0 = s.rf (R.CPU_HART_STAT 0 : Nat) 3 0) ∧ (∀ x < 4, s.rf
      (R.DMV_RING_STATE x) 22 16 = 0) ∧ 3 ≤ c ∧ ¬(s.nvm.redo = none ∧ s.nvm.direct = none) ∧ s.pwr.quietAt = some q ∧ q + 50000000 ≤ max s.now t) ∧
    (∃ (s : State) (c : Nat), s.pwr.cmd = some c ∧ s.pwr.entering = true ∧ s.rf (R.CPU_HART_STAT 0 : Nat) 19 16 = s.rf (R.CPU_HART_STAT 0 : Nat) 3 0
      ∧ (∀ x < 4, s.rf (R.DMV_RING_STATE x) 22 16 = 0) ∧ (3 ≤ c → (s.nvm.redo = none ∧ s.nvm.direct = none)) ∧ s.rf R.SEC_UPD_STAT 2 0 ≠ 3 ∧ (s.rd
      R.PWR_WAKE_PEND &&& s.rd R.PWR_WAKE_EN ≠ 0#32)) ∧
    (∃ (s : State) (c : Nat), s.pwr.cmd = some c ∧ s.pwr.entering = true ∧ s.rf (R.CPU_HART_STAT 0 : Nat) 19 16 = s.rf (R.CPU_HART_STAT 0 : Nat) 3 0
      ∧ (∀ x < 4, s.rf (R.DMV_RING_STATE x) 22 16 = 0) ∧ (3 ≤ c → (s.nvm.redo = none ∧ s.nvm.direct = none)) ∧ s.rf R.SEC_UPD_STAT 2 0 ≠ 3 ∧ ¬(s.rd
      R.PWR_WAKE_PEND &&& s.rd R.PWR_WAKE_EN ≠ 0#32) ∧ restful s = false) ∧
    (∃ (s : State) (c : Nat), s.pwr.cmd = some c ∧ s.pwr.entering = true ∧ s.rf (R.CPU_HART_STAT 0 : Nat) 19 16 = s.rf (R.CPU_HART_STAT 0 : Nat) 3 0
      ∧ (∀ x < 4, s.rf (R.DMV_RING_STATE x) 22 16 = 0) ∧ (3 ≤ c → (s.nvm.redo = none ∧ s.nvm.direct = none)) ∧ s.rf R.SEC_UPD_STAT 2 0 ≠ 3 ∧ ¬(s.rd
      R.PWR_WAKE_PEND &&& s.rd R.PWR_WAKE_EN ≠ 0#32) ∧ restful s = true ∧ c = 2) ∧
    (∃ (s : State) (c : Nat), s.pwr.cmd = some c ∧ s.pwr.entering = true ∧ s.rf (R.CPU_HART_STAT 0 : Nat) 19 16 = s.rf (R.CPU_HART_STAT 0 : Nat) 3 0
      ∧ (∀ x < 4, s.rf (R.DMV_RING_STATE x) 22 16 = 0) ∧ (3 ≤ c → (s.nvm.redo = none ∧ s.nvm.direct = none)) ∧ s.rf R.SEC_UPD_STAT 2 0 ≠ 3 ∧ ¬(s.rd
      R.PWR_WAKE_PEND &&& s.rd R.PWR_WAKE_EN ≠ 0#32) ∧ restful s = true ∧ c = 3) ∧
    (∃ (s : State) (c : Nat), s.pwr.cmd = some c ∧ s.pwr.entering = true ∧ s.rf (R.CPU_HART_STAT 0 : Nat) 19 16 = s.rf (R.CPU_HART_STAT 0 : Nat) 3 0
      ∧ (∀ x < 4, s.rf (R.DMV_RING_STATE x) 22 16 = 0) ∧ (3 ≤ c → (s.nvm.redo = none ∧ s.nvm.direct = none)) ∧ s.rf R.SEC_UPD_STAT 2 0 ≠ 3 ∧ ¬(s.rd
      R.PWR_WAKE_PEND &&& s.rd R.PWR_WAKE_EN ≠ 0#32) ∧ restful s = true ∧ c = 4) ∧
    (∃ (s : State), isOff s = true ∧ s.pwr.wakePin = true) ∧
    (∃ (s : State), isOff s = false ∧ s.thm.shut = true) ∧
    (∃ (t : Nat) (s : State) (src : Fin 9), isOff s = false ∧ s.thm.shut = false ∧ (src.val = 5 → alarmDue (s.at t) = true) ∧ s.rf R.PWR_STAT 10 8 =
      0 ∧ src.val < 8) ∧
    (∃ (t : Nat) (s : State) (src : Fin 9), isOff s = false ∧ s.thm.shut = false ∧ (src.val = 5 → alarmDue (s.at t) = true) ∧ s.rf R.PWR_STAT 10 8 =
      1 ∧ src.val = 8) ∧
    (∃ (t : Nat) (s : State) (src : Fin 9), isOff s = false ∧ s.thm.shut = false ∧ (src.val = 5 → alarmDue (s.at t) = true) ∧ s.rf R.PWR_STAT 10 8 =
      2 ∧ src.val < 8 ∧ s.rb R.PWR_WAKE_EN src.val = true) ∧
    (∃ (t : Nat) (s : State) (src : Fin 9), isOff s = false ∧ s.thm.shut = false ∧ (src.val = 5 → alarmDue (s.at t) = true) ∧ s.rf R.PWR_STAT 10 8 =
      3 ∧ src.val < 8 ∧ src.val ≠ 2 ∧ s.rb R.PWR_WAKE_EN src.val = true) ∧
    (∃ (t : Nat) (i : Init) (w : Word) (s : State), s.accepts t i R.PWR_LEVEL_REQ w ∧ s.pwr.trans = none ∧ s.pwr.settle = none ∧ s.rb
      R.PWR_LEVEL_STAT 4 = false ∧ max (bitsOf w 1 0) (s.rf R.PWR_LEVEL_STAT 17 16) ≠ s.rf R.PWR_LEVEL_STAT 13 12) ∧
    (∃ (s : State) (l : Nat), s.pwr.trans = some l ∧ l < 4 ∧ s.rb R.PWR_LEVEL_STAT 4 = false ∧ max (s.rf R.PWR_LEVEL_STAT 9 8) (s.rf R.PWR_LEVEL_STAT
      17 16) = l ∧ s.rf R.PWR_LEVEL_STAT 13 12 < l ∧ s.pwr.settle = none) ∧
    (∃ (s : State) (l : Nat), s.pwr.trans = some l ∧ l < 4 ∧ s.rb R.PWR_LEVEL_STAT 4 = false ∧ max (s.rf R.PWR_LEVEL_STAT 9 8) (s.rf R.PWR_LEVEL_STAT
      17 16) = l ∧ l ≤ s.rf R.PWR_LEVEL_STAT 13 12 ∧ s.pwr.settle = none ∧ s.rf R.PWR_PMIC_CFG 15 8 ≠ 0) ∧
    (∃ (t : Nat) (s : State) (l : Nat) (x : Nat), s.pwr.trans = some l ∧ l < 4 ∧ s.rb R.PWR_LEVEL_STAT 4 = false ∧ max (s.rf R.PWR_LEVEL_STAT 9 8)
      (s.rf R.PWR_LEVEL_STAT 17 16) = l ∧ l ≤ s.rf R.PWR_LEVEL_STAT 13 12 ∧ s.pwr.settle = some x ∧ x ≤ max s.now t) ∧
    (∃ (t : Nat) (s : State) (l : Nat), s.pwr.trans = some l ∧ l < 4 ∧ s.pwr.settle = none ∧ s.pwr.asked + s.rf R.PWR_PMIC_CFG 7 0 * 100000 ≤ max
      s.now t) ∧
    (∃ (t : Nat) (s : State) (l : Nat), s.pwr.trans = some l ∧ l < 4 ∧ s.pwr.settle = none ∧ max s.now t < s.pwr.asked + s.rf R.PWR_PMIC_CFG 7 0 *
      100000) :=
  ⟨⟨0, .host, 4, pwrS none false none [(R.SYS_MODE, 5)], by decide +kernel⟩,
   ⟨0, .apu, 5, pwrS none false none [], by decide +kernel⟩,
   ⟨0, Init.safe, 3, pwrS none false none [(R.SYS_MODE, 0x13)], by decide +kernel⟩,
   ⟨15, pwrS (some 1) false none [], by decide +kernel⟩,
   ⟨15, pwrS (some 1) false none [(R.PWR_WAKE_PEND, 2), (R.PWR_WAKE_EN, 2)], by decide +kernel⟩,
   ⟨pwrS (some 2) false none [(R.CPU_HART_STAT 0, 0x5), (R.SYS_MODE, 5)], 2, by decide +kernel⟩,
   ⟨pwrS (some 4) false none [(R.CPU_HART_STAT 0, 0x5), (R.SYS_MODE, 2)], 4, by decide +kernel⟩,
   ⟨0, 14, pwrS (some 2) true none [(R.CPU_HART_STAT 0, 0x5)], 2, by decide +kernel⟩,
   ⟨0, 14, at_ 1000000 (pwrS (some 2) true none [(R.CPU_HART_STAT 0, 0x5)]), 2, by decide +kernel⟩,
   ⟨0, 15, let s := slp (fun p => { p with quietAt := some 7 }) (pwrS (some 3) true none [(R.CPU_HART_STAT 0, 0x5)]);
     { s with nvm := { s.nvm with direct := some ⟨0, true, 0, [], none, .none, 0, 1⟩ } }, 3, 7, by decide +kernel⟩,
   ⟨0, 15, let s := at_ 50000007 (slp (fun p => { p with quietAt := some 7 }) (pwrS (some 3) true none [(R.CPU_HART_STAT 0, 0x5)]));
     { s with nvm := { s.nvm with direct := some ⟨0, true, 0, [], none, .none, 0, 1⟩ } }, 3, 7, by decide +kernel⟩,
   ⟨pwrS (some 3) true none [(R.PWR_WAKE_PEND, 2), (R.PWR_WAKE_EN, 2)], 3, by decide +kernel⟩,
   ⟨pwrS (some 3) true none [(R.SYS_MODE, 2)], 3, by decide +kernel⟩,
   ⟨pwrS (some 2) true none [(R.SYS_MODE, 5)], 2, by decide +kernel⟩,
   ⟨pwrS (some 3) true none [(R.SYS_MODE, 5)], 3, by decide +kernel⟩,
   ⟨pwrS (some 4) true none [(R.SYS_MODE, 5), (R.PWR_WAKE_EN, 0x10)], 4, by decide +kernel⟩,
   ⟨{ State.reset.wr R.PWR_DOMAIN_STAT 0 with pwr := { PwrSt.reset with wakePin := true } }, by decide +kernel⟩,
   ⟨{ on with thm := { on.thm with shut := true } }, by decide +kernel⟩,
   ⟨0, on, 7, by decide +kernel⟩,
   ⟨0, pwrS none false none [(R.PWR_STAT, 0x100)], 8, by decide +kernel⟩,
   ⟨0, pwrS none false none [(R.PWR_STAT, 0x200), (R.PWR_WAKE_EN, 0x80), (R.PWR_DOMAIN_STAT, 0x3847)], 7, by decide +kernel⟩,
   ⟨0, pwrS none false none [(R.PWR_STAT, 0x300), (R.PWR_WAKE_EN, 0x80), (R.PWR_DOMAIN_STAT, 0x201)], 7, by decide +kernel⟩,
   ⟨0, Init.safe, 2, onWith [(R.PWR_LEVEL_STAT, 0)], by decide +kernel⟩,
   ⟨pwrS none false (some 3) [(R.PWR_LEVEL_STAT, 0x301)], 3, by decide +kernel⟩,
   ⟨pwrS none false (some 1) [(R.PWR_LEVEL_STAT, 0x3101), (R.PWR_PMIC_CFG, 0x100)], 1, by decide +kernel⟩,
   ⟨0, slp (fun p => { p with settle := some 0 }) (pwrS none false (some 1) [(R.PWR_LEVEL_STAT, 0x3101)]), 1, 0, by decide +kernel⟩,
   ⟨0, slp (fun p => { p with asked := 0 }) (pwrS none false (some 3) [(R.PWR_LEVEL_STAT, 0x301), (R.PWR_PMIC_CFG, 0)]), 3, by decide +kernel⟩,
   ⟨0, slp (fun p => { p with asked := 100 }) (pwrS none false (some 3) [(R.PWR_LEVEL_STAT, 0x301), (R.PWR_PMIC_CFG, 1)]), 3, by decide +kernel⟩⟩

end Power


namespace Scan

def tileS (k : Fin 4) (f : TileSt → TileSt) (s : State) : State := { s with tile := s.tile.set k (f s.tile[k]) }

def scanS (l : List (Nat × Word)) (f : TileSt → TileSt) : State :=
  tileS 2 (fun x => f { x with sending := true, size := some (8, 8) }) { onWith ([(R.SCN_ARR, 0x400), (R.WRP_GEOM 2, 0x40070007), (R.STATUS (P.SPLT 2), 0x16), (R.CTRL (P.SPLT 2), 1)] ++ l) with
    frm := { on.frm with kind := 1, codes := on.frm.codes.set 2 (List.range 64) }, nextTick := 8000000 }

def fbS : State :=
  let h := [0x4C, 0x42, 0x46, 0x50, 2, 8, 0, 0, 16, 0, 8, 0, 0, 0, 0, 0, 3, 0, 0, 0, 0, 0, 0, 0, 0, 0, 0, 0]
  let s := { scanS [(R.SCN_FB_BASE, 0x100), (R.WRP_GEOM 2, 0x4007000F)] (fun x => { x with size := some (16, 8), fb := ⟨true, 1, 0, 0xFFF, false, 0, false, []⟩ }) with frm := { on.frm with kind := 2 } }
  (s.stBytes 0x20000110 [64]).stBytes 0x20000140 (h ++ bytesLE 4 (crc32c (h ++ [5, 16, 0])) ++ [5, 16, 0])

theorem test_hypotheses_LinesGoOutAsComposedOrAsBackground :
    (∃ (t : Nat) (k : Fin 4) (l : List Nat) (s : State), lineReady s k = true ∧ s.frm.kind = 1 ∧ (∀ r < 16, s.rb (R.SCN_RECT_EN k.val) r = false) ∧
      composedLine (s.at t : State) k (s.tile[k].line : Nat) = some l ∧ lineLate (s.at t : State) k (s.at t : State).now24 = false ∧ lineOver (s.at t
      : State) k (s.at t : State).now24 0 (withFill s k 0 l) = false) ∧
    (∃ (t : Nat) (k : Fin 4) (l : List Nat) (s : State), lineReady s k = true ∧ s.frm.kind = 1 ∧ (∀ r < 16, s.rb (R.SCN_RECT_EN k.val) r = false) ∧
      composedLine (s.at t : State) k (s.tile[k].line : Nat) = some l ∧ lineLate (s.at t : State) k (s.at t : State).now24 = true ∧ lineOver (s.at t
      : State) k (s.at t : State).now24 3 (withFill s k 3 l) = false ∧ s.tile[k].under = true) ∧
    (∃ (t : Nat) (k : Fin 4) (m : Nat) (l : List Nat) (s : State), lineReady s k = true ∧ s.frm.kind = 1 ∧ (∀ r < 16, s.rb (R.SCN_RECT_EN k.val) r =
      false) ∧ composedLine (s.at t : State) k (s.tile[k].line : Nat) = some l ∧ lineLate (s.at t : State) k (s.at t : State).now24 = false ∧ 24 *
      lineLatest s k (s.tile[k].line : Nat) = ↑(lineTurn (s.at t : State) k (s.at t : State).now24) ∧ m % 2 ^ (cdiv (s.lw k) 512 : Nat) ≠ 0 ∧
      lineOver (s.at t : State) k (s.at t : State).now24 (m % 2 ^ (cdiv (s.lw k) 512 : Nat)) (withFill s k (m % 2 ^ (cdiv (s.lw k) 512 : Nat)) l) =
      false ∧ s.tile[k].under = false) ∧
    (∃ (t : Nat) (k : Fin 4) (m : Nat) (l : List Nat) (s : State), lineReady s k = true ∧ s.frm.kind = 1 ∧ (∀ r < 16, s.rb (R.SCN_RECT_EN k.val) r =
      false) ∧ composedLine (s.at t : State) k (s.tile[k].line : Nat) = some l ∧ lineLate (s.at t : State) k (s.at t : State).now24 = false ∧ 24 *
      lineLatest s k (s.tile[k].line : Nat) = ↑(lineTurn (s.at t : State) k (s.at t : State).now24) ∧ m % 2 ^ (cdiv (s.lw k) 512 : Nat) ≠ 0 ∧
      lineOver (s.at t : State) k (s.at t : State).now24 (m % 2 ^ (cdiv (s.lw k) 512 : Nat)) (withFill s k (m % 2 ^ (cdiv (s.lw k) 512 : Nat)) l) =
      false ∧ s.tile[k].under = true) :=
  ⟨⟨0, 2, List.range 8, scanS [] id, by decide +kernel⟩,
   ⟨(lineLatest (scanS [] id) 2 0).toNat + 1, 2, List.range 8, scanS [] (fun x => { x with under := true }), by decide +kernel⟩,
   ⟨(lineLatest (scanS [] id) 2 0).toNat, 2, 1, List.range 8, scanS [] id, by decide +kernel⟩,
   ⟨(lineLatest (scanS [] id) 2 0).toNat, 2, 1, List.range 8, scanS [] (fun x => { x with under := true }), by decide +kernel⟩⟩

theorem test_hypotheses_MarksAndTagsCloseTheFrame :
    (∃ (k : Fin 4) (s : State), s.tile[k].sending = true ∧ s.linkUp k = true ∧ s.tile[k].marked = false ∧ s.tile[k].line = s.lh k ∧ s.frm.kind = 1 ∧
      (∀ (j : Fin 4), j ≠ k → s.tile[j].sending = false)) ∧
    (∃ (t : Nat) (i : Init) (k : Fin 4) (r : Fin 16) (w : Word) (s : State), s.accepts t i (R.SCN_RECT_DIV_TAG k.val r.val) w ∧ bitsOf w 15 0 =
      s.frame % 65536 ∧ s.tile[k].divRes[r] = 8 ∧ s.tile[k].calcDone.testBit r.val = false) ∧
    (∃ (t : Nat) (i : Init) (k : Fin 4) (r : Fin 16) (w : Word) (s : State), s.accepts t i (R.SCN_RECT_DIV_TAG k.val r.val) w ∧ bitsOf w 15 0 =
      s.frame % 65536 ∧ s.tile[k].divRes[r] = 8 ∧ s.tile[k].calcDone.testBit r.val = true ∧ s.rd (R.SCN_RECT_DIV k.val r.val) = s.rd (R.SCN_RECT_CALC
      k.val r.val)) :=
  ⟨⟨2, scanS [] (fun x => { x with line := 8 }), by decide +kernel⟩,
   ⟨0, Init.safe, 2, 0, 0x12340001, scanS [] (fun x => { x with line := 8, divRes := Vector.replicate 16 8 }), by decide +kernel⟩,
   ⟨0, Init.safe, 2, 15, 0x12340001, scanS [(R.SCN_RECT_DIV 2 15, 0x77), (R.SCN_RECT_CALC 2 15, 0x77)] (fun x =>
     { x with line := 8, divRes := Vector.replicate 16 8, calcDone := 0x8000 }), by decide +kernel⟩⟩

theorem test_hypotheses_ExternalSyncIsFollowedOrLost :
    (∃ (t : Nat) (s : State), s.rf R.SCN_SYNC 1 0 = 1 ∧ (∀ (x : Nat), x = s.sync.lastTick ∨ x = s.nextTick → x + (s.rf R.SCN_SYNC 25 16 * 1000 : Nat)
      < max s.now t ∨ max s.now t + (s.rf R.SCN_SYNC 25 16 * 1000 : Nat) < x)) ∧
    (∃ (t : Nat) (s : State), s.rf R.SCN_SYNC 1 0 = 1 ∧ s.sync.lost = false ∧ (s.tickNum + 1) % syncDiv s = 0 ∧ s.tickNum % syncDiv s ≠ 0 ∧
      s.nextTick ≤ max s.now t + (s.rf R.SCN_SYNC 25 16 * 1000 : Nat) ∧ max s.now t ≤ s.nextTick + (s.rf R.SCN_SYNC 25 16 * 1000 : Nat)) ∧
    (∃ (s : State), s.rf R.SCN_SYNC 1 0 = 1 ∧ 8 ≤ s.sync.missed ∧ s.sync.lost = false) ∧
    (∃ (s : State), s.rb R.SCN_SYNC_OUT 0 = true ∧ s.tickNum % syncDiv s = 0) ∧
    (∃ (s : State), s.sync.pinOut = true) :=
  ⟨⟨5000000, { onWith [(R.SCN_SYNC, 0x00640001)] with nextTick := 8000000 }, by decide +kernel, by rintro x (rfl | rfl) <;> decide +kernel⟩,
   ⟨7900000, { onWith [(R.SCN_SYNC, 0x00640101)] with nextTick := 8000000, tickNum := 1 }, by decide +kernel⟩,
   ⟨{ onWith [(R.SCN_SYNC, 0x00640001)] with sync := { on.sync with missed := 8 } }, by decide +kernel⟩,
   ⟨onWith [(R.SCN_SYNC_OUT, 1)], by decide +kernel⟩,
   ⟨{ on with sync := { on.sync with pinOut := true, outUntil := 9 } }, by decide +kernel⟩⟩

theorem test_hypotheses_FallbackLoadsAndRefreshes :
    (∃ (k : Fin 4) (l : List Nat) (s : State), (s.frm.kind = 2 ∧ (s.tile[k].fb : FbTile).loading = true ∧ (s.tile[k].fb : FbTile).ready = false ∧
      (s.tile[k].fb : FbTile).data = [] ∧ s.tile[k].sending = true) ∧ s.ue = [] ∧ ((s.tile[k].fb : FbTile).copy = 3 ∧ l = List.replicate ((s.lw k :
      Nat) * s.lh k) (s.rf R.SCN_FB_UNIFORM 11 0) ∨ (s.tile[k].fb : FbTile).copy ≠ 3 ∧ (fbRecord s k ((s.tile[k].fb : FbTile).copy - 1) : Option
      Nat).bind (fbCodes s k) = some l)) ∧
    (∃ (k : Fin 4) (s : State), (s.frm.kind = 2 ∧ (s.tile[k].fb : FbTile).loading = true ∧ (s.tile[k].fb : FbTile).ready = false ∧ (s.tile[k].fb :
      FbTile).data = [] ∧ s.tile[k].sending = true) ∧ s.ue = [] ∧ (s.tile[k].fb : FbTile).copy = 1 ∧ (fbRecord s k ((s.tile[k].fb : FbTile).copy - 1)
      : Option Nat).bind (fbCodes s k) = none) ∧
    (∃ (k : Fin 4) (s : State), (s.frm.kind = 2 ∧ (s.tile[k].fb : FbTile).loading = true ∧ (s.tile[k].fb : FbTile).ready = false ∧ (s.tile[k].fb :
      FbTile).data = [] ∧ s.tile[k].sending = true) ∧ s.ue = [] ∧ (s.tile[k].fb : FbTile).copy = 2 ∧ (fbRecord s k ((s.tile[k].fb : FbTile).copy - 1)
      : Option Nat).bind (fbCodes s k) = none) ∧
    (∃ (k : Fin 4) (s : State), s.frm.kind = 2 ∧ (s.tile[k].fb : FbTile).copy ≠ 0 ∧ (s.tile[k].fb : FbTile).loading = false ∧ s.rf R.SCN_FB_CTRL 7 0
      ≠ 0 ∧ s.rf R.SCN_FB_CTRL 7 0 ≤ (s.tile[k].fb : FbTile).frames) ∧
    (∃ (k : Fin 4) (s : State), (s.frm.kind ≠ 2 ∨ (s.tile[k].fb : FbTile).copy = 0 ∨ (s.tile[k].fb : FbTile).loading = true ∨ s.rf R.SCN_FB_CTRL 7 0
      = 0 ∨ (s.tile[k].fb : FbTile).frames < s.rf R.SCN_FB_CTRL 7 0)) :=
  ⟨⟨2, (List.range 128).map (fun x => if x / 8 % 2 = 0 then 5 else 1), fbS, by decide +kernel⟩,
   ⟨2, tileS 2 (fun x => { x with size := some (8, 8) }) fbS, by decide +kernel⟩,
   ⟨2, tileS 2 (fun x => { x with size := some (8, 8), fb := { x.fb with copy := 2 } }) fbS, by decide +kernel⟩,
   ⟨2, { scanS [(R.SCN_FB_CTRL, 4)] (fun x => { x with fb := ⟨false, 2, 4, 0xFFF, false, 0, false, []⟩ }) with frm := { on.frm with kind := 2 } },
     by decide +kernel⟩,
   ⟨2, on, by decide +kernel⟩⟩

end Scan


namespace Sched

def schS (d : List DueEntry) (l : List (Nat × Word)) : State := { (onWith ([(R.SCHED_TABLE_BASE, 0x00200000)] ++ l)).stLE 0x00203FE0 4 0x00FF0001 with sched := { on.sched with due := d } }

theorem test_hypotheses_SchedulerTableAndDueQueue :
    (∃ (t : Nat) (i : Init) (idx : Fin 512) (s : State), s.accepts t i R.SCHED_CMD (word (idx.val * 65536 + 1)) ∧ (5 ≤ (BitVec.toNat (s.rd (R.SCHED_E
      0)) : Nat) / 2 % 8 ∨ (BitVec.toNat (s.rd (R.SCHED_E 0)) : Nat) / 32 % 4 = 1 ∧ s.rd (R.SCHED_E 3) = 0#32)) ∧
    (∃ (t : Nat) (i : Init) (idx : Fin 512) (s : State), s.accepts t i R.SCHED_CMD (word (idx.val * 65536 + 1)) ∧ (¬(5 ≤ (BitVec.toNat (s.rd
      (R.SCHED_E 0)) : Nat) / 2 % 8 ∨ (BitVec.toNat (s.rd (R.SCHED_E 0)) : Nat) / 32 % 4 = 1 ∧ s.rd (R.SCHED_E 3) = 0#32)) ∧ schedFits s = false) ∧
    (∃ (t : Nat) (i : Init) (idx : Fin 512) (s : State), s.accepts t i R.SCHED_CMD (word (idx.val * 65536 + 1)) ∧ (¬(5 ≤ (BitVec.toNat (s.rd
      (R.SCHED_E 0)) : Nat) / 2 % 8 ∨ (BitVec.toNat (s.rd (R.SCHED_E 0)) : Nat) / 32 % 4 = 1 ∧ s.rd (R.SCHED_E 3) = 0#32)) ∧ schedFits s = true) ∧
    (∃ (t : Nat) (i : Init) (idx : Fin 512) (s : State), s.accepts t i R.SCHED_CMD (word (idx.val * 65536 + 2)) ∧ schedFits s = true) ∧
    (∃ (t : Nat) (i : Init) (idx : Fin 512) (s : State), s.accepts t i R.SCHED_CMD (word (idx.val * 65536 + 3)) ∧ schedFits s = true) ∧
    (∃ (t : Nat) (s : State) (e : DueEntry) (l : List DueEntry), (s.at t).answers P.SCHED = true ∧ s.sched.due = e :: l ∧ e.idx < 512 ∧ e.action < 8
      ∧ e.result < 4 ∧ l.length < 64) ∧
    (∃ (t : Nat) (s : State), (s.at t).answers P.SCHED = true ∧ s.sched.due = []) :=
  ⟨⟨0, Init.safe, 511, schS [] [(R.SCHED_E 0, 0x0A)], by decide +kernel⟩,
   ⟨0, Init.safe, 511, onWith [(R.SCHED_TABLE_BASE, 0x10000000)], by decide +kernel⟩,
   ⟨0, Init.safe, 511, schS [] [(R.SCHED_E 0, 0x03), (R.SCHED_E 7, 0xFFFFFFFF)], by decide +kernel⟩,
   ⟨0, Init.safe, 511, schS [] [], by decide +kernel⟩,
   ⟨0, Init.safe, 511, schS [] [], by decide +kernel⟩,
   ⟨0, schS [⟨511, 7, 3, 70000, 0x123456789AB⟩, ⟨1, 1, 1, 1, 1⟩] [], ⟨511, 7, 3, 70000, 0x123456789AB⟩, [⟨1, 1, 1, 1, 1⟩], by decide +kernel⟩,
   ⟨0, schS [] [], by decide +kernel⟩⟩

end Sched


namespace Secure

def secS (l : List (Nat × Word)) : State := onWith ([(R.SEC_STATUS, 4), (R.NVM_WIN_STAT, 7)] ++ l)

def sx0 : SessSt := ⟨none, none, none, [], [], none, 0, [], 0xFF, none, [], none, none⟩

def sx1 (k h : Option Nat) : SessSt := ⟨k, h, none, [], [], none, 0, [], 0xFF, none, [], none, none⟩

def ses1 (x : SessSt) (s : State) : State := { s with ses := { s.ses with sess := [(1023, x)] } }

def hs1 (s : State) : State := { s.wr (R.SEC_KEY_META 22) 0x80000000 with ses := { s.ses with sess := [(1023, sx1 none (some 3))] } }

def fullS (l : List (Nat × Word)) : State := { secS l with sec := { on.sec with audit := List.replicate 256 ⟨0, [], []⟩ } }

theorem test_hypotheses_KeysTrafficKeysAndOtp :
    (∃ (t : Nat) (i : Init) (slot : Fin 64) (good : Bool) (mac : Bool) (s : State) (op : Nat × Instr), op ∈ [(1, Instr.keyGenerate t i slot), (2,
      Instr.keyInstall t i slot good mac), (3, Instr.keyErase t i slot), (4, Instr.keyLock t i slot)] ∧ s.accepts t i R.SEC_KEY_CMD (word (op.1 *
      268435456 + slot.val)) ∧ (256 ≤ s.sec.audit.length)) ∧
    (∃ (t : Nat) (i : Init) (slot : Fin 64) (s : State), s.accepts t i R.SEC_KEY_CMD (word (268435456 + slot.val)) ∧ ¬(256 ≤ s.sec.audit.length) ∧
      (slot.val < 16 ∨ 48 ≤ slot.val)) ∧
    (∃ (t : Nat) (i : Init) (slot : Fin 64) (s : State), s.accepts t i R.SEC_KEY_CMD (word (268435456 + slot.val)) ∧ ¬(256 ≤ s.sec.audit.length) ∧ 16
      ≤ slot.val ∧ slot.val < 48 ∧ s.rb (R.SEC_KEY_META slot.val : Nat) 30 = true) ∧
    (∃ (t : Nat) (i : Init) (slot : Fin 64) (s : State), s.accepts t i R.SEC_KEY_CMD (word (268435456 + slot.val)) ∧ ¬(256 ≤ s.sec.audit.length) ∧ 16
      ≤ slot.val ∧ slot.val < 48 ∧ s.rb (R.SEC_KEY_META slot.val : Nat) 30 = false ∧ s.rb R.SEC_STATUS 2 = false) ∧
    (∃ (t : Nat) (i : Init) (slot : Fin 64) (s : State), s.accepts t i R.SEC_KEY_CMD (word (268435456 + slot.val)) ∧ ¬(256 ≤ s.sec.audit.length) ∧ 16
      ≤ slot.val ∧ slot.val < 48 ∧ s.rb (R.SEC_KEY_META slot.val : Nat) 30 = false ∧ s.rb R.SEC_STATUS 2 = true ∧ (s.sec.audit.length < 256 ∧ s.rf
      R.SEC_AUDIT_STAT 15 0 = 0 ∧ BitVec.toNat (s.rd R.SEC_AUDIT_SEQ) < 65536)) ∧
    (∃ (t : Nat) (i : Init) (slot : Fin 64) (s : State), s.accepts t i R.SEC_KEY_CMD (word (536870912 + slot.val)) ∧ installable slot.val = true ∧
      s.rb (R.SEC_KEY_META slot.val : Nat) 30 = false ∧ ¬(256 ≤ s.sec.audit.length)) ∧
    (∃ (t : Nat) (i : Init) (slot : Fin 64) (s : State), s.accepts t i R.SEC_KEY_CMD (word (536870912 + slot.val)) ∧ installable slot.val = true ∧
      s.rb (R.SEC_KEY_META slot.val : Nat) 30 = false ∧ ¬(256 ≤ s.sec.audit.length) ∧ (s.sec.audit.length < 256 ∧ s.rf R.SEC_AUDIT_STAT 15 0 = 0 ∧
      BitVec.toNat (s.rd R.SEC_AUDIT_SEQ) < 65536)) ∧
    (∃ (t : Nat) (i : Init) (slot : Fin 64) (s : State), s.accepts t i R.SEC_KEY_CMD (word (805306368 + slot.val)) ∧ slot.val < 8 ∧ ¬(256 ≤
      s.sec.audit.length)) ∧
    (∃ (t : Nat) (i : Init) (slot : Fin 64) (s : State), s.accepts t i R.SEC_KEY_CMD (word (805306368 + slot.val)) ∧ 8 ≤ slot.val ∧ s.rb
      (R.SEC_KEY_META slot.val : Nat) 30 = false ∧ (s.sec.audit.length < 256 ∧ s.rf R.SEC_AUDIT_STAT 15 0 = 0 ∧ BitVec.toNat (s.rd R.SEC_AUDIT_SEQ) <
      65536)) ∧
    (∃ (t : Nat) (i : Init) (slot : Fin 64) (s : State), s.accepts t i R.SEC_KEY_CMD (word (1073741824 + slot.val)) ∧ s.rb (R.SEC_KEY_META slot.val :
      Nat) 30 = false ∧ (s.sec.audit.length < 256 ∧ s.rf R.SEC_AUDIT_STAT 15 0 = 0 ∧ BitVec.toNat (s.rd R.SEC_AUDIT_SEQ) < 65536)) ∧
    (∃ (t : Nat) (i : Init) (e : Fin 1024) (s : State) (x : SessSt) (k : Nat), s.accepts t i R.SEC_REC_CMD (word (268435456 + e.val)) ∧ sessOf s
      e.val = some x ∧ x.hs = some k ∧ s.rb (R.SEC_KEY_META (16 + 2 * k)) 31 = true) ∧
    (∃ (t : Nat) (i : Init) (e : Fin 1024) (s : State) (x : SessSt), s.accepts t i R.SEC_REC_CMD (word (268435456 + e.val)) ∧ sessOf s e.val = some x
      ∧ x.hs = none) ∧
    (∃ (t : Nat) (i : Init) (e : Fin 1024) (s : State) (x : SessSt), s.accepts t i R.SEC_REC_CMD (word (536870912 + e.val)) ∧ sessOf s e.val = some x
      ∧ x.keys.isSome = true) ∧
    (∃ (t : Nat) (i : Init) (e : Fin 1024) (s : State) (x : SessSt), s.accepts t i R.SEC_REC_CMD (word (805306368 + e.val)) ∧ sessOf s e.val = some x
      ∧ x.keys.isSome = true) ∧
    (∃ (t : Nat) (i : Init) (w : Word) (s : State), s.accepts t i R.SEC_OTP_CMD (putBit w 31 true) ∧ (256 ≤ s.sec.audit.length)) ∧
    (∃ (t : Nat) (i : Init) (w : Word) (s : State), s.accepts t i R.SEC_OTP_CMD (putBit w 31 true) ∧ ¬(256 ≤ s.sec.audit.length) ∧ (¬(∀ k < 32, bitOf
      (s.rd R.SEC_OTP_DATA : Word) k = true → otpMay s.nv.lifecycle (32 * (bitsOf w 24 16 : Nat) + k) = true))) ∧
    (∃ (t : Nat) (i : Init) (w : Word) (s : State), s.accepts t i R.SEC_OTP_CMD (putBit w 31 true) ∧ ¬(256 ≤ s.sec.audit.length) ∧ (∀ k < 32, bitOf
      (s.rd R.SEC_OTP_DATA : Word) k = true → otpMay s.nv.lifecycle (32 * (bitsOf w 24 16 : Nat) + k) = true) ∧ otpReady s = false) ∧
    (∃ (t : Nat) (i : Init) (w : Word) (s : State), s.accepts t i R.SEC_OTP_CMD (putBit w 31 true) ∧ ¬(256 ≤ s.sec.audit.length) ∧ (∀ k < 32, bitOf
      (s.rd R.SEC_OTP_DATA : Word) k = true → otpMay s.nv.lifecycle (32 * (bitsOf w 24 16 : Nat) + k) = true) ∧ otpReady s = true) ∧
    (∃ (t : Nat) (i : Init) (w : Word) (s : State), s.accepts t i R.SEC_OTP_CMD (putBit w 31 true) ∧ (∀ k < 32, bitOf (s.rd R.SEC_OTP_DATA : Word) k
      = true → otpMay s.nv.lifecycle (32 * (bitsOf w 24 16 : Nat) + k) = true) ∧ otpReady s = true ∧ (s.sec.audit.length < 256 ∧ s.rf
      R.SEC_AUDIT_STAT 15 0 = 0 ∧ BitVec.toNat (s.rd R.SEC_AUDIT_SEQ) < 65536)) ∧
    (∃ (t : Nat) (s : State), (s.nv.raises = [] ∨ max s.now t < s.sec.otpAt + 60 * 10 ^ 9)) ∧
    (∃ (t : Nat) (s : State), s.nv.raises ≠ [] ∧ s.sec.otpAt + 60 * 10 ^ 9 ≤ max s.now t ∧ (otpReady s = false ∨ s.nv.lifecycle = 3)) ∧
    (∃ (t : Nat) (s : State) (k : Nat) (l : Nat), s.nv.raises = [(k, l)] ∧ s.sec.otpAt + 60 * 10 ^ 9 ≤ max s.now t ∧ otpReady s = true ∧
      s.nv.lifecycle ≠ 3 ∧ (s.sec.audit.length < 256 ∧ s.rf R.SEC_AUDIT_STAT 15 0 = 0 ∧ BitVec.toNat (s.rd R.SEC_AUDIT_SEQ) < 65536) ∧ k < 3 ∧ l ≤
      (rollbackField k).2) ∧
    (∃ (s : State), s.sec.draws < 2 ^ 20 ∧ s.rb R.SEC_STATUS 2 = true) ∧
    (∃ (s : State), (2 ^ 20 ≤ s.sec.draws ∨ s.rb R.SEC_STATUS 2 = false)) ∧
    (∃ (s : State), (2 ^ 20 ≤ s.sec.draws ∨ s.rb R.SEC_STATUS 2 = false)) :=
  ⟨⟨0, .safe, 63, false, false, fullS [], (3, Instr.keyErase 0 .safe 63), by simp, by decide +kernel, by decide +kernel⟩,
   ⟨0, Init.safe, 48, secS [], by decide +kernel⟩,
   ⟨0, Init.safe, 47, secS [(R.SEC_KEY_META 47, 0x40000000)], by decide +kernel⟩,
   ⟨0, Init.safe, 16, onWith [(R.SEC_STATUS, 0)], by decide +kernel⟩,
   ⟨0, Init.safe, 47, secS [], by decide +kernel⟩,
   ⟨0, Init.safe, 63, secS [], by decide +kernel⟩,
   ⟨0, Init.safe, 8, secS [], by decide +kernel⟩,
   ⟨0, Init.safe, 7, secS [], by decide +kernel⟩,
   ⟨0, Init.safe, 63, secS [(R.SEC_KEY_META 63, 0x80000000)], by decide +kernel⟩,
   ⟨0, Init.safe, 63, secS [(R.SEC_KEY_META 63, 0x80000000)], by decide +kernel⟩,
   ⟨0, Init.safe, 1023, hs1 (secS []), sx1 none (some 3), 3, by decide +kernel⟩,
   ⟨0, Init.safe, 1023, ses1 sx0 (secS []), sx0, by decide +kernel⟩,
   ⟨0, Init.safe, 1023, ses1 (sx1 (some 4) none) (secS []), sx1 (some 4) none, by decide +kernel⟩,
   ⟨0, Init.safe, 1023, ses1 (sx1 (some 4) none) (secS []), sx1 (some 4) none, by decide +kernel⟩,
   ⟨0, Init.safe, 0x00000000, fullS [(R.SEC_OTP_DATA, 1)], by decide +kernel⟩,
   ⟨0, Init.safe, 0x00000000, secS [(R.SEC_OTP_DATA, 1)], by decide +kernel⟩,
   ⟨0, Init.safe, 0x001C0000, secS [(R.SEC_OTP_DATA, 1), (R.NVM_WIN_STAT, 0)], by decide +kernel⟩,
   ⟨0, Init.safe, 0x001C0000, secS [(R.SEC_OTP_DATA, 1)], by decide +kernel⟩,
   ⟨0, Init.safe, 0x001C0000, { secS [(R.SEC_OTP_DATA, 1)] with nv := { on.nv with otp := [(28, 4)] } }, by decide +kernel⟩,
   ⟨0, secS [], by decide +kernel⟩,
   ⟨60000000000, { secS [(R.NVM_WIN_STAT, 0)] with nv := { on.nv with raises := [(1, 3)] } }, by decide +kernel⟩,
   ⟨60000000000, { secS [] with nv := { on.nv with raises := [(1, 256)] } }, 1, 256, by decide +kernel⟩,
   ⟨secS [], by decide +kernel⟩,
   ⟨{ secS [] with sec := { on.sec with draws := 1048576 } }, by decide +kernel⟩,
   ⟨onWith [(R.SEC_STATUS, 0)], by decide +kernel⟩⟩

end Secure


namespace Secure2

def secS (l : List (Nat × Word)) : State := onWith ([(R.SEC_STATUS, 4), (R.NVM_WIN_STAT, 7)] ++ l)

def sx0 : SessSt := ⟨none, none, none, [], [], none, 0, [], 0xFF, none, [], none, none⟩

def sx1 (k h : Option Nat) : SessSt := ⟨k, h, none, [], [], none, 0, [], 0xFF, none, [], none, none⟩

def ses1 (x : SessSt) (s : State) : State := { s with ses := { s.ses with sess := [(1023, x)] } }

def svc (op : Nat) (s : State) : State := ((s.wr R.SEC_SVC_BASE 0x10200000).stLE 0x102003C0 4 op).stLE 0x102003C4 4 1023

def cb (l : List Nat) : List Nat := if l.length < 24 then [0x40 + l.length] ++ l else [0x58, l.length] ++ l

def sig1 (alg : List Nat) : List Nat := [0x83] ++ cb ([0xA1, 1] ++ alg) ++ [0xA0] ++ cb [7]

def pay (role : Nat) (rights : List Nat) (nonce : List Nat) (uid : List Nat) : List Nat :=
  [0xAA, 1, 1, 2, role, 3] ++ cb uid ++ [4] ++ rights ++ [5, 0, 6, 10, 7, 0, 8] ++ cb (List.replicate 8 3) ++ [9] ++ cb (List.replicate 32 0) ++ [12] ++ cb nonce

def tok1 (role : Nat) (rights : List Nat) : List Nat :=
  let p := pay role rights (List.replicate 32 0) (List.replicate 16 9)
  [0xD8, 98, 0x84, 0x40, 0xA0] ++ (if p.length < 256 then [0x58, p.length] else [0x59, p.length / 256, p.length % 256]) ++ p ++ [0x82] ++ sig1 [0x38, 34] ++ sig1 [0x38, 48]

def winS (cmd arg : Nat) (tok : List Nat) (l : List (Nat × Word)) : State :=
  let s := secS l
  { (((s.stLE hostWin 4 cmd).stLE (hostWin + 4) 4 tok.length).stLE (hostWin + 12) 4 arg).stBytes (hostWin + 16) tok with nv := { s.nv with otp := [(0, 0x09090909), (1, 0x09090909), (2, 0x09090909), (3, 0x09090909)] } }

def gr (l : List (Nat × Word)) : State := secS ([(R.SEC_HOST_GRANT, 0x10001)] ++ l)

def tampS (n : Nat) : State := { secS [] with nv := { on.nv with otp := [(43, 0x1D)] }, sec := { on.sec with tamper := n } }

def svcS (op : Nat) (x : Option SessSt) (l : List (Nat × Word)) : State := let s := svc op (secS l); match x with | none => s | some x => ses1 x s

def ht : List Nat := tok1 1 [0x10]

def dt : List Nat := tok1 0 [0x1A, 0, 0x10, 0, 0]

def sxC : SessSt := ⟨none, none, none, [], [], none, 0, List.replicate 32 0, 0xFF, none, [], none, none⟩

def svcTok (tok : List Nat) : State := (((svcS 1 (some sxC) [(R.NET_SESS_BASE, 0x10300000)]).stLE 0x102003C8 4 0x10201000).stLE 0x102003CC 4 tok.length).stBytes 0x10201000 tok

/-- Session 1023 in DARK-free mode NORMAL with role and rights, and a message of code `c` as the input of entry 15. -/
def svcMsg (c role rights : Nat) : State :=
  let s := (svcS 5 (some sx0) [(R.NET_SESS_BASE, 0x10300000), (R.SYS_MODE, 2), (R.TIME_TGEN_STAT, 0)]).stBytes 0x10201000 ([1, 0] ++ bytesLE 2 c)
  let s := (s.stLE 0x102003C8 4 0x10201000).stLE 0x102003CC 4 4
  ((s.stB 0x1030FFC0 (BitVec.ofNat 8 (2 + 8 * role))).stLE 0x1030FFD8 4 rights).stLE 0x1030FFDC 8 0xFFFFFFFF

theorem test_hypotheses_GrantsServicesAndQuarantine :
    (∃ (s : State), (s.ldLE hostWin 4 ≠ 1414482766 ∨ 256 ≤ s.sec.audit.length)) ∧
    (∃ (s : State), s.ldLE hostWin 4 = 1414482766 ∧ (s.sec.audit.length + 4 < 256 ∧ s.rf R.SEC_AUDIT_STAT 15 0 = 0 ∧ BitVec.toNat (s.rd
      R.SEC_AUDIT_SEQ) + 4 < 65536) ∧ ((fun a n => writeStop Init.safe a n (partialUe s a n) s = none) hostWin 4 ∧ (fun a n => writeStop Init.safe a
      n (partialUe s a n) s = none) (hostWin + 8) 4 ∧ s.flt.due = []) ∧ s.rf R.SEC_HOST_GRANT 2 0 = 7) ∧
    (∃ (s : State), s.ldLE hostWin 4 = 1146244944 ∧ ((fun a n => writeStop Init.safe a n (partialUe s a n) s = none) hostWin 4 ∧ (fun a n =>
      writeStop Init.safe a n (partialUe s a n) s = none) (hostWin + 8) 4 ∧ s.flt.due = []) ∧ s.sec.hostSums = [] ∧ s.rf R.SEC_HOST_GRANT 2 0 ≠ 7) ∧
    (∃ (t : Nat) (s : State), (s.rf R.SEC_HOST_GRANT 2 0 = 7 ∨ secNow (s.at t) ≤ s.sec.hostExp)) ∧
    (∃ (t : Nat) (s : State), s.rf R.SEC_HOST_GRANT 2 0 ≠ 7 ∧ s.sec.hostExp < secNow (s.at t) ∧ s.sec.hostSums = []) ∧
    (∃ (s : State), s.ldLE hostWin 4 = 1431194699 ∧ ((fun a n => writeStop Init.safe a n (partialUe s a n) s = none) hostWin 4 ∧ (fun a n =>
      writeStop Init.safe a n (partialUe s a n) s = none) (hostWin + 8) 4 ∧ s.flt.due = []) ∧ s.sec.audit.length < 256 ∧ s.rb R.SEC_DBG_STAT 4 =
      true) ∧
    (∃ (s : State), s.ldLE hostWin 4 = 1431194699 ∧ ((fun a n => writeStop Init.safe a n (partialUe s a n) s = none) hostWin 4 ∧ (fun a n =>
      writeStop Init.safe a n (partialUe s a n) s = none) (hostWin + 8) 4 ∧ s.flt.due = []) ∧ (s.sec.audit.length + 4 < 256 ∧ s.rf R.SEC_AUDIT_STAT
      15 0 = 0 ∧ BitVec.toNat (s.rd R.SEC_AUDIT_SEQ) + 4 < 65536) ∧ s.rb R.SEC_DBG_STAT 4 = false ∧ s.rf R.SEC_DBG_STAT 11 8 < 7) ∧
    (∃ (k : Fin 65536), k.val ≤ 2051 ∧ k.val ≠ 2) ∧
    (∃ (k : Fin 65536), (2052 ≤ k.val ∨ k.val = 2)) ∧
    (∃ (t : Nat) (s : State) (e : Fin 64) (p : Nat × Instr), (∀ f < 64, svcWaits s f 6 = false ∧ svcWaits s f 8 = false) ∧ p ∈ [(1, Instr.verifyToken
      t e), (2, Instr.hsKeyshare t e 0), (3, Instr.hsSign t e), (4, Instr.hsInstall t e), (5, Instr.verdict t e), (7, Instr.update t e
      WaordOp.updAbort)] ∧ ¬(fun o => svcWaits s (e.val) o = true ∧ svcTurn s e.val = true) p.1) ∧
    (∃ (t : Nat) (s : State) (e : Fin 64) (p : Nat × Instr), (∀ f < 64, svcWaits s f 6 = false ∧ svcWaits s f 8 = false) ∧ p ∈ [(1, Instr.verifyToken
      t e), (2, Instr.hsKeyshare t e 0), (3, Instr.hsSign t e), (4, Instr.hsInstall t e), (5, Instr.verdict t e), (7, Instr.update t e
      WaordOp.updAbort)] ∧ (fun o => svcWaits s (e.val) o = true ∧ svcTurn s e.val = true) p.1 ∧ ((fun a n => writeStop Init.safe a n (partialUe s a
      n) s = none) (svcAddr s e.val + 1) 1 ∧ (fun a n => writeStop Init.safe a n (partialUe s a n) s = none) (svcAddr s e.val + 24) 4 ∧ s.flt.due =
      []) ∧ p.1 ≠ 3 ∧ p.1 ≠ 5 ∧ (sessOf s (svcWord s (e.val) 1 : Nat) : Option SessSt) = none) ∧
    (∃ (s : State) (e : Fin 64) (y : SessSt), (∀ f < 64, svcWaits s f 6 = false ∧ svcWaits s f 8 = false) ∧ (fun o => svcWaits s (e.val) o = true ∧
      svcTurn s e.val = true) 1 ∧ (sessOf s (svcWord s (e.val) 1 : Nat) : Option SessSt) = some y ∧ (s.sec.audit.length + 4 < 256 ∧ s.rf
      R.SEC_AUDIT_STAT 15 0 = 0 ∧ BitVec.toNat (s.rd R.SEC_AUDIT_SEQ) + 4 < 65536) ∧ y.sums = [] ∧ (fun a n => writeStop Init.safe a n (partialUe s a
      n) s = none) (sessAddr s (svcWord s (e.val) 1 : Nat)) 64 ∧ s.flt.due = []) ∧
    (∃ (s : State) (e : Fin 64) (y : SessSt) (k : Nat) (n : Nat), (∀ f < 64, svcWaits s f 6 = false ∧ svcWaits s f 8 = false) ∧ (fun o => svcWaits s
      (e.val) o = true ∧ svcTurn s e.val = true) 2 ∧ (sessOf s (svcWord s (e.val) 1 : Nat) : Option SessSt) = some y ∧ y.hs = some k ∧ k < 16 ∧ rngOk
      s = true ∧ (svcInput s e.val : List Nat) = [] ∧ (n = 4587 ∨ n = 4588)) ∧
    (∃ (s : State) (e : Fin 64), (∀ f < 64, svcWaits s f 6 = false ∧ svcWaits s f 8 = false) ∧ (fun o => svcWaits s (e.val) o = true ∧ svcTurn s
      e.val = true) 3) ∧
    (∃ (s : State) (e : Fin 64) (y : SessSt) (k : Nat), (∀ f < 64, svcWaits s f 6 = false ∧ svcWaits s f 8 = false) ∧ (fun o => svcWaits s (e.val) o
      = true ∧ svcTurn s e.val = true) 4 ∧ ((fun a n => writeStop Init.safe a n (partialUe s a n) s = none) (svcAddr s e.val + 1) 1 ∧ (fun a n =>
      writeStop Init.safe a n (partialUe s a n) s = none) (svcAddr s e.val + 24) 4 ∧ s.flt.due = []) ∧ (sessOf s (svcWord s (e.val) 1 : Nat) : Option
      SessSt) = some y ∧ y.hs = some k ∧ s.rb (R.SEC_KEY_META (16 + 2 * k)) 31 = true) ∧
    (∃ (s : State) (e : Fin 64) (y : SessSt), (∀ f < 64, svcWaits s f 6 = false ∧ svcWaits s f 8 = false) ∧ (fun o => svcWaits s (e.val) o = true ∧
      svcTurn s e.val = true) 5 ∧ (sessOf s (svcWord s (e.val) 1 : Nat) : Option SessSt) = some y) ∧
    (∃ (t : Nat) (s : State) (e : Fin 64) (y : SessSt), (∀ f < 64, svcWaits s f 6 = false ∧ svcWaits s f 8 = false) ∧ (fun o => svcWaits s (e.val) o
      = true ∧ svcTurn s e.val = true) 5 ∧ (sessOf s (svcWord s (e.val) 1 : Nat) : Option SessSt) = some y ∧ covers (svcWord s (e.val) 1 : Nat) y
      (opOf (svcInput s e.val : List Nat) : WaordOp) (expireToken (svcWord s (e.val) 1 : Nat) (s.at t) : State) = false) ∧
    (∃ (t : Nat) (s : State) (e : Fin 64) (y : SessSt), (∀ f < 64, svcWaits s f 6 = false ∧ svcWaits s f 8 = false) ∧ (fun o => svcWaits s (e.val) o
      = true ∧ svcTurn s e.val = true) 5 ∧ (sessOf s (svcWord s (e.val) 1 : Nat) : Option SessSt) = some y ∧ covers (svcWord s (e.val) 1 : Nat) y
      (opOf (svcInput s e.val : List Nat) : WaordOp) (expireToken (svcWord s (e.val) 1 : Nat) (s.at t) : State) = true ∧ (s.sec.audit.length + 4 <
      256 ∧ s.rf R.SEC_AUDIT_STAT 15 0 = 0 ∧ BitVec.toNat (s.rd R.SEC_AUDIT_SEQ) + 4 < 65536)) ∧
    (∃ (t : Nat) (s : State) (e : Fin 64) (op : WaordOp) (y : SessSt), (∀ f < 64, svcWaits s f 6 = false ∧ svcWaits s f 8 = false) ∧ (fun o =>
      svcWaits s (e.val) o = true ∧ svcTurn s e.val = true) 7 ∧ (sessOf s (svcWord s (e.val) 1 : Nat) : Option SessSt) = some y ∧ (op.code / 256 ≠ 8
      ∨ covers (svcWord s (e.val) 1 : Nat) y op (expireToken (svcWord s (e.val) 1 : Nat) (s.at t) : State) = false)) ∧
    (∃ (t : Nat) (s : State) (e : Fin 64) (op : WaordOp) (y : SessSt), (∀ f < 64, svcWaits s f 6 = false ∧ svcWaits s f 8 = false) ∧ (fun o =>
      svcWaits s (e.val) o = true ∧ svcTurn s e.val = true) 7 ∧ (sessOf s (svcWord s (e.val) 1 : Nat) : Option SessSt) = some y ∧ op.code / 256 = 8 ∧
      covers (svcWord s (e.val) 1 : Nat) y op (expireToken (svcWord s (e.val) 1 : Nat) (s.at t) : State) = true ∧ (s.sec.audit.length + 4 < 256 ∧
      s.rf R.SEC_AUDIT_STAT 15 0 = 0 ∧ BitVec.toNat (s.rd R.SEC_AUDIT_SEQ) + 4 < 65536) ∧ (expireToken (svcWord s (e.val) 1 : Nat) (s.at t) : State)
      = s.at t) ∧
    (∃ (t : Nat) (s : State) (e : Fin 64) (y : SessSt), (∀ f < 64, svcWaits s f 6 = false ∧ svcWaits s f 8 = false) ∧ (fun o => svcWaits s (e.val) o
      = true ∧ svcTurn s e.val = true) 7 ∧ (sessOf s (svcWord s (e.val) 1 : Nat) : Option SessSt) = some y ∧ covers (svcWord s (e.val) 1 : Nat) y
      WaordOp.updAbort (expireToken (svcWord s (e.val) 1 : Nat) (s.at t) : State) = true ∧ (s.sec.audit.length + 4 < 256 ∧ s.rf R.SEC_AUDIT_STAT 15 0
      = 0 ∧ BitVec.toNat (s.rd R.SEC_AUDIT_SEQ) + 4 < 65536) ∧ (expireToken (svcWord s (e.val) 1 : Nat) (s.at t) : State) = s.at t ∧ (s.rf
      R.SEC_UPD_STAT 2 0 = 1 ∨ s.rf R.SEC_UPD_STAT 2 0 = 2) ∧ s.upd.type = 1) ∧
    (∃ (s : State) (g : Nat) (l : Bool), tamperPin s = some g ∧ s.domainOn 0 = true ∧ l ≠ ((s.nv.otpBits 1376 8).testBit 1 : Bool)) ∧
    (∃ (s : State) (g : Nat) (l : Bool), tamperPin s = some g ∧ s.domainOn 0 = true ∧ l = ((s.nv.otpBits 1376 8).testBit 1 : Bool) ∧ s.sec.tamper ≠
      2) ∧
    (∃ (s : State) (g : Nat) (l : Bool), tamperPin s = some g ∧ s.domainOn 0 = true ∧ l = ((s.nv.otpBits 1376 8).testBit 1 : Bool) ∧ s.sec.tamper =
      2) ∧
    (∃ (s : State), s.rf R.SYS_MODE 3 0 = 7) ∧
    (∃ (s : State), s.rf R.SYS_MODE 3 0 ≠ 7 ∧ (s.sec.audit.length + 4 < 256 ∧ s.rf R.SEC_AUDIT_STAT 15 0 = 0 ∧ BitVec.toNat (s.rd R.SEC_AUDIT_SEQ) +
      4 < 65536)) ∧
    (∃ (s : State), txRefusal
      ({ owner := 2, direct := false, target := BitVec.toNat (s.rd (R.NVM_REGION_BASE 2)), data := [], act := none, upd := NvUpd.timeFloor (timeFloor s), txn := s.nv.txn, phase := 0 }
      : Tx) s = 0) ∧
    (∃ (s : State), txRefusal
      ({ owner := 2, direct := false, target := BitVec.toNat (s.rd (R.NVM_REGION_BASE 2)), data := [], act := none, upd := NvUpd.timeFloor (timeFloor s), txn := s.nv.txn, phase := 0 }
      : Tx) s ≠ 0) :=
  ⟨⟨secS [], by decide +kernel⟩,
   ⟨winS 0x544F4B4E 0 ht [], by decide +kernel⟩,
   ⟨(gr []).stLE hostWin 4 0x44524F50, by decide +kernel⟩,
   ⟨0, secS [], by decide +kernel⟩,
   ⟨0, { gr [(R.SEC_TIME_FLOOR_LO, 6)] with sec := { on.sec with hostExp := 5 } }, by decide +kernel⟩,
   ⟨(secS [(R.SEC_DBG_STAT, 0x10)]).stLE hostWin 4 0x554E4C4B, by decide +kernel⟩,
   ⟨winS 0x554E4C4B 1 dt [], by decide +kernel⟩,
   ⟨0x803, by decide +kernel⟩,
   ⟨0x804, by decide +kernel⟩,
   ⟨0, secS [], 15, (1, Instr.verifyToken 0 15), by decide +kernel, by simp, by decide +kernel⟩,
   ⟨0, svcS 4 none [], 15, (4, Instr.hsInstall 0 15), by decide +kernel, by simp, by decide +kernel, by decide +kernel, by decide +kernel,
     by decide +kernel, by decide +kernel⟩,
   ⟨svcTok ht, 15, sxC, by decide +kernel⟩,
   ⟨svcS 2 (some (sx1 none (some 3))) [], 15, sx1 none (some 3), 3, 0x11EC, by decide +kernel⟩,
   ⟨svcS 3 none [(R.SEC_KEY_META 1, 0x80000000), (R.SEC_STATUS, 7)], 15, by decide +kernel⟩,
   ⟨svcS 4 (some (sx1 none (some 3))) [(R.SEC_KEY_META 22, 0x80000000)], 15, sx1 none (some 3), 3, by decide +kernel⟩,
   ⟨svcMsg 0x0200 7 0, 15, sx0, by decide +kernel⟩,
   ⟨0, svcMsg 0x0200 7 0, 15, sx0, by decide +kernel⟩,
   ⟨0, svcMsg 0x0200 2 2, 15, sx0, by decide +kernel⟩,
   ⟨0, svcS 7 (some sx0) [], 15, .dropToken, sx0, by decide +kernel⟩,
   ⟨0, (svcMsg 0x0200 0 0x20000).stB 0x102003C0 7 |>.wr R.SEC_UPD_STAT 1, 15, .updAbort, sx0, by decide +kernel⟩,
   ⟨0, let s := (svcMsg 0x0200 0 0x20000).stB 0x102003C0 7 |>.wr R.SEC_UPD_STAT 1; { s with upd := { s.upd with type := 1 } }, 15, sx0,
     by decide +kernel⟩,
   ⟨tampS 2, 7, true, by decide +kernel⟩,
   ⟨tampS 1, 7, false, by decide +kernel⟩,
   ⟨tampS 2, 7, false, by decide +kernel⟩,
   ⟨secS [(R.SYS_MODE, 7)], by decide +kernel⟩,
   ⟨secS [], by decide +kernel⟩,
   ⟨secS [(R.NVM_REGION_BASE 2, 0x200000), (R.NVM_REGION_SIZE 2, 0x100000), (R.NVM_REGION_WR 2, 0xFF)], by decide +kernel⟩,
   ⟨secS [], by decide +kernel⟩⟩

end Secure2


namespace Session

def sx0 : SessSt := ⟨none, none, none, [], [], none, 0, [], 0xFF, none, [], none, none⟩

/-- Session 1023 in state `st` with role `r` and every right. -/
def sesS (st r : Nat) (x : SessSt) (l : List (Nat × Word)) : State :=
  let s := onWith ([(R.NET_SESS_BASE, 0x10100000), (R.SEC_STATUS, 7)] ++ l)
  { putEntry 1023 ([st + 8 * r] ++ List.replicate 23 0 ++ [255, 255, 255, 255] ++ [255, 255, 255, 255, 0, 0, 0, 0] ++ List.replicate 24 0) s with ses := { s.ses with sess := [(1023, x)] } }

def op0 : Instr × WaordOp := (.dropToken 0 1023 5, .dropToken)

def objS (x : SessSt) : State := sesS 2 2 x [(R.SYS_MODE, 2), (R.GLM_LIST_BASE, 0x10400000)]

def sxl : SessSt := { sx0 with list := some (4, 8, 7, 6) }

def idS (l : List (Nat × Word)) : List (Nat × Word) := (R.SEC_KEY_META 2, 0x80000000) :: l

/-- A SubjectPublicKeyInfo of a P-384 key. -/
def spki : List Byte := [0x30, 0x76, 0x30, 0x10, 0x06, 0x07, 0x2A, 0x86, 0x48, 0xCE, 0x3D, 0x02, 0x01, 0x06, 0x05, 0x2B, 0x81, 0x04, 0x00, 0x22, 0x03, 0x62, 0x00, 0x04] ++ List.replicate 96 9

def ckS : State := let s := sesS 2 0 sx0 [(R.SYS_MODE, 1), (R.GLM_LAMP_Z, 5), (R.SEC_GROUPS 3, 1), (R.GLM_CH_LANES, 0)]
  { s with sys := { s.sys with geometryIn := true, masksIn := true }, nv := { s.nv with heads := 1, anchor := [1] } }

def hs8 : State := { onWith [(R.SEC_STATUS, 4), (R.NET_SESS_BASE, 0x10100000), (R.CTRL (P.PORT 2), 1), (R.PORT_LINK 2, 1)] with
     nv := { on.nv with heads := 8 }, net := { on.net with upAt := some 0 }, ses := { on.ses with heads := [(7, ⟨some 0, 0⟩)] } }

theorem test_hypotheses_SessionsCarryCommands :
    (∃ (s : State), s.pageOn P.NET = false) ∧
    (∃ (s : State) (cid : Nat), s.pageOn P.NET = true ∧ (sessOf s (cid % 1024 : Nat) = none ∨ entryGood s (cid % 1024 : Nat) = true ∧ s.ldLE
      (sessAddr s (cid % 1024 : Nat)) 4 / 1024 ≠ cid / 1024)) ∧
    (∃ (s : State) (cid : Nat) (y : SessSt) (k : Nat), s.pageOn P.NET = true ∧ sessOf s (cid % 1024 : Nat) = some y ∧ entryGood s (cid % 1024 : Nat)
      = true ∧ s.ldLE (sessAddr s (cid % 1024 : Nat)) 4 / 1024 = cid / 1024 ∧ y.keys = some k ∧ (fun slot => writeStop Init.safe (sessAddr s slot) 64
      (partialUe s (sessAddr s slot) 64) s = none) (cid % 1024 : Nat) ∧ s.flt.due = []) ∧
    (∃ (s : State) (o : HelloOffer), (s.pageOn P.NET = false ∨ o.dport ≠ s.rf R.NET_WAORD_PORT 15 0)) ∧
    (∃ (s : State) (o : HelloOffer), s.pageOn P.NET = true ∧ o.dport = s.rf R.NET_WAORD_PORT 15 0 ∧ sessFull s = true) ∧
    (∃ (s : State) (o : HelloOffer), s.pageOn P.NET = true ∧ o.dport = s.rf R.NET_WAORD_PORT 15 0 ∧ sessFull s = false ∧ ¬(o.dtls13 = true ∧ o.suite
      = true ∧ o.group = true ∧ rngOk s = true)) ∧
    (∃ (s : State) (o : HelloOffer), s.pageOn P.NET = true ∧ o.dport = s.rf R.NET_WAORD_PORT 15 0 ∧ sessFull s = false ∧ (o.dtls13 = true ∧ o.suite =
      true ∧ o.group = true ∧ rngOk s = true) ∧ (∀ j < 1024, sessOf s j = none → (fun slot => writeStop Init.safe (sessAddr s slot) 64 (partialUe s
      (sessAddr s slot) 64) s = none) j) ∧ s.flt.due = []) ∧
    (∃ (s : State) (h : Fin 8), (s.nv.heads ≤ h.val ∨ (s.ses.sess.any fun p => p.2.head == some h.val) = true)) ∧
    (∃ (t : Nat) (s : State) (h : Fin 8) (d : Nat), s.pageOn P.NET = true ∧ h.val < s.nv.heads ∧ (∃ p, portUp s p = true) ∧ headDue s h.val = some d
      ∧ d ≤ (max s.now t : Nat) ∧ (s.ses.sess.any fun p => p.2.head == some h.val) = false ∧ sessFull s = false ∧ rngOk s = true ∧ (∀ j < 1024,
      sessOf s j = none → (fun slot => writeStop Init.safe (sessAddr s slot) 64 (partialUe s (sessAddr s slot) 64) s = none) j) ∧ s.flt.due = []) ∧
    (∃ (e : Fin 1024) (s : State) (y : SessSt) (client : List Byte), (fun st y => (sessOf s e.val : Option SessSt) = some y ∧ entryGood s e.val =
      true ∧ sessState s e.val = st) 1 y ∧ ((fun slot => writeStop Init.safe (sessAddr s slot) 64 (partialUe s (sessAddr s slot) 64) s = none) e.val
      ∧ s.flt.due = []) ∧ (identityStands s = true ∧ peerStands y (nums client) s = true)) ∧
    (∃ (e : Fin 1024) (s : State) (y : SessSt) (client : List Byte) (ok : Bool), (fun st y => (sessOf s e.val : Option SessSt) = some y ∧ entryGood s
      e.val = true ∧ sessState s e.val = st) 1 y ∧ ((fun slot => writeStop Init.safe (sessAddr s slot) 64 (partialUe s (sessAddr s slot) 64) s =
      none) e.val ∧ s.flt.due = []) ∧ (ok = false ∨ ¬(identityStands s = true ∧ peerStands y (nums client) s = true)) ∧ y.sums = []) ∧
    (∃ (t : Nat) (e : Fin 1024) (s : State) (y : SessSt), (sessOf s e.val : Option SessSt) = some y ∧ (max s.now t : Nat) < (y.rxAt + s.rf
      R.NET_SESS_CFG 31 16 * 10 ^ 9 : Nat)) ∧
    (∃ (t : Nat) (e : Fin 1024) (s : State) (y : SessSt), (sessOf s e.val : Option SessSt) = some y ∧ (y.rxAt + s.rf R.NET_SESS_CFG 31 16 * 10 ^ 9 :
      Nat) ≤ (max s.now t : Nat) ∧ y.sums = [] ∧ ((fun slot => writeStop Init.safe (sessAddr s slot) 64 (partialUe s (sessAddr s slot) 64) s = none)
      e.val ∧ s.flt.due = [])) ∧
    (∃ (t : Nat) (e : Fin 1024) (txn : Word) (s : State) (op : WaordOp) (tok : List Byte) (r : Option (Fin 3)) (mode : Fin 16) (lamp : Fin 4) (p :
      Instr × WaordOp), p ∈ [(Instr.waordRequest t e txn op, op), (Instr.presentToken t e txn tok r, WaordOp.presentToken (nums tok) r),
      (Instr.dropToken t e txn, WaordOp.dropToken), (Instr.attest t e txn, WaordOp.attest), (Instr.modeRequest t e txn mode lamp, WaordOp.modeRequest
      mode.val lamp.val), (Instr.commissionDone t e txn, WaordOp.commissionDone), (Instr.commissionReset t e txn, WaordOp.commissionReset)] ∧
      ((sessOf s e.val : Option SessSt) = none ∨ entryGood s e.val = true ∧ sessState s e.val ≠ 2)) ∧
    (∃ (t : Nat) (e : Fin 1024) (txn : Word) (s : State) (op : WaordOp) (tok : List Byte) (r : Option (Fin 3)) (mode : Fin 16) (lamp : Fin 4) (p :
      Instr × WaordOp) (y : SessSt) (k : Resp), p ∈ [(Instr.waordRequest t e txn op, op), (Instr.presentToken t e txn tok r, WaordOp.presentToken
      (nums tok) r), (Instr.dropToken t e txn, WaordOp.dropToken), (Instr.attest t e txn, WaordOp.attest), (Instr.modeRequest t e txn mode lamp,
      WaordOp.modeRequest mode.val lamp.val), (Instr.commissionDone t e txn, WaordOp.commissionDone), (Instr.commissionReset t e txn,
      WaordOp.commissionReset)] ∧ (fun st y => (sessOf s e.val : Option SessSt) = some y ∧ entryGood s e.val = true ∧ sessState s e.val = st) 2 y ∧
      List.find? (·.txn == BitVec.toNat txn) y.kept = some k) ∧
    (∃ (t : Nat) (e : Fin 1024) (txn : Word) (s : State) (op : WaordOp) (tok : List Byte) (r : Option (Fin 3)) (mode : Fin 16) (lamp : Fin 4) (p :
      Instr × WaordOp) (y : SessSt), p ∈ [(Instr.waordRequest t e txn op, op), (Instr.presentToken t e txn tok r, WaordOp.presentToken (nums tok) r),
      (Instr.dropToken t e txn, WaordOp.dropToken), (Instr.attest t e txn, WaordOp.attest), (Instr.modeRequest t e txn mode lamp, WaordOp.modeRequest
      mode.val lamp.val), (Instr.commissionDone t e txn, WaordOp.commissionDone), (Instr.commissionReset t e txn, WaordOp.commissionReset)] ∧ (fun st
      y => (sessOf s e.val : Option SessSt) = some y ∧ entryGood s e.val = true ∧ sessState s e.val = st) 2 y ∧ List.find? (·.txn == BitVec.toNat
      txn) y.kept = none ∧ (s.ldN (sessAddr s e.val) / 8 % 8 = 7 ∨ secNow (s.at t) ≤ s.ldLE (sessAddr s e.val + 28) 8) ∧ (opRight (modeNow s) p.2 =
      some 32)) ∧
    (∃ (t : Nat) (e : Fin 1024) (txn : Word) (s : State) (op : WaordOp) (tok : List Byte) (r : Option (Fin 3)) (mode : Fin 16) (lamp : Fin 4) (p :
      Instr × WaordOp) (y : SessSt), p ∈ [(Instr.waordRequest t e txn op, op), (Instr.presentToken t e txn tok r, WaordOp.presentToken (nums tok) r),
      (Instr.dropToken t e txn, WaordOp.dropToken), (Instr.attest t e txn, WaordOp.attest), (Instr.modeRequest t e txn mode lamp, WaordOp.modeRequest
      mode.val lamp.val), (Instr.commissionDone t e txn, WaordOp.commissionDone), (Instr.commissionReset t e txn, WaordOp.commissionReset)] ∧ (fun st
      y => (sessOf s e.val : Option SessSt) = some y ∧ entryGood s e.val = true ∧ sessState s e.val = st) 2 y ∧ List.find? (·.txn == BitVec.toNat
      txn) y.kept = none ∧ (s.ldN (sessAddr s e.val) / 8 % 8 = 7 ∨ secNow (s.at t) ≤ s.ldLE (sessAddr s e.val + 28) 8) ∧ ¬(opRight (modeNow s) p.2 =
      some 32) ∧ covers (e.val) y p.2 s = false) ∧
    (∃ (t : Nat) (e : Fin 1024) (txn : Word) (s : State) (op : WaordOp) (tok : List Byte) (r : Option (Fin 3)) (mode : Fin 16) (lamp : Fin 4) (p :
      Instr × WaordOp) (y : SessSt) (v : State), p ∈ [(Instr.waordRequest t e txn op, op), (Instr.presentToken t e txn tok r, WaordOp.presentToken
      (nums tok) r), (Instr.dropToken t e txn, WaordOp.dropToken), (Instr.attest t e txn, WaordOp.attest), (Instr.modeRequest t e txn mode lamp,
      WaordOp.modeRequest mode.val lamp.val), (Instr.commissionDone t e txn, WaordOp.commissionDone), (Instr.commissionReset t e txn,
      WaordOp.commissionReset)] ∧ (fun st y => (sessOf s e.val : Option SessSt) = some y ∧ entryGood s e.val = true ∧ sessState s e.val = st) 2 y ∧
      List.find? (·.txn == BitVec.toNat txn) y.kept = none ∧ (s.ldN (sessAddr s e.val) / 8 % 8 = 7 ∨ secNow (s.at t) ≤ s.ldLE (sessAddr s e.val + 28)
      8) ∧ ¬(opRight (modeNow s) p.2 = some 32) ∧ verdict (e.val) y p.2 (runOp (e.val) p.2 (s.at t)).1 (s.at t) = (0, v)) ∧
    (∃ (t : Nat) (e : Fin 1024) (txn : Word) (s : State) (y : SessSt), (fun st y => (sessOf s e.val : Option SessSt) = some y ∧ entryGood s e.val =
      true ∧ sessState s e.val = st) 2 y ∧ List.find? (·.txn == BitVec.toNat txn) y.kept = none ∧ (s.ldN (sessAddr s e.val) / 8 % 8 = 7 ∨ secNow
      (s.at t) ≤ s.ldLE (sessAddr s e.val + 28) 8) ∧ ((fun slot => writeStop Init.safe (sessAddr s slot) 64 (partialUe s (sessAddr s slot) 64) s =
      none) e.val ∧ s.flt.due = []) ∧ y.sums = [] ∧ s.rf R.SYS_MODE 3 0 ≠ 7) ∧
    (∃ (t : Nat) (e : Fin 1024) (txn : Word) (s : State) (y : SessSt) (k : Nat), (fun st y => (sessOf s e.val : Option SessSt) = some y ∧ entryGood s
      e.val = true ∧ sessState s e.val = st) 2 y ∧ List.find? (·.txn == BitVec.toNat txn) y.kept = none ∧ (s.ldN (sessAddr s e.val) / 8 % 8 = 7 ∨
      secNow (s.at t) ≤ s.ldLE (sessAddr s e.val + 28) 8) ∧ ((fun slot => writeStop Init.safe (sessAddr s slot) 64 (partialUe s (sessAddr s slot) 64)
      s = none) e.val ∧ s.flt.due = []) ∧ y.sums = [] ∧ s.rf R.SYS_MODE 3 0 ≠ 7 ∧ y.keys = some k ∧ s.rb (R.SEC_KEY_META 2) 31 = true ∧
      identityStands s = true) ∧
    (∃ (t : Nat) (e : Fin 1024) (txn : Word) (s : State) (y : SessSt), (fun st y => (sessOf s e.val : Option SessSt) = some y ∧ entryGood s e.val =
      true ∧ sessState s e.val = st) 2 y ∧ List.find? (·.txn == BitVec.toNat txn) y.kept = none ∧ (s.ldN (sessAddr s e.val) / 8 % 8 = 7 ∨ secNow
      (s.at t) ≤ s.ldLE (sessAddr s e.val + 28) 8) ∧ ((fun slot => writeStop Init.safe (sessAddr s slot) 64 (partialUe s (sessAddr s slot) 64) s =
      none) e.val ∧ s.flt.due = []) ∧ y.sums = [] ∧ s.rf R.SYS_MODE 3 0 ≠ 7 ∧ (s.sec.audit.length + 4 < 256 ∧ s.rf R.SEC_AUDIT_STAT 15 0 = 0 ∧
      BitVec.toNat (s.rd R.SEC_AUDIT_SEQ) + 4 < 65536)) ∧
    (∃ (t : Nat) (e : Fin 1024) (txn : Word) (s : State) (y : SessSt) (mode : Fin 16) (lamp : Fin 4), (fun st y => (sessOf s e.val : Option SessSt) =
      some y ∧ entryGood s e.val = true ∧ sessState s e.val = st) 2 y ∧ List.find? (·.txn == BitVec.toNat txn) y.kept = none ∧ (s.ldN (sessAddr s
      e.val) / 8 % 8 = 7 ∨ secNow (s.at t) ≤ s.ldLE (sessAddr s e.val + 28) 8) ∧ ((fun slot => writeStop Init.safe (sessAddr s slot) 64 (partialUe s
      (sessAddr s slot) 64) s = none) e.val ∧ s.flt.due = []) ∧ y.sums = [] ∧ s.rf R.SYS_MODE 3 0 ≠ 7 ∧ covers (e.val) y (WaordOp.modeRequest
      mode.val lamp.val) s = true ∧ (s.sec.audit.length + 4 < 256 ∧ s.rf R.SEC_AUDIT_STAT 15 0 = 0 ∧ BitVec.toNat (s.rd R.SEC_AUDIT_SEQ) + 4 < 65536)
      ∧ (modeRefusal
      ({ mode := mode.val, lamp := lamp.val, sched := false, role := sessRole s e.val, rights := sessRights s e.val, wait := 0, chan := 0, tid := sessTid s e.val }
      : ModeReq) (s.at t) : Nat) = 0) ∧
    (∃ (t : Nat) (e : Fin 1024) (txn : Word) (s : State) (y : SessSt) (mode : Fin 16) (lamp : Fin 4), (fun st y => (sessOf s e.val : Option SessSt) =
      some y ∧ entryGood s e.val = true ∧ sessState s e.val = st) 2 y ∧ List.find? (·.txn == BitVec.toNat txn) y.kept = none ∧ (s.ldN (sessAddr s
      e.val) / 8 % 8 = 7 ∨ secNow (s.at t) ≤ s.ldLE (sessAddr s e.val + 28) 8) ∧ ((fun slot => writeStop Init.safe (sessAddr s slot) 64 (partialUe s
      (sessAddr s slot) 64) s = none) e.val ∧ s.flt.due = []) ∧ y.sums = [] ∧ s.rf R.SYS_MODE 3 0 ≠ 7 ∧ covers (e.val) y (WaordOp.modeRequest
      mode.val lamp.val) s = true ∧ (s.sec.audit.length + 4 < 256 ∧ s.rf R.SEC_AUDIT_STAT 15 0 = 0 ∧ BitVec.toNat (s.rd R.SEC_AUDIT_SEQ) + 4 < 65536)
      ∧ (modeRefusal
      ({ mode := mode.val, lamp := lamp.val, sched := false, role := sessRole s e.val, rights := sessRights s e.val, wait := 0, chan := 0, tid := sessTid s e.val }
      : ModeReq) (s.at t) : Nat) ≠ 0) ∧
    (∃ (t : Nat) (e : Fin 1024) (txn : Word) (s : State) (y : SessSt), (fun st y => (sessOf s e.val : Option SessSt) = some y ∧ entryGood s e.val =
      true ∧ sessState s e.val = st) 2 y ∧ List.find? (·.txn == BitVec.toNat txn) y.kept = none ∧ (s.ldN (sessAddr s e.val) / 8 % 8 = 7 ∨ secNow
      (s.at t) ≤ s.ldLE (sessAddr s e.val + 28) 8) ∧ ((fun slot => writeStop Init.safe (sessAddr s slot) 64 (partialUe s (sessAddr s slot) 64) s =
      none) e.val ∧ s.flt.due = []) ∧ y.sums = [] ∧ s.rf R.SYS_MODE 3 0 ≠ 7 ∧ covers (e.val) y WaordOp.commissionDone s = true ∧ (s.sec.audit.length
      + 4 < 256 ∧ s.rf R.SEC_AUDIT_STAT 15 0 = 0 ∧ BitVec.toNat (s.rd R.SEC_AUDIT_SEQ) + 4 < 65536) ∧ s.rf R.SYS_MODE 3 0 = 1 ∧ (commissionLack (s.at
      t) : Nat) ≠ 0) ∧
    (∃ (t : Nat) (e : Fin 1024) (txn : Word) (s : State) (y : SessSt), (fun st y => (sessOf s e.val : Option SessSt) = some y ∧ entryGood s e.val =
      true ∧ sessState s e.val = st) 2 y ∧ List.find? (·.txn == BitVec.toNat txn) y.kept = none ∧ (s.ldN (sessAddr s e.val) / 8 % 8 = 7 ∨ secNow
      (s.at t) ≤ s.ldLE (sessAddr s e.val + 28) 8) ∧ ((fun slot => writeStop Init.safe (sessAddr s slot) 64 (partialUe s (sessAddr s slot) 64) s =
      none) e.val ∧ s.flt.due = []) ∧ y.sums = [] ∧ s.rf R.SYS_MODE 3 0 ≠ 7 ∧ covers (e.val) y WaordOp.commissionDone s = true ∧ (s.sec.audit.length
      + 4 < 256 ∧ s.rf R.SEC_AUDIT_STAT 15 0 = 0 ∧ BitVec.toNat (s.rd R.SEC_AUDIT_SEQ) + 4 < 65536) ∧ s.rf R.SYS_MODE 3 0 = 1 ∧ (commissionLack (s.at
      t) : Nat) = 0) ∧
    (∃ (t : Nat) (e : Fin 1024) (txn : Word) (s : State) (y : SessSt), (fun st y => (sessOf s e.val : Option SessSt) = some y ∧ entryGood s e.val =
      true ∧ sessState s e.val = st) 2 y ∧ List.find? (·.txn == BitVec.toNat txn) y.kept = none ∧ (s.ldN (sessAddr s e.val) / 8 % 8 = 7 ∨ secNow
      (s.at t) ≤ s.ldLE (sessAddr s e.val + 28) 8) ∧ ((fun slot => writeStop Init.safe (sessAddr s slot) 64 (partialUe s (sessAddr s slot) 64) s =
      none) e.val ∧ s.flt.due = []) ∧ y.sums = [] ∧ s.rf R.SYS_MODE 3 0 ≠ 7 ∧ covers (e.val) y WaordOp.commissionReset s = true ∧ (s.sec.audit.length
      + 4 < 256 ∧ s.rf R.SEC_AUDIT_STAT 15 0 = 0 ∧ BitVec.toNat (s.rd R.SEC_AUDIT_SEQ) + 4 < 65536) ∧ sessRole s e.val = 0 ∧ (s.rf R.SYS_MODE 3 0 = 0
      ∨ s.rf R.SYS_MODE 3 0 = 6)) ∧
    (∃ (e : Fin 1024) (s : State) (y : SessSt) (alive : Fin 256), (fun st y => (sessOf s e.val : Option SessSt) = some y ∧ entryGood s e.val = true ∧
      sessState s e.val = st) 2 y ∧ y.alive = some alive.val) ∧
    (∃ (t : Nat) (e : Fin 1024) (s : State) (y : SessSt) (op : WaordOp), (fun st y => (sessOf s e.val : Option SessSt) = some y ∧ entryGood s e.val =
      true ∧ sessState s e.val = st) 2 y ∧ y.alive = none ∧ (s.ldN (sessAddr s e.val) / 8 % 8 = 7 ∨ secNow (s.at t) ≤ s.ldLE (sessAddr s e.val + 28)
      8) ∧ ¬(opRight (modeNow s) op = some 32) ∧ covers (e.val) y op s = false) ∧
    (∃ (t : Nat) (e : Fin 1024) (s : State) (y : SessSt) (alive : Fin 256) (op : WaordOp) (v : State), (fun st y => (sessOf s e.val : Option SessSt)
      = some y ∧ entryGood s e.val = true ∧ sessState s e.val = st) 2 y ∧ (y.alive = none ∨ y.alive = some ((alive.val + 255) % 256)) ∧ (s.ldN
      (sessAddr s e.val) / 8 % 8 = 7 ∨ secNow (s.at t) ≤ s.ldLE (sessAddr s e.val + 28) 8) ∧ ¬(opRight (modeNow s) op = some 32) ∧ verdict (e.val) y
      op (runOp (e.val) op (setSess (e.val) (fun y =>
      { keys := y.keys, hs := y.hs, top := y.top, seen := y.seen, kept := y.kept, alive := some alive.val, rxAt := y.rxAt, client := y.client, modes := y.modes, list := y.list, sums := y.sums, head := y.head, hdr := y.hdr })
      (s.at t) : State)).1 (setSess (e.val) (fun y =>
      { keys := y.keys, hs := y.hs, top := y.top, seen := y.seen, kept := y.kept, alive := some alive.val, rxAt := y.rxAt, client := y.client, modes := y.modes, list := y.list, sums := y.sums, head := y.head, hdr := y.hdr })
      (s.at t) : State) = (0, v)) ∧
    (∃ (t : Nat) (e : Fin 1024) (s : State) (y : SessSt), (fun st y => (sessOf s e.val : Option SessSt) = some y ∧ entryGood s e.val = true ∧
      sessState s e.val = st) 2 y ∧ (s.ldN (sessAddr s e.val) / 8 % 8 = 7 ∨ secNow (s.at t) ≤ s.ldLE (sessAddr s e.val + 28) 8) ∧ covers (e.val) y
      (WaordOp.other 1280) s = false) ∧
    (∃ (t : Nat) (e : Fin 1024) (s : State) (y : SessSt) (part : Fin 256) (parts : Fin 256) (l : List Byte) (v : State) (k : Nat), (fun st y =>
      (sessOf s e.val : Option SessSt) = some y ∧ entryGood s e.val = true ∧ sessState s e.val = st) 2 y ∧ (s.ldN (sessAddr s e.val) / 8 % 8 = 7 ∨
      secNow (s.at t) ≤ s.ldLE (sessAddr s e.val + 28) 8) ∧ verdict (e.val) y (WaordOp.other 1280) 0 (s.at t) = (0, v) ∧ part < parts ∧ parts.val ≤ 8
      ∧ part.val = 0 ∧ 1 < parts.val ∧ l.length = 1152 ∧ y.list = none ∧ freeCh1 (e.val) v = some k) ∧
    (∃ (t : Nat) (e : Fin 1024) (s : State) (y : SessSt) (part : Fin 256) (parts : Fin 256) (id : Word) (l : List Byte) (v : State) (k : Nat), (fun
      st y => (sessOf s e.val : Option SessSt) = some y ∧ entryGood s e.val = true ∧ sessState s e.val = st) 2 y ∧ (s.ldN (sessAddr s e.val) / 8 % 8
      = 7 ∨ secNow (s.at t) ≤ s.ldLE (sessAddr s e.val + 28) 8) ∧ verdict (e.val) y (WaordOp.other 1280) 0 (s.at t) = (0, v) ∧ part < parts ∧
      parts.val ≤ 8 ∧ part.val + 1 = parts.val ∧ l.length ≤ 1152 ∧ 1152 * part.val + l.length ≤ 8256 ∧ y.list = some (BitVec.toNat id % 65536,
      parts.val, part.val, k)) ∧
    (∃ (t : Nat) (e : Fin 1024) (s : State) (y : SessSt) (part : Fin 256) (parts : Fin 256) (id : Word) (v : State) (d : Nat) (n : Nat) (k : Nat) (j
      : Nat), (fun st y => (sessOf s e.val : Option SessSt) = some y ∧ entryGood s e.val = true ∧ sessState s e.val = st) 2 y ∧ (s.ldN (sessAddr s
      e.val) / 8 % 8 = 7 ∨ secNow (s.at t) ≤ s.ldLE (sessAddr s e.val + 28) 8) ∧ verdict (e.val) y (WaordOp.other 1280) 0 (s.at t) = (0, v) ∧ part <
      parts ∧ parts.val ≤ 8 ∧ y.list = some (d, n, k, j) ∧ d = BitVec.toNat id % 65536 ∧ (n ≠ parts.val ∨ k ≠ part.val)) :=
  ⟨⟨State.reset.wr R.PWR_DOMAIN_STAT 1, by decide +kernel⟩,
   ⟨sesS 2 0 sx0 [], 1022, by decide +kernel⟩,
   ⟨sesS 2 0 { sx0 with keys := some 3, top := some 7, seen := [7] } [], 1023, { sx0 with keys := some 3, top := some 7, seen := [7] }, 3,
     by decide +kernel⟩,
   ⟨on, ⟨1, true, true, true⟩, by decide +kernel⟩,
   ⟨{ onWith [(R.NET_WAORD_PORT, 5684)] with ses := { on.ses with sess := (List.range 1024).map fun k => (k, sx0) } },
     { dport := 5684, dtls13 := true, suite := true, group := true }, by decide +kernel⟩,
   ⟨onWith [(R.NET_WAORD_PORT, 5684)], { dport := 5684, dtls13 := true, suite := true, group := true }, by decide +kernel⟩,
   ⟨onWith [(R.SEC_STATUS, 4), (R.NET_SESS_BASE, 0x10100000), (R.NET_WAORD_PORT, 5684)],
     { dport := 5684, dtls13 := true, suite := true, group := true }, by decide +kernel⟩,
   ⟨on, 7, by decide +kernel⟩,
   ⟨(headDue hs8 7).getD 0, hs8, 7, (headDue hs8 7).getD 0, by decide +kernel⟩,
   ⟨1023, sesS 1 0 { sx0 with hs := some 3 } [], { sx0 with hs := some 3 }, spki, by decide +kernel⟩,
   ⟨1023, sesS 1 0 { sx0 with hs := some 3, head := some 1 } [], { sx0 with hs := some 3, head := some 1 }, [], true, by decide +kernel⟩,
   ⟨999999999, 1023, sesS 2 0 sx0 [(R.NET_SESS_CFG, 0x00010000)], sx0, by decide +kernel⟩,
   ⟨1000000000, 1023, sesS 2 0 sx0 [(R.NET_SESS_CFG, 0x00010000)], sx0, by decide +kernel⟩,
   ⟨0, 1023, 5, on, WaordOp.dropToken, [], none, 0, 0, op0, by simp [op0], by decide +kernel⟩,
   ⟨0, 1023, 5, sesS 2 0 { sx0 with kept := [⟨5, 0, [1], true⟩] } [], .dropToken, [], none, 0, 0, op0, { sx0 with kept := [⟨5, 0, [1], true⟩] }, ⟨5,
     0, [1], true⟩, by simp [op0], by decide +kernel, by decide +kernel⟩,
   ⟨0, 1023, 5, sesS 2 7 sx0 [], .other 0, [], none, 0, 0, (.waordRequest 0 1023 5 (.other 0), .other 0), sx0, by simp, by decide +kernel,
     by decide +kernel, by decide +kernel, by decide +kernel⟩,
   ⟨0, 1023, 5, sesS 2 7 sx0 [], .dropToken, [], none, 1, 0, (.modeRequest 0 1023 5 1 0, .modeRequest 1 0), sx0, by simp, by decide +kernel,
     by decide +kernel, by decide +kernel, by decide +kernel, by decide +kernel⟩,
   ⟨0, 1023, 5, sesS 2 0 sx0 [], WaordOp.dropToken, [], none, 0, 0, op0, sx0, sesS 2 0 sx0 [], by simp [op0], by decide +kernel, by decide +kernel,
     by decide +kernel, by decide +kernel, by decide +kernel⟩,
   ⟨0, 1023, 5, sesS 2 0 sx0 [], sx0, by decide +kernel⟩,
   ⟨0, 1023, 5, sesS 2 0 { sx0 with keys := some 8 } (idS []), { sx0 with keys := some 8 }, 8, by decide +kernel⟩,
   ⟨0, 1023, 5, sesS 2 0 { sx0 with client := List.replicate 32 0 } [], { sx0 with client := List.replicate 32 0 }, by decide +kernel⟩,
   ⟨0, 1023, 5, sesS 2 2 sx0 [(R.SYS_MODE, 2)], sx0, 5, 0, by decide +kernel⟩,
   ⟨0, 1023, 5, sesS 2 2 sx0 [(R.SYS_MODE, 3)], sx0, 2, 0, by decide +kernel⟩,
   ⟨0, 1023, 5, sesS 2 0 sx0 [(R.SYS_MODE, 1)], sx0, by decide +kernel⟩,
   ⟨0, 1023, 5, ckS, sx0, by decide +kernel⟩,
   ⟨0, 1023, 5, sesS 2 0 sx0 [(R.SYS_MODE, 6)], sx0, by decide +kernel⟩,
   ⟨1023, sesS 2 0 { sx0 with alive := some 9 } [], { sx0 with alive := some 9 }, 9, by decide +kernel⟩,
   ⟨0, 1023, sesS 2 7 { sx0 with modes := 0 } [], { sx0 with modes := 0 }, .modeRequest 1 0, by decide +kernel⟩,
   ⟨0, 1023, sesS 2 0 { sx0 with alive := some 8 } [], { sx0 with alive := some 8 }, 9, .dropToken, setSess 1023 (fun y =>
     { y with alive := some 9 }) (sesS 2 0 { sx0 with alive := some 8 } []), by decide +kernel⟩,
   ⟨0, 1023, sesS 2 7 sx0 [], sx0, by decide +kernel⟩,
   ⟨0, 1023, objS sx0, sx0, 0, 8, List.replicate 1152 9, (verdict 1023 sx0 (.other 0x0500) 0 (objS sx0)).2, 4, by decide +kernel⟩,
   ⟨0, 1023, objS sxl, sxl, 7, 8, 4, [1, 2], (verdict 1023 sxl (.other 0x0500) 0 (objS sxl)).2, 6, by decide +kernel⟩,
   ⟨0, 1023, objS sxl, sxl, 6, 8, 4, (verdict 1023 sxl (.other 0x0500) 0 (objS sxl)).2, 4, 8, 7, 6, by decide +kernel⟩⟩

end Session


namespace Start

theorem test_hypotheses_StartUpResetsAndMonitors :
    (∃ (s : State), ¬(s.rf R.PWR_DOMAIN_STAT 7 0 = 0)) ∧
    (∃ (t : Nat) (i : Init) (w : Word) (s : State), s.accepts t i R.SYS_RST_CMD w ∧ (bitsOf w 31 16 ≠ 42435 ∨ bitOf w 0 = false)) ∧
    (∃ (s : State), ¬(s.rf R.PWR_DOMAIN_STAT 7 0 = 0) ∧ (fun k => s.rf (R.SYS_START_MS k) 15 0) 1 = 0 ∧ s.rf R.SYS_MODE 3 0 ≠ 7) ∧
    (∃ (s : State), s.nv.lifecycle ≠ 3 ∧ s.nv.left = []) ∧
    (∃ (s : State) (ph : Fin 2), (if warmBoot s = true then s.sys.selfTestDue = false else (fun k => s.rf (R.SYS_START_MS k) 15 0) 1 = 0 ∨ (fun k =>
      s.rf (R.SYS_START_MS k) 15 0) 1 = 65535 ∨ (fun k => s.rf (R.SYS_START_MS k) 15 0) 2 ≠ 0 ∨ s.rf R.SEC_STATUS 11 8 = 1 ∨ s.sys.recordGood =
      decide (ph = 0))) ∧
    (∃ (s : State), (fun k => s.rf (R.SYS_START_MS k) 15 0) 1 = 0 ∨ (fun k => s.rf (R.SYS_START_MS k) 15 0) 1 = 65535 ∨ (fun k => s.rf
      (R.SYS_START_MS k) 15 0) 6 ≠ 0 ∨ s.rf R.SYS_MODE 3 0 = 7 ∨ s.rb R.SEC_BOOT_STAT 4 = true) ∧
    (∃ (t : Nat) (s : State), startLack (startProgress (s.at t) : State) = 0) ∧
    (∃ (t : Nat) (i : Init) (w : Word) (s : State) (c : Fin 4), s.accepts t i (R.CPU_HART_RST c.val) w ∧ BitVec.toNat w % 2 ^ harts c.val = 0) :=
  ⟨⟨on, by decide +kernel⟩,
   ⟨0, Init.safe, 0, on, by decide +kernel⟩,
   ⟨on, by decide +kernel⟩,
   ⟨on, by decide +kernel⟩,
   ⟨on, 0, by decide +kernel⟩,
   ⟨on, by decide +kernel⟩,
   ⟨0, on, by decide +kernel⟩,
   ⟨0, Init.safe, 0, on, 0, by decide +kernel⟩⟩

end Start


namespace Thermal

def thmS (f : ThmSt → ThmSt) (l : List (Nat × Word)) : State := { onWith l with thm := f on.thm }

def sen (n : Nat) (x : SensorSt) (t : ThmSt) : ThmSt := { t with sens := [(n, x)] }

theorem test_hypotheses_ThermalManagerActsByItsRules :
    (∃ (s : State) (i : Fin 12) (v : Int), s.domainPowered (sensorDomain i.val) = true ∧ (s.pageOn P.THM = true ∨ i.val = 11) ∧ s.thm.shut = false ∧
      140 * 256 ≤ v) ∧
    (∃ (s : State) (i : Fin 12) (v : Int) (r : Int), s.domainPowered (sensorDomain i.val) = true ∧ s.thm.shut = false ∧ s.pageOn P.THM = true ∧ s.rb
      R.THM_SENSOR_FAIL i.val = false ∧ (s.sensor i.val).raw = some r ∧ -15360 ≤ v ∧ v < 140 * 256 ∧ (v - r).natAbs ≤ 1280) ∧
    (∃ (s : State), s.thm.shut = true ∧ s.domainPowered 0 = true) ∧
    (∃ (t : Nat) (s : State), (s.thm.shut = false ∨ s.thm.shutCool = none ∨ ∃ x, s.thm.shutCool = some x ∧ (max s.now t : Nat) < x + 10000000000)) ∧
    (∃ (t : Nat) (s : State) (x : Nat), s.thm.shut = true ∧ s.thm.shutCool = some x ∧ x + 10000000000 ≤ (max s.now t : Nat)) ∧
    (∃ (t : Nat) (s : State), s.pageOn P.THM = true ∧ s.rb (R.STATUS P.THM : Nat) 11 = false ∧ s.rb (R.STATUS P.THM : Nat) 9 = true ∧ s.thm.stepAt +
      s.rf R.THM_THROT_CFG 15 8 * 1000000 ≤ (max s.now t : Nat) ∧ (s.rf (R.STATUS P.THM : Nat) 3 0 : Nat) < min 13 (s.rf R.THM_THROT_CFG 3 0)) ∧
    (∃ (t : Nat) (s : State), s.pageOn P.THM = true ∧ s.rb (R.STATUS P.THM : Nat) 11 = false ∧ s.rb (R.STATUS P.THM : Nat) 9 = false ∧ 0 < (s.rf
      (R.STATUS P.THM : Nat) 3 0 : Nat) ∧ s.thm.stepAt + s.rf R.THM_THROT_CFG 31 16 * 1000000 ≤ (max s.now t : Nat) ∧ s.thm.tj < ↑(s.rf R.THM_THR 15
      8) * 256 - ↑(s.rf R.THM_HYST 7 0) * 256) ∧
    (∃ (s : State) (x : Nat), s.thm.coolAt = some x) ∧
    (∃ (s : State) (k : Fin 4) (n : Fin 8), tempLate s k n.val = true ∧ n.val < s.rf (R.SPL_ENUM (k.val) 5) 23 16 ∧ s.pageOn P.THM = true ∧ s.rb
      R.THM_TILE_FAIL (8 * k.val + n.val) = false) ∧
    (∃ (s : State) (k : Fin 4) (n : Fin 8), (tempLate s k n.val = false ∨ s.rf (R.SPL_ENUM (k.val) 5) 23 16 ≤ n.val)) ∧
    (∃ (t : Nat) (s : State) (i : Init) (w : Word), s.accepts t i R.THM_TILE_FAIL w ∧ (∀ b < 32, bitOf w b = true → (max s.now t : Nat) < (s.sensor
      (16 + b)).badAt + 1000000000)) ∧
    (∃ (t : Nat) (s : State) (i : Init) (tiles : Bool) (w : Word), s.accepts t i (if tiles = true then R.THM_TILE_FAIL else R.THM_SENSOR_FAIL : Nat)
      w ∧ (s.at t).evtBits (if tiles = true then R.THM_TILE_FAIL else R.THM_SENSOR_FAIL : Nat) = 0#32 ∧ (∀ b < 32, bitOf w b = true → (s.sensor ((if
      tiles = true then 16 else 0 : Nat) + b)).badAt + 1000000000 ≤ (max s.now t : Nat) ∧ (tiles = true → tempLate s (Fin.ofNat 4 (b / 8)) (b % 8) =
      false))) ∧
    (∃ (t : Nat) (s : State) (k : Fin 4) (x : Nat), s.thm.overAt[k] = some x ∧ x + 1000000000 ≤ (max s.now t : Nat) ∧ s.thm.overTold[k] = false ∧
      s.pageOn P.THM = true) ∧
    (∃ (t : Nat) (s : State) (k : Fin 4), (s.thm.overAt[k] = none ∨ s.thm.overTold[k] = true ∨ Option.any (fun x => decide ((max s.now t : Nat) < x +
      1000000000)) s.thm.overAt[k] = true)) :=
  ⟨⟨on, 11, 35840, by decide +kernel⟩,
   ⟨thmS (sen 11 ⟨some 34560, 5, 0, 0, 0, []⟩) [], 11, 35839, 34560, by decide +kernel⟩,
   ⟨thmS (fun x => { x with shut := true }) [], by decide +kernel⟩,
   ⟨0, on, Or.inl (by decide +kernel)⟩,
   ⟨10000000005, thmS (fun x => { x with shut := true, shutCool := some 5 }) [], 5, by decide +kernel⟩,
   ⟨1000000000000, onWith [(R.STATUS P.THM, 0x200)], by decide +kernel⟩,
   ⟨1000000000000, onWith [(R.STATUS P.THM, 3), (R.THM_TJ, 0)], by decide +kernel⟩,
   ⟨thmS (fun x => { x with coolAt := some 5 }) [(R.STATUS P.THM, 0x800)], 5, by decide +kernel⟩,
   ⟨{ thmS (sen 47 ⟨some 5, 5, 0, 0, 0, []⟩) [(R.STATUS (P.SPLT 3), 6), (R.SPL_ENUM 3 5, 0x80000)] with tickNum := 960 }, 3, 7, by decide +kernel⟩,
   ⟨on, 3, 7, by decide +kernel⟩,
   ⟨5, onWith [(R.THM_TILE_FAIL, 0x80000000)], Init.safe, 0x80000000, by decide +kernel⟩,
   ⟨1000000005, onWith [(R.THM_TILE_FAIL, 0xC0000000)], Init.safe, true, 0x80000000, by decide +kernel⟩,
   ⟨1000000005, thmS (fun x => { x with overAt := x.overAt.set 3 (some 5) }) [], 3, 5, by decide +kernel⟩,
   ⟨0, on, 0, by decide +kernel⟩⟩

end Thermal


namespace Time

def timS (f : TimeSt → TimeSt) (l : List (Nat × Word)) : State := { onWith l with tim := f on.tim }

theorem test_hypotheses_ServoAndTimestampsFollowTheirTables :
    (∃ (t : Nat) (i : Init) (s : State), s.accepts t i R.TIME_MEAS_CTRL 1#32 ∧ (s.rf R.TIME_SERVO_STAT 2 0 : Nat) = 2 ∧ ↑(s.rf R.TIME_SERVO_THR2 31
      16) * 2 ^ 16 < (sx 64 (BitVec.toNat (s.rd R.TIME_MEAS_LO) + 2 ^ 32 * BitVec.toNat (s.rd R.TIME_MEAS_HI)) : Int).natAbs ∧ s.tim.jumps < 2) ∧
    (∃ (t : Nat) (i : Init) (s : State), s.accepts t i R.TIME_MEAS_CTRL 1#32 ∧ (s.rf R.TIME_SERVO_STAT 2 0 : Nat) = 2 ∧ ↑(s.rf R.TIME_SERVO_THR2 31
      16) * 2 ^ 16 < (sx 64 (BitVec.toNat (s.rd R.TIME_MEAS_LO) + 2 ^ 32 * BitVec.toNat (s.rd R.TIME_MEAS_HI)) : Int).natAbs ∧ 2 ≤ s.tim.jumps ∧ 1 <
      s.rf R.TIME_SERVO_THR2 15 8) ∧
    (∃ (t : Nat) (i : Init) (s : State), s.accepts t i R.TIME_MEAS_CTRL 1#32 ∧ (s.rf R.TIME_SERVO_STAT 2 0 : Nat) = 0 ∧ 1 < s.rf R.TIME_SERVO_THR2 15
      8 ∧ s.rf R.TIME_SERVO_STAT 15 8 = 0 ∧ ↑(s.rf R.TIME_SERVO_THR 15 0) * 1000 * 2 ^ 16 < (sx 64 (BitVec.toNat (s.rd R.TIME_MEAS_LO) + 2 ^ 32 *
      BitVec.toNat (s.rd R.TIME_MEAS_HI)) : Int).natAbs) ∧
    (∃ (t : Nat) (i : Init) (s : State), s.accepts t i R.TIME_MEAS_CTRL 2#32 ∧ (s.rf R.TIME_SERVO_STAT 2 0 : Nat) = 2) ∧
    (∃ (t : Nat) (i : Init) (s : State), s.accepts t i R.TIME_MEAS_CTRL 2#32 ∧ (s.rf R.TIME_SERVO_STAT 2 0 : Nat) ≠ 2) ∧
    (∃ (t : Nat) (s : State), (s.tim.lastMeas + s.rf R.TIME_SERVO_THR2 7 0 * 100000000 ≤ (max s.now t : Nat)) ∧ ((s.rf R.TIME_SERVO_STAT 2 0 : Nat) =
      1 ∨ (s.rf R.TIME_SERVO_STAT 2 0 : Nat) = 2 ∨ (s.rf R.TIME_SERVO_STAT 2 0 : Nat) = 4)) ∧
    (∃ (t : Nat) (s : State), (¬(s.tim.lastMeas + s.rf R.TIME_SERVO_THR2 7 0 * 100000000 ≤ (max s.now t : Nat)) ∨ (s.rf R.TIME_SERVO_STAT 2 0 : Nat)
      = 0 ∨ (s.rf R.TIME_SERVO_STAT 2 0 : Nat) = 3)) ∧
    (∃ (t : Nat) (i : Init) (s : State), s.accepts t i R.TIME_STEP_CMD 1#32 ∧ s.rb R.TIME_TGEN_STAT 3 = false ∧ lampLit s = true) ∧
    (∃ (t : Nat) (i : Init) (s : State), s.accepts t i R.TIME_STEP_CMD 1#32 ∧ lampLit s = false) ∧
    (∃ (t : Nat) (i : Init) (s : State), s.accepts t i R.TIME_STEP_CMD 1#32 ∧ s.rb R.TIME_TGEN_STAT 3 = true ∧ lampLit s = true) ∧
    (∃ (t : Nat) (i : Init) (w : Word) (s : State) (high : Bool), s.accepts t i (if high = true then R.TIME_EPOCH_HI else R.TIME_EPOCH_LO : Nat) w ∧
      s.rf R.TIME_TGEN_STAT 1 0 ≠ 0) ∧
    (∃ (t : Nat) (s : State), (s.at t).answers P.TIME = true ∧ s.en P.TIME = false ∧ lampLit s = true) ∧
    (∃ (t : Nat) (s : State) (tag : Nat) (port : Nat) (ts : Nat) (l : List (Nat × Nat × Nat)), (s.at t).answers P.TIME = true ∧ s.tim.tsq = (tag,
      port, ts) :: l ∧ tag < 65536 ∧ port < 4 ∧ l.length < 64) ∧
    (∃ (t : Nat) (s : State), (s.at t).answers P.TIME = true ∧ s.tim.tsq = []) :=
  ⟨⟨0, Init.safe, onWith [(R.TIME_SERVO_STAT, 2), (R.TIME_MEAS_HI, 0x80000000)], by decide +kernel⟩,
   ⟨0, Init.safe, timS (fun x => { x with jumps := 2 }) [(R.TIME_SERVO_STAT, 2), (R.TIME_MEAS_HI, 0x80000000)], by decide +kernel⟩,
   ⟨0, Init.safe, onWith [(R.TIME_MEAS_HI, 0x7fff)], by decide +kernel⟩,
   ⟨0, Init.safe, onWith [(R.TIME_SERVO_STAT, 2)], by decide +kernel⟩,
   ⟨0, Init.safe, on, by decide +kernel⟩,
   ⟨1000000000000, onWith [(R.TIME_SERVO_STAT, 4)], by decide +kernel⟩,
   ⟨0, on, by decide +kernel⟩,
   ⟨0, Init.safe, onWith [(R.SYS_MODE, 0x12), (R.STATUS (P.SPLT 3), 6)], by decide +kernel⟩,
   ⟨0, Init.safe, onWith [(R.TIME_TGEN_STAT, 8)], by decide +kernel⟩,
   ⟨0, Init.safe, onWith [(R.TIME_TGEN_STAT, 8), (R.SYS_MODE, 0x12), (R.STATUS (P.SPLT 3), 6)], by decide +kernel⟩,
   ⟨0, Init.safe, 5, onWith [(R.TIME_TGEN_STAT, 2)], true, by decide +kernel⟩,
   ⟨0, onWith [(R.SYS_MODE, 0x12), (R.STATUS (P.SPLT 3), 6)], by decide +kernel⟩,
   ⟨0, timS (fun x => { x with tsq := [(65535, 2, 0x123456789ABC), (1,1,1)] }) [], 65535, 2, 0x123456789ABC, [(1,1,1)], by decide +kernel⟩,
   ⟨0, on, by decide +kernel⟩⟩

end Time


namespace Update

def sx0 : SessSt := ⟨none, none, none, [], [], none, 0, [], 0xFF, none, [], none, none⟩

def sesS (st r : Nat) (x : SessSt) (l : List (Nat × Word)) : State :=
  let s := onWith ([(R.NET_SESS_BASE, 0x10100000), (R.SEC_STATUS, 4), (R.NVM_WIN_STAT, 7)] ++ l)
  { putEntry 1023 ([st + 8 * r] ++ List.replicate 23 0 ++ [255, 255, 255, 255] ++ [255, 255, 255, 255, 0, 0, 0, 0] ++ List.replicate 24 0) s with ses := { s.ses with sess := [(1023, x)] } }

def updS (st : Nat) (l : List (Nat × Word)) : State := sesS 2 0 sx0 ([(R.SEC_UPD_STAT, word st)] ++ l)

def typ (s : State) : State := { s with upd := { s.upd with type := 1, len := 100 } }

def opb : Instr × WaordOp := (.auditRead 0 1023 5 0 0, .auditRead 0 0)

/-- A flash directory with two slots for images. -/
def dirS (s : State) : State :=
  let d := bytesLE 4 0x20000 ++ bytesLE 4 6016 ++ List.replicate 8 0 ++ bytesLE 4 0x30000 ++ bytesLE 4 6016 ++ List.replicate 232 0
  (s.stBytes 0x60000000 d).stLE 0x60000100 4 (crc32c d)

theorem test_hypotheses_UpdatesAndAuditFollowTheirStates :
    (∃ (t : Nat) (e : Fin 1024) (txn : Word) (s : State) (type : Fin 256) (len : Word) (ofs : Word) (first : Word) (last : Word) (seq : Word) (l :
      List Byte) (tok : List Byte) (tick : Option Nat) (force : Bool) (p : Instr × WaordOp), p ∈ [(Instr.updBegin t e txn type len, WaordOp.updBegin
      (type.val) (BitVec.toNat len)), (Instr.updData t e txn ofs l, WaordOp.updData (BitVec.toNat ofs) (nums l)), (Instr.updVerify t e txn,
      WaordOp.updVerify), (Instr.updActivate t e txn tick force, WaordOp.updActivate tick force), (Instr.updConfirm t e txn, WaordOp.updConfirm),
      (Instr.updAbort t e txn, WaordOp.updAbort), (Instr.auditRead t e txn first last, WaordOp.auditRead (BitVec.toNat first) (BitVec.toNat last)),
      (Instr.auditAck t e txn seq, WaordOp.auditAck (BitVec.toNat seq)), (Instr.rcvChallenge t e txn, WaordOp.rcvChallenge), (Instr.rcvExit t e txn
      tok, WaordOp.rcvExit (nums tok))] ∧ sessOf s e.val = none) ∧
    (∃ (t : Nat) (e : Fin 1024) (txn : Word) (s : State) (type : Fin 256) (len : Word) (ofs : Word) (first : Word) (last : Word) (seq : Word) (l :
      List Byte) (tok : List Byte) (tick : Option Nat) (force : Bool) (p : Instr × WaordOp) (y : SessSt), p ∈ [(Instr.updBegin t e txn type len,
      WaordOp.updBegin (type.val) (BitVec.toNat len)), (Instr.updData t e txn ofs l, WaordOp.updData (BitVec.toNat ofs) (nums l)), (Instr.updVerify t
      e txn, WaordOp.updVerify), (Instr.updActivate t e txn tick force, WaordOp.updActivate tick force), (Instr.updConfirm t e txn,
      WaordOp.updConfirm), (Instr.updAbort t e txn, WaordOp.updAbort), (Instr.auditRead t e txn first last, WaordOp.auditRead (BitVec.toNat first)
      (BitVec.toNat last)), (Instr.auditAck t e txn seq, WaordOp.auditAck (BitVec.toNat seq)), (Instr.rcvChallenge t e txn, WaordOp.rcvChallenge),
      (Instr.rcvExit t e txn tok, WaordOp.rcvExit (nums tok))] ∧ sessOf s e.val = some y ∧ entryGood s e.val = true ∧ sessState s e.val = 2 ∧
      List.find? (·.txn == BitVec.toNat txn) y.kept = none ∧ (s.ldN (sessAddr s e.val) / 8 % 8 = 7 ∨ secNow (s.at t) ≤ s.ldLE (sessAddr s e.val + 28)
      8) ∧ covers (e.val) y p.2 s = false) ∧
    (∃ (t : Nat) (e : Fin 1024) (txn : Word) (s : State) (y : SessSt) (type : Fin 256) (len : Word), sessOf s e.val = some y ∧ entryGood s e.val =
      true ∧ sessState s e.val = 2 ∧ List.find? (·.txn == BitVec.toNat txn) y.kept = none ∧ (s.ldN (sessAddr s e.val) / 8 % 8 = 7 ∨ secNow (s.at t) ≤
      s.ldLE (sessAddr s e.val + 28) 8) ∧ (s.sec.audit.length + 4 < 256 ∧ s.rf R.SEC_AUDIT_STAT 15 0 = 0 ∧ (BitVec.toNat (s.rd R.SEC_AUDIT_SEQ) :
      Nat) + 4 < 65536) ∧ (fun op => covers (e.val) y op s = true) (WaordOp.updBegin (type.val) (BitVec.toNat len)) ∧ s.rf R.SEC_UPD_STAT 2 0 ≠ 0) ∧
    (∃ (t : Nat) (e : Fin 1024) (txn : Word) (s : State) (y : SessSt) (type : Fin 256) (len : Word), sessOf s e.val = some y ∧ entryGood s e.val =
      true ∧ sessState s e.val = 2 ∧ List.find? (·.txn == BitVec.toNat txn) y.kept = none ∧ (s.ldN (sessAddr s e.val) / 8 % 8 = 7 ∨ secNow (s.at t) ≤
      s.ldLE (sessAddr s e.val + 28) 8) ∧ (s.sec.audit.length + 4 < 256 ∧ s.rf R.SEC_AUDIT_STAT 15 0 = 0 ∧ (BitVec.toNat (s.rd R.SEC_AUDIT_SEQ) :
      Nat) + 4 < 65536) ∧ (fun op => covers (e.val) y op s = true) (WaordOp.updBegin (type.val) (BitVec.toNat len)) ∧ s.rf R.SEC_UPD_STAT 2 0 = 0 ∧
      type.val = 1 ∧ BitVec.toNat len ≤ imageCap 1 ∧ 5696 + BitVec.toNat len ≤ (imagePlace 1 (1 - copyInUse 1 s) s : Nat × Nat).2) ∧
    (∃ (t : Nat) (e : Fin 1024) (txn : Word) (s : State) (y : SessSt) (ofs : Word) (l : List Byte), sessOf s e.val = some y ∧ entryGood s e.val =
      true ∧ sessState s e.val = 2 ∧ List.find? (·.txn == BitVec.toNat txn) y.kept = none ∧ (s.ldN (sessAddr s e.val) / 8 % 8 = 7 ∨ secNow (s.at t) ≤
      s.ldLE (sessAddr s e.val + 28) 8) ∧ (s.sec.audit.length + 4 < 256 ∧ s.rf R.SEC_AUDIT_STAT 15 0 = 0 ∧ (BitVec.toNat (s.rd R.SEC_AUDIT_SEQ) :
      Nat) + 4 < 65536) ∧ (fun op => covers (e.val) y op s = true) (WaordOp.updData (BitVec.toNat ofs) (nums l)) ∧ s.rf R.SEC_UPD_STAT 2 0 ≠ 1) ∧
    (∃ (t : Nat) (e : Fin 1024) (txn : Word) (s : State) (y : SessSt) (ofs : Word) (l : List Byte), sessOf s e.val = some y ∧ entryGood s e.val =
      true ∧ sessState s e.val = 2 ∧ List.find? (·.txn == BitVec.toNat txn) y.kept = none ∧ (s.ldN (sessAddr s e.val) / 8 % 8 = 7 ∨ secNow (s.at t) ≤
      s.ldLE (sessAddr s e.val + 28) 8) ∧ (s.sec.audit.length + 4 < 256 ∧ s.rf R.SEC_AUDIT_STAT 15 0 = 0 ∧ (BitVec.toNat (s.rd R.SEC_AUDIT_SEQ) :
      Nat) + 4 < 65536) ∧ (fun op => covers (e.val) y op s = true) (WaordOp.updData (BitVec.toNat ofs) (nums l)) ∧ s.rf R.SEC_UPD_STAT 2 0 = 1 ∧ 5696
      + s.upd.len < BitVec.toNat ofs + l.length) ∧
    (∃ (t : Nat) (e : Fin 1024) (txn : Word) (s : State) (y : SessSt) (ofs : Word) (l : List Byte), sessOf s e.val = some y ∧ entryGood s e.val =
      true ∧ sessState s e.val = 2 ∧ List.find? (·.txn == BitVec.toNat txn) y.kept = none ∧ (s.ldN (sessAddr s e.val) / 8 % 8 = 7 ∨ secNow (s.at t) ≤
      s.ldLE (sessAddr s e.val + 28) 8) ∧ (s.sec.audit.length + 4 < 256 ∧ s.rf R.SEC_AUDIT_STAT 15 0 = 0 ∧ (BitVec.toNat (s.rd R.SEC_AUDIT_SEQ) :
      Nat) + 4 < 65536) ∧ (fun op => covers (e.val) y op s = true) (WaordOp.updData (BitVec.toNat ofs) (nums l)) ∧ s.rf R.SEC_UPD_STAT 2 0 = 1 ∧
      s.upd.type = 1 ∧ BitVec.toNat ofs + l.length ≤ 5696 + s.upd.len) ∧
    (∃ (t : Nat) (e : Fin 1024) (txn : Word) (s : State) (y : SessSt), sessOf s e.val = some y ∧ entryGood s e.val = true ∧ sessState s e.val = 2 ∧
      List.find? (·.txn == BitVec.toNat txn) y.kept = none ∧ (s.ldN (sessAddr s e.val) / 8 % 8 = 7 ∨ secNow (s.at t) ≤ s.ldLE (sessAddr s e.val + 28)
      8) ∧ (s.sec.audit.length + 4 < 256 ∧ s.rf R.SEC_AUDIT_STAT 15 0 = 0 ∧ (BitVec.toNat (s.rd R.SEC_AUDIT_SEQ) : Nat) + 4 < 65536) ∧ (fun op =>
      covers (e.val) y op s = true) WaordOp.updVerify ∧ s.rf R.SEC_UPD_STAT 2 0 ≠ 1) ∧
    (∃ (t : Nat) (e : Fin 1024) (txn : Word) (s : State) (y : SessSt), sessOf s e.val = some y ∧ entryGood s e.val = true ∧ sessState s e.val = 2 ∧
      List.find? (·.txn == BitVec.toNat txn) y.kept = none ∧ (s.ldN (sessAddr s e.val) / 8 % 8 = 7 ∨ secNow (s.at t) ≤ s.ldLE (sessAddr s e.val + 28)
      8) ∧ (s.sec.audit.length + 4 < 256 ∧ s.rf R.SEC_AUDIT_STAT 15 0 = 0 ∧ (BitVec.toNat (s.rd R.SEC_AUDIT_SEQ) : Nat) + 4 < 65536) ∧ (fun op =>
      covers (e.val) y op s = true) WaordOp.updVerify ∧ s.rf R.SEC_UPD_STAT 2 0 = 1 ∧ s.upd.type < 3 ∧ s.upd.copy < 2) ∧
    (∃ (t : Nat) (e : Fin 1024) (txn : Word) (s : State) (y : SessSt) (tick : Option Nat) (force : Bool), sessOf s e.val = some y ∧ entryGood s e.val
      = true ∧ sessState s e.val = 2 ∧ List.find? (·.txn == BitVec.toNat txn) y.kept = none ∧ (s.ldN (sessAddr s e.val) / 8 % 8 = 7 ∨ secNow (s.at t)
      ≤ s.ldLE (sessAddr s e.val + 28) 8) ∧ (s.sec.audit.length + 4 < 256 ∧ s.rf R.SEC_AUDIT_STAT 15 0 = 0 ∧ (BitVec.toNat (s.rd R.SEC_AUDIT_SEQ) :
      Nat) + 4 < 65536) ∧ (fun op => covers (e.val) y op s = true) (WaordOp.updActivate tick force) ∧ s.rf R.SEC_UPD_STAT 2 0 ≠ 2) ∧
    (∃ (t : Nat) (e : Fin 1024) (txn : Word) (s : State) (y : SessSt) (tick : Option Nat) (force : Bool), sessOf s e.val = some y ∧ entryGood s e.val
      = true ∧ sessState s e.val = 2 ∧ List.find? (·.txn == BitVec.toNat txn) y.kept = none ∧ (s.ldN (sessAddr s e.val) / 8 % 8 = 7 ∨ secNow (s.at t)
      ≤ s.ldLE (sessAddr s e.val + 28) 8) ∧ (s.sec.audit.length + 4 < 256 ∧ s.rf R.SEC_AUDIT_STAT 15 0 = 0 ∧ (BitVec.toNat (s.rd R.SEC_AUDIT_SEQ) :
      Nat) + 4 < 65536) ∧ (fun op => covers (e.val) y op s = true) (WaordOp.updActivate tick force) ∧ s.rf R.SEC_UPD_STAT 2 0 = 2) ∧
    (∃ (t : Nat) (e : Fin 1024) (txn : Word) (s : State) (y : SessSt), sessOf s e.val = some y ∧ entryGood s e.val = true ∧ sessState s e.val = 2 ∧
      List.find? (·.txn == BitVec.toNat txn) y.kept = none ∧ (s.ldN (sessAddr s e.val) / 8 % 8 = 7 ∨ secNow (s.at t) ≤ s.ldLE (sessAddr s e.val + 28)
      8) ∧ (s.sec.audit.length + 4 < 256 ∧ s.rf R.SEC_AUDIT_STAT 15 0 = 0 ∧ (BitVec.toNat (s.rd R.SEC_AUDIT_SEQ) : Nat) + 4 < 65536) ∧ (fun op =>
      covers (e.val) y op s = true) WaordOp.updConfirm ∧ (s.rf R.SEC_UPD_STAT 2 0 ≠ 4 ∨ s.upd.failed = true ∨ trialReached s = false)) ∧
    (∃ (t : Nat) (e : Fin 1024) (txn : Word) (s : State) (y : SessSt), sessOf s e.val = some y ∧ entryGood s e.val = true ∧ sessState s e.val = 2 ∧
      List.find? (·.txn == BitVec.toNat txn) y.kept = none ∧ (s.ldN (sessAddr s e.val) / 8 % 8 = 7 ∨ secNow (s.at t) ≤ s.ldLE (sessAddr s e.val + 28)
      8) ∧ (s.sec.audit.length + 4 < 256 ∧ s.rf R.SEC_AUDIT_STAT 15 0 = 0 ∧ (BitVec.toNat (s.rd R.SEC_AUDIT_SEQ) : Nat) + 4 < 65536) ∧ (fun op =>
      covers (e.val) y op s = true) WaordOp.updConfirm ∧ s.rf R.SEC_UPD_STAT 2 0 = 4 ∧ s.upd.failed = false ∧ trialReached s = true ∧ s.upd.roll ≤
      rollbackLevel (imageCounter (s.nv.trial / 4)) s) ∧
    (∃ (t : Nat) (e : Fin 1024) (txn : Word) (s : State) (y : SessSt), sessOf s e.val = some y ∧ entryGood s e.val = true ∧ sessState s e.val = 2 ∧
      List.find? (·.txn == BitVec.toNat txn) y.kept = none ∧ (s.ldN (sessAddr s e.val) / 8 % 8 = 7 ∨ secNow (s.at t) ≤ s.ldLE (sessAddr s e.val + 28)
      8) ∧ (s.sec.audit.length + 4 < 256 ∧ s.rf R.SEC_AUDIT_STAT 15 0 = 0 ∧ (BitVec.toNat (s.rd R.SEC_AUDIT_SEQ) : Nat) + 4 < 65536) ∧ (fun op =>
      covers (e.val) y op s = true) WaordOp.updAbort ∧ s.rf R.SEC_UPD_STAT 2 0 ≠ 1 ∧ s.rf R.SEC_UPD_STAT 2 0 ≠ 2) ∧
    (∃ (t : Nat) (e : Fin 1024) (txn : Word) (s : State) (y : SessSt), sessOf s e.val = some y ∧ entryGood s e.val = true ∧ sessState s e.val = 2 ∧
      List.find? (·.txn == BitVec.toNat txn) y.kept = none ∧ (s.ldN (sessAddr s e.val) / 8 % 8 = 7 ∨ secNow (s.at t) ≤ s.ldLE (sessAddr s e.val + 28)
      8) ∧ (s.sec.audit.length + 4 < 256 ∧ s.rf R.SEC_AUDIT_STAT 15 0 = 0 ∧ (BitVec.toNat (s.rd R.SEC_AUDIT_SEQ) : Nat) + 4 < 65536) ∧ (fun op =>
      covers (e.val) y op s = true) WaordOp.updAbort ∧ (s.rf R.SEC_UPD_STAT 2 0 = 1 ∨ s.rf R.SEC_UPD_STAT 2 0 = 2) ∧ s.upd.type = 1) ∧
    (∃ (t : Nat) (e : Fin 1024) (txn : Word) (s : State) (y : SessSt) (first : Word) (last : Word), sessOf s e.val = some y ∧ entryGood s e.val =
      true ∧ sessState s e.val = 2 ∧ List.find? (·.txn == BitVec.toNat txn) y.kept = none ∧ (s.ldN (sessAddr s e.val) / 8 % 8 = 7 ∨ secNow (s.at t) ≤
      s.ldLE (sessAddr s e.val + 28) 8) ∧ (s.sec.audit.length + 4 < 256 ∧ s.rf R.SEC_AUDIT_STAT 15 0 = 0 ∧ (BitVec.toNat (s.rd R.SEC_AUDIT_SEQ) :
      Nat) + 4 < 65536) ∧ (fun op => covers (e.val) y op s = true) (WaordOp.auditRead (BitVec.toNat first) (BitVec.toNat last)) ∧ identityStands s =
      true) ∧
    (∃ (t : Nat) (e : Fin 1024) (txn : Word) (s : State) (y : SessSt) (seq : Word), sessOf s e.val = some y ∧ entryGood s e.val = true ∧ sessState s
      e.val = 2 ∧ List.find? (·.txn == BitVec.toNat txn) y.kept = none ∧ (s.ldN (sessAddr s e.val) / 8 % 8 = 7 ∨ secNow (s.at t) ≤ s.ldLE (sessAddr s
      e.val + 28) 8) ∧ (s.sec.audit.length + 4 < 256 ∧ s.rf R.SEC_AUDIT_STAT 15 0 = 0 ∧ (BitVec.toNat (s.rd R.SEC_AUDIT_SEQ) : Nat) + 4 < 65536) ∧
      (fun op => covers (e.val) y op s = true) (WaordOp.auditAck (BitVec.toNat seq))) ∧
    (∃ (t : Nat) (e : Fin 1024) (txn : Word) (s : State) (y : SessSt), sessOf s e.val = some y ∧ entryGood s e.val = true ∧ sessState s e.val = 2 ∧
      List.find? (·.txn == BitVec.toNat txn) y.kept = none ∧ (s.ldN (sessAddr s e.val) / 8 % 8 = 7 ∨ secNow (s.at t) ≤ s.ldLE (sessAddr s e.val + 28)
      8) ∧ (s.sec.audit.length + 4 < 256 ∧ s.rf R.SEC_AUDIT_STAT 15 0 = 0 ∧ (BitVec.toNat (s.rd R.SEC_AUDIT_SEQ) : Nat) + 4 < 65536) ∧ (fun op =>
      covers (e.val) y op s = true) WaordOp.rcvChallenge ∧ rngOk s = true) ∧
    (∃ (t : Nat) (e : Fin 1024) (txn : Word) (s : State) (y : SessSt), sessOf s e.val = some y ∧ entryGood s e.val = true ∧ sessState s e.val = 2 ∧
      List.find? (·.txn == BitVec.toNat txn) y.kept = none ∧ (s.ldN (sessAddr s e.val) / 8 % 8 = 7 ∨ secNow (s.at t) ≤ s.ldLE (sessAddr s e.val + 28)
      8) ∧ (s.sec.audit.length + 4 < 256 ∧ s.rf R.SEC_AUDIT_STAT 15 0 = 0 ∧ (BitVec.toNat (s.rd R.SEC_AUDIT_SEQ) : Nat) + 4 < 65536) ∧ (fun op =>
      covers (e.val) y op s = true) WaordOp.rcvChallenge ∧ rngOk s = false) ∧
    (∃ (t : Nat) (e : Fin 1024) (txn : Word) (s : State) (y : SessSt) (tok : List Byte), sessOf s e.val = some y ∧ entryGood s e.val = true ∧
      sessState s e.val = 2 ∧ List.find? (·.txn == BitVec.toNat txn) y.kept = none ∧ (s.ldN (sessAddr s e.val) / 8 % 8 = 7 ∨ secNow (s.at t) ≤ s.ldLE
      (sessAddr s e.val + 28) 8) ∧ (s.sec.audit.length + 4 < 256 ∧ s.rf R.SEC_AUDIT_STAT 15 0 = 0 ∧ (BitVec.toNat (s.rd R.SEC_AUDIT_SEQ) : Nat) + 4 <
      65536) ∧ (fun op => covers (e.val) y op s = true) (WaordOp.rcvExit (nums tok)) ∧ rngOk s = true) ∧
    (∃ (s : State), s.rf R.SEC_UPD_STAT 2 0 = 1 ∧ (imageCheck s.upd.type s.upd.copy s).1 = false) ∧
    (∃ (t : Nat) (s : State) (x : Nat × Bool), s.upd.act = some x ∧ s.rf R.PWR_STAT 10 8 < 2 ∧ s.rf R.SEC_UPD_STAT 2 0 = 3 ∧ x.1 ≤ s.tickNum ∧
      ((lampLit (s.at t) = false) ∨ x.2 = true)) ∧
    (∃ (t : Nat) (s : State) (x : Nat × Bool), s.upd.act = some x ∧ s.rf R.PWR_STAT 10 8 < 2 ∧ (s.rf R.SEC_UPD_STAT 2 0 ≠ 3 ∨ s.tickNum < x.1 ∨
      ¬(lampLit (s.at t) = false) ∧ x.2 = false)) ∧
    (∃ (t : Nat) (s : State), (s.rf R.SEC_UPD_STAT 2 0 ≠ 4 ∨ s.upd.failed = true ∨ max s.now t < s.upd.trialAt + s.rf R.SEC_UPD_CFG 15 0 * 10 ^ 9)) ∧
    (∃ (t : Nat) (s : State), s.rf R.SEC_UPD_STAT 2 0 = 4 ∧ s.upd.failed = false ∧ s.upd.trialAt + s.rf R.SEC_UPD_CFG 15 0 * 10 ^ 9 ≤ max s.now t ∧
      ¬(lampLit (s.at t) = false)) ∧
    (∃ (t : Nat) (s : State), s.rf R.SEC_UPD_STAT 2 0 = 4 ∧ s.upd.failed = false ∧ s.upd.trialAt + s.rf R.SEC_UPD_CFG 15 0 * 10 ^ 9 ≤ max s.now t ∧
      (lampLit (s.at t) = false)) :=
  ⟨⟨0, 1023, 5, on, 0, 0, 0, 0, 0, 0, [], [], none, false, opb, by simp [opb], by decide +kernel⟩,
   ⟨0, 1023, 5, sesS 2 7 sx0 [], 0, 0, 0, 0, 0, 0, [], [], none, false, opb, sx0, by simp [opb], by decide +kernel, by decide +kernel,
     by decide +kernel, by decide +kernel, by decide +kernel, by decide +kernel⟩,
   ⟨0, 1023, 5, updS 4 [], sx0, 1, 3, by decide +kernel⟩,
   ⟨0, 1023, 5, dirS (updS 0 []), sx0, 1, 100, by decide +kernel⟩,
   ⟨0, 1023, 5, updS 2 [], sx0, 3, [1, 2], by decide +kernel⟩,
   ⟨0, 1023, 5, typ (updS 1 []), sx0, 5795, [1, 255], by decide +kernel⟩,
   ⟨0, 1023, 5, typ (updS 1 []), sx0, 5794, [1, 255], by decide +kernel⟩,
   ⟨0, 1023, 5, updS 2 [], sx0, by decide +kernel⟩,
   ⟨0, 1023, 5, typ (updS 1 []), sx0, by decide +kernel⟩,
   ⟨0, 1023, 5, updS 4 [], sx0, some 3, true, by decide +kernel⟩,
   ⟨0, 1023, 5, updS 2 [], sx0, none, true, by decide +kernel⟩,
   ⟨0, 1023, 5, updS 4 [], sx0, by decide +kernel⟩,
   ⟨0, 1023, 5, { updS 4 [] with nv := { on.nv with trial := 5 }, upd := { on.upd with reached := true } }, sx0, by decide +kernel⟩,
   ⟨0, 1023, 5, updS 3 [], sx0, by decide +kernel⟩,
   ⟨0, 1023, 5, dirS (typ (updS 2 [])), sx0, by decide +kernel⟩,
   ⟨0, 1023, 5, updS 0 [(R.SEC_STATUS, 3)], sx0, 0, 5, by decide +kernel⟩,
   ⟨0, 1023, 5, { updS 0 [] with sec := { on.sec with exported := 3 } }, sx0, 5, by decide +kernel⟩,
   ⟨0, 1023, 5, updS 0 [], sx0, by decide +kernel⟩,
   ⟨0, 1023, 5, updS 0 [(R.SEC_STATUS, 0)], sx0, by decide +kernel⟩,
   ⟨0, 1023, 5, updS 0 [], sx0, [1], by decide +kernel⟩,
   ⟨typ (updS 1 []), by decide +kernel⟩,
   ⟨0, { updS 3 [] with upd := { on.upd with type := 1, act := some (0, true) } }, (0, true), by decide +kernel⟩,
   ⟨0, { updS 3 [] with upd := { on.upd with type := 1, act := some (1, true) } }, (1, true), by decide +kernel⟩,
   ⟨0, updS 3 [], by decide +kernel⟩,
   ⟨1000000000000000, (updS 4 [(R.SYS_MODE, 2)]).wr (R.STATUS (P.SPLT 0)) 6, by decide +kernel⟩,
   ⟨1000000000000000, { updS 4 [] with nv := { on.nv with trial := 5 } }, by decide +kernel⟩⟩

end Update


namespace Video

def vf : VinFrame := { cfg := 5, route := 0, lreq := 0, entry := none, lines := 0, err := 0, num := 77, fs := 5, slot := none, bytes := 0, look := false, skip := false }

/-- Receiver 1 on, with `f` open on stream 3. -/
def vinS (f : Option VinFrame) (l : List (Nat × Word)) : State := { onWith ([(R.CTRL (P.VIN 1), 1)] ++ l) with
  vin := { on.vin with frames := on.vin.frames.set (strm 1 3) f }
  cmp := { on.cmp with bufs := [(9, ⟨0x10000000, 1, 4, 2, 16, 0, .swOwned, 0⟩)] } }

def lookS (l : List (Nat × Word)) (r : Nat) : State :=
  let s := onWith ([(R.CTRL P.LOOK, 1), (R.LOOK_MODEL_BASE, 0x10000000), (R.LOOK_MODEL_LEN, 64)] ++ l)
  let s := s.stLE 0x10000000 4 0x4D4B4F4C
  { s.wr R.LOOK_MODEL_CRC (word (crc32c (s.ldBytes 0x10000000 64))) with look := { s.look with res := r } }

theorem test_hypotheses_ReceiversAndLookTakeTheirEvents :
    (∃ (i : Fin 2) (s : State), ¬(s.en (P.VIN i.val) = true ∧ s.pageOn (P.VIN i.val) = true)) ∧
    (∃ (i : Fin 2) (vc : Fin 4) (s : State) (k : Fin 4), (s.en (P.VIN i.val) = true ∧ s.pageOn (P.VIN i.val) = true) ∧ s.rf (R.VIN_S_CFG i.val k.val)
      2 1 = vc.val ∧ s.rb (R.VIN_S_CFG i.val k.val) 0 = true ∧ s.rf (R.VIN_S_CFG i.val k.val) 17 16 = 1 ∧ s.en P.LOOK = false ∧ (∀ (j : Fin 4), j ≠ k
      → s.rb (R.VIN_S_CFG i.val ↑j) 0 = false ∨ s.rf (R.VIN_S_CFG i.val ↑j) 2 1 ≠ vc.val) ∧ (∀ (j : Fin 4), s.vframe i j = none)) ∧
    (∃ (i : Fin 2) (vc : Fin 4) (s : State) (dt : Fin 64) (vcx : Bool), (s.en (P.VIN i.val) = true ∧ s.pageOn (P.VIN i.val) = true) ∧ (vcx = true ∨
      dtSupported s i dt.val = false ∧ ∀ (k : Fin 4), openOn s i (vc.val) k = none)) ∧
    (∃ (i : Fin 2) (vc : Fin 4) (s : State) (dt : Fin 64), (s.en (P.VIN i.val) = true ∧ s.pageOn (P.VIN i.val) = true) ∧ dtSupported s i dt.val =
      true ∧ (∀ (k : Fin 4), openOn s i (vc.val) k = none)) ∧
    (∃ (i : Fin 2) (s : State), (s.en (P.VIN i.val) = true ∧ s.pageOn (P.VIN i.val) = true)) ∧
    (∃ (i : Fin 2) (vc : Fin 4) (s : State) (k : Fin 4) (f : VinFrame), (s.en (P.VIN i.val) = true ∧ s.pageOn (P.VIN i.val) = true) ∧ openOn s i
      (vc.val) k = some f ∧ (∀ (j : Fin 4), j ≠ k → openOn s i (vc.val) j = none) ∧ f.err ≠ 0 ∧ f.entry = none ∧ f.look = false ∧ bitsOf f.cfg 17 16
      = 0) ∧
    (∃ (i : Fin 2) (vc : Fin 4) (s : State) (k : Fin 4) (f : VinFrame), (s.en (P.VIN i.val) = true ∧ s.pageOn (P.VIN i.val) = true) ∧ openOn s i
      (vc.val) k = some f ∧ (∀ (j : Fin 4), j ≠ k → openOn s i (vc.val) j = none) ∧ f.err = 0 ∧ f.look = false ∧ bitsOf f.cfg 17 16 = 0 ∧ f.entry =
      none ∧ f.skip = true) ∧
    (∃ (i : Fin 2) (vc : Fin 4) (s : State) (k : Fin 4) (f : VinFrame), (s.en (P.VIN i.val) = true ∧ s.pageOn (P.VIN i.val) = true) ∧ openOn s i
      (vc.val) k = some f ∧ (∀ (j : Fin 4), j ≠ k → openOn s i (vc.val) j = none) ∧ f.err = 0 ∧ f.look = false ∧ bitsOf f.cfg 17 16 = 0 ∧ f.entry =
      none ∧ f.skip = false) ∧
    (∃ (i : Fin 2) (vc : Fin 4) (s : State) (k : Fin 4) (f : VinFrame) (e : Nat), (s.en (P.VIN i.val) = true ∧ s.pageOn (P.VIN i.val) = true) ∧
      openOn s i (vc.val) k = some f ∧ (∀ (j : Fin 4), j ≠ k → openOn s i (vc.val) j = none) ∧ f.err = 0 ∧ f.look = false ∧ bitsOf f.cfg 17 16 = 0 ∧
      f.entry = some e ∧ e < 256 ∧ f.lines = (s.buf e).h ∧ f.skip = false ∧ bitOf f.cfg 23 = false ∧ bitOf f.cfg 18 = false ∧ bitOf f.route 0 =
      false) ∧
    (∃ (t : Nat) (i : Fin 2) (vc : Fin 4) (s : State) (k : Fin 4) (f : VinFrame) (e : Nat) (l : List Byte), (s.en (P.VIN i.val) = true ∧ s.pageOn
      (P.VIN i.val) = true) ∧ openOn s i (vc.val) k = some f ∧ (∀ (j : Fin 4), j ≠ k → openOn s i (vc.val) j = none) ∧ f.look = false ∧ s.flt.due =
      [] ∧ bitsOf f.cfg 17 16 = 0 ∧ bitsOf f.cfg 13 8 = f.lreq ∧ f.err ≠ 6 ∧ f.lreq ≠ 30 ∧ f.lreq ≠ 43 ∧ f.lreq ≠ 44 ∧ f.lreq < 64 ∧ f.entry = some e
      ∧ l.length = 2 * (s.buf e).w ∧ rowBytes (s.buf e) = l.length ∧ f.lines < (s.buf e).h ∧ (engineWrite (Init.vin i) ((s.buf e).base + f.lines *
      (s.buf e).stride) (nums l) (s.at t) : Bool × State).1 = true) ∧
    (∃ (t : Nat) (i : Fin 2) (vc : Fin 4) (s : State) (c : Instr), (s.en (P.VIN i.val) = true ∧ s.pageOn (P.VIN i.val) = true) ∧ (c =
      Instr.vinFrameStart t i vc 0 { vcx := true, fixed := false, stop := false } ∨ c = Instr.vinFrameEnd t i vc
      { vcx := true, fixed := false, stop := false } ∨ c = Instr.shortPacketIgnored t i { vcx := true, fixed := false, stop := false })) ∧
    (∃ (t : Nat) (i : Fin 2) (vc : Fin 4) (s : State) (num : Fin 65536) (h : ShortHead) (c : Instr), (s.en (P.VIN i.val) = true ∧ s.pageOn (P.VIN
      i.val) = true) ∧ h.stop = true ∧ (c = Instr.vinFrameStart t i vc num h ∨ c = Instr.shortPacketIgnored t i h ∨ c = Instr.vinFrameEnd t i vc h ∧
      ∀ (k : Fin 4), openOn s i (vc.val) k = none)) ∧
    (∃ (i : Fin 2) (s : State), (s.en (P.VIN i.val) = true ∧ s.pageOn (P.VIN i.val) = true)) ∧
    (∃ (s : State), s.en P.LOOK = false) ∧
    (∃ (s : State), s.en P.LOOK = true ∧ s.rb (R.STATUS P.LOOK : Nat) 1 = false) ∧
    (∃ (s : State), s.en P.LOOK = true ∧ s.rb (R.STATUS P.LOOK : Nat) 1 = true) ∧
    (∃ (t : Nat) (s : State) (o : Init) (w : Word), s.accepts t o R.LOOK_CMD (putBit w 0 true) ∧ s.en P.LOOK = true ∧ s.rb (R.STATUS P.LOOK : Nat) 1
      = false) ∧
    (∃ (t : Nat) (s : State) (o : Init) (w : Word), s.accepts t o (R.CTRL P.LOOK) (putBit w 0 true) ∧ s.en P.LOOK = false) ∧
    (∃ (t : Nat) (s : State) (o : Init) (w : Word), s.accepts t o (R.CTRL P.LOOK) (putBit w 0 true) ∧ s.en P.LOOK = true) ∧
    (∃ (s : State), s.rb (R.STATUS P.LOOK : Nat) 1 = false) ∧
    (∃ (s : State), s.rb (R.STATUS P.LOOK : Nat) 1 = true ∧ s.beamGated = false ∧ modelOk s = false) ∧
    (∃ (s : State), s.rb (R.STATUS P.LOOK : Nat) 1 = true ∧ s.beamGated = false ∧ modelOk s = true ∧ s.look.res ≠ 0) ∧
    (∃ (s : State), s.rb (R.STATUS P.LOOK : Nat) 1 = true ∧ s.beamGated = false ∧ modelOk s = true ∧ s.look.res = 0) :=
  ⟨⟨0, on, by decide +kernel⟩,
   ⟨1, 2, vinS none [(R.VIN_S_CFG 1 3, 0x10005)], 3, by decide +kernel⟩,
   ⟨1, 2, vinS (some vf) [], 0x13, true, by decide +kernel⟩,
   ⟨1, 2, vinS none [], 0x1E, by decide +kernel⟩,
   ⟨1, vinS (some vf) [], by decide +kernel⟩,
   ⟨1, 2, vinS (some { vf with err := 4 }) [], 3, { vf with err := 4 }, by decide +kernel⟩,
   ⟨1, 2, vinS (some { vf with skip := true }) [], 3, { vf with skip := true }, by decide +kernel⟩,
   ⟨1, 2, vinS (some vf) [], 3, vf, by decide +kernel⟩,
   ⟨1, 2, vinS (some { vf with entry := some 9, lines := 2 }) [], 3, { vf with entry := some 9, lines := 2 }, 9, by decide +kernel⟩,
   ⟨0, 1, 2, vinS (some { vf with cfg := 0x3005, entry := some 9, lines := 1, lreq := 0x30 }) [], 3,
     { vf with cfg := 0x3005, entry := some 9, lines := 1, lreq := 0x30 }, 9, [1,2,3,4,5,6,7,8], by decide +kernel⟩,
   ⟨0, 1, 0, vinS none [], .vinFrameStart 0 1 0 0 ⟨true, false, false⟩, by decide +kernel⟩,
   ⟨0, 1, 0, vinS none [], 0, ⟨false, false, true⟩, .shortPacketIgnored 0 1 ⟨false, false, true⟩, by decide +kernel⟩,
   ⟨1, vinS none [], by decide +kernel⟩,
   ⟨on, by decide +kernel⟩,
   ⟨onWith [(R.CTRL P.LOOK, 1)], by decide +kernel⟩,
   ⟨onWith [(R.CTRL P.LOOK, 1), (R.STATUS P.LOOK, 2)], by decide +kernel⟩,
   ⟨0, onWith [(R.CTRL P.LOOK, 1)], Init.safe, 0, by decide +kernel⟩,
   ⟨0, on, Init.safe, 0, by decide +kernel⟩,
   ⟨0, onWith [(R.CTRL P.LOOK, 1)], Init.safe, 0, by decide +kernel⟩,
   ⟨on, by decide +kernel⟩,
   ⟨onWith [(R.CTRL P.LOOK, 1), (R.STATUS P.LOOK, 2)], by decide +kernel⟩,
   ⟨lookS [(R.STATUS P.LOOK, 2)] 3, by decide +kernel⟩,
   ⟨lookS [(R.STATUS P.LOOK, 2)] 0, by decide +kernel⟩⟩

end Video

end Sys2Proof.Tests
end

section
/-! PROOFS. Accesses to a register page that are narrow or misaligned (R15), or that meet a block without clock or power (R18): what each answers, drops
and raises, and the two statements about them. -/

namespace Sys2Proof.Machine

variable {s t : State} {i : Init} {a n size : Nat} {w : Word}

/-! ### The commands as register accesses -/

theorem exec_registerWrite (n : Nat) (i : Init) (a size : Nat) (w : Word) (s : State) :
    exec (.registerWrite n i a size w) s = .next (regAccess i a size w (s.at n)) := rfl

/-- On a register page BUS_WRITE is a register access of as many bytes as it brings (R15, R60). -/
theorem exec_busWrite_reg (h : isReg a = true) (n : Nat) (i : Init) (l : List Byte) (s : State) :
    exec (.busWrite n i a l) s = .next (regAccess i a l.length (word (ofLE (nums l))) (s.at n)) := by
  change Host.Outcome.next (busWrite i a (nums l) (s.at n)) = _
  rw [busWrite, regionOf_reg h]
  simp [nums]

theorem exec_busRead (n : Nat) (i : Init) (a size : Nat) (s : State) : exec (.busRead n i a size) s = .next (busRead i a size (s.at n)) := rfl

/-! ### The writer -/

/-- The word that holds `a` takes writes of `i` (R27): neither its page nor its register is SAFE's alone, or `i` is one of those that R27 admits. -/
abbrev WriterTaken (i : Init) (a : Nat) (s : State) : Prop :=
  safeOnlyPage (pageOf a) = false ∧ safeOnlyReg (a / 4 * 4) = false ∨ trusted i s = true

theorem writerTaken_iff : WriterTaken i a s ↔ ((safeOnlyPage (pageOf a) || safeOnlyReg (a / 4 * 4)) && !trusted i s) = false := by
  simp only [WriterTaken, Bool.and_eq_false_iff, Bool.or_eq_false_iff, Bool.not_eq_false']

/-- Who may write does not hang on the instant. -/
theorem writerTaken_at (n : Nat) : WriterTaken i a (s.at n) ↔ WriterTaken i a s := Iff.rfl

/-! ### A narrow or misaligned access, case by case -/

theorem regAccess_narrow_off (hn : ¬(size = 4 ∧ a % 4 = 0)) (hp : s.answers (pageOf a) = false) :
    regAccess i a size w s = raiseBus 2 i a true s.busErr := by
  simp [regAccess, hn, hp]

theorem regAccess_narrow_denied (hn : ¬(size = 4 ∧ a % 4 = 0)) (hp : s.answers (pageOf a) = true) (hw : ¬WriterTaken i a s) :
    regAccess i a size w s = raiseBus 0 i a true s.busErr := by
  rw [writerTaken_iff, Bool.not_eq_false] at hw
  rw [regAccess, if_neg hn, if_neg (by simp [hp]), if_pos hw]

theorem regAccess_narrow_dropped (hn : ¬(size = 4 ∧ a % 4 = 0)) (hp : s.answers (pageOf a) = true) (hw : WriterTaken i a s) :
    regAccess i a size w s = s.busErr := by
  rw [writerTaken_iff] at hw
  rw [regAccess, if_neg hn, if_neg (by simp [hp]), if_neg (by simp [hw])]

theorem busRead_narrow_off (h : isReg a = true) (hn : ¬(size = 4 ∧ a % 4 = 0)) (hp : s.answers (pageOf a) = false) :
    busRead i a size s = raiseBus 2 i a false s.busErr := by
  simp [busRead, regionOf_reg h, hn, hp]

theorem busRead_narrow_dropped (h : isReg a = true) (hn : ¬(size = 4 ∧ a % 4 = 0)) (hp : s.answers (pageOf a) = true) :
    busRead i a size s = s.busErr := by
  simp [busRead, regionOf_reg h, hn, hp]

/-! ### An aligned access of four bytes -/

theorem regAccess_word (ha : a % 4 = 0) : regAccess i a 4 w s = gateWrite i a w (hookOf i a) s := by
  simp [regAccess, regWrite, ha]

/-- A write of a page without clock or power ends before any other check (R18). -/
theorem gateWrite_off (hook : Word → Word → State → State) (hp : s.answers (pageOf a) = false) :
    gateWrite i a w hook s = raiseBus 2 i a true s.busOk := by
  simp [gateWrite, writeVerdict, hp]

/-- A read of a page without clock or power brings no register up to date and has no effect of its own (R18). -/
theorem busRead_word_off (h : isReg a = true) (ha : a % 4 = 0) (hp : s.answers (pageOf a) = false) :
    busRead i a 4 s = raiseBus 2 i a false s.busErr := by
  simp [busRead, regionOf_reg h, ha, regRead, gateRead, hp]

@[simp] theorem storeReg_bus (a : Nat) (w : Word) (s : State) : (storeReg a w s).bus = s.bus := by
  simp only [storeReg]
  split <;> rfl

/-! ### What is recorded and what stays -/

theorem calm_busErr_at (n : Nat) (s : State) : Calm s (s.at n).busErr := (Only.refl [] [] s).upd rfl rfl rfl rfl rfl rfl

theorem calm_busOk_at (n : Nat) (s : State) : Calm s (s.at n).busOk := (Only.refl [] [] s).upd rfl rfl rfl rfl rfl rfl

/-- A bus fault met in a state that differs from `s` in its answer alone is raised where only the fault's record differs from `s` (R523). -/
theorem raiseBus_of_calm (k : Nat) (i : Init) (a : Nat) (b : Bool) (hk : k < 3) (h : Calm s t) :
    ∃ u, raiseBus k i a b t = raise (busSrc k) u ∧ u.bus = t.bus ∧ u.rd R.FLT_BUS_ADDR = word a ∧
      Only [R.FLT_BUS_ADDR, R.FLT_BUS_INFO] [] s u := by
  obtain ⟨u, hraise, hbus, haddr, -, -, -, honly⟩ := raiseBus_eq (s := t) k i a b hk
  exact ⟨u, hraise, hbus, haddr, (h.mono (by simp) (by simp)).trans honly⟩

/-- A command that ends as a bus fault after a bus error: the error is answered, the address recorded and nothing else changed. -/
theorem busFault_told {c : Instr} (k : Nat) (b : Bool) (hk : k < 3) (h : exec c s = .next (raiseBus k i a b (s.at n).busErr)) :
    ∃ u, exec c s = .next (raise (busSrc k) u) ∧ u.bus = ⟨0#32, true⟩ ∧ u.rd R.FLT_BUS_ADDR = word a ∧
      Only [R.FLT_BUS_ADDR, R.FLT_BUS_INFO] [] s u := by
  obtain ⟨u, hraise, htold⟩ := raiseBus_of_calm k i a b hk (calm_busErr_at n s)
  exact ⟨u, by rw [h, hraise], htold⟩

/-- A command that ends with a bus error alone. -/
theorem busErr_calm {c : Instr} (h : exec c s = .next (s.at n).busErr) : ∃ u, exec c s = .next u ∧ u.bus = ⟨0#32, true⟩ ∧ Calm s u :=
  ⟨_, h, rfl, calm_busErr_at n s⟩

/-- Each command that is a narrow or misaligned write of a register page is dropped with a bus error, and tells what R18 and R27 have it tell. -/
theorem narrowWrite_dropped {c : Instr} (hc : exec c s = .next (regAccess i a size w (s.at n))) (hn : ¬(size = 4 ∧ a % 4 = 0)) :
    ((s.at n).answers (pageOf a) = true → WriterTaken i a s → ∃ u, exec c s = .next u ∧ u.bus = ⟨0#32, true⟩ ∧ Calm s u) ∧
    ((s.at n).answers (pageOf a) = true → ¬WriterTaken i a s → ∃ u, exec c s = .next (raise Src.ACCESS_VIOLATION u) ∧ u.bus = ⟨0#32, true⟩ ∧
      u.rd R.FLT_BUS_ADDR = word a ∧ Only [R.FLT_BUS_ADDR, R.FLT_BUS_INFO] [] s u) ∧
    (¬(s.at n).answers (pageOf a) = true → ∃ u, exec c s = .next (raise Src.BUS_OFF_ACCESS u) ∧ u.bus = ⟨0#32, true⟩ ∧
      u.rd R.FLT_BUS_ADDR = word a ∧ Only [R.FLT_BUS_ADDR, R.FLT_BUS_INFO] [] s u) := by
  refine ⟨fun hp hw => ?_, fun hp hw => ?_, fun hp => ?_⟩
  · rw [← writerTaken_at n] at hw
    exact busErr_calm (hc.trans (congrArg _ (regAccess_narrow_dropped hn hp hw)))
  · rw [← writerTaken_at n] at hw
    exact busFault_told 0 true (by omega) (hc.trans (congrArg _ (regAccess_narrow_denied hn hp hw)))
  · exact busFault_told 2 true (by omega) (hc.trans (congrArg _ (regAccess_narrow_off hn (eq_false_of_ne_true hp))))

/-- Settles O5: by the cases of a narrow access (no power, a writer that R27 shuts out, neither) for both commands that write and the one that reads,
and by the store of an accepted write, which leaves the answer alone. -/
theorem registerPagesTakeAlignedWords : Obligations.RegisterPagesTakeAlignedWords := by
  intro n i a s hreg powered mine told
  refine ⟨fun size v hn => narrowWrite_dropped (exec_registerWrite n i a size v s) hn,
    fun l hn => narrowWrite_dropped (exec_busWrite_reg hreg n i l s) hn, fun size hn => ⟨fun hp => ?_, fun hp => ?_⟩, fun v ha hacc hen hstat hhook => ?_⟩
  · exact busErr_calm ((exec_busRead n i a size s).trans (congrArg _ (busRead_narrow_dropped hreg hn hp)))
  · exact busFault_told 2 false (by omega) ((exec_busRead n i a size s).trans (congrArg _ (busRead_narrow_off hreg hn (eq_false_of_ne_true hp))))
  · refine ⟨_, exec_registerWrite n i a 4 v s, ?_⟩
    rw [regAccess_word ha, hhook, gateWrite_accepts noHook hacc ⟨hen, hstat⟩, noHook, storeReg_bus]
    rfl

/-- Settles O6: power is the first check of both accesses, and what it leads to is the fault's record alone. -/
theorem accessWithoutPowerRaisesBusOffAccess : Obligations.AccessWithoutPowerRaisesBusOffAccess := by
  intro n i a s hreg ha hoff
  refine ⟨fun v => ?_, ?_⟩
  · obtain ⟨u, hraise, -, haddr, honly⟩ := raiseBus_of_calm 2 i a true (by omega) (calm_busOk_at n s)
    exact ⟨u, by rw [exec_registerWrite, regAccess_word ha, gateWrite_off _ hoff, hraise]; rfl, haddr, honly⟩
  · exact busFault_told 2 false (by omega) ((exec_busRead n i a 4 s).trans (congrArg _ (busRead_word_off hreg ha hoff)))

end Sys2Proof.Machine
end

section
/-! PROOFS. Accesses to the pages that take writes from SAFE alone (R27), and writes to the fields that a staged group holds (R45): the verdict of each
write, what a read of such a page does, and the two statements about them. -/

namespace Sys2Proof.Machine

variable {s u : State} {i : Init} {a n : Nat} {w : Word}

/-! ### The verdict of a write -/

/-- R27: power is the only check before the writer. -/
theorem writeVerdict_denied (hp : s.answers (pageOf a) = true) (hpage : safeOnlyPage (pageOf a) = true) (hi : trusted i s = false) :
    writeVerdict i a w s = .denied := by
  simp [writeVerdict, hp, hpage, hi]

theorem writeVerdict_ne_denied (hi : trusted i s = true) : writeVerdict i a w s ≠ .denied := by
  simp only [writeVerdict, hi, Bool.not_true, Bool.and_false, Bool.false_eq_true, if_false]
  split_ifs <;> simp

/-- The fields that R45 freezes: GROUP in the COMMIT of a block that is STAGED, and the guard while a group is armed. -/
abbrev StagedField (a : Nat) (s : State) : Prop := offOf a = 0x28 ∧ s.rb a 9 = true ∨ a = R.SYS_COMMIT_GUARD ∧ s.rd R.SYS_CG_ARMED ≠ 0#32

/-- A write to a staged field that passes the checks before R17's is answered as R17's are, whether or not the register is live-only as well. -/
theorem writeVerdict_staged (hp : s.answers (pageOf a) = true) (hw : safeOnlyPage (pageOf a) = true ∨ safeOnlyReg a = true → trusted i s = true)
    (hbeam : beamTouched s a w = false) (hstaged : StagedField a s) : writeVerdict i a w s = .live := by
  have hwriter : ((safeOnlyPage (pageOf a) || safeOnlyReg a) && !trusted i s) = false := by
    rw [← Bool.or_eq_true] at hw
    cases h : safeOnlyPage (pageOf a) || safeOnlyReg a
    · rfl
    · simp [hw h]
  rw [writeVerdict, if_neg (by simp [hp]), if_neg (by simp [hwriter]), if_neg (by simp [hbeam])]
  obtain ⟨hoff, hbit⟩ | hguard := hstaged
  · simp [hoff, hbit]
  · rw [if_pos hguard, ite_self, ite_self]

theorem gateWrite_denied (hook : Word → Word → State → State) (h : writeVerdict i a w s = .denied) :
    gateWrite i a w hook s = raiseBus 0 i a true s.busErr := by
  rw [gateWrite, h]

theorem gateWrite_live (hook : Word → Word → State → State) (h : writeVerdict i a w s = .live) :
    gateWrite i a w hook s = raise Src.CFG_LIVE_WRITE s.busOk := by
  rw [gateWrite, h]

/-! ### A read of a page of R27 -/

/-- The pages R27 names: FLT, SEC and the control page of SAFE. -/
abbrev SafePage (p : Nat) : Prop := 0x04 ≤ p ∧ p ≤ 0x0b ∨ 0x10 ≤ p ∧ p ≤ 0x17 ∨ p = 0xe1

theorem SafePage.safeOnly {p : Nat} (h : SafePage p) : safeOnlyPage p = true := by
  simp only [safeOnlyPage, Bool.or_eq_true, Bool.and_eq_true, decide_eq_true_eq]
  omega

theorem SafePage.page_eq_iff {p q : Nat} (h : SafePage p) (hq : ¬SafePage q) : p = q ↔ False :=
  iff_false_intro fun e => hq (e ▸ h)

theorem SafePage.addr_eq_iff {b : Nat} (h : SafePage (pageOf a)) (hb : ¬SafePage (pageOf b)) : a = b ↔ False :=
  iff_false_intro fun e => hb (e ▸ h)

/-- Power and reset of a page hang on the domains, the resets under way and the instant alone (R18, R522). -/
theorem answers_congr (hr : u.rd R.PWR_DOMAIN_STAT = s.rd R.PWR_DOMAIN_STAT) (hf : u.flt = s.flt) (hn : u.now = s.now) (p : Nat) :
    u.answers p = s.answers p := by
  simp only [State.answers, State.pageOn, State.domainPowered, State.domainOn, State.rb, State.inReset, hr, hf, hn]

theorem rawRead_ld (a b : Nat) (s : State) : (rawRead a s).ld b = s.ld b := by
  rw [rawRead]
  split <;> rfl

theorem rawRead_answers (ha : a ≠ R.PWR_DOMAIN_STAT) (p : Nat) (s : State) : (rawRead a s).answers p = s.answers p := by
  rw [rawRead]
  split
  · rfl
  · exact answers_congr (State.rd_wr_of_ne _ ha.symm _) rfl rfl p

/-- Of what a read may bring up to date first, only the RAW bit of a fault source lies in a page of R27 (R504). -/
theorem readFirst_safePage (h : SafePage (pageOf a)) : readFirst a s = if isSrcStat a then rawRead a s else s := by
  have hcrc : ¬(0x30 ≤ pageOf a ∧ pageOf a ≤ 0x37) := by omega
  have hvin : ¬(0x40 ≤ pageOf a ∧ pageOf a ≤ 0x41) := by omega
  simp (disch := decide) only [readFirst, h.page_eq_iff, h.addr_eq_iff, hcrc, hvin, if_false, false_or, false_and]

/-- Bringing a register of these pages up to date leaves memory and the page's power as they are. -/
theorem readFirst_safePage_keeps (h : SafePage (pageOf a)) (s : State) :
    (∀ b, (readFirst a s).ld b = s.ld b) ∧ ∀ p, (readFirst a s).answers p = s.answers p := by
  have ha : a ≠ R.PWR_DOMAIN_STAT := fun e => (h.addr_eq_iff (by decide)).1 e
  rw [readFirst_safePage h]
  split
  · exact ⟨fun b => rawRead_ld a b s, fun p => rawRead_answers ha p s⟩
  · exact ⟨fun _ => rfl, fun _ => rfl⟩

/-- Of the reads whose data is no register of the map, only the token floors lie in these pages: they answer with data and leave memory as it is. -/
theorem readData_safePage_keeps (h : SafePage (pageOf a)) (hb : s.bus.err = false) :
    (readData a s).bus.err = false ∧ ∀ b, (readData a s).ld b = s.ld b := by
  have hctl : ¬(0xa1 ≤ pageOf a ∧ pageOf a ≤ 0xb0) := by omega
  simp (disch := decide) only [readData, h.addr_eq_iff, hctl, if_false, false_or]
  split
  · split
    · exact ⟨hb, fun _ => rfl⟩
    · exact ⟨rfl, fun _ => rfl⟩
  · exact ⟨hb, fun _ => rfl⟩

/-- A powered page of R27 answers every reader's aligned word without an error, and the read stores nothing in memory. -/
theorem busRead_safePage (hreg : isReg a = true) (ha : a % 4 = 0) (hp : s.answers (pageOf a) = true) (h : SafePage (pageOf a)) :
    (busRead i a 4 s).bus.err = false ∧ ∀ b, (busRead i a 4 s).ld b = s.ld b := by
  obtain ⟨hmem, hans⟩ := readFirst_safePage_keeps h s
  have hread : busRead i a 4 s = readData a ((readFirst a s).busData ((readFirst a s).readReg a)) := by
    simp [busRead, regionOf_reg hreg, ha, regRead, gateRead, hp, hans]
  obtain ⟨herr, hdata⟩ := readData_safePage_keeps (s := (readFirst a s).busData ((readFirst a s).readReg a)) h rfl
  rw [hread]
  exact ⟨herr, fun b => (hdata b).trans (hmem b)⟩

/-! ### The two statements -/

/-- Settles O7: the writer is the check after power, so a write that R27 shuts out leaves the fault's record alone; a read of these pages runs no effect
but the update of a RAW bit and the latch of a token floor. -/
theorem safePagesTakeWritesFromSafeOnly : Obligations.SafePagesTakeWritesFromSafeOnly := by
  intro n i a s hreg ha hp hpage
  refine ⟨fun hi v => ?_, fun hi v => writeVerdict_ne_denied hi, ?_⟩
  · have hdenied : writeVerdict i a v (s.at n) = .denied := writeVerdict_denied hp (SafePage.safeOnly hpage) hi
    obtain ⟨u, hraise, hbus, haddr, hinit, -, hwrite, honly⟩ := raiseBus_eq (s := (s.at n).busErr) 0 i a true (by omega)
    refine ⟨u, ?_, hbus, haddr, hinit, hwrite, ((calm_busErr_at n s).mono (by simp) (by simp)).trans honly⟩
    rw [exec_registerWrite, regAccess_word ha, gateWrite_denied _ hdenied, hraise]
    rfl
  · obtain ⟨herr, hmem⟩ := busRead_safePage (i := i) hreg ha hp hpage
    exact ⟨_, exec_busRead n i a 4 s, herr, hmem⟩

/-- Settles O8: neither field's check hangs on the instant, and its verdict ends the write before the store. -/
theorem stagedCommitFieldsDropWrites : Obligations.StagedCommitFieldsDropWrites := by
  intro n i a v s _ ha hp hw hbeam hstaged
  have hlive : writeVerdict i a v (s.at n) = .live := writeVerdict_staged hp hw hbeam hstaged
  exact ⟨(s.at n).busOk, by rw [exec_registerWrite, regAccess_word ha, gateWrite_live _ hlive], calm_busOk_at n s⟩

end Sys2Proof.Machine
end

section
/-! PROOFS. The statements on the device's other blocks. Their theorems are elaborated one after another: side by side, with those above, they ask for
more memory than the check of the whole text has. -/

set_option Elab.async false

section
/-! PROOFS. Reads and frames of the small operations on registers and statistics: what a field, a bit and an interrupt read as after one of them is set,
and what each operation leaves as it is. -/

namespace Sys2Proof.Machine

variable {l m : List Nat} {s t u : State} {a b c hi lo hi' lo' n p v : Nat} {x : Bool} {w : Word}

/-! ### Fields and bits of a register after a field or a bit of it is set -/

theorem State.rd_wf_of_ne (h : b ≠ a) : (s.wf a hi lo v).rd b = s.rd b := State.rd_wr_of_ne _ h _

theorem State.rd_wb_of_ne (h : b ≠ a) : (s.wb a n x).rd b = s.rd b := State.rd_wr_of_ne _ h _

@[simp] theorem State.rd_wf_self : (s.wf a hi lo v).rd a = putBits (s.rd a) hi lo v := State.rd_wr_self ..

@[simp] theorem State.rd_wb_self : (s.wb a n x).rd a = putBit (s.rd a) n x := State.rd_wr_self ..

theorem State.rf_wf_self (h : lo ≤ hi) (h32 : hi < 32) : (s.wf a hi lo v).rf a hi lo = v % 2 ^ (hi + 1 - lo) := by
  rw [State.rf, State.rd_wf_self, bitsOf_putBits_self _ _ h h32]

theorem State.rf_wf_disjoint (h : lo ≤ hi) (h32 : hi < 32) (hd : hi < lo' ∨ hi' < lo) : (s.wf a hi lo v).rf a hi' lo' = s.rf a hi' lo' := by
  rw [State.rf, State.rd_wf_self, bitsOf_putBits_of_disjoint _ _ h h32 hd, State.rf]

theorem State.rb_wf_disjoint (h : lo ≤ hi) (h32 : hi < 32) (hd : hi < c ∨ c < lo) : (s.wf a hi lo v).rb a c = s.rb a c := by
  rw [State.rb, State.rd_wf_self, bitOf_putBits_of_disjoint _ _ h h32 hd, State.rb]

theorem State.rb_wb_self (h : n < 32) : (s.wb a n x).rb a n = x := by
  rw [State.rb, State.rd_wb_self, bitOf_putBit_self _ _ h]

theorem State.rb_wb_bit (h : n < 32) (hc : c ≠ n) : (s.wb a n x).rb a c = s.rb a c := by
  rw [State.rb, State.rd_wb_self, bitOf_putBit_of_ne _ _ h hc, State.rb]

theorem State.rf_wb_disjoint (h : n < 32) (hd : hi < n ∨ n < lo) : (s.wb a n x).rf a hi lo = s.rf a hi lo := by
  rw [State.rf, State.rd_wb_self, bitsOf_putBit_of_disjoint _ _ h hd, State.rf]

theorem State.rf_wf_of_ne (h : b ≠ a) : (s.wf a hi lo v).rf b hi' lo' = s.rf b hi' lo' := by
  rw [State.rf, State.rd_wf_of_ne h, State.rf]

theorem State.rb_wf_of_ne (h : b ≠ a) : (s.wf a hi lo v).rb b c = s.rb b c := by
  rw [State.rb, State.rd_wf_of_ne h, State.rb]

theorem State.rf_wb_of_ne (h : b ≠ a) : (s.wb a n x).rf b hi lo = s.rf b hi lo := by
  rw [State.rf, State.rd_wb_of_ne h, State.rf]

theorem State.rb_wb_of_ne (h : b ≠ a) : (s.wb a n x).rb b c = s.rb b c := by
  rw [State.rb, State.rd_wb_of_ne h, State.rb]

theorem State.rf_wr_of_ne (h : b ≠ a) : (s.wr a w).rf b hi lo = s.rf b hi lo := by
  rw [State.rf, State.rd_wr_of_ne _ h, State.rf]

theorem State.rb_wr_of_ne (h : b ≠ a) : (s.wr a w).rb b c = s.rb b c := by
  rw [State.rb, State.rd_wr_of_ne _ h, State.rb]

@[simp] theorem State.rf_wr_self : (s.wr a w).rf a hi lo = bitsOf w hi lo := by
  rw [State.rf, State.rd_wr_self]

@[simp] theorem State.rb_wr_self : (s.wr a w).rb a c = bitOf w c := by
  rw [State.rb, State.rd_wr_self]

/-! ### Events -/

theorem State.rd_event_of_ne (h : b ≠ a) : (s.event a n).rd b = s.rd b := State.rd_wr_of_ne _ h _

theorem State.rb_event_self (h : n < 32) : (s.event a n).rb a n = true := State.rb_wb_self h

theorem State.rb_irq_self (h : n < 32) : (s.irq p n).rb (R.IRQ_STAT p) n = true := State.rb_event_self h

theorem State.rd_irq_of_ne (h : b ≠ R.IRQ_STAT p) : (s.irq p n).rd b = s.rd b := State.rd_event_of_ne h

theorem State.rf_irq_of_ne (h : b ≠ R.IRQ_STAT p) : (s.irq p n).rf b hi lo = s.rf b hi lo := by
  rw [State.rf, State.rd_irq_of_ne h, State.rf]

theorem State.rb_irq_of_ne (h : b ≠ R.IRQ_STAT p) : (s.irq p n).rb b c = s.rb b c := by
  rw [State.rb, State.rd_irq_of_ne h, State.rb]

@[simp] theorem State.rb_note : (s.note a n).rb b c = s.rb b c := rfl

@[simp] theorem State.rf_note : (s.note a n).rf b hi lo = s.rf b hi lo := rfl

theorem State.rb_irq_bit (h : n < 32) (hc : c ≠ n) : (s.irq p n).rb (R.IRQ_STAT p) c = s.rb (R.IRQ_STAT p) c := by
  rw [State.irq, State.event, State.rb_wb_bit h hc, State.rb_note]

/-! ### What `Only` is kept by -/

theorem Only.wf (h : Only l m s t) (ha : a ∈ l) : Only l m s (t.wf a hi lo v) := h.wr ha

theorem Only.wb (h : Only l m s t) (ha : a ∈ l) : Only l m s (t.wb a n x) := h.wr ha

theorem Only.orMask (h : Only l m s t) (ha : a ∈ l) : Only l m s (t.orMask a n) := h.wr ha

theorem Only.stampHi (h : Only l m s t) (ha : a ∈ l) : Only l m s (t.stampHi a) := h.wr ha

theorem Only.note (h : Only l m s t) : Only l m s (t.note a n) := h.upd rfl rfl rfl rfl rfl rfl

theorem Only.event (h : Only l m s t) (ha : a ∈ l) : Only l m s (t.event a n) := h.note.wr ha

theorem Only.irq (h : Only l m s t) (ha : R.IRQ_STAT p ∈ l) : Only l m s (t.irq p n) := h.event ha

theorem Only.irqIf (h : Only l m s t) (ha : R.IRQ_STAT p ∈ l) : Only l m s (t.irqIf x p n) := (h.irq ha).ite h

theorem Only.stAdd (h : Only l m s t) (ha : a ∈ m) : Only l m s (t.stAdd a hi lo n) := h.stw ha

theorem Only.stSet (h : Only l m s t) (ha : a ∈ m) : Only l m s (t.stSet a hi lo n) := h.stw ha

theorem Only.stMax (h : Only l m s t) (ha : a ∈ m) : Only l m s (t.stMax a hi lo n) := h.stw ha

theorem Only.when {f : State → State} (h : Only l m s t) (hf : x = true → Only l m s (f t)) : Only l m s (t.when x f) := by
  rw [State.when]; split
  · exact hf ‹_›
  · exact h

theorem Only.setTile {k : Fin 4} {f : TileSt → TileSt} (h : Only l m s t) : Only l m s (t.setTile k f) := h.upd rfl rfl rfl rfl rfl rfl

theorem Only.busOk (h : Only l m s t) : Only l m s t.busOk := h.upd rfl rfl rfl rfl rfl rfl

theorem Only.busErr (h : Only l m s t) : Only l m s t.busErr := h.upd rfl rfl rfl rfl rfl rfl

theorem Only.busData (h : Only l m s t) : Only l m s (t.busData w) := h.upd rfl rfl rfl rfl rfl rfl

/-- A fold whose step keeps `Only` for the members of the list. -/
theorem Only.overMem {α : Type} {xs : List α} {f : State → α → State} (h : Only l m s t) (hf : ∀ u, ∀ x ∈ xs, Only l m s u → Only l m s (f u x)) :
    Only l m s (t.over xs f) := by
  induction xs generalizing t with
  | nil => exact h
  | cons x xs ih => exact ih (hf t x List.mem_cons_self h) fun u y hy => hf u y (List.mem_cons_of_mem _ hy)

/-- What holds before a fold and is kept by each step holds after it. -/
theorem State.over_induct {α : Type} {q : State → Prop} {xs : List α} {f : State → α → State} (h : q s) (hf : ∀ u x, q u → q (f u x)) : q (s.over xs f) := by
  induction xs generalizing s with
  | nil => exact h
  | cons x xs ih => exact ih (hf s x h)

theorem Only.rb (h : Only l m s t) (ha : a ∉ l) : t.rb a c = s.rb a c := by rw [State.rb, h.regs a ha, State.rb]

theorem Only.rf (h : Only l m s t) (ha : a ∉ l) : t.rf a hi lo = s.rf a hi lo := by rw [State.rf, h.regs a ha, State.rf]

/-- A record update of fields that `Only` does not speak of. -/
theorem Only.record {now tickNum : Nat} {nextTick : Nat} {evt : EvtSt} {ue : List Nat} {ce : List Nat} {bus : BusResp} {free : Nat} {sys : SysSt} {flt : FltSt} {plicClaimed : List Nat} {wdog : List (Nat × Nat)} {dmvLast : Vector (Option Nat) 4} {cmp : CmpSt} {frm : FrameSt} {pho : PhoSt} {glm : GlmSt} {tile : Vector TileSt 4} {sync : SyncSt} {pat : PatSt} {vin : VinSt} {look : LookSt} {ctl : CtlSt} {nrg : NrgSt} {dali : DaliSt} {thm : ThmSt} {pwr : PwrSt} {tim : TimeSt} {net : NetSt} {sched : SchedSt} {ses : SesSt} {sec : SecSt} {upd : UpdSt} {nvm : NvmSt} {flash : Option FlashOp}
    (h : Only l m s t) :
    Only l m s (State.mk now nextTick tickNum t.regs t.shadow t.stat evt t.mem ue ce bus free sys flt t.nv plicClaimed wdog dmvLast cmp frm pho glm tile sync pat vin look ctl nrg dali thm pwr tim net sched ses sec upd nvm flash t.pending) :=
  ⟨h.regs, h.stats, h.shadow, h.mem, h.nv, h.pending⟩

/-! ### Updates of a block's own state -/

/-- The state with `sys` replaced. -/
def State.withSys (s : State) (y : SysSt) : State := { s with sys := y }

@[simp] theorem State.withSys_sys (y : SysSt) : (s.withSys y).sys = y := rfl
@[simp] theorem State.withSys_rd (y : SysSt) : (s.withSys y).rd b = s.rd b := rfl
@[simp] theorem State.withSys_rb (y : SysSt) : (s.withSys y).rb b c = s.rb b c := rfl
@[simp] theorem State.withSys_rf (y : SysSt) : (s.withSys y).rf b hi lo = s.rf b hi lo := rfl

theorem Only.withSys {y : SysSt} (h : Only l m s t) : Only l m s (t.withSys y) := h.record

/-- The state with `flt` replaced. -/
def State.withFlt (s : State) (y : FltSt) : State := { s with flt := y }

@[simp] theorem State.withFlt_flt (y : FltSt) : (s.withFlt y).flt = y := rfl
@[simp] theorem State.withFlt_rd (y : FltSt) : (s.withFlt y).rd b = s.rd b := rfl
@[simp] theorem State.withFlt_rb (y : FltSt) : (s.withFlt y).rb b c = s.rb b c := rfl
@[simp] theorem State.withFlt_rf (y : FltSt) : (s.withFlt y).rf b hi lo = s.rf b hi lo := rfl

theorem Only.withFlt {y : FltSt} (h : Only l m s t) : Only l m s (t.withFlt y) := h.record

/-- The state with `cmp` replaced. -/
def State.withCmp (s : State) (y : CmpSt) : State := { s with cmp := y }

@[simp] theorem State.withCmp_cmp (y : CmpSt) : (s.withCmp y).cmp = y := rfl
@[simp] theorem State.withCmp_rd (y : CmpSt) : (s.withCmp y).rd b = s.rd b := rfl
@[simp] theorem State.withCmp_rb (y : CmpSt) : (s.withCmp y).rb b c = s.rb b c := rfl
@[simp] theorem State.withCmp_rf (y : CmpSt) : (s.withCmp y).rf b hi lo = s.rf b hi lo := rfl

theorem Only.withCmp {y : CmpSt} (h : Only l m s t) : Only l m s (t.withCmp y) := h.record

/-- Answers of equal states are equal. -/
theorem next_congr (h : t = u) : (Host.Outcome.next t : Answer) = .next u := congrArg _ h

/-- An accepted write of a register without shadow fields leaves to its effect a state that differs in the answer, the clock and that register alone. -/
theorem gateWrite_stored {i : Init} (hook : Word → Word → State → State) (h : s.accepts n i a w) (ho : offOf a ≠ 0x1c ∧ offOf a ≠ 0x20)
    (hm : maskOf RegDef.rws a = 0#32) : ∃ x, gateWrite i a w hook (s.at n) = hook (s.rd a) w ((s.at n).busOk.wr a x) :=
  ⟨_, gateWrite_plain hook h ho hm⟩

/-- Two states that read the same everywhere differ in nothing that `Only` speaks of. -/
theorem Only.of_maps (hr : t.regs = s.regs) (hs : t.shadow = s.shadow) (hst : t.stat = s.stat) (hm : t.mem = s.mem) (hv : t.nv = s.nv)
    (hp : t.pending = s.pending) : Only l m s t := (Only.refl l m s).upd hr hs hst hm hv hp

end Sys2Proof.Machine
end

section
/-! PROOFS. A step is the front command carried out on the queue's rest; every command answers a next state and keeps what its meaning is shown to keep. -/

namespace Sys2Proof.Machine

/-- Every command but the tick answers a next state, and keeps what its own meaning keeps. -/
theorem exec_next (c : Instr) (s : State) (hc : c ≠ .frameTick) : ∃ u, exec c s = .next u ∧ Keeps s u :=
  match c with
  | .frameTick => absurd rfl hc
  | .commitDeadline => execCommitDeadline_next
  | .arm .. => execArm_next
  | .cancel .. => execCancel_next
  | .commitValidate .. => execCommitValidate_next
  | .blockReset .. => execBlockReset_next
  | .chipReset .. => execChipReset_next
  | .registerWrite .. => execRegisterWrite_next
  | .busWrite .. => execBusWrite_next
  | .lockSet .. => execLockSet_next
  | .sramRead .. => execSramRead_next
  | .scrubPass .. => execScrubPass_next
  | .dmvPost .. => execDmvPost_next
  | .dmvDescriptorComplete .. => execDmvDescriptorComplete_next
  | .dmvAbort .. => execDmvAbort_next
  | .dmvResume .. => execDmvResume_next
  | .compositionDone .. => execCompositionDone_next
  | .wbFrameDone .. => execWbFrameDone_next
  | .lyrFlipRequest .. => execLyrFlipRequest_next
  | .lyrFlipCancel .. => execLyrFlipCancel_next
  | .cmpFlipArm .. => execCmpFlipArm_next
  | .bufRegister .. => execBufRegister_next
  | .bufUnregister .. => execBufUnregister_next
  | .bufRead .. => execBufRead_next
  | .fenceSet .. => execFenceSet_next
  | .fenceClear .. => execFenceClear_next
  | .sclKick .. => execSclKick_next
  | .sclPassEnd .. => execSclPassEnd_next
  | .doseSnapHourly .. => execDoseSnapHourly_next
  | .snap .. => execSnap_next
  | .snapSliceDone .. => execSnapSliceDone_next
  | .snapRetry .. => execSnapRetry_next
  | .restore .. => execRestore_next
  | .restoreDone .. => execRestoreDone_next
  | .rmapInsert .. => execRmapInsert_next
  | .rmapDelete .. => execRmapDelete_next
  | .rmapRead .. => execRmapRead_next
  | .rmapLookup .. => execRmapLookup_next
  | .rmapEditApply .. => execRmapEditApply_next
  | .dthDataAccess .. => execDthDataAccess_next
  | .glmPost .. => execGlmPost_next
  | .bandDone .. => execBandDone_next
  | .bandDeadline .. => execBandDeadline_next
  | .poolRenderDone .. => execPoolRenderDone_next
  | .glmEnable .. => execGlmEnable_next
  | .lineSend .. => execLineSend_next
  | .lineUnderrun .. => execLineUnderrun_next
  | .scnRectDivTag .. => execScnRectDivTag_next
  | .markSend .. => execMarkSend_next
  | .ctrlSend .. => execCtrlSend_next
  | .splCtrlCmd .. => execSplCtrlCmd_next
  | .ackTimeout .. => execAckTimeout_next
  | .ack .. => execAck_next
  | .diag .. => execDiag_next
  | .enum .. => execEnum_next
  | .fstat .. => execFstat_next
  | .linkEnable .. => execLinkEnable_next
  | .ts1Lock .. => execTs1Lock_next
  | .trainStepDone .. => execTrainStepDone_next
  | .trainTimeout .. => execTrainTimeout_next
  | .linkRestart .. => execLinkRestart_next
  | .retrain .. => execRetrain_next
  | .retrainTimeout .. => execRetrainTimeout_next
  | .symbolLockLoss .. => execSymbolLockLoss_next
  | .returnCharErrors .. => execReturnCharErrors_next
  | .fstatMissing .. => execFstatMissing_next
  | .syncInEdge .. => execSyncInEdge_next
  | .syncLost .. => execSyncLost_next
  | .syncOutPulse .. => execSyncOutPulse_next
  | .fallbackLoadDone .. => execFallbackLoadDone_next
  | .fallbackRefresh .. => execFallbackRefresh_next
  | .drvCoverage .. => execDrvCoverage_next
  | .drvFnKill .. => execDrvFnKill_next
  | .drvFnClear .. => execDrvFnClear_next
  | .drvDefDelete .. => execDrvDefDelete_next
  | .patEnd .. => execPatEnd_next
  | .patSet .. => execPatSet_next
  | .patAdd .. => execPatAdd_next
  | .patRamp .. => execPatRamp_next
  | .patHold .. => execPatHold_next
  | .patLoop .. => execPatLoop_next
  | .patWaitTick .. => execPatWaitTick_next
  | .patSync .. => execPatSync_next
  | .patBranchFlag .. => execPatBranchFlag_next
  | .patProgData .. => execPatProgData_next
  | .patKData .. => execPatKData_next
  | .vinFrameStart .. => execVinFrameStart_next
  | .vinLongPacket .. => execVinLongPacket_next
  | .vinFrameEnd .. => execVinFrameEnd_next
  | .shortPacketIgnored .. => execShortPacketIgnored_next
  | .headerEccError .. => execHeaderEccError_next
  | .deskew _ i => execDeskew_next (a1 := i)
  | .ulps .. => execUlps_next
  | .lookCaptureTime .. => execLookCaptureTime_next
  | .capture .. => execCapture_next
  | .lookEvalDone .. => execLookEvalDone_next
  | .lookEnable .. => execLookEnable_next
  | .loopSample .. => execLoopSample_next
  | .loopHold .. => execLoopHold_next
  | .loopResume .. => execLoopResume_next
  | .injStart .. => execInjStart_next
  | .injStop .. => execInjStop_next
  | .capArm .. => execCapArm_next
  | .capTrig .. => execCapTrig_next
  | .carrierStart .. => execCarrierStart_next
  | .adcConversion .. => execAdcConversion_next
  | .nrgAllowWrite .. => execNrgAllowWrite_next
  | .energyPlanStale .. => execEnergyPlanStale_next
  | .hourRollover .. => execHourRollover_next
  | .nightRollover .. => execNightRollover_next
  | .nightRestart .. => execNightRestart_next
  | .daliTx .. => execDaliTx_next
  | .daliPoll .. => execDaliPoll_next
  | .daliTransactionDone .. => execDaliTransactionDone_next
  | .daliBusFail .. => execDaliBusFail_next
  | .xcheckWindow .. => execXcheckWindow_next
  | .pwrCmd .. => execPwrCmd_next
  | .lowpowerEntry .. => execLowpowerEntry_next
  | .lowpowerCommit .. => execLowpowerCommit_next
  | .idleEntry .. => execIdleEntry_next
  | .wake .. => execWake_next
  | .pwrLevelReq .. => execPwrLevelReq_next
  | .pmicPgRise .. => execPmicPgRise_next
  | .pmicTimeout .. => execPmicTimeout_next
  | .sensorConversion .. => execSensorConversion_next
  | .throttleStep .. => execThrottleStep_next
  | .criticalClear .. => execCriticalClear_next
  | .shutdownRestart .. => execShutdownRestart_next
  | .tileSensorTimeout .. => execTileSensorTimeout_next
  | .sensorFailClear .. => execSensorFailClear_next
  | .thmTileOver .. => execThmTileOver_next
  | .clkRefLoss .. => execClkRefLoss_next
  | .portLinkChange .. => execPortLinkChange_next
  | .portFrameRx .. => execPortFrameRx_next
  | .portFrameTx .. => execPortFrameTx_next
  | .mrpFlush .. => execMrpFlush_next
  | .mrpBlockTimeout .. => execMrpBlockTimeout_next
  | .fdbAge .. => execFdbAge_next
  | .swFlush .. => execSwFlush_next
  | .pdelayReq .. => execPdelayReq_next
  | .submit .. => execSubmit_next
  | .reacq .. => execReacq_next
  | .servoHoldover .. => execServoHoldover_next
  | .apply .. => execApply_next
  | .timeEpochWrite .. => execTimeEpochWrite_next
  | .timeTsqHdr .. => execTimeTsqHdr_next
  | .dtlsRecordRx .. => execDtlsRecordRx_next
  | .clientHello .. => execClientHello_next
  | .handshakeDone .. => execHandshakeDone_next
  | .handshakeStart .. => execHandshakeStart_next
  | .sessionIdle .. => execSessionIdle_next
  | .waordRequest .. => execWaordRequest_next
  | .waordSafety .. => execWaordSafety_next
  | .waordObjects .. => execWaordObjects_next
  | .presentToken .. => execPresentToken_next
  | .dropToken .. => execDropToken_next
  | .attest .. => execAttest_next
  | .modeRequest .. => execModeRequest_next
  | .commissionDone .. => execCommissionDone_next
  | .commissionReset .. => execCommissionReset_next
  | .updBegin .. => execUpdBegin_next
  | .updData .. => execUpdData_next
  | .updVerify .. => execUpdVerify_next
  | .updActivate .. => execUpdActivate_next
  | .updateActivationReset .. => execUpdateActivationReset_next
  | .updConfirm .. => execUpdConfirm_next
  | .updAbort .. => execUpdAbort_next
  | .confirmExpiry .. => execConfirmExpiry_next
  | .auditRead .. => execAuditRead_next
  | .auditAck .. => execAuditAck_next
  | .rcvChallenge .. => execRcvChallenge_next
  | .rcvExit .. => execRcvExit_next
  | .wakeBeacon .. => execWakeBeacon_next
  | .schedWrite .. => execSchedWrite_next
  | .schedDelete .. => execSchedDelete_next
  | .schedRead .. => execSchedRead_next
  | .schedDue .. => execSchedDue_next
  | .hostVerify .. => execHostVerify_next
  | .hostDrop .. => execHostDrop_next
  | .unlock .. => execUnlock_next
  | .tapUnlockWrite .. => execTapUnlockWrite_next
  | .tapUnlockRead .. => execTapUnlockRead_next
  | .verifyToken .. => execVerifyToken_next
  | .hsKeyshare .. => execHsKeyshare_next
  | .hsSign .. => execHsSign_next
  | .hsInstall .. => execHsInstall_next
  | .verdict .. => execVerdict_next
  | .update .. => execUpdate_next
  | .keyGenerate .. => execKeyGenerate_next
  | .keyInstall .. => execKeyInstall_next
  | .keyErase .. => execKeyErase_next
  | .keyLock .. => execKeyLock_next
  | .recInstall .. => execRecInstall_next
  | .keyUpdate .. => execKeyUpdate_next
  | .recErase .. => execRecErase_next
  | .otpProgram .. => execOtpProgram_next
  | .otpRetry .. => execOtpRetry_next
  | .drbgReseed .. => execDrbgReseed_next
  | .tamperSample .. => execTamperSample_next
  | .timeFloorSave .. => execTimeFloorSave_next
  | .quarantineEntry .. => execQuarantineEntry_next
  | .faultEvent .. => execFaultEvent_next
  | .force .. => execForce_next
  | .fltForceSrc .. => execFltForceSrc_next
  | .errRelease .. => execErrRelease_next
  | .consqTmo .. => execConsqTmo_next
  | .fltCfgCrc .. => execFltCfgCrc_next
  | .fltLogRdWrite .. => execFltLogRdWrite_next
  | .fltStatClear .. => execFltStatClear_next
  | .crcSnoopPacket .. => execCrcSnoopPacket_next
  | .crcCtxRunWrite .. => execCrcCtxRunWrite_next
  | .nvmTxSubmit .. => execNvmTxSubmit_next
  | .journalTxOpen .. => execJournalTxOpen_next
  | .journalTxCommit .. => execJournalTxCommit_next
  | .journalTxSeal .. => execJournalTxSeal_next
  | .windowClose .. => execWindowClose_next
  | .windowOpen .. => execWindowOpen_next
  | .erase4k .. => execErase4k_next
  | .erase64k .. => execErase64k_next
  | .program .. => execProgram_next
  | .xspiOpDone .. => execXspiOpDone_next
  | .xspiWaitTimeout .. => execXspiWaitTimeout_next
  | .powerGood .. => execPowerGood_next
  | .resetN .. => execResetN_next
  | .sysRstCmd .. => execSysRstCmd_next
  | .safeRunning .. => execSafeRunning_next
  | .startRecordApply .. => execStartRecordApply_next
  | .staggerEnd .. => execStaggerEnd_next
  | .mainImageVerified .. => execMainImageVerified_next
  | .startStepTimeout .. => execStartStepTimeout_next
  | .sysModeReq .. => execSysModeReq_next
  | .netLoss .. => execNetLoss_next
  | .autoModeRequest .. => execAutoModeRequest_next
  | .cpuHartRst .. => execCpuHartRst_next
  | .cpuWdog .. => execCpuWdog_next
  | .lockstepMismatch .. => execLockstepMismatch_next
  | .hostWrite32 .. => execHostWrite32_next
  | .hostRead32 .. => execHostRead32_next
  | .hostStatus .. => execHostStatus_next
  | .hostFrameAbort .. => execHostFrameAbort_next
  | .hostH2dSet .. => execHostH2dSet_next
  | .hostD2hSet .. => execHostD2hSet_next
  | .gpioSet .. => execGpioSet_next
  | .gpioClr .. => execGpioClr_next
  | .gpioEdge .. => execGpioEdge_next
  | .busRead .. => execBusRead_next
  | .tileResetRelease .. => execTileResetRelease_next
  | .sotError .. => execSotError_next
  | .vmonUv .. => execVmonUv_next
  | .vmonOv .. => execVmonOv_next
  | .pllUnlock .. => execPllUnlock_next
  | .powerLoss .. => execPowerLoss_next
  | .daliBusRecovery .. => execDaliBusRecovery_next
  | .hostGrantExpiry .. => execHostGrantExpiry_next
  | .localMemoryEccError .. => execLocalMemoryEccError_next

/-- Every command answers a next state and keeps what holds of a tick too. -/
theorem exec_next_base (c : Instr) (s : State) : ∃ u, exec c s = .next u ∧ Base s u := by
  by_cases hc : c = .frameTick
  · subst hc; exact execFrameTick_next
  · obtain ⟨u, hu, hk⟩ := exec_next c s hc
    exact ⟨u, hu, hk.base⟩

theorem step_cons {c : Instr} {l : List Instr} {s : State} (h : s.pending = c :: l) : step s = exec c { s with pending := l } := by
  rw [step, h]

theorem step_nil {s : State} (h : s.pending = []) : step s = .next s := by
  rw [step, h]

/-- Settles O1: both halves are the two cases of the queue. -/
theorem stepCarriesOutTheFrontCommand : Obligations.StepCarriesOutTheFrontCommand :=
  fun _ _ _ => ⟨step_cons, step_nil⟩

/-- Settles O2: by the command, each by what its meaning keeps; the tick alone may move TICK_NUM. -/
theorem everyCommandCompletes : Obligations.EveryCommandCompletes := by
  intro c s
  by_cases hc : c = .frameTick
  · obtain ⟨u, hu, hb⟩ := exec_next_base c s
    exact ⟨u, hu, hb.pending, hb.now, hb.canonical, hb.nv, absurd hc⟩
  · obtain ⟨u, hu, hk⟩ := exec_next c s hc
    exact ⟨u, hu, hk.pending, hk.now, hk.canonical, hk.nv, fun _ => hk.tick⟩

/-- Settles O3: an empty queue leaves the state as it is; otherwise the front command keeps the invariant on the state with the queue's rest, whose
maps, time and non-volatile part are those of the state before. -/
theorem everyStepKeepsTheInvariant : Obligations.EveryStepKeepsTheInvariant := by
  intro s t hs hstep
  cases hq : s.pending with
  | nil =>
    rw [step_nil hq] at hstep
    cases hstep
    exact ⟨hs, by rw [hq]; rfl, Nat.le_refl _, .refl _⟩
  | cons c l =>
    rw [step_cons hq] at hstep
    obtain ⟨u, hu, hb⟩ := exec_next_base c { s with pending := l }
    rw [hu] at hstep
    cases hstep
    exact ⟨hb.canonical hs, hb.pending, hb.now, hb.nv⟩

end Sys2Proof.Machine
end

section
/-! PROOFS. The reset state, the store of a register write by access codes (R14), LOCK, main memory (R60, R535) and the scrubber's pass (R539). -/

namespace Sys2Proof.Machine

variable {s t u : State} {i : Init} {a n size : Nat} {w : Word}

/-! ### The reset state -/

theorem rd_reset (a : Nat) : State.reset.rd a = regDefault a := rfl

/-- Settles O4: no map lists anything, so every register reads its default. -/
theorem resetStandsWithItsValues : Obligations.ResetStandsWithItsValues := by
  refine ⟨by decide, rfl, rfl, rfl, fun a ha => ?_, ?_⟩
  · rw [rd_reset, regDefault, if_pos ha]
  · simp only [State.rf, rd_reset]
    decide +kernel

/-! ### The masks of a register's row -/

/-- No field of a row is both writable and W1C. -/
def RegDef.clean (d : RegDef) : Bool := (d.rw ||| d.rwl) &&& d.w1c == 0

theorem pages_clean : (pages.all fun p => p.regs.all RegDef.clean) = true := by decide +kernel

theorem commonDef_clean {d : PageDef} {p o : Nat} {r : RegDef} (h : commonDef d p o = some r) : r.clean = true := by
  simp only [commonDef] at h
  split_ifs at h <;> cases h <;> simp [RegDef.clean]

theorem regDef_clean {a : Nat} {r : RegDef} (h : regDef a = some r) : r.clean = true := by
  rw [regDef] at h
  split at h
  · cases h
  · rename_i d hd
    split_ifs at h
    · exact commonDef_clean h
    · have hp := List.all_eq_true.1 pages_clean d (List.mem_of_find?_eq_some hd)
      exact List.all_eq_true.1 hp r (List.mem_of_find?_eq_some h)

/-- A bit of a register is not both writable and W1C. -/
theorem maskOf_w1c_disjoint (a j : Nat) (h : (maskOf RegDef.w1c a).getLsbD j = true) : (maskOf (fun d => d.rw ||| d.rwl) a).getLsbD j = false := by
  simp only [maskOf] at h ⊢
  split at h
  · simp at h
  · rename_i d hd
    have hc : (d.rw ||| d.rwl) &&& d.w1c = 0 := by simpa [RegDef.clean] using regDef_clean hd
    have hj := congrArg (Nat.testBit · j) hc
    simp only [word, BitVec.getLsbD_ofNat, Bool.and_eq_true, Nat.testBit_and, Nat.zero_testBit] at h hj ⊢
    simp_all

theorem maskOf_rw_le (a j : Nat) (h : (maskOf RegDef.rw a).getLsbD j = true) : (maskOf (fun d => d.rw ||| d.rwl) a).getLsbD j = true := by
  simp only [maskOf] at h ⊢
  split at h <;> simp_all [word]

/-! ### The store by access code -/

/-- The mask of the fields that a write changes as written: RWL counts while the page is not locked (R14). -/
abbrev writable (k : Bool) (a : Nat) : Word := maskOf (fun d => if k then d.rw else d.rw ||| d.rwl) a

theorem writable_w1c_disjoint (k : Bool) (a j : Nat) (h : (maskOf RegDef.w1c a).getLsbD j = true) : (writable k a).getLsbD j = false := by
  have h1 := maskOf_w1c_disjoint a j h
  cases k
  · simpa [writable] using h1
  · exact Bool.eq_false_iff.2 fun hc => by simp [maskOf_rw_le a j (by simpa [writable] using hc)] at h1

/-- Each bit of a register after a write, by its access code (R14, R21). -/
theorem getLsbD_storeLive (a : Nat) (w live ev : Word) (k : Bool) (j : Nat) (hj : j < 32) :
    (storeLive a w live ev k).getLsbD j =
      if (maskOf RegDef.w1s a).getLsbD j && w.getLsbD j then true
      else if (maskOf RegDef.w1c a).getLsbD j && w.getLsbD j then live.getLsbD j && ev.getLsbD j
      else if (writable k a).getLsbD j then w.getLsbD j
      else live.getLsbD j := by
  have hd := writable_w1c_disjoint k a j
  simp only [storeLive, BitVec.getLsbD_or, BitVec.getLsbD_and, BitVec.getLsbD_not, hj, decide_true, Bool.true_and]
  cases h1 : (maskOf RegDef.w1s a).getLsbD j <;> cases h2 : (maskOf RegDef.w1c a).getLsbD j <;> cases h3 : w.getLsbD j <;>
    cases h4 : (writable k a).getLsbD j <;> simp_all

/-- Settles O9: bit by bit by the store's access codes; the page's COMMIT is another register, so DIRTY does not meet the write. -/
theorem registerWriteFollowsAccessCodes : Obligations.RegisterWriteFollowsAccessCodes := by
  intro n i a v s _ ha hacc hhook hlegal hen hstat hcommit
  refine ⟨_, exec_registerWrite n i a 4 v s, ?_⟩
  rw [regAccess_word ha, hhook, gateWrite_accepts noHook hacc ⟨hen, hstat⟩, noHook, storeReg, hlegal]
  have hne : a ≠ R.COMMIT (pageOf a) := by
    intro e
    apply hcommit
    rw [e, R.COMMIT, R.base, offOf]
    omega
  have hstore := fun j hj => getLsbD_storeLive a v (s.rd a) ((s.at n).evtBits a) (s.locked (pageOf a)) j hj
  by_cases hm : maskOf RegDef.rws a = 0#32
  · simp only [hm, if_true]
    refine ⟨fun j hj => ?_, fun j _ => ?_, fun h => absurd rfl h, fun b hb _ => State.rd_wr_of_ne _ hb _, fun b _ => rfl, fun b => rfl, fun b => rfl, rfl, rfl⟩
    · rw [State.rd_wr_self]
      exact hstore j hj
    · simp
  · simp only [hm, if_false]
    refine ⟨fun j hj => ?_, fun j hj => ?_, fun _ => State.rb_wb_self (by omega), fun b hb hc => ?_, fun b hb => ?_, fun b => rfl, fun b => rfl, rfl, rfl⟩
    · rw [State.rd_wb_of_ne hne, State.shw_rd, State.rd_wr_self]
      exact hstore j hj
    · have hsh : ∀ x : Word, (((s.at n).busOk.wr a x).sh a).getLsbD j = (s.sh a).getLsbD j := fun _ => rfl
      rw [State.wb, State.wr_sh, State.sh_shw_self]
      simp only [BitVec.getLsbD_or, BitVec.getLsbD_and, BitVec.getLsbD_not, hj, decide_true, Bool.true_and, hsh]
      cases (maskOf RegDef.rws a).getLsbD j <;> simp
    · rw [State.rd_wb_of_ne hc, State.shw_rd, State.rd_wr_of_ne _ hb]
      rfl
    · rw [State.wb, State.wr_sh, State.sh_shw_of_ne _ hb]
      rfl

/-! ### LOCK -/

/-- A LOCK register holds the LOCK bit alone, which stays set. -/
def lockRow (a : Nat) : Bool :=
  maskOf RegDef.rws a == 0#32 && maskOf RegDef.w1s a == 1#32 && legalize a 1#32 == 1#32 && offOf a != 0x1c && offOf a != 0x20

theorem lockReg_row : ∀ p : Fin 256, (lockReg p).all lockRow = true := by decide +kernel

theorem locked_eq {p : Nat} (h : lockReg p = some a) : s.locked p = s.rb a 0 := by rw [State.locked, h]

/-- A write of 1 to a LOCK register sets LOCK. -/
theorem storeLive_lock {live ev : Word} {k : Bool} (h : maskOf RegDef.w1s a = 1#32) : bitOf (storeLive a 1#32 live ev k) 0 = true := by
  have := getLsbD_storeLive a 1#32 live ev k 0 (by omega)
  rw [h] at this
  simpa [bitOf, BitVec.getLsbD] using this

/-- Settles O18: LOCK is a bit that a 1 sets and nothing clears, and a locked page's store takes no RWL field from the word written. -/
theorem lockSetFreezesTheBlock : Obligations.LockSetFreezesTheBlock := by
  intro n i page a s hlock hacc
  have hrow : lockRow a = true := by simpa [hlock] using lockReg_row page
  simp only [lockRow, Bool.and_eq_true, beq_iff_eq, bne_iff_ne] at hrow
  obtain ⟨⟨⟨⟨hrws, hw1s⟩, hlegal⟩, hen⟩, hstat⟩ := hrow
  have hlocked : ((s.at n).busOk.wr a (storeLive a 1#32 (s.rd a) ((s.at n).evtBits a) (s.locked (pageOf a)))).locked page = true := by
    rw [locked_eq hlock, State.rb_wr_self, storeLive_lock hw1s]
  refine ⟨(s.at n).busOk.wr a (storeLive a 1#32 (s.rd a) ((s.at n).evtBits a) (s.locked (pageOf a))), ?_, hlocked, gateState_only .., ?_⟩
  · change Host.Outcome.next (match lockReg page with | some a => gateWrite i a 1#32 noHook (s.at n) | none => s.at n) = _
    rw [hlock]
    simp only
    rw [gateWrite_plain noHook hacc ⟨hen, hstat⟩ hrws, noHook, hlegal]
  · intro b w live ev j _ hj hrw hw1c hws
    rw [hlocked, getLsbD_storeLive _ _ _ _ _ _ hj]
    simp [writable, hrw, hw1c, hws]

/-! ### Main memory -/

theorem regionOf_main_iff : regionOf a = .main ↔ 0x10000000 ≤ a ∧ a ≤ 0x12FFFFFF := by
  unfold regionOf
  split_ifs <;> simp_all <;> omega

/-- A write into main SRAM that no protection stops is done. -/
theorem memWrite_main {l : List Nat} (ha : regionOf a = .main) (hl : regionOf (a + (l.length - 1)) = .main) (hf : firewall s a l.length = none)
    (hg : glmBlocked s a l.length = none) (hp : s.en P.PHO = false) (hs : s.en P.SCHED = false) (hi : i.isSafe = true)
    (hu : partialUe s a l.length = none) : memWrite i a l s = (s.put a l).busOk := by
  simp [memWrite, writeStop, ha, hl, hf, hg, hp, hs, hi, hu]

/-- Bytes of main SRAM are read as they are stored. -/
theorem seeBytes_main (ha : regionOf a = .main) (hl : regionOf (a + (n - 1)) = .main) : s.seeBytes a n = s.ldBytes a n := by
  rw [regionOf_main_iff] at ha hl
  have hsee : ∀ k < n, s.see (a + k) = s.ldN (a + k) := fun k hk => by
    rw [State.see, regionOf_main_iff.2 (by omega)]
  rw [State.seeBytes, List.map_congr_left fun k hk => hsee k (List.mem_range.1 hk)]
  clear ha hl hsee
  induction n generalizing a with
  | zero => rfl
  | succ n ih =>
    rw [List.range_succ_eq_map, List.map_cons, List.map_map, State.ldBytes, ← ih]
    simp [Function.comp_def, Nat.add_assoc, Nat.add_comm 1]

/-- A read of main SRAM that meets no marked word answers its first four bytes, and corrects nothing. -/
theorem memRead_main (ha : regionOf a = .main) (hl : regionOf (a + (n - 1)) = .main) (hu : firstUe s a n = none) (hc : s.ce = []) :
    (memRead i a n s).2 = s.busData (word (ofLE ((s.ldBytes a n).take 4))) := by
  simp [memRead, readStop, ha, hl, hu, hc, correct, ceWords, State.over, seeBytes_main ha hl]

theorem State.ldBytes_at (s : State) (t a n : Nat) : (s.at t).ldBytes a n = s.ldBytes a n := by
  induction n generalizing a with
  | zero => rfl
  | succ n ih => rw [State.ldBytes, ih, State.ldBytes]; rfl

/-- Settles O10: the write is no more than its store and the clearing of marks, the read no more than its answer. -/
theorem mainMemoryHoldsWhatIsWritten : Obligations.MainMemoryHoldsWhatIsWritten := by
  intro n i a s
  refine ⟨fun l ha hl hf hg hp hs hi hu => ?_, fun k ha hl hu hc => ?_⟩
  · have hlen : (nums l).length = l.length := List.length_map ..
    refine ⟨((s.at n).put a (nums l)).busOk, ?_, rfl, fun k hk => ?_, fun b hb => ?_, ?_⟩
    · change Host.Outcome.next (busWrite i a (nums l) (s.at n)) = _
      rw [busWrite, ha]
      simp only
      exact next_congr (memWrite_main (s := s.at n) ha (hlen ▸ hl) (hlen ▸ hf) (hlen ▸ hg) hp hs hi (hlen ▸ hu))
    · change ((s.at n).stBytes a (nums l)).ld (a + k) = _
      rw [ld_stBytes_self _ _ _ _ (hlen ▸ hk)]
      simp [nums]
    · change ((s.at n).stBytes a (nums l)).ld b = _
      rcases hb with hb | hb
      · exact ld_stBytes_of_lt _ _ _ _ hb
      · exact ld_stBytes_of_ge _ _ _ _ (hlen ▸ hb)
    · obtain ⟨hregs, hshadow, hstat, hnv, hpend⟩ := stBytes_rd (nums l) (s.at n) a
      exact ⟨fun b => congrArg (sget (regDefault b) b) hregs, fun b => congrArg (sget 0#32 b) hstat,
        fun b => congrArg (sget (regDefault b) b) hshadow, hnv, hpend⟩
  · have hread : (memRead i a k (s.at n)).2 = (s.at n).busData (word (ofLE ((s.ldBytes a k).take 4))) := by
      exact (memRead_main (s := s.at n) ha hl hu hc).trans (by rw [State.ldBytes_at])
    have hcalm : Calm s ((s.at n).busData (word (ofLE ((s.ldBytes a k).take 4)))) := ((Only.refl [] [] s).at).busData
    refine ⟨⟨_, ?_, rfl, hcalm⟩, ⟨_, next_congr hread, rfl, hcalm⟩⟩
    rw [exec_busRead, busRead, ha]
    exact next_congr hread

/-! ### The scrubber -/

/-- Settles O11: without marked words the pass is its count, its LATE and the start of the next. -/
theorem scrubPassCountsAndTells : Obligations.ScrubPassCountsAndTells := by
  intro n s hen hce hue
  have h1 : scrubPass (s.at n) = (({ s.at n with nvm := { s.nvm with scrubStart := max s.now n } } : State).wf R.NVM_SCRUB_STAT 31 16
      (s.rf R.NVM_SCRUB_STAT 31 16 + 1)).wb R.NVM_SCRUB_STAT 0 (decide ((max 60 (s.rf R.NVM_SCRUB_CFG 23 8)) * 10 ^ 9 < max s.now n - s.nvm.scrubStart)) := by
    have hen' : (s.at n).rb R.NVM_SCRUB_CFG 0 = true := hen
    rw [scrubPass, hen']
    simp [hce, hue, State.over]
    rfl
  refine ⟨_, next_congr h1, ?_, ?_, rfl, ?_⟩
  · rw [State.rf_wb_disjoint (by omega) (by omega), State.rf_wf_self (by omega) (by omega)]
    rfl
  · rw [State.rb_wb_self (by omega), decide_eq_true_iff]
    norm_num
  · exact Only.wb (Only.wf (Only.of_maps rfl rfl rfl rfl rfl rfl) (by simp)) (by simp)

end Sys2Proof.Machine
end

section
/-! PROOFS. The fault collector (chapter 13): events that are real or consequential (R504, R508, R519), forces (R507), and what the commands of the collector
and of the check-value units do. -/

namespace Sys2Proof.Machine

variable {l m : List Nat} {s t u : State} {i : Init} {a n lvl : Nat} {w : Word}

/-! ### Numbers packed into a word -/

theorem bitsOf_word_low {hi x y : Nat} (h : x = y + 2 ^ (hi + 1) * (x / 2 ^ (hi + 1))) (h32 : hi < 32) (hy : y < 2 ^ (hi + 1)) :
    bitsOf (word x) hi 0 = y := by
  have hd : 2 ^ (hi + 1) ∣ 2 ^ 32 := Nat.pow_dvd_pow 2 (by omega)
  rw [bitsOf, word, BitVec.toNat_ofNat, Nat.pow_zero, Nat.div_one, Nat.sub_zero, Nat.mod_mod_of_dvd _ hd, h, Nat.add_mul_mod_self_left, Nat.mod_eq_of_lt hy]

/-! ### The log (R620) -/

theorem logWr_lt (s : State) : s.rf R.FLT_LOG_WR 7 0 < 256 := Nat.mod_lt _ (by decide)

/-- The registers that an entry of the log changes, with the write pointer at `k`. -/
abbrev logRegs (k : Nat) : List Nat := [R.IRQ_STAT P.FLT0, R.FLT_LAST, R.FLT_LOG_A k, R.FLT_LOG_B k, R.FLT_LOG_WR, R.FLT_LOG_RD]

/-- An entry of the log written, before an overflow is told (R620). -/
def logEntry (last n : Nat) (s : State) : State :=
  let wr := s.rf R.FLT_LOG_WR 7 0
  ((((s.wr (R.FLT_LOG_A wr) (word (s.rf (R.FLT_SRC_WIN n) 23 16 * 65536 + last % 65536))).wr (R.FLT_LOG_B wr) (word (s.tickNum % 2 ^ 32))).wr
    R.FLT_LOG_WR (word (min 256 (s.rf R.FLT_LOG_WR 16 8 + 1) * 256 + (wr + 1) % 256))).wr R.FLT_LAST (word last))

/-- A full ring loses its oldest unread entry and says so (R620). -/
theorem logEvent_eq (last n : Nat) (s : State) : logEvent last n s =
    if s.rf R.FLT_LOG_WR 16 8 = 256 then
      ((logEntry last n s).wf R.FLT_LOG_RD 7 0 (((logEntry last n s).rf R.FLT_LOG_RD 7 0 + 1) % 256)).irq P.FLT0 16
    else logEntry last n s := rfl

theorem logEntry_only {last : Nat} (h : Only l m s t) (hl : ∀ a ∈ logRegs (t.rf R.FLT_LOG_WR 7 0), a ∈ l) : Only l m s (logEntry last n t) := by
  simp only [logRegs, List.forall_mem_cons] at hl
  obtain ⟨-, hlast, hA, hB, hwr, -, -⟩ := hl
  exact (((h.wr hA).wr hB).wr hwr).wr hlast

theorem logEvent_only {last : Nat} (h : Only l m s t) (hl : ∀ a ∈ logRegs (t.rf R.FLT_LOG_WR 7 0), a ∈ l) : Only l m s (logEvent last n t) := by
  have hentry := logEntry_only (last := last) (n := n) h hl
  rw [logEvent_eq]
  exact ((hentry.wf (hl _ (by simp))).irq (hl _ (by simp))).ite hentry

theorem logEntry_shows (last n : Nat) (s : State) :
    (logEntry last n s).rd R.FLT_LAST = word last ∧ (logEntry last n s).rf R.FLT_LOG_WR 7 0 = (s.rf R.FLT_LOG_WR 7 0 + 1) % 256 ∧
    (logEntry last n s).rd (R.IRQ_STAT P.FLT0) = s.rd (R.IRQ_STAT P.FLT0) := by
  have hk := logWr_lt s
  have hA : R.IRQ_STAT P.FLT0 ≠ R.FLT_LOG_A (s.rf R.FLT_LOG_WR 7 0) := by simp only [R.IRQ_STAT, R.base, P.FLT0, R.FLT_LOG_A]; omega
  have hB : R.IRQ_STAT P.FLT0 ≠ R.FLT_LOG_B (s.rf R.FLT_LOG_WR 7 0) := by simp only [R.IRQ_STAT, R.base, P.FLT0, R.FLT_LOG_B]; omega
  refine ⟨State.rd_wr_self .., ?_, ?_⟩
  · rw [logEntry, State.rf_wr_of_ne (by decide), State.rf_wr_self]
    exact bitsOf_word_low (by omega) (by omega) (by omega)
  · rw [logEntry, State.rd_wr_of_ne _ (by decide), State.rd_wr_of_ne _ (by decide), State.rd_wr_of_ne _ hB, State.rd_wr_of_ne _ hA]

/-- What an entry shows: the last event, the pointer moved on, and no interrupt but the log's own overflow. -/
theorem logEvent_shows (last n : Nat) (s : State) :
    (logEvent last n s).rd R.FLT_LAST = word last ∧ (logEvent last n s).rf R.FLT_LOG_WR 7 0 = (s.rf R.FLT_LOG_WR 7 0 + 1) % 256 ∧
    (∀ b, b ≠ 16 → (logEvent last n s).rb (R.IRQ_STAT P.FLT0) b = s.rb (R.IRQ_STAT P.FLT0) b) ∧ (logEvent last n s).flt = s.flt ∧
    (logEvent last n s).sys = s.sys := by
  obtain ⟨hlast, hwr, hirq⟩ := logEntry_shows last n s
  have hflt : (logEntry last n s).flt = s.flt := rfl
  have hsys : (logEntry last n s).sys = s.sys := rfl
  rw [logEvent_eq]
  generalize logEntry last n s = x at *
  split
  · refine ⟨?_, ?_, fun b hb => ?_, by simp [State.irq, State.event, State.wb, State.wf, hflt], by simp [State.irq, State.event, State.wb, State.wf, hsys]⟩
    · rw [State.rd_irq_of_ne (by decide), State.rd_wf_of_ne (by decide), hlast]
    · rw [State.rf_irq_of_ne (by decide), State.rf_wf_of_ne (by decide), hwr]
    · rw [State.rb_irq_bit (by omega) hb, State.rb_wf_of_ne (by decide), State.rb, hirq, State.rb]
  · exact ⟨hlast, hwr, fun b _ => by rw [State.rb, hirq, State.rb], hflt, hsys⟩

/-- No register of a source is one of the log's. -/
theorem srcStat_not_log {k : Nat} (hn : n < 352) (hk : k < 256) : R.FLT_SRC_STAT n ∉ logRegs k := by
  simp only [logRegs, List.mem_cons, List.not_mem_nil, or_false, not_or, R.IRQ_STAT, R.base, P.FLT0, R.FLT_SRC_STAT, R.FLT_LAST, R.FLT_LOG_A, R.FLT_LOG_B, R.FLT_LOG_WR,
    R.FLT_LOG_RD]
  omega

theorem srcWin_not_log {k : Nat} (hn : n < 352) (hk : k < 256) : R.FLT_SRC_WIN n ∉ logRegs k := by
  simp only [logRegs, List.mem_cons, List.not_mem_nil, or_false, not_or, R.IRQ_STAT, R.base, P.FLT0, R.FLT_SRC_WIN, R.FLT_LAST, R.FLT_LOG_A, R.FLT_LOG_B, R.FLT_LOG_WR,
    R.FLT_LOG_RD]
  omega

theorem srcCfg_not_log {k : Nat} (hn : n < 352) (hk : k < 256) : R.FLT_SRC_CFG n ∉ logRegs k := by
  simp only [logRegs, List.mem_cons, List.not_mem_nil, or_false, not_or, R.IRQ_STAT, R.base, P.FLT0, R.FLT_SRC_CFG, R.FLT_LAST, R.FLT_LOG_A, R.FLT_LOG_B, R.FLT_LOG_WR,
    R.FLT_LOG_RD]
  omega

theorem srcStat_ne_win (n : Nat) : R.FLT_SRC_STAT n ≠ R.FLT_SRC_WIN n := by simp only [R.FLT_SRC_STAT, R.FLT_SRC_WIN]; omega

theorem srcCfg_ne_win (n : Nat) : R.FLT_SRC_CFG n ≠ R.FLT_SRC_WIN n := by simp only [R.FLT_SRC_CFG, R.FLT_SRC_WIN]; omega

theorem srcCfg_ne_stat (n : Nat) : R.FLT_SRC_CFG n ≠ R.FLT_SRC_STAT n := by simp only [R.FLT_SRC_CFG, R.FLT_SRC_STAT]; omega

theorem fltLow_not_srcReg {b : Nat} (hb : b < 0x40005000) : b ≠ R.FLT_SRC_STAT n ∧ b ≠ R.FLT_SRC_WIN n := by
  simp only [R.FLT_SRC_STAT, R.FLT_SRC_WIN]; omega

theorem logWr_ne_srcReg (hn : n < 352) : R.FLT_LOG_WR ≠ R.FLT_SRC_STAT n ∧ R.FLT_LOG_WR ≠ R.FLT_SRC_WIN n := by
  simp only [R.FLT_LOG_WR, R.FLT_SRC_STAT, R.FLT_SRC_WIN]; omega

/-- The fields of FLT_LAST (R620). -/
theorem lastWord_fields (hn : n < 352) (hl : lvl ≤ 7) (severe esc conseq forced : Bool) (s : State) :
    bitsOf (word (lastWord n lvl severe esc conseq forced s)) 8 0 = n ∧ bitsOf (word (lastWord n lvl severe esc conseq forced s)) 11 9 = lvl := by
  simp only [lastWord, bitsOf, word, BitVec.toNat_ofNat]
  generalize s.tick16 = x, bit severe = y, bit esc = z, bit conseq = p, bit forced = q
  omega

/-! ### Consequential events -/

theorem conseqEvent_only (h : Only l m s t) (hstat : R.FLT_SRC_STAT n ∈ l) (hm : R.STAT P.FLT0 0 ∈ m) (hn : n < 352)
    (hl : ∀ a ∈ logRegs (t.rf R.FLT_LOG_WR 7 0), a ∈ l) : Only l m s (conseqEvent n t) := by
  have hptr : (((t.event (R.FLT_SRC_STAT n) 4).stampHi (R.FLT_SRC_STAT n)).stAdd (R.STAT P.FLT0 0) 31 16 1).rf R.FLT_LOG_WR 7 0 = t.rf R.FLT_LOG_WR 7 0 := by
    rw [State.stAdd, State.rf, State.stw_rd, State.stampHi, State.rd_wf_of_ne (logWr_ne_srcReg hn).1, State.rd_event_of_ne (logWr_ne_srcReg hn).1, State.rf]
  exact logEvent_only (((h.event hstat).stampHi hstat).stAdd hm) (hptr ▸ hl)

/-- A consequential event marks its source and nothing else of it (R519). -/
theorem conseqEvent_shows (hn : n < 352) (s : State) :
    (conseqEvent n s).rb (R.FLT_SRC_STAT n) 4 = true ∧ (∀ b < 16, b ≠ 4 → (conseqEvent n s).rb (R.FLT_SRC_STAT n) b = s.rb (R.FLT_SRC_STAT n) b) ∧
    (conseqEvent n s).rf (R.FLT_SRC_STAT n) 10 8 = s.rf (R.FLT_SRC_STAT n) 10 8 ∧ (conseqEvent n s).rf R.FLT_LAST 8 0 = n ∧
    (∀ b < 16, (conseqEvent n s).rb (R.IRQ_STAT P.FLT0) b = s.rb (R.IRQ_STAT P.FLT0) b) ∧ (conseqEvent n s).flt = s.flt ∧ (conseqEvent n s).sys = s.sys := by
  have hirq : R.IRQ_STAT P.FLT0 ≠ R.FLT_SRC_STAT n := (fltLow_not_srcReg (by decide)).1
  rw [conseqEvent]
  generalize hx : ((s.event (R.FLT_SRC_STAT n) 4).stampHi (R.FLT_SRC_STAT n)).stAdd (R.STAT P.FLT0 0) 31 16 1 = x
  have hkeep : ∀ last, (logEvent last n x).rd (R.FLT_SRC_STAT n) = x.rd (R.FLT_SRC_STAT n) := fun last =>
    (logEvent_only (.refl _ [] x) fun _ h => h).regs _ (srcStat_not_log hn (logWr_lt x))
  have hrd : x.rd (R.FLT_SRC_STAT n) = putBits (putBit (s.rd (R.FLT_SRC_STAT n)) 4 true) 31 16 s.tick16 := by
    subst hx; rw [State.stAdd, State.stw_rd, State.stampHi, State.rd_wf_self, State.event, State.rd_wb_self]; rfl
  have hother : x.rd (R.IRQ_STAT P.FLT0) = s.rd (R.IRQ_STAT P.FLT0) := by
    subst hx; rw [State.stAdd, State.stw_rd, State.stampHi, State.rd_wf_of_ne hirq, State.rd_event_of_ne hirq]
  obtain ⟨hlast, -, hbits, hflt, hsys⟩ := logEvent_shows (lastWord n 0 false false true false x) n x
  refine ⟨?_, fun b hb h4 => ?_, ?_, ?_, fun b hb => ?_, hflt.trans (by subst hx; rfl), hsys.trans (by subst hx; rfl)⟩
  · rw [State.rb, hkeep, hrd, bitOf_putBits_of_disjoint _ _ (by omega) (by omega) (by omega), bitOf_putBit_self _ _ (by omega)]
  · rw [State.rb, hkeep, hrd, bitOf_putBits_of_disjoint _ _ (by omega) (by omega) (by omega), bitOf_putBit_of_ne _ _ (by omega) h4, State.rb]
  · rw [State.rf, hkeep, hrd, bitsOf_putBits_of_disjoint _ _ (by omega) (by omega) (by omega), bitsOf_putBit_of_disjoint _ _ (by omega) (by omega), State.rf]
  · rw [State.rf, hlast, (lastWord_fields hn (by omega) _ _ _ _ _).1]
  · rw [hbits b (by omega), State.rb, hother, State.rb]

/-! ### One event of a source -/

theorem settle_none (h : s.flt.due = []) : settle s = s := by rw [settle, h]

/-- A raising that ends below level 5 and defers nothing is handled and nothing more. -/
theorem raise_handle (hlvl : (handle ⟨n, true, false⟩ s).1 ≠ 5) (hdue : (handle ⟨n, true, false⟩ s).2.flt.due = []) :
    raise n s = (handle ⟨n, true, false⟩ s).2 := by
  have hcycle : raiseCycle [⟨n, true, false⟩] s = (handle ⟨n, true, false⟩ s).2 := by
    simp [raiseCycle, insRaising, hlvl]
  rw [raise, raiseAll, hcycle, settle_none hdue]

theorem handle_clamped (h : lineOpen n s = false ∨ realNow n s = true) : handle ⟨n, true, false⟩ s = (0, s) := by
  rw [handle]
  split
  · rfl
  · rename_i hopen
    have hr : realNow n s = true := h.resolve_left fun hc => hopen (by simp [hc])
    simp [hr]

theorem handle_conseq (hn : n < 352) (ho : lineOpen n s = true) (hr : realNow n s = false) (hc : isConseq n s = true) :
    handle ⟨n, true, false⟩ s = (0, conseqEvent n s) := by
  simp [handle, ho, hr, hc, hn]

theorem handle_real (hn : n < 352) (ho : lineOpen n s = true) (hr : realNow n s = false) (hc : isConseq n s = false) :
    handle ⟨n, true, false⟩ s = realEvent n s := by
  simp [handle, ho, hr, hc, hn]

/-! ### A real event of level 2 at most -/

/-- The reaction of level 2 at most is the class's interrupt and the NMI (R510). -/
theorem react_low (h : lvl ≤ 2) (s : State) : ∃ k, react n lvl s = { s.irqIf (decide (1 ≤ lvl)) P.FLT0 (srcClass n s) with flt := { s.flt with nmi := k } } := by
  have h3 : ¬3 ≤ lvl := by omega
  have h4 : ¬4 ≤ lvl := by omega
  simp only [react, h3, h4, if_false]
  by_cases h2 : 2 ≤ lvl
  · have h1 : 1 ≤ lvl := by omega
    simp only [h1, h2, if_true, decide_true]
    exact ⟨_, rfl⟩
  · simp only [h2, if_false]
    refine ⟨s.flt.nmi, ?_⟩
    rw [State.irqIf]
    split <;> rfl

theorem countEvent_only (h : Only l m s t) (ha : R.FLT_SRC_WIN n ∈ l) : Only l m s (countEvent n t) := by
  rw [countEvent]
  exact Only.ite (Only.record (h.wf ha)) (h.wf ha)

theorem unack_only (h : Only l m s t) (ha : R.FLT_SRC_STAT n ∈ l) : Only l m s (unack n t) := by
  rw [unack]
  exact (h.wb ha).ite h

/-- A counted event counts at least once. -/
theorem countEvent_pos (n : Nat) (s : State) : 1 ≤ (countEvent n s).rf (R.FLT_SRC_WIN n) 23 16 := by
  rw [countEvent]
  split
  · have h1 : (s.wf (R.FLT_SRC_WIN n) 23 16 1).rf (R.FLT_SRC_WIN n) 23 16 = 1 := State.rf_wf_self (by omega) (by omega)
    rw [State.rf, State.rd_mk, sget_regs, ← State.rf, h1]
  · rw [State.rf_wf_self (by omega) (by omega)]; omega

theorem effLevel_low (h : effLevel n lvl ≤ 2) : effLevel n lvl = lvl := by
  simp only [effLevel] at h ⊢
  split_ifs at h ⊢ <;> omega

/-- The state of a real event after its latch and its entry in the log, and before the reaction (R508, R620). -/
def latched (n lvl : Nat) (severe esc : Bool) (s : State) : State :=
  let a := R.FLT_SRC_STAT n
  let w := putBits (putBits (putBit (putBit (s.rd a) 1 true) 3 (bitOf (s.rd a) 3 || severe)) 7 5 lvl) 10 8 lvl
  let s := (((if severe then s.note a 3 else s).note a 1).wr a w).stampHi a
  let s := s.stAdd (R.STAT P.FLT0 0) 15 0 1
  showPend (logEvent (lastWord n lvl severe esc false false s) n s)

theorem realEvent_eq (n : Nat) (s : State) : ∃ severe esc, realEvent n s =
    ((realEvent n s).1, react n (realEvent n s).1 (latched n (realEvent n s).1 severe esc (countEvent n (unack n s)))) := by
  simp only [realEvent, latched]
  exact ⟨_, _, rfl⟩

theorem realEvent_level (h : (realEvent n s).1 ≤ 2) (hc : classPending (srcClass n (countEvent n (unack n s))) (countEvent n (unack n s)) = false) :
    (realEvent n s).1 = realLevel n (countEvent n (unack n s)) := by
  simp only [realEvent, hc, Bool.and_false, Bool.false_eq_true, if_false] at h ⊢
  exact effLevel_low h

/-- The latch before the log's entry. -/
theorem latched_eq (n lvl : Nat) (severe esc : Bool) (s : State) : ∃ x last, latched n lvl severe esc s = showPend (logEvent last n x) ∧
    last = lastWord n lvl severe esc false false x ∧ x.flt = s.flt ∧ x.rd (R.FLT_SRC_STAT n) =
      putBits (putBits (putBits (putBit (putBit (s.rd (R.FLT_SRC_STAT n)) 1 true) 3 (bitOf (s.rd (R.FLT_SRC_STAT n)) 3 || severe)) 7 5 lvl) 10 8 lvl) 31 16 s.tick16 ∧
    Only [R.FLT_SRC_STAT n] [R.STAT P.FLT0 0] s x := by
  refine ⟨_, _, rfl, rfl, ?_, ?_, ?_⟩
  · split <;> rfl
  · rw [State.stAdd, State.stw_rd, State.stampHi, State.rd_wf_self, State.rd_wr_self]
    split <;> rfl
  · refine Only.stAdd (Only.stampHi (Only.wr (Only.note ?_) (by simp)) (by simp)) (by simp)
    split
    · exact (Only.refl _ _ _).note
    · exact .refl _ _ _

theorem showPend_only (h : Only l m s t) (ha : R.FLT_CLASS_PEND ∈ l) : Only l m s (showPend t) := h.wr ha

/-- The registers of an event of source `n` that is latched, with the log's pointer at `k`. -/
abbrev latchRegs (n k : Nat) : List Nat := R.FLT_SRC_STAT n :: R.FLT_CLASS_PEND :: logRegs k

theorem latched_only (hn : n < 352) (severe esc : Bool) (s : State) :
    Only (latchRegs n (s.rf R.FLT_LOG_WR 7 0)) [R.STAT P.FLT0 0] s (latched n lvl severe esc s) := by
  obtain ⟨x, last, hx, -, -, -, honly⟩ := latched_eq n lvl severe esc s
  have hptr : x.rf R.FLT_LOG_WR 7 0 = s.rf R.FLT_LOG_WR 7 0 := honly.rf (by simpa using (logWr_ne_srcReg hn).1)
  rw [hx]
  refine showPend_only (logEvent_only (honly.mono (by simp) (by simp)) ?_) (by simp)
  rw [hptr]
  exact fun a ha => List.mem_cons_of_mem _ (List.mem_cons_of_mem _ ha)

/-- What the latch shows (R508, R620). -/
theorem latched_shows (hn : n < 352) (hl : lvl ≤ 7) (severe esc : Bool) (s : State) :
    (latched n lvl severe esc s).rb (R.FLT_SRC_STAT n) 1 = true ∧ (latched n lvl severe esc s).rf (R.FLT_SRC_STAT n) 10 8 = lvl ∧
    (latched n lvl severe esc s).rf R.FLT_LAST 8 0 = n ∧ (latched n lvl severe esc s).rf R.FLT_LAST 11 9 = lvl ∧
    (latched n lvl severe esc s).rf R.FLT_LOG_WR 7 0 = (s.rf R.FLT_LOG_WR 7 0 + 1) % 256 ∧ (latched n lvl severe esc s).flt = s.flt := by
  obtain ⟨x, last, hx, hlast, hflt, hstat, honly⟩ := latched_eq n lvl severe esc s
  have hptr : x.rf R.FLT_LOG_WR 7 0 = s.rf R.FLT_LOG_WR 7 0 := honly.rf (by simpa using (logWr_ne_srcReg hn).1)
  obtain ⟨hlw, hwr, -, hf, -⟩ := logEvent_shows last n x
  have hne : R.FLT_SRC_STAT n ≠ R.FLT_CLASS_PEND := (fltLow_not_srcReg (by decide)).1.symm
  have hkeep : (latched n lvl severe esc s).rd (R.FLT_SRC_STAT n) = x.rd (R.FLT_SRC_STAT n) := by
    rw [hx, showPend, State.rd_wr_of_ne _ hne]
    exact (logEvent_only (.refl _ [] x) fun _ h => h).regs _ (srcStat_not_log hn (logWr_lt x))
  have hl8 : lvl % 2 ^ (10 + 1 - 8) = lvl := Nat.mod_eq_of_lt (by omega)
  refine ⟨?_, ?_, ?_, ?_, ?_, ?_⟩
  · rw [State.rb, hkeep, hstat]
    simp [bitOf_putBits_of_disjoint, bitOf_putBit_of_ne]
  · rw [State.rf, hkeep, hstat, bitsOf_putBits_of_disjoint _ _ (by omega) (by omega) (by omega), bitsOf_putBits_self _ _ (by omega) (by omega), hl8]
  · rw [hx, showPend, State.rf_wr_of_ne (by decide), State.rf, hlw, hlast, (lastWord_fields hn hl _ _ _ _ _).1]
  · rw [hx, showPend, State.rf_wr_of_ne (by decide), State.rf, hlw, hlast, (lastWord_fields hn hl _ _ _ _ _).2]
  · rw [hx, showPend, State.rf_wr_of_ne (by decide), hwr, hptr]
  · rw [hx, ← hflt, ← hf]; rfl

/-- Settles O19: a raising is handled by the first of its cases, clamped, consequential or real, and none of them reaches level 5 or defers anything. -/
theorem eventsAreRealOrConsequential : Obligations.EventsAreRealOrConsequential := by
  refine ⟨fun k n s hdue hopen hreal hcons hlow => ?_, fun k n s hdue hopen hreal hcons => ?_, fun k n s hdue hclamp => ?_⟩
  · have hn := n.isLt
    intro c lvl
    have hflt : c.flt.due = [] := by
      simp only [c, countEvent, unack]
      split <;> split <;> exact hdue
    have hc : Only [R.FLT_SRC_STAT n, R.FLT_SRC_WIN n] [] s c := countEvent_only (unack_only (Only.refl _ _ _).at (by simp)) (by simp)
    have hptr : c.rf R.FLT_LOG_WR 7 0 = s.rf R.FLT_LOG_WR 7 0 := hc.rf (by simpa using logWr_ne_srcReg hn)
    obtain ⟨severe, esc, heq⟩ := realEvent_eq n (s.at k)
    have hlat := latched_only (lvl := lvl) hn severe esc c
    obtain ⟨hbit, hfld, hlast, hlastLvl, hwr, hlf⟩ := latched_shows (lvl := lvl) hn (by omega) severe esc c
    obtain ⟨nmi, hreact⟩ := react_low (n := n) hlow (latched n lvl severe esc c)
    have hclass : srcClass n (latched n lvl severe esc c) = srcClass n s := by
      rw [srcClass, hlat.rf, hc.rf, srcClass]
      · simpa using ⟨srcCfg_ne_stat _, srcCfg_ne_win _⟩
      · simp only [List.mem_cons, not_or]
        exact ⟨srcCfg_ne_stat _, fun e => by simp only [R.FLT_SRC_CFG, R.FLT_CLASS_PEND] at e; omega, by
          simpa [logRegs] using srcCfg_not_log hn (logWr_lt c)⟩
    have hirq : ∀ b, b ≠ R.IRQ_STAT P.FLT0 → (react n lvl (latched n lvl severe esc c)).rd b = (latched n lvl severe esc c).rd b := by
      intro b hb
      rw [hreact]
      change ((latched n lvl severe esc c).irqIf _ _ _).rd b = _
      rw [State.irqIf]
      split
      · exact State.rd_irq_of_ne hb
      · rfl
    have hraise : raise n (s.at k) = react n lvl (latched n lvl severe esc c) := by
      have hh := handle_real hn hopen hreal hcons
      rw [raise_handle]
      · rw [hh, heq]
      · rw [hh]; omega
      · rw [hh, heq, hreact]
        exact (congrArg FltSt.due hlf).trans hflt
    have hwin : R.FLT_SRC_WIN n ∉ latchRegs n (c.rf R.FLT_LOG_WR 7 0) := by
      simp only [List.mem_cons, not_or]
      exact ⟨(srcStat_ne_win _).symm, fun e => by simp only [R.FLT_SRC_WIN, R.FLT_CLASS_PEND] at e; omega, by
        simpa [logRegs] using srcWin_not_log hn (logWr_lt c)⟩
    have hstat : R.FLT_SRC_STAT n ≠ R.IRQ_STAT P.FLT0 := (fltLow_not_srcReg (by decide)).1.symm
    have hwinrd : (react n lvl (latched n lvl severe esc c)).rf (R.FLT_SRC_WIN n) 23 16 = c.rf (R.FLT_SRC_WIN n) 23 16 := by
      rw [State.rf, hirq _ (fltLow_not_srcReg (by decide)).2.symm, hlat.regs _ hwin, State.rf]
    refine ⟨_, next_congr hraise, ?_, ?_, realEvent_level hlow, hwinrd, ?_, fun h1 => ?_, ?_, ?_, ?_, ?_⟩
    · rw [State.rb, hirq _ hstat]; exact hbit
    · rw [State.rf, hirq _ hstat]; exact hfld
    · rw [hwinrd]; exact countEvent_pos _ _
    · rw [hreact]
      change ((latched n lvl severe esc c).irqIf _ _ _).rb _ _ = true
      rw [State.irqIf, if_pos (by simpa using h1), ← hclass]
      refine State.rb_irq_self ?_
      have : srcClass n (latched n lvl severe esc c) < 16 := Nat.mod_lt _ (by decide)
      omega
    · rw [State.rf, hirq _ (by decide)]; exact hlast
    · rw [State.rf, hirq _ (by decide)]; exact hlastLvl
    · rw [State.rf, hirq _ (by decide), ← hptr]; exact hwr
    · rw [hreact, ← hptr]
      refine (((hc.mono ?_ ?_).trans (hlat.mono ?_ ?_)).irqIf ?_).upd rfl rfl rfl rfl rfl rfl <;> simp
  · have hn := n.isLt
    have hh := handle_conseq (s := s.at k) hn hopen hreal hcons
    obtain ⟨hbit, hbits, hfld, hlast, hirq, hflt, hsys⟩ := conseqEvent_shows hn (s.at k)
    have hraise : raise n (s.at k) = conseqEvent n (s.at k) := by
      rw [raise_handle (by rw [hh]; exact Nat.zero_ne_add_one 4) (by rw [hh]; exact (congrArg FltSt.due hflt).trans hdue), hh]
    have honly := conseqEvent_only (n := n) (l := R.FLT_SRC_STAT n :: logRegs (s.rf R.FLT_LOG_WR 7 0)) (m := [R.STAT P.FLT0 0])
      ((Only.refl _ _ s).at (n := k)) (by simp) (by simp) hn (fun a ha => List.mem_cons_of_mem _ ha)
    refine ⟨_, next_congr hraise, hbit, hbits 1 (by omega) (by omega), hfld, ?_, hflt, hsys, hlast, hirq, honly⟩
    refine honly.regs _ ?_
    simp only [List.mem_cons, not_or]
    exact ⟨(srcStat_ne_win _).symm, by simpa [logRegs] using srcWin_not_log hn (logWr_lt s)⟩
  · have hh := handle_clamped (n := n) (s := s.at k) hclamp
    exact next_congr (by rw [raise_handle (by rw [hh]; exact Nat.zero_ne_add_one 4) (by rw [hh]; exact hdue), hh])

/-! ### Forces -/

theorem mayForceSrc_iff (s : State) : mayForceSrc s = true ↔ s.rf R.SYS_MODE 3 0 = 6 ∨ s.rf R.SYS_MODE 3 0 = 0 := by
  simp [mayForceSrc]

theorem forceAll_taken {l : List Nat} (hl : l ≠ []) (h : s.rf R.SYS_MODE 3 0 = 6 ∨ s.rf R.SYS_MODE 3 0 = 0) :
    forceAll l s = raiseAll (l.map fun n => ⟨n, false, true⟩) s := by
  rw [forceAll, if_neg (by simpa using hl), if_pos ((mayForceSrc_iff s).2 h)]

theorem forceAll_refused {l : List Nat} (hl : l ≠ []) (h6 : s.rf R.SYS_MODE 3 0 ≠ 6) (h0 : s.rf R.SYS_MODE 3 0 ≠ 0) :
    forceAll l s = s.wb R.FLT_FORCE_STAT 0 true := by
  rw [forceAll, if_neg (by simpa using hl), if_neg (by rw [mayForceSrc_iff]; omega)]

/-- A forced list of sources, from the state that an accepted write of `a` leaves, is injected in SERVICE and FACTORY and refused in any other mode. -/
theorem forceAll_gate {l : List Nat} {a : Nat} (hl : l ≠ []) (ha : R.SYS_MODE ≠ a) (h : Only [a] [] s t) :
    (s.rf R.SYS_MODE 3 0 = 6 ∨ s.rf R.SYS_MODE 3 0 = 0 → forceAll l t = raiseAll (l.map fun n => ⟨n, false, true⟩) t) ∧
    (s.rf R.SYS_MODE 3 0 ≠ 6 → s.rf R.SYS_MODE 3 0 ≠ 0 → forceAll l t = t.wb R.FLT_FORCE_STAT 0 true) := by
  have hmode : t.rf R.SYS_MODE 3 0 = s.rf R.SYS_MODE 3 0 := h.rf (by simpa using ha)
  rw [← hmode]
  exact ⟨forceAll_taken hl, forceAll_refused hl⟩

/-- FORCE holds no shadow field. -/
theorem force_rws : ∀ p : Fin 256, maskOf RegDef.rws (R.FORCE p) = 0#32 := by decide +kernel

theorem offOf_force (p : Nat) : offOf (R.FORCE p) = 0x24 := by
  simp only [offOf, R.FORCE, R.base]; omega

/-- Settles O20: both registers hand their sources to one injection, which the mode alone decides; FLT_FORCE_SRC names one source, FORCE those of its bits. -/
theorem forcesActInServiceAndFactoryOnly : Obligations.ForcesActInServiceAndFactoryOnly := by
  intro k i page w s named
  have hpage : R.SYS_MODE ≠ R.FORCE page := by simp only [R.SYS_MODE, R.FORCE, R.base]; omega
  have hforce := fun h : s.accepts k i (R.FORCE page) w => gateWrite_plain (forcePage page) h (by simp [offOf_force]) (force_rws page)
  have hsrc := fun h : s.accepts k i R.FLT_FORCE_SRC (putBit w 31 true) => gateWrite_plain forceSrc h (by decide) (by decide +kernel)
  have hgo : ∀ t, forceSrc (s.rd R.FLT_FORCE_SRC) (putBit w 31 true) t = forceAll [bitsOf w 8 0] t := fun t => by
    rw [forceSrc, bitOf_putBit_self _ _ (by omega), if_pos rfl, bitsOf_putBit_of_disjoint _ _ (by omega) (by omega)]
  refine ⟨fun hacc hmode hne => ?_, fun hacc h6 h0 hne => ?_, fun hacc hmode => ?_, fun hacc h6 h0 => ?_⟩
  · have hst := gateState_only (s := s) k (R.FORCE page)
    exact ⟨_, next_congr ((hforce hacc).trans ((forceAll_gate hne hpage (hst _)).1 hmode)), hst _⟩
  · have hst := gateState_only (s := s) k (R.FORCE page)
    exact ⟨_, next_congr ((hforce hacc).trans ((forceAll_gate hne hpage (hst _)).2 h6 h0)), State.rb_wb_self (by omega),
      Only.wb ((hst _).mono (by simp) (by simp)) (by simp)⟩
  · have hst := gateState_only (s := s) k R.FLT_FORCE_SRC
    exact ⟨_, next_congr ((hsrc hacc).trans ((hgo _).trans ((forceAll_gate (by simp) (by decide) (hst _)).1 hmode))), hst _⟩
  · have hst := gateState_only (s := s) k R.FLT_FORCE_SRC
    exact ⟨_, next_congr ((hsrc hacc).trans ((hgo _).trans ((forceAll_gate (by simp) (by decide) (hst _)).2 h6 h0))), State.rb_wb_self (by omega),
      Only.wb ((hst _).mono (by simp) (by simp)) (by simp)⟩

/-! ### Two statements that fail -/

/-- A device whose start-up record gives step 2 a time while SYS_START_STAT does not show step 2 as completed. -/
def stepTimed : State := State.reset.wr (R.SYS_START_MS 2) 1#32

theorem stepTimed_release : ∃ u, exec (.errRelease 0 .safe 2#32) stepTimed = .next u ∧ u.sys.errLow = false :=
  ⟨_, rfl, by decide +kernel⟩

/-- Refutes O21: whether RELEASE leaves ERR_N low hangs on the time that SYS_START_MS records for step 2, and not on SYS_START_STAT, so where only the
former is set ERR_N goes high although STEP shows less than 2. -/
theorem not_collectorCommandsActAsWritten : ¬ Obligations.CollectorCommandsActAsWritten := by
  unfold Obligations.CollectorCommandsActAsWritten
  intro h
  obtain ⟨hrelease, -⟩ := h 0 .safe 0 2#32 stepTimed
  obtain ⟨u, hu, -, hlow, -⟩ := hrelease (by decide +kernel) (by decide +kernel)
  obtain ⟨v, hv, hhigh⟩ := stepTimed_release
  rw [hv] at hu
  cases hu
  rw [hhigh] at hlow
  exact absurd hlow (by decide +kernel)

/-- CRC unit 0 snoops stream 1 into context 0, which compares after one byte; a mismatch of the unit is configured at level 3, a reset of its block. -/
def snoopedMismatch : State :=
  ((((State.reset.wr (R.CTRL (P.CRC 0)) 1#32).wr (R.CRC_SNOOP 0) 1#32).wr (R.CRC_CTX_CFG 0 0) 0x11#32).wr (R.CRC_CTX_LEN 0 0) 1#32).wr
    (R.FLT_SRC_CFG (Src.CRC_MISMATCH 0)) 0x1b#32

theorem snoopedMismatch_resets : (crcFeed 0 0 [0] (snoopedMismatch.at 0)).rf (R.CRC_CTX_CFG 0 0) 1 0 = 0 := by decide +kernel

/-- Refutes O22: the byte fed ends the context's LEN and does not match, and where the unit's CRC_MISMATCH is configured at level 3 the reaction resets
the unit's block, and POLY of the context with it. -/
theorem not_checkValuesFollowTheirData : ¬ Obligations.CheckValuesFollowTheirData := by
  unfold Obligations.CheckValuesFollowTheirData
  intro h
  obtain ⟨-, -, -, -, -, hfeed⟩ := h 0 snoopedMismatch
  obtain ⟨u, -, hu, hpoly, -⟩ := hfeed 1 0 [0#8] 0 (by decide) (by decide) (by decide +kernel) (by decide +kernel) (by decide +kernel) (by decide +kernel)
    (by decide +kernel)
  have hreset : u.rf (R.CRC_CTX_CFG 0 0) 1 0 = 0 := hu ▸ snoopedMismatch_resets
  have hc : snoopedMismatch.rf (R.CRC_SNOOP 0) 12 8 = 0 := by decide +kernel
  have hbefore : snoopedMismatch.rf (R.CRC_CTX_CFG 0 0) 1 0 = 1 := by decide +kernel
  simp only [Fin.val_zero, hc] at hpoly
  omega

end Sys2Proof.Machine
end

section
/-! PROOFS. Commit groups: arming, cancelling and validating them (R39, R40, R44), and the chip reset's record (R562). -/

namespace Sys2Proof.Machine

variable {l m : List Nat} {s t u : State} {i : Init} {a g n p : Nat} {w : Word}

/-! ### Registers of the coordinator and of its members -/

theorem commit_inj : R.COMMIT a = R.COMMIT p ↔ a = p := by
  simp only [R.COMMIT, R.base]; omega

theorem commit_ne_commitStat : R.COMMIT a ≠ R.COMMIT_STAT p := by
  simp only [R.COMMIT, R.COMMIT_STAT, R.base]; omega

/-- A register of the coordinator, which no page's COMMIT or COMMIT_STAT is. -/
abbrev CgReg (a : Nat) : Prop := a % 4096 ≠ 0x28 ∧ a % 4096 ≠ 0x2c

theorem CgReg.ne_commit (h : CgReg a) : a ≠ R.COMMIT p := by
  obtain ⟨h1, -⟩ := h
  simp only [R.COMMIT, R.base]; omega

theorem cgCtrl_cgReg (g : Fin 16) : CgReg (R.SYS_CG_CTRL g) := by simp only [CgReg, R.SYS_CG_CTRL]; omega

theorem cgStat_cgReg (g : Fin 16) : CgReg (R.SYS_CG_STAT g) := by simp only [CgReg, R.SYS_CG_STAT]; omega

theorem cgArmed_cgReg : CgReg R.SYS_CG_ARMED := by decide

theorem sysIrq_cgReg : CgReg (R.IRQ_STAT P.SYS) := by decide

theorem cgStat_ne_armed (g : Nat) : R.SYS_CG_STAT g ≠ R.SYS_CG_ARMED := by simp only [R.SYS_CG_STAT, R.SYS_CG_ARMED]; omega

theorem cgStat_ne_sysIrq (g : Nat) : R.SYS_CG_STAT g ≠ R.IRQ_STAT P.SYS := by simp only [R.SYS_CG_STAT, R.IRQ_STAT, R.base, P.SYS]; omega

theorem cgCtrl_rws : ∀ g : Fin 16, maskOf RegDef.rws (R.SYS_CG_CTRL g) = 0#32 := by decide +kernel

theorem offOf_cgCtrl (g : Fin 16) : offOf (R.SYS_CG_CTRL g) ≠ 0x1c ∧ offOf (R.SYS_CG_CTRL g) ≠ 0x20 := by
  simp only [offOf, R.SYS_CG_CTRL]; omega

/-! ### Members -/

theorem endMember_only {result : Nat} {late redirty : Bool} (h : Only l m s t) (hc : R.COMMIT p ∈ l) (hs : R.COMMIT_STAT p ∈ l) :
    Only l m s (endMember p result late redirty t) := by
  rw [endMember, setCommitStat]
  exact Only.wr (Only.ite ((h.wb hc).wb hc) (h.wb hc)) hs

theorem endMember_rb (p result : Nat) (late redirty : Bool) (s : State) :
    (endMember p result late redirty s).rb (R.COMMIT p) 9 = false ∧ (redirty = true → (endMember p result late redirty s).rb (R.COMMIT p) 8 = true) := by
  rw [endMember, setCommitStat]
  refine ⟨?_, fun h => ?_⟩
  · rw [State.rb_wr_of_ne commit_ne_commitStat]
    split
    · rw [State.rb_wb_bit (by omega) (by omega), State.rb_wb_self (by omega)]
    · rw [State.rb_wb_self (by omega)]
  · rw [State.rb_wr_of_ne commit_ne_commitStat, if_pos h, State.rb_wb_self (by omega)]

/-- A fold over pages that sets a bit of each page's COMMIT leaves the bit set for every page of the list. -/
theorem over_commit {f : State → Nat → State} {b : Nat} {x : Bool} (hself : ∀ s p, (f s p).rb (R.COMMIT p) b = x)
    (hother : ∀ s p q, q ≠ p → (f s p).rb (R.COMMIT q) b = s.rb (R.COMMIT q) b) (ps : List Nat) :
    ∀ s : State, ∀ p ∈ ps, (s.over ps f).rb (R.COMMIT p) b = x := by
  induction ps using List.reverseRecOn with
  | nil => intro s p hp; cases hp
  | append_singleton ps q ih =>
    intro s p hp
    rw [State.over, List.foldl_append, List.foldl_cons, List.foldl_nil]
    by_cases hpq : p = q
    · rw [hpq, hself]
    · rw [hother _ _ _ hpq]
      refine ih s p ?_
      simpa [hpq] using hp

/-! ### The end of a group -/

/-- The registers that the end of group `g` with members `ms` changes. -/
abbrev endRegs (g : Nat) (ms : List Nat) : List Nat :=
  ms.map R.COMMIT ++ ms.map R.COMMIT_STAT ++ [R.SYS_CG_STAT g, R.SYS_CG_ARMED, R.IRQ_STAT P.SYS]

/-- The members of an ending group, each with its own result. -/
def endMembers (ms : List Nat) (late redirty : Bool) (own : Nat → Nat) (s : State) : State := s.over ms fun s p => endMember p (own p) late redirty s

theorem endMembers_only {ms : List Nat} {late redirty : Bool} {own : Nat → Nat} (hc : ∀ p ∈ ms, R.COMMIT p ∈ l) (hs : ∀ p ∈ ms, R.COMMIT_STAT p ∈ l)
    (h : Only l m s t) : Only l m s (endMembers ms late redirty own t) :=
  h.overMem fun _ p hp h => endMember_only h (hc p hp) (hs p hp)

theorem endMember_other {result : Nat} {late redirty : Bool} {q b : Nat} (h : q ≠ p) :
    (endMember p result late redirty s).rb (R.COMMIT q) b = s.rb (R.COMMIT q) b := by
  have hne : R.COMMIT q ≠ R.COMMIT p := by rwa [Ne, commit_inj]
  refine (endMember_only (l := [R.COMMIT p, R.COMMIT_STAT p]) (m := []) (.refl _ _ s) (by simp) (by simp)).rb ?_
  simp [hne, commit_ne_commitStat]

theorem endMembers_rb (ms : List Nat) (late redirty : Bool) (own : Nat → Nat) (s : State) :
    (∀ p ∈ ms, (endMembers ms late redirty own s).rb (R.COMMIT p) 9 = false) ∧
    (redirty = true → ∀ p ∈ ms, (endMembers ms late redirty own s).rb (R.COMMIT p) 8 = true) :=
  ⟨over_commit (fun s p => (endMember_rb p (own p) late redirty s).1) (fun _ _ _ h => endMember_other h) ms s,
    fun hr => over_commit (fun s p => (endMember_rb p (own p) late redirty s).2 hr) (fun _ _ _ h => endMember_other h) ms s⟩

/-- The result that SYS_CG_STAT shows of an ended group (R47). -/
def cgResult (g : Fin 16) (result : Nat) (late : Bool) (rej : Nat) (s : State) : Word :=
  word (s.tick16 * 65536 + rej * 256 + bit (s.rb (R.SYS_CG_STAT g) 6) * 64 + bit late * 32 + result)

/-- The members' end and the group's result, before the interrupt (R40, R47). -/
def endShown (g : Fin 16) (result : Nat) (late : Bool) (rej : Nat) (x : State) : State :=
  ((x.wr (R.SYS_CG_STAT g) (cgResult g result late rej x)).wb R.SYS_CG_ARMED g false).withSys { x.sys with groups := x.sys.groups.set g Group.idle }

theorem endGroup_eq (g : Fin 16) (result : Nat) (late : Bool) (rej : Nat) (own : Nat → Nat) (s : State) :
    endGroup g result late rej own s =
      (endShown g result late rej (endMembers s.sys.groups[g].members late (!(result == 1)) own s)).irqIf (!(result == 1) || late) P.SYS 2 := rfl

theorem cgResult_fields {result rej : Nat} (g : Fin 16) (hr : result < 16) (hrej : rej < 256) (s : State) :
    bitsOf (cgResult g result false rej s) 3 0 = result ∧ bitsOf (cgResult g result false rej s) 15 8 = rej ∧
    bitOf (cgResult g result false rej s) 4 = false := by
  have hb : bit (s.rb (R.SYS_CG_STAT g) 6) < 2 := by simp only [bit]; split <;> omega
  have hf : bit false = 0 := rfl
  have hn : (cgResult g result false rej s).toNat = s.tick16 * 65536 + rej * 256 + bit (s.rb (R.SYS_CG_STAT g) 6) * 64 + result := by
    have ht : s.tick16 < 65536 := Nat.mod_lt _ (by decide)
    simp only [cgResult, word, BitVec.toNat_ofNat, hf]
    omega
  generalize bit (s.rb (R.SYS_CG_STAT g) 6) = x, s.tick16 = y at *
  refine ⟨?_, ?_, ?_⟩
  · simp only [bitsOf, hn]; omega
  · simp only [bitsOf, hn]; omega
  · rw [bitOf, hn, Nat.testBit_eq_decide_div_mod_eq, decide_eq_false_iff_not]; omega

theorem endGroup_only {g : Fin 16} {result rej : Nat} {late : Bool} {own : Nat → Nat} (h : Only l m s t)
    (hl : ∀ a ∈ endRegs g t.sys.groups[g].members, a ∈ l) : Only l m s (endGroup g result late rej own t) := by
  have hc : ∀ p ∈ t.sys.groups[g].members, R.COMMIT p ∈ l := fun p hp => hl _ (List.mem_append_left _ (List.mem_append_left _ (List.mem_map_of_mem hp)))
  have hs : ∀ p ∈ t.sys.groups[g].members, R.COMMIT_STAT p ∈ l := fun p hp => hl _ (List.mem_append_left _ (List.mem_append_right _ (List.mem_map_of_mem hp)))
  rw [endGroup_eq]
  exact Only.irqIf (Only.withSys (((endMembers_only hc hs h).wr (hl _ (by simp))).wb (hl _ (by simp)))) (hl _ (by simp))

/-- What a group that ends with a result other than OK shows (R40, R47, R49). -/
theorem endGroup_shows {g : Fin 16} {result rej : Nat} {own : Nat → Nat} (hr : result < 16) (h1 : result ≠ 1) (hrej : rej < 256) (s : State) :
    let u := endGroup g result false rej own s
    (u.sys.groups[g]).staged = false ∧ u.rf (R.SYS_CG_STAT g) 3 0 = result ∧ u.rf (R.SYS_CG_STAT g) 15 8 = rej ∧ u.rb (R.SYS_CG_STAT g) 4 = false ∧
    u.rb R.SYS_CG_ARMED g = false ∧ u.rb (R.IRQ_STAT P.SYS) 2 = true ∧
    ∀ p ∈ s.sys.groups[g].members, u.rb (R.COMMIT p) 9 = false ∧ u.rb (R.COMMIT p) 8 = true := by
  have hg : (g : Nat) < 32 := by omega
  have hok : (result == 1) = false := by simpa using h1
  intro u
  obtain ⟨hstaged, hdirty⟩ := endMembers_rb s.sys.groups[g].members false true own s
  have hu : u = (endShown g result false rej (endMembers s.sys.groups[g].members false true own s)).irq P.SYS 2 := by
    simp only [u, endGroup_eq, hok, Bool.not_false, Bool.true_or, State.irqIf, if_true]
  generalize endMembers s.sys.groups[g].members false true own s = x at hu hstaged hdirty
  obtain ⟨hres, hrejf, harm⟩ := cgResult_fields g hr hrej x
  have hstat : u.rd (R.SYS_CG_STAT g) = cgResult g result false rej x := by
    rw [hu, State.rd_irq_of_ne (cgStat_ne_sysIrq g), endShown, State.withSys_rd, State.rd_wb_of_ne (cgStat_ne_armed g), State.rd_wr_self]
  have hcommit : ∀ p, u.rd (R.COMMIT p) = x.rd (R.COMMIT p) := fun p => by
    rw [hu, State.rd_irq_of_ne sysIrq_cgReg.ne_commit.symm, endShown, State.withSys_rd, State.rd_wb_of_ne cgArmed_cgReg.ne_commit.symm,
      State.rd_wr_of_ne _ (cgStat_cgReg g).ne_commit.symm]
  refine ⟨?_, by rw [State.rf, hstat, hres], by rw [State.rf, hstat, hrejf], by rw [State.rb, hstat, harm], ?_, ?_, fun p hp => ⟨?_, ?_⟩⟩
  · simp [hu, endShown, State.irq, State.event, State.wb, Group.idle]
  · rw [hu, State.rb_irq_of_ne (by decide), endShown, State.withSys_rb, State.rb_wb_self hg]
  · rw [hu, State.rb_irq_self (by omega)]
  · rw [State.rb, hcommit, ← State.rb, hstaged p hp]
  · rw [State.rb, hcommit, ← State.rb, hdirty rfl p hp]

/-! ### Arming -/

/-- The COMMIT registers of an armed group's members: STAGED and no longer DIRTY (R39). -/
def stageMembers (ms : List Nat) (s : State) : State := s.over ms fun s p => (s.wb (R.COMMIT p) 8 false).wb (R.COMMIT p) 9 true

theorem stageMembers_only {ms : List Nat} (hc : ∀ p ∈ ms, R.COMMIT p ∈ l) (h : Only l m s t) : Only l m s (stageMembers ms t) :=
  h.overMem fun _ p hp h => (h.wb (hc p hp)).wb (hc p hp)

theorem stageMembers_rb (ms : List Nat) (s : State) :
    ∀ p ∈ ms, (stageMembers ms s).rb (R.COMMIT p) 9 = true ∧ (stageMembers ms s).rb (R.COMMIT p) 8 = false := by
  have hother : ∀ b, ∀ (s : State) (p q : Nat), q ≠ p → ((s.wb (R.COMMIT p) 8 false).wb (R.COMMIT p) 9 true).rb (R.COMMIT q) b = s.rb (R.COMMIT q) b := by
    intro b s p q h
    have hne : R.COMMIT q ≠ R.COMMIT p := by rwa [Ne, commit_inj]
    rw [State.rb_wb_of_ne hne, State.rb_wb_of_ne hne]
  have h9 : ∀ (s : State) (p : Nat), ((s.wb (R.COMMIT p) 8 false).wb (R.COMMIT p) 9 true).rb (R.COMMIT p) 9 = true := fun s p =>
    State.rb_wb_self (by omega)
  have h8 : ∀ (s : State) (p : Nat), ((s.wb (R.COMMIT p) 8 false).wb (R.COMMIT p) 9 true).rb (R.COMMIT p) 8 = false := fun s p => by
    rw [State.rb_wb_bit (by omega) (by omega), State.rb_wb_self (by omega)]
  exact fun p hp => ⟨over_commit h9 (hother 9) ms s p hp, over_commit h8 (hother 8) ms s p hp⟩

/-- What an ARM stages for group `g` (R39, R41). -/
def armedGroup (g : Fin 16) (s : State) : Group :=
  let ms := dirtyPages g s
  let d := decideTick (s.rb (R.SYS_CG_CTRL g) 2) (s.rb (R.SYS_CG_CTRL g) 3) (targetOf g s) (firstTick s)
  ⟨true, false, d.1, if s.rb (R.SYS_CG_CTRL g) 2 || decide (targetOf g s < firstTick s) then ticksToA s else 0, d.2.1, d.2.2, ms,
    ms.filter fun p => !s.answers p, skeep (fun a => ms.contains (pageOf a)) s.shadow, s.pat.kSh⟩

/-- An ARM of an idle group: its group is staged with the dirty pages as they stand, and shown. -/
theorem armGroup_idle (g : Fin 16) (s : State) (h : (s.sys.groups[g]).staged = false) :
    armGroup g s =
      ((((stageMembers (dirtyPages g s) s).withSys { (stageMembers (dirtyPages g s) s).sys with
        groups := (stageMembers (dirtyPages g s) s).sys.groups.set g (armedGroup g s) }).wb (R.SYS_CG_STAT g) 6 false).wb (R.SYS_CG_STAT g) 4 true).wb
          R.SYS_CG_ARMED g true := by
  rw [armGroup, if_neg (by rw [h]; decide)]
  rfl

theorem armGroup_staged (g : Fin 16) (s : State) (h : (s.sys.groups[g]).staged = true) : armGroup g s = s.wb (R.SYS_CG_STAT g) 6 true := by
  rw [armGroup, h]; rfl

/-- The pages of a group hang on the COMMIT registers alone. -/
theorem dirtyPages_congr (h : ∀ p, t.rd (R.COMMIT p) = s.rd (R.COMMIT p)) : dirtyPages g t = dirtyPages g s := by
  simp only [dirtyPages, State.rb, State.rf, h]

/-! ### The effect of SYS_CG_CTRL -/

theorem cgCtrl_arm {old : Word} (g : Fin 16) (h0 : bitOf w 0 = true) (h1 : bitOf w 1 = false) (s : State) : cgCtrl g old w s = armGroup g s := by
  simp [cgCtrl, h0, h1]

theorem cgCtrl_cancel {old : Word} (g : Fin 16) (h0 : bitOf w 0 = false) (h1 : bitOf w 1 = true) (hs : (s.sys.groups[g]).staged = true)
    (hm : mayCancel g s = true) : cgCtrl g old w s = cancelGroup g 0 s := by
  simp only [Fin.getElem_fin] at hs
  simp [cgCtrl, h0, h1, hs, hm]

theorem cgCtrl_none {old : Word} (g : Fin 16) (h0 : bitOf w 0 = false) (hs : (s.sys.groups[g]).staged = false) : cgCtrl g old w s = s := by
  simp only [Fin.getElem_fin] at hs
  simp [cgCtrl, h0, hs]

/-- Settles O14: the write reaches the group's effect with the group, the guard and the COMMIT registers as they were; ARM and CANCEL are then the
coordinator's own operations. -/
theorem armStagesAndCancelEnds : Obligations.ArmStagesAndCancelEnds := by
  intro k i g w s
  have hg : (g : Nat) < 32 := by omega
  have hgate := fun (v : Word) (h : s.accepts k i (R.SYS_CG_CTRL g) v) => gateWrite_stored (cgCtrl g) h (offOf_cgCtrl g) (cgCtrl_rws g)
  have honly := fun v => gateState_only (s := s) k (R.SYS_CG_CTRL g) v
  have hb0 : bitOf (putBit w 0 true) 0 = true := bitOf_putBit_self _ _ (by omega)
  have hb1 : bitOf (putBit w 1 true) 1 = true := bitOf_putBit_self _ _ (by omega)
  have hb01 : bitOf (putBit w 0 true) 1 = bitOf w 1 := bitOf_putBit_of_ne _ _ (by omega) (by omega)
  have hb10 : bitOf (putBit w 1 true) 0 = bitOf w 0 := bitOf_putBit_of_ne _ _ (by omega) (by omega)
  refine ⟨fun hacc hc hidle => ?_, fun hacc hc hstaged => ?_, fun hacc hc hstaged hmay => ?_, fun hacc hc hidle => ?_⟩
  · rw [← hb01] at hc
    obtain ⟨v, hw⟩ := hgate _ hacc
    have hxs := honly v
    generalize hx : (s.at k).busOk.wr (R.SYS_CG_CTRL g) v = x at hw hxs
    have hsys : x.sys = s.sys := hx ▸ rfl
    have hshadow : x.shadow = s.shadow := hx ▸ rfl
    have hdirty : dirtyPages g x = dirtyPages g s := dirtyPages_congr fun p => hxs.regs _ (by simpa using (cgCtrl_cgReg g).ne_commit.symm)
    have harm := armGroup_idle g x (hsys ▸ hidle)
    have hgr : ((armGroup g x).sys.groups[g]) = armedGroup g x := by rw [harm]; simp [State.wb]
    have hcommit : ∀ p b, (armGroup g x).rb (R.COMMIT p) b = (stageMembers (dirtyPages g s) x).rb (R.COMMIT p) b := by
      intro p b
      rw [harm, State.rb_wb_of_ne cgArmed_cgReg.ne_commit.symm, State.rb_wb_of_ne (cgStat_cgReg g).ne_commit.symm,
        State.rb_wb_of_ne (cgStat_cgReg g).ne_commit.symm, State.withSys_rb, hdirty]
    refine ⟨_, next_congr (hw.trans (cgCtrl_arm g hb0 hc _)), by rw [hgr]; rfl, by rw [hgr]; rfl, hgr ▸ hdirty, ?_, fun p hp => ?_, ?_, ?_, ?_, ?_⟩
    · rw [hgr, armedGroup, hdirty, hshadow]
    · rw [hcommit, hcommit]; exact stageMembers_rb _ x p hp
    · rw [harm, State.rb_wb_of_ne (cgStat_ne_armed g), State.rb_wb_self (by omega)]
    · rw [harm, State.rb_wb_of_ne (cgStat_ne_armed g), State.rb_wb_bit (by omega) (by omega), State.rb_wb_self (by omega)]
    · rw [harm, State.rb_wb_self hg]
    · rw [harm, hdirty]
      have hmem : ∀ p ∈ dirtyPages g s, R.COMMIT p ∈ (dirtyPages g s).map R.COMMIT ++ [R.SYS_CG_CTRL g, R.SYS_CG_STAT g, R.SYS_CG_ARMED] := fun p hp =>
        List.mem_append_left _ (List.mem_map_of_mem hp)
      exact (((stageMembers_only hmem (hxs.mono (by simp) (by simp))).withSys.wb (by simp)).wb (by simp)).wb (by simp)
  · rw [← hb01] at hc
    obtain ⟨v, hw⟩ := hgate _ hacc
    exact ⟨_, next_congr (hw.trans ((cgCtrl_arm g hb0 hc _).trans (armGroup_staged g _ hstaged))), State.rb_wb_self (by omega), rfl,
      Only.wb ((honly v).mono (by simp) (by simp)) (by simp)⟩
  · rw [← hb10] at hc
    obtain ⟨v, hw⟩ := hgate _ hacc
    have hxs := honly v
    generalize hx : (s.at k).busOk.wr (R.SYS_CG_CTRL g) v = x at hw hxs
    have hsys : x.sys = s.sys := hx ▸ rfl
    have hguard : x.guardNs = s.guardNs := by
      rw [State.guardNs, hxs.rf (by simp only [List.mem_singleton, R.SYS_COMMIT_GUARD, R.SYS_CG_CTRL]; omega), State.guardNs]
    have hnow : x.now = max s.now k := hx ▸ rfl
    have hnext : x.nextTick = s.nextTick := hx ▸ rfl
    have hnum : x.nextNum = s.nextNum := hx ▸ rfl
    have hmay' : mayCancel g x = true := by
      rw [mayCancel, Group.dueNext, hsys, hnum, ← Group.dueNext, hnow, hguard, hnext]
      simpa using hmay
    have hcancel := hw.trans (cgCtrl_cancel g hc hb1 (hsys ▸ hstaged) hmay')
    obtain ⟨hst, hres, hrej, -, harm, hirq, hmem⟩ := endGroup_shows (g := g) (result := 7) (rej := 0) (own := fun _ => 7) (by omega) (by omega) (by omega) x
    refine ⟨_, next_congr hcancel, hst, hres, hrej, harm, hirq, by rw [hsys] at hmem; exact hmem, endGroup_only (hxs.mono (by simp) (by simp)) ?_⟩
    rw [hsys]
    simp +contextual [or_imp]
  · rw [← hb10] at hc
    obtain ⟨v, hw⟩ := hgate _ hacc
    exact ⟨_, next_congr (hw.trans (cgCtrl_none g hc hidle)), rfl, honly v⟩

/-! ### Validation -/

/-- A check's result is a code of R47, and never OK's. -/
abbrev CheckCode (r : Nat) : Prop := r < 16 ∧ r ≠ 1

theorem verdict3_code (a b c : Bool) : CheckCode (verdict3 a b c) := by
  revert a b c; decide

theorem CheckCode.ite {a b : Nat} {c : Prop} [Decidable c] (ha : CheckCode a) (hb : CheckCode b) : CheckCode (if c then a else b) := by
  split <;> assumption

theorem ownCheck_code (p : Nat) (n s : State) : CheckCode (ownCheck p n s) := by
  rw [ownCheck]
  repeat refine CheckCode.ite (verdict3_code ..) ?_
  decide

theorem memberCheck_code (gr : Group) (n s : State) (p : Nat) : CheckCode (memberCheck gr n s p) := by
  rw [memberCheck]
  split
  · decide
  · exact ownCheck_code ..

theorem lowest_lt (f : Nat → Bool) (l : List Nat) : lowest f l < 256 := by
  have h : ∀ (l : List Nat) (a : Nat), l.foldl min a ≤ a := fun l => by
    induction l with
    | nil => exact fun _ => Nat.le_refl _
    | cons x l ih => exact fun a => (ih (min a x)).trans (Nat.min_le_left _ _)
  exact Nat.lt_succ_of_le (h (l.filter f) 255)

section
variable {g : Fin 16} {rejects : List Nat}

theorem validate_skipped (h : (s.sys.groups[g]).staged = false ∨ (s.sys.groups[g]).passed = true) : validate g rejects s = s := by
  rw [validate]
  exact if_pos (by rcases h with h | h <;> simp only [h, Bool.not_false, Bool.true_or, Bool.or_true])

/-- A group that waits for its validation. -/
abbrev Waits (gr : Group) : Prop := gr.staged = true ∧ gr.passed = false

theorem Waits.skip (h : Waits (s.sys.groups[g])) : ¬(!(s.sys.groups[g]).staged || (s.sys.groups[g]).passed) = true := by
  obtain ⟨h1, h2⟩ := h
  rw [h1, h2]; decide

theorem validate_own (h : Waits (s.sys.groups[g]))
    (ho : (s.sys.groups[g]).members.any (fun p => memberCheck (s.sys.groups[g]) (applyCopy (s.sys.groups[g]) s) s p != 0) = true) :
    ∃ own, validate g rejects s = endGroup g (memberCheck (s.sys.groups[g]) (applyCopy (s.sys.groups[g]) s) s
        (lowest (fun p => memberCheck (s.sys.groups[g]) (applyCopy (s.sys.groups[g]) s) s p != 0) (s.sys.groups[g]).members)) false
      (lowest (fun p => memberCheck (s.sys.groups[g]) (applyCopy (s.sys.groups[g]) s) s p != 0) (s.sys.groups[g]).members) own s := by
  rw [validate, if_neg h.skip, if_pos ho]
  exact ⟨_, rfl⟩

theorem validate_safe (h : Waits (s.sys.groups[g]))
    (ho : (s.sys.groups[g]).members.any (fun p => memberCheck (s.sys.groups[g]) (applyCopy (s.sys.groups[g]) s) s p != 0) = false)
    (hb : (s.sys.groups[g]).members.any (fun p => rejects.contains p || safeRejects p (applyCopy (s.sys.groups[g]) s) s) = true) :
    ∃ own, validate g rejects s = endGroup g 3 false
      (lowest (fun p => rejects.contains p || safeRejects p (applyCopy (s.sys.groups[g]) s) s) (s.sys.groups[g]).members) own s := by
  rw [validate, if_neg h.skip, if_neg (ne_true_of_eq_false ho), if_pos hb]
  exact ⟨_, rfl⟩

theorem validate_passes (h : Waits (s.sys.groups[g]))
    (ho : (s.sys.groups[g]).members.any (fun p => memberCheck (s.sys.groups[g]) (applyCopy (s.sys.groups[g]) s) s p != 0) = false)
    (hb : (s.sys.groups[g]).members.any (fun p => rejects.contains p || safeRejects p (applyCopy (s.sys.groups[g]) s) s) = false) :
    validate g rejects s = s.withSys { s.sys with groups := s.sys.groups.set g { s.sys.groups[g] with passed := true } } := by
  rw [validate, if_neg h.skip, if_neg (ne_true_of_eq_false ho), if_neg (ne_true_of_eq_false hb)]
  rfl

end

/-- Settles O15: validation is one of four: nothing, the end by a member's own reason, the end by SAFE's, or the mark that it has passed. -/
theorem validationKeepsOrDiscardsTheGroup : Obligations.ValidationKeepsOrDiscardsTheGroup := by
  intro k g rejects s gr n own bad ends
  have hends : ∀ (result low : Nat) (f : Nat → Nat), CheckCode result → low < 256 → ends result low (endGroup g result false low f (s.at k)) := by
    intro result low f hr hlow
    obtain ⟨hst, hres, hrej, harm, hcg, hirq, hmem⟩ := endGroup_shows (own := f) (g := g) hr.1 hr.2 hlow (s.at k)
    have honly := endGroup_only (g := g) (result := result) (rej := low) (late := false) (own := f) ((Only.refl (endRegs g gr.members) [] s).at (n := k))
      (fun _ h => h)
    exact ⟨hst, hres.trans (Nat.mod_eq_of_lt hr.1).symm, hrej.trans (Nat.mod_eq_of_lt hlow).symm, harm, hcg, hirq, fun p hp => (hmem p hp).1,
      honly.mem, honly.regs⟩
  refine ⟨fun hst hp ho hb => ?_, fun hst hp ho hb => ?_, fun hst hp ho => ?_, fun h => ?_⟩
  · exact ⟨_, next_congr (validate_passes (s := s.at k) ⟨hst, hp⟩ ho hb), by simp, by simpa [gr] using hst, by simp [gr], by simp [gr],
      ((Only.refl _ _ _).at).withSys⟩
  · obtain ⟨f, hf⟩ := validate_safe (s := s.at k) ⟨hst, hp⟩ ho hb
    exact ⟨_, next_congr hf, hends _ _ _ (by decide) (lowest_lt _ _)⟩
  · obtain ⟨f, hf⟩ := validate_own (s := s.at k) (rejects := rejects.map fun p => p.val) ⟨hst, hp⟩ ho
    exact ⟨_, next_congr hf, hends _ _ _ (memberCheck_code ..) (lowest_lt _ _)⟩
  · exact ⟨_, next_congr (validate_skipped (s := s.at k) h), rfl, (Only.refl _ _ _).at⟩

/-! ### The chip reset -/

/-- A state whose OTP lists a word far beyond its last, so that the register that would show it is CTRL of a CRC unit. -/
def otpBeyond : State := { State.reset with nv := { NvSt.blank with otp := [((R.CTRL (P.CRC 0) - R.SEC_OTP 0) / 4, 1#32)] } }

theorem otpBeyond_shown : ∃ u, exec (.chipReset 0 0 0) otpBeyond = .next u ∧ u.rd (R.CTRL (P.CRC 0)) = 1#32 :=
  ⟨_, rfl, by decide +kernel⟩

/-- Refutes O17: a chip reset shows every OTP word that the state lists in the register of its index, and the statement admits a state that lists one
beyond the last word of OTP, whose register lies in another page. -/
theorem not_chipResetRecordsAndClears : ¬ Obligations.ChipResetRecordsAndClears := by
  unfold Obligations.ChipResetRecordsAndClears
  intro h
  obtain ⟨u, hu, -, -, -, -, -, -, hregs, -⟩ := h 0 0 0 otpBeyond (by decide +kernel)
  have hreset := hregs (R.CTRL (P.CRC 0)) (by decide +kernel) (by decide +kernel) (by decide +kernel) (by decide +kernel)
  obtain ⟨v, hv, hshown⟩ := otpBeyond_shown
  rw [hv] at hu
  cases hu
  rw [hshown] at hreset
  exact absurd hreset (by decide +kernel)

end Sys2Proof.Machine
end

section
/-! PROOFS. Buffers, layers and flip requests (R99, R100, R105, R107, R110). -/

namespace Sys2Proof.Machine

variable {l m : List Nat} {s t u : State} {i : Init} {a n p e : Nat} {w : Word} {k : Fin 8} {st : BufState}

/-! ### Buffer entries -/

theorem State.buf_setBuf_self (x : BufEntry) : (s.setBuf e x).buf e = x := sget_sset_self ..

theorem State.buf_setBuf_of_ne {x : BufEntry} (h : a ≠ e) : (s.setBuf e x).buf a = s.buf a := sget_sset_of_ne _ _ h _ _

/-- The entry table is a field that no register write touches. -/
theorem buf_congr (h : t.cmp = s.cmp) (e : Nat) : t.buf e = s.buf e := by
  rw [State.buf, h, State.buf]

theorem setBufState_buf_self (e : Nat) (st : BufState) (s : State) : (setBufState e st s).buf e = { s.buf e with state := st, tick := s.tick16 } :=
  State.buf_setBuf_self ..

theorem setBufState_buf_of_ne (h : a ≠ e) : (setBufState e st s).buf a = s.buf a := State.buf_setBuf_of_ne h

theorem setBufState_only (h : Only l m s t) (hl : R.BUF_STATES (e / 8) ∈ l) : Only l m s (setBufState e st t) := Only.wf (Only.record h) hl

/-! ### Layers -/

theorem setLyr_only {f : LyrSt → LyrSt} (h : Only l m s t) : Only l m s (setLyr k f t) := h.record

@[simp] theorem setLyr_rd (f : LyrSt → LyrSt) (b : Nat) : (setLyr k f s).rd b = s.rd b := rfl

@[simp] theorem setLyr_buf (f : LyrSt → LyrSt) (e : Nat) : (setLyr k f s).buf e = s.buf e := rfl

@[simp] theorem setLyr_bufs (f : LyrSt → LyrSt) : (setLyr k f s).cmp.bufs = s.cmp.bufs := rfl

@[simp] theorem setLyr_arms (f : LyrSt → LyrSt) : (setLyr k f s).cmp.arms = s.cmp.arms := rfl

theorem setLyr_lyr_self (f : LyrSt → LyrSt) : (setLyr k f s).cmp.lyr[k] = f s.cmp.lyr[k] := by simp [setLyr]

theorem setLyr_lyr_of_ne {j : Fin 8} (f : LyrSt → LyrSt) (h : j ≠ k) : (setLyr k f s).cmp.lyr[j] = s.cmp.lyr[j] := by
  have : (k : Nat) ≠ j := fun e => h (Fin.ext e.symm)
  simp [setLyr, Vector.getElem_set_ne _ _ this]

@[simp] theorem State.wf_cmp (a hi lo v : Nat) : (s.wf a hi lo v).cmp = s.cmp := rfl

@[simp] theorem State.wb_cmp (a b : Nat) (v : Bool) : (s.wb a b v).cmp = s.cmp := rfl

@[simp] theorem State.wf_buf (a hi lo v e : Nat) : (s.wf a hi lo v).buf e = s.buf e := rfl

@[simp] theorem State.wb_buf (a b e : Nat) (v : Bool) : (s.wb a b v).buf e = s.buf e := rfl

@[simp] theorem State.irq_cmp (p b : Nat) : (s.irq p b).cmp = s.cmp := rfl

/-! ### Armed groups -/

/-- Layer `n` leaves the armed group `g`. -/
def leaveArm (n : Nat) (s : State) (g : Fin 8) : State :=
  if (s.cmp.arms[g]).contains n then
    let l := (s.cmp.arms[g]).filter (· != n)
    let s := s.withCmp { s.cmp with arms := s.cmp.arms.set g l }
    if l.isEmpty then s.wb R.CMP_FLIPGRP_STAT g false else s
  else s

theorem leaveArms_eq (n : Nat) (s : State) : leaveArms n s = s.over (List.finRange 8) (leaveArm n) := rfl

theorem leaveArm_only {g : Fin 8} (h : Only l m s t) (hl : R.CMP_FLIPGRP_STAT ∈ l) : Only l m s (leaveArm n t g) := by
  rw [leaveArm]
  exact Only.ite (Only.ite (Only.wb h.withCmp hl) h.withCmp) h

theorem leaveArms_only (h : Only l m s t) (hl : R.CMP_FLIPGRP_STAT ∈ l) : Only l m s (leaveArms n t) :=
  h.over fun _ _ h => leaveArm_only h hl

theorem leaveArm_kept (n : Nat) (s : State) (g : Fin 8) : (leaveArm n s g).cmp.lyr = s.cmp.lyr ∧ (leaveArm n s g).cmp.bufs = s.cmp.bufs ∧
    (leaveArm n s g).now = s.now := by
  rw [leaveArm]
  split
  · simp only
    split <;> exact ⟨rfl, rfl, rfl⟩
  · exact ⟨rfl, rfl, rfl⟩

theorem leaveArms_kept (n : Nat) (s : State) : (leaveArms n s).cmp.lyr = s.cmp.lyr ∧ (leaveArms n s).cmp.bufs = s.cmp.bufs ∧ (leaveArms n s).now = s.now := by
  rw [leaveArms_eq]
  refine State.over_induct (q := fun u => u.cmp.lyr = s.cmp.lyr ∧ u.cmp.bufs = s.cmp.bufs ∧ u.now = s.now) ⟨rfl, rfl, rfl⟩ fun u g ⟨h1, h2, h3⟩ => ?_
  obtain ⟨g1, g2, g3⟩ := leaveArm_kept n u g
  exact ⟨g1.trans h1, g2.trans h2, g3.trans h3⟩

/-! ### Registers of the layers -/

theorem lyrFlip_plain : ∀ k : Fin 8, maskOf RegDef.rws (R.LYR_FLIP k) = 0#32 ∧ offOf (R.LYR_FLIP k) ≠ 0x1c ∧ offOf (R.LYR_FLIP k) ≠ 0x20 := by decide +kernel

theorem lyrFlipStat_ne_irq (k : Nat) : R.LYR_FLIP_STAT k ≠ R.IRQ_STAT (P.LYR k) := by
  simp only [R.LYR_FLIP_STAT, R.IRQ_STAT, R.base, P.LYR]; omega

theorem lyrFlipStat_ne_arms (k : Fin 8) : R.LYR_FLIP_STAT k ≠ R.CMP_FLIPGRP_STAT := by
  simp only [R.LYR_FLIP_STAT, R.CMP_FLIPGRP_STAT]; omega

/-- The write of LYR_FLIP before its effect leaves all that a flip request looks at. -/
structure FlipBase (k : Fin 8) (n : Nat) (s x : State) : Prop where
  only : Only [R.LYR_FLIP k] [] s x
  cmp : x.cmp = s.cmp
  now : x.now = max s.now n
  nextTick : x.nextTick = s.nextTick
  evt : x.evt = s.evt

theorem flipBase_stored (k : Fin 8) (n : Nat) (s : State) (v : Word) : FlipBase k n s ((s.at n).busOk.wr (R.LYR_FLIP k) v) :=
  ⟨gateState_only .., rfl, rfl, rfl, rfl⟩

theorem lyrFlip_addr (k : Fin 8) {b : Nat} (h : b % 4096 ≠ R.LYR_FLIP 0 % 4096) : b ≠ R.LYR_FLIP k := by
  intro e
  apply h
  rw [e]
  simp only [R.LYR_FLIP]; omega

theorem FlipBase.specialMode (h : FlipBase k n s t) : specialMode t = specialMode s := by
  simp only [Machine.specialMode, h.only.rf (a := R.SYS_MODE) (by simpa using lyrFlip_addr k (by decide))]

theorem FlipBase.guardNs (h : FlipBase k n s t) : t.guardNs = s.guardNs := by
  rw [State.guardNs, h.only.rf (by simpa using lyrFlip_addr k (by decide)), State.guardNs]

theorem flipRefusal_congr {r : FlipReq} (hc : t.cmp = s.cmp) (hm : specialMode t = specialMode s) : flipRefusal k r t = flipRefusal k r s := by
  simp only [flipRefusal, buf_congr hc, hc, hm]

theorem FlipBase.refusal (h : FlipBase k n s t) (r : FlipReq) : flipRefusal k r t = flipRefusal k r s := flipRefusal_congr h.cmp h.specialMode

/-- A deadline's choice does not hang on LYR_FLIP. -/
theorem FlipBase.evaluated (h : FlipBase k n s t) : evaluated t = evaluated (s.at n) := by
  have hcfg : ∀ j : Fin 8, t.rf (R.LYR_CFG j) 12 10 = (s.at n).rf (R.LYR_CFG j) 12 10 := fun j =>
    h.only.rf (by simpa using lyrFlip_addr k (by simp only [R.LYR_CFG, R.LYR_FLIP]; omega))
  have hcmp : t.cmp = (s.at n).cmp := h.cmp
  have hnow : t.now = (s.at n).now := h.now
  have hevt : t.evt = (s.at n).evt := h.evt
  have hready : ∀ r, reqReady t r = reqReady (s.at n) r := fun r => by
    have hf : t.rb (fenceReg r.fence).1 (r.fence % 32) = (s.at n).rb (fenceReg r.fence).1 (r.fence % 32) := by
      refine h.only.rb ?_
      rw [List.mem_singleton, fenceReg]
      split <;> exact lyrFlip_addr k (by decide)
    rw [reqReady, fenceSet, hf, State.evtBits, hnow, hevt, ← State.evtBits, ← fenceSet, ← reqReady]
  simp only [Machine.evaluated, hcfg, hcmp, hnow, hready]

/-! ### Posting a request -/

theorem postFlip_refused {r : FlipReq} (h : flipRefusal k r s ≠ 0) :
    postFlip k r s = (s.wf (R.LYR_FLIP_STAT k) 31 28 (flipRefusal k r s)).irq (P.LYR k) 3 := by
  rw [postFlip]
  exact if_pos h

/-- What a taken request shows (R105). -/
def flipPosted (k : Fin 8) (r : FlipReq) (s : State) : State :=
  (((setLyr k (fun l => { l with pend := some r }) (if r.release then s else setBufState r.buf .queued s)).wf (R.LYR_FLIP_STAT k) 31 28 7).wb
    (R.LYR_FLIP_STAT k) 16 true).wf (R.LYR_FLIP_STAT k) 15 8 (if r.release then 0 else r.buf)

theorem postFlip_taken {r : FlipReq} (h : flipRefusal k r s = 0) : postFlip k r s = flipPosted k r s := by
  rw [postFlip]
  exact if_neg (not_not.2 h)

theorem flipPosted_shows (k : Fin 8) (r : FlipReq) (s : State) :
    ((flipPosted k r s).cmp.lyr[k]).pend = some r ∧ (flipPosted k r s).rf (R.LYR_FLIP_STAT k) 31 28 = 7 ∧
    (flipPosted k r s).rb (R.LYR_FLIP_STAT k) 16 = true ∧ (flipPosted k r s).rf (R.LYR_FLIP_STAT k) 15 8 = (if r.release then 0 else r.buf) % 256 := by
  refine ⟨?_, ?_, ?_, State.rf_wf_self (by omega) (by omega)⟩
  · rw [flipPosted, State.wf_cmp, State.wb_cmp, State.wf_cmp, setLyr_lyr_self]
  · rw [flipPosted, State.rf_wf_disjoint (by omega) (by omega) (by omega), State.rf_wb_disjoint (by omega) (by omega), State.rf_wf_self (by omega) (by omega)]
    rfl
  · rw [flipPosted, State.rb_wf_disjoint (by omega) (by omega) (by omega), State.rb_wb_self (by omega)]

theorem flipPosted_only {r : FlipReq} (h : Only l m s t) (hs : R.LYR_FLIP_STAT k ∈ l) (hb : r.release = false → R.BUF_STATES (r.buf / 8) ∈ l) :
    Only l m s (flipPosted k r t) := by
  refine Only.wf (Only.wb (Only.wf (setLyr_only ?_) hs) hs) hs
  split
  · exact h
  · exact setBufState_only h (hb (by simp_all))

theorem flipPosted_buf (k : Fin 8) (r : FlipReq) (s : State) (e : Nat) :
    (flipPosted k r s).buf e = (if r.release then s else setBufState r.buf .queued s).buf e := by
  rw [flipPosted, State.wf_buf, State.wb_buf, State.wf_buf, setLyr_buf]

theorem flipPosted_bufs {r : FlipReq} (h : r.release = true) : (flipPosted k r s).cmp.bufs = s.cmp.bufs := by
  rw [flipPosted, State.wf_cmp, State.wb_cmp, State.wf_cmp, setLyr_bufs, h, if_pos rfl]

/-! ### Cancelling one -/

theorem cancelFlip_ignored (h : (s.cmp.lyr[k]).pend = none ∨ s.now + s.guardNs = s.nextTick ∧ (evaluated s).any (fun x => x.1 == k && x.2.2) = true) :
    ∃ b, cancelFlip k s = (b, s) := by
  rw [cancelFlip]
  split
  · exact ⟨_, rfl⟩
  · rename_i hp
    have h2 : (s.now + s.guardNs == s.nextTick && (evaluated s).any fun x => x.1 == k && x.2.2) = true := by
      rcases h with h | ⟨h1, h2⟩
      · exact absurd (by rw [h]; rfl) hp
      · rw [h2, beq_iff_eq.2 h1]; rfl
    exact ⟨_, by rw [if_pos h2]⟩

theorem cancelFlip_none (h : (s.cmp.lyr[k]).pend = none) : cancelFlip k s = (false, s) := by
  rw [cancelFlip, if_pos (by rw [h]; rfl)]

/-- The state after an effective CANCEL (R110). -/
def flipCancelled (k : Fin 8) (s : State) : State := (dropPending k s).wf (R.LYR_FLIP_STAT k) 31 28 5

theorem cancelFlip_drops {q : FlipReq} (h : (s.cmp.lyr[k]).pend = some q) (ht : s.now + s.guardNs ≠ s.nextTick) :
    cancelFlip k s = (false, flipCancelled k s) := by
  have ht' : (s.now + s.guardNs == s.nextTick) = false := beq_eq_false_iff_ne.2 ht
  rw [cancelFlip, if_neg (by rw [h]; exact Bool.false_ne_true), if_neg (by rw [ht']; exact Bool.false_ne_true), flipCancelled]

/-- A dropped request before the layer leaves its armed group (R110). -/
def flipDropped (k : Fin 8) (q : FlipReq) (s : State) : State :=
  (((setLyr k (fun l => { l with pend := none }) (setBufState q.buf .swOwned s)).wb (R.LYR_FLIP_STAT k) 16 false).wf (R.LYR_FLIP_STAT k) 15 8 0).wf
    (R.LYR_FLIP_STAT k) 27 20 0

theorem dropPending_eq {q : FlipReq} (h : (s.cmp.lyr[k]).pend = some q) (hr : q.release = false) : dropPending k s = leaveArms k (flipDropped k q s) := by
  simp only [dropPending, h, hr, Bool.false_eq_true, if_false]
  rfl

theorem dropPending_only {q : FlipReq} (h : (t.cmp.lyr[k]).pend = some q) (hr : q.release = false) (ho : Only l m s t) (hs : R.LYR_FLIP_STAT k ∈ l)
    (hb : R.BUF_STATES (q.buf / 8) ∈ l) (hg : R.CMP_FLIPGRP_STAT ∈ l) : Only l m s (dropPending k t) := by
  rw [dropPending_eq h hr]
  exact leaveArms_only (Only.wf (Only.wf (Only.wb (setLyr_only (setBufState_only ho hb)) hs) hs) hs) hg

/-- What a dropped request leaves (R100, R110). -/
theorem dropPending_shows {q : FlipReq} (h : (s.cmp.lyr[k]).pend = some q) (hr : q.release = false) :
    ((dropPending k s).cmp.lyr[k]).pend = none ∧ (∀ e, (dropPending k s).buf e = (setBufState q.buf .swOwned s).buf e) ∧
    (dropPending k s).rb (R.LYR_FLIP_STAT k) 16 = false := by
  rw [dropPending_eq h hr]
  obtain ⟨hlyr, hbufs, -⟩ := leaveArms_kept k (flipDropped k q s)
  have honly := leaveArms_only (n := k) (.refl [R.CMP_FLIPGRP_STAT] [] (flipDropped k q s)) (by simp)
  refine ⟨?_, fun e => ?_, ?_⟩
  · rw [hlyr, flipDropped, State.wf_cmp, State.wf_cmp, State.wb_cmp, setLyr_lyr_self]
  · rw [State.buf, hbufs, ← State.buf, flipDropped, State.wf_buf, State.wf_buf, State.wb_buf, setLyr_buf]
  · rw [honly.rb (by simpa using lyrFlipStat_ne_arms k), flipDropped, State.rb_wf_disjoint (by omega) (by omega) (by omega),
      State.rb_wf_disjoint (by omega) (by omega) (by omega), State.rb_wb_self (by omega)]

theorem flipCancelled_shows {q : FlipReq} (h : (s.cmp.lyr[k]).pend = some q) (hr : q.release = false) :
    ((flipCancelled k s).cmp.lyr[k]).pend = none ∧ (∀ e, (flipCancelled k s).buf e = (setBufState q.buf .swOwned s).buf e) ∧
    (flipCancelled k s).rf (R.LYR_FLIP_STAT k) 31 28 = 5 ∧ (flipCancelled k s).rb (R.LYR_FLIP_STAT k) 16 = false := by
  obtain ⟨hpend, hbuf, h16⟩ := dropPending_shows h hr
  refine ⟨?_, fun e => ?_, State.rf_wf_self (by omega) (by omega), ?_⟩
  · rw [flipCancelled, State.wf_cmp, hpend]
  · rw [flipCancelled, State.wf_buf, hbuf]
  · rw [flipCancelled, State.rb_wf_disjoint (by omega) (by omega) (by omega), h16]

theorem flipCancelled_only {q : FlipReq} (h : (t.cmp.lyr[k]).pend = some q) (hr : q.release = false) (ho : Only l m s t) (hs : R.LYR_FLIP_STAT k ∈ l)
    (hb : R.BUF_STATES (q.buf / 8) ∈ l) (hg : R.CMP_FLIPGRP_STAT ∈ l) : Only l m s (flipCancelled k t) :=
  Only.wf (dropPending_only h hr ho hs hb hg) hs

/-! ### A write of LYR_FLIP -/

/-- The request that a word written to LYR_FLIP at the instant `now` names (R105). -/
def flipReq (w : Word) (now : Nat) : FlipReq := ⟨bitsOf w 7 0, bitsOf w 13 8, bitOf w 14, bitOf w 15, now⟩

theorem flipReq_putBit (w : Word) {b : Nat} (x : Bool) (hb : 15 < b) (h32 : b < 32) (now : Nat) : flipReq (putBit w b x) now = flipReq w now := by
  simp only [flipReq, bitsOf_putBit_of_disjoint w x h32 (Or.inl (show 7 < b by omega)), bitsOf_putBit_of_disjoint w x h32 (Or.inl (show 13 < b by omega)),
    bitOf_putBit_of_ne w x h32 (show 14 ≠ b by omega), bitOf_putBit_of_ne w x h32 (show 15 ≠ b by omega)]

theorem lyrFlip_request {old : Word} (h31 : bitOf w 31 = true) (h : bitOf w 30 = false ∨ (s.cmp.lyr[k]).pend = none) :
    lyrFlip k old w s = postFlip k (flipReq w s.now) s := by
  have hc : (if bitOf w 30 then cancelFlip k s else (false, s)) = (false, s) := by
    split
    · exact cancelFlip_none (h.resolve_left (by simp_all))
    · rfl
  simp only [lyrFlip, hc, h31, Bool.not_true, Bool.false_eq_true, if_false]
  rfl

theorem lyrFlip_both {old : Word} {q : FlipReq} (h31 : bitOf w 31 = true) (h30 : bitOf w 30 = true) (h : (s.cmp.lyr[k]).pend = some q)
    (ht : s.now + s.guardNs ≠ s.nextTick) :
    lyrFlip k old w s = postFlip k (flipReq w s.now) (flipCancelled k s) := by
  simp only [lyrFlip, h31, h30, if_true, cancelFlip_drops h ht, Bool.not_true, Bool.false_eq_true, if_false]
  rfl

theorem lyrFlip_cancel {old : Word} (h31 : bitOf w 31 = false) (h30 : bitOf w 30 = true) : lyrFlip k old w s = (cancelFlip k s).2 := by
  simp only [lyrFlip, h31, h30, if_true, Bool.not_false]

/-! ### Arming a flip group -/

theorem cmpFlipArm_one {old : Word} (g : Fin 8) (hg : g.val ≠ 0) (s : State) : cmpFlipArm old (word (2 ^ g.val)) s = armFlips g s := by
  have hbit : ∀ g j : Fin 8, bitOf (word (2 ^ g.val)) j = decide (j = g) := by decide
  have hone : ∀ g : Fin 8, (List.finRange 8).filter (fun j => decide (j = g)) = [g] := by decide
  have hstep : ∀ (s : State) (j : Fin 8), (if j.val ≠ 0 ∧ bitOf (word (2 ^ g.val)) j = true then armFlips j s else s) =
      if decide (j = g) = true then armFlips j s else s := by
    intro s j
    rw [hbit]
    by_cases hj : j = g
    · subst hj; simp [hg]
    · simp [hj]
  simp only [cmpFlipArm, State.over, hstep]
  rw [← List.foldl_filter, hone, List.foldl_cons, List.foldl_nil]

/-- Settles O24: the write reaches the layer's effect with layers, entries and guard as they were; the effect is a cancel, a post or both, in this order. -/
theorem flipRequestsQueueOrAreRefused : Obligations.FlipRequestsQueueOrAreRefused := by
  intro n i k w s r
  obtain ⟨hrws, hoff⟩ := lyrFlip_plain k
  have hgate := fun (v : Word) (h : s.accepts n i (R.LYR_FLIP k) v) => gateWrite_stored (lyrFlip k) h hoff hrws
  have hr : ∀ v : State, v.now = max s.now n → flipReq (putBit w 31 true) v.now = r := fun v hv => by rw [flipReq_putBit _ _ (by omega) (by omega), hv]; rfl
  have hb31 : bitOf (putBit w 31 true) 31 = true := bitOf_putBit_self _ _ (by omega)
  have hb30 : bitOf (putBit w 30 true) 30 = true := bitOf_putBit_self _ _ (by omega)
  have h3130 : bitOf (putBit w 31 true) 30 = bitOf w 30 := bitOf_putBit_of_ne _ _ (by omega) (by omega)
  have h3031 : bitOf (putBit w 30 true) 31 = bitOf w 31 := bitOf_putBit_of_ne _ _ (by omega) (by omega)
  have hbuf : r.buf % 256 = r.buf := Nat.mod_eq_of_lt (Nat.mod_lt _ (by decide))
  refine ⟨fun hacc hc hok hrel => ?_, fun hacc hc hpend hrel => ?_, fun hacc hc hbad => ?_, fun q hacc hc hpend hrel hq ht => ?_,
    fun q hacc hc hpend hrel hq ht hrr hst hraw => ?_, fun hacc hc hign => ?_, fun g hg hacc hidle hne => ?_⟩
  · obtain ⟨v, hw⟩ := hgate _ hacc
    have hx := flipBase_stored k n s v
    generalize (s.at n).busOk.wr (R.LYR_FLIP k) v = x at hw hx
    rw [lyrFlip_request hb31 (by rw [h3130, hx.cmp]; exact hc), hr x hx.now, postFlip_taken (by rw [hx.refusal, hok])] at hw
    obtain ⟨hp, h28, h16, h8⟩ := flipPosted_shows k r x
    simp only [hrel, Bool.false_eq_true, if_false, hbuf] at h8
    have hbufs : ∀ e, (flipPosted k r x).buf e = (setBufState r.buf .queued x).buf e := fun e => by rw [flipPosted_buf, hrel, if_neg Bool.false_ne_true]
    refine ⟨_, next_congr hw, hp, ?_, h28, h16, h8, fun e he => ?_, flipPosted_only (hx.only.mono (by simp) (by simp)) (by simp) (fun _ => by simp)⟩
    · rw [hbufs, setBufState_buf_self]
    · rw [hbufs, setBufState_buf_of_ne he, buf_congr hx.cmp]
  · obtain ⟨v, hw⟩ := hgate _ hacc
    have hx := flipBase_stored k n s v
    generalize (s.at n).busOk.wr (R.LYR_FLIP k) v = x at hw hx
    have hok : flipRefusal k r x = 0 := by
      rw [hx.refusal]
      simp only [Fin.getElem_fin] at hpend
      simp [flipRefusal, hpend, hrel]
    rw [lyrFlip_request hb31 (by rw [h3130, hx.cmp]; exact hc), hr x hx.now, postFlip_taken hok] at hw
    obtain ⟨hp, h28, h16, -⟩ := flipPosted_shows k r x
    refine ⟨_, next_congr hw, hp, ?_, h28, h16, flipPosted_only (hx.only.mono (by simp) (by simp)) (by simp) (fun h => by simp [h] at hrel)⟩
    rw [flipPosted_bufs hrel, hx.cmp]
  · obtain ⟨v, hw⟩ := hgate _ hacc
    have hx := flipBase_stored k n s v
    generalize (s.at n).busOk.wr (R.LYR_FLIP k) v = x at hw hx
    rw [lyrFlip_request hb31 (by rw [h3130, hx.cmp]; exact hc), hr x hx.now, postFlip_refused (by rw [hx.refusal]; exact hbad), hx.refusal] at hw
    have hlt : flipRefusal k r s < 16 := by rw [flipRefusal]; split_ifs <;> decide
    refine ⟨_, next_congr hw, ?_, by rw [State.irq_cmp, State.wf_cmp, hx.cmp], State.rb_irq_self (by omega), Only.irq (Only.wf (hx.only.mono (by simp) (by simp)) (by simp)) (by simp)⟩
    rw [State.rf_irq_of_ne (lyrFlipStat_ne_irq k), State.rf_wf_self (by omega) (by omega)]
    exact Nat.mod_eq_of_lt hlt
  · obtain ⟨v, hw⟩ := hgate _ hacc
    have hx := flipBase_stored k n s v
    generalize (s.at n).busOk.wr (R.LYR_FLIP k) v = x at hw hx
    have hpx : (x.cmp.lyr[k]).pend = some q := by rw [hx.cmp]; exact hpend
    have htx : x.now + x.guardNs ≠ x.nextTick := by rw [hx.now, hx.guardNs, hx.nextTick]; exact ht
    rw [lyrFlip_cancel (h3031.trans hc) hb30, cancelFlip_drops hpx htx] at hw
    obtain ⟨hp, hbufs, h28, h16⟩ := flipCancelled_shows hpx hrel
    refine ⟨_, next_congr hw, hp, ?_, h28, h16, flipCancelled_only hpx hrel (hx.only.mono (by simp) (by simp)) (by simp) (by simp) (by simp)⟩
    rw [hbufs, setBufState_buf_self, buf_congr hx.cmp]
  · obtain ⟨v, hw⟩ := hgate _ hacc
    have hx := flipBase_stored k n s v
    generalize (s.at n).busOk.wr (R.LYR_FLIP k) v = x at hw hx
    have hpx : (x.cmp.lyr[k]).pend = some q := by rw [hx.cmp]; exact hpend
    have htx : x.now + x.guardNs ≠ x.nextTick := by rw [hx.now, hx.guardNs, hx.nextTick]; exact ht
    rw [lyrFlip_both hb31 (h3130.trans hc) hpx htx, hr x hx.now] at hw
    obtain ⟨hp, hbufs, -, -⟩ := flipCancelled_shows hpx hrel
    have honly : Only [R.LYR_FLIP k, R.LYR_FLIP_STAT k, R.BUF_STATES (q.buf / 8), R.BUF_STATES (r.buf / 8), R.CMP_FLIPGRP_STAT] [] s
        (flipCancelled k x) :=
      flipCancelled_only hpx hrel (hx.only.mono (by simp) (by simp)) (by simp) (by simp) (by simp)
    generalize flipCancelled k x = y at hw hp hbufs honly
    have hstate : (y.buf r.buf).state = .swOwned ∧ (y.buf r.buf).fmt = (s.buf r.buf).fmt := by
      rw [hbufs]
      by_cases he : r.buf = q.buf
      · rw [he, setBufState_buf_self, buf_congr hx.cmp]; exact ⟨rfl, rfl⟩
      · rw [setBufState_buf_of_ne he, buf_congr hx.cmp]; exact ⟨hst.resolve_left he, rfl⟩
    have hmode : specialMode y = specialMode s := by
      have hf : y.rf R.SYS_MODE 3 0 = s.rf R.SYS_MODE 3 0 := honly.rf (by
        simp only [List.mem_cons, List.not_mem_nil, not_or, or_false, R.SYS_MODE, R.LYR_FLIP, R.LYR_FLIP_STAT, R.BUF_STATES, R.CMP_FLIPGRP_STAT]; omega)
      simp only [specialMode, hf]
    have hok : flipRefusal k r y = 0 := by
      simp only [Fin.getElem_fin] at hp
      rcases hraw with hraw | hraw <;> simp [flipRefusal, hp, hrr, hstate, hraw, hmode]
    rw [postFlip_taken hok] at hw
    obtain ⟨hp', h28, h16, -⟩ := flipPosted_shows k r y
    have hpb : ∀ e, (flipPosted k r y).buf e = (setBufState r.buf .queued y).buf e := fun e => by rw [flipPosted_buf, hrr, if_neg Bool.false_ne_true]
    refine ⟨_, next_congr hw, hp', ?_, fun hne => ?_, h28, h16, flipPosted_only honly (by simp) (fun _ => by simp)⟩
    · rw [hpb, setBufState_buf_self]
    · rw [hpb, setBufState_buf_of_ne hne, hbufs, setBufState_buf_self]
  · obtain ⟨v, hw⟩ := hgate _ hacc
    have hx := flipBase_stored k n s v
    generalize (s.at n).busOk.wr (R.LYR_FLIP k) v = x at hw hx
    obtain ⟨b, hb⟩ := cancelFlip_ignored (k := k) (s := x) (by rw [hx.evaluated, hx.now, hx.guardNs, hx.nextTick, hx.cmp]; exact hign)
    rw [lyrFlip_cancel (h3031.trans hc) hb30, hb] at hw
    exact ⟨_, next_congr hw, hx.cmp, hx.only⟩
  · obtain ⟨v, hw⟩ := gateWrite_stored cmpFlipArm hacc (by decide) (by decide +kernel)
    have honly := gateState_only (s := s) n R.CMP_FLIP_ARM v
    have hcmp : ((s.at n).busOk.wr R.CMP_FLIP_ARM v).cmp = s.cmp := rfl
    generalize (s.at n).busOk.wr R.CMP_FLIP_ARM v = x at hw honly hcmp
    have hms : groupMembers g x = groupMembers g s := by
      have hcfg : ∀ j : Fin 8, x.rf (R.LYR_CFG j) 12 10 = s.rf (R.LYR_CFG j) 12 10 := fun j =>
        honly.rf (by simp only [List.mem_singleton, R.LYR_CFG, R.CMP_FLIP_ARM]; omega)
      simp only [groupMembers, hcfg, hcmp]
    have harm : armFlips g x = (x.withCmp { x.cmp with arms := x.cmp.arms.set g (groupMembers g s) }).wb R.CMP_FLIPGRP_STAT g true := by
      rw [armFlips, if_neg (by rw [honly.rb (by decide), hidle]; decide), hms]
      exact if_neg (by simpa using hne)
    rw [cmpFlipArm_one g hg, harm] at hw
    refine ⟨_, next_congr hw, by simp, State.rb_wb_self (by omega), by simp [hcmp], Only.wb (honly.mono ?_ ?_).withCmp ?_⟩ <;> simp

end Sys2Proof.Machine
end

section
/-! PROOFS. The commands of the buffer table (R99, R100, R120). -/

namespace Sys2Proof.Machine

variable {l m : List Nat} {s t u : State} {i : Init} {n : Nat} {e : Nat} {r : Nat}

/-! ### A write of BUF_CMD -/

/-- A write of BUF_CMD before its effect leaves all that a command looks at. -/
structure BufBase (s x : State) : Prop where
  only : Only [R.BUF_CMD] [] s x
  cmp : x.cmp = s.cmp
  tick16 : x.tick16 = s.tick16

theorem BufBase.rd (h : BufBase s t) {a : Nat} (ha : a ≠ R.BUF_CMD) : t.rd a = s.rd a := h.only.regs a (by simpa using ha)

theorem BufBase.stagedEntry (h : BufBase s t) : stagedEntry t = stagedEntry s := by
  simp only [Machine.stagedEntry, State.rf, h.rd (show R.BUF_E_BASE ≠ R.BUF_CMD by decide), h.rd (show R.BUF_E_FMT ≠ R.BUF_CMD by decide),
    h.rd (show R.BUF_E_SIZE ≠ R.BUF_CMD by decide), h.rd (show R.BUF_E_STRIDE ≠ R.BUF_CMD by decide), h.tick16]

theorem BufBase.registerCheck (h : BufBase s t) (e : Nat) (x : BufEntry) : registerCheck e x t = registerCheck e x s := by
  simp only [Machine.registerCheck, buf_congr h.cmp, h.cmp]

theorem bufCmd_stored (c : Nat) (h : s.accepts n i R.BUF_CMD (word c)) :
    ∃ x, BufBase s x ∧ gateWrite i R.BUF_CMD (word c) bufCmd (s.at n) = bufCmd (s.rd R.BUF_CMD) (word c) x := by
  obtain ⟨v, hw⟩ := gateWrite_stored bufCmd h (by decide) (by decide +kernel)
  exact ⟨_, ⟨gateState_only n _ v, rfl, rfl⟩, hw⟩

/-- The operation and the entry that a command's word names. -/
theorem bufCmd_fields (x : Fin 256) (op : Nat) (h : op < 8) : bitsOf (word (256 * op + x)) 7 0 = x ∧ bitsOf (word (256 * op + x)) 10 8 = op := by
  constructor <;> simp only [bitsOf, word, BitVec.toNat_ofNat] <;> omega

theorem bufCmd_register (old : Word) (x : Fin 256) (s : State) : bufCmd old (word (256 + x)) s = bufRegister x s := by
  obtain ⟨hx, hop⟩ := bufCmd_fields x 1 (by decide)
  simp only [bufCmd, show 256 + x.val = 256 * 1 + x by rfl, hx, hop, if_true]

theorem bufCmd_unregister (old : Word) (x : Fin 256) (s : State) : bufCmd old (word (512 + x)) s = bufUnregister x s := by
  obtain ⟨hx, hop⟩ := bufCmd_fields x 2 (by decide)
  simp only [bufCmd, show 512 + x.val = 256 * 2 + x by rfl, hx, hop, show ¬ 2 = 1 by decide, if_false, if_true]

theorem bufCmd_read (old : Word) (x : Fin 256) (s : State) : bufCmd old (word (768 + x)) s = bufRead x s := by
  obtain ⟨hx, hop⟩ := bufCmd_fields x 3 (by decide)
  simp only [bufCmd, show 768 + x.val = 256 * 3 + x by rfl, hx, hop, show ¬ 3 = 1 by decide, show ¬ 3 = 2 by decide, if_false, if_true]

/-! ### A command's result -/

theorem bufResult_ok (s : State) : bufResult 0 s = s.wf R.BUF_CMD_STAT 3 0 0 := rfl

theorem bufResult_failed (h : r ≠ 0) (s : State) : bufResult r s = (s.wf R.BUF_CMD_STAT 3 0 r).irq P.BUF 2 := by
  rw [bufResult, State.irqIf, if_pos (bne_iff_ne.2 h)]

theorem bufResult_failed_shows (h : r ≠ 0) (h16 : r < 16) (s : State) : (bufResult r s).rf R.BUF_CMD_STAT 3 0 = r ∧
    (bufResult r s).rb (R.IRQ_STAT P.BUF) 2 = true ∧ (bufResult r s).cmp = s.cmp := by
  rw [bufResult_failed h]
  refine ⟨?_, State.rb_irq_self (by decide), by rw [State.irq_cmp, State.wf_cmp]⟩
  rw [State.rf_irq_of_ne (by decide), State.rf_wf_self (by decide) (by decide)]
  exact Nat.mod_eq_of_lt h16

theorem bufResult_failed_only (h : r ≠ 0) (ho : Only l m s t) (hs : R.BUF_CMD_STAT ∈ l) (hi : R.IRQ_STAT P.BUF ∈ l) : Only l m s (bufResult r t) := by
  rw [bufResult_failed h]
  exact Only.irq (Only.wf ho hs) hi

/-! ### An entry that is set with its state -/

/-- The entry `e` set to `x` and brought to the state `st` with success shown. -/
def bufSet (e : Nat) (x : BufEntry) (st : BufState) (s : State) : State := bufResult 0 (setBufState e st (s.setBuf e x))

theorem bufSet_shows (e : Nat) (x : BufEntry) (st : BufState) (s : State) : (bufSet e x st s).buf e = { x with state := st, tick := s.tick16 } ∧
    (bufSet e x st s).rf R.BUF_CMD_STAT 3 0 = 0 ∧ ∀ a, a ≠ e → (bufSet e x st s).buf a = s.buf a := by
  refine ⟨?_, State.rf_wf_self (by decide) (by decide), fun a ha => ?_⟩
  · rw [bufSet, bufResult_ok, State.wf_buf, setBufState_buf_self, State.buf_setBuf_self]
    rfl
  · rw [bufSet, bufResult_ok, State.wf_buf, setBufState_buf_of_ne ha, State.buf_setBuf_of_ne ha]

theorem bufSet_only {x : BufEntry} {st : BufState} (h : Only l m s t) (hs : R.BUF_CMD_STAT ∈ l) (he : R.BUF_STATES (e / 8) ∈ l) :
    Only l m s (bufSet e x st t) := Only.wf (setBufState_only (Only.record h) he) hs

theorem bufRegister_sound (h : registerCheck e (stagedEntry s) s = 0) : bufRegister e s = bufSet e (stagedEntry s) .swOwned s := by
  rw [bufRegister]; exact if_pos h

theorem bufRegister_fails (h : registerCheck e (stagedEntry s) s ≠ 0) : bufRegister e s = bufResult (registerCheck e (stagedEntry s) s) s := by
  rw [bufRegister]; exact if_neg h

theorem bufUnregister_owned (h : (s.buf e).state = .swOwned) : bufUnregister e s = bufSet e BufEntry.empty .free s := by
  rw [bufUnregister]; exact if_pos h

theorem bufUnregister_fails (h : (s.buf e).state ≠ .swOwned) : bufUnregister e s = bufResult 1 s := by
  rw [bufUnregister]; exact if_neg h

theorem registerCheck_lt (e : Nat) (x : BufEntry) (s : State) : registerCheck e x s < 16 := by
  rw [registerCheck]; split_ifs <;> decide

/-! ### READ -/

theorem bufRead_shows (e : Nat) (s : State) : (bufRead e s).rd R.BUF_E_BASE = word (s.buf e).base ∧
    (bufRead e s).rd R.BUF_E_STRIDE = word (s.buf e).stride ∧
    (bufRead e s).rd R.BUF_E_SIZE = word (((s.buf e).h - 1) * 65536 + ((s.buf e).w - 1)) ∧
    (bufRead e s).rd R.BUF_E_FMT = word ((s.buf e).owner * 256 + (s.buf e).fmt) ∧
    (bufRead e s).rd R.BUF_E_STATE = word ((s.buf e).tick * 65536 + (s.buf e).state.code) ∧
    (bufRead e s).rf R.BUF_CMD_STAT 3 0 = 0 := by
  simp only [bufRead, bufResult_ok]
  refine ⟨?_, ?_, ?_, ?_, ?_, State.rf_wf_self (by decide) (by decide)⟩ <;> rw [State.rd_wf_of_ne (by decide)]
  · rw [State.rd_wr_of_ne _ (by decide), State.rd_wr_of_ne _ (by decide), State.rd_wr_of_ne _ (by decide), State.rd_wr_of_ne _ (by decide), State.rd_wr_self]
  · rw [State.rd_wr_of_ne _ (by decide), State.rd_wr_of_ne _ (by decide), State.rd_wr_of_ne _ (by decide), State.rd_wr_self]
  · rw [State.rd_wr_of_ne _ (by decide), State.rd_wr_of_ne _ (by decide), State.rd_wr_self]
  · rw [State.rd_wr_of_ne _ (by decide), State.rd_wr_self]
  · rw [State.rd_wr_self]

theorem bufRead_cmp (e : Nat) (s : State) : (bufRead e s).cmp = s.cmp := by
  simp only [bufRead, bufResult_ok, State.wf_cmp, State.wr_cmp]

theorem bufRead_only (h : Only l m s t) (hl : ∀ a ∈ [R.BUF_CMD_STAT, R.BUF_E_BASE, R.BUF_E_STRIDE, R.BUF_E_SIZE, R.BUF_E_FMT, R.BUF_E_STATE], a ∈ l) :
    Only l m s (bufRead e t) := by
  simp only [List.forall_mem_cons, List.not_mem_nil, IsEmpty.forall_iff, implies_true, and_true] at hl
  obtain ⟨hst, hb, hstr, hsz, hf, hs⟩ := hl
  simp only [bufRead, bufResult_ok]
  exact Only.wf (((((h.wr hb).wr hstr).wr hsz).wr hf).wr hs) hst

/-- Settles O25: a command acts on the entries as they were, and the five outcomes are those of its operation. -/
theorem bufferTableFollowsItsCommands : Obligations.BufferTableFollowsItsCommands := by
  intro n i x s
  refine ⟨fun hacc hok => ?_, fun hacc hbad => ?_, fun hacc hst => ?_, fun hacc hst => ?_, fun hacc => ?_⟩ <;>
    obtain ⟨y, hy, hw⟩ := bufCmd_stored _ hacc
  · rw [bufCmd_register, bufRegister_sound (by rw [hy.stagedEntry, hy.registerCheck, hok]), hy.stagedEntry] at hw
    obtain ⟨he, hres, hother⟩ := bufSet_shows x (stagedEntry s) .swOwned y
    refine ⟨_, next_congr hw, by rw [he, hy.tick16], hres, fun e h => by rw [hother e h, buf_congr hy.cmp], bufSet_only (hy.only.mono ?_ ?_) ?_ ?_⟩ <;> simp
  · rw [bufCmd_register, bufRegister_fails (by rw [hy.stagedEntry, hy.registerCheck]; exact hbad), hy.stagedEntry, hy.registerCheck] at hw
    obtain ⟨hres, hirq, hcmp⟩ := bufResult_failed_shows hbad (registerCheck_lt ..) y
    refine ⟨_, next_congr hw, hcmp.trans hy.cmp, hres, hirq, bufResult_failed_only hbad (hy.only.mono ?_ ?_) ?_ ?_⟩ <;> simp
  · rw [bufCmd_unregister, bufUnregister_owned (by rw [buf_congr hy.cmp, hst])] at hw
    obtain ⟨he, hres, hother⟩ := bufSet_shows x BufEntry.empty .free y
    refine ⟨_, next_congr hw, by rw [he, hy.tick16], hres, fun e h => by rw [hother e h, buf_congr hy.cmp], bufSet_only (hy.only.mono ?_ ?_) ?_ ?_⟩ <;> simp
  · rw [bufCmd_unregister, bufUnregister_fails (by rw [buf_congr hy.cmp]; exact hst)] at hw
    obtain ⟨hres, hirq, hcmp⟩ := bufResult_failed_shows one_ne_zero (by decide) y
    refine ⟨_, next_congr hw, hcmp.trans hy.cmp, hres, hirq, bufResult_failed_only one_ne_zero (hy.only.mono ?_ ?_) ?_ ?_⟩ <;> simp
  · rw [bufCmd_read] at hw
    obtain ⟨hbase, hstr, hsize, hfmt, hstate, hres⟩ := bufRead_shows x y
    rw [buf_congr hy.cmp] at hbase hstr hsize hfmt hstate
    exact ⟨_, next_congr hw, hbase, hstr, hsize, hfmt, hstate, hres, (bufRead_cmp ..).trans hy.cmp, bufRead_only (hy.only.mono (by simp) (by simp)) (by simp)⟩

end Sys2Proof.Machine
end

section
/-! PROOFS. Statements that a concrete state refutes: the data mover. -/

namespace Sys2Proof.Machine

/-! ### An abort tells the interrupt controller -/

/-- A device whose SYS block asserts its interrupt request. -/
def sysAsserted : State := (State.reset.wr (R.IRQ_EN P.SYS) 1#32).wr (R.IRQ_STAT P.SYS) 1#32

/-- The abort of a channel samples the interrupt requests, and the source of SYS becomes pending. -/
theorem sysAsserted_abort : ∃ u, exec (.dmvAbort 0 .safe 0 0 0) sysAsserted = .next u ∧ u.rd (plicPendAddr 0) = 2#32 :=
  ⟨_, rfl, by decide +kernel⟩

/-- Refutes O23: DMV_ABORT makes the interrupt controller take the requests as they stand (R63), and the word that shows a source pending is a register
outside the channel's page that changes. -/
theorem not_moverPostsFillsAndHalts : ¬ Obligations.MoverPostsFillsAndHalts := by
  unfold Obligations.MoverPostsFillsAndHalts
  intro h
  obtain ⟨-, -, -, habort, -⟩ := h 0 .safe 0 0#32 sysAsserted
  obtain ⟨hidle, -⟩ := habort (by decide +kernel) rfl 0 0
  obtain ⟨u, hu, ⟨-, -, hother, -⟩, -⟩ := hidle (by decide +kernel)
  obtain ⟨hsame, -⟩ := hother (plicPendAddr 0) (by decide)
  obtain ⟨v, hv, hpending⟩ := sysAsserted_abort
  rw [hv] at hu
  cases hu
  rw [hpending] at hsame
  exact absurd hsame (by decide +kernel)

/-! ### A stale entry behind the end of the repair map -/

/-- An INSERT of the pixel (0, 0) of tile 0. -/
def firstPixel : RmapEdit := ⟨true, 0#32, 0#32, 0#32, false, false⟩

/-- A composed frame with an empty repair map, behind whose end memory holds an entry marked VALID, and one INSERT queued. -/
def staleBehindEnd : State :=
  { ((State.reset.wr R.PHO_RMAP_BASE 0x10000000#32).wr (R.CTRL P.PHO) 1#32).stB 0x10000013 0x80#8 with
    frm := { FrameSt.reset with kind := 1 }, pho := { PhoSt.reset with edits := [firstPixel] } }

theorem staleBehindEnd_length : ∃ u, exec (.rmapEditApply 0) staleBehindEnd = .next u ∧ (rmapEntries u).length = 2 :=
  ⟨_, rfl, by decide +kernel⟩

/-- Refutes O27: the entry stored at the map's end makes the stale entry behind it part of the map, so the map grows by two. -/
theorem not_repairMapAndThresholdCommands : ¬ Obligations.RepairMapAndThresholdCommands := by
  unfold Obligations.RepairMapAndThresholdCommands
  intro h
  obtain ⟨-, -, -, -, -, happly, -⟩ := h 0 .safe 0#32 staleBehindEnd
  obtain ⟨u, hu, -, hmap, -⟩ := happly firstPixel [] rfl (by decide +kernel) (by decide +kernel) (by decide +kernel) (by decide +kernel) (by decide +kernel) rfl
    (by decide +kernel) (by decide +kernel) (by decide +kernel)
  have hempty : rmapEntries staleBehindEnd = [] := by decide +kernel
  rw [hempty] at hmap
  obtain ⟨v, hv, htwo⟩ := staleBehindEnd_length
  rw [hv] at hu
  cases hu
  rw [hmap] at htwo
  exact absurd htwo (by decide +kernel)

/-! ### A restore from a journal transaction whose data are no bytes -/

/-- The header of a slot for slice 0 of tile 0, of one line. -/
def slotHead : List Nat := bytesLE 4 0x45534F44 ++ [0, 0, 1, 0] ++ List.replicate 52 0

/-- A slot whose first dose is given by a number above 255. -/
def wideSlot : List Nat := slotHead ++ bytesLE 4 (crc32c (slotHead ++ [300, 0])) ++ [300, 0]

/-- One driven tile of one pixel, whose slot 0 reads from a committed REDO transaction. -/
def wideRedo : State :=
  { ((State.reset.wr (R.WRP_GEOM 0) 0x10000000#32).wr R.SCN_ARR 0x100#32).wr (R.PHO_DOSE_BASE 0) 0x10000000#32 with
    nvm := { NvmSt.reset with redo := some ⟨3, false, 0, wideSlot, none, .none, 0, 2⟩ } }

/-- Refutes O28: memory holds bytes, and the statement admits a state whose open REDO transaction shows a number
that is no byte. -/
theorem not_doseSnapshotsRunSliceBySlice : ¬ Obligations.DoseSnapshotsRunSliceBySlice := by
  unfold Obligations.DoseSnapshotsRunSliceBySlice
  intro h
  obtain ⟨-, -, -, -, -, -, -, -, -, -, -, -, hrestore, -⟩ := h 0 .safe wideRedo
  obtain ⟨-, -, hgo⟩ := hrestore (by decide +kernel)
  obtain ⟨u, -, -, -, -, hbytes, -⟩ := hgo (by decide +kernel) (by decide +kernel) rfl (by decide +kernel)
  have hfirst := hbytes 0 (by decide +kernel) 0 (by decide) 0 (by decide +kernel)
  have hslot : bestSlot wideRedo 0 0 = some (0, 0) := by decide +kernel
  have hsee : wideRedo.see (0x20000000 + slotOfs wideRedo 0 0 + 64 + 0) = 300 := by decide +kernel
  have hbyte : u.ldN (sliceAddr wideRedo 0 0 + 0) < 256 := (u.ld _).isLt
  simp only [hslot, hsee] at hfirst
  omega

/-! ### A capture carries out what another operation has deferred -/

variable {l m : List Nat} {s t : State}

theorem showFb_only (h : Only l m s t) (ha : R.SCN_FB_STAT ∈ l) (hb : R.STATUS P.SCN ∈ l) : Only l m s (showFb t) := Only.wb (h.wr ha) hb

theorem fbStart_only {k : Fin 4} (h : Only l m s t) : Only l m s (fbStart k t) := h.setTile

/-- A look at the fallback loads changes what SCN_FB_STAT and STATUS show and no other register. -/
theorem fbChecks_only (h : Only l m s t) (ha : R.SCN_FB_STAT ∈ l) (hb : R.STATUS P.SCN ∈ l) : Only l m s (fbChecks t) := by
  rw [fbChecks]
  exact (h.over fun u k hu => by rw [fbCheck]; exact (showFb_only (fbStart_only hu) ha hb).ite hu).ite h

theorem readyWins_only (h : Only l m s t) : Only l m s (readyWins t) := h.record

/-- A loop in RUN whose ring capture writes into retention SRAM, while an event is deferred. -/
def capturing : State :=
  { ((State.reset.wr (R.STATUS (P.CTLK 0)) 1#32).wr (R.CTL_LOOP_CAP_CFG 0) 0x1000000#32).wr (R.CTL_LOOP_CAP_BASE 0) 0x200000#32 with
    ctl := { CtlSt.reset with loop := CtlSt.reset.loop.set 0 { LoopSt.reset with n := 1, armed := true } }
    flt := { FltSt.reset with due := [Src.ACCESS_VIOLATION] } }

theorem capturing_logs : ∃ u, exec (.loopSample 0 0 false) capturing = .next u ∧ u.rd R.FLT_LOG_WR = 257#32 := ⟨_, rfl, by decide +kernel⟩

/-- Refutes O42: the write of a capture raises what has been deferred before, and the collector logs it in its own registers. -/
theorem not_carriersConversionsAndSamples : ¬ Obligations.CarriersConversionsAndSamples := by
  unfold Obligations.CarriersConversionsAndSamples
  intro h
  obtain ⟨-, -, -, hsample⟩ := h 0 capturing
  obtain ⟨u, hu, -, -, -, hregs, -⟩ := hsample 0 (by decide +kernel) (by decide +kernel) (by decide +kernel)
  have hsame := hregs R.FLT_LOG_WR (by decide) (by decide) (by decide)
  obtain ⟨v, hv, hlogged⟩ := capturing_logs
  rw [hv] at hu
  cases hu
  have honly := fbChecks_only (l := [R.SCN_FB_STAT, R.STATUS P.SCN]) (readyWins_only (.refl _ [] u)) (by simp) (by simp)
  rw [honly.regs _ (by decide), hsame] at hlogged
  exact absurd hlogged (by decide +kernel)

end Sys2Proof.Machine
end

section
/-! PROOFS. Statements that a concrete state refutes: receivers, energy, power, time and network. -/

namespace Sys2Proof.Machine

/-! ### A chip reset while the clock lane stops -/

/-- An open frame of a receiver that has had no error. -/
def plainFrame : VinFrame := ⟨0#32, 0#32, 0, none, 0, 0, 0, 0, none, 0, false, false⟩

/-- Receiver 0 with an open frame, whose VIN_FRAME_ERR is configured at level 5; OTP lists a word beyond its last, so that the register that a chip reset
shows it in is STATUS of the receiver. -/
def frameOpen : State :=
  { (State.reset.wr (R.CTRL (P.VIN 0)) 1#32).wr (R.FLT_SRC_CFG (Src.VIN_FRAME_ERR 0)) 0x2d#32 with
    vin := { VinSt.reset with frames := VinSt.reset.frames.set 0 (some plainFrame) }
    nv := { NvSt.blank with otp := [((R.STATUS (P.VIN 0) - R.SEC_OTP 0) / 4, 0x10#32)] } }

theorem frameOpen_restarted : ∃ u, exec (.vinFrameStart 0 0 0 0 ⟨false, false, true⟩) frameOpen = .next u ∧ u.rb (R.STATUS (P.VIN 0)) 4 = true :=
  ⟨_, rfl, by decide +kernel⟩

/-- Refutes O43: the Frame Start drops the stream's open frame, whose error resets the chip; the receiver is off afterwards, so that the stop of its clock
lane no longer clears STATUS bit 4, which OTP has set. -/
theorem not_receiversAndLookTakeTheirEvents : ¬ Obligations.ReceiversAndLookTakeTheirEvents := by
  unfold Obligations.ReceiversAndLookTakeTheirEvents
  intro h
  obtain ⟨-, -, -, -, -, -, -, -, -, -, hstop, -⟩ := h 0 0 0 frameOpen
  obtain ⟨u, hu, hclear⟩ := hstop ⟨by decide +kernel, by decide +kernel⟩ 0 ⟨false, false, true⟩ rfl _ (.inl rfl)
  obtain ⟨v, hv, hset⟩ := frameOpen_restarted
  rw [hv] at hu
  cases hu
  exact absurd (hset.symm.trans hclear) (by decide)

end Sys2Proof.Machine
end

section
/-! PROOFS. Statements that a concrete state refutes: power, temperature, time and tokens. -/

namespace Sys2Proof.Machine

/-! ### The end of PWR_CMD wakes the APU -/

/-- A device with IDLE commanded and no hart running, whose PWR block requests an interrupt for a command's end, enabled for context 0. -/
def endWakes : State :=
  { ((State.reset.wr (R.IRQ_EN P.PWR) 2#32).wr (plicEnAddr 0 0) 0xFFFFFFFF#32).wr (plicPrioAddr 2) 1#32 with
    pwr := { PwrSt.reset with cmd := some 1 } }

theorem endWakes_runs : ∃ u, exec (.idleEntry 0 0) endWakes = .next u ∧ u.rf R.PWR_STAT 10 8 = 0 := ⟨_, rfl, by decide +kernel⟩

/-- Refutes O46: IDLE is entered with no wake pending and no interrupt for the APU, and the command's own end is an interrupt that ends it at once. -/
theorem not_powerStatesAreEnteredAndLeft : ¬ Obligations.PowerStatesAreEnteredAndLeft := by
  unfold Obligations.PowerStatesAreEnteredAndLeft
  intro h
  obtain ⟨-, hidle, -⟩ := h 0 .safe 0#32 0 endWakes
  obtain ⟨henter, -⟩ := hidle rfl (by decide +kernel)
  obtain ⟨u, hu, hstate, -⟩ := henter (by decide +kernel) (by decide +kernel)
  obtain ⟨v, hv, hrun⟩ := endWakes_runs
  rw [hv] at hu
  cases hu
  exact absurd (hrun.symm.trans hstate) (by decide)

/-! ### A chip reset while fail bits are cleared -/

/-- Tile sensor 0 has failed, die sensor 11 reads 110 °C, and THM_WARN is configured at level 5. -/
def hotDie : State :=
  (((State.reset.wr R.THM_TILE_FAIL 1#32).wr (R.CTRL P.THM) 1#32).wr (R.FLT_SRC_CFG Src.THM_WARN) 0x2d#32).setSensor 11
    fun x => { x with raw := some (110 * 256) }

theorem hotDie_restarts : ∃ u, exec (.sensorFailClear 0 .safe true 0#32) hotDie = .next u ∧ u.rb R.THM_TILE_FAIL 0 = false := ⟨_, rfl, by decide +kernel⟩

/-- Refutes O47: a write of THM_TILE_FAIL evaluates THM_TJ anew, and the chip reset that a warm die then calls for clears the register. -/
theorem not_thermalManagerActsByItsRules : ¬ Obligations.ThermalManagerActsByItsRules := by
  unfold Obligations.ThermalManagerActsByItsRules
  intro h
  obtain ⟨-, -, -, -, -, -, -, -, hkeep, -⟩ := h 0 hotDie
  obtain ⟨u, hu, hsame⟩ := hkeep .safe 0#32 (by decide +kernel) (by intro b _ hb; simp [bitOf] at hb)
  obtain ⟨v, hv, hlost⟩ := hotDie_restarts
  rw [hv] at hu
  cases hu
  exact absurd (hlost.symm.trans (hsame 0 (by decide))) (by decide +kernel)

/-! ### The audit log wraps while a difference is slewed out -/

/-- A lit device with a pending difference, whose audit log wraps with the next record; AUDIT_WRAP is configured at level 5. -/
def auditWraps : State :=
  ((((State.reset.wr (R.STATUS (P.SPLT 0)) 6#32).wr R.SYS_MODE 2#32).wr R.TIME_TGEN_STAT 0xa#32).wr R.SEC_AUDIT_SEQ 0x10001#32).wr
    (R.FLT_SRC_CFG Src.AUDIT_WRAP) 0x2d#32

theorem auditWraps_restarts : ∃ u, exec (.apply 0 .safe 0#32) auditWraps = .next u ∧ u.tim.slewAll = false := ⟨_, rfl, by decide +kernel⟩

/-- Refutes O48: APPLY records the step, and the chip reset that the wrap of the audit log calls for ends the slewing. -/
theorem not_servoAndTimestampsFollowTheirTables : ¬ Obligations.ServoAndTimestampsFollowTheirTables := by
  unfold Obligations.ServoAndTimestampsFollowTheirTables
  intro h
  obtain ⟨-, -, -, -, -, happly, -⟩ := h 0 .safe 0#32 auditWraps
  obtain ⟨-, -, hslew⟩ := happly (by decide +kernel)
  obtain ⟨u, hu, hall, -⟩ := hslew (by decide +kernel) (by decide +kernel)
  obtain ⟨v, hv, hnone⟩ := auditWraps_restarts
  rw [hv] at hu
  cases hu
  exact absurd (hnone.symm.trans hall) (by decide)

/-! ### A token that has expired, in a table that cannot be written -/

/-- An open session with five actions to be summarised. -/
def fiveSums : SessSt := ⟨none, none, none, [], [], none, 0, [], 0xFF, none, List.replicate 5 (3, 0, 1), none, none⟩

/-- Service entry 0 asks for the verdict on a command of session 0, whose token has expired and whose table lies in eMRAM; the audit queue has room for five
records. -/
def tableInNvm : State :=
  { (((((((((State.reset.wr R.SEC_SVC_BASE 0x10000000#32).wr R.NET_SESS_BASE 0x20000000#32).wr R.SEC_TIME_FLOOR_LO 1#32).stB 0x10000000 5#8).stB
      0x10000009 1#8).stB 0x1000000b 0x10#8).stB 0x1000000c 12#8).stB 0x10000103 2#8).stB 0x20000000 2#8).stB 0x20000018 2#8 with
    ses := { SesSt.reset with sess := [(0, fiveSums)] }
    sec := { SecSt.reset with audit := List.replicate 251 ⟨0, [], []⟩ } }

theorem tableInNvm_busy : (verdict 0 fiveSums (opOf (svcInput tableInNvm 0)) 0 (expireToken 0 (tableInNvm.at 0))).1 = 3 := by decide +kernel

/-- Refutes O52: the token's expiry writes the session's summaries, which fill the audit queue, but cannot take the rights from an entry in eMRAM; so the
rights cover the command and SAFE is BUSY. -/
theorem not_grantsServicesAndQuarantine : ¬ Obligations.GrantsServicesAndQuarantine := by
  unfold Obligations.GrantsServicesAndQuarantine
  intro h
  obtain ⟨-, -, -, -, -, -, -, -, -, -, hservice, -⟩ := h 0 tableInNvm
  obtain ⟨-, -, -, -, -, hverdict, -⟩ := hservice 0 (by decide +kernel)
  obtain ⟨-, -, hallow⟩ := hverdict fiveSums ⟨by decide +kernel, by decide +kernel⟩ (by decide +kernel)
  have hbusy := hallow (by decide +kernel) ⟨by decide +kernel, by decide +kernel, by decide +kernel⟩
  exact absurd (tableInNvm_busy.symm.trans hbusy) (by decide)

end Sys2Proof.Machine
end

section
/-! PROOFS. Bytes of a word, what the frame of an operation leaves of power and enables, and a bit that a loop of events leaves set. -/

namespace Sys2Proof.Machine

variable {l m : List Nat} {s t u : State} {i : Init} {a b c n p : Nat} {x : Bool} {w : Word}

/-! ### Bytes of numbers -/

theorem ofLE_bytesLE : ∀ n x : Nat, ofLE (bytesLE n x) = x % 256 ^ n
  | 0, x => by simp [bytesLE, ofLE, Nat.mod_one]
  | n + 1, x => by
    rw [bytesLE, ofLE, ofLE_bytesLE n, Nat.mod_mod, pow_succ', Nat.mod_mul]

@[simp] theorem length_bytesLE : ∀ n x : Nat, (bytesLE n x).length = n
  | 0, _ => rfl
  | n + 1, x => by rw [bytesLE, List.length_cons, length_bytesLE n]

@[simp] theorem word_toNat (w : Word) : word w.toNat = w := by simp [word]

/-- The bytes of a word spell it. -/
theorem word_ofLE_bytesLE (w : Word) : word (ofLE (bytesLE 4 w.toNat)) = w := by
  rw [ofLE_bytesLE, Nat.mod_eq_of_lt (by have := w.isLt; omega), word_toNat]

/-- A sum of powers of two with each power at most once has the bits that it is made of. -/
theorem testBit_sum_bits (f : Nat → Bool) (k : Nat) : ∀ n : Nat,
    ((List.range n).foldl (fun x g => x + 2 ^ g * bit (f g)) 0).testBit k = (decide (k < n) && f k) ∧
    (List.range n).foldl (fun x g => x + 2 ^ g * bit (f g)) 0 < 2 ^ n
  | 0 => by simp
  | n + 1 => by
    obtain ⟨hb, hlt⟩ := testBit_sum_bits f k n
    rw [List.range_succ, List.foldl_append, List.foldl_cons, List.foldl_nil]
    refine ⟨?_, ?_⟩
    · rw [Nat.add_comm, Nat.testBit_two_pow_mul_add _ hlt, hb]
      by_cases h : k < n
      · simp [h, Nat.lt_succ_of_lt h]
      · by_cases hk : k = n
        · subst hk; cases f k <;> simp [bit]
        · have h1 : ¬ k < n + 1 := by omega
          have h2 : (bit (f n)).testBit (k - n) = false := Nat.testBit_lt_two_pow (lt_of_lt_of_le (b := 2) (by cases f n <;> simp [bit])
            (Nat.le_self_pow (by omega) 2))
          simp [h, h1, h2]
    · rw [pow_succ]
      have : bit (f n) ≤ 1 := by cases f n <;> simp [bit]
      nlinarith [Nat.two_pow_pos n]

/-! ### Power and enables -/

theorem Only.pageOn (h : Only l m s t) (ha : R.PWR_DOMAIN_STAT ∉ l) : t.pageOn p = s.pageOn p := by
  simp only [State.pageOn, State.domainOn, State.domainPowered, h.rb ha]

theorem Only.en (h : Only l m s t) (ha : R.CTRL p ∉ l) : t.en p = s.en p := h.rb ha

/-! ### Events -/

/-- What holds before a fold and is kept by each step with a member of the list holds after it. -/
theorem State.over_induct_mem {α : Type} {q : State → Prop} {xs : List α} {f : State → α → State} (h : q s) (hf : ∀ u, ∀ x ∈ xs, q u → q (f u x)) :
    q (s.over xs f) := by
  induction xs generalizing s with
  | nil => exact h
  | cons x xs ih => exact ih (hf s x List.mem_cons_self h) fun u y hy => hf u y (List.mem_cons_of_mem _ hy)

/-- An event leaves a set bit set. -/
theorem State.rb_event_mono (hb : b < 32) (h : s.rb c n = true) : (s.event a b).rb c n = true := by
  by_cases hc : c = a
  · subst hc
    by_cases hn : n = b
    · subst hn; exact State.rb_event_self hb
    · rw [State.event, State.rb_wb_bit hb hn]; exact h
  · rw [State.rb, State.rd_event_of_ne hc]; exact h

theorem State.rb_irqIf_mono (hb : b < 32) (h : s.rb c n = true) : (s.irqIf x p b).rb c n = true := by
  rw [State.irqIf]
  split
  · exact State.rb_event_mono hb h
  · exact h

end Sys2Proof.Machine
end

section
/-! PROOFS. Doorbells and GPIO pins (R617, R618). -/

namespace Sys2Proof.Machine

variable {l m : List Nat} {s t u : State} {i : Init} {a g n lv : Nat} {w old v : Word} {hook : Word → Word → State → State}

/-! ### Doorbells -/

theorem bellSet_rd (a : Nat) (w : Word) (s : State) : (bellSet a w s).rd a = s.rd a ||| word (bitsOf w 15 0) := State.rd_wr_self ..

theorem noteMask_only {b : Nat} {k : Word} (h : Only l m s t) : Only l m s (t.noteMask b k) := h.upd rfl rfl rfl rfl rfl rfl

theorem bellSet_only (h : Only l m s t) (ha : a ∈ l) : Only l m s (bellSet a w t) := (noteMask_only h).orMask ha

theorem h2dSet_rd (s : State) : (h2dSet i old w s).rd R.HOST_H2D_STAT = s.rd R.HOST_H2D_STAT ||| word (bitsOf w 15 0) := by
  rw [h2dSet, State.irqIf]
  split
  · rw [State.rd_irq_of_ne (by decide), bellSet_rd]
  · exact bellSet_rd ..

theorem h2dSet_irq (s : State) (h : bitsOf w 15 0 ≠ 0) : (h2dSet .host old w s).rb (R.IRQ_STAT P.HOST) 0 = true := by
  rw [h2dSet, State.irqIf, if_pos (by simpa using h)]
  exact State.rb_irq_self (by decide)

/-- What a write of HOST_H2D_SET by the host leaves as it is. -/
theorem h2dSet_only (h : Only l m s t) (hs : R.HOST_H2D_STAT ∈ l) (hi : R.IRQ_STAT P.HOST ∈ l) : Only l m s (h2dSet i old w t) :=
  (bellSet_only h hs).irqIf hi

theorem hookOf_h2d : hookOf i R.HOST_H2D_SET = h2dSet i := by
  rw [hookOf, if_neg (by decide), if_neg (by decide), if_neg (by decide), if_neg (by decide), hookTop, if_pos rfl]

/-- The host's write of HOST_H2D_SET without a grant: no record is made, and the register's write is the whole of it (R617). -/
theorem hostWrite_h2d (hr : hostReady s = true) (hg : hostGranted s = false) :
    hostWrite R.HOST_H2D_SET w s =
      (let y := gateWrite .host R.HOST_H2D_SET w (h2dSet .host) s; if hostReady y then hostEnd 1 (if y.bus.err then 2 else 1) y else y) := by
  have hmay : hostMayWrite s R.HOST_H2D_SET w = true := by simp [hostMayWrite]
  have hbusy : hostBusy s R.HOST_H2D_SET = false := by simp [hostBusy, hg]
  have haudit : hostAudit R.HOST_H2D_SET w s = s := by simp [hostAudit, hg]
  have hstore : hostStore R.HOST_H2D_SET w s = gateWrite .host R.HOST_H2D_SET w (h2dSet .host) s := by
    rw [hostStore, if_neg (by decide), busWrite, regionOf_reg (by decide)]
    simp only
    rw [length_bytesLE, regAccess_word (by decide), word_ofLE_bytesLE, hookOf_h2d]
  rw [hostWrite, hr, hmay, hbusy, haudit, hstore]
  rfl

theorem hostEnd_status {op k : Nat} (hop : op < 256) (hk : k < 8) : (hostEnd op k s).rf R.HOST_LAST 10 8 = k := by
  have e : (hostEnd op k s).rd R.HOST_LAST = word (s.tick16 * 65536 + k * 256 + op) := by
    rw [hostEnd]; split <;> exact State.rd_wr_self ..
  rw [State.rf, e, bitsOf, word, BitVec.toNat_ofNat]
  omega

theorem hostEnd_only {op k : Nat} (h : Only l m s t) (hl : R.HOST_LAST ∈ l) (hm : R.STAT P.HOST 0 ∈ m) : Only l m s (hostEnd op k t) :=
  Only.ite ((h.wr hl).stAdd hm) ((h.wr hl).stAdd hm)

theorem h2dSet_bus : (h2dSet i old w s).bus = s.bus := by
  rw [h2dSet, State.irqIf]; split <;> rfl

theorem Only.hostReady (h : Only l m s t) (hd : R.PWR_DOMAIN_STAT ∉ l) (hc : R.CTRL P.HOST ∉ l) : hostReady t = hostReady s := by
  rw [Machine.hostReady, h.pageOn hd, h.en hc, Machine.hostReady]

/-! ### GPIO -/

theorem gpioLevels_only (h : Only l m s t) (hl : R.GPIO_IN ∈ l) (hi : R.IRQ_STAT P.GPIO ∈ l) : Only l m s (gpioLevels lv t) :=
  (h.wf hl).over fun _ _ h => h.irqIf hi

/-- GPIO_IN takes the levels. -/
theorem gpioLevels_rb (s : State) (hg : g < 16) : (gpioLevels lv s).rb R.GPIO_IN g = lv.testBit g := by
  have h : Only [R.IRQ_STAT P.GPIO] [] (s.wf R.GPIO_IN 15 0 lv) (gpioLevels lv s) := (Only.refl _ _ _).over fun _ _ h => h.irqIf (by simp)
  rw [h.rb (by decide), State.rb, State.rd_wf_self, bitOf, testBit_putBits _ _ _ (by omega) (by omega), if_pos (by omega), Nat.sub_zero]

/-- An enabled edge sets the pin's interrupt (R618). -/
theorem gpioLevels_irq (s : State) (hg : g < 16) (hne : s.rb R.GPIO_IN g ≠ lv.testBit g)
    (he : s.rb R.GPIO_EDGE (if lv.testBit g then g else 16 + g) = true) : (gpioLevels lv s).rb (R.IRQ_STAT P.GPIO) g = true := by
  have hold : (s.rf R.GPIO_IN 15 0).testBit g = s.rb R.GPIO_IN g := by
    rw [State.rf, State.rb, bitsOf, bitOf, Nat.testBit_mod_two_pow, Nat.testBit_div_two_pow]; simp [hg]
  obtain ⟨l1, l2, hl⟩ := List.append_of_mem (List.mem_range.2 hg)
  have hl2 : ∀ k ∈ l2, k < 16 := fun k hk => List.mem_range.1 (hl ▸ List.mem_append_right _ (List.mem_cons_of_mem _ hk))
  rw [gpioLevels, hl]
  simp only [State.over, List.foldl_append, List.foldl_cons]
  refine State.over_induct_mem (q := fun u => u.rb (R.IRQ_STAT P.GPIO) g = true) ?_ fun u k hk h =>
    State.rb_irqIf_mono (by have := hl2 k hk; omega) h
  · have h1 : Only [R.GPIO_IN, R.IRQ_STAT P.GPIO] [] s ((s.wf R.GPIO_IN 15 0 lv).over l1 fun u k =>
        u.irqIf ((!(s.rf R.GPIO_IN 15 0).testBit k && lv.testBit k && u.rb R.GPIO_EDGE k) ||
          ((s.rf R.GPIO_IN 15 0).testBit k && !lv.testBit k && u.rb R.GPIO_EDGE (16 + k))) P.GPIO k) :=
      ((Only.refl _ _ s).wf (by simp)).over fun _ _ h => h.irqIf (by simp)
    have hb : ∀ c, _ = s.rb R.GPIO_EDGE c := fun c => h1.rb (a := R.GPIO_EDGE) (by decide)
    rw [State.irqIf, if_pos]
    · exact State.rb_irq_self (by omega)
    · rw [hold]
      simp only [State.over] at hb
      rw [hb, hb]
      cases hv : lv.testBit g <;> simp_all

theorem gpioDriven_congr (h : Only [R.GPIO_IN, R.IRQ_STAT P.GPIO] [] s t) (g : Nat) : gpioDriven t g = gpioDriven s g := by
  simp only [gpioDriven, h.pageOn (by decide), h.en (p := P.GPIO) (by decide), h.rb (a := R.GPIO_DIR) (by decide), h.rb (a := R.GPIO_OD) (by decide),
    h.rb (a := R.GPIO_OUT) (by decide), tamperPin, h.nv]

/-- A driven pin reads back its output, any other its own level (R618). -/
theorem gpioShow_rb (s : State) (hg : g < 16) : (gpioShow s).rb R.GPIO_IN g = if gpioDriven s g then s.rb R.GPIO_OUT g else s.rb R.GPIO_IN g := by
  rw [gpioShow, gpioLevels_rb _ hg, (testBit_sum_bits (fun g => if gpioDriven s g then s.rb R.GPIO_OUT g else s.rb R.GPIO_IN g) g 16).1]
  simp [hg]

theorem gpioShow_only (h : Only l m s t) (hl : R.GPIO_IN ∈ l) (hi : R.IRQ_STAT P.GPIO ∈ l) : Only l m s (gpioShow t) := gpioLevels_only h hl hi

theorem gpioShow_driven (s : State) (hg : g < 16) (hd : gpioDriven (gpioShow s) g = true) : (gpioShow s).rb R.GPIO_IN g = (gpioShow s).rb R.GPIO_OUT g := by
  have h : Only [R.GPIO_IN, R.IRQ_STAT P.GPIO] [] s (gpioShow s) := gpioShow_only (.refl _ _ _) (by simp) (by simp)
  rw [gpioDriven_congr h] at hd
  rw [gpioShow_rb s hg, if_pos hd, h.rb (by decide)]

/-- What a write that merges bits into GPIO_OUT does: the register, the levels read back, and nothing else. -/
theorem gpioMerge_spec {k : Word} (h : Only [a] [] s t) :
    (gpioMerge old v k t).rd R.GPIO_OUT = (old &&& ~~~k) ||| (v &&& k) ∧
    (∀ g < 16, gpioDriven (gpioMerge old v k t) g = true → (gpioMerge old v k t).rb R.GPIO_IN g = (gpioMerge old v k t).rb R.GPIO_OUT g) ∧
    Only [a, R.GPIO_OUT, R.GPIO_IN, R.IRQ_STAT P.GPIO] [] s (gpioMerge old v k t) := by
  refine ⟨?_, fun g hg hd => gpioShow_driven _ hg hd, gpioShow_only ((h.mono (by simp) (by simp)).wr (by simp)) (by simp) (by simp)⟩
  have h : Only [R.GPIO_IN, R.IRQ_STAT P.GPIO] [] (t.wr R.GPIO_OUT ((old &&& ~~~k) ||| (v &&& k))) (gpioMerge old v k t) :=
    gpioShow_only (.refl _ _ _) (by simp) (by simp)
  rw [h.regs _ (by decide), State.rd_wr_self]

theorem word_low16 (w : Word) : word (bitsOf w 15 0) = w &&& 0xFFFF#32 := by
  have h : bitsOf w 15 0 = w.toNat &&& 0xFFFF := by rw [bitsOf, Nat.pow_zero, Nat.div_one]; exact (Nat.and_two_pow_sub_one_eq_mod _ 16).symm
  rw [h, word]; apply BitVec.eq_of_toNat_eq; simp

theorem merge_same (x k : Word) : (x &&& ~~~k) ||| (k &&& k) = x ||| k := by
  apply BitVec.eq_of_getElem_eq; intro j hj
  cases h : k[j] <;> simp [h]

theorem merge_zero (x k : Word) : (x &&& ~~~(k &&& ~~~0#32)) ||| (0#32 &&& (k &&& ~~~0#32)) = x &&& ~~~k := by
  rw [BitVec.not_zero, BitVec.and_allOnes, BitVec.zero_and, BitVec.or_zero]

/-- Settles O60: the hooks of the doorbells and of GPIO_SET and GPIO_CLR on the stored state, and an edge as the levels of GPIO_IN. -/
theorem doorbellsAndPinsFollow : Obligations.DoorbellsAndPinsFollow := by
  intro n i w s
  have hx : ∀ a x, Only [a] [] s ((s.at n).busOk.wr a x) := fun a x => gateState_only n a x
  refine ⟨fun hr hacc hg => ?_, fun hacc => ?_, fun hacc => ?_, fun hacc hev => ?_, fun g level hd hp => ?_⟩
  · obtain ⟨x, hx'⟩ := gateWrite_stored (h2dSet .host) hacc (by decide) (by decide)
    have ho := hx R.HOST_H2D_SET x
    refine ⟨_, next_congr (hostWrite_h2d hr hg), ?_⟩
    rw [hx']
    have hy : Only [R.HOST_H2D_SET, R.HOST_H2D_STAT, R.IRQ_STAT P.HOST, R.HOST_LAST] [R.STAT P.HOST 0] s
        (h2dSet .host (s.rd R.HOST_H2D_SET) w ((s.at n).busOk.wr R.HOST_H2D_SET x)) := h2dSet_only (ho.mono (by simp) (by simp)) (by simp) (by simp)
    have hb : (h2dSet .host (s.rd R.HOST_H2D_SET) w ((s.at n).busOk.wr R.HOST_H2D_SET x)).bus.err = false := by rw [h2dSet_bus]; rfl
    have hrd := h2dSet_rd (i := .host) (old := s.rd R.HOST_H2D_SET) (w := w) ((s.at n).busOk.wr R.HOST_H2D_SET x)
    have hirq := h2dSet_irq (old := s.rd R.HOST_H2D_SET) (w := w) ((s.at n).busOk.wr R.HOST_H2D_SET x)
    rw [ho.regs _ (by decide)] at hrd
    generalize h2dSet .host (s.rd R.HOST_H2D_SET) w ((s.at n).busOk.wr R.HOST_H2D_SET x) = y at hy hb hrd hirq ⊢
    have he : Only [R.HOST_LAST] [R.STAT P.HOST 0] y (hostEnd 1 1 y) := hostEnd_only (.refl _ _ _) (by simp) (by simp)
    simp only [hy.hostReady (by decide) (by decide), hr, hb, if_true, Bool.false_eq_true, if_false]
    refine ⟨(he.regs _ (by decide)).trans hrd, fun h => (he.rb (by decide)).trans (hirq h), hostEnd_status (by decide) (by decide),
      hostEnd_only hy (by simp) (by simp)⟩
  · obtain ⟨x, hx'⟩ := gateWrite_stored d2hSet hacc (by decide) (by decide)
    have ho := hx R.HOST_D2H_SET x
    refine ⟨_, next_congr hx', ?_, bellSet_only (ho.mono (by simp) (by simp)) (by simp)⟩
    rw [d2hSet, bellSet_rd, ho.regs _ (by decide)]
  · obtain ⟨x, hx'⟩ := gateWrite_stored gpioSet hacc (by decide) (by decide)
    have ho := hx R.GPIO_SET x
    obtain ⟨h1, h2, h3⟩ := gpioMerge_spec (old := ((s.at n).busOk.wr R.GPIO_SET x).rd R.GPIO_OUT) (v := w &&& 0xFFFF#32) (k := w &&& 0xFFFF#32)
      (noteMask_only (b := R.GPIO_SET) (k := w &&& 0xFFFF#32) ho)
    refine ⟨_, next_congr hx', h1.trans ?_, h2, h3⟩
    rw [ho.regs _ (by decide), word_low16, merge_same]
  · obtain ⟨x, hx'⟩ := gateWrite_stored gpioClr hacc (by decide) (by decide)
    have ho := hx R.GPIO_CLR x
    obtain ⟨h1, h2, h3⟩ := gpioMerge_spec (old := ((s.at n).busOk.wr R.GPIO_CLR x).rd R.GPIO_OUT) (v := 0#32)
      (k := w &&& 0xFFFF#32 &&& ~~~((s.at n).busOk.wr R.GPIO_CLR x).evtBits R.GPIO_SET) (noteMask_only (b := R.GPIO_CLR) (k := w &&& 0xFFFF#32) ho)
    refine ⟨_, next_congr hx', h1.trans ?_, h2, h3⟩
    have he : ((s.at n).busOk.wr R.GPIO_CLR x).evtBits R.GPIO_SET = 0#32 := hev
    rw [ho.regs _ (by decide), he, merge_zero]
  · have hs : gpioEdge g level (s.at n) = gpioLevels (bitsOf (putBit (s.rd R.GPIO_IN) g level) 15 0) (s.at n) := by
      rw [gpioEdge, if_neg (by simpa using ⟨hd, hp⟩)]; rfl
    have hb : ∀ h < 16, (bitsOf (putBit (s.rd R.GPIO_IN) g level) 15 0).testBit h = bitOf (putBit (s.rd R.GPIO_IN) g level) h := by
      intro h hh
      rw [bitsOf, bitOf, Nat.testBit_mod_two_pow, Nat.testBit_div_two_pow]; simp [hh]
    have hg := hb g g.isLt
    rw [bitOf_putBit_self _ _ (by omega)] at hg
    refine ⟨_, next_congr hs, ?_, fun h hne => ?_, fun hne he => ?_, gpioLevels_only ((Only.refl _ _ s).at) (by simp) (by simp)⟩
    · rw [gpioLevels_rb _ g.isLt, hg]
    · rw [gpioLevels_rb _ h.isLt, hb h h.isLt, bitOf_putBit_of_ne _ _ (by omega) (by omega)]; rfl
    · refine gpioLevels_irq _ g.isLt ?_ ?_
      · rw [hg]; exact hne
      · rw [hg]; exact he

end Sys2Proof.Machine
end

section
/-! PROOFS. What a store of bytes leaves as it is, and the commands of the flash (R557 to R561). -/

namespace Sys2Proof.Machine

variable {l m : List Nat} {s t u : State} {i : Init} {a b c n o r len : Nat} {w old : Word} {d : List Nat}

/-! ### A store of bytes -/

/-- The state with its memory and the marks of its words replaced. -/
def State.withMem (s : State) (x : List Host.Cell) (ue ce : List Nat) : State := { s with mem := x, ue := ue, ce := ce }

theorem stBytes_eq (d : List Nat) : ∀ (s : State) (a : Nat), s.stBytes a d = s.withMem (s.stBytes a d).mem s.ue s.ce := by
  induction d with
  | nil => intros; rfl
  | cons x d ih => intro s a; exact ih (s.stB a (BitVec.ofNat 8 x)) (a + 1)

theorem put_eq (s : State) (a : Nat) (d : List Nat) : s.put a d = s.withMem (s.put a d).mem (s.put a d).ue (s.put a d).ce := by
  rw [State.put, State.clearErr, stBytes_eq]; rfl

@[simp] theorem put_regs : (s.put a d).regs = s.regs := by rw [put_eq]; rfl
@[simp] theorem put_shadow : (s.put a d).shadow = s.shadow := by rw [put_eq]; rfl
@[simp] theorem put_stat : (s.put a d).stat = s.stat := by rw [put_eq]; rfl
@[simp] theorem put_nv : (s.put a d).nv = s.nv := by rw [put_eq]; rfl
@[simp] theorem put_pending : (s.put a d).pending = s.pending := by rw [put_eq]; rfl
@[simp] theorem put_now : (s.put a d).now = s.now := by rw [put_eq]; rfl
@[simp] theorem put_tickNum : (s.put a d).tickNum = s.tickNum := by rw [put_eq]; rfl
@[simp] theorem put_bus : (s.put a d).bus = s.bus := by rw [put_eq]; rfl
@[simp] theorem put_nvm : (s.put a d).nvm = s.nvm := by rw [put_eq]; rfl
@[simp] theorem put_flash : (s.put a d).flash = s.flash := by rw [put_eq]; rfl
@[simp] theorem put_rd : (s.put a d).rd b = s.rd b := by rw [put_eq]; rfl
@[simp] theorem put_st : (s.put a d).st b = s.st b := by rw [put_eq]; rfl
@[simp] theorem put_rf {hi lo : Nat} : (s.put a d).rf b hi lo = s.rf b hi lo := by rw [put_eq]; rfl
@[simp] theorem put_rb : (s.put a d).rb b c = s.rb b c := by rw [put_eq]; rfl

theorem put_ld_of_ne (h : b < a ∨ a + d.length ≤ b) : (s.put a d).ld b = s.ld b := by
  rcases h with h | h
  · exact ld_stBytes_of_lt d s a b h
  · exact ld_stBytes_of_ge d s a b h

theorem put_ld_self {k : Nat} (h : k < d.length) : (s.put a d).ld (a + k) = BitVec.ofNat 8 d[k] := ld_stBytes_self d s a k h

theorem put_ldN_self {k : Nat} (h : k < d.length) : (s.put a d).ldN (a + k) = d[k] % 256 := by
  rw [State.ldN, put_ld_self h, BitVec.toNat_ofNat]

/-! ### What the checks of a command read -/

theorem ldBytes_congr (h : ∀ a, t.ld a = s.ld a) : ∀ (n a : Nat), t.ldBytes a n = s.ldBytes a n
  | 0, _ => rfl
  | n + 1, a => by rw [State.ldBytes, State.ldBytes, ldBytes_congr h n, State.ldN, State.ldN, h]

theorem ldLE_congr (h : ∀ a, t.ld a = s.ld a) : t.ldLE a n = s.ldLE a n := by rw [State.ldLE, ldBytes_congr h, State.ldLE]

theorem Only.flashDir (h : Only l m s t) : flashDir t = flashDir s := by
  have hp : (fun d => crc32c (t.ldBytes d 256) == t.ldLE (d + 256) 4) = fun d => crc32c (s.ldBytes d 256) == s.ldLE (d + 256) 4 := by
    funext d; rw [ldBytes_congr h.mem, ldLE_congr h.mem]
  rw [Machine.flashDir, hp, Machine.flashDir]

theorem Only.mainSlot {k : Nat} (h : Only l m s t) : mainSlot t k = mainSlot s k := by
  rw [Machine.mainSlot, Machine.mainSlot, flashEntry, flashEntry, h.flashDir]
  split
  · rw [ldLE_congr h.mem, ldLE_congr h.mem]
  · rfl

theorem xspiProt_ne (k : Nat) :
    R.XSPI_PROT_SIZE k ≠ R.XSPI_CMD ∧ R.XSPI_PROT_BASE k ≠ R.XSPI_CMD ∧ R.XSPI_PROT_WR k ≠ R.XSPI_CMD := by
  simp only [R.XSPI_PROT_SIZE, R.XSPI_PROT_BASE, R.XSPI_PROT_WR, R.XSPI_CMD]; omega

theorem Only.xspiDenied (h : Only [R.XSPI_CMD] m s t) : xspiDenied t i o n = xspiDenied s i o n := by
  have hk := fun k => xspiProt_ne k
  simp only [Machine.xspiDenied, h.rf (a := R.XSPI_PROT_SIZE _) (by simp [hk]), h.rf (a := R.XSPI_PROT_BASE _) (by simp [hk]),
    h.rb (a := R.XSPI_PROT_WR _) (by simp [hk])]

/-! ### A command's start -/

theorem xspiResult_ended (h : Only [R.XSPI_CMD] [] s t) (hf : t.flash = s.flash) (hr : r < 16) (h0 : r ≠ 0) :
    (xspiResult r t).flash = s.flash ∧ (xspiResult r t).rf R.XSPI_STAT 3 0 = r ∧ (xspiResult r t).rb (R.IRQ_STAT P.XSPI) 1 = true ∧
      Only [R.XSPI_CMD, R.XSPI_STAT, R.IRQ_STAT P.XSPI] [] s (xspiResult r t) := by
  have hc : (r != 0) = true := by simpa using h0
  rw [xspiResult, State.irqIf, if_pos hc]
  refine ⟨hf, ?_, State.rb_irq_self (by decide), Only.irq (Only.wf (h.mono (by simp) (by simp)) (by simp)) (by simp)⟩
  rw [State.rf_irq_of_ne (by decide), State.rf_wf_self (by decide) (by decide)]
  omega

/-- The state in which a flash operation has begun. -/
def flashRun (op : FlashOp) (s : State) : State := (({ s with flash := some op } : State).wb R.XSPI_STAT 8 true).wb (R.STATUS P.XSPI) 0 true

theorem flashRun_ran {op : FlashOp} (h : Only [R.XSPI_CMD] [] s t) :
    (flashRun op t).flash = some op ∧ (flashRun op t).rb R.XSPI_STAT 8 = true ∧ (flashRun op t).rb (R.STATUS P.XSPI) 0 = true ∧
      Only [R.XSPI_CMD, R.XSPI_STAT, R.STATUS P.XSPI] [] s (flashRun op t) := by
  refine ⟨rfl, ?_, State.rb_wb_self (by decide), Only.wb (Only.wb (h.mono (by simp) (by simp)).record (by simp)) (by simp)⟩
  rw [flashRun, State.rb_wb_of_ne (by decide), State.rb_wb_self (by decide)]

/-- The number of bytes of a flash command (R558). -/
abbrev flashLen (op len : Nat) : Nat := if op = 1 then 4096 else if op = 2 then 65536 else len

/-- A flash command is malformed (R558). -/
abbrev flashBad (w : Word) (s : State) : Bool :=
  let op := bitsOf w 2 0; let o := s.rf R.XSPI_ADDR 28 0; let len := s.rf R.XSPI_LEN 8 0; let src := (s.rd R.XSPI_SRC).toNat
  op == 0 || decide (3 < op) || decide (flashSize s < o + flashLen op len) ||
    (if op = 3 then o % 8 != 0 || decide (len < 8) || decide (256 < len) || decide (256 < o % 256 + len) || !(regionOf src == .main || regionOf src == .ret)
      else o % flashLen op len != 0)

/-- A flash command meets a protected range or the running MAIN slot (R558). -/
abbrev flashProt (i : Init) (w : Word) (s : State) : Bool :=
  let n := flashLen (bitsOf w 2 0) (s.rf R.XSPI_LEN 8 0); let o := s.rf R.XSPI_ADDR 28 0; let m := mainSlot s (s.rf R.SEC_BOOT_STAT 0 0)
  xspiDenied s i o n || (i != .safe && i != .boot && m.2 != 0 && rangesMeet o n m.1 m.2)

theorem xspiCmd_eq (hw : bitOf w 31 = true) (he : s.en P.XSPI = true) :
    xspiCmd i old w s =
      if s.flash.isSome then xspiResult 1 s else if flashBad w s then xspiResult 5 s else if flashProt i w s then xspiResult 2 s
      else flashRun ⟨bitsOf w 2 0 != 3, s.rf R.XSPI_ADDR 28 0, flashLen (bitsOf w 2 0) (s.rf R.XSPI_LEN 8 0),
        if bitsOf w 2 0 = 3 then s.ldBytes (s.rd R.XSPI_SRC).toNat (s.rf R.XSPI_LEN 8 0) else []⟩ s := by
  simp only [xspiCmd, hw, he, flashRun, flashBad, flashProt, flashLen, Bool.not_true, Bool.or_false, Bool.false_eq_true, if_false]

theorem flashSize_congr (h : Only [R.XSPI_CMD] m s t) : flashSize t = flashSize s := by simp only [flashSize, h.rf (a := R.XSPI_SIZE) (by decide)]

theorem flashBad_congr (h : Only [R.XSPI_CMD] m s t) : flashBad w t = flashBad w s := by
  simp only [flashBad, flashSize_congr h, h.rf (a := R.XSPI_ADDR) (by decide), h.rf (a := R.XSPI_LEN) (by decide), h.regs R.XSPI_SRC (by decide)]

theorem flashProt_congr (h : Only [R.XSPI_CMD] m s t) : flashProt i w t = flashProt i w s := by
  simp only [flashProt, h.xspiDenied, h.mainSlot, h.rf (a := R.XSPI_ADDR) (by decide), h.rf (a := R.XSPI_LEN) (by decide),
    h.rf (a := R.SEC_BOOT_STAT) (by decide)]

/-- A range that no protection denies and that misses the running MAIN slot, or is SAFE's or the boot ROM's (R558). -/
theorem flashProt_clear {m : Nat × Nat} (hm : mainSlot s (s.rf R.SEC_BOOT_STAT 0 0) = m) {k : Nat}
    (hk : flashLen (bitsOf w 2 0) (s.rf R.XSPI_LEN 8 0) = k) (hd : xspiDenied s i (s.rf R.XSPI_ADDR 28 0) k = false)
    (h : i = .safe ∨ i = .boot ∨ m.2 = 0 ∨ s.rf R.XSPI_ADDR 28 0 + k ≤ m.1 ∨ m.1 + m.2 ≤ s.rf R.XSPI_ADDR 28 0) : flashProt i w s = false := by
  simp only [flashProt, hm, hk, hd, Bool.false_or, rangesMeet]
  rcases h with h | h | h | h | h <;> simp [h]

section
variable (hacc : s.accepts n i R.XSPI_CMD w) (hw : bitOf w 31 = true) (he : s.en P.XSPI = true)
include hacc hw he

/-- An accepted write of XSPI_CMD with GO to an enabled controller: the checks as they stand before the write, each with its outcome. -/
theorem xspiCmd_write : ∃ t, Only [R.XSPI_CMD] [] s t ∧ t.flash = s.flash ∧ gateWrite i R.XSPI_CMD w (xspiCmd i) (s.at n) =
    if s.flash.isSome then xspiResult 1 t else if flashBad w s then xspiResult 5 t else if flashProt i w s then xspiResult 2 t
    else flashRun ⟨bitsOf w 2 0 != 3, s.rf R.XSPI_ADDR 28 0, flashLen (bitsOf w 2 0) (s.rf R.XSPI_LEN 8 0),
      if bitsOf w 2 0 = 3 then s.ldBytes (s.rd R.XSPI_SRC).toNat (s.rf R.XSPI_LEN 8 0) else []⟩ t := by
  obtain ⟨x, hx⟩ := gateWrite_stored (xspiCmd i) hacc (by decide) (by decide)
  have ho : Only [R.XSPI_CMD] [] s ((s.at n).busOk.wr R.XSPI_CMD x) := gateState_only ..
  have hf : ((s.at n).busOk.wr R.XSPI_CMD x).flash = s.flash := rfl
  rw [hx]
  generalize (s.at n).busOk.wr R.XSPI_CMD x = t at ho hf ⊢
  refine ⟨t, ho, hf, ?_⟩
  rw [xspiCmd_eq hw ((ho.en (by decide)).trans he), flashBad_congr ho, flashProt_congr ho, hf, ho.rf (a := R.XSPI_ADDR) (by decide),
    ho.rf (a := R.XSPI_LEN) (by decide), ho.regs R.XSPI_SRC (by decide), ldBytes_congr ho.mem]

/-- An operation that meets another ends with BUSY (R558). -/
theorem xspi_busy (hf : s.flash.isSome = true) : ∃ u, gateWrite i R.XSPI_CMD w (xspiCmd i) (s.at n) = u ∧ u.flash = s.flash ∧
    u.rf R.XSPI_STAT 3 0 = 1 ∧ u.rb (R.IRQ_STAT P.XSPI) 1 = true ∧ Only [R.XSPI_CMD, R.XSPI_STAT, R.IRQ_STAT P.XSPI] [] s u := by
  obtain ⟨t, ho, ht, e⟩ := xspiCmd_write hacc hw he
  rw [e, if_pos hf]
  exact ⟨_, rfl, xspiResult_ended ho ht (by omega) (by omega)⟩

/-- A malformed operation ends with BAD (R558). -/
theorem xspi_bad (hf : s.flash = none) (hb : flashBad w s = true) : ∃ u, gateWrite i R.XSPI_CMD w (xspiCmd i) (s.at n) = u ∧ u.flash = s.flash ∧
    u.rf R.XSPI_STAT 3 0 = 5 ∧ u.rb (R.IRQ_STAT P.XSPI) 1 = true ∧ Only [R.XSPI_CMD, R.XSPI_STAT, R.IRQ_STAT P.XSPI] [] s u := by
  obtain ⟨t, ho, ht, e⟩ := xspiCmd_write hacc hw he
  rw [e, if_neg (by simp [hf]), if_pos hb]
  exact ⟨_, rfl, xspiResult_ended ho ht (by omega) (by omega)⟩

/-- An operation on a protected range ends with PROT (R558). -/
theorem xspi_prot (hf : s.flash = none) (hb : flashBad w s = false) (hp : flashProt i w s = true) :
    ∃ u, gateWrite i R.XSPI_CMD w (xspiCmd i) (s.at n) = u ∧ u.flash = s.flash ∧
    u.rf R.XSPI_STAT 3 0 = 2 ∧ u.rb (R.IRQ_STAT P.XSPI) 1 = true ∧ Only [R.XSPI_CMD, R.XSPI_STAT, R.IRQ_STAT P.XSPI] [] s u := by
  obtain ⟨t, ho, ht, e⟩ := xspiCmd_write hacc hw he
  rw [e, if_neg (by simp [hf]), if_neg (by simp [hb]), if_pos hp]
  exact ⟨_, rfl, xspiResult_ended ho ht (by omega) (by omega)⟩

/-- An operation that passes its checks begins (R558, R561). -/
theorem xspi_runs {op : FlashOp} (hf : s.flash = none) (hb : flashBad w s = false) (hp : flashProt i w s = false)
    (hop : op = ⟨bitsOf w 2 0 != 3, s.rf R.XSPI_ADDR 28 0, flashLen (bitsOf w 2 0) (s.rf R.XSPI_LEN 8 0),
      if bitsOf w 2 0 = 3 then s.ldBytes (s.rd R.XSPI_SRC).toNat (s.rf R.XSPI_LEN 8 0) else []⟩) :
    ∃ u, gateWrite i R.XSPI_CMD w (xspiCmd i) (s.at n) = u ∧ u.flash = some op ∧
    u.rb R.XSPI_STAT 8 = true ∧ u.rb (R.STATUS P.XSPI) 0 = true ∧ Only [R.XSPI_CMD, R.XSPI_STAT, R.STATUS P.XSPI] [] s u := by
  obtain ⟨t, ho, ht, e⟩ := xspiCmd_write hacc hw he
  rw [e, if_neg (by simp [hf]), if_neg (by simp [hb]), if_neg (by simp [hp])]
  exact ⟨_, rfl, hop ▸ flashRun_ran ho⟩

end

/-! ### A command's end -/

/-- The flash operation is over, with its result shown. -/
def flashOver (r : Nat) (s : State) : State :=
  (((({ s with flash := none } : State).wb R.XSPI_STAT 8 false).wb (R.STATUS P.XSPI) 0 false).wf R.XSPI_STAT 3 0 r).irq P.XSPI 0

theorem flashOver_spec (hr : r < 16) : (flashOver r s).flash = none ∧ (flashOver r s).rf R.XSPI_STAT 3 0 = r ∧ (flashOver r s).rb R.XSPI_STAT 8 = false ∧
    (flashOver r s).rb (R.IRQ_STAT P.XSPI) 0 = true ∧ Only [R.XSPI_STAT, R.STATUS P.XSPI, R.IRQ_STAT P.XSPI] [] s (flashOver r s) := by
  refine ⟨rfl, ?_, ?_, State.rb_irq_self (by decide), ?_⟩
  · rw [flashOver, State.rf_irq_of_ne (by decide), State.rf_wf_self (by decide) (by decide)]; omega
  · rw [flashOver, State.rb_irq_of_ne (by decide), State.rb_wf_disjoint (by decide) (by decide) (by decide), State.rb_wb_of_ne (by decide),
      State.rb_wb_self (by decide)]
  · exact Only.irq (Only.wf (Only.wb (Only.wb (Only.refl _ _ s).record (by simp)) (by simp)) (by simp)) (by simp)

/-- What a finished operation leaves in its range (R558). -/
abbrev flashDone (f : FlashOp) (s : State) : State :=
  s.put (0x60000000 + f.ofs) (if f.erase then List.replicate f.len 0xFF else (f.data.zipIdx).map fun p => p.1 &&& s.ldN (0x60000000 + f.ofs + p.2))

/-- What a failed operation leaves in its range: free bytes. -/
abbrev flashFree (f : FlashOp) (s : State) : State :=
  s.over (List.range f.len) fun s k => let (v, s) := s.fresh; s.put (0x60000000 + f.ofs + k) [v % 256]

theorem xspiDone_ok {f : FlashOp} (hf : s.flash = some f) : xspiDone 0 s = flashOver 0 (flashDone f s) := by
  rw [xspiDone, hf]; simp only [flashOver, flashDone, if_true]

theorem xspiDone_timeout {f : FlashOp} (hf : s.flash = some f) (he : f.erase = true) :
    xspiDone 3 s = raise Src.XSPI_ERR ((flashOver 3 (flashFree f s)).irq P.XSPI 1) := by
  rw [xspiDone, hf]; simp [flashOver, flashFree, he, raiseIf]

theorem flashFree_spec (f : FlashOp) (s : State) :
    (flashFree f s).regs = s.regs ∧ ∀ a, a < 0x60000000 + f.ofs ∨ 0x60000000 + f.ofs + f.len ≤ a → (flashFree f s).ld a = s.ld a := by
  refine State.over_induct_mem (q := fun u => u.regs = s.regs ∧ ∀ a, a < 0x60000000 + f.ofs ∨ 0x60000000 + f.ofs + f.len ≤ a → u.ld a = s.ld a)
    ⟨rfl, fun _ _ => rfl⟩ fun u k hk ⟨h1, h2⟩ => ⟨?_, fun a ha => ?_⟩
  · simpa [State.fresh] using h1
  · have hk := List.mem_range.1 hk
    refine (put_ld_of_ne ?_).trans (h2 a ha)
    simp only [List.length_singleton]; omega

theorem flashBad_op1 (h : bitsOf w 2 0 = 1) : flashBad w s =
    (decide (flashSize s < s.rf R.XSPI_ADDR 28 0 + 4096) || s.rf R.XSPI_ADDR 28 0 % 4096 != 0) := by
  simp [flashBad, flashLen, h]

theorem flashBad_op2 (h : bitsOf w 2 0 = 2) : flashBad w s =
    (decide (flashSize s < s.rf R.XSPI_ADDR 28 0 + 65536) || s.rf R.XSPI_ADDR 28 0 % 65536 != 0) := by
  simp [flashBad, flashLen, h]

theorem flashBad_op3 (h : bitsOf w 2 0 = 3) : flashBad w s =
    (decide (flashSize s < s.rf R.XSPI_ADDR 28 0 + s.rf R.XSPI_LEN 8 0) || (s.rf R.XSPI_ADDR 28 0 % 8 != 0 || decide (s.rf R.XSPI_LEN 8 0 < 8) ||
      decide (256 < s.rf R.XSPI_LEN 8 0) || decide (256 < s.rf R.XSPI_ADDR 28 0 % 256 + s.rf R.XSPI_LEN 8 0) ||
      !(regionOf (s.rd R.XSPI_SRC).toNat == .main || regionOf (s.rd R.XSPI_SRC).toNat == .ret))) := by
  simp [flashBad, flashLen, h]

/-- Settles O58: each start by the check that decides it, each end by what it stores. -/
theorem flashErasesAndPrograms : Obligations.FlashErasesAndPrograms := by
  intro n i s o len src m clear ran ended
  have hop1 : bitsOf (word (2 ^ 31 + 1)) 2 0 = 1 := by decide
  have hop2 : bitsOf (word (2 ^ 31 + 2)) 2 0 = 2 := by decide
  have hop3 : bitsOf (word (2 ^ 31 + 3)) 2 0 = 3 := by decide
  refine ⟨fun hacc he => ⟨fun hf => ?_, fun hf hb => ?_, fun hf h1 h2 hd => ?_, fun hf h1 h2 hc => ?_⟩, fun hacc he hf h1 h2 hc => ?_,
    fun hacc he hf h1 h2 h3 h4 h5 h6 hc => ?_, fun f hf he hlt => ⟨?_, ?_⟩, fun f hf he hlen hb => ?_, fun hf => ?_⟩
  · obtain ⟨u, e, hu⟩ := xspi_busy hacc (by decide) he hf
    exact ⟨u, next_congr e, by simpa [ended] using hu⟩
  · obtain ⟨u, e, hu⟩ := xspi_bad hacc (by decide) he hf (by rw [flashBad_op1 hop1]; simpa using hb)
    exact ⟨u, next_congr e, hu⟩
  · obtain ⟨u, e, hu⟩ := xspi_prot hacc (by decide) he hf (by rw [flashBad_op1 hop1]; simpa using ⟨h1, h2⟩) (by rw [flashProt, Bool.or_eq_true]; exact .inl hd)
    exact ⟨u, next_congr e, hu⟩
  · obtain ⟨u, e, hu⟩ := xspi_runs hacc (by decide) he hf (by rw [flashBad_op1 hop1]; simpa using ⟨h1, h2⟩) (flashProt_clear (m := m) rfl (by rw [flashLen, if_pos hop1]) hc.1 hc.2)
      (op := ⟨true, o, 4096, []⟩) (by rw [flashLen, if_pos hop1, if_neg (by rw [hop1]; decide), hop1]; rfl)
    exact ⟨u, next_congr e, hu⟩
  · obtain ⟨u, e, hu⟩ := xspi_runs hacc (by decide) he hf (by rw [flashBad_op2 hop2]; simpa using ⟨h1, h2⟩) (flashProt_clear (m := m) rfl (by rw [flashLen, if_neg (by rw [hop2]; decide), if_pos hop2]) hc.1 hc.2)
      (op := ⟨true, o, 65536, []⟩) (by rw [flashLen, if_neg (by rw [hop2]; decide), if_pos hop2, if_neg (by rw [hop2]; decide), hop2]; rfl)
    exact ⟨u, next_congr e, hu⟩
  · obtain ⟨u, e, hu⟩ := xspi_runs hacc (by decide) he hf (by rw [flashBad_op3 hop3]; simp only [Bool.or_eq_false_iff, decide_eq_false_iff_not, bne_eq_false_iff_eq, Bool.not_eq_false', Bool.or_eq_true, beq_iff_eq, not_lt]; exact ⟨h1, ⟨⟨⟨h2, h3⟩, h4⟩, h5⟩, h6⟩) (flashProt_clear (m := m) rfl (by rw [flashLen, if_neg (by rw [hop3]; decide), if_neg (by rw [hop3]; decide)]) hc.1 hc.2)
      (op := ⟨false, o, len, s.ldBytes src len⟩) (by rw [flashLen, if_neg (by rw [hop3]; decide), if_neg (by rw [hop3]; decide), if_pos hop3, hop3]; rfl)
    exact ⟨u, next_congr e, hu⟩
  · obtain ⟨h1, h2, h3, h4, h5⟩ := flashOver_spec (r := 0) (s := flashDone f (s.at n)) (by omega)
    refine ⟨_, next_congr (xspiDone_ok (s := s.at n) hf), h1, h2, h3, h4, fun k hk => ?_, fun a ha => ?_, fun a ha => ?_⟩
    · rw [State.ldN, h5.mem, flashDone, if_pos he, put_ld_self (by simpa using hk)]; simp
    · rw [h5.mem, flashDone, if_pos he, put_ld_of_ne (by simpa using ha)]; rfl
    · rw [h5.regs a ha, flashDone, put_rd]; rfl
  · obtain ⟨h1, h2, h3, h4, h5⟩ := flashOver_spec (r := 3) (s := flashFree f (s.at n)) (by omega)
    obtain ⟨g1, g2⟩ := flashFree_spec f (s.at n)
    have h6 : Only [R.XSPI_STAT, R.STATUS P.XSPI, R.IRQ_STAT P.XSPI] [] (flashFree f (s.at n)) ((flashOver 3 (flashFree f (s.at n))).irq P.XSPI 1) :=
      h5.irq (by simp)
    refine ⟨_, next_congr (xspiDone_timeout (s := s.at n) hf he), h1, ?_, fun a ha => ?_, fun a ha => ?_⟩
    · rw [State.rf_irq_of_ne (by decide), h2]
    · rw [h6.mem, g2 a ha]; rfl
    · rw [h6.regs a ha, State.rd, g1]; rfl
  · obtain ⟨h1, h2, h3, h4, h5⟩ := flashOver_spec (r := 0) (s := flashDone f (s.at n)) (by omega)
    refine ⟨_, next_congr (xspiDone_ok (s := s.at n) hf), h1, h2, fun k hk => ?_, fun a ha => ?_⟩
    · rw [State.ldN, h5.mem, flashDone, if_neg (by simp [he]), put_ld_self (by simpa [hlen] using hk)]
      have hk' : k < f.data.length := hlen ▸ hk
      have e : f.data[k] % 256 = f.data[k] := Nat.mod_eq_of_lt (hb _ (List.getElem_mem hk'))
      simp [List.getD_eq_getElem?_getD, hk', State.ldN, e]
    · rw [h5.mem, flashDone, if_neg (by simp [he]), put_ld_of_ne (by simpa [hlen] using ha)]; rfl
  · refine ⟨((s.at n).busErr).irq P.XSPI 1, ?_, rfl, State.rb_irq_self (by decide), Only.irq (Only.busErr (Only.at (.refl _ _ _))) (by simp)⟩
    exact next_congr (if_pos hf)

end Sys2Proof.Machine
end

section
/-! PROOFS. Transactions of the eMRAM journal (R546 to R552): submitting, opening, committing, sealing, and the write window. -/

namespace Sys2Proof.Machine

variable {l m : List Nat} {s t u : State} {i : Init} {a b c n o r hi lo v : Nat} {w old : Word} {d : List Nat} {x y : Tx} {direct : Bool}

/-! ### Registers outside the page of the memory controller -/

/-- From `s` to `u` no register outside the page of the memory controller changes. -/
def OffNvm (s u : State) : Prop := ∀ a, pageOf a ≠ P.NVM → u.rd a = s.rd a

theorem OffNvm.refl (s : State) : OffNvm s s := fun _ _ => rfl

theorem OffNvm.wr (h : OffNvm s t) (ha : pageOf a = P.NVM) : OffNvm s (t.wr a w) := fun b hb =>
  (State.rd_wr_of_ne t (by rintro rfl; exact hb ha) w).trans (h b hb)

theorem OffNvm.wf (h : OffNvm s t) (ha : pageOf a = P.NVM) : OffNvm s (t.wf a hi lo v) := h.wr ha

theorem OffNvm.wb {z : Bool} (h : OffNvm s t) (ha : pageOf a = P.NVM) : OffNvm s (t.wb a n z) := h.wr ha

theorem OffNvm.irq (h : OffNvm s t) : OffNvm s (t.irq P.NVM n) := OffNvm.wr (t := t.note _ _) h (by decide)

theorem OffNvm.irqIf {z : Bool} (h : OffNvm s t) : OffNvm s (t.irqIf z P.NVM n) := by
  rw [State.irqIf]; split
  · exact h.irq
  · exact h

theorem OffNvm.put (h : OffNvm s t) : OffNvm s (t.put a d) := fun b hb => put_rd.trans (h b hb)

theorem OffNvm.of_regs (h : OffNvm s t) (e : u.regs = t.regs) : OffNvm s u := fun b hb => by rw [State.rd, e]; exact h b hb

theorem OffNvm.over {α : Type} {xs : List α} {f : State → α → State} (h : OffNvm s t) (hf : ∀ u x, OffNvm s u → OffNvm s (f u x)) :
    OffNvm s (t.over xs f) := State.over_induct h hf

/-! ### What the controller's own writes keep -/

/-- A register that the controller's own writes of eMRAM leave: not the ring's head and no region's wear. -/
def JrnQuiet (a : Nat) : Prop := a ≠ R.NVM_JRN_HEAD ∧ ∀ r : Fin 16, a ≠ R.NVM_REGION_WEAR r

theorem page_wear (r : Fin 16) : pageOf (R.NVM_REGION_WEAR r) = P.NVM := by simp only [pageOf, R.NVM_REGION_WEAR, P.NVM]; omega

theorem jrnQuiet_of_page (h : pageOf a ≠ P.NVM) : JrnQuiet a :=
  ⟨by rintro rfl; exact h (by decide), by rintro r rfl; exact h (page_wear r)⟩

/-- The controller's own writes from `s` to `u`: memory changes in `p` alone, of the registers the ring's head and the regions' wear alone, and no
transaction. -/
structure JrnFrame (p : Nat → Prop) (s u : State) : Prop where
  regs : ∀ a, JrnQuiet a → u.rd a = s.rd a
  mem : ∀ a, ¬ p a → u.ld a = s.ld a
  nvm : u.nvm = s.nvm

variable {p q : Nat → Prop}

theorem JrnFrame.refl (p : Nat → Prop) (s : State) : JrnFrame p s s := ⟨fun _ _ => rfl, fun _ _ => rfl, rfl⟩

theorem JrnFrame.trans (h : JrnFrame p s t) (g : JrnFrame p t u) : JrnFrame p s u :=
  ⟨fun a x => (g.regs a x).trans (h.regs a x), fun a x => (g.mem a x).trans (h.mem a x), g.nvm.trans h.nvm⟩

theorem JrnFrame.mono (h : JrnFrame p s t) (hp : ∀ a, p a → q a) : JrnFrame q s t := ⟨h.regs, fun a x => h.mem a fun y => x (hp a y), h.nvm⟩

theorem JrnFrame.off (h : JrnFrame p s t) : OffNvm s t := fun a ha => h.regs a (jrnQuiet_of_page ha)

theorem JrnFrame.over {α : Type} {xs : List α} {f : State → α → State} (hf : ∀ u x, JrnFrame p u (f u x)) : JrnFrame p s (s.over xs f) :=
  State.over_induct (JrnFrame.refl p s) fun u x h => h.trans (hf u x)

theorem wear_frame (p : Nat → Prop) (o n : Nat) (s : State) : JrnFrame p s (wear o n s) := by
  rw [wear]
  split
  · exact ⟨fun _ _ => rfl, fun _ _ => rfl, rfl⟩
  · rename_i r _
    exact ⟨fun a ha => State.rd_wr_of_ne _ (ha.2 r) _, fun _ _ => rfl, rfl⟩

theorem put_frame (a : Nat) (d : List Nat) (s : State) : JrnFrame (fun b => a ≤ b ∧ b < a + d.length) s (s.put a d) :=
  ⟨fun _ _ => put_rd, fun b hb => put_ld_of_ne (by omega), put_nvm⟩

theorem nvPut_frame (o : Nat) (d : List Nat) (s : State) :
    JrnFrame (fun b => 0x20000000 + o ≤ b ∧ b < 0x20000000 + o + d.length) s (nvPut o d s) :=
  (put_frame _ d s).trans (wear_frame _ _ _ _)

theorem nvPut_ld_self {k : Nat} (h : k < d.length) : (nvPut o d s).ld (0x20000000 + o + k) = BitVec.ofNat 8 d[k] := by
  rw [nvPut, (wear_frame (fun _ => False) _ _ _).mem _ id, put_ld_self h]

/-! ### The ring -/

theorem rd_base_nvPut {r : Fin 16} : (nvPut o d s).rd (R.NVM_REGION_BASE r) = s.rd (R.NVM_REGION_BASE r) := by
  refine (nvPut_frame o d s).regs _ ⟨?_, fun r => ?_⟩ <;> simp only [R.NVM_REGION_BASE, R.NVM_JRN_HEAD, R.NVM_REGION_WEAR] <;> omega

/-- A record of the journal is written into the JOURNAL region, where it fits (R548). -/
theorem jrnAppend_frame {rec : List Nat} (hl : rec.length ≤ jrnSize s) :
    JrnFrame (fun b => 0x20000000 + jrnBase s ≤ b ∧ b < 0x20000000 + jrnBase s + jrnSize s) s (jrnAppend rec s) := by
  have hwr : ∀ (t : State) (w : Word), JrnFrame (fun b => 0x20000000 + jrnBase s ≤ b ∧ b < 0x20000000 + jrnBase s + jrnSize s) t (t.wr R.NVM_JRN_HEAD w) :=
    fun t w => ⟨fun a ha => State.rd_wr_of_ne _ ha.1 _, fun _ _ => rfl, rfl⟩
  have h16 : (jrnRecord 5 8 s.nv.txn []).length = 16 := by simp [jrnRecord]
  rw [jrnAppend]
  by_cases hw : jrnSize s < s.rf R.NVM_JRN_HEAD 17 0 + rec.length
  · by_cases h2 : s.rf R.NVM_JRN_HEAD 17 0 + 16 ≤ jrnSize s
    · simp only [hw, h2, decide_true, Bool.and_self, if_true]
      have hb : jrnBase (nvPut (jrnBase s + s.rf R.NVM_JRN_HEAD 17 0) (jrnRecord 5 8 s.nv.txn []) s) = jrnBase s :=
        congrArg BitVec.toNat (rd_base_nvPut (r := 3))
      rw [hb]
      exact ((nvPut_frame _ _ _).mono fun b hb => by rw [h16] at hb; omega).trans (((nvPut_frame _ _ _).mono fun b hb => by omega).trans (hwr _ _))
    · simp only [hw, h2, decide_true, decide_false, Bool.and_false, Bool.false_eq_true, if_false, if_true]
      exact ((nvPut_frame _ _ _).mono fun b hb => by omega).trans (hwr _ _)
  · simp only [hw, decide_false, Bool.false_and, Bool.false_eq_true, if_false]
    exact ((nvPut_frame _ _ _).mono fun b hb => by omega).trans (hwr _ _)

/-- Appending a record changes no transaction and no register but the ring's head and the regions' wear. -/
theorem jrnAppend_quiet (rec : List Nat) (s : State) : JrnFrame (fun _ => True) s (jrnAppend rec s) := by
  have hn : ∀ o d t, JrnFrame (fun _ => True) t (nvPut o d t) := fun o d t => (nvPut_frame o d t).mono fun _ _ => trivial
  have hwr : ∀ (t : State) (w : Word), JrnFrame (fun _ => True) t (t.wr R.NVM_JRN_HEAD w) :=
    fun t w => ⟨fun a ha => State.rd_wr_of_ne _ ha.1 _, fun _ h => absurd trivial h, rfl⟩
  rw [jrnAppend]
  refine JrnFrame.trans ?_ ((hn _ _ _).trans (hwr _ _))
  split
  · exact hn _ _ _
  · exact .refl _ _

/-! ### What is shown -/

/-- The registers that show the journal. -/
abbrev showRegs : List Nat := [R.NVM_JRN_TAIL, R.NVM_JRN_OPEN, R.NVM_TX_STAT]

theorem jrnShow_only (h : Only l m s t) (h1 : R.NVM_JRN_TAIL ∈ l) (h2 : R.NVM_JRN_OPEN ∈ l) (h3 : R.NVM_TX_STAT ∈ l) : Only l m s (jrnShow t) := by
  rw [jrnShow]
  split <;> exact ((h.wr h1).wr h2).wf h3

@[simp] theorem jrnShow_nvm : (jrnShow s).nvm = s.nvm := by rw [jrnShow]; split <;> rfl

@[simp] theorem jrnShow_pho : (jrnShow s).pho = s.pho := by rw [jrnShow]; split <;> rfl

theorem txTell_only {k r : Nat} (h : Only l m s t) (h3 : R.NVM_TX_STAT ∈ l) : Only l m s (txTell x k r t) := ((h.wf h3).wf h3).ite h

@[simp] theorem txTell_nvm {k r : Nat} : (txTell x k r s).nvm = s.nvm := by rw [txTell]; split <;> rfl

@[simp] theorem txTell_pho {k r : Nat} : (txTell x k r s).pho = s.pho := by rw [txTell]; split <;> rfl

theorem Only.offNvm (h : Only l m s t) (hl : ∀ a ∈ l, pageOf a = P.NVM) : OffNvm s t := fun a ha => h.regs a fun hc => ha (hl a hc)

theorem OffNvm.trans (h : OffNvm s t) (g : OffNvm t u) : OffNvm s u := fun a ha => (g a ha).trans (h a ha)

theorem jrnShow_off : OffNvm s (jrnShow s) := (jrnShow_only (l := showRegs) (m := []) (.refl _ _ _) (by simp) (by simp) (by simp)).offNvm (by decide)

theorem txTell_off {k r : Nat} : OffNvm s (txTell x k r s) := (txTell_only (l := showRegs) (m := []) (.refl _ _ _) (by simp)).offNvm (by decide)

theorem setOpen_off {z : Option Tx} : OffNvm s (setOpen direct z s) := by rw [setOpen]; split <;> exact .refl _

theorem openTx_setOpen {z : Option Tx} : openTx direct (setOpen direct z s) = z := by cases direct <;> rfl

theorem openTx_congr (h : t.nvm = s.nvm) : openTx direct t = openTx direct s := by rw [openTx, h, openTx]

theorem setOpen_queue {z : Option Tx} : (setOpen direct z s).nvm.queue = s.nvm.queue := by cases direct <;> rfl

/-! ### The seal -/

theorem length_seal (x : Tx) (k : Nat) : (jrnRecord 4 x.owner x.txn (k :: List.replicate 15 0)).length = 32 := by simp [jrnRecord]

/-- The state with `nvm` replaced. -/
def State.withNvm (s : State) (y : NvmSt) : State := { s with nvm := y }

@[simp] theorem State.withNvm_nvm (y : NvmSt) : (s.withNvm y).nvm = y := rfl
@[simp] theorem State.withNvm_rd (y : NvmSt) : (s.withNvm y).rd a = s.rd a := rfl
@[simp] theorem State.withNvm_ld (y : NvmSt) : (s.withNvm y).ld a = s.ld a := rfl

/-- The SEAL of a transaction. -/
abbrev sealRecord (x : Tx) (k : Nat) : List Nat := jrnRecord 4 x.owner x.txn (k :: List.replicate 15 0)

theorem txSeal_eq (x : Tx) (k : Nat) (s : State) : txSeal x k s =
    jrnShow ((jrnAppend (sealRecord x k) s).withNvm { (jrnAppend (sealRecord x k) s).nvm with
      starts := (jrnAppend (sealRecord x k) s).nvm.starts.filter fun p => p.1 != x.txn }) := by
  unfold txSeal State.withNvm; rfl

/-- A SEAL ends its transaction in the ring and touches no other (R548). -/
theorem txSeal_nvm (x : Tx) (k : Nat) (s : State) :
    (txSeal x k s).nvm = { s.nvm with starts := s.nvm.starts.filter fun p => p.1 != x.txn } := by
  rw [txSeal_eq, jrnShow_nvm, State.withNvm_nvm, (jrnAppend_quiet _ s).nvm]

theorem txSeal_off (x : Tx) (k : Nat) (s : State) : OffNvm s (txSeal x k s) := by
  intro a ha
  rw [txSeal_eq, jrnShow_off a ha, State.withNvm_rd, (jrnAppend_quiet _ s).off a ha]

theorem jrnShow_ld : (jrnShow s).ld a = s.ld a := (jrnShow_only (l := showRegs) (m := []) (.refl _ _ _) (by simp) (by simp) (by simp)).mem a

theorem txSeal_ld (x : Tx) (k : Nat) (s : State) (h : 32 ≤ jrnSize s) (ha : a < 0x20000000 + jrnBase s ∨ 0x20000000 + jrnBase s + jrnSize s ≤ a) :
    (txSeal x k s).ld a = s.ld a := by
  rw [txSeal_eq, jrnShow_ld, State.withNvm_ld]
  exact (jrnAppend_frame (by rw [length_seal]; exact h)).mem a (by omega)

/-! ### Submitting -/

/-- The state in which a transaction waits, and the next has its number. -/
def txQueued (x : Tx) (s : State) : State := { s with nvm := { s.nvm with queue := s.nvm.queue ++ [x] }, nv := { s.nv with txn := s.nv.txn + 1 } }

theorem txSubmit_eq (owner : Nat) (direct : Bool) (target : Nat) (data : List Nat) (act : Option (Nat × Nat)) (upd : NvUpd) (s : State) :
    txSubmit owner direct target data act upd s =
      (let x : Tx := ⟨owner, direct, target, data, act, upd, s.nv.txn, 0⟩
       if txRefusal x s ≠ 0 then (txRefusal x s, s) else (0, jrnShow (txQueued x s))) := rfl

theorem Only.txRefusal (h : Only [R.NVM_TX_CMD] m s t) (hn : t.nvm = s.nvm) (x : Tx) : txRefusal x t = txRefusal x s := by
  have hne : ∀ r, R.NVM_REGION_BASE r ∉ [R.NVM_TX_CMD] ∧ R.NVM_REGION_SIZE r ∉ [R.NVM_TX_CMD] ∧ R.NVM_REGION_WR r ∉ [R.NVM_TX_CMD] := by
    intro r; simp only [List.mem_singleton, R.NVM_REGION_BASE, R.NVM_REGION_SIZE, R.NVM_REGION_WR, R.NVM_TX_CMD]; omega
  have hb := fun r => h.regs _ (hne r).1
  have hs := fun r => h.regs _ (hne r).2.1
  have hw := fun r o => h.rb (c := o) (hne r).2.2
  have hi : ∀ r o, inRegion t r o = inRegion s r o := fun r o => by rw [inRegion, inRegion, hb, hs]
  simp only [Machine.txRefusal, regionFor, writesDir, hi, hb, hs, hw, hn, h.nv]
  rfl

/-- A software transaction is malformed (R546). -/
abbrev txBad (w : Word) (s : State) : Bool :=
  let src := (s.rd R.NVM_TX_SRC).toNat; let n := s.rf R.NVM_TX_LEN 23 0; let dst := s.rf R.NVM_TX_DST 23 0; let aa := s.rf R.NVM_TX_ACT_ADDR 23 0
  n % 8 != 0 || n == 0 || src % 8 != 0 || dst % 8 != 0 || (bitOf w 2 && aa % 8 != 0) ||
    !((regionOf src == .main || regionOf src == .ret) && regionOf (src + n - 1) == regionOf src)

/-- A refused software transaction shows its reason. -/
def txRefused (r : Nat) (s : State) : State := (s.wf R.NVM_TX_STAT 7 4 0).wf R.NVM_TX_STAT 3 0 r

/-- A queued software transaction shows its number. -/
def txAccepted (txn : Nat) (s : State) : State := ((s.wf R.NVM_TX_STAT 31 16 txn).wf R.NVM_TX_STAT 7 4 1).wf R.NVM_TX_STAT 3 0 0

theorem nvmTxCmd_bad (hw : bitOf w 31 = true) (hb : txBad w s = true) : nvmTxCmd old w s = txRefused 7 s := by
  simp only [txBad] at hb
  simp only [nvmTxCmd, hw, hb, Bool.not_true, Bool.false_eq_true, if_false, if_true, ne_eq, txRefused]
  rfl

theorem nvmTxCmd_submit (hw : bitOf w 31 = true) (hb : txBad w s = false) (ha : bitOf w 2 = false) {x : Tx}
    (hx : x = ⟨7, bitOf w 0, s.rf R.NVM_TX_DST 23 0, s.ldBytes (s.rd R.NVM_TX_SRC).toNat (s.rf R.NVM_TX_LEN 23 0), none, .none, s.nv.txn, 0⟩) :
    nvmTxCmd old w s = if txRefusal x s ≠ 0 then txRefused (txRefusal x s) s else txAccepted s.nv.txn (jrnShow (txQueued x s)) := by
  simp only [txBad, ha] at hb
  simp only [nvmTxCmd, hw, ha, hb, Bool.not_true, Bool.false_eq_true, if_false, txSubmit_eq, ← hx, txRefused, txAccepted]
  by_cases hr : txRefusal x s = 0 <;> simp only [hr, ne_eq, not_true_eq_false, not_false_eq_true, if_true, if_false]

theorem txRefused_spec (hr : r < 16) : (txRefused r s).rf R.NVM_TX_STAT 3 0 = r ∧ (txRefused r s).rf R.NVM_TX_STAT 7 4 = 0 ∧
    (txRefused r s).nvm = s.nvm := by
  refine ⟨?_, ?_, rfl⟩
  · rw [txRefused, State.rf_wf_self (by decide) (by decide)]; omega
  · rw [txRefused, State.rf_wf_disjoint (by decide) (by decide) (by decide), State.rf_wf_self (by decide) (by decide), Nat.zero_mod]

theorem txRefused_only (h : Only l m s t) (ha : R.NVM_TX_STAT ∈ l) : Only l m s (txRefused r t) := (h.wf ha).wf ha

theorem txAccepted_spec : (txAccepted n s).rf R.NVM_TX_STAT 31 16 = n % 65536 ∧ (txAccepted n s).rf R.NVM_TX_STAT 7 4 = 1 ∧
    (txAccepted n s).rf R.NVM_TX_STAT 3 0 = 0 ∧ (txAccepted n s).nvm = s.nvm ∧ (txAccepted n s).nv = s.nv := by
  refine ⟨?_, ?_, ?_, rfl, rfl⟩
  · rw [txAccepted, State.rf_wf_disjoint (by decide) (by decide) (by decide), State.rf_wf_disjoint (by decide) (by decide) (by decide),
      State.rf_wf_self (by decide) (by decide)]
    norm_num
  · rw [txAccepted, State.rf_wf_disjoint (by decide) (by decide) (by decide), State.rf_wf_self (by decide) (by decide)]
    norm_num
  · rw [txAccepted, State.rf_wf_self (by decide) (by decide), Nat.zero_mod]

theorem txAccepted_only (h : Only l m s t) (ha : R.NVM_TX_STAT ∈ l) : Only l m s (txAccepted n t) := ((h.wf ha).wf ha).wf ha

theorem txRefusal_lt (x : Tx) (s : State) : txRefusal x s < 16 := by
  simp only [txRefusal]
  split
  · omega
  · split
    · omega
    · split_ifs
      · omega
      · omega
      · split
        · split <;> omega
        · omega

/-! ### Opening -/

/-- The ring and the queue as transaction `x` opens (R549 step 1). -/
def txTaken (x : Tx) (s : State) : State :=
  s.withNvm { s.nvm with queue := s.nvm.queue.erase x, starts := s.nvm.starts ++ [(x.txn, s.rf R.NVM_JRN_HEAD 17 0)] }

/-- The INTENT and the data of an opening transaction (R549 steps 1 and 2). -/
def txWritten (x : Tx) (s : State) : State :=
  let s := jrnAppend (jrnRecord 1 x.owner x.txn ([bit x.direct, 0, 0, 0] ++ bytesLE 4 x.target ++ bytesLE 4 x.data.length ++ bytesLE 4 (crc32c x.data))) s
  if x.direct then nvPut x.target x.data s else s.over (dataRecords x) fun s r => jrnAppend r s

theorem txWritten_frame (x : Tx) (s : State) : JrnFrame (fun _ => True) s (txWritten x s) := by
  rw [txWritten]
  split
  · exact (jrnAppend_quiet _ s).trans ((nvPut_frame _ _ _).mono fun _ _ => trivial)
  · exact (jrnAppend_quiet _ s).trans (JrnFrame.over fun u r => jrnAppend_quiet _ _)

theorem txOpen_eq (h : openTx direct s = none) (hf : s.nvm.queue.find? (fun z => z.direct == direct) = some x) (hw : s.rb R.NVM_WIN_STAT 0 = true)
    (hr : jrnRoom s x = true) :
    txOpen direct s = jrnShow (txTell x 2 0 (setOpen direct (some { x with phase := 1 }) (txWritten x (txTaken x s)))) := by
  simp only [txOpen, h, hf, winOpen, hw, hr, Bool.not_true, Bool.or_self, Bool.false_eq_true, if_false, txWritten]
  rfl

theorem txOpen_opens (h : openTx direct s = none) (hf : s.nvm.queue.find? (fun z => z.direct == direct) = some x) (hw : s.rb R.NVM_WIN_STAT 0 = true)
    (hr : jrnRoom s x = true) :
    openTx direct (txOpen direct s) = some { x with phase := 1 } ∧ (txOpen direct s).nvm.queue = s.nvm.queue.erase x ∧ OffNvm s (txOpen direct s) := by
  have ht := txWritten_frame x (txTaken x s)
  rw [txOpen_eq h hf hw hr]
  refine ⟨?_, ?_, ?_⟩
  · rw [openTx_congr jrnShow_nvm, openTx_congr txTell_nvm, openTx_setOpen]
  · rw [jrnShow_nvm, txTell_nvm, setOpen_queue, ht.nvm]; rfl
  · exact OffNvm.trans (t := txTaken x s) (fun _ _ => rfl) (ht.off.trans (setOpen_off.trans (txTell_off.trans jrnShow_off)))

theorem txOpen_waits (h : openTx direct s ≠ none ∨ s.rb R.NVM_WIN_STAT 0 = false) : txOpen direct s = s := by
  rw [txOpen]
  split
  · rfl
  · rename_i ho
    have hw : s.rb R.NVM_WIN_STAT 0 = false := h.resolve_left fun hn => hn ho
    split
    · rfl
    · simp [winOpen, hw]

/-! ### Committing -/

/-- The COMMIT of a transaction. -/
abbrev commitRecord (x : Tx) : List Nat :=
  jrnRecord 3 x.owner x.txn (bytesLE 4 (x.act.getD (0, 0)).1 ++ [bit x.act.isSome, 0, 0, 0] ++ bytesLE 8 (x.act.getD (0, 0)).2)

theorem txCommit_good (h : openTx direct s = some x) (hp : x.phase = 1) (hw : s.rb R.NVM_WIN_STAT 0 = true)
    (hu : s.anyUe (0x20000000 + x.target) x.data.length = false) :
    openTx direct (txCommit direct true s) = some { x with phase := 2 } ∧ (txCommit direct true s).nvm.queue = s.nvm.queue ∧
      OffNvm s (txCommit direct true s) := by
  have e : txCommit direct true s = txTell x 3 0 (setOpen direct (some { x with phase := 2 }) (jrnAppend (commitRecord x) s)) := by
    simp only [txCommit, h, hp, winOpen, hw, hu, Bool.and_false, Bool.not_false, Bool.and_true, ne_eq, not_true_eq_false, Bool.not_true,
      Bool.false_eq_true, or_self, if_false, if_true]
  rw [e]
  refine ⟨?_, ?_, ?_⟩
  · rw [openTx_congr txTell_nvm, openTx_setOpen]
  · rw [txTell_nvm, setOpen_queue, (jrnAppend_quiet _ s).nvm]
  · exact (jrnAppend_quiet _ s).off.trans (setOpen_off.trans txTell_off)

/-- The open transaction has ended, told and sealed, with nothing of it left in the slot (R549, R553). -/
theorem ended_spec (k r : Nat) : openTx direct (txTell x 4 r (txSeal x k (setOpen direct none s))) = none ∧
    OffNvm s (txTell x 4 r (txSeal x k (setOpen direct none s))) := by
  refine ⟨?_, setOpen_off.trans ((txSeal_off _ _ _).trans txTell_off)⟩
  rw [openTx_congr txTell_nvm, openTx, txSeal_nvm]
  exact openTx_setOpen

theorem openTx_irq {k : Nat} : openTx direct (s.irq P.NVM k) = openTx direct s := rfl

theorem openTx_irqIf {z : Bool} {k : Nat} : openTx direct (s.irqIf z P.NVM k) = openTx direct s := by rw [State.irqIf]; split <;> rfl

theorem txCommit_bad (h : openTx direct s = some x) (hp : x.phase = 1) (hw : s.rb R.NVM_WIN_STAT 0 = true) :
    ∃ u, txCommit direct false s = raise Src.NVM_UE u ∧ openTx direct u = none ∧ u.rb (R.IRQ_STAT P.NVM) 1 = true ∧ OffNvm s u := by
  have key : ∀ t, openTx direct t = none → OffNvm s t → openTx direct ((t.irq P.NVM 1).irqIf (x.owner == 7) P.NVM 0) = none ∧
      ((t.irq P.NVM 1).irqIf (x.owner == 7) P.NVM 0).rb (R.IRQ_STAT P.NVM) 1 = true ∧ OffNvm s ((t.irq P.NVM 1).irqIf (x.owner == 7) P.NVM 0) :=
    fun t h1 h2 => ⟨by rw [openTx_irqIf, openTx_irq, h1], State.rb_irqIf_mono (by decide) (State.rb_irq_self (by decide)), h2.irq.irqIf⟩
  obtain ⟨h1, h2⟩ := ended_spec (direct := direct) (x := x) (s := s) 3 3
  refine ⟨_, ?_, key (if x.upd matches .snap _ then { txTell x 4 3 (txSeal x 3 (setOpen direct none s)) with
    pho := { (txTell x 4 3 (txSeal x 3 (setOpen direct none s))).pho with tx := 3 } } else txTell x 4 3 (txSeal x 3 (setOpen direct none s))) ?_ ?_⟩
  · simp only [txCommit, h, hp, winOpen, hw, Bool.false_and, ne_eq, not_true_eq_false, Bool.not_true,
      Bool.false_eq_true, or_self, if_false] <;> rfl
  · split
    · exact h1
    · exact h1
  · split
    · exact h2
    · exact h2

/-! ### Applying -/

/-- A committed transaction without activation and update is applied: copied, where it is REDO, sealed and told (R549 steps 5 and 6). -/
theorem txApply_eq (h : openTx direct s = some x) (hp : x.phase = 2) (hw : s.rb R.NVM_WIN_STAT 0 = true) (ha : x.act = none) (hu : x.upd = .none) :
    txApply direct s = (txTell x 4 1 (txSeal x 1 (setOpen direct none (if direct then s else nvPut x.target x.data s)))).irqIf (x.owner == 7) P.NVM 0 := by
  simp [txApply, h, hp, winOpen, hw, ha, hu, applyUpd]

theorem irqIf_nvm {z : Bool} {k : Nat} : (s.irqIf z P.NVM k).nvm = s.nvm := by rw [State.irqIf]; split <;> rfl

theorem irqIf_ld {z : Bool} {k : Nat} : (s.irqIf z P.NVM k).ld a = s.ld a := by rw [State.irqIf]; split <;> rfl

theorem rb_irqIf_self {z : Bool} {k : Nat} (hk : k < 32) (hz : z = true) : (s.irqIf z P.NVM k).rb (R.IRQ_STAT P.NVM) k = true := by
  rw [State.irqIf, if_pos hz]; exact State.rb_irq_self hk

theorem txTell_ld {k r : Nat} : (txTell x k r s).ld a = s.ld a := (txTell_only (l := showRegs) (m := []) (.refl _ _ _) (by simp)).mem a

theorem jrnSize_nvPut : jrnSize (nvPut o d s) = jrnSize s ∧ jrnBase (nvPut o d s) = jrnBase s := by
  refine ⟨congrArg BitVec.toNat ((nvPut_frame o d s).regs _ ⟨by decide, fun r => ?_⟩), congrArg BitVec.toNat (rd_base_nvPut (r := 3))⟩
  simp only [R.NVM_REGION_SIZE, R.NVM_REGION_WEAR]; omega

theorem txApply_redo (h : s.nvm.redo = some x) (hp : x.phase = 2) (hw : s.rb R.NVM_WIN_STAT 0 = true) (ha : x.act = none) (hu : x.upd = .none)
    (h32 : 32 ≤ jrnSize s) (hd : x.target + x.data.length ≤ jrnBase s ∨ jrnBase s + jrnSize s ≤ x.target) :
    (txApply false s).nvm.redo = none ∧ (txApply false s).nvm.direct = s.nvm.direct ∧
    (∀ k < x.data.length, (txApply false s).ldN (0x20000000 + x.target + k) = x.data.getD k 0 % 256) ∧
    (x.owner = 7 → (txApply false s).rb (R.IRQ_STAT P.NVM) 0 = true) ∧ OffNvm s (txApply false s) := by
  obtain ⟨hs, hb⟩ := jrnSize_nvPut (o := x.target) (d := x.data) (s := s)
  have hf := nvPut_frame x.target x.data s
  rw [txApply_eq (direct := false) h hp hw ha hu, if_neg (by decide)]
  refine ⟨?_, ?_, fun k hk => ?_, fun ho => rb_irqIf_self (by decide) (by simpa using ho), ?_⟩
  · rw [irqIf_nvm, txTell_nvm, txSeal_nvm]; rfl
  · rw [irqIf_nvm, txTell_nvm, txSeal_nvm]; exact (congrArg NvmSt.direct hf.nvm : (nvPut x.target x.data s).nvm.direct = _)
  · rw [State.ldN, irqIf_ld, txTell_ld, txSeal_ld _ _ _ (hs.symm ▸ h32) (by
      change _ < 0x20000000 + jrnBase (nvPut _ _ _) ∨ 0x20000000 + jrnBase (nvPut _ _ _) + jrnSize (nvPut _ _ _) ≤ _
      rw [hs, hb]; omega)]
    refine (congrArg BitVec.toNat (nvPut_ld_self hk)).trans ?_
    rw [BitVec.toNat_ofNat, List.getD_eq_getElem _ _ hk]
  · exact hf.off.trans ((ended_spec (direct := false) 1 1).2.irqIf)

theorem txApply_direct (h : s.nvm.direct = some x) (hp : x.phase = 2) (hw : s.rb R.NVM_WIN_STAT 0 = true) (ha : x.act = none) (hu : x.upd = .none) :
    (txApply true s).nvm.direct = none ∧ (txApply true s).nvm.redo = s.nvm.redo ∧ (txApply true s).nvm.queue = s.nvm.queue ∧
    (x.owner = 7 → (txApply true s).rb (R.IRQ_STAT P.NVM) 0 = true) ∧ OffNvm s (txApply true s) := by
  rw [txApply_eq (direct := true) h hp hw ha hu, if_pos rfl]
  refine ⟨?_, ?_, ?_, fun ho => rb_irqIf_self (by decide) (by simpa using ho), (ended_spec (direct := true) 1 1).2.irqIf⟩ <;>
  · rw [irqIf_nvm, txTell_nvm, txSeal_nvm]; rfl

/-! ### The write window -/

/-- The conditions of the window with one of them set, and whether it is open (R551). -/
def winLegs (leg : Nat) (ok : Bool) (s : State) : State :=
  let s := s.wb R.NVM_WIN_STAT leg ok
  s.wb R.NVM_WIN_STAT 0 (s.rb R.NVM_WIN_STAT 1 && s.rb R.NVM_WIN_STAT 2)

theorem winLegs_only (h : Only l m s t) (ha : R.NVM_WIN_STAT ∈ l) {leg : Nat} {ok : Bool} : Only l m s (winLegs leg ok t) := (h.wb ha).wb ha

/-- A snapshot whose transaction waits is DEFERRED while the window is closed (R145). -/
def snapWaits (z : Bool) (s : State) : State := if s.pho.tx = 1 then s.wb R.PHO_SNAP_STAT 1 z else s

theorem snapWaits_only {z : Bool} (h : Only l m s t) (ha : R.PHO_SNAP_STAT ∈ l) : Only l m s (snapWaits z t) := (h.wb ha).ite h

theorem snapWaits_nvm {z : Bool} : (snapWaits z s).nvm = s.nvm := by rw [snapWaits]; split <;> rfl

theorem winLegs_supply (ok : Bool) (s : State) : (winLegs 2 ok s).rb R.NVM_WIN_STAT 2 = ok ∧ (winLegs 2 ok s).rb R.NVM_WIN_STAT 0 = (s.rb R.NVM_WIN_STAT 1 && ok) ∧
    (winLegs 2 ok s).nvm = s.nvm := by
  refine ⟨?_, ?_, rfl⟩
  · rw [winLegs, State.rb_wb_bit (by decide) (by decide), State.rb_wb_self (by decide)]
  · rw [winLegs, State.rb_wb_self (by decide), State.rb_wb_bit (by decide) (by decide), State.rb_wb_self (by decide)]

theorem winLegs_inner (ok : Bool) (s : State) : ((s.wb R.NVM_WIN_STAT 2 ok).rb R.NVM_WIN_STAT 1 && (s.wb R.NVM_WIN_STAT 2 ok).rb R.NVM_WIN_STAT 2) =
    (s.rb R.NVM_WIN_STAT 1 && ok) := by
  rw [State.rb_wb_bit (by decide) (by decide), State.rb_wb_self (by decide)]

theorem setWindow_close (hw : s.rb R.NVM_WIN_STAT 0 = true) : setWindow 2 false s =
    raiseIf (uncommitted false (winLegs 2 false s) || uncommitted true (winLegs 2 false s)) Src.NVM_WRITE_REFUSED
      (snapWaits true (jrnShow (abandon true (abandon false ((winLegs 2 false s).irq P.NVM 3))))) := by
  simp only [setWindow, winOpen, hw, winLegs_inner, Bool.and_false, Bool.not_false, Bool.and_self, if_true, winLegs, snapWaits]

theorem setWindow_open (h1 : s.rb R.NVM_WIN_STAT 1 = true) (hu : s.nvm.unsealed = []) :
    (setWindow 2 true s).rb R.NVM_WIN_STAT 0 = true ∧ (setWindow 2 true s).rb R.NVM_WIN_STAT 2 = true ∧ (setWindow 2 true s).nvm = s.nvm ∧
      Only [R.NVM_WIN_STAT, R.PHO_SNAP_STAT] [] s (setWindow 2 true s) := by
  obtain ⟨w1, w2, w3⟩ := winLegs_supply true s
  rw [h1] at w2
  have wo : Only [R.NVM_WIN_STAT, R.PHO_SNAP_STAT] [] s (winLegs 2 true s) := winLegs_only (.refl _ _ _) (by simp)
  cases hw : s.rb R.NVM_WIN_STAT 0
  · have e : setWindow 2 true s = (snapWaits false (winLegs 2 true s)).withNvm { (snapWaits false (winLegs 2 true s)).nvm with unsealed := [] } := by
      have hl : (snapWaits false (winLegs 2 true s)).nvm.unsealed = [] := by rw [snapWaits_nvm, w3, hu]
      simp only [snapWaits, winLegs, winLegs_inner, h1, Bool.and_self] at hl
      simp only [setWindow, winOpen, hw, winLegs_inner, h1, Bool.and_self, Bool.not_false, Bool.not_true,
        Bool.false_eq_true, if_false, if_true, snapWaits, winLegs, State.withNvm, hl]
      rfl
    have so : Only [R.PHO_SNAP_STAT] [] (winLegs 2 true s) (snapWaits false (winLegs 2 true s)) := snapWaits_only (.refl _ _ _) (by simp)
    rw [e]
    refine ⟨(so.rb (by decide)).trans w2, (so.rb (by decide)).trans w1, ?_, (snapWaits_only wo (by simp)).record⟩
    rw [State.withNvm_nvm, snapWaits_nvm, w3, ← hu]
  · have e : setWindow 2 true s = winLegs 2 true s := by simp [setWindow, winOpen, hw, winLegs_inner, h1, winLegs]
    rw [e]
    exact ⟨w2, w1, w3, wo⟩

theorem Only.withNvm {z : NvmSt} (h : Only l m s t) : Only l m s (t.withNvm z) := h.record

theorem setOpen_only {z : Option Tx} (h : Only l m s t) : Only l m s (setOpen direct z t) := by
  rw [setOpen]; split <;> exact h.record

theorem abandon_none (h : openTx direct s = none) : abandon direct s = s := by rw [abandon, h]

theorem abandon_open (h : openTx direct s = some x) (hp : x.phase = 1) (hu : x.upd = .none) :
    abandon direct s = (txTell x 4 2 (setOpen direct none (s.withNvm { s.nvm with unsealed := s.nvm.unsealed ++ [x] }))).irqIf (x.owner == 7) P.NVM 0 := by
  simp [abandon, h, hp, hu]; rfl

/-- The registers that closing the window may change. -/
abbrev winRegs : List Nat := [R.NVM_WIN_STAT, R.IRQ_STAT P.NVM, R.NVM_JRN_TAIL, R.NVM_JRN_OPEN, R.NVM_TX_STAT, R.PHO_SNAP_STAT]

/-- The closed window with its interrupt, before what it ends is shown. -/
abbrev winClosed (s : State) : State := (winLegs 2 false s).irq P.NVM 3

theorem winClosed_spec (s : State) : (winClosed s).rb R.NVM_WIN_STAT 0 = false ∧ (winClosed s).rb R.NVM_WIN_STAT 2 = false ∧
    (winClosed s).rb (R.IRQ_STAT P.NVM) 3 = true ∧ (winClosed s).nvm = s.nvm ∧ Only winRegs [] s (winClosed s) := by
  obtain ⟨w1, w2, w3⟩ := winLegs_supply false s
  refine ⟨?_, ?_, State.rb_irq_self (by decide), w3, Only.irq (winLegs_only (.refl _ _ _) (by simp)) (by simp)⟩
  · rw [State.rb_irq_of_ne (by decide), w2, Bool.and_false]
  · rw [State.rb_irq_of_ne (by decide), w1]

theorem setWindow_close_quiet (hw : s.rb R.NVM_WIN_STAT 0 = true) (hr : s.nvm.redo = none) (hd : s.nvm.direct = none) :
    (setWindow 2 false s).rb R.NVM_WIN_STAT 0 = false ∧ (setWindow 2 false s).rb R.NVM_WIN_STAT 2 = false ∧
      (setWindow 2 false s).rb (R.IRQ_STAT P.NVM) 3 = true ∧ (setWindow 2 false s).nvm = s.nvm ∧ Only winRegs [] s (setWindow 2 false s) := by
  obtain ⟨c1, c2, c3, c4, c5⟩ := winClosed_spec s
  have hrc : openTx false (winClosed s) = none := (openTx_congr c4).trans hr
  have hdc : openTx true (winClosed s) = none := (openTx_congr c4).trans hd
  have hcut : (uncommitted false (winLegs 2 false s) || uncommitted true (winLegs 2 false s)) = false := by
    have h1 : openTx false (winLegs 2 false s) = none := hrc
    have h2 : openTx true (winLegs 2 false s) = none := hdc
    simp [uncommitted, h1, h2]
  rw [setWindow_close hw, hcut, raiseIf, if_neg (by decide), abandon_none hrc, abandon_none hdc]
  have ho : Only [R.NVM_JRN_TAIL, R.NVM_JRN_OPEN, R.NVM_TX_STAT, R.PHO_SNAP_STAT] [] (winClosed s) (snapWaits true (jrnShow (winClosed s))) :=
    snapWaits_only (jrnShow_only (.refl _ _ _) (by simp) (by simp) (by simp)) (by simp)
  refine ⟨(ho.rb (by decide)).trans c1, (ho.rb (by decide)).trans c2, (ho.rb (by decide)).trans c3, ?_, c5.trans (ho.mono (by simp) (by simp))⟩
  rw [snapWaits_nvm, jrnShow_nvm, c4]

theorem setWindow_close_cut (hw : s.rb R.NVM_WIN_STAT 0 = true) (hr : s.nvm.redo = some x) (hp : x.phase = 1) (hu : x.upd = .none)
    (hd : s.nvm.direct = none) :
    ∃ u, setWindow 2 false s = raise Src.NVM_WRITE_REFUSED u ∧ u.nvm.redo = none ∧ u.nvm.unsealed = s.nvm.unsealed ++ [x] ∧
      u.rb R.NVM_WIN_STAT 0 = false ∧ Only winRegs [] s u := by
  obtain ⟨c1, c2, c3, c4, c5⟩ := winClosed_spec s
  have hrc : openTx false (winClosed s) = some x := (openTx_congr c4).trans hr
  have hcut : (uncommitted false (winLegs 2 false s) || uncommitted true (winLegs 2 false s)) = true := by
    have h1 : openTx false (winLegs 2 false s) = some x := hrc
    simp [uncommitted, h1, hp]
  have ha := abandon_open hrc hp hu
  have hn : (abandon false (winClosed s)).nvm = { s.nvm with redo := none, unsealed := s.nvm.unsealed ++ [x] } := by
    rw [ha, irqIf_nvm, txTell_nvm]
    simp only [setOpen, Bool.false_eq_true, if_false, State.withNvm_nvm, c4]
  have ho : Only [R.NVM_TX_STAT, R.IRQ_STAT P.NVM] [] (winClosed s) (abandon false (winClosed s)) := by
    rw [ha]
    exact (txTell_only (setOpen_only (Only.withNvm (.refl _ _ _))) (by simp)).irqIf (by simp)
  have e := setWindow_close hw
  rw [hcut, raiseIf, if_pos rfl] at e
  clear ha hcut hrc
  generalize abandon false (winClosed s) = y at hn ho e
  have hdc : openTx true y = none := by rw [openTx, hn]; exact hd
  rw [abandon_none hdc] at e
  have hs : Only [R.NVM_JRN_TAIL, R.NVM_JRN_OPEN, R.NVM_TX_STAT, R.PHO_SNAP_STAT] [] y (snapWaits true (jrnShow y)) :=
    snapWaits_only (jrnShow_only (.refl _ _ _) (by simp) (by simp) (by simp)) (by simp)
  refine ⟨_, e, ?_, ?_, ?_, c5.trans ((ho.mono (by simp) (by simp)).trans (hs.mono (by simp) (by simp)))⟩
  · rw [snapWaits_nvm, jrnShow_nvm, hn]
  · rw [snapWaits_nvm, jrnShow_nvm, hn]
  · rw [hs.rb (by decide), ho.rb (by decide), c1]

/-- Settles O57: the checks of a submission, and each step of a transaction by its own rule. -/
theorem transactionsQueueOpenCommitAndSeal : Obligations.TransactionsQueueOpenCommitAndSeal := by
  intro n i w direct s cmd src len dst x
  have hcmd : bitOf cmd 31 = true := bitOf_putBit_self _ _ (by decide)
  have hbit : ∀ b, b ≠ 31 → bitOf cmd b = bitOf w b := fun b hb => bitOf_putBit_of_ne _ _ (by decide) hb
  have hat : Only [] [] s (s.at n) := (Only.refl _ _ _).at
  have hoff : ∀ {u}, OffNvm (s.at n) u → ∀ a, pageOf a ≠ P.NVM → u.rd a = s.rd a := fun h a ha => h a ha
  refine ⟨fun hacc hlen => ?_, fun hacc h1 h2 h3 h4 h5 h6 h7 => ?_, fun y ho hf hw hr => ?_, fun h => ?_, fun y ho hp hw => ⟨fun hu => ?_, ?_⟩,
    fun y hr hp hw ha hu h32 hd => ?_, fun y hd hp hw ha hu => ?_, fun hw hr hd => ?_, fun y hw hr hp hu hd => ?_, fun h1 hu => ?_⟩
  · obtain ⟨v, hv⟩ := gateWrite_stored nvmTxCmd hacc (by decide) (by decide)
    have ho : Only [R.NVM_TX_CMD] [] s ((s.at n).busOk.wr R.NVM_TX_CMD v) := gateState_only ..
    have hbad : txBad cmd ((s.at n).busOk.wr R.NVM_TX_CMD v) = true := by
      simp only [txBad, ho.rf (a := R.NVM_TX_LEN) (by decide)]
      rcases hlen with h | h <;> simp [len] at h <;> simp [h]
    obtain ⟨e1, e2, e3⟩ := txRefused_spec (r := 7) (s := (s.at n).busOk.wr R.NVM_TX_CMD v) (by decide)
    exact ⟨_, next_congr (hv.trans (nvmTxCmd_bad hcmd hbad)), e1, e2, e3, txRefused_only (ho.mono (by simp) (by simp)) (by simp)⟩
  · obtain ⟨v, hv⟩ := gateWrite_stored nvmTxCmd hacc (by decide) (by decide)
    have ho : Only [R.NVM_TX_CMD] [] s ((s.at n).busOk.wr R.NVM_TX_CMD v) := gateState_only ..
    have hn : ((s.at n).busOk.wr R.NVM_TX_CMD v).nvm = s.nvm := rfl
    generalize (s.at n).busOk.wr R.NVM_TX_CMD v = t at hv ho hn
    have hbad : txBad cmd t = false := by
      simp only [txBad, ho.rf (a := R.NVM_TX_LEN) (by decide), ho.rf (a := R.NVM_TX_DST) (by decide), ho.regs R.NVM_TX_SRC (by decide), hbit 2 (by decide), h5]
      simp only [len, src, dst] at h1 h2 h3 h4 h6 h7
      simp [h1, h2, h3, h4, h6, h7]
    have hx : x = ⟨7, bitOf cmd 0, t.rf R.NVM_TX_DST 23 0, t.ldBytes (t.rd R.NVM_TX_SRC).toNat (t.rf R.NVM_TX_LEN 23 0), none, .none, t.nv.txn, 0⟩ := by
      rw [hbit 0 (by decide), ho.rf (a := R.NVM_TX_LEN) (by decide), ho.rf (a := R.NVM_TX_DST) (by decide), ho.regs R.NVM_TX_SRC (by decide),
        ldBytes_congr ho.mem, ho.nv]
    have hsub := hv.trans (nvmTxCmd_submit hcmd hbad ((hbit 2 (by decide)).trans h5) hx)
    rw [ho.txRefusal hn] at hsub
    refine ⟨fun h => ?_, fun h => ?_⟩
    · rw [if_neg (by simpa using h), ho.nv] at hsub
      obtain ⟨e1, e2, e3, e4, e5⟩ := txAccepted_spec (n := s.nv.txn) (s := jrnShow (txQueued x t))
      have hq : Only [R.NVM_TX_STAT, R.NVM_JRN_TAIL, R.NVM_JRN_OPEN] [] (txQueued x t) (txAccepted s.nv.txn (jrnShow (txQueued x t))) :=
        txAccepted_only (jrnShow_only (.refl _ _ _) (by simp) (by simp) (by simp)) (by simp)
      refine ⟨_, next_congr hsub, ?_, ?_, e1, e2, e3, fun a => ?_, fun a ha => ?_⟩
      · rw [e4, jrnShow_nvm, ← hn]; rfl
      · rw [hq.nv, ← ho.nv]; rfl
      · rw [hq.mem, ← ho.mem]; rfl
      · rw [hq.regs a (by simp at ha ⊢; tauto), ← ho.regs a (by simp at ha ⊢; tauto)]; rfl
    · rw [if_pos h] at hsub
      obtain ⟨e1, e2, e3⟩ := txRefused_spec (s := t) (txRefusal_lt x s)
      exact ⟨_, next_congr hsub, e3.trans hn, e2, e1, txRefused_only (ho.mono (by simp) (by simp)) (by simp)⟩
  · exact ⟨_, rfl, txOpen_opens (s := s.at n) ho hf hw hr⟩
  · exact ⟨_, next_congr (txOpen_waits (s := s.at n) h), rfl, hat⟩
  · exact ⟨_, rfl, txCommit_good (s := s.at n) ho hp hw hu⟩
  · obtain ⟨u, e, hu⟩ := txCommit_bad (s := s.at n) ho hp hw
    exact ⟨u, next_congr e, hu⟩
  · exact ⟨_, rfl, txApply_redo (s := s.at n) hr hp hw ha hu h32 hd⟩
  · exact ⟨_, rfl, txApply_direct (s := s.at n) hd hp hw ha hu⟩
  · obtain ⟨e1, e2, e3, e4, e5⟩ := setWindow_close_quiet (s := s.at n) hw hr hd
    exact ⟨_, rfl, e1, e2, e3, e4, (hat.mono (by simp) (by simp)).trans e5⟩
  · obtain ⟨u, e, e1, e2, e3, e4⟩ := setWindow_close_cut (s := s.at n) hw hr hp hu hd
    exact ⟨u, next_congr e, e1, e2, e3, (hat.mono (by simp) (by simp)).trans e4⟩
  · obtain ⟨e1, e2, e3, e4⟩ := setWindow_open (s := s.at n) h1 hu
    exact ⟨_, rfl, e1, e2, e3, (hat.mono (by simp) (by simp)).trans e4⟩

end Sys2Proof.Machine
end

section
/-! PROOFS. Requests of operating modes (R571 to R573). -/

namespace Sys2Proof.Machine

variable {l m : List Nat} {s t u : State} {i : Init} {n r role rights : Nat} {w old : Word} {q : ModeReq}

/-! ### The checks read no register that a request changes -/

/-- The registers that a request writes. -/
abbrev modeRegs : List Nat := [R.SYS_MODE_REQ, R.SYS_MODE_STAT]

theorem Only.headOpen (h : Only l m s t) (hb : R.NET_SESS_BASE ∉ l) (hs : t.ses = s.ses) : headOpen t = headOpen s := by
  simp only [Machine.headOpen, hs, sessState, sessAddr, State.ldN, h.mem, h.regs _ hb]

theorem Only.modeNow (h : Only modeRegs m s t) : modeNow t = modeNow s := h.rf (by decide)

theorem Only.dark (h : Only modeRegs m s t) : t.dark = s.dark := by rw [State.dark, h.rf (by decide), State.dark]

theorem linkStat_off (k : Fin 4) : R.STATUS (P.SPLT k) ∉ modeRegs := by revert k; decide

theorem Only.tilesUp (h : Only modeRegs m s t) : tilesUp t = tilesUp s := by
  simp only [Machine.tilesUp, State.linkUp, State.lstate, h.rb (a := R.SCN_ARR) (by decide), h.rf (linkStat_off _)]

theorem Only.transition (h : Only modeRegs m s t) (q : ModeReq) : transition q t = transition q s := by
  simp only [Machine.transition, h.modeNow, h.nv]

theorem Only.modeRefusal (h : Only modeRegs m s t) (hs : t.ses = s.ses) (q : ModeReq) : modeRefusal q t = modeRefusal q s := by
  simp only [Machine.modeRefusal, h.transition, h.modeNow, h.dark, pwrState, errActive, thmCritical, ttValid, h.tilesUp, h.headOpen (by decide) hs,
    h.en (p := P.CMP) (by decide), h.en (p := P.PHO) (by decide), h.rf (a := R.PWR_STAT) (by decide), h.rb (a := R.FLT_ERR) (by decide),
    h.rb (a := R.STATUS P.THM) (by decide), h.rb (a := R.SYS_MODE) (by decide), h.rb (a := R.TIME_TGEN_STAT) (by decide)]
  rfl

theorem Only.mayForce (h : Only modeRegs m s t) : mayForce t = mayForce s := by
  simp only [Machine.mayForce, h.modeNow, h.dark, h.rf (a := R.SYS_START_STAT) (by decide)]

/-! ### A request's outcome -/

theorem modeResult_only (h : Only l m s t) (ha : R.SYS_MODE_STAT ∈ l) : Only l m s (modeResult r t) := (h.wf ha).wf ha

theorem modeResult_spec (hr : r < 16) : (modeResult r s).rf R.SYS_MODE_STAT 3 0 = r ∧ (modeResult r s).rf R.SYS_MODE_STAT 31 16 = s.tickNum % 65536 ∧
    (modeResult r s).sys = s.sys := by
  refine ⟨?_, ?_, rfl⟩
  · rw [modeResult, State.rf_wf_disjoint (by decide) (by decide) (by decide), State.rf_wf_self (by decide) (by decide)]; omega
  · rw [modeResult, State.rf_wf_self (by decide) (by decide)]; exact Nat.mod_mod _ _

theorem modeRefused_spec (hr : r < 16) : (modeRefused r s).rf R.SYS_MODE_STAT 3 0 = r ∧ (modeRefused r s).rf R.SYS_MODE_STAT 31 16 = s.tickNum % 65536 ∧
    (modeRefused r s).rb (R.IRQ_STAT P.SYS) 4 = true ∧ (modeRefused r s).sys = s.sys := by
  obtain ⟨h1, h2, h3⟩ := modeResult_spec (s := s) hr
  exact ⟨by rw [modeRefused, State.rf_irq_of_ne (by decide), h1], by rw [modeRefused, State.rf_irq_of_ne (by decide), h2], State.rb_irq_self (by decide),
    by simp only [modeRefused, State.irq, State.event, State.wb, State.wr_sys, State.note_sys, h3]⟩

theorem modeRefused_only (h : Only l m s t) (ha : R.SYS_MODE_STAT ∈ l) (hi : R.IRQ_STAT P.SYS ∈ l) : Only l m s (modeRefused r t) :=
  (modeResult_only h ha).irq hi

theorem setSys_only {f : SysSt → SysSt} (h : Only l m s t) : Only l m s (t.setSys f) := h.record

theorem showModePend_some (hp : s.sys.pend = some q) (hq : q.mode < 16) : (showModePend s).sys = s.sys ∧ (showModePend s).rb R.SYS_MODE_STAT 12 = true ∧
    (showModePend s).rf R.SYS_MODE_STAT 11 8 = q.mode ∧ (showModePend s).rf R.SYS_MODE_STAT 3 0 = 13 ∧ Only [R.SYS_MODE_STAT] [] s (showModePend s) := by
  have e : showModePend s = ((s.wb R.SYS_MODE_STAT 12 true).wf R.SYS_MODE_STAT 11 8 q.mode).wf R.SYS_MODE_STAT 3 0 13 := by rw [showModePend, hp]
  rw [e]
  refine ⟨by simp only [State.wf, State.wb, State.wr_sys], ?_, ?_, ?_, ((Only.wb (.refl _ _ _) (by simp)).wf (by simp)).wf (by simp)⟩
  · rw [State.rb_wf_disjoint (by decide) (by decide) (by decide), State.rb_wf_disjoint (by decide) (by decide) (by decide), State.rb_wb_self (by decide)]
  · rw [State.rf_wf_disjoint (by decide) (by decide) (by decide), State.rf_wf_self (by decide) (by decide)]; omega
  · rw [State.rf_wf_self (by decide) (by decide)]
    norm_num

/-- What a pending request shows of itself: the clauses that every accepted request shares. -/
structure Pends (q : ModeReq) (k : Nat) (s u : State) : Prop where
  pend : u.sys.pend = some { q with wait := k }
  bit : u.rb R.SYS_MODE_STAT 12 = true
  mode : u.rf R.SYS_MODE_STAT 11 8 = q.mode
  result : u.rf R.SYS_MODE_STAT 3 0 = 13
  only : Only [R.SYS_MODE_STAT] [] s u

theorem ticksToA_congr (h : Only [R.SYS_MODE_STAT] m s t) (hn : t.now = s.now) (ht : t.nextTick = s.nextTick) : ticksToA t = ticksToA s := by
  simp only [ticksToA, State.guardNs, hn, ht, h.rf (a := R.SYS_COMMIT_GUARD) (by decide)]
  rfl

/-- A request that was pending ends SUPERSEDED (R571). -/
def superseded (s : State) : State := if s.sys.pend.isSome then modeResult 11 s else s

theorem superseded_only : Only [R.SYS_MODE_STAT] [] s (superseded s) := (modeResult_only (.refl _ _ _) (by simp)).ite (.refl _ _ _)

theorem superseded_clock : (superseded s).now = s.now ∧ (superseded s).nextTick = s.nextTick := by
  rw [superseded]
  split
  · simp only [modeResult, State.wf, State.wr_now, State.wr_nextTick, and_self]
  · exact ⟨rfl, rfl⟩

/-- The request is taken up, with its result shown as pending. -/
def takenUp (q : ModeReq) (s : State) : State := modeResult 13 (s.setSys fun z => { z with pend := some q })

theorem takenUp_pend : (takenUp q s).sys.pend = some q := by simp only [takenUp, modeResult, State.wf, State.wr_sys, State.setSys]

theorem takenUp_only (h : Only l m s t) (ha : R.SYS_MODE_STAT ∈ l) : Only l m s (takenUp q t) := modeResult_only (setSys_only h) ha

theorem modeRequest_eq (h : modeRefusal q s = 0) :
    (modeRequest q s).2 = showModePend (takenUp { q with wait := ticksToA (superseded s) } (superseded s)) := by
  rw [modeRequest, if_neg (by simpa using h), takenUp, superseded]

/-- A request that none of the checks refuses becomes the pending one (R575). -/
theorem modeRequest_pends (h : modeRefusal q s = 0) (hq : q.mode < 16) : Pends q (ticksToA s) s (modeRequest q s).2 := by
  obtain ⟨hn, ht⟩ := superseded_clock (s := s)
  rw [modeRequest_eq h, ticksToA_congr superseded_only hn ht]
  have ho : Only [R.SYS_MODE_STAT] [] s (takenUp { q with wait := ticksToA s } (superseded s)) := takenUp_only superseded_only (by simp)
  have hp := takenUp_pend (q := { q with wait := ticksToA s }) (s := superseded s)
  generalize takenUp { q with wait := ticksToA s } (superseded s) = y at ho hp
  obtain ⟨h1, h2, h3, h4, h5⟩ := showModePend_some hp hq
  exact ⟨by rw [h1, hp], h2, h3, h4, ho.trans h5⟩

theorem modeRequest_refused (h : modeRefusal q s ≠ 0) : (modeRequest q s).2 = modeRefused (modeRefusal q s) s := by
  rw [modeRequest, if_pos h]

theorem ite_lt {c : Prop} [Decidable c] {x y : Nat} (hx : x < n) (hy : y < n) : (if c then x else y) < n := by split <;> assumption

theorem transition_lt (q : ModeReq) (s : State) : transition q s < 16 := by
  rw [transition]
  repeat' apply ite_lt
  all_goals omega

theorem modeRefusal_lt (q : ModeReq) (s : State) : modeRefusal q s < 16 := by
  rw [modeRefusal]
  refine ite_lt (transition_lt q s) ?_
  repeat' apply ite_lt
  all_goals omega

/-! ### The table of R572 -/

theorem modeRefusal_of_transition (h : transition q s ≠ 0) : modeRefusal q s = transition q s := by rw [modeRefusal]; exact if_pos h

theorem modeRefusal_quarantine (h : modeNow s = 7) : modeRefusal q s = 2 := by
  have ht : transition q s = 2 := by rw [transition]; exact if_pos h
  rw [modeRefusal_of_transition (by rw [ht]; decide), ht]

theorem transition_run (h2 : 2 ≤ modeNow s) (h5 : modeNow s ≤ 5) (q2 : 2 ≤ q.mode) (q5 : q.mode ≤ 5) :
    transition q s = if q.rights.testBit 5 || q.mode == 4 || q.mode == 5 then 0 else 3 := by
  simp [transition, h2, h5, q2, q5, show modeNow s ≠ 7 by omega]

theorem modeRefusal_dark (h2 : 2 ≤ modeNow s) (h5 : modeNow s ≤ 5) (hq : q.mode = 4 ∨ q.mode = 5) : modeRefusal q s = 0 := by
  have ht : transition q s = 0 := by
    rw [transition_run h2 h5 (by omega) (by omega), if_pos]
    rcases hq with h | h <;> simp [h]
  have hm : (if modeNow s = 3 ∧ s.dark = true ∧ q.mode = 2 then 3 else q.mode) = q.mode := if_neg fun h => by omega
  rw [modeRefusal]
  simp only [ht, hm, ne_eq, not_true_eq_false, if_false, if_pos hq]

theorem modeRefusal_right (h2 : 2 ≤ modeNow s) (h5 : modeNow s ≤ 5) (hq : q.mode = 2 ∨ q.mode = 3) (hr : q.rights.testBit 5 = false) :
    modeRefusal q s = 3 := by
  have ht : transition q s = 3 := by
    rw [transition_run h2 h5 (by omega) (by omega), if_neg]
    rcases hq with h | h <;> simp [h, hr]
  rw [modeRefusal_of_transition (by rw [ht]; decide), ht]

/-! ### SAFE's own requests (R573) -/

theorem safeRequest_pends {k : Nat} (hk : k < 16) (h : modeRefusal ⟨k, 0, false, 3, 0x20, 0, 3, []⟩ s = 0) :
    Pends ⟨k, 0, false, 3, 0x20, 0, 3, []⟩ (ticksToA s) s (safeRequest k s) := modeRequest_pends h hk

theorem netLoss_requests (hm : modeNow s = 2) (hh : headOpen s = false) (ht : s.sys.netSince + s.rf R.SYS_START_CFG 31 16 * 10 ^ 9 ≤ s.now) :
    netLoss s = safeRequest 3 s := by
  rw [netLoss, if_pos ⟨hm, by simp [hh], ht⟩]

theorem netLoss_quiet (h : modeNow s ≠ 2 ∨ headOpen s = true ∨ s.now < s.sys.netSince + s.rf R.SYS_START_CFG 31 16 * 10 ^ 9) : netLoss s = s := by
  rw [netLoss, if_neg]
  rintro ⟨h1, h2, h3⟩
  rcases h with h | h | h
  · exact h h1
  · simp [h] at h2
  · omega

theorem autoRequest_busy (h : s.sys.pend.isSome = true) : autoRequest s = s := by rw [autoRequest]; exact if_pos h

theorem autoRequest_adaptive (hp : s.sys.pend = none) (hm : modeNow s = 3) (hh : headOpen s = true) (ht : s.rf R.TIME_SERVO_STAT 2 0 = 2) :
    autoRequest s = safeRequest 2 s := by
  simp [autoRequest, hp, hm, hh, ht]

theorem autoRequest_back {x : Nat} (hp : s.sys.pend = none) (hm : modeNow s = 4) (h8 : s.rb R.SYS_MODE 8 = true) (ha : s.rb R.SYS_START_CFG 0 = true)
    (hq : s.sys.quietSince = some x) (hx : x + 10 ^ 10 ≤ s.now) (hk : s.sys.prevMode = 2 ∨ s.sys.prevMode = 3) :
    autoRequest s = safeRequest s.sys.prevMode s := by
  rcases hk with hk | hk <;> simp [autoRequest, hp, hm, h8, ha, hq, hk, show x + 10000000000 ≤ s.now by omega]

theorem autoRequest_start (hp : s.sys.pend = none) (hm : modeNow s = 4 ∨ modeNow s = 5) (h8 : s.rb R.SYS_MODE 8 = false)
    (ha : s.rb R.SYS_START_CFG 0 = true) (h12 : s.rf (R.SYS_START_MS 12) 15 0 = 0) (hr : modeRefusal ⟨2, 0, false, 3, 0x20, 0, 3, []⟩ s = 0) :
    autoRequest s = safeRequest 2 s := by
  rcases hm with hm | hm <;> simp [autoRequest, hp, hm, h8, ha, h12, hr]

/-! ### The write of SYS_MODE_REQ -/

theorem sysModeReq_plain (h : bitOf w 31 = true) (h8 : bitOf w 8 = false) :
    sysModeReq role rights old w s = (modeRequest ⟨bitsOf w 3 0, bitsOf w 5 4, bitOf w 9, role, rights, 0, 3, []⟩ s).2 := by
  simp [sysModeReq, h, h8]

theorem sysModeReq_force (h : bitOf w 31 = true) (h8 : bitOf w 8 = true) (h4 : bitsOf w 3 0 = 4) (hm : mayForce s = true) :
    sysModeReq role rights old w s = s.setSys fun x => { x with forceFb := true } := by
  simp [sysModeReq, h, h8, h4, hm]

theorem sysModeReq_noForce (h : bitOf w 31 = true) (h8 : bitOf w 8 = true) (hn : bitsOf w 3 0 ≠ 4 ∨ mayForce s = false) :
    sysModeReq role rights old w s = modeRefused 2 s := by
  have hc : ¬ (bitsOf w 3 0 = 4 ∧ mayForce s = true) := by
    rintro ⟨h1, h2⟩
    rcases hn with h | h
    · exact h h1
    · rw [h] at h2; cases h2
  rw [sysModeReq, h, h8]
  simp only [Bool.not_true, Bool.false_eq_true, if_false, if_true, if_neg hc]

/-- Settles O56: the checks read no register that a request writes, so the outcome is that of the state before it. -/
theorem modeRequestsPendOrAreRefused : Obligations.ModeRequestsPendOrAreRefused := by
  intro n i w role rights s q auto pends
  have hat : Only [] [] s (s.at n) := (Only.refl _ _ _).at
  have hcmd : bitOf (putBit w 31 true) 31 = true := bitOf_putBit_self _ _ (by decide)
  have hbit : ∀ b, b ≠ 31 → bitOf (putBit w 31 true) b = bitOf w b := fun b hb => bitOf_putBit_of_ne _ _ (by decide) hb
  have hfld : ∀ hi lo, hi < 31 → bitsOf (putBit w 31 true) hi lo = bitsOf w hi lo := fun hi lo hh => bitsOf_putBit_of_disjoint _ _ (by decide) (.inl hh)
  have hauto : ∀ {k u}, Pends (auto k) (ticksToA (s.at n)) (s.at n) u → pends (auto k) u ∧ Only [R.SYS_MODE_STAT] [] s u := by
    intro k u h
    have ho : Only [R.SYS_MODE_STAT] [] s u := (hat.mono (by simp) (by simp)).trans h.only
    exact ⟨⟨h.pend, h.bit, h.mode, h.result, ho.regs _ (by decide)⟩, ho⟩
  have hstored : s.accepts n i R.SYS_MODE_REQ (putBit w 31 true) → ∃ t, Only [R.SYS_MODE_REQ] [] s t ∧ Only modeRegs [] s t ∧ t.ses = s.ses ∧
      t.now = (s.at n).now ∧ t.nextTick = s.nextTick ∧ (t.tickNum = s.tickNum ∧ t.sys = s.sys) ∧
      gateWrite i R.SYS_MODE_REQ (putBit w 31 true) (sysModeReq role rights.toNat) (s.at n) =
        sysModeReq role rights.toNat (s.rd R.SYS_MODE_REQ) (putBit w 31 true) t := by
    intro hacc
    obtain ⟨v, hv⟩ := gateWrite_stored (sysModeReq role rights.toNat) hacc (by decide) (by decide)
    have ho := gateState_only (s := s) n R.SYS_MODE_REQ v
    exact ⟨_, ho, ho.mono (by simp) (by simp), rfl, rfl, rfl, ⟨rfl, rfl⟩, hv⟩
  have hlow : bitsOf w 3 0 < 16 := by rw [bitsOf]; omega
  refine ⟨fun hacc h8 hr => ?_, fun hacc h8 hr => ?_, fun h => modeRefusal_quarantine h, fun h2 h5 hq => modeRefusal_dark h2 h5 hq,
    fun h2 h5 hq hr => modeRefusal_right h2 h5 hq hr, fun hacc h8 => ⟨fun h4 hm => ?_, fun h => ?_⟩, fun hm hh ht hr => ?_, fun h => ?_, fun hp hm hh ht hr => ?_,
    fun x hp hm h8 ha hq hx hk hr => ?_, fun hp hm h8 ha h12 hr => ?_, fun hp => ?_⟩
  · obtain ⟨t, ho', ho, hs, hn, ht, htn, hv⟩ := hstored hacc
    rw [sysModeReq_plain hcmd ((hbit 8 (by decide)).trans h8), hfld 3 0 (by decide), hfld 5 4 (by decide), hbit 9 (by decide)] at hv
    have hp := modeRequest_pends (q := q) (s := t) ((ho.modeRefusal hs q).trans hr) hlow
    refine ⟨_, next_congr hv, ⟨hp.pend.trans ?_, hp.bit, hp.mode, hp.result, ?_⟩, (ho.mono (by simp) (by simp)).trans (hp.only.mono (by simp) (by simp))⟩
    · simp only [ticksToA, hn, ht, State.guardNs, ho.rf (a := R.SYS_COMMIT_GUARD) (by decide)]; rfl
    · rw [hp.only.regs _ (by decide), ho.regs _ (by decide)]
  · obtain ⟨t, ho', ho, hs, hn, ht, htn, hv⟩ := hstored hacc
    rw [sysModeReq_plain hcmd ((hbit 8 (by decide)).trans h8), hfld 3 0 (by decide), hfld 5 4 (by decide), hbit 9 (by decide)] at hv
    have e := ho.modeRefusal hs q
    rw [modeRequest_refused (q := q) (s := t) (by rw [e]; exact hr), e] at hv
    obtain ⟨h1, h2, h3, h4⟩ := modeRefused_spec (s := t) (modeRefusal_lt q s)
    exact ⟨_, next_congr hv, h1, by rw [h2, htn.1], h3, h4.trans htn.2, modeRefused_only (ho.mono (by simp) (by simp)) (by simp) (by simp)⟩
  · obtain ⟨t, ho', ho, hs, hn, ht, htn, hv⟩ := hstored hacc
    rw [sysModeReq_force hcmd ((hbit 8 (by decide)).trans h8) ((hfld 3 0 (by decide)).trans h4) (ho.mayForce.trans hm)] at hv
    exact ⟨_, next_congr hv, by rw [← htn.2]; rfl, setSys_only ho'⟩
  · obtain ⟨t, ho', ho, hs, hn, ht, htn, hv⟩ := hstored hacc
    rw [sysModeReq_noForce hcmd ((hbit 8 (by decide)).trans h8) (by rw [hfld 3 0 (by decide), ho.mayForce]; exact h)] at hv
    obtain ⟨h1, h2, h3, h4⟩ := modeRefused_spec (r := 2) (s := t) (by decide)
    exact ⟨_, next_congr hv, h1, h4.trans htn.2, modeRefused_only (ho.mono (by simp) (by simp)) (by simp) (by simp)⟩
  · exact ⟨_, next_congr (netLoss_requests (s := s.at n) hm hh ht), hauto (safeRequest_pends (by decide) hr)⟩
  · exact ⟨_, next_congr (netLoss_quiet (s := s.at n) h), rfl, hat⟩
  · exact ⟨_, next_congr (autoRequest_adaptive (s := s.at n) hp hm hh ht), hauto (safeRequest_pends (by decide) hr)⟩
  · exact ⟨_, next_congr (autoRequest_back (s := s.at n) hp hm h8 ha hq hx hk), hauto (safeRequest_pends (by omega) hr)⟩
  · exact ⟨_, next_congr (autoRequest_start (s := s.at n) hp hm h8 ha h12 hr), hauto (safeRequest_pends (by decide) hr)⟩
  · exact ⟨_, next_congr (autoRequest_busy (s := s.at n) hp), rfl, hat⟩

end Sys2Proof.Machine
end

section
/-! PROOFS. External synchronisation (R199 to R201). -/

namespace Sys2Proof.Machine

variable {l m : List Nat} {s t u : State} {a b hi lo n : Nat} {w : Word}

/-! ### Live statistics that count -/

/-- A counter of a live statistic after an addition, which saturates (R8, R22). -/
theorem bitsOf_stAdd (h : lo ≤ hi) (h32 : hi < 32) :
    bitsOf ((s.stAdd a hi lo n).st a) hi lo = min (bitsOf (s.st a) hi lo + n) (2 ^ (hi + 1 - lo) - 1) := by
  rw [State.stAdd, State.st_stw_self, bitsOf_putBits_self _ _ h h32, satAdd, maxU, Nat.mod_eq_of_lt]
  have := Nat.two_pow_pos (hi + 1 - lo)
  omega

/-! ### The state of synchronisation -/

/-- The state with `sync` replaced. -/
def State.withSync (s : State) (y : SyncSt) : State := { s with sync := y }

@[simp] theorem State.withSync_sync (y : SyncSt) : (s.withSync y).sync = y := rfl
@[simp] theorem State.withSync_now (y : SyncSt) : (s.withSync y).now = s.now := rfl
@[simp] theorem State.withSync_nextTick (y : SyncSt) : (s.withSync y).nextTick = s.nextTick := rfl

theorem Only.withSync {y : SyncSt} (h : Only l m s t) : Only l m s (t.withSync y) := h.record

theorem showSource_cases (s : State) : showSource s = s ∨ ∃ v, showSource s = (s.wf (R.STATUS P.SCN) 1 0 v).irq P.SCN 3 := by
  unfold showSource
  extract_lets r v
  split
  · exact .inl rfl
  · exact .inr ⟨v, rfl⟩

theorem showSource_only (h : Only l m s t) (h1 : R.STATUS P.SCN ∈ l) (h2 : R.IRQ_STAT P.SCN ∈ l) : Only l m s (showSource t) := by
  obtain e | ⟨v, e⟩ := showSource_cases t
  · rw [e]; exact h
  · rw [e]; exact (h.wf h1).irq h2

theorem showSource_fields (s : State) : (showSource s).sync = s.sync ∧ (showSource s).nextTick = s.nextTick := by
  obtain e | ⟨v, e⟩ := showSource_cases s
  · rw [e]; exact ⟨rfl, rfl⟩
  · rw [e]
    simp only [State.irq, State.event, State.wb, State.wf, State.wr_sync, State.note_sync, State.wr_nextTick, State.note_nextTick, and_self]

/-- A window of the SYNC_IN edge (R200): `x` is within `win` of the present time. -/
abbrev nearSync (s : State) (x : Nat) : Prop := x ≤ s.now + s.rf R.SCN_SYNC 25 16 * 1000 ∧ s.now ≤ x + s.rf R.SCN_SYNC 25 16 * 1000

theorem syncEdge_rejected (h1 : s.rf R.SCN_SYNC 1 0 = 1) (hl : ¬ nearSync s s.sync.lastTick) (hn : ¬ nearSync s s.nextTick) :
    syncEdge s = s.stAdd (R.STAT P.SCN 0) 31 16 1 := by
  rw [syncEdge, if_neg (by simpa using h1)]
  simp only [← Bool.decide_and, hl, hn, decide_false, Bool.and_false, Bool.false_eq_true, if_false]

theorem syncEdge_next (h1 : s.rf R.SCN_SYNC 1 0 = 1) (hd : (s.tickNum + 1) % syncDiv s = 0) (hd' : s.tickNum % syncDiv s ≠ 0) (hn : nearSync s s.nextTick) :
    syncEdge s = edgeValid (s.tickNum + 1) ((s.now : Int) - s.nextTick) (s.stAdd (R.STAT P.SCN 0) 15 0 1) := by
  rw [syncEdge, if_neg (by simpa using h1)]
  simp [hd, hd', hn.1, hn.2]

theorem edgeValid_eq (k : Nat) (err : Int) (s : State) : edgeValid k err s = showSource (s.withSync { s.sync with
    missed := 0, valid := if k = s.sync.nextEdge then s.sync.valid else if k = s.sync.nextEdge + syncDiv s then s.sync.valid + 1 else 1, nextEdge := k,
    corr := err, lost := s.sync.lost && decide ((if k = s.sync.nextEdge then s.sync.valid
      else if k = s.sync.nextEdge + syncDiv s then s.sync.valid + 1 else 1) < 8) }) := rfl

theorem syncLost_eq (h1 : s.rf R.SCN_SYNC 1 0 = 1) (h8 : 8 ≤ s.sync.missed) (hl : s.sync.lost = false) :
    syncLost s = raise Src.SCN_SYNC_LOST ((showSource (s.withSync { s.sync with lost := true, valid := 0, corr := 0 })).irq P.SCN 1) := by
  rw [syncLost, if_pos ⟨h1, h8, by simp [hl]⟩, State.withSync]

theorem syncOut_rise (h : s.rb R.SCN_SYNC_OUT 0 = true) (hd : s.tickNum % syncDiv s = 0) :
    ∃ k, syncOut true s = (s.at k).withSync { s.sync with pinOut := true, outUntil := (s.at k).now + max 1 (s.rf R.SCN_SYNC_OUT 15 8) * 1000 } := by
  rw [syncOut]
  simp only [h, hd, if_true, beq_self_eq_true, Bool.and_self]
  exact ⟨_, rfl⟩

/-- Settles O33: each edge by the window it falls into, the loss by the run of missing edges, and the output pulse by its two edges. -/
theorem externalSyncIsFollowedOrLost : Obligations.ExternalSyncIsFollowedOrLost := by
  intro n s
  have hat : Only [] [] s (s.at n) := (Only.refl _ _ _).at
  refine ⟨fun h1 hx => ?_, fun h1 hl hd hd' hn1 hn2 => ?_, fun h1 h8 hl => ?_, fun h hd => ?_, fun h => ?_⟩
  · have hn := fun x hx' => not_and_or.2 (show ¬ x ≤ (s.at n).now + _ ∨ ¬ (s.at n).now ≤ x + _ from (hx x hx').symm.imp Nat.not_le.2 Nat.not_le.2)
    refine ⟨_, next_congr (syncEdge_rejected (s := s.at n) h1 (hn _ (.inl rfl)) (hn _ (.inr rfl))), bitsOf_stAdd (by decide) (by decide), rfl, rfl, ?_⟩
    exact (hat.mono (by simp) (by simp)).stAdd (by simp)
  · refine ⟨_, next_congr ((syncEdge_next (s := s.at n) h1 hd hd' ⟨hn1, hn2⟩).trans (edgeValid_eq ..)), ?_, ?_, ?_, ?_, ?_, ?_, ?_⟩
    · rw [(showSource_fields _).1, State.withSync_sync]
    · rw [(showSource_fields _).1, State.withSync_sync]; rfl
    · rw [(showSource_fields _).1, State.withSync_sync]
      exact congrArg (fun x : Int => x - s.nextTick) (Nat.cast_max ..)
    · rw [(showSource_fields _).1, State.withSync_sync]; rfl
    · have ho : ∀ y, Only [R.STATUS P.SCN, R.IRQ_STAT P.SCN] [] (((s.at n).stAdd (R.STAT P.SCN 0) 15 0 1)) (showSource (((s.at n).stAdd (R.STAT P.SCN 0) 15 0 1).withSync y)) :=
        fun y => showSource_only (Only.withSync (.refl _ _ _)) (by simp) (by simp)
      rw [(ho _).stats _ (by simp)]
      exact bitsOf_stAdd (by decide) (by decide)
    · rw [(showSource_fields _).2]; rfl
    · exact showSource_only (Only.withSync ((hat.mono (by simp) (by simp)).stAdd (by simp))) (by simp) (by simp)
  · refine ⟨_, next_congr (syncLost_eq (s := s.at n) h1 h8 hl), ?_, ?_, State.rb_irq_self (by decide), ?_⟩
    · simp only [State.irq, State.event, State.wb, State.wr_sync, State.note_sync, (showSource_fields _).1, State.withSync_sync]
    · simp only [State.irq, State.event, State.wb, State.wr_sync, State.note_sync, (showSource_fields _).1, State.withSync_sync]
    · exact (showSource_only (Only.withSync (hat.mono (by simp) (by simp))) (by simp) (by simp)).irq (by simp)
  · obtain ⟨k, e⟩ := syncOut_rise (s := s.at n) h hd
    refine ⟨_, next_congr e, rfl, ?_, hat.at.withSync⟩
    simp only [State.withSync_now, State.withSync_sync]
    omega
  · refine ⟨_, next_congr (show syncOut false (s.at n) = ((s.at n).at s.sync.outUntil).withSync { s.sync with pinOut := false } from ?_), rfl, ?_, hat.at.withSync⟩
    · rw [syncOut]; exact (if_neg (by decide)).trans (if_pos h)
    · exact Nat.le_max_right _ _

end Sys2Proof.Machine
end

section
/-! PROOFS. The MARK of a frame and the tags of diverse rectangles (R196, R207, R220). -/

namespace Sys2Proof.Machine

variable {l m : List Nat} {s t u : State} {i : Init} {a n at_ : Nat} {w old v : Word} {k j : Fin 4} {r : Fin 16} {f : TileSt → TileSt}

/-! ### One tile -/

@[simp] theorem setTile_self : (s.setTile k f).tile[k] = f s.tile[k] := by simp [State.setTile]

theorem setTile_of_ne (h : j ≠ k) : (s.setTile k f).tile[j] = s.tile[j] := by
  have h' : k.val ≠ j.val := fun e => h (Fin.ext e.symm)
  simp [State.setTile, h']

@[simp] theorem setTile_rd : (s.setTile k f).rd a = s.rd a := rfl
@[simp] theorem setTile_rf {hi lo : Nat} : (s.setTile k f).rf a hi lo = s.rf a hi lo := rfl
@[simp] theorem setTile_rb {c : Nat} : (s.setTile k f).rb a c = s.rb a c := rfl
@[simp] theorem setTile_frm : (s.setTile k f).frm = s.frm := rfl
@[simp] theorem setTile_frame : (s.setTile k f).frame = s.frame := rfl

/-- A packet that goes out changes the link's own account alone. -/
theorem sendPacket_eq (k : Fin 4) (at_ : Nat) (s : State) (pkt : List Nat) :
    ∃ o fr c, sendPacket k at_ s pkt = s.setTile k fun x => { x with out := o, free := fr, cols := c } := ⟨_, _, _, rfl⟩

@[simp] theorem sendPacket_frm {pkt : List Nat} : (sendPacket k at_ s pkt).frm = s.frm := rfl

/-- A loop over a range in which one element alone acts is that element's step. -/
theorem over_finRange_single {n : Nat} {f : State → Fin n → State} {k : Fin n} (hpre : ∀ j, j ≠ k → f s j = s) (hpost : ∀ j, j ≠ k → f (f s k) j = f s k) :
    s.over (List.finRange n) f = f s k := by
  have hid : ∀ (u : State) (js : List (Fin n)), (∀ j ∈ js, f u j = u) → u.over js f = u := fun u js h =>
    State.over_induct_mem (q := fun x => x = u) rfl fun x j hj hx => by rw [hx, h j hj]
  obtain ⟨l1, l2, hl⟩ := List.append_of_mem (List.mem_finRange k)
  have hnd : (l1 ++ k :: l2).Nodup := hl ▸ List.nodup_finRange n
  have h1 : ∀ j ∈ l1, j ≠ k := fun j hj e => by
    subst e; exact (List.nodup_append.1 hnd).2.2 _ hj _ List.mem_cons_self rfl
  have h2 : ∀ j ∈ l2, j ≠ k := fun j hj e => by
    subst e; exact (List.nodup_cons.1 (List.nodup_append.1 hnd).2.1).1 hj
  rw [hl, State.over, List.foldl_append, List.foldl_cons]
  change State.over (f (s.over l1 f) k) l2 f = _
  rw [hid s l1 fun j hj => hpre j (h1 j hj), hid _ l2 fun j hj => hpost j (h2 j hj)]

/-! ### The MARK -/

theorem markTile_idle (h : (s.tile[k]).sending = false) : markTile s k = s := by
  unfold markTile
  extract_lets x
  exact if_pos (by simp only [x, h, Bool.not_false, Bool.true_or])

theorem restOfFrame_done (h : (s.tile[k]).line = s.lh k) : ∀ n, restOfFrame k n s = s
  | 0 => rfl
  | n + 1 => by
    have hr : lineReady s k = false := by
      simp only [lineReady, h, Nat.lt_irrefl, decide_false, Bool.and_false, Bool.false_and]
    rw [restOfFrame, hr]; rfl

/-- A tile's account after its MARK of a composed frame (R220, R228). -/
def marked (num flags delay len : Nat) (x : TileSt) : TileSt :=
  { x with
    marked := true, markNum := num, markFlags := flags, markDelay := delay, markLen := len, noFstat := x.noFstat + 1,
    seqRead := x.seqRead || x.seqSwitch, seqSwitch := false }

theorem markTile_eq (hs : (s.tile[k]).sending = true) (hu : s.linkUp k = true) (hm : (s.tile[k]).marked = false) (hl : (s.tile[k]).line = s.lh k)
    (hk : s.frm.kind = 1) : ∃ at_ pkt flags delay len, markTile s k =
      ((((sendPacket k at_ s pkt).setTile k (marked s.frame flags delay len)).wb (R.STATUS (P.SCNT k)) 1 false).wb (R.STATUS (P.SCNT k)) 2 false).irq (P.SCNT k) 4 := by
  have hr := restOfFrame_done hl
  have h1 : (s.frm.kind = 2) = False := by simp [hk]
  have h2 : (s.frm.kind == 2) = false := by simp [hk]
  have h3 : (s.frm.kind != 2) = true := by simp [hk]
  simp only [markTile, hs, hu, hm, hr, h1, h2, h3, Bool.not_true, Bool.or_self, Bool.false_eq_true, if_false, Bool.false_and, Bool.true_or,
    decide_false, sendPacket_frm]
  exact ⟨_, _, _, _, _, rfl⟩

/-- The MARK of a tile goes out once, and touches no other tile (R220). -/
theorem markTile_marks (hs : (s.tile[k]).sending = true) (hu : s.linkUp k = true) (hm : (s.tile[k]).marked = false) (hl : (s.tile[k]).line = s.lh k)
    (hk : s.frm.kind = 1) : ((markTile s k).tile[k]).marked = true ∧ ((markTile s k).tile[k]).markNum = s.frame ∧
      ((markTile s k).tile[k]).noFstat = (s.tile[k]).noFstat + 1 ∧ ((markTile s k).tile[k]).seqSwitch = false ∧
      (markTile s k).rb (R.STATUS (P.SCNT k)) 1 = false ∧ (markTile s k).rb (R.IRQ_STAT (P.SCNT k)) 4 = true ∧
      (∀ j, j ≠ k → (markTile s k).tile[j] = s.tile[j]) ∧ Only [R.STATUS (P.SCNT k), R.IRQ_STAT (P.SCNT k)] [] s (markTile s k) := by
  obtain ⟨at_, pkt, flags, delay, len, e⟩ := markTile_eq hs hu hm hl hk
  obtain ⟨o, fr, c, e'⟩ := sendPacket_eq k at_ s pkt
  rw [e'] at e
  have hst : R.STATUS (P.SCNT k) ≠ R.IRQ_STAT (P.SCNT k) := by simp only [R.STATUS, R.IRQ_STAT, R.base]; omega
  have ht : (markTile s k).tile =
      ((s.setTile k fun x => { x with out := o, free := fr, cols := c }).setTile k (marked s.frame flags delay len)).tile := by
    rw [e]; simp only [State.irq, State.event, State.wb, State.wr_tile, State.note_tile]
  refine ⟨?_, ?_, ?_, ?_, ?_, ?_, fun j hj => ?_, ?_⟩
  · rw [ht, setTile_self]; rfl
  · rw [ht, setTile_self]; rfl
  · rw [ht, setTile_self, setTile_self]; rfl
  · rw [ht, setTile_self]; rfl
  · rw [e, State.rb_irq_of_ne hst, State.rb_wb_bit (by decide) (by decide), State.rb_wb_self (by decide)]
  · rw [e]; exact State.rb_irq_self (by decide)
  · rw [ht, setTile_of_ne hj, setTile_of_ne hj]
  · rw [e]
    exact Only.irq (Only.wb (Only.wb (Only.setTile (Only.setTile (.refl _ _ _))) (by simp)) (by simp)) (by simp)

/-! ### Tags of diverse rectangles -/

theorem divTag_tags (h1 : bitsOf w 15 0 = s.frame % 65536) (h2 : (s.tile[k]).divRes[r] = 8) (h3 : (s.tile[k]).calcDone.testBit r = false) :
    divTag k r old w s = s.setTile k fun x => { x with tag := x.tag.set r (some (bitsOf w 15 0, s.rd (R.SCN_RECT_DIV k r))) } := by
  unfold divTag
  extract_lets m v x n
  rw [if_pos ⟨h1, h2⟩, if_neg (by simp only [x, h3]; decide)]

/-- A tag of a rectangle that passes: the decision at once (R207). -/
theorem divTag_passes (h1 : bitsOf w 15 0 = s.frame % 65536) (h2 : (s.tile[k]).divRes[r] = 8) (h3 : (s.tile[k]).calcDone.testBit r = true)
    (h4 : s.rd (R.SCN_RECT_DIV k r) = s.rd (R.SCN_RECT_CALC k r)) :
    divTag k r old w s = rectDecide k r s.frame 1 (s.setTile k fun x => { x with divRes := x.divRes.set r 1, tag := x.tag.set r none }) := by
  unfold divTag
  extract_lets m v x n res res'
  have hp : res = 1 := if_pos h4
  rw [if_pos ⟨h1, h2⟩, if_pos h3, hp]

theorem rectDecide_pass (n : Nat) : rectDecide k r n 1 s = (s.wr (R.SCN_RECT_RES k r) (word (n % 65536 * 65536 + 1))).setTile k fun x =>
    { x with run := x.run.set r 0, told := putMaskBit x.told r false } := by
  simp [rectDecide]

theorem divTag_rws : ∀ (k : Fin 4) (r : Fin 16), maskOf RegDef.rws (R.SCN_RECT_DIV_TAG k r) = 0#32 := by decide +kernel

theorem offOf_divTag (k : Fin 4) (r : Fin 16) : offOf (R.SCN_RECT_DIV_TAG k r) ≠ 0x1c ∧ offOf (R.SCN_RECT_DIV_TAG k r) ≠ 0x20 := by
  simp only [offOf, R.SCN_RECT_DIV_TAG]; omega

/-- Settles O32: the MARK of the one tile that sends, and a tag before and after its rectangle is calculated. -/
theorem marksAndTagsCloseTheFrame : Obligations.MarksAndTagsCloseTheFrame := by
  intro n i k r w s
  have hd : R.SCN_RECT_DIV k r ∉ [R.SCN_RECT_DIV_TAG k r] := by simp only [List.mem_singleton, R.SCN_RECT_DIV, R.SCN_RECT_DIV_TAG]; omega
  have hc : R.SCN_RECT_CALC k r ∉ [R.SCN_RECT_DIV_TAG k r] := by simp only [List.mem_singleton, R.SCN_RECT_CALC, R.SCN_RECT_DIV_TAG]; omega
  refine ⟨fun hs hu hm hl hk hj => ?_, fun hacc h1 h2 h3 => ?_, fun hacc h1 h2 h3 h4 => ?_⟩
  · have hat : Only [] [] s ((s.at n).at ((s.at n).nextTick - 20000)) := Only.at (Only.at (.refl _ _ _))
    obtain ⟨e1, e2, e3, e4, e5, e6, e7, e8⟩ := markTile_marks (s := (s.at n).at ((s.at n).nextTick - 20000)) hs hu hm hl hk
    refine ⟨_, next_congr (over_finRange_single (k := k) (fun j hne => markTile_idle (hj j hne)) fun j hne => markTile_idle ?_), e1, e2, e3, e4, e5, e6, e7,
      (hat.mono (by simp) (by simp)).trans e8⟩
    exact (congrArg TileSt.sending (e7 j hne)).trans (hj j hne)
  · obtain ⟨x, hx⟩ := gateWrite_stored (divTag k r) hacc (offOf_divTag k r) (divTag_rws k r)
    have ho := gateState_only (s := s) n (R.SCN_RECT_DIV_TAG k r) x
    rw [divTag_tags (s := (s.at n).busOk.wr (R.SCN_RECT_DIV_TAG k r) x) h1 h2 h3, ho.regs _ hd] at hx
    refine ⟨_, next_congr hx, ?_, ?_, ho.setTile⟩
    · rw [setTile_self]; simp
    · rw [setTile_self]; rfl
  · obtain ⟨x, hx⟩ := gateWrite_stored (divTag k r) hacc (offOf_divTag k r) (divTag_rws k r)
    have ho := gateState_only (s := s) n (R.SCN_RECT_DIV_TAG k r) x
    rw [divTag_passes (s := (s.at n).busOk.wr (R.SCN_RECT_DIV_TAG k r) x) h1 h2 h3 ((ho.regs _ hd).trans (h4.trans (ho.regs _ hc).symm)), rectDecide_pass] at hx
    refine ⟨_, next_congr hx, ?_, ?_, ?_, Only.setTile (Only.wr (Only.setTile (ho.mono (by simp) (by simp))) (by simp))⟩
    · rw [setTile_self, State.wr_tile, setTile_self]; simp
    · rw [setTile_self]; simp
    · rw [setTile_rd, State.rd_wr_self]; rfl

end Sys2Proof.Machine
end

section
/-! PROOFS. The planner's timer and the accumulators of the energy ledger (R356, R358). -/

namespace Sys2Proof.Machine

variable {l m : List Nat} {s t u : State} {i : Init} {a n at_ : Nat} {w old : Word} {f : NrgSt → NrgSt}

@[simp] theorem setNrg_nrg : (s.setNrg f).nrg = f s.nrg := rfl

theorem setNrg_only (h : Only l m s t) : Only l m s (t.setNrg f) := h.record

/-! ### The planner -/

theorem planStale_raises (he : s.en P.NRG = true) (hp : s.pageOn P.NRG = true) (h0 : s.rb R.NRG_PLAN_STAT 0 = false)
    (ht : s.nrg.allowAt + s.rf R.NRG_PLAN_CFG 23 16 * 60000000000 ≤ s.now) :
    planStale s = raise Src.ENERGY_PLAN_STALE ((s.wb R.NRG_PLAN_STAT 0 true).irq P.NRG 2) := by
  unfold planStale
  extract_lets lim
  exact if_pos (by simp [he, hp, h0, lim, ht])

theorem planStale_early (ht : s.now < s.nrg.allowAt + s.rf R.NRG_PLAN_CFG 23 16 * 60000000000) : planStale s = s := by
  unfold planStale
  extract_lets lim
  exact if_neg (by simp only [lim, Bool.and_eq_true, decide_eq_true_eq]; omega)

theorem legalize_nrgAllow (w : Word) : legalize R.NRG_ALLOW w = w := by
  rw [legalize, if_neg (by decide), if_neg (by decide), if_neg (by decide), cpuLegal]
  exact if_pos (by decide)

/-! ### The accumulators -/

/-- The registers that show accumulators. -/
abbrev accRegs : List Nat := [R.NRG_ACC_HOUR_LO, R.NRG_LAST_HOUR_LO, R.NRG_ACC_NIGHT_LO, R.NRG_LAST_NIGHT_LO, R.NRG_ACC_TOTAL_LO]

theorem showAcc_only (h : Only l m s t) (hl : ∀ a ∈ accRegs, a ∈ l) : Only l m s (showAcc t) :=
  ((((h.wr (hl _ (by simp))).wr (hl _ (by simp))).wr (hl _ (by simp))).wr (hl _ (by simp))).wr (hl _ (by simp))

theorem showAcc_nrg : (showAcc s).nrg = s.nrg := by simp only [showAcc, State.wr_nrg]

theorem showAcc_rd (s : State) : (showAcc s).rd R.NRG_ACC_HOUR_LO = word s.nrg.hour ∧ (showAcc s).rd R.NRG_LAST_HOUR_LO = word s.nrg.lastHour ∧
    (showAcc s).rd R.NRG_ACC_NIGHT_LO = word s.nrg.night ∧ (showAcc s).rd R.NRG_LAST_NIGHT_LO = word s.nrg.lastNight := by
  refine ⟨?_, ?_, ?_, ?_⟩
  · rw [showAcc, State.rd_wr_of_ne _ (by decide), State.rd_wr_of_ne _ (by decide), State.rd_wr_of_ne _ (by decide), State.rd_wr_of_ne _ (by decide), State.rd_wr_self]
  · rw [showAcc, State.rd_wr_of_ne _ (by decide), State.rd_wr_of_ne _ (by decide), State.rd_wr_of_ne _ (by decide), State.rd_wr_self]
  · rw [showAcc, State.rd_wr_of_ne _ (by decide), State.rd_wr_of_ne _ (by decide), State.rd_wr_self]
  · rw [showAcc, State.rd_wr_of_ne _ (by decide), State.rd_wr_self]

/-- A rollover: the ledger's accumulators by `f`, its event, and what shows them. -/
def rolled (f : NrgSt → NrgSt) (b : Nat) (s : State) : State := showAcc ((s.setNrg f).irq P.NRG b)

theorem irq_nrg {p b : Nat} : (s.irq p b).nrg = s.nrg := by simp only [State.irq, State.event, State.wb, State.wr_nrg, State.note_nrg]

theorem rolled_only {b : Nat} (h : Only l m s t) (hl : ∀ a ∈ accRegs, a ∈ l) (hi : R.IRQ_STAT P.NRG ∈ l) : Only l m s (rolled f b t) :=
  showAcc_only ((setNrg_only h).irq hi) hl

theorem rolled_spec {b : Nat} (hb : b < 32) : (rolled f b s).nrg = f s.nrg ∧ (rolled f b s).rb (R.IRQ_STAT P.NRG) b = true ∧
    (rolled f b s).rd R.NRG_ACC_HOUR_LO = word (f s.nrg).hour ∧ (rolled f b s).rd R.NRG_LAST_HOUR_LO = word (f s.nrg).lastHour ∧
    (rolled f b s).rd R.NRG_ACC_NIGHT_LO = word (f s.nrg).night ∧ (rolled f b s).rd R.NRG_LAST_NIGHT_LO = word (f s.nrg).lastNight := by
  have hn : ((s.setNrg f).irq P.NRG b).nrg = f s.nrg := irq_nrg
  obtain ⟨h1, h2, h3, h4⟩ := showAcc_rd ((s.setNrg f).irq P.NRG b)
  rw [hn] at h1 h2 h3 h4
  have ho : Only accRegs [] ((s.setNrg f).irq P.NRG b) (rolled f b s) := showAcc_only (.refl _ _ _) fun _ h => h
  exact ⟨showAcc_nrg.trans hn, (ho.rb (by decide)).trans (State.rb_irq_self hb), h1, h2, h3, h4⟩

theorem hourRoll_eq (he : s.en P.NRG = true) (hp : s.pageOn P.NRG = true) (hh : hourNow s ≠ s.nrg.hourIdx) :
    hourRoll s = rolled (fun x => { x with lastHour := x.hour, hour := 0, hourIdx := hourNow s, hourAt := s.now - hourAge s }) 3 s := by
  rw [hourRoll, if_neg (by simp [he, hp, hh]), rolled]

theorem nightOver_eq (k : Nat) (s : State) : nightOver k s = rolled (fun x => { x with lastNight := x.night, night := 0, nightAt := k }) 4 s := rfl

theorem nightRoll_eq (he : s.en P.NRG = true) (hp : s.pageOn P.NRG = true) (hh : nightNow s ≠ s.nrg.nightIdx) (ht : s.sync.lastTick + nightAge s < s.now) :
    nightRoll s = nightOver (s.now - nightAge s) (s.setNrg fun x => { x with nightIdx := nightNow s }) := by
  rw [nightRoll, if_neg (by simp [he, hp, hh]; omega)]

/-- A night's rollover of a state that shares its accumulators with `s`. -/
theorem nightOver_spec {x : State} {k : Nat} (hn : x.nrg.night = s.nrg.night) (hh : x.nrg.hour = s.nrg.hour) (ht : x.nrg.total = s.nrg.total)
    (ho : Only l m s x) (hl : ∀ a ∈ accRegs, a ∈ l) (hi : R.IRQ_STAT P.NRG ∈ l) :
    (nightOver k x).nrg.lastNight = s.nrg.night ∧ (nightOver k x).nrg.night = 0 ∧ (nightOver k x).nrg.hour = s.nrg.hour ∧
      (nightOver k x).nrg.total = s.nrg.total ∧ (nightOver k x).rd R.NRG_LAST_NIGHT_LO = word s.nrg.night ∧ (nightOver k x).rd R.NRG_ACC_NIGHT_LO = 0#32 ∧
      (nightOver k x).rb (R.IRQ_STAT P.NRG) 4 = true ∧ Only l m s (nightOver k x) := by
  rw [nightOver_eq]
  obtain ⟨h1, h2, -, -, h5, h6⟩ := rolled_spec (f := fun x => { x with lastNight := x.night, night := 0, nightAt := k }) (b := 4) (s := x) (by decide)
  rw [h1]
  exact ⟨hn, rfl, hh, ht, h6.trans (congrArg word hn), h5, h2, rolled_only ho hl hi⟩

/-- Settles O44: the planner by its timer, and each rollover as one update of the accumulators and their show. -/
theorem plannerAndAccumulatorsFollowTheirTimes : Obligations.PlannerAndAccumulatorsFollowTheirTimes := by
  refine ⟨fun n i w s => ⟨fun hacc => ?_, fun he hp h0 ht => ?_, fun ht => ?_⟩, fun n i s => ?_⟩
  · refine ⟨_, next_congr (gateWrite_plain nrgAllow hacc (by decide) (by decide)), rfl, ?_, ?_, rfl, rfl, ?_⟩
    · rw [nrgAllow, State.rb_wr_self]; decide
    · rw [nrgAllow, State.rd_wr_of_ne _ (by decide), legalize_nrgAllow]
      exact State.rd_wr_self ..
    · exact Only.wr (setNrg_only ((gateState_only n _ _).mono (by simp) (by simp))) (by simp)
  · have hat : Only [] [] s (s.at n) := (Only.refl _ _ _).at
    refine ⟨_, next_congr (planStale_raises (s := s.at n) he hp h0 ht), ?_, State.rb_irq_self (by decide),
      ((hat.mono (by simp) (by simp)).wb (by simp)).irq (by simp)⟩
    rw [State.rb_irq_of_ne (by decide), State.rb_wb_self (by decide)]
  · exact ⟨_, next_congr (planStale_early (s := s.at n) ht), rfl, (Only.refl _ _ _).at⟩
  · intro shown
    have hat : Only shown [] s (s.at n) := (Only.refl _ _ _).at
    refine ⟨fun he hp hh => ?_, fun he hp hh ht => ?_, fun hacc => ?_⟩
    · obtain ⟨h1, h2, h3, h4, -, -⟩ := rolled_spec (f := fun x => { x with lastHour := x.hour, hour := 0, hourIdx := hourNow (s.at n), hourAt := (s.at n).now - hourAge (s.at n) })
        (b := 3) (s := s.at n) (by decide)
      refine ⟨_, next_congr (hourRoll_eq (s := s.at n) he hp hh), ?_, ?_, ?_, ?_, h4, h3, h2, rolled_only hat (by simp [shown]) (by simp [shown])⟩ <;> rw [h1] <;> rfl
    · exact ⟨_, next_congr (nightRoll_eq (s := s.at n) he hp hh ht), nightOver_spec rfl rfl rfl (setNrg_only hat) (by simp [shown]) (by simp [shown])⟩
    · obtain ⟨x, hx⟩ := gateWrite_stored nrgAccCtrl hacc (by decide) (by decide)
      refine ⟨_, next_congr (hx.trans (if_pos (by decide))), nightOver_spec rfl rfl rfl ((gateState_only n _ x).mono (by simp) (by simp)) (by simp [shown]) (by simp [shown])⟩

end Sys2Proof.Machine
end

section
/-! PROOFS. The DALI port and its cross-check (R359 to R361). -/

namespace Sys2Proof.Machine

variable {l m : List Nat} {s t u : State} {i : Init} {a n r result data energy power : Nat} {w old : Word} {f : DaliSt → DaliSt} {x : DaliTx}
  {rest : List DaliTx} {sc : D4iScale}

@[simp] theorem setDali_dali : (s.setDali f).dali = f s.dali := rfl

@[simp] theorem setDali_rf {hi lo : Nat} : (s.setDali f).rf a hi lo = s.rf a hi lo := rfl

theorem setDali_only (h : Only l m s t) : Only l m s (t.setDali f) := h.record

theorem irq_dali {p b : Nat} : (s.irq p b).dali = s.dali := by simp only [State.irq, State.event, State.wb, State.wr_dali, State.note_dali]

theorem raiseIf_false (n : Nat) (s : State) : raiseIf false n s = s := rfl

theorem raiseIf_true (n : Nat) (s : State) : raiseIf true n s = raise n s := rfl

/-! ### What the port shows -/

theorem showDali_cases (s : State) : showDali s = s ∨ showDali s = s.wf R.DALI_RX 17 16 2 := by
  rw [showDali]
  split
  · split
    · exact .inr rfl
    · exact .inl rfl
  · exact .inl rfl

theorem showDali_only (h : Only l m s t) (ha : R.DALI_RX ∈ l) : Only l m s (showDali t) := by
  obtain e | e := showDali_cases t <;> rw [e]
  · exact h
  · exact h.wf ha

theorem showDali_dali : (showDali s).dali = s.dali := by
  obtain e | e := showDali_cases s <;> rw [e]
  simp only [State.wf, State.wr_dali]

/-- The fields of DALI_RX below its state. -/
theorem showDali_rx {hi lo : Nat} (h : hi < 16) : (showDali s).rf R.DALI_RX hi lo = s.rf R.DALI_RX hi lo := by
  obtain e | e := showDali_cases s <;> rw [e]
  rw [State.rf_wf_disjoint (by decide) (by decide) (.inr h)]

theorem showDali_rd (h : a ≠ R.DALI_RX) : (showDali s).rd a = s.rd a :=
  (showDali_only (l := [R.DALI_RX]) (m := []) (.refl _ _ _) (by simp)).regs a (by simpa using h)

theorem showDali_busy (h : s.rf R.DALI_RX 17 16 ≠ 0) : (showDali s).rf R.DALI_RX 17 16 ≠ 0 := by
  obtain e | e := showDali_cases s <;> rw [e]
  · exact h
  · rw [State.rf_wf_self (by decide) (by decide)]; decide

/-! ### Transactions that wait -/

theorem daliTx_eq (h : bitOf w 31 = true) (he : s.en P.DALI = true) : daliTx old w s =
    showDali ((s.setDali fun x => { x with queue := x.queue ++ [⟨true, bitsOf w 23 0, bitOf w 24, bitOf w 29, bitOf w 28⟩] }).wf R.DALI_RX 17 16 1) := by
  rw [daliTx, if_pos (by simp [h, he])]

theorem daliPoll_due (he : s.en P.DALI = true) (hp : s.pageOn P.DALI = true) (h0 : s.rb R.DALI_POLL_CFG 0 = true)
    (hx : ∀ x, s.dali.polled = some x → x + pollSec s * 10 ^ 9 ≤ s.now) :
    daliPoll s = showDali (s.setDali fun x => { x with queue := x.queue ++ [⟨false, 0, false, false, false⟩], polled := some s.now }) := by
  unfold daliPoll
  extract_lets due
  have hd : due = true := by
    cases h : s.dali.polled with
    | none => simp only [due, h]
    | some x => simpa only [due, h, decide_eq_true_eq] using hx x h
  exact if_pos (by simp [he, hp, h0, hd])

theorem daliPoll_early {x : Nat} (h : s.dali.polled = some x) (hx : s.now < x + pollSec s * 10 ^ 9) : daliPoll s = s := by
  unfold daliPoll
  extract_lets due
  have hd : due = false := by simpa only [due, h, decide_eq_false_iff_not, Nat.not_le] using hx
  exact if_neg (by simp [hd])

/-! ### Transactions that end -/

/-- The port with the transaction at its front gone. -/
def daliGone (x : DaliTx) (rest : List DaliTx) (s : State) : State :=
  s.setDali fun d => { d with queue := rest, carried := if x.raw then daliFrames x else pollFrames s }

/-- A raw command ends with result `r` (R359). -/
def rawDone (r data : Nat) (s : State) : State :=
  (s.wr R.DALI_RX (word (3 * 65536 + r * 256 + (if r = 1 then data % 256 else s.rf R.DALI_RX 7 0)))).irq P.DALI 0

theorem daliDone_raw (hq : s.dali.queue = x :: rest) (hx : x.raw = true) (he : s.en P.DALI = true) (hp : s.pageOn P.DALI = true) :
    daliDone result data energy power sc s =
      showDali (rawDone (if s.dali.fail then 3 else if x.reply then min 2 result else 0) data (daliGone x rest s)) := by
  rw [daliDone, hq]
  simp only [he, hp, hx, Bool.not_true, Bool.or_self, Bool.false_eq_true, if_false, if_true, Bool.true_and, rawDone, daliGone]
  cases hr : x.reply <;> rfl

theorem daliDone_poll (hq : s.dali.queue = x :: rest) (hx : x.raw = false) (he : s.en P.DALI = true) (hp : s.pageOn P.DALI = true) :
    daliDone result data energy power sc s =
      showDali (pollDone (if s.dali.fail then 3 else min 2 result) energy power sc (daliGone x rest s)) := by
  rw [daliDone, hq]
  simp only [he, hp, hx, Bool.not_true, Bool.or_self, Bool.false_eq_true, if_false, Bool.false_and, daliGone]
  rfl

theorem rawDone_spec (hr : r < 4) (hd : data < 256) :
    (showDali (rawDone r data s)).dali = s.dali ∧ (showDali (rawDone r data s)).rf R.DALI_RX 9 8 = r ∧
    (showDali (rawDone r data s)).rb (R.IRQ_STAT P.DALI) 0 = true ∧
    (showDali (rawDone r data s)).rf R.DALI_RX 7 0 = (if r = 1 then data else s.rf R.DALI_RX 7 0) := by
  have hlow : (if r = 1 then data % 256 else s.rf R.DALI_RX 7 0) < 256 := by
    split
    · omega
    · simp only [State.rf, bitsOf]; omega
  refine ⟨?_, ?_, ?_, ?_⟩
  · rw [showDali_dali, rawDone, irq_dali, State.wr_dali]
  · rw [showDali_rx (by decide), rawDone, State.rf_irq_of_ne (by decide), State.rf_wr_self, bitsOf, word, BitVec.toNat_ofNat]
    omega
  · rw [State.rb, showDali_rd (by decide)]; exact State.rb_irq_self (by decide)
  · rw [showDali_rx (by decide), rawDone, State.rf_irq_of_ne (by decide), State.rf_wr_self, bitsOf, word, BitVec.toNat_ofNat]
    split at hlow <;> rename_i h <;> simp only [h, if_true, if_false] <;> omega

theorem rawDone_only (h : Only l m s t) (ha : R.DALI_RX ∈ l) (hi : R.IRQ_STAT P.DALI ∈ l) : Only l m s (showDali (rawDone r data t)) :=
  showDali_only ((h.wr ha).irq hi) ha

/-- A poll's result as it is shown (R360). -/
def pollShown (r : Nat) (s : State) : State := (s.wr R.DALI_POLL_STAT (word (s.tick16 * 65536 + r % 16))).irq P.DALI 1

theorem pollShown_spec (hr : r < 16) : (pollShown r s).dali = s.dali ∧ (pollShown r s).rf R.DALI_POLL_STAT 3 0 = r ∧
    (pollShown r s).rf R.DALI_POLL_STAT 31 16 = s.tickNum % 65536 ∧ (pollShown r s).rb (R.IRQ_STAT P.DALI) 1 = true := by
  have ht : s.tick16 = s.tickNum % 65536 := rfl
  refine ⟨by rw [pollShown, irq_dali, State.wr_dali], ?_, ?_, State.rb_irq_self (by decide)⟩ <;>
  · rw [pollShown, State.rf_irq_of_ne (by decide), State.rf_wr_self, bitsOf, word, BitVec.toNat_ofNat]
    omega

theorem pollShown_only (h : Only l m s t) (ha : R.DALI_POLL_STAT ∈ l) (hi : R.IRQ_STAT P.DALI ∈ l) : Only l m s (pollShown r t) := (h.wr ha).irq hi

/-- The port after a good poll (R360, R361). -/
def pollGood (energy : Nat) (sc : D4iScale) (s : State) : State :=
  let e := scaled 64 sc.energy (energy % 2 ^ 48)
  let m : PollMark := ⟨s.now, e, s.nrg.total⟩
  s.setDali fun x => { x with misses := 0, last := some m, start := some (x.start.getD m), late := false, shown := e }

theorem pollGood_only (h : Only l m s t) : Only l m s (pollGood energy sc t) := h.record

/-- The registers of a good poll (R360). -/
def pollData (energy power : Nat) (sc : D4iScale) (s : State) : State :=
  ((s.wr R.DALI_D4I_POWER (word (scaled 32 sc.power (power % 2 ^ 32)))).wr R.DALI_D4I_ENERGY_LO (word (scaled 64 sc.energy (energy % 2 ^ 48)))).wr R.DALI_D4I_RES
    (word (scaled 32 sc.energy 1))

/-- The port after a poll that failed. -/
def pollMissed (s : State) : State := s.setDali fun x => { x with misses := s.dali.misses + 1, spoilt := true, late := true }

/-- The result of a poll that a reply's data decide (R360). -/
abbrev pollResult (r energy power : Nat) : Nat := if r = 0 && (absent 48 energy || absent 32 power) then 2 else r

theorem pollDone_good (h : pollResult r energy power = 0) :
    pollDone r energy power sc s = pollData energy power sc (pollGood energy sc (pollShown 0 s)) := by
  rw [pollDone]
  simp only [pollResult] at h
  simp only [h, if_true]
  rfl

theorem pollDone_missed {k : Nat} (h : pollResult r energy power = k) (hk : k ≠ 0) :
    pollDone r energy power sc s = raiseIf (s.dali.misses + 1 == 3) Src.DALI_NO_REPLY (pollMissed (pollShown k s)) := by
  have hm : (pollShown k s).dali.misses = s.dali.misses := by rw [pollShown, irq_dali, State.wr_dali]
  rw [← hm, pollDone]
  simp only [pollResult] at h
  simp only [h, if_neg hk]
  rfl

theorem pollData_rd (s : State) : (pollData energy power sc s).rd R.DALI_D4I_POWER = word (scaled 32 sc.power (power % 2 ^ 32)) ∧
    (pollData energy power sc s).rd R.DALI_D4I_ENERGY_LO = word (scaled 64 sc.energy (energy % 2 ^ 48)) ∧
    (pollData energy power sc s).rd R.DALI_D4I_RES = word (scaled 32 sc.energy 1) := by
  refine ⟨?_, ?_, ?_⟩
  · rw [pollData, State.rd_wr_of_ne _ (by decide), State.rd_wr_of_ne _ (by decide), State.rd_wr_self]
  · rw [pollData, State.rd_wr_of_ne _ (by decide), State.rd_wr_self]
  · rw [pollData, State.rd_wr_self]

theorem pollData_only (h : Only l m s t) (h1 : R.DALI_D4I_POWER ∈ l) (h2 : R.DALI_D4I_ENERGY_LO ∈ l) (h3 : R.DALI_D4I_RES ∈ l) :
    Only l m s (pollData energy power sc t) := ((h.wr h1).wr h2).wr h3

theorem pollData_dali : (pollData energy power sc s).dali = s.dali := by simp only [pollData, State.wr_dali]

/-! ### The cross-check -/

/-- The outcome of a window that is over (R361): the driver's energy, the ledger's and the auxiliary power's. -/
def xcheckEnd (b : PollMark) (drv den : Nat) (s : State) : State :=
  let bad := decide (drv < 20 * (s.rd R.DALI_D4I_RES).toNat) || s.dali.spoilt || den == 0
  let ratio := satU 16 (rndDiv (drv * 3600000000 * 1000 * 2 ^ 14 : Nat) den)
  let out := decide (ratio < s.rf R.DALI_XCHK_CFG 15 0) || decide (s.rf R.DALI_XCHK_CFG 31 16 < ratio)
  let s := s.setDali fun x => { x with start := some b, spoilt := x.late }
  let st := R.DALI_XCHK_STAT
  if bad then s.wf st 9 8 3
  else
    let run := if out then min 255 (s.rf st 7 0 + 1) else 0
    let hit := out && run == max 1 (s.rf R.DALI_XCHK_WIN 7 0) && s.rf st 7 0 != run
    let s := s.wr st (word (ratio * 65536 + (if out then 2 else 1) * 256 + run))
    if hit then raise Src.ENERGY_XCHECK (s.irq P.DALI 3) else s

theorem xcheck_eq {a b : PollMark} (ha : s.dali.start = some a) (hb : s.dali.last = some b) (he : s.en P.DALI = true) (hp : s.pageOn P.DALI = true)
    (ht : a.time + s.rf R.DALI_XCHK_WIN 31 16 * 10 ^ 9 ≤ s.now) (hab : a.total ≤ b.total) (hb64 : b.total < 2 ^ 64) :
    xcheck s = xcheckEnd b (b.energy - a.energy) ((b.total - a.total) * 1000 + (s.rd R.DALI_XCHK_AUX).toNat * (b.time - a.time)) s := by
  have hd : (b.total + 2 ^ 64 - a.total) % 2 ^ 64 = b.total - a.total := by omega
  rw [xcheck, ha, hb]
  simp only [he, hp, hd, Bool.not_true, Bool.or_self, Bool.false_or, decide_eq_true_eq, if_neg (Nat.not_lt.2 ht)]
  rfl

section
variable {b : PollMark} {drv den : Nat}

/-- The window's ratio (R361). -/
abbrev xcheckRatio (drv den : Nat) : Nat := satU 16 (rndDiv (drv * 3600000000 * 1000 * 2 ^ 14 : Nat) den)

/-- The window's ratio lies within its bounds. -/
abbrev xcheckInside (drv den : Nat) (s : State) : Prop :=
  s.rf R.DALI_XCHK_CFG 15 0 ≤ xcheckRatio drv den ∧ xcheckRatio drv den ≤ s.rf R.DALI_XCHK_CFG 31 16

/-- The window's data stand. -/
abbrev xcheckSound (drv den : Nat) (s : State) : Prop := 20 * (s.rd R.DALI_D4I_RES).toNat ≤ drv ∧ s.dali.spoilt = false ∧ den ≠ 0

/-- The port with the next window begun at `b`. -/
def xcheckNext (b : PollMark) (s : State) : State := s.setDali fun x => { x with start := some b, spoilt := x.late }

theorem xcheckBad_iff : (decide (drv < 20 * (s.rd R.DALI_D4I_RES).toNat) || s.dali.spoilt || den == 0) = false ↔ xcheckSound drv den s := by
  simp [xcheckSound, and_assoc]

theorem xcheckOut_iff : (decide (xcheckRatio drv den < s.rf R.DALI_XCHK_CFG 15 0) || decide (s.rf R.DALI_XCHK_CFG 31 16 < xcheckRatio drv den)) = false ↔
    xcheckInside drv den s := by
  rw [Bool.or_eq_false_iff, decide_eq_false_iff_not, decide_eq_false_iff_not, Nat.not_lt, Nat.not_lt]

theorem xcheckEnd_skipped (h : ¬ xcheckSound drv den s) : xcheckEnd b drv den s = (xcheckNext b s).wf R.DALI_XCHK_STAT 9 8 3 := by
  rw [← xcheckBad_iff, Bool.not_eq_false] at h
  unfold xcheckEnd
  extract_lets bad
  exact if_pos h

theorem xcheckEnd_in (h : xcheckSound drv den s) (hi : xcheckInside drv den s) :
    xcheckEnd b drv den s = (xcheckNext b s).wr R.DALI_XCHK_STAT (word (xcheckRatio drv den * 65536 + 1 * 256 + 0)) := by
  have ho := xcheckOut_iff.2 hi
  have hb := xcheckBad_iff.2 h
  simp only [xcheckRatio] at ho
  simp only [xcheckEnd, hb, ho, Bool.false_and, Bool.false_eq_true, if_false]
  rfl

theorem xcheckEnd_out (h : xcheckSound drv den s) (hi : ¬ xcheckInside drv den s)
    (hr : s.rf R.DALI_XCHK_STAT 7 0 + 1 < max 1 (s.rf R.DALI_XCHK_WIN 7 0)) :
    xcheckEnd b drv den s =
      (xcheckNext b s).wr R.DALI_XCHK_STAT (word (xcheckRatio drv den * 65536 + 2 * 256 + (s.rf R.DALI_XCHK_STAT 7 0 + 1))) := by
  have hb := xcheckBad_iff.2 h
  rw [← xcheckOut_iff, Bool.not_eq_false] at hi
  simp only [xcheckRatio] at hi
  have hw : s.rf R.DALI_XCHK_WIN 7 0 < 256 := by rw [State.rf, bitsOf]; omega
  have hm : min 255 (s.rf R.DALI_XCHK_STAT 7 0 + 1) = s.rf R.DALI_XCHK_STAT 7 0 + 1 := by omega
  have hn : (s.rf R.DALI_XCHK_STAT 7 0 + 1 == max 1 (s.rf R.DALI_XCHK_WIN 7 0)) = false := by rw [beq_eq_false_iff_ne]; omega
  simp only [xcheckEnd, hb, hi, if_true, Bool.false_eq_true, if_false, xcheckNext, setDali_rf, hm, hn, Bool.and_false, Bool.false_and, xcheckRatio]

theorem xcheckRatio_lt : xcheckRatio drv den < 65536 := by
  simp only [xcheckRatio, satU, maxU]
  split <;> omega

theorem xcheckShown {k run : Nat} (hk : k < 4) (hr : run < 256) (x : State) :
    (x.wr R.DALI_XCHK_STAT (word (xcheckRatio drv den * 65536 + k * 256 + run))).rf R.DALI_XCHK_STAT 31 16 = xcheckRatio drv den ∧
    (x.wr R.DALI_XCHK_STAT (word (xcheckRatio drv den * 65536 + k * 256 + run))).rf R.DALI_XCHK_STAT 9 8 = k ∧
    (x.wr R.DALI_XCHK_STAT (word (xcheckRatio drv den * 65536 + k * 256 + run))).rf R.DALI_XCHK_STAT 7 0 = run := by
  have hx := xcheckRatio_lt (drv := drv) (den := den)
  generalize xcheckRatio drv den = q at hx
  refine ⟨?_, ?_, ?_⟩ <;>
  · rw [State.rf_wr_self, bitsOf, word, BitVec.toNat_ofNat]
    omega

end

/-- Settles O45: what waits, how the transaction at the front ends, and a window's outcome. -/
theorem daliPortQueuesAndAnswers : Obligations.DaliPortQueuesAndAnswers := by
  intro n i w s on now
  have hat : Only [] [] s (s.at n) := (Only.refl _ _ _).at
  have hbit : ∀ b, b ≠ 31 → bitOf (putBit w 31 true) b = bitOf w b := fun b hb => bitOf_putBit_of_ne _ _ (by decide) hb
  refine ⟨fun hacc he => ?_, fun ⟨he, hp⟩ h0 hx => ?_, fun x hx ht => ?_, fun result data energy power sc x rest hq hx ⟨he, hp⟩ => ?_,
    fun result data energy power sc x rest hq hx ⟨he, hp⟩ => ?_, fun ⟨he, hp⟩ hf => ?_, ?_, fun a b ha hb ⟨he, hp⟩ ht hab h64 => ?_⟩
  · obtain ⟨v, hv⟩ := gateWrite_stored daliTx hacc (by decide) (by decide)
    have ho : Only [R.DALI_TX] [] s ((s.at n).busOk.wr R.DALI_TX v) := gateState_only ..
    have hd : ((s.at n).busOk.wr R.DALI_TX v).dali = s.dali := rfl
    generalize (s.at n).busOk.wr R.DALI_TX v = t at hv ho hd
    rw [daliTx_eq (bitOf_putBit_self _ _ (by decide)) ((ho.en (by decide)).trans he), bitsOf_putBit_of_disjoint _ _ (by decide) (by decide),
      hbit _ (by decide), hbit _ (by decide), hbit _ (by decide)] at hv
    refine ⟨_, next_congr hv, ?_, showDali_busy ?_, ?_, showDali_only (Only.wf (setDali_only (ho.mono (by simp) (by simp))) (by simp)) (by simp)⟩
    · rw [showDali_dali, State.wf, State.wr_dali, setDali_dali, hd]
    · rw [State.rf_wf_self (by decide) (by decide)]; decide
    · rw [showDali_dali, State.wf, State.wr_dali, setDali_dali, hd]
  · refine ⟨_, next_congr (daliPoll_due (s := s.at n) he hp h0 hx), ?_, ?_, showDali_only (setDali_only (hat.mono (by simp) (by simp))) (by simp)⟩
    · rw [showDali_dali]; rfl
    · rw [showDali_dali]; rfl
  · exact ⟨_, next_congr (daliPoll_early (s := s.at n) hx ht), rfl, hat⟩
  · intro ends
    have hdone : ∀ r, r < 4 → (if s.dali.fail then 3 else if x.reply then min 2 result.val else 0) = r →
        ∃ u, exec (.daliTransactionDone n result data energy power sc) s = .next u ∧ ends r u := by
      intro r hr e
      have hd := daliDone_raw (s := s.at n) (result := result) (data := data) (energy := energy) (power := power) (sc := sc) hq hx he hp
      have e' : (if (s.at n).dali.fail then 3 else if x.reply then min 2 result.val else 0) = r := e
      rw [e'] at hd
      obtain ⟨h1, h2, h3, h4⟩ := rawDone_spec (r := r) (s := daliGone x rest (s.at n)) hr data.isLt
      refine ⟨_, next_congr hd, ?_, ?_, h2, h3, h4, rawDone_only (setDali_only (hat.mono (by simp) (by simp))) (by simp) (by simp)⟩
      · rw [h1]; rfl
      · rw [h1]; exact if_pos hx
    exact ⟨fun hf hr => hdone _ (by omega) (by rw [hf, hr]; rfl), fun hf hr => hdone _ (by omega) (by rw [hf, hr]; rfl), fun hf => hdone _ (by omega) (by rw [hf]; rfl)⟩
  · intro gone k shows regs
    have hk : pollResult (if s.dali.fail then 3 else min 2 result.val) energy power = k := by
      have hm : min 2 result.val = 0 ↔ result.val = 0 := by omega
      simp only [k, gone, pollResult, Bool.and_eq_true, decide_eq_true_eq, Bool.or_eq_true]
      cases s.dali.fail
      · by_cases h0 : result.val = 0 <;> simp [h0, hm]
      · rfl
    have hk16 : k < 16 := by
      rw [← hk]
      exact ite_lt (by decide) (ite_lt (by decide) (by omega))
    have hd := daliDone_poll (s := s.at n) (result := result) (data := data) (energy := energy) (power := power) (sc := sc) hq hx he hp
    obtain ⟨p1, p2, p3, p4⟩ := pollShown_spec (r := k) (s := daliGone x rest (s.at n)) hk16
    have po : Only regs [] s (pollShown k (daliGone x rest (s.at n))) :=
      pollShown_only (setDali_only (hat.mono (by simp) (by simp))) (by simp [regs]) (by simp [regs])
    have pq : (pollShown k (daliGone x rest (s.at n))).dali.queue = rest := by rw [p1]; rfl
    have pm : (pollShown k (daliGone x rest (s.at n))).dali.misses = s.dali.misses := by rw [p1]; rfl
    refine ⟨fun h0 => ?_, fun h0 hm => ?_, fun h0 hm => ?_⟩
    · have e := pollDone_good (sc := sc) (s := daliGone x rest (s.at n)) (hk.trans h0)
      rw [← h0] at e
      obtain ⟨g1, g2, g3⟩ := pollData_rd (energy := energy) (power := power) (sc := sc) (pollGood energy sc (pollShown k (daliGone x rest (s.at n))))
      have go : Only [R.DALI_D4I_POWER, R.DALI_D4I_ENERGY_LO, R.DALI_D4I_RES] [] (pollShown k (daliGone x rest (s.at n)))
          (pollData energy power sc (pollGood energy sc (pollShown k (daliGone x rest (s.at n))))) :=
        pollData_only (pollGood_only (.refl _ _ _)) (by simp) (by simp) (by simp)
      have gs : Only [R.DALI_RX, R.DALI_D4I_POWER, R.DALI_D4I_ENERGY_LO, R.DALI_D4I_RES] [] (pollShown k (daliGone x rest (s.at n))) (showDali _) :=
        showDali_only (go.mono (by simp) (by simp)) (by simp)
      refine ⟨_, next_congr (hd.trans (congrArg showDali e)), ⟨?_, (gs.rf (by decide)).trans p2, (gs.rf (by decide)).trans p3, (gs.rb (by decide)).trans p4⟩,
        ?_, (showDali_rd (by decide)).trans g1, (showDali_rd (by decide)).trans g2, (showDali_rd (by decide)).trans g3,
        (po.mono (fun a ha => List.mem_append_left _ ha) (by simp)).trans (gs.mono (by simp [regs]) (by simp))⟩
      · rw [showDali_dali, pollData_dali]; exact pq
      · rw [showDali_dali, pollData_dali]; rfl
    · have e := pollDone_missed (sc := sc) (s := daliGone x rest (s.at n)) hk h0
      have h3 : ((daliGone x rest (s.at n)).dali.misses + 1 == 3) = false := beq_eq_false_iff_ne.2 fun h => hm (Nat.succ.inj h)
      rw [h3, raiseIf_false] at e
      have gs : Only [R.DALI_RX] [] (pollShown k (daliGone x rest (s.at n))) (showDali (pollMissed (pollShown k (daliGone x rest (s.at n))))) :=
        showDali_only (setDali_only (.refl _ _ _)) (by simp)
      refine ⟨_, next_congr (hd.trans (congrArg showDali e)), ⟨?_, (gs.rf (by decide)).trans p2, (gs.rf (by decide)).trans p3, (gs.rb (by decide)).trans p4⟩,
        ?_, po.trans (gs.mono (by simp [regs]) (by simp))⟩
      · rw [showDali_dali]; exact pq
      · rw [showDali_dali]; exact congrArg (· + 1) pm
    · have e := pollDone_missed (sc := sc) (s := daliGone x rest (s.at n)) hk h0
      have h3 : ((daliGone x rest (s.at n)).dali.misses + 1 == 3) = true := beq_iff_eq.2 (congrArg (· + 1) hm)
      rw [h3, raiseIf_true] at e
      exact ⟨_, next_congr (hd.trans (congrArg showDali e)), ⟨pq, p2, p3, p4⟩, congrArg (· + 1) (pm.trans hm), setDali_only po⟩
  · refine ⟨_, next_congr (show daliBusFail (s.at n) = raise Src.DALI_BUS_FAIL _ from if_neg ?_), ?_, State.rb_irq_self (by decide),
      (setDali_only (hat.mono (by simp) (by simp))).irq (by simp)⟩
    · have h1 : (s.at n).dali.fail = false := hf
      have h2 : (s.at n).en P.DALI = true := he
      have h3 : (s.at n).pageOn P.DALI = true := hp
      rw [h1, h2, h3]; decide
    · rw [irq_dali]; rfl
  · exact ⟨_, rfl, rfl, rfl, setDali_only hat⟩
  · intro st drv den ratio inside sound
    have e := xcheck_eq (s := s.at n) ha hb he hp ht hab h64
    have ho : Only [st] [] s (xcheckNext b (s.at n)) := setDali_only (hat.mono (by simp) (by simp))
    refine ⟨fun hs hi => ?_, fun hs hi hr => ?_, fun hs => ?_⟩
    · obtain ⟨h1, h2, h3⟩ := xcheckShown (drv := drv) (den := den) (k := 1) (run := 0) (by decide) (by decide) (xcheckNext b (s.at n))
      exact ⟨_, next_congr (e.trans (xcheckEnd_in (s := s.at n) hs hi)), h1, h2, h3, rfl, ho.wr (by simp [st])⟩
    · have hw : s.rf R.DALI_XCHK_WIN 7 0 < 256 := by rw [State.rf, bitsOf]; omega
      obtain ⟨h1, h2, h3⟩ := xcheckShown (drv := drv) (den := den) (k := 2) (run := s.rf st 7 0 + 1) (by decide) (by omega) (xcheckNext b (s.at n))
      exact ⟨_, next_congr (e.trans (xcheckEnd_out (s := s.at n) hs hi hr)), h1, h2, h3, rfl, ho.wr (by simp [st])⟩
    · refine ⟨_, next_congr (e.trans (xcheckEnd_skipped (s := s.at n) hs)), ?_, rfl, ho.wf (by simp [st])⟩
      rw [State.rf_wf_self (by decide) (by decide)]
      rfl

end Sys2Proof.Machine
end

section
/-! PROOFS. The windows of the pattern sequencers' programs and constants (R273, R275). -/

namespace Sys2Proof.Machine

variable {l m : List Nat} {s t u : State} {i : Init} {a n : Nat} {w old : Word} {f : PatSt → PatSt}

theorem setPat_only (h : Only l m s t) : Only l m s (t.setPat f) := h.record

@[simp] theorem setPat_pat : (s.setPat f).pat = f s.pat := rfl
@[simp] theorem setPat_rd : (s.setPat f).rd a = s.rd a := rfl
@[simp] theorem setPat_sh : (s.setPat f).sh a = s.sh a := rfl

/-! ### The word's address -/

theorem progAdvance_pat : (progAdvance s).pat = s.pat := State.wr_pat ..
theorem progAdvance_only (h : Only l m s t) (ha : R.PAT_PROG_ADDR ∈ l) : Only l m s (progAdvance t) := h.wf ha
theorem progAdvance_rf : (progAdvance s).rf R.PAT_PROG_ADDR 11 0 = (s.rf R.PAT_PROG_ADDR 11 0 + 1) % 4096 := State.rf_wf_self (by decide) (by decide)

theorem kAdvance_pat : (kAdvance s).pat = s.pat := State.wr_pat ..
theorem kAdvance_only (h : Only l m s t) (ha : R.PAT_K_ADDR ∈ l) : Only l m s (kAdvance t) := h.wf ha
theorem kAdvance_rf : (kAdvance s).rf R.PAT_K_ADDR 8 0 = (s.rf R.PAT_K_ADDR 8 0 + 1) % 512 := State.rf_wf_self (by decide) (by decide)

/-! ### Writes -/

theorem progFree_iff : progFree s = true ↔
    s.rb R.PAT_RUN (s.rf R.PAT_PROG_ADDR 11 0 / 256) = false ∧ bitOf (s.sh R.PAT_RUN) (s.rf R.PAT_PROG_ADDR 11 0 / 256) = false := by
  rw [progFree, Bool.and_eq_true, Bool.not_eq_true', Bool.not_eq_true']

theorem Only.progFree (h : Only l m s t) (hr : R.PAT_RUN ∉ l) (ha : R.PAT_PROG_ADDR ∉ l) : Machine.progFree t = Machine.progFree s := by
  rw [Machine.progFree, Machine.progFree, h.rf ha, h.rb hr, h.shadow]

/-- A free program word is stored, and the address moves on. -/
theorem progWrite_free (h : progFree s = true) : progWrite old w s =
    progAdvance ((s.wr R.PAT_PROG_DATA 0#32).setPat fun p => { p with prog := sset 0#32 (s.rf R.PAT_PROG_ADDR 11 0) w p.prog }) := by
  have ho : Only [R.PAT_PROG_DATA] [] s (s.wr R.PAT_PROG_DATA 0#32) := (Only.refl _ _ _).wr (by simp)
  unfold progWrite
  extract_lets s1 k
  rw [if_pos ((ho.progFree (by decide) (by decide)).trans h), show k = s.rf R.PAT_PROG_ADDR 11 0 from ho.rf (by decide)]

/-- A word of a sequencer that runs is dropped. -/
theorem progWrite_busy (h : ¬progFree s = true) : progWrite old w s = raise Src.CFG_LIVE_WRITE (progAdvance (s.wr R.PAT_PROG_DATA 0#32)) := by
  have ho : Only [R.PAT_PROG_DATA] [] s (s.wr R.PAT_PROG_DATA 0#32) := (Only.refl _ _ _).wr (by simp)
  unfold progWrite
  extract_lets s1 k
  exact if_neg fun hf => h ((ho.progFree (by decide) (by decide)).symm.trans hf)

/-- An accepted write of PAT_K_DATA, before the register's own effect: the shadow holds the word and DIRTY is set. -/
theorem gateWrite_k (h : s.accepts n i R.PAT_K_DATA w) : ∃ v x, gateWrite i R.PAT_K_DATA w kWrite (s.at n) =
    kWrite (s.rd R.PAT_K_DATA) w ((((s.at n).busOk.wr R.PAT_K_DATA v).shw R.PAT_K_DATA x).wb (R.COMMIT P.PAT) 8 true) := by
  rw [gateWrite_accepts kWrite h (by decide), storeReg]
  exact ⟨_, _, congrArg _ (if_neg (by decide +kernel))⟩

/-- A write of a constant changes its shadow, and moves the address on. -/
theorem kWrite_spec (s : State) : (kWrite old w s).pat = { s.pat with kSh := sset 0#32 (s.rf R.PAT_K_ADDR 8 0) w s.pat.kSh } ∧
    (kWrite old w s).rf R.PAT_K_ADDR 8 0 = (s.rf R.PAT_K_ADDR 8 0 + 1) % 512 ∧ (∀ b, b ≠ R.PAT_K_ADDR → (kWrite old w s).rd b = s.rd b) ∧
    (∀ b, b ≠ R.PAT_K_DATA → (kWrite old w s).sh b = s.sh b) := by
  refine ⟨?_, kAdvance_rf, fun b hb => ?_, fun b hb => ?_⟩
  · rw [kWrite, kAdvance_pat]; rfl
  · exact State.rd_wr_of_ne _ hb _
  · exact State.sh_shw_of_ne s hb 0#32

/-! ### Reads -/

/-- A read of a register that nothing brings up to date first. -/
theorem regRead_data (h : s.answers (pageOf a) = true) (hf : readFirst a s = s) : regRead i a s = readData a (s.busData (s.readReg a)) := by
  rw [regRead, if_pos h, hf, gateRead, h]; rfl

theorem regRead_prog (h : s.answers P.PAT = true) : regRead i R.PAT_PROG_DATA s =
    progAdvance ((s.busData (s.readReg R.PAT_PROG_DATA)).busData (sget 0#32 (s.rf R.PAT_PROG_ADDR 11 0) s.pat.prog)) :=
  (regRead_data (a := R.PAT_PROG_DATA) h rfl).trans rfl

theorem regRead_k (h : s.answers P.PAT = true) : regRead i R.PAT_K_DATA s =
    kAdvance ((s.busData (s.readReg R.PAT_K_DATA)).busData (sget 0#32 (s.rf R.PAT_K_ADDR 8 0) s.pat.kSh)) :=
  (regRead_data (a := R.PAT_K_DATA) h rfl).trans rfl

/-- Settles O40: each access of a window, by what it stores or gives and by the address's next value. -/
theorem programAndConstantWindows : Obligations.ProgramAndConstantWindows := by
  intro n i w s a k free
  have hfree : progFree s = true ↔ free := progFree_iff
  refine ⟨fun hacc hf => ?_, fun hacc hf => ?_, fun hans => ?_, fun hacc => ?_, fun hans => ?_⟩
  · obtain ⟨v, hv⟩ := gateWrite_stored progWrite hacc (by decide) (by decide)
    have ho : Only [R.PAT_PROG_DATA] [] s ((s.at n).busOk.wr R.PAT_PROG_DATA v) := gateState_only ..
    have hp : ((s.at n).busOk.wr R.PAT_PROG_DATA v).pat = s.pat := State.wr_pat ..
    generalize (s.at n).busOk.wr R.PAT_PROG_DATA v = x at hv ho hp
    rw [progWrite_free ((ho.progFree (by decide) (by decide)).trans (hfree.2 hf)), ho.rf (by decide)] at hv
    refine ⟨_, next_congr hv, ?_, fun b hb => ?_, ?_, ?_, ?_, progAdvance_only (setPat_only ((ho.mono (by simp) (by simp)).wr (by simp))) (by simp)⟩
    · rw [progAdvance_pat, setPat_pat]; exact sget_sset_self ..
    · rw [progAdvance_pat, setPat_pat, State.wr_pat, hp]; exact sget_sset_of_ne _ _ hb _ _
    · rw [progAdvance_rf]
      exact congrArg (fun y => (y + 1) % 4096) ((setPat_only (ho.wr (by simp))).rf (by decide))
    · rw [progAdvance_pat, setPat_pat, State.wr_pat, hp]
    · rw [progAdvance_pat, setPat_pat, State.wr_pat, hp]
  · obtain ⟨v, hv⟩ := gateWrite_stored progWrite hacc (by decide) (by decide)
    have ho : Only [R.PAT_PROG_DATA] [] s ((s.at n).busOk.wr R.PAT_PROG_DATA v) := gateState_only ..
    have hp : ((s.at n).busOk.wr R.PAT_PROG_DATA v).pat = s.pat := State.wr_pat ..
    generalize (s.at n).busOk.wr R.PAT_PROG_DATA v = x at hv ho hp
    rw [progWrite_busy fun h => hf (hfree.1 ((ho.progFree (by decide) (by decide)).symm.trans h))] at hv
    refine ⟨_, next_congr hv, ?_, ?_, progAdvance_only ((ho.mono (by simp) (by simp)).wr (by simp)) (by simp)⟩
    · rw [progAdvance_pat, State.wr_pat, hp]
    · rw [progAdvance_rf, (ho.wr (a := R.PAT_PROG_DATA) (by simp)).rf (by decide)]
  · exact ⟨_, next_congr (regRead_prog (s := s.at n) hans), State.wr_bus .., progAdvance_rf, progAdvance_pat,
      progAdvance_only ((Only.refl _ _ s).at.busData.busData) (by simp)⟩
  · obtain ⟨v, x, hv⟩ := gateWrite_k hacc
    have hp : ((((s.at n).busOk.wr R.PAT_K_DATA v).shw R.PAT_K_DATA x).wb (R.COMMIT P.PAT) 8 true).pat = s.pat := rfl
    have hc : ((((s.at n).busOk.wr R.PAT_K_DATA v).shw R.PAT_K_DATA x).wb (R.COMMIT P.PAT) 8 true).rb (R.COMMIT P.PAT) 8 = true := State.rb_wb_self (by decide)
    have hr : ∀ b, b ≠ R.PAT_K_DATA → b ≠ R.COMMIT P.PAT →
        ((((s.at n).busOk.wr R.PAT_K_DATA v).shw R.PAT_K_DATA x).wb (R.COMMIT P.PAT) 8 true).rd b = s.rd b := fun b h1 h2 =>
      (State.rd_wr_of_ne _ h2 _).trans (State.rd_wr_of_ne (s.at n).busOk h1 _)
    have hs : ∀ b, b ≠ R.PAT_K_DATA → ((((s.at n).busOk.wr R.PAT_K_DATA v).shw R.PAT_K_DATA x).wb (R.COMMIT P.PAT) 8 true).sh b = s.sh b :=
      fun b hb => State.sh_shw_of_ne ((s.at n).busOk.wr R.PAT_K_DATA v) hb _
    generalize (((s.at n).busOk.wr R.PAT_K_DATA v).shw R.PAT_K_DATA x).wb (R.COMMIT P.PAT) 8 true = y at hv hp hc hr hs
    obtain ⟨k1, k2, k3, k4⟩ := kWrite_spec (old := s.rd R.PAT_K_DATA) (w := w) y
    have hk : y.rf R.PAT_K_ADDR 8 0 = k := congrArg (bitsOf · 8 0) (hr _ (by decide) (by decide))
    rw [hk, hp] at k1
    refine ⟨_, next_congr hv, ?_, fun b hb => ?_, ?_, k2.trans (by rw [hk]), ?_, fun b hb => (k4 b hb).trans (hs b hb),
      fun b h1 h2 h3 => (k3 b h2).trans (hr b h1 h3)⟩
    · rw [k1]; exact sget_sset_self ..
    · rw [k1]; exact sget_sset_of_ne _ _ hb _ _
    · rw [k1]
    · exact (congrArg (bitOf · 8) (k3 _ (by decide))).trans hc
  · exact ⟨_, next_congr (regRead_k (s := s.at n) hans), State.wr_bus .., kAdvance_rf, kAdvance_pat,
      kAdvance_only ((Only.refl _ _ s).at.busData.busData) (by simp)⟩

end Sys2Proof.Machine
end

section
/-! PROOFS. The instructions of the pattern sequencers (R268 to R271). -/

namespace Sys2Proof.Machine

variable {l m : List Nat} {s t u : State} {a c hi lo n pc : Nat} {q : Fin 16} {r : Fin 4} {k : Fin 32} {f : State → State} {g : PatSeq → PatSeq} {v : Int}

/-! ### Values -/

/-- The word of a saturated value reads as that value (R7, R8). -/
theorem sw_wordS_satS (x : Int) : sw (wordS (satS 32 x)) = satS 32 x := by
  have h1 : satS 32 x < 2 ^ 31 := by rw [satS]; omega
  have h2 : -2 ^ 31 ≤ satS 32 x := by rw [satS]; omega
  generalize satS 32 x = y at h1 h2 ⊢
  have h3 : enc 32 y < 2 ^ 32 := by rw [enc]; omega
  rw [sw, wordS, BitVec.toNat_ofNat, Nat.mod_eq_of_lt h3, sx, Nat.mod_eq_of_lt h3]
  have he : (enc 32 y : Int) = y % 2 ^ 32 := by rw [enc]; omega
  split <;> omega

/-! ### The parts of a sequencer's state -/

theorem patState_ne_v : R.PAT_STATE q ≠ R.PAT_V q r := by simp only [R.PAT_STATE, R.PAT_V]; omega

theorem patState_ne_irq : R.PAT_STATE q ≠ R.IRQ_STAT P.PAT := by simp only [R.PAT_STATE, R.IRQ_STAT, R.base, P.PAT]; omega

theorem setPc_self (h : pc < 256) : (setPc q pc s).rf (R.PAT_STATE q) 7 0 = pc :=
  (State.rf_wf_self (by decide) (by decide)).trans (Nat.mod_eq_of_lt h)

theorem setPc_rest (h : 7 < lo) : (setPc q pc s).rf (R.PAT_STATE q) hi lo = s.rf (R.PAT_STATE q) hi lo :=
  State.rf_wf_disjoint (by decide) (by decide) (.inl h)

theorem setPc_only (h : Only l m s t) (ha : R.PAT_STATE q ∈ l) : Only l m s (setPc q pc t) := h.wf ha

theorem setPc_pat : (setPc q pc s).pat = s.pat := State.wr_pat ..

theorem nextPc_self : (nextPc q s).rf (R.PAT_STATE q) 7 0 = min 255 (s.rf (R.PAT_STATE q) 7 0 + 1) :=
  setPc_self (Nat.lt_of_le_of_lt (Nat.min_le_left ..) (by decide))

theorem setSeqState_self (h : n < 8) : (setSeqState q n s).rf (R.PAT_STATE q) 10 8 = n :=
  (State.rf_wf_self (by decide) (by decide)).trans (Nat.mod_eq_of_lt h)

theorem setSeqState_rest (h : 10 < lo ∨ hi < 8) : (setSeqState q n s).rf (R.PAT_STATE q) hi lo = s.rf (R.PAT_STATE q) hi lo :=
  State.rf_wf_disjoint (by decide) (by decide) h

theorem setSeqState_only (h : Only l m s t) (ha : R.PAT_STATE q ∈ l) : Only l m s (setSeqState q n t) := h.wf ha

theorem setSeqState_pat : (setSeqState q n s).pat = s.pat := State.wr_pat ..

theorem setRemain_self (h : n < 65536) : (setRemain q n s).rf (R.PAT_STATE q) 31 16 = n :=
  (State.rf_wf_self (by decide) (by decide)).trans (Nat.mod_eq_of_lt h)

theorem setRemain_rest (h : hi < 16) : (setRemain q n s).rf (R.PAT_STATE q) hi lo = s.rf (R.PAT_STATE q) hi lo :=
  State.rf_wf_disjoint (by decide) (by decide) (.inr h)

theorem setRemain_only (h : Only l m s t) (ha : R.PAT_STATE q ∈ l) : Only l m s (setRemain q n t) := h.wf ha

theorem setRemain_pat : (setRemain q n s).pat = s.pat := State.wr_pat ..

theorem setSeq_only (h : Only l m s t) : Only l m s (t.setSeq q g) := h.record

@[simp] theorem setSeq_rd : (s.setSeq q g).rd a = s.rd a := rfl
@[simp] theorem setSeq_rf : (s.setSeq q g).rf a hi lo = s.rf a hi lo := rfl

theorem setV_rf : (setV q r v s).rf (R.PAT_STATE q) hi lo = s.rf (R.PAT_STATE q) hi lo :=
  congrArg (bitsOf · hi lo) (State.rd_wr_of_ne _ patState_ne_v _)

theorem irq_pat {p b : Nat} : (s.irq p b).pat = s.pat := by simp only [State.irq, State.event, State.wb, State.wr_pat, State.note_pat]

/-! ### What an instruction does -/

theorem seqExec_live (he : s.en P.PAT = true) (h : s.rf (R.PAT_STATE q) 10 8 = 1 ∨ s.rf (R.PAT_STATE q) 10 8 = 2) : seqExec q f s = f s :=
  if_pos (by simp only [he, seqLive, seqState, Bool.true_and, Bool.or_eq_true, beq_iff_eq]; exact h)

theorem seqExec_dead (h : s.en P.PAT = false ∨ s.rf (R.PAT_STATE q) 10 8 ≠ 1 ∧ s.rf (R.PAT_STATE q) 10 8 ≠ 2) : seqExec q f s = s :=
  if_neg (by
    simp only [seqLive, seqState, Bool.and_eq_true, Bool.or_eq_true, beq_iff_eq, not_and, not_or]
    intro he
    exact h.resolve_left (by simp [he]))

/-- END stops the sequencer at its PC, and tells. -/
theorem opEnd_spec (q : Fin 16) (s : State) : let st := R.PAT_STATE q
    (opEnd q s).rf st 10 8 = 3 ∧ (opEnd q s).rf st 31 16 = 0 ∧ (opEnd q s).rf st 7 0 = s.rf st 7 0 ∧ (opEnd q s).rf st 15 12 = s.rf st 15 12 ∧
      (opEnd q s).rb (R.IRQ_STAT P.PAT) 0 = true ∧ (opEnd q s).pat = s.pat := by
  have hr : ∀ hi lo, (opEnd q s).rf (R.PAT_STATE q) hi lo = (setRemain q 0 (setSeqState q 3 s)).rf (R.PAT_STATE q) hi lo :=
    fun _ _ => State.rf_irq_of_ne patState_ne_irq
  refine ⟨?_, ?_, ?_, ?_, State.rb_irq_self (by decide), irq_pat.trans (setRemain_pat.trans setSeqState_pat)⟩
  · rw [hr, setRemain_rest (by decide), setSeqState_self (by decide)]
  · rw [hr, setRemain_self (by decide)]
  · rw [hr, setRemain_rest (by decide), setSeqState_rest (by decide)]
  · rw [hr, setRemain_rest (by decide), setSeqState_rest (by decide)]

theorem opEnd_only (h : Only l m s t) (ha : R.PAT_STATE q ∈ l) (hi : R.IRQ_STAT P.PAT ∈ l) : Only l m s (opEnd q t) :=
  (setRemain_only (setSeqState_only h ha) ha).irq hi

/-- The first tick of a ramp: its register and its parts of the sequencer's state. -/
theorem opRamp_spec (hn : n ≠ 0) (h12 : n < 4096) : let st := R.PAT_STATE q; let u := opRamp q r k n s; let x := s.pat.seq[q]
    sw (u.rd (R.PAT_V q r)) = satS 32 (patV s q r + rdiv (sw (patK s q k) - patV s q r) n) ∧ u.rf st 7 0 = min 255 (s.rf st 7 0 + 1) ∧
      u.rf st 10 8 = 1 ∧ u.rf st 15 11 = s.rf st 15 11 ∧ u.rf st 31 16 = n - 1 ∧
      u.pat = { s.pat with seq := s.pat.seq.set q { x with ramp := if 1 < n then some ⟨r, patV s q r, sw (patK s q k), n, 1⟩ else none } } := by
  intro st u x
  have hv : Fin.ofNat 4 r.val = r := Fin.ofNat_val_eq_self r
  have hu : u = setRemain q (n - 1) ((setV q r (satS 32 (patV s q r + rdiv (sw (patK s q k) - patV s q r) n)) (nextPc q (setSeqState q 1 s))).setSeq q
      fun x => { x with ramp := if 1 < n then some ⟨r, patV s q r, sw (patK s q k), n, 1⟩ else none }) := by
    refine (if_neg hn).trans ?_
    rw [rampTick, hv]
    simp only [Nat.zero_add, Nat.cast_one, mul_one]
  rw [hu]
  refine ⟨?_, ?_, ?_, ?_, setRemain_self (by omega), ?_⟩
  · rw [setRemain, State.rd_wf_of_ne patState_ne_v.symm, setSeq_rd, setV, State.rd_wr_self, sw_wordS_satS]
  · rw [setRemain_rest (by decide), setSeq_rf, setV_rf, nextPc_self, setSeqState_rest (by decide)]
  · rw [setRemain_rest (by decide), setSeq_rf, setV_rf, nextPc, setPc_rest (by decide), setSeqState_self (by decide)]
  · rw [setRemain_rest (by decide), setSeq_rf, setV_rf, nextPc, setPc_rest (by decide), setSeqState_rest (by decide)]
  · rw [setRemain_pat]; rfl

theorem rampTick_only {x : Ramp} (h : Only l m s t) (ha : R.PAT_STATE q ∈ l) (hv : R.PAT_V q (Fin.ofNat 4 x.reg) ∈ l) : Only l m s (rampTick q x t) :=
  setRemain_only (setSeq_only (h.wr hv)) ha

/-- HOLD waits from this tick on. -/
theorem opHold_eq (hn : n ≠ 0) : opHold q n s = setRemain q (n - 1) ((nextPc q (setSeqState q 2 s)).setSeq q fun x => { x with hold := n - 1 }) := if_neg hn

theorem setCount_pat {b : Bool} : (setCount q b n s).pat = { s.pat with
    seq := s.pat.seq.set q (if b then { s.pat.seq[q] with c1 := min 65535 n } else { s.pat.seq[q] with c0 := min 65535 n }) } := rfl

/-- LOOP branches while its count lasts, and moves on with the counter at 0. -/
theorem opLoop_spec (b : Bool) (count : Nat) (hp : pc < 256) : let st := R.PAT_STATE q; let x := s.pat.seq[q]; let c := if b then x.c1 else x.c0
    let again := count = 0 ∨ c + 1 < count; let c' := if again then min 65535 (c + 1) else 0; let u := opLoop q b pc count s
    u.rf st 7 0 = (if again then pc else min 255 (s.rf st 7 0 + 1)) ∧ u.rf st 31 8 = s.rf st 31 8 ∧
      u.pat = { s.pat with seq := s.pat.seq.set q (if b then { x with c1 := c' } else { x with c0 := c' }) } ∧ Only [st] [] s u := by
  intro st x c again c' u
  have ho : ∀ k, Only [st] [] s (setCount q b k s) := fun k => setSeq_only (.refl _ _ _)
  by_cases h : again
  · have hu : u = setPc q pc (setCount q b (c + 1) s) := if_pos h
    have hc : c' = min 65535 (c + 1) := if_pos h
    rw [hu, hc, if_pos h]
    exact ⟨setPc_self hp, setPc_rest (by decide), setPc_pat.trans setCount_pat, setPc_only (ho _) (by simp [st])⟩
  · have hu : u = nextPc q (setCount q b 0 s) := if_neg h
    have hc : c' = 0 := if_neg h
    rw [hu, hc, if_neg h]
    exact ⟨nextPc_self, setPc_rest (by decide), setPc_pat.trans setCount_pat, setPc_only (ho _) (by simp [st])⟩

/-- A wait that is over. -/
theorem ran_spec : let st := R.PAT_STATE q; let u := nextPc q (setSeqState q 1 s)
    u.rf st 7 0 = min 255 (s.rf st 7 0 + 1) ∧ u.rf st 10 8 = 1 ∧ u.rf st 31 11 = s.rf st 31 11 ∧ u.pat = s.pat := by
  intro st u
  refine ⟨?_, ?_, ?_, setPc_pat.trans setSeqState_pat⟩
  · exact nextPc_self.trans (by rw [setSeqState_rest (by decide)])
  · exact (setPc_rest (by decide)).trans (setSeqState_self (by decide))
  · exact (setPc_rest (by decide)).trans (setSeqState_rest (by decide))

/-- What a waiting instruction does whose condition is `go`. -/
theorem wait_spec {u : State} {go : Prop} [Decidable go] (hu : u = if go then nextPc q (setSeqState q 1 s) else setSeqState q 2 s) : let st := R.PAT_STATE q
    u.rf st 7 0 = (if go then min 255 (s.rf st 7 0 + 1) else s.rf st 7 0) ∧ u.rf st 10 8 = (if go then 1 else 2) ∧ u.rf st 31 11 = s.rf st 31 11 ∧
      u.pat = s.pat ∧ Only [st] [] s u := by
  subst hu
  by_cases h : go
  · simp only [if_pos h]
    obtain ⟨h1, h2, h3, h4⟩ := ran_spec (q := q) (s := s)
    exact ⟨h1, h2, h3, h4, setPc_only (setSeqState_only (.refl _ _ _) (by simp)) (by simp)⟩
  · simp only [if_neg h]
    exact ⟨setSeqState_rest (by decide), setSeqState_self (by decide), setSeqState_rest (by decide), setSeqState_pat, setSeqState_only (.refl _ _ _) (by simp)⟩

theorem opWaitTick_eq (h : (patK s q k).toNat ≠ 0) :
    (opWaitTick q k s).2 = if s.tickNum % (patK s q k).toNat = 0 then nextPc q (setSeqState q 1 s) else setSeqState q 2 s := by
  unfold opWaitTick
  extract_lets n
  rw [if_neg h]
  by_cases h2 : s.tickNum % n = 0
  · rw [if_pos h2, if_pos h2]
  · rw [if_neg h2, if_neg h2]

theorem opSync_eq (h : (patK s q k).toNat ≠ 0) :
    (opSync q k s).2 = if releaseTick s q (patK s q k).toNat then nextPc q (setSeqState q 1 s) else setSeqState q 2 s := by
  unfold opSync
  extract_lets n
  rw [if_neg h]
  by_cases h2 : releaseTick s q n = true
  · rw [if_pos h2, if_pos h2]
  · rw [if_neg h2, if_neg h2]

/-- A stop with an error: the state whose sequencer stands stopped raises PAT_FAULT (R268, R269). -/
theorem seqError_spec {e : Nat} (he : e < 16) (q : Fin 16) (s : State) : let st := R.PAT_STATE q
    ∃ u, seqError q e s = raise Src.PAT_FAULT u ∧ u.rf st 10 8 = 4 ∧ u.rf st 15 12 = e ∧ u.rf st 31 16 = 0 ∧ u.rf st 7 0 = s.rf st 7 0 ∧
      u.rb (R.IRQ_STAT P.PAT) 1 = true ∧ u.pat = s.pat ∧ Only [st, R.IRQ_STAT P.PAT] [] s u := by
  intro st
  have hr : ∀ hi lo, ((setRemain q 0 (setSeqState q 4 (s.wf st 15 12 e))).irq P.PAT 1).rf st hi lo =
      (setRemain q 0 (setSeqState q 4 (s.wf st 15 12 e))).rf st hi lo := fun _ _ => State.rf_irq_of_ne patState_ne_irq
  refine ⟨_, rfl, ?_, ?_, ?_, ?_, State.rb_irq_self (by decide), irq_pat.trans (setRemain_pat.trans (setSeqState_pat.trans (State.wr_pat ..))),
    (setRemain_only (setSeqState_only ((Only.refl _ _ _).wf (by simp [st])) (by simp [st])) (by simp [st])).irq (by simp)⟩
  · rw [hr, setRemain_rest (by decide), setSeqState_self (by decide)]
  · rw [hr, setRemain_rest (by decide), setSeqState_rest (by decide), State.rf_wf_self (by decide) (by decide)]
    exact Nat.mod_eq_of_lt he
  · rw [hr, setRemain_self (by decide)]
  · rw [hr, setRemain_rest (by decide), setSeqState_rest (by decide), State.rf_wf_disjoint (by decide) (by decide) (by decide)]

/-- The four instructions that a bad field stops. -/
theorem badField_stops {x : Instr} (he : s.en P.PAT = true) (hl : s.rf (R.PAT_STATE q) 10 8 = 1 ∨ s.rf (R.PAT_STATE q) 10 8 = 2)
    (hx : x = Instr.patRamp n q r k 0 ∨ x = Instr.patHold n q 0 ∨
      sget 0#32 (32 * q.val + k.val) s.pat.k = 0#32 ∧ (x = Instr.patWaitTick n q k ∨ x = Instr.patSync n q k)) :
    exec x s = .next (seqError q 3 (s.at n)) := by
  obtain rfl | rfl | ⟨hk, rfl | rfl⟩ := hx
  · exact next_congr ((seqExec_live (s := s.at n) he hl).trans (if_pos rfl))
  · exact next_congr ((seqExec_live (s := s.at n) he hl).trans (if_pos rfl))
  · have h0 : (patK (s.at n) q k).toNat = 0 := congrArg BitVec.toNat hk
    exact next_congr ((seqExec_live (s := s.at n) he hl).trans (congrArg Prod.snd (if_pos h0)))
  · have h0 : (patK (s.at n) q k).toNat = 0 := congrArg BitVec.toNat hk
    exact next_congr ((seqExec_live (s := s.at n) he hl).trans (congrArg Prod.snd (if_pos h0)))

/-- Settles O39: each instruction of a live sequencer, the four that a bad field stops, and a sequencer that does not run. -/
theorem patternInstructionsDoAsTabled : Obligations.PatternInstructionsDoAsTabled := by
  refine ⟨fun n q s he hl => ?_, fun n q r k s => ⟨fun he hl c hc => ?_, fun hd n' m count b addr flag c hc => ?_⟩⟩
  · intro st pc1 K seq
    have hat : Only [] [] s (s.at n) := (Only.refl _ _ _).at
    have live : ∀ {f : State → State}, seqExec q f (s.at n) = f (s.at n) := seqExec_live (s := s.at n) he hl
    refine ⟨?_, fun r k => ⟨?_, ?_, fun n hn => ?_⟩, fun n hn => ?_, fun ci addr count => ?_, fun k hk => ?_, fun pol addr flag => ?_⟩
    · obtain ⟨h1, h2, h3, h4, h5, h6⟩ := opEnd_spec q (s.at n)
      exact ⟨_, next_congr live, h1, h2, h3, h4, h5, h6, opEnd_only (hat.mono (by simp) (by simp)) (by simp [st]) (by simp)⟩
    · refine ⟨_, next_congr live, ?_, nextPc_self.trans ?_, (setPc_rest (by decide)).trans ?_, setPc_pat.trans ?_,
        setPc_only ((hat.mono (by simp) (by simp)).wr (by simp)) (by simp [st])⟩
      · rw [opSet, nextPc, setPc, State.rd_wf_of_ne patState_ne_v.symm, State.rd_wr_self]; rfl
      · rw [State.rf, State.rd_wr_of_ne _ patState_ne_v]; rfl
      · rw [State.rf, State.rd_wr_of_ne _ patState_ne_v]; rfl
      · rw [State.wr_pat]; rfl
    · refine ⟨_, next_congr live, ?_, nextPc_self.trans (by rw [setV_rf]; rfl), (setPc_rest (by decide)).trans setV_rf, setPc_pat.trans (State.wr_pat ..),
        setPc_only ((hat.mono (by simp) (by simp)).wr (by simp)) (by simp [st])⟩
      rw [opAdd, nextPc, setPc, State.rd_wf_of_ne patState_ne_v.symm, setV, State.rd_wr_self, sw_wordS_satS]; rfl
    · intro v
      obtain ⟨h1, h2, h3, h4, h5, h6⟩ := opRamp_spec (q := q) (r := r) (k := k) (s := s.at _) hn n.isLt
      refine ⟨_, next_congr live, h1, h2, h3, h4, h5, h6, ?_⟩
      rw [opRamp, if_neg hn]
      exact rampTick_only (setPc_only (setSeqState_only (hat.mono (by simp) (by simp)) (by simp [st])) (by simp [st])) (by simp [st])
        (by simp)
    · refine ⟨_, next_congr (live.trans (opHold_eq hn)), ?_, ?_, ?_, setRemain_self (by omega), ?_, ?_⟩
      · rw [setRemain_rest (by decide), setSeq_rf, nextPc_self, setSeqState_rest (by decide)]; rfl
      · rw [setRemain_rest (by decide), setSeq_rf, nextPc, setPc_rest (by decide), setSeqState_self (by decide)]
      · rw [setRemain_rest (by decide), setSeq_rf, nextPc, setPc_rest (by decide), setSeqState_rest (by decide)]; rfl
      · rw [setRemain_pat]; rfl
      · exact setRemain_only (setSeq_only (setPc_only (setSeqState_only (hat.mono (by simp) (by simp)) (by simp [st])) (by simp [st]))) (by simp [st])
    · intro x c again c'
      obtain ⟨h1, h2, h3, h4⟩ := opLoop_spec (q := q) (s := s.at n) ci count addr.isLt
      exact ⟨_, next_congr live, h1, h2, h3, (hat.mono (by simp) (by simp)).trans h4⟩
    · have h0 : (patK (s.at n) q k).toNat ≠ 0 := fun h => hk (BitVec.eq_of_toNat_eq h)
      obtain ⟨h1, h2, h3, h4, h5⟩ := wait_spec (opWaitTick_eq h0)
      obtain ⟨k1, k2, k3, k4, k5⟩ := wait_spec (opSync_eq h0)
      exact ⟨⟨_, next_congr live, h1, h2, h3, h4, (hat.mono (by simp) (by simp)).trans h5⟩, ⟨_, next_congr live, k1, k2, k3, k4, (hat.mono (by simp) (by simp)).trans k5⟩⟩
    · refine ⟨_, next_congr live, ?_⟩
      rw [opBranch]
      by_cases h : patFlag s flag = pol
      · rw [if_pos (show patFlag (s.at n) flag = pol from h), if_pos h]
        exact ⟨setPc_self addr.isLt, setPc_rest (by decide), setPc_pat, setPc_only (hat.mono (by simp) (by simp)) (by simp [st])⟩
      · rw [if_neg (show ¬patFlag (s.at n) flag = pol from h), if_neg h]
        exact ⟨nextPc_self, setPc_rest (by decide), setPc_pat, setPc_only (hat.mono (by simp) (by simp)) (by simp [st])⟩
  · obtain ⟨u, hu, h1, h2, h3, h4, h5, h6, h7⟩ := seqError_spec (e := 3) (by decide) q (s.at n)
    exact ⟨u, (badField_stops he hl hc).trans (next_congr hu), h1, h2, h3, h4, h5, h6, (Only.refl _ _ s).at.trans h7⟩
  · have dead : ∀ {f : State → State}, seqExec q f (s.at n) = s.at n := seqExec_dead (s := s.at n) hd
    simp only [List.mem_cons, List.not_mem_nil, or_false] at hc
    rcases hc with rfl | rfl | rfl | rfl | rfl | rfl | rfl | rfl | rfl <;> exact ⟨s.at n, next_congr dead, rfl, (Only.refl _ _ s).at⟩

end Sys2Proof.Machine
end

section
/-! PROOFS. Return packets and CTRL commands of the Sprindo link (R219, R224, R226). -/

namespace Sys2Proof.Machine

variable {l m : List Nat} {s t u : State} {i : Init} {a n : Nat} {w old : Word} {k j : Fin 4} {c : CtrlCmd} {x : Rx} {b : List Byte} {f : Rx → State → State}

/-! ### What a return packet holds -/

theorem field_byte_lt (b : List Byte) (o : Nat) : field (nums b) o 1 < 256 := by
  rw [field, nums, ← List.map_drop]
  cases b.drop o with
  | nil => decide
  | cons v _ =>
    have h := v.isLt
    simp only [List.map_cons, List.take_succ_cons, List.take_zero, ofLE]
    omega

theorem parseRx_lt {type : Nat} (h : parseRx type (nums b) = some x) : x.b1 < 256 ∧ x.alive < 256 := by
  unfold parseRx at h
  extract_lets n r at h
  split at h
  · rw [← Option.some.inj h]; exact ⟨field_byte_lt .., field_byte_lt ..⟩
  · exact absurd h nofun

/-- The state that a good packet's own effect starts from: the packet is counted and its RX_ALIVE kept (R224). -/
def rxTaken (k : Fin 4) (x : Rx) (s : State) : State :=
  ((s.stAdd (R.SPL_STAT_RX k) 15 0 1).wf (R.SPL_ALIVE k) 15 8 x.alive).setTile k fun y => { y with rxAny := true }

theorem rxTaken_only (h : Only l m s t) (ha : R.SPL_ALIVE k ∈ l) (hm : R.SPL_STAT_RX k ∈ m) : Only l m s (rxTaken k x t) :=
  ((h.stAdd hm).wf ha).setTile

theorem rxTaken_tile : (rxTaken k x s).tile[k] = { s.tile[k] with rxAny := true } := setTile_self

theorem rxTaken_alive (h : x.alive < 256) : (rxTaken k x s).rf (R.SPL_ALIVE k) 15 8 = x.alive :=
  (State.rf_wf_self (by decide) (by decide)).trans (Nat.mod_eq_of_lt h)

/-- The first good packet of a link takes effect (R219, R224). -/
theorem received_first {type : Nat} {l : List Nat} (hu : s.linkUp k = true) (hp : parseRx type l = some x) (ha : (s.tile[k]).rxAny = false) :
    received k type false l f s = f x (rxTaken k x s) := by
  unfold received
  rw [hu]
  simp only [Bool.not_true, Bool.false_eq_true, if_false, hp, ha, Bool.false_and]
  rw [raiseIf_false, rxTaken]

/-- A packet that R219 discards is counted. -/
theorem received_bad {type : Nat} {l : List Nat} {err : Bool} (hu : s.linkUp k = true) (h : err = true ∨ parseRx type l = none) :
    received k type err l f s = s.stAdd (R.SPL_STAT_RX k) 31 16 1 := by
  have hn : (if err then none else parseRx type l) = none := by
    cases err
    · exact h.resolve_left nofun
    · rfl
  unfold received
  rw [hu, hn]; rfl

/-- A packet with the RX_ALIVE of the one before is discarded and counted (R224). -/
theorem received_again {type : Nat} {l : List Nat} (hu : s.linkUp k = true) (hp : parseRx type l = some x) (ha : (s.tile[k]).rxAny = true)
    (he : s.rf (R.SPL_ALIVE k) 15 8 = x.alive) : received k type false l f s = s.stAdd (R.SPL_STAT_ALIVE k) 15 0 1 := by
  unfold received
  rw [hu]
  simp only [Bool.not_true, Bool.false_eq_true, if_false, hp, ha, he, beq_self_eq_true, Bool.and_self, if_true]

/-! ### CTRL commands -/

theorem stat_ne_rdata : R.SPL_CTRL_STAT k ≠ R.SPL_CTRL_RDATA k := by simp only [R.SPL_CTRL_STAT, R.SPL_CTRL_RDATA]; omega
theorem rdata_ne_irq : R.SPL_CTRL_RDATA k ≠ R.IRQ_STAT (spl k) := by simp only [R.SPL_CTRL_RDATA, R.IRQ_STAT, R.base, spl, P.SPLT]; omega
theorem stat_ne_irq : R.SPL_CTRL_STAT k ≠ R.IRQ_STAT (spl k) := by simp only [R.SPL_CTRL_STAT, R.IRQ_STAT, R.base, spl, P.SPLT]; omega
theorem alive_ne_stat : R.SPL_ALIVE k ≠ R.SPL_CTRL_STAT k := by simp only [R.SPL_CTRL_STAT, R.SPL_ALIVE]; omega
theorem alive_ne_rdata : R.SPL_ALIVE k ≠ R.SPL_CTRL_RDATA k := by simp only [R.SPL_CTRL_RDATA, R.SPL_ALIVE]; omega
theorem alive_ne_irq : R.SPL_ALIVE k ≠ R.IRQ_STAT (spl k) := by simp only [R.SPL_ALIVE, R.IRQ_STAT, R.base, spl, P.SPLT]; omega

theorem timeout_ne_alive : R.SPL_ACK_TIMEOUT ≠ R.SPL_ALIVE k := by simp only [R.SPL_ACK_TIMEOUT, R.SPL_ALIVE]; omega

theorem irq_tile {p e : Nat} : (s.irq p e).tile = s.tile := by simp only [State.irq, State.event, State.wb, State.wr_tile, State.note_tile]

theorem ctrlCmd_plain : ∀ k : Fin 4, (offOf (R.SPL_CTRL_CMD k) ≠ 0x1c ∧ offOf (R.SPL_CTRL_CMD k) ≠ 0x20) ∧ maskOf RegDef.rws (R.SPL_CTRL_CMD k) = 0#32 := by
  decide +kernel

theorem splCtrlCmd_go (hg : bitOf w 31 = true) (hb : s.rf (R.SPL_CTRL_STAT k) 1 0 ≠ 1) :
    splCtrlCmd k old w s = (s.wr (R.SPL_CTRL_STAT k) 1#32).setTile k fun y =>
      { y with queue := y.queue ++ [⟨bitsOf w 7 0, (s.rd (R.SPL_CTRL_ADDR k)).toNat, (s.rd (R.SPL_CTRL_WDATA k)).toNat, 0, 0, 0, 0⟩] } := by
  rw [splCtrlCmd, if_neg (by simp [hg, hb])]

/-- What goes out for a command joins the tile's packets; a command of software shows its tries (R226). -/
theorem ctrlOut_spec (k : Fin 4) (c : CtrlCmd) (s : State) : let u := ctrlOut k c s
    (u.tile[k]).outst = some { c with due := s.now + s.rf R.SPL_ACK_TIMEOUT 9 0 * 1000 } ∧ (u.tile[k]).out = (s.tile[k]).out ++ [ctrlPacket c] ∧
      (u.tile[k]).ctrls = (s.tile[k]).ctrls + 1 ∧ (u.tile[k]).queue = (s.tile[k]).queue := by
  intro u
  have h : ∀ y : State, y.tile = s.tile → ∀ e : CtrlCmd, ctrlPacket e = ctrlPacket c →
      let v := (sendPacket k y.now24 y (ctrlPacket e)).setTile k fun x => { x with outst := some e, ctrls := x.ctrls + 1, gap := x.gap + 1 }
      (v.tile[k]).outst = some e ∧ (v.tile[k]).out = (s.tile[k]).out ++ [ctrlPacket c] ∧
        (v.tile[k]).ctrls = (s.tile[k]).ctrls + 1 ∧ (v.tile[k]).queue = (s.tile[k]).queue := by
    intro y hy e he v
    have hv : v.tile[k] = { (sendPacket k y.now24 y (ctrlPacket e)).tile[k] with
        outst := some e, ctrls := (sendPacket k y.now24 y (ctrlPacket e)).tile[k].ctrls + 1, gap := (sendPacket k y.now24 y (ctrlPacket e)).tile[k].gap + 1 } :=
      setTile_self
    rw [hv]
    refine ⟨rfl, ?_, ?_, ?_⟩ <;> simp only [sendPacket, setTile_self, hy, he]
  refine h _ ?_ _ rfl
  split
  · exact State.wr_tile ..
  · rfl

theorem ctrlOut_only (h : Only l m s t) (ha : R.SPL_CTRL_STAT k ∈ l) : Only l m s (ctrlOut k c t) := by
  unfold ctrlOut
  extract_lets c' y
  have hy : Only l m s y := Only.ite (h.wf ha) h
  obtain ⟨o, fr, cl, e⟩ := sendPacket_eq k y.now24 y (ctrlPacket c')
  rw [e]
  exact hy.setTile.setTile

theorem ctrlOut_rf {hi lo : Nat} (ha : a ≠ R.SPL_CTRL_STAT k) : (ctrlOut k c s).rf a hi lo = s.rf a hi lo :=
  (ctrlOut_only (l := [R.SPL_CTRL_STAT k]) (m := []) (.refl _ _ _) (by simp)).rf (by simpa using ha)

theorem ctrlSend_eq {rest : List CtrlCmd} (hq : (s.tile[k]).queue = c :: rest) (ho : (s.tile[k]).outst = none)
    (ha : (s.rf (R.SPL_ALIVE k) 7 0 + 1) % 256 = a) (hm : ctrlMay s k { c with alive := a, tries := 1 } = true) :
    ctrlSend k s = ctrlOut k { c with alive := a, tries := 1 }
      (((s.wf (R.SPL_ALIVE k) 7 0 a).stAdd (R.SPL_STAT_CTRL k) 7 0 1).setTile k fun y => { y with queue := rest }) := by
  rw [ctrlSend, hq]
  simp only [ho, ha, hm, Option.isSome_none, Bool.not_true, Bool.or_self, Bool.false_eq_true, if_false]

/-- A command without ACK, before its fourth try: repeated where it may go out. -/
theorem ackTimeout_again (ho : (s.tile[k]).outst = some c) (ht : c.tries < 4) :
    ackTimeout k s = if ctrlMay (s.at c.due) k c then ctrlOut k { c with tries := c.tries + 1 } ((s.at c.due).stAdd (R.SPL_STAT_CTRL k) 15 8 1)
      else s.at c.due := by
  rw [ackTimeout, ho]
  exact if_pos ht

/-- The fourth try without ACK fails the command. -/
theorem ackTimeout_fails (ho : (s.tile[k]).outst = some c) (ht : 4 ≤ c.tries) (hc : c.org = 0) :
    ackTimeout k s = raise (Src.SPL_CTRL_FAIL k) (((((s.at c.due).setTile k fun y => { y with outst := none }).stAdd (R.SPL_STAT_CTRL k) 23 16 1).wf
      (R.SPL_CTRL_STAT k) 1 0 3).irq (spl k) 3) := by
  rw [ackTimeout, ho]
  simp only [if_neg (Nat.not_lt.2 ht), hc, if_true, OfNat.zero_ne_ofNat, if_false]

/-! ### ACK -/

theorem tileTakes_eq (k : Fin 4) (c : CtrlCmd) (s : State) : ∃ f, tileTakes k c s = s.setTile k f ∧ ∀ y, (f y).outst = y.outst := by
  have hid : s = s.setTile k id := by
    simp [State.setTile]
  unfold tileTakes
  split_ifs
  · exact ⟨_, hid, fun _ => rfl⟩
  · exact ⟨_, rfl, fun _ => rfl⟩
  · exact ⟨_, rfl, fun _ => rfl⟩
  · exact ⟨_, rfl, fun _ => rfl⟩
  · exact ⟨_, rfl, fun _ => rfl⟩
  · exact ⟨_, hid, fun _ => rfl⟩

theorem tileTakes_if (b : Bool) (k : Fin 4) (c : CtrlCmd) (s : State) :
    ∃ f, (if b then tileTakes k c s else s) = s.setTile k f ∧ ∀ y, (f y).outst = y.outst := by
  cases b
  · exact ⟨id, by simp [State.setTile], fun _ => rfl⟩
  · exact tileTakes_eq k c s

/-- An ACK of software's command ends it DONE with the tile's data (R226). -/
theorem ackFor_spec {status : Nat} {data : Word} (hc : c.org = 0) (hs : status < 256) (s : State) : let u := ackFor k c status data s
    (u.tile[k]).outst = none ∧ u.rd (R.SPL_CTRL_RDATA k) = data ∧ u.rf (R.SPL_CTRL_STAT k) 1 0 = 2 ∧ u.rf (R.SPL_CTRL_STAT k) 15 8 = status ∧
      u.rb (R.IRQ_STAT (spl k)) 2 = true ∧ Only [R.SPL_CTRL_RDATA k, R.SPL_CTRL_STAT k, R.IRQ_STAT (spl k)] [] s u := by
  intro u
  obtain ⟨f, hf, hk⟩ := tileTakes_if (status % 16 == 0) k c (s.setTile k fun x => { x with outst := none })
  have hu : u = (((((s.setTile k fun x => { x with outst := none }).setTile k f).wr (R.SPL_CTRL_RDATA k) data).wf (R.SPL_CTRL_STAT k) 1 0 2).wf
      (R.SPL_CTRL_STAT k) 15 8 status).irq (spl k) 2 := by
    rw [← hf]; exact if_pos hc
  have hy : (((s.setTile k fun x => { x with outst := none }).setTile k f).tile[k]).outst = none := by rw [setTile_self, hk, setTile_self]
  have ho : Only [] [] s ((s.setTile k fun x => { x with outst := none }).setTile k f) := (Only.refl _ _ s).setTile.setTile
  rw [hu]
  refine ⟨?_, ?_, ?_, ?_, State.rb_irq_self (by decide), ((((ho.mono (by simp) (by simp)).wr (by simp)).wf (by simp)).wf (by simp)).irq (by simp)⟩
  · rw [irq_tile, State.wf, State.wr_tile, State.wf, State.wr_tile, State.wr_tile]; exact hy
  · rw [State.rd_irq_of_ne rdata_ne_irq, State.rd_wf_of_ne stat_ne_rdata.symm, State.rd_wf_of_ne stat_ne_rdata.symm, State.rd_wr_self]
  · rw [State.rf_irq_of_ne stat_ne_irq, State.rf_wf_disjoint (by decide) (by decide) (by decide), State.rf_wf_self (by decide) (by decide)]
    decide
  · rw [State.rf_irq_of_ne stat_ne_irq, State.rf_wf_self (by decide) (by decide)]
    exact Nat.mod_eq_of_lt hs

/-- Settles O36: a command's way from its queue to the ACK or the failure. -/
theorem ctrlCommandsAreAnsweredOrFail : Obligations.CtrlCommandsAreAnsweredOrFail := by
  intro n i k w s
  have hat : Only [] [] s (s.at n) := (Only.refl _ _ _).at
  refine ⟨fun hacc hg hb => ?_, ?_, fun c ho ht hm => ?_, fun c ho ht hm => ?_, fun c ho ht hc => ?_,
    fun h a p q x c hu hp ha ho hc hal => ?_⟩
  · obtain ⟨v, hv⟩ := gateWrite_stored (splCtrlCmd k) hacc (ctrlCmd_plain k).1 (ctrlCmd_plain k).2
    have hx : Only [R.SPL_CTRL_CMD k] [] s ((s.at n).busOk.wr (R.SPL_CTRL_CMD k) v) := gateState_only ..
    have ht : ((s.at n).busOk.wr (R.SPL_CTRL_CMD k) v).tile = s.tile := rfl
    generalize (s.at n).busOk.wr (R.SPL_CTRL_CMD k) v = y at hv hx ht
    have h1 : R.SPL_CTRL_STAT k ∉ [R.SPL_CTRL_CMD k] := by simp only [R.SPL_CTRL_STAT, R.SPL_CTRL_CMD, List.mem_singleton]; omega
    have h2 : R.SPL_CTRL_ADDR k ∉ [R.SPL_CTRL_CMD k] := by simp only [R.SPL_CTRL_ADDR, R.SPL_CTRL_CMD, List.mem_singleton]; omega
    have h3 : R.SPL_CTRL_WDATA k ∉ [R.SPL_CTRL_CMD k] := by simp only [R.SPL_CTRL_WDATA, R.SPL_CTRL_CMD, List.mem_singleton]; omega
    rw [splCtrlCmd_go hg (by rw [hx.rf h1]; exact hb), hx.regs _ h2, hx.regs _ h3] at hv
    refine ⟨_, next_congr hv, ?_, ?_, fun j hj => ?_, ((hx.mono (by simp) (by simp)).wr (by simp)).setTile⟩
    · rw [setTile_rd, State.rd_wr_self]
    · rw [setTile_self, State.wr_tile, ht]
    · rw [setTile_of_ne hj, State.wr_tile, ht]
  · intro c rest a hq ho hm
    have hal : ((s.at n).rf (R.SPL_ALIVE k) 7 0 + 1) % 256 = a := rfl
    have h256 : a < 256 := Nat.mod_lt _ (by decide)
    clear_value a
    obtain ⟨h1, h2, h3, h4⟩ := ctrlOut_spec k { c with alive := a, tries := 1 }
      ((((s.at n).wf (R.SPL_ALIVE k) 7 0 a).stAdd (R.SPL_STAT_CTRL k) 7 0 1).setTile k fun y => { y with queue := rest })
    refine ⟨_, next_congr (ctrlSend_eq (s := s.at n) hq ho hal hm), ?_, ?_, ?_, ?_, ?_, ?_⟩
    · rw [h4, setTile_self]
    · rw [ctrlOut_rf alive_ne_stat, setTile_rf]
      exact (State.rf_wf_self (by decide) (by decide)).trans (Nat.mod_eq_of_lt h256)
    · rw [h1, setTile_rf]; exact congrArg (fun v => some { c with alive := a, tries := 1, due := max s.now n + v * 1000 }) (State.rf_wf_of_ne (s := s.at n) timeout_ne_alive)
    · rw [h2, setTile_self]; rfl
    · rw [h3, setTile_self]; rfl
    · exact ctrlOut_only (((hat.mono (by simp) (by simp)).wf (by simp)).stAdd (by simp)).setTile (by simp)
  · obtain ⟨h1, h2, h3, h4⟩ := ctrlOut_spec k { c with tries := c.tries + 1 } (((s.at n).at c.due).stAdd (R.SPL_STAT_CTRL k) 15 8 1)
    refine ⟨_, next_congr ((ackTimeout_again (s := s.at n) ho ht).trans (if_pos hm)), by rw [h1]; rfl, h2, ?_⟩
    exact ctrlOut_only ((hat.at.mono (by simp) (by simp)).stAdd (by simp)) (by simp)
  · exact ⟨_, next_congr ((ackTimeout_again (s := s.at n) ho ht).trans (if_neg (by rw [hm]; exact Bool.false_ne_true))), rfl, hat.at⟩
  · refine ⟨_, next_congr (ackTimeout_fails (s := s.at n) ho ht hc), ?_, ?_, State.rb_irq_self (by decide),
      (((hat.at.setTile.mono (by simp) (by simp)).stAdd (by simp)).wf (by simp)).irq (by simp)⟩
    · rw [irq_tile, State.wf, State.wr_tile, State.stAdd, State.stw_tile, setTile_self]
    · rw [State.rf_irq_of_ne stat_ne_irq, State.rf_wf_self (by decide) (by decide)]; decide
  · obtain ⟨hb1, hal'⟩ := parseRx_lt hp
    have ht : ((rxTaken k x (s.at n)).tile[k]).outst = some c := by rw [rxTaken_tile]; exact ho
    obtain ⟨h1, h2, h3, h4, h5, h6⟩ := ackFor_spec (k := k) (data := word x.arg) hc hb1 (rxTaken k x (s.at n))
    have e : ackPacket k false (nums (h ++ a ++ p ++ q)) (s.at n) = ackFor k c x.b1 (word x.arg) (rxTaken k x (s.at n)) := by
      rw [ackPacket, received_first (s := s.at n) hu hp ha]
      simp only [ht, hal, if_true]
    refine ⟨_, next_congr e, h1, h2, h3, h4, h5, (h6.rf ?_).trans (rxTaken_alive hal'),
      (rxTaken_only (hat.mono (by simp) (by simp)) (by simp) (by simp)).trans (h6.mono (by simp) (by simp))⟩
    simp only [List.mem_cons, List.not_mem_nil, or_false, not_or]
    exact ⟨alive_ne_rdata, alive_ne_stat, alive_ne_irq⟩

end Sys2Proof.Machine
end

section
/-! PROOFS. What the return packets of a tile bring: FSTAT, DIAG and ENUM (R219, R224, R229, R232 to R236). -/

namespace Sys2Proof.Machine

variable {l m : List Nat} {s t u : State} {a n : Nat} {k j : Fin 4} {x : Rx} {b : List Byte} {d : DiagRec}

/-! ### FSTAT -/

/-- One lane's character violations are added up (R229, R237). -/
def cvAdd (k : Fin 4) (cv : Fin 4 → Nat) (s : State) (j : Fin 4) : State :=
  (s.stAdd (R.SPL_STAT_CV k) 31 0 (cv j)).wr (R.SPL_CV_TOTAL k j) (word (satAdd 16 (s.rf (R.SPL_CV_TOTAL k j) 15 0) (cv j)))

/-- The registers that count a tile's character violations. -/
abbrev cvRegs (k : Fin 4) : List Nat := [R.SPL_CV_TOTAL k 0, R.SPL_CV_TOTAL k 1, R.SPL_CV_TOTAL k 2, R.SPL_CV_TOTAL k 3]

theorem cvTotal_mem (k j : Fin 4) : R.SPL_CV_TOTAL k j ∈ cvRegs k := by fin_cases j <;> simp

theorem cvTotal_inj {i j : Fin 4} (h : i ≠ j) : R.SPL_CV_TOTAL k i ≠ R.SPL_CV_TOTAL k j := by
  have := Fin.val_ne_of_ne h
  simp only [R.SPL_CV_TOTAL]; omega

theorem notMem_cvRegs (h : ∀ j : Fin 4, a ≠ R.SPL_CV_TOTAL k j) : a ∉ cvRegs k := by
  simp only [List.mem_cons, List.not_mem_nil, or_false, not_or]
  exact ⟨h 0, h 1, h 2, h 3⟩

theorem alive_ne_cv : R.SPL_ALIVE k ≠ R.SPL_CV_TOTAL k j := by simp only [R.SPL_ALIVE, R.SPL_CV_TOTAL]; omega
theorem crc_ne_cv : R.SCN_STAT_FRAME_CRC k ≠ R.SPL_CV_TOTAL k j := by simp only [R.SCN_STAT_FRAME_CRC, R.SPL_CV_TOTAL]; omega
theorem crc_ne_alive : R.SCN_STAT_FRAME_CRC k ≠ R.SPL_ALIVE k := by simp only [R.SCN_STAT_FRAME_CRC, R.SPL_ALIVE]; omega

variable {cv : Fin 4 → Nat}

theorem cvAdd_rd_of_ne (h : a ≠ R.SPL_CV_TOTAL k j) : (cvAdd k cv s j).rd a = s.rd a := State.rd_wr_of_ne _ h _

theorem cvAdd_only (h : Only l m s t) (hl : ∀ r ∈ cvRegs k, r ∈ l) (hm : R.SPL_STAT_CV k ∈ m) : Only l m s (cvAdd k cv t j) :=
  (h.stAdd hm).wr (hl _ (cvTotal_mem ..))

theorem over_cvAdd_rd_of_notMem {js : List (Fin 4)} (h : j ∉ js) : ∀ s : State, (s.over js (cvAdd k cv)).rd (R.SPL_CV_TOTAL k j) = s.rd (R.SPL_CV_TOTAL k j) := by
  induction js with
  | nil => exact fun _ => rfl
  | cons i js ih =>
    intro s
    rw [List.mem_cons, not_or] at h
    exact (ih h.2 _).trans (cvAdd_rd_of_ne (cvTotal_inj h.1))

/-- After all lanes have been added up each total holds its own sum. -/
theorem over_cvAdd_rd {js : List (Fin 4)} (hn : js.Nodup) (hj : j ∈ js) :
    ∀ s : State, (s.over js (cvAdd k cv)).rd (R.SPL_CV_TOTAL k j) = word (satAdd 16 (s.rf (R.SPL_CV_TOTAL k j) 15 0) (cv j)) := by
  induction js with
  | nil => exact absurd hj List.not_mem_nil
  | cons i js ih =>
    intro s
    obtain ⟨hi, hn⟩ := List.nodup_cons.1 hn
    change ((cvAdd k cv s i).over js (cvAdd k cv)).rd _ = _
    by_cases h : j = i
    · subst h
      rw [over_cvAdd_rd_of_notMem hi, cvAdd, State.rd_wr_self]
    · rw [ih hn ((List.mem_cons.1 hj).resolve_left h), State.rf, cvAdd_rd_of_ne (cvTotal_inj h), State.rf]

/-- The totals after an FSTAT. -/
def cvAll (k : Fin 4) (pay : List Nat) (s : State) : State := s.over (List.finRange 4) (cvAdd k fun j => field pay (12 + j.val) 1)

theorem cvAll_only {pay : List Nat} (h : Only l m s t) (hl : ∀ r ∈ cvRegs k, r ∈ l) (hm : R.SPL_STAT_CV k ∈ m) : Only l m s (cvAll k pay t) :=
  State.over_induct (q := Only l m s) h fun _ _ h => cvAdd_only h hl hm

theorem cvAll_tile {pay : List Nat} : (cvAll k pay s).tile = s.tile :=
  State.over_induct (q := fun y => y.tile = s.tile) rfl fun _ _ h => (State.wr_tile ..).trans h

/-- An FSTAT without errors, of the frame sent, is added up and ends the wait for it (R229, R237). -/
theorem fstatReport_good (hcv : ∀ j < 4, field x.pay (12 + j) 1 < 16) (hb : field x.pay 8 2 = 0) (hh : field x.pay 10 2 = 0)
    (hc : word (field x.pay 0 4) = s.rd (R.SCN_STAT_FRAME_CRC k)) :
    fstatReport k x s = ((cvAll k x.pay (s.setTile k fun y => { y with noFstat := 0 })).stAdd (R.SPL_STAT_TILE k) 15 0 0).stAdd (R.SPL_STAT_TILE k) 31 16 0 := by
  have hany : (List.finRange 4).any (fun j => decide (16 ≤ field x.pay (12 + j.val) 1)) = false := by
    rw [List.any_eq_false]
    intro j _
    have := hcv j j.isLt
    simp only [decide_eq_true_eq]; omega
  have ho : Only (cvRegs k) [R.SPL_STAT_CV k] s (cvAll k x.pay (s.setTile k fun y => { y with noFstat := 0 })) :=
    cvAll_only (Only.refl _ _ s).setTile (fun _ h => h) (by simp)
  have hcrc : (cvAll k x.pay (s.setTile k fun y => { y with noFstat := 0 })).rd (R.SCN_STAT_FRAME_CRC k) = s.rd (R.SCN_STAT_FRAME_CRC k) :=
    ho.regs _ (notMem_cvRegs fun _ => crc_ne_cv)
  unfold fstatReport
  extract_lets y cv disp bad held s1 s2 s3 clean echo s4 s5
  have h2 : s2 = cvAll k x.pay (s.setTile k fun y => { y with noFstat := 0 }) := rfl
  have hclean : clean = true := by simp only [clean, bad, held, hb, hh]; rfl
  have hecho : echo = false := by
    have h3 : Only [] [R.SPL_STAT_TILE k] s2 s3 := ((Only.refl _ _ _).stAdd (by simp)).stAdd (by simp)
    have : word disp = s3.rd (R.SCN_STAT_FRAME_CRC k) := by rw [h3.regs _ (by simp), h2, hcrc, hc]
    simp only [echo, this, bne_self_eq_false, Bool.and_false]
  have h4 : s4 = s3 := if_neg (by rw [hecho]; exact Bool.false_ne_true)
  have h5 : s5 = s4 := by simp only [s5, hclean, Bool.not_true, raiseIf_false]
  rw [if_neg (by rw [hany]; exact Bool.false_ne_true), h5, h4]
  simp only [s3, bad, held, hb, hh, h2]

/-! ### DIAG -/

theorem ringPut_off {pkt : List Nat} (h : s.rb (R.CTRL (spl k)) 3 = false) : ringPut k pkt s = s := by
  unfold ringPut
  extract_lets n
  exact if_pos (by simp [h])

theorem verifyFrame_none (h : (s.tile[k]).probes = []) : verifyFrame k n s = s := by
  unfold verifyFrame
  extract_lets y c
  simp only [y, h, List.find?_nil]

/-- A DIAG in time, of one record, with the ring off and nothing to verify: its bytes are counted and its record delivered. -/
theorem diagReport_one {pkt : List Nat} (hr : s.rb (R.CTRL (spl k)) 3 = false) (ht : s.tickNum < fullFrame s x.arg + 2) (hd : recordsOf x.pay = some [d])
    (hp : ((deliver k (fullFrame s x.arg) (s.stAdd (R.SPL_STAT_DIAG k) 23 0 x.pay.length) d).tile[k]).probes = []) :
    diagReport k pkt x s = deliver k (fullFrame s x.arg) (s.stAdd (R.SPL_STAT_DIAG k) 23 0 x.pay.length) d := by
  unfold diagReport
  extract_lets f late s1 s2 s3
  have hl : late = false := decide_eq_false (Nat.not_le.2 ht)
  have h2 : s2 = s1 := if_neg (by rw [hl]; exact Bool.false_ne_true)
  have h3 : s3 = s1 := by rw [← h2]; exact ringPut_off (h2 ▸ hr)
  have h4 : verifyFrame k f (s3.over ((recordsOf x.pay).getD []) (deliver k f)) = deliver k f s1 d := by
    rw [hd, h3]; exact verifyFrame_none hp
  rw [hl, raiseIf_false]
  exact h4

theorem deliver_other (h : 0x80 ≤ d.type) : deliver k n s d = s := by
  unfold deliver
  extract_lets w0
  split <;> first | omega | rfl

theorem deliver_vf (h : d.type = 3) : deliver k n s d = noteVf k n (bitsOf (d.w 1) 15 0) s := by
  unfold deliver
  extract_lets w0
  rw [h]
  rfl

/-- A tile's account after the first VF record of a frame. -/
def vfFirst (n v : Nat) (y : TileSt) : TileSt := { y with vfFrame := n, vfSum := v, vfCnt := 1 }

/-- The state after the first VF record of a frame: its value is the frame's mean (R258). -/
def vfNoted (k : Fin 4) (n v : Nat) (s : State) : State :=
  let y := s.setTile k (vfFirst n v)
  { y with ctl := { y.ctl with vfSeq := y.ctl.vfSeq.set k (y.ctl.vfSeq[k] + 1) } }.wr (R.DRV_TILE_VF k) (word (65536 + v))

theorem noteVf_first {v : Nat} (h : (s.tile[k]).vfFrame ≠ n) : noteVf k n v s = vfNoted k n v s := by
  have hv : rndDiv v 1 = v := by rw [rndDiv, if_neg (by decide)]; omega
  unfold noteVf
  extract_lets y
  rw [if_neg h]
  have h1 : satU 16 ((1 : Nat) : Int) = 1 := by decide
  simp only [h1, hv, one_mul, Int.toNat_natCast]
  rfl

theorem vfNoted_only {v : Nat} (h : Only l m s t) (ha : R.DRV_TILE_VF k ∈ l) : Only l m s (vfNoted k n v t) :=
  Only.wr (Only.upd (t := t) h rfl rfl rfl rfl rfl rfl) ha

theorem vfNoted_spec (k : Fin 4) (n v : Nat) (s : State) : let u := vfNoted k n v s
    u.rd (R.DRV_TILE_VF k) = word (65536 + v) ∧ u.tile[k] = vfFirst n v s.tile[k] ∧
      u.ctl.vfSeq[k] = s.ctl.vfSeq[k] + 1 := by
  refine ⟨State.rd_wr_self .., ?_, ?_⟩
  · rw [vfNoted, State.wr_tile]; exact setTile_self (s := s) (k := k) (f := vfFirst n v)
  · rw [vfNoted, State.wr_ctl]; simp [State.setTile]

theorem noteVf_probes {v : Nat} : ((noteVf k n v s).tile[k]).probes = (s.tile[k]).probes := by
  unfold noteVf
  extract_lets y
  split
  extract_lets s1 s2
  have h : (s1.tile[k]).probes = (s.tile[k]).probes := by simp only [s1, setTile_self]
  rw [State.wr_tile]
  exact h

/-- The state in which a good DIAG's records are delivered: its bytes are counted. -/
def diagCounted (k : Fin 4) (x : Rx) (s : State) : State := (rxTaken k x s).stAdd (R.SPL_STAT_DIAG k) 23 0 x.pay.length

theorem diagCounted_tile : (diagCounted k x s).tile[k] = { s.tile[k] with rxAny := true } := by
  rw [diagCounted, State.stAdd, State.stw_tile, rxTaken_tile]

theorem diagCounted_spec {type : Nat} {b : List Byte} (hp : parseRx type (nums b) = some x) (s : State) : let u := diagCounted k x s
    bitsOf (u.st (R.SPL_STAT_DIAG k)) 23 0 = min (bitsOf (s.st (R.SPL_STAT_DIAG k)) 23 0 + x.pay.length) 16777215 ∧ u.rf (R.SPL_ALIVE k) 15 8 = x.alive ∧
      Only [R.SPL_ALIVE k] [R.SPL_STAT_RX k, R.SPL_STAT_DIAG k] s u := by
  have hr : Only [R.SPL_ALIVE k] [R.SPL_STAT_RX k] s (rxTaken k x s) := rxTaken_only (.refl _ _ _) (by simp) (by simp)
  have hne : R.SPL_STAT_DIAG k ∉ [R.SPL_STAT_RX k] := by simp only [R.SPL_STAT_DIAG, R.SPL_STAT_RX, List.mem_singleton]; omega
  refine ⟨(bitsOf_stAdd (by decide) (by decide)).trans (by rw [hr.stats _ hne]; norm_num), ?_, (hr.mono (by simp) (by simp)).stAdd (by simp)⟩
  rw [diagCounted, State.stAdd, State.rf, State.stw_rd]
  exact rxTaken_alive (parseRx_lt hp).2

/-- A first good DIAG in time, of one record that leaves the probes alone, with the ring off and nothing to verify. -/
theorem diagPacket_one {b : List Nat} (hu : s.linkUp k = true) (ha : (s.tile[k]).rxAny = false) (hp : parseRx 0x82 b = some x)
    (hr : s.rb (R.CTRL (spl k)) 3 = false) (hq : (s.tile[k]).probes = []) (hn : n = fullFrame s x.arg) (ht : s.tickNum < n + 2)
    (hd : recordsOf x.pay = some [d]) (hk : ∀ y, ((deliver k n y d).tile[k]).probes = (y.tile[k]).probes) :
    diagPacket k false b s = deliver k n (diagCounted k x s) d := by
  have ho : Only [R.SPL_ALIVE k] [R.SPL_STAT_RX k] s (rxTaken k x s) := rxTaken_only (.refl _ _ _) (by simp) (by simp)
  have hne : R.CTRL (spl k) ∉ [R.SPL_ALIVE k] := by simp only [R.CTRL, R.SPL_ALIVE, R.base, spl, P.SPLT, List.mem_singleton]; omega
  have hf : fullFrame (rxTaken k x s) x.arg = n := hn.symm
  rw [diagPacket, received_first hu hp ha, diagReport_one (by rw [ho.rb hne]; exact hr) (by rw [hf]; exact ht) hd, hf]
  · rfl
  · rw [hf, hk, State.stAdd, State.stw_tile, rxTaken_tile]; exact hq

/-! ### ENUM -/

theorem over_wr_rd_of_notMem {g : Nat → Nat} {v : Nat → Word} {js : List Nat} (h : ∀ w ∈ js, a ≠ g w) :
    ∀ s : State, (s.over js fun s w => s.wr (g w) (v w)).rd a = s.rd a := by
  induction js with
  | nil => exact fun _ => rfl
  | cons i js ih =>
    intro s
    exact (ih (fun w hw => h w (List.mem_cons_of_mem _ hw)) _).trans (State.rd_wr_of_ne _ (h i List.mem_cons_self) _)

/-- A range of registers written one by one holds what each was given. -/
theorem over_wr_rd {g : Nat → Nat} {v : Nat → Word} {js : List Nat} {w : Nat} (hg : ∀ i j, g i = g j → i = j) (hw : w ∈ js) :
    ∀ s : State, (s.over js fun s w => s.wr (g w) (v w)).rd (g w) = v w := by
  induction js with
  | nil => exact absurd hw List.not_mem_nil
  | cons i js ih =>
    intro s
    change ((s.wr (g i) (v i)).over js fun s w => s.wr (g w) (v w)).rd (g w) = v w
    by_cases h : w ∈ js
    · exact ih h _
    · have hi : w = i := (List.mem_cons.1 hw).resolve_right h
      subst hi
      rw [over_wr_rd_of_notMem fun j hj e => h ((hg w j e).symm ▸ hj), State.rd_wr_self]

/-- The tile's record in the SPL_ENUM registers (R234). -/
def enumShown (k : Fin 4) (pay : List Nat) (s : State) : State := s.over (List.range 24) fun s w => s.wr (R.SPL_ENUM k w) (word (field pay (4 * w) 4))

theorem enumShown_rd {pay : List Nat} {w : Nat} (h : w < 24) : (enumShown k pay s).rd (R.SPL_ENUM k w) = word (field pay (4 * w) 4) :=
  over_wr_rd (g := R.SPL_ENUM k) (v := fun w => word (field pay (4 * w) 4)) (fun i j h => by simp only [R.SPL_ENUM] at h; omega) (List.mem_range.2 h) s

/-- The registers of the record. -/
def enumRegs (k : Fin 4) : List Nat := (List.range 24).map (R.SPL_ENUM k)

theorem enumShown_only {pay : List Nat} (h : Only l m s t) (hl : ∀ r ∈ enumRegs k, r ∈ l) : Only l m s (enumShown k pay t) :=
  State.over_induct_mem (q := Only l m s) h fun _ _ hw h => h.wr (hl _ (List.mem_map_of_mem hw))

theorem drvWrite_only {p q : Nat} {c : Bool} (h : Only l m s t) : Only l m s (drvWrite k p q c t) := by
  unfold drvWrite
  exact h.setTile

theorem showProbe_only (h : Only l m s t) (h1 : R.DRV_PROBE_STAT ∈ l) (h2 : ∀ j : Fin 4, R.DRV_PROBE_UNITS j ∈ l) : Only l m s (showProbe t) :=
  Only.wr (State.over_induct (q := Only l m s) h fun _ j h => Only.ite (h.wr (h2 j)) h) h1

theorem groupsChanged_only {c : Option (Fin 4)} (h : Only l m s t) (h1 : R.DRV_PROBE_STAT ∈ l) (h2 : ∀ j : Fin 4, R.DRV_PROBE_UNITS j ∈ l) :
    Only l m s (groupsChanged c t) := by
  have hs := showProbe_only h h1 h2
  unfold groupsChanged
  extract_lets y g z
  refine Only.ite hs (State.over_induct (q := Only l m s) (hs.upd rfl rfl rfl rfl rfl rfl) fun _ j h => Only.ite (drvWrite_only h) h)

theorem probeSetup_only (h : Only l m s t) (h1 : R.DRV_PROBE_STAT ∈ l) (h2 : ∀ j : Fin 4, R.DRV_PROBE_UNITS j ∈ l) : Only l m s (probeSetup k t) :=
  drvWrite_only (drvWrite_only (drvWrite_only (drvWrite_only (groupsChanged_only h h1 h2))))

theorem drvWrite_due {p q : Nat} {c : Bool} : ((drvWrite k p q c s).tile[j]).due = (s.tile[j]).due := by
  by_cases h : j = k
  · subst h; rw [drvWrite, setTile_self]
  · rw [drvWrite, setTile_of_ne h]

theorem probeSetup_due : ((probeSetup k s).tile[j]).due = (s.tile[j]).due := by
  have h1 : ∀ y : State, (showProbe y).tile = y.tile := fun y =>
    (State.wr_tile ..).trans (State.over_induct (q := fun z => z.tile = y.tile) rfl fun z j h => by
      split
      · rw [State.wr_tile, h]
      · exact h)
  have h2 : ((groupsChanged (some k) s).tile[j]).due = (s.tile[j]).due := by
    unfold groupsChanged
    extract_lets y g z
    have hy : (y.tile[j]).due = (s.tile[j]).due := by rw [h1]
    split
    · exact hy
    · exact State.over_induct (q := fun z => (z.tile[j]).due = (s.tile[j]).due) hy fun z i h => by
        split
        · rw [drvWrite_due, h]
        · exact h
  rw [probeSetup, drvWrite_due, drvWrite_due, drvWrite_due, drvWrite_due, h2]

theorem Only.laneMax (h : Only l m s t) (ha : R.SPL_LANE_CFG k ∉ l) : Machine.laneMax t k = Machine.laneMax s k := by
  rw [Machine.laneMax, Machine.laneMax, h.rf ha]

theorem Only.rateMax (h : Only l m s t) (ha : R.SPL_LANE_CFG k ∉ l) : Machine.rateMax t k = Machine.rateMax s k := by
  rw [Machine.rateMax, Machine.rateMax, h.rf ha]

theorem cfg_ne_status : R.SPL_LANE_CFG k ≠ R.STATUS (spl k) := by simp only [R.SPL_LANE_CFG, R.STATUS, R.base, spl, P.SPLT]; omega
theorem ctrl_ne_status : R.CTRL (spl k) ≠ R.STATUS (spl k) := by simp only [R.CTRL, R.STATUS, R.base, spl, P.SPLT]; omega
theorem irq_ne_status : R.IRQ_STAT (spl k) ≠ R.STATUS (spl k) := by simp only [R.IRQ_STAT, R.STATUS, R.base, spl, P.SPLT]; omega

theorem status_ne_probe : R.STATUS (spl k) ≠ R.DRV_PROBE_STAT ∧ ∀ j : Fin 4, R.STATUS (spl k) ≠ R.DRV_PROBE_UNITS j := by
  refine ⟨?_, fun j => ?_⟩ <;> simp only [R.DRV_PROBE_STAT, R.DRV_PROBE_UNITS, R.STATUS, R.base, spl, P.SPLT] <;> omega

theorem cfg_ne_probe : R.SPL_LANE_CFG k ≠ R.IRQ_STAT (spl k) ∧ R.SPL_LANE_CFG k ≠ R.DRV_PROBE_STAT ∧ ∀ j : Fin 4, R.SPL_LANE_CFG k ≠ R.DRV_PROBE_UNITS j := by
  refine ⟨?_, ?_, fun j => ?_⟩ <;> simp only [R.SPL_LANE_CFG, R.DRV_PROBE_STAT, R.DRV_PROBE_UNITS, R.IRQ_STAT, R.base, spl, P.SPLT] <;> omega

theorem ctrl_ne_probe : R.CTRL (spl k) ≠ R.IRQ_STAT (spl k) ∧ R.CTRL (spl k) ≠ R.DRV_PROBE_STAT ∧ ∀ j : Fin 4, R.CTRL (spl k) ≠ R.DRV_PROBE_UNITS j := by
  refine ⟨?_, ?_, fun j => ?_⟩ <;> simp only [R.CTRL, R.DRV_PROBE_STAT, R.DRV_PROBE_UNITS, R.IRQ_STAT, R.base, spl, P.SPLT] <;> omega

theorem irq_ne_probe : R.IRQ_STAT (spl k) ≠ R.DRV_PROBE_STAT ∧ ∀ j : Fin 4, R.IRQ_STAT (spl k) ≠ R.DRV_PROBE_UNITS j := by
  refine ⟨?_, fun j => ?_⟩ <;> simp only [R.DRV_PROBE_STAT, R.DRV_PROBE_UNITS, R.IRQ_STAT, R.base, spl, P.SPLT] <;> omega

theorem notMem_probeRegs (h : ∀ j : Fin 4, a ≠ R.DRV_PROBE_UNITS j) (h0 : a ≠ R.DRV_PROBE_STAT) :
    a ∉ R.DRV_PROBE_STAT :: (List.finRange 4).map fun j : Fin 4 => R.DRV_PROBE_UNITS j := by
  simp only [List.mem_cons, List.mem_map, List.mem_finRange, true_and, not_or, not_exists]
  exact ⟨h0, fun j e => h j e.symm⟩

/-- A link that comes UP at full width and rate, with the hash check off (R236, R237). -/
theorem linkComesUp_full (hn : laneMax s k ≤ lanesOf (s.rf (R.STATUS (spl k)) 7 4)) (hr : rateMax s k ≤ s.rf (R.STATUS (spl k)) 9 8)
    (hc : s.rb (R.CTRL (spl k)) 4 = false) :
    ∃ y, Only [] [] (setLstate k 6 s) y ∧ (y.tile[k]).due = 0 ∧ linkComesUp k s = (probeSetup k (y.irq (spl k) 0)).wb (R.STATUS (spl k)) 11 false := by
  unfold linkComesUp
  extract_lets s1 sent fits s2 s3 s4 degraded short s5 s6
  have h3 : Only [] [] s1 s3 := by
    have hs : Only [] [] s1 sent := by
      obtain ⟨o, fr, cl, e⟩ := sendPacket_eq k s1.now24 s1 (seqPacket (s1.frame + 1) (seqTable s1).order (seqTable s1).thr (seqTable s1).min (s1.rf R.DRV_SEQ_CFG 31 24))
      have e' : sent = _ := e
      rw [e']; exact (Only.refl _ _ _).setTile
    exact (Only.ite hs (.refl _ _ _)).setTile
  have h4 : Only (R.IRQ_STAT (spl k) :: R.DRV_PROBE_STAT :: (List.finRange 4).map fun j : Fin 4 => R.DRV_PROBE_UNITS j) [] s1 s4 :=
    probeSetup_only ((h3.mono (by simp) (by simp)).irq (by simp)) (by simp) (by simp)
  have hne : ∀ a, a ≠ R.IRQ_STAT (spl k) → a ≠ R.DRV_PROBE_STAT → (∀ j : Fin 4, a ≠ R.DRV_PROBE_UNITS j) →
      a ∉ R.IRQ_STAT (spl k) :: R.DRV_PROBE_STAT :: (List.finRange 4).map fun j : Fin 4 => R.DRV_PROBE_UNITS j :=
    fun a h1 h2 h3 h => (List.mem_cons.1 h).elim h1 (notMem_probeRegs h3 h2)
  have h1 : Only [R.STATUS (spl k)] [] s s1 := (Only.refl _ _ _).wf (by simp)
  have hst : ∀ hi lo, 4 ≤ lo → s4.rf (R.STATUS (spl k)) hi lo = s.rf (R.STATUS (spl k)) hi lo := fun hi lo h =>
    (h4.rf (hne _ irq_ne_status.symm status_ne_probe.1 status_ne_probe.2)).trans (State.rf_wf_disjoint (by decide) (by decide) (.inl h))
  have hdeg : degraded = false := by
    have hl : laneMax s4 k = laneMax s k := by
      rw [h4.laneMax (hne _ cfg_ne_probe.1 cfg_ne_probe.2.1 cfg_ne_probe.2.2), h1.laneMax (by simpa using cfg_ne_status)]
    have hm : rateMax s4 k = rateMax s k := by
      rw [h4.rateMax (hne _ cfg_ne_probe.1 cfg_ne_probe.2.1 cfg_ne_probe.2.2), h1.rateMax (by simpa using cfg_ne_status)]
    simp only [degraded, hl, hm, hst 7 4 (by decide), hst 9 8 (by decide), Nat.not_lt.2 hn, Nat.not_lt.2 hr, decide_false, Bool.or_self]
  have hshort : short = false := by simp only [short, hdeg, Bool.false_and]
  have h6 : s6 = s4.wb (R.STATUS (spl k)) 11 false := by
    simp only [s6, hdeg, Bool.false_eq_true, if_false, s5, hshort]
  have hctl : s6.rb (R.CTRL (spl k)) 4 = false := by
    rw [h6, State.rb_wb_of_ne ctrl_ne_status, h4.rb (hne _ ctrl_ne_probe.1 ctrl_ne_probe.2.1 ctrl_ne_probe.2.2), h1.rb (by simpa using ctrl_ne_status), hc]
  refine ⟨s3, h3, ?_, ?_⟩
  · simp only [s3, setTile_self]
  · rw [hshort, raiseIf_false, hashCheck, hctl, Bool.false_and, raiseIf_false, h6]

theorem enum_ne_geom {w : Nat} (hw : w < 24) : R.SPL_ENUM k w ≠ R.WRP_GEOM k := by simp only [R.SPL_ENUM, R.WRP_GEOM]; omega

theorem enum_ne_link {w : Nat} (hw : w < 24) : R.SPL_ENUM k w ≠ R.STATUS (spl k) ∧ R.SPL_ENUM k w ≠ R.IRQ_STAT (spl k) ∧
    R.SPL_ENUM k w ≠ R.DRV_PROBE_STAT ∧ ∀ j : Fin 4, R.SPL_ENUM k w ≠ R.DRV_PROBE_UNITS j := by
  refine ⟨?_, ?_, ?_, fun j => ?_⟩ <;>
    simp only [R.SPL_ENUM, R.STATUS, R.IRQ_STAT, R.DRV_PROBE_STAT, R.DRV_PROBE_UNITS, R.base, spl, P.SPLT] <;> omega

/-- The registers of a tile's record, and those that go with it. -/
def keptRegs (k : Fin 4) : List Nat := R.SPL_ALIVE k :: R.WRP_GEOM k :: R.STATUS (spl k) :: enumRegs k

theorem notMem_keptRegs (h : a ≠ R.SPL_ALIVE k ∧ a ≠ R.WRP_GEOM k ∧ a ≠ R.STATUS (spl k) ∧ ∀ w < 24, a ≠ R.SPL_ENUM k w) : a ∉ keptRegs k := by
  obtain ⟨h1, h2, h3, h4⟩ := h
  simp only [keptRegs, enumRegs, List.mem_cons, List.mem_map, List.mem_range, not_or, not_exists, not_and]
  exact ⟨h1, h2, h3, fun w hw e => h4 w hw e.symm⟩

theorem keepRecord_spec (k : Fin 4) (pay : List Nat) (s : State) : let u := keepRecord k pay s
    (∀ w < 24, u.rd (R.SPL_ENUM k w) = word (field pay (4 * w) 4)) ∧
      (∀ hi lo, 10 < lo ∨ hi < 10 → u.rf (R.STATUS (spl k)) hi lo = (enumShown k pay s).rf (R.STATUS (spl k)) hi lo) ∧
      Only (keptRegs k) [] s u := by
  obtain ⟨f, g, b, e⟩ : ∃ f g b, keepRecord k pay s = (((enumShown k pay s).wr (R.WRP_GEOM k) g).setTile k f).wb (R.STATUS (spl k)) 10 b := ⟨_, _, _, rfl⟩
  have hgs : R.STATUS (spl k) ≠ R.WRP_GEOM k := by simp only [R.STATUS, R.WRP_GEOM, R.base, spl, P.SPLT]; omega
  intro u
  rw [show u = _ from e]
  refine ⟨fun w hw => ?_, fun hi lo h => ?_, ?_⟩
  · rw [State.rd_wb_of_ne (enum_ne_link hw).1, setTile_rd, State.rd_wr_of_ne _ (enum_ne_geom hw), enumShown_rd hw]
  · rw [State.rf_wb_disjoint (by decide) h.symm, setTile_rf, State.rf, State.rd_wr_of_ne _ hgs, State.rf]
  · refine Only.wb ((Only.wr (enumShown_only (.refl _ _ _) fun r hr => ?_) ?_).setTile) ?_
    · simp only [keptRegs, List.mem_cons]; exact .inr (.inr (.inr hr))
    · simp [keptRegs]
    · simp [keptRegs]

theorem enumPacket_up {b : List Nat} (hl : s.lstate k = 5) (hp : parseRx 0x83 b = some x) (hx : recordOk x.pay = true) :
    enumPacket k false b s = linkComesUp k (keepRecord k x.pay (rxTaken k x s)) := by
  rw [enumPacket, if_pos hl]
  simp only [Bool.false_eq_true, if_false, hp, hx, if_true]
  rfl

/-- Settles O37: packets that are discarded, and what a good FSTAT, DIAG and ENUM bring. -/
theorem returnPacketsAreTakenOnce : Obligations.ReturnPacketsAreTakenOnce := by
  intro n k err h a p nn v q s f g fresh
  have hat : Only [] [] s (s.at n) := (Only.refl _ _ _).at
  refine ⟨fun hu hb => ?_, fun x hu hp ha he => ?_, ?_, fun x hx hr hq ht => ⟨fun d hd h80 => ?_, fun d hd h3 hf => ?_⟩,
    fun x hl hp hok hlane hrate hc => ?_⟩
  · exact ⟨_, next_congr (received_bad (s := s.at n) hu hb), bitsOf_stAdd (by decide) (by decide), State.stw_tile .., (hat.mono (by simp) (by simp)).stAdd (by simp)⟩
  · exact ⟨_, next_congr (received_again (s := s.at n) hu hp ha he), State.stw_tile .., (hat.mono (by simp) (by simp)).stAdd (by simp)⟩
  · intro x cv hx hcv hb hh hc
    obtain ⟨hu, ha, hp⟩ := hx
    have hr : Only [R.SPL_ALIVE k] [R.SPL_STAT_RX k] s (rxTaken k x (s.at n)) := rxTaken_only (hat.mono (by simp) (by simp)) (by simp) (by simp)
    have e := (received_first (s := s.at n) (f := fstatReport k) hu hp ha).trans
      (fstatReport_good hcv hb hh (by rw [hr.regs _ (by simpa using crc_ne_alive)]; exact hc))
    have hx : ((rxTaken k x (s.at n)).rf (R.SPL_ALIVE k) 15 8) = x.alive := rxTaken_alive (parseRx_lt hp).2
    generalize rxTaken k x (s.at n) = y at hr e hx
    have ho : Only (cvRegs k) [R.SPL_STAT_CV k, R.SPL_STAT_TILE k] y
        (((cvAll k x.pay (y.setTile k fun z => { z with noFstat := 0 })).stAdd (R.SPL_STAT_TILE k) 15 0 0).stAdd (R.SPL_STAT_TILE k) 31 16 0) :=
      ((cvAll_only (Only.refl _ _ y).setTile (fun _ h => h) (by simp)).stAdd (by simp)).stAdd (by simp)
    refine ⟨_, next_congr e, ?_, (ho.rf (notMem_cvRegs fun _ => alive_ne_cv)).trans hx, fun j => ?_,
      (hr.mono (by simp) (by simp)).trans (ho.mono (fun _ h => List.mem_cons_of_mem _ h) (fun _ h => List.mem_cons_of_mem _ h))⟩
    · rw [State.stAdd, State.stw_tile, State.stAdd, State.stw_tile, cvAll_tile, setTile_self]
    · rw [State.stAdd, State.stw_rd, State.stAdd, State.stw_rd, cvAll, over_cvAdd_rd (List.nodup_finRange 4) (List.mem_finRange j), setTile_rf,
        hr.rf (by simpa using alive_ne_cv.symm)]
  · obtain ⟨hu, ha, hp⟩ := hx
    have e := diagPacket_one (s := s.at n) (n := fullFrame s x.arg) hu ha hp hr hq rfl ht hd fun y => by rw [deliver_other h80]
    rw [deliver_other h80] at e
    obtain ⟨c1, c2, c3⟩ := diagCounted_spec (k := k) hp (s.at n)
    exact ⟨_, next_congr e, c1, c2, (hat.mono (by simp) (by simp)).trans c3⟩
  · obtain ⟨hu, ha, hp⟩ := hx
    have hvf : ((diagCounted k x (s.at n)).tile[k]).vfFrame ≠ fullFrame s x.arg := by rw [diagCounted_tile]; exact hf
    have hpr : ∀ y, ((deliver k (fullFrame s x.arg) y d).tile[k]).probes = (y.tile[k]).probes := fun y => by rw [deliver_vf h3, noteVf_probes]
    have e := diagPacket_one (s := s.at n) (n := fullFrame s x.arg) hu ha hp hr hq rfl ht hd hpr
    rw [deliver_vf h3, noteVf_first hvf] at e
    obtain ⟨-, -, c3⟩ := diagCounted_spec (k := k) hp (s.at n)
    obtain ⟨v1, v2, v3⟩ := vfNoted_spec k (fullFrame s x.arg) (bitsOf (d.w 1) 15 0) (diagCounted k x (s.at n))
    refine ⟨_, next_congr e, v1, by rw [v2]; rfl, v3.trans rfl, vfNoted_only ((hat.mono (by simp) (by simp)).trans (c3.mono (by simp) (by simp))) (by simp)⟩
  · have hk : Only (keptRegs k) [R.SPL_STAT_RX k] s (keepRecord k x.pay (rxTaken k x (s.at n))) :=
      (rxTaken_only (hat.mono (by simp) (by simp)) (by simp [keptRegs]) (by simp)).trans ((keepRecord_spec k x.pay _).2.2.mono (fun _ h => h) (by simp))
    obtain ⟨k1, k2, -⟩ := keepRecord_spec k x.pay (rxTaken k x (s.at n))
    have hcfg : R.SPL_LANE_CFG k ∉ keptRegs k := notMem_keptRegs (by
      refine ⟨?_, ?_, ?_, fun w hw => ?_⟩ <;> simp only [R.SPL_LANE_CFG, R.SPL_ALIVE, R.WRP_GEOM, R.STATUS, R.SPL_ENUM, R.base, spl, P.SPLT] <;> omega)
    have hctl : R.CTRL (spl k) ∉ keptRegs k := notMem_keptRegs (by
      refine ⟨?_, ?_, ?_, fun w hw => ?_⟩ <;> simp only [R.CTRL, R.SPL_ALIVE, R.WRP_GEOM, R.STATUS, R.SPL_ENUM, R.base, spl, P.SPLT] <;> omega)
    have hst : ∀ hi lo, 10 < lo ∨ hi < 10 → (keepRecord k x.pay (rxTaken k x (s.at n))).rf (R.STATUS (spl k)) hi lo = s.rf (R.STATUS (spl k)) hi lo := by
      intro hi lo h
      have h0 : Only (R.SPL_ALIVE k :: enumRegs k) [R.SPL_STAT_RX k] s (enumShown k x.pay (rxTaken k x (s.at n))) :=
        enumShown_only (rxTaken_only (hat.mono (by simp) (by simp)) (by simp) (by simp)) fun r hr => List.mem_cons_of_mem _ hr
      rw [k2 hi lo h, h0.rf]
      simp only [enumRegs, List.mem_cons, List.mem_map, List.mem_range, not_or, not_exists, not_and]
      exact ⟨by simp only [R.STATUS, R.SPL_ALIVE, R.base, spl, P.SPLT]; omega, fun w hw e => (enum_ne_link hw).1 e⟩
    obtain ⟨y, hy, hdue, e⟩ := linkComesUp_full (s := keepRecord k x.pay (rxTaken k x (s.at n))) (by rw [hk.laneMax hcfg, hst 7 4 (by decide)]; exact hlane)
      (by rw [hk.rateMax hcfg, hst 9 8 (by decide)]; exact hrate) (by rw [hk.rb hctl]; exact hc)
    have hpr : Only (R.DRV_PROBE_STAT :: (List.finRange 4).map fun j : Fin 4 => R.DRV_PROBE_UNITS j) [] (y.irq (spl k) 0) (probeSetup k (y.irq (spl k) 0)) :=
      probeSetup_only (.refl _ _ _) (by simp) (by simp)
    have hls : Only [R.STATUS (spl k)] [] (keepRecord k x.pay (rxTaken k x (s.at n))) (setLstate k 6 (keepRecord k x.pay (rxTaken k x (s.at n)))) :=
      (Only.refl _ _ _).wf (by simp)
    refine ⟨_, next_congr (congrArg (fun z => startProgress (readyWins z)) ((enumPacket_up (s := s.at n) hl hp hok).trans e)), ?_, ?_, fun j => ?_, ?_, fun b => ?_⟩
    · rw [State.lstate, State.rf_wb_disjoint (by decide) (by decide), hpr.rf (notMem_probeRegs status_ne_probe.2 status_ne_probe.1),
        State.rf_irq_of_ne irq_ne_status.symm, hy.rf (by simp), setLstate, State.rf_wf_self (by decide) (by decide)]
      decide
    · rw [State.rb_wb_of_ne irq_ne_status, hpr.rb (notMem_probeRegs irq_ne_probe.2 irq_ne_probe.1), State.rb_irq_self (by decide)]
    · obtain ⟨e1, e2, e3, e4⟩ := enum_ne_link (k := k) j.isLt
      rw [State.rd_wb_of_ne e1, hpr.regs _ (notMem_probeRegs e4 e3), State.rd_irq_of_ne e2, hy.regs _ (by simp), hls.regs _ (by simpa using e1), k1 j j.isLt]
    · rw [State.wb, State.wr_tile, probeSetup_due, irq_tile, hdue]
    · have h1 := ((hpr.mem b).trans ((hy.mono (l' := [R.IRQ_STAT (spl k)]) (m' := []) (by simp) (by simp)).irq (by simp) |>.mem b)).trans ((hls.mem b).trans (hk.mem b))
      exact h1

end Sys2Proof.Machine
end

section
/-! PROOFS. Training, loss and retraining of the Sprindo link (R236, R237). -/

namespace Sys2Proof.Machine

variable {l m : List Nat} {s t u : State} {i : Init} {a n hi lo : Nat} {w old : Word} {k j : Fin 4} {b : List Nat} {b' : List (List Nat)}

/-! ### The state of a link -/

theorem status_ne_ctrlStat : R.STATUS (spl k) ≠ R.SPL_CTRL_STAT k := by simp only [R.STATUS, R.SPL_CTRL_STAT, R.base, spl, P.SPLT]; omega
theorem status_ne_drv : R.STATUS (spl k) ≠ R.STATUS P.DRV := by simp only [R.STATUS, R.base, spl, P.SPLT, P.DRV]; omega
theorem status_ne_scn : R.STATUS (spl k) ≠ R.STATUS (P.SCNT k) := by simp only [R.STATUS, R.base, spl, P.SPLT, P.SCNT]; omega
theorem status_ne_retrains : R.STATUS (spl k) ≠ R.SPL_RETRAINS k := by simp only [R.STATUS, R.SPL_RETRAINS, R.base, spl, P.SPLT]; omega

theorem setLstate_self (h : n < 16) : (setLstate k n s).lstate k = n :=
  (State.rf_wf_self (by decide) (by decide)).trans (Nat.mod_eq_of_lt h)

theorem setLstate_rest (h : 3 < lo) : (setLstate k n s).rf (R.STATUS (spl k)) hi lo = s.rf (R.STATUS (spl k)) hi lo :=
  State.rf_wf_disjoint (by decide) (by decide) (.inl h)

theorem setLstate_only (h : Only l m s t) (ha : R.STATUS (spl k) ∈ l) : Only l m s (setLstate k n t) := h.wf ha

theorem setLstate_tile : (setLstate k n s).tile = s.tile := State.wr_tile ..

/-- The registers that a link leaving UP changes. -/
abbrev downRegs (k : Fin 4) : List Nat := [R.STATUS P.DRV, R.STATUS (P.SCNT k), R.SPL_CTRL_STAT k]

theorem dropCtrl_only (h : Only l m s t) (ha : R.SPL_CTRL_STAT k ∈ l) : Only l m s (dropCtrl k t) := by
  unfold dropCtrl
  extract_lets a y
  have hy : Only l m s y := Only.ite (h.wf ha) h
  exact hy.setTile

/-- The ledger no longer counts the link as UP. -/
def nrgDown (k : Fin 4) (s : State) : State := s.setNrg fun x => { x with up := x.up - (if x.up.testBit k then 2 ^ k.val else 0) }

/-- A tile's account where its link leaves UP. -/
def tileDown (x : TileSt) : TileSt :=
  { x with sending := false, seqDue := false, seqSwitch := false, seqRead := false, seqFails := 0, seqBad := false, noFstat := 0, rxAny := false, ts := [] }

theorem leaveUp_eq (k : Fin 4) (s : State) : leaveUp k s =
    ((((dropCtrl k (nrgDown k s)).wb (R.STATUS P.DRV) k false).wb (R.STATUS P.DRV) (4 + k) false).wf (R.STATUS (P.SCNT k)) 2 0 0).setTile k tileDown := rfl

theorem leaveUp_only (h : Only l m s t) (hl : ∀ a ∈ downRegs k, a ∈ l) : Only l m s (leaveUp k t) := by
  have hd : R.STATUS P.DRV ∈ l := hl _ (by simp)
  have hs : R.STATUS (P.SCNT k) ∈ l := hl _ (by simp)
  have hn : Only l m s (nrgDown k t) := setNrg_only h
  rw [leaveUp_eq]
  exact ((((dropCtrl_only hn (hl _ (by simp))).wb hd).wb hd).wf hs).setTile

theorem dropCtrl_tile : ((dropCtrl k s).tile[k]).outst = none ∧ (∀ j, j ≠ k → (dropCtrl k s).tile[j] = s.tile[j]) := by
  have h : ∀ y : State, y.tile = s.tile → ((y.setTile k fun x => { x with queue := [], outst := none }).tile[k]).outst = none ∧
      (∀ j, j ≠ k → (y.setTile k fun x => { x with queue := [], outst := none }).tile[j] = s.tile[j]) := fun y hy =>
    ⟨by rw [setTile_self], fun j hj => by rw [setTile_of_ne hj, hy]⟩
  unfold dropCtrl
  extract_lets a y
  refine h y ?_
  simp only [y]
  split
  · exact State.wr_tile ..
  · rfl

theorem leaveUp_tile : ((leaveUp k s).tile[k]).outst = none ∧ (∀ j, j ≠ k → (leaveUp k s).tile[j] = s.tile[j]) := by
  obtain ⟨h1, h2⟩ := dropCtrl_tile (k := k) (s := nrgDown k s)
  rw [leaveUp_eq]
  generalize dropCtrl k (nrgDown k s) = y at h1 h2
  refine ⟨?_, fun j hj => ?_⟩
  · rw [setTile_self]
    simp only [State.wf, State.wb, State.wr_tile]
    exact h1
  · rw [setTile_of_ne hj]
    simp only [State.wf, State.wb, State.wr_tile]
    exact h2 j hj

theorem dropCtrl_now : (dropCtrl k s).now = s.now := by
  unfold dropCtrl
  extract_lets a y
  change y.now = s.now
  simp only [y]
  split
  · exact State.wr_now ..
  · rfl

theorem leaveUp_now : (leaveUp k s).now = s.now := by
  have h1 : (dropCtrl k (nrgDown k s)).now = s.now := dropCtrl_now
  rw [leaveUp_eq]
  generalize dropCtrl k (nrgDown k s) = y at h1
  change (((y.wb (R.STATUS P.DRV) k false).wb (R.STATUS P.DRV) (4 + k) false).wf (R.STATUS (P.SCNT k)) 2 0 0).now = _
  simp only [State.wf, State.wb, State.wr_now]
  exact h1

/-- The registers that training, losing and retraining a link change. -/
abbrev linkRegs (k : Fin 4) : List Nat :=
  [R.STATUS (spl k), R.STATUS P.DRV, R.STATUS (P.SCNT k), R.SPL_CTRL_STAT k, R.IRQ_STAT (spl k), R.SPL_RETRAINS k]

theorem downRegs_sub : ∀ a ∈ downRegs k, a ∈ linkRegs k := by
  simp only [List.mem_cons, List.not_mem_nil, or_false]
  rintro a (h | h | h)
  · exact .inr (.inl h)
  · exact .inr (.inr (.inl h))
  · exact .inr (.inr (.inr (.inl h)))

theorem linkRegs_leaveUp (h : Only l m s t) (hl : ∀ a ∈ linkRegs k, a ∈ l) : Only l m s (leaveUp k t) := leaveUp_only h fun a ha => hl a (downRegs_sub a ha)

/-! ### Training from step 1, a failure, and training from step 3 -/

/-- Training from step 1 holds the tile in reset (R236). -/
theorem trainFrom1_spec (k : Fin 4) (s : State) : let u := trainFrom1 k s
    u.lstate k = 1 ∧ (u.tile[k]).resetN = false ∧ u.now = s.now ∧ (∀ j, j ≠ k → u.tile[j] = s.tile[j]) ∧
      u.rf (R.SPL_RETRAINS k) 31 16 = min (s.rf (R.SPL_RETRAINS k) 31 16 + 1) 65535 ∧ Only (linkRegs k) [] s u := by
  obtain ⟨h1, h2⟩ := leaveUp_tile (k := k) (s := s)
  have hn : (leaveUp k s).now = s.now := leaveUp_now
  have ho : Only (downRegs k) [] s (leaveUp k s) := leaveUp_only (.refl _ _ _) fun _ h => h
  unfold trainFrom1
  extract_lets y z
  have hr : z.rf (R.SPL_RETRAINS k) 31 16 = s.rf (R.SPL_RETRAINS k) 31 16 := ho.rf (by
    simp only [List.mem_cons, List.not_mem_nil, or_false, not_or]
    refine ⟨?_, ?_, ?_⟩ <;> simp only [R.SPL_RETRAINS, R.SPL_CTRL_STAT, R.STATUS, R.base, P.DRV, P.SCNT] <;> omega)
  have hz : Only (linkRegs k) [] s z := (linkRegs_leaveUp (.refl _ _ _) fun _ h => h).setTile
  have hzk : (z.tile[k]).resetN = false := by simp only [z, setTile_self]; rfl
  have hzj : ∀ j, j ≠ k → z.tile[j] = s.tile[j] := fun j hj => (setTile_of_ne hj).trans (h2 j hj)
  have hzn : z.now = s.now := hn
  clear_value z
  refine ⟨setLstate_self (by decide), ?_, ?_, fun j hj => ?_, ?_, setLstate_only (hz.wf (by simp)) (by simp)⟩
  · rw [setLstate_tile, State.wf, State.wr_tile, hzk]
  · exact (State.wr_now ..).trans ((State.wr_now ..).trans hzn)
  · rw [setLstate_tile, State.wf, State.wr_tile, hzj j hj]
  · refine (State.rf_wf_of_ne status_ne_retrains.symm).trans ?_
    rw [State.rf_wf_self (by decide) (by decide), hr, satAdd, maxU]
    omega

/-- The state that raises SPL_LINK_DOWN where training has failed. -/
def failedLink (k : Fin 4) (s : State) : State :=
  ((setLstate k 8 (leaveUp k s)).setTile k fun x => { x with due := 0, restart := s.now + 100000000 }).irq (spl k) 1

theorem trainFailed_eq : trainFailed k s = raise (Src.SPL_LINK_DOWN k) (failedLink k s) := rfl

theorem status_ne_irq : R.STATUS (spl k) ≠ R.IRQ_STAT (spl k) := irq_ne_status.symm

theorem failedLink_spec (k : Fin 4) (s : State) : let u := failedLink k s
    u.lstate k = 8 ∧ (u.tile[k]).restart = s.now + 100000000 ∧ u.rb (R.IRQ_STAT (spl k)) 1 = true ∧ Only (linkRegs k) [] s u := by
  refine ⟨?_, ?_, State.rb_irq_self (by decide), ?_⟩
  · rw [State.lstate, failedLink, State.rf_irq_of_ne status_ne_irq, setTile_rf]; exact setLstate_self (by decide)
  · rw [failedLink, irq_tile, setTile_self]
  · exact ((setLstate_only (linkRegs_leaveUp (.refl _ _ _) fun _ h => h) (by simp)).setTile).irq (by simp)

/-- Training from step 3 keeps to its 20 ms, and sends TS1 on the lanes that LANE_MAX allows (R237). -/
theorem retrain3_spec (k : Fin 4) (s : State) : let u := retrain3 k s
    u.lstate k = 7 ∧ (u.tile[k]).due = s.now + 20000000 ∧ (u.tile[k]).ts = tsSets false (2 ^ laneMax s k - 1) 0 0 ∧ (u.tile[k]).outst = none ∧
      Only (linkRegs k) [] s u := by
  obtain ⟨h1, -⟩ := leaveUp_tile (k := k) (s := s)
  unfold retrain3
  extract_lets y
  have hy : Only (linkRegs k) [] s y := (linkRegs_leaveUp (.refl _ _ _) fun _ h => h).setTile
  have hk : (y.tile[k]).due = s.now + 20000000 ∧ (y.tile[k]).ts = tsSets false (2 ^ laneMax s k - 1) 0 0 ∧ (y.tile[k]).outst = none := by
    simp only [y, setTile_self, h1, and_self]
  clear_value y
  obtain ⟨k1, k2, k3⟩ := hk
  refine ⟨setLstate_self (by decide), ?_, ?_, ?_, setLstate_only (hy.wf (by simp)) (by simp)⟩
  · rw [setLstate_tile, State.wf, State.wr_tile, k1]
  · rw [setLstate_tile, State.wf, State.wr_tile, k2]
  · rw [setLstate_tile, State.wf, State.wr_tile, k3]

/-- A lost link that does not retrain by itself (R237). -/
def downLink (k : Fin 4) (s : State) : State := (setLstate k 8 (leaveUp k s)).setTile k fun x => { x with due := 0, restart := 0 }

theorem setTile_lstate {f : TileSt → TileSt} : (s.setTile k f).lstate j = s.lstate j := rfl

theorem downLink_spec (k : Fin 4) (s : State) : (downLink k s).lstate k = 8 ∧ ((downLink k s).tile[k]).outst = none ∧ Only (linkRegs k) [] s (downLink k s) := by
  refine ⟨?_, ?_, (setLstate_only (linkRegs_leaveUp (.refl _ _ _) fun _ h => h) (by simp)).setTile⟩
  · rw [downLink, setTile_lstate, setLstate_self (by decide)]
  · rw [downLink, setTile_self, setLstate_tile, leaveUp_tile.1]

/-- The state that raises SPL_LINK_DOWN where a link is lost. -/
def lostLink (k : Fin 4) (s : State) : State := (if s.rb (R.CTRL (spl k)) 2 then retrain3 k s else downLink k s).irq (spl k) 1

theorem loseLink_up (h : s.linkUp k = true) : loseLink k s = raise (Src.SPL_LINK_DOWN k) (lostLink k s) := by
  rw [loseLink, h]; rfl

theorem irq_lstate {e : Nat} : (s.irq (spl k) e).lstate k = s.lstate k := State.rf_irq_of_ne status_ne_irq

theorem lostLink_spec (k : Fin 4) (s : State) : let u := lostLink k s
    u.lstate k = (if s.rb (R.CTRL (spl k)) 2 then 7 else 8) ∧ (u.tile[k]).outst = none ∧ u.rb (R.IRQ_STAT (spl k)) 1 = true ∧ Only (linkRegs k) [] s u := by
  obtain ⟨h1, h2, h3⟩ : (if s.rb (R.CTRL (spl k)) 2 then retrain3 k s else downLink k s).lstate k = (if s.rb (R.CTRL (spl k)) 2 then 7 else 8) ∧
      ((if s.rb (R.CTRL (spl k)) 2 then retrain3 k s else downLink k s).tile[k]).outst = none ∧
      Only (linkRegs k) [] s (if s.rb (R.CTRL (spl k)) 2 then retrain3 k s else downLink k s) := by
    obtain ⟨r1, -, -, r2, r3⟩ := retrain3_spec k s
    cases s.rb (R.CTRL (spl k)) 2
    · exact downLink_spec k s
    · exact ⟨r1, r2, r3⟩
  exact ⟨irq_lstate.trans h1, (congrArg (fun x : Vector TileSt 4 => (x[k]).outst) irq_tile).trans h2, State.rb_irq_self (by decide), h3.irq (by simp)⟩

/-! ### Writes of CTRL -/

theorem splCtrl_plain : ∀ k : Fin 4, (offOf (R.CTRL (spl k)) ≠ 0x1c ∧ offOf (R.CTRL (spl k)) ≠ 0x20) ∧ maskOf RegDef.rws (R.CTRL (spl k)) = 0#32 ∧
    maskOf RegDef.rw (R.CTRL (spl k)) = 29#32 ∧ maskOf (fun d => d.rw ||| d.rwl) (R.CTRL (spl k)) = 29#32 ∧ maskOf RegDef.w1c (R.CTRL (spl k)) = 0#32 ∧
    maskOf RegDef.w1s (R.CTRL (spl k)) = 0#32 := by
  decide +kernel

theorem legalize_splCtrl : ∀ k : Fin 4, legalize (R.CTRL (spl k)) w = w := by
  intro k
  have h1 : R.CTRL (spl k) ≠ R.SYS_COMMIT_GUARD ∧ R.CTRL (spl k) ≠ R.SPL_ACK_TIMEOUT ∧ R.CTRL (spl k) ≠ R.SYS_START_CFG := by
    refine ⟨?_, ?_, ?_⟩ <;> simp only [R.CTRL, R.base, spl, P.SPLT, R.SYS_COMMIT_GUARD, R.SPL_ACK_TIMEOUT, R.SYS_START_CFG] <;> omega
  have h2 : ∀ k : Fin 4, pageOf (R.CTRL (spl k)) < 0xe0 := by decide
  rw [legalize, if_neg h1.1, if_neg h1.2.1, if_neg h1.2.2, cpuLegal]
  exact if_pos (.inl (h2 k))

/-- The value that an accepted write of CTRL leaves: EN, AUTO_RETRAIN and the ring's and the check's enables. -/
def ctrlHeld (k : Fin 4) (w : Word) (s : State) : Word := (s.rd (R.CTRL (spl k)) &&& ~~~29#32) ||| (w &&& 29#32)

theorem bitOf_ctrlHeld : bitOf (ctrlHeld k w s) 0 = bitOf w 0 := by
  have h : ∀ x : Word, bitOf x 0 = x.getLsbD 0 := fun x => rfl
  simp [h, ctrlHeld]

theorem gateWrite_splCtrl (h : s.accepts n i (R.CTRL (spl k)) w) :
    gateWrite i (R.CTRL (spl k)) w (splCtrl k) (s.at n) = splCtrl k (s.rd (R.CTRL (spl k))) w ((s.at n).busOk.wr (R.CTRL (spl k)) (ctrlHeld k w s)) := by
  obtain ⟨h1, h2, h3, h4, h5, h6⟩ := splCtrl_plain k
  rw [gateWrite_plain _ h h1 h2, storeLive_rw h3 h4 h5 h6, legalize_splCtrl]
  rfl

theorem splCtrl_enable (he : s.en (spl k) = true) (ho : bitOf old 0 = false) (hw : bitOf w 1 = false) : splCtrl k old w s = trainFrom1 k s := by
  unfold splCtrl
  extract_lets y
  have hy : y = trainFrom1 k s := if_pos (by rw [he, ho]; rfl)
  rw [if_pos (by rw [hw]; rfl), hy]

theorem splCtrl_retrain (he : s.en (spl k) = true) (ho : bitOf old 0 = true) (hw : bitOf w 1 = true) :
    splCtrl k old w s = if s.linkUp k then raise (Src.SPL_LINK_DOWN k) ((retrain3 k s).irq (spl k) 1) else if s.lstate k = 8 then trainFrom1 k s else s := by
  unfold splCtrl
  extract_lets y
  have hy : y = s := (if_neg (by rw [ho]; simp)).trans (if_neg (by rw [he]; simp))
  rw [if_neg (by rw [hw]; simp), hy]

/-! ### Steps of training -/

theorem chooseLanes_lt {r q : Nat} : 2 ^ chooseLanes s k r q - 1 < 16 := by
  have h : ∀ f : Nat × Nat × Nat → Bool, ([(4, 15, 2), (2, 3, 1), (1, 1, 0)].find? f).elim 0 (·.1) ≤ 4 := by
    intro f
    simp only [List.find?_cons, List.find?_nil]
    cases f (4, 15, 2) <;> cases f (2, 3, 1) <;> cases f (1, 1, 0) <;> decide
  have h4 : chooseLanes s k r q ≤ 4 := h _
  have := Nat.pow_le_pow_right (n := 2) (by decide) h4
  omega

theorem chooseRate_lt {r q : Nat} : chooseRate r q < 4 := by
  rw [chooseRate]; split
  · decide
  · split <;> decide

theorem sendSets_only (h : Only l m s t) : Only l m s (sendSets k b' t) := h.setTile
theorem sendSets_lstate : (sendSets k b' s).lstate j = s.lstate j := rfl
theorem sendSets_ts : ((sendSets k b' s).tile[k]).ts = b' := by rw [sendSets, setTile_self]

theorem rateSets_only (h : Only l m s t) : Only l m s (rateSets k t) := by
  unfold rateSets sendSets
  exact h.setTile

theorem rateSets_ts : ((rateSets k s).tile[k]).ts = tsSets true (s.rf (R.STATUS (spl k)) 7 4) (s.rf (R.STATUS (spl k)) 7 4) (s.rf (R.STATUS (spl k)) 9 8) ++
    tsSets false (s.rf (R.STATUS (spl k)) 7 4) (s.rf (R.STATUS (spl k)) 7 4) 0 := by
  rw [rateSets, sendSets, setTile_self]

/-- The link at the lanes and the rate chosen (R236 step 4). -/
def atRate (k : Fin 4) (rates n r : Nat) (s : State) : State :=
  rateSets k (setLstate k 4 (((s.setTile k fun x => { x with rates := rates }).wf (R.STATUS (spl k)) 7 4 (2 ^ n - 1)).wf (R.STATUS (spl k)) 9 8 r))

theorem rateSets_rf : (rateSets k s).rf a hi lo = s.rf a hi lo := by rw [rateSets, sendSets, setTile_rf]

theorem atRate_spec {rates n r : Nat} (hn : 2 ^ n - 1 < 16) (hr : r < 4) (k : Fin 4) (s : State) : let u := atRate k rates n r s
    u.lstate k = 4 ∧ u.rf (R.STATUS (spl k)) 7 4 = 2 ^ n - 1 ∧ u.rf (R.STATUS (spl k)) 9 8 = r ∧
      (u.tile[k]).ts = tsSets true (2 ^ n - 1) (2 ^ n - 1) r ++ tsSets false (2 ^ n - 1) (2 ^ n - 1) 0 ∧ Only [R.STATUS (spl k)] [] s u := by
  have h1 : (setLstate k 4 (((s.setTile k fun x => { x with rates := rates }).wf (R.STATUS (spl k)) 7 4 (2 ^ n - 1)).wf (R.STATUS (spl k)) 9 8 r)).rf (R.STATUS (spl k)) 7 4 = 2 ^ n - 1 := by
    rw [setLstate_rest (by decide), State.rf_wf_disjoint (by decide) (by decide) (by decide), State.rf_wf_self (by decide) (by decide)]
    exact Nat.mod_eq_of_lt hn
  have h2 : (setLstate k 4 (((s.setTile k fun x => { x with rates := rates }).wf (R.STATUS (spl k)) 7 4 (2 ^ n - 1)).wf (R.STATUS (spl k)) 9 8 r)).rf (R.STATUS (spl k)) 9 8 = r := by
    rw [setLstate_rest (by decide), State.rf_wf_self (by decide) (by decide)]
    exact Nat.mod_eq_of_lt hr
  refine ⟨?_, ?_, ?_, ?_, rateSets_only (setLstate_only ((((Only.refl _ _ s).setTile).wf (by simp)).wf (by simp)) (by simp))⟩
  · rw [atRate, State.lstate, rateSets_rf]; exact setLstate_self (by decide)
  · rw [atRate, rateSets_rf, h1]
  · rw [atRate, rateSets_rf, h2]
  · rw [atRate, rateSets_ts, h1, h2]

theorem trainStep_base {lanes : Nat} (hl : s.lstate k = 3 ∨ s.lstate k = 7) (hb : isTs true b = true) :
    trainStep k b lanes s = if chooseLanes s k (field b 3 1) lanes = 0 then trainFailed k s
      else atRate k (field b 2 1) (chooseLanes s k (field b 3 1) lanes) (chooseRate (field b 2 1) (rateMax s k)) s := by
  unfold trainStep
  extract_lets st rates n' y
  rw [if_neg (by rw [hb]; decide), if_pos hl]
  rfl

theorem trainStep_rate {lanes : Nat} (hl : s.lstate k = 4) (hb : isTs true b = true) : trainStep k b lanes s =
    sendSets k (tsSets true (s.rf (R.STATUS (spl k)) 7 4) (s.rf (R.STATUS (spl k)) 7 4) (s.rf (R.STATUS (spl k)) 9 8)) (setLstate k 5 s) := by
  unfold trainStep
  extract_lets st rates n' y m'
  rw [if_neg (by rw [hb]; decide), if_neg (by simp only [st, hl]; decide), if_pos hl]

theorem trainTimeout_fails (h : s.lstate k = 2 ∨ s.lstate k = 3 ∨ s.lstate k = 5 ∨ s.lstate k = 7 ∨
    s.lstate k = 4 ∧ s.rf (R.STATUS (spl k)) 9 8 = 0 ∧ lanesOf (s.rf (R.STATUS (spl k)) 7 4) ≤ 1) : trainTimeout k s = trainFailed k s := by
  unfold trainTimeout
  extract_lets lt r n' y
  by_cases h' : lt = 2 ∨ lt = 3 ∨ lt = 5 ∨ lt = 7
  · exact if_pos h'
  · obtain ⟨h4, h0, h1⟩ : s.lstate k = 4 ∧ s.rf (R.STATUS (spl k)) 9 8 = 0 ∧ lanesOf (s.rf (R.STATUS (spl k)) 7 4) ≤ 1 := by
      simp only [lt] at h'
      omega
    rw [if_neg h', if_pos h4, if_neg (by simp only [r, h0]; decide), if_neg (by simp only [n']; omega)]

theorem trainTimeout_slower (hl : s.lstate k = 4) (hr : 0 < s.rf (R.STATUS (spl k)) 9 8) : trainTimeout k s =
    rateSets k (s.wf (R.STATUS (spl k)) 9 8 (chooseRate s.tile[k].rates (s.rf (R.STATUS (spl k)) 9 8 - 1))) := by
  unfold trainTimeout
  extract_lets lt r n' y
  rw [if_neg (by simp only [lt, hl]; decide), if_pos hl, if_pos hr]

/-- Half the lanes, at the base rate again. -/
def halved (k : Fin 4) (n : Nat) (s : State) : State := s.setTile k fun x => { x with cap := n }

theorem trainTimeout_halves (hl : s.lstate k = 4) (hr : s.rf (R.STATUS (spl k)) 9 8 = 0) (hn : 1 < lanesOf (s.rf (R.STATUS (spl k)) 7 4)) :
    trainTimeout k s = sendSets k (baseSets (halved k (lanesOf (s.rf (R.STATUS (spl k)) 7 4) / 2) s) k)
      (setLstate k (if (s.tile[k]).due = 0 then 3 else 7) (halved k (lanesOf (s.rf (R.STATUS (spl k)) 7 4) / 2) s)) := by
  unfold trainTimeout
  extract_lets lt r n' y
  have hd : (y.tile[k]).due = (s.tile[k]).due := by simp only [y, setTile_self]
  rw [if_neg (by simp only [lt, hl]; decide), if_pos hl, if_neg (by simp only [r, hr]; decide), if_pos hn, hd]
  rfl

theorem ctrl_notMem_link : R.CTRL (spl k) ∉ linkRegs k := by
  simp only [List.mem_cons, List.not_mem_nil, or_false, not_or]
  refine ⟨?_, ?_, ?_, ?_, ?_, ?_⟩ <;> simp only [R.CTRL, R.STATUS, R.SPL_CTRL_STAT, R.IRQ_STAT, R.SPL_RETRAINS, R.base, spl, P.SPLT, P.DRV, P.SCNT] <;> omega

/-- A write of RETRAIN to an enabled link, with EN kept. -/
theorem retrain_written (h : s.accepts n i (R.CTRL (spl k)) (putBit w 1 true)) (he : s.en (spl k) = true) (h0 : bitOf w 0 = true) :
    ∃ y, gateWrite i (R.CTRL (spl k)) (putBit w 1 true) (splCtrl k) (s.at n) =
        (if y.linkUp k then raise (Src.SPL_LINK_DOWN k) ((retrain3 k y).irq (spl k) 1) else if y.lstate k = 8 then trainFrom1 k y else y) ∧
      Only [R.CTRL (spl k)] [] s y ∧ y.lstate k = s.lstate k ∧ y.now = max s.now n ∧ laneMax y k = laneMax s k := by
  have ho : Only [R.CTRL (spl k)] [] s ((s.at n).busOk.wr (R.CTRL (spl k)) (ctrlHeld k (putBit w 1 true) s)) := gateState_only ..
  have hen : ((s.at n).busOk.wr (R.CTRL (spl k)) (ctrlHeld k (putBit w 1 true) s)).en (spl k) = true := by
    rw [State.en, State.rb, State.rd_wr_self, bitOf_ctrlHeld, bitOf_putBit_of_ne _ _ (by decide) (by decide), h0]
  exact ⟨_, (gateWrite_splCtrl h).trans (splCtrl_retrain hen he (bitOf_putBit_self _ _ (by decide))), ho,
    ho.rf (by simpa using ctrl_ne_status.symm), State.wr_now .., ho.laneMax (by simp only [R.SPL_LANE_CFG, R.CTRL, R.base, spl, P.SPLT, List.mem_singleton]; omega)⟩

/-- The state after character errors on the return lane are counted (R237, R241). -/
def errorsCounted (k : Fin 4) (e : Nat) (s : State) : State :=
  (s.stAdd (R.SPL_STAT_CV k) 31 0 e).wr (R.SPL_CV_TOTAL k 4) (word (satAdd 16 (s.rf (R.SPL_CV_TOTAL k 4) 15 0) e))

theorem errorsCounted_spec (k : Fin 4) (e : Nat) (s : State) : let u := errorsCounted k e s
    u.rd (R.SPL_CV_TOTAL k 4) = word (satAdd 16 (s.rf (R.SPL_CV_TOTAL k 4) 15 0) e) ∧ u.lstate k = s.lstate k ∧ u.linkUp k = s.linkUp k ∧
      u.rb (R.CTRL (spl k)) 2 = s.rb (R.CTRL (spl k)) 2 ∧ Only [R.SPL_CV_TOTAL k 4] [R.SPL_STAT_CV k] s u := by
  have ho : Only [R.SPL_CV_TOTAL k 4] [R.SPL_STAT_CV k] s (errorsCounted k e s) := ((Only.refl _ _ s).stAdd (by simp)).wr (by simp)
  have h1 : (errorsCounted k e s).lstate k = s.lstate k := ho.rf (by simp only [R.SPL_CV_TOTAL, R.STATUS, R.base, P.SPLT, List.mem_singleton]; omega)
  refine ⟨State.rd_wr_self .., h1, congrArg (· == 6) h1, ho.rb (by simp only [R.SPL_CV_TOTAL, R.CTRL, R.base, spl, P.SPLT, List.mem_singleton]; omega), ho⟩

theorem returnErrors_eq {e : Nat} (h : s.linkUp k = true) : returnErrors k e s = if 16 ≤ e then loseLink k (errorsCounted k e s) else errorsCounted k e s := by
  have h6 : s.lstate k = 6 := eq_of_beq h
  rw [returnErrors, if_neg (by rw [h6]; decide)]
  rfl

/-- Settles O35: each step of training, its failure and its timeouts, and each condition that takes a link out of UP. -/
theorem linkTrainsAndRetrains : Obligations.LinkTrainsAndRetrains := by
  refine ⟨fun n i k w s => ?_, fun n i k w e s => ?_⟩
  · intro ofLink
    have hat : Only [] [] s (s.at n) := (Only.refl _ _ _).at
    have hat' : ∀ {l}, Only l [] s (s.at n) := hat.mono (by simp) (by simp)
    refine ⟨fun hacc he hw => ?_, fun hl => ?_, fun b hl hb => ?_, ?_, fun h f lanes hl hb => ?_, fun hl hr => ?_, ?_, fun h => ?_, fun hl hr => ?_, fun hd hl => ?_⟩
    · have hw' : bitOf (putBit w 0 true) 1 = false := (bitOf_putBit_of_ne _ _ (by decide) (by decide)).trans hw
      have ho : Only [R.CTRL (spl k)] [] s ((s.at n).busOk.wr (R.CTRL (spl k)) (ctrlHeld k (putBit w 0 true) s)) := gateState_only ..
      have hen : ((s.at n).busOk.wr (R.CTRL (spl k)) (ctrlHeld k (putBit w 0 true) s)).en (spl k) = true := by
        rw [State.en, State.rb, State.rd_wr_self, bitOf_ctrlHeld, bitOf_putBit_self _ _ (by decide)]
      have ht : ((s.at n).busOk.wr (R.CTRL (spl k)) (ctrlHeld k (putBit w 0 true) s)).tile = s.tile := State.wr_tile ..
      have hv := gateWrite_splCtrl hacc
      generalize (s.at n).busOk.wr (R.CTRL (spl k)) (ctrlHeld k (putBit w 0 true) s) = y at ho hen ht hv
      obtain ⟨h1, h2, -, h3, h4, h5⟩ := trainFrom1_spec k y
      refine ⟨_, next_congr (hv.trans (splCtrl_enable hen he hw')), (h5.en ctrl_notMem_link).trans hen, h1, h2, h4.trans ?_, fun j hj => by rw [h3 j hj, ht],
        (ho.mono (by simp) (by simp)).trans (h5.mono (fun _ h => List.mem_cons_of_mem _ h) (by simp))⟩
      rw [ho.rf (by simp only [R.SPL_RETRAINS, R.CTRL, R.base, spl, P.SPLT, List.mem_singleton]; omega)]
    · refine ⟨_, next_congr (if_pos (show (s.at n).lstate k = 1 from hl)), setLstate_self (by decide), ?_, setLstate_only hat'.setTile (by simp)⟩
      rw [setLstate_tile, setTile_self]
    · refine ⟨_, next_congr (if_pos (show (s.at n).lstate k = 2 ∧ _ from ⟨hl, hb⟩)), ?_, sendSets_ts, sendSets_only (setLstate_only hat' (by simp))⟩
      rw [sendSets_lstate, setLstate_self (by decide)]
    · intro h f lanes hl hb m' rate
      have e := trainStep_base (s := s.at n) (lanes := lanes) hl hb
      refine ⟨fun hn => ?_, fun hn => ?_⟩
      · obtain ⟨h1, h2, h3, h4, h5⟩ := atRate_spec (rates := field (nums (h ++ f)) 2 1) (n := m') (r := rate) chooseLanes_lt chooseRate_lt k (s.at n)
        exact ⟨_, next_congr (e.trans (if_neg hn)), h1, h2, h3, h4, hat'.trans h5⟩
      · obtain ⟨h1, h2, h3, h4⟩ := failedLink_spec k (s.at n)
        exact ⟨_, next_congr ((e.trans (if_pos hn)).trans trainFailed_eq), h1, h2, h3, hat'.trans h4⟩
    · refine ⟨_, next_congr (trainStep_rate (s := s.at n) hl hb), ?_, sendSets_ts, sendSets_only (setLstate_only hat' (by simp))⟩
      rw [sendSets_lstate, setLstate_self (by decide)]
    · refine ⟨_, next_congr (trainTimeout_slower (s := s.at n) hl hr), ?_, ?_, rateSets_only (hat'.wf (by simp))⟩
      · rw [State.lstate, rateSets_rf, State.rf_wf_disjoint (by decide) (by decide) (by decide)]; exact hl
      · rw [rateSets_rf, State.rf_wf_self (by decide) (by decide)]; exact Nat.mod_eq_of_lt chooseRate_lt
    · intro hl hr m' hm
      refine ⟨_, next_congr (trainTimeout_halves (s := s.at n) hl hr hm), ?_, ?_, sendSets_ts, sendSets_only (setLstate_only hat'.setTile (by simp))⟩
      · rw [sendSets_lstate, setLstate_self (ite_lt (by decide) (by decide))]; rfl
      · rw [sendSets, setTile_self, setLstate_tile, halved, setTile_self]; rfl
    · obtain ⟨h1, h2, h3, h4⟩ := failedLink_spec k (s.at n)
      exact ⟨_, next_congr ((trainTimeout_fails (s := s.at n) h).trans trainFailed_eq), h1, h2, h3, hat'.trans h4⟩
    · obtain ⟨h1, h2, h3, -, -, h4⟩ := trainFrom1_spec k ((s.at n).at (s.tile[k]).restart)
      exact ⟨_, next_congr (if_pos (show (s.at n).lstate k = 8 ∧ _ from ⟨hl, hr⟩)), h1, h2, h3 ▸ Nat.le_max_right .., hat'.at.trans h4⟩
    · obtain ⟨h1, -, h3, -, -, h4⟩ := trainFrom1_spec k ((s.at n).at (s.tile[k]).due)
      exact ⟨_, next_congr (if_pos (show ((s.at n).tile[k]).due ≠ 0 ∧ _ from ⟨hd, hl⟩)), h1, h3 ▸ Nat.le_max_right .., hat'.at.trans h4⟩
  · intro ofLink
    have hat : Only [] [] s (s.at n) := (Only.refl _ _ _).at
    have hat' : ∀ {l}, Only l [] s (s.at n) := hat.mono (by simp) (by simp)
    refine ⟨fun hacc he h0 h8 => ?_, fun hu => ⟨fun hacc he h0 => ?_, ?_, fun he => ?_, fun he => ?_, fun h4 => ?_, fun h4 => ?_⟩⟩
    · obtain ⟨y, hv, ho, hls, -, -⟩ := retrain_written hacc he h0
      obtain ⟨h1, h2, -, -, -, h5⟩ := trainFrom1_spec k y
      refine ⟨_, next_congr ((hv.trans (if_neg ?_)).trans (if_pos (hls.trans h8))), h1, h2, (ho.mono (by simp) (by simp)).trans (h5.mono (fun _ h => List.mem_cons_of_mem _ h) (by simp))⟩
      rw [State.linkUp, hls, h8]; decide
    · obtain ⟨y, hv, ho, hls, hnow, hlm⟩ := retrain_written hacc he h0
      obtain ⟨h1, h2, h3, -, h5⟩ := retrain3_spec k y
      refine ⟨_, next_congr (hv.trans (if_pos ?_)), irq_lstate.trans h1, State.rb_irq_self (by decide), ?_, ?_,
        ((ho.mono (by simp) (by simp)).trans (h5.mono (fun _ h => List.mem_cons_of_mem _ h) (by simp))).irq (by simp)⟩
      · rw [State.linkUp, hls]; exact hu
      · rw [irq_tile, h2, hnow]
      · rw [irq_tile, h3, hlm]
    · obtain ⟨h1, h2, h3, h4⟩ := lostLink_spec k (s.at n)
      exact ⟨_, next_congr (loseLink_up (s := s.at n) hu), h1, h2, h3, hat'.trans h4⟩
    · obtain ⟨c1, c2, -, -, c3⟩ := errorsCounted_spec k e (s.at n)
      exact ⟨_, next_congr ((returnErrors_eq (s := s.at n) hu).trans (if_neg (Nat.not_le.2 he))), c1, c2.trans (eq_of_beq hu), (hat.mono (by simp) (by simp)).trans c3⟩
    · obtain ⟨-, c2, c4, c5, c3⟩ := errorsCounted_spec k e (s.at n)
      obtain ⟨h1, -, -, h3⟩ := lostLink_spec k (errorsCounted k e (s.at n))
      refine ⟨_, next_congr (((returnErrors_eq (s := s.at n) hu).trans (if_pos he)).trans (loseLink_up ?_)), h1.trans (by rw [c5]; rfl),
        (hat.mono (by simp) (by simp)).trans ((c3.mono (by simp) (by simp)).trans (h3.mono (fun _ h => List.mem_cons_of_mem _ h) (by simp)))⟩
      rw [c4]; exact hu
    · obtain ⟨h1, -, -, h3⟩ := lostLink_spec k (s.at n)
      exact ⟨_, next_congr ((if_pos (show 4 ≤ ((s.at n).tile[k]).noFstat from h4)).trans (loseLink_up (s := s.at n) hu)), h1, hat'.trans h3⟩
    · exact ⟨_, next_congr (if_neg (show ¬4 ≤ ((s.at n).tile[k]).noFstat from Nat.not_le.2 h4)), rfl, hat⟩

end Sys2Proof.Machine
end

section
/-! PROOFS. The commands of a control loop (R325 to R329). -/

namespace Sys2Proof.Machine

variable {l m : List Nat} {s t u : State} {i : Init} {a n hi lo : Nat} {w old : Word} {k : Fin 16} {f : LoopSt → LoopSt}

/-! ### A loop's slot and registers -/

theorem setSlot_only (h : Only l m s t) : Only l m s (t.setSlot k f) := h.record

@[simp] theorem setSlot_rd : (s.setSlot k f).rd a = s.rd a := rfl
@[simp] theorem setSlot_rf : (s.setSlot k f).rf a hi lo = s.rf a hi lo := rfl
@[simp] theorem setSlot_rb : (s.setSlot k f).rb a n = s.rb a n := rfl
@[simp] theorem setSlot_self : (s.setSlot k f).ctl.loop[k] = f s.ctl.loop[k] := by simp [State.setSlot]

theorem irq_ctl {p b : Nat} : (s.irq p b).ctl = s.ctl := by simp only [State.irq, State.event, State.wb, State.wr_ctl, State.note_ctl]

theorem loopStatus_ne_ctl : R.STATUS (P.CTLK k) ≠ R.STATUS P.CTL := by simp only [R.STATUS, R.base, P.CTLK, P.CTL]; omega
theorem loopStatus_ne_est : R.STATUS (P.CTLK k) ≠ R.CTL_LOOP_EST k := by simp only [R.STATUS, R.base, P.CTLK, R.CTL_LOOP_EST]; omega
theorem loopStatus_ne_irq : R.STATUS (P.CTLK k) ≠ R.IRQ_STAT (P.CTLK k) := by simp only [R.STATUS, R.IRQ_STAT, R.base, P.CTLK]; omega
theorem loopStatus_ne_inj : R.STATUS (P.CTLK k) ≠ R.CTL_LOOP_INJ_STAT k := by simp only [R.STATUS, R.base, P.CTLK, R.CTL_LOOP_INJ_STAT]; omega
theorem loopStatus_ne_cap : R.STATUS (P.CTLK k) ≠ R.CTL_LOOP_CAP_WR k := by simp only [R.STATUS, R.base, P.CTLK, R.CTL_LOOP_CAP_WR]; omega
theorem loopStatus_ne_rc : R.STATUS (P.CTLK k) ≠ R.CTL_LOOP_RC_STAT k := by simp only [R.STATUS, R.base, P.CTLK, R.CTL_LOOP_RC_STAT]; omega
theorem ctlStatus_ne_est : R.STATUS P.CTL ≠ R.CTL_LOOP_EST k := by simp only [R.STATUS, R.base, P.CTL, R.CTL_LOOP_EST]; omega
theorem ctlStatus_ne_irq : R.STATUS P.CTL ≠ R.IRQ_STAT (P.CTLK k) := by simp only [R.STATUS, R.IRQ_STAT, R.base, P.CTLK, P.CTL]; omega
theorem est_ne_irq : R.CTL_LOOP_EST k ≠ R.IRQ_STAT (P.CTLK k) := by simp only [R.CTL_LOOP_EST, R.IRQ_STAT, R.base, P.CTLK]; omega
theorem inj_ne_irq : R.CTL_LOOP_INJ_STAT k ≠ R.IRQ_STAT (P.CTLK k) := by simp only [R.CTL_LOOP_INJ_STAT, R.IRQ_STAT, R.base, P.CTLK]; omega

/-! ### HOLD -/

/-- A loop's registers and slot in HOLD, before an injection or a capture takes notice (R325, R335). -/
def heldLoop (k : Fin 16) (cause : Nat) (s : State) : State :=
  (((((((s.wf (R.STATUS (P.CTLK k)) 1 0 2).wf (R.STATUS (P.CTLK k)) 4 2 cause).wb (R.STATUS P.CTL) k false).wb (R.STATUS P.CTL) (16 + k) true).setSlot k
    fun x => { x with whole := false }).wb (R.CTL_LOOP_EST k) 16 false).irq (P.CTLK k) 0).setSlot k
      fun x => { x with notch := Vector.replicate 8 0, resume := false }

/-- The registers that enter HOLD with a loop. -/
abbrev holdRegs (k : Fin 16) : List Nat := [R.STATUS (P.CTLK k), R.STATUS P.CTL, R.IRQ_STAT (P.CTLK k), R.CTL_LOOP_EST k]

theorem heldLoop_only {c : Nat} (h : Only l m s t) (hl : ∀ a ∈ holdRegs k, a ∈ l) : Only l m s (heldLoop k c t) :=
  setSlot_only (((setSlot_only ((((h.wf (hl _ (by simp))).wf (hl _ (by simp))).wb (a := R.STATUS P.CTL) (hl _ (by simp))).wb (a := R.STATUS P.CTL) (hl _ (by simp)))).wb
    (a := R.CTL_LOOP_EST k) (hl _ (by simp))).irq (hl _ (by simp)))

theorem heldLoop_slot {c : Nat} : (heldLoop k c s).ctl.loop[k] = { s.ctl.loop[k] with whole := false, notch := Vector.replicate 8 0, resume := false } := by
  rw [heldLoop, setSlot_self, irq_ctl]
  simp only [State.wb, State.wf, State.wr_ctl, setSlot_self]

theorem heldLoop_spec {c : Nat} (hc : c < 8) (k : Fin 16) (s : State) : let u := heldLoop k c s
    u.rf (R.STATUS (P.CTLK k)) 1 0 = 2 ∧ u.rf (R.STATUS (P.CTLK k)) 4 2 = c ∧ u.rb (R.STATUS P.CTL) k = false ∧ u.rb (R.STATUS P.CTL) (16 + k) = true ∧
      u.rb (R.IRQ_STAT (P.CTLK k)) 0 = true ∧ u.rb (R.CTL_LOOP_EST k) 16 = false := by
  refine ⟨?_, ?_, ?_, ?_, ?_, ?_⟩
  · rw [heldLoop, setSlot_rf, State.rf_irq_of_ne loopStatus_ne_irq, State.rf_wb_of_ne loopStatus_ne_est, setSlot_rf, State.rf_wb_of_ne loopStatus_ne_ctl,
      State.rf_wb_of_ne loopStatus_ne_ctl, State.rf_wf_disjoint (by decide) (by decide) (by decide), State.rf_wf_self (by decide) (by decide)]
    decide
  · rw [heldLoop, setSlot_rf, State.rf_irq_of_ne loopStatus_ne_irq, State.rf_wb_of_ne loopStatus_ne_est, setSlot_rf, State.rf_wb_of_ne loopStatus_ne_ctl,
      State.rf_wb_of_ne loopStatus_ne_ctl, State.rf_wf_self (by decide) (by decide)]
    exact Nat.mod_eq_of_lt hc
  · rw [heldLoop, setSlot_rb, State.rb_irq_of_ne ctlStatus_ne_irq, State.rb_wb_of_ne ctlStatus_ne_est, setSlot_rb, State.rb_wb_bit (by omega) (by omega), State.rb_wb_self (by omega)]
  · rw [heldLoop, setSlot_rb, State.rb_irq_of_ne ctlStatus_ne_irq, State.rb_wb_of_ne ctlStatus_ne_est, setSlot_rb, State.rb_wb_self (by omega)]
  · rw [heldLoop, setSlot_rb, State.rb_irq_self (by decide)]
  · rw [heldLoop, setSlot_rb, State.rb_irq_of_ne est_ne_irq, State.rb_wb_self (by decide)]

theorem injEnd_idle {r : Nat} (h1 : s.rb (R.CTL_LOOP_INJ_STAT k) 0 = false) (h2 : s.ctl.loop[k].injWait = false) : injEnd k r s = s :=
  if_neg (by rw [h1, h2]; decide)

theorem capTrigger_unarmed {r : Nat} (h : s.ctl.loop[k].armed = false) : capTrigger k r s = s := by
  unfold capTrigger
  extract_lets x a
  exact if_pos (by rw [show x.armed = false from h]; rfl)

/-- A loop in RUN without an injection or an armed capture enters HOLD. -/
theorem loopHold_run {c : Nat} (h : s.rf (R.STATUS (P.CTLK k)) 1 0 = 1) (hi : s.rb (R.CTL_LOOP_INJ_STAT k) 0 = false) (hw : s.ctl.loop[k].injWait = false)
    (ha : s.ctl.loop[k].armed = false) : loopHold k c s = heldLoop k c s := by
  have ho : Only (holdRegs k) [] s (heldLoop k c s) := heldLoop_only (.refl _ _ _) fun _ h => h
  have hi' : (heldLoop k c s).rb (R.CTL_LOOP_INJ_STAT k) 0 = false := by
    rw [ho.rb, hi]
    simp only [List.mem_cons, List.not_mem_nil, or_false, not_or]
    refine ⟨loopStatus_ne_inj.symm, ?_, inj_ne_irq, ?_⟩ <;> simp only [R.CTL_LOOP_INJ_STAT, R.CTL_LOOP_EST, R.STATUS, R.base, P.CTL] <;> omega
  have e : loopHold k c s = capTrigger k 2 (injEnd k 4 (heldLoop k c s)) := if_pos h
  rw [e, injEnd_idle hi' (by rw [heldLoop_slot]; exact hw), capTrigger_unarmed (by rw [heldLoop_slot]; exact ha)]

/-! ### The command register -/

theorem loopCmd_plain : ∀ k : Fin 16, (offOf (R.CTL_LOOP_CMD k) ≠ 0x1c ∧ offOf (R.CTL_LOOP_CMD k) ≠ 0x20) ∧ maskOf RegDef.rws (R.CTL_LOOP_CMD k) = 0#32 := by
  decide +kernel

/-- A command reaches its effect with the registers as they were. -/
theorem loopCmd_written {b : Nat} {c : Word} (h : s.accepts n i (R.CTL_LOOP_CMD k) c) (hb : putBit 0#32 b true = c) :
    ∃ y, gateWrite i (R.CTL_LOOP_CMD k) (putBit 0#32 b true) (loopCmd k) (s.at n) = loopCmd k (s.rd (R.CTL_LOOP_CMD k)) c y ∧
      Only [R.CTL_LOOP_CMD k] [] s y ∧ y.ctl = s.ctl := by
  rw [hb]
  obtain ⟨v, hv⟩ := gateWrite_stored (loopCmd k) h (loopCmd_plain k).1 (loopCmd_plain k).2
  exact ⟨_, hv, gateState_only .., State.wr_ctl ..⟩

theorem loopCmd_hold : loopCmd k old 1#32 s = loopHold k 3 (s.setSlot k fun x => { x with bar := true, resume := false }) := rfl

theorem loopCmd_resume : loopCmd k old 2#32 s =
    if loopState s k == 2 && !s.ctl.loop[k].bar then (s.wf (R.CTL_LOOP_RC_STAT k) 6 0 0).setSlot k fun x => { x with resume := true } else s := rfl

theorem loopCmd_injStart : loopCmd k old 4#32 s =
    if s.rf R.SYS_MODE 3 0 = 6 ∨ s.rf R.SYS_MODE 3 0 = 0 then
      (if s.rb (R.CTL_LOOP_INJ_STAT k) 0 then s else s.setSlot k fun x => { x with injWait := true })
    else s.wf (R.CTL_LOOP_INJ_STAT k) 3 1 3 := rfl

theorem loopCmd_injStop : loopCmd k old 8#32 s = injEnd k 2 s := rfl

theorem loopCmd_capArm : loopCmd k old 16#32 s =
    if !s.ctl.loop[k].armed then
      ((s.wr (R.CTL_LOOP_CAP_WR k) 0#32).wb (R.STATUS (P.CTLK k)) 6 true).setSlot k fun x => { x with armed := true, trig := false, skip := 0, left := 0 }
    else s := rfl

theorem loopCmd_capTrig : loopCmd k old 32#32 s = capTrigger k 0 s := rfl

/-- An injection ends with its result. -/
theorem injEnd_active {r : Nat} (h : s.rb (R.CTL_LOOP_INJ_STAT k) 0 = true) : injEnd k r s =
    (((s.wr (R.CTL_LOOP_INJ_STAT k) (word (2 * r))).wb (R.STATUS (P.CTLK k)) 5 false).setSlot k
      fun x => { x with inj := InjSt.reset, injWait := false }).irq (P.CTLK k) 3 :=
  if_pos (by rw [h]; rfl)

theorem capTrigger_fires {r : Nat} (ha : s.ctl.loop[k].armed = true) (ht : s.ctl.loop[k].trig = false) (hr : s.rf (R.CTL_LOOP_CAP_CFG k) 27 25 = r)
    (hm : s.rb (R.CTL_LOOP_CAP_CFG k) 24 = false) :
    capTrigger k r s = s.setSlot k fun x => { x with trig := true, left := max 1 (s.rf (R.CTL_LOOP_CAP_LEN k) 16 0), skip := 0 } := by
  unfold capTrigger
  extract_lets x a
  rw [if_neg (by simp only [show x.armed = true from ha, show x.trig = false from ht, a, hr, bne_self_eq_false]; decide), if_neg (by rw [hm]; decide)]

/-- Settles O41: each command of a loop, by the one bit written. -/
theorem loopCommandsActAsWritten : Obligations.LoopCommandsActAsWritten := by
  intro n i k s cmd st p
  have cmd_ne : ∀ {x}, x < R.CTL_LOOP_CMD k ∨ R.CTL_LOOP_CMD k < x → x ∉ [cmd] := fun {x} h => by
    rw [List.mem_singleton]; intro e; rw [e] at h; exact h.elim (Nat.lt_irrefl _) (Nat.lt_irrefl _)
  have nst : st ∉ [cmd] := cmd_ne (by simp only [st, R.STATUS, R.base, P.CTLK, R.CTL_LOOP_CMD]; omega)
  have ninj : R.CTL_LOOP_INJ_STAT k ∉ [cmd] := cmd_ne (by simp only [R.CTL_LOOP_INJ_STAT, R.CTL_LOOP_CMD]; omega)
  have ncfg : R.CTL_LOOP_CAP_CFG k ∉ [cmd] := cmd_ne (by simp only [R.CTL_LOOP_CAP_CFG, R.CTL_LOOP_CMD]; omega)
  have nlen : R.CTL_LOOP_CAP_LEN k ∉ [cmd] := cmd_ne (by simp only [R.CTL_LOOP_CAP_LEN, R.CTL_LOOP_CMD]; omega)
  have nmode : R.SYS_MODE ∉ [cmd] := cmd_ne (by simp only [R.SYS_MODE, R.CTL_LOOP_CMD]; omega)
  refine ⟨fun hacc h1 hi hw ha => ?_, fun hacc h2 hb => ?_, fun hacc h2 => ?_, fun hacc hm hi => ?_, fun hacc h6 h0 => ?_, fun hacc hi => ?_,
    fun hacc ha => ?_, fun hacc ha => ?_, fun hacc ha ht hc hm => ?_⟩
  · obtain ⟨y, hv, ho, hctl⟩ := loopCmd_written (b := 0) hacc (by decide)
    have hx : Only [cmd] [] s (y.setSlot k fun x => { x with bar := true, resume := false }) := setSlot_only ho
    have e := loopHold_run (c := 3) (s := y.setSlot k fun x => { x with bar := true, resume := false }) (k := k) ((hx.rf nst).trans h1) ((hx.rb ninj).trans hi)
      (by rw [setSlot_self, hctl]; exact hw) (by rw [setSlot_self, hctl]; exact ha)
    obtain ⟨e1, e2, e3, e4, e5, e6⟩ := heldLoop_spec (c := 3) (by decide) k (y.setSlot k fun x => { x with bar := true, resume := false })
    refine ⟨_, next_congr (congrArg fbChecks (hv.trans (loopCmd_hold.trans e))), e1, e2, e3, e4, e5, e6, ?_, ?_,
      (hx.mono (by simp) (by simp)).trans ((heldLoop_only (m := []) (.refl _ _ _) fun _ h => h).mono (fun _ h => List.mem_cons_of_mem _ h) (by simp))⟩
    · rw [heldLoop_slot]
    · rw [heldLoop_slot, setSlot_self, hctl]
  · obtain ⟨y, hv, ho, hctl⟩ := loopCmd_written (b := 1) hacc (by decide)
    have hc : (loopState y k == 2 && !y.ctl.loop[k].bar) = true := by
      rw [loopState, ho.rf nst, h2, hctl, hb]; rfl
    refine ⟨_, next_congr (hv.trans (loopCmd_resume.trans (if_pos hc))), ?_, ?_, ?_, setSlot_only ((ho.mono (by simp [cmd]) (by simp)).wf (by simp))⟩
    · rw [setSlot_rf, State.rf_wf_self (by decide) (by decide)]; rfl
    · rw [setSlot_self]
    · rw [setSlot_rf, State.rf_wf_of_ne loopStatus_ne_rc, ho.rf nst, h2]
  · obtain ⟨y, hv, ho, hctl⟩ := loopCmd_written (b := 1) hacc (by decide)
    have hc : ¬(loopState y k == 2 && !y.ctl.loop[k].bar) = true := by
      rw [loopState, ho.rf nst, beq_eq_false_iff_ne.2 h2]; exact Bool.false_ne_true
    exact ⟨_, next_congr (hv.trans (loopCmd_resume.trans (if_neg hc))), hctl, ho⟩
  · obtain ⟨y, hv, ho, hctl⟩ := loopCmd_written (b := 2) hacc (by decide)
    refine ⟨_, next_congr (hv.trans (loopCmd_injStart.trans ((if_pos (by rw [ho.rf nmode]; exact hm)).trans (if_neg (by rw [ho.rb ninj, hi]; decide))))), ?_, setSlot_only ho⟩
    rw [setSlot_self]
  · obtain ⟨y, hv, ho, hctl⟩ := loopCmd_written (b := 2) hacc (by decide)
    refine ⟨_, next_congr (hv.trans (loopCmd_injStart.trans (if_neg (by rw [ho.rf nmode]; exact not_or.2 ⟨h6, h0⟩)))), ?_, (State.wr_ctl ..).trans hctl,
      (ho.mono (by simp [cmd]) (by simp)).wf (by simp)⟩
    rw [State.rf_wf_self (by decide) (by decide)]; rfl
  · obtain ⟨y, hv, ho, hctl⟩ := loopCmd_written (b := 3) hacc (by decide)
    refine ⟨_, next_congr (hv.trans (loopCmd_injStop.trans (injEnd_active ((ho.rb ninj).trans hi)))), ?_, ?_, State.rb_irq_self (by decide), ?_,
      (setSlot_only (((ho.mono (by simp [cmd]) (by simp)).wr (by simp)).wb (by simp [st]))).irq (by simp [p])⟩
    · rw [State.rf_irq_of_ne inj_ne_irq, setSlot_rf, State.rf_wb_of_ne loopStatus_ne_inj.symm, State.rf_wr_self]; decide
    · rw [State.rb_irq_of_ne inj_ne_irq, setSlot_rb, State.rb_wb_of_ne loopStatus_ne_inj.symm, State.rb_wr_self]; decide
    · rw [irq_ctl, setSlot_self]
  · obtain ⟨y, hv, ho, hctl⟩ := loopCmd_written (b := 4) hacc (by decide)
    refine ⟨_, next_congr (hv.trans (loopCmd_capArm.trans (if_pos (by rw [hctl, ha]; rfl)))), ?_, ?_, ?_, ?_,
      setSlot_only (((ho.mono (by simp [cmd]) (by simp)).wr (by simp)).wb (by simp [st]))⟩
    · rw [setSlot_self]
    · rw [setSlot_self]
    · rw [setSlot_rd, State.rd_wb_of_ne loopStatus_ne_cap.symm, State.rd_wr_self]
    · rw [setSlot_rb, State.rb_wb_self (by decide)]
  · obtain ⟨y, hv, ho, hctl⟩ := loopCmd_written (b := 4) hacc (by decide)
    exact ⟨_, next_congr (hv.trans (loopCmd_capArm.trans (if_neg (by rw [hctl, ha]; decide)))), hctl, ho⟩
  · obtain ⟨y, hv, ho, hctl⟩ := loopCmd_written (b := 5) hacc (by decide)
    refine ⟨_, next_congr (hv.trans (loopCmd_capTrig.trans (capTrigger_fires (by rw [hctl, ha]) (by rw [hctl, ht]) ((ho.rf ncfg).trans hc) ((ho.rb ncfg).trans hm)))),
      ?_, ?_, setSlot_only ho⟩
    · rw [setSlot_self]
    · rw [setSlot_self, ho.rf nlen]

end Sys2Proof.Machine
end

section
/-! PROOFS. Posts of object lists and the start of the mask engine (R164, R168, R189). -/

namespace Sys2Proof.Machine

variable {l m : List Nat} {s t u : State} {i : Init} {a b j k n : Nat} {w old : Word} {f : GlmSt → GlmSt}

theorem setGlm_only (h : Only l m s t) : Only l m s (t.setGlm f) := h.record

@[simp] theorem setGlm_glm : (s.setGlm f).glm = f s.glm := rfl

/-! ### Slots -/

theorem slotState_setSlot_self (hk : k < 8) (hv : n < 4) : slotState (setSlot k n s) k = n := by
  rw [slotState, setSlot, State.rf_wf_self (by omega) (by omega), show 2 * k + 1 + 1 - 2 * k = 2 by omega]
  exact Nat.mod_eq_of_lt hv

theorem slotState_setSlot_of_ne (hk : k < 8) (h : j ≠ k) : slotState (setSlot k n s) j = slotState s j :=
  State.rf_wf_disjoint (by omega) (by omega) (by omega)

theorem Only.slotState (h : Only l m s t) (ha : R.GLM_SLOT_STATE ∉ l) : Machine.slotState t j = Machine.slotState s j := h.rf ha

theorem glmPost_free (h4 : 4 ≤ bitsOf w 2 0) (h0 : slotState s (bitsOf w 2 0) = 0) : glmPost old w s = postSlot (bitsOf w 2 0) s := if_pos ⟨h4, h0⟩

theorem glmPost_refused (h : bitsOf w 2 0 < 4 ∨ slotState s (bitsOf w 2 0) ≠ 0) : glmPost old w s = listReject (bitsOf w 2 0) 4 s :=
  if_neg fun ⟨h4, h0⟩ => h.elim (fun h => Nat.not_lt.2 h4 h) fun h => h h0

/-! ### The program of a BEAM engine -/

/-- What of a program an engine's local memory holds. -/
abbrev beamBytes (look : Bool) : List Nat := (Config.beamProgram look).take 0x40000

/-- The start of engine `b`'s local memory. -/
abbrev beamBase (b : Nat) : Nat := 0x08000000 + 0x40000 * b

theorem beamBytes_length (look : Bool) : (beamBytes look).length ≤ 0x40000 := List.length_take_le ..

variable {look : Bool}

theorem loadBeam_ld_of_out (h : a < beamBase b ∨ beamBase b + 0x40000 ≤ a) : (loadBeam look s b).ld a = s.ld a := by
  have hl := beamBytes_length look
  exact put_ld_of_ne (h.imp_right fun h => Nat.le_trans (Nat.add_le_add_left hl _) h)

theorem loadBeam_ldN_self {x : Nat} (h : x < (beamBytes look).length) : (loadBeam look s b).ldN (beamBase b + x) = nth 0 (beamBytes look) x % 256 := by
  have e : (loadBeam look s b).ldN (beamBase b + x) = (s.put (beamBase b) (beamBytes look)).ldN (beamBase b + x) := rfl
  rw [e, put_ldN_self h, nth, List.getD_eq_getElem _ _ h]

/-- What a program's load leaves as it is: everything but memory. -/
theorem over_loadBeam_rest (js : List Nat) (s : State) : let u := s.over js (loadBeam look)
    u.regs = s.regs ∧ u.shadow = s.shadow ∧ u.stat = s.stat ∧ u.nv = s.nv ∧ u.pending = s.pending ∧ u.glm = s.glm :=
  State.over_induct (q := fun u => u.regs = s.regs ∧ u.shadow = s.shadow ∧ u.stat = s.stat ∧ u.nv = s.nv ∧ u.pending = s.pending ∧ u.glm = s.glm)
    ⟨rfl, rfl, rfl, rfl, rfl, rfl⟩ fun _ _ h => h

theorem over_loadBeam_ld_of_out {js : List Nat} (h : ∀ b ∈ js, a < beamBase b ∨ beamBase b + 0x40000 ≤ a) : (s.over js (loadBeam look)).ld a = s.ld a :=
  State.over_induct_mem (q := fun u => u.ld a = s.ld a) rfl fun _ b hb hu => (loadBeam_ld_of_out (h b hb)).trans hu

/-- Once loaded, an engine's program stays through the loads of others. -/
theorem loadBeam_ldN_keeps {x : Nat} (hx : x < (beamBytes look).length) (h : s.ldN (beamBase b + x) = nth 0 (beamBytes look) x % 256) :
    (loadBeam look s j).ldN (beamBase b + x) = nth 0 (beamBytes look) x % 256 := by
  by_cases hj : j = b
  · subst hj; exact loadBeam_ldN_self hx
  · have hl := beamBytes_length look
    rw [State.ldN, loadBeam_ld_of_out, ← State.ldN, h]
    simp only [beamBase] at hl ⊢
    omega

theorem over_loadBeam_ldN {js : List Nat} {x : Nat} (hb : b ∈ js) (hx : x < (beamBytes look).length) :
    ∀ s : State, (s.over js (loadBeam look)).ldN (beamBase b + x) = nth 0 (beamBytes look) x % 256 := by
  induction js with
  | nil => exact absurd hb List.not_mem_nil
  | cons i js ih =>
    intro s
    change ((loadBeam look s i).over js (loadBeam look)).ldN _ = _
    by_cases h : b ∈ js
    · exact ih h _
    · obtain rfl := (List.mem_cons.1 hb).resolve_right h
      exact State.over_induct (q := fun u => u.ldN (beamBase b + x) = nth 0 (beamBytes look) x % 256) (loadBeam_ldN_self hx) fun _ _ h => loadBeam_ldN_keeps hx h

/-! ### EN of the mask engine -/

theorem glmCtrl_enable (hw : bitOf w 0 = true) (ho : bitOf old 0 = false) : glmCtrl old w s =
    ((channelsLost s).over ((List.range 8).filter fun b => s.rb R.GLM_BEAM_SEL b) (loadBeam false)).setGlm fun g => { g with armed := true } := by
  rw [glmCtrl, if_pos (by rw [hw, ho]; rfl)]

theorem channelsLost_rf : (channelsLost s).rf R.GLM_CH_STAT 2 0 = 3 ∧ (channelsLost s).rf R.GLM_CH_STAT 6 4 = 3 := by
  refine ⟨?_, ?_⟩
  · rw [channelsLost, State.rf_wf_disjoint (by decide) (by decide) (by decide), State.rf_wf_self (by decide) (by decide)]; rfl
  · rw [channelsLost, State.rf_wf_self (by decide) (by decide)]; rfl

theorem channelsLost_only (h : Only l m s t) (ha : R.GLM_CH_STAT ∈ l) : Only l m s (channelsLost t) := (h.wf ha).wf ha

/-- An accepted write of the mask engine's CTRL holds EN as written. -/
theorem gateWrite_glmCtrl (h : s.accepts n i (R.CTRL P.GLM) w) : ∃ x, gateWrite i (R.CTRL P.GLM) w glmCtrl (s.at n) =
    glmCtrl (s.rd (R.CTRL P.GLM)) w ((s.at n).busOk.wr (R.CTRL P.GLM) x) ∧ bitOf x 0 = bitOf w 0 := by
  refine ⟨_, gateWrite_plain glmCtrl h (by decide) (by decide +kernel), ?_⟩
  have hl : legalize (R.CTRL P.GLM) w = w := by
    rw [legalize, if_neg (by decide), if_neg (by decide), if_neg (by decide), cpuLegal]; exact if_pos (by decide)
  have hb : ∀ x : Word, bitOf x 0 = x.getLsbD 0 := fun x => rfl
  rw [hl, storeLive_rw (x := 1#32) (by decide +kernel) (by decide +kernel) (by decide +kernel) (by decide +kernel)]
  simp [hb]

/-- Settles O29: what a post does to its slot, and what the engine's start does to channels and local memories. -/
theorem objectListsArePostedOrRefused : Obligations.ObjectListsArePostedOrRefused := by
  intro n i w s
  have hk : bitsOf w 2 0 < 8 := by rw [bitsOf]; omega
  refine ⟨fun hacc h4 h0 => ?_, fun hacc h => ?_, fun hacc h0 => ?_⟩
  · obtain ⟨x, hx⟩ := gateWrite_stored glmPost hacc (by decide) (by decide +kernel)
    have ho : Only [R.GLM_POST] [] s ((s.at n).busOk.wr R.GLM_POST x) := gateState_only ..
    have hg : ((s.at n).busOk.wr R.GLM_POST x).glm = s.glm := State.wr_glm ..
    have hn : ((s.at n).busOk.wr R.GLM_POST x).now = max s.now n := State.wr_now ..
    generalize (s.at n).busOk.wr R.GLM_POST x = y at hx ho hg hn
    refine ⟨_, next_congr (hx.trans (glmPost_free h4 ((ho.slotState (by decide)).trans h0))), slotState_setSlot_self hk (by decide), ?_, fun k _ hne => ?_,
      setGlm_only ((ho.mono (by simp) (by simp)).wf (by simp))⟩
    · rw [postSlot, setGlm_glm, setSlot, State.wf, State.wr_glm, hg]
      exact congrArg (fun x => s.glm.posts ++ [(bitsOf w 2 0, x)]) hn
    · exact (slotState_setSlot_of_ne hk hne).trans (ho.slotState (by decide))
  · obtain ⟨x, hx⟩ := gateWrite_stored glmPost hacc (by decide) (by decide +kernel)
    have ho : Only [R.GLM_POST] [] s ((s.at n).busOk.wr R.GLM_POST x) := gateState_only ..
    have hg : ((s.at n).busOk.wr R.GLM_POST x).glm = s.glm := State.wr_glm ..
    have ht : ((s.at n).busOk.wr R.GLM_POST x).tick16 = s.tick16 := rfl
    generalize (s.at n).busOk.wr R.GLM_POST x = y at hx ho hg ht
    refine ⟨_, next_congr (hx.trans (glmPost_refused (h.imp_right fun h => by rwa [ho.slotState (by decide)]))), ?_, (State.wr_glm ..).trans hg,
      (ho.mono (by simp) (by simp)).wr (by simp)⟩
    rw [listReject, State.rd_wr_self, ht]
  · have hw : bitOf (putBit w 0 true) 0 = true := bitOf_putBit_self _ _ (by decide)
    obtain ⟨x, hx, hb⟩ := gateWrite_glmCtrl hacc
    have ho : Only [R.CTRL P.GLM] [] s ((s.at n).busOk.wr (R.CTRL P.GLM) x) := gateState_only ..
    have hg : ((s.at n).busOk.wr (R.CTRL P.GLM) x).glm = s.glm := State.wr_glm ..
    have hen : ((s.at n).busOk.wr (R.CTRL P.GLM) x).en P.GLM = true := by rw [State.en, State.rb, State.rd_wr_self, hb, hw]
    generalize (s.at n).busOk.wr (R.CTRL P.GLM) x = y at hx ho hg hen
    have hc : Only [R.CTRL P.GLM, R.GLM_CH_STAT] [] s (channelsLost y) := channelsLost_only (ho.mono (by simp) (by simp)) (by simp)
    have hcy : Only [R.GLM_CH_STAT] [] y (channelsLost y) := channelsLost_only (.refl _ _ _) (by simp)
    obtain ⟨c1, c2⟩ := channelsLost_rf (s := y)
    have hcg : (channelsLost y).glm = s.glm := hg
    have hsel : ∀ b, y.rb R.GLM_BEAM_SEL b = s.rb R.GLM_BEAM_SEL b := fun b => ho.rb (by decide)
    rw [glmCtrl_enable hw h0, funext hsel] at hx
    generalize channelsLost y = z at hx hc hcy c1 c2 hcg
    obtain ⟨r1, r2, r3, r4, r5, r6⟩ := over_loadBeam_rest (look := false) ((List.range 8).filter (s.rb R.GLM_BEAM_SEL)) z
    have hld : ∀ b < 8, s.rb R.GLM_BEAM_SEL b = true → ∀ x < (beamBytes false).length,
        (z.over ((List.range 8).filter (s.rb R.GLM_BEAM_SEL)) (loadBeam false)).ldN (beamBase b + x) = nth 0 (beamBytes false) x % 256 := fun b hb hs x hx =>
      over_loadBeam_ldN (List.mem_filter.2 ⟨List.mem_range.2 hb, hs⟩) hx z
    have hout : ∀ a, (∀ b < 8, s.rb R.GLM_BEAM_SEL b = true → a < beamBase b ∨ beamBase b + 0x40000 ≤ a) →
        (z.over ((List.range 8).filter (s.rb R.GLM_BEAM_SEL)) (loadBeam false)).ld a = z.ld a := fun a h =>
      over_loadBeam_ld_of_out fun b hb => h b (List.mem_range.1 (List.mem_filter.1 hb).1) (List.mem_filter.1 hb).2
    generalize z.over ((List.range 8).filter (s.rb R.GLM_BEAM_SEL)) (loadBeam false) = v at hx r1 r2 r3 r4 r5 r6 hld hout
    have hrd : ∀ a, v.rd a = z.rd a := fun a => congrArg (sget (regDefault a) a) r1
    refine ⟨_, next_congr hx, ?_, ?_, ?_, ?_, ⟨hld, fun a h => (hout a h).trans (hc.mem a)⟩, fun a h1 h2 => (hrd a).trans (hc.regs _ (by simp [h1, h2])),
      fun a => (congrArg (sget 0#32 a) r3).trans (hc.stats a (by simp)), r4.trans hc.nv, r5.trans hc.pending⟩
    · exact (congrArg (bitOf · 0) (hrd _)).trans ((hcy.en (by decide)).trans hen)
    · exact (congrArg (bitsOf · 2 0) (hrd _)).trans c1
    · exact (congrArg (bitsOf · 6 4) (hrd _)).trans c2
    · rw [setGlm_glm, r6, hcg]

end Sys2Proof.Machine
end

section
/-! PROOFS. Safety functions, the defect table and coverage (R253, R254, R263, R266, R274). -/

namespace Sys2Proof.Machine

variable {l m js : List Nat} {s t u : State} {i : Init} {a n f g c e : Nat} {w old : Word} {k : Fin 4} {ws : List Word}

/-! ### Functions that go off -/

/-- DRV_FN_STAT of a function that is switched off with a cause at a tick (R263). -/
def offStat (cause tick : Nat) (w : Word) : Word := putBits (putBits (putBit w 0 true) 3 1 cause) 31 16 tick

theorem offStat_spec {tick : Nat} (hc : c < 8) (ht : tick < 65536) (w : Word) : bitOf (offStat c tick w) 0 = true ∧ bitsOf (offStat c tick w) 3 1 = c ∧
    bitsOf (offStat c tick w) 31 16 = tick ∧ bitsOf (offStat c tick w) 15 8 = bitsOf w 15 8 := by
  refine ⟨?_, ?_, ?_, ?_⟩
  · rw [offStat, bitOf_putBits_of_disjoint _ _ (by decide) (by decide) (by decide), bitOf_putBits_of_disjoint _ _ (by decide) (by decide) (by decide),
      bitOf_putBit_self _ _ (by decide)]
  · rw [offStat, bitsOf_putBits_of_disjoint _ _ (by decide) (by decide) (by decide), bitsOf_putBits_self _ _ (by decide) (by decide)]
    exact Nat.mod_eq_of_lt hc
  · rw [offStat, bitsOf_putBits_self _ _ (by decide) (by decide)]
    exact Nat.mod_eq_of_lt ht
  · rw [offStat, bitsOf_putBits_of_disjoint _ _ (by decide) (by decide) (by decide), bitsOf_putBits_of_disjoint _ _ (by decide) (by decide) (by decide),
      bitsOf_putBit_of_disjoint _ _ (by decide) (by decide)]

theorem fnStat_ne_off (hf : f < 32) : R.DRV_FN_STAT f ≠ R.DRV_FN_OFF := by simp only [R.DRV_FN_STAT, R.DRV_FN_OFF]; omega

theorem fnStat_inj (h : f ≠ g) : R.DRV_FN_STAT f ≠ R.DRV_FN_STAT g := by simp only [R.DRV_FN_STAT]; omega

theorem fnMark_off (hg : g < 32) (hf : f < 32) : (fnMark c s f).rb R.DRV_FN_OFF g = (s.rb R.DRV_FN_OFF g || decide (g = f)) := by
  by_cases h : g = f
  · subst h
    rw [fnMark, State.rb_wb_self hf]; simp
  · rw [fnMark, State.rb_wb_bit hf h, State.rb, State.rd_wr_of_ne _ (fnStat_ne_off hf).symm, decide_eq_false h, Bool.or_false, State.rb]

theorem fnMark_stat (hf : f < 32) : (fnMark c s f).rd (R.DRV_FN_STAT f) = offStat c s.tick16 (s.rd (R.DRV_FN_STAT f)) := by
  rw [fnMark, State.rd_wb_of_ne (fnStat_ne_off hf), State.rd_wr_self, offStat]

theorem fnMark_rd_of_ne (h1 : a ≠ R.DRV_FN_STAT f) (h2 : a ≠ R.DRV_FN_OFF) : (fnMark c s f).rd a = s.rd a := by
  rw [fnMark, State.rd_wb_of_ne h2, State.rd_wr_of_ne _ h1]

theorem fnMark_only (h : Only l m s t) (h1 : R.DRV_FN_STAT f ∈ l) (h2 : R.DRV_FN_OFF ∈ l) : Only l m s (fnMark c t f) := (h.wr h1).wb h2

theorem fnMark_tick16 : (fnMark c s f).tick16 = s.tick16 := rfl

theorem over_fnMark_off (hjs : ∀ f ∈ js, f < 32) (hg : g < 32) : ∀ s : State, (s.over js (fnMark c)).rb R.DRV_FN_OFF g = (s.rb R.DRV_FN_OFF g || decide (g ∈ js)) := by
  induction js with
  | nil => intro s; simp [State.over]
  | cons f js ih =>
    intro s
    change ((fnMark c s f).over js (fnMark c)).rb _ _ = _
    rw [ih (fun f hf => hjs f (List.mem_cons_of_mem _ hf)), fnMark_off hg (hjs f List.mem_cons_self), Bool.or_assoc]
    congr 1
    simp [List.mem_cons]

theorem over_fnMark_rd_of_notMem (hjs : ∀ f ∈ js, f < 32) (hg : g < 32) (h : g ∉ js) : ∀ s : State, (s.over js (fnMark c)).rd (R.DRV_FN_STAT g) = s.rd (R.DRV_FN_STAT g) := by
  induction js with
  | nil => exact fun _ => rfl
  | cons f js ih =>
    intro s
    rw [List.mem_cons, not_or] at h
    exact (ih (fun f hf => hjs f (List.mem_cons_of_mem _ hf)) h.2 _).trans (fnMark_rd_of_ne (fnStat_inj h.1) (fnStat_ne_off hg))

theorem over_fnMark_stat (hjs : ∀ f ∈ js, f < 32) (hn : js.Nodup) (hg : g ∈ js) :
    ∀ s : State, (s.over js (fnMark c)).rd (R.DRV_FN_STAT g) = offStat c s.tick16 (s.rd (R.DRV_FN_STAT g)) := by
  induction js with
  | nil => exact absurd hg List.not_mem_nil
  | cons f js ih =>
    intro s
    obtain ⟨hf, hn⟩ := List.nodup_cons.1 hn
    have hlt : ∀ f ∈ js, f < 32 := fun f hf => hjs f (List.mem_cons_of_mem _ hf)
    change ((fnMark c s f).over js (fnMark c)).rd _ = _
    by_cases h : g = f
    · subst h
      rw [over_fnMark_rd_of_notMem hlt (hjs g List.mem_cons_self) hf, fnMark_stat (hjs g List.mem_cons_self)]
    · rw [ih hlt hn ((List.mem_cons.1 hg).resolve_left h), fnMark_tick16, fnMark_rd_of_ne (fnStat_inj h) (fnStat_ne_off (hjs g hg))]

theorem fnsOff_some (h : (js.filter fun f => !s.rb R.DRV_FN_OFF f) = l) (hl : l ≠ []) :
    fnsOff js c s = raiseAll (l.map fun _ => ⟨Src.DRV_FUNC_OFF, true, false⟩) ((s.over l (fnMark c)).irq P.DRV 1) := by
  unfold fnsOff
  extract_lets l'
  have hl' : l' = l := h
  rw [hl', if_neg hl]

/-! ### The defect table -/

/-- The registers of the defect table. -/
def defTable : List Nat := (List.range 512).map fun e => R.DRV_DEF e

theorem def_ne_count (h : e < 512) : R.DRV_DEF e ≠ R.DRV_DEF_COUNT := by simp only [R.DRV_DEF, R.DRV_DEF_COUNT]; omega

theorem def_inj : ∀ e g, R.DRV_DEF e = R.DRV_DEF g → e = g := fun e g h => by simp only [R.DRV_DEF] at h; omega

/-- The registers of the table and its count, written from a list of entries. -/
def defWritten (ws : List Word) (s : State) : State :=
  (s.over (List.range 512) fun s e => s.wr (R.DRV_DEF e) (ws.getD e 0#32)).wr R.DRV_DEF_COUNT (word ws.length)

theorem setDefects_eq (ws : List Word) (s : State) : setDefects ws s =
    if ws.length < 512 then (defWritten ws s).withSync { (defWritten ws s).sync with defFull := false } else defWritten ws s := by
  have hy : ∀ y : State, (if ws.length < 512 then ({ y with sync := { y.sync with defFull := false } } : State) else y) =
      if ws.length < 512 then y.withSync { y.sync with defFull := false } else y := fun _ => rfl
  rw [setDefects, ← hy, defWritten]

theorem defWritten_rd (he : e < 512) : (defWritten ws s).rd (R.DRV_DEF e) = ws.getD e 0#32 := by
  rw [defWritten, State.rd_wr_of_ne _ (def_ne_count he)]
  exact over_wr_rd (g := R.DRV_DEF) (v := fun e => ws.getD e 0#32) def_inj (List.mem_range.2 he) s

theorem defWritten_count (h : ws.length ≤ 512) : (defWritten ws s).rf R.DRV_DEF_COUNT 9 0 = ws.length := by
  rw [defWritten, State.rf_wr_self, bitsOf, word, BitVec.toNat_ofNat]
  omega

theorem defWritten_rd_of_notMem (h1 : a ∉ defTable) (h2 : a ≠ R.DRV_DEF_COUNT) : (defWritten ws s).rd a = s.rd a := by
  rw [defWritten, State.rd_wr_of_ne _ h2]
  exact over_wr_rd_of_notMem (v := fun e => ws.getD e 0#32) (fun e he h => h1 (List.mem_map.2 ⟨e, he, h.symm⟩)) s

theorem defWritten_only (h : Only l m s t) (h1 : ∀ a ∈ defTable, a ∈ l) (h2 : R.DRV_DEF_COUNT ∈ l) : Only l m s (defWritten ws t) :=
  Only.wr (State.over_induct_mem (q := Only l m s) h fun _ _ he h => h.wr (h1 _ (List.mem_map_of_mem he))) h2

/-- The table after it has been written back: its count, its entries, and every register besides. -/
structure TableHolds (ws : List Word) (s u : State) : Prop where
  count : u.rf R.DRV_DEF_COUNT 9 0 = ws.length
  entries : ∀ e < 512, u.rd (R.DRV_DEF e) = ws.getD e 0#32
  rest : ∀ a, a ∉ defTable → a ≠ R.DRV_DEF_COUNT → u.rd a = s.rd a
  only : Only (R.DRV_DEF_COUNT :: defTable) [] s u

theorem defWritten_holds (h : ws.length ≤ 512) : TableHolds ws s (defWritten ws s) where
  count := defWritten_count h
  entries _ he := defWritten_rd he
  rest _ h1 h2 := defWritten_rd_of_notMem h1 h2
  only := defWritten_only (.refl _ _ _) (fun _ h => List.mem_cons_of_mem _ h) List.mem_cons_self

theorem TableHolds.withSync {x : SyncSt} (h : TableHolds ws s t) : TableHolds ws s (t.withSync x) := ⟨h.count, h.entries, h.rest, h.only.withSync⟩

theorem setDefects_spec (h : ws.length ≤ 512) (hu : u = setDefects ws s) : TableHolds ws s u := by
  have hd := defWritten_holds (s := s) h
  rw [hu, setDefects_eq]
  split
  · exact hd.withSync
  · exact hd

theorem defects_length : (defects s).length = s.rf R.DRV_DEF_COUNT 9 0 := by rw [defects, List.length_map, List.length_range]

theorem defects_getD (h : e < s.rf R.DRV_DEF_COUNT 9 0) : (defects s).getD e 0#32 = s.rd (R.DRV_DEF e) := by
  simp [defects, List.getD, h]

/-- The table read back is the list written. -/
theorem defects_of_setDefects (h : ws.length ≤ 512) (hc : u.rf R.DRV_DEF_COUNT 9 0 = ws.length) (hd : ∀ e < 512, u.rd (R.DRV_DEF e) = ws.getD e 0#32) :
    defects u = ws := by
  refine List.ext_getElem (by rw [defects_length, hc]) fun e h1 h2 => ?_
  have he : e < 512 := Nat.lt_of_lt_of_le h2 h
  have := defects_getD (s := u) (e := e) (by rw [hc]; exact h2)
  rw [hd e he, List.getD_eq_getElem _ _ h1, List.getD_eq_getElem _ _ h2] at this
  exact this

theorem Only.defects (h : Only l m s t) (h1 : R.DRV_DEF_COUNT ∉ l) (h2 : ∀ e < s.rf R.DRV_DEF_COUNT 9 0, R.DRV_DEF e ∉ l) : defects t = defects s := by
  rw [Machine.defects, Machine.defects, h.rf h1]
  exact List.map_congr_left fun e he => h.regs _ (h2 e (List.mem_range.1 he))

/-- DRV_FN_CLEAR of one function (R266). -/
theorem fnClear_one (hf : f < 32) (h : ∀ g < 32, bitOf w g = decide (g = f)) : fnClear old w s = fnClear1 s f := by
  have hl : (List.range 32).filter (bitOf w) = [f] := by
    rw [List.filter_congr (q := fun g => decide (g = f)) fun g hg => h g (List.mem_range.1 hg)]
    interval_cases f <;> rfl
  rw [fnClear, hl]; rfl

theorem fnStat_notMem_table (hf : f < 32) : R.DRV_FN_STAT f ∉ defTable ∧ R.DRV_FN_STAT f ≠ R.DRV_DEF_COUNT := by
  simp only [defTable, List.mem_map, List.mem_range, not_exists, not_and]
  refine ⟨fun e he => ?_, ?_⟩ <;> simp only [R.DRV_DEF, R.DRV_FN_STAT, R.DRV_DEF_COUNT] <;> omega

theorem fnOff_notMem_table : R.DRV_FN_OFF ∉ defTable ∧ R.DRV_FN_OFF ≠ R.DRV_DEF_COUNT := by
  simp only [defTable, List.mem_map, List.mem_range, not_exists, not_and]
  refine ⟨fun e he => ?_, by decide⟩
  simp only [R.DRV_DEF, R.DRV_FN_OFF]; omega

theorem def_ne_fn (he : e < 512) (hf : f < 32) : R.DRV_DEF e ≠ R.DRV_FN_STAT f ∧ R.DRV_DEF e ≠ R.DRV_FN_OFF := by
  simp only [R.DRV_DEF, R.DRV_FN_STAT, R.DRV_FN_OFF]; omega

/-- A field that is written with 0 holds 0 in each of its parts. -/
theorem bitsOf_part_of_low (v : Word) : bitsOf (putBits v 15 0 0) 15 8 = 0 := by
  have h : bitsOf (putBits v 15 0 0) 15 0 = 0 := bitsOf_putBits_self _ _ (by decide) (by decide)
  rw [bitsOf] at h ⊢
  omega

/-- A cleared function: on again, without defects of its own (R266). -/
theorem fnClear1_spec (hf : f < 32) (hn : s.rf R.DRV_DEF_COUNT 9 0 ≤ 512) (hu : u = fnClear1 s f) :
    (∀ g < 32, u.rb R.DRV_FN_OFF g = (s.rb R.DRV_FN_OFF g && decide (g ≠ f))) ∧ u.rf (R.DRV_FN_STAT f) 15 8 = 0 ∧
      defects u = (defects s).filter (fun d => bitsOf d 31 24 != f) ∧ Only (R.DRV_FN_OFF :: R.DRV_FN_STAT f :: R.DRV_DEF_COUNT :: defTable) [] s u := by
  have hlen : ((defects s).filter fun d => bitsOf d 31 24 != f).length ≤ 512 := (List.length_filter_le _ _).trans (defects_length.trans_le hn)
  have hu' : u = ((setDefects ((defects s).filter fun d => bitsOf d 31 24 != f) s).wf (R.DRV_FN_STAT f) 15 0 0).wb R.DRV_FN_OFF f false := hu
  generalize hy : setDefects ((defects s).filter fun d => bitsOf d 31 24 != f) s = y at hu'
  obtain ⟨h1, h2, h3, h4⟩ := setDefects_spec hlen hy.symm
  obtain ⟨n1, n2⟩ := fnStat_notMem_table hf
  subst hu'
  refine ⟨fun g hg => ?_, ?_, ?_, ((h4.mono (by simp +contextual) (by simp)).wf (by simp)).wb (by simp)⟩
  · by_cases h : g = f
    · subst h
      rw [State.rb_wb_self hg]; simp
    · rw [State.rb_wb_bit hf h, State.rb_wf_of_ne (fnStat_ne_off hf).symm, State.rb, h3 _ fnOff_notMem_table.1 fnOff_notMem_table.2, decide_eq_true h, Bool.and_true, State.rb]
  · rw [State.rf_wb_of_ne (fnStat_ne_off hf), State.rf, State.rd_wf_self]
    exact bitsOf_part_of_low _
  · refine defects_of_setDefects hlen ?_ fun e he => ?_
    · rw [State.rf_wb_of_ne fnOff_notMem_table.2.symm, State.rf_wf_of_ne n2.symm, h1]
    · rw [State.rd_wb_of_ne (def_ne_fn he hf).2, State.rd_wf_of_ne (def_ne_fn he hf).1, h2 e he]

theorem defDelete_eq (hw : bitOf w 31 = true) (hk : bitsOf w 8 0 < (defects s).length) : defDelete old w s =
    setDefects (((defects s).set (bitsOf w 8 0) ((defects s).getD ((defects s).length - 1) 0#32)).take ((defects s).length - 1)) s := by
  unfold defDelete
  extract_lets ws k
  exact if_pos (by simp only [hw, Bool.true_and, decide_eq_true_eq]; exact hk)

/-! ### Coverage -/

theorem coverage_eq (he : s.en P.DRV = true) (hp : s.tile[k].probing = true) (hl : s.lampKind ≠ 0) :
    coverage k s = let due := (List.range s.tile[k].gnEff).filter fun g => decide (groupSince s.tile[k] g + coverLimit s ≤ s.now) && !s.tile[k].fault.contains g
      if due = [] then s
      else raiseAll (due.map fun _ => ⟨Src.DRV_COVERAGE k, true, false⟩) ((s.setTile k fun x => { x with fault := x.fault ++ due }).irq P.DRV 2) := by
  unfold coverage
  extract_lets x due
  rw [if_neg (by simp only [he, show x.probing = true from hp, beq_eq_false_iff_ne.2 hl]; decide)]

/-- Settles O38: functions that go off or are cleared, the entry that is removed, and the groups that come due. -/
theorem functionsGoOffAndDefectsAreRemoved : Obligations.FunctionsGoOffAndDefectsAreRemoved := by
  intro n i w s table
  have hat : Only [] [] s (s.at n) := (Only.refl _ _ _).at
  refine ⟨?_, fun f hf hacc hw hn => ?_, ?_, fun k he hp hl => ?_⟩
  · intro l hacc hl
    obtain ⟨x, hx⟩ := gateWrite_stored fnKill hacc (by decide) (by decide +kernel)
    have ho : Only [R.DRV_FN_KILL] [] s ((s.at n).busOk.wr R.DRV_FN_KILL x) := gateState_only ..
    have ht : ((s.at n).busOk.wr R.DRV_FN_KILL x).tick16 = s.tickNum % 65536 := rfl
    generalize (s.at n).busOk.wr R.DRV_FN_KILL x = y at hx ho ht
    have hf : ((List.range 32).filter (bitOf w)).filter (fun f => !y.rb R.DRV_FN_OFF f) = l := by
      rw [List.filter_filter]
      exact List.filter_congr fun f _ => by rw [ho.rb (by decide), Bool.and_comm]
    have hlt : ∀ f ∈ l, f < 32 := fun f hf => List.mem_range.1 (List.mem_filter.1 hf).1
    have hnd : l.Nodup := List.nodup_range.filter _
    have hm : ∀ f, f < 32 → (s.rb R.DRV_FN_OFF f || decide (f ∈ l)) = (s.rb R.DRV_FN_OFF f || bitOf w f) := fun f hf => by
      have : f ∈ l ↔ bitOf w f = true ∧ s.rb R.DRV_FN_OFF f = false := by
        simp only [l, List.mem_filter, List.mem_range, Bool.and_eq_true, Bool.not_eq_true', hf, true_and]
      by_cases h : s.rb R.DRV_FN_OFF f = true
      · rw [h, Bool.true_or, Bool.true_or]
      · rw [Bool.not_eq_true] at h
        simp [this, h]
    have hoff := fun f hf => over_fnMark_off (c := 3) hlt hf y (g := f)
    have hstat := fun f hf => over_fnMark_stat (c := 3) (g := f) hlt hnd hf y
    have hov : Only ([R.DRV_FN_KILL, R.DRV_FN_OFF, R.IRQ_STAT P.DRV] ++ l.map fun f => R.DRV_FN_STAT f) [] s (y.over l (fnMark 3)) :=
      State.over_induct_mem (q := Only _ [] s) (ho.mono (by simp) (by simp)) fun z f hf hz =>
        fnMark_only hz (List.mem_append_right _ (List.mem_map_of_mem hf)) (by simp)
    generalize hz : y.over l (fnMark 3) = z at hoff hstat hov
    have hs : ∀ f ∈ l, (z.irq P.DRV 1).rd (R.DRV_FN_STAT f) = offStat 3 (s.tickNum % 65536) (s.rd (R.DRV_FN_STAT f)) := fun f hf => by
      have h1 : R.DRV_FN_STAT f ≠ R.IRQ_STAT P.DRV := by simp only [R.DRV_FN_STAT, R.IRQ_STAT, R.base, P.DRV]; omega
      have h2 : R.DRV_FN_STAT f ∉ [R.DRV_FN_KILL] := by
        have := hlt f hf
        simp only [R.DRV_FN_STAT, R.DRV_FN_KILL, List.mem_singleton]; omega
      rw [State.rd_irq_of_ne h1, hstat f hf, ht, ho.regs _ h2]
    refine ⟨_, next_congr (hx.trans ((fnsOff_some hf hl).trans (by rw [hz]))), fun f hf => ?_, fun f hf => ?_, State.rb_irq_self (by decide), hov.irq (by simp)⟩
    · rw [State.rb_irq_of_ne (by decide), hoff f hf, ho.rb (by decide), hm f hf]
    · obtain ⟨o1, o2, o3, o4⟩ := offStat_spec (c := 3) (by decide) (Nat.mod_lt s.tickNum (by decide : 0 < 65536)) (s.rd (R.DRV_FN_STAT f))
      exact ⟨(congrArg (bitOf · 0) (hs f hf)).trans o1, (congrArg (bitsOf · 3 1) (hs f hf)).trans o2, (congrArg (bitsOf · 31 16) (hs f hf)).trans o3,
        (congrArg (bitsOf · 15 8) (hs f hf)).trans o4⟩
  · obtain ⟨x, hx⟩ := gateWrite_stored fnClear hacc (by decide) (by decide +kernel)
    have ho : Only [R.DRV_FN_CLEAR] [] s ((s.at n).busOk.wr R.DRV_FN_CLEAR x) := gateState_only ..
    generalize (s.at n).busOk.wr R.DRV_FN_CLEAR x = y at hx ho
    have hcnt : y.rf R.DRV_DEF_COUNT 9 0 = s.rf R.DRV_DEF_COUNT 9 0 := ho.rf (by decide)
    have hdef : defects y = defects s := ho.defects (by decide) fun e he => by
      simp only [R.DRV_DEF, R.DRV_FN_CLEAR, List.mem_singleton]; omega
    obtain ⟨c1, c2, c3, c4⟩ := fnClear1_spec hf (hcnt.trans_le hn) rfl
    refine ⟨_, next_congr (hx.trans (fnClear_one hf hw)), fun g hg => (c1 g hg).trans (by rw [ho.rb (by decide)]), c2, by rw [c3, hdef], ?_⟩
    exact (ho.mono (by simp) (by simp)).trans (c4.mono (fun _ h => List.mem_cons_of_mem _ h) (by simp))
  · intro c k hacc hw hk hc
    obtain ⟨x, hx⟩ := gateWrite_stored defDelete hacc (by decide) (by decide +kernel)
    have ho : Only [R.DRV_DEF_CMD] [] s ((s.at n).busOk.wr R.DRV_DEF_CMD x) := gateState_only ..
    generalize (s.at n).busOk.wr R.DRV_DEF_CMD x = y at hx ho
    have hdef : defects y = defects s := ho.defects (by decide) fun e he => by
      simp only [R.DRV_DEF, R.DRV_DEF_CMD, List.mem_singleton]; omega
    have hlen : (defects s).length = c := defects_length
    rw [defDelete_eq hw (by rw [hdef, hlen]; exact hk), hdef, hlen] at hx
    have hl2 : (((defects s).set k ((defects s).getD (c - 1) 0#32)).take (c - 1)).length = c - 1 := by
      rw [List.length_take, List.length_set, hlen]; omega
    obtain ⟨d1, d2, -, d4⟩ := setDefects_spec (s := y) (hl2.trans_le (by omega)) rfl
    refine ⟨_, next_congr hx, d1.trans hl2, ?_, fun e he => ?_, (ho.mono (by simp) (by simp)).trans (d4.mono (fun _ h => List.mem_cons_of_mem _ h) (by simp))⟩
    · rw [d2 _ (by omega), List.getD_eq_default _ _ (by rw [hl2])]
    · rw [d2 _ (by omega), List.getD_eq_getElem _ _ (by rw [hl2]; exact he), List.getElem_take, List.getElem_set]
      by_cases h : e = k
      · rw [if_pos h.symm, if_pos h, defects_getD (by omega)]
      · have hk' : e < (defects s).length := by omega
        rw [if_neg (Ne.symm h), if_neg h, ← defects_getD (e := e) (by omega), List.getD_eq_getElem _ _ hk']
  · intro due
    refine ⟨fun hd => ?_, fun hd => ?_⟩
    · exact ⟨_, next_congr ((coverage_eq (s := s.at n) he hp hl).trans (if_pos hd)), rfl, hat⟩
    · refine ⟨_, next_congr ((coverage_eq (s := s.at n) he hp hl).trans (if_neg hd)), ?_, State.rb_irq_self (by decide), (hat.setTile.mono (by simp) (by simp)).irq (by simp)⟩
      rw [irq_tile, setTile_self]; rfl

end Sys2Proof.Machine
end

section
/-! PROOFS. Fallback replay: loads, their failures and their refresh (R213, R195). -/

namespace Sys2Proof.Machine

variable {l m : List Nat} {s t u z : State} {a n c at_ : Nat} {k j : Fin 4} {f g : TileSt → TileSt} {fill : Bool}

/-! ### Lines that go out -/

/-- The state with its tiles and live statistics replaced. -/
def State.withLines (s : State) (y : Vector TileSt 4) (x : List (Nat × Word)) : State := { s with tile := y, stat := x }

theorem setTile_setTile : (s.setTile k f).setTile k g = s.setTile k fun x => g (f x) := by simp [State.setTile]

theorem setTile_id (h : f s.tile[k] = s.tile[k]) : s.setTile k f = s := by
  have e : s.tile.set k (f s.tile[k]) = s.tile := by rw [h]; simp
  rw [State.setTile, e]

/-- Packets that go out change the link's own account alone. -/
theorem over_sendPacket_eq (k : Fin 4) (at_ : Nat) (pkts : List (List Nat)) : ∀ s : State,
    ∃ o fr c, s.over pkts (sendPacket k at_) = s.setTile k fun x => { x with out := o, free := fr, cols := c } := by
  induction pkts with
  | nil => exact fun s => ⟨s.tile[k].out, s.tile[k].free, s.tile[k].cols, (setTile_id rfl).symm⟩
  | cons p pkts ih =>
    intro s
    obtain ⟨o, fr, c, e⟩ := sendPacket_eq k at_ s p
    obtain ⟨o', fr', c', e'⟩ := ih (s.setTile k fun x => { x with out := o, free := fr, cols := c })
    refine ⟨o', fr', c', ?_⟩
    change (sendPacket k at_ s p).over pkts (sendPacket k at_) = _
    rw [e, e', setTile_setTile]

/-- How far a load has come: what of its codes `l` has gone out with the ceiling applied, what is left, and everything besides as in `s`. -/
structure FbSent (s : State) (k : Fin 4) (c : Nat) (fill : Bool) (l : List Nat) (z : State) : Prop where
  shape : ∃ y x, z = s.withLines y x
  others : ∀ j, j ≠ k → z.tile[j] = s.tile[j]
  only : Only [] [R.SCN_STAT_LINES k] s z
  size : z.tile[k].size = s.tile[k].size
  sending : z.tile[k].sending = true
  marked : z.tile[k].marked = s.tile[k].marked
  copy : z.tile[k].fb.copy = c
  filled : z.tile[k].fb.fill = fill
  data : z.tile[k].fb.data = l.drop (z.tile[k].fb.next * s.lw k)
  sent : z.tile[k].sent = (l.take (z.tile[k].fb.next * s.lw k)).map (min (fbCeil s k))
  ready : z.tile[k].fb.ready = (decide (0 < z.tile[k].fb.next) && (l.drop (z.tile[k].fb.next * s.lw k)).isEmpty)
  line : 0 < z.tile[k].fb.next → z.tile[k].line = z.tile[k].fb.next

theorem FbSent.lw (h : FbSent s k c fill l z) : z.lw k = s.lw k := by rw [State.lw, State.tileSize, h.size, State.lw, State.tileSize]

theorem FbSent.ceil (h : FbSent s k c fill l z) : fbCeil z k = fbCeil s k := by
  obtain ⟨y, x, e⟩ := h.shape
  rw [e]; rfl

theorem FbSent.frame (h : FbSent s k c fill l z) : z.frame = s.frame := by
  obtain ⟨y, x, e⟩ := h.shape
  rw [e]; rfl

/-- The codes of a load's next line. -/
def nextCodes (s : State) (k : Fin 4) (l : List Nat) (n : Nat) : List Nat := ((l.drop (n * s.lw k)).take (s.lw k)).map (min (fbCeil s k))

/-- The packets of a load's next line. -/
def nextPackets (s : State) (k : Fin 4) (fill : Bool) (l : List Nat) (n : Nat) : List (List Nat) :=
  linePackets s.frame n (if fill then 3 else 0) (nextCodes s k l n)

/-- A tile's account after one more line of its load. -/
def lineSent (codes rest : List Nat) (cth : Nat) (x : TileSt) : TileSt :=
  { x with
    sent := x.sent ++ codes, line := x.fb.next + 1, gap := 0,
    fb := { x.fb with next := x.fb.next + 1, data := rest, ready := rest.isEmpty, cth := cth } }

/-- One step of a load: it waits, or its next line goes out. -/
theorem fbSend_succ (h : FbSent s k c fill l z) : fbSend k at_ (n + 1) z =
    if z.tile[k].fb.ready || (l.drop (z.tile[k].fb.next * s.lw k)).isEmpty || s.tile[k].marked then z
    else if pktsOver z k at_ (nextPackets s k fill l z.tile[k].fb.next) then z
    else fbSend k at_ n (((z.over (nextPackets s k fill l z.tile[k].fb.next) (sendPacket k at_)).setTile k
      (lineSent (nextCodes s k l z.tile[k].fb.next) (l.drop ((z.tile[k].fb.next + 1) * s.lw k)) (max z.tile[k].fb.cth (loopCeil z k)))).stAdd (R.SCN_STAT_LINES k) 15 0 1) := by
  have hr : (l.drop (z.tile[k].fb.next * s.lw k)).drop (s.lw k) = l.drop ((z.tile[k].fb.next + 1) * s.lw k) := by
    rw [List.drop_drop, Nat.succ_mul]
  rw [fbSend]
  simp only [h.sending, h.data, h.marked, h.lw, h.ceil, h.frame, h.filled, hr, Bool.not_true, Bool.false_or]
  rfl

/-- A line that goes out takes a load one line further. -/
theorem FbSent.step (h : FbSent s k c fill l z) {pkts : List (List Nat)} {cth : Nat} : FbSent s k c fill l
    (((z.over pkts (sendPacket k at_)).setTile k (lineSent (nextCodes s k l z.tile[k].fb.next) (l.drop ((z.tile[k].fb.next + 1) * s.lw k)) cth)).stAdd
      (R.SCN_STAT_LINES k) 15 0 1) := by
  obtain ⟨o, fr, cl, e⟩ := over_sendPacket_eq k at_ pkts z
  rw [e, setTile_setTile]
  obtain ⟨y, x, hz⟩ := h.shape
  have hk : ∀ {f : TileSt → TileSt}, ((z.setTile k f).stAdd (R.SCN_STAT_LINES k) 15 0 1).tile[k] = f z.tile[k] := fun {f} => by
    rw [State.stAdd, State.stw_tile, setTile_self]
  refine ⟨?_, fun j hj => ?_, h.only.setTile.stAdd (by simp), ?_, ?_, ?_, ?_, ?_, ?_, ?_, ?_, fun _ => ?_⟩
  · rw [hz]; exact ⟨_, _, rfl⟩
  · rw [State.stAdd, State.stw_tile, setTile_of_ne hj, h.others j hj]
  all_goals rw [hk]
  · exact h.size
  · exact h.sending
  · exact h.marked
  · exact h.copy
  · exact h.filled
  · rfl
  · change z.tile[k].sent ++ _ = _
    rw [h.sent, nextCodes, ← List.map_append]
    congr 1
    change _ = List.take ((z.tile[k].fb.next + 1) * s.lw k) l
    rw [Nat.succ_mul, List.take_add]
  · change _ = (decide (0 < z.tile[k].fb.next + 1) && _)
    rw [decide_eq_true (Nat.succ_pos _), Bool.true_and]; rfl
  · rfl

/-- What keeps a load's next line from going out (R195): it would not end in time. -/
def FbWaits (s : State) (k : Fin 4) (fill : Bool) (l : List Nat) (at_ : Nat) (z : State) : Prop :=
  l.drop (z.tile[k].fb.next * s.lw k) ≠ [] → s.tile[k].marked = false → z.tile[k].fb.next < s.lh k →
    pktsOver z k at_ (nextPackets s k fill l z.tile[k].fb.next) = true

theorem fbSend_ends : ∀ (n : Nat) (z : State), FbSent s k c fill l z → s.lh k ≤ z.tile[k].fb.next + n →
    FbSent s k c fill l (fbSend k at_ n z) ∧ FbWaits s k fill l at_ (fbSend k at_ n z)
  | 0, z, h, hn => ⟨h, fun _ _ hlt => absurd hn (Nat.not_le.2 hlt)⟩
  | n + 1, z, h, hn => by
    rw [fbSend_succ h]
    split
    · rename_i hw
      refine ⟨h, fun hd hm _ => absurd hw ?_⟩
      have he : (l.drop (z.tile[k].fb.next * s.lw k)).isEmpty = false := by simpa using hd
      rw [h.ready, he, hm]; simp
    · split
      · rename_i hover
        exact ⟨h, fun _ _ _ => hover⟩
      · have hs := h.step (at_ := at_) (pkts := nextPackets s k fill l z.tile[k].fb.next) (cth := max z.tile[k].fb.cth (loopCeil z k))
        refine fbSend_ends n _ hs ?_
        have hnext : (((z.over (nextPackets s k fill l z.tile[k].fb.next) (sendPacket k at_)).setTile k
            (lineSent (nextCodes s k l z.tile[k].fb.next) (l.drop ((z.tile[k].fb.next + 1) * s.lw k)) (max z.tile[k].fb.cth (loopCeil z k)))).stAdd
              (R.SCN_STAT_LINES k) 15 0 1).tile[k].fb.next = z.tile[k].fb.next + 1 := by
          obtain ⟨o, fr, cl, e⟩ := over_sendPacket_eq k at_ (nextPackets s k fill l z.tile[k].fb.next) z
          rw [e, setTile_setTile, State.stAdd, State.stw_tile, setTile_self]; rfl
        rw [hnext]; omega

/-- A tile's account where the codes of a load stand. -/
def loadStarts (fill : Bool) (codes : List Nat) (x : TileSt) : TileSt :=
  { x with sent := [], fb := { x.fb with next := 0, fill := fill, data := codes } }

theorem loadStarts_sent (hs : s.tile[k].sending = true) (hr : s.tile[k].fb.ready = false) (hc : s.tile[k].fb.copy = c) :
    FbSent s k c fill l (s.setTile k (loadStarts fill l)) := by
  have hk : (s.setTile k (loadStarts fill l)).tile[k] = loadStarts fill l s.tile[k] := setTile_self
  refine ⟨⟨_, s.stat, rfl⟩, fun j hj => setTile_of_ne hj, (Only.refl _ _ s).setTile, ?_, ?_, ?_, ?_, ?_, ?_, ?_, ?_, fun h => ?_⟩ <;> rw [hk] at *
  · rfl
  · exact hs
  · rfl
  · exact hc
  · rfl
  · change l = l.drop (0 * _)
    rw [Nat.zero_mul, List.drop_zero]
  · rw [show (loadStarts fill l s.tile[k]).fb.next = 0 from rfl, Nat.zero_mul]; rfl
  · exact hr
  · exact absurd h (Nat.lt_irrefl 0)

/-- A load whose codes stand sends its lines (R213 steps 2 and 6). -/
theorem fbLoaded_spec (hs : s.tile[k].sending = true) (hr : s.tile[k].fb.ready = false) (hc : s.tile[k].fb.copy = c) :
    FbSent s k c fill l (fbLoaded k fill l s) ∧ FbWaits s k fill l s.now24 (fbLoaded k fill l s) := by
  have h0 := loadStarts_sent (fill := fill) (l := l) hs hr hc
  have hh : (s.setTile k (loadStarts fill l)).lh k = s.lh k := by rw [State.lh, State.tileSize, h0.size, State.lh, State.tileSize]
  have hnow : (s.setTile k (loadStarts fill l)).now24 = s.now24 := rfl
  have e : fbLoaded k fill l s = fbSend k (s.setTile k (loadStarts fill l)).now24 ((s.setTile k (loadStarts fill l)).lh k) (s.setTile k (loadStarts fill l)) := rfl
  rw [e, hh, hnow]
  exact fbSend_ends _ _ h0 (Nat.le_add_left ..)

/-! ### The read of a copy ends -/

/-- Tile `k` has a load whose read is in progress. -/
def Reading (s : State) (k : Fin 4) : Prop :=
  s.frm.kind = 2 ∧ s.tile[k].fb.loading = true ∧ s.tile[k].fb.ready = false ∧ s.tile[k].fb.data = [] ∧ s.tile[k].sending = true

theorem firstUe_clear (h : s.ue = []) : firstUe s a n = none := by rw [firstUe, h]; rfl

theorem bind_firstUe_clear (h : s.ue = []) {p : Option Nat} {g : Nat → Nat} : (p.bind fun a => firstUe s a (g a)) = none := by
  cases p with
  | none => rfl
  | some a => exact firstUe_clear h

theorem fbLoadDone_uniform (h : Reading s k) (hc : s.tile[k].fb.copy = 3) :
    fbLoadDone k s = fbLoaded k true (List.replicate (s.lw k * s.lh k) (s.rf R.SCN_FB_UNIFORM 11 0)) s := by
  obtain ⟨h1, h2, h3, h4, h5⟩ := h
  unfold fbLoadDone
  extract_lets x
  rw [if_neg (by simp only [x, h1, h2, h3, h4, h5]; decide), if_pos hc]

/-- The load goes on with copy `n`. -/
def withCopy (n : Nat) (x : TileSt) : TileSt := { x with fb := { x.fb with copy := n } }

theorem fbLoadDone_copy (h : Reading s k) (hc : s.tile[k].fb.copy ≠ 3) (hu : s.ue = []) : fbLoadDone k s =
    match (fbRecord s k (s.tile[k].fb.copy - 1)).bind (fbCodes s k) with
    | some l => fbLoaded k false l s
    | none => showFb (if s.tile[k].fb.copy = 2 then raise Src.SCN_FB_CORRUPT ((s.setTile k (withCopy (s.tile[k].fb.copy + 1))).irq P.SCN 2)
      else s.setTile k (withCopy (s.tile[k].fb.copy + 1))) := by
  obtain ⟨h1, h2, h3, h4, h5⟩ := h
  unfold fbLoadDone
  extract_lets x place bad y v
  have hb : bad = none := bind_firstUe_clear hu
  have hy : y = s := by simp only [y, hb]
  have hv : v = s.setTile k (withCopy (s.tile[k].fb.copy + 1)) := by
    simp only [v, hy]; rfl
  rw [if_neg (by simp only [x, h1, h2, h3, h4, h5]; decide), if_neg hc, hb, hy]
  simp only [x, place]
  generalize (fbRecord s k (s.tile[k].fb.copy - 1)).bind (fbCodes s k) = o
  cases o
  · simp only [hv]
  · rfl

theorem fbRefresh_due (h1 : s.frm.kind = 2) (h2 : s.tile[k].fb.copy ≠ 0) (h3 : s.tile[k].fb.loading = false) (h4 : s.rf R.SCN_FB_CTRL 7 0 ≠ 0)
    (h5 : s.rf R.SCN_FB_CTRL 7 0 ≤ s.tile[k].fb.frames) : fbRefresh k s = showFb (fbStart k s) := by
  unfold fbRefresh
  extract_lets x n'
  have h5' : n' ≤ x.fb.frames := h5
  refine if_pos ?_
  simp only [h1, h3, bne_iff_ne.2 h2, bne_iff_ne.2 h4, x, n', h5, decide_true]
  decide

theorem fbRefresh_not (h : s.frm.kind ≠ 2 ∨ s.tile[k].fb.copy = 0 ∨ s.tile[k].fb.loading = true ∨ s.rf R.SCN_FB_CTRL 7 0 = 0 ∨
    s.tile[k].fb.frames < s.rf R.SCN_FB_CTRL 7 0) : fbRefresh k s = s := by
  unfold fbRefresh
  extract_lets x n'
  refine if_neg ?_
  simp only [x, n', Bool.and_eq_true, beq_iff_eq, bne_iff_ne, Bool.not_eq_true', decide_eq_true_eq, not_and]
  intro ⟨⟨⟨h1, h2⟩, h3⟩, h4⟩
  obtain h | h | h | h | h := h
  · exact absurd h1 h
  · exact absurd h h2
  · rw [h] at h3; exact absurd h3 nofun
  · exact absurd h h4
  · exact Nat.not_le.2 h

theorem showFb_tile : (showFb s).tile = s.tile := by rw [showFb, State.wb, State.wr_tile, State.wr_tile]

/-- Settles O34: a load that stands, the two copies that fail, and the refresh. -/
theorem fallbackLoadsAndRefreshes : Obligations.FallbackLoadsAndRefreshes := by
  intro n k l s x w mask place reads
  have hat : Only [] [] s (s.at n) := (Only.refl _ _ _).at
  refine ⟨fun hr hu hl => ?_, fun hr hu hc hp => ?_, fun hr hu hc hp => ?_, fun h1 h2 h3 h4 h5 => ?_, fun h => ?_⟩
  · have he : fbLoadDone k (s.at n) = fbLoaded k (decide (x.copy = 3)) l (s.at n) := by
      obtain ⟨hc, e⟩ | ⟨hc, hp⟩ := hl
      · rw [fbLoadDone_uniform (s := s.at n) hr hc, e, decide_eq_true hc]; rfl
      · rw [fbLoadDone_copy (s := s.at n) hr hc hu, decide_eq_false hc]
        have hp' : (fbRecord (s.at n) k ((s.at n).tile[k].fb.copy - 1)).bind (fbCodes (s.at n) k) = some l := hp
        rw [hp']
    obtain ⟨hs, hw⟩ := fbLoaded_spec (s := s.at n) (k := k) (c := x.copy) (fill := decide (x.copy = 3)) (l := l) hr.2.2.2.2 hr.2.2.1 rfl
    have hm : (if decide (x.copy = 3) then 3 else 0) = mask := by simp only [mask, decide_eq_true_eq]
    refine ⟨_, next_congr he, ⟨hs.sent, hs.data, hs.ready, hs.copy, fun hd hk hlt => ?_, hs.line⟩, hs.others, (hat.mono (by simp) (by simp)).trans hs.only⟩
    have := hw hd hk hlt
    rw [nextPackets, hm] at this
    exact this
  · have hp' : (fbRecord (s.at n) k ((s.at n).tile[k].fb.copy - 1)).bind (fbCodes (s.at n) k) = none := hp
    have e := fbLoadDone_copy (s := s.at n) (k := k) hr (by rw [show (s.at n).tile[k].fb.copy = 1 from hc]; decide) hu
    rw [hp', show (s.at n).tile[k].fb.copy = 1 from hc] at e
    refine ⟨_, next_congr e, ?_, fun j hj => ?_, showFb_only (hat.setTile.mono (by simp) (by simp)) (by simp) (by simp)⟩
    · rw [showFb_tile]; exact congrArg TileSt.fb setTile_self
    · rw [showFb_tile]; exact setTile_of_ne hj
  · have hp' : (fbRecord (s.at n) k ((s.at n).tile[k].fb.copy - 1)).bind (fbCodes (s.at n) k) = none := hp
    have e := fbLoadDone_copy (s := s.at n) (k := k) hr (by rw [show (s.at n).tile[k].fb.copy = 2 from hc]; decide) hu
    rw [hp', show (s.at n).tile[k].fb.copy = 2 from hc] at e
    refine ⟨_, next_congr e, ?_, State.rb_irq_self (by decide), (hat.setTile.mono (by simp) (by simp)).irq (by simp)⟩
    rw [irq_tile]; exact congrArg TileSt.fb setTile_self
  · have hk : (showFb (fbStart k (s.at n))).tile[k] = (fbStart k (s.at n)).tile[k] := by rw [showFb_tile]
    have hk' := setTile_self (s := s.at n) (k := k)
      (f := fun x => { x with fb := { x.fb with loading := true, ready := false, copy := 1, cth := loopCeil (s.at n) k, next := 0, fill := false, data := [] } })
    refine ⟨_, next_congr (fbRefresh_due (s := s.at n) h1 h2 h3 h4 h5), ?_, ?_, ?_, ?_, ?_, fun j hj => ?_,
      showFb_only (fbStart_only (hat.mono (by simp) (by simp))) (by simp) (by simp)⟩
    · rw [hk, fbStart, hk']
    · rw [hk, fbStart, hk']
    · rw [hk, fbStart, hk']
    · rw [hk, fbStart, hk']; rfl
    · rw [hk, fbStart, hk']; rfl
    · rw [showFb_tile, fbStart, setTile_of_ne hj]; rfl
  · exact ⟨_, next_congr (fbRefresh_not (s := s.at n) h), rfl, hat⟩

end Sys2Proof.Machine
end

section
/-! PROOFS. The scheduler's table and its due queue (R437, R438, R441, R448). -/

namespace Sys2Proof.Machine

variable {l m : List Nat} {s t u : State} {i : Init} {a b k n : Nat} {w old : Word} {d ws : List Nat}

/-! ### Words in memory -/

/-- Bytes that lie in a stored range read as they were stored. -/
theorem put_ldBytes : ∀ (n : Nat) {k : Nat}, k + n ≤ d.length → (s.put a d).ldBytes (a + k) n = ((d.drop k).take n).map (· % 256)
  | 0, _, _ => by simp [State.ldBytes]
  | n + 1, k, h => by
    have hk : k < d.length := by omega
    rw [State.ldBytes, put_ldN_self hk, Nat.add_assoc, put_ldBytes n (by omega), List.drop_eq_getElem_cons hk, List.take_succ_cons,
      List.map_cons]

theorem ofLE_map_mod : ∀ d : List Nat, ofLE (d.map (· % 256)) = ofLE d
  | [] => rfl
  | b :: d => by rw [List.map_cons, ofLE, ofLE_map_mod d, ofLE, Nat.mod_mod]

/-- The bytes of one of a list of words. -/
theorem flatMap_bytesLE_word : ∀ {ws : List Nat} {k : Nat} (h : k < ws.length),
    ((ws.flatMap (bytesLE 4)).drop (4 * k)).take 4 = bytesLE 4 ws[k]
  | x :: ws, 0, _ => by simp
  | x :: ws, k + 1, h => by
    have hd : 4 * (k + 1) = 4 * k + (bytesLE 4 x).length := by rw [length_bytesLE]; omega
    rw [List.flatMap_cons, hd, Nat.add_comm, List.drop_length_add_append, flatMap_bytesLE_word (by simpa using h), List.getElem_cons_succ]

theorem length_flatMap_bytesLE : (ws.flatMap (bytesLE 4)).length = 4 * ws.length := by
  induction ws with
  | nil => rfl
  | cons x ws ih => rw [List.flatMap_cons, List.length_append, ih, length_bytesLE, List.length_cons]; omega

/-- A stored list of words reads back word by word. -/
theorem put_words_ldLE (h : k < ws.length) (hw : ws[k] < 2 ^ 32) : (s.put a (ws.flatMap (bytesLE 4))).ldLE (a + 4 * k) 4 = ws[k] := by
  rw [State.ldLE, put_ldBytes 4 (by rw [length_flatMap_bytesLE]; omega), ofLE_map_mod, flatMap_bytesLE_word h, ofLE_bytesLE]
  exact Nat.mod_eq_of_lt hw

/-- Words written from an address on: each register has its word, and no other changes. -/
theorem wrWords_only : ∀ {ws : List Nat} {a : Nat} {s : State}, Only ((List.range ws.length).map fun k => a + 4 * k) [] s (s.wrWords a ws)
  | [], _, _ => Only.refl _ _ _
  | w :: ws, a, s => by
    refine Only.trans (t := s.wr a (word w)) ((Only.refl _ _ s).wr (List.mem_map.2 ⟨0, by simp, rfl⟩)) ((wrWords_only (ws := ws) (a := a + 4)).mono ?_ (by simp))
    intro r hr
    obtain ⟨k, hk, rfl⟩ := List.mem_map.1 hr
    exact List.mem_map.2 ⟨k + 1, by simpa using hk, by omega⟩

theorem wrWords_rd (h : k < ws.length) : (s.wrWords a ws).rd (a + 4 * k) = word ws[k] := by
  induction ws generalizing a k s with
  | nil => simp at h
  | cons w ws ih =>
    cases k with
    | zero =>
      have ho : Only _ [] (s.wr a (word w)) ((s.wr a (word w)).wrWords (a + 4) ws) := wrWords_only
      exact (ho.regs a (by simp; omega)).trans (State.rd_wr_self ..)
    | succ k =>
      have := ih (a := a + 4) (k := k) (s := s.wr a (word w)) (by simpa using h)
      rwa [show a + 4 + 4 * k = a + 4 * (k + 1) by omega] at this

/-! ### The table -/

@[simp] theorem put_sched : (s.put a d).sched = s.sched := by rw [put_eq]; rfl

/-- What shows the table's state changes no more than the registers that show it. -/
theorem showSched_only (s : State) : Only [R.SCHED_NEXT_WAKE_LO, R.SCHED_NEXT_WAKE_HI, R.SCHED_COUNT] [] s (showSched s) :=
  (((Only.refl _ _ s).wr (by simp)).wr (by simp)).wr (by simp)

theorem schedResult_only (r : Nat) (s : State) : Only [R.SCHED_CMD_STAT] [] s (schedResult r s) := (Only.refl _ _ s).wr (by simp)

theorem schedResult_rd (r : Nat) : (schedResult r s).rd R.SCHED_CMD_STAT = word r := State.rd_wr_self ..

theorem Only.schedAddr (h : Only l m s t) (hb : R.SCHED_TABLE_BASE ∉ l) : schedAddr t k = schedAddr s k := by rw [Machine.schedAddr, h.regs _ hb, Machine.schedAddr]

theorem Only.schedFits (h : Only l m s t) (hb : R.SCHED_TABLE_BASE ∉ l) : schedFits t = schedFits s := by
  rw [Machine.schedFits, h.schedAddr hb, Machine.schedFits]

theorem Only.schedWord {j : Nat} (h : Only l m s t) (hb : R.SCHED_TABLE_BASE ∉ l) : schedWord t k j = schedWord s k j := by
  rw [Machine.schedWord, ldLE_congr h.mem, h.schedAddr hb, Machine.schedWord]

/-- A staged entry that WRITE refuses (R438). -/
abbrev schedBad (s : State) : Prop := 5 ≤ (s.rd (R.SCHED_E 0)).toNat / 2 % 8 ∨ ((s.rd (R.SCHED_E 0)).toNat / 32 % 4 = 1 ∧ s.rd (R.SCHED_E 3) = 0#32)

theorem schedE_ne (k : Nat) : R.SCHED_E k ≠ R.SCHED_CMD := by simp only [R.SCHED_E, R.SCHED_CMD]; omega

theorem Only.schedBad (h : Only [R.SCHED_CMD] m s t) : schedBad t ↔ schedBad s := by
  simp only [Machine.schedBad, h.regs (R.SCHED_E _) (by simp [schedE_ne])]

/-- Word `k` of the staged entry as WRITE stores it (R437). -/
def stagedWord (s : State) (k : Nat) : Nat :=
  if k = 0 then schedWord0 (s.rd (R.SCHED_E 0)).toNat else if k = 7 then (s.rd (R.SCHED_E 7)).toNat % 2 ^ 18 else (s.rd (R.SCHED_E k)).toNat

theorem Only.stagedWord (h : Only [R.SCHED_CMD] m s t) : stagedWord t k = stagedWord s k := by
  simp only [Machine.stagedWord, h.regs (R.SCHED_E _) (by simp [schedE_ne])]

theorem stagedWord_lt (s : State) (k : Nat) : stagedWord s k < 2 ^ 32 := by
  have h0 := (s.rd (R.SCHED_E 0)).isLt
  have h7 := (s.rd (R.SCHED_E 7)).isLt
  have hk := (s.rd (R.SCHED_E k)).isLt
  simp only [stagedWord, schedWord0]
  split
  · split <;> omega
  · split <;> omega

/-- The words of the staged entry. -/
def schedStaged (s : State) : List Nat := (List.range 8).map (stagedWord s)

theorem length_schedStaged : (schedStaged s).length = 8 := by simp [schedStaged]

theorem schedStaged_get (h : k < (schedStaged s).length) : (schedStaged s)[k] = stagedWord s k := by simp [schedStaged]

/-- What a command that stores `d` into entry `k` leaves: the result OK, the bytes stored, and what shows the table. -/
def schedStored (k : Nat) (d : List Nat) (s : State) : State := showSched (schedResult 0 (s.put (schedAddr s k) d))

theorem schedWrite_bad (h : schedBad s) : schedWrite k s = schedResult 2 s := if_pos h

theorem schedWrite_unfit (h : ¬schedBad s) (hf : schedFits s = false) : schedWrite k s = schedResult 3 s :=
  (if_neg h).trans (if_pos (.inr (by rw [hf]; rfl)))

theorem schedFits_ok (hk : k < 512) (hf : schedFits s = true) : ¬(512 ≤ k ∨ (!schedFits s) = true) := by simp [hf]; omega

theorem schedWrite_ok (h : ¬schedBad s) (hk : k < 512) (hf : schedFits s = true) :
    schedWrite k s = schedStored k ((schedStaged s).flatMap (bytesLE 4)) s := (if_neg h).trans (if_neg (schedFits_ok hk hf))

theorem schedDelete_ok (hk : k < 512) (hf : schedFits s = true) :
    schedDelete k s = schedStored k [s.ldN (schedAddr s k) / 2 * 2] s := if_neg (schedFits_ok hk hf)

theorem schedRead_ok (hk : k < 512) (hf : schedFits s = true) :
    schedRead k s = schedResult 0 (s.wrWords (R.SCHED_E 0) ((List.range 8).map (schedWord s k))) := if_neg (schedFits_ok hk hf)

theorem schedStored_rest : Only [R.SCHED_CMD_STAT, R.SCHED_NEXT_WAKE_LO, R.SCHED_NEXT_WAKE_HI, R.SCHED_COUNT] []
    (s.put (schedAddr s k) d) (schedStored k d s) :=
  ((schedResult_only ..).mono (by simp) (by simp)).trans ((showSched_only _).mono (by simp) (by simp))

theorem schedStored_ld : (schedStored k d s).ld b = (s.put (schedAddr s k) d).ld b := schedStored_rest.mem b

theorem schedStored_stat : (schedStored k d s).rd R.SCHED_CMD_STAT = 0#32 :=
  ((showSched_only _).regs _ (by decide)).trans (schedResult_rd 0)

theorem schedStored_rd (h : b ∉ [R.SCHED_CMD_STAT, R.SCHED_NEXT_WAKE_LO, R.SCHED_NEXT_WAKE_HI, R.SCHED_COUNT]) : (schedStored k d s).rd b = s.rd b :=
  (schedStored_rest.regs b h).trans put_rd

theorem schedStored_sched : (schedStored k d s).sched = s.sched := put_sched

theorem schedStored_word {j : Nat} : schedWord (schedStored k d s) k j = (s.put (schedAddr s k) d).ldLE (schedAddr s k + 4 * j) 4 := by
  have ha : schedAddr (schedStored k d s) k = schedAddr s k := by rw [schedAddr, schedStored_rd (by decide), schedAddr]
  rw [schedWord, ldLE_congr fun b => schedStored_ld, ha]

/-- WRITE leaves each word of the entry as it is staged. -/
theorem schedStored_staged {j : Nat} (h : j < 8) : schedWord (schedStored k ((schedStaged s).flatMap (bytesLE 4)) s) k j = stagedWord s j := by
  have hj : j < (schedStaged s).length := by rw [length_schedStaged]; exact h
  rw [schedStored_word, put_words_ldLE hj (by rw [schedStaged_get]; exact stagedWord_lt ..), schedStaged_get]

/-- DELETE clears bit 0 of the entry's first word and leaves the others. -/
theorem schedStored_deleted : schedWord (schedStored k [s.ldN (schedAddr s k) / 2 * 2] s) k 0 = schedWord s k 0 / 2 * 2 := by
  have hb : s.ldN (schedAddr s k) < 256 := (s.ld (schedAddr s k)).isLt
  have h0 := put_ldN_self (s := s) (a := schedAddr s k) (d := [s.ldN (schedAddr s k) / 2 * 2]) (k := 0) (by simp)
  have hr : ∀ b, schedAddr s k + 1 ≤ b → (s.put (schedAddr s k) [s.ldN (schedAddr s k) / 2 * 2]).ldN b = s.ldN b :=
    fun b hb => congrArg _ (put_ld_of_ne (.inr hb))
  rw [schedStored_word, schedWord]
  simp only [State.ldLE, State.ldBytes, ofLE, Nat.mul_zero, Nat.add_zero] at h0 ⊢
  rw [h0, hr _ (by omega), hr _ (by omega), hr _ (by omega)]
  simp only [List.getElem_cons_zero]
  omega

/-! ### The command register -/

theorem schedCmd_word {op : Nat} (hk : k < 512) (ho : op < 8) :
    bitsOf (word (k * 65536 + op)) 2 0 = op ∧ bitsOf (word (k * 65536 + op)) 24 16 = k := by
  have hw : (word (k * 65536 + op)).toNat = k * 65536 + op := by rw [word, BitVec.toNat_ofNat]; omega
  simp only [bitsOf, hw]
  constructor <;> omega

theorem schedCmd_write (hk : k < 512) : schedCmd old (word (k * 65536 + 1)) s = schedWrite k s := by
  obtain ⟨h1, h2⟩ := schedCmd_word (op := 1) hk (by decide)
  rw [schedCmd, h1, h2]; rfl

theorem schedCmd_delete (hk : k < 512) : schedCmd old (word (k * 65536 + 2)) s = schedDelete k s := by
  obtain ⟨h1, h2⟩ := schedCmd_word (op := 2) hk (by decide)
  rw [schedCmd, h1, h2]; rfl

theorem schedCmd_read (hk : k < 512) : schedCmd old (word (k * 65536 + 3)) s = schedRead k s := by
  obtain ⟨h1, h2⟩ := schedCmd_word (op := 3) hk (by decide)
  rw [schedCmd, h1, h2]; rfl

/-- An accepted write of SCHED_CMD carries its command out on a state that differs in that register alone. -/
theorem gateWrite_sched (h : s.accepts n i R.SCHED_CMD w) :
    ∃ t, Only [R.SCHED_CMD] [] s t ∧ t.sched = s.sched ∧ gateWrite i R.SCHED_CMD w schedCmd (s.at n) = schedCmd (s.rd R.SCHED_CMD) w t := by
  obtain ⟨v, hv⟩ := gateWrite_stored schedCmd h (by decide) (by decide +kernel)
  exact ⟨_, gateState_only .., rfl, hv⟩

/-! ### The due queue -/

/-- The word in which SCHED_DUE answers an occurrence (R448). -/
def dueWord (e : DueEntry) : Word := word (2 ^ 31 + e.result * 2 ^ 29 + e.action * 2 ^ 26 + e.idx * 65536 + e.tick % 65536)

/-- The state in which the oldest occurrence `e` has left the due queue. -/
def duePopped (e : DueEntry) (q : List DueEntry) (s : State) : State :=
  let s := (s.setSched fun x => { x with due := q }).wf R.SCHED_DUE_STAT 5 0 q.length
  let s := s.wr R.SCHED_DUE (dueWord e)
  (s.wr R.SCHED_DUE_ARG_LO (word e.arg)).wr R.SCHED_DUE_ARG_HI (word (e.arg / 2 ^ 32))

theorem schedDue_cons {e : DueEntry} {q : List DueEntry} (h : s.sched.due = e :: q) : schedDue s = duePopped e q s := by
  rw [schedDue, h]; rfl

theorem schedDue_nil (h : s.sched.due = []) : schedDue s = s.wr R.SCHED_DUE 0#32 := by rw [schedDue, h]

/-- A read of SCHED_DUE answers what the queue's pop leaves in it. -/
theorem regRead_due (h : s.answers P.SCHED = true) (hd : (schedDue s).answers P.SCHED = true) :
    regRead i R.SCHED_DUE s = (schedDue s).busData ((schedDue s).readReg R.SCHED_DUE) := by
  have hp : s.answers (pageOf R.SCHED_DUE) = true := h
  rw [regRead, if_pos hp, show readFirst R.SCHED_DUE s = schedDue s from rfl, gateRead, show (schedDue s).answers (pageOf R.SCHED_DUE) = true from hd]
  rfl

theorem readReg_due : s.readReg R.SCHED_DUE = s.rd R.SCHED_DUE := by
  have hm : maskOf RegDef.rws R.SCHED_DUE = 0#32 := by decide +kernel
  rw [State.readReg, hm, if_neg (by decide), BitVec.and_zero, BitVec.or_zero, BitVec.not_zero, BitVec.and_allOnes]

theorem duePopped_only {e : DueEntry} {q : List DueEntry} :
    Only [R.SCHED_DUE, R.SCHED_DUE_STAT, R.SCHED_DUE_ARG_LO, R.SCHED_DUE_ARG_HI] [] s (duePopped e q s) :=
  (((((Only.refl _ _ s).record).wf (by simp)).wr (by simp)).wr (by simp)).wr (by simp)

theorem duePopped_sched {e : DueEntry} {q : List DueEntry} : (duePopped e q s).sched.due = q := rfl

theorem duePopped_flt {e : DueEntry} {q : List DueEntry} : (duePopped e q s).flt = s.flt := by
  rw [duePopped, State.wr_flt, State.wr_flt, State.wr_flt, State.wf, State.wr_flt, State.setSched]

theorem duePopped_now {e : DueEntry} {q : List DueEntry} : (duePopped e q s).now = s.now := by
  rw [duePopped, State.wr_now, State.wr_now, State.wr_now, State.wf, State.wr_now, State.setSched]

theorem duePopped_answers {e : DueEntry} {q : List DueEntry} {p : Nat} : (duePopped e q s).answers p = s.answers p := by
  have hr : (duePopped e q s).rd R.PWR_DOMAIN_STAT = s.rd R.PWR_DOMAIN_STAT := duePopped_only.regs _ (by decide)
  exact answers_congr hr duePopped_flt duePopped_now p

theorem duePopped_due {e : DueEntry} {q : List DueEntry} : (duePopped e q s).rd R.SCHED_DUE =
    dueWord e := by
  rw [duePopped, State.rd_wr_of_ne _ (by decide), State.rd_wr_of_ne _ (by decide), State.rd_wr_self]

theorem duePopped_count {e : DueEntry} {q : List DueEntry} (h : q.length < 64) : (duePopped e q s).rf R.SCHED_DUE_STAT 5 0 = q.length := by
  rw [duePopped, State.rf, State.rd_wr_of_ne _ (by decide), State.rd_wr_of_ne _ (by decide), State.rd_wr_of_ne _ (by decide), ← State.rf,
    State.rf_wf_self (by decide) (by decide)]
  exact Nat.mod_eq_of_lt h

theorem duePopped_argLo {e : DueEntry} {q : List DueEntry} : (duePopped e q s).rd R.SCHED_DUE_ARG_LO = word e.arg := by
  rw [duePopped, State.rd_wr_of_ne _ (by decide), State.rd_wr_self]

theorem duePopped_argHi {e : DueEntry} {q : List DueEntry} : (duePopped e q s).rd R.SCHED_DUE_ARG_HI = word (e.arg / 2 ^ 32) := State.rd_wr_self ..

/-- The fields of the word that SCHED_DUE answers (R448). -/
theorem dueWord_fields {e : DueEntry} (hi : e.idx < 512) (ha : e.action < 8) (hr : e.result < 4) {v : Word}
    (hv : v = dueWord e) :
    bitOf v 31 = true ∧ bitsOf v 30 29 = e.result ∧ bitsOf v 28 26 = e.action ∧ bitsOf v 24 16 = e.idx ∧ bitsOf v 15 0 = e.tick % 65536 := by
  have hw : v.toNat = 2 ^ 31 + e.result * 2 ^ 29 + e.action * 2 ^ 26 + e.idx * 65536 + e.tick % 65536 := by
    rw [hv, dueWord, word, BitVec.toNat_ofNat]; omega
  have hb : v.getLsbD 31 = true := by
    rw [BitVec.getLsbD, Nat.testBit_eq_decide_div_mod_eq, hw, decide_eq_true_eq]; omega
  simp only [bitsOf, hw]
  refine ⟨hb, ?_, ?_, ?_, ?_⟩ <;> omega

/-! ### The obligation -/

/-- A read of SCHED_DUE with an occurrence `e` at the queue's front. -/
theorem regRead_due_cons {e : DueEntry} {q : List DueEntry} (hans : s.answers P.SCHED = true) (hq : s.sched.due = e :: q) :
    regRead i R.SCHED_DUE s = (duePopped e q s).busData ((duePopped e q s).rd R.SCHED_DUE) := by
  have hd := schedDue_cons hq
  rw [regRead_due hans (by rw [hd, duePopped_answers]; exact hans), hd, readReg_due]

theorem regRead_due_spec {e : DueEntry} {q : List DueEntry} (hans : s.answers P.SCHED = true) (hq : s.sched.due = e :: q) (hl : q.length < 64) :
    ∃ v x, regRead i R.SCHED_DUE s = x.busData v ∧ v = dueWord e ∧ x.sched.due = q ∧ x.rf R.SCHED_DUE_STAT 5 0 = q.length ∧
      x.rd R.SCHED_DUE_ARG_LO = word e.arg ∧ x.rd R.SCHED_DUE_ARG_HI = word (e.arg / 2 ^ 32) ∧
      Only [R.SCHED_DUE, R.SCHED_DUE_STAT, R.SCHED_DUE_ARG_LO, R.SCHED_DUE_ARG_HI] [] s x :=
  ⟨_, _, regRead_due_cons hans hq, duePopped_due, duePopped_sched, duePopped_count hl, duePopped_argLo, duePopped_argHi, duePopped_only⟩

theorem regRead_due_nil (hans : s.answers P.SCHED = true) (hq : s.sched.due = []) :
    regRead i R.SCHED_DUE s = (s.wr R.SCHED_DUE 0#32).busData 0#32 := by
  have hd := schedDue_nil hq
  have hr : (s.wr R.SCHED_DUE 0#32).rd R.PWR_DOMAIN_STAT = s.rd R.PWR_DOMAIN_STAT := State.rd_wr_of_ne _ (by decide) _
  rw [regRead_due hans (by rw [hd, answers_congr hr (State.wr_flt ..) (State.wr_now ..)]; exact hans), hd, readReg_due, State.rd_wr_self]

/-- The registers that a command of the table may change. -/
theorem schedStored_kept {x : State} (ho : Only [R.SCHED_CMD] [] s t) (hs : t.sched = s.sched) (hx : x = schedStored k d t) :
    (∀ b, b < schedAddr s k ∨ schedAddr s k + d.length ≤ b → x.ld b = s.ld b) ∧
    (∀ r, r ∉ [R.SCHED_CMD, R.SCHED_CMD_STAT, R.SCHED_NEXT_WAKE_LO, R.SCHED_NEXT_WAKE_HI, R.SCHED_COUNT] → x.rd r = s.rd r) ∧ x.sched = s.sched := by
  subst hx
  have ha := ho.schedAddr (k := k) (by decide)
  refine ⟨fun b hb => ?_, fun r hr => ?_, schedStored_sched.trans hs⟩
  · rw [schedStored_ld, put_ld_of_ne (by rw [ha]; exact hb), ho.mem]
  · rw [List.mem_cons, not_or] at hr
    rw [schedStored_rd hr.2, ho.regs r (by simpa using hr.1)]

/-- Settles O50: each command by the branch it takes, and a read of SCHED_DUE by whether the queue holds an occurrence. -/
theorem schedulerTableAndDueQueue : Obligations.SchedulerTableAndDueQueue := by
  intro n i idx s a w0 bad shown kept
  have hk := idx.isLt
  refine ⟨fun hacc => ?_, fun hacc hf => ?_, fun hacc hf => ?_, fun hans => ⟨fun e q hq hi ha hr hl => ?_, fun hq => ?_⟩⟩
  · obtain ⟨t, ho, hs, hv⟩ := gateWrite_sched hacc
    rw [schedCmd_write hk] at hv
    have hbad : schedBad t ↔ bad := ho.schedBad
    have hfit := ho.schedFits (by decide)
    have hres : ∀ r, Only [R.SCHED_CMD, R.SCHED_CMD_STAT] [] s (schedResult r t) := fun r =>
      (ho.mono (by simp) (by simp)).trans ((schedResult_only r t).mono (by simp) (by simp))
    refine ⟨fun hb => ?_, fun hb hf => ?_, fun hb hf => ?_⟩
    · exact ⟨_, next_congr (hv.trans (schedWrite_bad (hbad.2 hb))), schedResult_rd 2, hres 2⟩
    · exact ⟨_, next_congr (hv.trans (schedWrite_unfit (fun h => hb (hbad.1 h)) (hfit.trans hf))), schedResult_rd 3, hres 3⟩
    · rw [schedWrite_ok (fun h => hb (hbad.1 h)) hk (hfit.trans hf)] at hv
      have hw0 := (s.rd (R.SCHED_E 0)).isLt
      refine ⟨_, next_congr hv, schedStored_stat, ?_, fun k h1 h7 => ?_, ?_, ?_⟩
      · rw [schedStored_staged (by decide), ho.stagedWord, stagedWord, if_pos rfl, schedWord0, Nat.mod_eq_of_lt (by omega : _ / 65536 < 65536)]
      · rw [schedStored_staged (by omega), ho.stagedWord, stagedWord, if_neg (by omega), if_neg (by omega)]
      · rw [schedStored_staged (by decide), ho.stagedWord, stagedWord, if_neg (by decide), if_pos rfl]
      · have := schedStored_kept ho hs rfl (k := idx) (d := (schedStaged t).flatMap (bytesLE 4))
        rwa [length_flatMap_bytesLE, length_schedStaged] at this
  · obtain ⟨t, ho, hs, hv⟩ := gateWrite_sched hacc
    rw [schedCmd_delete hk, schedDelete_ok hk ((ho.schedFits (by decide)).trans hf)] at hv
    have hw : schedWord t idx 0 = schedWord s idx 0 := ho.schedWord (by decide)
    have hkept := schedStored_kept ho hs rfl (k := idx) (d := [t.ldN (schedAddr t idx) / 2 * 2])
    rw [List.length_singleton] at hkept
    refine ⟨_, next_congr hv, schedStored_stat, ?_, ?_, hkept⟩
    · rw [schedValid, schedStored_deleted]
      simp
    · rw [schedStored_deleted, hw]; omega
  · obtain ⟨t, ho, hs, hv⟩ := gateWrite_sched hacc
    rw [schedCmd_read hk, schedRead_ok hk ((ho.schedFits (by decide)).trans hf)] at hv
    have hx : Only ((List.range 8).map fun k => R.SCHED_E k) [] t (t.wrWords (R.SCHED_E 0) ((List.range 8).map (schedWord t idx))) :=
      (wrWords_only (ws := (List.range 8).map (schedWord t idx))).mono (by simp [R.SCHED_E]) (by simp)
    refine ⟨_, next_congr hv, schedResult_rd 0, fun k hk8 => ?_, ?_⟩
    · have he : R.SCHED_E k = R.SCHED_E 0 + 4 * k := by simp only [R.SCHED_E]
      have hne : R.SCHED_E k ∉ [R.SCHED_CMD_STAT] := by simp only [R.SCHED_E, R.SCHED_CMD_STAT, List.mem_singleton]; omega
      rw [(schedResult_only ..).regs _ hne, he, wrWords_rd (by simpa using hk8), List.getElem_map, List.getElem_range, ho.schedWord (by decide)]
    · exact ((ho.mono (by simp) (by simp)).trans (hx.mono (fun _ h => List.mem_cons_of_mem _ (List.mem_cons_of_mem _ h)) (by simp))).trans
        ((schedResult_only ..).mono (by simp) (by simp))
  · obtain ⟨v, x, hv, hw, hs, hc, hlo, hhi, ho⟩ := regRead_due_spec (i := i) (s := s.at n) hans hq hl
    obtain ⟨f1, f2, f3, f4, f5⟩ := dueWord_fields hi ha hr hw
    exact ⟨x.busData v, next_congr hv, hs, hc, f1, f2, f3, f4, f5, hlo, hhi, ((Only.refl _ _ s).at.trans ho).busData⟩
  · have ho : Only [R.SCHED_DUE] [] (s.at n) ((s.at n).wr R.SCHED_DUE 0#32) := (Only.refl _ _ _).wr (by simp)
    exact ⟨_, next_congr (regRead_due_nil (s := s.at n) hans hq), rfl, rfl, ((Only.refl _ _ s).at.trans ho).busData⟩

end Sys2Proof.Machine
end

section
/-! PROOFS. A refutation of what is stated about the host's mailbox: the summaries of a grant wrap the audit log (R477, R485, R487). -/

namespace Sys2Proof.Machine

/-- A host grant with READ whose right for the host page is CONTENT's, with seven summaries of an earlier minute; the audit log wraps with the seventh record
and AUDIT_WRAP is configured at level 5. -/
def sevenSums : State :=
  let s := ((((State.reset.wr (R.CTRL P.HOST) 1#32).wr R.SEC_HOST_GRANT 0x101#32).wr (R.SEC_PAGE_RIGHT (P.HOST / 4)) 3#32).wr R.SEC_AUDIT_SEQ 0xfffb#32).wr
    (R.FLT_SRC_CFG Src.AUDIT_WRAP) 0x2d#32
  { s with sec := { s.sec with hostModes := 0xff, hostSums := List.replicate 7 (3, 99999, 1) } }

theorem sevenSums_restarts : ∃ u, exec (.hostWrite32 0 (word (R.HOST_MBOX 0)) 5#32) sevenSums = .next u ∧ u.rf R.HOST_LAST 10 8 = 0 := ⟨_, rfl, by decide +kernel⟩

/-- Refutes O59: a write of a mailbox word under a grant writes the grant's summaries, and the chip reset that the wrap of the audit log calls for leaves the
frame without its status. -/
theorem not_hostAccessNeedsTheGrant : ¬ Obligations.HostAccessNeedsTheGrant := by
  unfold Obligations.HostAccessNeedsTheGrant
  intro h
  obtain ⟨-, -, -, -, hmbox, -⟩ := h 0 (word (R.HOST_MBOX 0)) 5#32 sevenSums (by decide +kernel)
  obtain ⟨u, hu, -, hlast, -⟩ := hmbox 0 (by decide) (by decide +kernel) (by decide +kernel) (by decide +kernel) (by decide +kernel) (by decide +kernel)
  obtain ⟨v, hv, hnone⟩ := sevenSums_restarts
  rw [hv] at hu
  cases hu
  exact absurd (hnone.symm.trans hlast) (by decide)

end Sys2Proof.Machine
end

section
/-! PROOFS. The ports, the switch, the ring, peer delay and the wake beacon (R397 to R415, R435, R446, R447). -/

namespace Sys2Proof.Machine

variable {l m : List Nat} {s t u : State} {i : Init} {p q : Fin 3} {a n ts : Nat} {w old : Word} {f : PortSt → PortSt} {e : Egress} {fr : NetFrame}

/-! ### The network's state outside the registers -/

theorem setNet_only {g : NetSt → NetSt} (h : Only l m s t) : Only l m s (t.setNet g) := h.record
theorem setPort_only (h : Only l m s t) : Only l m s (t.setPort p f) := h.record

@[simp] theorem setNet_net {g : NetSt → NetSt} : (s.setNet g).net = g s.net := rfl
@[simp] theorem setNet_rd {g : NetSt → NetSt} : (s.setNet g).rd a = s.rd a := rfl
@[simp] theorem setPort_rd : (s.setPort p f).rd a = s.rd a := rfl
@[simp] theorem setPort_rf {hi lo : Nat} : (s.setPort p f).rf a hi lo = s.rf a hi lo := rfl
@[simp] theorem setPort_rb : (s.setPort p f).rb a n = s.rb a n := rfl
@[simp] theorem setPort_st : (s.setPort p f).st a = s.st a := rfl
@[simp] theorem setPort_self : (s.setPort p f).net.port[p] = f s.net.port[p] := by simp [State.setPort, State.setNet]

theorem setPort_of_ne (h : q ≠ p) : (s.setPort p f).net.port[q] = s.net.port[q] := by
  have h' : p.val ≠ q.val := fun e => h (Fin.ext e.symm)
  simp [State.setPort, State.setNet, h']

theorem setPort_id (h : f s.net.port[p] = s.net.port[p]) : s.setPort p f = s := by
  have e : s.net.port.set p (f s.net.port[p]) = s.net.port := by rw [h]; simp
  rw [State.setPort, State.setNet, e]

theorem setPort_congr {g : PortSt → PortSt} (h : f s.net.port[p] = g s.net.port[p]) : s.setPort p f = s.setPort p g := by
  rw [State.setPort, State.setPort, State.setNet, State.setNet, h]

theorem enqueue_only (h : Only l m s t) : Only l m s (enqueue p e t) := setPort_only h

theorem enqueue_port : (enqueue p e s).net.port[p] =
    { s.net.port[p] with q := s.net.port[p].q.set (queueOf e.frame) (s.net.port[p].q[queueOf e.frame] ++ [e]) } := by
  rw [enqueue, setPort_self]

theorem enqueue_q : (enqueue p e s).net.port[p].q[queueOf e.frame] = s.net.port[p].q[queueOf e.frame] ++ [e] := by
  rw [enqueue, setPort_self]; simp

theorem enqueue_of_ne (h : q ≠ p) : (enqueue p e s).net.port[q] = s.net.port[q] := setPort_of_ne h

theorem irq_net {b k : Nat} : (s.irq b k).net = s.net := by simp only [State.irq, State.event, State.wb, State.wr_net, State.note_net]

/-! ### A frame arrives -/

theorem portRx_off (h : portUp s p = false) : portRx p fr s = s := by rw [portRx, h]; rfl

/-- A frame that is damaged or too long is counted, and dropped. -/
theorem portRx_bad (hup : portUp s p = true) (h : fr.good = false ∨ 1522 < fr.len) : portRx p fr s = s.stAdd (R.STAT (portPage p) 0) 31 16 1 := by
  have hc : (!fr.good || decide (1522 < fr.len)) = true := by rcases h with h | h <;> simp [h]
  rw [portRx, hup, hc]; rfl

theorem storm_single (h : isGroup fr.dst = false) : storm p fr s = (false, s) := by simp [storm, h]

theorem learn_off {mac : Nat} (h : s.rb R.SW_CFG 16 = false) : learn p mac s = s := by simp [learn, h]

theorem announceRx_other (h : ∀ a b c, fr.kind ≠ .ptpAnnounce a b c) : announceRx p fr s = s := by
  rw [announceRx]
  split
  · exact absurd ‹_› (h _ _ _)
  · rfl

/-- The state in which a good frame at port `p` has been counted. -/
def rxCounted (p : Fin 3) (s : State) : State := s.stAdd (R.STAT (portPage p) 0) 15 0 1

theorem rxCounted_only (s : State) : Only [] [R.STAT (portPage p) 0] s (rxCounted p s) := (Only.refl _ _ s).stAdd (by simp)

@[simp] theorem rxCounted_net : (rxCounted p s).net = s.net := rfl

/-- A good frame to one address, at a port outside the ring and with learning off, is forwarded or delivered. -/
theorem portRx_good (hup : portUp s p = true) (hg : fr.good = true) (hlen : fr.len ≤ 1522) (hd : isGroup fr.dst = false) (hl : s.rb R.SW_CFG 16 = false)
    (hr : ringPort s p = false) (hp : isPdelay fr = false) (ha : ∀ a b c, fr.kind ≠ .ptpAnnounce a b c) :
    portRx p fr s = forward p (s.ntNs s.now - s.rf (R.PORT_LAT p) 15 0) fr (rxCounted p s) := by
  have hc : (!fr.good || decide (1522 < fr.len)) = false := by simp [hg, hlen]
  have hr' : ringPort (rxCounted p s) p = false := hr
  have hl' : (rxCounted p s).rb R.SW_CFG 16 = false := hl
  unfold portRx
  extract_lets s1 ts d s2
  have hs : s2 = rxCounted p s := congrArg Prod.snd (storm_single hd)
  have h1 : d.1 = false := congrArg Prod.fst (storm_single hd)
  rw [hs, hup, hc, h1, hr', hp, learn_off hl', announceRx_other ha]
  rfl

/-- The ports that a frame from port `p` is sent to. -/
theorem forward_own (h : destination s fr = some 3) : forward p ts fr s = deliverNet p ts fr s := by
  have hout : ((List.finRange 3).filter fun (q : Fin 3) => q != p && passes s fr q &&
      (match destination s fr with | none => true | some d => d == q.val)) = [] := by
    refine List.filter_eq_nil_iff.2 fun q _ => ?_
    have hq : ((3 : Nat) == q.val) = false := by simpa using (show 3 ≠ q.val by omega)
    rw [h]; simp [hq]
  unfold forward
  extract_lets e out s1 s2
  have ho : out = [] := hout
  have h2 : s2 = s := by simp only [s2, s1, ho]; rfl
  rw [h2, h]; rfl

theorem filter_finRange_eq {k : Nat} {b : Fin k → Bool} {d : Fin k} (hd : b d = true) (hn : ∀ q, q ≠ d → b q = false) : (List.finRange k).filter b = [d] := by
  have he : b = fun q => q == d := by
    funext q
    by_cases h : q = d
    · subst h; simp [hd]
    · simp [hn q h, h]
  rw [he, List.filter_beq]
  simp

theorem forward_learned {d : Fin 3} (h : destination s fr = some d.val) (hne : d ≠ p) (hf : forwarding s d = true) :
    forward p ts fr s = (enqueue d ⟨fr, some (p.val, ts), none⟩ s).stAdd (R.STAT P.SWITCH 0) 31 0 1 := by
  have hout : ((List.finRange 3).filter fun (q : Fin 3) => q != p && passes s fr q &&
      (match destination s fr with | none => true | some d => d == q.val)) = [d] := by
    refine filter_finRange_eq ?_ fun q hq => ?_
    · rw [h]; simp [hne, passes, hf]
    · have hq' : (d.val == q.val) = false := by simpa using fun e => hq (Fin.ext e.symm)
      rw [h]; simp [hq']
  unfold forward
  extract_lets e out s1 s2
  have ho : out = [d] := hout
  have h2 : s2 = (enqueue d ⟨fr, some (p.val, ts), none⟩ s).stAdd (R.STAT P.SWITCH 0) 31 0 1 := by simp only [s2, s1, ho]; rfl
  have hdest : destination s2 fr = some d.val := by rw [h2]; exact h
  rw [hdest, h2]
  exact if_neg (by omega)

theorem destination_own (hg : isGroup fr.dst = false) (h : fr.dst = ownMac s) : destination s fr = some 3 := by
  rw [destination, hg, if_neg (by simp), if_pos h]

theorem destination_learned {x : Nat × Nat × Nat} (hg : isGroup fr.dst = false) (h : fr.dst ≠ ownMac s) (hx : s.net.fdb.find? (fun e => e.1 == fr.dst) = some x) :
    destination s fr = some x.2.1 := by
  rw [destination, hg, if_neg (by simp), if_neg h, hx]; rfl

/-! ### A frame departs -/

theorem again_filter_nil {x : PortSt} {g : Nat × Bool → Bool} (h : x.again = []) : { x with again := x.again.filter g } = x := by
  cases x; simp_all

theorem linkAgain_none (h : s.net.port[p].again = []) : linkAgain p s = s := by
  unfold linkAgain
  extract_lets due s1
  have hd : due = [] := by rw [show due = s.net.port[p].again.filter _ from rfl, h]; rfl
  have h1 : s1 = s := by simp only [s1, hd]; rfl
  rw [h1]
  exact setPort_id (again_filter_nil h)

/-- From a port that forwards, the first frame of a queue departs. -/
theorem departs_forwarding (h : forwarding s p = true) {k : Fin 4} : departs s p k = s.net.port[p].q[k].head? := by
  have hp : ∀ x : NetFrame, passes s x p = true := fun x => by rw [passes, h]; rfl
  rw [departs]
  cases hq : s.net.port[p].q[k] with
  | nil => rfl
  | cons x y => rw [List.find?_cons, hp]; rfl

/-- The highest queue that holds a frame. -/
theorem highest_queue {b : Fin 4 → Bool} {k : Fin 4} (hk : b k = true) (hn : ∀ j, k < j → b j = false) : [(3 : Fin 4), 2, 1, 0].find? b = some k := by
  simp only [List.find?_cons]
  match k, hk, hn with
  | 3, hk, _ => simp [hk]
  | 2, hk, hn => simp [hn 3 (by decide), hk]
  | 1, hk, hn => simp [hn 3 (by decide), hn 2 (by decide), hk]
  | 0, hk, hn => simp [hn 3 (by decide), hn 2 (by decide), hn 1 (by decide), hk]

/-- The state in which the first frame `e` of queue `k` has departed, `r` being the rest of the queue. -/
def departed (p : Fin 3) (k : Fin 4) (e : Egress) (r : List Egress) (s : State) : State :=
  let x := (s.setPort p fun x => { x with q := x.q.set k r, sent := some (corrected p e s) }).stAdd (R.STAT (portPage p) 1) 31 0 1
  if (modified (departure p s) e s).isSome then x.stAdd (R.STAT (portPage p) 3) 31 16 1 else x

theorem departed_only {k : Fin 4} {r : List Egress} : Only [] [R.STAT (portPage p) 1, R.STAT (portPage p) 3] s (departed p k e r s) := by
  have h1 : Only [] [R.STAT (portPage p) 1, R.STAT (portPage p) 3] s ((s.setPort p fun x => { x with q := x.q.set k r, sent := some (corrected p e s) }).stAdd
      (R.STAT (portPage p) 1) 31 0 1) := (setPort_only (.refl _ _ _)).stAdd (by simp)
  rw [departed]
  split
  · exact h1.stAdd (by simp)
  · exact h1

theorem portTx_first {k : Fin 4} {r : List Egress} (hup : portUp s p = true) (hq : s.net.port[p].q[k] = e :: r)
    (hn : ∀ j : Fin 4, k < j → s.net.port[p].q[j] = []) (hf : forwarding s p = true) (ha : s.net.port[p].again = []) :
    portTx p none s = match e.tag with
      | some tag => tsqPush tag p (departure p s) (departed p k e r s)
      | none => departed p k e r s := by
  have hk : departs s p k = some e := by rw [departs_forwarding hf, hq]; rfl
  have hfind : ([(3 : Fin 4), 2, 1, 0].find? fun k => (departs s p k).isSome) = some k :=
    highest_queue (by rw [hk]; rfl) fun j hj => by rw [departs_forwarding hf, hn j hj]; rfl
  have herase : s.net.port[p].q[k].erase e = r := by rw [hq, List.erase_cons_head]
  unfold portTx
  extract_lets s1 s2
  rw [show s1 = s from rfl, hup]
  have h2 : s2 = s := linkAgain_none ha
  rw [h2, hfind]
  simp only [hk]
  have hset : (s.setPort p fun x => { x with q := x.q.set k (x.q[k].erase e), sent := some (corrected p e s) }) =
      s.setPort p fun x => { x with q := x.q.set k r, sent := some (corrected p e s) } := setPort_congr (by rw [herase])
  rw [hset, if_neg (by decide)]
  generalize hy : (s.setPort p fun x => { x with q := x.q.set k r, sent := some (corrected p e s) }).stAdd (R.STAT (portPage p) 1) 31 0 1 = y
  have hdep : departure p y = departure p s := by rw [← hy]; rfl
  have hmod : modified (departure p s) e y = modified (departure p s) e s := by rw [← hy]; rfl
  have hd : departed p k e r s = if (modified (departure p s) e s).isSome then y.stAdd (R.STAT (portPage p) 3) 31 16 1 else y := by rw [← hy]; rfl
  have hlast : departure p (departed p k e r s) = departure p s := by rw [hd, ← hdep]; split <;> rfl
  rw [hdep, hmod, ← hd]
  cases e.tag with
  | none => rfl
  | some tag => exact congrArg (fun z => tsqPush tag p z (departed p k e r s)) hlast

theorem departed_q {k : Fin 4} {r : List Egress} : (departed p k e r s).net.port[p].q[k] = r ∧ (departed p k e r s).net.port[p].sent = some (corrected p e s) := by
  have hn : (departed p k e r s).net = (s.setPort p fun x => { x with q := x.q.set k r, sent := some (corrected p e s) }).net := by
    rw [departed]; split <;> rfl
  rw [hn, setPort_self]
  simp

/-- The frame that departs, as the spec gives it (R412). -/
theorem corrected_eq {tx : Nat} (htx : departure p s = tx) : corrected p e s =
    if e.frame.domain ≠ s.net.domain then e.frame else match e.frame.kind, e.from_ with
      | .ptpSync, some (q, rx) => remade { e.frame with corr := e.frame.corr + ((tx - rx : Nat) : Int) * 2 ^ 16 +
          ((s.rd (R.PORT_MLD q)).toNat * 2 ^ 8 : Nat) + sw (s.rd (R.PORT_ASYM q)) * 2 ^ 8 }
      | .ptpSync, none => remade { e.frame with origin := tx }
      | .ptpResp, some (_, rx) => remade { e.frame with corr := e.frame.corr + ((tx - rx : Nat) : Int) * 2 ^ 16 }
      | _, _ => e.frame := by
  subst htx
  rw [corrected, modified]
  split
  · rfl
  · obtain ⟨⟨dst, src, len, good, pcp, kind, domain, corr, origin, udp⟩, from_, tag⟩ := e
    cases kind <;> cases from_ <;> rfl

/-! ### Addresses and the ring -/

theorem showFdb_only (h : Only l m s t) (ha : R.SW_FDB_CNT ∈ l) : Only l m s (showFdb t) := h.wr ha
theorem showFdb_rd : (showFdb s).rd R.SW_FDB_CNT = word s.net.fdb.length := State.rd_wr_self ..
@[simp] theorem showFdb_net : (showFdb s).net = s.net := State.wr_net ..

theorem mrp_ne : R.PORT_MRP_STAT p ≠ R.IRQ_STAT P.SWITCH := by simp only [R.PORT_MRP_STAT, R.IRQ_STAT, R.base, P.SWITCH]; omega

/-- A ring port forwards from now on. -/
theorem setMrp_spec (h : mrpState s p = 1) :
    (setMrp p 2 s).rf (R.PORT_MRP_STAT p) 1 0 = 2 ∧ (setMrp p 2 s).rb (R.IRQ_STAT P.SWITCH) 2 = true ∧
      Only [R.PORT_MRP_STAT p, R.IRQ_STAT P.SWITCH] [] s (setMrp p 2 s) := by
  rw [setMrp, if_neg (by omega)]
  refine ⟨?_, State.rb_irq_self (by decide), ((Only.refl _ _ s).wf (by simp)).irq (by simp)⟩
  rw [State.rf_irq_of_ne mrp_ne, State.rf_wf_self (by decide) (by decide)]
  rfl

/-! ### The link -/

/-- PORT_LINK of a link that is up (R446). -/
def linkWord (p : Fin 3) (speed : Fin 4) (amp master : Bool) (sqi : Fin 8) (s : State) : Word :=
  word (1 + 2 * linkSpeed s p speed + 8 * bit (linkForced s p amp master).1 + 16 * bit (linkForced s p amp master).2 + 256 * sqi.val)

theorem linkSpeed_lt (speed : Fin 4) : linkSpeed s p speed < 4 := by
  unfold linkSpeed; extract_lets m; split_ifs <;> omega

theorem linkWord_fields {k : Nat} {a m : Bool} {q : Fin 8} (hk : k < 4) {v : Word} (hv : v = word (1 + 2 * k + 8 * bit a + 16 * bit m + 256 * q.val)) :
    bitOf v 0 = true ∧ bitsOf v 2 1 = k ∧ bitOf v 3 = a ∧ bitOf v 4 = m ∧ bitsOf v 10 8 = q.val := by
  have ha : bit a < 2 := by cases a <;> decide
  have hm : bit m < 2 := by cases m <;> decide
  have hw : v.toNat = 1 + 2 * k + 8 * bit a + 16 * bit m + 256 * q.val := by
    rw [hv, word, BitVec.toNat_ofNat]; omega
  simp only [bitOf, bitsOf, hw, Nat.testBit_eq_decide_div_mod_eq]
  refine ⟨?_, ?_, ?_, ?_, ?_⟩
  · rw [decide_eq_true_eq]; omega
  · omega
  · have : (1 + 2 * k + 8 * bit a + 16 * bit m + 256 * q.val) / 2 ^ 3 % 2 = bit a := by omega
    rw [this]; cases a <;> rfl
  · have : (1 + 2 * k + 8 * bit a + 16 * bit m + 256 * q.val) / 2 ^ 4 % 2 = bit m := by omega
    rw [this]; cases m <;> rfl
  · omega

theorem link_ne : R.PORT_LINK p ≠ R.IRQ_STAT (P.PORT p) ∧ R.SW_MRP_CFG ≠ R.PORT_LINK p ∧ R.SW_MRP_CFG ≠ R.IRQ_STAT (P.PORT p) ∧
    ∀ q < 2, R.PORT_CFG q ≠ R.PORT_LINK p ∧ R.PORT_CFG q ≠ R.IRQ_STAT (P.PORT p) := by
  simp only [R.PORT_LINK, R.IRQ_STAT, R.base, P.PORT, R.SW_MRP_CFG, R.PORT_CFG]
  refine ⟨by omega, by omega, by omega, fun q hq => ⟨by omega, by omega⟩⟩

theorem Only.ringPort (h : Only [R.PORT_LINK p, R.IRQ_STAT (P.PORT p)] m s t) : ringPort t p = ringPort s p := by
  obtain ⟨-, h1, h2, h3⟩ := link_ne (p := p)
  have hc : ∀ q < 2, t.rb (R.PORT_CFG q) 8 = s.rb (R.PORT_CFG q) 8 := fun q hq => h.rb (by simp [(h3 q hq).1, (h3 q hq).2])
  rw [Machine.ringPort, h.rb (by simp [h1, h2]), hc 0 (by decide), hc 1 (by decide), Machine.ringPort]

/-- The state in which the link of port `p` has come up with PORT_LINK `v`. -/
def linkedUp (p : Fin 3) (v : Word) (s : State) : State :=
  (((s.wr (R.PORT_LINK p) v).irq (portPage p) 0).setNet fun n => { n with
      upAt := if (List.finRange 3).any fun q => q != p && portUp (s.wr (R.PORT_LINK p) v) q then n.upAt else some s.now }).setPort p
    fun y => { y with upAt := s.now, lost := 0 }

/-- The state in which the link of port `p` has gone down. -/
def linkedDown (p : Fin 3) (s : State) : State :=
  ((s.wr (R.PORT_LINK p) 0#32).irq (portPage p) 1).setPort p fun y => { y with upAt := s.now, lost := 0 }

theorem linkedUp_only {v : Word} : Only [R.PORT_LINK p, R.IRQ_STAT (P.PORT p)] [] s (linkedUp p v s) :=
  setPort_only (setNet_only (((Only.refl [R.PORT_LINK p, R.IRQ_STAT (P.PORT p)] [] s).wr (by simp)).irq (by simp)))

theorem linkedDown_only : Only [R.PORT_LINK p, R.IRQ_STAT (P.PORT p)] [] s (linkedDown p s) :=
  setPort_only (((Only.refl [R.PORT_LINK p, R.IRQ_STAT (P.PORT p)] [] s).wr (by simp)).irq (by simp))

theorem linkedUp_link {v : Word} : (linkedUp p v s).rd (R.PORT_LINK p) = v := by
  rw [linkedUp, setPort_rd, setNet_rd, State.rd_irq_of_ne link_ne.1, State.rd_wr_self]

theorem linkedUp_irq {v : Word} : (linkedUp p v s).rb (R.IRQ_STAT (P.PORT p)) 0 = true := by
  rw [linkedUp, setPort_rb, State.rb, setNet_rd, ← State.rb, State.rb_irq_self (by decide)]

theorem linkedUp_at {v : Word} : (linkedUp p v s).net.port[p].upAt = s.now := by rw [linkedUp, setPort_self]

theorem linkedDown_link : (linkedDown p s).rd (R.PORT_LINK p) = 0#32 := by
  rw [linkedDown, setPort_rd, State.rd_irq_of_ne link_ne.1, State.rd_wr_self]

theorem linkedDown_irq : (linkedDown p s).rb (R.IRQ_STAT (P.PORT p)) 1 = true := by rw [linkedDown, setPort_rb, State.rb_irq_self (by decide)]

section
variable {speed : Fin 4} {amp master : Bool} {sqi : Fin 8} (hp : s.pageOn (P.PORT p) = true) (hr : ringPort s p = false)
include hp hr

theorem portLink_up (he : s.en (P.PORT p) = true) (hl : s.rb (R.PORT_LINK p) 0 = false) :
    portLink p true speed amp master sqi s = linkedUp p (linkWord p speed amp master sqi s) s := by
  unfold portLink
  extract_lets was fm v s1 s2 s3 s4
  have h3 : s3 = linkedUp p (linkWord p speed amp master sqi s) s := by
    simp only [s3, s2, s1, v, fm, if_true]; rfl
  have hr3 : ringPort s3 p = false := by rw [h3, linkedUp_only.ringPort]; exact hr
  have h4 : s4 = linkedUp p (linkWord p speed amp master sqi s) s := by simp only [s4, hr3]; exact h3
  rw [hp, he, if_neg (by decide), if_neg (by simp [was, hl]), h4]
  rfl

theorem portLink_down (hl : s.rb (R.PORT_LINK p) 0 = true) :
    portLink p false speed amp master sqi s = raise (Src.PORT_LINK_DOWN p) (linkedDown p s) := by
  unfold portLink
  extract_lets was fm v s1 s2 s3 s4
  have h3 : s3 = linkedDown p s := by
    simp only [s3, s2, s1, v]; rfl
  have hr3 : ringPort s3 p = false := by rw [h3, linkedDown_only.ringPort]; exact hr
  have h4 : s4 = linkedDown p s := by simp only [s4, hr3]; exact h3
  rw [hp, if_neg (by simp), if_neg (by simp [was, hl]), h4]
  rfl

end

/-! ### Peer delay -/

/-- The state in which port `p` has sent its Pdelay_Req. -/
def pdelaySent (p : Fin 3) (s : State) : State := enqueue p ⟨pdelayFrame s .ptpPdelay, none, none⟩ (s.setPort p fun x => { x with reqAt := some s.now })

theorem pdelaySent_only : Only [] [] s (pdelaySent p s) := enqueue_only (setPort_only (.refl _ _ _))

theorem pdelaySent_port : (pdelaySent p s).net.port[p] =
    { s.net.port[p] with reqAt := some s.now, q := s.net.port[p].q.set 3 (s.net.port[p].q[3] ++ [⟨pdelayFrame s .ptpPdelay, none, none⟩]) } := by
  rw [pdelaySent, enqueue_port, setPort_self]
  rfl

/-- The state in which the exchange at port `p` is counted as a loss, the `n`-th in a row, or for a valid one as `none`. -/
def pdelaySeen (p : Fin 3) (n : Option Nat) (s : State) : State :=
  (pdelaySent p s).setPort p fun x => match n with
    | none => { x with lost := 0, sample := true }
    | some n => { x with lost := n }

theorem pdelaySeen_only {n : Option Nat} : Only [] [] s (pdelaySeen p n s) := setPort_only pdelaySent_only

theorem pdelaySeen_taken : (pdelaySeen p none s).net.port[p] = { (pdelaySent p s).net.port[p] with lost := 0, sample := true } := by rw [pdelaySeen, setPort_self]

theorem pdelaySeen_lost : (pdelaySeen p (some n) s).net.port[p].lost = n := by rw [pdelaySeen, setPort_self]

/-- The state after a valid peer-delay exchange that leaves the mean link delay `v`. -/
def pdelayTaken (p : Fin 3) (v : Int) (s : State) : State :=
  (((pdelaySeen p none s).wr (R.PORT_MLD p) (word (satU 32 v))).wf (R.PORT_PD_STAT p) 1 0 1).stAdd (R.STAT (portPage p) 3) 15 0 1

/-- The state after a peer-delay exchange without a response, the `n`-th in a row. -/
def pdelayLost (p : Fin 3) (n : Nat) (s : State) : State :=
  (pdelaySeen p (some n) s).wf (R.PORT_PD_STAT p) 31 16 (satAdd 16 (s.rf (R.PORT_PD_STAT p) 31 16) 1)

theorem pd_ne : R.PORT_MLD p ≠ R.PORT_PD_STAT p ∧ R.PORT_PD_STAT p ≠ R.IRQ_STAT (P.PORT p) ∧ R.PORT_MLD p ≠ R.IRQ_STAT (P.PORT p) := by
  simp only [R.PORT_MLD, R.PORT_PD_STAT, R.IRQ_STAT, R.base, P.PORT]; omega

theorem pdelayTaken_spec (v : Int) : (pdelayTaken p v s).rd (R.PORT_MLD p) = word (satU 32 v) ∧ (pdelayTaken p v s).rf (R.PORT_PD_STAT p) 1 0 = 1 ∧
    (pdelayTaken p v s).net.port[p] = { (pdelaySent p s).net.port[p] with lost := 0, sample := true } ∧
    Only [R.PORT_MLD p, R.PORT_PD_STAT p] [R.STAT (P.PORT p) 3] s (pdelayTaken p v s) := by
  have ho : Only [R.PORT_MLD p, R.PORT_PD_STAT p] [R.STAT (P.PORT p) 3] s (pdelaySeen p none s) := pdelaySeen_only.mono (by simp) (by simp)
  have hn := pdelaySeen_taken (p := p) (s := s)
  rw [pdelayTaken]
  generalize pdelaySeen p none s = y at ho hn
  refine ⟨?_, ?_, hn, ((ho.wr (by simp)).wf (by simp)).stAdd (by simp)⟩
  · exact (State.rd_wr_of_ne _ pd_ne.1 _).trans (State.rd_wr_self ..)
  · have hf : ((y.wr (R.PORT_MLD p) (word (satU 32 v))).wf (R.PORT_PD_STAT p) 1 0 1).rf (R.PORT_PD_STAT p) 1 0 = 1 := by
      rw [State.rf_wf_self (by decide) (by decide)]; rfl
    exact hf

theorem pdelayLost_spec : (pdelayLost p n s).rf (R.PORT_PD_STAT p) 31 16 = min 65535 (s.rf (R.PORT_PD_STAT p) 31 16 + 1) ∧
    (pdelayLost p n s).net.port[p].lost = n ∧ Only [R.PORT_PD_STAT p] [] s (pdelayLost p n s) := by
  have ho : Only [R.PORT_PD_STAT p] [] s (pdelaySeen p (some n) s) := pdelaySeen_only.mono (by simp) (by simp)
  have hn := pdelaySeen_lost (p := p) (s := s) (n := n)
  rw [pdelayLost]
  generalize pdelaySeen p (some n) s = y at ho hn
  refine ⟨?_, hn, ho.wf (by simp)⟩
  rw [State.rf_wf_self (by decide) (by decide), satAdd, maxU]
  omega

section
variable (hup : portUp s p = true) (hc : s.rb (R.PORT_CFG p) 12 = true) (hn : s.net.port[p].reqAt = none)
include hup hc hn

theorem pdelay_taken (d : Nat) : pdelay p (some d) s = pdelayTaken p (if s.net.port[p].sample then ((s.rd (R.PORT_MLD p)).toNat : Int) +
    rnd (min 8 (s.rf (R.PORT_PD_CFG p) 11 8)) ((d : Int) - (s.rd (R.PORT_MLD p)).toNat) else d) s := by
  have hs : (pdelaySent p s).net.port[p].sample = s.net.port[p].sample := by rw [pdelaySent_port]
  rw [← hs]
  unfold pdelay
  rw [hup, hc, hn]
  rfl

theorem pdelay_lost : pdelay p none s =
    if s.net.port[p].lost + 1 = 3 then raise (Src.PD_FAIL p) (((pdelayLost p (s.net.port[p].lost + 1) s).wf (R.PORT_PD_STAT p) 1 0 2).irq (portPage p) 2)
    else pdelayLost p (s.net.port[p].lost + 1) s := by
  have hs : (pdelaySent p s).net.port[p].lost = s.net.port[p].lost := by rw [pdelaySent_port]
  rw [← hs]
  unfold pdelay
  rw [hup, hc, hn]
  rfl

end

/-! ### The wake beacon -/

theorem wakeBeacon_eq {h : BeaconHead} {time : Nat} {tag : List Nat} : wakeBeacon h time tag s =
    if s.pageOn P.NET = true ∧ s.rb R.NET_WAKE_CFG 0 = true ∧ isBeacon h s = true ∧ (h.group = 0xFFFF ∨ h.group = s.rf R.NET_WAKE_CFG 31 16) ∧
      time ≤ s.ttNs s.now + 2000000000 ∧ s.ttNs s.now ≤ time + 2000000000 ∧ s.net.beacon < time ∧ beaconTag h time tag s = true
    then wake 2 ((s.setNet fun n => { n with beacon := time }).irq P.NET 2) else s := by
  unfold wakeBeacon
  extract_lets tt near ours
  refine if_congr ?_ rfl rfl
  simp only [near, ours, tt, Bool.and_eq_true, Bool.or_eq_true, decide_eq_true_eq, beq_iff_eq]
  tauto

/-- Settles O49: each rule of the ports, the switch, the ring, peer delay and the beacon by the equation of its case. -/
theorem portsAndSwitchHandleFrames : Obligations.PortsAndSwitchHandleFrames := by
  intro n p s now pg ts
  have hat : Only [] [] s (s.at n) := (Only.refl _ _ _).at
  refine ⟨fun f h => ?_, fun f h hb => ?_, fun f h hg hl hd hlearn hr hpd ha => ⟨fun hown => ?_, fun d e hown hfind he hne hfwd => ?_⟩,
    fun k e r h hq hn hfwd hag => ?_, fun mac => ?_, fun i w hacc hw => ?_, fun x hx hle => ?_, fun hr hm => ⟨fun hle => ?_, fun hlt => ?_⟩,
    fun speed amp master sqi hp hr => ⟨fun he hl => ?_, fun hl => ?_⟩, fun h hc hreq => ⟨fun d hd hs => ?_, fun d hs => ?_, fun hne => ?_, fun heq => ?_⟩,
    fun h time tag => ?_⟩
  · exact ⟨_, next_congr (portRx_off (s := s.at n) h), rfl, hat⟩
  · exact ⟨_, next_congr (portRx_bad (s := s.at n) h hb), rfl, (bitsOf_stAdd (by decide) (by decide)).trans (Nat.min_comm ..),
      (hat.mono (by simp) (by simp)).stAdd (by simp [pg])⟩
  · have ho : Only [] [R.STAT pg 0] s (rxCounted p (s.at n)) := (hat.mono (by simp) (by simp)).trans (rxCounted_only _)
    have hv := portRx_good (s := s.at n) h hg hl hd hlearn hr hpd ha
    rw [forward_own (destination_own (s := rxCounted p (s.at n)) hd hown)] at hv
    exact ⟨_, next_congr hv, rfl, setNet_only ho⟩
  · have ho : Only [] [R.STAT pg 0, R.STAT P.SWITCH 0] s (rxCounted p (s.at n)) :=
      (hat.mono (by simp) (by simp)).trans ((rxCounted_only _).mono (by simp) (by simp [pg]))
    have hdest : destination (rxCounted p (s.at n)) f = some d.val := (destination_learned (s := rxCounted p (s.at n)) hd hown hfind).trans (by rw [he])
    have hv := portRx_good (s := s.at n) h hg hl hd hlearn hr hpd ha
    rw [forward_learned hdest hne hfwd] at hv
    exact ⟨_, next_congr hv, enqueue_q, fun x hx => enqueue_of_ne hx, rfl, (enqueue_only ho).stAdd (by simp)⟩
  · intro tx
    have hv := portTx_first (s := s.at n) h hq hn hfwd hag
    have hs := departed_q (s := s.at n) (p := p) (k := k) (e := e) (r := r)
    refine ⟨_, (next_congr hv).trans ?_, hs.1, hs.2.trans (congrArg some (corrected_eq (s := s.at n) rfl)), (hat.mono (by simp) (by simp)).trans departed_only⟩
    cases e.tag <;> rfl
  · exact ⟨_, rfl, rfl, showFdb_rd, showFdb_only (setNet_only (hat.mono (by simp) (by simp))) (by simp)⟩
  · obtain ⟨v, hv⟩ := gateWrite_stored swFlush hacc (by decide) (by decide +kernel)
    have ho : Only [R.SW_FLUSH] [] s ((s.at n).busOk.wr R.SW_FLUSH v) := gateState_only ..
    rw [swFlush, if_neg hw] at hv
    exact ⟨_, next_congr hv, rfl, showFdb_rd, showFdb_only ((setNet_only (ho.mono (by simp) (by simp))).stAdd (by simp)) (by simp)⟩
  · have hv : mrpFlush (s.at n) = showFdb (((s.at n).setNet fun y => { y with fdb := [], flushAt := none }).stAdd (R.STAT P.SWITCH 1) 31 16 1) := by
      rw [mrpFlush, show (s.at n).net.flushAt = some x from hx]
      exact if_pos hle
    exact ⟨_, next_congr hv, rfl, showFdb_only ((setNet_only (hat.mono (by simp) (by simp))).stAdd (by simp)) (by simp)⟩
  · have hv : mrpTimeout p (s.at n) = setMrp p 2 (s.at n) := if_pos (by
      rw [show ringPort (s.at n) p = true from hr, show mrpState (s.at n) p = 1 from hm,
        decide_eq_true (p := (s.at n).net.port[p].upAt + 80000000 ≤ (s.at n).now) hle]; rfl)
    obtain ⟨m1, m2, m3⟩ := setMrp_spec (s := s.at n) (p := p) hm
    exact ⟨_, next_congr hv, m1, m2, (hat.mono (by simp) (by simp)).trans m3⟩
  · have hv : mrpTimeout p (s.at n) = s.at n := if_neg (by
      rw [decide_eq_false (p := (s.at n).net.port[p].upAt + 80000000 ≤ (s.at n).now) (Nat.not_le.2 hlt), Bool.and_false]; decide)
    exact ⟨_, next_congr hv, hat⟩
  · obtain ⟨w1, w2, w3, w4, w5⟩ := linkWord_fields (v := linkWord p speed amp master sqi (s.at n)) (linkSpeed_lt (s := s.at n) (p := p) speed) rfl
    have hv := portLink_up (s := s.at n) (speed := speed) (amp := amp) (master := master) (sqi := sqi) hp hr he hl
    have hk := linkedUp_link (s := s.at n) (p := p) (v := linkWord p speed amp master sqi (s.at n))
    have hirq := linkedUp_irq (s := s.at n) (p := p) (v := linkWord p speed amp master sqi (s.at n))
    have hup := linkedUp_at (s := s.at n) (p := p) (v := linkWord p speed amp master sqi (s.at n))
    have ho := linkedUp_only (s := s.at n) (p := p) (v := linkWord p speed amp master sqi (s.at n))
    generalize linkedUp p (linkWord p speed amp master sqi (s.at n)) (s.at n) = y at hv hk hirq hup ho
    refine ⟨y, next_congr (congrArg startProgress hv), (congrArg (bitOf · 0) hk).trans w1, fun hlt => ⟨?_, fun hm => ?_, fun hm => ?_⟩, fun h2 hm => ?_,
      (congrArg (bitsOf · 10 8) hk).trans w5, hirq, hup, hat.mono (by simp) (by simp) |>.trans ho⟩
    · rw [State.rf, hk, w2, linkSpeed, if_pos (by omega)]
    · rw [State.rb, hk, w3, linkForced, if_neg (by omega), show (s.at n).rf (R.PORT_CFG p) 2 1 = 0 from hm]; rfl
    · rw [State.rb, hk, w4, linkForced, if_neg (by omega), show (s.at n).rf (R.PORT_CFG p) 4 3 = 0 from hm]; rfl
    · rw [State.rf, hk, w2, linkSpeed, if_neg (by omega), show (s.at n).rf (R.PORT_CFG p) 2 1 = 0 from hm]; rfl
  · have hv := portLink_down (s := s.at n) (speed := speed) (amp := amp) (master := master) (sqi := sqi) hp hr hl
    exact ⟨_, next_congr (congrArg startProgress hv), linkedDown_link, linkedDown_irq, (hat.mono (by simp) (by simp)).trans linkedDown_only⟩
  · have hv := pdelay_taken (s := s.at n) h hc hreq d
    rw [show (s.at n).net.port[p].sample = false from hs, if_neg (by decide)] at hv
    obtain ⟨d1, d2, d3, d4⟩ := pdelayTaken_spec (s := s.at n) (p := p) (d : Int)
    rw [pdelaySent_port] at d3
    refine ⟨_, next_congr hv, ?_, d2, ?_, ?_, (hat.mono (by simp) (by simp)).trans d4⟩
    · rw [d1, word, BitVec.toNat_ofNat, satU, if_neg (by omega), maxU, Int.toNat_natCast]; omega
    · rw [d3]; rfl
    · rw [d3]; simp; rfl
  · have hv := pdelay_taken (s := s.at n) h hc hreq d
    rw [show (s.at n).net.port[p].sample = true from hs, if_pos rfl] at hv
    obtain ⟨d1, d2, d3, d4⟩ := pdelayTaken_spec (s := s.at n) (p := p) (((s.at n).rd (R.PORT_MLD p)).toNat +
      rnd (min 8 ((s.at n).rf (R.PORT_PD_CFG p) 11 8)) ((d : Int) - ((s.at n).rd (R.PORT_MLD p)).toNat))
    rw [pdelaySent_port] at d3
    refine ⟨_, next_congr hv, ?_, d2, ?_, (hat.mono (by simp) (by simp)).trans d4⟩
    · rw [d1, word, BitVec.toNat_ofNat]
      exact Nat.mod_eq_of_lt (by rw [satU, maxU]; split <;> omega)
    · rw [d3]; rfl
  · have hv := pdelay_lost (s := s.at n) h hc hreq
    rw [if_neg (by intro e; exact hne (Nat.succ.inj e))] at hv
    obtain ⟨d1, d2, d3⟩ := pdelayLost_spec (s := s.at n) (p := p) (n := (s.at n).net.port[p].lost + 1)
    exact ⟨_, next_congr hv, d2, d1, hat.mono (by simp) (by simp) |>.trans d3⟩
  · have hv := pdelay_lost (s := s.at n) h hc hreq
    rw [if_pos (by rw [show (s.at n).net.port[p].lost = 2 from heq])] at hv
    obtain ⟨-, -, d3⟩ := pdelayLost_spec (s := s.at n) (p := p) (n := (s.at n).net.port[p].lost + 1)
    generalize pdelayLost p ((s.at n).net.port[p].lost + 1) (s.at n) = y at hv d3
    have ho : Only [R.PORT_PD_STAT p] [] s y := (hat.mono (by simp) (by simp)).trans d3
    refine ⟨_, next_congr hv, ?_, State.rb_irq_self (by decide), ?_, ((ho.mono (by simp) (by simp)).wf (by simp)).irq (by simp [pg])⟩
    · rw [State.rf_irq_of_ne pd_ne.2.1, State.rf_wf_self (by decide) (by decide)]; rfl
    · rw [State.rd_irq_of_ne pd_ne.2.2, State.rd_wf_of_ne pd_ne.1, ho.regs _ (by simpa using pd_ne.1)]
  · intro tt ok
    have hv := wakeBeacon_eq (s := s.at n) (h := h) (time := time) (tag := nums tag)
    refine ⟨fun hok => ?_, fun hno => ?_⟩
    · exact ⟨_, next_congr (hv.trans (if_pos hok)), congrArg NetSt.beacon irq_net, State.rb_irq_self (by decide), (setNet_only (hat.mono (by simp) (by simp))).irq (by simp)⟩
    · exact ⟨_, next_congr (hv.trans (if_neg hno)), rfl, hat⟩

end Sys2Proof.Machine
end

section
/-! PROOFS. What the audit log's records leave as it is (R482 to R487). -/

namespace Sys2Proof.Machine

variable {s t u : State} {a n actor channel event : Nat} {w : Word} {tid h l : List Nat}

/-! ### What recording changes -/

/-- The state with its registers, its journal, the number of the next transaction and the audit queue replaced. -/
def State.withAudit (s : State) (r : List (Nat × Word)) (j : NvmSt) (x : Nat) (q : List AuditRec) : State :=
  { s with regs := r, nvm := j, nv := { s.nv with txn := x }, sec := { s.sec with audit := q } }

/-- From `s` to `u` no register outside the pages of the audit log and of the memory controller changes, and beside registers nothing but the journal's
transactions and the audit queue. -/
structure Audited (s u : State) : Prop where
  regs : ∀ a, pageOf a ≠ P.SEC4 → pageOf a ≠ P.NVM → u.rd a = s.rd a
  rest : u = s.withAudit u.regs u.nvm u.nv.txn u.sec.audit

theorem Audited.refl (s : State) : Audited s s := ⟨fun _ _ _ => rfl, rfl⟩

theorem Audited.trans (h : Audited s t) (g : Audited t u) : Audited s u :=
  ⟨fun a h1 h2 => (g.regs a h1 h2).trans (h.regs a h1 h2), 
    g.rest.trans ((congrArg (fun x => State.withAudit x u.regs u.nvm u.nv.txn u.sec.audit) h.rest).trans rfl)⟩

/-- What does not depend on what recording changes is as it was. -/
theorem Audited.of {α : Type} (h : Audited s u) (f : State → α) (hf : ∀ r j x q, f (s.withAudit r j x q) = f s) : f u = f s :=
  (congrArg f h.rest).trans (hf _ _ _ _)

theorem Audited.mem (h : Audited s u) : u.ld a = s.ld a := h.of (·.ld a) fun _ _ _ _ => rfl
theorem Audited.stats (h : Audited s u) : u.st a = s.st a := h.of (·.st a) fun _ _ _ _ => rfl
theorem Audited.shadow (h : Audited s u) : u.sh a = s.sh a := h.of (·.sh a) fun _ _ _ _ => rfl
theorem Audited.pending (h : Audited s u) : u.pending = s.pending := h.of (·.pending) fun _ _ _ _ => rfl
theorem Audited.now (h : Audited s u) : u.now = s.now := h.of (·.now) fun _ _ _ _ => rfl
theorem Audited.otp (h : Audited s u) : u.nv.otp = s.nv.otp := h.of (·.nv.otp) fun _ _ _ _ => rfl
theorem Audited.keys (h : Audited s u) : u.sec.keys = s.sec.keys := h.of (·.sec.keys) fun _ _ _ _ => rfl
theorem Audited.draws (h : Audited s u) : u.sec.draws = s.sec.draws := h.of (·.sec.draws) fun _ _ _ _ => rfl

theorem Audited.wr (h : Audited s t) (ha : pageOf a = P.SEC4 ∨ pageOf a = P.NVM) : Audited s (t.wr a w) :=
  h.trans ⟨fun b h1 h2 => State.rd_wr_of_ne t (by rintro rfl; exact ha.elim h1 h2) w, rfl⟩

theorem Audited.wf {hi lo v : Nat} (h : Audited s t) (ha : pageOf a = P.SEC4 ∨ pageOf a = P.NVM) : Audited s (t.wf a hi lo v) := h.wr ha

theorem Audited.wrWords (h : Audited s t) (hl : ∀ k < l.length, pageOf (a + 4 * k) = P.SEC4) : Audited s (t.wrWords a l) := by
  induction l generalizing a t with
  | nil => exact h
  | cons w l ih =>
    refine ih (h.wr (.inl (by simpa using hl 0 (by simp)))) fun k hk => ?_
    rw [show a + 4 + 4 * k = a + 4 * (k + 1) by omega]
    exact hl (k + 1) (by simpa using hk)

theorem wrWords_sec : (s.wrWords a l).sec = s.sec := by
  induction l generalizing a s with
  | nil => rfl
  | cons w l ih => exact ih.trans (State.wr_sec ..)

/-! ### Transactions of the controller -/

theorem jrnShow_audited : Audited s (jrnShow s) := by
  rw [jrnShow]
  split <;> exact (((Audited.refl s).wr (.inr (by decide))).wr (.inr (by decide))).wf (.inr (by decide))

theorem txSubmit_audited {owner target : Nat} {direct : Bool} {data : List Nat} {act : Option (Nat × Nat)} {upd : NvUpd} :
    Audited s (txSubmit owner direct target data act upd s).2 := by
  rw [txSubmit_eq]
  simp only
  split
  · exact .refl s
  · exact Audited.trans (t := txQueued _ s) ⟨fun _ _ _ => rfl, rfl⟩ jrnShow_audited

theorem txSubmit_sec {owner target : Nat} {direct : Bool} {data : List Nat} {act : Option (Nat × Nat)} {upd : NvUpd} :
    OffNvm s (txSubmit owner direct target data act upd s).2 ∧ (txSubmit owner direct target data act upd s).2.sec = s.sec := by
  rw [txSubmit_eq]
  simp only
  split
  · exact ⟨.refl s, rfl⟩
  · refine ⟨(OffNvm.of_regs (.refl s) rfl).trans jrnShow_off, ?_⟩
    rw [jrnShow]; split <;> rfl

theorem countersTx_audited {upd : NvUpd} : Audited s (countersTx upd s) := txSubmit_audited

/-! ### The words of a hash -/

theorem length_shaBlock (h b : List Nat) : (shaBlock h b).length ≤ h.length := by
  rw [shaBlock, List.length_map, List.length_zip]; exact Nat.min_le_left ..

theorem length_sha256 (m : List Nat) : (sha256 m).length ≤ 32 := by
  have hb : ∀ l : List Nat, (l.flatMap (bytesBE 4)).length = 4 * l.length := fun l => by
    induction l with
    | nil => rfl
    | cons x l ih => rw [List.flatMap_cons, List.length_append, ih, bytesBE, List.length_reverse, length_bytesLE, List.length_cons]; omega
  have hf : ∀ (f : Nat → List Nat) (js h : List Nat), (js.foldl (fun h i => shaBlock h (f i)) h).length ≤ h.length := fun f js => by
    induction js with
    | nil => exact fun h => le_refl _
    | cons j js ih => exact fun h => (ih _).trans (length_shaBlock ..)
  unfold sha256
  extract_lets pad
  rw [hb]
  have := hf (fun i => (pad.drop (64 * i)).take 64) (List.range (pad.length / 64)) shaH
  have h8 : shaH.length = 8 := by decide
  omega

theorem length_wordsOf_sha256 (m : List Nat) : (wordsOf (sha256 m)).length ≤ 8 := by
  rw [wordsOf, List.length_map, List.length_range, cdiv, if_neg (by decide)]
  have := length_sha256 m
  omega

/-! ### A record -/

theorem page_auditHead {k : Nat} (h : k < 8) : pageOf (R.SEC_AUDIT_HEAD 0 + 4 * k) = P.SEC4 := by
  simp only [pageOf, R.SEC_AUDIT_HEAD, P.SEC4]; omega

/-- The audit queue has room, has lost no record, and does not wrap with the next one (R486, R487). -/
structure AuditRoom (s : State) : Prop where
  len : s.sec.audit.length < 256
  lost : s.rf R.SEC_AUDIT_STAT 15 0 = 0
  seq : (s.rd R.SEC_AUDIT_SEQ).toNat < 65536

theorem AuditRoom.full (h : AuditRoom s) : auditFull s = false := decide_eq_false (Nat.not_le.2 h.len)

theorem auditLost_room (h : AuditRoom s) : auditLost s = s := by rw [auditLost, h.lost]; rfl

/-- One record joined the queue: nothing else but its number and its hash changes. -/
structure Recorded (s u : State) : Prop where
  audited : Audited s u
  seq : u.rd R.SEC_AUDIT_SEQ = word ((s.rd R.SEC_AUDIT_SEQ).toNat + 1)
  len : u.sec.audit.length = s.sec.audit.length + 1
  lost : u.rf R.SEC_AUDIT_STAT 15 0 = s.rf R.SEC_AUDIT_STAT 15 0

theorem auditPush_recorded (h : (s.rd R.SEC_AUDIT_SEQ).toNat < 65536) {x y : Nat} : Recorded s (auditPush actor channel event tid x y s) := by
  unfold auditPush
  extract_lets seq r h s1 s2 wraps
  have hw : wraps = false := by simp only [wraps, seq, decide_eq_false (show ¬65536 ≤ (s.rd R.SEC_AUDIT_SEQ).toNat by omega), Bool.false_and]
  rw [hw, if_neg (by decide)]
  have h1 : Audited s s1 := ⟨fun _ _ _ => rfl, rfl⟩
  have hl : (wordsOf h).length ≤ 8 := length_wordsOf_sha256 _
  have hs : Only ((List.range (wordsOf h).length).map fun k => R.SEC_AUDIT_HEAD 0 + 4 * k) [] (s1.wr R.SEC_AUDIT_SEQ (word (seq + 1))) s2 := wrWords_only
  have h2 : Audited s s2 := (h1.wr (.inl (by decide))).wrWords fun k hk => page_auditHead (by omega)
  have hne : ∀ a, a < R.SEC_AUDIT_HEAD 0 ∨ R.SEC_AUDIT_HEAD 0 + 32 ≤ a → a ∉ (List.range (wordsOf h).length).map fun k => R.SEC_AUDIT_HEAD 0 + 4 * k := fun a ha hm => by
    obtain ⟨k, hk, rfl⟩ := List.mem_map.1 hm
    have := List.mem_range.1 hk
    omega
  refine ⟨h2, ?_, ?_, ?_⟩
  · rw [hs.regs _ (hne _ (by decide)), State.rd_wr_self]
  · have hq : s2.sec = s1.sec := wrWords_sec
    rw [hq]; exact List.length_append
  · rw [hs.rf (hne _ (by decide)), State.rf_wr_of_ne (by decide)]; rfl

/-- What shows the queue, or hands its oldest record to the journal, adds no record. -/
structure Pumped (s u : State) : Prop where
  audited : Audited s u
  sec : u.sec = s.sec
  regs : ∀ a, pageOf a ≠ P.NVM → a ≠ R.SEC_AUDIT_STAT → u.rd a = s.rd a
  lost : u.rf R.SEC_AUDIT_STAT 15 0 = s.rf R.SEC_AUDIT_STAT 15 0

theorem showAudit_pumped : Pumped s (showAudit s) where
  audited := (Audited.refl s).wf (.inl (by decide))
  sec := State.wr_sec ..
  regs _ _ h := State.rd_wf_of_ne h
  lost := State.rf_wf_disjoint (by decide) (by decide) (.inr (by decide))

theorem auditPump_pumped : Pumped s (auditPump s) := by
  unfold auditPump
  extract_lets mine
  split
  · exact showAudit_pumped
  · split
    · exact showAudit_pumped
    · rename_i r _ _
      extract_lets o
      have ha : Audited s (txSubmit 1 false o r.bytes none (.audit (r.seq + 1) r.hash) s).2 := txSubmit_audited
      obtain ⟨h1, h2⟩ := txSubmit_sec (s := s) (owner := 1) (direct := false) (target := o) (data := r.bytes) (act := none) (upd := .audit (r.seq + 1) r.hash)
      generalize (txSubmit 1 false o r.bytes none (.audit (r.seq + 1) r.hash) s).2 = y at ha h1 h2
      have hp : Pumped y (showAudit y) := showAudit_pumped
      exact ⟨ha.trans hp.audited, hp.sec.trans h2, fun a hn hs => (hp.regs a hn hs).trans (h1 a hn),
        hp.lost.trans (congrArg (bitsOf · 15 0) (h1 _ (by decide)))⟩

/-- A record with room for it: it joins the queue, and the journal takes the oldest up. -/
theorem auditAdd_recorded (h : AuditRoom s) {x y : Nat} : Recorded s (auditAdd actor channel event tid x y s) := by
  have hp := auditPush_recorded (actor := actor) (channel := channel) (event := event) (tid := tid) (x := x) (y := y) h.seq
  rw [auditAdd, h.full, if_neg (by decide), auditLost_room h]
  generalize auditPush actor channel event tid x y s = z at hp
  have hq : Pumped z (auditPump z) := auditPump_pumped
  exact ⟨hp.audited.trans hq.audited, (hq.regs _ (by decide) (by decide)).trans hp.seq, (congrArg (·.audit.length) hq.sec).trans hp.len, hq.lost.trans hp.lost⟩

/-- Room does not depend on what an operation does elsewhere. -/
theorem AuditRoom.congr (h : AuditRoom s) (hs : t.sec.audit = s.sec.audit) (h1 : t.rd R.SEC_AUDIT_STAT = s.rd R.SEC_AUDIT_STAT)
    (h2 : t.rd R.SEC_AUDIT_SEQ = s.rd R.SEC_AUDIT_SEQ) : AuditRoom t :=
  ⟨hs ▸ h.len, (congrArg (bitsOf · 15 0) h1).trans h.lost, h2 ▸ h.seq⟩

end Sys2Proof.Machine
end

section
/-! PROOFS. Key slots (R455, R456, R496). -/

namespace Sys2Proof.Machine

variable {l m : List Nat} {s t u y z : State} {i : Init} {a k n r : Nat} {w old : Word} {good mac : Bool}

/-! ### The command register -/

theorem keyWord_fields {op : Nat} (hk : k < 64) (ho : op < 16) :
    bitsOf (word (op * 0x10000000 + k)) 5 0 = k ∧ bitsOf (word (op * 0x10000000 + k)) 31 28 = op := by
  have hw : (word (op * 0x10000000 + k)).toNat = op * 0x10000000 + k := by rw [word, BitVec.toNat_ofNat]; omega
  simp only [bitsOf, hw]
  constructor <;> omega

theorem keyCmd_full (h : auditFull s = true) : keyCmd good mac old w s = s := if_pos h

section
variable (hf : auditFull s = false) (hk : k < 64)
include hf hk

theorem keyCmd_generate : keyCmd good mac old (word (0x10000000 + k)) s = keyGenerate k s := by
  obtain ⟨h1, h2⟩ := keyWord_fields (op := 1) hk (by decide)
  rw [Nat.one_mul] at h1 h2
  rw [keyCmd, hf, h1, h2]; rfl

theorem keyCmd_install : keyCmd good mac old (word (0x20000000 + k)) s = keyInstall k good mac s := by
  obtain ⟨h1, h2⟩ := keyWord_fields (op := 2) hk (by decide)
  rw [keyCmd, hf, h1, h2]; rfl

theorem keyCmd_erase : keyCmd good mac old (word (0x30000000 + k)) s = keyErase k s := by
  obtain ⟨h1, h2⟩ := keyWord_fields (op := 3) hk (by decide)
  rw [keyCmd, hf, h1, h2]; rfl

theorem keyCmd_lock : keyCmd good mac old (word (0x40000000 + k)) s = keyLock k s := by
  obtain ⟨h1, h2⟩ := keyWord_fields (op := 4) hk (by decide)
  rw [keyCmd, hf, h1, h2]; rfl

end

/-- A command register has been written: it keeps nothing of the word, and nothing has changed but the bus answer and the clock. -/
structure CmdWritten (n : Nat) (s t : State) : Prop where
  only : Only [] [] s t
  sec : t.sec = s.sec
  ses : t.ses = s.ses
  thm : t.thm = s.thm
  free : t.free = s.free
  now : t.now = max s.now n
  tick : t.tickNum = s.tickNum

/-- All fields of the register at `a` are commands. -/
def isCmd (a : Nat) : Prop := maskOf RegDef.rws a = 0#32 ∧ maskOf RegDef.rw a = 0#32 ∧ maskOf (fun d => d.rw ||| d.rwl) a = 0#32 ∧
  maskOf RegDef.w1c a = 0#32 ∧ maskOf RegDef.w1s a = 0#32

/-- An accepted write of a command register runs the register's effect. -/
theorem gateWrite_written {hook : Word → Word → State → State} (h : s.accepts n i a w) (ho : offOf a ≠ 0x1c ∧ offOf a ≠ 0x20)
    (hm : isCmd a) : ∃ t, CmdWritten n s t ∧ gateWrite i a w hook (s.at n) = hook (s.rd a) w t := by
  obtain ⟨h0, h1, h2, h3, h4⟩ := hm
  have hv := gateWrite_plain hook h ho h0
  rw [storeLive_cmd h1 h2 h3 h4] at hv
  have hg := gateState_only (s := s) n a (s.rd a)
  refine ⟨_, ⟨⟨fun b _ => ?_, hg.stats, hg.shadow, hg.mem, hg.nv, hg.pending⟩, rfl, rfl, rfl, rfl, rfl, rfl⟩, hv⟩
  by_cases hb : b = a
  · subst hb; exact State.rd_wr_self ..
  · exact hg.regs b (by simpa using hb)

theorem gateWrite_key (h : s.accepts n i R.SEC_KEY_CMD w) : ∃ t, CmdWritten n s t ∧
    gateWrite i R.SEC_KEY_CMD w (keyCmd good mac) (s.at n) = keyCmd good mac (s.rd R.SEC_KEY_CMD) w t :=
  gateWrite_written h (by decide) (by unfold isCmd; decide +kernel)

theorem CmdWritten.full (h : CmdWritten n s t) : auditFull t = auditFull s := by rw [auditFull, h.sec, auditFull]

theorem CmdWritten.tick16 (h : CmdWritten n s t) : t.tick16 = s.tickNum % 65536 := by rw [State.tick16, h.tick]

/-! ### A command's result -/

theorem keyResult_rd : (keyResult r s).rd R.SEC_KEY_STAT = word (s.tick16 * 65536 + r) := State.rd_wr_self ..

/-- A command of a key slot that fails shows its result, and does nothing else. -/
theorem keyResult_fails (h : CmdWritten n s t) : (keyResult r t).rd R.SEC_KEY_STAT = word (s.tickNum % 65536 * 65536 + r) ∧
    (keyResult r t).sec = s.sec ∧ Only [R.SEC_KEY_CMD, R.SEC_KEY_STAT] [] s (keyResult r t) :=
  ⟨keyResult_rd.trans (by rw [h.tick16]), h.sec, Only.wr (h.only.mono (by simp) (by simp)) (by simp)⟩

/-! ### A command that is carried out -/

theorem page_keyMeta (hk : k < 64) : pageOf (R.SEC_KEY_META k) = 0x11 := by simp only [pageOf, R.SEC_KEY_META]; omega

theorem keyMeta_ne (hk : k < 64) : R.SEC_KEY_META k ≠ R.SEC_KEY_STAT ∧ R.SEC_KEY_META k ≠ R.SEC_KEY_CMD ∧ R.SEC_KEY_META k ≠ R.SEC_STATUS := by
  simp only [R.SEC_KEY_META, R.SEC_KEY_STAT, R.SEC_KEY_CMD, R.SEC_STATUS]; omega

/-- What the work on slot `k` has changed before its result is shown: outside the journal's page the command register and the slot's own. -/
structure KeyWork (k : Nat) (s y : State) : Prop where
  regs : ∀ a, a ≠ R.SEC_KEY_CMD → a ≠ R.SEC_KEY_META k → pageOf a ≠ P.NVM → y.rd a = s.rd a
  mem : ∀ a, y.ld a = s.ld a
  tick : y.tickNum = s.tickNum
  audit : y.sec.audit = s.sec.audit

theorem CmdWritten.work (h : CmdWritten n s t) : KeyWork k s t :=
  ⟨fun a _ _ _ => h.only.regs a (by simp), h.only.mem, h.tick, by rw [h.sec]⟩

theorem KeyWork.wrMeta (h : KeyWork k s y) : KeyWork k s (y.wr (R.SEC_KEY_META k) w) :=
  ⟨fun a h1 h2 h3 => (State.rd_wr_of_ne y h2 w).trans (h.regs a h1 h2 h3), h.mem, h.tick, h.audit⟩

theorem KeyWork.keyPut {x : List Nat} (h : KeyWork k s y) : KeyWork k s (keyPut n x y) := ⟨h.regs, h.mem, h.tick, h.audit⟩

theorem KeyWork.slotTx {c : Option (Nat × Word)} (h : KeyWork k s y) : KeyWork k s (slotTx n c y) := by
  obtain ⟨h1, h2⟩ := txSubmit_sec (s := y) (owner := 0) (direct := false) (target := (y.rd (R.NVM_REGION_BASE 1)).toNat) (data := []) (act := none) (upd := .slot n c)
  have ha : Audited y (Machine.slotTx n c y) := txSubmit_audited
  exact ⟨fun a g1 g2 g3 => (h1 a g3).trans (h.regs a g1 g2 g3), fun a => ha.mem.trans (h.mem a),
    (ha.of (·.tickNum) fun _ _ _ _ => rfl).trans h.tick, (congrArg (·.audit) h2).trans h.audit⟩

/-- A command that is carried out, once its result is shown and its record has joined the queue. -/
structure KeyDone (k : Nat) (s y u : State) : Prop where
  shown : u.rd R.SEC_KEY_STAT = word (s.tickNum % 65536 * 65536 + 0)
  seq : u.rd R.SEC_AUDIT_SEQ = word ((s.rd R.SEC_AUDIT_SEQ).toNat + 1)
  len : u.sec.audit.length = s.sec.audit.length + 1
  regs : ∀ a, a ∉ [R.SEC_KEY_CMD, R.SEC_KEY_STAT, R.SEC_KEY_META k] → pageOf a ≠ P.SEC4 → pageOf a ≠ P.NVM → u.rd a = s.rd a
  mem : ∀ a, u.ld a = s.ld a
  slot : u.rd (R.SEC_KEY_META k) = y.rd (R.SEC_KEY_META k)
  audited : Audited (keyResult 0 y) u

theorem KeyWork.done {b : Nat} (h : KeyWork k s y) (hk : k < 64) (hr : AuditRoom s) : KeyDone k s y (auditAdd 3 3 0x11 [] k b (keyResult 0 y)) := by
  have hseq : (keyResult 0 y).rd R.SEC_AUDIT_SEQ = s.rd R.SEC_AUDIT_SEQ :=
    (State.rd_wr_of_ne y (by decide) _).trans (h.regs _ (by decide) (by simp only [R.SEC_AUDIT_SEQ, R.SEC_KEY_META]; omega) (by decide))
  have hstat : (keyResult 0 y).rd R.SEC_AUDIT_STAT = s.rd R.SEC_AUDIT_STAT :=
    (State.rd_wr_of_ne y (by decide) _).trans (h.regs _ (by decide) (by simp only [R.SEC_AUDIT_STAT, R.SEC_KEY_META]; omega) (by decide))
  have hrec := auditAdd_recorded (actor := 3) (channel := 3) (event := 0x11) (tid := []) (x := k) (y := b) (hr.congr (t := keyResult 0 y) h.audit hstat hseq)
  generalize auditAdd 3 3 0x11 [] k b (keyResult 0 y) = u at hrec
  have hp := page_keyMeta hk
  refine ⟨?_, ?_, ?_, fun a h1 h2 h3 => ?_, fun a => hrec.audited.mem.trans (h.mem a), ?_, hrec.audited⟩
  · rw [hrec.audited.regs _ (by decide) (by decide), keyResult_rd, State.tick16, h.tick]
  · rw [hrec.seq, hseq]
  · rw [hrec.len]; exact congrArg (·.length + 1) h.audit
  · rw [List.mem_cons, List.mem_cons, List.mem_singleton, not_or, not_or] at h1
    rw [hrec.audited.regs a h2 h3, keyResult, State.rd_wr_of_ne _ h1.2.1, h.regs a h1.1 h1.2.2 h3]
  · rw [hrec.audited.regs _ (by rw [hp]; decide) (by rw [hp]; decide), keyResult, State.rd_wr_of_ne _ (keyMeta_ne hk).1]

/-! ### Each command's work -/

theorem CmdWritten.locked (h : CmdWritten n s t) : keyLocked k t = s.rb (R.SEC_KEY_META k) 30 := h.only.rb (by simp)

/-- A key has been drawn for slot `k`. -/
def keyDrawn (k : Nat) (s : State) : State := keyPut k (bytesBE 32 (draw s).1) ((draw s).2.wr (R.SEC_KEY_META k) (keyMeta 5 1 2))

theorem keyGenerate_drawn (h1 : ¬(k < 16 ∨ 48 ≤ k)) (h2 : keyLocked k s = false) (h3 : rngOk s = true) :
    keyGenerate k s = auditAdd 3 3 0x11 [] k 1 (keyResult 0 (keyDrawn k s)) := by
  rw [keyGenerate, if_neg h1, h2, h3]; rfl

theorem keyDrawn_work (h : KeyWork k s t) : KeyWork k s (keyDrawn k t) := by
  have h' : KeyWork k s (draw t).2 := ⟨h.regs, h.mem, h.tick, h.audit⟩
  exact h'.wrMeta.keyPut

theorem keyDrawn_slot : (keyDrawn k s).rd (R.SEC_KEY_META k) = keyMeta 5 1 2 := State.rd_wr_self ..

theorem keyDrawn_draws : (keyDrawn k s).sec.draws = s.sec.draws + 1 := rfl

theorem length_bytesBE (n x : Nat) : (bytesBE n x).length = n := by rw [bytesBE, List.length_reverse, length_bytesLE]

theorem find_put {q : List (Nat × List Nat)} {x : List Nat} :
    ((q.filter fun p => p.1 != k) ++ [(k, x)]).find? (fun p => p.1 == k) = some (k, x) := by
  have h : (q.filter fun p => p.1 != k).find? (fun p => p.1 == k) = none := by
    refine List.find?_eq_none.2 fun p hp => ?_
    simpa using (List.mem_filter.1 hp).2
  rw [List.find?_append, h]; simp

theorem keyDrawn_keys : (keyDrawn k s).sec.keys = (s.sec.keys.filter fun p => p.1 != k) ++ [(k, bytesBE 32 (draw s).1)] := by
  have hne : (bytesBE 32 (draw s).1).isEmpty = false := by
    rw [← Bool.not_eq_true, List.isEmpty_iff_length_eq_zero, length_bytesBE]; decide
  rw [keyDrawn, keyPut, hne]
  rfl

theorem slotKey_of_keys {q : List (Nat × List Nat)} {x : List Nat} (h : s.sec.keys = (q.filter fun p => p.1 != k) ++ [(k, x)]) : s.slotKey k = x := by
  rw [State.slotKey, h, find_put]

/-- A wrapped key has been installed into slot `k`. -/
def keyInstalled (k : Nat) (mac : Bool) (s : State) : State :=
  let m := if k < 16 then keyMeta 0 0x0C 3 else if mac then keyMeta 1 0x10 3 else keyMeta 0 0x0C 3
  slotTx k (some (s.fresh.1, m)) (s.fresh.2.wr (R.SEC_KEY_META k) m)

theorem keyInstall_installed (h1 : installable k = true) (h2 : keyLocked k s = false) :
    keyInstall k true mac s = auditAdd 3 3 0x11 [] k 2 (keyResult 0 (keyInstalled k mac s)) := by
  rw [keyInstall, h1, h2]; rfl

theorem keyInstall_bad (h1 : installable k = true) (h2 : keyLocked k s = false) : keyInstall k false mac s = keyResult 3 s := by
  rw [keyInstall, h1, h2]; rfl

theorem keyInstalled_work (h : KeyWork k s t) : KeyWork k s (keyInstalled k mac t) := by
  have h' : KeyWork k s t.fresh.2 := ⟨h.regs, h.mem, h.tick, h.audit⟩
  exact h'.wrMeta.slotTx

theorem slotTx_rd {c : Option (Nat × Word)} (ha : pageOf a ≠ P.NVM) : (slotTx n c s).rd a = s.rd a := txSubmit_sec.1 a ha

theorem page_ne_nvm (hk : k < 64) : pageOf (R.SEC_KEY_META k) ≠ P.NVM := by rw [page_keyMeta hk]; decide

theorem keyInstalled_valid (hk : k < 64) : (keyInstalled k mac s).rb (R.SEC_KEY_META k) 31 = true := by
  rw [keyInstalled, State.rb, slotTx_rd (page_ne_nvm hk), State.rd_wr_self]
  split
  · decide
  · split <;> decide

/-- Slot `k` has been erased. -/
def keyErased (k : Nat) (s : State) : State :=
  let y := keyPut k [] (s.wr (R.SEC_KEY_META k) 0#32)
  if installable k then slotTx k none y else y

theorem keyErase_erased (h1 : ¬k < 8) (h2 : keyLocked k s = false) : keyErase k s = auditAdd 3 3 0x11 [] k 3 (keyResult 0 (keyErased k s)) := by
  rw [keyErase, if_neg h1, h2]; rfl

theorem keyErased_work (h : KeyWork k s t) : KeyWork k s (keyErased k t) := by
  have hy : KeyWork k s (keyPut k [] (t.wr (R.SEC_KEY_META k) 0#32)) := h.wrMeta.keyPut
  rw [keyErased]
  split
  · exact hy.slotTx
  · exact hy

theorem keyErased_slot (hk : k < 64) : (keyErased k s).rd (R.SEC_KEY_META k) = 0#32 := by
  have hy : (keyPut k [] (s.wr (R.SEC_KEY_META k) 0#32)).rd (R.SEC_KEY_META k) = 0#32 := State.rd_wr_self ..
  rw [keyErased]
  split
  · exact (slotTx_rd (page_ne_nvm hk)).trans hy
  · exact hy

theorem keyLock_locked (h : keyLocked k s = false) : keyLock k s = auditAdd 3 3 0x11 [] k 4 (keyResult 0 (s.wb (R.SEC_KEY_META k) 30 true)) := by
  rw [keyLock, h]; rfl

end Sys2Proof.Machine
end

section
/-! PROOFS. Traffic keys and one-time-programmable memory (R453, R454, R466, R500, R502). -/

namespace Sys2Proof.Machine

variable {l m : List Nat} {s t u y z : State} {i : Init} {a b e k n r lo : Nat} {w v old : Word} {good : Bool}

/-! ### The record engine's commands -/

theorem recCmd_fields {op : Nat} (he : e < 1024) (ho : op < 16) :
    bitsOf (word (op * 0x10000000 + e)) 9 0 = e ∧ bitsOf (word (op * 0x10000000 + e)) 31 28 = op := by
  have hw : (word (op * 0x10000000 + e)).toNat = op * 0x10000000 + e := by rw [word, BitVec.toNat_ofNat]; omega
  simp only [bitsOf, hw]
  constructor <;> omega

theorem gateWrite_rec (h : s.accepts n i R.SEC_REC_CMD w) : ∃ t, CmdWritten n s t ∧
    gateWrite i R.SEC_REC_CMD w recCmd (s.at n) = recCmd (s.rd R.SEC_REC_CMD) w t :=
  gateWrite_written h (by decide) (by unfold isCmd; decide +kernel)

theorem recCmd_install (he : e < 1024) : recCmd old (word (0x10000000 + e)) s = recInstall e s := by
  obtain ⟨h1, h2⟩ := recCmd_fields (op := 1) he (by decide)
  rw [Nat.one_mul] at h1 h2
  rw [recCmd, h1, h2]; rfl

theorem recCmd_update (he : e < 1024) : recCmd old (word (0x20000000 + e)) s = keyUpdate e s := by
  obtain ⟨h1, h2⟩ := recCmd_fields (op := 2) he (by decide)
  rw [recCmd, h1, h2]; rfl

theorem recCmd_erase (he : e < 1024) : recCmd old (word (0x30000000 + e)) s = recErase e s := by
  obtain ⟨h1, h2⟩ := recCmd_fields (op := 3) he (by decide)
  rw [recCmd, h1, h2]; rfl

theorem sessOf_setSess {f : SessSt → SessSt} : sessOf (setSess e f s) e = (sessOf s e).map f := by
  have h : (setSess e f s).ses.sess = s.ses.sess.map fun p => if p.1 = e then (e, f p.2) else p := rfl
  rw [sessOf, sessOf, h, List.find?_map]
  have hp : ((fun p : Nat × SessSt => p.1 == e) ∘ fun p => if p.1 = e then (e, f p.2) else p) = fun p => p.1 == e := by
    funext p
    by_cases h : p.1 = e <;> simp [h]
  rw [hp]
  cases hq : s.ses.sess.find? fun p => p.1 == e with
  | none => rfl
  | some p =>
    have : p.1 = e := by simpa using List.find?_some hq
    simp [this]

theorem CmdWritten.sessOf (h : CmdWritten n s t) : sessOf t e = sessOf s e := by rw [Machine.sessOf, h.ses, Machine.sessOf]

/-- A record-engine command shows its result. -/
theorem recResult_spec (hr : r < 16) (h : Only [] [] s y) : (recResult r y).rf R.SEC_REC_STAT 3 0 = r ∧
    Only [R.SEC_REC_CMD, R.SEC_REC_STAT] [] s (recResult r y) := by
  refine ⟨?_, (h.mono (by simp) (by simp)).wf (by simp)⟩
  rw [recResult, State.rf_wf_self (by decide) (by decide)]
  exact Nat.mod_eq_of_lt hr

/-- Session `e` with its traffic keys replaced. -/
def sessKeyed (e : Nat) (g : Option Nat) (s : State) : State := setSess e (fun x => { x with keys := g, top := none, seen := [] }) s

theorem sessKeyed_only {g : Option Nat} (h : Only l m s y) : Only l m s (sessKeyed e g y) := h.record

theorem sessKeyed_sess {g : Option Nat} {x : SessSt} (h : sessOf s e = some x) : ∃ x', sessOf (sessKeyed e g s) e = some x' ∧ x'.keys = g ∧ x'.top = none := by
  rw [sessKeyed, sessOf_setSess, h]
  exact ⟨_, rfl, rfl, rfl⟩

theorem recInstall_keys {x : SessSt} (h : sessOf s e = some x) (hh : x.hs = some k) (hv : s.rb (R.SEC_KEY_META (16 + 2 * k)) 31 = true) :
    recInstall e s = recResult 0 (sessKeyed e (some s.fresh.1) s.fresh.2) := by
  have hi : installKeys e s = (0, sessKeyed e (some s.fresh.1) s.fresh.2) := by
    rw [installKeys, h]
    simp only [hh, hv]
    rfl
  rw [recInstall, hi]

theorem recInstall_none {x : SessSt} (h : sessOf s e = some x) (hh : x.hs = none) : recInstall e s = recResult 2 s := by
  have hi : installKeys e s = (2, s) := by
    rw [installKeys, h]
    simp only [hh]
  rw [recInstall, hi]

theorem keyUpdate_keys {x : SessSt} (h : sessOf s e = some x) (hk : x.keys.isSome = true) :
    keyUpdate e s = recResult 0 (sessKeyed e (some s.fresh.1) s.fresh.2) := by
  obtain ⟨g, hg⟩ := Option.isSome_iff_exists.1 hk
  rw [keyUpdate, h]
  simp only [hg]
  rfl

theorem recErase_keys {x : SessSt} (h : sessOf s e = some x) (hk : x.keys.isSome = true) : recErase e s = recResult 0 (sessKeyed e none s) := by
  obtain ⟨g, hg⟩ := Option.isSome_iff_exists.1 hk
  rw [recErase, h]
  simp only [hg]
  rfl

/-! ### Bits of OTP -/

/-- Bit `b` of OTP. -/
def NvSt.otpBit (x : NvSt) (b : Nat) : Bool := bitOf (x.otpWord (b / 32)) (b % 32)

theorem otpBits_one (x : NvSt) (b : Nat) : x.otpBits b 1 = bit (x.otpBit b) := by
  simp [NvSt.otpBits, NvSt.otpBit, List.range_succ]

theorem otpCount_eq (x : NvSt) (lo : Nat) : ∀ n, x.otpCount lo n = (List.range n).countP fun k => x.otpBit (lo + k)
  | 0 => rfl
  | n + 1 => by
    have ih := otpCount_eq x lo n
    rw [NvSt.otpCount] at ih ⊢
    rw [List.range_succ, List.foldl_append, List.countP_append, ih, List.foldl_cons, List.foldl_nil, otpBits_one, List.countP_cons, List.countP_nil]
    cases x.otpBit (lo + n) <;> rfl

theorem otpCount_mono {x x' : NvSt} (h : ∀ b, x.otpBit b = true → x'.otpBit b = true) : x.otpCount lo n ≤ x'.otpCount lo n := by
  rw [otpCount_eq, otpCount_eq]
  exact List.countP_mono_left fun k _ => h (lo + k)

/-- A thermometer code whose first `k` bits are 1 stands at level `k` or above. -/
theorem le_otpCount {x : NvSt} (hk : k ≤ n) (h : ∀ j < k, x.otpBit (lo + j) = true) : k ≤ x.otpCount lo n := by
  rw [otpCount_eq]
  calc k = (List.range k).countP fun j => x.otpBit (lo + j) := by
        rw [List.countP_eq_length.2 fun j hj => h j (List.mem_range.1 hj), List.length_range]
    _ ≤ (List.range n).countP fun j => x.otpBit (lo + j) := (List.range_sublist.2 hk).countP_le

theorem otpBit_congr {x x' : NvSt} (h : x'.otp = x.otp) : x'.otpBit b = x.otpBit b := by rw [NvSt.otpBit, NvSt.otpWord, h, NvSt.otpBit, NvSt.otpWord]

/-! ### Words of OTP that are programmed -/

/-- What shows OTP changes only registers that show it: from SEC_OTP up, or of the UID, the lifecycle and the rollback counters. -/
structure OtpShown (s u : State) : Prop where
  regs : ∀ a, a < R.SEC_OTP 0 → a < R.SEC_UID 0 ∨ R.SEC_STATUS ≤ a → a ≠ R.SEC_ROLLBACK → u.rd a = s.rd a
  sec : u.sec = s.sec
  nv : u.nv = s.nv

theorem OtpShown.refl (s : State) : OtpShown s s := ⟨fun _ _ _ _ => rfl, rfl, rfl⟩

theorem OtpShown.wr (h : OtpShown s t) (ha : R.SEC_OTP 0 ≤ a ∨ (R.SEC_UID 0 ≤ a ∧ a < R.SEC_STATUS) ∨ a = R.SEC_ROLLBACK) : OtpShown s (t.wr a w) :=
  ⟨fun b h1 h2 h3 => (State.rd_wr_of_ne t (by rintro rfl; omega) w).trans (h.regs b h1 h2 h3), h.sec, h.nv⟩

theorem OtpShown.wrWords (h : OtpShown s t) (ha : R.SEC_UID 0 ≤ a) (hl : a + 4 * l.length ≤ R.SEC_STATUS) : OtpShown s (t.wrWords a l) := by
  induction l generalizing a t with
  | nil => exact h
  | cons w l ih =>
    rw [List.length_cons] at hl
    exact ih (h.wr (.inr (.inl ⟨ha, by omega⟩))) (by omega) (by omega)

theorem otpShow_shown : OtpShown s (otpShow s) := by
  have hl : (wordsOf s.nv.uid).length = 4 := by
    rw [wordsOf, List.length_map, List.length_range, NvSt.uid, NvSt.otpBytes, List.length_map, List.length_range]; rfl
  have h1 : OtpShown s (s.over s.nv.otp fun s p => s.wr (R.SEC_OTP p.1) p.2) :=
    State.over_induct (q := OtpShown s) (.refl s) fun _ p h => h.wr (.inl (by simp only [R.SEC_OTP]; omega))
  unfold otpShow
  extract_lets v s1 s2
  have h2 : OtpShown s s1 := h1
  clear_value s1
  have h3 : OtpShown s s2 := (h2.wrWords (le_refl _) (by rw [hl]; decide)).wr (.inr (.inl (by decide)))
  exact h3.wr (.inr (.inr rfl))

/-- The bits of word `k` join OTP, and nothing else of the state outside registers changes but what is non-volatile. -/
theorem otpBlow_spec (k : Nat) (v : Word) (s : State) :
    OtpShown (s.setNv fun n => { n with otp := sset 0#32 k (n.otpWord k ||| v) n.otp }) (otpBlow k v s) := otpShow_shown

theorem otpBlow_word : (otpBlow k v s).nv.otpWord k = s.nv.otpWord k ||| v := by
  rw [(otpBlow_spec k v s).nv]
  exact sget_sset_self ..

theorem otpBlow_word_of_ne (h : b ≠ k) : (otpBlow k v s).nv.otpWord b = s.nv.otpWord b := by
  rw [(otpBlow_spec k v s).nv]
  exact sget_sset_of_ne _ _ h _ _

theorem bitOf_or (x y : Word) (j : Nat) : bitOf (x ||| y) j = (bitOf x j || bitOf y j) := by
  rw [bitOf, BitVec.toNat_or, Nat.testBit_or, bitOf, bitOf]

theorem bitOf_pow {j c : Nat} (hc : c < 32) (hj : j < 32) : bitOf (word (2 ^ c)) j = decide (c = j) := by
  have hw : (word (2 ^ c)).toNat = 2 ^ c := by
    rw [word, BitVec.toNat_ofNat, Nat.mod_eq_of_lt (Nat.pow_lt_pow_right (by decide) hc)]
  rw [bitOf, hw, Nat.testBit_two_pow]

/-- One bit of OTP is programmed. -/
theorem otpBlow_bit {c : Nat} : (otpBlow (c / 32) (word (2 ^ (c % 32))) s).nv.otpBit b = (s.nv.otpBit b || decide (b = c)) := by
  rw [NvSt.otpBit, NvSt.otpBit]
  by_cases h : b / 32 = c / 32
  · rw [h, otpBlow_word, bitOf_or, bitOf_pow (Nat.mod_lt _ (by decide)) (Nat.mod_lt _ (by decide))]
    congr 1
    exact decide_eq_decide.2 ⟨fun e => by omega, fun e => by rw [e]⟩
  · rw [otpBlow_word_of_ne h, decide_eq_false (fun e => h (by rw [e])), Bool.or_false]

/-- What raising a thermometer code leaves of what recording a programmed field reads. -/
structure OtpRaised (s u : State) : Prop where
  regs : ∀ a, a < R.SEC_OTP 0 → R.SEC_STATUS ≤ a → a ≠ R.SEC_ROLLBACK → u.rd a = s.rd a
  sec : u.sec = s.sec
  bits : ∀ b, s.nv.otpBit b = true → u.nv.otpBit b = true
  raises : u.nv.raises = s.nv.raises

theorem OtpRaised.blow {c : Nat} (h : OtpRaised s t) : OtpRaised s (otpBlow (c / 32) (word (2 ^ (c % 32))) t) := by
  have hb := otpBlow_spec (c / 32) (word (2 ^ (c % 32))) t
  exact ⟨fun a h1 h2 h3 => (hb.regs a h1 (.inr h2) h3).trans (h.regs a h1 h2 h3), hb.sec.trans h.sec,
    fun b h1 => by rw [otpBlow_bit, h.bits b h1, Bool.true_or], (congrArg (·.raises) hb.nv).trans h.raises⟩

theorem otpRaiseTo_raised : OtpRaised s (otpRaiseTo k r s) :=
  State.over_induct ⟨fun _ _ _ _ => rfl, rfl, fun _ h => h, rfl⟩ fun _ _ h => h.blow

/-- Each bit below the level is programmed. -/
theorem over_otpBlow_bit {f : Nat} (hj : n ∈ l) : ∀ s : State,
    ((s.over l fun s j => otpBlow ((f + j) / 32) (word (2 ^ ((f + j) % 32))) s).nv.otpBit (f + n)) = true := by
  have hmono : ∀ (l : List Nat) (s : State), s.nv.otpBit (f + n) = true →
      ((s.over l fun s j => otpBlow ((f + j) / 32) (word (2 ^ ((f + j) % 32))) s).nv.otpBit (f + n)) = true := fun l s h =>
    State.over_induct (q := fun u => u.nv.otpBit (f + n) = true) h fun u j hu => by rw [otpBlow_bit, hu, Bool.true_or]
  induction l with
  | nil => exact absurd hj List.not_mem_nil
  | cons j l ih =>
    intro s
    rcases List.mem_cons.1 hj with h | h
    · subst h
      exact hmono l _ (by rw [otpBlow_bit, decide_eq_true rfl, Bool.or_true])
    · exact ih h _

theorem otpRaiseTo_level (h : r ≤ (rollbackField k).2) : r ≤ rollbackLevel k (otpRaiseTo k r s) :=
  le_otpCount h fun j hj => over_otpBlow_bit (List.mem_range.2 (by rw [Nat.min_eq_left h]; exact hj)) s

theorem rollbackLevel_mono (h : ∀ b, s.nv.otpBit b = true → u.nv.otpBit b = true) : rollbackLevel k s ≤ rollbackLevel k u := otpCount_mono h

/-! ### SEC_OTP_CMD -/

/-- What RETIRED erases leaves of what recording a programmed field reads. -/
structure Retired (s u : State) : Prop where
  regs : ∀ a, R.SEC_KEY_CMD ≤ a → pageOf a ≠ P.NVM → u.rd a = s.rd a
  audit : u.sec.audit = s.sec.audit
  otp : u.nv.otp = s.nv.otp

theorem nvPut_nv {o : Nat} {d : List Nat} : (nvPut o d s).nv.otp = s.nv.otp ∧ (nvPut o d s).sec = s.sec := by
  have hp : (s.put (0x20000000 + o) d).nv = s.nv ∧ (s.put (0x20000000 + o) d).sec = s.sec := ⟨put_nv, by rw [put_eq]; rfl⟩
  rw [nvPut, wear]
  split
  · exact ⟨congrArg (·.otp) hp.1, hp.2⟩
  · exact ⟨congrArg (·.otp) hp.1, hp.2⟩

theorem retire_retired : Retired s (retire s) := by
  unfold retire
  extract_lets s1 s2 o
  have h1 : Retired s s1 := ⟨fun _ _ _ => rfl, rfl, rfl⟩
  have h2 : Retired s s2 := State.over_induct_mem (q := Retired s) h1 fun x k hk hx => by
    have hlt : R.SEC_KEY_META k < R.SEC_KEY_CMD := by
      obtain ⟨j, hj, rfl⟩ := List.mem_map.1 hk
      have := List.mem_range.1 hj
      simp only [R.SEC_KEY_META, R.SEC_KEY_CMD]; omega
    exact ⟨fun a h1 h2 => (State.rd_wr_of_ne x (by omega) _).trans (hx.regs a h1 h2), hx.audit, hx.otp⟩
  clear_value s2
  generalize List.replicate (s2.rd (R.NVM_REGION_SIZE 1)).toNat 0 = d
  obtain ⟨h3, h4⟩ := nvPut_nv (s := s2) (o := o) (d := d)
  exact ⟨fun a g1 g2 => ((nvPut_frame o d s2).off a g2).trans (h2.regs a g1 g2), (congrArg (·.audit) h4).trans h2.audit, h3.trans h2.otp⟩

/-- The lifecycle lets every bit of `v` be programmed into word `k`. -/
def otpAllowed (k : Nat) (v : Word) (s : State) : Bool := (List.range 32).all fun j => !bitOf v j || otpMay s.nv.lifecycle (32 * k + j)

theorem otpAllowed_iff : otpAllowed k v s = true ↔ ∀ j < 32, bitOf v j = true → otpMay s.nv.lifecycle (32 * k + j) = true := by
  rw [otpAllowed, List.all_eq_true]
  refine forall_congr' fun j => ?_
  rw [List.mem_range]
  cases bitOf v j <;> simp

/-- The state in which a field has been programmed and its result is shown, before its record. -/
def otpDone (k : Nat) (v : Word) (s : State) : State :=
  let y := (otpBlow k v s).wr R.SEC_OTP_STAT (word 0)
  if s.nv.lifecycle ≠ 3 ∧ y.nv.lifecycle = 3 then retire y else y

theorem otpCmd_eq (hf : auditFull s = false) : otpCmd good old (putBit w 31 true) s =
    if otpAllowed (bitsOf w 24 16) (s.rd R.SEC_OTP_DATA) s = false then s.wr R.SEC_OTP_STAT (word 1)
    else if otpReady s = false then s.wr R.SEC_OTP_STAT (word 2)
    else if good = false then s.wr R.SEC_OTP_STAT (word 3)
    else otpNote (otpField (bitsOf w 24 16)) (otpDone (bitsOf w 24 16) (s.rd R.SEC_OTP_DATA) s) := by
  have hgo : bitOf (putBit w 31 true) 31 = true := bitOf_putBit_self _ _ (by decide)
  have hk : bitsOf (putBit w 31 true) 24 16 = bitsOf w 24 16 := bitsOf_putBit_of_disjoint _ _ (by decide) (by decide)
  unfold otpCmd
  rw [hgo, hf, hk, if_neg (by decide)]
  simp only [← Bool.not_eq_true', otpAllowed]
  rfl

theorem otpCmd_full (hf : auditFull s = true) : otpCmd good old w s = s := if_pos (by rw [hf, Bool.or_true])

theorem gateWrite_otp (h : s.accepts n i R.SEC_OTP_CMD w) : ∃ t, (Only [R.SEC_OTP_CMD] [] s t ∧ t.sec = s.sec ∧ t.thm = s.thm) ∧
    gateWrite i R.SEC_OTP_CMD w (otpCmd good) (s.at n) = otpCmd good (s.rd R.SEC_OTP_CMD) w t := by
  obtain ⟨v, hv⟩ := gateWrite_stored (otpCmd good) h (by decide) (by decide +kernel)
  exact ⟨_, ⟨gateState_only .., rfl, rfl⟩, hv⟩

/-- A programmed field: its result, its word and the other words, and what its record reads. -/
structure OtpDone (k : Nat) (v : Word) (s u : State) : Prop where
  stat : u.rd R.SEC_OTP_STAT = 0#32
  word : u.nv.otpWord k = s.nv.otpWord k ||| v
  others : ∀ j, j ≠ k → u.nv.otpWord j = s.nv.otpWord j
  audit : u.sec.audit = s.sec.audit
  lost : u.rd R.SEC_AUDIT_STAT = s.rd R.SEC_AUDIT_STAT
  seq : u.rd R.SEC_AUDIT_SEQ = s.rd R.SEC_AUDIT_SEQ

theorem otpWord_congr {x x' : NvSt} (h : x'.otp = x.otp) : x'.otpWord k = x.otpWord k := by rw [NvSt.otpWord, h, NvSt.otpWord]

theorem Retired.done (h : Retired t u) (hd : OtpDone k v s t) : OtpDone k v s u :=
  ⟨(h.regs _ (by decide) (by decide)).trans hd.stat, (otpWord_congr h.otp).trans hd.word, fun j hj => (otpWord_congr h.otp).trans (hd.others j hj),
    h.audit.trans hd.audit, (h.regs _ (by decide) (by decide)).trans hd.lost, (h.regs _ (by decide) (by decide)).trans hd.seq⟩

theorem otpDone_shown (hw : u.nv.otpWord k = s.nv.otpWord k ||| v) (ho : ∀ j, j ≠ k → u.nv.otpWord j = s.nv.otpWord j) (ha : u.sec.audit = s.sec.audit)
    (h1 : u.rd R.SEC_AUDIT_STAT = s.rd R.SEC_AUDIT_STAT) (h2 : u.rd R.SEC_AUDIT_SEQ = s.rd R.SEC_AUDIT_SEQ) : OtpDone k v s (u.wr R.SEC_OTP_STAT (Machine.word 0)) :=
  ⟨State.rd_wr_self .., hw, ho, ha, (State.rd_wr_of_ne _ (by decide) _).trans h1, (State.rd_wr_of_ne _ (by decide) _).trans h2⟩

theorem otpDone_done : OtpDone k v s (otpDone k v s) := by
  have hb := otpBlow_spec k v s
  have hy : OtpDone k v s ((otpBlow k v s).wr R.SEC_OTP_STAT (Machine.word 0)) :=
    otpDone_shown otpBlow_word (fun j hj => otpBlow_word_of_ne hj) (congrArg (·.audit) hb.sec) (hb.regs _ (by decide) (.inr (by decide)) (by decide))
      (hb.regs _ (by decide) (.inr (by decide)) (by decide))
  rw [otpDone]
  generalize (otpBlow k v s).wr R.SEC_OTP_STAT (Machine.word 0) = y at hy
  split
  · exact retire_retired.done hy
  · exact hy

/-! ### Pending raises -/

theorem otpRetry_idle (h : s.nv.raises = [] ∨ s.now < s.sec.otpAt + 60 * 10 ^ 9) : otpRetry s = s := by
  refine if_pos ?_
  rcases h with h | h
  · rw [h]; rfl
  · rw [decide_eq_true h, Bool.or_true]

/-- The instant of a retry is kept. -/
def otpTried (s : State) : State := s.setSec fun x => { x with otpAt := s.now }

theorem otpRetry_due (h1 : s.nv.raises ≠ []) (h2 : ¬s.now < s.sec.otpAt + 60 * 10 ^ 9) : otpRetry s =
    if !otpReady s || s.nv.lifecycle == 3 then otpTried s else
    (countersTx (.raises []) (((otpTried s).over s.nv.raises fun s p => otpNote (4 + p.1) (otpRaiseTo p.1 p.2 s)).setNv fun n => { n with raises := [] })).wb R.SEC_UPD_STAT 9 false := by
  have hc : ¬(s.nv.raises.isEmpty || decide (s.now < s.sec.otpAt + 60 * 10 ^ 9)) = true := by
    rw [decide_eq_false h2, Bool.or_false, List.isEmpty_iff]; exact h1
  exact if_neg hc

/-- A pending raise of one counter that is carried out: its record, the counter's level, and nothing pending any more. -/
structure RaiseDone (k r : Nat) (s u : State) : Prop where
  raises : u.nv.raises = []
  level : r ≤ rollbackLevel k u
  mono : rollbackLevel k s ≤ rollbackLevel k u
  shown : u.rb R.SEC_UPD_STAT 9 = false
  seq : u.rd R.SEC_AUDIT_SEQ = word ((s.rd R.SEC_AUDIT_SEQ).toNat + 1)
  len : u.sec.audit.length = s.sec.audit.length + 1

/-- The state in which pending raises are dropped, by a transaction and in SEC_UPD_STAT. -/
def raisesDropped (s : State) : State := (countersTx (.raises []) (s.setNv fun n => { n with raises := [] })).wb R.SEC_UPD_STAT 9 false

theorem raisesDropped_spec (s : State) : (raisesDropped s).nv.raises = [] ∧ (raisesDropped s).nv.otp = s.nv.otp ∧ (raisesDropped s).rb R.SEC_UPD_STAT 9 = false ∧
    (raisesDropped s).rd R.SEC_AUDIT_SEQ = s.rd R.SEC_AUDIT_SEQ ∧ (raisesDropped s).sec = s.sec := by
  have ha : Audited (s.setNv fun n => { n with raises := [] }) (countersTx (.raises []) (s.setNv fun n => { n with raises := [] })) := countersTx_audited
  obtain ⟨h1, h2⟩ := txSubmit_sec (s := s.setNv fun n => { n with raises := [] }) (owner := 2) (direct := false)
    (target := ((s.setNv fun n => { n with raises := [] }).rd (R.NVM_REGION_BASE 2)).toNat) (data := []) (act := none) (upd := .raises [])
  have h3 := h1 R.SEC_AUDIT_SEQ (by decide)
  rw [raisesDropped, countersTx] at *
  generalize (txSubmit 2 false ((s.setNv fun n => { n with raises := [] }).rd (R.NVM_REGION_BASE 2)).toNat [] none (.raises [])
    (s.setNv fun n => { n with raises := [] })).2 = y at ha h2 h3
  refine ⟨ha.of (·.nv.raises) fun _ _ _ _ => rfl, ha.otp, State.rb_wb_self (by decide), ?_, h2⟩
  rw [State.rd_wb_of_ne (by decide)]; exact h3

theorem otpRetry_one (h1 : s.nv.raises = [(k, r)]) (h2 : ¬s.now < s.sec.otpAt + 60 * 10 ^ 9) (h3 : otpReady s = true) (h4 : s.nv.lifecycle ≠ 3)
    (hr : AuditRoom s) (hl : r ≤ (rollbackField k).2) : RaiseDone k r s (otpRetry s) := by
  rw [otpRetry_due (by rw [h1]; simp) h2, if_neg (by simp [h3, h4]), h1]
  have ht : OtpRaised (otpTried s) (otpRaiseTo k r (otpTried s)) := otpRaiseTo_raised
  have hlev : r ≤ rollbackLevel k (otpRaiseTo k r (otpTried s)) := otpRaiseTo_level hl
  have hsum : ((otpTried s).over [(k, r)] fun s p => otpNote (4 + p.1) (otpRaiseTo p.1 p.2 s)) = otpNote (4 + k) (otpRaiseTo k r (otpTried s)) := rfl
  rw [hsum, otpNote]
  generalize otpRaiseTo k r (otpTried s) = y at ht hlev
  have hseq : y.rd R.SEC_AUDIT_SEQ = s.rd R.SEC_AUDIT_SEQ := ht.regs _ (by decide) (by decide) (by decide)
  have haud : y.sec.audit = s.sec.audit := congrArg (·.audit) ht.sec
  have hrec := auditAdd_recorded (actor := 3) (channel := 3) (event := 0x12) (tid := []) (x := 4 + k) (y := otpLevel (4 + k) y)
    (hr.congr haud (ht.regs _ (by decide) (by decide) (by decide)) hseq)
  generalize auditAdd 3 3 0x12 [] (4 + k) (otpLevel (4 + k) y) y = z at hrec
  change RaiseDone k r s (raisesDropped z)
  obtain ⟨d1, d2, d3, d4, d5⟩ := raisesDropped_spec z
  generalize raisesDropped z = u at d1 d2 d3 d4 d5
  have hotp : u.nv.otp = y.nv.otp := d2.trans hrec.audited.otp
  have hbit : ∀ b, y.nv.otpBit b = true → u.nv.otpBit b = true := fun b h => (otpBit_congr hotp).trans h
  refine ⟨d1, hlev.trans (rollbackLevel_mono hbit), rollbackLevel_mono fun b h => hbit b (ht.bits b h), d3, ?_, ?_⟩
  · rw [d4, hrec.seq, hseq]
  · rw [d5, hrec.len, haud]

/-! ### The reseed -/

theorem drbgReseed_idle (h1 : s.sec.draws < 2 ^ 20) (h2 : s.rb R.SEC_STATUS 2 = true) : drbgReseed good s = s := if_pos ⟨h1, h2⟩

section
variable (h : 2 ^ 20 ≤ s.sec.draws ∨ s.rb R.SEC_STATUS 2 = false)
include h

theorem drbgReseed_need : ¬(s.sec.draws < 2 ^ 20 ∧ rngOk s = true) := fun ⟨h1, h2⟩ => by
  rcases h with h | h
  · omega
  · rw [rngOk, h] at h2; exact absurd h2 (by decide)

theorem drbgReseed_good : drbgReseed true s = (s.fresh.2.wb R.SEC_STATUS 2 true).setSec fun x =>
    { x with draws := 0, drbg := drbgUpdate (bytesBE 48 (s.fresh.1 % 2 ^ 384)) x.drbg } := (if_neg (drbgReseed_need h)).trans (if_pos rfl)

theorem drbgReseed_bad : drbgReseed false s = raise Src.RNG_FAIL ((s.wb R.SEC_STATUS 2 false).irq P.SEC0 3) :=
  (if_neg (drbgReseed_need h)).trans (if_neg (by decide))

end

end Sys2Proof.Machine
end

section
/-! PROOFS. The obligation on keys, traffic keys and OTP. -/

namespace Sys2Proof.Machine

variable {s t y u : State} {n k : Nat} {a : Nat} {good : Bool}

theorem KeyDone.claims (h : KeyDone k s y u) : u.rd R.SEC_KEY_STAT = word (s.tickNum % 65536 * 65536 + 0) ∧
    (u.rd R.SEC_AUDIT_SEQ = word ((s.rd R.SEC_AUDIT_SEQ).toNat + 1) ∧ u.sec.audit.length = s.sec.audit.length + 1) ∧
    (∀ a, a ∉ [R.SEC_KEY_CMD, R.SEC_KEY_STAT, R.SEC_KEY_META k] → pageOf a ≠ P.SEC4 → pageOf a ≠ P.NVM → u.rd a = s.rd a) ∧ ∀ a, u.ld a = s.ld a :=
  ⟨h.shown, ⟨h.seq, h.len⟩, h.regs, h.mem⟩

theorem CmdWritten.rngOk (h : CmdWritten n s t) : rngOk t = s.rb R.SEC_STATUS 2 := h.only.rb (by simp)

theorem auditFull_false (h : ¬256 ≤ s.sec.audit.length) : auditFull s = false := decide_eq_false h

theorem auditFull_true (h : 256 ≤ s.sec.audit.length) : auditFull s = true := decide_eq_true h

theorem Only.otpReady (h : Only [R.SEC_OTP_CMD] [] s t) (ht : t.thm = s.thm) : otpReady t = otpReady s := by
  rw [Machine.otpReady, thmTj, ht, h.rb (by decide), Machine.otpReady, thmTj]

/-- Settles O51: each command by the branch it takes, a record as what joins the audit queue, and a raised counter as bits that are only set. -/
theorem keysTrafficKeysAndOtp : Obligations.KeysTrafficKeysAndOtp := by
  intro n i slot e w good mac s kst km rst room recorded kept full shows fails
  have hk := slot.isLt
  have he := e.isLt
  have hat : Only [] [] s (s.at n) := (Only.refl _ _ _).at
  have hroom : room → AuditRoom s := fun ⟨h1, h2, h3⟩ => ⟨h1, h2, h3⟩
  have hnf : ¬full → auditFull s = false := auditFull_false
  have hfails : ∀ {t : State} {r : Nat}, CmdWritten n s t → fails r (keyResult r t) := fun h => keyResult_fails h
  refine ⟨fun op hop hacc hf => ?_, fun hacc hf => ⟨fun h => ?_, fun h1 h2 hl => ?_, fun h1 h2 hl hr => ?_, fun h1 h2 hl hr hro => ?_⟩,
    fun hacc hins hl hf => ⟨?_, fun hro => ?_⟩, fun hacc => ⟨fun h hf => ?_, fun h hl hro => ?_⟩, fun hacc hl hro => ?_,
    fun x hacc hx => ⟨fun k hh hv => ?_, fun hh => ?_⟩, fun x hacc hx hkeys => ?_, fun x hacc hx hkeys => ?_, ?_, fun h => ?_, fun h1 h2 h3 => ?_,
    fun k r h1 h2 h3 h4 hro hk hr => ?_, fun h1 h2 => ?_, fun h => ⟨?_, ?_⟩⟩
  · have hrun : ∀ {g m : Bool} {w : Word}, s.accepts n i R.SEC_KEY_CMD w → ∃ u, gateWrite i R.SEC_KEY_CMD w (keyCmd g m) (s.at n) = u ∧ u.sec = s.sec ∧
        Only [R.SEC_KEY_CMD] [] s u := fun h => by
      obtain ⟨t, ht, hv⟩ := gateWrite_key h
      exact ⟨t, hv.trans (keyCmd_full (ht.full.trans (auditFull_true hf))), ht.sec, ht.only.mono (by simp) (by simp)⟩
    simp only [List.mem_cons, List.not_mem_nil, or_false] at hop
    rcases hop with rfl | rfl | rfl | rfl <;> dsimp only at hacc ⊢
    · rw [Nat.one_mul] at hacc
      obtain ⟨u, hu, h1, h2⟩ := hrun (g := true) (m := true) hacc
      exact ⟨u, next_congr hu, h1, h2⟩
    · rw [show 2 * 0x10000000 = 0x20000000 from by norm_num] at hacc
      obtain ⟨u, hu, h1, h2⟩ := hrun (g := good) (m := mac) hacc
      exact ⟨u, next_congr hu, h1, h2⟩
    · rw [show 3 * 0x10000000 = 0x30000000 from by norm_num] at hacc
      obtain ⟨u, hu, h1, h2⟩ := hrun (g := true) (m := true) hacc
      exact ⟨u, next_congr hu, h1, h2⟩
    · rw [show 4 * 0x10000000 = 0x40000000 from by norm_num] at hacc
      obtain ⟨u, hu, h1, h2⟩ := hrun (g := true) (m := true) hacc
      exact ⟨u, next_congr hu, h1, h2⟩
  · obtain ⟨t, ht, hv⟩ := gateWrite_key hacc
    exact ⟨_, next_congr (hv.trans ((keyCmd_generate (ht.full.trans (hnf hf)) hk).trans (if_pos h))), hfails ht⟩
  · obtain ⟨t, ht, hv⟩ := gateWrite_key hacc
    have hg : keyGenerate slot t = keyResult 2 t := (if_neg (by omega)).trans (if_pos (ht.locked.trans hl))
    exact ⟨_, next_congr (hv.trans ((keyCmd_generate (ht.full.trans (hnf hf)) hk).trans hg)), hfails ht⟩
  · obtain ⟨t, ht, hv⟩ := gateWrite_key hacc
    have hg : keyGenerate slot t = keyResult 4 t := (if_neg (by omega)).trans ((if_neg (by rw [ht.locked, hl]; decide)).trans (if_pos (by rw [ht.rngOk, hr]; rfl)))
    exact ⟨_, next_congr (hv.trans ((keyCmd_generate (ht.full.trans (hnf hf)) hk).trans hg)), hfails ht⟩
  · obtain ⟨t, ht, hv⟩ := gateWrite_key hacc
    have hd := (keyDrawn_work (k := slot) ht.work).done hk (hroom hro) (b := 1)
    have hm := keyDrawn_slot (k := slot) (s := t)
    have hdr := keyDrawn_draws (k := slot) (s := t)
    have hks := keyDrawn_keys (k := slot) (s := t)
    rw [keyCmd_generate (ht.full.trans (hnf hf)) hk, keyGenerate_drawn (by omega) (ht.locked.trans hl) (ht.rngOk.trans hr)] at hv
    generalize keyDrawn slot t = z at hd hm hdr hks hv
    obtain ⟨c1, c2, c3, c4⟩ := hd.claims
    have hmeta : ∀ u : State, u.rd km = keyMeta 5 1 2 → u.rb km 31 = true ∧ u.rf km 28 24 = 5 := fun u h => by
      rw [State.rb, State.rf, h]; decide
    obtain ⟨g1, g2⟩ := hmeta _ (hd.slot.trans hm)
    refine ⟨_, next_congr hv, c1, g1, g2, ?_, ?_, c2, c3, c4⟩
    · rw [hd.audited.draws]; exact hdr.trans (by rw [ht.sec])
    · have hdraw : (draw t).1 = (draw s).1 := by rw [draw, ht.sec, draw]
      rw [← hdraw]
      exact slotKey_of_keys (hd.audited.keys.trans hks)
  · obtain ⟨t, ht, hv⟩ := gateWrite_key hacc
    exact ⟨_, next_congr (hv.trans ((keyCmd_install (ht.full.trans (hnf hf)) hk).trans (keyInstall_bad hins (ht.locked.trans hl)))), hfails ht⟩
  · obtain ⟨t, ht, hv⟩ := gateWrite_key hacc
    have hd := (keyInstalled_work (mac := mac) (k := slot) ht.work).done hk (hroom hro) (b := 2)
    have hm := keyInstalled_valid (mac := mac) (s := t) hk
    rw [keyCmd_install (ht.full.trans (hnf hf)) hk, keyInstall_installed hins (ht.locked.trans hl)] at hv
    obtain ⟨c1, c2, c3, c4⟩ := hd.claims
    exact ⟨_, next_congr hv, c1, (congrArg (bitOf · 31) hd.slot).trans hm, c2, c3, c4⟩
  · obtain ⟨t, ht, hv⟩ := gateWrite_key hacc
    exact ⟨_, next_congr (hv.trans ((keyCmd_erase (ht.full.trans (hnf hf)) hk).trans (if_pos h))), hfails ht⟩
  · obtain ⟨t, ht, hv⟩ := gateWrite_key hacc
    have hd := (keyErased_work (k := slot) ht.work).done hk (hroom hro) (b := 3)
    rw [keyCmd_erase (ht.full.trans (hroom hro).full) hk, keyErase_erased (by omega) (ht.locked.trans hl)] at hv
    obtain ⟨c1, c2, c3, c4⟩ := hd.claims
    exact ⟨_, next_congr hv, c1, hd.slot.trans (keyErased_slot hk), c2, c3, c4⟩
  · obtain ⟨t, ht, hv⟩ := gateWrite_key hacc
    have hw : KeyWork slot s (t.wb (R.SEC_KEY_META slot) 30 true) := ht.work.wrMeta
    have hd := hw.done hk (hroom hro) (b := 4)
    rw [keyCmd_lock (ht.full.trans (hroom hro).full) hk, keyLock_locked (ht.locked.trans hl)] at hv
    obtain ⟨c1, c2, c3, c4⟩ := hd.claims
    refine ⟨_, next_congr hv, c1, hd.slot.trans ?_, c2, c3, c4⟩
    rw [State.wb, State.rd_wr_self, ht.only.regs _ (by simp)]
  · obtain ⟨t, ht, hg⟩ := gateWrite_rec hacc
    rw [recCmd_install he, recInstall_keys (ht.sessOf.trans hx) hh ((ht.only.rb (by simp)).trans hv)] at hg
    have ho : Only [] [] s (sessKeyed e (some t.fresh.1) t.fresh.2) := sessKeyed_only ht.only.record
    obtain ⟨y, hy, hky, hty⟩ := sessKeyed_sess (s := t.fresh.2) (g := some t.fresh.1) (show sessOf t.fresh.2 e = some x from ht.sessOf.trans hx)
    generalize sessKeyed e (some t.fresh.1) t.fresh.2 = z at hg ho hy
    obtain ⟨r1, r2⟩ := recResult_spec (r := 0) (by decide) ho
    exact ⟨_, next_congr hg, r1, ⟨y, hy, by rw [hky]; rfl, hty⟩, r2⟩
  · obtain ⟨t, ht, hg⟩ := gateWrite_rec hacc
    rw [recCmd_install he, recInstall_none (ht.sessOf.trans hx) hh] at hg
    obtain ⟨r1, r2⟩ := recResult_spec (r := 2) (by decide) ht.only
    exact ⟨_, next_congr hg, r1, ht.ses, r2⟩
  · obtain ⟨t, ht, hg⟩ := gateWrite_rec hacc
    rw [recCmd_update he, keyUpdate_keys (ht.sessOf.trans hx) hkeys] at hg
    have ho : Only [] [] s (sessKeyed e (some t.fresh.1) t.fresh.2) := sessKeyed_only ht.only.record
    obtain ⟨y, hy, hky, hty⟩ := sessKeyed_sess (s := t.fresh.2) (g := some t.fresh.1) (show sessOf t.fresh.2 e = some x from ht.sessOf.trans hx)
    generalize sessKeyed e (some t.fresh.1) t.fresh.2 = z at hg ho hy
    obtain ⟨r1, r2⟩ := recResult_spec (r := 0) (by decide) ho
    exact ⟨_, next_congr hg, r1, ⟨y, hy, hky.trans (congrArg (fun j => some (Config.free j)) ht.free), hty⟩, r2⟩
  · obtain ⟨t, ht, hg⟩ := gateWrite_rec hacc
    rw [recCmd_erase he, recErase_keys (ht.sessOf.trans hx) hkeys] at hg
    have ho : Only [] [] s (sessKeyed e none t) := sessKeyed_only ht.only
    obtain ⟨y, hy, hky, -⟩ := sessKeyed_sess (g := none) (ht.sessOf.trans hx)
    generalize sessKeyed e none t = z at hg ho hy
    obtain ⟨r1, r2⟩ := recResult_spec (r := 0) (by decide) ho
    exact ⟨_, next_congr hg, r1, ⟨y, hy, hky⟩, r2⟩
  · intro k v may fails hacc
    have hmay : ∀ t : State, t.nv = s.nv → (otpAllowed k v t = true ↔ may) := fun t h => by rw [otpAllowed_iff, h]
    have hres : ∀ {t : State} (r : Nat), Only [R.SEC_OTP_CMD] [] s t → fails r (t.wr R.SEC_OTP_STAT (word r)) := fun r h =>
      ⟨State.rd_wr_self .., (h.mono (by simp) (by simp)).wr (by simp)⟩
    refine ⟨fun hf => ?_, fun hf hm => ?_, fun hf hm hr => ?_, fun hf hm hr => ?_, fun hm hr hro => ?_⟩
    · obtain ⟨t, ⟨ho, hsec, -⟩, hv⟩ := gateWrite_otp (good := good) hacc
      have hft : auditFull t = true := by rw [auditFull, hsec]; exact decide_eq_true hf
      exact ⟨t, next_congr (hv.trans (otpCmd_full hft)), ho.nv, ho⟩
    · obtain ⟨t, ⟨ho, hsec, -⟩, hv⟩ := gateWrite_otp (good := good) hacc
      have hft : auditFull t = false := by rw [auditFull, hsec]; exact decide_eq_false hf
      rw [otpCmd_eq hft, ho.regs R.SEC_OTP_DATA (by decide), if_pos (Bool.eq_false_iff.2 fun h => hm ((hmay t ho.nv).1 h))] at hv
      exact ⟨_, next_congr hv, hres 1 ho⟩
    · obtain ⟨t, ⟨ho, hsec, hthm⟩, hv⟩ := gateWrite_otp (good := good) hacc
      have hft : auditFull t = false := by rw [auditFull, hsec]; exact decide_eq_false hf
      rw [otpCmd_eq hft, ho.regs R.SEC_OTP_DATA (by decide), if_neg (by rw [(hmay t ho.nv).2 hm]; decide), if_pos ((ho.otpReady hthm).trans hr)] at hv
      exact ⟨_, next_congr hv, hres 2 ho⟩
    · obtain ⟨t, ⟨ho, hsec, hthm⟩, hv⟩ := gateWrite_otp (good := false) hacc
      have hft : auditFull t = false := by rw [auditFull, hsec]; exact decide_eq_false hf
      rw [otpCmd_eq hft, ho.regs R.SEC_OTP_DATA (by decide), if_neg (by rw [(hmay t ho.nv).2 hm]; decide), if_neg (by rw [ho.otpReady hthm, hr]; decide),
        if_pos rfl] at hv
      exact ⟨_, next_congr hv, hres 3 ho⟩
    · obtain ⟨t, ⟨ho, hsec, hthm⟩, hv⟩ := gateWrite_otp (good := true) hacc
      have hft : auditFull t = false := by rw [auditFull, hsec]; exact (hroom hro).full
      rw [otpCmd_eq hft, ho.regs R.SEC_OTP_DATA (by decide), if_neg (by rw [(hmay t ho.nv).2 hm]; decide), if_neg (by rw [ho.otpReady hthm, hr]; decide),
        if_neg (by decide), otpNote] at hv
      have hd : OtpDone k v t (otpDone k v t) := otpDone_done
      have haud : (otpDone k v t).sec.audit = s.sec.audit := hd.audit.trans (by rw [hsec])
      have hseq : (otpDone k v t).rd R.SEC_AUDIT_SEQ = s.rd R.SEC_AUDIT_SEQ := hd.seq.trans (ho.regs _ (by decide))
      have hrec := auditAdd_recorded (actor := 3) (channel := 3) (event := 0x12) (tid := []) (x := otpField k) (y := otpLevel (otpField k) (otpDone k v t))
        ((hroom hro).congr haud (hd.lost.trans (ho.regs _ (by decide))) hseq)
      generalize hz : otpDone k v t = z at hd haud hseq hrec
      rw [show otpDone (bitsOf w 24 16) (s.rd R.SEC_OTP_DATA) t = z from hz] at hv
      refine ⟨_, next_congr hv, (hrec.audited.regs _ (by decide) (by decide)).trans hd.stat, ?_, fun j hj => ?_, ?_, ?_⟩
      · rw [otpWord_congr hrec.audited.otp, hd.word, ho.nv]
      · rw [otpWord_congr hrec.audited.otp, hd.others j hj, ho.nv]
      · rw [← hseq]; exact hrec.seq
      · rw [← haud]; exact hrec.len
  · exact ⟨_, next_congr (otpRetry_idle (s := s.at n) h), rfl, hat⟩
  · have hv := otpRetry_due (s := s.at n) h1 (Nat.not_lt.2 h2)
    have hc : (!otpReady (s.at n) || (s.at n).nv.lifecycle == 3) = true := by
      rcases h3 with h | h
      · rw [show otpReady (s.at n) = false from h]; rfl
      · rw [show (s.at n).nv.lifecycle = 3 from h, Bool.or_comm]; rfl
    exact ⟨_, next_congr (hv.trans (if_pos hc)), rfl, hat.record⟩
  · have hr' : AuditRoom (s.at n) := (hroom hro).congr rfl rfl rfl
    have hd := otpRetry_one (s := s.at n) h1 (Nat.not_lt.2 h2) h3 h4 hr' hr
    exact ⟨_, rfl, hd.raises, hd.level, hd.mono, hd.shown, hd.seq, hd.len⟩
  · exact ⟨_, next_congr (drbgReseed_idle (s := s.at n) h1 h2), rfl, hat⟩
  · refine ⟨_, next_congr (drbgReseed_good (s := s.at n) h), State.rb_wb_self (s := (s.at n).fresh.2) (by decide), rfl, rfl, ?_⟩
    have hx : Only [R.SEC_STATUS] [] s (s.at n).fresh.2 := (Only.refl [R.SEC_STATUS] [] s).at.record
    exact (hx.wb (by simp)).record
  · exact ⟨_, next_congr (drbgReseed_bad (s := s.at n) h), (State.rb_irq_of_ne (by decide)).trans (State.rb_wb_self (by decide)), State.rb_irq_self (by decide),
      (((hat.mono (by simp) (by simp)).wb (by simp)).irq (by simp))⟩

end Sys2Proof.Machine
end

section
/-! PROOFS. What a raising can do to the state, as a sequence of writes, block resets and chip resets: the facts about the state after `raise` are inductions
over `Runs`. -/

namespace Sys2Proof.Machine

/-- `u` is reached from `s` by writes of registers other than SEC_TOK_STAT, writes of statistics other than a tile's FRAME_CRC, resets of a page's registers,
resets of the whole chip, and changes of the blocks' own state in which a layer keeps or loses the acceptance that it has made for a later tick. -/
inductive Runs (s : State) : State → Prop
  | refl : Runs s s
  | wr {t : State} {a : Nat} {v : Word} (h : Runs s t) (ha : a ≠ R.SEC_TOK_STAT := by decide) : Runs s (t.wr a v)
  | stw {t : State} {a : Nat} {v : Word} : Runs s t → (∀ k : Fin 4, a ≠ R.SCN_STAT_FRAME_CRC k) → Runs s (t.stw a v)
  | resetRegs {t : State} {p : Nat} : Runs s t → Runs s (resetRegs p t)
  | restart {t u : State} : Runs s t → u.now = t.now → u.nv.otp = t.nv.otp → u.shadow = [] → u.stat = [] →
      (∀ n : Fin 8, u.cmp.lyr[n].after = none) → (∀ p ∈ u.regs, p.1 ≠ R.SEC_TOK_STAT) → Runs s u
  | inner {t u : State} : Runs s t → u.now = t.now → u.nv.otp = t.nv.otp → u.regs = t.regs → u.shadow = t.shadow → u.stat = t.stat →
      (∀ n : Fin 8, u.cmp.lyr[n].after = t.cmp.lyr[n].after ∨ u.cmp.lyr[n].after = none) → Runs s u

variable {s t u : State} {a n k w : Nat} {v : Word} {b : Bool}

/-! ### What such a sequence keeps -/

theorem Runs.now (h : Runs s u) : u.now = s.now := by
  induction h with
  | refl => rfl
  | wr _ _ ih => exact ih
  | stw _ _ ih => exact ih
  | resetRegs _ ih => exact ih
  | restart _ hn _ _ _ _ _ ih => exact hn.trans ih
  | inner _ hn _ _ _ _ _ ih => exact hn.trans ih

theorem Runs.otp (h : Runs s u) : u.nv.otp = s.nv.otp := by
  induction h with
  | refl => rfl
  | wr _ _ ih => exact ih
  | stw _ _ ih => exact ih
  | resetRegs _ ih => exact ih
  | restart _ _ ho _ _ _ _ ih => exact ho.trans ih
  | inner _ _ ho _ _ _ _ ih => exact ho.trans ih

theorem Runs.after (h : Runs s u) {l : Fin 8} (hs : s.cmp.lyr[l].after = none) : u.cmp.lyr[l].after = none := by
  induction h with
  | refl => exact hs
  | wr _ _ ih => exact ih
  | stw _ _ ih => exact ih
  | resetRegs _ ih => exact ih
  | restart _ _ _ _ _ ha => exact ha l
  | inner _ _ _ _ _ _ ha ih => exact (ha l).elim (·.trans ih) id

/-! ### Building one -/

/-- A change of the blocks' own state. -/
theorem Runs.upd (h : Runs s t) (hn : u.now = t.now := by rfl) (ho : u.nv.otp = t.nv.otp := by rfl) (hr : u.regs = t.regs := by rfl)
    (hs : u.shadow = t.shadow := by rfl) (hst : u.stat = t.stat := by rfl)
    (ha : ∀ l : Fin 8, u.cmp.lyr[l].after = t.cmp.lyr[l].after ∨ u.cmp.lyr[l].after = none := by exact fun _ => .inl rfl) : Runs s u :=
  h.inner hn ho hr hs hst ha

theorem Runs.ite {c : Prop} [Decidable c] (h : Runs s t) (g : Runs s u) : Runs s (if c then t else u) := by
  split <;> assumption

theorem Runs.ite2 {α : Type} {p q : α × State} {c : Prop} [Decidable c] (h : Runs s p.2) (g : Runs s q.2) : Runs s (if c then p else q).2 := by
  split <;> assumption

theorem Runs.over {α : Type} {l : List α} {f : State → α → State} (h : Runs s t) (hf : ∀ u x, Runs s u → Runs s (f u x)) : Runs s (t.over l f) := by
  induction l generalizing t with
  | nil => exact h
  | cons x l ih => exact ih (hf t x h)

theorem Runs.overMem {α : Type} {l : List α} {f : State → α → State} (h : Runs s t) (hf : ∀ u, ∀ x ∈ l, Runs s u → Runs s (f u x)) : Runs s (t.over l f) :=
  State.over_induct_mem (q := fun u => Runs s u) h hf

theorem Runs.foldl2 {α β : Type} {p : β × State} {l : List α} {f : β × State → α → β × State} (h : Runs s p.2)
    (hf : ∀ q x, Runs s q.2 → Runs s (f q x).2) : Runs s (l.foldl f p).2 := by
  induction l generalizing p with
  | nil => exact h
  | cons x l ih => exact ih (hf p x h)

/-! ### The operations of the state -/

theorem Runs.wb (h : Runs s t) (ha : a ≠ R.SEC_TOK_STAT := by decide) : Runs s (t.wb a n b) := h.wr ha

theorem Runs.wf {hi lo x : Nat} (h : Runs s t) (ha : a ≠ R.SEC_TOK_STAT := by decide) : Runs s (t.wf a hi lo x) := h.wr ha

theorem Runs.note (h : Runs s t) : Runs s (t.note a n) := h.upd

theorem Runs.event (h : Runs s t) (ha : a ≠ R.SEC_TOK_STAT := by decide) : Runs s (t.event a n) := h.note.wb ha

/-- SEC_TOK_STAT is at offset 0x1A0 of its page. -/
theorem ne_reason (h : a % 0x1000 ≠ 0x1a0) : a ≠ R.SEC_TOK_STAT := fun e => h (by rw [e]; decide)

/-- The registers of the blocks outside AON, and of a tile, a layer or a loop among them, are above SEC_TOK_STAT. -/
theorem above_reason (h : 0x40017000 ≤ a) : a ≠ R.SEC_TOK_STAT := fun e => absurd (e ▸ h) (by decide)

theorem status_ne_reason {p : Nat} : R.STATUS p ≠ R.SEC_TOK_STAT := ne_reason (by simp only [R.STATUS, R.base]; omega)

theorem Runs.irq (h : Runs s t) : Runs s (t.irq a n) := h.event (ne_reason (by simp only [R.IRQ_STAT, R.base]; omega))

theorem Runs.irqIf (h : Runs s t) : Runs s (t.irqIf b a n) := h.irq.ite h

theorem Runs.stampHi (h : Runs s t) (ha : a ≠ R.SEC_TOK_STAT := by decide) : Runs s (t.stampHi a) := h.wf ha

theorem Runs.fresh (h : Runs s t) : Runs s t.fresh.2 := h.upd

theorem Runs.defer (h : Runs s t) : Runs s (t.defer n) := h.upd

theorem Runs.busOk (h : Runs s t) : Runs s t.busOk := h.upd

theorem Runs.busErr (h : Runs s t) : Runs s t.busErr := h.upd

theorem Runs.clearErr (h : Runs s t) : Runs s (t.clearErr a n) := h.upd

theorem Runs.put {l : List Nat} (h : Runs s t) : Runs s (t.put a l) := by
  have hb : Runs s (t.stBytes a l) := by
    induction l generalizing t a with
    | nil => exact h
    | cons x l ih => exact ih h.upd
  exact hb.clearErr

theorem Runs.setTile {j : Fin 4} {f : TileSt → TileSt} (h : Runs s t) : Runs s (t.setTile j f) := h.upd

theorem Runs.setSlot {j : Fin 16} {f : LoopSt → LoopSt} (h : Runs s t) : Runs s (t.setSlot j f) := h.upd

theorem Runs.stAdd {hi lo x : Nat} (h : Runs s t) (ha : ∀ k : Fin 4, a ≠ R.SCN_STAT_FRAME_CRC k) : Runs s (t.stAdd a hi lo x) := h.stw ha

theorem Runs.wrWords {l : List Nat} (h : Runs s t) (ha : a + 4 * l.length ≤ R.SEC_TOK_STAT ∨ R.SEC_TOK_STAT < a) : Runs s (t.wrWords a l) := by
  induction l generalizing t a with
  | nil => exact h
  | cons x l ih =>
    rw [List.length_cons] at ha
    exact ih (h.wr (by omega)) (by omega)

/-- No page's first statistic is a tile's FRAME_CRC. -/
theorem stat_ne_frameCrc {p : Nat} (j : Fin 4) : R.STAT p 0 ≠ R.SCN_STAT_FRAME_CRC j := by
  have hj := j.isLt
  simp only [R.STAT, R.SCN_STAT_FRAME_CRC, R.base]
  omega

/-! ### Memory, its errors and the checks -/

theorem Runs.recordBus {i : Init} (h : Runs s t) : Runs s (recordBus k i a b t) := h.wr.wr

theorem Runs.ueNote (h : Runs s t) : Runs s (ueNote n a t).2 := h.fresh.wr.wr.irq

theorem Runs.ceNote (h : Runs s t) : Runs s (ceNote n a t).2 := by
  have hf : Runs s t.fresh.2 := h.fresh
  unfold Machine.ceNote
  generalize t.fresh = x at hf
  obtain ⟨y, z⟩ := x
  dsimp only at hf ⊢
  have hc : Runs s (if regionOf a = .emram then z else { z with ce := z.ce.filter (fun w => w != a / 8) }) := hf.ite hf.upd
  generalize (if regionOf a = .emram then z else { z with ce := z.ce.filter (fun w => w != a / 8) }) = z at hc ⊢
  have hz := ((hc.wr (a := R.NVM_CE_ADDR) (v := word a)).wr (a := R.NVM_CE_INFO) (v := word (memCode a * 2 ^ 24 + n * 65536 + y % 256))).irq (a := P.NVM) (n := 2)
  split
  · exact hz
  · exact (Runs.ite hz.upd hz).stAdd stat_ne_frameCrc
  · exact hz.stAdd stat_ne_frameCrc

/-- What a stopped write leaves. -/
theorem Runs.stopNote {i : Init} {st : WriteStop} (h : Runs s t) : Runs s (stopNote i a st t).2 := by
  cases st with
  | decode => exact h.busErr.recordBus
  | denied => exact h.busErr.recordBus
  | bus => exact h.busErr
  | off => exact h.busOk.recordBus
  | engine => exact h.busOk.recordBus
  | firewall e => exact h.wr.wr.irq.busErr
  | list k => exact h.wr.busErr
  | rmap => exact h.busErr
  | sched => exact h.irq.busErr
  | word w => exact h.ueNote.busErr

theorem Runs.guardedPut {i : Init} {l : List Nat} {part : Option Nat} (h : Runs s t) : Runs s (guardedPut i a l part t).2 := by
  unfold Machine.guardedPut
  split
  · exact h.put
  · have hs := h.stopNote (i := i) (a := a) (st := ‹_›)
    extract_lets x
    have hx : Runs s (match x.1 with | some n => x.2.defer n | none => x.2) := by
      split
      · exact hs.defer
      · exact hs
    exact hx.upd

theorem Runs.guardedRead {i : Init} (h : Runs s t) : Runs s (guardedRead i a n t).2 := by
  unfold Machine.guardedRead
  split
  · exact h.over fun _ _ hu => hu.ceNote.defer
  · exact h.recordBus.defer
  · exact h.recordBus.defer
  · exact h
  · exact h.ueNote.defer

theorem Runs.ctxEnd {c : Nat} (h : Runs s t) : Runs s (ctxEnd n c t) := by
  unfold Machine.ctxEnd crcVerdict
  have hstat : R.CRC_CTX_STAT n c ≠ R.SEC_TOK_STAT := above_reason (by simp only [R.CRC_CTX_STAT]; omega)
  have hx := (h.wr (a := R.CRC_CTX_COUNT n c) (v := 0#32) (above_reason (by simp only [R.CRC_CTX_COUNT]; omega))).irq (a := P.CRC n) (n := 2)
  exact Runs.ite (Runs.ite (hx.wf hstat) (hx.wf hstat).irq.defer) hx

theorem Runs.crcTake {c x : Nat} (h : Runs s t) : Runs s (crcTake n c t x) := by
  unfold Machine.crcTake setRun
  extract_lets x m y
  have hx : Runs s x := (h.wr (above_reason (by simp only [R.CRC_CTX_RUN]; omega))).wr (above_reason (by simp only [R.CRC_CTX_RESULT]; omega))
  have hy : Runs s y := hx.wr (above_reason (by simp only [R.CRC_CTX_COUNT]; omega))
  exact hy.ctxEnd.ite hy

theorem Runs.crcBytesIn {c : Nat} {l : List Nat} (h : Runs s t) : Runs s (crcBytesIn n c l t) :=
  ((h.stAdd stat_ne_frameCrc).over fun _ _ hu => hu.crcTake).ite h

/-! ### The data mover -/

theorem Runs.moveByte {c : Fin 4} {d : Desc} (h : Runs s t) : Runs s (moveByte c d k t).2 := by
  unfold Machine.moveByte
  have hr : Runs s (if d.op = 1 then ((none : Option ReadStop), t) else Machine.guardedRead (.dmv c) (d.srcAt k) 1 t).2 := h.ite2 h.guardedRead
  generalize (if d.op = 1 then ((none : Option ReadStop), t) else Machine.guardedRead (.dmv c) (d.srcAt k) 1 t) = r at hr
  obtain ⟨st, r⟩ := r
  dsimp only at hr ⊢
  have hx : Runs s (if d.op ≠ 1 ∧ regionOf (d.srcAt k) = .xspi then r.stAdd (R.STAT P.XSPI 0) 31 0 1 else r) := (hr.stAdd stat_ne_frameCrc).ite hr
  generalize (if d.op ≠ 1 ∧ regionOf (d.srcAt k) = .xspi then r.stAdd (R.STAT P.XSPI 0) 31 0 1 else r) = x at hx
  refine Runs.ite2 hr ?_
  have hp := hx.guardedPut (i := .dmv c) (a := d.dstAt k) (l := [descByte d k x]) (part := linePart d k x)
  generalize Machine.guardedPut (.dmv c) (d.dstAt k) [descByte d k x] (linePart d k x) x = p at hp
  obtain ⟨stop, y⟩ := p
  dsimp only at hp ⊢
  split <;> rename_i hstop <;> cases hstop
  · exact hp
  · exact hp
  · exact hp.clearErr.ite hp

theorem Runs.transfer {c : Fin 4} {d : Desc} (h : Runs s t) : Runs s (transfer c d n k t).2.2 := by
  induction n generalizing k t with
  | zero => exact h
  | succ n ih =>
    have hm : Runs s (Machine.moveByte c d k t).2 := h.moveByte
    rw [Machine.transfer]
    generalize Machine.moveByte c d k t = m at hm ⊢
    split
    · exact hm
    · exact ih (hm.crcBytesIn.ite hm)

theorem Runs.looseBytes {c : Fin 4} {d : Desc} (h : Runs s t) : Runs s (looseBytes c d n k t) := by
  induction n generalizing k t with
  | zero => exact h
  | succ n ih => exact ih (h.fresh.moveByte.ite h.fresh)

theorem Runs.abortDesc {c : Fin 4} (h : Runs s t) : Runs s (abortDesc c n k t) := by
  unfold Machine.abortDesc
  extract_lets da d m o x y
  have hy : Runs s y := h.transfer.looseBytes
  exact h.ite (hy.guardedPut.ite hy)

theorem Runs.dmvReset {c : Fin 4} (h : Runs s t) : Runs s (dmvReset c t) := by
  have ha : ∀ m j, Runs s (dmvAbort c m j t.fresh.2.fresh.2) := fun m j => by
    have hf : Runs s t.fresh.2.fresh.2 := h.fresh.fresh
    unfold dmvAbort
    exact (Runs.upd (hf.abortDesc.ite hf)).resetRegs
  exact ha _ _

/-! ### Commit groups -/

theorem Runs.cancelByReset (h : Runs s t) : Runs s (cancelByReset n t) := by
  have hm : ∀ (u : State) (p r : Nat) (l d : Bool), Runs s u → Runs s (endMember p r l d u) := fun u p r l d hu => by
    unfold endMember setCommitStat
    have hc : R.COMMIT p ≠ R.SEC_TOK_STAT := ne_reason (by simp only [R.COMMIT, R.base]; omega)
    exact (((hu.wb hc).wb hc).ite (hu.wb hc)).wr (ne_reason (by simp only [R.COMMIT_STAT, R.base]; omega))
  have hg : Runs s (cancelGroup (groupOf n t) n t) := by
    unfold cancelGroup endGroup
    extract_lets ok x w y
    have hx : Runs s x := h.over fun u p hu => hm u _ _ _ _ hu
    have hst : ∀ g : Fin 16, R.SYS_CG_STAT g ≠ R.SEC_TOK_STAT := by decide
    have hy : Runs s y := (hx.wr (hst _)).wb
    exact Runs.irqIf hy.upd
  exact hg.ite h

/-! ### Block resets -/

theorem Runs.setLoop {j : Fin 16} {st c : Nat} (h : Runs s t) : Runs s (setLoop j st c t) := by
  unfold Machine.setLoop
  extract_lets x y z
  have hy : Runs s y := (((h.wf status_ne_reason).wf status_ne_reason).wb status_ne_reason).wb status_ne_reason
  have hz : Runs s z := hy.ite hy.setSlot
  have hi : ∀ u, Runs s u → Runs s (pwmIdle j u) := fun u hu => hu.over fun x o hx => by
    dsimp only
    exact Runs.ite (Runs.wb hx.upd) hx
  have he : R.CTL_LOOP_EST j ≠ R.SEC_TOK_STAT := above_reason (by simp only [R.CTL_LOOP_EST]; omega)
  exact (hi _ (hz.wb he)).ite (hz.wb he)

theorem Runs.injEnd {j : Fin 16} (h : Runs s t) : Runs s (injEnd j n t) :=
  ((h.wr (above_reason (by simp only [R.CTL_LOOP_INJ_STAT]; omega))).wb status_ne_reason).setSlot.irq.ite h

theorem Runs.capTrigger {j : Fin 16} (h : Runs s t) : Runs s (capTrigger j n t) := by
  unfold Machine.capTrigger
  extract_lets x c m y
  have hy : Runs s y := h.setSlot
  have hstop : Runs s (capStop j y) := ((hy.wb (above_reason (by simp only [R.CTL_LOOP_CAP_WR]; omega))).wb status_ne_reason).setSlot.irq
  exact h.ite ((hstop.ite hy).ite h.setSlot)

theorem Runs.loopHold {j : Fin 16} (h : Runs s t) : Runs s (loopHold j n t) := h.setLoop.irq.setSlot.injEnd.capTrigger.ite h

theorem Runs.hartReset (h : Runs s t) : Runs s (hartReset n k t) :=
  Runs.upd (Runs.upd (h.wr (a := R.base n + 0x108) (ne_reason (by simp only [R.base]; omega))))

theorem Runs.tileLost {j : Fin 4} (h : Runs s t) : Runs s (tileLost j t) := by
  have hd : ∀ u, Runs s u → Runs s (dropCtrl j u) := fun u hu => by
    unfold dropCtrl
    exact ((hu.wf (above_reason (by simp only [R.SPL_CTRL_STAT]; omega))).ite hu).setTile
  have hx : Runs s (dropCtrl j { t with nrg := { t.nrg with up := t.nrg.up - (if t.nrg.up.testBit j then 2 ^ j.val else 0) } }) := hd _ h.upd
  have hu : Runs s (leaveUp j t) := by
    unfold leaveUp
    exact (((hx.wb status_ne_reason).wb status_ne_reason).wf status_ne_reason).setTile
  exact (((hu.wf status_ne_reason).setTile).wr).wr

theorem Runs.setLyr {j : Fin 8} {f : LyrSt → LyrSt} (h : Runs s t) (hf : ∀ l, (f l).after = l.after ∨ (f l).after = none) : Runs s (setLyr j f t) := by
  refine h.upd (ha := fun i => ?_)
  unfold Machine.setLyr
  dsimp only
  by_cases hij : j = i
  · subst hij
    simpa using hf _
  · left
    simp [Vector.getElem_set_ne, Fin.val_ne_of_ne hij]

theorem Runs.setBufState {st : BufState} (h : Runs s t) : Runs s (setBufState n st t) := Runs.wf (Runs.upd h) (above_reason (by simp only [R.BUF_STATES]; omega))

theorem Runs.dropPending {j : Fin 8} (h : Runs s t) : Runs s (dropPending j t) := by
  have hl : ∀ u, Runs s u → Runs s (leaveArms j u) := fun u hu => hu.over fun x g hx => by
    dsimp only
    have hy : Runs s { x with cmp := { x.cmp with arms := x.cmp.arms.set g ((x.cmp.arms[g]).filter (· != j.val)) } } := hx.upd
    exact (hy.wb.ite hy).ite hx
  unfold Machine.dropPending
  split
  · exact h
  · extract_lets x y c
    have hx : Runs s x := h.ite h.setBufState
    have hy : Runs s y := hx.setLyr fun _ => .inl rfl
    have hf : R.LYR_FLIP_STAT j ≠ R.SEC_TOK_STAT := above_reason (by simp only [R.LYR_FLIP_STAT]; omega)
    exact hl _ (((hy.wb hf).wf hf).wf hf)

theorem Runs.layerLost {j : Fin 8} (h : Runs s t) : Runs s (layerLost j t) := by
  unfold Machine.layerLost
  extract_lets x c cur acc
  exact h.dropPending.setLyr fun _ => .inr rfl

theorem Runs.sclLost {j : Fin 4} (h : Runs s t) : Runs s (sclLost j t) := by
  have hset : ∀ u, Runs s u → Runs s (settleRetires u) := fun u hu => by
    unfold settleRetires
    extract_lets ready ev c x
    have hx : Runs s x := hu.upd
    exact hx.over fun _ _ hy => (hy.setBufState.event (above_reason (by simp only [R.BUF_RETIRED]; omega))).irq
  unfold Machine.sclLost
  split
  · exact h
  · rename_i p _
    have hu : Runs s { t with cmp := { t.cmp with scl := t.cmp.scl.set j none } } := h.upd
    exact hset _ ((Runs.upd hu.setBufState).ite hu)

theorem Runs.vinLost {j : Fin 2} (h : Runs s t) : Runs s (vinLost j t) := by
  unfold Machine.vinLost
  extract_lets os fs v u
  have hu : Runs s u := h.upd
  have hl : Runs s (lookResult 0 3 u) := (Runs.upd ((hu.wr (a := R.LOOK_RES)).wb (a := R.STATUS P.LOOK))).irq.irqIf
  exact hl.ite hu

/-- At reset no layer has accepted a flip for a later tick. -/
theorem resetAfter (l : Fin 8) : State.reset.cmp.lyr[l].after = none := by
  show (Vector.replicate 8 LyrSt.reset)[l].after = none
  simp [LyrSt.reset]

theorem Runs.resetInner (h : Runs s t) : Runs s (resetInner n t) := by
  unfold Machine.resetInner
  split
  · exact h.dmvReset
  refine Runs.ite (h.over fun _ _ hu => hu.dmvReset) ?_
  split
  · exact h.tileLost
  · exact h.tileLost
  split
  · exact h.layerLost
  · exact h.sclLost
  · exact h.vinLost
  · exact h.setLoop.setSlot
  refine Runs.ite h.upd (Runs.ite h.irqIf (Runs.ite h.upd (Runs.ite h.upd (Runs.ite h.upd (Runs.ite h.upd (Runs.ite h.upd (Runs.ite ?_
    (Runs.ite h.upd (Runs.ite ?_ h)))))))))
  · exact h.over fun _ _ hu => hu.ite hu.injEnd.setLoop
  · exact h.over fun _ _ hu => hu.setTile.wb status_ne_reason

theorem length_wordsOf_otp {x : NvSt} {lo m : Nat} : (wordsOf (x.otpBytes lo m)).length = cdiv m 4 := by
  rw [wordsOf, List.length_map, List.length_range, NvSt.otpBytes, List.length_map, List.length_range]

theorem length_wordsOf_root {x : NvSt} {r : Nat} : (wordsOf (x.root r)).length ≤ 8 := by
  unfold NvSt.root
  split
  · rw [length_wordsOf_otp]; decide
  · split
    · rw [wordsOf, List.length_map, List.length_range, List.length_take, cdiv, if_neg (by decide)]; omega
    · decide

theorem Runs.otpShow (h : Runs s t) : Runs s (otpShow t) := by
  unfold Machine.otpShow
  extract_lets v x y
  have hx : Runs s x := h.over fun _ _ hu => hu.wr (above_reason (by simp only [R.SEC_OTP]; omega))
  have hl : R.SEC_UID 0 + 4 * (wordsOf v.uid).length ≤ R.SEC_TOK_STAT := by rw [NvSt.uid, length_wordsOf_otp]; decide
  exact ((hx.wrWords (.inl hl)).wr).wr

theorem Runs.nvShow (h : Runs s t) : Runs s (nvShow t) := by
  unfold Machine.nvShow
  extract_lets v c x y z last w
  have hx : Runs s x := h.upd
  have hr : ∀ r : Fin 3, R.SEC_FLOOR_LO r ≠ R.SEC_TOK_STAT ∧ R.SEC_FLOOR_HI r ≠ R.SEC_TOK_STAT ∧ R.SEC_ROOT_HASH r 0 + 4 * 8 ≤ R.SEC_TOK_STAT := by decide
  have hy : Runs s y := hx.overMem fun u r hm hu => by
    obtain ⟨h1, h2, h3⟩ := hr ⟨r, by simpa using (by decide : ∀ r ∈ [0, 1, 2], r < 3) r hm⟩
    have hl : (wordsOf (v.root r)).length ≤ 8 := length_wordsOf_root
    exact ((hu.wr h1).wr h2).wrWords (.inl (by dsimp only at h3 ⊢; omega))
  exact (((hy.wr.wr).wf).wr.wr).wrWords (.inr (by decide))

theorem Runs.blockReset (h : Runs s t) : Runs s (blockReset n t) := by
  unfold Machine.blockReset
  extract_lets x y z l
  have hx : Runs s x := h.over fun _ _ hu => hu.wb (above_reason (by simp only [plicPendAddr]; omega))
  have hy : Runs s y := hx.cancelByReset.resetInner.resetRegs
  have hz : Runs s z := hy.nvShow.otpShow.ite hy
  exact Runs.upd (Runs.upd hz)

theorem Runs.otpLoad (h : Runs s t) : Runs s (otpLoad t) := by
  unfold Machine.otpLoad
  have hall : ∀ a ∈ [R.NET_MAC_LO, R.NET_MAC_HI, R.PORT_LAT 0, R.PORT_LAT 1, R.PORT_LAT 2] ++ (List.range 4).map R.PWR_VCODE, a ≠ R.SEC_TOK_STAT := by decide
  exact h.ite (h.overMem fun _ a ha hu => hu.wr (hall a ha))

theorem Runs.chipReset {c : Nat} (h : Runs s t) : Runs s (chipReset c n t) := by
  unfold Machine.chipReset
  extract_lets x y r z w e1 e2 e3 p q
  have hx : Runs s x := h.wr.wr
  have hy : Runs s y := hx.upd
  have hk : ∀ q ∈ skeep aonKeep y.regs, q.1 ≠ R.SEC_TOK_STAT := fun q hq e => by
    have := (List.mem_filter.1 hq).2
    rw [e] at this
    exact absurd this (by decide)
  have hp : Runs s p := Runs.otpShow (Runs.nvShow (hy.restart rfl rfl rfl rfl (fun l => resetAfter l) hk))
  have hq : Runs s q := hp.otpLoad
  clear_value q
  exact hq.upd

/-! ### The fault collector -/

theorem Runs.logEvent (h : Runs s t) : Runs s (logEvent n k t) := by
  unfold Machine.logEvent
  extract_lets w r c x y z
  have hw : w < 256 := Nat.mod_lt _ (by decide)
  have ha : R.FLT_LOG_A w ≠ R.SEC_TOK_STAT := by simp only [R.FLT_LOG_A, R.SEC_TOK_STAT]; omega
  have hb : R.FLT_LOG_B w ≠ R.SEC_TOK_STAT := by simp only [R.FLT_LOG_B, R.SEC_TOK_STAT]; omega
  have hz : Runs s z := (((h.wr ha).wr hb).wr).wr
  exact hz.wf.irq.ite hz

theorem srcStat_ne_reason : R.FLT_SRC_STAT n ≠ R.SEC_TOK_STAT := ne_reason (by simp only [R.FLT_SRC_STAT]; omega)

theorem srcWin_ne_reason : R.FLT_SRC_WIN n ≠ R.SEC_TOK_STAT := ne_reason (by simp only [R.FLT_SRC_WIN]; omega)

theorem Runs.conseqEvent (h : Runs s t) : Runs s (conseqEvent n t) :=
  (((h.event srcStat_ne_reason).stampHi srcStat_ne_reason).stAdd stat_ne_frameCrc).logEvent

theorem Runs.resetBlock (h : Runs s t) : Runs s (resetBlock n t) := by
  unfold Machine.resetBlock
  extract_lets x down y
  have hx : Runs s x := h.blockReset
  have hy : Runs s y := Runs.ite hx.conseqEvent (Runs.ite hx.conseqEvent hx)
  refine Runs.ite h ?_
  split
  · exact hy.conseqEvent.ite hy
  · exact hy

theorem Runs.resetFor (h : Runs s t) : Runs s (resetFor n t) := by
  unfold Machine.resetFor
  refine h.ite ?_
  split
  · exact h
  refine Runs.ite h.hartReset (Runs.ite h.hartReset (Runs.ite h.hartReset ?_))
  split
  · exact h.loopHold
  · exact h.resetBlock

theorem Runs.reactErr (h : Runs s t) : Runs s (reactErr t) := by
  unfold Machine.reactErr
  have hw : Runs s (t.wb R.FLT_ERR 0 true) := h.wb
  extract_lets x c y
  have hy : Runs s y := hw.upd
  exact hy.ite hy.upd

theorem Runs.react (h : Runs s t) : Runs s (react n k t) := by
  unfold Machine.react
  extract_lets x c y z
  have hx : Runs s x := h.irqIf
  have hy : Runs s y := Runs.ite hx.upd hx
  have hz : Runs s z := hy.resetFor.ite hy
  exact hz.reactErr.ite hz

theorem Runs.countEvent (h : Runs s t) : Runs s (countEvent n t) := by
  unfold Machine.countEvent
  extract_lets cnt t0 x c
  have hx : Runs s x := h.wf srcWin_ne_reason
  clear_value x
  exact Runs.ite hx.upd (h.wf srcWin_ne_reason)

theorem Runs.realEvent (h : Runs s t) : Runs s (realEvent n t).2 := by
  unfold Machine.realEvent
  have hu : Runs s (unack n t) := (h.wb srcStat_ne_reason).ite h
  have hc : Runs s (Machine.countEvent n (unack n t)) := hu.countEvent
  extract_lets x severe base esc lvl a w w' y z q
  have hy : Runs s y := ((Runs.note (Runs.ite hc.note hc)).wr srcStat_ne_reason).stampHi srcStat_ne_reason
  exact (hy.stAdd stat_ne_frameCrc).logEvent.wr.react

theorem Runs.forcedEvent (h : Runs s t) : Runs s (forcedEvent n t).2 :=
  ((h.note.wr srcStat_ne_reason).stampHi srcStat_ne_reason).logEvent.react

/-- One raising: nothing, a consequential event, or an event of its own. -/
theorem Runs.handle {r : Raising} (h : Runs s t) : Runs s (handle r t).2 := by
  unfold Machine.handle
  have hf : Runs s (if r.forced then t.event (R.FLT_SRC_STAT r.src) 2 else t) := (h.event srcStat_ne_reason).ite h
  refine Runs.ite2 h (Runs.ite2 ?_ (Runs.ite2 (Runs.ite2 (h.event srcStat_ne_reason) h.forcedEvent) h))
  exact Runs.ite2 hf (Runs.ite2 hf.conseqEvent hf.realEvent)

theorem Runs.raiseCycle {l : List Raising} (h : Runs s t) : Runs s (raiseCycle l t) := by
  unfold Machine.raiseCycle
  extract_lets o
  have ho : Runs s o.2 := Runs.foldl2 h fun _ _ hq => hq.handle
  split
  · exact ho.chipReset
  · exact ho

theorem Runs.settle (h : Runs s t) : Runs s (settle t) := by
  unfold Machine.settle
  split
  · exact h
  · exact Runs.raiseCycle h.upd

theorem Runs.raise (h : Runs s t) : Runs s (raise n t) := h.raiseCycle.settle

/-- A write of an engine, with what it raises. -/
theorem Runs.engineWrite {i : Init} {l : List Nat} (h : Runs s t) : Runs s (engineWrite i a l t).2 := h.guardedPut.settle

end Sys2Proof.Machine
end

section
/-! PROOFS. The obligation on the commit deadline. -/

namespace Sys2Proof.Machine

variable {s t u : State} {n : Fin 8} {r : FlipReq}

/-! ### The steps of the deadline -/

/-- Layer `n` shows its consecutive deferrals. -/
def showDeferral (s : State) (n : Fin 8) : State := s.stSet (R.STAT (P.LYR n) 0) 15 8 (s.rf (R.LYR_FLIP_STAT n) 27 20)

/-- The layers show their consecutive deferrals. -/
def showDeferrals (s : State) : State := s.over (List.finRange 8) showDeferral

/-- No layer has a request that waits for an acceptance. -/
def noneAfter (s : State) : Prop := ∀ n : Fin 8, s.cmp.lyr[n].after = none

theorem postAfter_none (h : noneAfter s) (l : List (Fin 8)) : s.over l postAfter = s := by
  induction l with
  | nil => rfl
  | cons n l ih =>
    have hn : postAfter s n = s := by rw [postAfter, h n]
    calc s.over (n :: l) postAfter = (postAfter s n).over l postAfter := rfl
      _ = s := by rw [hn, ih]

/-- What the evaluated requests bring about: accepted or deferred, fences consumed, armed groups left. -/
def flipsJudged (ev : List (Fin 8 × FlipReq × Bool)) (s : State) : State :=
  ((s.over ev fun s x => if x.2.2 then acceptFlip x.1 x.2.1 s else deferFlip x.1 s).over ev fun s x =>
    if x.2.2 && x.2.1.fenceEn then consumeFence x.2.1.fence s else s).over ev fun s x => if x.2.2 then leaveArms x.1 s else s

theorem flipDeadline_eq (h : noneAfter (flipsJudged (evaluated s) s)) : flipDeadline s = showDeferrals (flipsJudged (evaluated s) s) :=
  congrArg showDeferrals (postAfter_none h _)

/-- The fence of an accepted request is consumed. -/
def fenceTaken (r : FlipReq) (s : State) : State := if r.fenceEn then consumeFence r.fence s else s

/-- What an accepted flip leaves. -/
def flipAccepted (n : Fin 8) (r : FlipReq) (s : State) : State := leaveArms n (fenceTaken r (acceptFlip n r s))

theorem flipsJudged_nil : flipsJudged [] s = s := rfl

theorem flipsJudged_accept : flipsJudged [(n, r, true)] s = flipAccepted n r s := by
  simp only [flipsJudged, State.over, List.foldl_cons, List.foldl_nil, if_true, Bool.true_and, flipAccepted, fenceTaken]

theorem flipsJudged_defer : flipsJudged [(n, r, false)] s = deferFlip n s := by
  simp only [flipsJudged, State.over, List.foldl_cons, List.foldl_nil, Bool.false_eq_true, if_false, Bool.false_and]

/-! ### The deferral statistics -/

/-- The statistics that a deadline writes. -/
def deferralStats : List Nat := (List.finRange 8).map fun n : Fin 8 => R.STAT (P.LYR n) 0

theorem lyrStat_inj {m : Fin 8} (h : R.STAT (P.LYR n) 0 = R.STAT (P.LYR m) 0) : n = m := by
  simp only [R.STAT, R.base, P.LYR] at h
  omega

theorem lyrStat_mem (n : Fin 8) : R.STAT (P.LYR n) 0 ∈ deferralStats := List.mem_map_of_mem (List.mem_finRange n)

/-- What the statistics alone leave as it was. -/
theorem showDeferrals_kept (s : State) : (showDeferrals s).now = s.now ∧ (showDeferrals s).cmp = s.cmp ∧ (showDeferrals s).pat = s.pat ∧
    (∀ a, (showDeferrals s).rd a = s.rd a) ∧ Only [] deferralStats s (showDeferrals s) := by
  refine State.over_induct (q := fun u => u.now = s.now ∧ u.cmp = s.cmp ∧ u.pat = s.pat ∧ (∀ a, u.rd a = s.rd a) ∧ Only [] deferralStats s u)
    ⟨rfl, rfl, rfl, fun _ => rfl, .refl _ _ _⟩ fun u m ⟨h1, h2, h3, h4, h5⟩ => ⟨h1, h2, h3, h4, h5.stSet (lyrStat_mem m)⟩

theorem showDeferral_st_self : (showDeferral s n).st (R.STAT (P.LYR n) 0) = putBits (s.st (R.STAT (P.LYR n) 0)) 15 8 (s.rf (R.LYR_FLIP_STAT n) 27 20) :=
  State.st_stw_self _ _ _

theorem showDeferral_st_of_ne {m : Fin 8} (h : n ≠ m) : (showDeferral s m).st (R.STAT (P.LYR n) 0) = s.st (R.STAT (P.LYR n) 0) :=
  State.st_stw_of_ne _ (fun e => h (lyrStat_inj e)) _

theorem over_showDeferral_notMem {l : List (Fin 8)} (h : n ∉ l) : (s.over l showDeferral).st (R.STAT (P.LYR n) 0) = s.st (R.STAT (P.LYR n) 0) :=
  State.over_induct_mem (q := fun x => x.st (R.STAT (P.LYR n) 0) = s.st (R.STAT (P.LYR n) 0)) rfl fun _ m hm hx =>
    (showDeferral_st_of_ne fun e => h (by rw [e]; exact hm)).trans hx

theorem over_showDeferral_mem {l : List (Fin 8)} (hd : l.Nodup) (h : n ∈ l) : (s.over l showDeferral).st (R.STAT (P.LYR n) 0) =
    putBits (s.st (R.STAT (P.LYR n) 0)) 15 8 (s.rf (R.LYR_FLIP_STAT n) 27 20) := by
  induction l generalizing s with
  | nil => exact absurd h List.not_mem_nil
  | cons m l ih =>
    obtain ⟨hm, hl⟩ := List.nodup_cons.1 hd
    by_cases hnm : n = m
    · subst hnm
      exact (over_showDeferral_notMem hm).trans showDeferral_st_self
    · exact (ih (s := showDeferral s m) hl ((List.mem_cons.1 h).resolve_left hnm)).trans (by rw [showDeferral_st_of_ne hnm]; rfl)

theorem showDeferrals_stat (n : Fin 8) (s : State) : (showDeferrals s).st (R.STAT (P.LYR n) 0) =
    putBits (s.st (R.STAT (P.LYR n) 0)) 15 8 (s.rf (R.LYR_FLIP_STAT n) 27 20) := over_showDeferral_mem (List.nodup_finRange 8) (List.mem_finRange n)

/-! ### The accepted flip -/

/-- A buffer's new state where the request is no release. -/
def bufTaken (r : FlipReq) (s : State) : State := if r.release then s else setBufState r.buf .scanning s

/-- The layer's record and registers after an acceptance. -/
def flipShown (n : Fin 8) (r : FlipReq) (s : State) : State :=
  ((((setLyr n (fun l => { l with pend := none, acc := some (if r.release then none else some r.buf) }) s).wf (R.LYR_FLIP_STAT n) 31 28 1).wb
    (R.LYR_FLIP_STAT n) 16 false).wf (R.LYR_FLIP_STAT n) 15 8 0).wf (R.LYR_FLIP_STAT n) 27 20 0

theorem acceptFlip_eq : acceptFlip n r s = ((flipShown n r (bufTaken r s)).stAdd (R.STAT P.CMP 0) 15 0 1).stSet (R.STAT (P.LYR n) 0) 0 0 1 := rfl

theorem bufTaken_only {l m : List Nat} (h : Only l m s t) (hb : R.BUF_STATES (r.buf / 8) ∈ l) : Only l m s (bufTaken r t) :=
  h.ite (setBufState_only h hb)

theorem bufTaken_kept : (bufTaken r s).cmp.lyr = s.cmp.lyr ∧ (bufTaken r s).cmp.arms = s.cmp.arms ∧ (bufTaken r s).now = s.now ∧ (bufTaken r s).evt = s.evt ∧
    (bufTaken r s).pat = s.pat ∧ ∀ e, e ≠ r.buf → (bufTaken r s).buf e = s.buf e := by
  unfold bufTaken
  split
  · exact ⟨rfl, rfl, rfl, rfl, rfl, fun _ _ => rfl⟩
  · exact ⟨rfl, rfl, rfl, rfl, rfl, fun e he => setBufState_buf_of_ne he⟩

theorem bufTaken_state (h : r.release = false) : ((bufTaken r s).buf r.buf).state = .scanning := by
  rw [bufTaken, h, if_neg Bool.false_ne_true, setBufState_buf_self]

theorem acceptFlip_only {l m : List Nat} (h : Only l m s t) (ha : R.LYR_FLIP_STAT n ∈ l) (hb : R.BUF_STATES (r.buf / 8) ∈ l) (hc : R.STAT P.CMP 0 ∈ m)
    (hn : R.STAT (P.LYR n) 0 ∈ m) : Only l m s (acceptFlip n r t) :=
  Only.stSet (Only.stAdd ((((setLyr_only (bufTaken_only h hb)).wf ha).wb ha |>.wf ha).wf ha) hc) hn

/-- What an acceptance leaves beside its registers. -/
structure FlipTaken (n : Fin 8) (r : FlipReq) (s t : State) : Prop where
  pend : (t.cmp.lyr[n]).pend = none
  acc : (t.cmp.lyr[n]).acc = some (if r.release then none else some r.buf)
  after : (t.cmp.lyr[n]).after = (s.cmp.lyr[n]).after
  layers : ∀ m, m ≠ n → t.cmp.lyr[m] = s.cmp.lyr[m]
  state : r.release = false → (t.buf r.buf).state = .scanning
  bufs : ∀ e, e ≠ r.buf → t.buf e = s.buf e
  result : t.rf (R.LYR_FLIP_STAT n) 31 28 = 1
  pending : t.rb (R.LYR_FLIP_STAT n) 16 = false
  waiting : t.rf (R.LYR_FLIP_STAT n) 15 8 = 0
  deferrals : t.rf (R.LYR_FLIP_STAT n) 27 20 = 0
  now : t.now = s.now
  pat : t.pat = s.pat

theorem flipShown_regs {x : State} : (flipShown n r x).rf (R.LYR_FLIP_STAT n) 31 28 = 1 ∧ (flipShown n r x).rb (R.LYR_FLIP_STAT n) 16 = false ∧
    (flipShown n r x).rf (R.LYR_FLIP_STAT n) 15 8 = 0 ∧ (flipShown n r x).rf (R.LYR_FLIP_STAT n) 27 20 = 0 := by
  unfold flipShown
  generalize setLyr n (fun l => { l with pend := none, acc := some (if r.release then none else some r.buf) }) x = y
  refine ⟨?_, ?_, ?_, ?_⟩
  · rw [State.rf_wf_disjoint (by decide) (by decide) (by decide), State.rf_wf_disjoint (by decide) (by decide) (by decide),
      State.rf_wb_disjoint (by decide) (by decide), State.rf_wf_self (by decide) (by decide)]
    rfl
  · rw [State.rb_wf_disjoint (by decide) (by decide) (by decide), State.rb_wf_disjoint (by decide) (by decide) (by decide), State.rb_wb_self (by decide)]
  · rw [State.rf_wf_disjoint (by decide) (by decide) (by decide), State.rf_wf_self (by decide) (by decide)]
    rfl
  · rw [State.rf_wf_self (by decide) (by decide)]
    rfl

theorem flipShown_cmp {x : State} : (flipShown n r x).cmp =
    (setLyr n (fun l => { l with pend := none, acc := some (if r.release then none else some r.buf) }) x).cmp := rfl

theorem setLyr_now (f : LyrSt → LyrSt) : (setLyr n f s).now = s.now := rfl

theorem setLyr_pat (f : LyrSt → LyrSt) : (setLyr n f s).pat = s.pat := rfl

theorem State.wf_now (a hi lo v : Nat) : (s.wf a hi lo v).now = s.now := rfl

theorem State.wb_now (a b : Nat) (v : Bool) : (s.wb a b v).now = s.now := rfl

theorem State.wf_pat (a hi lo v : Nat) : (s.wf a hi lo v).pat = s.pat := rfl

theorem State.wb_pat (a b : Nat) (v : Bool) : (s.wb a b v).pat = s.pat := rfl

theorem flipShown_kept {x : State} : (flipShown n r x).now = x.now ∧ (flipShown n r x).pat = x.pat := by
  unfold flipShown
  exact ⟨by rw [State.wf_now, State.wf_now, State.wb_now, State.wf_now, setLyr_now], by rw [State.wf_pat, State.wf_pat, State.wb_pat, State.wf_pat, setLyr_pat]⟩

/-- What follows an acceptance touches neither the layer's register nor the layers and buffers. -/
theorem FlipTaken.then {l m : List Nat} (h : FlipTaken n r s t) (ho : Only l m t u) (ha : R.LYR_FLIP_STAT n ∉ l) (hl : u.cmp.lyr = t.cmp.lyr)
    (hb : u.cmp.bufs = t.cmp.bufs) (hn : u.now = t.now) (hp : u.pat = t.pat) : FlipTaken n r s u := by
  have hbuf : ∀ e, u.buf e = t.buf e := fun e => by rw [State.buf, hb, State.buf]
  exact ⟨by rw [hl]; exact h.pend, by rw [hl]; exact h.acc, by rw [hl]; exact h.after, fun m hm => by rw [hl]; exact h.layers m hm,
    fun hr => by rw [hbuf]; exact h.state hr, fun e he => by rw [hbuf]; exact h.bufs e he, (ho.rf ha).trans h.result, (ho.rb ha).trans h.pending,
    (ho.rf ha).trans h.waiting, (ho.rf ha).trans h.deferrals, hn.trans h.now, hp.trans h.pat⟩

theorem FlipTaken.stw {a : Nat} {v : Word} (h : FlipTaken n r s t) : FlipTaken n r s (t.stw a v) :=
  h.then (Only.stw (.refl [] [a] t) (List.mem_singleton_self a)) List.not_mem_nil rfl rfl rfl rfl

theorem acceptFlip_taken : FlipTaken n r s (acceptFlip n r s) := by
  obtain ⟨h1, -, h3, -, h5, h6⟩ := bufTaken_kept (r := r) (s := s)
  have h7 := bufTaken_state (r := r) (s := s)
  rw [acceptFlip_eq]
  refine FlipTaken.stw (FlipTaken.stw ?_)
  generalize bufTaken r s = x at h1 h3 h5 h6 h7
  obtain ⟨r1, r2, r3, r4⟩ := flipShown_regs (n := n) (r := r) (x := x)
  have hself : ((flipShown n r x).cmp.lyr[n]) = { x.cmp.lyr[n] with pend := none, acc := some (if r.release then none else some r.buf) } := by
    rw [flipShown_cmp, setLyr_lyr_self]
  have hother : ∀ m, m ≠ n → (flipShown n r x).cmp.lyr[m] = x.cmp.lyr[m] := fun m hm => by
    rw [flipShown_cmp, setLyr_lyr_of_ne _ hm]
  have hbuf : ∀ e, (flipShown n r x).buf e = x.buf e := fun _ => by rw [State.buf, flipShown_cmp, setLyr_bufs, State.buf]
  obtain ⟨hnow, hpat⟩ := flipShown_kept (n := n) (r := r) (x := x)
  generalize flipShown n r x = y at *
  exact ⟨congrArg LyrSt.pend hself, congrArg LyrSt.acc hself, (congrArg LyrSt.after hself).trans (by rw [h1]), fun m hm => (hother m hm).trans (by rw [h1]),
    fun h => (congrArg BufEntry.state (hbuf _)).trans (h7 h), fun e he => (hbuf e).trans (h6 e he), r1, r2, r3, r4, hnow.trans h3, hpat.trans h5⟩

/-! ### Fences and armed groups after it -/

theorem fenceReg_mem (f : Nat) : (fenceReg f).1 = R.FENCE_STATE_LO ∨ (fenceReg f).1 = R.FENCE_STATE_HI := by
  unfold fenceReg
  split
  · exact .inl rfl
  · exact .inr rfl

theorem fenceTaken_only {l m : List Nat} (h : Only l m s t) (h1 : R.FENCE_STATE_LO ∈ l) (h2 : R.FENCE_STATE_HI ∈ l) : Only l m s (fenceTaken r t) :=
  Only.ite (Only.ite h (h.wb ((fenceReg_mem r.fence).elim (fun e => e ▸ h1) fun e => e ▸ h2))) h

theorem fenceTaken_kept : (fenceTaken r s).cmp = s.cmp ∧ (fenceTaken r s).now = s.now ∧ (fenceTaken r s).pat = s.pat := by
  unfold fenceTaken consumeFence
  split
  · split <;> exact ⟨rfl, rfl, rfl⟩
  · exact ⟨rfl, rfl, rfl⟩

theorem fenceReg_inj {b f : Nat} (hb : b < 64) (hf : f < 64) (h1 : (fenceReg b).1 = (fenceReg f).1) (h2 : b % 32 = f % 32) : b = f := by
  unfold fenceReg at h1
  split at h1 <;> split at h1
  · omega
  · exact absurd h1 (by decide)
  · exact absurd h1 (by decide)
  · omega

theorem consumeFence_set {b f : Nat} (hb : b < 64) (hf : f < 64) :
    fenceSet (consumeFence f s) b = (fenceSet s b && !(b == f && !(s.evtBits (fenceReg b).1).getLsbD (b % 32))) := by
  unfold consumeFence
  by_cases hbf : b = f
  · subst hbf
    cases he : bitOf (s.evtBits (fenceReg b).1) (b % 32) with
    | true => rw [if_pos rfl, show (s.evtBits (fenceReg b).1).getLsbD (b % 32) = true from he]; simp
    | false =>
      rw [if_neg Bool.false_ne_true, show (s.evtBits (fenceReg b).1).getLsbD (b % 32) = false from he, fenceSet, State.rb_wb_self (by omega)]
      simp
  · have hkeep : fenceSet (s.wb (fenceReg f).1 (f % 32) false) b = fenceSet s b := by
      unfold fenceSet
      by_cases hreg : (fenceReg b).1 = (fenceReg f).1
      · rw [hreg, State.rb_wb_bit (by omega) fun h => hbf (fenceReg_inj hb hf hreg h)]
      · exact State.rb_wb_of_ne hreg
    have hne : (b == f) = false := beq_eq_false_iff_ne.2 hbf
    rw [hne, Bool.false_and, Bool.not_false, Bool.and_true]
    split
    · rfl
    · exact hkeep

theorem fenceTaken_set {b : Nat} (hb : b < 64) (hr : r.fence < 64) : fenceSet (fenceTaken r s) b =
    (fenceSet s b && !(r.fenceEn && b == r.fence && !(s.evtBits (fenceReg b).1).getLsbD (b % 32))) := by
  unfold fenceTaken
  cases r.fenceEn with
  | true => rw [if_pos rfl, consumeFence_set hb hr, Bool.true_and]
  | false => rw [if_neg Bool.false_ne_true]; simp

theorem leaveArm_arms_self (g : Fin 8) : (leaveArm n s g).cmp.arms[g] = (s.cmp.arms[g]).filter (· != n.val) := by
  unfold leaveArm
  split
  · extract_lets l c x
    have hx : x.cmp.arms[g] = l := by simp [x, State.withCmp]
    split
    · exact hx
    · exact hx
  · rename_i h
    refine (List.filter_eq_self.2 fun a ha => ?_).symm
    have hne : a ≠ n.val := fun e => h (by rw [List.contains_iff_mem, ← e]; exact ha)
    exact bne_iff_ne.2 hne

theorem leaveArm_arms_of_ne {g j : Fin 8} (h : g ≠ j) : (leaveArm n s j).cmp.arms[g] = s.cmp.arms[g] := by
  have hv : j.val ≠ g.val := fun e => h (Fin.ext e.symm)
  unfold leaveArm
  split
  · extract_lets l c x
    have hx : x.cmp.arms[g] = s.cmp.arms[g] := by simp [x, State.withCmp, Vector.getElem_set_ne _ _ hv]
    split
    · exact hx
    · exact hx
  · rfl

/-- The armed groups without a layer. -/
theorem leaveArms_arms (g : Fin 8) : (leaveArms n s).cmp.arms[g] = (s.cmp.arms[g]).filter (· != n.val) := by
  have hnot : ∀ (l : List (Fin 8)) (u : State), g ∉ l → (u.over l (leaveArm n)).cmp.arms[g] = u.cmp.arms[g] := fun l u hg =>
    State.over_induct_mem (q := fun x => x.cmp.arms[g] = u.cmp.arms[g]) rfl fun x j hj hx => (leaveArm_arms_of_ne fun e => hg (by rw [e]; exact hj)).trans hx
  have hall : ∀ (l : List (Fin 8)) (u : State), l.Nodup → g ∈ l → (u.over l (leaveArm n)).cmp.arms[g] = (u.cmp.arms[g]).filter (· != n.val) := by
    intro l
    induction l with
    | nil => exact fun _ _ h => absurd h List.not_mem_nil
    | cons j l ih =>
      intro u hd h
      obtain ⟨hj, hl⟩ := List.nodup_cons.1 hd
      by_cases hgj : g = j
      · subst hgj
        exact (hnot l (leaveArm n u g) hj).trans (leaveArm_arms_self g)
      · exact (ih (leaveArm n u j) hl ((List.mem_cons.1 h).resolve_left hgj)).trans (by rw [leaveArm_arms_of_ne hgj])
  rw [leaveArms_eq]
  exact hall _ s (List.nodup_finRange 8) (List.mem_finRange g)

theorem lyrFlipStat_notMem_fences (n : Fin 8) : R.LYR_FLIP_STAT n ∉ [R.FENCE_STATE_LO, R.FENCE_STATE_HI] := by
  simp only [List.mem_cons, List.not_mem_nil, or_false, R.LYR_FLIP_STAT, R.FENCE_STATE_LO, R.FENCE_STATE_HI]
  omega

theorem leaveArm_pat (s : State) (g : Fin 8) : (leaveArm n s g).pat = s.pat := by
  unfold leaveArm
  split
  · dsimp only
    split
    · exact State.wb_pat ..
    · rfl
  · rfl

theorem leaveArms_pat (s : State) : (leaveArms n s).pat = s.pat := by
  rw [leaveArms_eq]
  exact State.over_induct (q := fun u => u.pat = s.pat) rfl fun u g h => (leaveArm_pat _ _).trans h

theorem FlipTaken.fence (h : FlipTaken n r s t) : FlipTaken n r s (fenceTaken r t) := by
  obtain ⟨h1, h2, h3⟩ := fenceTaken_kept (r := r) (s := t)
  exact h.then (fenceTaken_only (.refl [R.FENCE_STATE_LO, R.FENCE_STATE_HI] [] t) (by simp) (by simp)) (lyrFlipStat_notMem_fences n) (by rw [h1]) (by rw [h1]) h2 h3

theorem FlipTaken.leave (h : FlipTaken n r s t) : FlipTaken n r s (leaveArms n t) := by
  obtain ⟨h1, h2, h3⟩ := leaveArms_kept n t
  exact h.then (leaveArms_only (.refl [R.CMP_FLIPGRP_STAT] [] t) (by simp)) (by simpa using lyrFlipStat_ne_arms n) h1 h2 h3 (leaveArms_pat t)

theorem flipAccepted_taken : FlipTaken n r s (flipAccepted n r s) := acceptFlip_taken.fence.leave

theorem acceptFlip_evt : (acceptFlip n r s).evt = s.evt := by
  have hs : (flipShown n r (bufTaken r s)).evt = (bufTaken r s).evt := by
    unfold flipShown
    rw [State.wf, State.wr_evt, State.wf, State.wr_evt, State.wb, State.wr_evt, State.wf, State.wr_evt]
    rfl
  rw [acceptFlip_eq, State.stSet, State.stw_evt, State.stAdd, State.stw_evt, hs, bufTaken_kept.2.2.2.1]

theorem flipAccepted_fences {b : Nat} (hb : b < 64) (hbuf : r.buf < 256) (hr : r.fence < 64) : fenceSet (flipAccepted n r s) b =
    (fenceSet s b && !(r.fenceEn && b == r.fence && !(s.evtBits (fenceReg b).1).getLsbD (b % 32))) := by
  have hne : ∀ k < 32, (fenceReg b).1 ∉ [R.LYR_FLIP_STAT n, R.BUF_STATES k] := fun k hk => by
    simp only [List.mem_cons, List.not_mem_nil, or_false]
    rcases fenceReg_mem b with h | h <;> rw [h] <;> simp only [R.FENCE_STATE_LO, R.FENCE_STATE_HI, R.LYR_FLIP_STAT, R.BUF_STATES] <;> omega
  have hgrp : (fenceReg b).1 ∉ [R.CMP_FLIPGRP_STAT] := by
    rcases fenceReg_mem b with h | h <;> rw [h] <;> decide
  have h1 : fenceSet (acceptFlip n r s) b = fenceSet s b :=
    Only.rb (acceptFlip_only (.refl [R.LYR_FLIP_STAT n, R.BUF_STATES (r.buf / 8)] [R.STAT P.CMP 0, R.STAT (P.LYR n) 0] s) (by simp) (by simp) (by simp) (by simp))
      (hne _ (by omega))
  have h2 : (acceptFlip n r s).evtBits (fenceReg b).1 = s.evtBits (fenceReg b).1 := by
    rw [State.evtBits, acceptFlip_evt, acceptFlip_taken.now, State.evtBits]
  have h3 : fenceSet (flipAccepted n r s) b = fenceSet (fenceTaken r (acceptFlip n r s)) b :=
    (leaveArms_only (.refl [R.CMP_FLIPGRP_STAT] [] _) (by simp)).rb hgrp
  rw [h3, fenceTaken_set hb hr, h1, h2]

theorem acceptFlip_arms : (acceptFlip n r s).cmp.arms = s.cmp.arms := by
  rw [acceptFlip_eq, State.stSet, State.stw_cmp, State.stAdd, State.stw_cmp, flipShown_cmp, setLyr_arms, bufTaken_kept.2.1]

theorem flipAccepted_arms (g : Fin 8) : (flipAccepted n r s).cmp.arms[g] = (s.cmp.arms[g]).filter (· != n.val) := by
  rw [flipAccepted, leaveArms_arms, fenceTaken_kept.1, acceptFlip_arms]

theorem flipAccepted_only {l m : List Nat} (h : Only l m s t) (ha : R.LYR_FLIP_STAT n ∈ l) (hb : R.BUF_STATES (r.buf / 8) ∈ l) (h1 : R.FENCE_STATE_LO ∈ l)
    (h2 : R.FENCE_STATE_HI ∈ l) (hg : R.CMP_FLIPGRP_STAT ∈ l) (hc : R.STAT P.CMP 0 ∈ m) (hn : R.STAT (P.LYR n) 0 ∈ m) : Only l m s (flipAccepted n r t) :=
  leaveArms_only (fenceTaken_only (acceptFlip_only h ha hb hc hn) h1 h2) hg

/-- After an acceptance no layer waits where none did. -/
theorem FlipTaken.none (h : FlipTaken n r s t) (hq : noneAfter s) : noneAfter t := fun m => by
  by_cases hm : m = n
  · rw [hm, h.after, hq n]
  · rw [h.layers m hm, hq m]

/-! ### The deferred flip -/

/-- The registers of a deferred request. -/
def deferralShown (n : Fin 8) (s : State) : State :=
  ((s.wf (R.LYR_FLIP_STAT n) 31 28 2).wf (R.LYR_FLIP_STAT n) 27 20 (satAdd 8 (s.rf (R.LYR_FLIP_STAT n) 27 20) 1)).irq (P.LYR n) 1

/-- A deferred request, before what its eighth deferral raises. -/
def flipDeferred (n : Fin 8) (s : State) : State := ((deferralShown n s).stAdd (R.STAT P.CMP 0) 31 16 1).stSet (R.STAT (P.LYR n) 0) 1 1 1

theorem State.irq_now (p b : Nat) : (s.irq p b).now = s.now := rfl

theorem State.irq_pat (p b : Nat) : (s.irq p b).pat = s.pat := rfl

theorem deferFlip_eq : deferFlip n s = if satAdd 8 (s.rf (R.LYR_FLIP_STAT n) 27 20) 1 = 8 ∧ (flipDeferred n s).rf (R.LYR_FLIP_STAT n) 27 20 = 8 then
    raise (Src.FLIP_STALL n) ((flipDeferred n s).irq (P.LYR n) 2) else flipDeferred n s := rfl

/-- What a deferral leaves beside its statistics. -/
structure FlipKept (n : Fin 8) (s t : State) : Prop where
  result : t.rf (R.LYR_FLIP_STAT n) 31 28 = 2
  count : t.rf (R.LYR_FLIP_STAT n) 27 20 = min 255 (s.rf (R.LYR_FLIP_STAT n) 27 20 + 1)
  irq : t.rb (R.IRQ_STAT (P.LYR n)) 1 = true
  cmp : t.cmp = s.cmp
  now : t.now = s.now
  pat : t.pat = s.pat

theorem FlipKept.stw {a : Nat} {v : Word} (h : FlipKept n s t) : FlipKept n s (t.stw a v) := ⟨h.result, h.count, h.irq, h.cmp, h.now, h.pat⟩

theorem deferralShown_kept : FlipKept n s (deferralShown n s) := by
  have hne := lyrFlipStat_ne_irq n
  have hr : (deferralShown n s).rf (R.LYR_FLIP_STAT n) 31 28 = 2 := by
    rw [deferralShown, State.rf_irq_of_ne hne, State.rf_wf_disjoint (by decide) (by decide) (by decide), State.rf_wf_self (by decide) (by decide)]
    rfl
  have hc : (deferralShown n s).rf (R.LYR_FLIP_STAT n) 27 20 = min 255 (s.rf (R.LYR_FLIP_STAT n) 27 20 + 1) := by
    rw [deferralShown, State.rf_irq_of_ne hne, State.rf_wf_self (by decide) (by decide), satAdd, Nat.min_comm, show maxU 8 = 255 from rfl]
    exact Nat.mod_eq_of_lt (by omega)
  have hi : (deferralShown n s).rb (R.IRQ_STAT (P.LYR n)) 1 = true := State.rb_irq_self (by decide)
  have hcmp : (deferralShown n s).cmp = s.cmp := by
    rw [deferralShown, State.irq_cmp, State.wf_cmp, State.wf_cmp]
  have hnow : (deferralShown n s).now = s.now := by
    rw [deferralShown, State.irq_now, State.wf_now, State.wf_now]
  have hpat : (deferralShown n s).pat = s.pat := by
    rw [deferralShown, State.irq_pat, State.wf_pat, State.wf_pat]
  exact ⟨hr, hc, hi, hcmp, hnow, hpat⟩

theorem flipDeferred_kept : FlipKept n s (flipDeferred n s) := deferralShown_kept.stw.stw

theorem flipDeferred_only {l m : List Nat} (h : Only l m s t) (ha : R.LYR_FLIP_STAT n ∈ l) (hi : R.IRQ_STAT (P.LYR n) ∈ l) (hc : R.STAT P.CMP 0 ∈ m)
    (hn : R.STAT (P.LYR n) 0 ∈ m) : Only l m s (flipDeferred n t) :=
  Only.stSet (Only.stAdd (((h.wf ha).wf ha).irq hi) hc) hn

theorem deferFlip_deferred (h : s.rf (R.LYR_FLIP_STAT n) 27 20 ≠ 7) : deferFlip n s = flipDeferred n s := by
  have hc : satAdd 8 (s.rf (R.LYR_FLIP_STAT n) 27 20) 1 ≠ 8 := by
    rw [satAdd, show maxU 8 = 255 from rfl]
    omega
  rw [deferFlip_eq, if_neg fun h => hc h.1]

theorem deferFlip_stalled (h : s.rf (R.LYR_FLIP_STAT n) 27 20 = 7) : deferFlip n s = raise (Src.FLIP_STALL n) ((flipDeferred n s).irq (P.LYR n) 2) := by
  have hc : (flipDeferred n s).rf (R.LYR_FLIP_STAT n) 27 20 = 8 := by rw [flipDeferred_kept.count, h]; rfl
  rw [deferFlip_eq, if_pos ⟨by rw [h]; rfl, hc⟩]

/-! ### The deadline's own bit and the pattern flags -/

/-- The deadline is told, with the pattern parameters sampled. -/
def told (s : State) : State := (patSample s).irq P.SYS 1

theorem told_only {l m : List Nat} (h : Only l m s t) (hi : R.IRQ_STAT P.SYS ∈ l) : Only l m s (told t) :=
  Only.irq (Only.ite (Only.record h) h) hi

theorem told_kept : (told s).cmp = s.cmp ∧ (told s).now = s.now ∧ (told s).rb (R.IRQ_STAT P.SYS) 1 = true ∧
    (told s).pat = if s.pageOn P.PAT then { s.pat with flags := some (s.rd R.PAT_FLAGS) } else s.pat := by
  have hp : (patSample s).cmp = s.cmp ∧ (patSample s).now = s.now ∧
      (patSample s).pat = if s.pageOn P.PAT then { s.pat with flags := some (s.rd R.PAT_FLAGS) } else s.pat := by
    unfold patSample
    split <;> exact ⟨rfl, rfl, rfl⟩
  obtain ⟨h1, h2, h3⟩ := hp
  unfold told
  generalize patSample s = x at h1 h2 h3
  exact ⟨h1, h2, State.rb_irq_self (by decide), h3⟩

theorem exec_commitDeadline (h1 : isOff s = false) (h2 : pwrState s ≠ 3) : exec .commitDeadline s =
    .next (told ((s.at (s.nextTick - s.guardNs)).when (s.pageOn P.CMP) flipDeadline)) := by
  have hd : exec .commitDeadline s = .next (if isOff s || pwrState s == 3 then s else commitDeadline (s.at (s.nextTick - s.guardNs))) := rfl
  rw [hd, if_neg (by simp [h1, h2])]
  rfl

theorem deadlineRegs_notMem (n : Fin 8) {k : Nat} (hk : k < 32) {a : Nat} (ha : a = R.PWR_DOMAIN_STAT ∨ a = R.PAT_FLAGS) :
    a ∉ [R.IRQ_STAT P.SYS, R.LYR_FLIP_STAT n, R.BUF_STATES k, R.FENCE_STATE_LO, R.FENCE_STATE_HI, R.CMP_FLIPGRP_STAT, R.IRQ_STAT (P.LYR n)] := by
  simp only [List.mem_cons, List.not_mem_nil, or_false, R.PWR_DOMAIN_STAT, R.PAT_FLAGS, R.LYR_FLIP_STAT, R.IRQ_STAT, R.base, P.SYS, P.LYR, R.BUF_STATES,
    R.FENCE_STATE_LO, R.FENCE_STATE_HI, R.CMP_FLIPGRP_STAT] at ha ⊢
  omega

theorem told_st (s : State) (a : Nat) : (told s).st a = s.st a := by
  have hp : (patSample s).st a = s.st a := by
    unfold patSample
    split <;> rfl
  exact hp

/-- What the end of the deadline leaves of the state that its flips have left: the deferrals shown, the pattern flags sampled and DEADLINE set. -/
structure DeadlineEnds (s t : State) : Prop where
  only : Only [R.IRQ_STAT P.SYS] deferralStats s t
  cmp : t.cmp = s.cmp
  now : t.now = s.now
  deadline : t.rb (R.IRQ_STAT P.SYS) 1 = true
  pat : t.pat = if s.pageOn P.PAT then { s.pat with flags := some (s.rd R.PAT_FLAGS) } else s.pat

theorem told_ends : DeadlineEnds s (told s) := by
  obtain ⟨h1, h2, h3, h4⟩ := told_kept (s := s)
  exact ⟨told_only (.refl _ _ s) (by simp), h1, h2, h3, h4⟩

theorem deadlineEnds : DeadlineEnds s (told (showDeferrals s)) := by
  obtain ⟨h1, h2, h3, h4, h5⟩ := showDeferrals_kept s
  have h := told_ends (s := showDeferrals s)
  generalize showDeferrals s = x at h1 h2 h3 h4 h5 h
  exact ⟨(h5.mono (by simp) (by simp)).trans h.only, h.cmp.trans h2, h.now.trans h1, h.deadline, by rw [h.pat, h5.pageOn (by simp), h4, h3]⟩

/-- The bit, the time and the flags that the obligation tells, from where the deadline began. -/
theorem DeadlineEnds.tells {l m : List Nat} (h : DeadlineEnds t u) (ho : Only l m s t) (hp : R.PWR_DOMAIN_STAT ∉ l) (hf : R.PAT_FLAGS ∉ l) {k : Nat} (hn : t.now = k)
    (hpat : t.pat = s.pat) : u.rb (R.IRQ_STAT P.SYS) 1 = true ∧ u.now = k ∧
      u.pat = if s.pageOn P.PAT then { s.pat with flags := some (s.rd R.PAT_FLAGS) } else s.pat :=
  ⟨h.deadline, h.now.trans hn, by rw [h.pat, ho.pageOn hp, ho.regs _ hf, hpat]⟩

theorem deadlineRegs_mem (n : Fin 8) {k : Nat} (hk : k < 32) {a : Nat} (h : a = R.LYR_FLIP_STAT n ∨ a = R.IRQ_STAT (P.LYR n) ∨ a = R.PWR_DOMAIN_STAT ∨ a = R.PAT_FLAGS) :
    a ∉ [R.IRQ_STAT P.SYS] := by
  simp only [List.mem_cons, List.not_mem_nil, or_false, R.PWR_DOMAIN_STAT, R.PAT_FLAGS, R.LYR_FLIP_STAT, R.IRQ_STAT, R.base, P.SYS, P.LYR] at h ⊢
  omega

theorem deadline_frame (n : Fin 8) {k : Nat} (hk : k < 32) {a : Nat} (ha : a = R.PWR_DOMAIN_STAT ∨ a = R.PAT_FLAGS) :
    a ∉ [R.IRQ_STAT P.SYS, R.LYR_FLIP_STAT n, R.BUF_STATES k, R.FENCE_STATE_LO, R.FENCE_STATE_HI, R.CMP_FLIPGRP_STAT] := fun h =>
  deadlineRegs_notMem n hk ha (List.mem_append_left [R.IRQ_STAT (P.LYR n)] h)

theorem fenceReg_notMem (b : Nat) : (fenceReg b).1 ∉ [R.IRQ_STAT P.SYS] := by
  rcases fenceReg_mem b with h | h <;> rw [h] <;> decide

/-- The deadline's end after an acceptance at `k`. -/
theorem accepted_claims {k : Nat} (hb : r.buf < 256) (hf : r.fence < 64) (hu : u = told (showDeferrals (flipAccepted n r (s.at k)))) :
    (u.rb (R.IRQ_STAT P.SYS) 1 = true ∧ u.now = max s.now k ∧ u.pat = if s.pageOn P.PAT then { s.pat with flags := some (s.rd R.PAT_FLAGS) } else s.pat) ∧
    (u.cmp.lyr[n]).pend = none ∧ (u.cmp.lyr[n]).acc = some (if r.release then none else some r.buf) ∧ (r.release = false → (u.buf r.buf).state = .scanning) ∧
    (∀ m, m ≠ n → u.cmp.lyr[m] = s.cmp.lyr[m]) ∧ (∀ e, e ≠ r.buf → u.buf e = s.buf e) ∧
    (∀ g : Fin 8, u.cmp.arms[g] = (s.cmp.arms[g]).filter (· != n.val)) ∧
    u.rf (R.LYR_FLIP_STAT n) 31 28 = 1 ∧ u.rb (R.LYR_FLIP_STAT n) 16 = false ∧ u.rf (R.LYR_FLIP_STAT n) 15 8 = 0 ∧ u.rf (R.LYR_FLIP_STAT n) 27 20 = 0 ∧
    (∀ b < 64, fenceSet u b = (fenceSet s b && !(r.fenceEn && b == r.fence && !((s.at k).evtBits (fenceReg b).1).getLsbD (b % 32)))) ∧
    Only [R.IRQ_STAT P.SYS, R.LYR_FLIP_STAT n, R.BUF_STATES (r.buf / 8), R.FENCE_STATE_LO, R.FENCE_STATE_HI, R.CMP_FLIPGRP_STAT] (R.STAT P.CMP 0 :: deferralStats) s u := by
  have hx : FlipTaken n r (s.at k) (flipAccepted n r (s.at k)) := flipAccepted_taken
  have hfence : ∀ b < 64, fenceSet (flipAccepted n r (s.at k)) b =
      (fenceSet (s.at k) b && !(r.fenceEn && b == r.fence && !((s.at k).evtBits (fenceReg b).1).getLsbD (b % 32))) := fun b h => flipAccepted_fences h hb hf
  have harms : ∀ g : Fin 8, (flipAccepted n r (s.at k)).cmp.arms[g] = ((s.at k).cmp.arms[g]).filter (· != n.val) := fun g => flipAccepted_arms g
  have ho : Only [R.IRQ_STAT P.SYS, R.LYR_FLIP_STAT n, R.BUF_STATES (r.buf / 8), R.FENCE_STATE_LO, R.FENCE_STATE_HI, R.CMP_FLIPGRP_STAT]
      (R.STAT P.CMP 0 :: deferralStats) s (flipAccepted n r (s.at k)) :=
    flipAccepted_only (Only.refl _ _ s).at (by simp) (by simp) (by simp) (by simp) (by simp) (by simp) (List.mem_cons_of_mem _ (lyrStat_mem n))
  generalize flipAccepted n r (s.at k) = x at hx hfence harms ho hu
  have he : DeadlineEnds x u := hu ▸ deadlineEnds
  have ha : R.LYR_FLIP_STAT n ∉ [R.IRQ_STAT P.SYS] := deadlineRegs_mem n (k := 0) (by decide) (.inl rfl)
  have hbuf : ∀ e, u.buf e = x.buf e := buf_congr he.cmp
  refine ⟨he.tells ho (deadline_frame n (by omega) (.inl rfl)) (deadline_frame n (by omega) (.inr rfl)) hx.now hx.pat, by rw [he.cmp]; exact hx.pend,
    by rw [he.cmp]; exact hx.acc, fun h => by rw [hbuf]; exact hx.state h, fun m hm => by rw [he.cmp]; exact hx.layers m hm,
    fun e h => by rw [hbuf]; exact hx.bufs e h, fun g => by rw [he.cmp]; exact harms g, (he.only.rf ha).trans hx.result, (he.only.rb ha).trans hx.pending,
    (he.only.rf ha).trans hx.waiting, (he.only.rf ha).trans hx.deferrals, fun b h => (he.only.rb (fenceReg_notMem b)).trans (hfence b h),
    ho.trans (he.only.mono (by simp) fun _ h => List.mem_cons_of_mem _ h)⟩

/-- The deadline's end after a deferral at `k`. -/
theorem deferred_claims {k : Nat} (hu : u = told (showDeferrals (flipDeferred n (s.at k)))) :
    (u.rb (R.IRQ_STAT P.SYS) 1 = true ∧ u.now = max s.now k ∧ u.pat = if s.pageOn P.PAT then { s.pat with flags := some (s.rd R.PAT_FLAGS) } else s.pat) ∧
    u.cmp = s.cmp ∧ u.rf (R.LYR_FLIP_STAT n) 31 28 = 2 ∧ u.rf (R.LYR_FLIP_STAT n) 27 20 = min 255 (s.rf (R.LYR_FLIP_STAT n) 27 20 + 1) ∧
    u.rb (R.IRQ_STAT (P.LYR n)) 1 = true ∧ Only [R.IRQ_STAT P.SYS, R.LYR_FLIP_STAT n, R.IRQ_STAT (P.LYR n)] (R.STAT P.CMP 0 :: deferralStats) s u := by
  have hx : FlipKept n (s.at k) (flipDeferred n (s.at k)) := flipDeferred_kept
  have ho : Only [R.IRQ_STAT P.SYS, R.LYR_FLIP_STAT n, R.IRQ_STAT (P.LYR n)] (R.STAT P.CMP 0 :: deferralStats) s (flipDeferred n (s.at k)) :=
    flipDeferred_only (Only.refl _ _ s).at (by simp) (by simp) (by simp) (List.mem_cons_of_mem _ (lyrStat_mem n))
  generalize flipDeferred n (s.at k) = x at hx ho hu
  have he : DeadlineEnds x u := hu ▸ deadlineEnds
  have hn : ∀ a, a = R.LYR_FLIP_STAT n ∨ a = R.IRQ_STAT (P.LYR n) ∨ a = R.PWR_DOMAIN_STAT ∨ a = R.PAT_FLAGS → a ∉ [R.IRQ_STAT P.SYS] :=
    fun a h => deadlineRegs_mem n (k := 0) (by decide) h
  have hl : ∀ a, a = R.PWR_DOMAIN_STAT ∨ a = R.PAT_FLAGS → a ∉ [R.IRQ_STAT P.SYS, R.LYR_FLIP_STAT n, R.IRQ_STAT (P.LYR n)] := fun a h hm => by
    refine deadlineRegs_notMem n (k := 0) (by decide) h ?_
    simp only [List.mem_cons, List.not_mem_nil, or_false] at hm ⊢
    rcases hm with h | h | h <;> simp [h]
  exact ⟨he.tells ho (hl _ (.inl rfl)) (hl _ (.inr rfl)) hx.now hx.pat, he.cmp.trans hx.cmp, (he.only.rf (hn _ (.inl rfl))).trans hx.result,
    (he.only.rf (hn _ (.inl rfl))).trans hx.count, (he.only.rb (hn _ (.inr (.inl rfl)))).trans hx.irq, ho.trans (he.only.mono (by simp) fun _ h => List.mem_cons_of_mem _ h)⟩

/-- A request that is raised as stalled, before the raising, at `k`. -/
theorem stalled_claims {k : Nat} (h7 : s.rf (R.LYR_FLIP_STAT n) 27 20 = 7) (hu : u = (flipDeferred n (s.at k)).irq (P.LYR n) 2) :
    u.now = (s.at k).now ∧ u.cmp = s.cmp ∧ u.rf (R.LYR_FLIP_STAT n) 31 28 = 2 ∧ u.rf (R.LYR_FLIP_STAT n) 27 20 = 8 ∧ u.rb (R.IRQ_STAT (P.LYR n)) 1 = true ∧
    u.rb (R.IRQ_STAT (P.LYR n)) 2 = true ∧ Only [R.IRQ_STAT P.SYS, R.LYR_FLIP_STAT n, R.IRQ_STAT (P.LYR n)] (R.STAT P.CMP 0 :: deferralStats) s u := by
  have hx : FlipKept n (s.at k) (flipDeferred n (s.at k)) := flipDeferred_kept
  have ho : Only [R.IRQ_STAT P.SYS, R.LYR_FLIP_STAT n, R.IRQ_STAT (P.LYR n)] (R.STAT P.CMP 0 :: deferralStats) s (flipDeferred n (s.at k)) :=
    flipDeferred_only (Only.refl _ _ s).at (by simp) (by simp) (by simp) (List.mem_cons_of_mem _ (lyrStat_mem n))
  generalize flipDeferred n (s.at k) = x at hx ho hu
  subst hu
  have hc : x.rf (R.LYR_FLIP_STAT n) 27 20 = 8 := by
    rw [hx.count, show (s.at k).rf (R.LYR_FLIP_STAT n) 27 20 = s.rf (R.LYR_FLIP_STAT n) 27 20 from rfl, h7]
    rfl
  have hne := lyrFlipStat_ne_irq n
  exact ⟨(State.irq_now ..).trans hx.now, (State.irq_cmp ..).trans hx.cmp, (State.rf_irq_of_ne hne).trans hx.result, (State.rf_irq_of_ne hne).trans hc, (State.rb_irq_bit (by decide) (by decide)).trans hx.irq,
    State.rb_irq_self (by decide), ho.irq (by simp)⟩

/-- Settles O13: the deadline by what it has to evaluate; a flip that is raised as stalled leaves no layer with a request that waits. -/
theorem commitDeadlineTells : Obligations.CommitDeadlineTells := by
  intro s hoff hpwr d sys stats sampled tells quiet
  have hexec := exec_commitDeadline hoff hpwr
  have hat : Only [] [] s d := (Only.refl _ _ _).at
  refine ⟨⟨_, hexec, told_ends.deadline, ?_⟩, fun hon => ?_, fun hon hq he => ?_, ?_⟩
  · rw [told_ends.now]
    exact (when_keeps (s := d) (.refl d) (flipDeadline_keeps (.refl d))).now
  · rw [hon] at hexec
    have h := told_ends (s := d)
    exact ⟨_, hexec, h.tells hat (by simp) (by simp) rfl rfl, h.cmp, told_only (hat.mono (by simp) (by simp)) (by simp [sys])⟩
  · have hj : flipDeadline d = showDeferrals d := by rw [flipDeadline_eq (by rw [he]; exact hq), he, flipsJudged_nil]
    rw [hon, State.when, if_pos rfl, hj] at hexec
    have h := deadlineEnds (s := d)
    exact ⟨_, hexec, h.tells hat (by simp) (by simp) rfl rfl, h.cmp, fun n => (told_st _ _).trans (showDeferrals_stat n d), (hat.mono (by simp) (by simp)).trans h.only⟩
  · intro n r a hon hq hb hf
    rw [hon, State.when, if_pos rfl] at hexec
    have hstats : R.STAT (P.LYR n) 0 ∈ R.STAT P.CMP 0 :: stats := List.mem_cons_of_mem _ (lyrStat_mem n)
    refine ⟨fun he => ?_, fun he => ⟨fun h7 => ?_, fun h7 => ?_⟩⟩
    · have hj : flipsJudged (evaluated d) d = flipAccepted n r d := by rw [he, flipsJudged_accept]
      rw [flipDeadline_eq (by rw [hj]; exact flipAccepted_taken.none hq), hj] at hexec
      exact ⟨_, hexec, accepted_claims hb hf rfl⟩
    · have hj : flipsJudged (evaluated d) d = flipDeferred n d := by rw [he, flipsJudged_defer, deferFlip_deferred (s := d) h7]
      rw [flipDeadline_eq (by rw [hj, noneAfter, flipDeferred_kept.cmp]; exact hq), hj] at hexec
      exact ⟨_, hexec, deferred_claims rfl⟩
    · have hj : flipsJudged (evaluated d) d = raise (Src.FLIP_STALL n) ((flipDeferred n d).irq (P.LYR n) 2) := by
        rw [he, flipsJudged_defer, deferFlip_stalled (s := d) h7]
      have hnone : noneAfter (raise (Src.FLIP_STALL n) ((flipDeferred n d).irq (P.LYR n) 2)) := fun m =>
        Runs.after (Runs.refl.raise) (by rw [State.irq_cmp, flipDeferred_kept.cmp]; exact hq m)
      rw [flipDeadline_eq (by rw [hj]; exact hnone), hj] at hexec
      exact ⟨_, hexec, stalled_claims h7 rfl⟩

end Sys2Proof.Machine
end

section
/-! PROOFS. The obligation on bands and pools. -/

namespace Sys2Proof.Machine

variable {s t u x : State} {k : Fin 4} {b e a : Nat} {n : Fin 8} {r : FlipReq} {l : List Nat} {shapes : List Shape}

/-! ### Bands done -/

/-- Bytes `l` of band `b` of tile `k` have reached memory at `a`. -/
def bandWritten (k : Fin 4) (b a : Nat) (l : List Nat) (s : State) : State :=
  { s.put a l with frm := { (s.put a l).frm with band := (s.put a l).frm.band.set k ((s.put a l).frm.band[k] ||| 2 ^ b) } }

theorem put_frm : (s.put a l).frm = s.frm := by rw [put_eq]; rfl

theorem bandWritten_rd (c : Nat) : (bandWritten k b a l s).rd c = s.rd c := put_rd

theorem bandWritten_ld (c : Nat) : (bandWritten k b a l s).ld c = (s.put a l).ld c := rfl

theorem bandWritten_band : (bandWritten k b a l s).frm.band[k] = s.frm.band[k] ||| 2 ^ b := by
  simp [bandWritten, put_frm]

theorem bandTile_off (h : s.tileOn k = false) : bandTile b shapes s k = s := if_pos (.inl (by rw [h]; rfl))

/-- The glare bytes of the rows of band `b` of tile `k`. -/
def bandBytes (k : Fin 4) (b : Nat) (shapes : List Shape) (s : State) : List Nat :=
  (List.range (min 64 (s.th k - 64 * b))).flatMap fun r => (List.range (s.tw k)).map fun x => glareValue s k shapes x (64 * b + r)

theorem bandTile_written (hon : s.tileOn k = true) (hb : b < bandsOf s k)
    (hw : engineWrite (maskEngine s) (glareAddr s k s.frame 0 (64 * b)) (bandBytes k b shapes s) s =
      (true, s.put (glareAddr s k s.frame 0 (64 * b)) (bandBytes k b shapes s))) :
    bandTile b shapes s k = bandWritten k b (glareAddr s k s.frame 0 (64 * b)) (bandBytes k b shapes s) s := by
  have ht : bandTile b shapes s k = { (engineWrite (maskEngine s) (glareAddr s k s.frame 0 (64 * b)) (bandBytes k b shapes s) s).2 with
      frm := { (engineWrite (maskEngine s) (glareAddr s k s.frame 0 (64 * b)) (bandBytes k b shapes s) s).2.frm with
        band := (engineWrite (maskEngine s) (glareAddr s k s.frame 0 (64 * b)) (bandBytes k b shapes s) s).2.frm.band.set k
          ((engineWrite (maskEngine s) (glareAddr s k s.frame 0 (64 * b)) (bandBytes k b shapes s) s).2.frm.band[k] ||| 2 ^ b) } } :=
    if_neg (by rw [hon]; simp; omega)
  rw [ht, hw]
  rfl

/-- The band of the one driven tile is done. -/
theorem bandDone_written (hl : bandsLate s = s) (hen : s.en P.GLM = true) (hst : s.rb (R.STATUS P.GLM) 0 = true) (hcfg : s.rb R.GLM_CFG 0 = true)
    (hg : s.beamGated = false) (hon : s.tileOn k = true) (hoff : ∀ j : Fin 4, j ≠ k → s.tileOn j = false) (hb : b < bandsOf s k)
    (hbefore : ∀ j < b, (s.frm.band[k]).testBit j = true)
    (hw : engineWrite (maskEngine s) (glareAddr s k s.frame 0 (64 * b)) (bandBytes k b ((frameObjs s).map (shapeOf s (midTime s))) s) s =
      (true, s.put (glareAddr s k s.frame 0 (64 * b)) (bandBytes k b ((frameObjs s).map (shapeOf s (midTime s))) s))) :
    bandDone b s = bandWritten k b (glareAddr s k s.frame 0 (64 * b)) (bandBytes k b ((frameObjs s).map (shapeOf s (midTime s))) s) s := by
  have hall : ((List.finRange 4).all fun t => !s.tileOn t || decide (bandsOf s t ≤ b) || (List.range b).all fun j => s.frm.band[t].testBit j) = true := by
    refine List.all_eq_true.2 fun t _ => ?_
    by_cases htk : t = k
    · subst htk
      have : (List.range b).all (fun j => s.frm.band[t].testBit j) = true := List.all_eq_true.2 fun j hj => hbefore j (List.mem_range.1 hj)
      rw [this, Bool.or_true]
    · rw [hoff t htk]
      rfl
  have htile := bandTile_written hon hb hw
  have hstay : ∀ j : Fin 4, j ≠ k → (bandTile b ((frameObjs s).map (shapeOf s (midTime s))) s k).tileOn j = false := fun j hj => by
    rw [htile, State.tileOn, State.tileKnown, State.rb, State.rf, bandWritten_rd, bandWritten_rd, ← State.rb, ← State.rf, ← State.tileKnown, ← State.tileOn]
    exact hoff j hj
  have hd : bandDone b s = if !s.en P.GLM || !s.rb (R.STATUS P.GLM) 0 || !s.rb R.GLM_CFG 0 || s.beamGated ||
      !((List.finRange 4).all fun t => !s.tileOn t || decide (bandsOf s t ≤ b) || (List.range b).all fun j => s.frm.band[t].testBit j) then s else
      s.over (List.finRange 4) (bandTile b ((frameObjs s).map (shapeOf s (midTime s)))) := by
    rw [bandDone, hl]
  rw [hd, hall, hen, hst, hcfg, hg, if_neg (by decide), over_finRange_single (fun j hj => bandTile_off (hoff j hj)) (fun j hj => bandTile_off (hstay j hj)), htile]

/-! ### Bands late -/

/-- A band whose deadline has passed, before what it raises. -/
def bandMissed (k : Fin 4) (b : Nat) (s : State) : State :=
  let x := ((setBandSrc k b (if s.frm.bandPrev[k].testBit b then 1 else 2) s).stAdd (R.STAT P.GLM 1) 7 0 1).irq P.GLM 2
  if s.frm.bandPrev[k].testBit b then x else x.stAdd (R.STAT P.GLM 1) 15 8 1

theorem bandLate_missed (ho : bandOpen s k b = true) (hd : bandDue s b ≤ s.now) : bandLate k b s = raise Src.GLM_BAND_LATE (bandMissed k b s) :=
  if_neg (by rw [ho, decide_eq_false (Nat.not_lt.2 hd)]; decide)

theorem bandMissed_only {l m : List Nat} (h : Only l m s t) (hi : R.IRQ_STAT P.GLM ∈ l) (hb : R.GLM_STAT_BANDSRC k ∈ m) (hs : R.STAT P.GLM 1 ∈ m) :
    Only l m s (bandMissed k b t) := by
  have hx : Only l m s (((setBandSrc k b (if t.frm.bandPrev[k].testBit b then 1 else 2) t).stAdd (R.STAT P.GLM 1) 7 0 1).irq P.GLM 2) :=
    Only.irq (Only.stAdd (Only.stSet h hb) hs) hi
  exact Only.ite hx (hx.stAdd hs)

theorem bandMissed_irq : (bandMissed k b s).rb (R.IRQ_STAT P.GLM) 2 = true := by
  have hi : (((setBandSrc k b (if s.frm.bandPrev[k].testBit b then 1 else 2) s).stAdd (R.STAT P.GLM 1) 7 0 1).irq P.GLM 2).rb (R.IRQ_STAT P.GLM) 2 = true :=
    State.rb_irq_self (by decide)
  unfold bandMissed
  generalize ((setBandSrc k b (if s.frm.bandPrev[k].testBit b then 1 else 2) s).stAdd (R.STAT P.GLM 1) 7 0 1).irq P.GLM 2 = x at hi
  dsimp only
  split
  · exact hi
  · rw [State.rb, State.stAdd, State.stw_rd]
    exact hi

theorem bandSrc_stat_ne (k : Fin 4) : R.GLM_STAT_BANDSRC k ≠ R.STAT P.GLM 1 := by
  simp only [R.GLM_STAT_BANDSRC, R.STAT, R.base, P.GLM]
  omega

theorem irq_st (p c : Nat) : (s.irq p c).st a = s.st a := rfl

theorem bandMissed_src (hb : b < 16) : bandSrc (bandMissed k b s) k b = if s.frm.bandPrev[k].testBit b then 1 else 2 := by
  have hset : bandSrc (setBandSrc k b (if s.frm.bandPrev[k].testBit b then 1 else 2) s) k b = if s.frm.bandPrev[k].testBit b then 1 else 2 := by
    rw [bandSrc, setBandSrc, State.stSet, State.st_stw_self, bitsOf_putBits_self _ _ (by omega) (by omega)]
    rw [show 2 * b + 1 + 1 - 2 * b = 2 by omega]
    split <;> rfl
  have hother : ∀ (y : State) (hi lo v : Nat), bandSrc (y.stAdd (R.STAT P.GLM 1) hi lo v) k b = bandSrc y k b := fun y hi lo v => by
    rw [bandSrc, State.stAdd, State.st_stw_of_ne _ (bandSrc_stat_ne k), bandSrc]
  generalize hv : (if s.frm.bandPrev[k].testBit b then 1 else 2) = v at hset
  have hx : bandSrc (((setBandSrc k b v s).stAdd (R.STAT P.GLM 1) 7 0 1).irq P.GLM 2) k b = v := by
    rw [bandSrc, irq_st, ← bandSrc, hother, hset]
  unfold bandMissed
  rw [hv]
  generalize ((setBandSrc k b v s).stAdd (R.STAT P.GLM 1) 7 0 1).irq P.GLM 2 = x at hx
  dsimp only
  split
  · exact hx
  · rw [hother, hx]

/-! ### Pools -/

/-- The rows of a pool canvas as the mask program writes them. -/
def poolRows (n : Fin 8) (e tm : Nat) (s : State) : State :=
  s.over (List.range (s.buf e).h) fun x j => (engineWrite (maskEngine x) ((s.buf e).base + j * (s.buf e).stride) (poolCanvas s n (s.buf e) (poolsAt s tm) j) x).2

theorem poolRows_now (tm : Nat) : (poolRows n e tm s).now = s.now :=
  Runs.now (Runs.refl.over fun _ _ h => h.engineWrite)

/-- A finished canvas, with its fence to signal. -/
def poolOver (s : State) : State := { s.setGlm fun g => { g with pool := none } with free := s.free + 1 }

theorem poolRenderDone_eq {tm : Nat} (hg : s.beamGated = false) (hp : s.glm.pool = some (e, tm)) :
    poolRenderDone s = postFlip (Fin.ofNat 8 (s.rf R.GLM_CFG 10 8))
      ⟨e, (poolRows (Fin.ofNat 8 (s.rf R.GLM_CFG 10 8)) e tm s).rf R.GLM_POOL_BUF 29 24, true, false, (poolRows (Fin.ofNat 8 (s.rf R.GLM_CFG 10 8)) e tm s).now⟩
      (signalFence ((poolRows (Fin.ofNat 8 (s.rf R.GLM_CFG 10 8)) e tm s).rf R.GLM_POOL_BUF 29 24)
        (poolOver (poolRows (Fin.ofNat 8 (s.rf R.GLM_CFG 10 8)) e tm s))) := by
  rw [poolRenderDone, hg, if_neg Bool.false_ne_true, hp]
  rfl

/-- A loop of operations that leave the state as it is. -/
theorem over_stays {α : Type} {l : List α} {f : State → α → State} (h : ∀ c, f s c = s) : s.over l f = s :=
  State.over_induct (q := fun y => y = s) rfl fun y c hy => by rw [hy, h c]

/-- A signal of a fence that no pre-scaler waits for. -/
theorem signalFence_alone {f : Nat} (hs : ∀ k : Fin 4, s.rf (R.SCL_CFG k) 1 0 ≠ 3) : signalFence f s =
    ((if fenceSet s f then s else s.note (fenceReg f).2 (f % 32)).event (fenceReg f).1 (f % 32)).irq P.FENCE 0 := by
  have hkeep : ∀ (y : State) (k : Fin 4), (∀ k : Fin 4, y.rf (R.SCL_CFG k) 1 0 ≠ 3) →
      (if y.rf (R.SCL_CFG k) 1 0 = 3 ∧ y.rf (R.SCL_CFG k) 7 2 = f then sclTrigger k y else y) = y := fun y k h => if_neg fun hc => h k hc.1
  have hreg : ∀ k : Fin 4, R.SCL_CFG k ≠ (fenceReg f).1 ∧ R.SCL_CFG k ≠ R.IRQ_STAT P.FENCE := fun k => by
    refine ⟨?_, by simp only [R.SCL_CFG, R.IRQ_STAT, R.base, P.FENCE]; omega⟩
    rcases fenceReg_mem f with h | h <;> rw [h] <;> simp only [R.SCL_CFG, R.FENCE_STATE_LO, R.FENCE_STATE_HI] <;> omega
  have hy : ∀ k : Fin 4, (((if fenceSet s f then s else s.note (fenceReg f).2 (f % 32)).event (fenceReg f).1 (f % 32)).irq P.FENCE 0).rf (R.SCL_CFG k) 1 0 ≠ 3 :=
    fun k => by
      rw [State.rf_irq_of_ne (hreg k).2, State.rf, State.rd_event_of_ne (hreg k).1, ← State.rf]
      split <;> exact hs k
  unfold signalFence
  exact over_stays (fun k => hkeep _ k hy)

theorem signalFence_kept {f : Nat} (hs : ∀ k : Fin 4, s.rf (R.SCL_CFG k) 1 0 ≠ 3) : (signalFence f s).cmp = s.cmp ∧ (signalFence f s).glm = s.glm ∧
    (∀ c, (signalFence f s).ld c = s.ld c) ∧ fenceSet (signalFence f s) f = true := by
  rw [signalFence_alone hs]
  have hn : (if fenceSet s f then s else s.note (fenceReg f).2 (f % 32)).cmp = s.cmp ∧ (if fenceSet s f then s else s.note (fenceReg f).2 (f % 32)).glm = s.glm ∧
      ∀ c, (if fenceSet s f then s else s.note (fenceReg f).2 (f % 32)).ld c = s.ld c := by
    split <;> exact ⟨rfl, rfl, fun _ => rfl⟩
  generalize (if fenceSet s f then s else s.note (fenceReg f).2 (f % 32)) = x at hn
  obtain ⟨h1, h2, h3⟩ := hn
  have hfence : (fenceReg f).1 ≠ R.IRQ_STAT P.FENCE := by
    rcases fenceReg_mem f with h | h <;> rw [h] <;> decide
  have hset : fenceSet ((x.event (fenceReg f).1 (f % 32)).irq P.FENCE 0) f = true := by
    rw [fenceSet, State.rb_irq_of_ne hfence]
    exact State.rb_event_self (by omega)
  exact ⟨h1, h2, h3, hset⟩

/-- A posted flip of a buffer that is no release: what it shows, and what it leaves. -/
theorem postFlip_pool {f tm : Nat} (hp : (s.cmp.lyr[n]).pend = none) (hb : (s.buf e).state = .swOwned) (hr : isRaw (s.buf e).fmt = false) (he : e < 256)
    {u : State} (hu : u = postFlip n ⟨e, f, true, false, tm⟩ s) :
    (u.cmp.lyr[n]).pend = some ⟨e, f, true, false, tm⟩ ∧ (u.buf e).state = .queued ∧ u.glm = s.glm ∧ (∀ c, u.ld c = s.ld c) ∧ fenceSet u f = fenceSet s f := by
  have h0 : flipRefusal n ⟨e, f, true, false, tm⟩ s = 0 := by
    rw [flipRefusal, hp]
    simp [hb, hr]
  rw [postFlip_taken h0] at hu
  have hglm : (flipPosted n ⟨e, f, true, false, tm⟩ s).glm = s.glm := by
    rw [flipPosted, State.wf, State.wr_glm, State.wb, State.wr_glm, State.wf, State.wr_glm]
    rfl
  have ho : Only [R.LYR_FLIP_STAT n, R.BUF_STATES (e / 8)] [] s (flipPosted n ⟨e, f, true, false, tm⟩ s) := flipPosted_only (.refl _ _ s) (by simp) fun _ => by simp
  have hne : (fenceReg f).1 ∉ [R.LYR_FLIP_STAT n, R.BUF_STATES (e / 8)] := by
    simp only [List.mem_cons, List.not_mem_nil, or_false]
    rcases fenceReg_mem f with h | h <;> rw [h] <;> simp only [R.FENCE_STATE_LO, R.FENCE_STATE_HI, R.LYR_FLIP_STAT, R.BUF_STATES] <;> omega
  have hbuf : (flipPosted n ⟨e, f, true, false, tm⟩ s).buf e = (setBufState e .queued s).buf e := by rw [flipPosted_buf]; rfl
  subst hu
  exact ⟨(flipPosted_shows n _ s).1, by rw [hbuf, setBufState_buf_self], hglm, fun c => ho.mem c, ho.rb hne⟩

/-- Settles O30: the one driven tile's band, the deadline of a band that the pipe waits for, and the flip that a finished canvas posts. -/
theorem bandsAndPoolsFinish : Obligations.BandsAndPoolsFinish := by
  intro t s
  refine ⟨?_, fun k b ho hd => ?_, ?_⟩
  · intro b k shapes l a hen hst hcfg hon hoff hb hbefore hw hg hl
    have hu : bandDone b (s.at t) = bandWritten k b a l (s.at t) := bandDone_written hl hen hst hcfg hg hon hoff hb hbefore hw
    have hexec : exec (.bandDone t b) s = .next (if (bandDone b (s.at t)).frm.band = (s.at t).frm.band then bandDone b (s.at t) else
      closeWins (fun r => r == .band) (bandDone b (s.at t))) := rfl
    rw [hu] at hexec
    have hclaim : ∀ x : State, x = bandWritten k b a l (s.at t) → x.frm.band[k] = s.frm.band[k] ||| 2 ^ b.val ∧
        (∀ c, c < l.length → x.ld (a + c) = BitVec.ofNat 8 (l.getD c 0)) ∧ (∀ c, c < a ∨ a + l.length ≤ c → x.ld c = s.ld c) ∧ ∀ c, x.rd c = s.rd c := by
      rintro x rfl
      refine ⟨bandWritten_band, fun c hc => ?_, fun c hc => ?_, fun c => bandWritten_rd c⟩
      · rw [bandWritten_ld, put_ld_self hc, List.getD_eq_getElem _ _ hc]
      · rw [bandWritten_ld, put_ld_of_ne hc]
        rfl
    generalize bandWritten k b a l (s.at t) = x at hexec hclaim
    refine ⟨_, hexec, ?_⟩
    split
    · exact hclaim x rfl
    · exact hclaim x rfl
  · exact ⟨_, next_congr (bandLate_missed ho hd), bandMissed_src b.isLt, bandMissed_irq,
      bandMissed_only (Only.refl _ _ s).at (by simp) (by simp) (by simp)⟩
  · intro e tm w hg hp n f hw hregs hcmp hs hpend hbuf hraw he
    have hw' : w = poolRows n e tm (s.at t) := hw
    have hnow : w.now = max s.now t := by rw [hw', poolRows_now]; rfl
    have hf : w.rf R.GLM_POOL_BUF 29 24 = f := by rw [State.rf, State.rd, hregs]; rfl
    have heq : poolRenderDone (s.at t) = postFlip n ⟨e, w.rf R.GLM_POOL_BUF 29 24, true, false, w.now⟩ (signalFence (w.rf R.GLM_POOL_BUF 29 24) (poolOver w)) := by
      rw [hw']
      exact poolRenderDone_eq (s := s.at t) hg hp
    rw [hf, hnow] at heq
    have hover : ∀ (c : Nat), (poolOver w).rd c = s.rd c := fun c => by
      show w.rd c = s.rd c
      rw [State.rd, hregs, State.rd]
    obtain ⟨h1, h2, h3, h4⟩ := signalFence_kept (s := poolOver w) (f := f) fun k => by rw [State.rf, hover, ← State.rf]; exact hs k
    have hc : (poolOver w).cmp = s.cmp := hcmp
    rw [hc] at h1
    have hg' : (poolOver w).glm.pool = none := rfl
    have hmem : ∀ c, (poolOver w).ld c = w.ld c := fun _ => rfl
    generalize poolOver w = x at *
    generalize signalFence f x = y at *
    have hb : ∀ e, y.buf e = s.buf e := buf_congr h1
    obtain ⟨g1, g2, g3, g4, g5⟩ := postFlip_pool (s := y) (n := n) (f := f) (tm := max s.now t) (by rw [h1]; exact hpend) (by rw [hb]; exact hbuf)
      (by rw [hb]; exact hraw) he rfl
    exact ⟨_, next_congr heq, by rw [g3, h2, hg'], g1, g2, g5.trans h4, fun c => (g4 c).trans ((h3 c).trans (hmem c))⟩

end Sys2Proof.Machine
end

section
/-! PROOFS. A refutation of what is stated about a late line: its raising may reset the page whose FRAME_CRC the line completes (R194, R204, R518). -/

namespace Sys2Proof.Machine

variable {s u : State} {a p : Nat} {k : Fin 4}

/-! ### What a raising does to a page's shadows and statistics -/

/-- An entry that a map of entries leaves as it is, and that is not a default, is found as before. -/
theorem sget_smap_fixed {α : Type} [DecidableEq α] {dflt : Nat → α} {f : Nat → α → α} {v : α} (hf : f a v = v) (hv : v ≠ dflt a) :
    ∀ m : List (Nat × α), sget (dflt a) a m = v → sget (dflt a) a (smap dflt f m) = v
  | [], h => absurd h.symm hv
  | q :: m, h => by
    have ih := sget_smap_fixed hf hv m
    unfold smap at ih ⊢
    by_cases hq : q.1 = a
    · have hqv : q.2 = v := by rw [sget, if_pos hq] at h; exact h
      have hfq : f q.1 q.2 = v := by rw [hq, hqv, hf]
      rw [List.map_cons, List.filter_cons, if_pos (by rw [hfq, hq]; exact bne_iff_ne.2 hv), sget, if_pos hq, hfq]
    · rw [sget, if_neg hq] at h
      rw [List.map_cons, List.filter_cons]
      split
      · rw [sget, if_neg hq]
        exact ih h
      · exact ih h

theorem sget_skeep_dropped {α : Type} {d : α} {f : Nat → Bool} (h : f a = false) : ∀ m : List (Nat × α), sget d a (skeep f m) = d
  | [] => rfl
  | q :: m => by
    have ih := sget_skeep_dropped (d := d) h m
    unfold skeep at ih ⊢
    rw [List.filter_cons]
    split
    · rename_i hq
      rw [sget, if_neg fun e => by rw [e, h] at hq; exact Bool.false_ne_true hq]
      exact ih
    · exact ih

theorem sget_skeep_kept {α : Type} {d : α} {f : Nat → Bool} (h : f a = true) : ∀ m : List (Nat × α), sget d a (skeep f m) = sget d a m
  | [] => rfl
  | q :: m => by
    have ih := sget_skeep_kept (d := d) h m
    unfold skeep at ih ⊢
    rw [List.filter_cons]
    split
    · rw [sget, sget, ih]
    · rename_i hq
      rw [sget, if_neg fun e => hq (by rw [e, h]), ih]

/-- While the shadow at `a` holds `v`, which is not its reset value, FRAME_CRC of the tile whose page it is in has not been cleared by a block reset. -/
theorem Runs.shadow_or_crc {v : Word} (h : Runs s u) (ha : pageOf a = pageOf (R.SCN_STAT_FRAME_CRC k)) (hv : v ≠ regDefault a) (hs : s.sh a = v) :
    u.sh a = v ∨ u.st (R.SCN_STAT_FRAME_CRC k) = 0#32 := by
  induction h with
  | refl => exact .inl hs
  | wr _ _ ih => exact ih
  | stw _ hne ih => exact ih.imp id fun h => (State.st_stw_of_ne _ (hne k).symm _).trans h
  | @resetRegs t p _ ih =>
    by_cases hp : p = pageOf a
    · have hout : (fun c => pageOf c != p) (R.SCN_STAT_FRAME_CRC k) = false := by simp [← ha, hp]
      exact .inr (sget_skeep_dropped (f := fun c => pageOf c != p) hout t.stat)
    · have hin : (fun c => pageOf c != p) (R.SCN_STAT_FRAME_CRC k) = true := bne_iff_ne.2 (by rw [← ha]; exact Ne.symm hp)
      have hreg : resetReg p a v = v := if_neg fun e => by simp at e; exact hp e.2.symm
      exact ih.imp (fun h => sget_smap_fixed hreg hv t.shadow h) fun h => (sget_skeep_kept (f := fun c => pageOf c != p) hin t.stat).trans h
  | restart _ _ _ _ hst _ _ => exact .inr (by rw [State.st, hst]; rfl)
  | inner _ _ _ _ hsh hst _ ih => exact ih.imp (fun h => by rw [State.sh, hsh]; exact h) fun h => by rw [State.st, hst]; exact h

/-! ### The last line of a frame is late -/

/-- Tile 0 is a line of 16 codes, whose composed codes are all 0; its turn is the latest start. SCN_UNDERRUN of the tile is configured at level 3, and a register
of the tile's page has a shadow. -/
def lastLine : State :=
  let s := (State.reset.wr (R.STATUS (P.SPLT 0)) 0xf6#32).wr (R.FLT_SRC_CFG (Src.SCN_UNDERRUN 0)) 0x1b#32
  let s := s.setTile 0 fun x => { x with sending := true, size := some (16, 1) }
  { s with frm := { s.frm with kind := 1, codes := s.frm.codes.set 0 (List.replicate 16 0) }, shadow := [(R.SCN_RECT_CFG 0 0, 1#32)] }

theorem lastLine_completes : ∃ u, exec (.lineUnderrun 4116626 0 1) lastLine = .next u ∧ u.sh (R.SCN_RECT_CFG 0 0) ≠ 1#32 ∧ u.st (R.SCN_STAT_FRAME_CRC 0) ≠ 0#32 :=
  ⟨_, rfl, by decide +kernel⟩

/-- Refutes O31: the first underrun of a frame is raised before the frame's last line completes FRAME_CRC, so the state is none that the raising leaves where the
raising resets the tile's page. -/
theorem not_linesGoOutAsComposedOrAsBackground : ¬ Obligations.LinesGoOutAsComposedOrAsBackground := by
  unfold Obligations.LinesGoOutAsComposedOrAsBackground
  intro h
  obtain ⟨-, -, hunder⟩ := h 4116626 0 1 (List.replicate 16 0) lastLine (by decide +kernel) (by decide +kernel) (by decide +kernel) (by decide +kernel)
  obtain ⟨hfirst, -⟩ := hunder (by decide +kernel) (by decide +kernel) (by decide +kernel) (by decide +kernel)
  obtain ⟨u, hu, -, -, honly⟩ := hfirst (by decide +kernel)
  obtain ⟨x, hx, hsh, hcrc⟩ := lastLine_completes
  rw [hx] at hu
  cases hu
  have hshadow : u.sh (R.SCN_RECT_CFG 0 0) = 1#32 := (honly.shadow _).trans (by decide +kernel)
  exact (Runs.shadow_or_crc (k := 0) (Runs.refl.raise) (by decide +kernel) (by decide +kernel) hshadow).elim hsh hcrc

end Sys2Proof.Machine
end

section
/-! PROOFS. What a chip reset leaves of the reset record and of memory (R562, R538), and the loads of registers from OTP and eMRAM. -/

namespace Sys2Proof.Machine

variable {s t u : State} {a n c k : Nat} {w : Word}

/-! ### Loads that leave the low pages -/

/-- Only registers above the page of the system are written, and nothing else but what the security block keeps beside its registers. -/
structure HighOnly (s t : State) : Prop where
  low : ∀ a, a < 0x40001000 → t.rd a = s.rd a
  mem : t.mem = s.mem
  now : t.now = s.now
  tick : t.tickNum = s.tickNum
  sys : t.sys = s.sys
  pending : t.pending = s.pending
  nv : t.nv = s.nv

theorem HighOnly.refl (s : State) : HighOnly s s := ⟨fun _ _ => rfl, rfl, rfl, rfl, rfl, rfl, rfl⟩

theorem HighOnly.trans (h : HighOnly s t) (g : HighOnly t u) : HighOnly s u :=
  ⟨fun a ha => (g.low a ha).trans (h.low a ha), g.mem.trans h.mem, g.now.trans h.now, g.tick.trans h.tick, g.sys.trans h.sys, g.pending.trans h.pending, g.nv.trans h.nv⟩

theorem HighOnly.wr (h : HighOnly s t) (ha : 0x40001000 ≤ a) : HighOnly s (t.wr a w) :=
  h.trans ⟨fun b hb => State.rd_wr_of_ne _ (by omega) _, rfl, rfl, rfl, rfl, rfl, rfl⟩

theorem HighOnly.wf {hi lo v : Nat} (h : HighOnly s t) (ha : 0x40001000 ≤ a) : HighOnly s (t.wf a hi lo v) := h.wr ha

theorem HighOnly.wrWords {l : List Nat} (h : HighOnly s t) (ha : 0x40001000 ≤ a) : HighOnly s (t.wrWords a l) := by
  induction l generalizing t a with
  | nil => exact h
  | cons x l ih => exact ih (h.wr ha) (by omega)

theorem HighOnly.over {α : Type} {l : List α} {f : State → α → State} (h : HighOnly s t) (hf : ∀ u x, x ∈ l → HighOnly s u → HighOnly s (f u x)) :
    HighOnly s (t.over l f) := State.over_induct_mem (q := fun u => HighOnly s u) h fun u x hx hu => hf u x hx hu

theorem otpShow_high (h : HighOnly s t) : HighOnly s (otpShow t) := by
  unfold otpShow
  extract_lets v x y
  have hx : HighOnly s x := h.over fun u p _ hu => hu.wr (by simp only [R.SEC_OTP]; omega)
  exact ((hx.wrWords (by decide)).wr (by decide)).wr (by decide)

theorem nvShow_high (h : HighOnly s t) : HighOnly s (nvShow t) := by
  unfold nvShow
  extract_lets v c x y z last w
  have hx : HighOnly s x := h.trans ⟨fun _ _ => rfl, rfl, rfl, rfl, rfl, rfl, rfl⟩
  have hy : HighOnly s y := hx.over fun u r _ hu =>
    ((hu.wr (by simp only [R.SEC_FLOOR_LO]; omega)).wr (by simp only [R.SEC_FLOOR_HI]; omega)).wrWords (by simp only [R.SEC_ROOT_HASH]; omega)
  exact (((((hy.wr (by decide)).wr (by decide)).wf (by decide)).wr (by decide)).wr (by decide)).wrWords (by decide)

theorem otpLoad_high (h : HighOnly s t) : HighOnly s (otpLoad t) := by
  unfold otpLoad
  extract_lets c
  split
  · exact h
  · refine h.over fun u a ha hu => hu.wr ?_
    have hall : ∀ a ∈ [R.NET_MAC_LO, R.NET_MAC_HI, R.PORT_LAT 0, R.PORT_LAT 1, R.PORT_LAT 2] ++ (List.range 4).map R.PWR_VCODE, 0x40001000 ≤ a := by decide
    exact hall a ha

/-! ### The chip reset -/

/-- The state from which a chip reset loads the registers of OTP and eMRAM. -/
structure Rebooted (cause src : Nat) (s u : State) : Prop where
  cause : u.rd R.SYS_RST_CAUSE = word (src * 65536 + cause)
  tickWas : u.rd R.SYS_RST_TICK = word (s.tickNum % 2 ^ 32)
  main : ∀ a, regionOf a = .main → u.ld a = 0#8
  mem : ∀ a, regionOf a ≠ .main → u.ld a = s.ld a
  now : u.now = s.now
  tick : u.tickNum = 0
  power : u.sys.pgTime = s.now
  pending : u.pending = s.pending

theorem regionOf_ld_main {m : List (Nat × Byte)} (h : regionOf a = .main) :
    sget (memDefault a) a (skeep (fun b => !(decide (0x10000000 ≤ b) && decide (b ≤ 0x12FFFFFF))) m) = 0#8 := by
  obtain ⟨h1, h2⟩ := regionOf_main_iff.1 h
  refine sget_skeep_dropped (f := fun b => !(decide (0x10000000 ≤ b) && decide (b ≤ 0x12FFFFFF))) ?_ m
  simp [h1, h2]

theorem regionOf_ld_other {m : List (Nat × Byte)} (h : regionOf a ≠ .main) :
    sget (memDefault a) a (skeep (fun b => !(decide (0x10000000 ≤ b) && decide (b ≤ 0x12FFFFFF))) m) = sget (memDefault a) a m := by
  refine sget_skeep_kept (f := fun b => !(decide (0x10000000 ≤ b) && decide (b ≤ 0x12FFFFFF))) ?_ m
  have hn : ¬(0x10000000 ≤ a ∧ a ≤ 0x12FFFFFF) := fun hc => h (regionOf_main_iff.2 hc)
  rw [← Bool.decide_and, decide_eq_false hn]
  rfl

theorem chipReset_rebooted (cause src : Nat) (s : State) : Rebooted cause src s (chipReset cause src s) := by
  unfold chipReset
  extract_lets x y r z w e1 e2 e3 p q
  have hq : HighOnly _ q := otpLoad_high (otpShow_high (nvShow_high (.refl _)))
  clear_value q
  have hr : ∀ a, aonKeep a = true → a < 0x40001000 → q.rd a = ((s.wr R.SYS_RST_CAUSE (word (src * 65536 + cause))).wr R.SYS_RST_TICK (word (s.tickNum % 2 ^ 32))).rd a :=
    fun a ha hl => (hq.low a hl).trans (sget_skeep_kept (f := aonKeep) ha _)
  refine ⟨?_, ?_, fun a ha => ?_, fun a ha => ?_, hq.now, hq.tick, congrArg SysSt.pgTime hq.sys, hq.pending⟩
  · exact (hr _ (by decide) (by decide)).trans ((State.rd_wr_of_ne _ (by decide) _).trans (State.rd_wr_self _ _ _))
  · exact (hr _ (by decide) (by decide)).trans (State.rd_wr_self _ _ _)
  · exact (congrArg (sget (memDefault a) a) hq.mem).trans (regionOf_ld_main ha)
  · exact (congrArg (sget (memDefault a) a) hq.mem).trans (regionOf_ld_other ha)

/-! ### The loss of power -/

/-- Every domain is off: memory but for eMRAM and flash is lost, what waits stays. -/
structure PoweredOff (s u : State) : Prop where
  domains : u.rd R.PWR_DOMAIN_STAT = 0#32
  lost : ∀ a, regionOf a = .main ∨ regionOf a = .ret → u.ld a = 0#8
  kept : ∀ a, regionOf a = .emram ∨ regionOf a = .xspi → u.ld a = s.ld a
  now : u.now = s.now
  pending : u.pending = s.pending

theorem allOff_poweredOff (s : State) : PoweredOff s (allOff false s) := by
  unfold allOff
  extract_lets pin recs x ram e1 e2 y
  have hl : ∀ a, sget (memDefault a) a y.mem = if regionOf a = .emram ∨ regionOf a = .xspi ∨ regionOf a = .rom then s.ld a else 0#8 := fun a => by
    change sget (memDefault a) a (skeep (fun a => regionOf a != .ret) (skeep (fun a => regionOf a == .ret || regionOf a == .emram || regionOf a == .xspi || regionOf a == .rom) s.mem)) = _
    by_cases hr : regionOf a = .ret
    · rw [sget_skeep_dropped (f := fun a => regionOf a != .ret) (by simp [hr]), if_neg (by simp [hr])]
      rfl
    · rw [sget_skeep_kept (f := fun a => regionOf a != .ret) (by simp [hr])]
      split
      · rename_i h
        exact sget_skeep_kept (f := fun a => regionOf a == .ret || regionOf a == .emram || regionOf a == .xspi || regionOf a == .rom) (by rcases h with h | h | h <;> simp [h]) _
      · rename_i h
        exact sget_skeep_dropped (f := fun a => regionOf a == .ret || regionOf a == .emram || regionOf a == .xspi || regionOf a == .rom) (by simp_all) _
  exact ⟨State.rd_wr_self _ _ _, fun a ha => (hl a).trans (if_neg (by rcases ha with h | h <;> simp [h])),
    fun a ha => (hl a).trans (if_pos (by tauto)), rfl, rfl⟩

/-! ### Power-good, RESET_N and the rails -/

/-- The state right after power-good (R562, R594). -/
structure PoweredUp (s u : State) : Prop where
  cause : u.rf R.SYS_RST_CAUSE 3 0 = 0
  domains : u.rd R.PWR_DOMAIN_STAT = 0xFF#32
  tick : u.tickNum = 0
  power : u.sys.pgTime = s.now
  clocks : u.rd (R.STATUS P.CLK) = 0xFF#32
  lost : ∀ a, regionOf a = .main ∨ regionOf a = .ret → u.ld a = 0#8
  kept : ∀ a, regionOf a = .emram ∨ regionOf a = .xspi → u.ld a = s.ld a
  pending : u.pending = s.pending

theorem Rebooted.cause_field {cause src : Nat} (h : Rebooted cause src s u) (hc : cause < 16) (hs : src < 4096) : u.rf R.SYS_RST_CAUSE 3 0 = cause := by
  rw [State.rf, h.cause]
  simp only [bitsOf, word, BitVec.toNat_ofNat]
  omega

theorem powerGood_up (s : State) : PoweredUp s (powerGood s) := by
  unfold powerGood
  extract_lets x y
  have hx : PoweredOff s x := allOff_poweredOff s
  have hy : Rebooted 0 0 { x with tickNum := 0 } y := chipReset_rebooted ..
  clear_value x y
  refine ⟨?_, ?_, hy.tick, hy.power.trans hx.now, ?_, fun a ha => ?_, fun a ha => ?_, hy.pending.trans hx.pending⟩
  · rw [bootRelease, State.rf_wb_of_ne (by decide), State.rf_wr_of_ne (by decide), State.rf_wr_of_ne (by decide)]
    exact hy.cause_field (by decide) (by decide)
  · rw [bootRelease, State.rd_wb_of_ne (by decide), State.rd_wr_of_ne _ (by decide), State.rd_wr_self]
  · rw [bootRelease, State.rd_wb_of_ne (by decide), State.rd_wr_self]
  · change y.ld a = _
    by_cases hm : regionOf a = .main
    · exact hy.main a hm
    · exact (hy.mem a hm).trans (hx.lost a ha)
  · change y.ld a = _
    exact (hy.mem a fun e => by rw [e] at ha; simp at ha).trans (hx.kept a ha)

theorem resetPin_off (h : s.rf R.PWR_DOMAIN_STAT 7 0 = 0) : resetPin s = s := if_pos (by rw [isOff, h]; rfl)

theorem isOff_on (h : ¬s.rf R.PWR_DOMAIN_STAT 7 0 = 0) : isOff s = false := by rw [isOff, beq_eq_false_iff_ne]; exact h

theorem resetPin_on (h : ¬s.rf R.PWR_DOMAIN_STAT 7 0 = 0) : resetPin s = chipReset 1 0 s := if_neg (by rw [isOff_on h]; decide)

theorem vmon_over {d : Fin 8} (h : ¬s.rf R.PWR_DOMAIN_STAT 7 0 = 0) : vmon d true s = raise (Src.VMON_OV d) s := by
  rw [vmon, isOff_on h]; rfl

theorem vmon_under {d : Fin 8} (h : ¬s.rf R.PWR_DOMAIN_STAT 7 0 = 0) :
    vmon d false s = if s.rf R.SYS_START_STAT 4 0 = 0 then chipReset 0 0 s else raise (Src.VMON_UV d) s := by
  rw [vmon, isOff_on h]
  by_cases hs : s.rf R.SYS_START_STAT 4 0 = 0
  · rw [if_pos hs, hs]; rfl
  · rw [if_neg hs, if_neg (by decide), if_neg (by simpa using hs)]; rfl

theorem word_mod (n : Nat) : word (n % 2 ^ 32) = word n := by
  apply BitVec.eq_of_toNat_eq
  simp [word]

theorem Rebooted.tickWas_word {cause src : Nat} (h : Rebooted cause src s u) : u.rd R.SYS_RST_TICK = word s.tickNum := h.tickWas.trans (word_mod _)

theorem rstCmd_keyed (h1 : bitsOf w 31 16 = 0xA5C3) (h2 : bitOf w 0 = true) {o : Word} : rstCmd o w s = chipReset 5 0 s := if_pos ⟨h1, h2⟩

theorem rstCmd_other (h : bitsOf w 31 16 ≠ 0xA5C3 ∨ bitOf w 0 = false) {o : Word} : rstCmd o w s = s :=
  if_neg fun ⟨h1, h2⟩ => h.elim (fun h => h h1) fun h => by rw [h] at h2; exact Bool.false_ne_true h2

end Sys2Proof.Machine
end

section
/-! PROOFS. The boot ROM: what it prepares (R450 to R458), how SAFE starts (R461, R483, R570), and how MAIN is released. -/

namespace Sys2Proof.Machine

variable {s t u v : State} {a k n m : Nat} {w : Word} {l lm : List Nat}

/-! ### SEC_STATUS after the preparation -/

/-- The three lowest bits of a word make up its field `[2:0]`. -/
theorem bitsOf_three (h0 : bitOf w 0 = true) (h1 : bitOf w 1 = true) (h2 : bitOf w 2 = true) : bitsOf w 2 0 = 7 := by
  simp only [bitOf, Nat.testBit_eq_decide_div_mod_eq, decide_eq_true_eq] at h0 h1 h2
  simp only [bitsOf]
  omega

/-- The root key stands and the DRBG is seeded. -/
structure Keyed (s : State) : Prop where
  puf : s.rb R.SEC_STATUS 0 = true
  keys : s.rb R.SEC_STATUS 1 = true
  rng : s.rb R.SEC_STATUS 2 = true

theorem Keyed.only (h : Keyed s) (hu : Only l lm s u) (hl : R.SEC_STATUS ∉ l) : Keyed u :=
  ⟨(hu.rb hl).trans h.puf, (hu.rb hl).trans h.keys, (hu.rb hl).trans h.rng⟩

theorem Keyed.field (h : Keyed s) : s.rf R.SEC_STATUS 2 0 = 7 := bitsOf_three h.puf h.keys h.rng

theorem lifecycle_congr {x y : NvSt} (h : y.otp = x.otp) : y.lifecycle = x.lifecycle := by
  have hc : ∀ lo n, y.otpCount lo n = x.otpCount lo n := fun lo n => by
    rw [otpCount_eq, otpCount_eq]; exact List.countP_congr fun j _ => by rw [otpBit_congr h]
  rw [NvSt.lifecycle, hc, hc, hc, NvSt.lifecycle]

theorem bootKeys_stands (hk : (s.nv.lifecycle != 3) = true) (hd : s.sec.draws = 2 ^ 20) :
    (bootKeys true true s).rb R.SEC_STATUS 0 = true ∧ (bootKeys true true s).rb R.SEC_STATUS 1 = true ∧ (bootKeys true true s).sec.draws = 2 ^ 20 := by
  unfold bootKeys
  rw [hk]
  extract_lets puf x y z
  have hy : y.sec.draws = 2 ^ 20 := hd
  have hz : z.sec.draws = 2 ^ 20 := State.over_induct (q := fun (q : State) => q.sec.draws = 2 ^ 20) hy fun _ _ h => h
  clear_value z
  refine ⟨?_, State.rb_wb_self (by decide), hz⟩
  rw [State.rb_wb_bit (by decide) (by decide), State.rb_wb_self (by decide)]
  rfl

theorem length_wordsOf_nonce (v : Nat) : (wordsOf (bytesLE 32 v)).length = 8 := by
  rw [wordsOf, List.length_map, List.length_range, length_bytesLE]; rfl

theorem newNonce_keyed (h : Keyed s) (ha : R.SEC_STATUS < a) : Keyed (newNonce a s) := by
  rw [newNonce, show rngOk s = true from h.rng]
  refine Keyed.only (s := (draw s).2) ⟨h.puf, h.keys, h.rng⟩ wrWords_only fun hm => ?_
  obtain ⟨j, -, hj⟩ := List.mem_map.1 hm
  omega

theorem drbgReseed_seeds (h0 : s.rb R.SEC_STATUS 0 = true) (h1 : s.rb R.SEC_STATUS 1 = true) (hd : s.sec.draws = 2 ^ 20) : Keyed (drbgReseed true s) := by
  rw [drbgReseed_good (.inl hd.ge)]
  have hk : Keyed (s.fresh.2.wb R.SEC_STATUS 2 true) :=
    ⟨(State.rb_wb_bit (by decide) (by decide)).trans h0, (State.rb_wb_bit (by decide) (by decide)).trans h1, State.rb_wb_self (by decide)⟩
  exact hk.only (l := []) (lm := []) (Only.of_maps rfl rfl rfl rfl rfl rfl) (by simp)

theorem loadDirectory_nv : (loadDirectory s).nv = s.nv := State.over_induct (q := fun (q : State) => q.nv = s.nv) rfl fun _ _ h => by
    simpa only [State.wr_nv] using h

theorem directoryLoaded_nv : (if directoryGood s then loadDirectory s else s).nv = s.nv := by
  split
  · exact loadDirectory_nv
  · rfl

theorem jrnShow_nv : (jrnShow s).nv = s.nv := by
  rw [jrnShow]; split <;> rfl

theorem journalScan_otp (h : s.nv.left = []) : (journalScan s).nv.otp = s.nv.otp := by
  unfold journalScan
  extract_lets lft x e1
  have hx : x.nv = s.nv := jrnShow_nv
  rw [show lft = [] from h]
  have he : e1.otp = s.nv.otp := congrArg NvSt.otp hx
  exact he

theorem flashProbe_otp {f : Nat} : (flashProbe f s).nv.otp = s.nv.otp := by
  unfold flashProbe
  extract_lets n
  rw [show s.fresh = (s.fresh.1, s.fresh.2) from rfl]
  dsimp only
  have hy : Runs s (if n = 0 then s.fresh.2 else s.fresh.2.wf R.XSPI_SIZE 4 0 (min 29 n)) := (Runs.refl.fresh).ite (Runs.refl.fresh.wf)
  generalize (if n = 0 then s.fresh.2 else s.fresh.2.wf R.XSPI_SIZE 4 0 (min 29 n)) = y at hy
  split
  · exact (Runs.raise hy.wr).otp
  · exact (Runs.wr hy).otp

theorem bootRelease_nv : (bootRelease s).nv = s.nv := by rw [bootRelease, State.wb, State.wr_nv, State.wr_nv]

theorem setSec_nv {f : SecSt → SecSt} : (s.setSec f).nv = s.nv := rfl

theorem setSec_sec {f : SecSt → SecSt} : (s.setSec f).sec = f s.sec := rfl

theorem bootPrepare_keyed {f : Nat} (hl : s.nv.lifecycle ≠ 3) (hj : s.nv.left = []) : Keyed (bootPrepare true true true f s) := by
  unfold bootPrepare
  extract_lets s1 s2 s3 s4 s5 s6 s7
  have h1 : s1.nv = s.nv := (otpLoad_high (otpShow_high (.refl (bootRelease s)))).nv.trans bootRelease_nv
  clear_value s1
  have h2 : s2.nv = s.nv := directoryLoaded_nv.trans h1
  clear_value s2
  have h3 : s3.nv.otp = s.nv.otp := (congrArg NvSt.otp (nvShow_high (.refl (journalScan s2))).nv).trans
    ((journalScan_otp (by rw [h2, hj])).trans (congrArg NvSt.otp h2))
  clear_value s3
  have h4 : s4.nv.otp = s.nv.otp := flashProbe_otp.trans h3
  have hlife : (s4.nv.lifecycle != 3) = true := by rw [lifecycle_congr h4]; simpa using hl
  clear_value s4
  obtain ⟨hp, hk, hd⟩ := bootKeys_stands (s := s4.setSec fun x => { x with draws := 2 ^ 20 }) (by rw [setSec_nv]; exact hlife) (by rw [setSec_sec])
  have h5 : Keyed s5 := drbgReseed_seeds hp hk hd
  have h6 : Keyed s6 := newNonce_keyed (newNonce_keyed (newNonce_keyed h5 (by decide)) (by decide)) (by decide)
  clear_value s6
  have h7 : Keyed s7 := h6.only ((Only.refl [R.SYS_MODE] [] s6).wb (by simp)) (by decide)
  exact h7.only ((Only.refl [R.SEC_UPD_STAT] [] s7).wb (by simp)) (by decide)

/-! ### Steps of start-up -/

theorem completeStep_only : Only [R.SYS_START_MS k, R.SYS_START_STAT] [] s (completeStep k s) := by
  unfold completeStep
  split
  · exact .refl _ _ _
  · exact ((Only.refl _ _ s).wr (by simp)).wf (by simp)

/-- A step that was open is completed: its time is shown, and it is the last one completed. -/
theorem completeStep_open (h : s.rf (R.SYS_START_MS k) 15 0 = 0) (hk : R.SYS_START_MS k ≠ R.SYS_START_STAT) :
    (completeStep k s).rf (R.SYS_START_MS k) 15 0 ≠ 0 ∧ (completeStep k s).rf R.SYS_START_STAT 4 0 = k % 32 := by
  unfold completeStep
  have ho : stepOpen s k = true := by rw [stepOpen, stepMs, h]; rfl
  rw [ho, if_neg (by decide)]
  refine ⟨?_, State.rf_wf_self (by decide) (by decide)⟩
  rw [State.rf_wf_of_ne hk, State.rf, State.rd_wr_self]
  simp only [bitsOf, word, BitVec.toNat_ofNat]
  omega

/-! ### The start of SAFE -/

theorem xspiProtect_only : Only ((List.range 6).flatMap (fun k => [R.XSPI_PROT_BASE k, R.XSPI_PROT_SIZE k, R.XSPI_PROT_WR k]) ++ [R.XSPI_LOCK]) [] s (xspiProtect s) := by
  unfold xspiProtect
  split
  · exact .refl _ _ _
  · refine Only.wb (Only.overMem (.refl _ _ _) fun u k hk hu => ?_) (by simp)
    have hm : ∀ a ∈ [R.XSPI_PROT_BASE k, R.XSPI_PROT_SIZE k, R.XSPI_PROT_WR k],
        a ∈ (List.range 6).flatMap (fun k => [R.XSPI_PROT_BASE k, R.XSPI_PROT_SIZE k, R.XSPI_PROT_WR k]) ++ [R.XSPI_LOCK] :=
      fun a ha => List.mem_append_left _ (List.mem_flatMap.2 ⟨k, hk, ha⟩)
    exact ((hu.wf (hm _ (by simp))).wf (hm _ (by simp))).wf (hm _ (by simp))

theorem buildPageRights_only : Only ((List.range 64).map fun k => R.SEC_PAGE_RIGHT 0 + 4 * k) [] s (buildPageRights n s) := by
  have h : Only _ [] s (buildPageRights n s) := wrWords_only
  simpa using h

/-- Where no register of a list is the one read, the page rights leave it. -/
theorem buildPageRights_rd (h : a < R.SEC_PAGE_RIGHT 0 ∨ R.SEC_PAGE_RIGHT 0 + 256 ≤ a) : (buildPageRights n s).rd a = s.rd a :=
  buildPageRights_only.regs _ fun hm => by
    obtain ⟨j, hj, rfl⟩ := List.mem_map.1 hm
    have := List.mem_range.1 hj
    omega

/-- The mode that boot sets where nothing stands in the way. -/
theorem bootTo_spec (hm : m < 16) (hr : AuditRoom s) : Audited (s.wf R.SYS_MODE 3 0 m) (bootTo m s) := by
  unfold bootTo
  extract_lets old x
  have hx : AuditRoom x := hr.congr rfl (State.rd_wf_of_ne (by decide)) (State.rd_wf_of_ne (by decide))
  split
  · exact .refl x
  · exact (auditAdd_recorded hx).audited

theorem bootMode_plain (hq : s.nv.quarantine = 0) (hw : warmBoot s = false) : bootMode 0 s = bootTo (if s.nv.lifecycle < 2 then 0 else 5) s := by
  rw [bootMode, if_neg (by simp), if_neg (by simpa using hq), hw]
  by_cases h : s.nv.lifecycle < 2
  · rw [if_pos ⟨h, rfl⟩, if_pos h]
  · rw [if_neg fun hc => h hc.1, if_neg h]; rfl

/-- What SAFE's start leaves: step 1 is complete, the mode is set, and the registers of other blocks are as `b` has them. -/
structure SafeUp (b u : State) : Prop where
  step : u.rf (R.SYS_START_MS 1) 15 0 ≠ 0
  last : u.rf R.SYS_START_STAT 4 0 = 1
  mode : u.rf R.SYS_MODE 3 0 = if b.nv.lifecycle < 2 then 0 else 5
  rest : ∀ a ∈ [R.CPU_HART_EN 1, R.CPU_HART_STAT 1, R.SEC_STATUS, R.SEC_BOOT_STAT, R.SYS_RST_CAUSE], u.rd a = b.rd a

theorem safeUp (hq : s.nv.quarantine = 0) (hw : warmBoot s = false) (ho : s.rf (R.SYS_START_MS 1) 15 0 = 0) (hr : AuditRoom s) :
    SafeUp s (completeStep 1 (buildPageRights 0 (bootMode 0 s))) := by
  have hm : (if s.nv.lifecycle < 2 then 0 else 5) < 16 := by split <;> omega
  rw [bootMode_plain hq hw]
  generalize hmd : (if s.nv.lifecycle < 2 then 0 else 5) = md at hm
  have ha : Audited (s.wf R.SYS_MODE 3 0 md) (bootTo md s) := bootTo_spec hm hr
  generalize bootTo md s = x at ha
  have hy : ∀ a, pageOf a ≠ P.SEC4 → pageOf a ≠ P.NVM → a < R.SEC_PAGE_RIGHT 0 ∨ R.SEC_PAGE_RIGHT 0 + 256 ≤ a →
      (buildPageRights 0 x).rd a = (s.wf R.SYS_MODE 3 0 md).rd a := fun a h1 h2 h3 => (buildPageRights_rd h3).trans (ha.regs a h1 h2)
  generalize buildPageRights 0 x = y at hy
  have hstep : y.rf (R.SYS_START_MS 1) 15 0 = 0 := by
    rw [State.rf, hy _ (by decide) (by decide) (by decide), State.rd_wf_of_ne (by decide)]; exact ho
  obtain ⟨h1, h2⟩ := completeStep_open (k := 1) hstep (by decide)
  refine ⟨h1, h2, ?_, fun a ha => ?_⟩
  · rw [completeStep_only.rf (by decide), State.rf, hy _ (by decide) (by decide) (by decide), hmd]
    exact (State.rf_wf_self (by decide) (by decide)).trans (Nat.mod_eq_of_lt hm)
  · have hall : ∀ a ∈ [R.CPU_HART_EN 1, R.CPU_HART_STAT 1, R.SEC_STATUS, R.SEC_BOOT_STAT, R.SYS_RST_CAUSE],
        a ∉ [R.SYS_START_MS 1, R.SYS_START_STAT] ∧ pageOf a ≠ P.SEC4 ∧ pageOf a ≠ P.NVM ∧ (a < R.SEC_PAGE_RIGHT 0 ∨ R.SEC_PAGE_RIGHT 0 + 256 ≤ a) ∧ a ≠ R.SYS_MODE := by
      decide
    obtain ⟨hs, h4, hn, hp, hmo⟩ := hall a ha
    rw [completeStep_only.regs a hs, hy a h4 hn hp, State.rd_wf_of_ne hmo]

theorem bootStart_harts {c : Nat} : (bootStart c v).rd (R.CPU_HART_EN 1) = 1#32 ∧ (bootStart c v).rd (R.CPU_HART_STAT 1) = 1#32 := by
  unfold bootStart
  extract_lets x y
  refine ⟨?_, ?_⟩
  · rw [xspiProtect_only.regs _ (by decide), State.rd_wr_of_ne _ (by decide), State.rd_wr_self]
  · rw [xspiProtect_only.regs _ (by decide), State.rd_wr_self]

section
variable {puf keys rng : Bool} {f c : Nat}

theorem safeRunning_idle (h : s.rf R.PWR_DOMAIN_STAT 7 0 = 0 ∨ s.rf (R.SYS_START_MS 1) 15 0 ≠ 0 ∨ s.rf R.SYS_MODE 3 0 = 7) : safeRunning puf keys rng f s = s := by
  refine if_pos ?_
  simp only [isOff, stepOpen, stepMs, quarantined, Bool.or_eq_true, beq_iff_eq, Bool.not_eq_true', beq_eq_false_iff_ne]
  tauto

section
variable (h1 : ¬s.rf R.PWR_DOMAIN_STAT 7 0 = 0) (h2 : s.rf (R.SYS_START_MS 1) 15 0 = 0) (h3 : s.rf R.SYS_MODE 3 0 ≠ 7)
include h1 h2 h3

theorem boot_runs : ¬(isOff s || !stepOpen s 1 || quarantined s) = true := by
  simp only [isOff, stepOpen, stepMs, quarantined, Bool.or_eq_true, beq_iff_eq, Bool.not_eq_true', beq_eq_false_iff_ne]
  tauto

theorem safeRunning_none (hc : safeCopy (bootPrepare puf keys rng f s) = none) :
    safeRunning puf keys rng f s = bootMode 1 (imageFail 0 (1 - bootCopy 0 (bootPrepare puf keys rng f s))
      (imageFail 0 (bootCopy 0 (bootPrepare puf keys rng f s)) (bootPrepare puf keys rng f s))) := by
  rw [safeRunning, if_neg (boot_runs h1 h2 h3)]
  dsimp only
  rw [hc]

theorem safeRunning_some (hc : safeCopy (bootPrepare puf keys rng f s) = some c) (hg : otpGood (bootStart c (bootPrepare puf keys rng f s)) = true)
    (hp : (bootStart c (bootPrepare puf keys rng f s)).rb R.SEC_STATUS 0 = true) (hk : keys = true)
    (hd : directoryGood (otpLoad (otpShow (bootRelease s))) = true) (ha : chainGood (bootStart c (bootPrepare puf keys rng f s)) = true)
    (hw : warmBoot (completeStep 1 (buildPageRights 0 (bootMode 0 (bootStart c (bootPrepare puf keys rng f s))))) = false) :
    safeRunning puf keys rng f s = completeStep 1 (buildPageRights 0 (bootMode 0 (bootStart c (bootPrepare puf keys rng f s)))) := by
  rw [safeRunning, if_neg (boot_runs h1 h2 h3)]
  dsimp only
  rw [hc]
  dsimp only
  rw [hd, hg, hp, hk]
  rw [hk] at ha hw
  have hx : auditBoot (bootStart c (bootPrepare puf true rng f s)) = bootStart c (bootPrepare puf true rng f s) := if_pos ha
  simp only [Bool.not_true, Bool.or_self, Bool.false_eq_true, if_false, hx]
  rw [hw, if_neg (by decide)]

end

end

/-! ### MAIN -/

/-- SAFE releases the harts of MAIN from slot `k` (R461, R484). -/
def mainGo (k : Nat) (s : State) : State :=
  let c := imageCheck 1 k s
  let s := bootImage 1 k c (imageLoad 1 k s)
  let s := auditAdd 3 3 1 [] c.2.2 (k + 256 * s.rf R.SEC_BOOT_STAT 8 8) s
  let s := ((s.wr (R.CPU_HART_EN 0) 0xF#32).wr (R.CPU_HART_EN 2) 0xFF#32).wr (R.CPU_HART_EN 3) 3#32
  completeStep 6 (((s.wr (R.CPU_HART_STAT 0) 0xF#32).wr (R.CPU_HART_STAT 2) 0xFF#32).wr (R.CPU_HART_STAT 3) 3#32)

theorem mainVerified_idle (h : s.rf (R.SYS_START_MS 1) 15 0 = 0 ∨ s.rf (R.SYS_START_MS 1) 15 0 = 0xFFFF ∨ s.rf (R.SYS_START_MS 6) 15 0 ≠ 0 ∨
    s.rf R.SYS_MODE 3 0 = 7 ∨ s.rb R.SEC_BOOT_STAT 4 = true) : mainVerified s = s := by
  refine if_pos ?_
  simp only [stepDone, stepOpen, stepMs, quarantined, Bool.or_eq_true, Bool.not_eq_true', Bool.and_eq_false_iff, bne_eq_false_iff_eq, beq_iff_eq, beq_eq_false_iff_ne]
  tauto

section
variable (h1 : s.rf (R.SYS_START_MS 1) 15 0 ≠ 0) (h2 : s.rf (R.SYS_START_MS 1) 15 0 ≠ 0xFFFF) (h3 : s.rf (R.SYS_START_MS 6) 15 0 = 0)
  (h4 : s.rf R.SYS_MODE 3 0 ≠ 7) (h5 : s.rb R.SEC_BOOT_STAT 4 = false)
include h1 h2 h3 h4 h5

theorem mainVerified_runs : mainVerified s =
    if (imageCheck 1 (bootCopy 1 s) s).1 then mainGo (bootCopy 1 s) s
    else if (imageCheck 1 (1 - bootCopy 1 s) (imageFail 1 (bootCopy 1 s) s)).1 then mainGo (1 - bootCopy 1 s) (imageFail 1 (bootCopy 1 s) s)
    else startReason 4 (quarantineEnter 2 (imageFail 1 (1 - bootCopy 1 s) (imageFail 1 (bootCopy 1 s) s))) := by
  refine if_neg ?_
  simp only [stepDone, stepOpen, stepMs, quarantined, Bool.or_eq_true, Bool.not_eq_true', Bool.and_eq_false_iff, bne_eq_false_iff_eq, beq_iff_eq, beq_eq_false_iff_ne]
  rw [h5]
  simp only [Bool.false_eq_true]
  tauto

end

/-- The harts of MAIN run. -/
theorem mainGo_harts : (mainGo k s).rd (R.CPU_HART_EN 0) = 0xF#32 ∧ (mainGo k s).rd (R.CPU_HART_EN 2) = 0xFF#32 ∧ (mainGo k s).rd (R.CPU_HART_EN 3) = 3#32 := by
  unfold mainGo
  extract_lets c x y z
  clear_value y
  refine ⟨?_, ?_, ?_⟩ <;> rw [completeStep_only.regs _ (by decide), State.rd_wr_of_ne _ (by decide), State.rd_wr_of_ne _ (by decide), State.rd_wr_of_ne _ (by decide)]
  · rw [State.rd_wr_of_ne _ (by decide), State.rd_wr_of_ne _ (by decide), State.rd_wr_self]
  · rw [State.rd_wr_of_ne _ (by decide), State.rd_wr_self]
  · rw [State.rd_wr_self]

theorem bootImage_untried {c : Bool × Nat × Nat} (h : s.nv.trial = 0) : bootImage 1 k c s = (s.wr (R.SEC_IMG_VER k) (word c.2.2)).wb R.SEC_BOOT_STAT 0 (k == 1) := by
  unfold bootImage
  extract_lets x y ph e1 e2 e3
  have hy : y = (s.wr (R.SEC_IMG_VER k) (word c.2.2)).wb R.SEC_BOOT_STAT 0 (k == 1) := rfl
  have hv : y.nv.trial = 0 := h
  have hp : ph = 0 := by simp only [ph, hv]; rfl
  rw [if_neg (by simp [hp]), if_neg (by simp [hp]), hy]

theorem mainGo_step (hk : k ≤ 1) (ht : (imageLoad 1 k s).nv.trial = 0) (ho : (imageLoad 1 k s).rf (R.SYS_START_MS 6) 15 0 = 0) (hr : AuditRoom (imageLoad 1 k s)) :
    (mainGo k s).rb R.SEC_BOOT_STAT 0 = decide (k = 1) ∧ (mainGo k s).rf (R.SYS_START_MS 6) 15 0 ≠ 0 ∧ (mainGo k s).rf R.SYS_START_STAT 4 0 = 6 := by
  unfold mainGo
  extract_lets c x y z
  have hv : x = ((imageLoad 1 k s).wr (R.SEC_IMG_VER k) (word c.2.2)).wb R.SEC_BOOT_STAT 0 (k == 1) := bootImage_untried ht
  generalize imageLoad 1 k s = q at ht ho hr hv
  have hi : ∀ a ∈ [R.SEC_AUDIT_STAT, R.SEC_AUDIT_SEQ, R.SYS_START_MS 6], a ≠ R.SEC_IMG_VER k ∧ a ≠ R.SEC_BOOT_STAT := by
    have hall : ∀ j : Fin 2, ∀ a ∈ [R.SEC_AUDIT_STAT, R.SEC_AUDIT_SEQ, R.SYS_START_MS 6], a ≠ R.SEC_IMG_VER j ∧ a ≠ R.SEC_BOOT_STAT := by decide
    exact hall ⟨k, by omega⟩
  have hx : ∀ a ∈ [R.SEC_AUDIT_STAT, R.SEC_AUDIT_SEQ, R.SYS_START_MS 6], x.rd a = q.rd a := fun a ha => by
    rw [hv]; exact (State.rd_wb_of_ne (hi a ha).2).trans (State.rd_wr_of_ne _ (hi a ha).1 _)
  have hrx : AuditRoom x := hr.congr (by rw [hv, State.wb, State.wr_sec, State.wr_sec]) (hx _ (by simp)) (hx _ (by simp))
  have hb : x.rb R.SEC_BOOT_STAT 0 = (k == 1) := by rw [hv]; exact State.rb_wb_self (by decide)
  have hm : x.rf (R.SYS_START_MS 6) 15 0 = 0 := by rw [State.rf, hx _ (by simp)]; exact ho
  clear_value x
  have hy : Audited x y := (auditAdd_recorded hrx).audited
  clear_value y
  have hz : Only [R.CPU_HART_EN 0, R.CPU_HART_EN 2, R.CPU_HART_EN 3, R.CPU_HART_STAT 0, R.CPU_HART_STAT 2, R.CPU_HART_STAT 3] [] y
      (((z.wr (R.CPU_HART_STAT 0) 0xF#32).wr (R.CPU_HART_STAT 2) 0xFF#32).wr (R.CPU_HART_STAT 3) 3#32) :=
    ((((((Only.refl _ _ y).wr (by simp)).wr (by simp)).wr (by simp)).wr (by simp)).wr (by simp)).wr (by simp)
  generalize ((z.wr (R.CPU_HART_STAT 0) 0xF#32).wr (R.CPU_HART_STAT 2) 0xFF#32).wr (R.CPU_HART_STAT 3) 3#32 = p at hz
  have hp : p.rf (R.SYS_START_MS 6) 15 0 = 0 := by
    rw [hz.rf (by decide), State.rf, hy.regs _ (by decide) (by decide)]; exact hm
  refine ⟨?_, completeStep_open hp (by decide)⟩
  rw [completeStep_only.rb (by decide), hz.rb (by decide), State.rb, hy.regs _ (by decide) (by decide)]
  exact hb

end Sys2Proof.Machine
end

section
/-! PROOFS. The start-up record (R565), the stagger (R566), bounds (R568), watchdogs and harts (R581), and start-up as a whole. -/

namespace Sys2Proof.Machine

variable {s t u v : State} {a k n m : Nat} {w : Word} {ph : Fin 2} {ok : Bool}

/-! ### The start-up record -/

theorem recordApply_idle (h : if warmBoot s then s.sys.selfTestDue = false else s.rf (R.SYS_START_MS 1) 15 0 = 0 ∨ s.rf (R.SYS_START_MS 1) 15 0 = 0xFFFF ∨
    s.rf (R.SYS_START_MS 2) 15 0 ≠ 0 ∨ s.rf R.SEC_STATUS 11 8 = 1 ∨ s.sys.recordGood = decide (ph = 0)) : recordApply ph ok s = s := by
  unfold recordApply
  split
  · rename_i hw
    rw [if_pos hw] at h
    rw [lateSelfTest, h]; rfl
  · rename_i hw
    rw [if_neg hw] at h
    split
    · rfl
    · rename_i hg
      have hr : s.sys.recordGood = decide (ph = 0) := by
        simp only [stepDone, stepOpen, stepMs, Bool.or_eq_true, Bool.not_eq_true', Bool.and_eq_false_iff, bne_eq_false_iff_eq, beq_iff_eq, beq_eq_false_iff_ne] at hg
        tauto
      by_cases hp : ph = 0
      · rw [if_pos (by simp [hp]), if_pos (by rw [hr, hp]; rfl)]
      · rw [if_neg (by rwa [← Fin.val_eq_zero_iff] at hp), hr, decide_eq_false hp]; rfl

theorem recordApply_late (hw : warmBoot s = true) (hd : s.sys.selfTestDue = true) :
    recordApply ph ok s = if ok then s.setSys fun x => { x with selfTestDue := false } else raise Src.LBIST_FAIL (s.setSys fun x => { x with selfTestDue := false }) := by
  rw [recordApply, if_pos hw, lateSelfTest, hd, if_neg (by decide)]

section
variable (h1 : s.rf (R.SYS_START_MS 1) 15 0 ≠ 0) (h2 : s.rf (R.SYS_START_MS 1) 15 0 ≠ 0xFFFF) (h3 : s.rf (R.SYS_START_MS 2) 15 0 = 0)
  (hw : warmBoot s = false) (h4 : s.rf R.SEC_STATUS 11 8 ≠ 1)
include h1 h2 h3 hw h4

theorem recordApply_runs : recordApply ph ok s =
    if ph.val = 0 then
      if s.sys.recordGood then s else if !ok then startEnds 2 (raise Src.LBIST_FAIL s) else if !recGood s then startEnds 1 s
      else applyPhase 0 ((s.wr R.SYS_STAGGER (word (crc32c s.nv.uid % (recField s 8 2 + 1)))).setSys fun x =>
        { x with recordGood := true, lookInRecord := (recEntries (s.wr R.SYS_STAGGER (word (crc32c s.nv.uid % (recField s 8 2 + 1))))).any fun e => e.1 == R.CTRL P.LOOK && bitOf e.2.2 0 })
    else if !s.sys.recordGood then s
    else
      let s := completeStep 2 (applyPhase 1 s)
      let s := s.setSys fun x => { x with errLow := s.rb R.FLT_ERR 0 }
      if recField s 10 1 = 0 then skipStep 5 (skipStep 4 s) else s := by
  rw [recordApply, hw, if_neg (by decide), if_neg]
  simp only [stepDone, stepOpen, stepMs, Bool.or_eq_true, Bool.not_eq_true', Bool.and_eq_false_iff, bne_eq_false_iff_eq, beq_iff_eq, beq_eq_false_iff_ne]
  tauto

/-- The state in which phase 0 of a good record is applied. -/
def staggered (s : State) : State :=
  let y := s.wr R.SYS_STAGGER (word (crc32c s.nv.uid % (recField s 8 2 + 1)))
  y.setSys fun x => { x with recordGood := true, lookInRecord := (recEntries y).any fun e => e.1 == R.CTRL P.LOOK && bitOf e.2.2 0 }

theorem recordApply_first (hg : s.sys.recordGood = false) : recordApply 0 ok s =
    if ok = false then startEnds 2 (raise Src.LBIST_FAIL s) else if recGood s = false then startEnds 1 s else applyPhase 0 (staggered s) := by
  rw [recordApply_runs h1 h2 h3 hw h4, if_pos (show ((0 : Fin 2) : Nat) = 0 from rfl), hg, if_neg Bool.false_ne_true]
  refine ite_congr (by simp) (fun _ => rfl) fun _ => ite_congr (by simp) (fun _ => rfl) fun _ => rfl

/-- Phase 1 has been applied: step 2 ends, and ERR_N rises unless a fault holds it (R588). -/
def recordEnds (s : State) : State :=
  let s := completeStep 2 s
  let s := s.setSys fun x => { x with errLow := s.rb R.FLT_ERR 0 }
  if recField s 10 1 = 0 then skipStep 5 (skipStep 4 s) else s

theorem recordApply_second (hg : s.sys.recordGood = true) : recordApply 1 ok s = recordEnds (applyPhase 1 s) := by
  rw [recordApply_runs h1 h2 h3 hw h4, if_neg (show ¬((1 : Fin 2) : Nat) = 0 by decide), hg, if_neg (by decide)]
  rfl

end

theorem setSys_rd {f : SysSt → SysSt} : (s.setSys f).rd a = s.rd a := rfl

theorem staggered_spec : (staggered s).sys.recordGood = true ∧ (staggered s).rd R.SYS_STAGGER = word (crc32c s.nv.uid % (recField s 8 2 + 1)) ∧
    Only [R.SYS_STAGGER] [] s (staggered s) :=
  by
  unfold staggered
  extract_lets y
  have hy : y.rd R.SYS_STAGGER = word (crc32c s.nv.uid % (recField s 8 2 + 1)) := State.rd_wr_self s _ _
  have ho : Only [R.SYS_STAGGER] [] s y := (Only.refl _ _ s).wr (by simp)
  clear_value y
  exact ⟨rfl, setSys_rd.trans hy, ho.record⟩

theorem completeStep_nonzero (hk : R.SYS_START_MS k ≠ R.SYS_START_STAT) : (completeStep k s).rf (R.SYS_START_MS k) 15 0 ≠ 0 := by
  by_cases h : s.rf (R.SYS_START_MS k) 15 0 = 0
  · exact (completeStep_open h hk).1
  · rw [completeStep, if_pos (by rw [stepOpen, stepMs, beq_eq_false_iff_ne.2 h]; rfl)]; exact h

theorem completeStep_mem : (completeStep k s).mem = s.mem := by
  rw [completeStep]
  split
  · rfl
  · rw [State.wf, State.wr_mem, State.wr_mem]

theorem recordEnds_spec (y : State) : (recordEnds y).rf (R.SYS_START_MS 2) 15 0 ≠ 0 ∧ (recordEnds y).sys.errLow = y.rb R.FLT_ERR 0 ∧ (recordEnds y).mem = y.mem := by
  unfold recordEnds
  extract_lets x z
  have hx : Only [R.SYS_START_MS 2, R.SYS_START_STAT] [] y x := completeStep_only
  have hn : x.rf (R.SYS_START_MS 2) 15 0 ≠ 0 := completeStep_nonzero (by decide)
  have hm : x.mem = y.mem := completeStep_mem
  clear_value x
  have he : z.sys.errLow = y.rb R.FLT_ERR 0 := hx.rb (by decide)
  split
  · refine ⟨?_, he, hm⟩
    rw [skipStep, skipStep, State.rf_wr_of_ne (by decide), State.rf_wr_of_ne (by decide)]
    exact hn
  · exact ⟨hn, he, hm⟩

theorem startReason_spec (hm : m < 256) : (startReason m s).rf R.SYS_START_STAT 31 24 = m ∧ (startReason m s).rb (R.IRQ_STAT P.SYS) 5 = true ∧
    Only [R.SYS_START_STAT, R.IRQ_STAT P.SYS] [] s (startReason m s) := by
  refine ⟨?_, State.rb_irq_self (by decide), ((Only.refl _ _ s).wf (by simp)).irq (by simp)⟩
  rw [startReason, State.rf_irq_of_ne (by decide), State.rf_wf_self (by decide) (by decide)]
  exact Nat.mod_eq_of_lt hm

/-! ### Progress and bounds -/

theorem startProgress_now : (startProgress s).now = s.now := by
  unfold startProgress
  extract_lets x
  have hx : x.now = s.now := State.over_induct (q := fun (q : State) => q.now = s.now) rfl fun u k hu => by
    split
    · rw [completeStep]
      split
      · exact hu
      · rwa [State.wf_now, State.wr_now]
    · exact hu
  split
  · rwa [State.wf_now]
  · exact hx

theorem staggerEnd_eq : staggerEnd s = if (startProgress s).sys.recordGood = true ∧ (startProgress s).rf (R.SYS_START_MS 3) 15 0 ≠ 0 ∧
      (startProgress s).rf (R.SYS_START_MS 3) 15 0 ≠ 0xFFFF ∧ (startProgress s).rf (R.SYS_START_MS 4) 15 0 = 0 ∧
      (startProgress s).sys.softEnd = none ∧ (startProgress s).sys.pgTime + (startProgress s).rf R.SYS_STAGGER 10 0 * 1000000 ≤ s.now
    then (applyPhase 2 (startProgress s)).setSys fun x => { x with softEnd := some ((applyPhase 2 (startProgress s)).now + recField (applyPhase 2 (startProgress s)) 11 1 * 1000000) }
    else startProgress s := by
  have hn : (startProgress s).now = s.now := startProgress_now
  unfold staggerEnd
  dsimp only
  generalize startProgress s = v at hn
  by_cases hc : (!v.sys.recordGood || !stepDone v 3 || !stepOpen v 4 || v.sys.softEnd.isSome || !staggerOver v) = true
  · rw [if_pos hc, if_neg]
    simp only [staggerOver, stepDone, stepOpen, stepMs, Bool.or_eq_true, Bool.not_eq_true', Bool.and_eq_false_iff, bne_eq_false_iff_eq, beq_eq_false_iff_ne,
      decide_eq_false_iff_not, hn] at hc
    rintro ⟨a1, a2, a3, a4, a5, a6⟩
    rw [a1, a5] at hc
    simp only [Option.isSome_none, Bool.true_eq_false, Bool.false_eq_true] at hc
    tauto
  · rw [if_neg hc, if_pos]
    simp only [staggerOver, stepDone, stepOpen, stepMs, Bool.or_eq_true, Bool.not_eq_true', Bool.and_eq_false_iff, bne_eq_false_iff_eq, beq_eq_false_iff_ne,
      decide_eq_false_iff_not, hn, Option.isSome_iff_ne_none] at hc
    rw [Bool.eq_false_iff] at hc
    tauto

theorem startLack_lt : startLack s < 256 := by
  unfold startLack
  extract_lets late wait
  split_ifs <;> decide

theorem startTimeout_met (h : startLack (startProgress s) = 0) : startTimeout s = startProgress s := if_pos (.inl h)

theorem startTimeout_late (h : startLack (startProgress s) ≠ 0) (hr : (startProgress s).rf R.SYS_START_STAT 31 24 = 0) :
    startTimeout s = startReason (startLack (startProgress s)) (startProgress s) := by
  refine if_neg ?_
  rw [hr]
  simpa using h

/-! ### Harts and watchdogs -/

section
variable {c : Fin 4} {h : Fin 8} {x : Nat}

theorem cpuWdog_due (hf : s.wdog.find? (fun p => p.1 == 8 * c.val + h.val) = some (8 * c.val + h.val, x)) (hh : h < harts c)
    (he : s.rb (R.CPU_WDOG c h) 31 = true) (hp : s.pageOn (P.CPU c) = true) (ht : x + s.rf (R.CPU_WDOG c h) 23 0 * 1000 ≤ s.now) :
    cpuWdog c h s = raise (wdogSrc c h) { s with wdog := s.wdog.filter fun q => q.1 != 8 * c.val + h.val } := by
  rw [cpuWdog, hf]
  refine if_neg ?_
  rw [he, show s.pageOn (0xe0 + c.val) = true from hp]
  simp only [Bool.not_true, Bool.false_eq_true]
  rintro (h1 | h1 | h1 | h1)
  · omega
  · exact h1
  · exact h1
  · omega

theorem cpuWdog_early (hf : s.wdog.find? (fun p => p.1 == 8 * c.val + h.val) = some (8 * c.val + h.val, x))
    (ht : s.now < x + s.rf (R.CPU_WDOG c h) 23 0 * 1000) : cpuWdog c h s = s := by
  rw [cpuWdog, hf]
  exact if_pos (.inr (.inr (.inr ht)))

end

/-! ### Start-up -/

theorem see_at : (s.at n).see a = s.see a := by
  unfold State.see
  rfl

theorem seeBytes_at {k : Nat} : (s.at n).seeBytes a k = s.seeBytes a k := by
  rw [State.seeBytes]
  exact List.map_congr_left fun j _ => see_at

theorem recAddr_at : recAddr (s.at n) = recAddr s := by
  unfold recAddr
  have h : ∀ a, (s.at n).rd a = s.rd a := fun _ => rfl
  rw [h, h]

theorem recField_at {k : Nat} : recField (s.at n) a k = recField s a k := by simp only [recField, recAddr_at, seeBytes_at]

theorem recEntries_at : recEntries (s.at n) = recEntries s := by simp only [recEntries, recField_at]

theorem recGood_at : recGood (s.at n) = recGood s := by
  rw [Bool.eq_iff_iff]
  simp only [recGood, Bool.and_eq_true, decide_eq_true_eq]
  simp only [recField_at, recEntries_at, recAddr_at, seeBytes_at, State.at_rd]

theorem Only.at_self {l m : List Nat} : Only l m s (s.at n) := (Only.refl l m s).at

theorem gateWrite_rst {i : Init} (h : s.accepts n i R.SYS_RST_CMD w) : ∃ x, gateWrite i R.SYS_RST_CMD w rstCmd (s.at n) = rstCmd (s.rd R.SYS_RST_CMD) w ((s.at n).busOk.wr R.SYS_RST_CMD x) :=
  gateWrite_stored rstCmd h (by decide) (by decide +kernel)

theorem gateWrite_hartRst {i : Init} {c : Fin 4} (h : s.accepts n i (R.CPU_HART_RST c) w) : gateWrite i (R.CPU_HART_RST c) w (hartRst c) (s.at n) =
    if w.toNat % 2 ^ harts c = 0 then storeReg (R.CPU_HART_RST c) w (s.at n).busOk
    else hartReset (0xe0 + c.val) (w.toNat % 2 ^ harts c) (storeReg (R.CPU_HART_RST c) w (s.at n).busOk) := by
  have ho : ∀ c : Fin 4, offOf (R.CPU_HART_RST c) ≠ 0x1c ∧ offOf (R.CPU_HART_RST c) ≠ 0x20 := by decide
  exact gateWrite_accepts (hartRst c) h (ho c)

theorem hartRst_plain (c : Fin 4) : maskOf RegDef.rws (R.CPU_HART_RST c) = 0#32 := by
  have h : ∀ c : Fin 4, maskOf RegDef.rws (R.CPU_HART_RST c) = 0#32 := by decide +kernel
  exact h c

theorem bootCopy_le {ty : Nat} : bootCopy ty s ≤ 1 := by
  unfold bootCopy
  extract_lets b used
  have h : used < 2 := Nat.mod_lt _ (by decide)
  split <;> omega

/-- SAFE's image stands, and nothing speaks against the keys or the directory: the harts, the step and the mode. -/
theorem safeRunning_up {puf keys rng : Bool} {f c : Nat} (h1 : ¬s.rf R.PWR_DOMAIN_STAT 7 0 = 0) (h2 : s.rf (R.SYS_START_MS 1) 15 0 = 0) (h3 : s.rf R.SYS_MODE 3 0 ≠ 7)
    (hc : safeCopy (bootPrepare puf keys rng f s) = some c) (hk : keys = true) (hd : directoryGood (otpLoad (otpShow (bootRelease s))) = true)
    {b : State} (hb : b = bootStart c (bootPrepare puf keys rng f s)) (hw : warmBoot b = false) (hg : otpGood b = true) (hp : b.rb R.SEC_STATUS 0 = true)
    (ha : chainGood b = true) (hq : b.nv.quarantine = 0) (ho : b.rf (R.SYS_START_MS 1) 15 0 = 0) (hr : AuditRoom b) :
    SafeUp b (safeRunning puf keys rng f s) := by
  have hu : SafeUp b (completeStep 1 (buildPageRights 0 (bootMode 0 b))) := safeUp hq hw ho hr
  have hwu : warmBoot (completeStep 1 (buildPageRights 0 (bootMode 0 b))) = false :=
    (congrArg (fun r => bitsOf r 3 0 == 7) (hu.rest R.SYS_RST_CAUSE (by simp only [List.mem_cons, true_or, or_true]))).trans hw
  subst hb
  exact (safeRunning_some h1 h2 h3 hc hg hp hk hd ha hwu).symm ▸ hu

theorem mainGo_up (hk : k ≤ 1) : (mainGo k v).rd (R.CPU_HART_EN 0) = 0xF#32 ∧ (mainGo k v).rd (R.CPU_HART_EN 2) = 0xFF#32 ∧
    (mainGo k v).rd (R.CPU_HART_EN 3) = 3#32 ∧ ((imageLoad 1 k v).rf (R.SYS_START_MS 6) 15 0 = 0 → (imageLoad 1 k v).nv.trial = 0 →
      (imageLoad 1 k v).sec.audit.length < 256 → (imageLoad 1 k v).rf R.SEC_AUDIT_STAT 15 0 = 0 → ((imageLoad 1 k v).rd R.SEC_AUDIT_SEQ).toNat < 65536 →
      (mainGo k v).rb R.SEC_BOOT_STAT 0 = decide (k = 1) ∧ (mainGo k v).rf (R.SYS_START_MS 6) 15 0 ≠ 0 ∧ (mainGo k v).rf R.SYS_START_STAT 4 0 = 6) := by
  obtain ⟨h0, h2, h3⟩ := mainGo_harts (k := k) (s := v)
  exact ⟨h0, h2, h3, fun ho ht hl hlo hs => mainGo_step hk ht ho ⟨hl, hlo, hs⟩⟩

/-- MAIN's harts run from the slot that stands; where nothing speaks against the record, the step and the slot are shown. -/
theorem mainVerified_up {p q : Bool} {f : State} (hrun : mainVerified v = if p = true then mainGo k v else if q = true then mainGo (1 - k) f else s) (hk : k ≤ 1)
    (h : p = true ∨ q = true) (x : State) (hx : x = if p then imageLoad 1 k v else imageLoad 1 (1 - k) f) :
    (mainVerified v).rd (R.CPU_HART_EN 0) = 0xF#32 ∧ (mainVerified v).rd (R.CPU_HART_EN 2) = 0xFF#32 ∧ (mainVerified v).rd (R.CPU_HART_EN 3) = 3#32 ∧
      (x.rf (R.SYS_START_MS 6) 15 0 = 0 → x.nv.trial = 0 → x.sec.audit.length < 256 → x.rf R.SEC_AUDIT_STAT 15 0 = 0 →
        (x.rd R.SEC_AUDIT_SEQ).toNat < 65536 → (mainVerified v).rb R.SEC_BOOT_STAT 0 = decide ((if p then k else 1 - k) = 1) ∧
        (mainVerified v).rf (R.SYS_START_MS 6) 15 0 ≠ 0 ∧ (mainVerified v).rf R.SYS_START_STAT 4 0 = 6) := by
  cases p with
  | true =>
    have hv : mainVerified v = mainGo k v := hrun.trans (if_pos rfl)
    rw [hv, show x = imageLoad 1 k v from hx]
    exact mainGo_up hk
  | false =>
    have hv : mainVerified v = mainGo (1 - k) f := hrun.trans ((if_neg (by decide)).trans (if_pos (h.resolve_left (by decide))))
    rw [hv, show x = imageLoad 1 (1 - k) f from hx]
    exact mainGo_up (Nat.sub_le ..)

/-- Settles O55: each command's clause from what its operation does; power-good and the resets from `Rebooted`, start-up from what the boot ROM prepares. -/
theorem startUpResetsAndMonitors : Obligations.StartUpResetsAndMonitors := by
  unfold Obligations.StartUpResetsAndMonitors
  intro t i w s now off steps
  refine ⟨?_, ?_, ?_, fun hacc => ⟨?_, ?_⟩, ?_, ?_, ?_, ?_, ?_, ?_, ?_, ?_, ?_, ?_, ?_, ?_, ?_, ?_, ?_, ?_, ?_⟩
  · obtain ⟨h1, h2, h3, h4, h5, h6, h7, h8⟩ := powerGood_up (s.at t)
    exact ⟨_, rfl, h1, h2, h3, h4, h5, h6, h7, h8⟩
  · intro h
    exact ⟨_, next_congr (resetPin_off (s := s.at t) h), Only.at_self⟩
  · intro h
    have hr : Rebooted 1 0 (s.at t) (chipReset 1 0 (s.at t)) := chipReset_rebooted ..
    exact ⟨_, next_congr (resetPin_on (s := s.at t) h), hr.cause_field (by decide) (by decide), hr.tickWas_word, hr.main,
      fun a ha => hr.mem a fun e => by rw [e] at ha; simp at ha, hr.pending⟩
  · intro h
    obtain ⟨x, hx⟩ := gateWrite_rst hacc
    exact ⟨_, next_congr (hx.trans (rstCmd_other h)), (Only.at_self.busOk).wr (List.mem_singleton.2 rfl)⟩
  · intro hk h0
    obtain ⟨x, hx⟩ := gateWrite_rst hacc
    have hr : Rebooted 5 0 ((s.at t).busOk.wr R.SYS_RST_CMD x) (chipReset 5 0 ((s.at t).busOk.wr R.SYS_RST_CMD x)) := chipReset_rebooted ..
    exact ⟨_, next_congr (hx.trans (rstCmd_keyed hk h0)), hr.cause_field (by decide) (by decide), hr.tickWas_word⟩
  · intro h puf keys rng f
    exact ⟨_, next_congr (safeRunning_idle (s := s.at t) h), Only.at_self⟩
  · intro puf keys rng f h1 h2 h3 v k
    refine ⟨_, rfl, fun hc => safeRunning_none (s := s.at t) h1 h2 h3 hc, ?_⟩
    intro c hc b hw hg hp hk hd ha hq ho hl hlo hsq
    have hu := safeRunning_up (s := s.at t) (b := b) h1 h2 h3 hc hk hd rfl hw hg hp ha hq ho ⟨hl, hlo, hsq⟩
    obtain ⟨he, hs⟩ : b.rd (R.CPU_HART_EN 1) = 1#32 ∧ b.rd (R.CPU_HART_STAT 1) = 1#32 := bootStart_harts
    exact ⟨(hu.rest _ (by simp)).trans he, (hu.rest _ (by simp)).trans hs, hu.step, hu.last, hu.mode,
      congrArg (bitsOf · 2 0) (hu.rest R.SEC_STATUS (by simp)), congrArg (bitOf · 8) (hu.rest R.SEC_BOOT_STAT (by simp))⟩
  · intro f hl hj
    exact (bootPrepare_keyed (s := s.at t) hl hj).field
  · intro ph ok h
    exact ⟨_, next_congr (recordApply_idle (s := s.at t) h), rfl, Only.at_self⟩
  · intro ph hw hd
    exact ⟨⟨_, next_congr (recordApply_late (s := s.at t) (ok := true) hw hd), rfl, Only.at_self.record⟩,
      ⟨_, next_congr (recordApply_late (s := s.at t) (ok := false) hw hd), rfl, Only.at_self.record⟩⟩
  · intro h1 h2 h3 hw h4
    refine ⟨fun hg hr => ?_, fun hg => ?_⟩
    · have hrun := (recordApply_first (s := s.at t) (ok := true) h1 h2 h3 hw h4 hg).trans ((if_neg (by decide)).trans (if_neg (by rw [recGood_at, hr]; decide)))
      obtain ⟨e1, e2, e3⟩ := staggered_spec (s := s.at t)
      rw [recField_at] at e2
      exact ⟨_, next_congr hrun, e1, e2, Only.at_self.trans e3⟩
    · exact ⟨_, next_congr (recordApply_second (s := s.at t) h1 h2 h3 hw h4 hg), recordEnds_spec (applyPhase 1 (s.at t))⟩
  · intro h1 h2 h3 hw h4 hg
    have hrun := fun ok => recordApply_first (s := s.at t) (ok := ok) h1 h2 h3 (beq_eq_false_iff_ne.2 hw) h4 hg
    refine ⟨fun hr => ?_, next_congr ((hrun false).trans (if_pos rfl))⟩
    obtain ⟨e1, e2, e3⟩ := startReason_spec (s := (s.at t).setSys fun x => { x with recordGood := false, startArmed := [], softEnd := none }) (m := 1) (by decide)
    exact ⟨_, next_congr ((hrun true).trans ((if_neg (by decide)).trans (if_pos (recGood_at.trans hr)))), e1, e2, Only.trans (Only.at_self (s := s)).record e3⟩
  · intro v z up
    exact next_congr (staggerEnd_eq (s := s.at t))
  · intro h
    exact ⟨_, next_congr (mainVerified_idle (s := s.at t) h), Only.at_self⟩
  · intro h1 h2 h3 h4 h5 v k w a b x
    have hrun := mainVerified_runs (s := v) h1 h2 h3 h4 h5
    have hk : k ≤ 1 := bootCopy_le
    refine ⟨_, rfl, fun hab => ?_, fun ha hb => hrun.trans ?_⟩
    · exact mainVerified_up hrun hk hab x rfl
    · exact (if_neg (ne_true_of_eq_false ha)).trans (if_neg (ne_true_of_eq_false hb))
  · intro v
    refine ⟨fun h => next_congr (startTimeout_met (s := s.at t) h), fun h hr => ?_⟩
    obtain ⟨e1, e2, e3⟩ := startReason_spec (s := v) (m := startLack v) startLack_lt
    exact ⟨_, next_congr (startTimeout_late (s := s.at t) h hr), e1, e2, e3⟩
  · intro c hacc h0
    exact ⟨_, next_congr ((gateWrite_hartRst hacc).trans (if_pos h0)), storeReg_only Only.at_self.busOk (by simp) (hartRst_plain c)⟩
  · intro c hacc h0
    exact next_congr ((gateWrite_hartRst hacc).trans (if_neg h0))
  · intro c h x hf hh he hp
    exact ⟨fun ht => ⟨_, next_congr (cpuWdog_due (s := s.at t) hf hh he hp ht), rfl, Only.at_self.record⟩,
      fun ht => ⟨_, next_congr (cpuWdog_early (s := s.at t) hf ht), rfl, Only.at_self⟩⟩
  · intro hp
    exact ⟨_, next_congr (if_pos hp : lockstepMismatch (s.at t) = _), Only.at_self⟩
  · intro d h
    refine ⟨fun hs => ⟨_, next_congr ((vmon_under (s := s.at t) h).trans (if_neg hs)), Only.at_self⟩, fun hs => ?_,
      ⟨_, next_congr (vmon_over (s := s.at t) h), Only.at_self⟩⟩
    have hr : Rebooted 0 0 (s.at t) (chipReset 0 0 (s.at t)) := chipReset_rebooted ..
    exact ⟨_, next_congr ((vmon_under (s := s.at t) h).trans (if_pos hs)), hr.cause_field (by decide) (by decide), hr.tickWas_word⟩
  · have hx : PoweredOff (s.at t) (allOff false (s.at t)) := allOff_poweredOff _
    exact ⟨_, rfl, hx.domains, hx.lost, hx.kept, hx.pending⟩

end Sys2Proof.Machine
end

section
/-! PROOFS. The obligation on sessions: a counterexample. -/

namespace Sys2Proof.Machine

/-- Session 1 is open in main SRAM. Its handshake number is one that no handshake has: the second of its key slots is shown where NET_SESS_BASE is. -/
def straySlot : State :=
  let s := State.reset.wr R.NET_SESS_BASE 0x10000000#32
  { s with ses := ⟨[(1, ⟨some 0, some 8185, none, [], [], none, 0, [], 0xFF, none, [], none, none⟩)], [], none⟩ }

/-- Clearing the key slots moves the session table into the boot ROM, where SAFE's write of the entry is denied and recorded. -/
theorem straySlot_denied : ∃ u, exec (.sessionIdle 0xFFFFFFFFFFFF 1) straySlot = .next u ∧ u.rd R.FLT_BUS_ADDR = 64#32 := ⟨_, rfl, by decide +kernel⟩

/-- Refutes O53: an idle session is closed in any state, also in one whose handshake number names a register of the session table as its key slot's; the entry
is then written elsewhere, and the fault of that write changes registers beside the session's own. -/
theorem not_sessionsCarryCommands : ¬ Obligations.SessionsCarryCommands := by
  unfold Obligations.SessionsCarryCommands
  intro h
  obtain ⟨-, -, -, -, -, hidle, -⟩ := h 0xFFFFFFFFFFFF 1 0#32 straySlot
  obtain ⟨-, hclose⟩ := hidle _ rfl
  obtain ⟨u, hu, -, -, -, hregs, -⟩ := hclose (by decide +kernel) rfl ⟨by decide +kernel, rfl⟩
  obtain ⟨x, hx, haddr⟩ := straySlot_denied
  rw [hx] at hu
  cases hu
  have hkept := hregs R.FLT_BUS_ADDR (by decide)
  rw [haddr] at hkept
  exact absurd hkept (by decide +kernel)

end Sys2Proof.Machine
end

section
/-! PROOFS. What accepting a token on a channel does (R472): a sequence of the steps of `Runs`, in which the reason that SEC_TOK_STAT shows stays. -/

namespace Sys2Proof.Machine

variable {s t u v : State} {a n k r x y actor channel event : Nat} {l tid : List Nat}

/-! ### The reason shown is 0, and stays so -/

/-- Every entry of SEC_TOK_STAT among the registers shows reason 0. -/
def ShowsNoReason (s : State) : Prop := ∀ p ∈ s.regs, p.1 = R.SEC_TOK_STAT → bitsOf p.2 3 0 = 0

theorem ShowsNoReason.rf (h : ShowsNoReason s) : s.rf R.SEC_TOK_STAT 3 0 = 0 := by
  have hm : ∀ m : List (Nat × Word), (∀ p ∈ m, p.1 = R.SEC_TOK_STAT → bitsOf p.2 3 0 = 0) →
      bitsOf (sget (regDefault R.SEC_TOK_STAT) R.SEC_TOK_STAT m) 3 0 = 0 := fun m hm => by
    induction m with
    | nil => decide +kernel
    | cons p m ih =>
      rw [sget]
      split
      · exact hm p (by simp) ‹_›
      · exact ih fun q hq => hm q (by simp [hq])
  exact hm s.regs h

theorem mem_sset {α : Type} [DecidableEq α] {d w : α} {m : List (Nat × α)} {p : Nat × α} (h : p ∈ sset d a w m) : p = (a, w) ∨ (p ∈ m ∧ p.1 ≠ a) := by
  have hd : ∀ q ∈ sdel a m, q ∈ m ∧ q.1 ≠ a := fun q hq => by simpa [sdel] using hq
  rw [sset] at h
  split at h
  · exact .inr (hd p h)
  · exact ((mem_sins ..).1 h).imp id (hd p)

theorem ShowsNoReason.wr {w : Word} (h : ShowsNoReason s) (ha : a ≠ R.SEC_TOK_STAT) : ShowsNoReason (s.wr a w) := fun p hp hk => by
  rcases mem_sset hp with rfl | ⟨hm, -⟩
  · exact absurd hk ha
  · exact h p hm hk

/-- A write of SEC_TOK_STAT with reason 0 leaves no other entry of it. -/
theorem showsNoReason_wr {w : Word} (hw : bitsOf w 3 0 = 0) : ShowsNoReason (s.wr R.SEC_TOK_STAT w) := fun p hp hk => by
  rcases mem_sset hp with rfl | ⟨-, hne⟩
  · exact hw
  · exact absurd hk hne

/-- A reset of a block clears the reason, or leaves it. -/
theorem ShowsNoReason.resetRegs (h : ShowsNoReason s) : ShowsNoReason (resetRegs n s) := fun p hp hk => by
  obtain ⟨q, hq, rfl⟩ := List.mem_map.1 (List.mem_filter.1 hp).1
  obtain ⟨b, w⟩ := q
  dsimp only at hk ⊢
  subst hk
  have hd : resetKeep R.SEC_TOK_STAT = 0#32 ∧ regDefault R.SEC_TOK_STAT = 0#32 := by decide +kernel
  rw [resetReg, hd.1, hd.2]
  split
  · simp [bitsOf]
  · exact h _ hq rfl

theorem Runs.showsNoReason (h : Runs s u) (hs : ShowsNoReason s) : ShowsNoReason u := by
  induction h with
  | refl => exact hs
  | wr _ ha ih => exact ih.wr ha
  | stw _ _ ih => exact ih
  | resetRegs _ ih => exact ih.resetRegs
  | restart _ _ _ _ _ _ hr => exact fun p hp hk => absurd hk (hr p hp)
  | inner _ _ _ hr _ _ _ ih => exact fun p hp => ih p (hr ▸ hp)

theorem tokResult_zero : ShowsNoReason (tokResult 0 s) := by
  rw [tokResult, if_pos rfl]
  refine showsNoReason_wr ((bitsOf_putBits_of_disjoint _ _ (by decide) (by decide) (.inr (by decide))).trans ?_)
  exact State.rf_wf_self (by decide) (by decide)

/-! ### The services of SEC as such steps -/

theorem Runs.setSec {f : SecSt → SecSt} (h : Runs s t) : Runs s (t.setSec f) := h.upd

theorem Runs.txSubmit {owner target : Nat} {direct : Bool} {data : List Nat} {act : Option (Nat × Nat)} {z : NvUpd} (h : Runs s t) :
    Runs s (txSubmit owner direct target data act z t).2 := by
  rw [txSubmit_eq]
  extract_lets q
  refine Runs.ite2 h ?_
  have hq : Runs s (txQueued q t) := h.upd
  rw [jrnShow]
  split <;> exact hq.wr.wr.wf

theorem Runs.countersTx {z : NvUpd} (h : Runs s t) : Runs s (countersTx z t) := h.txSubmit

theorem Runs.auditPush (h : Runs s t) : Runs s (auditPush actor channel event tid x y t) := by
  unfold Machine.auditPush
  extract_lets q b e t1 t2 c
  have h1 : Runs s t1 := h.setSec
  have h2 : Runs s t2 := h1.wr.wrWords (.inr (by decide))
  exact Runs.ite h2.irq.raise h2

theorem Runs.auditPump (h : Runs s t) : Runs s (auditPump t) := by
  unfold Machine.auditPump showAudit
  extract_lets mine
  refine Runs.ite h.wf ?_
  split
  · exact h.wf
  · exact h.txSubmit.wf

theorem Runs.auditAdd (h : Runs s t) : Runs s (auditAdd actor channel event tid x y t) := by
  unfold Machine.auditAdd
  have hl : Runs s (auditLost t) := h.ite h.wf.auditPush
  exact Runs.ite h.wf.irq hl.auditPush.auditPump

theorem Runs.sumsOut {q : List (Nat × Nat × Nat)} (h : Runs s t) : Runs s (sumsOut actor channel tid q t) := h.over fun _ _ hu => hu.auditAdd

theorem Runs.safePut (h : Runs s t) : Runs s (safePut a l t) := h.ite h.guardedPut.settle

theorem Runs.newNonce (h : Runs s t) (ha : a + 32 ≤ R.SEC_TOK_STAT ∨ R.SEC_TOK_STAT < a) : Runs s (newNonce a t) := by
  refine h.ite (Runs.wrWords (t := (draw t).2) h.upd ?_)
  rw [length_wordsOf_nonce]
  exact ha

theorem Runs.flushSums (h : Runs s t) : Runs s (flushSums n t) := by
  unfold Machine.flushSums
  split
  · exact h
  · exact Runs.sumsOut h.upd

theorem Runs.dropRights (h : Runs s t) : Runs s (dropRights r x t n) := Runs.ite h.flushSums.safePut h

theorem Runs.endGrant (h : Runs s t) : Runs s (endGrant t) := by
  have hg : ∀ u w, Runs s u → Runs s (setGrant w u) := fun u w hu => hu.ite hu.wr.irq
  exact h.ite ((hg _ _ h.sumsOut.setSec).newNonce (.inr (by decide)))

theorem Runs.raiseFloor {who : Nat × Nat × List Nat} (h : Runs s t) (hr : r ≤ 2) : Runs s (raiseFloor who r x t) := by
  unfold Machine.raiseFloor
  have hlo : R.SEC_FLOOR_LO r ≠ R.SEC_TOK_STAT := by simp only [R.SEC_FLOOR_LO, R.SEC_TOK_STAT]; omega
  have hhi : R.SEC_FLOOR_HI r ≠ R.SEC_TOK_STAT := by simp only [R.SEC_FLOOR_HI, R.SEC_TOK_STAT]; omega
  extract_lets t1 t2 t3
  have h2 : Runs s t2 := ((h.wr hlo).wr hhi).countersTx.auditAdd
  have h3 : Runs s t3 := h2.over fun _ _ hu => hu.dropRights
  exact h.ite (h3.endGrant.ite h3)

theorem Runs.acceptFloor {c : Claims} (h : Runs s t) (hc : c.role ≤ 2) : Runs s (acceptFloor channel c none t) := (h.raiseFloor hc).ite h

theorem Runs.auditToken {c : Option Claims} (h : Runs s t) : Runs s (auditToken channel r n c t) := Runs.ite h.auditAdd h.auditAdd

/-! ### The role of a token's claims -/

theorem claimsOf_role {m : List (Cbor × Cbor)} {c : Claims} (h : claimsOf m = some c) : c.role ≤ 2 := by
  unfold claimsOf at h
  obtain ⟨ver, -, h⟩ := Option.bind_eq_some_iff.1 h
  obtain ⟨role, -, h⟩ := Option.bind_eq_some_iff.1 h
  obtain ⟨scope, -, h⟩ := Option.bind_eq_some_iff.1 h
  obtain ⟨rights, -, h⟩ := Option.bind_eq_some_iff.1 h
  obtain ⟨nbf, -, h⟩ := Option.bind_eq_some_iff.1 h
  obtain ⟨exp, -, h⟩ := Option.bind_eq_some_iff.1 h
  obtain ⟨ctr, -, h⟩ := Option.bind_eq_some_iff.1 h
  obtain ⟨tid, -, h⟩ := Option.bind_eq_some_iff.1 h
  obtain ⟨holder, -, h⟩ := Option.bind_eq_some_iff.1 h
  obtain ⟨modes, -, h⟩ := Option.bind_eq_some_iff.1 h
  obtain ⟨floor, -, h⟩ := Option.bind_eq_some_iff.1 h
  obtain ⟨nonce, -, h⟩ := Option.bind_eq_some_iff.1 h
  dsimp only at h
  split at h
  · rename_i hc
    cases h
    exact hc.2.1
  · cases h

theorem verifyToken_role {z : TokenUse} {c : Claims} (h : (verifyToken l z s).2 = some c) : c.role ≤ 2 := by
  have ht : ∀ q, tokenOf l = some q → q.2.role ≤ 2 := fun q hq => by
    unfold tokenOf at hq
    split at hq
    · cases hq
    · obtain ⟨b, -, hq⟩ := Option.bind_eq_some_iff.1 hq
      obtain ⟨e, -, hq⟩ := Option.bind_eq_some_iff.1 hq
      obtain ⟨m, -, hq⟩ := Option.bind_eq_some_iff.1 hq
      obtain ⟨k, hk, hq⟩ := Option.bind_eq_some_iff.1 hq
      cases hq
      exact claimsOf_role hk
  unfold verifyToken at h
  split at h
  · cases h
  · cases h
    exact ht _ ‹_›

end Sys2Proof.Machine
end

section
/-! PROOFS. Records written with room for them: each counts on by one, and all they change is the audit log's and the controller's own registers. -/

namespace Sys2Proof.Machine

variable {s t u : State} {a j k n x y actor channel event : Nat} {tid : List Nat}

/-- The registers that recording writes. -/
def recordRegs : List Nat :=
  [R.SEC_AUDIT_SEQ, R.SEC_AUDIT_STAT, R.NVM_JRN_TAIL, R.NVM_JRN_OPEN, R.NVM_TX_STAT] ++ (List.range 8).map fun k => R.SEC_AUDIT_HEAD 0 + 4 * k

/-- From `s` to `u` only what recording writes changes. -/
structure Trail (s u : State) : Prop where
  audited : Audited s u
  kept : ∀ a, a ∉ recordRegs → u.rd a = s.rd a
  redo : u.nvm.redo = s.nvm.redo

theorem Trail.refl (s : State) : Trail s s := ⟨.refl s, fun _ _ => rfl, rfl⟩

theorem Trail.trans (h : Trail s t) (g : Trail t u) : Trail s u :=
  ⟨h.audited.trans g.audited, fun a ha => (g.kept a ha).trans (h.kept a ha), g.redo.trans h.redo⟩

theorem Trail.rf {hi lo : Nat} (h : Trail s u) (ha : a ∉ recordRegs := by decide) : u.rf a hi lo = s.rf a hi lo := congrArg (bitsOf · hi lo) (h.kept a ha)

theorem Trail.rb (h : Trail s u) (ha : a ∉ recordRegs := by decide) : u.rb a n = s.rb a n := congrArg (bitOf · n) (h.kept a ha)

theorem Trail.wr {w : Word} (h : Trail s t) (ha : a ∈ recordRegs := by decide) (hp : pageOf a = P.SEC4 ∨ pageOf a = P.NVM := by decide) : Trail s (t.wr a w) :=
  ⟨h.audited.wr hp, fun b hb => (State.rd_wr_of_ne t (fun e => hb (by rw [e]; exact ha)) w).trans (h.kept b hb), h.redo⟩

theorem Trail.wf {hi lo v : Nat} (h : Trail s t) (ha : a ∈ recordRegs := by decide) (hp : pageOf a = P.SEC4 ∨ pageOf a = P.NVM := by decide) :
    Trail s (t.wf a hi lo v) := h.wr ha hp

theorem jrnShow_trail : Trail s (jrnShow s) := by
  rw [jrnShow]
  split <;> exact (((Trail.refl s).wr).wr).wf

theorem txSubmit_trail {owner target : Nat} {direct : Bool} {data : List Nat} {act : Option (Nat × Nat)} {upd : NvUpd} :
    Trail s (txSubmit owner direct target data act upd s).2 := by
  rw [txSubmit_eq]
  extract_lets q
  split
  · exact .refl s
  · exact Trail.trans (t := txQueued q s) ⟨⟨fun _ _ _ => rfl, rfl⟩, fun _ _ => rfl, rfl⟩ jrnShow_trail

theorem auditPump_trail : Trail s (auditPump s) := by
  unfold auditPump showAudit
  extract_lets mine
  split
  · exact (Trail.refl s).wf
  · split
    · exact (Trail.refl s).wf
    · exact txSubmit_trail.wf

theorem auditPush_trail (h : (s.rd R.SEC_AUDIT_SEQ).toNat < 65536) : Trail s (auditPush actor channel event tid x y s) := by
  have ha := (auditPush_recorded (actor := actor) (channel := channel) (event := event) (tid := tid) h (x := x) (y := y)).audited
  refine ⟨ha, ?_, ?_⟩ <;> unfold auditPush <;> extract_lets q r e s1 s2 wraps <;>
    rw [show wraps = false by simp only [wraps, q, decide_eq_false (show ¬65536 ≤ (s.rd R.SEC_AUDIT_SEQ).toNat by omega), Bool.false_and], if_neg (by decide)]
  · intro a ha
    have hl : (wordsOf e).length ≤ 8 := length_wordsOf_sha256 _
    have hs : Only ((List.range (wordsOf e).length).map fun k => R.SEC_AUDIT_HEAD 0 + 4 * k) [] (s1.wr R.SEC_AUDIT_SEQ (word (q + 1))) s2 := wrWords_only
    refine (hs.regs a fun hm => ha ?_).trans (State.rd_wr_of_ne s1 (fun h => ha (by rw [h]; decide)) _)
    obtain ⟨k, hk, rfl⟩ := List.mem_map.1 hm
    exact List.mem_append_right _ (List.mem_map.2 ⟨k, List.mem_range.2 ((List.mem_range.1 hk).trans_le hl), rfl⟩)
  · have hw : ∀ (l : List Nat) (a : Nat) (z : State), (z.wrWords a l).nvm = z.nvm := fun l => by
      induction l with
      | nil => exact fun _ _ => rfl
      | cons w l ih => exact fun a z => (ih _ _).trans (State.wr_nvm ..)
    exact congrArg (·.redo) (hw _ _ _)

theorem auditAdd_trail (h : AuditRoom s) : Trail s (auditAdd actor channel event tid x y s) := by
  rw [auditAdd, h.full, if_neg (by decide), auditLost_room h]
  exact (auditPush_trail h.seq).trans auditPump_trail

/-! ### Several records -/

/-- The queue has room for `k` records, has lost none, and does not wrap with them. -/
def Room (k : Nat) (s : State) : Prop := s.sec.audit.length + k < 256 ∧ s.rf R.SEC_AUDIT_STAT 15 0 = 0 ∧ (s.rd R.SEC_AUDIT_SEQ).toNat + k < 65536

/-- The log of `u` is that of `s` with `k` records more. -/
structure Counts (k : Nat) (s u : State) : Prop where
  seq : (u.rd R.SEC_AUDIT_SEQ).toNat = (s.rd R.SEC_AUDIT_SEQ).toNat + k
  len : u.sec.audit.length = s.sec.audit.length + k
  lost : u.rf R.SEC_AUDIT_STAT 15 0 = s.rf R.SEC_AUDIT_STAT 15 0

theorem Counts.of_eq (hs : u.sec.audit = s.sec.audit) (h1 : u.rd R.SEC_AUDIT_SEQ = s.rd R.SEC_AUDIT_SEQ) (h2 : u.rd R.SEC_AUDIT_STAT = s.rd R.SEC_AUDIT_STAT) :
    Counts 0 s u := ⟨by rw [h1]; rfl, by rw [hs]; rfl, by rw [State.rf, h2]; rfl⟩

theorem Counts.trans (h : Counts j s t) (g : Counts k t u) : Counts (j + k) s u :=
  ⟨by rw [g.seq, h.seq]; omega, by rw [g.len, h.len]; omega, g.lost.trans h.lost⟩

theorem Counts.room (h : Counts j s t) (hr : Room k s) (hj : j < k) : AuditRoom t :=
  ⟨by rw [h.len]; have := hr.1; omega, h.lost.trans hr.2.1, by rw [h.seq]; have := hr.2.2; omega⟩

theorem Counts.shown (h : Counts j s u) : u.rd R.SEC_AUDIT_SEQ = word ((s.rd R.SEC_AUDIT_SEQ).toNat + j) := by
  rw [← h.seq]; exact (word_toNat _).symm

theorem Room.at (h : Room k s) : Room k (s.at n) := h

/-- A record more. -/
theorem Counts.add (h : Counts j s t) (hr : Room k s) (hj : j < k) : Counts (j + 1) s (auditAdd actor channel event tid x y t) := by
  have hq := auditAdd_recorded (actor := actor) (channel := channel) (event := event) (tid := tid) (h.room hr hj) (x := x) (y := y)
  refine ⟨?_, by rw [hq.len, h.len]; omega, hq.lost.trans h.lost⟩
  rw [hq.seq, h.seq, word, BitVec.toNat_ofNat]
  have := hr.2.2
  omega

end Sys2Proof.Machine
end

section
/-! PROOFS. A request of an open session: judged, recorded, carried out and answered (R432, R476, R484). -/

namespace Sys2Proof.Machine

variable {s t u v : State} {a e k n i r txn status : Nat} {x y : SessSt} {op : WaordOp} {data tid : List Nat}

/-! ### Answers -/

/-- The state with its sessions replaced. -/
def State.answered (s : State) (z : SesSt) : State := { s with ses := z }

theorem answered_calm {z : SesSt} : Calm s (s.answered z) := .of_maps rfl rfl rfl rfl rfl rfl

theorem respond_plain : ∃ z, respond i ⟨txn, status, data, false⟩ s = s.answered z ∧ z.resp = some (i, ⟨txn, status, data, false⟩) := ⟨_, rfl, rfl⟩

/-! ### The verdict -/

theorem verdict_free (hc : covers i x op s = true) (hf : opFree op = true) (hn : opNoted op = true → auditBusy (sessRole s i) (opExempt (sessRole s i) op) s = false) :
    verdict i x op status s = (0, s) := by
  rw [verdict, hc, hf]
  cases hop : opNoted op with
  | false => rfl
  | true => rw [hn hop]; rfl

theorem verdict_recorded (hc : covers i x op s = true) (hf : opFree op = false) (hb : auditBusy (sessRole s i) (opExempt (sessRole s i) op) s = false)
    (hr : ¬(opRight (modeNow s) op = some 3 ∨ opRight (modeNow s) op = some 4)) :
    verdict i x op status s = (0, auditAdd (sessRole s i) 0 4 (sessTid s i) op.code status s) := by
  rw [verdict, hc, hf, hb]
  exact if_neg hr

/-- With room for a record, nothing waits for the log. -/
theorem AuditRoom.idle {z : Bool} (h : AuditRoom s) : auditBusy r z s = false := by
  have hu : ¬65536 ≤ auditUnacked s := by have := h.seq; rw [auditUnacked]; omega
  rw [auditBusy, h.full, decide_eq_false hu, Bool.and_false, Bool.false_and, Bool.or_false, Bool.and_false]

/-- A code of a group is judged by SAFE. -/
theorem execOp_judged (hg : opRight (modeNow s) op ≠ some 32) : execOp i txn x op s =
    (let v := verdict i x op (runOp i op s).1 s
     if v.1 ≠ 0 then respond i ⟨txn, v.1, [], false⟩ v.2
     else let r := runOp i op v.2; respond i ⟨txn, r.1, r.2.1, opStored op && r.1 == 0⟩ r.2.2) := by
  rw [execOp, if_neg hg]

theorem execOp_denied (hg : opRight (modeNow s) op ≠ some 32) (hc : covers i x op s = false) : execOp i txn x op s = respond i ⟨txn, 1, [], false⟩ s := by
  rw [execOp_judged hg, verdict, hc]
  rfl

theorem execOp_allowed (hg : opRight (modeNow s) op ≠ some 32) (hs : opStored op = false) (hv : verdict i x op (runOp i op s).1 s = (0, t))
    (hr : runOp i op t = (status, data, v)) : execOp i txn x op s = respond i ⟨txn, status, data, false⟩ v := by
  rw [execOp_judged hg, hv]
  dsimp only
  rw [hr, hs, if_neg (by decide), Bool.false_and]

/-! ### A request -/

/-- Session `e` is open, its entry good, and its token has not expired; the request is new to it. -/
structure OpenFor (n e txn : Nat) (y : SessSt) (s : State) : Prop where
  sess : sessOf s e = some y
  good : entryGood s e = true
  opened : sessState s e = 2
  new : y.kept.find? (fun r => r.txn == txn) = none
  fresh : s.ldN (sessAddr s e) / 8 % 8 = 7 ∨ secNow (s.at n) ≤ s.ldLE (sessAddr s e + 28) 8

theorem OpenFor.request (h : OpenFor n e txn y s) : waordRequest e txn op (s.at n) = execOp e txn y op (s.at n) := by
  have hs : sessOf (s.at n) e = some y := h.sess
  have hg : entryGood (s.at n) e = true := h.good
  have h2 : sessState (s.at n) e = 2 := h.opened
  have he : expireToken e (s.at n) = s.at n := if_neg fun ⟨h7, hlt⟩ => h.fresh.elim h7 fun hle => absurd hlt (Nat.not_lt.2 hle)
  rw [waordRequest, withSess, hs]
  dsimp only
  rw [hg, if_neg (by decide), if_pos h2, h.new]
  dsimp only
  rw [he]

/-- Without a session there is nothing to request. -/
theorem waordRequest_none (h : sessOf s e = none) : waordRequest e txn op (s.at n) = s.at n := by
  have hs : sessOf (s.at n) e = none := h
  rw [waordRequest, withSess, hs]

theorem OpenFor.denied (h : OpenFor n e txn y s) (hg : opRight (modeNow s) op ≠ some 32) (hc : covers e y op s = false) :
    ∃ z, waordRequest e txn op (s.at n) = (s.at n).answered z ∧ z.resp = some (e, ⟨txn, 1, [], false⟩) := by
  rw [h.request, execOp_denied (s := s.at n) hg hc]
  exact respond_plain

/-- A request that needs no record: carried out as it comes. -/
theorem OpenFor.free (h : OpenFor n e txn y s) (hc : covers e y op s = true) (hg : ∀ m, opRight m op ≠ some 32) (hf : opFree op = true)
    (hn : opNoted op = true → AuditRoom s) (hs : opStored op = false) (hr : runOp e op (s.at n) = (status, data, v)) :
    ∃ z, waordRequest e txn op (s.at n) = v.answered z ∧ z.resp = some (e, ⟨txn, status, data, false⟩) := by
  have hx : opNoted op = true → auditBusy (sessRole (s.at n) e) (opExempt (sessRole (s.at n) e) op) (s.at n) = false := fun ho =>
    AuditRoom.idle ((hn ho).congr rfl rfl rfl)
  rw [h.request, execOp_allowed (hg _) hs (verdict_free (s := s.at n) hc hf hx) hr]
  exact respond_plain

/-- A command that SAFE judges and records, and that is in a group. -/
structure Judged (op : WaordOp) : Prop where
  free : opFree op = false
  stored : opStored op = false
  right : ∀ m, opRight m op ≠ some 32 ∧ ¬(opRight m op = some 3 ∨ opRight m op = some 4)

/-- A request that is recorded before it is carried out. -/
theorem OpenFor.recorded (h : OpenFor n e txn y s) (hop : Judged op) (hr : Room k s) (hk : 0 < k) (hc : covers e y op s = true) :
    ∃ t, Trail (s.at n) t ∧ Counts 1 (s.at n) t ∧ ∀ {status : Nat} {data : List Nat} {v : State}, runOp e op t = (status, data, v) →
      ∃ z, waordRequest e txn op (s.at n) = v.answered z ∧ z.resp = some (e, ⟨txn, status, data, false⟩) := by
  have h0 : Counts 0 (s.at n) (s.at n) := .of_eq rfl rfl rfl
  have hx : AuditRoom (s.at n) := h0.room hr hk
  obtain ⟨t, hv, ht, hcount⟩ : ∃ t, verdict e y op (runOp e op (s.at n)).1 (s.at n) = (0, t) ∧ Trail (s.at n) t ∧ Counts 1 (s.at n) t :=
    ⟨_, verdict_recorded hc hop.free hx.idle (hop.right _).2, auditAdd_trail hx, h0.add hr hk⟩
  refine ⟨t, ht, hcount, fun {status data v} hrun => ?_⟩
  rw [h.request, execOp_allowed (hop.right _).1 hop.stored hv hrun]
  exact respond_plain

end Sys2Proof.Machine
end

section
/-! PROOFS. The commands of an update (R463 to R465): what each does to the update state, and to the target's memory. -/

namespace Sys2Proof.Machine

variable {s t u v w : State} {a e k n i r c txn status type len : Nat} {y : SessSt} {op : WaordOp} {data tid l : List Nat}

/-! ### What is left as it is -/

/-- No register changes but those of `l`, of the audit log and of the memory controller. -/
def OffLog (l : List Nat) (s u : State) : Prop := ∀ a, a ∉ l → pageOf a ≠ P.SEC4 → pageOf a ≠ P.NVM → u.rd a = s.rd a

theorem OffLog.trail (h : OffLog l s t) (g : Trail t u) : OffLog l s u := fun a h0 h1 h2 => (g.audited.regs a h1 h2).trans (h a h0 h1 h2)

theorem OffLog.only {m : List Nat} (h : OffLog l s t) (g : Only l m t u) : OffLog l s u := fun a h0 h1 h2 => (g.regs a h0).trans (h a h0 h1 h2)

theorem OffLog.put (h : OffLog l s t) : OffLog l s (t.put a data) := fun b h0 h1 h2 => put_rd.trans (h b h0 h1 h2)

/-- From the instant at which a command comes. -/
theorem Trail.offLog (h : Trail (s.at n) u) : OffLog l s u := fun a _ h1 h2 => h.audited.regs a h1 h2

theorem Trail.memAt (h : Trail (s.at n) u) : u.ld a = s.ld a := h.audited.mem

theorem Trail.updAt (h : Trail (s.at n) u) : u.upd = s.upd := h.audited.of (·.upd) fun _ _ _ _ => rfl

theorem Trail.upd (h : Trail s u) : u.upd = s.upd := h.audited.of (·.upd) fun _ _ _ _ => rfl

theorem Trail.mem (h : Trail s u) : u.ld a = s.ld a := h.audited.mem

theorem Trail.state (h : Trail s u) : updState u = updState s := h.rf

theorem mainSlot_congr (h : ∀ a, u.ld a = s.ld a) : mainSlot u k = mainSlot s k := by
  have hf : (fun d => crc32c (u.ldBytes d 256) == u.ldLE (d + 256) 4) = fun d => crc32c (s.ldBytes d 256) == s.ldLE (d + 256) 4 :=
    funext fun d => by rw [ldBytes_congr h, ldLE_congr h]
  rw [mainSlot, mainSlot, flashEntry, flashEntry, flashDir, flashDir, hf]
  split
  · rw [ldLE_congr h, ldLE_congr h]
  · rfl

/-- A place of MAIN, and the copy in use, as they were before the command came. -/
theorem Trail.mainPlace (h : Trail (s.at n) u) : imagePlace 1 k u = imagePlace 1 k s := by
  unfold imagePlace
  rw [if_pos rfl, if_pos rfl, mainSlot_congr fun _ => h.memAt]

theorem Trail.mainCopy (h : Trail (s.at n) u) : copyInUse 1 u = copyInUse 1 s := h.rf (a := R.SEC_BOOT_STAT) (hi := 0) (lo := 0)

/-! ### The update's state and result -/

theorem updShow_only : Only [R.SEC_UPD_STAT] [] s (updShow k r s) := (((Only.refl _ _ s).wf (by simp)).wf (by simp)).wf (by simp)

theorem updShow_state (hk : k < 8) : (updShow k r s).rf R.SEC_UPD_STAT 2 0 = k := by
  rw [updShow, State.rf_wf_disjoint (by decide) (by decide) (.inr (by decide)), State.rf_wf_disjoint (by decide) (by decide) (.inr (by decide)),
    State.rf_wf_self (by decide) (by decide)]
  exact Nat.mod_eq_of_lt hk

theorem updShow_result (hr : r < 16) : (updShow k r s).rf R.SEC_UPD_STAT 7 4 = r := by
  rw [updShow, State.rf_wf_disjoint (by decide) (by decide) (.inr (by decide)), State.rf_wf_self (by decide) (by decide)]
  exact Nat.mod_eq_of_lt hr

theorem updShow_upd : (updShow k r s).upd = s.upd := rfl

theorem updShow_sec : (updShow k r s).sec = s.sec := rfl

theorem setUpd_calm {g : UpdSt → UpdSt} : Calm s (s.setUpd g) := .of_maps rfl rfl rfl rfl rfl rfl

theorem put_sec : (s.put a data).sec = s.sec := by rw [put_eq]; rfl

theorem put_upd : (s.put a data).upd = s.upd := by rw [put_eq]; rfl

/-! ### The record of a step -/

/-- What a step answers, and its record (R484). -/
def updAnswer (e c : Nat) (p : Nat × State) (s : State) : Nat × List Nat × State :=
  ((updRecord (sessRole s e) (sessTid s e) c p).1, [], (updRecord (sessRole s e) (sessTid s e) c p).2)

theorem updAnswer_ok {p : Nat × State} (h : p = (0, w)) : updAnswer e c p s = (0, [], auditAdd (sessRole s e) 0 8 (sessTid s e) c w.upd.ver w) := by
  rw [updAnswer, h, updRecord, if_pos (.inl rfl)]

theorem updAnswer_plain {p : Nat × State} (h : p = (k, w)) (hk : k ≠ 0) (hc : k = 2 → c ≠ 0x0803) : updAnswer e c p s = (k, [], w) := by
  rw [updAnswer, h, updRecord, if_neg fun hx => hx.elim hk fun h2 => hc h2.2 h2.1]

/-- `op` of session `e` is a step of an update, recorded under code `c`. -/
def updStep (e c : Nat) (op : WaordOp) (f : State → Nat × State) : Prop := Judged op ∧ ∀ s, runOp e op s = updAnswer e c (f s) s

theorem Judged.of_right (hf : opFree op = false) (hs : opStored op = false) (hr : ∀ m, opRight m op = some r) (h : r ≠ 32 ∧ r ≠ 3 ∧ r ≠ 4 := by decide) :
    Judged op := ⟨hf, hs, fun m => by
  rw [hr]
  exact ⟨fun e => h.1 (Option.some.inj e), fun e => e.elim (fun e => h.2.1 (Option.some.inj e)) fun e => h.2.2 (Option.some.inj e)⟩⟩

theorem updBegin_step : updStep e 0x0801 (.updBegin type len) (updBegin type len) :=
  ⟨.of_right (r := 17) rfl rfl fun _ => show codeRight 0x0801 = some 17 by decide, fun _ => rfl⟩

theorem updData_step : updStep e 0x0802 (.updData k l) (updData k l) :=
  ⟨.of_right (r := 17) rfl rfl fun _ => show codeRight 0x0802 = some 17 by decide, fun _ => rfl⟩

theorem updVerify_step : updStep e 0x0803 .updVerify updVerify := ⟨.of_right (r := 17) rfl rfl fun _ => rfl, fun _ => rfl⟩

theorem updConfirm_step : updStep e 0x0805 .updConfirm updConfirm := ⟨.of_right (r := 17) rfl rfl fun _ => rfl, fun _ => rfl⟩

theorem updAbort_step : updStep e 0x0806 .updAbort updAbort := ⟨.of_right (r := 17) rfl rfl fun _ => rfl, fun _ => rfl⟩


/-! ### Requests of the steps -/

variable {f : State → Nat × State}

/-- A step that another state of the update does not allow: BUSY, and the result shows it. -/
theorem OpenFor.busy (h : OpenFor n e txn y s) (hop : updStep e c op f) (hr : Room 4 s) (hc : covers e y op s = true)
    (hf : ∀ t, Trail (s.at n) t → f t = (3, updShow (updState t) 3 t)) :
    ∃ u, waordRequest e txn op (s.at n) = u ∧ u.ses.resp = some (e, ⟨txn, 3, [], false⟩) ∧ u.rf R.SEC_UPD_STAT 7 4 = 3 ∧ u.upd = s.upd ∧
      OffLog [R.SEC_UPD_STAT] s u ∧ ∀ a, u.ld a = s.ld a := by
  obtain ⟨t, ht, -, hrun⟩ := h.recorded hop.1 hr (by decide) hc
  obtain ⟨z, hz, hresp⟩ := hrun ((hop.2 t).trans (updAnswer_plain (hf t ht) (by decide) fun h2 => absurd h2 (by decide)))
  have hres : (updShow (updState t) 3 t).rf R.SEC_UPD_STAT 7 4 = 3 := updShow_result (by decide)
  have hupd : (updShow (updState t) 3 t).upd = s.upd := ht.updAt
  have hregs : OffLog [R.SEC_UPD_STAT] s (updShow (updState t) 3 t) := ht.offLog.only updShow_only
  have hmem : ∀ a, (updShow (updState t) 3 t).ld a = s.ld a := fun a => (updShow_only.mem a).trans ht.memAt
  generalize updShow (updState t) 3 t = v at hz hres hupd hregs hmem
  exact ⟨_, hz, hresp, hres, hupd, hregs, hmem⟩

/-- A step refused as BAD: nothing changes. -/
theorem OpenFor.bad (h : OpenFor n e txn y s) (hop : updStep e c op f) (h3 : c ≠ 0x0803) (hr : Room 4 s) (hc : covers e y op s = true)
    (hf : ∀ t, Trail (s.at n) t → f t = (2, t)) :
    ∃ u, waordRequest e txn op (s.at n) = u ∧ u.ses.resp = some (e, ⟨txn, 2, [], false⟩) ∧ u.upd = s.upd ∧ OffLog [] s u ∧ ∀ a, u.ld a = s.ld a := by
  obtain ⟨t, ht, -, hrun⟩ := h.recorded hop.1 hr (by decide) hc
  obtain ⟨z, hz, hresp⟩ := hrun ((hop.2 t).trans (updAnswer_plain (hf t ht) (by decide) fun _ => h3))
  exact ⟨_, hz, hresp, ht.updAt, ht.offLog, fun a => ht.memAt⟩

/-- What a step does leaves the log's own state as it is. -/
structure LogKept (t w : State) : Prop where
  audit : w.sec.audit = t.sec.audit
  seq : w.rd R.SEC_AUDIT_SEQ = t.rd R.SEC_AUDIT_SEQ
  stat : w.rd R.SEC_AUDIT_STAT = t.rd R.SEC_AUDIT_STAT

theorem LogKept.counts (h : LogKept t w) : Counts 0 t w := .of_eq h.audit h.seq h.stat

/-- A step that is carried out: its effect `g`, between the records of the verdict and of the step. -/
theorem OpenFor.done {g : State → State} (h : OpenFor n e txn y s) (hop : updStep e c op f) (hr : Room 4 s) (hc : covers e y op s = true)
    (hf : ∀ t, Trail (s.at n) t → f t = (0, g t) ∧ LogKept t (g t)) :
    ∃ t v z, Trail (s.at n) t ∧ Trail (g t) v ∧ waordRequest e txn op (s.at n) = v.answered z ∧ z.resp = some (e, ⟨txn, 0, [], false⟩) := by
  obtain ⟨t, ht, hcount, hrun⟩ := h.recorded hop.1 hr (by decide) hc
  obtain ⟨hft, hlog⟩ := hf t ht
  obtain ⟨z, hz, hresp⟩ := hrun ((hop.2 t).trans (updAnswer_ok hft))
  exact ⟨t, _, z, ht, auditAdd_trail ((hcount.trans hlog.counts).room (Room.at hr) (by decide)), hz, hresp⟩

/-! ### UPD_BEGIN -/

theorem updBegin_busy (h : updState t ≠ 0) : updBegin type len t = (3, updShow (updState t) 3 t) := if_pos h

/-- The target at `p` is erased, and the update receives its image into copy `k`. -/
def updErased (p : Nat × Nat) (k len : Nat) (s : State) : State :=
  updShow 1 0 ((s.put p.1 (List.replicate p.2 0xFF)).setUpd fun u => { u with type := 1, copy := k, len := len, ver := 0, act := none })

theorem updBegin_erased (h : updState t = 0) (hl : len ≤ imageCap 1) (hp : 5696 + len ≤ (imagePlace 1 (1 - copyInUse 1 t) t).2) :
    updBegin 1 len t = (0, updErased (imagePlace 1 (1 - copyInUse 1 t) t) (1 - copyInUse 1 t) len t) := by
  rw [updBegin, if_neg (by rw [h]; decide)]
  dsimp only
  generalize imagePlace 1 (1 - copyInUse 1 t) t = p at hp ⊢
  rw [if_neg (by omega), if_pos rfl]
  rfl

/-! ### UPD_DATA -/

theorem updData_busy (h : updState t ≠ 1) : updData k l t = (3, updShow (updState t) 3 t) := if_pos h

theorem updData_bad (h : updState t = 1) (hl : 5696 + t.upd.len < k + l.length) : updData k l t = (2, t) := by
  rw [updData, if_neg (by rw [h]; decide), if_pos hl]

/-- Flash takes bytes only by clearing bits: the bytes `l` from `a`. -/
def flashTaken (a : Nat) (l : List Nat) (s : State) : State := s.put a (l.zipIdx.map fun x => x.1 &&& s.ldN (a + x.2))

theorem updData_taken (h : updState t = 1) (ht : t.upd.type = 1) (hl : k + l.length ≤ 5696 + t.upd.len) :
    updData k l t = (0, flashTaken ((imagePlace 1 t.upd.copy t).1 + k) l t) := by
  rw [updData, if_neg (by rw [h]; decide), if_neg (by omega)]
  dsimp only
  rw [if_pos ht, ht]
  rfl

/-! ### UPD_ACTIVATE and UPD_ABORT -/

variable {tick : Option Nat} {force : Bool}

theorem updActivate_busy (h : updState t ≠ 2) : updActivate tick force t = (3, updShow (updState t) 3 t) := if_pos h

/-- The activation waits for its tick. -/
def updArmed (tick : Option Nat) (force : Bool) (s : State) : State :=
  updShow 3 0 (s.setUpd fun u => { u with act := some (tick.getD (s.tickNum + 1), force) })

theorem updActivate_armed (h : updState t = 2) : updActivate tick force t = (0, updArmed tick force t) := if_neg (by rw [h]; decide)

theorem updAbort_busy (h1 : updState t ≠ 1) (h2 : updState t ≠ 2) : updAbort t = (3, updShow (updState t) 3 t) := if_pos ⟨h1, h2⟩

/-- The target at `a` has lost its MAGIC. -/
def updDropped (a : Nat) (s : State) : State := updShow 0 0 (s.put a [0, 0, 0, 0])

theorem updAbort_dropped (h : updState t = 1 ∨ updState t = 2) (ht : t.upd.type = 1) : updAbort t = (0, updDropped (imagePlace 1 t.upd.copy t).1 t) := by
  rw [updAbort, if_neg (by omega)]
  dsimp only
  rw [if_pos ht, ht]
  rfl

end Sys2Proof.Machine
end

section
/-! PROOFS. The steps of an update as its states allow them (R463 to R465). -/

namespace Sys2Proof.Machine

variable {s t u v w : State} {a e k n type len txn : Nat} {y : SessSt} {data l : List Nat}

/-! ### The image in its place -/

theorem otpBits_congr {x z : NvSt} (h : z.otp = x.otp) {b j : Nat} : z.otpBits b j = x.otpBits b j := by simp only [NvSt.otpBits, NvSt.otpWord, h]

theorem otpCount_congr {x z : NvSt} (h : z.otp = x.otp) {b j : Nat} : z.otpCount b j = x.otpCount b j := by simp only [NvSt.otpCount, otpBits_congr h]

theorem otpBytes_congr {x z : NvSt} (h : z.otp = x.otp) {b j : Nat} : z.otpBytes b j = x.otpBytes b j := by simp only [NvSt.otpBytes, otpBits_congr h]

theorem rollbackLevel_congr (h : u.nv.otp = s.nv.otp) : rollbackLevel k u = rollbackLevel k s := otpCount_congr h

theorem Trail.see (h : Trail s u) : u.see a = s.see a := by
  have hl : ∀ b, u.ldN b = s.ldN b := fun b => congrArg BitVec.toNat h.mem
  unfold State.see emramByte
  rw [h.redo]
  simp only [hl]

theorem Trail.seeBytes (h : Trail s u) : u.seeBytes a n = s.seeBytes a n := List.map_congr_left fun _ _ => h.see

theorem Trail.imagePlace (h : Trail s u) (hk : k < 2) : imagePlace type k u = imagePlace type k s := by
  have hne : ∀ r : Fin 8, R.NVM_REGION_BASE r ∉ recordRegs ∧ R.NVM_REGION_SIZE r ∉ recordRegs := by decide
  have hr : ∀ r < 8, u.rd (R.NVM_REGION_BASE r) = s.rd (R.NVM_REGION_BASE r) ∧ u.rd (R.NVM_REGION_SIZE r) = s.rd (R.NVM_REGION_SIZE r) := fun r hr =>
    ⟨h.kept _ (hne ⟨r, hr⟩).1, h.kept _ (hne ⟨r, hr⟩).2⟩
  unfold Machine.imagePlace
  rw [mainSlot_congr fun _ => h.mem]
  split
  · rfl
  · obtain ⟨hb, hs⟩ := hr ((if type = 0 then 4 else 6) + k) (by split <;> omega)
    dsimp only
    rw [hb, hs]

/-- A record does not touch an image, nor what it is checked against. -/
theorem Trail.imageCheck (h : Trail s u) (hk : k < 2) : imageCheck type k u = imageCheck type k s := by
  unfold Machine.imageCheck
  have hs : u.seeBytes = s.seeBytes := funext fun _ => funext fun _ => h.seeBytes
  rw [h.imagePlace hk, otpBytes_congr h.audited.otp, rollbackLevel_congr h.audited.otp, hs]

/-! ### UPD_BEGIN, UPD_DATA and UPD_ABORT -/

/-- A step that writes memory and the registers of `m`: what the log keeps, and where memory is as it was. -/
theorem LogKept.of_put {m : List Nat} (h : Only m [] (t.put a data) w) (hs : w.sec = t.sec) (h1 : R.SEC_AUDIT_SEQ ∉ m) (h2 : R.SEC_AUDIT_STAT ∉ m) : LogKept t w :=
  ⟨congrArg (·.audit) hs, (h.regs _ h1).trans put_rd, (h.regs _ h2).trans put_rd⟩

/-- A step between its two records: `v` is what is left of `t` with `data` written at `a`, and with the registers of `m`. -/
structure Wrote (m : List Nat) (a : Nat) (data : List Nat) (s t v : State) : Prop where
  self : ∀ k (h : k < data.length), v.ldN (a + k) = data[k] % 256
  mem : ∀ b, b < a ∨ a + data.length ≤ b → v.ld b = s.ld b
  regs : OffLog m s v

theorem Trail.wrote {m : List Nat} (ht : Trail (s.at n) t) (h : Only m [] (t.put a data) w) (hv : Trail w v) : Wrote m a data s t v where
  self k hk := (congrArg BitVec.toNat (hv.mem.trans (h.mem _))).trans (put_ldN_self hk)
  mem b hb := (hv.mem.trans (h.mem _)).trans ((put_ld_of_ne hb).trans ht.memAt)
  regs := (OffLog.only (ht.offLog.put) h).trail hv

theorem updErased_only {p : Nat × Nat} : Only [R.SEC_UPD_STAT] [] (t.put p.1 (List.replicate p.2 0xFF)) (updErased p k len t) :=
  (setUpd_calm.mono (by simp) (by simp)).trans updShow_only

theorem updErased_upd {p : Nat × Nat} : (updErased p k len t).upd = { t.upd with type := 1, copy := k, len := len, ver := 0, act := none } := by
  rw [← put_upd (s := t) (a := p.1) (data := List.replicate p.2 0xFF)]
  exact updShow_upd

theorem OpenFor.begun (h : OpenFor n e txn y s) (hr : Room 4 s) (hc : covers e y (.updBegin 1 len) s = true) (h0 : updState s = 0) (hl : len ≤ imageCap 1)
    {p : Nat × Nat} (hp : imagePlace 1 (1 - copyInUse 1 s) s = p) (hlen : 5696 + len ≤ p.2) :
    ∃ u, waordRequest e txn (.updBegin 1 len) (s.at n) = u ∧ u.ses.resp = some (e, ⟨txn, 0, [], false⟩) ∧ u.rf R.SEC_UPD_STAT 2 0 = 1 ∧ u.upd.type = 1 ∧
      u.upd.len = len ∧ u.upd.copy = 1 - copyInUse 1 s ∧ (∀ k < p.2, u.ldN (p.1 + k) = 0xFF) ∧ (∀ a, a < p.1 ∨ p.1 + p.2 ≤ a → u.ld a = s.ld a) ∧
      OffLog [R.SEC_UPD_STAT] s u := by
  obtain ⟨t, v, z, ht, hv, hz, hresp⟩ := h.done (g := updErased p (1 - copyInUse 1 s) len) updBegin_step hr hc fun t ht => by
    have hpl : imagePlace 1 (1 - copyInUse 1 t) t = p := by rw [ht.mainCopy, ht.mainPlace, hp]
    refine ⟨(updBegin_erased (ht.state.trans h0) hl (by rw [hpl]; exact hlen)).trans (by rw [hpl, ht.mainCopy]), ?_⟩
    exact .of_put updErased_only ((updShow_sec.trans rfl).trans put_sec) (by decide) (by decide)
  have hw : Wrote [R.SEC_UPD_STAT] p.1 (List.replicate p.2 0xFF) s t v := ht.wrote updErased_only hv
  have hst : v.rf R.SEC_UPD_STAT 2 0 = 1 := hv.rf.trans (updShow_state (by decide))
  have hu : v.upd = { t.upd with type := 1, copy := 1 - copyInUse 1 s, len := len, ver := 0, act := none } := hv.upd.trans updErased_upd
  refine ⟨_, hz, hresp, hst, congrArg (·.type) hu, congrArg (·.len) hu, congrArg (·.copy) hu, fun k hk => ?_, fun a ha => ?_, hw.regs⟩
  · exact (hw.self k (by simpa using hk)).trans (by simp)
  · exact hw.mem a (by simpa using ha)

theorem flashTaken_get {b : List Byte} (hk : k < b.length) :
    ∃ h : k < ((nums b).zipIdx.map fun x => x.1 &&& t.ldN (a + x.2)).length, ((nums b).zipIdx.map fun x => x.1 &&& t.ldN (a + x.2))[k] = b[k].toNat &&& t.ldN (a + k) :=
  ⟨by simpa [nums] using hk, by simp [nums]⟩

theorem OpenFor.taken {b : List Byte} (h : OpenFor n e txn y s) (hr : Room 4 s) (hc : covers e y (.updData k (nums b)) s = true) (h1 : updState s = 1)
    (hty : s.upd.type = 1) (hl : k + b.length ≤ 5696 + s.upd.len) {p : Nat} (hp : (imagePlace 1 s.upd.copy s).1 + k = p) :
    ∃ u, waordRequest e txn (.updData k (nums b)) (s.at n) = u ∧ u.ses.resp = some (e, ⟨txn, 0, [], false⟩) ∧
      (∀ j (h : j < b.length), u.ldN (p + j) = b[j].toNat &&& s.ldN (p + j)) ∧ (∀ a, a < p ∨ p + b.length ≤ a → u.ld a = s.ld a) ∧ u.upd = s.upd ∧
      OffLog [] s u := by
  have hn : (nums b).length = b.length := by simp [nums]
  obtain ⟨t, v, z, ht, hv, hz, hresp⟩ := h.done (g := flashTaken p (nums b)) updData_step hr hc fun t ht => by
    have hpl : (imagePlace 1 t.upd.copy t).1 + k = p := by rw [ht.updAt, ht.mainPlace, hp]
    refine ⟨(updData_taken (ht.state.trans h1) (by rw [ht.updAt, hty]) (by rw [hn, ht.updAt]; exact hl)).trans (by rw [hpl]), ?_⟩
    exact .of_put (m := []) (.refl _ _ _) put_sec (by decide) (by decide)
  have hw := ht.wrote (m := []) (.refl _ _ _) hv
  refine ⟨_, hz, hresp, fun j hj => ?_, fun a ha => ?_, hv.upd.trans (put_upd.trans ht.updAt), hw.regs⟩
  · obtain ⟨hlt, hget⟩ := flashTaken_get (t := t) (a := p) hj
    have hle : b[j].toNat &&& t.ldN (p + j) < 256 := lt_of_le_of_lt Nat.and_le_left b[j].isLt
    have hld : t.ldN (p + j) = s.ldN (p + j) := congrArg BitVec.toNat ht.memAt
    exact (hw.self j hlt).trans ((congrArg (· % 256) hget).trans ((Nat.mod_eq_of_lt hle).trans (by rw [hld])))
  · exact hw.mem a (by simpa [nums] using ha)

theorem updDropped_only : Only [R.SEC_UPD_STAT] [] (t.put a [0, 0, 0, 0]) (updDropped a t) := updShow_only

theorem OpenFor.dropped (h : OpenFor n e txn y s) (hr : Room 4 s) (hc : covers e y .updAbort s = true) (h1 : updState s = 1 ∨ updState s = 2)
    (hty : s.upd.type = 1) {p : Nat} (hp : (imagePlace 1 s.upd.copy s).1 = p) :
    ∃ u, waordRequest e txn .updAbort (s.at n) = u ∧ u.ses.resp = some (e, ⟨txn, 0, [], false⟩) ∧ u.rf R.SEC_UPD_STAT 2 0 = 0 ∧
      (∀ k < 4, u.ldN (p + k) = 0) ∧ (∀ a, a < p ∨ p + 4 ≤ a → u.ld a = s.ld a) ∧ OffLog [R.SEC_UPD_STAT] s u := by
  obtain ⟨t, v, z, ht, hv, hz, hresp⟩ := h.done (g := updDropped p) updAbort_step hr hc fun t ht => by
    have hpl : (imagePlace 1 t.upd.copy t).1 = p := by rw [ht.updAt, ht.mainPlace, hp]
    exact ⟨(updAbort_dropped (by rw [ht.state]; exact h1) (by rw [ht.updAt, hty])).trans (by rw [hpl]),
      .of_put updDropped_only (updShow_sec.trans put_sec) (by decide) (by decide)⟩
  have hw : Wrote [R.SEC_UPD_STAT] p [0, 0, 0, 0] s t v := ht.wrote updDropped_only hv
  have hst : v.rf R.SEC_UPD_STAT 2 0 = 0 := hv.rf.trans (updShow_state (by decide))
  refine ⟨_, hz, hresp, hst, fun k hk => (hw.self k hk).trans ?_, hw.mem, hw.regs⟩
  have hz : ∀ j : Fin 4, ([0, 0, 0, 0] : List Nat)[j] % 256 = 0 := by decide
  exact hz ⟨k, hk⟩

/-! ### UPD_ACTIVATE -/

variable {tick : Option Nat} {force : Bool}

/-- FORCE goes with maker rights alone. -/
theorem updActivate_step : updStep e 0x0804 (.updActivate tick force) fun s => updActivate tick (force && sessRole s e == 0) s :=
  ⟨.of_right (r := 17) rfl rfl fun _ => show codeRight 0x0804 = some 17 by decide, fun _ => rfl⟩

theorem updArmed_only : Only [R.SEC_UPD_STAT] [] t (updArmed tick force t) := (setUpd_calm.mono (by simp) (by simp)).trans updShow_only

theorem updArmed_upd : (updArmed tick force t).upd = { t.upd with act := some (tick.getD (t.tickNum + 1), force) } := updShow_upd

theorem LogKept.of_only {m : List Nat} (h : Only m [] t w) (hs : w.sec = t.sec) (h1 : R.SEC_AUDIT_SEQ ∉ m) (h2 : R.SEC_AUDIT_STAT ∉ m) : LogKept t w :=
  ⟨congrArg (·.audit) hs, h.regs _ h1, h.regs _ h2⟩

theorem Trail.role (h : Trail (s.at n) u) : sessRole u e = sessRole s e := by
  have hb : u.rd R.NET_SESS_BASE = s.rd R.NET_SESS_BASE := h.kept _ (by decide)
  rw [sessRole, sessAddr, hb, State.ldN, h.memAt]
  rfl

theorem OpenFor.armed (h : OpenFor n e txn y s) (hr : Room 4 s) (hc : covers e y (.updActivate tick force) s = true) (h2 : updState s = 2) :
    ∃ u, waordRequest e txn (.updActivate tick force) (s.at n) = u ∧ u.ses.resp = some (e, ⟨txn, 0, [], false⟩) ∧ u.rf R.SEC_UPD_STAT 2 0 = 3 ∧
      u.upd.act = some (tick.getD (s.tickNum + 1), force && sessRole s e == 0) ∧ OffLog [R.SEC_UPD_STAT] s u ∧ ∀ a, u.ld a = s.ld a := by
  obtain ⟨t, v, z, ht, hv, hz, hresp⟩ := h.done (g := updArmed tick (force && sessRole s e == 0)) updActivate_step hr hc fun t ht =>
    ⟨(updActivate_armed (ht.state.trans h2)).trans (by rw [ht.role]), .of_only updArmed_only rfl (by decide) (by decide)⟩
  have hst : v.rf R.SEC_UPD_STAT 2 0 = 3 := hv.rf.trans (updShow_state (by decide))
  have hact : v.upd.act = some (tick.getD (s.tickNum + 1), force && sessRole s e == 0) := by
    rw [hv.upd, updArmed_upd, show t.tickNum = s.tickNum from ht.audited.of (·.tickNum) fun _ _ _ _ => rfl]
  have hregs : OffLog [R.SEC_UPD_STAT] s (updArmed tick (force && sessRole s e == 0) t) := ht.offLog.only updArmed_only
  have hoff : OffLog [R.SEC_UPD_STAT] s v := hregs.trail hv
  exact ⟨_, hz, hresp, hst, hact, hoff, fun a => hv.mem.trans ((updArmed_only.mem a).trans ht.memAt)⟩

/-! ### UPD_CONFIRM -/

/-- MAIN's or another image's slot that the trial of `x` is made active in. -/
def confirmedSlot (x : NvSt) : Nat := x.active ^^^ (if x.trial / 4 = 1 then 1 else if x.trial / 4 = 0 then 2 else 4)

/-- The trial is over, its slot the active one, with a transaction that stores it. -/
def trialKept (s : State) : State :=
  countersTx (.mainSlot (confirmedSlot s.nv) 0) (s.setNv fun x => { x with active := confirmedSlot s.nv, trial := 0 })

/-- What a confirmation that raises no counter does. -/
def updConfirmed (s : State) : State := (updShow 0 5 ((trialKept s).wb R.SEC_BOOT_STAT 5 false)).irq P.SEC3 0

theorem trialKept_trail : Trail (s.setNv fun x => { x with active := confirmedSlot s.nv, trial := 0 }) (trialKept s) := txSubmit_trail

theorem updConfirm_busy (h : updState t ≠ 4 ∨ t.upd.failed = true ∨ trialReached t = false) : updConfirm t = (3, updShow (updState t) 3 t) := if_pos h

theorem updConfirm_confirmed (h4 : updState t = 4) (hf : t.upd.failed = false) (hr : trialReached t = true)
    (hl : t.upd.roll ≤ rollbackLevel (imageCounter (t.nv.trial / 4)) t) : updConfirm t = (0, updConfirmed t) := by
  have hcond : ¬(updState t ≠ 4 ∨ t.upd.failed = true ∨ trialReached t = false) := by rw [h4, hf, hr]; decide
  have hk := trialKept_trail (s := t)
  have hup : (trialKept t).upd = t.upd := hk.upd
  have hlev : rollbackLevel (imageCounter (t.nv.trial / 4)) (trialKept t) = rollbackLevel (imageCounter (t.nv.trial / 4)) t :=
    rollbackLevel_congr hk.audited.otp
  have hraise : otpRaise (imageCounter (t.nv.trial / 4)) (trialKept t).upd.roll (trialKept t) = trialKept t := by
    rw [otpRaise, hup, hlev, decide_eq_true hl]
    rfl
  rw [updConfirm, if_neg hcond]
  exact congrArg (fun x : State => (0, (updShow 0 5 (x.wb R.SEC_BOOT_STAT 5 false)).irq P.SEC3 0)) hraise

/-- The registers of a confirmation. -/
def confirmRegs : List Nat := [R.SEC_UPD_STAT, R.SEC_BOOT_STAT, R.IRQ_STAT P.SEC3]

theorem updConfirmed_only : Only confirmRegs [] (trialKept t) (updConfirmed t) :=
  ((((Only.refl _ _ _).wb (by decide)).trans (updShow_only.mono (by decide) (by simp))).irq (by decide))

theorem updConfirmed_shows : (updConfirmed t).rf R.SEC_UPD_STAT 2 0 = 0 ∧ (updConfirmed t).rf R.SEC_UPD_STAT 7 4 = 5 ∧
    (updConfirmed t).rb R.SEC_BOOT_STAT 5 = false := by
  unfold updConfirmed
  generalize trialKept t = x
  refine ⟨(State.rf_irq_of_ne (by decide)).trans (updShow_state (by decide)), (State.rf_irq_of_ne (by decide)).trans (updShow_result (by decide)), ?_⟩
  exact (State.rb_irq_of_ne (by decide)).trans ((updShow_only.rb (by decide)).trans (State.rb_wb_self (by decide)))

theorem updConfirmed_log : LogKept t (updConfirmed t) := by
  have hs : (trialKept t).sec = t.sec := txSubmit_sec.2
  have hr : OffNvm t (trialKept t) := txSubmit_sec.1
  exact ⟨congrArg (·.audit) hs, (updConfirmed_only.regs _ (by decide)).trans (hr _ (by decide)), (updConfirmed_only.regs _ (by decide)).trans (hr _ (by decide))⟩

theorem Trail.reached (h : Trail (s.at n) u) : trialReached u = trialReached s := by
  have hq : quarantined u = quarantined s := congrArg (· == 7) (h.rf (a := R.SYS_MODE))
  rw [trialReached, h.updAt, hq, trialReached]

theorem OpenFor.confirmed (h : OpenFor n e txn y s) (hr : Room 4 s) (hc : covers e y .updConfirm s = true) (h4 : updState s = 4) (hf : s.upd.failed = false)
    (ht : trialReached s = true) (hl : s.upd.roll ≤ rollbackLevel (imageCounter (s.nv.trial / 4)) s) :
    ∃ u, waordRequest e txn .updConfirm (s.at n) = u ∧ u.ses.resp = some (e, ⟨txn, 0, [], false⟩) ∧ u.rf R.SEC_UPD_STAT 2 0 = 0 ∧ u.rf R.SEC_UPD_STAT 7 4 = 5 ∧
      u.nv.trial = 0 ∧ u.rb R.SEC_BOOT_STAT 5 = false ∧ OffLog confirmRegs s u ∧ ∀ a, u.ld a = s.ld a := by
  obtain ⟨t, v, z, hts, hv, hz, hresp⟩ := h.done (g := updConfirmed) updConfirm_step hr hc fun t hts => by
    have hn : t.nv.trial = s.nv.trial := hts.audited.of (·.nv.trial) fun _ _ _ _ => rfl
    refine ⟨updConfirm_confirmed (hts.state.trans h4) (by rw [hts.updAt]; exact hf) (hts.reached.trans ht) ?_, updConfirmed_log⟩
    rw [hts.updAt, hn, rollbackLevel_congr (s := s) hts.audited.otp]
    exact hl
  have hk := trialKept_trail (s := t)
  obtain ⟨hst, hres, hboot⟩ := updConfirmed_shows (t := t)
  have htrial : v.nv.trial = 0 := (hv.audited.of (·.nv.trial) fun _ _ _ _ => rfl).trans ((congrArg (·.trial) updConfirmed_only.nv).trans
    (hk.audited.of (·.nv.trial) fun _ _ _ _ => rfl))
  have hoff : OffLog confirmRegs s v := fun a h0 h1 h2 => (hv.audited.regs a h1 h2).trans ((updConfirmed_only.regs a h0).trans
    ((hk.audited.regs a h1 h2).trans (hts.audited.regs a h1 h2)))
  have hmem : ∀ a, v.ld a = s.ld a := fun a => hv.mem.trans ((updConfirmed_only.mem a).trans (hk.mem.trans hts.memAt))
  exact ⟨_, hz, hresp, hv.rf.trans hst, hv.rf.trans hres, htrial, hv.rb.trans hboot, hoff, hmem⟩

/-! ### UPD_VERIFY -/

theorem updVerify_busy (h : updState t ≠ 1) : updVerify t = (3, updShow (updState t) 3 t) := if_pos h

/-- An image of ROLLBACK and VERSION `c` is staged. -/
def updStaged (c : Nat × Nat) (s : State) : State :=
  updShow 2 1 ((((s.irq P.SEC3 0).setUpd fun u => { u with ver := c.2 }).setUpd fun u => { u with roll := c.1 }).wr
    (R.SEC_IMG_VER (imageIndex s.upd.type s.upd.copy)) (word c.2))

/-- An image of VERSION `x` is refused: what is shown, before it is raised. -/
def updRefused (x : Nat) (s : State) : State :=
  (updShow 0 2 ((s.irq P.SEC3 0).setUpd fun u => { u with ver := x })).setSec fun z => { z with reject := some (s.upd.type, s.upd.copy) }

theorem updVerify_staged (h : updState t = 1) (hc : (imageCheck t.upd.type t.upd.copy t).1 = true) :
    updVerify t = (0, updStaged (imageCheck t.upd.type t.upd.copy t).2 t) := by
  rw [updVerify, if_neg (by rw [h]; decide)]
  generalize imageCheck t.upd.type t.upd.copy t = c at hc ⊢
  exact if_pos hc

theorem updVerify_refused (h : updState t = 1) (hc : (imageCheck t.upd.type t.upd.copy t).1 = false) :
    updVerify t = (2, raise Src.IMAGE_VERIFY_FAIL (updRefused (imageCheck t.upd.type t.upd.copy t).2.2 t)) := by
  rw [updVerify, if_neg (by rw [h]; decide)]
  generalize imageCheck t.upd.type t.upd.copy t = c at hc ⊢
  exact if_neg (by rw [hc]; decide)

/-- The registers of a verification. -/
def verifyRegs (type k : Nat) : List Nat := [R.SEC_UPD_STAT, R.IRQ_STAT P.SEC3, R.SEC_IMG_VER (imageIndex type k)]

theorem updStaged_only {c : Nat × Nat} : Only (verifyRegs t.upd.type t.upd.copy) [] t (updStaged c t) := by
  have h1 : Only (verifyRegs t.upd.type t.upd.copy) [] t (t.irq P.SEC3 0) := (Only.refl _ _ _).irq (by simp [verifyRegs])
  have h2 : Only (verifyRegs t.upd.type t.upd.copy) [] t (((t.irq P.SEC3 0).setUpd fun u => { u with ver := c.2 }).setUpd fun u => { u with roll := c.1 }) :=
    (h1.trans (setUpd_calm.mono (by simp) (by simp))).trans (setUpd_calm.mono (by simp) (by simp))
  exact (h2.wr (by simp [verifyRegs])).trans (updShow_only.mono (by simp [verifyRegs]) (by simp))

theorem imageIndex_lt (hk : k < 2) : imageIndex type k < 5 := by
  rw [imageIndex]; split
  · omega
  · split <;> omega

/-- SEC_IMG_VER lies between the other registers of its page. -/
theorem verifyRegs_log (hk : k < 2) : R.SEC_AUDIT_SEQ ∉ verifyRegs type k ∧ R.SEC_AUDIT_STAT ∉ verifyRegs type k ∧
    R.SEC_IMG_VER (imageIndex type k) ≠ R.IRQ_STAT P.SEC3 := by
  have hi : imageIndex type k < 5 := imageIndex_lt hk
  have hj : ∀ j : Fin 5, R.SEC_AUDIT_SEQ ∉ [R.SEC_UPD_STAT, R.IRQ_STAT P.SEC3, R.SEC_IMG_VER j] ∧
    R.SEC_AUDIT_STAT ∉ [R.SEC_UPD_STAT, R.IRQ_STAT P.SEC3, R.SEC_IMG_VER j] ∧ R.SEC_IMG_VER j ≠ R.IRQ_STAT P.SEC3 := by decide
  exact hj ⟨_, hi⟩

theorem updStaged_shows {c : Nat × Nat} (hk : t.upd.copy < 2) : (updStaged c t).rf R.SEC_UPD_STAT 2 0 = 2 ∧ (updStaged c t).rf R.SEC_UPD_STAT 7 4 = 1 ∧
    (updStaged c t).rb (R.IRQ_STAT P.SEC3) 0 = true ∧ (updStaged c t).upd = { t.upd with ver := c.2, roll := c.1 } := by
  unfold updStaged
  generalize hy : ((t.irq P.SEC3 0).setUpd fun u => { u with ver := c.2 }).setUpd (fun u => { u with roll := c.1 }) = y
  have hirq : y.rb (R.IRQ_STAT P.SEC3) 0 = true := by
    rw [← hy, setUpd_calm.rb (by simp), setUpd_calm.rb (by simp)]
    exact State.rb_irq_self (by decide)
  have hupd : y.upd = { t.upd with ver := c.2, roll := c.1 } := by rw [← hy]; rfl
  clear hy
  refine ⟨updShow_state (by decide), updShow_result (by decide), ?_, updShow_upd.trans ((State.wr_upd ..).trans hupd)⟩
  exact (updShow_only.rb (by decide)).trans ((State.rb_wr_of_ne (verifyRegs_log hk).2.2.symm).trans hirq)

theorem updStaged_sec {c : Nat × Nat} : (updStaged c t).sec = t.sec := by
  unfold updStaged
  exact updShow_sec.trans ((State.wr_sec ..).trans rfl)

/-- UPD_VERIFY answers OK for an image that stands, and BAD otherwise. -/
theorem OpenFor.verified (h : OpenFor n e txn y s) (hr : Room 4 s) (hc : covers e y .updVerify s = true) (h1 : updState s = 1) (hk : s.upd.copy < 2)
    {c : Bool × Nat × Nat} (himg : imageCheck s.upd.type s.upd.copy (s.at n) = c) :
    ∃ u, waordRequest e txn .updVerify (s.at n) = u ∧ u.ses.resp = some (e, ⟨txn, if c.1 then 0 else 2, [], false⟩) ∧
      (c.1 = true → u.rf R.SEC_UPD_STAT 2 0 = 2 ∧ u.rf R.SEC_UPD_STAT 7 4 = 1 ∧ u.rb (R.IRQ_STAT P.SEC3) 0 = true ∧ u.upd.roll = c.2.1 ∧ u.upd.ver = c.2.2 ∧
        OffLog (verifyRegs s.upd.type s.upd.copy) s u ∧ ∀ a, u.ld a = s.ld a) := by
  have hcheck : ∀ t, Trail (s.at n) t → imageCheck t.upd.type t.upd.copy t = c := fun t ht => by rw [ht.updAt, ht.imageCheck hk, himg]
  cases hok : c.1 with
  | true =>
    obtain ⟨t, v, z, ht, hv, hz, hresp⟩ := h.done (g := updStaged c.2) updVerify_step hr hc fun t ht =>
      ⟨(updVerify_staged (ht.state.trans h1) (by rw [hcheck t ht]; exact hok)).trans (by rw [hcheck t ht]),
        .of_only updStaged_only updStaged_sec (verifyRegs_log (by rw [ht.updAt]; exact hk)).1 (verifyRegs_log (by rw [ht.updAt]; exact hk)).2.1⟩
    obtain ⟨hst, hres, hirq, hupd⟩ := updStaged_shows (c := c.2) (t := t) (by rw [ht.updAt]; exact hk)
    have ho : Only (verifyRegs t.upd.type t.upd.copy) [] t (updStaged c.2 t) := updStaged_only
    rw [ht.updAt] at ho
    have hoff : OffLog (verifyRegs s.upd.type s.upd.copy) s v := (ht.offLog.only ho).trail hv
    have hmem : ∀ a, v.ld a = s.ld a := fun a => hv.mem.trans ((ho.mem a).trans ht.memAt)
    have hu : v.upd = { t.upd with ver := c.2.2, roll := c.2.1 } := hv.upd.trans hupd
    exact ⟨_, hz, hresp, fun _ => ⟨hv.rf.trans hst, hv.rf.trans hres, hv.rb.trans hirq, congrArg (·.roll) hu, congrArg (·.ver) hu, hoff, hmem⟩⟩
  | false =>
    obtain ⟨t, ht, -, hrun⟩ := h.recorded (updVerify_step (e := e)).1 hr (by decide) hc
    have hf := updVerify_refused (ht.state.trans h1) (by rw [hcheck t ht]; exact hok)
    obtain ⟨z, hz, hresp⟩ := hrun ((updVerify_step.2 t).trans (by rw [updAnswer, hf, updRecord, if_pos (.inr ⟨rfl, rfl⟩)]))
    exact ⟨_, hz, hresp, fun hx => absurd hx (by decide)⟩

end Sys2Proof.Machine
end

section
/-! PROOFS. The commands of the audit log (R487, R488) and of recovery (R491). -/

namespace Sys2Proof.Machine

variable {s t u v w : State} {a b e k n r txn : Nat} {y : SessSt} {data l tid : List Nat}

/-! ### AUDIT_READ -/

theorem auditRead_judged : Judged (.auditRead a b) := .of_right (r := 19) rfl rfl fun _ => show codeRight 0x0901 = some 19 by decide

/-- While every record is stored, the chain is computed and no value is drawn. -/
theorem auditHash_state (h : (s.rd R.SEC_AUDIT_SEQ).toNat ≤ 65536) : auditHash n s = ((auditHash n s).1, s) := by
  unfold auditHash
  extract_lets next
  split
  · rfl
  · rfl

/-- The highest TO exported. -/
def exportedTo (b : Nat) (s : State) : State :=
  s.setSec fun x => { x with exported := max x.exported (min (b + 1) (s.rd R.SEC_AUDIT_SEQ).toNat - 1) }

theorem auditExport_state (h : (s.rd R.SEC_AUDIT_SEQ).toNat ≤ 65536) : (auditExport r tid a b s).2 = auditAdd r 0 0x0D tid a b (exportedTo b s) := by
  unfold auditExport
  dsimp only
  rw [auditHash_state h]
  dsimp only
  rw [auditHash_state h]
  rfl

theorem runOp_auditRead (h : identityStands s = true) : runOp e (.auditRead a b) s =
    (0, (auditExport (sessRole s e) (sessTid s e) a b s).1, (auditExport (sessRole s e) (sessTid s e) a b s).2) := if_neg (by rw [h]; decide)

theorem OpenFor.exported (h : OpenFor n e txn y s) (hr : Room 4 s) (hc : covers e y (.auditRead a b) s = true) (hi : identityStands s = true) :
    ∃ u, waordRequest e txn (.auditRead a b) (s.at n) = u ∧ (∃ data, u.ses.resp = some (e, ⟨txn, 0, data, false⟩)) ∧
      u.sec.exported = max s.sec.exported (min (b + 1) ((s.rd R.SEC_AUDIT_SEQ).toNat + 1) - 1) ∧
      u.rd R.SEC_AUDIT_SEQ = word ((s.rd R.SEC_AUDIT_SEQ).toNat + 2) ∧ OffLog [] s u ∧ ∀ a, u.ld a = s.ld a := by
  obtain ⟨t, ht, hcount, hrun⟩ := h.recorded auditRead_judged hr (by decide) hc
  have hid : identityStands t = true := by
    have h0 : t.rb R.SEC_STATUS 0 = s.rb R.SEC_STATUS 0 := ht.rb
    have h1 : t.rb R.SEC_STATUS 1 = s.rb R.SEC_STATUS 1 := ht.rb
    rw [identityStands, h0, h1]
    exact hi
  have hseq : (t.rd R.SEC_AUDIT_SEQ).toNat = (s.rd R.SEC_AUDIT_SEQ).toNat + 1 := hcount.seq
  obtain ⟨z, hz, hresp⟩ := hrun (runOp_auditRead hid)
  rw [auditExport_state (by have := hr.2.2; omega)] at hz
  have hx : LogKept t (exportedTo b t) := ⟨rfl, rfl, rfl⟩
  have hx1 : (exportedTo b t).sec.exported = max s.sec.exported (min (b + 1) ((s.rd R.SEC_AUDIT_SEQ).toNat + 1) - 1) := by
    rw [← hseq, ← show t.sec.exported = s.sec.exported from ht.audited.of (·.sec.exported) fun _ _ _ _ => rfl]; rfl
  have hoff : OffLog [] s (exportedTo b t) := ht.offLog
  have hmem : ∀ a, (exportedTo b t).ld a = s.ld a := fun a => ht.memAt
  generalize exportedTo b t = x at hz hx hx1 hoff hmem
  have hcx : Counts 1 (s.at n) x := hcount.trans hx.counts
  have hv : Trail x (auditAdd (sessRole t e) 0 0x0D (sessTid t e) a b x) := auditAdd_trail (hcx.room (Room.at hr) (by decide))
  have hcv : Counts 2 (s.at n) (auditAdd (sessRole t e) 0 0x0D (sessTid t e) a b x) := hcx.add (Room.at hr) (by decide)
  generalize auditAdd (sessRole t e) 0 0x0D (sessTid t e) a b x = v at hz hv hcv
  have hoffv : OffLog [] s v := hoff.trail hv
  exact ⟨_, hz, ⟨_, hresp⟩, (hv.audited.of (·.sec.exported) fun _ _ _ _ => rfl).trans hx1, hcv.shown, hoffv, fun a => hv.mem.trans (hmem a)⟩

/-! ### AUDIT_ACK -/

theorem auditAck_judged : Judged (.auditAck a) := .of_right (r := 19) rfl rfl fun _ => show codeRight 0x0902 = some 19 by decide

/-- ACKED rises to `v`, with a transaction that stores it. -/
def ackedTo (v : Nat) (s : State) : State := countersTx (.acked v) (s.wr R.SEC_AUDIT_ACKED (word v))

/-- What AUDIT_ACK of `a` makes of ACKED. -/
def ackedValue (a : Nat) (s : State) : Nat := max (s.rd R.SEC_AUDIT_ACKED).toNat (min a s.sec.exported)

theorem runOp_auditAck : runOp e (.auditAck a) s = (0, [], auditAdd (sessRole s e) 0 0x0E (sessTid s e) (ackedValue a s) 0 (ackedTo (ackedValue a s) s)) := rfl

theorem ackedTo_log : LogKept t (ackedTo k t) := by
  have hs : (ackedTo k t).sec = (t.wr R.SEC_AUDIT_ACKED (word k)).sec := txSubmit_sec.2
  have hr : OffNvm (t.wr R.SEC_AUDIT_ACKED (word k)) (ackedTo k t) := txSubmit_sec.1
  exact ⟨congrArg (·.audit) (hs.trans (State.wr_sec ..)), (hr _ (by decide)).trans (State.rd_wr_of_ne _ (by decide) _),
    (hr _ (by decide)).trans (State.rd_wr_of_ne _ (by decide) _)⟩

theorem OpenFor.acked (h : OpenFor n e txn y s) (hr : Room 4 s) (hc : covers e y (.auditAck a) s = true) :
    ∃ u, waordRequest e txn (.auditAck a) (s.at n) = u ∧ u.ses.resp = some (e, ⟨txn, 0, [], false⟩) ∧
      (u.rd R.SEC_AUDIT_ACKED).toNat = max (s.rd R.SEC_AUDIT_ACKED).toNat (min a s.sec.exported) % 2 ^ 32 ∧
      u.rd R.SEC_AUDIT_SEQ = word ((s.rd R.SEC_AUDIT_SEQ).toNat + 2) ∧ OffLog [] s u ∧ ∀ a, u.ld a = s.ld a := by
  obtain ⟨t, ht, hcount, hrun⟩ := h.recorded auditAck_judged hr (by decide) hc
  obtain ⟨z, hz, hresp⟩ := hrun runOp_auditAck
  have hval : ackedValue a t = max (s.rd R.SEC_AUDIT_ACKED).toNat (min a s.sec.exported) := by
    have ha : t.rd R.SEC_AUDIT_ACKED = s.rd R.SEC_AUDIT_ACKED := ht.kept _ (by decide)
    have hx : t.sec.exported = s.sec.exported := ht.audited.of (·.sec.exported) fun _ _ _ _ => rfl
    rw [ackedValue, ha, hx]
  rw [← hval]
  generalize ackedValue a t = k at hz
  have htx : Trail (t.wr R.SEC_AUDIT_ACKED (word k)) (ackedTo k t) := txSubmit_trail
  have hack : (ackedTo k t).rd R.SEC_AUDIT_ACKED = word k := (htx.kept _ (by decide)).trans (State.rd_wr_self ..)
  have hoff : OffLog [] s (ackedTo k t) := fun b h0 h1 h2 => (htx.audited.regs b h1 h2).trans
    ((State.rd_wr_of_ne t (fun hb => h1 (by rw [hb]; decide)) _).trans (ht.audited.regs b h1 h2))
  have hmem : ∀ b, (ackedTo k t).ld b = s.ld b := fun b => htx.mem.trans ht.memAt
  have hlog : LogKept t (ackedTo k t) := ackedTo_log
  generalize ackedTo k t = x at hz hack hoff hmem hlog
  have hcx : Counts 1 (s.at n) x := hcount.trans hlog.counts
  have hv : Trail x (auditAdd (sessRole t e) 0 0x0E (sessTid t e) k 0 x) := auditAdd_trail (hcx.room (Room.at hr) (by decide))
  have hcv : Counts 2 (s.at n) (auditAdd (sessRole t e) 0 0x0E (sessTid t e) k 0 x) := hcx.add (Room.at hr) (by decide)
  generalize auditAdd (sessRole t e) 0 0x0E (sessTid t e) k 0 x = v at hz hv hcv
  have hv' : (v.rd R.SEC_AUDIT_ACKED).toNat = k % 2 ^ 32 := by rw [hv.kept _ (by decide), hack, word, BitVec.toNat_ofNat]
  have hoffv : OffLog [] s v := hoff.trail hv
  exact ⟨_, hz, hresp, hv', hcv.shown, hoffv, fun b => hv.mem.trans (hmem b)⟩

/-! ### RCV_CHALLENGE -/

theorem newNonce_eq (h : rngOk s = true) : newNonce a s = (draw s).2.wrWords a (wordsOf (bytesLE 32 (draw s).1)) := by
  rw [newNonce, if_neg (by rw [h]; decide)]

theorem newNonce_only (h : rngOk s = true) : Only ((List.range 8).map fun k => a + 4 * k) [] s (newNonce a s) ∧ (newNonce a s).sec.draws = s.sec.draws + 1 := by
  have hd : Only ((List.range 8).map fun k => a + 4 * k) [] s (draw s).2 := .of_maps rfl rfl rfl rfl rfl rfl
  have hn : (draw s).2.sec.draws = s.sec.draws + 1 := rfl
  have hl := length_wordsOf_nonce (draw s).1
  rw [newNonce_eq h]
  generalize wordsOf (bytesLE 32 (draw s).1) = l at hl ⊢
  exact ⟨hd.trans (hl ▸ wrWords_only), (congrArg (·.draws) wrWords_sec).trans hn⟩

/-- The registers of the recovery challenge. -/
def challengeRegs : List Nat := (List.range 8).map fun k => R.SEC_RCV_CHAL k

theorem newChallenge_only (h : rngOk s = true) : Only challengeRegs [] s (newNonce (R.SEC_RCV_CHAL 0) s) := (newNonce_only h).1.mono (by decide) (by simp)

theorem rcvChallenge_right (m : Nat) : opRight m .rcvChallenge ≠ some 32 := by show codeRight 0x00F0 ≠ some 32; decide

theorem OpenFor.challenged (h : OpenFor n e txn y s) (hc : covers e y .rcvChallenge s = true) (hg : rngOk s = true) :
    ∃ u, waordRequest e txn .rcvChallenge (s.at n) = u ∧ u.ses.resp = some (e, ⟨txn, 0, nonceAt (R.SEC_RCV_CHAL 0) u, false⟩) ∧
      u.sec.draws = s.sec.draws + 1 ∧ Only challengeRegs [] s u := by
  have hrun : runOp e .rcvChallenge (s.at n) = (0, nonceAt (R.SEC_RCV_CHAL 0) (newNonce (R.SEC_RCV_CHAL 0) (s.at n)), newNonce (R.SEC_RCV_CHAL 0) (s.at n)) :=
    if_neg (by rw [show rngOk (s.at n) = true from hg]; decide)
  obtain ⟨z, hz, hresp⟩ := h.free hc rcvChallenge_right rfl (fun h => absurd h (by decide)) rfl hrun
  have ho : Only challengeRegs [] s (newNonce (R.SEC_RCV_CHAL 0) (s.at n)) := (Only.refl _ _ _).at.trans (newChallenge_only (s := s.at n) hg)
  have hd : (newNonce (R.SEC_RCV_CHAL 0) (s.at n)).sec.draws = s.sec.draws + 1 := (newNonce_only (s := s.at n) hg).2
  generalize newNonce (R.SEC_RCV_CHAL 0) (s.at n) = v at hz hresp ho hd
  exact ⟨_, hz, hresp, hd, ho.trans (answered_calm.mono (by simp) (by simp))⟩

theorem OpenFor.unseeded (h : OpenFor n e txn y s) (hc : covers e y .rcvChallenge s = true) (hg : rngOk s = false) :
    ∃ u, waordRequest e txn .rcvChallenge (s.at n) = u ∧ u.ses.resp = some (e, ⟨txn, 3, [], false⟩) ∧ Calm s u := by
  have hrun : runOp e .rcvChallenge (s.at n) = (3, [], s.at n) := if_pos (by rw [show rngOk (s.at n) = false from hg]; decide)
  obtain ⟨z, hz, hresp⟩ := h.free hc rcvChallenge_right rfl (fun h => absurd h (by decide)) rfl hrun
  exact ⟨_, hz, hresp, (Only.refl _ _ _).at.trans answered_calm⟩

/-! ### RCV_EXIT -/

variable {c : Option Claims} {d : Claims} {tok : List Nat}

/-- A token's verification, of result `k`, is counted and recorded, and a new challenge is drawn. -/
def exitShown (e k : Nat) (c : Option Claims) (s : State) : State := newNonce (R.SEC_RCV_CHAL 0) (auditToken 0 k e c (tokResult k s))

theorem rcvExit_refused (h : rngOk s = true) (hv : verifyToken tok .recovery s = (k, c)) (hk : k ≠ 0 ∨ c = none) :
    rcvExit e tok s = (1, [k], exitShown e k c s) := by
  rw [rcvExit, if_pos h, hv]
  cases c with
  | none => cases k <;> rfl
  | some d => cases k with
    | zero => exact absurd hk (by simp)
    | succ k => rfl

/-- What the token's acceptance leaves (R472). -/
def exitAccepted (e : Nat) (d : Claims) (s : State) : State := acceptFloor 0 d none (exitShown e 0 (some d) s)

/-- The stored cause of QUARANTINE goes. -/
def exitGranted (e : Nat) (d : Claims) (s : State) : State :=
  auditAdd 0 0 0x0C d.tid ((exitAccepted e d s).rf R.SEC_STATUS 11 8) 1 (countersTx (.quarantine 0) (exitAccepted e d s))

theorem rcvExit_accepted (h : rngOk s = true) (hv : verifyToken tok .recovery s = (0, some d)) : rcvExit e tok s =
    if d.role = 0 ∧ d.rights.testBit 21 = true then (0, [], exitGranted e d s) else (1, [0], exitAccepted e d s) := by
  rw [rcvExit, if_pos h, hv]
  rfl

theorem auditToken_add : ∃ r ev l x z, ∀ s, auditToken n k e c s = auditAdd r n ev l x z s := by
  by_cases hk : k = 0
  · exact ⟨_, _, _, _, _, fun s => if_pos hk⟩
  · exact ⟨_, _, _, _, _, fun s => if_neg hk⟩

theorem tokResult_only : Only [R.SEC_TOK_STAT] [] s (tokResult k s) :=
  ((((Only.refl _ _ s).wf (by simp)).wf (by simp)).ite (((Only.refl _ _ s).wf (by simp)).wf (by simp)))

theorem tokResult_sec : (tokResult k s).sec = s.sec := by rw [tokResult]; split <;> rfl

theorem tokResult_reason : (tokResult k s).rf R.SEC_TOK_STAT 3 0 = k % 16 := by
  rw [tokResult]
  split <;> exact (State.rf_wf_disjoint (by decide) (by decide) (.inr (by decide))).trans (State.rf_wf_self (by decide) (by decide))

/-- What is left of `s` where a verification of result `k` has been shown. -/
structure ExitShown (k : Nat) (s u : State) : Prop where
  reason : u.rf R.SEC_TOK_STAT 3 0 = k % 16
  quarantine : u.nv.quarantine = s.nv.quarantine
  counts : Counts 1 s u

theorem exitShown_spec (hr : Room 4 s) (hg : rngOk s = true) : ExitShown k s (exitShown e k c s) := by
  have ho : Only [R.SEC_TOK_STAT] [] s (tokResult k s) := tokResult_only
  have hlog : LogKept s (tokResult k s) := .of_only ho tokResult_sec (by decide) (by decide)
  have hreason : (tokResult k s).rf R.SEC_TOK_STAT 3 0 = k % 16 := tokResult_reason
  obtain ⟨r, ev, l, x, z, hadd⟩ := auditToken_add (n := 0) (k := k) (e := e) (c := c)
  rw [exitShown, hadd]
  generalize tokResult k s = t at ho hlog hreason
  have ht : Trail t (auditAdd r 0 ev l x z t) := auditAdd_trail (hlog.counts.room hr (by decide))
  have hc : Counts 1 s (auditAdd r 0 ev l x z t) := hlog.counts.add hr (by decide)
  generalize auditAdd r 0 ev l x z t = v at ht hc
  have hgv : rngOk v = true := (ht.rb (a := R.SEC_STATUS)).trans ((ho.rb (by decide)).trans hg)
  have hn : Only challengeRegs [] v (newNonce (R.SEC_RCV_CHAL 0) v) := newChallenge_only hgv
  have hsec : (newNonce (R.SEC_RCV_CHAL 0) v).sec.audit = v.sec.audit := by
    rw [newNonce_eq hgv]
    exact (congrArg (·.audit) wrWords_sec).trans rfl
  generalize newNonce (R.SEC_RCV_CHAL 0) v = u at hn hsec
  have hq : v.nv.quarantine = t.nv.quarantine := ht.audited.of (·.nv.quarantine) fun _ _ _ _ => rfl
  refine ⟨(hn.rf (by decide)).trans (ht.rf.trans hreason), (congrArg (·.quarantine) hn.nv).trans (hq.trans (congrArg (·.quarantine) ho.nv)), ?_⟩
  exact hc.trans (.of_eq hsec (hn.regs _ (by decide)) (hn.regs _ (by decide)))

theorem Runs.exitAccepted (hd : d.role ≤ 2) : Runs (tokResult 0 s) (exitAccepted e d s) :=
  ((Runs.refl.auditToken).newNonce (.inl (by decide))).acceptFloor hd

theorem Runs.exitGranted (hd : d.role ≤ 2) : Runs (tokResult 0 s) (exitGranted e d s) := (Runs.exitAccepted hd).countersTx.auditAdd

/-- A token that raises no floor leaves room for the record of the exit. -/
theorem exitGranted_counts (hr : Room 4 s) (hg : rngOk s = true) (hf : d.floor = false) : Counts 2 s (exitGranted e d s) := by
  have ha : exitAccepted e d s = exitShown e 0 (some d) s := if_neg (by rw [hf]; decide)
  have hs : Counts 1 s (exitShown e 0 (some d) s) := (exitShown_spec hr hg).counts
  rw [exitGranted, ha]
  generalize exitShown e 0 (some d) s = t at hs
  have hlog : LogKept t (countersTx (.quarantine 0) t) :=
    ⟨congrArg (·.audit) txSubmit_sec.2, txSubmit_sec.1 _ (by decide), txSubmit_sec.1 _ (by decide)⟩
  exact (hs.trans hlog.counts).add hr (by decide)

theorem rcvExit_right (m : Nat) : opRight m (.rcvExit tok) ≠ some 32 := by show codeRight 0x00F1 ≠ some 32; decide

/-- A token that does not stand, or whose claims cannot be read. -/
theorem OpenFor.refused (h : OpenFor n e txn y s) (hr : Room 4 s) (hc : covers e y (.rcvExit tok) s = true) (hg : rngOk s = true)
    (hv : verifyToken tok .recovery (s.at n) = (k, c)) (hk : k ≠ 0 ∨ c = none) :
    ∃ u, waordRequest e txn (.rcvExit tok) (s.at n) = u ∧ u.ses.resp = some (e, ⟨txn, 1, [k], false⟩) ∧ u.rf R.SEC_TOK_STAT 3 0 = k % 16 ∧
      u.nv.quarantine = s.nv.quarantine ∧ u.rd R.SEC_AUDIT_SEQ = word ((s.rd R.SEC_AUDIT_SEQ).toNat + 1) := by
  have hx := exitShown_spec (s := s.at n) (k := k) (e := e) (c := c) (Room.at hr) hg
  have hroom : AuditRoom s := Counts.room (j := 0) (.of_eq rfl rfl rfl) hr (by decide)
  obtain ⟨z, hz, hresp⟩ := h.free hc rcvExit_right rfl (fun _ => hroom) rfl (rcvExit_refused (s := s.at n) (e := e) hg hv hk)
  generalize exitShown e k c (s.at n) = v at hx hz
  exact ⟨_, hz, hresp, hx.reason, hx.quarantine, hx.counts.shown⟩

/-- A token that stands: the reason shown is 0, whatever floor it raises; one of the maker with RECOVERY is granted. -/
theorem OpenFor.accepted (h : OpenFor n e txn y s) (hr : Room 4 s) (hc : covers e y (.rcvExit tok) s = true) (hg : rngOk s = true)
    (hv : verifyToken tok .recovery (s.at n) = (0, some d)) :
    ∃ u, waordRequest e txn (.rcvExit tok) (s.at n) = u ∧ u.rf R.SEC_TOK_STAT 3 0 = 0 ∧
      (d.role = 0 → d.rights.testBit 21 = true → d.floor = false →
        u.ses.resp = some (e, ⟨txn, 0, [], false⟩) ∧ u.rd R.SEC_AUDIT_SEQ = word ((s.rd R.SEC_AUDIT_SEQ).toNat + 2)) := by
  have hd : d.role ≤ 2 := verifyToken_role (by rw [hv])
  have hroom : AuditRoom s := Counts.room (j := 0) (.of_eq rfl rfl rfl) hr (by decide)
  have hrun : runOp e (.rcvExit tok) (s.at n) = _ := rcvExit_accepted (s := s.at n) (e := e) hg hv
  split at hrun
  · have hq : (exitGranted e d (s.at n)).rf R.SEC_TOK_STAT 3 0 = 0 := ((Runs.exitGranted hd).showsNoReason tokResult_zero).rf
    have hn : d.floor = false → Counts 2 (s.at n) (exitGranted e d (s.at n)) := exitGranted_counts (Room.at hr) hg
    obtain ⟨z, hz, hresp⟩ := h.free hc rcvExit_right rfl (fun _ => hroom) rfl hrun
    generalize exitGranted e d (s.at n) = v at hq hn hz
    exact ⟨_, hz, hq, fun _ _ hf => ⟨hresp, (hn hf).shown⟩⟩
  · have hq : (exitAccepted e d (s.at n)).rf R.SEC_TOK_STAT 3 0 = 0 := ((Runs.exitAccepted hd).showsNoReason tokResult_zero).rf
    obtain ⟨z, hz, hresp⟩ := h.free hc rcvExit_right rfl (fun _ => hroom) rfl hrun
    generalize exitAccepted e d (s.at n) = v at hq hz
    exact ⟨_, hz, hq, fun h0 h1 => absurd (And.intro h0 h1) ‹_›⟩

end Sys2Proof.Machine
end

section
/-! PROOFS. The obligation on updates and the audit log (R463 to R465, R488, R491). -/

namespace Sys2Proof.Machine

variable {s t u : State} {e n txn : Nat} {y : SessSt}

/-! ### A refused image -/

theorem setSec_calm {f : SecSt → SecSt} : Calm s (s.setSec f) := .of_maps rfl rfl rfl rfl rfl rfl

theorem updRefused_only {x : Nat} : Only [R.SEC_UPD_STAT, R.IRQ_STAT P.SEC3] [] s (updRefused x s) := by
  have h1 : Only [R.SEC_UPD_STAT, R.IRQ_STAT P.SEC3] [] s (s.irq P.SEC3 0) := (Only.refl _ _ _).irq (by simp)
  have h2 : Only [R.SEC_UPD_STAT, R.IRQ_STAT P.SEC3] [] s ((s.irq P.SEC3 0).setUpd fun u => { u with ver := x }) := h1.trans (setUpd_calm.mono (by simp) (by simp))
  exact (h2.trans (updShow_only.mono (by simp) (by simp))).trans (setSec_calm.mono (by simp) (by simp))

theorem updRefused_shows {x : Nat} : (updRefused x s).rf R.SEC_UPD_STAT 2 0 = 0 ∧ (updRefused x s).rf R.SEC_UPD_STAT 7 4 = 2 ∧
    (updRefused x s).sec.reject = some (s.upd.type, s.upd.copy) := by
  unfold updRefused
  generalize (s.irq P.SEC3 0).setUpd (fun u => { u with ver := x }) = y
  have hst : (updShow 0 2 y).rf R.SEC_UPD_STAT 2 0 = 0 := updShow_state (by decide)
  have hres : (updShow 0 2 y).rf R.SEC_UPD_STAT 7 4 = 2 := updShow_result (by decide)
  generalize updShow 0 2 y = w at hst hres ⊢
  exact ⟨hst, hres, rfl⟩

/-- The rejection of an image is raised, and then recorded. -/
theorem runOp_refused (h1 : updState s = 1) (hc : (imageCheck s.upd.type s.upd.copy s).1 = false) :
    ∃ u, runOp e .updVerify s = (2, [], auditAdd (sessRole s e) 0 8 (sessTid s e) 0x0803 (raise Src.IMAGE_VERIFY_FAIL u).upd.ver (raise Src.IMAGE_VERIFY_FAIL u)) ∧
      u.rf R.SEC_UPD_STAT 2 0 = 0 ∧ u.rf R.SEC_UPD_STAT 7 4 = 2 ∧ u.sec.reject = some (s.upd.type, s.upd.copy) ∧
      Only [R.SEC_UPD_STAT, R.IRQ_STAT P.SEC3] [] s u := by
  have hs := updRefused_shows (s := s) (x := (imageCheck s.upd.type s.upd.copy s).2.2)
  have ho := updRefused_only (s := s) (x := (imageCheck s.upd.type s.upd.copy s).2.2)
  have hv := updVerify_refused h1 hc
  generalize updRefused (imageCheck s.upd.type s.upd.copy s).2.2 s = u at hs ho hv
  refine ⟨u, (updVerify_step.2 s).trans ?_, hs.1, hs.2.1, hs.2.2, ho⟩
  rw [updAnswer, hv, updRecord, if_pos (.inr ⟨rfl, rfl⟩)]

/-! ### Activation and expiry -/

theorem activation_resets {x : Nat × Bool} (ha : s.upd.act = some x) (hp : pwrState s < 2) (h3 : updState s = 3) (ht : x.1 ≤ s.tickNum)
    (hd : lampLit s = false ∨ x.2 = true) : activation s = resetInto s := by
  have hc : updState s = 3 ∧ x.1 ≤ s.tickNum ∧ (!lampLit s || x.2) = true := ⟨h3, ht, by rcases hd with h | h <;> rw [h] <;> simp⟩
  rw [activation, if_neg (Nat.not_le.2 hp), ha]
  exact if_pos hc

theorem activation_waits {x : Nat × Bool} (ha : s.upd.act = some x) (h : updState s ≠ 3 ∨ s.tickNum < x.1 ∨ (¬lampLit s = false ∧ x.2 = false)) :
    activation s = s := by
  have hc : ¬(updState s = 3 ∧ x.1 ≤ s.tickNum ∧ (!lampLit s || x.2) = true) := fun ⟨h3, ht, hd⟩ => by
    rcases h with h | h | ⟨h, h'⟩
    · exact h h3
    · omega
    · rw [h', Bool.or_false, Bool.not_eq_true'] at hd
      exact h hd
  rw [activation, ha]
  split
  · rfl
  · exact if_neg hc

/-- The trial is marked failed, with a transaction that stores it. -/
def trialFailed (s : State) : State :=
  countersTx (.mainSlot s.nv.active (s.nv.trial / 4 * 4 + 3)) (s.setUpd fun u => { u with failed := true })

theorem trialFailed_trail : Trail (s.setUpd fun u => { u with failed := true }) (trialFailed s) := txSubmit_trail

theorem Trail.lampLit (h : Trail s u) : lampLit u = lampLit s := by
  have hd : u.dark = s.dark := congrArg (· == 0) (h.rf (a := R.SYS_MODE))
  have hst : ∀ j : Fin 4, R.STATUS (P.SPLT j) ∉ recordRegs := by decide
  have hl : u.linkUp = s.linkUp := funext fun j => congrArg (· == 6) (h.rf (hst j))
  rw [Machine.lampLit, h.rf (a := R.SYS_MODE), hd, hl, Machine.lampLit]

theorem trialFailed_lit : lampLit (trialFailed s) = lampLit s := trialFailed_trail.lampLit

theorem confirmExpiry_waits {x : Nat} (hx : s.rf R.SEC_UPD_CFG 15 0 * 10 ^ 9 = x) (h : updState s ≠ 4 ∨ s.upd.failed = true ∨ s.now < s.upd.trialAt + x) :
    confirmExpiry s = s := if_pos (hx ▸ h)

theorem confirmExpiry_fails (h4 : updState s = 4) (hf : s.upd.failed = false) (ht : s.upd.trialAt + s.rf R.SEC_UPD_CFG 15 0 * 10 ^ 9 ≤ s.now) :
    confirmExpiry s = if lampLit s then trialFailed s else resetBack (trialFailed s) := by
  have hc : ¬(updState s ≠ 4 ∨ s.upd.failed = true ∨ s.now < s.upd.trialAt + s.rf R.SEC_UPD_CFG 15 0 * 10 ^ 9) := by
    rw [hf]
    rintro (h | h | h)
    · exact h h4
    · exact absurd h (by decide)
    · omega
  have he : confirmExpiry s = if lampLit (trialFailed s) then trialFailed s else resetBack (trialFailed s) := if_neg hc
  rw [he, trialFailed_lit]

/-! ### The obligation -/

/-- Each of the commands is a request of its session, in a group of its own. -/
theorem exec_request {e : Fin 1024} {txn : Word} {type : Fin 256} {len ofs first last seq : Word} {l tok : List Byte} {tick : Option Nat} {force : Bool} :
    ∀ p ∈ [(Instr.updBegin n e txn type len, WaordOp.updBegin type len.toNat), (.updData n e txn ofs l, .updData ofs.toNat (nums l)),
      (.updVerify n e txn, .updVerify), (.updActivate n e txn tick force, .updActivate tick force), (.updConfirm n e txn, .updConfirm),
      (.updAbort n e txn, .updAbort), (.auditRead n e txn first last, .auditRead first.toNat last.toNat), (.auditAck n e txn seq, .auditAck seq.toNat),
      (.rcvChallenge n e txn, .rcvChallenge), (.rcvExit n e txn tok, .rcvExit (nums tok))],
    exec p.1 s = .next (waordRequest e txn.toNat p.2 (s.at n)) ∧ ∀ m, opRight m p.2 ≠ some 32 := by
  simp only [List.mem_cons, List.not_mem_nil, or_false]
  rintro p (rfl | rfl | rfl | rfl | rfl | rfl | rfl | rfl | rfl | rfl) <;> refine ⟨rfl, fun m => ?_⟩
  · exact (updBegin_step (e := e)).1.right m |>.1
  · exact (updData_step (e := e)).1.right m |>.1
  · exact (updVerify_step (e := e)).1.right m |>.1
  · exact (updActivate_step (e := e)).1.right m |>.1
  · exact (updConfirm_step (e := e)).1.right m |>.1
  · exact (updAbort_step (e := e)).1.right m |>.1
  · exact (auditRead_judged.right m).1
  · exact (auditAck_judged.right m).1
  · exact rcvChallenge_right m
  · exact rcvExit_right m

/-- Settles O54: a request that is judged and recorded leaves the update and its image as they were, each step acts by its own equation, and what accepting a
token raises never shows another reason than the token's. -/
theorem updatesAndAuditFollowTheirStates : Obligations.UpdatesAndAuditFollowTheirStates := by
  intro t e txn s st dark next room others answers fresh busy
  refine ⟨fun type len ofs first last seq l tok tick force p hp => ?_, fun y hs hg h2 hk hf hroom => ?_, runOp_refused, fun x hx hp => ⟨?_, ?_⟩, ?_, ?_, ?_⟩
  · obtain ⟨hex, hright⟩ := exec_request p hp
    refine ⟨fun hn => ?_, fun y hs hg h2 hk hf hc => ?_⟩
    · exact ⟨s.at t, hex.trans (next_congr (waordRequest_none hn)), rfl, (Only.refl _ _ _).at⟩
    · obtain ⟨z, hz, hresp⟩ := OpenFor.denied (n := t) ⟨hs, hg, h2, hk, hf⟩ (hright _) hc
      exact ⟨_, hex.trans (next_congr hz), hresp, (Only.refl _ _ _).at.trans answered_calm⟩
  · have h : OpenFor t e txn.toNat y s := ⟨hs, hg, h2, hk, hf⟩
    have hr : Room 4 s := hroom
    intro may
    refine ⟨fun type len hc => ⟨fun h0 => ?_, fun h0 hty hl hp => ?_⟩, fun ofs l hc => ⟨fun h1 => ?_, fun h1 hl => ?_, fun h1 hty hl => ?_⟩,
      fun hc => ⟨fun h1 => ?_, fun h1 _ hcp => ?_⟩, fun tick force hc => ⟨fun h2 => ?_, fun h2 => ?_⟩, fun hc => ⟨fun h4 => ?_, fun h4 hfl hre hlv => ?_⟩,
      fun hc => ⟨fun h1 h2 => ?_, fun h12 hty => ?_⟩, fun first last hc hi => ?_, fun seq hc => ?_, fun hc => ⟨fun hg => ?_, fun hg => ?_⟩, fun tok hc hg => ?_⟩
    · obtain ⟨u, hu, hb⟩ := h.busy updBegin_step hr hc fun t ht => updBegin_busy (by rw [ht.state]; exact h0)
      exact ⟨u, next_congr hu, hb⟩
    · rw [hty] at hc
      obtain ⟨u, hu, hb⟩ := h.begun hr hc h0 hl rfl hp
      exact ⟨u, next_congr (by rw [hty]; exact hu), hb⟩
    · obtain ⟨u, hu, hb⟩ := h.busy updData_step hr hc fun t ht => updData_busy (by rw [ht.state]; exact h1)
      exact ⟨u, next_congr hu, hb⟩
    · obtain ⟨u, hu, hans, hupd, hoff, hmem⟩ := h.bad updData_step (by decide) hr hc fun t ht =>
        updData_bad (ht.state.trans h1) (by rw [ht.updAt]; simpa [nums] using hl)
      exact ⟨u, next_congr hu, hans, hupd, hoff, hmem⟩
    · obtain ⟨u, hu, hb⟩ := h.taken hr hc h1 hty hl rfl
      exact ⟨u, next_congr hu, hb⟩
    · obtain ⟨u, hu, hb⟩ := h.busy updVerify_step hr hc fun t ht => updVerify_busy (by rw [ht.state]; exact h1)
      exact ⟨u, next_congr hu, hb⟩
    · obtain ⟨u, hu, hb⟩ := h.verified hr hc h1 hcp rfl
      exact ⟨u, next_congr hu, hb⟩
    · obtain ⟨u, hu, hb⟩ := h.busy updActivate_step hr hc fun t ht => updActivate_busy (by rw [ht.state]; exact h2)
      exact ⟨u, next_congr hu, hb⟩
    · obtain ⟨u, hu, hb⟩ := h.armed hr hc h2
      exact ⟨u, next_congr hu, hb⟩
    · obtain ⟨u, hu, hb⟩ := h.busy updConfirm_step hr hc fun t ht => updConfirm_busy (by rw [ht.state, ht.updAt, ht.reached]; exact h4)
      exact ⟨u, next_congr hu, hb⟩
    · obtain ⟨u, hu, hb⟩ := h.confirmed hr hc h4 hfl hre hlv
      exact ⟨u, next_congr hu, hb⟩
    · obtain ⟨u, hu, hb⟩ := h.busy updAbort_step hr hc fun t ht => updAbort_busy (by rw [ht.state]; exact h1) (by rw [ht.state]; exact h2)
      exact ⟨u, next_congr hu, hb⟩
    · obtain ⟨u, hu, hb⟩ := h.dropped hr hc h12 hty rfl
      exact ⟨u, next_congr hu, hb⟩
    · obtain ⟨u, hu, hb⟩ := h.exported hr hc hi
      exact ⟨u, next_congr hu, hb⟩
    · obtain ⟨u, hu, hb⟩ := h.acked hr hc
      exact ⟨u, next_congr hu, hb⟩
    · obtain ⟨u, hu, hb⟩ := h.challenged hc hg
      exact ⟨u, next_congr hu, hb⟩
    · obtain ⟨u, hu, hb⟩ := h.unseeded hc hg
      exact ⟨u, next_congr hu, hb⟩
    · generalize hv : verifyToken (nums tok) .recovery (s.at t) = v
      obtain ⟨k, c⟩ := v
      dsimp only
      have href : k ≠ 0 ∨ c = none → ∃ u, exec (.rcvExit t e txn tok) s = .next u ∧ answers 1 [k] u ∧ u.rf R.SEC_TOK_STAT 3 0 = k % 16 ∧
          u.nv.quarantine = s.nv.quarantine ∧ u.rd R.SEC_AUDIT_SEQ = word (next + 1) := fun hk => by
        obtain ⟨u, hu, hb⟩ := h.refused hr hc hg hv hk
        exact ⟨u, next_congr hu, hb⟩
      by_cases hk : k = 0
      · subst hk
        cases c with
        | some d =>
          obtain ⟨u, hu, hreason, hok⟩ := h.accepted hr hc hg hv
          refine ⟨u, next_congr hu, hreason, fun hk => absurd rfl hk, fun c hcl => ?_⟩
          cases hcl
          exact hok
        | none =>
          obtain ⟨u, hu, -, hreason, -⟩ := href (.inr rfl)
          exact ⟨u, hu, hreason, fun hk => absurd rfl hk, fun c hcl => nomatch hcl⟩
      · obtain ⟨u, hu, hans, hreason, hq, hseq⟩ := href (.inl hk)
        exact ⟨u, hu, hreason, fun _ => ⟨hans, hq, hseq⟩, fun c hcl => absurd (congrArg Prod.fst hcl) hk⟩
  · intro h3 ht hd
    exact next_congr (activation_resets (s := s.at t) hx hp h3 ht hd)
  · exact fun hw => ⟨s.at t, next_congr (activation_waits (s := s.at t) hx hw), rfl, (Only.refl _ _ _).at⟩
  · exact fun hw => ⟨s.at t, next_congr (confirmExpiry_waits (s := s.at t) rfl hw), rfl, (Only.refl _ _ _).at⟩
  · intro h4 hf ht hd
    have hx := confirmExpiry_fails (s := s.at t) h4 hf ht
    rw [if_pos (Bool.not_eq_false _ ▸ hd)] at hx
    have hoff : OffNvm ((s.at t).setUpd fun u => { u with failed := true }) (trialFailed (s.at t)) := txSubmit_sec.1
    have hfail : (trialFailed (s.at t)).upd.failed = true := (congrArg (·.failed) trialFailed_trail.upd).trans rfl
    generalize trialFailed (s.at t) = u at hx hoff hfail
    exact ⟨u, next_congr hx, hfail, hoff⟩
  · intro h4 hf ht hd
    have hx := confirmExpiry_fails (s := s.at t) h4 hf ht
    rw [if_neg (by rw [show lampLit (s.at t) = false from hd]; decide)] at hx
    have hfail : (trialFailed (s.at t)).upd.failed = true := (congrArg (·.failed) trialFailed_trail.upd).trans rfl
    have hn : (trialFailed (s.at t)).nv.trial = s.nv.trial := trialFailed_trail.audited.of (·.nv.trial) fun _ _ _ _ => rfl
    generalize trialFailed (s.at t) = u at hx hfail hn
    exact ⟨u.setNv fun n => { n with trial := n.trial / 4 * 4 + 3 }, next_congr hx, hfail, congrArg (fun x => x / 4 * 4 + 3) hn⟩

end Sys2Proof.Machine
end

end
